-- ==== Sys2Proof/Word.lean ====
section
/-!
DEFINITION. The word types of the package: a register is 32 bits wide (R6), memory and wire
data are bytes.
-/

namespace Sys2Proof

/-- A 32-bit register, or the bits of an FP32 value. -/
abbrev Word := BitVec 32
/-- One byte of memory or of a frame. -/
abbrev Byte := BitVec 8
/-- A byte string, lowest address (or first on the wire) first. -/
abbrev Bytes := List (BitVec 8)
/-- The bits of an FP32 value (Table 02-3). -/
abbrev F32 := BitVec 32

end Sys2Proof
end

