-- ==== Sys2Proof/Syntax.lean ====
section
/-!
DEFINITION. The commands of the block: one constructor of `Instr` per row of
spec/opcode_table.json, and the records that travel in their operands. A ring's descriptor is
named by its ring alone: the command acts on the first descriptor of that ring that has been
fetched and has not started (R336). Host data that a descriptor reads is an operand, `none`
where the host read failed (R324).
-/

namespace Sys2Proof

/-- A CAN frame as it stands on the bus (R281, Table 12-3). -/
structure CanFrame where
  id : Nat
  ide : Bool
  fdf : Bool
  brs : Bool
  esi : Bool
  rtr : Bool
  dlc : Nat
  data : Bytes
  deriving DecidableEq, Repr

/-- The kinds of protocol error a controller detects (R293, Table 12-5). -/
inductive CanErr where
  | bit | stuff | form | ack | crc | pex
  deriving DecidableEq, Repr

/-- What a controller was doing when it detected an error (ISO 11898-1 fault confinement). -/
inductive CanRole where
  /-- Sending, ordinary case: transmit counter + 8. -/
  | transmitter
  /-- Sending an error flag or overload flag: transmit counter + 8. -/
  | transmitterFlag
  /-- An error-passive sender missing only an acknowledgement: counters stand. -/
  | transmitterPassiveAck
  /-- The eighth dominant bit in a row after the sender's own error flag, and every eighth on: transmit counter + 8
  (ISO 11898-1, PRESUMED). That is no error of a kind of its own. -/
  | transmitterAfterFlag
  /-- Receiving, ordinary case: receive counter + 1. -/
  | receiver
  /-- A bit error in the receiver's own error flag or overload flag: receive counter + 8. -/
  | receiverFlag
  /-- A dominant bit first after the receiver's own error flag, and every eighth on: receive counter + 8 (ISO 11898-1,
  PRESUMED). That is no error of a kind of its own. -/
  | receiverAfterFlag
  deriving DecidableEq, Repr

/-- The priority vector of an Announce message, in the order that best master selection
compares it: priority1, clockClass, clockAccuracy, offsetScaledLogVariance, priority2,
grandmaster identity, stepsRemoved, source port identity (R242). -/
structure AnnounceVec where
  key : List Nat
  gm : Nat
  /-- The PTP timescale; false for ARB (Table 10-1). -/
  ptp : Bool
  deriving DecidableEq, Repr

/-- What a domain's servo makes of one Sync: the domain clock minus working time in ns, and its frequency
correction of the system reference in parts per 10^9 (R243). The servo law is not in the spec. -/
structure ServoResult where
  clockOff : Int
  freq : Int
  deriving DecidableEq, Repr

/-- What a Sync brings (R242, R246): the receive stamp, the origin time with the correction field, in ns, the logarithm
of the message interval, and what the servo makes of it. -/
structure SyncBody where
  rx : Nat
  origin : Int
  logInt : Int
  servo : ServoResult
  deriving DecidableEq, Repr

/-- What a Follow_Up brings (R242): the precise origin time with the correction field, in ns, and what the servo makes
of it. -/
structure FollowUpBody where
  origin : Int
  servo : ServoResult
  deriving DecidableEq, Repr

/-- What an Announce brings (R242): the logarithm of the message interval and the priority vector. -/
structure AnnounceBody where
  logInt : Int
  vec : AnnounceVec
  deriving DecidableEq, Repr

/-- How a CAN attempt failed (R283, R286): by lost arbitration or in an error, and the delay that a frame with bit rate
switching measured. -/
structure AttemptEnd where
  lostArb : Bool
  tdc : Option Nat
  deriving DecidableEq, Repr

/-- The outcome of one boot step instance (Table 16-2); an instance not listed passes. -/
structure StepResult where
  step : Nat
  unit : Nat
  ok : Bool
  detail : Nat
  micros : Nat
  deriving DecidableEq, Repr

/-- What an array self-test finds (R56): failed physical columns, the sum and spare columns
being 64 and 65, and whether a unit outside the array failed. -/
structure SelfTest where
  die : Nat
  core : Nat
  cols : List Nat
  unitFail : Bool
  deriving DecidableEq, Repr

/-- A read of one regulator's STATUS_WORD (R380, R421): regulator address; none where the
command failed. -/
structure PmbStatus where
  addr : Nat
  word : Option Nat
  deriving DecidableEq, Repr

/-- Operand formats (Tables 02-2, 02-3); `u8` and `u4` are the unsigned integers. -/
inductive NumFmt where
  | i8 | u8 | i4 | u4 | bs4 | e4m3 | e5m2 | bf16 | fp16 | fp32
  deriving DecidableEq, Repr

/-- What an attention operator declares (Table 04-1). -/
structure AttnDecl where
  dim : Nat
  qfmt : NumFmt
  kfmt : NumFmt
  /-- Query heads per KV-head group. -/
  group : Nat
  /-- KV-head groups of the layer: the chains it keeps for each sequence. -/
  chains : Nat
  /-- Heads of its distance-bias table. -/
  biasHeads : Nat
  block : Nat
  deriving DecidableEq, Repr

/-- The collective that follows an operator (R208): its tensor, whether its elements are int48 sums, whether the packages
contribute chunk partials or a value each, and the rank that a broadcast comes from. -/
structure CollDecl where
  tensor : Nat
  int : Bool
  tree : Bool
  root : Nat
  deriving DecidableEq, Repr

/-- What a package declares of one operator beside its manifest record (R139), in the operator's
order. -/
structure OpDecl where
  /-- Streamed and stationary format, for an operator of the array. -/
  pair : Option (NumFmt × NumFmt)
  /-- Declared reduction length K. -/
  k : Nat
  /-- Static scales (R65). -/
  scales : List F32
  za : Int
  zw : List Int
  attn : Option AttnDecl
  /-- Its distance-bias tables, FP16 entries: head `h`, bucket `b` at index h·512 + b (R84). -/
  bias : List (List Nat)
  /-- Its tile programs. -/
  prog : Bytes
  /-- Tile headers of 64 bytes (R107). -/
  tiles : List Bytes
  /-- Operators whose outputs it consumes. -/
  inputs : List Nat
  coll : CollDecl
  deriving DecidableEq, Repr

/-- A tensor record, whose layout is Skewin pack's (R139). -/
structure TensorDecl where
  size : Nat
  /-- Format code, copied into statistics records (Table 03-3). -/
  code : Nat
  fmt : NumFmt
  shape : List Nat
  /-- Weight contents. -/
  weights : Option Bytes
  /-- It has a statistics record (R75). -/
  output : Bool
  /-- Job-wide tiles that consume it. -/
  uses : List Nat
  deriving DecidableEq, Repr

/-- A Ciboica package as the device reads it from host memory. -/
structure Package where
  raw : Bytes
  /-- Manifest header, operator records and semaphore records (Tables 06-3 to 06-5). -/
  manifest : Bytes
  ops : List OpDecl
  tensors : List TensorDecl
  deriving DecidableEq, Repr

/-- What the planning exchange tells the lead of an admitted class S job that it did not plan itself (R158, R159). -/
structure PeerJob where
  prio : Nat
  /-- Its effective rank, deadline and ring (R160). -/
  rank : Nat
  deadline : Nat
  ring : Nat
  /-- X and W of its bound, ns. -/
  x : Nat
  w : Nat
  /-- What is left between its bound and its deadline, ns. -/
  slack : Nat
  /-- Ceiling and planned hold in ns of each semaphore it binds. -/
  holds : List (Nat × Nat)
  deriving DecidableEq, Repr

/-- What the planning exchange tells the lead of one other package of a spanning job. -/
structure Peer where
  pkg : Nat
  /-- Its dies that may hold chains of the job (R93, R148). -/
  dies : List Nat
  jobs : List PeerJob
  det : Bool
  reachable : Bool
  retained : Bool
  /-- Cycles of its share, level by level. -/
  levels : List Nat
  /-- Staging time of its share, ns. -/
  stage : Nat
  /-- Status code of its placement. -/
  verdict : Nat
  deriving DecidableEq, Repr

/-- Two-operand vector operations (R51). -/
inductive VecFn where
  | add | sub | mul | min | max
  deriving DecidableEq, Repr

/-- One-operand vector and transcendental operations (R51, R53). -/
inductive VecFn1 where
  | abs | neg | exp2 | log2 | recip | rsqrt
  deriving DecidableEq, Repr

/-- Compare predicates (R51). -/
inductive VecPred where
  | eq | ne | lt | le | gt | ge
  deriving DecidableEq, Repr

/-- Operations of the int32 lanes (R51). -/
inductive IntFn where
  | add | sub | addSat | subSat | min | max | shl | shr | sar | and | or | xor
  deriving DecidableEq, Repr

/-- Lane reductions (R52). -/
inductive LaneFn where
  | sum | max | min
  deriving DecidableEq, Repr

/-- Lane formats of the vector unit (R51). -/
inductive LaneTy where
  | fp32 | bf16 | i32
  deriving DecidableEq, Repr

/-- A partial value in a core's scratchpad, with its node's place in the tree (R49). -/
structure PartAt where
  level : Nat
  pos : Nat
  addr : Nat
  deriving DecidableEq, Repr

/-- One quantiser pass over an m × n block of accumulators (R63 to R72). Addresses are
core-local. -/
structure QuantOp where
  /-- Output tensor. -/
  tensor : Nat
  /-- Accumulators: int48 in 8-byte containers in integer modes, FP32 otherwise. -/
  acc : Nat
  m : Nat
  n : Nat
  /-- Output channel of the block's first column. -/
  col : Nat
  sa : Nat
  saRow : Bool
  sw : Nat
  swCol : Bool
  bias : Option Nat
  invOut : F32
  zOut : Int
  fmt : NumFmt
  /-- Weight sums, and the activation sums that the main path takes too (Table 03-2). -/
  wsum : Nat
  ssum : Nat
  dst : Nat
  deriving DecidableEq, Repr

/-- One query row of one head (R82 to R88). -/
structure AttnOp where
  slot : Nat
  /-- Chain of the sequence, in the job's order of layers and groups. -/
  chain : Nat
  qpos : Nat
  qfmt : NumFmt
  q : Nat
  dim : Nat
  /-- Heads of the group, and this head among them. -/
  group : Nat
  g : Nat
  c : F32
  /-- The head, by its number in the operator's distance-bias tables. -/
  head : Nat
  dst : Nat
  deriving DecidableEq, Repr

/-- What a tile's program does with its scratchpad, operation by operation. The program encoding is
Skewin pack's, so the operations themselves are the operand. Addresses are core-local. -/
inductive TileOp where
  /-- Chunk sums (R42 to R47) of m rows × n columns over k elements from `a` (rows) and `w`
  (columns, with block exponents at `e` and block weight sums at `wb` for BS4); one partial per
  chunk. -/
  | chunks (sf wf : NumFmt) (a w e wb : Nat) (m n k dst : Nat)
  /-- reduce_chunks (R48) over `n` partials for each of `count` elements. -/
  | reduce (int : Bool) (src n count dst : Nat)
  /-- One node of the tree over `n` chunks (R49) for each of `count` elements. -/
  | node (int : Bool) (n : Nat) (x y : PartAt) (count dst : Nat)
  /-- The sum column (R50): activation sums of m rows over k elements, streamed against weights of `wf`; one for each
  chunk, or each block for BS4. -/
  | rowSums (sf wf : NumFmt) (a m k dst : Nat)
  | quant (q : QuantOp)
  | vec (fn : VecFn) (bf : Bool) (x y n dst : Nat)
  | fma (bf : Bool) (x y z n dst : Nat)
  | vec1 (fn : VecFn1) (bf : Bool) (x n dst : Nat)
  | cmp (p : VecPred) (bf : Bool) (x y n dst : Nat)
  | ivec (fn : IntFn) (x y n dst : Nat)
  | icmp (p : VecPred) (x y n dst : Nat)
  /-- Conversion between formats (R54). -/
  | conv (src dst' : NumFmt) (x n dst : Nat)
  /-- A reduction across lanes (R52). -/
  | lanes (fn : LaneFn) (ty : LaneTy) (x n dst : Nat)
  | attn (a : AttnOp)
  /-- Writes one token's keys and values into its page (R92). -/
  | kvWrite (slot chain pos : Nat) (k v len : Nat) (ks vs : Nat)
  deriving DecidableEq, Repr

/-- One DMA transfer (R110). -/
inductive Xfer where
  /-- Between die-local addresses of the core's own die. -/
  | copy (src dst len : Nat)
  /-- Into a berth of die `die` of package `pkg`. -/
  | berth (src pkg die berth gen off len : Nat)
  deriving DecidableEq, Repr

/-- Where a matrix core's check failed (Table 02-8). -/
inductive CoreCheck where
  | weight | acc | vector
  deriving DecidableEq, Repr

/-- 64-bit words that the reads of a tile met with a single-bit error, by memory: DRAM, die pool, and the core's own
scratchpad and instruction memory (R114). -/
structure EccFixes where
  dram : Nat
  pool : Nat
  core : Nat
  deriving DecidableEq, Repr

/-- What a tile did by its end: its program's operations in order, and the errors its reads corrected. -/
structure TileWork where
  ops : List TileOp
  fixes : EccFixes
  deriving DecidableEq, Repr

/-- A page-table walk of a core that failed (R95): where a word could not be corrected, that word's address in the die
pool or DRAM (Table 05-5). -/
structure FailedWalk where
  core : Nat
  word : Option Nat
  deriving DecidableEq, Repr

/-- A packet of a message as it arrives on a link (R195 to R201). A message whose list of packets is empty comes from this
package itself. -/
structure RxPkt where
  link : Nat
  lseq : Nat
  /-- Its payload in bytes. -/
  len : Nat
  /-- Symbol errors of each codeword received since the packet before it. -/
  errs : List Nat
  /-- A packet for another package: its number, and header and payload as received. -/
  onward : Option (Nat × Bytes)
  deriving DecidableEq, Repr

/-- A message, or the part of it that says where it goes, with the packets it arrives in. -/
structure Via (α : Type) where
  rx : List RxPkt
  msg : α
  deriving DecidableEq, Repr

/-- Whose written data is acknowledged: the DMA channels of a die, or the collective engine for a job, named by the lead's
handle (R127, R211). -/
inductive AckAt where
  | chan (die : Nat)
  | coll (job : Nat)
  deriving DecidableEq, Repr

/-- A grant (R126): the credit manager of a berth grants the head of its queue, or a grant reaches
a DMA channel of this package from another one. -/
inductive GrantAt where
  | manager (die berth : Nat)
  | sender (rx : List RxPkt) (die core chan : Nat)
  deriving DecidableEq, Repr

/-- What a collective moves (R208, R209): a tree partial, one value of a rank, or what rank `r` gives to a holder of the
result: the combined tensor, a segment of it, or the root's tensor. -/
inductive CollPart where
  | tree (level pos : Nat)
  | rank (r : Nat)
  | result (r : Nat)
  deriving DecidableEq, Repr

/-- What a collective's completion event says (R211, R212): the job by the lead's handle, the operator, and the rank whose
bytes are here; or that the collective is aborted. -/
structure CollSignal where
  job : Nat
  op : Nat
  rank : Nat
  abort : Bool
  deriving DecidableEq, Repr

/-- The lead's plan for another package of a spanning job (R148). -/
structure SharePlan where
  /-- The lead's handle, and the ring that submitted the job (R261). -/
  job : Nat
  ring : Nat
  /-- The retained package. -/
  digest : Bytes
  step : Bool
  /-- Parameter block and lengths table. -/
  param : Bytes
  lengths : Bytes
  span : List Nat
  release : Nat
  deadline : Nat
  tick : Nat
  /-- Every chain with the rank of its package and its die. -/
  chains : List (Nat × Nat × Nat)
  /-- X and W of the whole job, and what its other packages add to its interference and blocking, ns (R158). -/
  x : Nat
  w : Nat
  far : Nat
  farBlock : Nat
  deriving DecidableEq, Repr

/-- Messages of the lead package and towards it (R214). -/
inductive LeadMsg where
  /-- The lead plans its job on this package too. -/
  | plan (p : SharePlan)
  /-- Package `pkg` has done its share: its quantiser counts by output tensor, as elements, clipped, NaN, squared error,
  whether that saturated, and squares (R75). -/
  | done (job pkg : Nat) (counts : List (Nat × List Nat))
  /-- Ends the job with this key here, with a status code (R169, R212). -/
  | endJob (job status : Nat)
  /-- Package `pkg` reports to the settle of a step the slots of the joins it turned away (stage 1), or those it
  suspended (stage 2); a member has the lead's reports in the same form (R99). -/
  | settle (job pkg stage : Nat) (slots : List Nat)
  deriving DecidableEq, Repr

/-- A received stream datagram (R220): UDP payload and what the port found. -/
structure Packet where
  payload : Bytes
  fragment : Bool
  /-- The UDP checksum is nonzero and wrong. -/
  badSum : Bool
  deriving DecidableEq, Repr

/-- What the peer sends in a link's identity exchange (R197). -/
structure LinkPeer where
  pkg : Nat
  link : Nat
  /-- Its LNK_TOPO_CFG fields KIND, X, Y, Z. -/
  topo : List Nat
  lead : Nat
  deriving DecidableEq, Repr

/-- A link's training as its steps passed (R194, R197). -/
structure Training where
  /-- Durations of the four steps in ns. -/
  steps : List Nat
  /-- The peer lane that each lane receives and its polarity, none where it does not work. -/
  lanes : List (Option (Nat × Bool))
  peer : LinkPeer
  deriving DecidableEq, Repr

/-- A link whose identity exchange has run again, and what its peer said (R202). -/
structure Retrained where
  link : Nat
  peer : LinkPeer
  deriving DecidableEq, Repr

/-- The commands. -/
inductive Instr where
  -- the tick and the control engine
  | tickEdge (busy : Nat)
  | controlComputation
  | comparisonDeadline
  | checkerComparison (a : Nat) (u : F32)
  | profileWatchdogExpiry
  | loopWatchdogExpiry
  | outputWatchdogExpiry (a : Nat)
  | kernelKick (value after : Nat)
  | kernelWatchdogExpiry
  -- site time
  | activeDomainEvaluation
  | primaryReturn
  | holdoverExpiry
  /-- `rx`: the MAC's receive stamp; `origin`: origin time and correction in ns, of a two-step Sync the correction
  alone; `logInt`: the message interval, 2^logInt s. -/
  | sync (p dnum gm seqId : Nat) (twoStep : Bool) (body : SyncBody)
  | followUp (p dnum seqId : Nat) (body : FollowUpBody)
  | announce (p dnum : Nat) (body : AnnounceBody)
  | syncReceiptTimeout (d : Nat)
  | announceReceiptTimeout (d p : Nat)
  | pdelayReq (p seqId rx tx : Nat)
  | pdelayResp (p seqId t2 rx : Nat)
  | pdelayRespFollowUp (p seqId t3 : Nat)
  | pdelayReqTransmit (p tx : Nat)
  -- Ethernet
  | ethTx (r : Nat) (frame : Option Bytes)
  | timedFrameLaunch (p : Nat)
  | ethTxDone (p q : Nat)
  | ethFrameReceived (p stamp uncert : Nat) (frame : Bytes)
  | ethPortLinkDown (p : Nat)
  | ethPortLinkUp (p : Nat)
  -- CAN
  | canTx (r : Nat) (rec : Option Bytes)
  | canFrameEligible (c : Nat)
  | canTxComplete (c b stamp uncert tdc : Nat)
  | canAttemptFailed (c b : Nat) (fin : AttemptEnd)
  | canFrameReceived (c : Nat) (f : CanFrame)
  | canFifoDrain (c : Nat) (stamps : List (Nat × Nat))
  | canProtocolError (c : Nat) (kind : CanErr) (dataPhase : Bool) (role : CanRole)
  | canIntegrationDone (c : Nat)
  | busOffRecoveryDone (c : Nat)
  | recover (c : Nat)
  -- functional safety
  | safetyInputChange (idx chan : Nat) (level : Bool) (stamp uncert : Nat)
  | inputDiscrepancy (idx : Nat)
  | ssoReadbackFault (g chan : Nat)
  | ssoTestPulse (g chan : Nat)
  | testPulseEnd (g chan : Nat)
  | ingestWatchdogExpiry (st : Nat)
  | preprocessWatchdogExpiry (st : Nat)
  | perceptionWatchdogMiss
  | segmentWatchdogExpiry (a : Nat)
  | safetyReset (r : Nat)
  | goldenLoad (r : Nat) (list roi : Option Bytes)
  -- the host interface
  | sqTail (r v : Nat)
  | cqHead (r v : Nat)
  | ringEnable (r : Nat) (val : Word)
  | ringDisable (r : Nat) (val : Word)
  | descriptorFetch (r : Nat) (desc : Option Bytes)
  | msixSignal (v : Nat)
  | pcieLinkDown
  | pcieLinkUp (gen width : Nat)
  | hotReset
  | functionLevelReset
  | nop (r : Nat)
  | ringRole (r : Nat)
  | rxPost (r : Nat)
  | rxPostTimeout (r : Nat)
  -- registers and transactions
  | cfgBegin (r : Nat)
  | cfgCommit (r : Nat)
  | cfgRollback (r : Nat)
  | cfgCommitEdge (busy : Nat)
  | cfgTimeout
  | registerWrite (addr width : Nat) (val : Word)
  | w1cClear (addr : Nat) (val set : Word)
  | wideLowWordRead (addr : Nat)
  | peekAddrWrite (val : Word)
  | traceConfigWrite (addr : Nat) (val : Word)
  | drvVersionWrite (v : Nat)
  | dumpPageSelect (v : Nat)
  | clearMarks
  | start
  | stop
  | clear
  | snap
  -- axis commands
  | enable (r : Nat)
  | disable (r : Nat)
  | release (r : Nat)
  | clearFault (r : Nat)
  | safeStopReset (r : Nat)
  | segment (r : Nat)
  | jobSegmentArrival (job : Nat) (rec : Bytes)
  | axisTable (r : Nat) (tab : Option Bytes)
  | traceRead (r : Nat)
  | logPost (r : Nat) (data : Option Bytes)
  | tallyRead (r : Nat)
  -- sensor ingest
  | sensorPacket (st stamp uncert : Nat) (pkt : Packet)
  | sampleTimeout (st : Nat)
  | sampleProcessStart
  | tensorComplete (st : Nat)
  | decodeError (st : Nat)
  | hostDecodeTimeout (st num : Nat)
  | offloadPost (r : Nat)
  | decoded (r : Nat) (planes : Option Bytes)
  -- jobs, tiles and the compute dies
  | pkgRetain (r : Nat) (pkg : Option Package)
  | pkgRelease (r : Nat)
  | submit (r : Nat) (pkg : Option Package) (param : Option Bytes) (inputs : List (Option Bytes)) (peers : List Peer)
  | stepCmd (r : Nat) (param lengths : Option Bytes) (inputs : List (Option Bytes)) (peers : List Peer)
  | jobRelease (r : Nat)
  | cyclicLoad (r : Nat) (table : Option Bytes)
  | scrub (r : Nat)
  | scrubDone (r corrected : Nat) (uncorrectable : List Nat)
  | classCActivationComplete (job : Nat)
  | classCSlotEnd (job : Nat)
  | classSRelease (job : Nat)
  | weightStagingComplete (job : Nat)
  | classSDeadline (job : Nat)
  | classSJobComplete (job : Nat)
  | tileDispatch (die core : Nat)
  | tileEnd (die core : Nat) (work : TileWork)
  | stepSettleRound (job : Nat)
  | regionZeroed (die base : Nat)
  | dmaTransferIssue (die core chan : Nat) (x : Xfer)
  | dmaUncorrectable (die core chan word : Nat)
  | coreFault (die core : Nat) (kind : CoreCheck)
  | bankConflict (die core addr cls : Nat)
  | eccUncorrectable (die core addr : Nat)
  | kvWalkFault (die : Nat) (walk : FailedWalk)
  | selftestDone (t : SelfTest)
  | lossDiesReleased
  -- berths
  | creditReq (die : Via Nat) (berth gen srcPkg srcDie chan off len : Nat)
  | creditGrant (g : GrantAt)
  | creditRefuse (die : Via Nat) (core chan status : Nat)
  | creditRelease (die : Via Nat) (berth srcPkg srcDie chan : Nat)
  | write (die : Via Nat) (berth gen srcPkg srcDie chan off : Nat) (data : Bytes)
  /-- For a channel its core and number; for a collective the operator and the rank. -/
  | writeAck (ack : Via AckAt) (a b : Nat)
  | writeNak (die : Via Nat) (core chan status : Nat)
  | berthCloseExpiry (die berth : Nat)
  -- the fabric
  | linkTrainingRetry (k : Nat)
  | linkTrained (k : Nat) (t : Training)
  /-- Durations of the steps that passed. -/
  | linkTrainingOverrun (k : Nat) (steps : List Nat)
  /-- The codewords received since the packet before the failing one: the symbols corrected in each that could be
  corrected, and how many could not. Nothing rests on the LSEQ that the packet shows: the negative acknowledgement names
  the next in order (R201). -/
  | linkCrcFailure (k lseq : Nat) (corrected : List Nat) (codewords : Nat)
  | linkNak (k lseq : Nat)
  | linkAck (k lseq : Nat)
  | flowCreditReturn (k vc units : Nat)
  | ackTimeout (k : Nat)
  | retrain (k : Nat)
  | retrainingDone (r : Retrained)
  | retrainTimeout (k : Nat)
  | linkPeerLost (k : Nat)
  /-- The collective of operator `op` of a job, named by the lead's handle. -/
  | collPartial (job : Via Nat) (op : Nat) (part : CollPart) (data : Bytes)
  | collEvent (e : Via CollSignal)
  | leadMsg (m : Via LeadMsg)
  | heartbeat (src : Via Nat) (lead : Nat)
  | leadHeartbeatTimeout
  | memberHeartbeatTimeout (pkg : Nat)
  | tallyCounterSaturation (die c : Nat)
  -- the harbourmaster
  | status
  | logRead (req : Option Bytes)
  | identity
  | attest (req : Option Bytes)
  | setState (req : Option Bytes)
  | packageReset
  | captureArm (req : Option Bytes)
  | captureRelease
  | updateBegin (req : Option Bytes)
  | updateWrite (req : Option Bytes)
  | updateVerify
  | updateActivate
  | updateConfirm
  | updateAbort
  | makerEnable (req : Option Bytes)
  | makerChallenge
  | makerResponse (req : Option Bytes)
  | makerEnd
  | makerOp (req : Option Bytes)
  | makerSessionExpiry
  | thermalSample (temps : List Nat)
  | thermalTrip (site : Nat)
  | voltageTrip (rail : Nat)
  | marginMeasurement (die slack week : Nat)
  | logFlush
  | pmbAlert (regs : List PmbStatus)
  | powerOn
  | resetInput (rst : Bool) (ns : Nat)
  | resetRelease (steps : List StepResult) (tests : List SelfTest)
  | pilotCoreTrap (core cause pc tval : Nat) (gpr : List Nat)
  | harbourmasterTrap (cause pc tval : Nat) (gpr : List Nat)
  deriving DecidableEq, Repr

end Sys2Proof
end

