-- ==== Sys2Proof/Decode.lean ====
section
/-!
DEFINITION. The decoder over the opcode table's rows that give bits. Every row of the table has an
empty list of fields: a command of this block is no instruction word, so no word spells one.
-/

namespace Sys2Proof

/-- The command that a word of `nbits` bits spells by the table: none, since no row gives bits. -/
def decodeTableWord (_nbits _w : Nat) : Option Instr := none

end Sys2Proof
end

