-- ==== Sys2Proof/Config.lean ====
section
/-!
DEFINITION. What an implementation fixes and the spec does not state. A free value is an opaque
constant without a body: no proof can see what it is.
-/

namespace Sys2Proof.Config

open Sys2Proof

/-- A free 32-bit value; the argument is the free-value counter of the state. -/
opaque freeWord : Nat → Word
/-- A free natural number. -/
opaque freeNat : Nat → Nat
/-- A free byte string. -/
opaque freeBytes : Nat → Bytes
/-- Whether an ML-DSA-87 signature verifies: public key, message digest, signature (R363, R383). -/
opaque mldsaVerify : Bytes → Bytes → Bytes → Bool
/-- The ML-DSA-87 signature of a message under the identity key (R389, R390). -/
opaque mldsaSign : Bytes → Bytes
/-- The firmware key digest held in ROM (R363). -/
opaque romKeyDigest : Bytes
/-- The public half of the maker key, held in ROM (R383). -/
opaque makerKey : Bytes
/-- SHA3-512 of the ROM (Table 17-6). -/
opaque romDigest : Bytes
/-- The 16-byte package serial (R389). -/
opaque serial : Bytes
/-- The 2,592-byte identity public key (R389). -/
opaque identityKey : Bytes
/-- The X.509 certificate chain of the identity key (R389). -/
opaque certChain : Bytes
/-- Die n's fused sensitivity in tenths of a picosecond per millivolt, less one tenth (R378); the
spec states no value. -/
opaque fusedK : Nat → Nat

/-- The factory station address of port n, six bytes with byte 0 lowest (Table 19-7). -/
opaque stationAddress : Nat → Nat

/-- Whether the rights of a maker session grant debug unlock (R383); their encoding is Jaursen's. -/
opaque grantsDebug : Bytes → Bool

/-- A JPEG scan as the device's decoder reads it (R229): from the sample's packets and its width and
height, the Y, Cb and Cr planes one after the other, 8 bits a sample, chroma at the size at which its type codes it.
The spec states that the bits are the same on every package, not which they are. -/
opaque jpegDecode : List Bytes → Nat → Nat → Bytes

end Sys2Proof.Config
end

