-- ==== Sys2Proof/Machine/Bits.lean ====
section
/-!
DEFINITION. Bit fields, sign extension, byte order (R8: little-endian), checks (CRC-32C,
SHA3-512) and saturating counters.
-/

namespace Sys2Proof.Machine

open Sys2Proof

/-- Bits [hi:lo] of a word, as a number. -/
def bits (w : Word) (hi lo : Nat) : Nat := (w.toNat >>> lo) % 2 ^ (hi - lo + 1)

/-- The word with bits [hi:lo] replaced by the low bits of `v`. -/
def putBits (w : Word) (hi lo v : Nat) : Word :=
  let n := 2 ^ (hi - lo + 1)
  let old := (w.toNat >>> lo) % n
  BitVec.ofNat 32 (w.toNat - old * 2 ^ lo + (v % n) * 2 ^ lo)

/-- Bit `i` of a number. -/
def bit (v i : Nat) : Bool := v.testBit i

/-- The number with bit `i` set. -/
def setBitN (v i : Nat) : Nat := v ||| (1 <<< i)

/-- The number with bit `i` cleared. -/
def clrBitN (v i : Nat) : Nat := if v.testBit i then v - 2 ^ i else v

/-- 1 for true. -/
def b2n (b : Bool) : Nat := if b then 1 else 0

/-- Little-endian bytes of a number. -/
def leBytes : Nat → Nat → Bytes
  | 0, _ => []
  | n + 1, v => BitVec.ofNat 8 v :: leBytes n (v / 256)

/-- The number a little-endian byte string holds. -/
def ofLe : Bytes → Nat
  | [] => 0
  | b :: bs => b.toNat + 256 * ofLe bs

/-- The number a big-endian byte string holds. -/
def ofBe (bs : Bytes) : Nat := ofLe bs.reverse

/-- `n` bytes from offset `off`; absent bytes are left out. -/
def slice (bs : Bytes) (off n : Nat) : Bytes := (bs.drop off).take n

/-- The little-endian field of `n` bytes at `off`. -/
def le (bs : Bytes) (off n : Nat) : Nat := ofLe (slice bs off n)

/-- Overwrites bytes from offset `off` on; bytes beyond the end are dropped. -/
def splice (bs : Bytes) (off : Nat) (new : Bytes) : Bytes :=
  bs.take off ++ new.take (bs.length - off) ++ bs.drop (off + new.length)

/-- `n` zero bytes. -/
def zeros (n : Nat) : Bytes := List.replicate n 0

/-- Pads with zero bytes up to a multiple of `m`. -/
def padTo (m : Nat) (bs : Bytes) : Bytes :=
  bs ++ zeros ((m - bs.length % m) % m)

/-- The value of `v` read as a two's complement number of `w` bits. -/
def sint (w v : Nat) : Int :=
  let u := v % 2 ^ w
  if u < 2 ^ (w - 1) then (u : Int) else (u : Int) - (2 ^ w : Nat)

/-- The low `w` bits of an integer in two's complement. -/
def uint (w : Nat) (v : Int) : Nat := (v % ((2 ^ w : Nat) : Int)).toNat

/-- Signed distance modulo 2^32 (R157, R253, R262). -/
def dist32 (f ref : Nat) : Int := sint 32 (f + 2 ^ 32 - ref % 2 ^ 32)

/-- A count that stops at `top` (R352: a value the all-ones word never equals). -/
def satAdd (top v n : Nat) : Nat := min top (v + n)

/-- ceil(a / b). -/
def cdiv (a b : Nat) : Nat := (a + b - 1) / b

/-- Saturation of an integer into [lo, hi]. -/
def clampInt (lo hi v : Int) : Int := if v < lo then lo else if hi < v then hi else v

/-- Even/odd parity of a word's set bits, for byte-wise CRC. -/
def crcStep (p : Nat) : Nat → Nat → Nat
  | 0, c => c
  | n + 1, c => crcStep p n (if c % 2 = 1 then (c / 2) ^^^ p else c / 2)

/-- A reflected CRC with polynomial `p`, all ones before and after. -/
def crcOf (p : Nat) (bs : Bytes) : Nat :=
  (bs.foldl (fun c b => crcStep p 8 (c ^^^ b.toNat)) 0xFFFFFFFF) ^^^ 0xFFFFFFFF

/-- The polynomial of the Ethernet frame check sequence. -/
def crc32Poly : Nat := 0xEDB88320

/-- CRC-32C (Castagnoli) of a byte string, reflected form. PRESUMED: the spec names the code only. -/
def crc32c (bs : Bytes) : Nat := crcOf 0x82F63B78 bs

/-- One 64-bit lane rotated left. -/
def rotl64 (v n : Nat) : Nat :=
  let m := n % 64
  ((v <<< m) ||| (v >>> (64 - m))) % 2 ^ 64

/-- The feedback register from which FIPS 202 takes the round constants, after `n` shifts: x^8 + x^6 + x^5 + x^4 + 1. -/
def keccakLfsr : Nat → Nat
  | 0 => 1
  | n + 1 =>
    let r := 2 * keccakLfsr n
    if 256 ≤ r then r ^^^ 0x171 else r

/-- The constant of round `r`: the register's low bit after 7r + j shifts stands at bit 2^j − 1. -/
def keccakConst (r : Nat) : Nat :=
  ((List.range 7).map (fun j => keccakLfsr (7 * r + j) % 2 * 2 ^ (2 ^ j - 1))).sum

/-- The walk of FIPS 202 over the lanes other than (0, 0), from lane (1, 0) on: which lane step `t` reaches. -/
def keccakWalk : Nat → Nat × Nat
  | 0 => (1, 0)
  | t + 1 =>
    let p := keccakWalk t
    (p.2, (2 * p.1 + 3 * p.2) % 5)

/-- How far lane (x, y) is rotated: a triangular number of its step in the walk. -/
def keccakTurn (x y : Nat) : Nat :=
  match (List.range 24).find? (fun t => keccakWalk t == (x, y)) with
  | some t => (t + 1) * (t + 2) / 2 % 64
  | none => 0

/-- One Keccak-f[1600] round on 25 lanes. -/
def keccakRound (a : List Nat) (rc : Nat) : List Nat :=
  let at_ := fun (l : List Nat) (i : Nat) => l.getD i 0
  let c := (List.range 5).map (fun x => at_ a x ^^^ at_ a (x + 5) ^^^ at_ a (x + 10) ^^^ at_ a (x + 15) ^^^ at_ a (x + 20))
  let d := (List.range 5).map (fun x => at_ c ((x + 4) % 5) ^^^ rotl64 (at_ c ((x + 1) % 5)) 1)
  let t := (List.range 25).map (fun i => at_ a i ^^^ at_ d (i % 5))
  -- lane (x, y) moves to (y, 2x + 3y): the lane at (X, Y) comes from x = (X + 3Y) mod 5, y = X
  let b := (List.range 25).map (fun i =>
    let x := (i % 5 + 3 * (i / 5)) % 5
    let y := i % 5
    rotl64 (at_ t (x + 5 * y)) (keccakTurn x y))
  let e := (List.range 25).map (fun i =>
    let x := i % 5
    let r := i - x
    at_ b i ^^^ ((2 ^ 64 - 1 - at_ b (r + (x + 1) % 5)) &&& at_ b (r + (x + 2) % 5)))
  (List.range 25).map (fun i => if i = 0 then at_ e 0 ^^^ rc else at_ e i)

/-- Keccak-f[1600]. -/
def keccakF (a : List Nat) : List Nat := (List.range 24).foldl (fun a r => keccakRound a (keccakConst r)) a

/-- Absorbs one 72-byte block. -/
def keccakAbsorb (a : List Nat) (blk : Bytes) : List Nat :=
  keccakF ((List.range 25).map (fun i => (a.getD i 0) ^^^ (if i < 9 then le blk (8 * i) 8 else 0)))

/-- Absorbs `n` blocks. -/
def keccakBlocks : Nat → List Nat → Bytes → List Nat
  | 0, a, _ => a
  | n + 1, a, bs => keccakBlocks n (keccakAbsorb a (bs.take 72)) (bs.drop 72)

/-- SHA3-512 (FIPS 202) of a byte string. PRESUMED: the spec names the function only. -/
def sha3_512 (msg : Bytes) : Bytes :=
  let q := 72 - msg.length % 72
  let pad : Bytes := if q = 1 then [0x86] else (0x06 :: zeros (q - 2)) ++ [0x80]
  let m := msg ++ pad
  let a := keccakBlocks (m.length / 72) (List.replicate 25 0) m
  (a.take 8).flatMap (fun v => leBytes 8 v)

/-- The digest truncated to its first 128 bits (R183, R184, R314). -/
def digest128 (msg : Bytes) : Bytes := (sha3_512 msg).take 16

end Sys2Proof.Machine
end

