-- ==== Sys2Proof/Machine/Operands.lean ====
section
/-!
DEFINITION. Operand forms: the offsets of registers (Tables 00-3 and each block's register
tables) and the fields of 64-byte descriptors (Tables 14-3, 14-4). An index past a block's instances
wraps within the block's window, so that no offset leaves it.
-/

namespace Sys2Proof.Machine

open Sys2Proof

/-- GLB register. -/
def glbA (o : Nat) : Nat := o % 0x100000
/-- TIM register. -/
def timA (o : Nat) : Nat := 0x200000 + o % 0x100000
/-- Register of time domain `d` (Table 10-4). -/
def domA (d o : Nat) : Nat := 0x200000 + (d * 0x40 + o) % 0x100000
/-- Register of stream `st` (Tables 09-7 to 09-10). -/
def ingA (st o : Nat) : Nat := 0x300000 + (st * 0x400 + o) % 0xF000
/-- Ingest-wide register (Table 09-11). -/
def ingW (o : Nat) : Nat := 0x30F000 + o % 0x1000
/-- Register of axis `a` (R279). -/
def ctlA (a o : Nat) : Nat := 0x400000 + (a * 0x800 + o) % 0x100000
/-- Register of CAN controller `c` (R297). -/
def canA (c o : Nat) : Nat := 0x500000 + (c * 0x1000 + o) % 0x100000
/-- Register of Ethernet port `p` (R425). -/
def ethA (p o : Nat) : Nat := 0x600000 + (p * 0x4000 + o) % 0x100000
/-- Register of link `k` (Tables 08-8 to 08-10). -/
def lnkA (k o : Nat) : Nat := 0x700000 + (k * 0x2000 + o) % 0x80000
/-- Fabric-wide register (Tables 08-11 to 08-14). -/
def fabA (o : Nat) : Nat := 0x780000 + o % 0x80000
/-- SAF register (R319). -/
def safA (o : Nat) : Nat := 0x800000 + o % 0x100000
/-- Register of safe-stop output `g` (Table 13-8). -/
def ssoA (g o : Nat) : Nat := 0x800080 + (g * 0x10 + o) % 0x80
/-- Watchdog and canary register of stream `st` (Table 13-9). -/
def safSt (st o : Nat) : Nat := 0x800100 + (st * 0x10 + o) % 0x80000
/-- HIF register (Table 14-11). -/
def hifA (o : Nat) : Nat := 0x100000 + o % 0x80000
/-- Register of ring `r` (Table 14-12). -/
def ringA (r o : Nat) : Nat := 0x180000 + (r * 0x40 + o) % 0x80000
/-- TLY register (R403). -/
def tlyA (o : Nat) : Nat := 0x900000 + o % 0x1000
/-- Register of tally counter `c` of die `d`, 7 being the quay die (R403). -/
def tlyC (d c o : Nat) : Nat :=
  0x901000 + ((if d = 7 then 0 else 0xF000 + d * 0x1000) + c * 0x20 + o) % 0x80000
/-- MGT register (R372, R393). -/
def mgtA (o : Nat) : Nat := 0xA00000 + o % 0x100000
/-- Mailbox register (Table 17-8), at the model's place for BAR4. -/
def mbxA (o : Nat) : Nat := 0x10000000 + o % 0x10000
/-- Register of physical core `k` of die `d`. -/
def mcA (d k o : Nat) : Nat := 0x1000000 + (d * 0x1000000 + k * 0x10000 + o) % 0x8000000
/-- Die-level berth register of die `d` (Table 05-14). -/
def bthA (d o : Nat) : Nat := 0x1800000 + (d * 0x1000000 + o) % 0x8000000
/-- Register of berth `b` of die `d` (Table 05-15). -/
def berthA (d b o : Nat) : Nat := 0x1801000 + (d * 0x1000000 + b * 0x20 + o) % 0x8000000
/-- ECC or boot register of die `d` (Tables 05-13, 16-13). -/
def eccA (d o : Nat) : Nat := 0x1900000 + (d * 0x1000000 + o) % 0x8000000
/-- KV register of die `d` (Tables 04-9 to 04-14). -/
def kvA (d o : Nat) : Nat := 0x1A00000 + (d * 0x1000000 + o) % 0x8000000

/-- The block of a register: the 1 MiB window of BAR0 (Table 00-3), 16 for the compute dies, 17 for BAR4. -/
def blk (a : Nat) : Nat := if a < 0x1000000 then a / 0x100000 else if a < 0x10000000 then 16 else 17

/-- The opcode of a descriptor. -/
def dOp (b : Bytes) : Nat := le b 0 1
/-- FLAGS of a descriptor. -/
def dFlags (b : Bytes) : Nat := le b 1 1
/-- TAG of a descriptor. -/
def dTag (b : Bytes) : Nat := le b 4 4

/-- The operand layout of an opcode (Table 14-4): the byte ranges (offset, size) that hold
operands; every other byte from 8 on is reserved. -/
def opFields : Nat → Option (List (Nat × Nat))
  | 0x00 => some []
  | 0x01 => some [(8, 4), (12, 1), (14, 2)]
  | 0x02 => some []
  | 0x03 => some []
  | 0x04 => some []
  | 0x08 => some [(8, 2), (12, 4), (16, 8), (24, 8), (32, 4)]
  | 0x10 => some [(8, 4), (16, 8)]
  | 0x11 => some [(8, 2), (12, 4), (16, 8), (24, 8), (32, 4), (36, 4), (40, 8)]
  | 0x12 => some [(8, 2), (12, 4), (16, 8), (24, 4), (28, 4), (32, 8), (40, 8), (48, 4), (52, 4), (56, 8)]
  | 0x13 => some [(8, 4), (12, 4)]
  | 0x14 => some [(8, 2)]
  | 0x18 => some [(8, 1), (12, 4), (16, 8)]
  | 0x19 => some [(8, 1), (9, 1), (10, 1), (12, 4), (16, 8), (24, 8), (32, 4)]
  | 0x20 => some [(8, 1), (9, 1)]
  | 0x21 => some [(16, 32)]
  | 0x22 => some [(8, 1), (9, 1), (12, 4), (16, 8)]
  | 0x23 => some [(8, 1), (12, 4), (16, 8)]
  | 0x28 => some [(8, 1)]
  | 0x29 => some [(8, 1), (12, 4), (16, 8), (24, 8), (32, 16)]
  | 0x30 => some [(8, 1), (9, 1), (12, 4), (16, 8), (24, 4)]
  | 0x31 => some [(8, 1), (9, 1), (12, 4), (16, 8)]
  | 0x32 => some [(12, 4), (16, 8)]
  | 0x38 => some [(8, 1), (12, 4), (16, 8)]
  | 0x39 => some [(12, 4), (16, 8)]
  | 0x3A => some [(8, 1), (12, 4), (16, 8), (24, 4)]
  | 0x40 => some [(8, 1), (12, 4), (16, 8)]
  | _ => none

/-- The host addresses of an opcode's operands (Table 14-4): address offset, offset and scale of
the length that belongs to it (a fixed length has offset 0 and gives the bytes themselves). -/
def opAddrs : Nat → List (Nat × Nat × Nat)
  | 0x08 => [(16, 12, 1), (24, 32, 1)]
  | 0x10 => [(16, 8, 4096)]
  | 0x11 => [(16, 12, 4096), (24, 32, 1), (40, 36, 1)]
  | 0x12 => [(16, 24, 1), (32, 28, 1), (40, 48, 1), (56, 52, 1)]
  | 0x18 => [(16, 12, 1)]
  | 0x19 => [(24, 32, 1)]
  | 0x22 => [(16, 12, 1)]
  | 0x23 => [(16, 12, 1)]
  | 0x29 => [(16, 12, 1), (24, 0, 512)]
  | 0x30 => [(16, 12, 1)]
  | 0x31 => [(16, 0, 80)]
  | 0x32 => [(16, 12, 1)]
  | 0x38 => [(16, 12, 1)]
  | 0x39 => [(16, 12, 1)]
  | 0x3A => [(16, 12, 1)]
  | 0x40 => [(16, 12, 1)]
  | _ => []

/-- Whether byte `i` of a descriptor holds an operand or header field. -/
def byteUsed (fs : List (Nat × Nat)) (i : Nat) : Bool :=
  i < 2 || (4 ≤ i && i < 8) || fs.any (fun f => f.1 ≤ i && decide (i < f.1 + f.2))

/-- No reserved byte of the descriptor is nonzero (R330 step 2). -/
def reservedZero (fs : List (Nat × Nat)) (b : Bytes) : Bool :=
  (List.range 64).all (fun i => byteUsed fs i || decide (le b i 1 = 0))

end Sys2Proof.Machine
end

