-- ==== Sys2Proof/Machine/RegMap.lean ====
section
/-!
DEFINITION. The register map: one row per register of the spec's register tables, with its BAR0
offset, instance strides, and the bits each access code of Table 00-4 names. The BAR4 mailbox
registers (R392) stand from 0x1000_0000 on, a place of the model's own outside BAR0.
-/

namespace Sys2Proof.Machine

/-- One register of the map. Instances stand at `base + i * s1 + j * s2`, `i < n1`, `j < n2`. -/
structure RegRow where
  /-- The spec's name of the register, or of its first field. -/
  name : String
  base : Nat
  s1 : Nat
  n1 : Nat
  s2 : Nat
  n2 : Nat
  /-- RW bits. -/
  rw : Nat
  /-- W1C bits. -/
  w1c : Nat
  /-- W1S bits. -/
  w1s : Nat
  /-- WO bits. -/
  wo : Nat
  /-- Reset value. -/
  reset : Nat
  /-- The RW bits take a write at once (R343). -/
  direct : Bool
  /-- The low word of a wide quantity: its read loads the latch of the next word (R6). -/
  wide : Bool
  deriving DecidableEq, Repr

/-- Registers of GLB (R353, Tables 15-4 to 15-6, 06-13 to 06-22, 07-7 to 07-11), part 1. -/
def regsGlb0 : List RegRow := [
  ⟨"GLB_ID", 0x0, 0x0, 1, 0x0, 1, 0x0, 0x0, 0x0, 0x0, 0x5A080000, false, false⟩,
  ⟨"GLB_CD_PRESENT", 0x4, 0x0, 1, 0x0, 1, 0x0, 0x0, 0x0, 0x0, 0x0, false, false⟩,
  ⟨"GLB_CFG_STAT", 0x100, 0x0, 1, 0x0, 1, 0x0, 0x38, 0x0, 0x0, 0x0, false, false⟩,
  ⟨"GLB_CFG_STAGED", 0x104, 0x0, 1, 0x0, 1, 0x0, 0x0, 0x0, 0x0, 0x0, false, false⟩,
  ⟨"GLB_CFG_TXN", 0x108, 0x0, 1, 0x0, 1, 0x0, 0x0, 0x0, 0x0, 0x0, false, false⟩,
  ⟨"GLB_CFG_REMAIN", 0x10C, 0x0, 1, 0x0, 1, 0x0, 0x0, 0x0, 0x0, 0x0, false, false⟩,
  ⟨"GLB_CFG_PEEK_ADDR", 0x110, 0x0, 1, 0x0, 1, 0xFFFFFFC, 0x0, 0x0, 0x0, 0x0, true, false⟩,
  ⟨"GLB_CFG_PEEK_DATA", 0x114, 0x0, 1, 0x0, 1, 0x0, 0x0, 0x0, 0x0, 0x0, false, false⟩,
  ⟨"GLB_CFG_COMMIT_COUNT", 0x118, 0x0, 1, 0x0, 1, 0x0, 0x0, 0x0, 0x0, 0x0, false, false⟩,
  ⟨"GLB_CFG_FAIL_COUNT", 0x11C, 0x0, 1, 0x0, 1, 0x0, 0x0, 0x0, 0x0, 0x0, false, false⟩,
  ⟨"GLB_CFG_TIMEOUT_COUNT", 0x120, 0x0, 1, 0x0, 1, 0x0, 0x0, 0x0, 0x0, 0x0, false, false⟩,
  ⟨"GLB_CFG_IGNORED_COUNT", 0x124, 0x0, 1, 0x0, 1, 0x0, 0x0, 0x0, 0x0, 0x0, false, false⟩,
  ⟨"GLB_CFG_FAIL_ADDR", 0x128, 0x0, 1, 0x0, 1, 0x0, 0x0, 0x0, 0x0, 0x0, false, false⟩,
  ⟨"GLB_CFG_LAST_TICK_LO", 0x12C, 0x0, 1, 0x0, 1, 0x0, 0x0, 0x0, 0x0, 0x0, false, true⟩,
  ⟨"GLB_CFG_LAST_TICK_HI", 0x130, 0x0, 1, 0x0, 1, 0x0, 0x0, 0x0, 0x0, 0x0, false, false⟩,
  ⟨"GLB_MODE", 0x200, 0x0, 1, 0x0, 1, 0x3, 0x0, 0x0, 0x0, 0x0, false, false⟩,
  ⟨"GLB_CYC_CFG", 0x204, 0x0, 1, 0x0, 1, 0x3, 0x0, 0x0, 0x0, 0x0, false, false⟩,
  ⟨"GLB_CYC_STAT", 0x208, 0x0, 1, 0x0, 1, 0x0, 0x8, 0x0, 0x0, 0x0, false, false⟩,
  ⟨"GLB_CYC_BANK", 0x20C, 0x0, 1, 0x4, 2, 0x0, 0x0, 0x0, 0x0, 0x0, false, false⟩,
  ⟨"GLB_CYC_RESV", 0x220, 0x0, 1, 0x4, 7, 0x0, 0x0, 0x0, 0x0, 0x0, false, false⟩,
  ⟨"GLB_JOBS", 0x240, 0x0, 1, 0x0, 1, 0x0, 0x0, 0x0, 0x0, 0x0, false, false⟩,
  ⟨"GLB_SCHED_STAT", 0x244, 0x0, 1, 0x0, 1, 0x0, 0xF, 0x0, 0x0, 0x0, false, false⟩,
  ⟨"GLB_ADMIT_COUNT", 0x248, 0x0, 1, 0x0, 1, 0x0, 0x0, 0x0, 0x0, 0x0, false, false⟩,
  ⟨"GLB_REFUSE_COUNT", 0x24C, 0x0, 1, 0x0, 1, 0x0, 0x0, 0x0, 0x0, 0x0, false, false⟩]

/-- Registers of GLB (R353, Tables 15-4 to 15-6, 06-13 to 06-22, 07-7 to 07-11), part 2. -/
def regsGlb1 : List RegRow := [
  ⟨"GLB_OVERRUN_COUNT", 0x250, 0x0, 1, 0x0, 1, 0x0, 0x0, 0x0, 0x0, 0x0, false, false⟩,
  ⟨"GLB_JOBLOSS_COUNT", 0x254, 0x0, 1, 0x0, 1, 0x0, 0x0, 0x0, 0x0, 0x0, false, false⟩,
  ⟨"GLB_PEERLOSS_COUNT", 0x258, 0x0, 1, 0x0, 1, 0x0, 0x0, 0x0, 0x0, 0x0, false, false⟩,
  ⟨"GLB_PREEMPT_COUNT", 0x25C, 0x0, 1, 0x0, 1, 0x0, 0x0, 0x0, 0x0, 0x0, false, false⟩,
  ⟨"GLB_LB_MOVE_COUNT", 0x260, 0x0, 1, 0x0, 1, 0x0, 0x0, 0x0, 0x0, 0x0, false, false⟩,
  ⟨"GLB_LAST_LOSS", 0x264, 0x0, 1, 0x0, 1, 0x0, 0x0, 0x0, 0x0, 0x0, false, false⟩,
  ⟨"GLB_LOSS_US", 0x268, 0x0, 1, 0x0, 1, 0x0, 0x0, 0x0, 0x0, 0x0, false, false⟩,
  ⟨"GLB_DET_CFG", 0x300, 0x0, 1, 0x0, 1, 0x3FFF, 0x0, 0x0, 0x0, 0x7D0, false, false⟩,
  ⟨"GLB_LOG_CFG", 0x304, 0x0, 1, 0x0, 1, 0x3F13, 0x0, 0x0, 0x0, 0x100, false, false⟩,
  ⟨"GLB_LOG_STAT", 0x308, 0x0, 1, 0x0, 1, 0x0, 0x36, 0x0, 0x0, 0x0, false, false⟩,
  ⟨"GLB_LOG_WRAP_COUNT", 0x30C, 0x0, 1, 0x0, 1, 0x0, 0x0, 0x0, 0x0, 0x0, false, false⟩,
  ⟨"GLB_LOG_GAP_COUNT", 0x310, 0x0, 1, 0x0, 1, 0x0, 0x0, 0x0, 0x0, 0x0, false, false⟩,
  ⟨"GLB_DET_LATE_COUNT", 0x314, 0x0, 1, 0x0, 1, 0x0, 0x0, 0x0, 0x0, 0x0, false, false⟩,
  ⟨"GLB_LOG_WR_LO", 0x318, 0x0, 1, 0x0, 1, 0x0, 0x0, 0x0, 0x0, 0x0, false, true⟩,
  ⟨"GLB_LOG_WR_HI", 0x31C, 0x0, 1, 0x0, 1, 0x0, 0x0, 0x0, 0x0, 0x0, false, false⟩,
  ⟨"GLB_DET_OUTCOME_COUNT", 0x320, 0x0, 1, 0x0, 1, 0x0, 0x0, 0x0, 0x0, 0x0, false, false⟩,
  ⟨"GLB_REPLAY_CFG", 0x330, 0x0, 1, 0x0, 1, 0x3, 0x0, 0x0, 0x0, 0x0, false, false⟩,
  ⟨"GLB_REPLAY_STAT", 0x334, 0x0, 1, 0x0, 1, 0x0, 0xC, 0x0, 0x0, 0x0, false, false⟩,
  ⟨"GLB_REPLAY_DIV_COUNT", 0x338, 0x0, 1, 0x0, 1, 0x0, 0x0, 0x0, 0x0, 0x0, false, false⟩,
  ⟨"GLB_REPLAY_TDIV_COUNT", 0x33C, 0x0, 1, 0x0, 1, 0x0, 0x0, 0x0, 0x0, 0x0, false, false⟩,
  ⟨"GLB_DIV_TICK_LO", 0x340, 0x0, 1, 0x0, 1, 0x0, 0x0, 0x0, 0x0, 0x0, false, true⟩,
  ⟨"GLB_DIV_TICK_HI", 0x344, 0x0, 1, 0x0, 1, 0x0, 0x0, 0x0, 0x0, 0x0, false, false⟩,
  ⟨"GLB_DIV_JOB_KEY", 0x348, 0x0, 1, 0x0, 1, 0x0, 0x0, 0x0, 0x0, 0x0, false, false⟩,
  ⟨"GLB_DIV_KIND", 0x34C, 0x0, 1, 0x0, 1, 0x0, 0x0, 0x0, 0x0, 0x0, false, false⟩]

/-- Registers of GLB (R353, Tables 15-4 to 15-6, 06-13 to 06-22, 07-7 to 07-11), part 3. -/
def regsGlb2 : List RegRow := [
  ⟨"GLB_DIV_ACTIVATION", 0x350, 0x0, 1, 0x0, 1, 0x0, 0x0, 0x0, 0x0, 0x0, false, false⟩]

/-- Registers of HIF (Tables 14-11, 14-12). -/
def regsHif : List RegRow := [
  ⟨"HIF_LINK_STAT", 0x100000, 0x0, 1, 0x0, 1, 0x0, 0x0, 0x0, 0x0, 0x0, false, false⟩,
  ⟨"HIF_STAT", 0x100004, 0x0, 1, 0x0, 1, 0x0, 0xD, 0x0, 0x0, 0x0, false, false⟩,
  ⟨"HIF_HALT_COUNT", 0x10000C, 0x0, 1, 0x0, 1, 0x0, 0x0, 0x0, 0x0, 0x0, false, false⟩,
  ⟨"HIF_DB_IGNORED_COUNT", 0x100010, 0x0, 1, 0x0, 1, 0x0, 0x0, 0x0, 0x0, 0x0, false, false⟩,
  ⟨"HIF_LOST_WRITE_COUNT", 0x100014, 0x0, 1, 0x0, 1, 0x0, 0x0, 0x0, 0x0, 0x0, false, false⟩,
  ⟨"SQ_BASE_LO", 0x180000, 0x40, 8192, 0x0, 1, 0xFFFFF000, 0x0, 0x0, 0x0, 0x0, true, true⟩,
  ⟨"SQ_BASE_HI", 0x180004, 0x40, 8192, 0x0, 1, 0xFFFFFFFF, 0x0, 0x0, 0x0, 0x0, true, false⟩,
  ⟨"CQ_BASE_LO", 0x180008, 0x40, 8192, 0x0, 1, 0xFFFFF000, 0x0, 0x0, 0x0, 0x0, true, true⟩,
  ⟨"CQ_BASE_HI", 0x18000C, 0x40, 8192, 0x0, 1, 0xFFFFFFFF, 0x0, 0x0, 0x0, 0x0, true, false⟩,
  ⟨"HIF_RING_CFG", 0x180010, 0x40, 8192, 0x0, 1, 0x801F07FF, 0x0, 0x0, 0x0, 0x60000, true, false⟩,
  ⟨"HIF_RING_ROLE", 0x180014, 0x40, 8192, 0x0, 1, 0x0, 0x0, 0x0, 0x0, 0x0, true, false⟩,
  ⟨"HIF_RING_STAT", 0x180018, 0x40, 8192, 0x0, 1, 0x0, 0x0, 0x0, 0x0, 0x0, true, false⟩,
  ⟨"SQ_HEAD", 0x18001C, 0x40, 8192, 0x0, 1, 0x0, 0x0, 0x0, 0x0, 0x0, true, false⟩,
  ⟨"CQ_TAIL", 0x180020, 0x40, 8192, 0x0, 1, 0x0, 0x0, 0x0, 0x0, 0x0, true, false⟩,
  ⟨"HIF_RING_INFLIGHT", 0x180024, 0x40, 8192, 0x0, 1, 0x0, 0x0, 0x0, 0x0, 0x0, true, false⟩,
  ⟨"HIF_RING_DROP_COUNT", 0x180028, 0x40, 8192, 0x0, 1, 0x0, 0x0, 0x0, 0x0, 0x0, true, false⟩,
  ⟨"MSIX_TABLE", 0x140000, 0x4, 8192, 0x0, 1, 0xFFFFFFFF, 0x0, 0x0, 0x0, 0x0, true, false⟩,
  ⟨"MSIX_PBA", 0x148000, 0x4, 64, 0x0, 1, 0x0, 0x0, 0x0, 0x0, 0x0, true, false⟩]

/-- Registers of TIM (Tables 01-6 to 01-11, 10-4 to 10-6). -/
def regsTim : List RegRow := [
  ⟨"TIM_DOM_CFG", 0x200000, 0x40, 2, 0x0, 1, 0x800F007F, 0x0, 0x0, 0x0, 0x0, false, false⟩,
  ⟨"TIM_DOM_STAT", 0x200004, 0x40, 2, 0x0, 1, 0x0, 0xC, 0x0, 0x0, 0x0, false, false⟩,
  ⟨"TIM_DOM_GM_LO", 0x200008, 0x40, 2, 0x0, 1, 0x0, 0x0, 0x0, 0x0, 0x0, false, true⟩,
  ⟨"TIM_DOM_GM_HI", 0x20000C, 0x40, 2, 0x0, 1, 0x0, 0x0, 0x0, 0x0, 0x0, false, false⟩,
  ⟨"TIM_DOM_OFFSET", 0x200010, 0x40, 2, 0x0, 1, 0x0, 0x0, 0x0, 0x0, 0x0, false, false⟩,
  ⟨"TIM_DOM_LOSS_COUNT", 0x200014, 0x40, 2, 0x0, 1, 0x0, 0x0, 0x0, 0x0, 0x0, false, false⟩,
  ⟨"TIM_SEL_CFG", 0x200080, 0x0, 1, 0x0, 1, 0xFFFFFF01, 0x0, 0x0, 0x0, 0xA0A00, false, false⟩,
  ⟨"TIM_LOCK_CFG", 0x200084, 0x0, 1, 0x0, 1, 0x3FFF, 0x0, 0x0, 0x0, 0x64, false, false⟩,
  ⟨"TIM_TIME_STAT", 0x200088, 0x0, 1, 0x0, 1, 0x0, 0x30, 0x0, 0x0, 0x0, false, false⟩,
  ⟨"TIM_SWITCH_COUNT", 0x20008C, 0x0, 1, 0x0, 1, 0x0, 0x0, 0x0, 0x0, 0x0, false, false⟩,
  ⟨"TIM_STEP_COUNT", 0x200090, 0x0, 1, 0x0, 1, 0x0, 0x0, 0x0, 0x0, 0x0, false, false⟩,
  ⟨"TIM_HOLD_MS", 0x200094, 0x0, 1, 0x0, 1, 0x0, 0x0, 0x0, 0x0, 0x0, false, false⟩,
  ⟨"TIM_EPOCH_LO", 0x2000A0, 0x0, 1, 0x0, 1, 0x0, 0x0, 0x0, 0x0, 0x0, false, true⟩,
  ⟨"TIM_EPOCH_HI", 0x2000A4, 0x0, 1, 0x0, 1, 0x0, 0x0, 0x0, 0x0, 0x0, false, false⟩,
  ⟨"TIM_PORT_LAT[p]", 0x2000C0, 0x0, 1, 0x4, 4, 0xFFFFFFFF, 0x0, 0x0, 0x0, 0x0, false, false⟩,
  ⟨"TIM_PORT_DELAY[p]", 0x2000D0, 0x0, 1, 0x4, 4, 0x0, 0x0, 0x0, 0x0, 0x0, false, false⟩,
  ⟨"TIM_STAMP_MAX", 0x2000E0, 0x0, 1, 0x0, 1, 0x0, 0x0, 0x0, 0x0, 0x0, false, false⟩,
  ⟨"TIM_TICK_CFG", 0x200100, 0x0, 1, 0x0, 1, 0x7FF3FFF, 0x0, 0x0, 0x0, 0x103E8, false, false⟩,
  ⟨"TIM_CUTOFF", 0x200104, 0x0, 1, 0x0, 1, 0x1FFF, 0x0, 0x0, 0x0, 0x64, false, false⟩,
  ⟨"TIM_TICK_NUM_LO", 0x200108, 0x0, 1, 0x0, 1, 0x0, 0x0, 0x0, 0x0, 0x0, false, true⟩,
  ⟨"TIM_TICK_NUM_HI", 0x20010C, 0x0, 1, 0x0, 1, 0x0, 0x0, 0x0, 0x0, 0x0, false, false⟩,
  ⟨"TIM_TICK_STAT", 0x200110, 0x0, 1, 0x0, 1, 0x0, 0x6, 0x0, 0x0, 0x0, false, false⟩,
  ⟨"TIM_SKIP_COUNT", 0x200114, 0x0, 1, 0x0, 1, 0x0, 0x0, 0x0, 0x0, 0x0, false, false⟩,
  ⟨"TIM_GUARD_MISS_COUNT", 0x200118, 0x0, 1, 0x0, 1, 0x0, 0x0, 0x0, 0x0, 0x0, false, false⟩]

/-- Registers of ING (Tables 09-7 to 09-11), part 1. -/
def regsIng0 : List RegRow := [
  ⟨"ING_ST_CFG", 0x300000, 0x400, 48, 0x0, 1, 0x83FFFFFF, 0x0, 0x0, 0x0, 0x600000, false, false⟩,
  ⟨"ING_ST_SSRC", 0x300004, 0x400, 48, 0x0, 1, 0xFFFFFFFF, 0x0, 0x0, 0x0, 0x0, false, false⟩,
  ⟨"ING_ST_RTP", 0x300008, 0x400, 48, 0x0, 1, 0x17F, 0x0, 0x0, 0x0, 0x0, false, false⟩,
  ⟨"ING_ST_IMG", 0x30000C, 0x400, 48, 0x0, 1, 0xFF, 0x0, 0x0, 0x0, 0x0, false, false⟩,
  ⟨"ING_ST_MAXDIM", 0x300010, 0x400, 48, 0x0, 1, 0x1FFF1FFF, 0x0, 0x0, 0x0, 0x0, false, false⟩,
  ⟨"ING_ST_OUT", 0x300014, 0x400, 48, 0x0, 1, 0x1F7FF7FF, 0x0, 0x0, 0x0, 0x1000000, false, false⟩,
  ⟨"ING_ST_TIMEOUT", 0x300018, 0x400, 48, 0x0, 1, 0xFFFFFFFF, 0x0, 0x0, 0x0, 0x641388, false, false⟩,
  ⟨"ING_ST_QNT", 0x30001C, 0x400, 48, 0x0, 1, 0xFF03, 0x0, 0x0, 0x0, 0x0, false, false⟩,
  ⟨"ING_ST_MEAN", 0x300020, 0x400, 48, 0x4, 3, 0xFFFFFFFF, 0x0, 0x0, 0x0, 0x0, false, false⟩,
  ⟨"ING_ST_GAIN", 0x30002C, 0x400, 48, 0x4, 3, 0xFFFFFFFF, 0x0, 0x0, 0x0, 0x3F800000, false, false⟩,
  ⟨"ING_PR_REC", 0x300040, 0x400, 48, 0x0, 1, 0x7FF01FF, 0x0, 0x0, 0x0, 0x0, false, false⟩,
  ⟨"ING_PR_FIELD[i]", 0x300044, 0x400, 48, 0x4, 8, 0x800007FF, 0x0, 0x0, 0x0, 0x0, false, false⟩,
  ⟨"ING_PR_SCALE[i]", 0x300064, 0x400, 48, 0x4, 8, 0xFFFFFFFF, 0x0, 0x0, 0x0, 0x3F800000, false, false⟩,
  ⟨"ING_PR_MAX", 0x300084, 0x400, 48, 0x0, 1, 0x7FFFF, 0x0, 0x0, 0x0, 0x10000, false, false⟩,
  ⟨"ING_ST_STAT", 0x3000A0, 0x400, 48, 0x0, 1, 0x0, 0x7F, 0x0, 0x0, 0x0, false, false⟩,
  ⟨"ING_ST_SAMPLE_COUNT", 0x3000A4, 0x400, 48, 0x0, 1, 0x0, 0x0, 0x0, 0x0, 0x0, false, false⟩,
  ⟨"ING_ST_SUBST_COUNT", 0x3000A8, 0x400, 48, 0x0, 1, 0x0, 0x0, 0x0, 0x0, 0x0, false, false⟩,
  ⟨"ING_ST_FOREIGN_COUNT", 0x3000AC, 0x400, 48, 0x0, 1, 0x0, 0x0, 0x0, 0x0, 0x0, false, false⟩,
  ⟨"ING_ST_DISCARD_COUNT", 0x3000B0, 0x400, 48, 0x0, 1, 0x0, 0x0, 0x0, 0x0, 0x0, false, false⟩,
  ⟨"ING_ST_RINGFULL_COUNT", 0x3000B4, 0x400, 48, 0x0, 1, 0x0, 0x0, 0x0, 0x0, 0x0, false, false⟩,
  ⟨"ING_ST_ROI_EMPTY_COUNT", 0x3000B8, 0x400, 48, 0x0, 1, 0x0, 0x0, 0x0, 0x0, 0x0, false, false⟩,
  ⟨"ING_ST_CLIP_COUNT", 0x3000BC, 0x400, 48, 0x0, 1, 0x0, 0x0, 0x0, 0x0, 0x0, false, false⟩,
  ⟨"ING_ST_OFFLOAD_COUNT", 0x3000C0, 0x400, 48, 0x0, 1, 0x0, 0x0, 0x0, 0x0, 0x0, false, false⟩,
  ⟨"ING_ST_POINT_SKIP_COUNT", 0x3000C4, 0x400, 48, 0x0, 1, 0x0, 0x0, 0x0, 0x0, 0x0, false, false⟩]

/-- Registers of ING (Tables 09-7 to 09-11), part 2. -/
def regsIng1 : List RegRow := [
  ⟨"ING_ST_ABANDON_COUNT", 0x3000C8, 0x400, 48, 0x0, 1, 0x0, 0x0, 0x0, 0x0, 0x0, false, false⟩,
  ⟨"ING_ST_NEUTRAL_COUNT", 0x3000CC, 0x400, 48, 0x0, 1, 0x0, 0x0, 0x0, 0x0, 0x0, false, false⟩,
  ⟨"ING_ST_LAST_SAMPLE", 0x3000D0, 0x400, 48, 0x0, 1, 0x0, 0x0, 0x0, 0x0, 0x0, false, false⟩,
  ⟨"ING_ST_LAST_GOOD", 0x3000D4, 0x400, 48, 0x0, 1, 0x0, 0x0, 0x0, 0x0, 0x0, false, false⟩,
  ⟨"ING_ST_ROI_VERSION", 0x3000D8, 0x400, 48, 0x0, 1, 0x0, 0x0, 0x0, 0x0, 0x0, false, false⟩,
  ⟨"ING_ST_JOB", 0x3000DC, 0x400, 48, 0x0, 1, 0x0, 0x0, 0x0, 0x0, 0x0, false, false⟩,
  ⟨"ING_OFFLOAD_CFG", 0x30F000, 0x0, 1, 0x0, 1, 0x87FF07FF, 0x0, 0x0, 0x0, 0x3000200, false, false⟩,
  ⟨"ING_QUEUE", 0x30F004, 0x0, 1, 0x0, 1, 0x0, 0x0, 0x0, 0x0, 0x0, false, false⟩,
  ⟨"ING_GLB_STAT", 0x30F008, 0x0, 1, 0x0, 1, 0x0, 0x3, 0x0, 0x0, 0x0, false, false⟩,
  ⟨"ING_QFULL_COUNT", 0x30F00C, 0x0, 1, 0x0, 1, 0x0, 0x0, 0x0, 0x0, 0x0, false, false⟩,
  ⟨"ING_OFFLOAD_ON_COUNT", 0x30F010, 0x0, 1, 0x0, 1, 0x0, 0x0, 0x0, 0x0, 0x0, false, false⟩]

/-- Registers of CTL (Tables 11-5 to 11-9), part 1. -/
def regsCtl0 : List RegRow := [
  ⟨"CTL_CFG", 0x400000, 0x800, 64, 0x0, 1, 0xFF033F, 0x0, 0x0, 0x0, 0x300000, false, false⟩,
  ⟨"CTL_FB_SRC", 0x400004, 0x800, 64, 0x0, 1, 0xFE000000, 0x0, 0x0, 0x0, 0x0, false, false⟩,
  ⟨"CTL_FB_ID", 0x400008, 0x800, 64, 0x0, 1, 0xFFFFFFFF, 0x0, 0x0, 0x0, 0x0, false, false⟩,
  ⟨"CTL_FB_FIELD", 0x40000C, 0x800, 64, 0x0, 1, 0xFFF0FFFF, 0x0, 0x0, 0x0, 0x0, false, false⟩,
  ⟨"POS_SCALE", 0x400010, 0x800, 64, 0x0, 1, 0xFFFFFFFF, 0x0, 0x0, 0x0, 0x3F800000, false, false⟩,
  ⟨"VEL_SCALE", 0x400014, 0x800, 64, 0x0, 1, 0xFFFFFFFF, 0x0, 0x0, 0x0, 0x3F800000, false, false⟩,
  ⟨"CTL_OUT_CFG", 0x400018, 0x800, 64, 0x0, 1, 0xFFEFF000, 0x0, 0x0, 0x0, 0x0, false, false⟩,
  ⟨"CTL_OUT_FIELD", 0x40001C, 0x800, 64, 0x0, 1, 0xFFFF, 0x0, 0x0, 0x0, 0x0, false, false⟩,
  ⟨"CTL_OUT_ID", 0x400020, 0x800, 64, 0x0, 1, 0x1FFFFFFF, 0x0, 0x0, 0x0, 0x0, false, false⟩,
  ⟨"OUT_SCALE", 0x400024, 0x800, 64, 0x0, 1, 0xFFFFFFFF, 0x0, 0x0, 0x0, 0x3F800000, false, false⟩,
  ⟨"OUT_STOP", 0x400028, 0x800, 64, 0x0, 1, 0xFFFFFFFF, 0x0, 0x0, 0x0, 0x0, false, false⟩,
  ⟨"V_MAX", 0x400040, 0x800, 64, 0x0, 1, 0xFFFFFFFF, 0x0, 0x0, 0x0, 0x0, false, false⟩,
  ⟨"A_MAX", 0x400044, 0x800, 64, 0x0, 1, 0xFFFFFFFF, 0x0, 0x0, 0x0, 0x0, false, false⟩,
  ⟨"J_MAX", 0x400048, 0x800, 64, 0x0, 1, 0xFFFFFFFF, 0x0, 0x0, 0x0, 0x0, false, false⟩,
  ⟨"P_MIN", 0x40004C, 0x800, 64, 0x0, 1, 0xFFFFFFFF, 0x0, 0x0, 0x0, 0xFF7FFFFF, false, false⟩,
  ⟨"P_MAX", 0x400050, 0x800, 64, 0x0, 1, 0xFFFFFFFF, 0x0, 0x0, 0x0, 0x7F7FFFFF, false, false⟩,
  ⟨"POS_WIN", 0x400054, 0x800, 64, 0x0, 1, 0xFFFFFFFF, 0x0, 0x0, 0x0, 0x0, false, false⟩,
  ⟨"VEL_WIN", 0x400058, 0x800, 64, 0x0, 1, 0xFFFFFFFF, 0x0, 0x0, 0x0, 0x0, false, false⟩,
  ⟨"FOLLOW_LIM", 0x40005C, 0x800, 64, 0x0, 1, 0xFFFFFFFF, 0x0, 0x0, 0x0, 0x7F7FFFFF, false, false⟩,
  ⟨"FOLLOW_TICKS", 0x400060, 0x800, 64, 0x0, 1, 0xFFFF, 0x0, 0x0, 0x0, 0x1, false, false⟩,
  ⟨"OUT_MIN", 0x400064, 0x800, 64, 0x0, 1, 0xFFFFFFFF, 0x0, 0x0, 0x0, 0xFF7FFFFF, false, false⟩,
  ⟨"OUT_MAX", 0x400068, 0x800, 64, 0x0, 1, 0xFFFFFFFF, 0x0, 0x0, 0x0, 0x7F7FFFFF, false, false⟩,
  ⟨"OUT_RATE", 0x40006C, 0x800, 64, 0x0, 1, 0xFFFFFFFF, 0x0, 0x0, 0x0, 0x7F7FFFFF, false, false⟩,
  ⟨"CHK_TOL", 0x400070, 0x800, 64, 0x0, 1, 0xFFFFFFFF, 0x0, 0x0, 0x0, 0x0, false, false⟩]

/-- Registers of CTL (Tables 11-5 to 11-9), part 2. -/
def regsCtl1 : List RegRow := [
  ⟨"KP_POS", 0x400080, 0x800, 64, 0x0, 1, 0xFFFFFFFF, 0x0, 0x0, 0x0, 0x0, false, false⟩,
  ⟨"KI_POS", 0x400084, 0x800, 64, 0x0, 1, 0xFFFFFFFF, 0x0, 0x0, 0x0, 0x0, false, false⟩,
  ⟨"KD_POS", 0x400088, 0x800, 64, 0x0, 1, 0xFFFFFFFF, 0x0, 0x0, 0x0, 0x0, false, false⟩,
  ⟨"ILIM_POS", 0x40008C, 0x800, 64, 0x0, 1, 0xFFFFFFFF, 0x0, 0x0, 0x0, 0x0, false, false⟩,
  ⟨"KVF", 0x400090, 0x800, 64, 0x0, 1, 0xFFFFFFFF, 0x0, 0x0, 0x0, 0x0, false, false⟩,
  ⟨"KP_VEL", 0x400094, 0x800, 64, 0x0, 1, 0xFFFFFFFF, 0x0, 0x0, 0x0, 0x0, false, false⟩,
  ⟨"KI_VEL", 0x400098, 0x800, 64, 0x0, 1, 0xFFFFFFFF, 0x0, 0x0, 0x0, 0x0, false, false⟩,
  ⟨"KD_VEL", 0x40009C, 0x800, 64, 0x0, 1, 0xFFFFFFFF, 0x0, 0x0, 0x0, 0x0, false, false⟩,
  ⟨"ILIM_VEL", 0x4000A0, 0x800, 64, 0x0, 1, 0xFFFFFFFF, 0x0, 0x0, 0x0, 0x0, false, false⟩,
  ⟨"KAF", 0x4000A4, 0x800, 64, 0x0, 1, 0xFFFFFFFF, 0x0, 0x0, 0x0, 0x0, false, false⟩,
  ⟨"FRIC_VDB", 0x4000A8, 0x800, 64, 0x0, 1, 0xFFFFFFFF, 0x0, 0x0, 0x0, 0x0, false, false⟩,
  ⟨"TBL_ORIGIN", 0x4000AC, 0x800, 64, 0x0, 1, 0xFFFFFFFF, 0x0, 0x0, 0x0, 0x0, false, false⟩,
  ⟨"TBL_SCALE", 0x4000B0, 0x800, 64, 0x0, 1, 0xFFFFFFFF, 0x0, 0x0, 0x0, 0x3F800000, false, false⟩,
  ⟨"CTL_STAT", 0x400100, 0x800, 64, 0x0, 1, 0x0, 0x1F0, 0x0, 0x0, 0x0, false, false⟩,
  ⟨"CTL_OWNER", 0x400104, 0x800, 64, 0x0, 1, 0x0, 0x0, 0x0, 0x0, 0x0, false, false⟩,
  ⟨"CTL_STALE_COUNT", 0x400108, 0x800, 64, 0x0, 1, 0x0, 0x0, 0x0, 0x0, 0x0, false, false⟩,
  ⟨"CTL_FB_SUPERSEDED_COUNT", 0x40010C, 0x800, 64, 0x0, 1, 0x0, 0x0, 0x0, 0x0, 0x0, false, false⟩,
  ⟨"CTL_LATE_COUNT", 0x400110, 0x800, 64, 0x0, 1, 0x0, 0x0, 0x0, 0x0, 0x0, false, false⟩,
  ⟨"CTL_SUPERSEDED_COUNT", 0x400114, 0x800, 64, 0x0, 1, 0x0, 0x0, 0x0, 0x0, 0x0, false, false⟩,
  ⟨"CTL_REFUSE_COUNT", 0x400118, 0x800, 64, 0x0, 1, 0x0, 0x0, 0x0, 0x0, 0x0, false, false⟩,
  ⟨"CTL_REPLACED_COUNT", 0x40011C, 0x800, 64, 0x0, 1, 0x0, 0x0, 0x0, 0x0, 0x0, false, false⟩,
  ⟨"CTL_CLIP_COUNT", 0x400120, 0x800, 64, 0x0, 1, 0x0, 0x0, 0x0, 0x0, 0x0, false, false⟩,
  ⟨"CTL_FB_INVALID_COUNT", 0x400124, 0x800, 64, 0x0, 1, 0x0, 0x0, 0x0, 0x0, 0x0, false, false⟩,
  ⟨"CTL_CUT_COUNT", 0x400128, 0x800, 64, 0x0, 1, 0x0, 0x0, 0x0, 0x0, 0x0, false, false⟩]

/-- Registers of CTL (Tables 11-5 to 11-9), part 3. -/
def regsCtl2 : List RegRow := [
  ⟨"CTL_QUEUE", 0x40012C, 0x800, 64, 0x0, 1, 0x0, 0x0, 0x0, 0x0, 0x0, false, false⟩,
  ⟨"CTL_CUR_TAG", 0x400130, 0x800, 64, 0x0, 1, 0x0, 0x0, 0x0, 0x0, 0x0, false, false⟩,
  ⟨"P_REF", 0x400140, 0x800, 64, 0x0, 1, 0x0, 0x0, 0x0, 0x0, 0x0, false, false⟩,
  ⟨"V_REF", 0x400144, 0x800, 64, 0x0, 1, 0x0, 0x0, 0x0, 0x0, 0x0, false, false⟩,
  ⟨"P_FB", 0x400148, 0x800, 64, 0x0, 1, 0x0, 0x0, 0x0, 0x0, 0x0, false, false⟩,
  ⟨"V_FB", 0x40014C, 0x800, 64, 0x0, 1, 0x0, 0x0, 0x0, 0x0, 0x0, false, false⟩,
  ⟨"U_OUT", 0x400150, 0x800, 64, 0x0, 1, 0x0, 0x0, 0x0, 0x0, 0x0, false, false⟩,
  ⟨"CTL_TRC_CFG", 0x400200, 0x800, 64, 0x0, 1, 0xF01FFFFF, 0x0, 0x0, 0x0, 0x0, true, false⟩,
  ⟨"CTL_TRC_MASK", 0x400204, 0x800, 64, 0x0, 1, 0xFFFFFFFF, 0x0, 0x0, 0x0, 0x0, true, false⟩,
  ⟨"CTL_TRC_LEVEL", 0x400208, 0x800, 64, 0x0, 1, 0xFFFFFFFF, 0x0, 0x0, 0x0, 0x0, true, false⟩,
  ⟨"CTL_TRC_STAT", 0x40020C, 0x800, 64, 0x0, 1, 0x0, 0x0, 0x0, 0x0, 0x0, true, false⟩,
  ⟨"CTL_TRC_TICK", 0x400210, 0x800, 64, 0x0, 1, 0x0, 0x0, 0x0, 0x0, 0x0, true, false⟩,
  ⟨"CTL_OUT_TMPL[w]", 0x400400, 0x800, 64, 0x4, 32, 0xFFFFFFFF, 0x0, 0x0, 0x0, 0x0, false, false⟩]

/-- Registers of CAN (Tables 12-4 to 12-7), part 1. DESIGN CHOICE (log 119): the two words of CAN_SAFE_DATA have no
latch; the spec does not say whether they are one wide quantity. -/
def regsCan0 : List RegRow := [
  ⟨"CAN_CFG", 0x500000, 0x1000, 8, 0x0, 1, 0x3FF3, 0x0, 0x0, 0x0, 0x1300, false, false⟩,
  ⟨"CAN_NBT", 0x500004, 0x1000, 8, 0x0, 1, 0x7F7FFF1F, 0x0, 0x0, 0x0, 0xF0F3E00, false, false⟩,
  ⟨"CAN_DBT", 0x500008, 0x1000, 8, 0x0, 1, 0x8F0F1F1F, 0x0, 0x0, 0x0, 0x81010600, false, false⟩,
  ⟨"CAN_TDC", 0x50000C, 0x1000, 8, 0x0, 1, 0x7F, 0x0, 0x0, 0x0, 0x8, false, false⟩,
  ⟨"CAN_SAFE_ID", 0x500010, 0x1000, 8, 0x0, 1, 0x3FFFFFFF, 0x0, 0x0, 0x0, 0x0, false, false⟩,
  ⟨"CAN_SAFE_FMT", 0x500014, 0x1000, 8, 0x0, 1, 0x3F, 0x0, 0x0, 0x0, 0x0, false, false⟩,
  ⟨"CAN_SAFE_DATA[0]", 0x500018, 0x1000, 8, 0x0, 1, 0xFFFFFFFF, 0x0, 0x0, 0x0, 0x0, false, false⟩,
  ⟨"CAN_SAFE_DATA[1]", 0x50001C, 0x1000, 8, 0x0, 1, 0xFFFFFFFF, 0x0, 0x0, 0x0, 0x0, false, false⟩,
  ⟨"CAN_CTL", 0x500020, 0x1000, 8, 0x0, 1, 0x0, 0x0, 0x1, 0x0, 0x0, false, false⟩,
  ⟨"CAN_STAT", 0x500040, 0x1000, 8, 0x0, 1, 0x0, 0xFE0, 0x0, 0x0, 0x0, false, false⟩,
  ⟨"CAN_ERR_CNT", 0x500044, 0x1000, 8, 0x0, 1, 0x0, 0x0, 0x0, 0x0, 0x0, false, false⟩,
  ⟨"CAN_BUSOFF_COUNT", 0x500048, 0x1000, 8, 0x0, 1, 0x0, 0x0, 0x0, 0x0, 0x0, false, false⟩,
  ⟨"CAN_PASSIVE_COUNT", 0x50004C, 0x1000, 8, 0x0, 1, 0x0, 0x0, 0x0, 0x0, 0x0, false, false⟩,
  ⟨"CAN_RX_OVF_COUNT", 0x500050, 0x1000, 8, 0x0, 1, 0x0, 0x0, 0x0, 0x0, 0x0, false, false⟩,
  ⟨"CAN_RETRY_EXH_COUNT", 0x500054, 0x1000, 8, 0x0, 1, 0x0, 0x0, 0x0, 0x0, 0x0, false, false⟩,
  ⟨"CAN_TX_STALE_COUNT", 0x500058, 0x1000, 8, 0x0, 1, 0x0, 0x0, 0x0, 0x0, 0x0, false, false⟩,
  ⟨"CAN_TX_ABORT_COUNT", 0x50005C, 0x1000, 8, 0x0, 1, 0x0, 0x0, 0x0, 0x0, 0x0, false, false⟩,
  ⟨"CAN_ARB_LOST_COUNT", 0x500060, 0x1000, 8, 0x0, 1, 0x0, 0x0, 0x0, 0x0, 0x0, false, false⟩,
  ⟨"CAN_BIT_ERR_COUNT", 0x500064, 0x1000, 8, 0x0, 1, 0x0, 0x0, 0x0, 0x0, 0x0, false, false⟩,
  ⟨"CAN_STUFF_ERR_COUNT", 0x500068, 0x1000, 8, 0x0, 1, 0x0, 0x0, 0x0, 0x0, 0x0, false, false⟩,
  ⟨"CAN_FORM_ERR_COUNT", 0x50006C, 0x1000, 8, 0x0, 1, 0x0, 0x0, 0x0, 0x0, 0x0, false, false⟩,
  ⟨"CAN_ACK_ERR_COUNT", 0x500070, 0x1000, 8, 0x0, 1, 0x0, 0x0, 0x0, 0x0, 0x0, false, false⟩,
  ⟨"CAN_CRC_ERR_COUNT", 0x500074, 0x1000, 8, 0x0, 1, 0x0, 0x0, 0x0, 0x0, 0x0, false, false⟩,
  ⟨"CAN_PEX_COUNT", 0x500078, 0x1000, 8, 0x0, 1, 0x0, 0x0, 0x0, 0x0, 0x0, false, false⟩]

/-- Registers of CAN (Tables 12-4 to 12-7), part 2. -/
def regsCan1 : List RegRow := [
  ⟨"CAN_TX_COUNT", 0x50007C, 0x1000, 8, 0x0, 1, 0x0, 0x0, 0x0, 0x0, 0x0, false, false⟩,
  ⟨"CAN_RX_COUNT", 0x500080, 0x1000, 8, 0x0, 1, 0x0, 0x0, 0x0, 0x0, 0x0, false, false⟩,
  ⟨"CAN_UNMATCHED_COUNT", 0x500084, 0x1000, 8, 0x0, 1, 0x0, 0x0, 0x0, 0x0, 0x0, false, false⟩,
  ⟨"CAN_SAFE_COUNT", 0x500088, 0x1000, 8, 0x0, 1, 0x0, 0x0, 0x0, 0x0, 0x0, false, false⟩,
  ⟨"CAN_TXB_CTL[b]", 0x500100, 0x1000, 8, 0x8, 3, 0x0, 0x0, 0x0, 0x0, 0x0, false, false⟩,
  ⟨"CAN_TXB_ID[b]", 0x500104, 0x1000, 8, 0x8, 3, 0x0, 0x0, 0x0, 0x0, 0x0, false, false⟩,
  ⟨"CAN_RXF_LEVEL", 0x500120, 0x1000, 8, 0x0, 1, 0x0, 0x0, 0x0, 0x0, 0x0, false, false⟩,
  ⟨"CAN_QUEUE", 0x500124, 0x1000, 8, 0x0, 1, 0x0, 0x0, 0x0, 0x0, 0x0, false, false⟩,
  ⟨"CAN_RXF[i]", 0x500200, 0x1000, 8, 0x10, 32, 0xBFFFFFFF, 0x0, 0x0, 0x0, 0x0, false, false⟩,
  ⟨"CAN_RXF_MASK[i]", 0x500204, 0x1000, 8, 0x10, 32, 0x1FFFFFFF, 0x0, 0x0, 0x0, 0x0, false, false⟩,
  ⟨"CAN_RXF_RING[i]", 0x500208, 0x1000, 8, 0x10, 32, 0x1FFF, 0x0, 0x0, 0x0, 0x0, false, false⟩]

/-- Registers of ETH (Tables 19-7, 10-7). -/
def regsEth : List RegRow := [
  ⟨"ETH_PORT_CFG", 0x600000, 0x4000, 4, 0x0, 1, 0x80000307, 0x0, 0x0, 0x0, 0x1, false, false⟩,
  ⟨"ETH_PORT_STAT", 0x600004, 0x4000, 4, 0x0, 1, 0x0, 0x2, 0x0, 0x0, 0x0, false, false⟩,
  ⟨"ETH_PORT_DOWN_COUNT", 0x600008, 0x4000, 4, 0x0, 1, 0x0, 0x0, 0x0, 0x0, 0x0, false, false⟩,
  ⟨"ETH_MAC_LO", 0x600010, 0x4000, 4, 0x0, 1, 0xFFFFFFFF, 0x0, 0x0, 0x0, 0x0, false, true⟩,
  ⟨"ETH_MAC_HI", 0x600014, 0x4000, 4, 0x0, 1, 0xFFFF, 0x0, 0x0, 0x0, 0x0, false, false⟩,
  ⟨"ETH_LAUNCH_CFG", 0x600200, 0x4000, 4, 0x0, 1, 0xFFFF, 0x0, 0x0, 0x0, 0x80, false, false⟩,
  ⟨"ETH_LAUNCH_STAT", 0x600204, 0x4000, 4, 0x0, 1, 0x0, 0x7, 0x0, 0x0, 0x0, false, false⟩,
  ⟨"ETH_LATE_SENT_COUNT", 0x600208, 0x4000, 4, 0x0, 1, 0x0, 0x0, 0x0, 0x0, 0x0, false, false⟩,
  ⟨"ETH_LATE_DROP_COUNT", 0x60020C, 0x4000, 4, 0x0, 1, 0x0, 0x0, 0x0, 0x0, 0x0, false, false⟩,
  ⟨"ETH_LAUNCH_RANGE_COUNT", 0x600210, 0x4000, 4, 0x0, 1, 0x0, 0x0, 0x0, 0x0, 0x0, false, false⟩]

/-- Registers of LNK (Tables 08-8 to 08-14). -/
def regsLnk : List RegRow := [
  ⟨"LNK_CTL", 0x700000, 0x2000, 12, 0x0, 1, 0x1, 0x0, 0x2, 0x0, 0x0, false, false⟩,
  ⟨"LNK_STAT", 0x700004, 0x2000, 12, 0x0, 1, 0x0, 0xF, 0x0, 0x0, 0xF0000, false, false⟩,
  ⟨"LNK_PEER", 0x700008, 0x2000, 12, 0x0, 1, 0x0, 0x0, 0x0, 0x0, 0x0, false, false⟩,
  ⟨"LNK_FEC_CORR_LO", 0x70000C, 0x2000, 12, 0x0, 1, 0x0, 0x0, 0x0, 0x0, 0x0, false, true⟩,
  ⟨"LNK_FEC_CORR_HI", 0x700010, 0x2000, 12, 0x0, 1, 0x0, 0x0, 0x0, 0x0, 0x0, false, false⟩,
  ⟨"LNK_FEC_UNCORR_COUNT", 0x700014, 0x2000, 12, 0x0, 1, 0x0, 0x0, 0x0, 0x0, 0x0, false, false⟩,
  ⟨"LNK_RETRY_COUNT", 0x700018, 0x2000, 12, 0x0, 1, 0x0, 0x0, 0x0, 0x0, 0x0, false, false⟩,
  ⟨"LNK_RETRAIN_COUNT", 0x70001C, 0x2000, 12, 0x0, 1, 0x0, 0x0, 0x0, 0x0, 0x0, false, false⟩,
  ⟨"LNK_DOWN_COUNT", 0x700020, 0x2000, 12, 0x0, 1, 0x0, 0x0, 0x0, 0x0, 0x0, false, false⟩,
  ⟨"LNK_MISWIRE_COUNT", 0x700024, 0x2000, 12, 0x0, 1, 0x0, 0x0, 0x0, 0x0, 0x0, false, false⟩,
  ⟨"LNK_TOPO_CFG", 0x780000, 0x0, 1, 0x0, 1, 0xF3F7F03, 0x0, 0x0, 0x0, 0x1010100, false, false⟩,
  ⟨"LNK_PKG_CFG", 0x780004, 0x0, 1, 0x0, 1, 0x3FF03FF, 0x0, 0x0, 0x0, 0x0, false, false⟩,
  ⟨"LNK_FAB_STAT", 0x780008, 0x0, 1, 0x0, 1, 0x0, 0x38, 0x0, 0x0, 0x0, false, false⟩,
  ⟨"LNK_FAB_COORD", 0x78000C, 0x0, 1, 0x0, 1, 0x0, 0x0, 0x0, 0x0, 0x0, false, false⟩,
  ⟨"LNK_COLL_ABORT_COUNT", 0x780010, 0x0, 1, 0x0, 1, 0x0, 0x0, 0x0, 0x0, 0x0, false, false⟩,
  ⟨"LNK_UNREACH_COUNT", 0x780014, 0x0, 1, 0x0, 1, 0x0, 0x0, 0x0, 0x0, 0x0, false, false⟩,
  ⟨"LNK_LEAD_LOST_COUNT", 0x780018, 0x0, 1, 0x0, 1, 0x0, 0x0, 0x0, 0x0, 0x0, false, false⟩,
  ⟨"LNK_COLL_COUNT", 0x78001C, 0x0, 1, 0x0, 1, 0x0, 0x0, 0x0, 0x0, 0x0, false, false⟩]

/-- Registers of SAF (Tables 13-6 to 13-10), part 1. -/
def regsSaf0 : List RegRow := [
  ⟨"SAF_STAT", 0x800000, 0x0, 1, 0x0, 1, 0x0, 0xFF, 0x0, 0x0, 0x0, false, false⟩,
  ⟨"SAF_REACT", 0x800004, 0x0, 1, 0x0, 1, 0xFFFFFF, 0x0, 0x0, 0x0, 0xFFFFFF, false, false⟩,
  ⟨"SAF_CHK_CFG", 0x800008, 0x0, 1, 0x0, 1, 0x1, 0x0, 0x0, 0x0, 0x0, false, false⟩,
  ⟨"SAF_WD_PRE", 0x80000C, 0x0, 1, 0x0, 1, 0xFFFF, 0x0, 0x0, 0x0, 0x2710, false, false⟩,
  ⟨"SAF_WD_PERC", 0x800010, 0x0, 1, 0x0, 1, 0x8F0FFFFF, 0x0, 0x0, 0x0, 0x1000000, false, false⟩,
  ⟨"SAF_WD_SEG", 0x800014, 0x0, 1, 0x0, 1, 0x8000FFFF, 0x0, 0x0, 0x0, 0xC8, false, false⟩,
  ⟨"SAF_CANARY_CFG", 0x800018, 0x0, 1, 0x0, 1, 0x8000FFFF, 0x0, 0x0, 0x0, 0x7D0, false, false⟩,
  ⟨"SAF_SI_CFG[i]", 0x800020, 0x0, 1, 0x4, 16, 0xCFFF03FF, 0x0, 0x0, 0x0, 0xA0064, false, false⟩,
  ⟨"SAF_SI_STATE", 0x800060, 0x0, 1, 0x0, 1, 0x0, 0x0, 0x0, 0x0, 0x0, false, false⟩,
  ⟨"SAF_SI_RUN", 0x800064, 0x0, 1, 0x0, 1, 0x0, 0xFFFF0000, 0x0, 0x0, 0x0, false, false⟩,
  ⟨"SAF_SSO_CFG[g]", 0x800080, 0x10, 4, 0x0, 1, 0xC00000FF, 0x0, 0x0, 0x0, 0x40000000, false, false⟩,
  ⟨"SAF_SSO_AXES_LO[g]", 0x800084, 0x10, 4, 0x0, 1, 0xFFFFFFFF, 0x0, 0x0, 0x0, 0x0, false, true⟩,
  ⟨"SAF_SSO_AXES_HI[g]", 0x800088, 0x10, 4, 0x0, 1, 0xFFFFFFFF, 0x0, 0x0, 0x0, 0x0, false, false⟩,
  ⟨"SAF_SSO_STAT[g]", 0x80008C, 0x10, 4, 0x0, 1, 0x0, 0x4, 0x0, 0x0, 0x0, false, false⟩,
  ⟨"SAF_ST_WD[s]", 0x800100, 0x10, 48, 0x0, 1, 0xC00000FF, 0x0, 0x0, 0x0, 0x20, false, false⟩,
  ⟨"SAF_ST_GAP[s]", 0x800104, 0x10, 48, 0x0, 1, 0xFFFFFFFF, 0x0, 0x0, 0x0, 0x1F40000, false, false⟩,
  ⟨"SAF_ST_CANARY[s]", 0x800108, 0x10, 48, 0x0, 1, 0x0, 0x0, 0x0, 0x0, 0x0, false, false⟩,
  ⟨"SAF_CHK_DISAGREE_COUNT", 0x800400, 0x0, 1, 0x0, 1, 0x0, 0x0, 0x0, 0x0, 0x0, false, false⟩,
  ⟨"SAF_CHK_STOP_COUNT", 0x800404, 0x0, 1, 0x0, 1, 0x0, 0x0, 0x0, 0x0, 0x0, false, false⟩,
  ⟨"SAF_CANARY_RUN_COUNT", 0x800408, 0x0, 1, 0x0, 1, 0x0, 0x0, 0x0, 0x0, 0x0, false, false⟩,
  ⟨"SAF_CANARY_FAIL_COUNT", 0x80040C, 0x0, 1, 0x0, 1, 0x0, 0x0, 0x0, 0x0, 0x0, false, false⟩,
  ⟨"SAF_CANARY_DEFER_COUNT", 0x800410, 0x0, 1, 0x0, 1, 0x0, 0x0, 0x0, 0x0, 0x0, false, false⟩,
  ⟨"SAF_WD_MISS_COUNT", 0x800414, 0x0, 1, 0x0, 1, 0x0, 0x0, 0x0, 0x0, 0x0, false, false⟩,
  ⟨"SAF_SI_DEMAND_COUNT", 0x800418, 0x0, 1, 0x0, 1, 0x0, 0x0, 0x0, 0x0, 0x0, false, false⟩]

/-- Registers of SAF (Tables 13-6 to 13-10), part 2. -/
def regsSaf1 : List RegRow := [
  ⟨"SAF_SI_DISC_COUNT", 0x80041C, 0x0, 1, 0x0, 1, 0x0, 0x0, 0x0, 0x0, 0x0, false, false⟩,
  ⟨"SAF_SSO_FAULT_COUNT", 0x800420, 0x0, 1, 0x0, 1, 0x0, 0x0, 0x0, 0x0, 0x0, false, false⟩,
  ⟨"SAF_STOP_COUNT", 0x800424, 0x0, 1, 0x0, 1, 0x0, 0x0, 0x0, 0x0, 0x0, false, false⟩,
  ⟨"SAF_RESET_COUNT", 0x800428, 0x0, 1, 0x0, 1, 0x0, 0x0, 0x0, 0x0, 0x0, false, false⟩,
  ⟨"SAF_LAST", 0x800440, 0x0, 1, 0x0, 1, 0x0, 0x0, 0x0, 0x0, 0x0, false, false⟩,
  ⟨"SAF_LAST_TICK_LO", 0x800444, 0x0, 1, 0x0, 1, 0x0, 0x0, 0x0, 0x0, 0x0, false, true⟩,
  ⟨"SAF_LAST_TICK_HI", 0x800448, 0x0, 1, 0x0, 1, 0x0, 0x0, 0x0, 0x0, 0x0, false, false⟩]

/-- Registers of TLY (Tables 18-5, 18-6). -/
def regsTly : List RegRow := [
  ⟨"TLY_CTL", 0x900000, 0x0, 1, 0x0, 1, 0x0, 0x0, 0xF, 0x0, 0x0, false, false⟩,
  ⟨"TLY_STAT", 0x900004, 0x0, 1, 0x0, 1, 0x0, 0xC, 0x0, 0x0, 0x0, false, false⟩,
  ⟨"TLY_SNAP_COUNT", 0x900008, 0x0, 1, 0x0, 1, 0x0, 0x0, 0x0, 0x0, 0x0, false, false⟩,
  ⟨"TLY_SAT_COUNT", 0x90000C, 0x0, 1, 0x0, 1, 0x0, 0x0, 0x0, 0x0, 0x0, false, false⟩,
  ⟨"TLY_SNAP_TICK_LO", 0x900010, 0x0, 1, 0x0, 1, 0x0, 0x0, 0x0, 0x0, 0x0, false, true⟩,
  ⟨"TLY_SNAP_TICK_HI", 0x900014, 0x0, 1, 0x0, 1, 0x0, 0x0, 0x0, 0x0, 0x0, false, false⟩,
  ⟨"TLY_CNT_CFG", 0x901000, 0x0, 1, 0x20, 64, 0xE000FFFF, 0x0, 0x0, 0x0, 0xFF00, false, false⟩,
  ⟨"TLY_CNT_THRESH", 0x901004, 0x0, 1, 0x20, 64, 0xFFFF, 0x0, 0x0, 0x0, 0x0, false, false⟩,
  ⟨"VALUE_LO", 0x901008, 0x0, 1, 0x20, 64, 0x0, 0x0, 0x0, 0x0, 0x0, false, true⟩,
  ⟨"VALUE_HI", 0x90100C, 0x0, 1, 0x20, 64, 0x0, 0x0, 0x0, 0x0, 0x0, false, false⟩,
  ⟨"SNAP_LO", 0x901010, 0x0, 1, 0x20, 64, 0x0, 0x0, 0x0, 0x0, 0x0, false, true⟩,
  ⟨"SNAP_HI", 0x901014, 0x0, 1, 0x20, 64, 0x0, 0x0, 0x0, 0x0, 0x0, false, false⟩,
  ⟨"TLY_CNT_CFG", 0x910000, 0x1000, 7, 0x20, 32, 0xE000FFFF, 0x0, 0x0, 0x0, 0xFF00, false, false⟩,
  ⟨"TLY_CNT_THRESH", 0x910004, 0x1000, 7, 0x20, 32, 0xFFFF, 0x0, 0x0, 0x0, 0x0, false, false⟩,
  ⟨"VALUE_LO", 0x910008, 0x1000, 7, 0x20, 32, 0x0, 0x0, 0x0, 0x0, 0x0, false, true⟩,
  ⟨"VALUE_HI", 0x91000C, 0x1000, 7, 0x20, 32, 0x0, 0x0, 0x0, 0x0, 0x0, false, false⟩,
  ⟨"SNAP_LO", 0x910010, 0x1000, 7, 0x20, 32, 0x0, 0x0, 0x0, 0x0, 0x0, false, true⟩,
  ⟨"SNAP_HI", 0x910014, 0x1000, 7, 0x20, 32, 0x0, 0x0, 0x0, 0x0, 0x0, false, false⟩]

/-- Registers of MGT (Tables 16-12, 17-9), part 1. -/
def regsMgt0 : List RegRow := [
  ⟨"MGT_BOOT_STAT", 0xA00000, 0x0, 1, 0x0, 1, 0x0, 0x8, 0x0, 0x0, 0x0, false, false⟩,
  ⟨"MGT_BOOT_COUNT", 0xA00004, 0x0, 1, 0x0, 1, 0x0, 0x0, 0x0, 0x0, 0x0, false, false⟩,
  ⟨"MGT_FW_VERSION", 0xA00008, 0x0, 1, 0x0, 1, 0x0, 0x0, 0x0, 0x0, 0x0, false, false⟩,
  ⟨"MGT_FW_SVN", 0xA0000C, 0x0, 1, 0x0, 1, 0x0, 0x0, 0x0, 0x0, 0x0, false, false⟩,
  ⟨"MGT_DRV_MIN", 0xA00010, 0x0, 1, 0x0, 1, 0x0, 0x0, 0x0, 0x0, 0x0, false, false⟩,
  ⟨"MGT_DRV_MAX", 0xA00014, 0x0, 1, 0x0, 1, 0x0, 0x0, 0x0, 0x0, 0x0, false, false⟩,
  ⟨"MGT_DRV_VERSION", 0xA00018, 0x0, 1, 0x0, 1, 0x0, 0x0, 0x0, 0xFFFFFFFF, 0x0, false, false⟩,
  ⟨"MGT_DRV_STAT", 0xA0001C, 0x0, 1, 0x0, 1, 0x0, 0x0, 0x0, 0x0, 0x0, false, false⟩,
  ⟨"MGT_DRV_REFUSE_COUNT", 0xA00020, 0x0, 1, 0x0, 1, 0x0, 0x0, 0x0, 0x0, 0x0, false, false⟩,
  ⟨"MGT_BOOT_CTL", 0xA00024, 0x0, 1, 0x0, 1, 0x0, 0x0, 0x1, 0x0, 0x0, false, false⟩,
  ⟨"MGT_BOOT_MARKS", 0xA00028, 0x0, 1, 0x0, 1, 0x0, 0x0, 0x0, 0x0, 0x0, false, false⟩,
  ⟨"MGT_DUMP_STAT", 0xA00030, 0x0, 1, 0x0, 1, 0x0, 0x0, 0x0, 0x0, 0x0, false, false⟩,
  ⟨"MGT_DUMP_PAGE", 0xA00034, 0x0, 1, 0x0, 1, 0x0, 0x0, 0x0, 0x7F, 0x0, false, false⟩,
  ⟨"MGT_FW_CRASH_COUNT", 0xA00038, 0x0, 1, 0x0, 1, 0x0, 0x0, 0x0, 0x0, 0x0, false, false⟩,
  ⟨"MGT_PILOT_STAT[c]", 0xA00040, 0x0, 1, 0x4, 4, 0x0, 0x0, 0x0, 0x0, 0x0, false, false⟩,
  ⟨"MGT_STATE", 0xA00100, 0x0, 1, 0x0, 1, 0x0, 0x0, 0x0, 0x0, 0x1, false, false⟩,
  ⟨"MGT_UPDATE_STAT", 0xA00104, 0x0, 1, 0x0, 1, 0x0, 0x0, 0x0, 0x0, 0x0, false, false⟩,
  ⟨"MGT_TEMP[i]", 0xA00200, 0x0, 1, 0x4, 64, 0x0, 0x0, 0x0, 0x0, 0x0, false, false⟩,
  ⟨"MGT_THERM", 0xA00300, 0x0, 1, 0x0, 1, 0x0, 0x3, 0x0, 0x0, 0x0, false, false⟩,
  ⟨"MGT_GATE_COUNT", 0xA00304, 0x0, 1, 0x0, 1, 0x0, 0x0, 0x0, 0x0, 0x0, false, false⟩,
  ⟨"MGT_OVER_RATED_COUNT", 0xA00308, 0x0, 1, 0x0, 1, 0x0, 0x0, 0x0, 0x0, 0x0, false, false⟩,
  ⟨"MGT_GATE[d]", 0xA00310, 0x0, 1, 0x4, 8, 0x0, 0x0, 0x0, 0x0, 0x0, false, false⟩,
  ⟨"MGT_VMON[r]", 0xA00340, 0x0, 1, 0x4, 14, 0x0, 0x0, 0x0, 0x0, 0x0, false, false⟩,
  ⟨"MGT_AGE[n]", 0xA00400, 0x0, 1, 0x10, 7, 0x0, 0x0, 0x0, 0x0, 0x0, false, false⟩]

/-- Registers of MGT (Tables 16-12, 17-9), part 2. -/
def regsMgt1 : List RegRow := [
  ⟨"MGT_AGE_LIFE[n]", 0xA00404, 0x0, 1, 0x10, 7, 0x0, 0x0, 0x0, 0x0, 0xFFFF, false, false⟩,
  ⟨"MGT_AGE_WEEK[n]", 0xA00408, 0x0, 1, 0x10, 7, 0x0, 0x0, 0x0, 0x0, 0x0, false, false⟩,
  ⟨"MGT_LOG_SEQ", 0xA00500, 0x0, 1, 0x0, 1, 0x0, 0x0, 0x0, 0x0, 0x0, false, false⟩,
  ⟨"MGT_LOG_DROP_COUNT", 0xA00504, 0x0, 1, 0x0, 1, 0x0, 0x0, 0x0, 0x0, 0x0, false, false⟩,
  ⟨"MGT_PMBUS_ERR_COUNT", 0xA00508, 0x0, 1, 0x0, 1, 0x0, 0x0, 0x0, 0x0, 0x0, false, false⟩,
  ⟨"MGT_ROLE_ACTION_COUNT", 0xA0050C, 0x0, 1, 0x0, 1, 0x0, 0x0, 0x0, 0x0, 0x0, false, false⟩]

/-- Registers of CD and MC (Tables 02-11 to 02-15, 03-5 to 03-8, 04-9 to 04-14, 05-8 to 05-15, 16-13, 18-7), part 1. -/
def regsCd0 : List RegRow := [
  ⟨"MC_ID", 0x1000000, 0x1000000, 7, 0x10000, 17, 0x0, 0x0, 0x0, 0x0, 0x1F00, false, false⟩,
  ⟨"MC_COL_MAP", 0x1000004, 0x1000000, 7, 0x10000, 17, 0x0, 0x0, 0x0, 0x0, 0x0, false, false⟩,
  ⟨"MC_FAULT_STAT", 0x1000008, 0x1000000, 7, 0x10000, 17, 0x0, 0xF, 0x0, 0x0, 0x0, false, false⟩,
  ⟨"MC_FAULT_COUNT", 0x100000C, 0x1000000, 7, 0x10000, 17, 0x0, 0x0, 0x0, 0x0, 0x0, false, false⟩,
  ⟨"MC_SELFTEST_RESULT", 0x1000010, 0x1000000, 7, 0x10000, 17, 0x0, 0x0, 0x0, 0x0, 0x7F00, false, false⟩,
  ⟨"MC_QNT_CFG", 0x1000020, 0x1000000, 7, 0x10000, 17, 0x0, 0x0, 0x0, 0x0, 0x11, false, false⟩,
  ⟨"MC_QNT_ELEM_LO", 0x1000024, 0x1000000, 7, 0x10000, 17, 0x0, 0x0, 0x0, 0x0, 0x0, false, true⟩,
  ⟨"MC_QNT_ELEM_HI", 0x1000028, 0x1000000, 7, 0x10000, 17, 0x0, 0x0, 0x0, 0x0, 0x0, false, false⟩,
  ⟨"MC_QNT_CLIP_LO", 0x100002C, 0x1000000, 7, 0x10000, 17, 0x0, 0x0, 0x0, 0x0, 0x0, false, true⟩,
  ⟨"MC_QNT_CLIP_HI", 0x1000030, 0x1000000, 7, 0x10000, 17, 0x0, 0x0, 0x0, 0x0, 0x0, false, false⟩,
  ⟨"MC_QNT_NAN_LO", 0x1000034, 0x1000000, 7, 0x10000, 17, 0x0, 0x0, 0x0, 0x0, 0x0, false, true⟩,
  ⟨"MC_QNT_NAN_HI", 0x1000038, 0x1000000, 7, 0x10000, 17, 0x0, 0x0, 0x0, 0x0, 0x0, false, false⟩,
  ⟨"MC_MEM_STAT", 0x1000040, 0x1000000, 7, 0x10000, 17, 0x0, 0x7, 0x0, 0x0, 0x0, false, false⟩,
  ⟨"MC_MEM_COUNT", 0x1000044, 0x1000000, 7, 0x10000, 17, 0x0, 0x0, 0x0, 0x0, 0x0, false, false⟩,
  ⟨"MC_MEM_FAULT_INFO", 0x1000048, 0x1000000, 7, 0x10000, 17, 0x0, 0x0, 0x0, 0x0, 0x0, false, false⟩,
  ⟨"MC_BERTH_BANKS", 0x100004C, 0x1000000, 7, 0x10000, 17, 0x0, 0x0, 0x0, 0x0, 0x0, false, false⟩,
  ⟨"MC_SPAD_CORR_COUNT", 0x1000050, 0x1000000, 7, 0x10000, 17, 0x0, 0x0, 0x0, 0x0, 0x0, false, false⟩,
  ⟨"MC_BANK_OWNER_LO", 0x1000054, 0x1000000, 7, 0x10000, 17, 0x0, 0x0, 0x0, 0x0, 0x0, false, true⟩,
  ⟨"MC_BANK_OWNER_HI", 0x1000058, 0x1000000, 7, 0x10000, 17, 0x0, 0x0, 0x0, 0x0, 0x0, false, false⟩,
  ⟨"MC_TLY_BUSY_LO", 0x1000060, 0x1000000, 7, 0x10000, 17, 0x0, 0x0, 0x0, 0x0, 0x0, false, true⟩,
  ⟨"MC_TLY_BUSY_HI", 0x1000064, 0x1000000, 7, 0x10000, 17, 0x0, 0x0, 0x0, 0x0, 0x0, false, false⟩,
  ⟨"MC_MEM_FAULT_ADDR_LO", 0x1000068, 0x1000000, 7, 0x10000, 17, 0x0, 0x0, 0x0, 0x0, 0x0, false, true⟩,
  ⟨"MC_MEM_FAULT_ADDR_HI", 0x100006C, 0x1000000, 7, 0x10000, 17, 0x0, 0x0, 0x0, 0x0, 0x0, false, false⟩,
  ⟨"CD_BERTH_STAT", 0x1800000, 0x1000000, 7, 0x0, 1, 0x0, 0x1F, 0x0, 0x0, 0x0, false, false⟩]

/-- Registers of CD and MC (Tables 02-11 to 02-15, 03-5 to 03-8, 04-9 to 04-14, 05-8 to 05-15, 16-13, 18-7), part 2. -/
def regsCd1 : List RegRow := [
  ⟨"CD_BERTH_NUM", 0x1800004, 0x1000000, 7, 0x0, 1, 0x0, 0x0, 0x0, 0x0, 0x0, false, false⟩,
  ⟨"CD_BERTH_DROP_COUNT", 0x1800008, 0x1000000, 7, 0x0, 1, 0x0, 0x0, 0x0, 0x0, 0x0, false, false⟩,
  ⟨"CD_BERTH_REFUSE_COUNT", 0x180000C, 0x1000000, 7, 0x0, 1, 0x0, 0x0, 0x0, 0x0, 0x0, false, false⟩,
  ⟨"CD_BERTH_DENY_COUNT", 0x1800010, 0x1000000, 7, 0x0, 1, 0x0, 0x0, 0x0, 0x0, 0x0, false, false⟩,
  ⟨"CD_BERTH_NOCREDIT_COUNT", 0x1800014, 0x1000000, 7, 0x0, 1, 0x0, 0x0, 0x0, 0x0, 0x0, false, false⟩,
  ⟨"CD_BERTH_RANGE_COUNT", 0x1800018, 0x1000000, 7, 0x0, 1, 0x0, 0x0, 0x0, 0x0, 0x0, false, false⟩,
  ⟨"CD_BERTH_CTL", 0x1801000, 0x1000000, 7, 0x20, 256, 0x0, 0x0, 0x0, 0x0, 0x0, false, false⟩,
  ⟨"CD_BERTH_BASE", 0x1801004, 0x1000000, 7, 0x20, 256, 0x0, 0x0, 0x0, 0x0, 0x0, false, false⟩,
  ⟨"CD_BERTH_SIZE", 0x1801008, 0x1000000, 7, 0x20, 256, 0x0, 0x0, 0x0, 0x0, 0x0, false, false⟩,
  ⟨"CD_BERTH_SRC", 0x180100C, 0x1000000, 7, 0x20, 256, 0x0, 0x0, 0x0, 0x0, 0x0, false, false⟩,
  ⟨"CD_BERTH_CREDIT", 0x1801010, 0x1000000, 7, 0x20, 256, 0x0, 0x0, 0x0, 0x0, 0x0, false, false⟩,
  ⟨"CD_BERTH_DROP", 0x1801014, 0x1000000, 7, 0x20, 256, 0x0, 0x0, 0x0, 0x0, 0x0, false, false⟩,
  ⟨"CD_ECC_STAT", 0x1900000, 0x1000000, 7, 0x0, 1, 0x0, 0xF, 0x0, 0x0, 0x0, false, false⟩,
  ⟨"CD_DRAM_CORR_COUNT", 0x1900004, 0x1000000, 7, 0x0, 1, 0x0, 0x0, 0x0, 0x0, 0x0, false, false⟩,
  ⟨"CD_DRAM_UNCORR_COUNT", 0x1900008, 0x1000000, 7, 0x0, 1, 0x0, 0x0, 0x0, 0x0, 0x0, false, false⟩,
  ⟨"CD_POOL_CORR_COUNT", 0x190000C, 0x1000000, 7, 0x0, 1, 0x0, 0x0, 0x0, 0x0, 0x0, false, false⟩,
  ⟨"CD_POOL_UNCORR_COUNT", 0x1900010, 0x1000000, 7, 0x0, 1, 0x0, 0x0, 0x0, 0x0, 0x0, false, false⟩,
  ⟨"CD_FIRST_FAIL_LO", 0x1900014, 0x1000000, 7, 0x0, 1, 0x0, 0x0, 0x0, 0x0, 0x0, false, true⟩,
  ⟨"CD_FIRST_FAIL_HI", 0x1900018, 0x1000000, 7, 0x0, 1, 0x0, 0x0, 0x0, 0x0, 0x0, false, false⟩,
  ⟨"CD_DRAM_TRAIN[ch]", 0x1900100, 0x1000000, 7, 0x4, 8, 0x0, 0x0, 0x0, 0x0, 0x0, false, false⟩,
  ⟨"CD_DIE_BOOT", 0x1900120, 0x1000000, 7, 0x0, 1, 0x0, 0x0, 0x0, 0x0, 0x0, false, false⟩,
  ⟨"CD_KV_CFG", 0x1A00000, 0x1000000, 7, 0x0, 1, 0x0, 0x0, 0x0, 0x0, 0x0, false, false⟩,
  ⟨"CD_KV_PAGE_CFG", 0x1A00004, 0x1000000, 7, 0x0, 1, 0x0, 0x0, 0x0, 0x0, 0x0, false, false⟩,
  ⟨"POOL_PAGES", 0x1A00008, 0x1000000, 7, 0x0, 1, 0x0, 0x0, 0x0, 0x0, 0x0, false, false⟩]

/-- Registers of CD and MC (Tables 02-11 to 02-15, 03-5 to 03-8, 04-9 to 04-14, 05-8 to 05-15, 16-13, 18-7), part 3. -/
def regsCd2 : List RegRow := [
  ⟨"DRAM_PAGES", 0x1A0000C, 0x1000000, 7, 0x0, 1, 0x0, 0x0, 0x0, 0x0, 0x0, false, false⟩,
  ⟨"FREE_POOL", 0x1A00010, 0x1000000, 7, 0x0, 1, 0x0, 0x0, 0x0, 0x0, 0x0, false, false⟩,
  ⟨"RESERVED_POOL", 0x1A00014, 0x1000000, 7, 0x0, 1, 0x0, 0x0, 0x0, 0x0, 0x0, false, false⟩,
  ⟨"FREE_DRAM", 0x1A00018, 0x1000000, 7, 0x0, 1, 0x0, 0x0, 0x0, 0x0, 0x0, false, false⟩,
  ⟨"RESERVED_DRAM", 0x1A0001C, 0x1000000, 7, 0x0, 1, 0x0, 0x0, 0x0, 0x0, 0x0, false, false⟩,
  ⟨"FREE_ENTRY", 0x1A00020, 0x1000000, 7, 0x0, 1, 0x0, 0x0, 0x0, 0x0, 0x20000, false, false⟩,
  ⟨"CD_KV_STAT", 0x1A00024, 0x1000000, 7, 0x0, 1, 0x0, 0x3F, 0x0, 0x0, 0x0, false, false⟩,
  ⟨"CD_KV_MISMATCH_COUNT", 0x1A00028, 0x1000000, 7, 0x0, 1, 0x0, 0x0, 0x0, 0x0, 0x0, false, false⟩,
  ⟨"CD_KV_DEFER_COUNT", 0x1A0002C, 0x1000000, 7, 0x0, 1, 0x0, 0x0, 0x0, 0x0, 0x0, false, false⟩,
  ⟨"CD_KV_MOVE_COUNT", 0x1A00030, 0x1000000, 7, 0x0, 1, 0x0, 0x0, 0x0, 0x0, 0x0, false, false⟩,
  ⟨"CD_KV_SUSPEND_COUNT", 0x1A00034, 0x1000000, 7, 0x0, 1, 0x0, 0x0, 0x0, 0x0, 0x0, false, false⟩,
  ⟨"CD_KV_SAT_COUNT", 0x1A00038, 0x1000000, 7, 0x0, 1, 0x0, 0x0, 0x0, 0x0, 0x0, false, false⟩,
  ⟨"CD_KV_NAN_COUNT", 0x1A0003C, 0x1000000, 7, 0x0, 1, 0x0, 0x0, 0x0, 0x0, 0x0, false, false⟩]

/-- Registers of the BAR4 mailbox (Table 17-8). -/
def regsMbx : List RegRow := [
  ⟨"MGT_MBX_CTL", 0x10000000, 0x0, 1, 0x0, 1, 0x0, 0x0, 0x0, 0x1, 0x0, true, false⟩,
  ⟨"MGT_MBX_OP", 0x10000004, 0x0, 1, 0x0, 1, 0xFFFF, 0x0, 0x0, 0x0, 0x0, true, false⟩,
  ⟨"MGT_MBX_REQ_LEN", 0x10000008, 0x0, 1, 0x0, 1, 0xFFFFFFFF, 0x0, 0x0, 0x0, 0x0, true, false⟩,
  ⟨"MGT_MBX_STAT", 0x1000000C, 0x0, 1, 0x0, 1, 0x0, 0x2, 0x0, 0x0, 0x0, true, false⟩,
  ⟨"MGT_MBX_RESP_LEN", 0x10000010, 0x0, 1, 0x0, 1, 0x0, 0x0, 0x0, 0x0, 0x0, true, false⟩,
  ⟨"MGT_MBX_COUNT", 0x10000014, 0x0, 1, 0x0, 1, 0x0, 0x0, 0x0, 0x0, 0x0, true, false⟩]

/-- The rows of the block that an offset falls in (Table 00-3). -/
def regsOf (a : Nat) : List RegRow :=
  if a < 0x100000 then regsGlb0 ++ regsGlb1 ++ regsGlb2
  else if a < 0x200000 then regsHif
  else if a < 0x300000 then regsTim
  else if a < 0x400000 then regsIng0 ++ regsIng1
  else if a < 0x500000 then regsCtl0 ++ regsCtl1 ++ regsCtl2
  else if a < 0x600000 then regsCan0 ++ regsCan1
  else if a < 0x700000 then regsEth
  else if a < 0x800000 then regsLnk
  else if a < 0x900000 then regsSaf0 ++ regsSaf1
  else if a < 0xA00000 then regsTly
  else if a < 0x1000000 then regsMgt0 ++ regsMgt1
  else if a < 0x10000000 then regsCd0 ++ regsCd1 ++ regsCd2
  else regsMbx


/-- Whether the row holds the register at `a`. -/
def RegRow.has (r : RegRow) (a : Nat) : Bool :=
  decide (r.base ≤ a) &&
    (let d := a - r.base
     let i := if r.s1 = 0 then 0 else d / r.s1
     let e := if r.s1 = 0 then d else d % r.s1
     let j := if r.s2 = 0 then 0 else e / r.s2
     let f := if r.s2 = 0 then e else e % r.s2
     decide (i < r.n1) && decide (j < r.n2) && decide (f = 0))

/-- The row of a list that holds the register at `a`. -/
def rowIn : List RegRow → Nat → Option RegRow
  | [], _ => none
  | r :: rs, a => if r.has a then some r else rowIn rs a

/-- The map row of the register at `a`; none for a reserved place. -/
def rowAt (a : Nat) : Option RegRow := rowIn (regsOf a) a

/-- The reset value of the register at `a` (0 for a reserved place, R7). -/
def resetAt (a : Nat) : Word :=
  match rowAt a with
  | some r => BitVec.ofNat 32 r.reset
  | none => 0

end Sys2Proof.Machine
end

