-- ==== Sys2Proof/Machine/Status.lean ====
section
/-!
DEFINITION. The status codes of Table 14-10 (R341), by the spec's names.
-/

namespace Sys2Proof.Machine

/-- A status code. -/
inductive Status where
  | success
  | opcodeInvalid
  | descriptorInvalid
  | permissionDenied
  | lengthExceeds
  | hostMemoryFault
  | packageNotRetained
  | jobCancelled
  | offloadExpired
  | ringBusy
  | tickUnlocked
  | tickCfgBusy
  | tickCfgInvalid
  | deadlineOverrun
  | timeCfgInvalid
  | launchLate
  | launchOutOfRange
  | cfgBusy
  | cfgNotOpen
  | cfgTimeout
  | cfgWriteInvalid
  | operandPairUnsupported
  | tileKMisaligned
  | kExceedsLimit
  | coreFault
  | scaleInvalid
  | zeroPointUnsupported
  | needsSumColumn
  | biasInvalid
  | kvTableInvalid
  | kvSlotBusy
  | kvSlotEmpty
  | kvPositionMismatch
  | kvJoinDeferred
  | kvFormatMismatch
  | kvSuspended
  | kvWalkFault
  | tileHeaderInvalid
  | bankConflict
  | eccUncorrectable
  | dmaUncorrectable
  | scrubBusy
  | windowClosed
  | berthSourceDenied
  | berthNoCredit
  | jobTableFull
  | jobInUse
  | manifestInvalid
  | notLeadPackage
  | placementNoCore
  | placementNoMemory
  | classCNotPinnable
  | cyclicTableInvalid
  | cyclicBankActive
  | deadlineUnmeetable
  | jobsActive
  | semCeilingInvalid
  | semExhausted
  | packageJobLoss
  | peerJobLoss
  | replayBusy
  | replayLogInvalid
  | replayPackageMissing
  | fabricCfgInvalid
  | fabricUnreachable
  | collectiveAbort
  | leadLost
  | streamBound
  | streamShapeMismatch
  | streamCfgInvalid
  | axisDisabled
  | axisFaulted
  | axisOwned
  | axisCfgBusy
  | ctlCfgInvalid
  | segInvalid
  | segOutOfRange
  | segQueueFull
  | segLate
  | segCut
  | superseded
  | feedbackStale
  | followingError
  | positionLimit
  | canCfgInvalid
  | canCfgBusy
  | canQueueFull
  | canRetryExhausted
  | canBusOff
  | canTxAborted
  | safetyInputDemand
  | safetyInputDiscrepancy
  | safeOutputFault
  | watchdogExpired
  | checkerDisagree
  | canaryMismatch
  | canaryDeferred
  | safetyResetRefused
  | safCfgInvalid
  | safCfgBusy
  | driverVersionRefused
  | imageSignatureInvalid
  | imageVersionRefused
  | updateBusy
  | makerSessionRequired
  | captureAreaBusy
  | serviceStateInvalid
  | tlyCfgInvalid
  deriving DecidableEq, Repr

/-- The numeric value of a code. -/
def Status.code : Status → Nat
  | .success => 0x00
  | .opcodeInvalid => 0x01
  | .descriptorInvalid => 0x02
  | .permissionDenied => 0x03
  | .lengthExceeds => 0x04
  | .hostMemoryFault => 0x05
  | .packageNotRetained => 0x06
  | .jobCancelled => 0x07
  | .offloadExpired => 0x08
  | .ringBusy => 0x09
  | .tickUnlocked => 0x10
  | .tickCfgBusy => 0x11
  | .tickCfgInvalid => 0x12
  | .deadlineOverrun => 0x13
  | .timeCfgInvalid => 0x14
  | .launchLate => 0x15
  | .launchOutOfRange => 0x16
  | .cfgBusy => 0x18
  | .cfgNotOpen => 0x19
  | .cfgTimeout => 0x1A
  | .cfgWriteInvalid => 0x1B
  | .operandPairUnsupported => 0x20
  | .tileKMisaligned => 0x21
  | .kExceedsLimit => 0x22
  | .coreFault => 0x23
  | .scaleInvalid => 0x24
  | .zeroPointUnsupported => 0x25
  | .needsSumColumn => 0x26
  | .biasInvalid => 0x30
  | .kvTableInvalid => 0x31
  | .kvSlotBusy => 0x32
  | .kvSlotEmpty => 0x33
  | .kvPositionMismatch => 0x34
  | .kvJoinDeferred => 0x35
  | .kvFormatMismatch => 0x36
  | .kvSuspended => 0x37
  | .kvWalkFault => 0x38
  | .tileHeaderInvalid => 0x40
  | .bankConflict => 0x41
  | .eccUncorrectable => 0x42
  | .dmaUncorrectable => 0x43
  | .scrubBusy => 0x44
  | .windowClosed => 0x45
  | .berthSourceDenied => 0x46
  | .berthNoCredit => 0x47
  | .jobTableFull => 0x50
  | .jobInUse => 0x51
  | .manifestInvalid => 0x52
  | .notLeadPackage => 0x53
  | .placementNoCore => 0x54
  | .placementNoMemory => 0x55
  | .classCNotPinnable => 0x56
  | .cyclicTableInvalid => 0x57
  | .cyclicBankActive => 0x58
  | .deadlineUnmeetable => 0x59
  | .jobsActive => 0x5A
  | .semCeilingInvalid => 0x5B
  | .semExhausted => 0x5C
  | .packageJobLoss => 0x5D
  | .peerJobLoss => 0x5E
  | .replayBusy => 0x60
  | .replayLogInvalid => 0x61
  | .replayPackageMissing => 0x62
  | .fabricCfgInvalid => 0x68
  | .fabricUnreachable => 0x69
  | .collectiveAbort => 0x6A
  | .leadLost => 0x6B
  | .streamBound => 0x70
  | .streamShapeMismatch => 0x71
  | .streamCfgInvalid => 0x72
  | .axisDisabled => 0x80
  | .axisFaulted => 0x81
  | .axisOwned => 0x82
  | .axisCfgBusy => 0x83
  | .ctlCfgInvalid => 0x84
  | .segInvalid => 0x85
  | .segOutOfRange => 0x86
  | .segQueueFull => 0x87
  | .segLate => 0x88
  | .segCut => 0x89
  | .superseded => 0x8A
  | .feedbackStale => 0x8B
  | .followingError => 0x8C
  | .positionLimit => 0x8D
  | .canCfgInvalid => 0x90
  | .canCfgBusy => 0x91
  | .canQueueFull => 0x92
  | .canRetryExhausted => 0x93
  | .canBusOff => 0x94
  | .canTxAborted => 0x95
  | .safetyInputDemand => 0xA0
  | .safetyInputDiscrepancy => 0xA1
  | .safeOutputFault => 0xA2
  | .watchdogExpired => 0xA3
  | .checkerDisagree => 0xA4
  | .canaryMismatch => 0xA5
  | .canaryDeferred => 0xA6
  | .safetyResetRefused => 0xA7
  | .safCfgInvalid => 0xA8
  | .safCfgBusy => 0xA9
  | .driverVersionRefused => 0xB0
  | .imageSignatureInvalid => 0xB1
  | .imageVersionRefused => 0xB2
  | .updateBusy => 0xC0
  | .makerSessionRequired => 0xC1
  | .captureAreaBusy => 0xC2
  | .serviceStateInvalid => 0xC3
  | .tlyCfgInvalid => 0xD0

/-- Every code, in the order of Table 14-10. -/
def Status.all : List Status :=
  [.success, .opcodeInvalid, .descriptorInvalid, .permissionDenied, .lengthExceeds, .hostMemoryFault, .packageNotRetained, .jobCancelled] ++
  [.offloadExpired, .ringBusy, .tickUnlocked, .tickCfgBusy, .tickCfgInvalid, .deadlineOverrun, .timeCfgInvalid, .launchLate] ++
  [.launchOutOfRange, .cfgBusy, .cfgNotOpen, .cfgTimeout, .cfgWriteInvalid, .operandPairUnsupported, .tileKMisaligned, .kExceedsLimit] ++
  [.coreFault, .scaleInvalid, .zeroPointUnsupported, .needsSumColumn, .biasInvalid, .kvTableInvalid, .kvSlotBusy, .kvSlotEmpty] ++
  [.kvPositionMismatch, .kvJoinDeferred, .kvFormatMismatch, .kvSuspended, .kvWalkFault, .tileHeaderInvalid, .bankConflict, .eccUncorrectable] ++
  [.dmaUncorrectable, .scrubBusy, .windowClosed, .berthSourceDenied, .berthNoCredit, .jobTableFull, .jobInUse, .manifestInvalid] ++
  [.notLeadPackage, .placementNoCore, .placementNoMemory, .classCNotPinnable, .cyclicTableInvalid, .cyclicBankActive, .deadlineUnmeetable, .jobsActive] ++
  [.semCeilingInvalid, .semExhausted, .packageJobLoss, .peerJobLoss, .replayBusy, .replayLogInvalid, .replayPackageMissing, .fabricCfgInvalid] ++
  [.fabricUnreachable, .collectiveAbort, .leadLost, .streamBound, .streamShapeMismatch, .streamCfgInvalid, .axisDisabled, .axisFaulted] ++
  [.axisOwned, .axisCfgBusy, .ctlCfgInvalid, .segInvalid, .segOutOfRange, .segQueueFull, .segLate, .segCut] ++
  [.superseded, .feedbackStale, .followingError, .positionLimit, .canCfgInvalid, .canCfgBusy, .canQueueFull, .canRetryExhausted] ++
  [.canBusOff, .canTxAborted, .safetyInputDemand, .safetyInputDiscrepancy, .safeOutputFault, .watchdogExpired, .checkerDisagree, .canaryMismatch] ++
  [.canaryDeferred, .safetyResetRefused, .safCfgInvalid, .safCfgBusy, .driverVersionRefused, .imageSignatureInvalid, .imageVersionRefused, .updateBusy] ++
  [.makerSessionRequired, .captureAreaBusy, .serviceStateInvalid, .tlyCfgInvalid]

/-- The code of a numeric value. -/
def Status.ofCode (n : Nat) : Option Status := Status.all.find? (fun x => x.code == n)

end Sys2Proof.Machine
end

