-- ==== Sys2Proof/Machine/StateCompute.lean ====
section
/-!
DEFINITION. The compute side's state that no register shows: packages, jobs, tiles, cores, DMA
channels, berths, the KV cache, the fabric links and the ingest streams.
-/

namespace Sys2Proof.Machine

open Sys2Proof

/-- A region of a die's memory, by die-local address (R103). -/
structure Region where
  die : Nat
  base : Nat
  size : Nat
  deriving DecidableEq, Repr

/-- A retained Ciboica package (R333). -/
structure Pkg where
  decl : Package
  digest : Bytes
  home : Region
  deriving DecidableEq, Repr

/-- Quantiser counts of one output tensor (R72 to R75). -/
structure TStat where
  elements : Nat
  clipped : Nat
  nans : Nat
  sq : Nat
  sqSat : Bool
  sqCount : Nat
  deriving DecidableEq, Repr

/-- Where a tensor of a job stands (R146, R151). -/
structure Place where
  tensor : Nat
  die : Nat
  base : Nat
  size : Nat
  deriving DecidableEq, Repr

/-- A planned tile (R143): operator, job-wide index, core and planned start in cycles. -/
structure PlanTile where
  op : Nat
  tile : Nat
  die : Nat
  /-- Logical core. -/
  core : Nat
  start : Nat
  cost : Nat
  level : Nat
  /-- 0 waiting, 1 running, 2 ended. -/
  st : Nat
  deriving DecidableEq, Repr

/-- A binding entry (Table 14-6). -/
structure Bind where
  tensor : Nat
  kind : Nat
  stream : Nat
  addr : Nat
  deriving DecidableEq, Repr

/-- A semaphore record of a job, bound to a hardware semaphore (R164). -/
structure SemBind where
  key : Nat
  acq : Nat
  rel : Nat
  die : Nat
  index : Nat
  held : Bool
  deriving DecidableEq, Repr

/-- A row of a lengths table with its outcome (R89, R91). -/
structure KvRow where
  slot : Nat
  flags : Nat
  qStart : Nat
  qLen : Nat
  window : Nat
  reserve : Nat
  fmt : Nat
  /-- Index of the operator's distance-bias table. -/
  bias : Nat
  tag : Nat
  status : Status
  deriving DecidableEq, Repr

/-- A class C activation (R153). -/
structure Act where
  num : Nat
  /-- START tick. -/
  start : Nat
  kind : Nat
  /-- Its slots: first tick and tick after the last. -/
  slots : List (Nat × Nat)
  /-- Completed; in deterministic mode its outputs wait for the edge that ends its last slot. -/
  done : Bool
  /-- It ran past its last slot and ends at its next tile boundary (R29). -/
  overran : Bool
  /-- A channel halted in it: it publishes nothing (R111). -/
  halt : Option Status
  /-- Working time of its START edge. -/
  startT : Nat
  /-- Streams whose canary it bound (R314). -/
  canaries : List Nat
  /-- The headers of the tensors it was given, by stream (Table 09-5). -/
  heads : List (Nat × Bytes)
  deriving DecidableEq, Repr

/-- Where a job stands. -/
inductive JobPhase where
  /-- Class S before its release; class C between activations. -/
  | waiting
  /-- Weights are being staged (R147). -/
  | staging
  | running
  deriving DecidableEq, Repr

/-- The collective of an operator, as this package's engine sees it (R208 to R211). -/
structure Coll where
  op : Nat
  /-- Tree partials that wait for their siblings: level, position, value. -/
  nodes : List (Nat × Nat × Bytes)
  /-- Values of ranks in free mode, with the reference time of their arrival. -/
  arr : List (Nat × Nat × Bytes)
  /-- Ranks that have not acknowledged what they were sent. -/
  out : List Nat
  /-- Ranks that have signalled that their bytes are here. -/
  evs : List Nat
  deriving DecidableEq, Repr

/-- An admitted job (chapter 6). -/
structure Job where
  /-- Job handle. -/
  id : Nat
  ring : Nat
  tag : Nat
  /-- 0x11 SUBMIT, 0x12 STEP. -/
  op : Nat
  /-- Class C; class S otherwise. -/
  classC : Bool
  /-- The SUBMIT or STEP descriptor of a class S job. -/
  num : Nat
  /-- SEQ of the SUBMIT record (R184). -/
  key : Nat
  pkg : Nat
  prio : Nat
  /-- Release and deadline, working time. -/
  release : Nat
  deadline : Nat
  /-- Working time at which its admission was decided (R158). -/
  admitT : Nat
  /-- Release tick, or START tick of the activation (Table 07-5). -/
  tick : Nat
  phase : JobPhase
  /-- Cores reserved on each die (R151). -/
  masks : List Nat
  /-- Squared error is accumulated (R74). -/
  mse : Bool
  statsAddr : Nat
  /-- Published counts, and those of the activation or run under way, by output tensor. -/
  stats : Tbl TStat
  runStats : Tbl TStat
  gen : Nat
  binds : List Bind
  plan : List PlanTile
  /-- Level under way, and whether its collective is. -/
  level : Nat
  collWait : Bool
  /-- Makespan and staging of the bound of R158, ns. -/
  x : Nat
  w : Nat
  places : List Place
  /-- Class C pins (R151). -/
  pins : List Region
  sems : List SemBind
  /-- Packages of a spanning job, ascending; empty for a local one. -/
  span : List Nat
  /-- The lead's handle, on a member package of a spanning job (R148). -/
  member : Option Nat
  /-- Local chains and their dies (R148). -/
  chains : List (Nat × Nat)
  /-- Every chain of the job with the rank of its package and its die. -/
  allChains : List (Nat × Nat × Nat)
  /-- What jobs of other packages add to its interference and blocking, ns (R158). -/
  farNs : Nat
  farBlock : Nat
  /-- Packages of a spanning job that have done their share. -/
  heard : List Nat
  /-- Host inputs of a class S job, until its release (R178). -/
  inputs : List Bytes
  /-- Host outputs of a class C job that are visible, by address (R178). -/
  shown : List (Nat × Bytes)
  /-- Another job's tile took banks that hold its staged weights (R147). -/
  displaced : Bool
  rows : List KvRow
  statusAddr : Nat
  /-- What the settle of its step waits for: 1 the packages' joins, 2 their suspensions; 0 settled (R99). -/
  settling : Nat
  /-- Reports of the settle: package, stage, slots. -/
  reports : List (Nat × Nat × List Nat)
  /-- Ends with this status at its next tile boundary. -/
  ending : Option Status
  /-- Segments written, in order (Table 07-5). -/
  segs : Bytes
  act : Option Act
  /-- Activations completed. -/
  acts : Nat
  /-- Its collectives under way (R208). -/
  colls : List Coll
  /-- JOB_RELEASE descriptors that wait for the job's end. -/
  releasers : List (Nat × Nat)
  /-- Payload of its SUBMIT record (R182). -/
  subm : Bytes
  deriving DecidableEq, Repr

/-- The tile a core runs. -/
structure RunTile where
  job : Nat
  tile : Nat
  op : Nat
  /-- Reference time of its dispatch. -/
  since : Nat
  deriving DecidableEq, Repr

/-- One physical core. -/
structure Core where
  tile : Option RunTile
  /-- A scrub holds the core out of dispatch (R118). -/
  held : Bool
  /-- The job whose tile ran last (R162). -/
  last : Option Nat
  /-- The job that holds each scratchpad bank, and at 32 the instruction memory: the last whose tile owned it (R121). -/
  banks : Tbl (Option Nat)
  /-- Columns found failed since package reset (R57). -/
  failed : List Nat
  /-- A unit outside the array failed (R57). -/
  unitFailed : Bool
  /-- The check that trapped the core in the loss in progress. -/
  trapped : Bool
  deriving DecidableEq, Repr

/-- Where a DMA channel's berth transfer stands. -/
inductive ChanSt where
  | idle
  /-- A copy within the die, complete at the tile's end at the latest. -/
  | copying
  | waitCredit
  | waitAck
  deriving DecidableEq, Repr

/-- One DMA channel (R110, R111). -/
structure Chan where
  st : ChanSt
  xfer : Option Xfer
  /-- The status that halted it. -/
  halt : Option Status
  /-- The word at which the read of a berth transfer that waits for its grant will fail (R115). -/
  bad : Option Nat
  deriving DecidableEq, Repr

/-- A credit request or grant (R125, R126). -/
structure Credit where
  srcPkg : Nat
  srcDie : Nat
  chan : Nat
  off : Nat
  len : Nat
  /-- Reference time of its arrival. -/
  ref : Nat
  deriving DecidableEq, Repr

/-- One berth beside its registers (R124). -/
structure Berth where
  job : Nat
  queue : List Credit
  grants : List Credit
  /-- Reference time of the close command (R129). -/
  closeRef : Nat
  deriving DecidableEq, Repr

/-- A KV page table entry (Table 04-6). -/
structure KvEntry where
  /-- 0 die pool, 1 DRAM. -/
  loc : Nat
  fmt : Nat
  phys : Nat
  kScale : Nat
  vScale : Nat
  next : Nat
  last : Bool
  fill : Nat
  slot : Nat
  gen : Nat
  deriving DecidableEq, Repr

/-- The KV cache of one die: its page regions. The page table itself stands in the die pool (R94, R112). -/
structure KvDie where
  /-- Page size in force while sequences live on the die or a job holds chains there; 0 otherwise. -/
  shift : Nat
  poolBase : Nat
  dramBase : Nat
  deriving DecidableEq, Repr

/-- A sequence on one die: residence, reservation and its chains' entries in position order. -/
structure SeqDie where
  die : Nat
  dram : Bool
  resv : Nat
  chains : List (Nat × List Nat)
  deriving DecidableEq, Repr

/-- A sequence (R97). -/
structure KvSeq where
  /-- The retained package whose steps run it. -/
  pkg : Nat
  len : Nat
  fmt : Nat
  admission : Nat
  gen : Nat
  /-- Retired by the step under way; its pages go at the next step (R100). -/
  retired : Bool
  dies : List SeqDie
  deriving DecidableEq, Repr

/-- Sequence slots, their generations, and the last admission number (R95, R98). -/
structure Kv where
  seqs : Tbl (Option KvSeq)
  gens : Tbl Nat
  admission : Nat
  /-- Chain, rank and die of the chains that a retained package's sequences use (R148). -/
  assign : Tbl (List (Nat × Nat × Nat))
  deriving DecidableEq, Repr

/-- A packet in a link's replay buffer, or waiting for credit (R200, R201). -/
structure LinkPkt where
  seq : Nat
  vc : Nat
  size : Nat
  bytes : Bytes
  /-- Of a packet in transit: the link and virtual channel whose receive buffer it holds, and its 64-byte units. -/
  origin : Option (Nat × Nat × Nat)
  deriving DecidableEq, Repr

/-- One link beside its registers (R200 to R202). -/
structure Lnk where
  next : Nat
  /-- LSEQ of the next packet to accept, and packets received that failed their CRC (R201). -/
  expect : Nat
  crcFails : Nat
  replay : List LinkPkt
  queue : List LinkPkt
  /-- Flow credits of each virtual channel, in 64-byte units. -/
  credits : List Nat
  /-- Consecutive failures of one packet, and its LSEQ. -/
  fails : Nat
  failSeq : Nat
  /-- Reference time of the last acknowledgement, or of the first packet outstanding. -/
  ackRef : Nat
  /-- Reference time at which the link entered its present state. -/
  since : Nat
  /-- The data channel served last, 1 or 2, and packets of other channels since channel 3. -/
  alt : Nat
  since3 : Nat
  deriving DecidableEq, Repr

/-- The fabric beside its registers (R214, R215). -/
structure Fab where
  /-- Ticks since the last valid lead heartbeat. -/
  leadTicks : Nat
  /-- Ticks since each member was heard. -/
  member : Tbl Nat
  /-- Packets sent in each direction, for the turn of its links (R206). -/
  turn : Tbl Nat
  deriving DecidableEq, Repr

/-- Where a sample stands. -/
inductive SamplePhase where
  | assembling
  /-- Complete, waiting for its turn (R224). -/
  | waiting
  /-- In the decoder and pre-processor. -/
  | processing
  /-- For the host (R238, R239): 0 until a buffer takes it, then the reference time of its posting plus 1. -/
  | offloaded (ref : Nat)
  /-- Decoded by the host: `pkts` holds the planes. -/
  | hosted
  deriving DecidableEq, Repr

/-- A sample (R222 to R227). -/
structure Sample where
  num : Nat
  /-- RTP timestamp, or FRAME_ID. -/
  ts : Nat
  /-- Arrival stamp of its last packet: working time, with the uncertainty. -/
  stamp : Nat
  uncert : Nat
  /-- Arrival tick of its last packet. -/
  tick : Nat
  /-- Reference time of its latest packet. -/
  last : Nat
  /-- Working time at which it completed; 0 once stage 2 has reported it (Table 13-2). -/
  done : Nat
  seqs : List Nat
  marker : Bool
  pkts : List Bytes
  reason : Nat
  phase : SamplePhase
  canary : Bool
  /-- The ROI table in force at its stamp, with its version; none for the default. -/
  roi : Option (Nat × Bytes)
  /-- The ring slot its tensor is written into. -/
  slot : Option Nat
  deriving DecidableEq, Repr

/-- A slot of a stream's tensor ring (R233, R234). -/
structure RingSlot where
  num : Nat
  stamp : Nat
  /-- The tensor is complete. -/
  full : Bool
  /-- Bindable since this working time. -/
  done : Nat
  deriving DecidableEq, Repr

/-- One stream beside its registers (R222 to R236). -/
structure Strm where
  cur : Option Sample
  /-- Complete samples that wait or are processed, oldest first. -/
  wait : List Sample
  num : Nat
  /-- Timestamps of closed samples. -/
  closed : List Nat
  slots : List (Option RingSlot)
  /-- Last-good tensor: sample number and bytes with header. -/
  good : Option Bytes
  /-- Slot most recently bound. -/
  bound : Option Nat
  /-- Places of the ring's slots in die memory; the last is the last-good slot. -/
  ring : List Region
  /-- ROI tables published: version and table, newest first (R232). -/
  roi : Option (Nat × Bytes)
  deriving DecidableEq, Repr

/-- A scrub in progress (R118). -/
structure Scrub where
  ring : Nat
  num : Nat
  target : Nat
  die : Nat
  core : Nat
  base : Nat
  words : Nat
  deriving DecidableEq, Repr

/-- The compute side (chapters 2 to 6, 8, 9 and 18). -/
structure Comp where
  pkgs : Tbl (Option Pkg)
  /-- Last job handle given. -/
  lastJob : Nat
  cores : Tbl Core
  chans : Tbl Chan
  berths : Tbl Berth
  /-- Memories of each die, by die-local address; zero where nothing is listed (R117). -/
  mems : Tbl (Tbl Byte)
  /-- Regions that wait for zeroing (R121). -/
  dirty : List Region
  kv : Kv
  kvd : Tbl KvDie
  lnks : Tbl Lnk
  fab : Fab
  strm : Tbl Strm
  scrubs : List Scrub
  /-- A committed table change waits for its boundary: the bank to run, or none to stop (R155). -/
  cycNext : Option (Option Nat)
  /-- Reference time, plus 1, since which each die's CYCLES counters advance; 7 is the quay die. -/
  tly : Tbl Nat
  /-- Jobs of the package job loss in progress, which complete at the release (R168). -/
  lost : List Job
  deriving DecidableEq, Repr

end Sys2Proof.Machine
end

