-- ==== Sys2Proof/Machine/StateQuay.lean ====
section
/-!
DEFINITION. The quay die's state that no register shows: clocks, rings, the configuration
transaction, ports, axes, CAN controllers, the safety block, the logs and the harbourmaster.
-/

namespace Sys2Proof.Machine

open Sys2Proof

/-- The feedback window that closes before the next edge (R24, R26, R433). -/
inductive Win where
  /-- Still collecting: its cut-off lies ahead. -/
  | collecting
  /-- Computed: its commands wait for the edge. -/
  | computed
  /-- Passed by a time step: never computed (R433). -/
  | passed
  deriving DecidableEq, Repr

/-- The clocks and the tick unit (R13, R243). -/
structure Clk where
  /-- Working time T in ns (R243). -/
  t : Nat
  /-- Nanoseconds of the system reference since power-on; never steps. -/
  ref : Nat
  /-- The tick unit has started (R15: boot step 13). -/
  live : Bool
  /-- Tick number of the last issued edge (R14). -/
  tick : Nat
  /-- Time of that edge. -/
  lastEdge : Nat
  /-- Tick number of the next edge. -/
  nextTick : Nat
  /-- Time of the next edge. -/
  nextEdge : Nat
  /-- The base period in force, ns. -/
  period : Nat
  win : Win
  /-- Where the present window opens: an earlier stamp lies in a window that was computed or passed (R24, R433). -/
  lastCut : Nat
  /-- Tick of the last computation (R264). -/
  prevComp : Nat
  /-- Phase that slewing has still to add to working time (R250). -/
  slew : Int
  /-- Reference ns since slewing last moved working time by 1 ns. -/
  slewAcc : Nat
  /-- Frequency correction applied to the system reference, parts per 10^9 (R243, R251). -/
  freq : Int
  /-- Billionths of a ns that the correction has still to add. -/
  freqAcc : Nat
  /-- Reference time at which holdover began (R251). -/
  holdSince : Nat
  /-- Reference time since which the primary has met rule 4 of R249. -/
  goodSince : Option Nat
  deriving DecidableEq, Repr

/-- One Announce message a port has received (R242). -/
structure Candidate where
  port : Nat
  vec : AnnounceVec
  /-- Reference time at which three Announce intervals have passed. -/
  due : Nat
  deriving DecidableEq, Repr

/-- A two-step Sync that waits for its Follow_Up. -/
structure SyncWait where
  seqId : Nat
  port : Nat
  /-- Receive stamp and correction of the Sync. -/
  rx : Nat
  corr : Int
  deriving DecidableEq, Repr

/-- One gPTP domain (R248). -/
structure Dom where
  cands : List Candidate
  /-- Port and identity of the selected grandmaster. -/
  sel : Option (Nat × Nat)
  /-- The last grandmaster identity the domain has seen. -/
  gm : Option Nat
  wait : Option SyncWait
  /-- Consecutive Syncs within LOCK_NS. -/
  good : Nat
  /-- Consecutive Syncs beyond 4·LOCK_NS. -/
  bad : Nat
  /-- Domain clock minus working time, ns. -/
  off : Int
  /-- The servo's frequency correction, parts per 10^9, and the billionths of a ns it has still to add. -/
  freq : Int
  acc : Nat
  /-- Reference time at which three intervals have passed since the last Sync (Table 10-1). -/
  syncDue : Nat
  /-- Microsecond of the reference in which the domain last became LOCKED (R249). -/
  lockedAt : Nat
  deriving DecidableEq, Repr

/-- Where an Ethernet or CAN frame came from. -/
inductive TxSrc where
  | host (ring num : Nat)
  | axis (a : Nat)
  | safety
  deriving DecidableEq, Repr

/-- A frame in an Ethernet transmit queue (R253). -/
structure EthTx where
  queue : Nat
  /-- Launch time, extended to T; none for an untimed queue. -/
  launch : Option Nat
  /-- The frame has left its queue for the wire. -/
  sent : Bool
  src : TxSrc
  bytes : Bytes
  deriving DecidableEq, Repr

/-- One Ethernet port (R242, R253). -/
structure Eth where
  q : List EthTx
  pdSeq : Nat
  /-- Sequence number and transmit stamp of the port's outstanding Pdelay_Req. -/
  pdOut : Option (Nat × Nat)
  /-- The peer's receipt stamp t2 and the local receipt stamp t4 of its answer. -/
  pdResp : Option (Nat × Nat)
  deriving DecidableEq, Repr

/-- What held at a descriptor's fetch. -/
structure Fetch where
  /-- Working time and the tick number (R157, R176). -/
  t : Nat
  tick : Nat
  /-- Groups that a safety reset may release, and each group's stops so far (R302). -/
  may : Nat
  stops : List Nat
  deriving DecidableEq, Repr

/-- A fetched, uncompleted descriptor (R328, Table 14-3). -/
structure Inflight where
  num : Nat
  tag : Nat
  op : Nat
  intr : Bool
  fence : Bool
  bytes : Bytes
  /-- The descriptor has started (R336). -/
  begun : Bool
  fetch : Fetch
  deriving DecidableEq, Repr

/-- A posted RX_POST buffer (R332, R337). -/
structure RxBuf where
  num : Nat
  addr : Nat
  /-- Room in records of 80 bytes. -/
  room : Nat
  got : Nat
  /-- Reference time of its first record. -/
  since : Nat
  deriving DecidableEq, Repr

/-- One ring: the doorbell counts and what has been fetched (R326 to R328). -/
structure Ring where
  sqTail : Nat
  cqHead : Nat
  fl : List Inflight
  rx : List RxBuf
  /-- Admitted class C jobs of the ring, each of which reserves a completion entry (R328). -/
  classC : Nat
  /-- An event was dropped since the last entry (R337). -/
  lost : Bool
  deriving DecidableEq, Repr

/-- The configuration transaction (R345 to R349). -/
structure Cfg where
  staged : List (Nat × Word)
  /-- Reference time at which CFG_BEGIN completed. -/
  openRef : Nat
  /-- Number of the owner ring's CFG_COMMIT that waits for its edge. -/
  commitNum : Option Nat
  /-- Working time at which the CFG_COMMIT was fetched. -/
  commitT : Nat
  /-- Owner ring whose transaction timed out (R349). -/
  timedOut : Option Nat
  deriving DecidableEq, Repr

/-- The host interface beside its registers. -/
structure Hif where
  rings : Tbl Ring
  /-- Vectors with entries not yet signalled (R323). -/
  msiPend : List Nat
  /-- Reference time of each vector's last signal, plus 1. -/
  msiLast : Tbl Nat
  deriving DecidableEq, Repr

/-- Where a segment came from (R266). -/
inductive SegSrc where
  | desc (num : Nat)
  /-- A job, with the tag and opcode of the descriptor that admitted it. -/
  | job (id tag op : Nat)
  deriving DecidableEq, Repr

/-- A segment in an axis's queue (R261 to R263). -/
structure Seg where
  start : Nat
  kind : Nat
  notify : Bool
  target : F32
  /-- END_VEL or DURATION. -/
  endv : Word
  vlim : F32
  alim : F32
  jlim : F32
  tag : Word
  level : Nat
  ring : Nat
  src : SegSrc
  /-- Reference time of its arrival. -/
  arr : Nat
  deriving DecidableEq, Repr

/-- The current segment (R264, R268). -/
structure CurSeg where
  seg : Seg
  /-- Sign of pt − p when the segment became current. -/
  s0 : F32
  /-- Computations made for the segment. -/
  done : Nat
  deriving DecidableEq, Repr

/-- A feedback frame matched to an axis (R269). -/
structure FbFrame where
  win : Nat
  stamp : Nat
  pos : F32
  vel : F32
  deriving DecidableEq, Repr

/-- The command computed for the next edge (R273). -/
structure StagedCmd where
  u : F32
  bytes : Bytes
  /-- The comparison has taken place (R310). -/
  compared : Bool
  /-- Launch the previous command in its place (R27, R310). -/
  hold : Bool
  /-- Launch a stop frame in its place (R311). -/
  stop : Bool
  deriving DecidableEq, Repr

/-- One axis beside its registers (R257 to R277). -/
structure Axis where
  p : F32
  v : F32
  acc : F32
  ip : F32
  iv : F32
  epPrev : F32
  evPrev : F32
  vs : F32
  uPrev : F32
  pf : F32
  vf : F32
  /-- Stamp of the feedback in use. -/
  fbStamp : Nat
  fb : List FbFrame
  q : List Seg
  cur : Option CurSeg
  staleRun : Nat
  followRun : Nat
  /-- Waiting ENABLE descriptors: ring, number (R259). -/
  enWait : List (Nat × Nat)
  /-- Windows the wait has seen. -/
  enWins : Nat
  /-- Waiting DISABLE descriptors (R260). -/
  disWait : List (Nat × Nat)
  /-- CLEAR_FAULT or SAFE_STOP_RESET: re-initialise at the next valid feedback. -/
  reinit : Bool
  /-- Enter SAFE_STOP at the next computation, with this fault status if given. -/
  safeReq : Option (Option Status)
  /-- The safety block owns the axis (R264). -/
  safeOwned : Bool
  /-- First edge at which an asserted stop replaces the command (R301). -/
  stopEdge : Nat
  /-- Windows of the last disagreements (R311). -/
  disagree : List Nat
  staged : Option StagedCmd
  /-- The u of the last launched command; none before any. -/
  lastU : Option F32
  /-- The command counter of R273. -/
  cnt : Nat
  /-- V_MAX, A_MAX, J_MAX and VEL_WIN per tick, converted at the commit that set them (R257). -/
  vt : F32
  at_ : F32
  jt : F32
  vw : F32
  fric : Tbl F32
  cog : Tbl F32
  /-- Tables loaded and not yet in use: 0 friction, 1 cogging (R272). -/
  tblLoad : List (Nat × Tbl F32)
  /-- Trace records with their ticks, oldest first (R277). -/
  trc : List (Nat × List Word)
  /-- The TRIG_NODE value and STATE of the last record whose node is known. -/
  trcPrev : Option (F32 × Nat)
  /-- Index of the trigger record. -/
  trcTrig : Option Nat
  /-- Reference time from which the stage 4 watchdog counts (Table 13-2). -/
  segRef : Option Nat
  deriving DecidableEq, Repr

/-- A frame in a CAN launch queue or buffer (R284, R285). -/
structure CanTxE where
  frame : CanFrame
  src : TxSrc
  launch : Nat
  /-- Enqueue order. -/
  seq : Nat
  attempts : Nat
  deriving DecidableEq, Repr

/-- A loaded transmit buffer. -/
structure CanBuf where
  e : CanTxE
  /-- Leaves when its attempt ends, withdrawn (R287). -/
  stale : Bool
  /-- Leaves when its attempt ends, aborted (R296). -/
  abort : Bool
  /-- Returns to the queue when its attempt fails (R296). -/
  back : Bool
  deriving DecidableEq, Repr

/-- One CAN controller beside its registers. -/
structure Can where
  q : List CanTxE
  buf : List (Option CanBuf)
  fifo : List CanFrame
  seq : Nat
  /-- A safety trigger waits for TXB[0] (R296). -/
  safeWait : Bool
  /-- The mode in which the controller finishes the frame on the bus before it integrates in its new one (R296). -/
  fin : Option Nat
  deriving DecidableEq, Repr

/-- One safe-stop output channel's test pulse (R306). -/
structure Pulse where
  /-- Working channel is pulsed now. -/
  active : Bool
  /-- Reference time of the next pulse, or of the end of the present one. -/
  due : Nat
  deriving DecidableEq, Repr

/-- A stream's golden sample (R312). -/
structure Golden where
  packets : List Bytes
  roi : Bytes
  code : Bytes
  deriving DecidableEq, Repr

/-- A stream's safety bookkeeping (R307, R313). -/
structure SafSt where
  /-- Reference time of the last sample, while stage 1 watches; none before the first. -/
  last : Option Nat
  golden : Option Golden
  /-- The golden sample of a pending canary, with its binding stamp. -/
  canary : Option (Golden × Nat)
  /-- The pending canary's tensor, with the working time at which it was complete. -/
  tensor : Option (Bytes × Nat)
  /-- Stage 1 has missed since its groups were last released (R302). -/
  missed : Bool
  deriving DecidableEq, Repr

/-- The safety block beside its registers. -/
structure Saf where
  /-- A package stop that only a package reset ends (R303). -/
  latched : Bool
  /-- Groups that an accepted safety reset releases at the next edge (R302). -/
  releasing : Nat
  /-- The groups of each accepted safety reset that waits for the edge (Table 13-10). -/
  resets : List Nat
  /-- Stops of each group so far, unbounded (R302). -/
  stops : List Nat
  /-- The control engine has computed since reset release (R356). -/
  computed : Bool
  /-- Perception publications that are missing and not yet reported (R308). -/
  percDue : Nat
  /-- Inputs in discrepancy time: reference time since which the channels disagree, plus 1. -/
  discSince : Tbl Nat
  pulses : Tbl Pulse
  /-- Consecutive stage 3 misses. -/
  percMiss : Nat
  /-- Next expected kick value and reference time of the last kick; none before the first. -/
  kick : Option (Nat × Nat)
  st : Tbl SafSt
  deriving DecidableEq, Repr

/-- A shift-log record (Table 07-3). -/
structure LogRec where
  type : Nat
  flags : Nat
  stamp : Nat
  tick : Nat
  source : Nat
  uncert : Nat
  seq : Nat
  payload : Bytes
  deriving DecidableEq, Repr

/-- A waiting LOG_POST that takes streamed records (R181). -/
structure Post where
  ring : Nat
  num : Nat
  /-- Bytes that it still has room for, and those it has taken. -/
  room : Nat
  got : Bytes
  /-- The next record does not fit. -/
  full : Bool
  deriving DecidableEq, Repr

/-- The shift log and replay (R181 to R190). -/
structure SLog where
  /-- Records held in the log area, oldest first. -/
  recs : List LogRec
  seq : Nat
  /-- Records dropped since the area filled. -/
  dropped : Nat
  /-- Activation number of the next activation (R184). -/
  actNum : Nat
  posts : List Post
  /-- Records that replay has still to deliver. -/
  play : List LogRec
  /-- Records of the tick that replay has delivered last. -/
  ticks : List LogRec
  /-- OUTCOME records that replay has delivered (R189). -/
  outs : List LogRec
  /-- Digests that replay has made and not compared: tick, KIND, JOB_KEY, TENSOR_ID, ACTIVATION. -/
  made : List (List Nat × Bytes)
  /-- Logged digests that replay has not compared. -/
  want : List (List Nat × Bytes)
  /-- Command frames launched at the last edge, in axis order. -/
  cmds : Bytes
  /-- In replay: the next CONFIG record starts a log (R187, R190). -/
  fresh : Bool
  /-- A divergence meets the clear of DIVERGED: the latch takes it (Table 07-11). -/
  divFree : Bool
  deriving DecidableEq, Repr

/-- A harbourmaster log record before its header is written (Table 17-4). -/
structure HmRec where
  type : Nat
  /-- FLAGS[0]: the payload begins with the count of coalesced records. -/
  supp : Bool
  seq : Nat
  boot : Nat
  stamp : Nat
  tick : Nat
  ring : Nat
  role : Nat
  payload : Bytes
  deriving DecidableEq, Repr

/-- Records of one TYPE and index that coalesce (R386): when the last one was written, and how
many were suppressed since. -/
structure HmKey where
  type : Nat
  index : Nat
  ref : Nat
  count : Nat
  deriving DecidableEq, Repr

/-- Who sent a harbourmaster request. -/
inductive MgtSrc where
  | ring (r num : Nat)
  | mailbox
  deriving DecidableEq, Repr

/-- An open firmware update (R388). -/
structure Update where
  owner : MgtSrc
  slot : Nat
  len : Nat
  verified : Bool
  activated : Bool
  deriving DecidableEq, Repr

/-- The steps of opening a maker session (R383). -/
structure Maker where
  ring : Nat
  minutes : Nat
  nonce : Option Bytes
  opened : Bool
  rights : Bytes
  /-- Reference time at which the session began. -/
  since : Nat
  deriving DecidableEq, Repr

/-- A post-mortem capture request (R385). -/
structure CaptureReq where
  ring : Nat
  any : Bool
  regions : Nat
  size64M : Nat
  die : Nat
  deriving DecidableEq, Repr

/-- A captured memory region (Table 16-9): kind 1 scratchpad, 2 instruction memory, 3 die pool. -/
structure CapSec where
  kind : Nat
  die : Nat
  core : Nat
  base : Nat
  size : Nat
  cut : Bool
  data : Tbl Byte
  deriving DecidableEq, Repr

/-- A held post-mortem capture (R123, R369). -/
structure Capture where
  status : Nat
  /-- IMAGE_VERSION and package number at the capture. -/
  fw : Nat
  pkg : Nat
  tick : Nat
  stamp : Nat
  secs : List CapSec
  jobs : Bytes
  cut : Bool
  deriving DecidableEq, Repr

/-- One entry of the boot step record (Table 16-4). -/
structure BootEntry where
  step : Nat
  unit : Nat
  outcome : Nat
  mark : Nat
  detail : Nat
  bootNum : Nat
  duration : Nat
  deriving DecidableEq, Repr

/-- A valid copy of the boot step record (Table 16-3). -/
structure BootRec where
  generation : Nat
  bootCount : Nat
  preferred : Nat
  lastSlot : Nat
  lastCause : Nat
  entries : List BootEntry
  deriving DecidableEq, Repr

/-- A measured margin (R378): week and V_crit in tenths of a millivolt. -/
structure Margin where
  week : Nat
  vcrit : Int
  vnew : Nat
  deriving DecidableEq, Repr

/-- One pilot core, as a crash dump shows it (R370). -/
structure Pilot where
  /-- 0 running, 1 trapped, 2 halted. -/
  state : Nat
  cause : Nat
  pc : Nat
  tval : Nat
  gpr : List Nat
  deriving DecidableEq, Repr

/-- Flash: what survives every reset (R361). -/
structure Flash where
  slot0 : Tbl Byte
  slot1 : Tbl Byte
  recA : Option BootRec
  recB : Option BootRec
  /-- Log sectors, oldest first. -/
  log : List (List HmRec)
  margins : Tbl (List Margin)
  deriving DecidableEq, Repr

/-- Fuses. -/
structure Fuses where
  cdCount : Nat
  stepping : Nat
  svn : Nat
  deriving DecidableEq, Repr

/-- Where boot stands (R355, R358, R364). -/
inductive Phase where
  /-- Unpowered, or held in reset. -/
  | reset
  /-- Held after a thermal trip until every site is below 95 °C (R371). -/
  | tripped
  /-- The recovery state (R364). -/
  | recovery
  /-- Step 13 complete. -/
  | ready
  deriving DecidableEq, Repr

/-- The harbourmaster beside its registers. -/
structure Hm where
  phase : Phase
  /-- Cause of the reset in force (Table 16-12, LAST_CAUSE). -/
  cause : Nat
  /-- The image header in force (Table 16-6), while an image has booted. -/
  image : Option Bytes
  /-- Requests waiting, in order of fetch (R391). -/
  queue : List MgtSrc
  mbxReq : Tbl Byte
  mbxResp : Bytes
  logBuf : List HmRec
  logSeq : Nat
  /-- Records dropped since the last one written (R386). -/
  logGap : Nat
  logKeys : List HmKey
  update : Option Update
  maker : Option Maker
  armed : Option CaptureReq
  held : Option (CaptureReq × Capture)
  /-- Reference time since which each die's formula has given a lower G, plus 1 (R376). -/
  coolSince : Tbl Nat
  /-- Reference time since which each site is above 105 °C, plus 1 (R377). -/
  hotSince : Tbl Nat
  pilots : List Pilot
  /-- The firmware crash store (R368). -/
  crash : Bytes
  /-- The driver version last written while not READY (R365). -/
  drvWritten : Option Nat
  /-- Reference time before which a reset release takes no effect (R414). -/
  resetDue : Nat
  /-- LP_EN[i], bit i, and CD_EN[n], bit n (Table 19-4). -/
  lpEn : Nat
  cdEn : Nat
  deriving DecidableEq, Repr

end Sys2Proof.Machine
end

