-- ==== Sys2Proof/Machine/State.lean ====
section
/-!
DEFINITION. The block's state, its fault and refusal reasons, and the state right after reset.
-/

namespace Sys2Proof.Machine

open Sys2Proof

/-- What has left the package, in order (the model's own record of its outputs). -/
inductive Out where
  /-- A completion entry of ring `r` in slot `slot` (Table 14-7). -/
  | entry (r slot : Nat) (bytes : Bytes)
  /-- A write of result data to host memory (R324). -/
  | host (addr : Nat) (bytes : Bytes)
  /-- An MSI-X message (R323). -/
  | msix (v : Nat)
  /-- An Ethernet frame of port `p`, with its launch time if timed. -/
  | eth (p : Nat) (launch : Option Nat) (bytes : Bytes)
  /-- A PTP message of port `p`: 1 Pdelay_Req, 2 Pdelay_Resp, 3 Pdelay_Resp_Follow_Up (R242). -/
  | ptp (p kind seqId stamp : Nat)
  /-- A CAN frame completed on controller `c`. -/
  | can (c : Nat) (f : CanFrame)
  /-- A fabric packet handed to link `k` (Table 08-2). -/
  | fabric (k : Nat) (bytes : Bytes)
  /-- Control words on link `k` (R196): a negative acknowledgement and an acknowledgement (R201), and flow credits of a
  virtual channel in 64-byte units (R200). -/
  | linkNak (k lseq : Nat)
  | linkAck (k lseq : Nat)
  | linkCredit (k vc units : Nat)
  /-- What this side sends in the identity exchange of link `k`: its package number, topology and lead (R197). -/
  | linkIdentity (k pkg : Nat) (topo : List Nat) (lead : Nat)
  /-- A fabric packet for this package itself. -/
  | loopback (bytes : Bytes)
  /-- A safe-stop output's commanded channel levels. -/
  | sso (g : Nat) (a b : Bool)
  /-- The trip land (R415). -/
  | trip (low : Bool)
  /-- A rail enable land, LP_EN[i] (R413, R414). -/
  | lpEn (i : Nat) (high : Bool)
  /-- CD_EN[n]. -/
  | cdEn (n : Nat) (high : Bool)
  /-- A VOUT_COMMAND to the regulator at a PMBus address, in mV (R378, R412). -/
  | vout (addr mv : Nat)
  deriving DecidableEq, Repr

/-- The block's state. -/
structure State where
  /-- Commands waiting, first in, first out. -/
  pending : List Instr
  /-- Every register that does not read its reset value, by its offset (R6, R7). -/
  regs : Tbl Word
  /-- The upper-word latches of wide quantities, by the upper word's offset (R6). -/
  latch : Tbl (Option Word)
  /-- The value that the last register read returned. -/
  lastRead : Word
  /-- Outputs so far. -/
  out : List Out
  /-- The free-value counter: the model's own. -/
  free : Nat
  clk : Clk
  doms : Tbl Dom
  eth : Tbl Eth
  hif : Hif
  cfg : Cfg
  axes : Tbl Axis
  can : Tbl Can
  saf : Saf
  slog : SLog
  flash : Flash
  fuses : Fuses
  hm : Hm
  /-- Admitted jobs, in order of admission. -/
  jobs : List Job
  /-- The cyclic table banks as loaded; empty while not loaded (R152). -/
  bank0 : Bytes
  bank1 : Bytes
  /-- Reference time of the trap of a package job loss in progress (R167). -/
  loss : Option Nat
  comp : Comp
  deriving DecidableEq, Repr

/-- Reasons a step can stop with a fault. -/
inductive Fault where
  /-- A command names an instance that the spec does not give the package (Table 00-2). Raised by
  every meaning with an instance operand. Safe: no such command exists. -/
  | noSuchInstance
  deriving DecidableEq, Repr

/-- Reasons a step can be refused. -/
inductive Refusal where
  /-- The command has no meaning in the model yet. Raised by Dispatch only. Safe. -/
  | notModelled (mnemonic : String)
  deriving DecidableEq, Repr

/-- A domain right after reset (R248). -/
def Dom.init : Dom := ⟨[], none, none, none, 0, 0, 0, 0, 0, 0, 0⟩

/-- An Ethernet port right after reset. -/
def Eth.init : Eth := ⟨[], 0, none, none⟩

/-- A ring right after reset (R326). -/
def Ring.init : Ring := ⟨0, 0, [], [], 0, false⟩

/-- An axis right after reset: DISABLED, counter 0 (R273), no owner; the spec gives the loop
variables no reset value, and every ENABLE initialises them (R259). -/
def Axis.init : Axis :=
  { p := 0, v := 0, acc := 0, ip := 0, iv := 0, epPrev := 0, evPrev := 0, vs := 0, uPrev := 0,
    pf := 0, vf := 0, fbStamp := 0, fb := [], q := [], cur := none, staleRun := 0, followRun := 0,
    enWait := [], enWins := 0, disWait := [], reinit := false, safeReq := none,
    safeOwned := false, stopEdge := 0, disagree := [], staged := none, lastU := none, cnt := 0,
    vt := 0, at_ := 0, jt := 0, vw := 0, fric := [], cog := [], tblLoad := [], trc := [], trcPrev := none,
    trcTrig := none, segRef := none }

/-- A CAN controller right after reset: OFF, three empty buffers. -/
def Can.init : Can := ⟨[], [none, none, none], [], 0, false, none⟩

/-- A stream's safety bookkeeping right after reset. -/
def SafSt.init : SafSt := ⟨none, none, none, none, false⟩

/-- A safe-stop channel outside a pulse cycle (R306). -/
def Pulse.init : Pulse := ⟨false, 0⟩

/-- The safety block right after reset. -/
def Saf.init : Saf := ⟨false, 0, [], [0, 0, 0, 0], false, 0, [], [], 0, none, []⟩

/-- The clocks right after reset; the tick unit starts at boot step 13 (R15). -/
def Clk.init : Clk :=
  { t := 0, ref := 0, live := false, tick := 0, lastEdge := 0, nextTick := 1, nextEdge := 1000000,
    period := 1000000, win := .collecting, lastCut := 0, prevComp := 0, slew := 0, slewAcc := 0, freq := 0,
    freqAcc := 0,    holdSince := 0, goodSince := none }

/-- A pilot core with its registers at 0; the spec gives no reset value. -/
def Pilot.init : Pilot := ⟨0, 0, 0, 0, List.replicate 32 0⟩

/-- The harbourmaster before reset release. -/
def Hm.init : Hm :=
  { phase := .reset, cause := 0, image := none, queue := [], mbxReq := [], mbxResp := [], logBuf := [],
    logSeq := 0, logGap := 0, logKeys := [], update := none, maker := none, armed := none, held := none, coolSince := [],
    hotSince := [], pilots := List.replicate 4 Pilot.init, crash := [],
    drvWritten := none, resetDue := 0, lpEn := 0, cdEn := 0 }

/-- The shift log right after reset. -/
def SLog.init : SLog := ⟨[], 0, 0, 0, [], [], [], [], [], [], [], false, false⟩

/-- No open transaction. -/
def Cfg.init : Cfg := ⟨[], 0, none, 0, none⟩

/-- Flash as the model assumes it before the first image is written: erased, no log, no record. -/
def Flash.init : Flash := ⟨[], [], none, none, [], []⟩

/-- A core with no tile (R61). -/
def Core.init : Core := ⟨none, false, none, [], [], false, false⟩

/-- An idle DMA channel. -/
def Chan.init : Chan := ⟨.idle, none, none, none⟩

/-- A closed berth (R124). -/
def Berth.init : Berth := ⟨0, [], [], 0⟩

/-- A die's KV cache with nothing mapped. -/
def KvDie.init : KvDie := ⟨0, 0, 0⟩

/-- Flow credits of the four virtual channels' buffers, in 64-byte units (R200). -/
def fullCredits : List Nat := [128, 512, 512, 64]

/-- A disabled link. -/
def Lnk.init : Lnk := ⟨0, 0, 0, [], [], fullCredits, 0, 0, 0, 0, 1, 0⟩

/-- A stream that has received nothing. -/
def Strm.init : Strm := ⟨none, [], 0, [], [], none, none, [], none⟩

/-- The compute side right after reset. -/
def Comp.init : Comp :=
  { pkgs := [], lastJob := 0, cores := [], chans := [], berths := [], mems := [], dirty := [],
    kv := ⟨[], [], 0, []⟩, kvd := [], lnks := [], fab := ⟨0, [], []⟩, strm := [], scrubs := [],
    cycNext := none, tly := [], lost := [] }

/-- The state right after a power-on reset, before reset release (R355, R413): every register
at its reset value, no table, queue or memory holding anything. -/
def State.reset : State :=
  { pending := [], regs := [], latch := [], lastRead := 0, out := [], free := 0,
    clk := Clk.init, doms := [], eth := [], hif := ⟨[], [], []⟩, cfg := Cfg.init, axes := [],
    can := [], saf := Saf.init, slog := SLog.init, flash := Flash.init,
    fuses := ⟨7, 0, 0⟩, hm := Hm.init, jobs := [], bank0 := [], bank1 := [], loss := none, comp := Comp.init }

end Sys2Proof.Machine
end

