-- ==== Sys2Proof/Machine/Flags.lean ====
section
/-!
DEFINITION. Registers as state: reading and writing fields, setting W1C flags, and the counters
that count events (R6, R7, R352).
-/

namespace Sys2Proof.Machine

open Sys2Proof

/-- The stored value of the register at `a`. -/
def State.rd (s : State) (a : Nat) : Word := tget (resetAt a) s.regs a

/-- The state with `v` in the register at `a`. -/
def State.wr (s : State) (a : Nat) (v : Word) : State :=
  { s with regs := tset (resetAt a) s.regs a v }

/-- The register table is in canonical form: addresses rising, and no register listed at its reset value. -/
def State.regsWf (s : State) : Bool := twfFrom resetAt 0 s.regs

/-- Bits [hi:lo] of the register at `a`. -/
def State.fld (s : State) (a hi lo : Nat) : Nat := bits (s.rd a) hi lo

/-- Bit `i` of the register at `a`. -/
def State.flag (s : State) (a i : Nat) : Bool := (s.rd a).toNat.testBit i

/-- Writes bits [hi:lo] of the register at `a`. -/
def State.put (s : State) (a hi lo v : Nat) : State := s.wr a (putBits (s.rd a) hi lo v)

/-- Sets bit `i` of the register at `a`: hardware setting a W1C flag. -/
def State.raise (s : State) (a i : Nat) : State := s.put a i i 1

/-- The saturation point of occurrence counters, a value 0xFFFF_FFFF never equals (R352). -/
def countTop : Nat := 0xFFFFFFFE

/-- Adds `n` occurrences to the counter at `a`. -/
def State.countN (s : State) (a n : Nat) : State :=
  s.wr a (BitVec.ofNat 32 (satAdd countTop (s.rd a).toNat n))

/-- Adds one occurrence to the counter at `a`. -/
def State.count (s : State) (a : Nat) : State := s.countN a 1

/-- Sets a flag and counts its event in the counter the flag's row names. -/
def State.event (s : State) (a i c : Nat) : State := (s.raise a i).count c

/-- Adds one to an 8-bit counter field, saturating at 0xFE (Tables 02-14, 05-9). -/
def State.count8 (s : State) (a lo : Nat) : State :=
  s.put a (lo + 7) lo (satAdd 0xFE (s.fld a (lo + 7) lo) 1)

/-- Writes a 64-bit quantity into two consecutive registers, low word first (R6). -/
def State.wr64 (s : State) (a v : Nat) : State :=
  (s.wr a (BitVec.ofNat 32 v)).wr (a + 4) (BitVec.ofNat 32 (v / 2 ^ 32))

/-- Reads a 64-bit quantity from two consecutive registers. -/
def State.rd64 (s : State) (a : Nat) : Nat := (s.rd a).toNat + 2 ^ 32 * (s.rd (a + 4)).toNat

end Sys2Proof.Machine
end

