-- ==== Sys2Proof/Machine/Fp.lean ====
section
/-!
DEFINITION. Floating-point formats (R38, Table 02-3) and arithmetic (R41): every operation is
exact on the decoded values and rounds once, to nearest with ties to even. Subnormals are kept
and every NaN result is the canonical NaN.
-/

namespace Sys2Proof.Machine

open Sys2Proof

/-- A decoded floating-point value: the finite ones are (−1)^neg · m · 2^e. -/
inductive FV where
  | nan
  | inf (neg : Bool)
  | fin (neg : Bool) (m : Nat) (e : Int)
  deriving DecidableEq, Repr

/-- The formats of Table 02-3. -/
inductive Fmt where
  | e4m3 | e5m2 | fp16 | bf16 | fp32
  deriving DecidableEq, Repr

/-- Exponent field width. -/
def Fmt.ebits : Fmt → Nat
  | .e4m3 => 4 | .e5m2 => 5 | .fp16 => 5 | .bf16 => 8 | .fp32 => 8
/-- Mantissa field width. -/
def Fmt.mbits : Fmt → Nat
  | .e4m3 => 3 | .e5m2 => 2 | .fp16 => 10 | .bf16 => 7 | .fp32 => 23
/-- Exponent bias. -/
def Fmt.bias : Fmt → Nat
  | .e4m3 => 7 | .e5m2 => 15 | .fp16 => 15 | .bf16 => 127 | .fp32 => 127
/-- Encoding of the largest finite magnitude. -/
def Fmt.maxFin : Fmt → Nat
  | .e4m3 => 0x7E | .e5m2 => 0x7B | .fp16 => 0x7BFF | .bf16 => 0x7F7F | .fp32 => 0x7F7FFFFF
/-- Canonical NaN output of Table 02-3. -/
def Fmt.nanBits : Fmt → Nat
  | .e4m3 => 0x7F | .e5m2 => 0x7E | .fp16 => 0x7E00 | .bf16 => 0x7FC0 | .fp32 => 0x7FC00000
/-- Position of the sign bit. -/
def Fmt.signPos (f : Fmt) : Nat := f.ebits + f.mbits

/-- Decodes an encoding (R38). -/
def fdec (f : Fmt) (b : Nat) : FV :=
  let neg := b.testBit f.signPos
  let e := (b >>> f.mbits) % 2 ^ f.ebits
  let m := b % 2 ^ f.mbits
  let top := 2 ^ f.ebits - 1
  if f = .e4m3 ∧ e = top ∧ m = 7 then .nan
  else if f ≠ .e4m3 ∧ e = top then (if m = 0 then .inf neg else .nan)
  else if e = 0 then .fin neg m (1 - (f.bias : Int) - f.mbits)
  else .fin neg (m + 2 ^ f.mbits) ((e : Int) - f.bias - f.mbits)

/-- Rounds the natural m · 2^−s to nearest, ties to even. -/
def rneShift (m s : Nat) : Nat :=
  if s = 0 then m
  else
    let q := m >>> s
    let r := m % 2 ^ s
    let h := 2 ^ (s - 1)
    if r < h then q else if h < r then q + 1 else q + q % 2

/-- m · 2^e rounded to an integer, to nearest with ties to even. -/
def rneNat (m : Nat) (e : Int) : Nat :=
  if 0 ≤ e then m <<< e.toNat else rneShift m (-e).toNat

/-- The magnitude bits of m · 2^e (m ≠ 0) rounded to the format, before the overflow test. -/
def roundMag (f : Fmt) (m : Nat) (e : Int) : Nat :=
  let l : Int := (Nat.log2 m : Int) + e
  let emin : Int := 1 - f.bias
  let big := if l < emin then emin else l
  let q := big - f.mbits
  let n := rneNat m (e - q)
  (big - emin).toNat * 2 ^ f.mbits + n

/-- Encodes a value. `sat`: a finite overflow becomes the largest finite magnitude (R54), else
infinity (R41). A format without infinity takes its NaN. -/
def fenc (f : Fmt) (sat : Bool) : FV → Nat
  | .nan => f.nanBits
  | .inf neg =>
    if f = .e4m3 then f.nanBits else b2n neg * 2 ^ f.signPos + f.maxFin + 1
  | .fin neg m e =>
    let s := b2n neg * 2 ^ f.signPos
    if m = 0 then s
    else
      let r := roundMag f m e
      if r ≤ f.maxFin then s + r
      else if sat then s + f.maxFin
      else if f = .e4m3 then f.nanBits
      else s + f.maxFin + 1

/-- Exact sum, with the signs of zero of R41. -/
def FV.add : FV → FV → FV
  | .nan, _ => .nan
  | _, .nan => .nan
  | .inf a, .inf b => if a = b then .inf a else .nan
  | .inf a, _ => .inf a
  | _, .inf b => .inf b
  | .fin s1 m1 e1, .fin s2 m2 e2 =>
    let e := if e1 < e2 then e1 else e2
    let a : Int := ((m1 <<< (e1 - e).toNat : Nat) : Int)
    let b : Int := ((m2 <<< (e2 - e).toNat : Nat) : Int)
    let t := (if s1 then -a else a) + (if s2 then -b else b)
    if t = 0 then .fin (s1 && s2) 0 0 else .fin (decide (t < 0)) t.natAbs e

/-- Negation. -/
def FV.neg : FV → FV
  | .nan => .nan
  | .inf s => .inf (!s)
  | .fin s m e => .fin (!s) m e

/-- Magnitude. -/
def FV.abs : FV → FV
  | .nan => .nan
  | .inf _ => .inf false
  | .fin _ m e => .fin false m e

/-- Exact product. -/
def FV.mul : FV → FV → FV
  | .nan, _ => .nan
  | _, .nan => .nan
  | .inf a, .inf b => .inf (a != b)
  | .inf a, .fin b m _ => if m = 0 then .nan else .inf (a != b)
  | .fin a m _, .inf b => if m = 0 then .nan else .inf (a != b)
  | .fin a m1 e1, .fin b m2 e2 => .fin (a != b) (m1 * m2) (e1 + e2)

/-- Quotient to 96 bits with a sticky bit, enough for one correct rounding. -/
def FV.div : FV → FV → FV
  | .nan, _ => .nan
  | _, .nan => .nan
  | .inf _, .inf _ => .nan
  | .inf a, .fin b _ _ => .inf (a != b)
  | .fin a _ _, .inf b => .fin (a != b) 0 0
  | .fin a m1 e1, .fin b m2 e2 =>
    if m2 = 0 then (if m1 = 0 then .nan else .inf (a != b))
    else
      let n := m1 <<< 96
      .fin (a != b) (2 * (n / m2) + b2n (n % m2 ≠ 0)) (e1 - e2 - 97)

/-- Floor square root of `n`, one result bit per step from bit `k − 1` down. -/
def isqrtAux (n : Nat) : Nat → Nat → Nat
  | 0, r => r
  | k + 1, r =>
    let c := r + 2 ^ k
    isqrtAux n k (if c * c ≤ n then c else r)

/-- Square root with a sticky bit, enough for one correct rounding. -/
def FV.sqrt : FV → FV
  | .nan => .nan
  | .inf true => .nan
  | .inf false => .inf false
  | .fin s m e =>
    if m = 0 then .fin s 0 0
    else if s then .nan
    else
      let odd := decide (e % 2 ≠ 0)
      let n := if odd then m <<< 65 else m <<< 64
      let e' : Int := if odd then (e - 65) / 2 else (e - 64) / 2
      let r := isqrtAux n 56 0
      .fin false (2 * r + b2n (r * r ≠ n)) (e' - 1)

/-- IEEE 754 order of two values that are not NaN: −0 equals +0. -/
def FV.cmp : FV → FV → Option Ordering
  | .nan, _ => none
  | _, .nan => none
  | .inf a, .inf b => some (if a = b then .eq else if a then .lt else .gt)
  | .inf a, _ => some (if a then .lt else .gt)
  | _, .inf b => some (if b then .gt else .lt)
  | .fin s1 m1 e1, .fin s2 m2 e2 =>
    let e := if e1 < e2 then e1 else e2
    let a : Int := ((m1 <<< (e1 - e).toNat : Nat) : Int)
    let b : Int := ((m2 <<< (e2 - e).toNat : Nat) : Int)
    let x := if s1 then -a else a
    let y := if s2 then -b else b
    some (if x < y then .lt else if x = y then .eq else .gt)

/-- True for a zero of either sign. -/
def FV.isZero : FV → Bool
  | .fin _ m _ => decide (m = 0)
  | _ => false
/-- True for NaN. -/
def FV.isNan : FV → Bool
  | .nan => true
  | _ => false
/-- True for an infinity. -/
def FV.isInf : FV → Bool
  | .inf _ => true
  | _ => false
/-- The sign. -/
def FV.sign : FV → Bool
  | .nan => false
  | .inf s => s
  | .fin s _ _ => s

/-- A whole number as a value. -/
def FV.ofInt (v : Int) : FV := .fin (decide (v < 0)) v.natAbs 0

/-- Rounds v · 2^k to an integer, ties to even; none for NaN and infinity. -/
def FV.toIntScaled (k : Int) : FV → Option Int
  | .fin s m e =>
    let n := rneNat m (e + k)
    some (if s then -(n : Int) else (n : Int))
  | _ => none

/-- floor of a finite value. -/
def FV.floor : FV → Option Int
  | .fin s m e =>
    let a : Int := if s then -(m : Int) else (m : Int)
    some (if 0 ≤ e then a * ((2 ^ e.toNat : Nat) : Int) else a / ((2 ^ (-e).toNat : Nat) : Int))
  | _ => none

/-- ceil of a finite value. -/
def FV.ceil (v : FV) : Option Int := (v.neg.floor).map (fun x => -x)

/-! ### FP32 operations on bits (each rounded once, R41) -/

/-- Decodes FP32 bits. -/
def fv (x : F32) : FV := fdec .fp32 x.toNat
/-- Rounds a value to FP32 bits. -/
def f32 (v : FV) : F32 := BitVec.ofNat 32 (fenc .fp32 false v)

def fadd (a b : F32) : F32 := f32 ((fv a).add (fv b))
def fsub (a b : F32) : F32 := f32 ((fv a).add (fv b).neg)
def fmul (a b : F32) : F32 := f32 ((fv a).mul (fv b))
def fdiv (a b : F32) : F32 := f32 ((fv a).div (fv b))
def fsqrt (a : F32) : F32 := f32 (fv a).sqrt
/-- Fused multiply-add, rounded once (R51). -/
def ffma (a b c : F32) : F32 := f32 (((fv a).mul (fv b)).add (fv c))
/-- Sign inversion (of a NaN: the canonical NaN). -/
def fneg (a : F32) : F32 := f32 (fv a).neg
def fabs (a : F32) : F32 := f32 (fv a).abs
/-- a < b; false when either is NaN. -/
def flt (a b : F32) : Bool := decide ((fv a).cmp (fv b) = some .lt)
/-- a ≤ b; false when either is NaN. -/
def fle (a b : F32) : Bool :=
  match (fv a).cmp (fv b) with
  | some .lt => true
  | some .eq => true
  | _ => false
/-- a = b as values; false when either is NaN. -/
def feq (a b : F32) : Bool := decide ((fv a).cmp (fv b) = some .eq)
def fisNan (a : F32) : Bool := (fv a).isNan
def fisInf (a : F32) : Bool := (fv a).isInf
/-- NaN or infinite. -/
def fbad (a : F32) : Bool := (fv a).isNan || (fv a).isInf
/-- clamp of R271: NaN passes, a NaN bound imposes no limit. -/
def fclamp (x lo hi : F32) : F32 :=
  if fisNan x then x else if flt x lo then lo else if flt hi x then hi else x
/-- An unsigned integer as FP32. -/
def fofNat (n : Nat) : F32 := f32 (.fin false n 0)
/-- A signed integer as FP32 (RNE). -/
def fofInt (n : Int) : F32 := f32 (FV.ofInt n)
/-- min(a, b) of a listing: the smaller; the vector unit's minimum (R51) is `vmin`. -/
def fminL (a b : F32) : F32 := if flt b a then b else a

/-- +0.0 -/
def f0 : F32 := 0#32
/-- +1.0 -/
def f1 : F32 := 0x3F800000#32
/-- −1.0 -/
def fm1 : F32 := 0xBF800000#32
/-- The canonical FP32 NaN. -/
def fnan : F32 := 0x7FC00000#32
/-- sign(x): +1, −1 or 0 (R267). -/
def fsgn (a : F32) : F32 := if flt f0 a then f1 else if flt a f0 then fm1 else if fisNan a then fnan else f0

/-- A conversion to a format under R54 (finite overflow takes the largest magnitude). -/
def fconv (f : Fmt) (v : FV) : Nat := fenc f true v

/-- Vector minimum and maximum (R51): NaN if either is NaN; −0 below +0. -/
def vmin (a b : F32) : F32 :=
  if fisNan a || fisNan b then fnan
  else if flt a b then a else if flt b a then b
  else if (fv a).sign then a else b
def vmax (a b : F32) : F32 :=
  if fisNan a || fisNan b then fnan
  else if flt a b then b else if flt b a then a
  else if (fv a).sign then b else a

/-! ### Transcendental functions (R53) -/

/-- ln 2 · 2^256. -/
def ln2c : Nat := 0xb17217f7d1cf79abc9e3b39803f2f6af40f343267298b62d8a0d175b8baafa2b

/-- Horner sum of the exponential series of z / 2^256, terms k down to 1. -/
def expSeries (z : Nat) : Nat → Nat → Nat
  | 0, acc => acc
  | k + 1, acc => expSeries z k (2 ^ 256 + (z * acc) / ((k + 1) * 2 ^ 256))

/-- Sum of the atanh series z + z³/3 + … with z2 = z², all scaled by 2^256. -/
def atanhSeries (z2 : Nat) : Nat → Nat → Nat → Nat → Nat
  | 0, _, _, acc => acc
  | n + 1, t, k, acc => atanhSeries z2 n ((t * z2) / 2 ^ 256) (k + 2) (acc + t / k)

/-- exp2, correctly rounded by a 250-bit evaluation (DEDUCED: no FP32 input lies that close to a
rounding boundary), with the special cases of Table 02-7. -/
def fexp2 (x : F32) : F32 :=
  match fv x with
  | .nan => fnan
  | .inf true => f0
  | .inf false => 0x7F800000#32
  | .fin s m e =>
    if m = 0 then f1
    else if fle 0x43000000#32 x then 0x7F800000#32
    else if fle x 0xC3160000#32 then f0
    else
      let a : Int := ((m <<< (e + 256).toNat : Nat) : Int)
      let t := if s then -a else a
      let n := t / ((2 ^ 256 : Nat) : Int)
      let fr := (t % ((2 ^ 256 : Nat) : Int)).toNat
      if fr = 0 then f32 (.fin false 1 n)
      else
        let z := fr * ln2c / 2 ^ 256
        f32 (.fin false (2 * expSeries z 64 (2 ^ 256) + 1) (n - 257))

/-- log2, correctly rounded as exp2 is, with the special cases of Table 02-7. -/
def flog2 (x : F32) : F32 :=
  match fv x with
  | .nan => fnan
  | .inf true => fnan
  | .inf false => 0x7F800000#32
  | .fin s m e =>
    if m = 0 then 0xFF800000#32
    else if s then fnan
    else
      let l := Nat.log2 m
      let k : Int := (l : Int) + e
      if m = 2 ^ l then fofInt k
      else
        -- m / 2^l in (1, 2): atanh argument (m − 2^l) / (m + 2^l)
        let z := ((m - 2 ^ l) <<< 256) / (m + 2 ^ l)
        let ln := 2 * atanhSeries (z * z / 2 ^ 256) 100 z 1 0
        let fr := (ln <<< 256) / ln2c
        let t : Int := k * ((2 ^ 256 : Nat) : Int) + (fr : Int)
        f32 (.fin (decide (t < 0)) (2 * t.natAbs + 1) (-257))

/-- Reciprocal (R53). -/
def frecip (x : F32) : F32 := fdiv f1 x

/-- Reciprocal square root, with the special cases of Table 02-7. -/
def frsqrt (x : F32) : F32 :=
  match fv x with
  | .nan => fnan
  | .inf true => fnan
  | .inf false => f0
  | .fin s m e =>
    if m = 0 then (if s then 0xFF800000#32 else 0x7F800000#32)
    else if s then fnan
    else
      -- 1/sqrt(m·2^e): the root of 2^(2k) / m', then one rounding
      let odd := decide (e % 2 ≠ 0)
      let m' := if odd then 2 * m else m
      let e' : Int := if odd then (e - 1) / 2 else e / 2
      let n := 2 ^ 160 / m'
      let r := isqrtAux n 82 0
      f32 (.fin false (2 * r + b2n (r * r * m' ≠ 2 ^ 160)) (-e' - 81))

/-! ### Integers out of values -/

/-- round_to_int_rne saturated to [lo, hi]; NaN gives 0 (R54, R273). -/
def fvToIntSat (lo hi : Int) : FV → Int
  | .nan => 0
  | .inf true => lo
  | .inf false => hi
  | v => clampInt lo hi ((v.toIntScaled 0).getD 0)

end Sys2Proof.Machine
end

