-- ==== Sys2Proof/Machine/Ops.lean ====
section
/-!
DEFINITION. Named operations over the state that every family shares: instances, free values,
the passage of time, ring completions and events, host writes, the shift log and the
harbourmaster log.
-/

namespace Sys2Proof.Machine

open Sys2Proof

/-- The outcome type of the block. -/
abbrev Out' := Host.Outcome State Fault Refusal

/-- Runs `o` where the instance exists, and faults otherwise. -/
def guardI (c : Bool) (o : State) : Host.Outcome State Fault Refusal :=
  if c then .next o else .fault .noSuchInstance

/-- Axis `a`. -/
def State.ax (s : State) (a : Nat) : Axis := tget Axis.init s.axes a
/-- Replaces axis `a`. -/
def State.setAx (s : State) (a : Nat) (x : Axis) : State :=
  { s with axes := tset Axis.init s.axes a x }
/-- CAN controller `c`. -/
def State.cn (s : State) (c : Nat) : Can := tget Can.init s.can c
/-- Replaces CAN controller `c`. -/
def State.setCn (s : State) (c : Nat) (x : Can) : State := { s with can := tset Can.init s.can c x }
/-- Ethernet port `p`. -/
def State.ep (s : State) (p : Nat) : Eth := tget Eth.init s.eth p
/-- Replaces Ethernet port `p`. -/
def State.setEp (s : State) (p : Nat) (x : Eth) : State := { s with eth := tset Eth.init s.eth p x }
/-- Domain `d`. -/
def State.dom (s : State) (d : Nat) : Dom := tget Dom.init s.doms d
/-- Replaces domain `d`. -/
def State.setDom (s : State) (d : Nat) (x : Dom) : State := { s with doms := tset Dom.init s.doms d x }
/-- Ring `r`. -/
def State.ring (s : State) (r : Nat) : Ring := tget Ring.init s.hif.rings r
/-- Replaces ring `r`. -/
def State.setRing (s : State) (r : Nat) (x : Ring) : State :=
  { s with hif := { s.hif with rings := tset Ring.init s.hif.rings r x } }
/-- Safety bookkeeping of stream `st`. -/
def State.sst (s : State) (st : Nat) : SafSt := tget SafSt.init s.saf.st st
/-- Replaces the safety bookkeeping of stream `st`. -/
def State.setSst (s : State) (st : Nat) (x : SafSt) : State :=
  { s with saf := { s.saf with st := tset SafSt.init s.saf.st st x } }

/-- Takes a fresh place in the free values. -/
def State.bump (s : State) : State := { s with free := s.free + 1 }

/-- The firmware serves the host (boot step 13 complete, R358). -/
def State.isReady (s : State) : Bool := decide (s.hm.phase = .ready)

/-- T mod 2^32, the form of every 32-bit time field (R244). -/
def State.now32 (s : State) : Nat := s.clk.t % 2 ^ 32

/-! ### Tally counters (R395 to R398) -/

/-- Counters of a die, 7 being the quay die. -/
def tlyN (d : Nat) : Nat := if d = 7 then 64 else 32
/-- The top of a 48-bit counter. -/
def tlyTop : Nat := 0xFFFFFFFFFFFF
/-- Value of counter `c` of die `d`. -/
def State.tlyVal (s : State) (d c : Nat) : Nat := (s.rd (tlyC d c 8)).toNat + 2 ^ 32 * s.fld (tlyC d c 0xC) 15 0
/-- SAT of a counter. -/
def State.tlySat (s : State) (d c : Nat) : Bool := s.flag (tlyC d c 0xC) 31
/-- Writes a counter's value. -/
def State.tlyPut (s : State) (d c v : Nat) : State :=
  (s.wr (tlyC d c 8) (BitVec.ofNat 32 v)).put (tlyC d c 0xC) 15 0 (v / 2 ^ 32)
/-- A counter without CHAIN stops at its top and sets SAT (R398). -/
def State.tlySaturate (s : State) (d c : Nat) : State :=
  if s.tlySat d c then s else ((s.tlyPut d c tlyTop).put (tlyC d c 0xC) 31 31 1).event (tlyA 4) 3 (tlyA 0xC)
/-- Adds to a counter; a chained one wraps into its successor (R398). `fuel` bounds the chain. -/
def State.tlyAdd (d n : Nat) : Nat → Nat → State → State
  | 0, _, s => s
  | fuel + 1, c, s =>
    let v := s.tlyVal d c + n
    if s.flag (tlyC d c 0) 30 then
      let s := s.tlyPut d c (v % 2 ^ 48)
      if v < 2 ^ 48 then s else State.tlyAdd d (v / 2 ^ 48) fuel (c + 1) s
    else if tlyTop ≤ v then s.tlySaturate d c
    else s.tlyPut d c v
/-- `n` occurrences of an increment event of die `d` from unit `u` (R395, R396). The counters of a
compute die do not advance from a trap until the die is released, nor out of service (R401). -/
def State.tally (s : State) (d ev u n : Nat) : State :=
  if s.flag (tlyA 4) 0 && decide (0 < n) && (d = 7 || (s.loss.isNone && s.flag 4 (8 + d))) then
    (List.range (tlyN d)).foldl (fun s c =>
      if s.flag (tlyC d c 0) 31 && decide (s.fld (tlyC d c 0) 7 0 = ev) &&
          (s.fld (tlyC d c 0) 15 8 == u || s.fld (tlyC d c 0) 15 8 == 0xFF) then
        State.tlyAdd d n 64 c s
      else s) s
  else s

/-! ### Time -/

/-- How far slewing moves working time while `n` reference ns pass: 50 ppm (R250). -/
def slewBy (c : Clk) (n : Nat) : Nat := min c.slew.natAbs ((c.slewAcc % 20000 + n) / 20000)

/-- What a correction of `f` parts per 10^9 adds in `n` reference ns, and the billionths of a ns then carried
(R243). -/
def freqAdv (f : Int) (acc n : Nat) : Int × Nat :=
  (((acc : Int) + n * f) / 1000000000, (((acc : Int) + n * f) % 1000000000).toNat)

/-- How far working time advances while `n` reference ns pass (R243, R250). -/
def Clk.adv (c : Clk) (n : Nat) : Int :=
  n + (freqAdv c.freq c.freqAcc n).1 + (if c.slew < 0 then -(slewBy c n : Int) else (slewBy c n : Int))

/-- Rewrites each domain that has been in use. -/
def State.eachDom (s : State) (f : Dom → Dom) : State :=
  let one := fun (s : State) d => if s.dom d = Dom.init then s else s.setDom d (f (s.dom d))
  one (one s 0) 1

/-- `n` ns of the system reference pass (R243, R250): every clock advances with its own frequency correction, and
slewing moves working time. -/
def State.pass (s : State) (n : Nat) : State :=
  let c := s.clk
  let a := c.adv n
  let k := slewBy c n
  let left := if c.slew < 0 then c.slew + k else c.slew - k
  let s := s.eachDom (fun x =>
    let g := freqAdv x.freq x.acc n
    { x with acc := g.2, off := x.off + n + g.1 - a })
  let s : State := { s with clk := { c with
    t := (c.t + a).toNat, ref := c.ref + n, slew := left, slewAcc := if left = 0 then 0 else (c.slewAcc + n) % 20000
    freqAcc := (freqAdv c.freq c.freqAcc n).2 } }
  if left = 0 then s.put (timA 0x88) 3 3 0 else s

/-- Working time stands at `due`, not beyond: what lies beyond is added to the next advance. -/
def State.hold (s : State) (due : Nat) : State :=
  let e := (s.clk.t - due) * 1000000000
  let s := s.eachDom (fun x => { x with acc := x.acc + e })
  { s with clk := { s.clk with t := min s.clk.t due, freqAcc := s.clk.freqAcc + e } }

/-- The block idles for one nanosecond of the system reference, but never past the next edge. -/
def State.idle (s : State) : State :=
  if s.clk.live then (if s.clk.nextEdge ≤ s.clk.t then s else (s.pass 1).hold s.clk.nextEdge) else s.pass 1

/-- The least number from `lo` to `hi` at which a rising `p` holds; `hi` where it holds at none below. -/
def leastFrom (p : Nat → Bool) : Nat → Nat → Nat → Nat
  | 0, lo, _ => lo
  | k + 1, lo, hi =>
    if hi ≤ lo then lo
    else if p ((lo + hi) / 2) then leastFrom p k lo ((lo + hi) / 2) else leastFrom p k ((lo + hi) / 2 + 1) hi

/-- Reference ns until working time has advanced by `d`. -/
def Clk.refFor (c : Clk) (d : Nat) : Nat :=
  leastFrom (fun n => decide ((d : Int) ≤ c.adv n)) ((2 * d + 2).log2 + 2) 0 (2 * d + 2)

/-- The state once working time has reached `due`: `none` if the next edge would pass first.
A time already past is reached at once. -/
def State.reach (s : State) (due : Nat) : Option State :=
  if due ≤ s.clk.t then some s
  else if !s.clk.live || due ≤ s.clk.nextEdge then
    let u := (s.pass (s.clk.refFor (due - s.clk.t))).hold due
    some { u with clk := { u.clk with t := due } }
  else none

/-- The state once the system reference has reached `due`. -/
def State.reachRef (s : State) (due : Nat) : Option State :=
  if due ≤ s.clk.ref then some s
  else
    let u := s.pass (due - s.clk.ref)
    if !s.clk.live || u.clk.t ≤ s.clk.nextEdge then some u else none

/-- `f` at the time `due` of the reference, no effect before. -/
def State.atRef (s : State) (due : Nat) (f : State → State) : State :=
  match s.reachRef due with
  | some s' => f s'
  | none => s

/-- `f` at working time `due`, no effect before. -/
def State.atT (s : State) (due : Nat) (f : State → State) : State :=
  match s.reach due with
  | some s' => f s'
  | none => s

/-- The guard time G in ns (R24). -/
def State.guardNs (s : State) : Nat := s.fld (timA 0x104) 12 0 * 1000

/-- The cut-off of the window that closes before the next edge (R24). -/
def State.cutoff (s : State) : Nat := s.clk.nextEdge - s.guardNs

/-- The tick whose feedback window contains the instant `t`, not earlier than the present window (R24): a
frame at a cut-off belongs to the later window. -/
def State.windowOf (s : State) (t : Nat) : Nat :=
  if s.cutoff ≤ t then s.clk.nextTick + (t - s.cutoff) / s.clk.period else s.clk.tick

/-- The window that a frame stamped `t` enters; none where its window was computed or passed already (R433). -/
def State.fbWindow (s : State) (t : Nat) : Option Nat :=
  if t < s.cutoff && (decide (t < s.clk.lastCut) || decide (s.clk.win = .passed)) then none
  else some (s.windowOf t)

/-- The instant that a 32-bit time field names, extended against T (R245). -/
def State.extend (s : State) (f : Nat) : Nat := (s.clk.t + dist32 f s.now32).toNat

/-! ### Host memory and rings -/

/-- The PCI Express link is up (R325). -/
def State.linkUp (s : State) : Bool := decide (s.fld (hifA 0) 3 0 ≠ 0)

/-- A write towards the host: discarded and counted while the link is down (R325). -/
def State.emitHost (s : State) (o : Out) : State :=
  if s.linkUp then { s with out := s.out ++ [o] }
  else s.event (hifA 4) 3 (hifA 0x14)

/-- Any other output. -/
def State.emit (s : State) (o : Out) : State := { s with out := s.out ++ [o] }

/-- Result data of a descriptor (R324); an empty write is none. -/
def State.hostData (s : State) (addr : Nat) (b : Bytes) : State :=
  if b.isEmpty then s else s.emitHost (.host addr b)

/-- log2 of a ring's size. -/
def State.ringLog (s : State) (r : Nat) : Nat := s.fld (ringA r 0x10) 20 16
/-- A ring's size. -/
def State.ringSize (s : State) (r : Nat) : Nat := 2 ^ s.ringLog r
/-- The ring is enabled. -/
def State.ringOn (s : State) (r : Nat) : Bool := s.flag (ringA r 0x10) 31
/-- The ring is halted (R328). -/
def State.ringHalted (s : State) (r : Nat) : Bool := s.flag (ringA r 0x18) 1
/-- The ring carries the installer role; ring 0 cannot lose it (R329). -/
def State.installer (s : State) (r : Nat) : Bool := r = 0 || s.flag (ringA r 0x14) 31
/-- The ring holds permission bit `b` (Table 14-2). -/
def State.perm (s : State) (r b : Nat) : Bool := s.installer r || s.flag (ringA r 0x14) b
/-- Bytes of a harbourmaster log record (Table 17-4). -/
def HmRec.size (x : HmRec) : Nat := 32 + ((x.payload.length + 7) / 8) * 8

/-- Puts a record into the 64 KiB buffer, or drops and counts it when the buffer is full; the
first record after a drop is preceded by a GAP record with the count (R386). -/
def State.hmPush (s : State) (type : Nat) (supp : Bool) (ring role : Nat) (payload : Bytes) : State :=
  let mk : Nat → Nat → Bool → Nat → Nat → Bytes → HmRec := fun q t b r o p =>
    ⟨t, b, q % 2 ^ 32, (s.rd (mgtA 4)).toNat, s.now32, if s.isReady then s.clk.tick else 0, r, o, p⟩
  let gap : List HmRec :=
    if s.hm.logGap = 0 then [] else [mk s.hm.logSeq 0x0F false 0xFFFF 0xFF (leBytes 4 s.hm.logGap)]
  let add := gap ++ [mk (s.hm.logSeq + gap.length) type supp ring role payload]
  if (s.hm.logBuf.map HmRec.size).sum + (add.map HmRec.size).sum ≤ 65536 then
    let q := s.hm.logSeq + add.length
    let s : State := { s with hm := { s.hm with logBuf := s.hm.logBuf ++ add, logSeq := q, logGap := 0 } }
    s.wr (mgtA 0x500) (BitVec.ofNat 32 (q - 1))
  else ({ s with hm := { s.hm with logGap := s.hm.logGap + 1 } } : State).count (mgtA 0x504)

/-- Writes a harbourmaster log record. Records of one TYPE and index within one second coalesce:
the first is written and the next one after the second carries the count of those suppressed
(R386). A record without an index never coalesces. -/
def State.hmLog (s : State) (type : Nat) (index : Option Nat) (ring role : Nat) (payload : Bytes) : State :=
  match index with
  | none => s.hmPush type false ring role payload
  | some i =>
    match s.hm.logKeys.find? (fun k => k.type == type && k.index == i) with
    | none =>
      ({ s with hm := { s.hm with logKeys := s.hm.logKeys ++ [⟨type, i, s.clk.ref, 0⟩] } } : State).hmPush
        type false ring role payload
    | some k =>
      let here := fun (e : HmKey) => e.type == type && e.index == i
      if s.clk.ref < k.ref + 1000000000 then
        { s with hm := { s.hm with logKeys := mapIf here (fun e => { e with count := e.count + 1 }) s.hm.logKeys } }
      else
        let s : State := { s with hm := { s.hm with
          logKeys := mapIf here (fun e => { e with ref := s.clk.ref, count := 0 }) s.hm.logKeys } }
        if k.count = 0 then s.hmPush type false ring role payload
        else s.hmPush type true ring role (leBytes 4 k.count ++ payload)

/-- The role of a ring as the log records it (Table 17-4). -/
def State.roleOf (s : State) (r : Nat) : Nat :=
  match s.hm.maker with
  | some m => if m.opened && m.ring = r then 2 else b2n (s.installer r)
  | none => b2n (s.installer r)

/-- Whether a descriptor needs the installer role: its opcode (Table 14-4), or the MGT_OP of an
MGT_REQ (Table 17-7). -/
def roleNeeded (op mgtOp : Nat) : Bool :=
  [0x01, 0x02, 0x03, 0x04, 0x18, 0x19, 0x20, 0x22, 0x23, 0x28, 0x29, 0x38, 0x39, 0x3A].contains op ||
    (op == 0x08 && [0x10, 0x11, 0x18, 0x19, 0x20, 0x21, 0x22, 0x23, 0x24, 0x25, 0x30, 0x31, 0x32, 0x33].contains mgtOp)

/-- Records a role action (R382). -/
def State.roleAction (s : State) (op mgtOp r tag : Nat) (st : Status) : State :=
  ((s.hmLog 0x02 none r (if r = 0xFFFF then 1 else s.roleOf r)
    (leBytes 2 op ++ leBytes 2 mgtOp ++ leBytes 4 tag ++ leBytes 2 st.code)).count (mgtA 0x50C))

/-- Completion entries written and not consumed. -/
def State.cqUsed (s : State) (r : Nat) : Nat :=
  ((s.rd (ringA r 0x20)).toNat + 2 ^ 32 - (s.ring r).cqHead) % 2 ^ 32
/-- Free completion entries (R328). -/
def State.cqFree (s : State) (r : Nat) : Nat := s.ringSize r - s.cqUsed r

/-- The bytes of a completion entry (Table 14-7). -/
def entryBytes (tag status op flags result info time : Nat) : Bytes :=
  leBytes 4 tag ++ leBytes 2 status ++ leBytes 1 op ++ leBytes 1 flags ++ leBytes 8 result ++
    leBytes 8 info ++ leBytes 4 time ++ zeros 4

/-- Writes the next completion entry of ring `r` and marks its vector (R323, R335). -/
def State.writeEntry (s : State) (r tag op : Nat) (st : Status) (isEvent signal : Bool)
    (result info time : Nat) : State :=
  let t := (s.rd (ringA r 0x20)).toNat
  let phase := if (t / s.ringSize r) % 2 = 0 then 1 else 0
  let lost := (s.ring r).lost
  let flags := phase + 2 * b2n isEvent + 4 * b2n lost
  let v := s.fld (ringA r 0x10) 10 0
  let s := s.emitHost (.entry r (t % s.ringSize r) (entryBytes tag st.code op flags result info time))
  let s := (s.wr (ringA r 0x20) (BitVec.ofNat 32 (t + 1))).tally 7 0x51 0xFF 1
  let s := s.setRing r { s.ring r with lost := false }
  if signal && !s.hif.msiPend.contains v then
    { s with hif := { s.hif with msiPend := s.hif.msiPend ++ [v] } } else s

/-- The fetched descriptor `num` of ring `r`. -/
def State.desc (s : State) (r num : Nat) : Option Inflight :=
  ((s.ring r).fl.filter (fun d => d.num == num)).head?

/-- Completes descriptor `num` of ring `r` (R335), with its time field. -/
def State.completeAt (s : State) (r num : Nat) (st : Status) (result info time : Nat) : State :=
  match s.desc r num with
  | none => s
  | some d =>
    let s := s.setRing r { s.ring r with fl := (s.ring r).fl.filter (fun e => e.num != num) }
    let s := s.writeEntry r d.tag d.op st false d.intr result info time
    let m := if d.op = 0x08 then le d.bytes 8 2 else 0
    if roleNeeded d.op m then s.roleAction d.op m r d.tag st else s

/-- Completes descriptor `num` of ring `r` now. -/
def State.complete (s : State) (r num : Nat) (st : Status) : State :=
  s.completeAt r num st 0 0 s.now32

/-- Completes with a RESULT. -/
def State.completeR (s : State) (r num : Nat) (st : Status) (result : Nat) : State :=
  s.completeAt r num st result 0 s.now32

/-- Completion entries that the ring's uncompleted descriptors and class C jobs reserve (R328). -/
def State.reserved (s : State) (r : Nat) : Nat := (s.ring r).fl.length + (s.ring r).classC

/-- Drops an event of ring `r`: counted, and the next entry carries EVENT_LOST (R337). -/
def State.dropEvent (s : State) (r : Nat) : State :=
  (s.count (ringA r 0x28)).setRing r { s.ring r with lost := true }

/-- Posts an event that has a place only beyond the reserved count (R337). -/
def State.postEvent (s : State) (r tag op : Nat) (st : Status) (info : Nat) : State :=
  if s.ringOn r && decide (s.reserved r < s.cqFree r) then s.writeEntry r tag op st true true 0 info s.now32
  else s.dropEvent r

/-- Halts ring `r` (R328). -/
def State.haltRing (s : State) (r : Nat) (st : Status) : State :=
  let s := (s.put (ringA r 0x18) 1 1 1).put (ringA r 0x18) 31 24 st.code
  s.event (hifA 4) 0 (hifA 0xC)

/-- The descriptor of ring `r` that starts next, if it has opcode `op` and nothing holds it
(R336): the first that has not started, and under FENCE only when it is the oldest. -/
def State.startable (s : State) (r op : Nat) : Option Inflight :=
  match findAt (fun d => !d.begun) (s.ring r).fl 0 with
  | none => none
  | some (i, d) => if d.op = op && (!d.fence || i = 0) then some d else none

/-- Marks descriptor `num` of ring `r` as started. -/
def State.begin (s : State) (r num : Nat) : State :=
  s.setRing r { s.ring r with
    fl := mapIf (fun d => d.num == num) (fun d => { d with begun := true }) (s.ring r).fl }

/-- Runs `f` on the started descriptor of opcode `op` that ring `r` starts next; no effect where
there is none. -/
def State.withDesc (s : State) (r op : Nat) (f : State → Inflight → State) : State :=
  match s.startable r op with
  | none => s
  | some d => f (s.begin r d.num) d

/-! ### The shift log -/

/-- Bytes of a shift-log record: header and padded payload (R183). -/
def LogRec.size (x : LogRec) : Nat := 24 + ((x.payload.length + 7) / 8) * 8

/-- Bytes the log area holds. -/
def SLog.used (l : SLog) : Nat := (l.recs.map LogRec.size).sum

/-- GLB_LOG_CFG.MODE. -/
def State.logMode (s : State) : Nat := s.fld 0x304 1 0
/-- The shift log is active (R182). -/
def State.logOn (s : State) : Bool := s.flag 0x308 0
/-- Replay mode is on (R187). -/
def State.inReplay (s : State) : Bool := s.flag 0x330 0
/-- Deterministic mode is on (R176). -/
def State.det (s : State) : Bool := s.flag 0x200 0

/-- The bytes of a record (Table 07-3). -/
def LogRec.encode (x : LogRec) : Bytes :=
  leBytes 1 x.type ++ leBytes 1 x.flags ++ leBytes 2 x.size ++ leBytes 4 x.stamp ++ leBytes 8 x.tick ++
    leBytes 2 x.source ++ leBytes 2 x.uncert ++ leBytes 4 x.seq ++ padTo 8 x.payload

/-- Drops the oldest records until `need` more bytes fit. -/
def dropOldest (area need : Nat) : Nat → List LogRec → List LogRec
  | 0, l => l
  | n + 1, l =>
    if (l.map LogRec.size).sum + need ≤ area then l else dropOldest area need n (l.drop 1)

/-- A waiting buffer takes the records that fit into it, oldest first. It is full once the next one does not fit, or once
no record can (Table 07-3). -/
def Post.take (p : Post) : List LogRec → Post × List LogRec
  | [] => ({ p with full := decide (p.room < 24) }, [])
  | x :: l =>
    if p.room < x.size then ({ p with full := true }, x :: l)
    else Post.take { p with got := p.got ++ x.encode, room := p.room - x.size } l

/-- Waiting buffers take records in the order they were posted (R181). -/
def fillPosts : List Post → List LogRec → List Post × List LogRec
  | [], l => ([], l)
  | p :: ps, l =>
    let x := if p.full then (p, l) else p.take l
    let y := if x.1.full then fillPosts ps x.2 else (ps, x.2)
    (x.1 :: y.1, y.2)

/-- Streamed records leave the area for the buffers that wait (R181). -/
def SLog.stream (l : SLog) : SLog := { l with recs := (fillPosts l.posts l.recs).2, posts := (fillPosts l.posts l.recs).1 }

/-- Appends a record to the log area; in streaming mode a waiting buffer takes it. -/
def State.slogPush (s : State) (x : LogRec) : State :=
  let l : SLog := { s.slog with recs := s.slog.recs ++ [x], seq := s.slog.seq + 1 }
  let s : State := { s with slog := if s.logMode = 3 then l.stream else l }
  s.wr64 0x318 (s.rd64 0x318 + x.size)

/-- Writes a shift-log record (R183, R185): the DRAM ring overwrites its oldest records, the
stop-when-full area stops with a MARK, and a full streaming area drops. The ring wraps when its write position passes
the area's end. -/
def State.slogAdd (s : State) (type flags source stamp uncert : Nat) (payload : Bytes) : State :=
  if s.logOn && !s.inReplay then
    let flags := flags + 2 * b2n (!s.det)
    let x : LogRec := ⟨type, flags, stamp % 2 ^ 32, s.clk.tick, source, uncert, s.slog.seq % 2 ^ 32, payload⟩
    let area := s.fld 0x304 13 8 * 2 ^ 28
    if s.logMode = 1 then
      let n := s.rd64 0x318
      let s : State := { s with slog := { s.slog with recs := dropOldest area x.size s.slog.recs.length s.slog.recs } }
      (if (n - 1) / area < (n + x.size - 1) / area then s.event 0x308 1 0x30C else s).slogPush x
    else if s.slog.used + x.size ≤ area then
      if s.logMode = 3 && s.slog.dropped > 0 then
        { s with slog := { s.slog with dropped := s.slog.dropped + 1, seq := s.slog.seq + 1 } }
      else s.slogPush x
    else if s.logMode = 2 then
      -- the MARK of kind stop ends the log; ACTIVE clears and FULL is set
      let m : LogRec := ⟨0x0C, 2 * b2n (!s.det), s.now32, s.clk.tick, 0, 0, s.slog.seq % 2 ^ 32, [2]⟩
      ((s.slogPush m).put 0x308 3 3 1).put 0x308 0 0 0
    else { s with slog := { s.slog with dropped := s.slog.dropped + 1, seq := s.slog.seq + 1 } }
  else s

/-- A shift-log record stamped now. -/
def State.slogNow (s : State) (type source : Nat) (payload : Bytes) : State :=
  s.slogAdd type 0 source s.now32 0 payload

/-- Whether a logged record is the OUTCOME of a kind, key, unit and ordinal. -/
def LogRec.isOutcome (x : LogRec) (kind key unit ord : Nat) : Bool :=
  x.type == 0x0A && [le x.payload 0 4, le x.payload 4 4, le x.payload 8 4, le x.payload 12 4] == [kind, key, unit, ord]

/-- The replayed log holds an outcome (R189): a GUARD_MISS in the present tick, the others at any place, since the
work that meets them takes another time than it took live. -/
def State.logged (s : State) (kind key unit ord : Nat) : Bool :=
  (if kind = 1 then s.slog.ticks else s.slog.outs ++ s.slog.play).any (fun x => x.isOutcome kind key unit ord)

/-- A timing outcome (R179): the OUTCOME record and its flag. KIND is the order of R179's list, and the ordinal tells
apart a job's segments. In replay an outcome without a logged counterpart sets TIMING_DIV (R189). -/
def State.outcome (s : State) (kind key unit ord : Nat) : State :=
  if s.inReplay then (if s.logged kind key unit ord then s else s.event 0x334 3 0x33C)
  else (s.slogNow 0x0A unit (leBytes 4 kind ++ leBytes 4 key ++ leBytes 4 unit ++ leBytes 4 ord)).event 0x308 5 0x320

/-- A byte string of exactly `n` bytes, cut or padded with zeros. -/
def fitTo (n : Nat) (b : Bytes) : Bytes := b.take n ++ zeros (n - b.length)

/-- A byte string behind its length. -/
def part (b : Bytes) : Bytes := leBytes 4 b.length ++ b

/-- Cuts a payload into record-sized parts (LEN is at most 65,528, Table 07-3). -/
def cutBytes : Nat → Bytes → List Bytes
  | 0, _ => []
  | n + 1, b => if b.length ≤ 65496 then [b] else b.take 65504 :: cutBytes n (b.drop 65504)

/-- The payload of a SUBMIT record (Table 07-4): the handle that an admission gives, the descriptor, the package digest,
working time and tick of its fetch, a segment's master level, and two blocks read from host memory. -/
def descBytes (handle : Nat) (desc digest : Bytes) (t tick level : Nat) (a b : Bytes) : Bytes :=
  leBytes 4 handle ++ fitTo 64 desc ++ fitTo 16 digest ++ leBytes 8 t ++ leBytes 8 tick ++ leBytes 4 level ++ part a ++ part b

/-- Writes the SUBMIT records of a descriptor (R182); a payload past the record length is cut. -/
def State.logSubmit (s : State) (ring : Nat) (b : Bytes) : State :=
  (cutBytes (b.length + 1) b).foldl (fun s p => s.slogNow 0x08 ring p) s

/-- A descriptor other than a job's that decides outputs, as an input of the log (R174). -/
def State.logDesc (s : State) (r : Nat) (d : Inflight) (handle level : Nat) (a b : Bytes) : State :=
  s.logSubmit r (descBytes handle d.bytes [] d.fetch.t d.fetch.tick level a b)

/-- Frames may leave the package: not in replay (R187), and not before the control engine has
computed after a package reset (R356). -/
def State.mayTransmit (s : State) : Bool := s.saf.computed && !s.inReplay

/-! ### Axis fields that many families read -/

/-- CTL_STAT.STATE of an axis (Table 11-1). -/
def State.axState (s : State) (a : Nat) : Nat := s.fld (ctlA a 0x100) 2 0
/-- Writes CTL_STAT.STATE. -/
def State.setAxState (s : State) (a n : Nat) : State := s.put (ctlA a 0x100) 2 0 n
/-- The axis is enabled: in any state but DISABLED. -/
def State.axOn (s : State) (a : Nat) : Bool := decide (s.axState a ≠ 0)
/-- Some axis is enabled. -/
def State.anyAxis (s : State) : Bool := (List.range 64).any s.axOn
/-- TIM_TICK_STAT.LOCKED (R15). -/
def State.locked (s : State) : Bool := s.flag (timA 0x110) 0

end Sys2Proof.Machine
end

