-- ==== Sys2Proof/Machine/TallySync.lean ====
section
/-!
DEFINITION. The tally counters that count time (R395 to R397, R401): what the cycles since the last
synchronisation add. Whatever changes a level or starts and stops counting synchronises first.
-/

namespace Sys2Proof.Machine

open Sys2Proof

/-- The counters of a die advance: counting runs and the die serves (R395, R401). -/
def State.tlyOn (s : State) (d : Nat) : Bool :=
  s.flag (tlyA 4) 0 && (decide (d = 7) || (s.loss.isNone && s.flag 4 (8 + d)))

/-- Cycles of a die between two reference times: 1.4 GHz on compute dies, 1.0 GHz on the quay die. -/
def tlyCycles (d a b : Nat) : Nat := if d = 7 then b - a else b * 7 / 5 - a * 7 / 5

/-- A core of die `d` that UNIT `u` selects, by the key of its table entry with `per` entries a core. -/
def unitCore (d u per key : Nat) : Bool := key / per / 17 == d && (u == 0xFF || key / per % 17 == u)

/-- Cores that run a tile. -/
def State.tilesBusy (s : State) (d u : Nat) : Nat :=
  (s.comp.cores.filter (fun e => unitCore d u 1 e.1 && e.2.tile.isSome)).length
/-- DMA channels that wait for berth credit. -/
def State.creditWaits (s : State) (d u : Nat) : Nat :=
  (s.comp.chans.filter (fun e => unitCore d u 8 e.1 && e.2.st == .waitCredit)).length
/-- Frames in receive FIFOs. -/
def State.canHeld (s : State) (u : Nat) : Nat :=
  ((s.can.filter (fun e => u == 0xFF || e.1 == u)).map (fun e => e.2.fifo.length)).sum

/-- The busy count of a core that runs a tile since reference time `since` (R404). -/
def State.busyCycles (s : State) (d k since : Nat) : Nat :=
  satAdd tlyTop (s.rd64 (mcA d k 0x60)) ((s.clk.ref - since) * 7 / 5)

/-- Virtual channels of a link with a packet ready and too few credits (R200). -/
def Lnk.starved (x : Lnk) : Nat :=
  ((List.range 4).filter (fun vc =>
    match x.queue.find? (fun p => p.vc == vc) with
    | none => false
    | some p => decide (x.credits.getD vc 0 < cdiv p.size 64))).length
/-- Starved virtual channels of the links that UNIT `u` selects. -/
def State.linksStarved (s : State) (u : Nat) : Nat :=
  ((s.comp.lnks.filter (fun e => u == 0xFF || e.1 == u)).map (fun e => e.2.starved)).sum
/-- An RFC 2435 sample is in the decoder and pre-processor. -/
def State.decodes (s : State) : Bool :=
  s.comp.strm.any (fun e => s.fld (ingA e.1 0) 17 16 == 2 && e.2.wait.any (fun x => x.phase == .processing))

/-- The level of an occupancy event, where the model holds it (Tables 18-1, 18-2). -/
def State.tlyLevel (s : State) (d ev u : Nat) : Option Nat :=
  if d = 7 then
    (if ev = 0x13 then some (s.linksStarved u)
    else if ev = 0x21 then some (s.fld (ingW 4) 10 0)
    else if ev = 0x22 then some (b2n s.decodes)
    else if ev = 0x40 then some (s.canHeld u)
    else none)
  else if ev = 3 then some (s.tilesBusy d u)
  else if ev = 0xA then some (s.creditWaits d u)
  else none

/-- Increment events that the commands themselves count. -/
def tlyByCommand (d ev : Nat) : Bool :=
  if d = 7 then [0, 0x10, 0x11, 0x12, 0x20, 0x30, 0x31, 0x50, 0x51, 0x61].contains ev else [0, 4, 0x11, 0x12].contains ev

/-- Adds `n` cycles to counter `c` of die `d`. An event that no command determines adds a free number. -/
def State.tlyPass (d n : Nat) (s : State) (c : Nat) : State :=
  let cfg := s.rd (tlyC d c 0)
  let ev := bits cfg 7 0
  if !cfg.toNat.testBit 31 || n = 0 || tlyByCommand d ev then s
  else if ev = 1 then State.tlyAdd d n 64 c s
  else if d ≠ 7 && ev = 2 then State.tlyAdd d (n * s.fld (mgtA (0x314 + 4 * d)) 4 0 / 32) 64 c s
  else
    match s.tlyLevel d ev (bits cfg 15 8) with
    | some l =>
      if cfg.toNat.testBit 29 then (if s.fld (tlyC d c 4) 15 0 < l then State.tlyAdd d n 64 c s else s)
      else State.tlyAdd d (n * l) 64 c s
    | none => (State.tlyAdd d (Config.freeNat s.free) 64 c s).bump

/-- Brings the counters of die `d` to the present time. -/
def State.tlySync (s : State) (d : Nat) : State :=
  let a := tget 0 s.comp.tly d
  let on := s.tlyOn d
  let s := if on && a ≠ 0 then (List.range (tlyN d)).foldl (State.tlyPass d (tlyCycles d (a - 1) s.clk.ref)) s else s
  { s with comp := { s.comp with tly := tset 0 s.comp.tly d (if on then s.clk.ref + 1 else 0) } }

/-- Brings every counter to the present time. -/
def State.tlySyncAll (s : State) : State := (List.range 8).foldl State.tlySync s

end Sys2Proof.Machine
end

