-- ==== Sys2Proof/Machine/Can.lean ====
section
/-!
DEFINITION. CAN FD controllers (spec/12_can_fd.md): the launch queue and its loader, attempts,
withdrawal, the safety buffer, fault confinement and bus-off.
-/

namespace Sys2Proof.Machine

open Sys2Proof

/-- CAN_STAT.STATE: 0 OFF, 1 INTEGRATING, 2 ERROR_ACTIVE, 3 ERROR_PASSIVE, 4 BUS_OFF, 5 RECOVERING. -/
def State.canState (s : State) (c : Nat) : Nat := s.fld (canA c 0x40) 2 0
/-- CAN_CFG.MODE: 0 OFF, 1 NORMAL, 2 LISTEN, 3 LOOPBACK. A controller that finishes a frame is in the mode in which
the frame began (R296). -/
def State.canMode (s : State) (c : Nat) : Nat := (s.cn c).fin.getD (s.fld (canA c 0) 1 0)
/-- The controller takes new frames: not in OFF or LISTEN, bus-off or integration (R288), nor while it finishes a frame
before it integrates anew (R296, DEDUCED). -/
def State.canSends (s : State) (c : Nat) : Bool :=
  (s.cn c).fin.isNone && (s.canMode c = 1 || s.canMode c = 3) && (s.canState c = 2 || s.canState c = 3)
/-- CAN_CFG.SAFETY_RES (R289). -/
def State.safetyRes (s : State) (c : Nat) : Bool := s.flag (canA c 0) 5

/-- The valid CAN FD data lengths. -/
def fdLengths : List Nat := [0, 1, 2, 3, 4, 5, 6, 7, 8, 12, 16, 20, 24, 32, 48, 64]

/-- The least valid FD length that holds `n` bytes (R284). -/
def fdFit (n : Nat) : Nat := (fdLengths.find? (fun l => n ≤ l)).getD 64

/-- The DLC of a data length. -/
def dlcOf (n : Nat) : Nat := ((findAt (fun l => n ≤ l) fdLengths 0).map (·.1)).getD 15

/-- The frame R281 allows: the record checks of R284. -/
def canFrameOk (f : CanFrame) : Bool :=
  !f.rtr && !(f.brs && !f.fdf) && f.data.length ≤ 64 && !(!f.fdf && 8 < f.data.length) &&
    !(!f.ide && 2 ^ 11 ≤ f.id)

/-- An FD frame padded to the next valid length with zero bytes, its DLC derived (R284). -/
def canPad (f : CanFrame) : CanFrame :=
  let n := if f.fdf then fdFit f.data.length else f.data.length
  { f with data := f.data ++ zeros (n - f.data.length), dlc := dlcOf n }

/-- The arbitration value: the 29-bit form of the identifier (R285). -/
def arbValue (f : CanFrame) : Nat := if f.ide then f.id else f.id * 2 ^ 18

/-- Rank of a source at equal launch times: the control engine before the host (R285). -/
def srcRank : TxSrc → Nat
  | .safety => 0
  | .axis _ => 1
  | .host _ _ => 2

/-- Axis number, or order of enqueue (R285). -/
def srcOrder (e : CanTxE) : Nat :=
  match e.src with
  | .axis a => a
  | _ => e.seq

/-- Lexicographic order of number lists. -/
def lexLt : List Nat → List Nat → Bool
  | [], _ => false
  | _ :: _, [] => false
  | x :: xs, y :: ys => if x = y then lexLt xs ys else decide (x < y)

/-- Queue order: launch time, source, axis or enqueue order (R285). -/
def queueKey (e : CanTxE) : List Nat := [e.launch, srcRank e.src, srcOrder e]
/-- Identifier order: arbitration value, base before extended, then queue order (R285). -/
def identKey (e : CanTxE) : List Nat := [arbValue e.frame, b2n e.frame.ide] ++ queueKey e

/-- The order that TX_ORDER selects. -/
def State.txKey (s : State) (c : Nat) (e : CanTxE) : List Nat :=
  if s.flag (canA c 0) 4 then queueKey e else identKey e

/-- The buffers that hold general frames (R285). -/
def State.genBufs (s : State) (c : Nat) : List Nat :=
  if s.safetyRes c then [1, 2] else [0, 1, 2]

/-- Buffer `b` of a controller. -/
def Can.bufAt (x : Can) (b : Nat) : Option CanBuf := x.buf.getD b none

/-- The safety frame that the configuration describes (R289). -/
def State.safetyFrame (s : State) (c : Nat) : CanFrame :=
  let idr := s.rd (canA c 0x10)
  let fmt := s.rd (canA c 0x14)
  let d := leBytes 4 (s.rd (canA c 0x18)).toNat ++ leBytes 4 (s.rd (canA c 0x1C)).toNat
  canPad { id := bits idr 28 0, ide := idr.toNat.testBit 29, fdf := fmt.toNat.testBit 4,
           brs := fmt.toNat.testBit 5, esi := false, rtr := false, dlc := 0, data := d.take (bits fmt 3 0) }

/-- Loads the waiting safety frame once TXB[0] is free (R289, R296). -/
def State.safeLoad (s : State) (c : Nat) : State :=
  let x := s.cn c
  if x.safeWait && (x.bufAt 0).isNone && s.canSends c then
    let e : CanTxE := ⟨s.safetyFrame c, .safety, s.clk.t, x.seq, 0⟩
    s.setCn c { x with buf := setAt x.buf 0 (some ⟨e, false, false, false⟩), seq := x.seq + 1, safeWait := false }
  else s

/-- One pass of the loader: the first eligible queued frame goes to the first free general buffer. -/
def State.loadOne (s : State) (c : Nat) : State :=
  let x := s.cn c
  match (s.genBufs c).find? (fun b => (x.bufAt b).isNone) with
  | none => s
  | some b =>
    match bestBy (fun e f => lexLt (s.txKey c e) (s.txKey c f)) (x.q.filter (fun e => e.launch ≤ s.clk.t)) with
    | none => s
    | some e =>
      s.setCn c { x with q := x.q.filter (fun f => f.seq != e.seq),
                         buf := setAt x.buf b (some ⟨e, false, false, false⟩) }

/-- The loader fills free general buffers (R285). -/
def State.canLoad (s : State) (c : Nat) : State :=
  if s.canSends c then (((s.safeLoad c).loadOne c).loadOne c).loadOne c else s

/-- In buffer-number order the frames of the general buffers move down over the free ones, so that the frame loaded
first is in the lowest (R285). -/
def State.compact (s : State) (c : Nat) : State :=
  if s.flag (canA c 0) 4 then
    let x := s.cn c
    let rest := (s.genBufs c).filterMap x.bufAt
    let fixed := if s.safetyRes c then [x.bufAt 0] else []
    s.setCn c { x with buf := (fixed ++ rest.map some ++ [none, none, none]).take 3 }
  else s

/-- Empties buffer `b`. -/
def State.unbuf (s : State) (c b : Nat) : State :=
  let x := s.cn c
  (s.setCn c { x with buf := setAt x.buf b none }).compact c

/-- A frame leaves under R288 or R296: a host frame completes with `st`, and every frame but a
safety frame is counted. -/
def State.canAbort (s : State) (c : Nat) (st : Status) (e : CanTxE) : State :=
  match e.src with
  | .safety => s
  | .axis _ => s.event (canA c 0x40) 10 (canA c 0x5C)
  | .host r n => (s.event (canA c 0x40) 10 (canA c 0x5C)).complete r n st

/-- The status of a frame that cannot wait (R288). -/
def State.canDown (s : State) (c : Nat) : Status :=
  if s.canState c = 4 || s.canState c = 5 then .canBusOff else .canTxAborted

/-- Puts a frame into the launch queue, or refuses it (R284, R288). -/
def State.canEnqueue (s : State) (c : Nat) (e : CanTxE) : State :=
  if !s.canSends c then s.canAbort c (s.canDown c) e
  else
    let x := s.cn c
    let put := s.setCn c { x with q := x.q ++ [{ e with seq := x.seq }], seq := x.seq + 1 }
    match e.src with
    | .host r n => if 32 ≤ (x.q.filter (fun f => srcRank f.src = 2)).length then s.complete r n .canQueueFull else put
    | _ => put

/-- Every queued and buffered frame leaves with `st`, except the frame in buffer `keep`, which
finishes its attempt first (R294, R296). -/
def State.canFlush (s : State) (c : Nat) (st : Status) (keep : Option Nat) : State :=
  let x := s.cn c
  let leaving := x.q ++ ((List.range 3).filterMap (fun b =>
    if keep = some b then none else (x.bufAt b).map (·.e)))
  let buf := (List.range 3).map (fun b =>
    if keep = some b then (x.bufAt b).map (fun f => { f with abort := true }) else none)
  leaving.foldl (fun s e => s.canAbort c st e) (s.setCn c { x with q := [], buf := buf, safeWait := false })

/-- The buffer that the controller offers (R285). -/
def State.offered (s : State) (c : Nat) : Option Nat :=
  let x := s.cn c
  let loaded := (List.range 3).filter (fun b => (x.bufAt b).isSome)
  if s.flag (canA c 0) 4 then loaded.head?
  else bestBy (fun b d =>
    match x.bufAt b, x.bufAt d with
    | some e, some f => lexLt (identKey e.e) (identKey f.e)
    | _, _ => false) loaded

/-- What controller `c` does on the bus: octal digit `c` of `busy`. 0: nothing; 1 to 3: it transmits the frame in
TXB[0] to TXB[2]; 4: it receives. -/
def busOf (c busy : Nat) : Nat := busy / 8 ^ c % 8

/-- The buffer whose frame is on the bus. -/
def State.onBus (s : State) (c busy : Nat) : Option Nat :=
  let b := busOf c busy - 1
  if busOf c busy = 0 || ((s.cn c).bufAt b).isNone then none else some b

/-- Withdraws control-engine frames of earlier edges (R287): queued or buffered ones leave, and
one on the bus leaves if its attempt fails. -/
def State.withdraw (s : State) (c busy : Nat) : State :=
  let x := s.cn c
  let old := fun (e : CanTxE) => srcRank e.src = 1 && decide (e.launch < s.clk.t)
  let on := s.onBus c busy
  let gone := (x.q.filter old).length +
    ((List.range 3).filter (fun b => on != some b && ((x.bufAt b).map (fun f => old f.e)).getD false)).length
  let s := s.setCn c { x with
    q := x.q.filter (fun e => !old e)
    buf := (List.range 3).map (fun b =>
      match x.bufAt b with
      | none => none
      | some f => if !old f.e then some f else if on = some b then some { f with stale := true } else none) }
  (if gone = 0 then s else (s.raise (canA c 0x40) 9).countN (canA c 0x58) gone).compact c

/-- The safety block's stop trigger for a controller (R289). -/
def State.canTrigger (s : State) (c : Nat) : State :=
  let s := s.count (canA c 0x88)
  let x := s.cn c
  let held := match x.bufAt 0 with
    | some f => decide (f.e.src = .safety)
    | none => false
  if s.safetyRes c && s.canSends c && !held then (s.setCn c { x with safeWait := true }).safeLoad c
  else s

/-- Sets STATE. -/
def State.setCanState (s : State) (c n : Nat) : State := s.put (canA c 0x40) 2 0 n

/-- The transmit error counter. -/
def State.tec (s : State) (c : Nat) : Nat := s.fld (canA c 0x44) 8 0
/-- The receive error counter. -/
def State.rec' (s : State) (c : Nat) : Nat := s.fld (canA c 0x44) 23 16

/-- Fault confinement after the counters changed (R293, R294): bus-off, error-passive or
error-active. -/
def State.confine (s : State) (c : Nat) : State :=
  if s.canState c ≠ 2 && s.canState c ≠ 3 then s
  else if 255 < s.tec c then
    let s := (s.setCanState c 4).event (canA c 0x40) 5 (canA c 0x48)
    let s := s.canFlush c .canBusOff none
    if s.flag (canA c 0) 6 then s.setCanState c 5 else s
  else if 127 < s.tec c || 127 < s.rec' c then
    if s.canState c = 2 then (s.setCanState c 3).event (canA c 0x40) 6 (canA c 0x4C) else s
  else s.setCanState c 2

/-- Adds to the error counters: TEC is 9 bits, REC saturates at 255 (Table 12-5). -/
def State.addErr (s : State) (c tx rx : Nat) : State :=
  (s.put (canA c 0x44) 8 0 (min 511 (s.tec c + tx))).put (canA c 0x44) 23 16 (min 255 (s.rec' c + rx))

/-- LEC and counter of a kind of error (Table 12-5, Table 12-6). -/
def canErrCode : CanErr → Nat × Nat
  | .bit => (1, 0x64)
  | .stuff => (2, 0x68)
  | .form => (3, 0x6C)
  | .ack => (4, 0x70)
  | .crc => (5, 0x74)
  | .pex => (0, 0x78)

/-- A firmware stamp is issued (R247): the largest UNCERT_NS is kept. -/
def State.stamped (s : State) (uncert : Nat) : State :=
  if s.fld (timA 0xE0) 15 0 < uncert then s.put (timA 0xE0) 15 0 uncert else s

/-- The largest uncertainty the kernel issues (R247). -/
def uncertMax : Nat := 1500

/-- A received frame enters the FIFO or is lost (R291). -/
def State.fifoPush (s : State) (c : Nat) (f : CanFrame) : State :=
  let x := s.cn c
  if 64 ≤ x.fifo.length then s.event (canA c 0x40) 7 (canA c 0x50)
  else
    let s := ((s.tlySync 7).setCn c { x with fifo := x.fifo ++ [f] }).count (canA c 0x80)
    let n := x.fifo.length + 1
    if s.fld (canA c 0x120) 22 16 < n then s.put (canA c 0x120) 22 16 n else s

/-- The controller integrates in its mode, its error counters at 0; in OFF it is OFF (R293, R296). -/
def State.canIntegrate (s : State) (c : Nat) : State :=
  (s.put (canA c 0x44) 23 0 0).setCanState c (if s.canMode c = 0 then 0 else 1)

/-- The frame that the controller was to finish has ended (R296). -/
def State.canFinish (s : State) (c : Nat) : State :=
  if (s.cn c).fin.isNone then s else (s.setCn c { s.cn c with fin := none }).canIntegrate c

/-- The delay measured on an FD frame that the controller sent (R283). -/
def State.tdcSet (s : State) (c tdc : Nat) (f : CanFrame) : State :=
  if f.fdf && s.flag (canA c 8) 31 then s.put (canA c 0xC) 22 16 tdc else s

/-- A frame as the controller sends it: an FD frame's ESI is recessive while the controller is error-passive (R284). -/
def State.canSent (s : State) (c : Nat) (f : CanFrame) : CanFrame := { f with esi := f.fdf && s.canState c = 3 }

/-- The frame in buffer `b` is acknowledged and its end-of-frame passes (R286): counters, the
host's completion with its stamp, and the buffer freed. In LOOPBACK it stays inside (R291, Table 12-1). -/
def State.txDone (s : State) (c b stamp uncert tdc : Nat) (f : CanBuf) : State :=
  let sent := s.canSent c f.e.frame
  let s := (s.put (canA c 0x44) 8 0 (s.tec c - 1)).count (canA c 0x7C)
  let s := (s.tdcSet c tdc sent).unbuf c b
  let s := match f.e.src with
    | .safety => s.raise (canA c 0x40) 11
    | .axis _ => s
    | .host r n => (s.stamped uncert).completeAt r n .success 0 uncert stamp
  let s := if s.canMode c = 3 then s.fifoPush c sent else s.emit (.can c sent)
  ((s.confine c).canFinish c).canLoad c

/-- CAN_TX_COMPLETE. No effect on an empty buffer. -/
def State.canTxCompleteS (s : State) (c b stamp uncert tdc : Nat) : State :=
  match (s.cn c).bufAt b with
  | none => s
  | some f => s.txDone c b stamp (min uncertMax uncert) tdc f

/-- One attempt of the frame in buffer `b` has failed (R286, R287, R296). -/
def State.attemptEnd (s : State) (c b : Nat) (f : CanBuf) : State :=
  let f := { f with e := { f.e with attempts := f.e.attempts + 1 } }
  if f.stale then ((s.unbuf c b).event (canA c 0x40) 9 (canA c 0x58)).canLoad c
  else if f.abort then ((s.unbuf c b).canAbort c .canTxAborted f.e).canLoad c
  else
    let endless := f.e.src = .safety || s.flag (canA c 0) 7
    if !endless && 1 + s.fld (canA c 0) 11 8 ≤ f.e.attempts then
      let s := (s.unbuf c b).event (canA c 0x40) 8 (canA c 0x54)
      let s := match f.e.src with
        | .host r n => s.complete r n .canRetryExhausted
        | _ => s
      s.canLoad c
    else if f.back then
      let x := s.cn c
      (s.setCn c { x with buf := setAt x.buf b none, q := x.q ++ [f.e] }).canLoad c
    else
      let x := s.cn c
      s.setCn c { x with buf := setAt x.buf b (some f) }

/-- CAN_ATTEMPT_FAILED: the frame in buffer `b` loses arbitration, and the controller receives on, or its
transmission ends in an error. `tdc` is the delay measured on an FD frame that got as far as its res bit (R283). -/
def State.attemptFailed (s : State) (c b : Nat) (lostArb : Bool) (tdc : Option Nat) : State :=
  match (s.cn c).bufAt b with
  | none => s
  | some f =>
    if lostArb then (s.count (canA c 0x60)).attemptEnd c b f
    else
      let s := match tdc with
        | none => s
        | some n => s.tdcSet c n f.e.frame
      (s.attemptEnd c b f).canFinish c

/-- The kind that a controller makes of an event: with PEX_EN 0 a recessive res bit is a form error (Table 12-1). -/
def State.pexErr (s : State) (c : Nat) (kind : CanErr) : CanErr :=
  if kind = .pex && !s.flag (canA c 0) 12 then .form else kind

/-- What a controller records of a protocol error: LEC, its phase and the counter of its kind
(R293). An acknowledgement error is always in the nominal phase. A protocol exception is
counted and is no error. -/
def State.noteErr (s : State) (c : Nat) (kind : CanErr) (dataPhase : Bool) : State :=
  let k := canErrCode kind
  let s := s.count (canA c k.2)
  if kind = .pex then s
  else (s.put (canA c 0x40) 27 25 k.1).put (canA c 0x40) 24 24 (b2n (dataPhase && kind ≠ .ack))

/-- A dominant bit after the controller's own error flag: no error of a kind of its own. -/
def afterFlag (role : CanRole) : Bool := role = .transmitterAfterFlag || role = .receiverAfterFlag

/-- The controller receives. -/
def asReceiver (role : CanRole) : Bool := role = .receiver || role = .receiverFlag || role = .receiverAfterFlag

/-- The counters' change by the controller's role (ISO 11898-1, R293). -/
def State.chargeErr (s : State) (c : Nat) (kind : CanErr) : CanRole → State
  | .transmitter => if kind = .pex then s else s.addErr c 8 0
  | .transmitterFlag | .transmitterAfterFlag => s.addErr c 8 0
  | .transmitterPassiveAck => s
  | .receiver => if kind = .pex then s else s.addErr c 0 1
  | .receiverFlag | .receiverAfterFlag => s.addErr c 0 8

/-- A protocol error: it is recorded and charged in every mode, and it ends the frame that a controller finishes as
receiver, or that took it to bus-off (R293, R296). -/
def State.canError (s : State) (c : Nat) (kind : CanErr) (dataPhase : Bool) (role : CanRole) : State :=
  let kind := s.pexErr c kind
  let s := if afterFlag role then s else s.noteErr c kind dataPhase
  let s := (s.chargeErr c kind role).confine c
  if asReceiver role || (s.canState c ≠ 2 && s.canState c ≠ 3) then s.canFinish c else s

/-- The controller takes part in bus traffic: in NORMAL, LISTEN or LOOPBACK, error-active or
error-passive. -/
def State.canLive (s : State) (c : Nat) : Bool :=
  decide (s.canMode c ≠ 0) && (s.canState c = 2 || s.canState c = 3)

/-- A control word of CAN_CTL.RECOVER (R294): the count starts in bus-off, and the write changes
nothing elsewhere. -/
def State.canRecover (s : State) (c : Nat) : State :=
  if s.canState c = 4 then s.setCanState c 5 else s

/-- MODE, bit timing or TDC changed (R296): the controller's frames leave, but for the one on the bus. It finishes the
frame it sends or receives in the mode `old` that it had, then integrates in the new one; at once where there is none. -/
def State.canRestart (s : State) (c old busy : Nat) : State :=
  let live := s.canState c = 2 || s.canState c = 3
  let on := if live then s.onBus c busy else none
  let s := s.canFlush c .canTxAborted on
  if on.isSome || (live && old ≠ 0 && old ≠ 3 && busOf c busy = 4) then s.setCn c { s.cn c with fin := some old }
  else (s.setCn c { s.cn c with fin := none }).canIntegrate c

/-- A commit sets SAFETY_RES (R296): a general frame in TXB[0] off the bus returns to the queue,
one on the bus finishes its attempt. -/
def State.canReserve (s : State) (c : Nat) (on : Option Nat) : State :=
  let x := s.cn c
  match x.bufAt 0 with
  | none => s
  | some f =>
    if f.e.src = .safety then s
    else if on = some 0 then s.setCn c { x with buf := setAt x.buf 0 (some { f with back := true }) }
    else s.setCn c { x with buf := setAt x.buf 0 none, q := x.q ++ [f.e] }

/-! ### Meanings -/

/-- CAN_FRAME_ELIGIBLE: working time reaches the earliest launch time in the queue, and the
loader fills free buffers (R284, R285). -/
def execCanFrameEligible (c : Nat) (s : State) : Host.Outcome State Fault Refusal :=
  guardI (decide (c < 8)) (
    match bestBy (fun e f => decide (e.launch < f.launch)) ((s.cn c).q.filter (fun e => s.clk.t < e.launch)) with
    | none => s.canLoad c
    | some e => s.atT e.launch (fun s => s.canLoad c))

/-- CAN_TX_COMPLETE (R286). -/
def execCanTxComplete (c b stamp uncert tdc : Nat) (s : State) : Host.Outcome State Fault Refusal :=
  guardI (decide (c < 8) && decide (b < 3)) (if s.mayTransmit then s.canTxCompleteS c b stamp uncert tdc else s)

/-- CAN_ATTEMPT_FAILED (R283, R286). -/
def execCanAttemptFailed (c b : Nat) (e : AttemptEnd) (s : State) : Host.Outcome State Fault Refusal :=
  guardI (decide (c < 8) && decide (b < 3)) (if s.mayTransmit then s.attemptFailed c b e.lostArb e.tdc else s)

/-- CAN_FRAME_RECEIVED (R291): in NORMAL and LISTEN mode, from the bus; a valid reception lowers
the receive error counter (ISO 11898-1). In replay the receive path is ignored (R187). -/
def execCanFrameReceived (c : Nat) (f : CanFrame) (s : State) : Host.Outcome State Fault Refusal :=
  guardI (decide (c < 8)) (
    if s.canLive c && s.canMode c ≠ 3 && !s.inReplay then
      let n := s.rec' c
      let s := (s.put (canA c 0x44) 23 16 (if n = 0 then 0 else if n ≤ 127 then n - 1 else 127)).confine c
      (s.fifoPush c f).canFinish c
    else s)

/-- CAN_PROTOCOL_ERROR (R293, R294). -/
def execCanProtocolError (c : Nat) (kind : CanErr) (dataPhase : Bool) (role : CanRole) (s : State) :
    Host.Outcome State Fault Refusal :=
  guardI (decide (c < 8)) (
    if s.canLive c && !s.inReplay then s.canError c kind dataPhase role else s)

/-- CAN_INTEGRATION_DONE: 11 consecutive recessive bits end integration (R293). -/
def execCanIntegrationDone (c : Nat) (s : State) : Host.Outcome State Fault Refusal :=
  guardI (decide (c < 8)) (if s.canState c = 1 then (s.setCanState c 2).canLoad c else s)

/-- BUS_OFF_RECOVERY_DONE: both counters read 0 and the controller integrates (R294). -/
def execBusOffRecoveryDone (c : Nat) (s : State) : Host.Outcome State Fault Refusal :=
  guardI (decide (c < 8)) (
    if s.canState c = 5 then (s.put (canA c 0x44) 23 0 0).setCanState c 1 else s)

/-- RECOVER (R294). -/
def execRecover (c : Nat) (s : State) : Host.Outcome State Fault Refusal :=
  guardI (decide (c < 8)) (if s.isReady then s.canRecover c else s)

end Sys2Proof.Machine
end

