-- ==== Sys2Proof/Machine/SafetyBlock.lean ====
section
/-!
DEFINITION. The safety block (spec/13_functional_safety.md): stop groups, safety inputs,
safe-stop outputs, watchdogs, safety reset and golden samples.
-/

namespace Sys2Proof.Machine

open Sys2Proof

/-- SAF_STAT.STOPPED. -/
def State.stopped (s : State) : Nat := s.fld (safA 0) 27 24
/-- SAF_STAT.PKG_STOP. -/
def State.pkgStopped (s : State) : Bool := s.flag (safA 0) 23
/-- The axes of group `g` (R300). -/
def State.groupAxes (s : State) (g : Nat) : Nat := s.rd64 (ssoA g 4)
/-- The groups that hold axis `a`. -/
def State.axisGroups (s : State) (a : Nat) : List Nat :=
  (List.range 4).filter (fun g => (s.groupAxes g).testBit a)
/-- The safety block asserts the axis's stop (R301, R303). -/
def State.stopAsserted (s : State) (a : Nat) : Bool :=
  s.pkgStopped || (s.axisGroups a).any (fun g => s.stopped.testBit g)

/-- The tick of the first edge that a trigger now can still reach (R301): 5 µs before it at the
latest. -/
def State.triggerEdge (s : State) : Nat :=
  if s.clk.t + 5000 < s.clk.nextEdge then s.clk.nextTick else s.clk.nextTick + 1

/-- The safety block stops an enabled axis (R264, R301): it owns the axis from the trigger, and
the axis enters SAFE_STOP at its next computation. -/
def State.stopAxis (s : State) (a : Nat) : State :=
  if s.axOn a then
    let x := s.ax a
    let s := s.setAx a { x with
      safeReq := (match x.safeReq with | some r => some r | none => some none)
      safeOwned := true
      stopEdge := if x.safeOwned then x.stopEdge else s.triggerEdge }
    s.wr (ctlA a 0x104) 0xB0000000
  else s

/-- Drives both channels of SSO[g] and their readbacks (R306, R418). -/
def State.ssoDrive (s : State) (g : Nat) (run : Bool) : State :=
  let s := s.put (ssoA g 0xC) 31 31 (b2n run)
  let s := s.put (ssoA g 0xC) 1 0 (if run then 3 else 0)
  let p := if run then
      tset Pulse.init (tset Pulse.init s.saf.pulses (2 * g) ⟨false, s.clk.ref + 250000000⟩)
        (2 * g + 1) ⟨false, s.clk.ref + 375000000⟩
    else terase (terase s.saf.pulses (2 * g)) (2 * g + 1)
  ({ s with saf := { s.saf with pulses := p } } : State).emit (.sso g run run)

/-- The level that SSO[g] is commanded to (R300, R306, R356, R187). -/
def State.ssoWant (s : State) (g : Nat) : Bool :=
  s.flag (ssoA g 0) 31 && !s.stopped.testBit g && !s.pkgStopped && s.saf.computed && !s.inReplay

/-- Brings SSO[g] to its commanded level. -/
def State.ssoSet (s : State) (g : Nat) : State :=
  if s.flag (ssoA g 0xC) 31 = s.ssoWant g then s else s.ssoDrive g (s.ssoWant g)

/-- Brings all four outputs to their commanded levels. -/
def State.ssoUpdate (s : State) : State := (((s.ssoSet 0).ssoSet 1).ssoSet 2).ssoSet 3

/-- Group `g` stops (R300): counted always; Table 13-1's effects if it was not stopped. A pending
release of the group is cancelled (R302). -/
def State.stopGroup (s : State) (g : Nat) : State :=
  let s := s.count (safA 0x424)
  let s : State := { s with saf := { s.saf with
    releasing := clrBitN s.saf.releasing g, resets := s.saf.resets.map (fun m => clrBitN m g)
    stops := setAt s.saf.stops g (s.saf.stops.getD g 0 + 1) } }
  if s.stopped.testBit g then s
  else
    let s := s.put (safA 0) 27 24 (setBitN s.stopped g)
    let s := s.ssoSet g
    let mask := s.fld (ssoA g 0) 7 0
    let s := ((List.range 8).filter (fun c => mask.testBit c)).foldl State.canTrigger s
    ((List.range 64).filter (fun a => (s.groupAxes g).testBit a)).foldl State.stopAxis s

/-- The groups of a mask stop. -/
def State.stopGroups (s : State) (mask : Nat) : State :=
  ((List.range 4).filter (fun g => mask.testBit g)).foldl State.stopGroup s

/-- A stop that only a package reset ends is noted (R303). -/
def State.latchStop (s : State) (latch : Bool) : State :=
  { s with saf := { s.saf with latched := s.saf.latched || latch } }

/-- A package stop (R303): all four groups, and every enabled axis's stop. `latch`: until package
reset. -/
def State.packageStop (s : State) (latch : Bool) : State :=
  (List.range 64).foldl State.stopAxis (((s.put (safA 0) 23 23 1).latchStop latch).stopGroups 0xF)

/-- Records a safety fault (R299): SAF_LAST, its tick, and the harbourmaster log. -/
def State.safFault (s : State) (st : Status) (index groups stage : Nat) : State :=
  let v := st.code * 2 ^ 24 + (index % 64) * 2 ^ 16 + (groups % 16) * 2 ^ 12 + stage % 16
  let s := (s.wr (safA 0x440) (BitVec.ofNat 32 v)).wr64 (safA 0x444) s.clk.tick
  s.hmLog 0x04 (some index) 0xFFFF 0xFF (leBytes 2 st.code ++ leBytes 4 v ++ leBytes 8 s.clk.tick)

/-- A safety fault of no axis, stream or input: Table 13-10 states no INDEX for it, so INDEX is a
free value. -/
def State.safFaultFree (s : State) (st : Status) (groups stage : Nat) : State :=
  (s.safFault st (Config.freeNat s.free) groups stage).bump

/-- A watchdog miss of stages 1 to 4 that reaches its limit (R307). -/
def State.wdFault (s : State) (stage index groups : Nat) : State :=
  (s.safFault .watchdogExpired index groups stage).stopGroups groups

/-- Counts a watchdog miss and sets its flag (Table 13-6). -/
def State.wdMiss (s : State) (stage : Nat) : State :=
  s.event (safA 0) (if stage ≤ 4 then 2 else if stage ≤ 7 then 5 else 6) (safA 0x414)

/-- A miss of stages 5 to 8: a latched package stop (R303). -/
def State.wdPackage (s : State) (stage : Nat) (index : Option Nat) : State :=
  let s := s.wdMiss stage
  let s := match index with
    | some i => s.safFault .watchdogExpired i 0xF stage
    | none => s.safFaultFree .watchdogExpired 0xF stage
  s.packageStop true

/-- A sample of ST[st] closes or completes: stage 1 (Table 13-2). -/
def State.wdIngest (s : State) (st : Nat) : State :=
  if s.flag (safSt st 0) 31 then
    let x := s.sst st
    let early := match x.last with
      | none => false
      | some t => decide (s.clk.ref < t + s.fld (safSt st 4) 15 0 * 100000)
    let s := s.setSst st { x with last := some s.clk.ref, missed := x.missed || early }
    if early then (s.wdMiss 1).wdFault 1 st (s.fld (safA 4) 3 0) else s
  else s

/-- Channel `ch` of input `i`, filtered. -/
def State.siLevel (s : State) (i ch : Nat) : Bool := s.flag (safA 0x60) (2 * i + ch)
/-- Antivalent mode of an input. -/
def State.siAnti (s : State) (i : Nat) : Bool := s.flag (safA (0x20 + 4 * i)) 30
/-- The input is in its run state (R304). -/
def State.siRun (s : State) (i : Nat) : Bool :=
  if s.siAnti i then s.siLevel i 0 && !s.siLevel i 1 else s.siLevel i 0 && s.siLevel i 1
/-- The channels disagree relative to the mode (R305). -/
def State.siDisagree (s : State) (i : Nat) : Bool :=
  if s.siAnti i then s.siLevel i 0 == s.siLevel i 1 else s.siLevel i 0 != s.siLevel i 1
/-- The input is enabled. -/
def State.siOn (s : State) (i : Nat) : Bool := s.flag (safA (0x20 + 4 * i)) 31
/-- The groups an input stops. -/
def State.siGroups (s : State) (i : Nat) : Nat := s.fld (safA (0x20 + 4 * i)) 27 24

/-- RUN and the discrepancy time of an input follow its filtered channels. -/
def State.siTrack (s : State) (i : Nat) : State :=
  let s := s.put (safA 0x64) i i (b2n (s.siRun i))
  let d := if s.siOn i && s.siDisagree i then
      (if tget 0 s.saf.discSince i = 0 then tset 0 s.saf.discSince i (s.clk.ref + 1) else s.saf.discSince)
    else tset 0 s.saf.discSince i 0
  { s with saf := { s.saf with discSince := d } }

/-- An input demand (R305): flag, count, fault record, and the mapped groups stop. -/
def State.siDemand (s : State) (i : Nat) : State :=
  ((s.event (safA 0) 3 (safA 0x418)).safFault .safetyInputDemand i (s.siGroups i) 0).stopGroups (s.siGroups i)

/-- A canary fault of a stream: the CANARY groups stop (R314, R315). -/
def State.canaryFault (s : State) (st : Nat) (code : Status) : State :=
  let g := s.fld (safA 4) 19 16
  ((s.event (safA 0) 1 (safA 0x40C)).safFault code st g 0).stopGroups g

/-- A deferral of a stream's canary (R315): the fourth in a row is a fault. -/
def State.canaryDefer (s : State) (st : Nat) : State :=
  let n := s.fld (safSt st 8) 31 24 + 1
  let s := ((s.count (safA 0x410)).put (safSt st 8) 2 1 3).put (safSt st 8) 31 24 n
  if 4 ≤ n then (s.put (safSt st 8) 31 24 0).canaryFault st .canaryDeferred else s

/-- The check of a canary activation's output against the expected code (R314). -/
def State.canaryCheck (s : State) (st : Nat) (digest : Bytes) : State :=
  match (s.sst st).canary with
  | none => s
  | some (g, _) =>
    let s := (s.setSst st { s.sst st with canary := none, tensor := none }).put (safSt st 8) 0 0 0
    let s := (s.count (safA 0x408)).put (safSt st 8) 23 16 0
    if digest = g.code then (s.put (safSt st 8) 31 24 0).put (safSt st 8) 2 1 1
    else (s.put (safSt st 8) 2 1 2).canaryFault st .canaryMismatch

/-- TICK_UNLOCKED (R309): loss of LOCKED while an axis is enabled. -/
def State.tickUnlocked (s : State) : State :=
  if s.anyAxis then
    let g := s.fld (safA 4) 23 20
    ((s.raise (safA 0) 4).safFaultFree .tickUnlocked g 0).stopGroups g
  else s

/-- Writes TIM_TICK_STAT.LOCKED; a change from 1 to 0 raises R309. -/
def State.setLocked (s : State) (v : Bool) : State :=
  let was := s.locked
  let s := s.put (timA 0x110) 0 0 (b2n v)
  if was && !v then s.tickUnlocked else s

/-- A stream whose stage 1 watchdog is released: it starts again from the next sample (R302). -/
def SafSt.restart (x : SafSt) : SafSt := if x.missed then { x with last := none, missed := false } else x

/-- The watchdogs whose groups `m` are released start again from the next event they watch (R302). The other stages
hold nothing over from before a miss. -/
def State.restartWd (s : State) (m : Nat) : State :=
  let go := (List.range 4).any (fun g => m.testBit g && (s.fld (safA 4) 3 0).testBit g)
  if go then (List.range 48).foldl (fun s st => s.setSst st (s.sst st).restart) s else s

/-- The release at an edge of the groups that accepted safety resets named, counted for each of those that released
one (R302, Table 13-10). -/
def State.releaseGroups (s : State) : State :=
  let m := s.saf.releasing
  let n := (s.saf.resets.filter (fun r => decide (r ≠ 0))).length
  let s : State := { s with saf := { s.saf with releasing := 0, resets := [] } }
  if m = 0 then s
  else
    let keep := (List.range 4).foldl (fun n g => if m.testBit g then clrBitN n g else n) s.stopped
    (((s.put (safA 0) 27 24 keep).countN (safA 0x428) n).restartWd m).ssoUpdate

/-- The conditions under which a safety reset may release group `g` (R302). -/
def State.mayRelease (s : State) (g : Nat) : Bool :=
  ((List.range 16).all (fun i =>
    !(s.siOn i && (s.siGroups i).testBit g) || (s.siRun i && !s.flag (safA 0x64) (16 + i)))) &&
  (decide (s.fld (ssoA g 0xC) 1 0 = if s.flag (ssoA g 0xC) 31 then 3 else 0)) && !s.flag (ssoA g 0xC) 2 &&
  (s.locked || !(s.fld (safA 4) 23 20).testBit g) && !s.pkgStopped

/-! ### Meanings -/

/-- SAFETY_INPUT_CHANGE (R304, R305). Ignored in replay (R187). -/
def execSafetyInputChange (i ch : Nat) (level : Bool) (stamp uncert : Nat) (s : State) :
    Host.Outcome State Fault Refusal :=
  guardI (decide (i < 16) && decide (ch < 2)) (
    if s.siLevel i ch = level || s.inReplay || !s.isReady then s
    else
      let was := s.siRun i
      let u := min uncertMax uncert
      let s := (s.put (safA 0x60) (2 * i + ch) (2 * i + ch) (b2n level)).stamped u
      let s := s.slogAdd 0x07 0 i stamp u [BitVec.ofNat 8 i, BitVec.ofNat 8 (b2n (s.siLevel i 0)),
        BitVec.ofNat 8 (b2n (s.siLevel i 1))]
      let s := s.siTrack i
      if s.siOn i && was && !s.siRun i then s.siDemand i else s)

/-- INPUT_DISCREPANCY (R305): the channels have disagreed for longer than DISC_MS. -/
def execInputDiscrepancy (i : Nat) (s : State) : Host.Outcome State Fault Refusal :=
  guardI (decide (i < 16)) (
    let d := tget 0 s.saf.discSince i
    if d = 0 || !s.siOn i then s
    else s.atRef (d - 1 + s.fld (safA (0x20 + 4 * i)) 9 0 * 1000000 + 1) (fun s =>
      let s : State := { s with saf := { s.saf with discSince := tset 0 s.saf.discSince i 0 } }
      let s := (s.raise (safA 0x64) (16 + i)).event (safA 0) 3 (safA 0x41C)
      (s.safFault .safetyInputDiscrepancy i (s.siGroups i) 0).stopGroups (s.siGroups i)))

/-- SSO_READBACK_FAULT (R306): a latched output fault and a latched package stop. The readback keeps the level that
differs from the commanded one, which in a test pulse is de-energised. -/
def execSsoReadbackFault (g ch : Nat) (s : State) : Host.Outcome State Fault Refusal :=
  guardI (decide (g < 4) && decide (ch < 2)) (
    if !s.isReady then s
    else
      let run := s.flag (ssoA g 0xC) 31 && !(tget Pulse.init s.saf.pulses (2 * g + ch)).active
      let s := (s.raise (ssoA g 0xC) 2).event (safA 0) 7 (safA 0x420)
      ((s.safFaultFree .safeOutputFault 0xF 0).packageStop true).put (ssoA g 0xC) ch ch (b2n (!run)))

/-- An edge of a test pulse (R306): channel `ch` of SSO[g] and its readback go to `v`, and `p` is the channel's next
pulse event. -/
def State.pulseEdge (s : State) (g ch v : Nat) (p : Pulse) : State :=
  let s := s.put (ssoA g 0xC) ch ch v
  let s : State := { s with saf := { s.saf with pulses := tset Pulse.init s.saf.pulses (2 * g + ch) p } }
  s.emit (.sso g (s.flag (ssoA g 0xC) 0) (s.flag (ssoA g 0xC) 1))

/-- Test pulses of a channel in run state are switched on: the next one comes at the channel's next place in the
cycle that the entry to run state began (R306). -/
def State.pulseResume (s : State) (g ch : Nat) : State :=
  let p := tget Pulse.init s.saf.pulses (2 * g + ch)
  if p.active || p.due = 0 || s.clk.ref ≤ p.due then s
  else
    let due := p.due + cdiv (s.clk.ref - p.due) 250000000 * 250000000
    { s with saf := { s.saf with pulses := tset Pulse.init s.saf.pulses (2 * g + ch) ⟨false, due⟩ } }

/-- SSO_TEST_PULSE (R306): the channel is de-energised for 200 µs when its pulse is due. -/
def execSsoTestPulse (g ch : Nat) (s : State) : Host.Outcome State Fault Refusal :=
  guardI (decide (g < 4) && decide (ch < 2)) (
    let p := tget Pulse.init s.saf.pulses (2 * g + ch)
    if !s.flag (ssoA g 0xC) 31 || !s.flag (ssoA g 0) 30 || p.active || p.due = 0 then s
    else s.atRef p.due (fun s =>
      s.pulseEdge g ch 0 ⟨true, s.clk.ref + 200000⟩))

/-- TEST_PULSE_END (R306): energised again after 200 µs; the next pulse follows 250 ms after the
last began. -/
def execTestPulseEnd (g ch : Nat) (s : State) : Host.Outcome State Fault Refusal :=
  guardI (decide (g < 4) && decide (ch < 2)) (
    let p := tget Pulse.init s.saf.pulses (2 * g + ch)
    if !p.active then s
    else s.atRef p.due (fun s =>
      s.pulseEdge g ch 1 ⟨false, p.due + 249800000⟩))

/-- INGEST_WATCHDOG_EXPIRY: GAP_MAX passes without a new sample (Table 13-2, stage 1). -/
def execIngestWatchdogExpiry (st : Nat) (s : State) : Host.Outcome State Fault Refusal :=
  guardI (decide (st < 48)) (
    match (s.sst st).last with
    | none => s
    | some t =>
      if !s.flag (safSt st 0) 31 then s
      else s.atRef (t + s.fld (safSt st 4) 31 16 * 100000) (fun s =>
        ((s.setSst st { s.sst st with last := none, missed := true }).wdMiss 1).wdFault 1 st (s.fld (safA 4) 3 0)))

/-- PERCEPTION_WATCHDOG_MISS: an expected publication is missing (Table 13-2, stage 3; R308). -/
def execPerceptionWatchdogMiss (s : State) : Host.Outcome State Fault Refusal :=
  .next (
    if s.saf.percDue = 0 || !s.flag (safA 0x10) 31 then s
    else
      let n := s.saf.percMiss + 1
      let lim := s.fld (safA 0x10) 27 24
      let s : State := { s with saf := { s.saf with percDue := s.saf.percDue - 1, percMiss := if lim ≤ n then 0 else n } }
      let s := s.wdMiss 3
      if lim ≤ n then
        let g := s.fld (safA 4) 11 8
        (s.safFaultFree .watchdogExpired g 3).stopGroups g
      else s)

/-- SEGMENT_WATCHDOG_EXPIRY: SEG_MAX_MS passes without a segment from the planner that owns a
MOVING axis (Table 13-2, stage 4). -/
def execSegmentWatchdogExpiry (a : Nat) (s : State) : Host.Outcome State Fault Refusal :=
  guardI (decide (a < 64)) (
    match (s.ax a).segRef with
    | none => s
    | some t =>
      if !s.flag (safA 0x14) 31 || s.axState a ≠ 2 || s.fld (ctlA a 0x104) 31 28 ≠ 9 then s
      else s.atRef (t + s.fld (safA 0x14) 15 0 * 1000000) (fun s =>
        ((s.setAx a { s.ax a with segRef := none }).wdMiss 4).wdFault 4 a (s.fld (safA 4) 15 12)))

/-- PROFILE_WATCHDOG_EXPIRY: the profile step is not complete 10 µs after the cut-off. -/
def execProfileWatchdogExpiry (s : State) : Host.Outcome State Fault Refusal :=
  .next (if s.clk.live && s.clk.win = .collecting then
    s.atT (s.cutoff + 10000) (fun s => s.wdPackage 5 none) else s)

/-- LOOP_WATCHDOG_EXPIRY: the loop and encoding step is not complete 18 µs after the cut-off. -/
def execLoopWatchdogExpiry (s : State) : Host.Outcome State Fault Refusal :=
  .next (if s.clk.live && s.clk.win = .collecting then
    s.atT (s.cutoff + 18000) (fun s => s.wdPackage 6 none) else s)

/-- Transmission time of a frame in hundredths of a ns, with frame check sequence, preamble,
delimiter and inter-packet gap (R254). -/
def State.ethTime (s : State) (p : Nat) (b : Bytes) : Nat :=
  (max 60 b.length + 24) * (if s.fld (ethA p 0) 1 0 = 0 then 80 else 32)

/-- The unsent command frame of axis `a`: its port, its deadline and its launch (R254,
Table 13-2 stage 7). -/
def State.ethLate (s : State) (a : Nat) : Option Nat :=
  ((List.range 4).filterMap (fun p =>
    match findAt (fun (f : EthTx) => f.src == .axis a && !f.sent) (s.ep p).q 0 with
    | none => none
    | some (i, f) =>
      f.launch.map (fun l =>
        let before := ((s.ep p).q.take i).filter (fun e => e.queue == 7 && e.launch == f.launch)
        l + 1000 + (before.map (fun e => s.ethTime p e.bytes)).sum / 100))).head?

/-- OUTPUT_WATCHDOG_EXPIRY: a command frame has not left within its output window (Table 13-2,
stage 7). A frame still to be queued for the edge is missed 5 µs before it, but of a window that a time step passed
(R433). -/
def execOutputWatchdogExpiry (a : Nat) (s : State) : Host.Outcome State Fault Refusal :=
  guardI (decide (a < 64)) (
    match s.ethLate a with
    | some t => s.atT t (fun s => s.wdPackage 7 (some a))
    | none =>
      if s.clk.live && s.axOn a && s.clk.win ≠ .passed && (s.ax a).staged.isNone then
        s.atT (s.clk.nextEdge - 5000) (fun s => s.wdPackage 7 (some a))
      else s)

/-- KERNEL_KICK: the kernel's kick comes `after` ns after the previous one and carries `value`
(Table 13-2, stage 8). A halted kernel does not kick (R367). -/
def execKernelKick (value after : Nat) (s : State) : Host.Outcome State Fault Refusal :=
  .next (
    if !s.isReady || s.hm.pilots.any (fun p => p.state ≠ 0) then s
    else
      match s.saf.kick with
      | none => { s with saf := { s.saf with kick := some ((value + 1) % 256, s.clk.ref) } }
      | some (want, last) =>
        s.atRef (last + after) (fun s =>
          let ok := value % 256 = want && decide (last + 50000 ≤ s.clk.ref) && decide (s.clk.ref ≤ last + 150000)
          let s : State := { s with saf := { s.saf with kick := some ((value + 1) % 256, s.clk.ref) } }
          if ok then s else s.wdPackage 8 none))

/-- KERNEL_WATCHDOG_EXPIRY: no valid kick within 150 µs. -/
def execKernelWatchdogExpiry (s : State) : Host.Outcome State Fault Refusal :=
  .next (match s.saf.kick with
    | none => s
    | some (_, last) => s.atRef (last + 150001) (fun s =>
        ({ s with saf := { s.saf with kick := none } } : State).wdPackage 8 none))

/-- The groups of a safety reset's mask that are stopped and have not been stopped again since the descriptor's
fetch (R302). -/
def State.resetGroups (s : State) (d : Inflight) : Nat :=
  (List.range 4).foldl (fun n g =>
    if (le d.bytes 8 1).testBit g && s.stopped.testBit g && s.saf.stops.getD g 0 == d.fetch.stops.getD g 0
    then setBitN n g else n) 0

/-- An accepted safety reset releases the groups of a mask at the next edge (R302). -/
def State.acceptReset (s : State) (m : Nat) : State :=
  { s with saf := { s.saf with releasing := s.saf.releasing ||| m, resets := s.saf.resets ++ [m] } }

/-- SAFETY_RESET (R302): the conditions held at the descriptor's fetch, and the named groups are released at the next
edge, or none is. -/
def execSafetyReset (r : Nat) (s : State) : Host.Outcome State Fault Refusal :=
  guardI (decide (r < 8192)) (s.withDesc r 0x28 (fun s d =>
    let named := (List.range 4).filter (fun g => (le d.bytes 8 1).testBit g)
    let s' := fun (st : Status) => s.complete r d.num st
    if named.all (fun g => d.fetch.may.testBit g) then
      let m := s.resetGroups d
      ((s' .success).logDesc r d m 0 [] []).acceptReset m
    else s' .safetyResetRefused))

/-- The UDP payloads of a packet list (R332): each behind its 32-bit byte count, padded to 8. -/
def packetList : Nat → Bytes → List Bytes
  | 0, _ => []
  | n + 1, b =>
    if b.length < 4 then []
    else
      let k := le b 0 4
      slice b 4 k :: packetList n (b.drop (4 + ((k + 3) / 8) * 8 + 4))

/-- Every payload of a packet list lies within the list (R331). -/
def packetListOk : Nat → Bytes → Bool
  | 0, _ => true
  | n + 1, b => b.length < 4 || (le b 0 4 + 4 ≤ b.length && packetListOk n (b.drop (4 + ((le b 0 4 + 3) / 8) * 8 + 4)))

/-- Bytes the golden store holds (R312). -/
def State.goldenUsed (s : State) (but : Nat) : Nat :=
  ((s.saf.st.filter (fun e => e.1 != but)).map (fun e =>
    match e.2.golden with
    | none => 0
    | some g => (g.packets.map List.length).sum + g.roi.length)).sum

/-- Stores a stream's golden packets where they fit (R312). -/
def State.storeGolden (s : State) (st : Nat) (g : Golden) : Option State :=
  if 48 * 2 ^ 20 < s.goldenUsed st + (g.packets.map List.length).sum + g.roi.length then none
  else some (s.setSst st { s.sst st with golden := some g })

/-- The golden packets of a GOLDEN_LOAD descriptor. -/
def goldenOf (desc l o : Bytes) : Golden := ⟨packetList l.length (l.take (le desc 12 4)), o.take 512, slice desc 32 16⟩

/-- GOLDEN_LOAD (R312). A failed host read completes with HOST_MEMORY_FAULT (R324), a payload that passes the list's
end with LENGTH_EXCEEDS (R331). -/
def execGoldenLoad (r : Nat) (list roi : Option Bytes) (s : State) : Host.Outcome State Fault Refusal :=
  guardI (decide (r < 8192)) (s.withDesc r 0x29 (fun s d =>
    let fin : State → Status → State := fun s st => s.complete r d.num st
    match list, roi with
    | some l, some o =>
      if !packetListOk l.length (l.take (le d.bytes 12 4)) then fin s .lengthExceeds
      else match (s.logDesc r d 0 0 l o).storeGolden (le d.bytes 8 1) (goldenOf d.bytes l o) with
      | none => fin s .lengthExceeds
      | some s => fin s .success
    | _, _ => fin s .hostMemoryFault))

end Sys2Proof.Machine
end

