-- ==== Sys2Proof/Machine/ShiftLog.lean ====
section
/-!
DEFINITION. The shift log's own records: START, CONFIG, EDGE, MARK and their bytes (R181 to R186).
-/

namespace Sys2Proof.Machine

open Sys2Proof

/-- Rows whose RW bits change only by transaction. -/
def RegRow.txn (r : RegRow) : Bool := decide (r.rw ≠ 0) && !r.direct

/-- The register address and value pairs of a configuration snapshot (R175, R182): every
transactional register that does not hold its reset value, GLB_MODE.LB_FREEZE apart. -/
def State.configPairs (s : State) : List (Nat × Word) :=
  s.regs.filterMap (fun e => (rowAt e.1).bind (fun r =>
    if r.txn then some (e.1, BitVec.ofNat 32 (e.2.toNat &&& (if e.1 = 0x200 then r.rw - 2 else r.rw))) else none))

/-- The converted limits of an axis (R257). -/
def Axis.lims (x : Axis) : List F32 := [x.vt, x.at_, x.jt, x.vw]

/-- A configuration snapshot: the pairs, the service state with the loaded banks under an address that no
register has, the limits in force that each axis's registers were converted to, then the loaded cyclic tables. -/
def State.configBytes (s : State) : Bytes :=
  s.configPairs.flatMap (fun e => leBytes 4 e.1 ++ leBytes 4 e.2.toNat) ++
    leBytes 4 0xFFFFFFFF ++ leBytes 4 (s.fld (mgtA 0x100) 1 0 + 256 * b2n (!s.bank0.isEmpty) + 512 * b2n (!s.bank1.isEmpty)) ++
    part (s.axes.flatMap (fun e => leBytes 4 e.1 ++ e.2.lims.flatMap (fun v => leBytes 4 v.toNat))) ++
    padTo 8 s.bank0 ++ padTo 8 s.bank1

/-- Writes CONFIG records holding the snapshot (R182, R185, R186). -/
def State.logConfig (s : State) : State :=
  let b := s.configBytes
  (cutBytes (b.length + 1) b).foldl (fun s p => s.slogNow 0x02 0 p) s

/-- Package number. -/
def State.pkgNum (s : State) : Nat := s.fld (fabA 4) 9 0

/-- Writes the START record (Table 07-4). -/
def State.logStart (s : State) : State :=
  s.slogNow 0x01 0 (leBytes 2 s.pkgNum ++ leBytes 2 s.fuses.cdCount ++ leBytes 4 (s.rd (mgtA 8)).toNat ++
    leBytes 4 (s.rd 0x200).toNat)

/-- Writes the EDGE record: working time at the edge, the active domain and LOCKED (R252,
Table 07-4). -/
def State.logEdge (s : State) : State :=
  let t := s.clk.lastEdge
  s.slogNow 0x03 0 (leBytes 6 (t / 1000000000) ++ leBytes 4 (t % 1000000000) ++
    leBytes 1 (s.fld (timA 0x88) 0 0) ++ leBytes 1 (b2n s.locked))

/-- The record at the head of a byte string, with the rest; none where it is invalid. -/
def LogRec.decode (b : Bytes) : Option (LogRec × Bytes) :=
  let n := le b 2 2
  let t := le b 0 1
  if b.length < 24 || n < 24 || n % 8 ≠ 0 || b.length < n || t < 1 || 0x0C < t || 3 < le b 1 1 then none
  else some (⟨t, le b 1 1, le b 4 4, le b 8 8, le b 16 2, le b 18 2, le b 20 4, slice b 24 (n - 24)⟩, b.drop n)

/-- A place where a log holds no valid record: TYPE 0. -/
def LogRec.invalid : LogRec := ⟨0, 0, 0, 0, 0, 0, 0, []⟩

/-- The records of a byte string; bytes other than zero that hold none end it with an invalid one. -/
def LogRec.decodeAll : Nat → Bytes → List LogRec
  | 0, _ => []
  | n + 1, b =>
    match LogRec.decode b with
    | none => if b.all (fun x => x == 0) then [] else [LogRec.invalid]
    | some (r, rest) => r :: LogRec.decodeAll n rest

/-! ### Streaming and LOG_POST (R181, R185, R187) -/

/-- A full buffer, or any when `flush` says so, holds its records and completes; the others wait on. -/
def State.postsDone (s : State) (flush : Bool) : State :=
  let out := s.slog.posts.filter (fun p => p.full || flush)
  let s : State := { s with slog := { s.slog with posts := s.slog.posts.filter (fun p => !(p.full || flush)) } }
  out.foldl (fun s p =>
    match s.desc p.ring p.num with
    | none => s
    | some d => (s.hostData (le d.bytes 16 8) p.got).completeR p.ring p.num .success p.got.length) s

/-- LOG_POST: a buffer takes streamed records (DIR 0), or supplies records for replay (DIR 1) and
completes when they are consumed (R181, R187). -/
def execLogPost (r : Nat) (data : Option Bytes) (s : State) : Host.Outcome State Fault Refusal :=
  guardI (decide (r < 8192)) (s.withDesc r 0x38 (fun s d =>
    if le d.bytes 8 1 = 0 then
      let l : SLog := { s.slog with posts := s.slog.posts ++ [⟨r, d.num, le d.bytes 12 4, [], false⟩] }
      ({ s with slog := if s.logMode = 3 || !s.logOn then l.stream else l } : State).postsDone false
    else
      match data with
      | none => s.complete r d.num .hostMemoryFault
      | some b =>
        let rs := LogRec.decodeAll b.length (b.take (le d.bytes 12 4))
        let s : State := { s with slog := { s.slog with play := s.slog.play ++ rs } }
        s.complete r d.num .success))

end Sys2Proof.Machine
end

