-- ==== Sys2Proof/Machine/Harbour.lean ====
section
/-!
DEFINITION. The harbourmaster in service (chapter 17): requests, the log, updates, maker sessions,
identity and attestation, sensors, gating and voltage margin.
-/

namespace Sys2Proof.Machine

open Sys2Proof

/-! ### The log in flash (R386, R387) -/

/-- The bytes of a log record (Table 17-4). -/
def HmRec.encode (x : HmRec) : Bytes :=
  let body := padTo 8 x.payload
  let pre := leBytes 2 x.type ++ leBytes 2 x.size ++ leBytes 4 x.seq ++ leBytes 4 x.boot ++ leBytes 4 x.stamp ++
    leBytes 8 x.tick ++ leBytes 2 x.ring ++ leBytes 1 x.role ++ leBytes 1 (b2n x.supp)
  pre ++ leBytes 4 (crc32c (pre ++ zeros 4 ++ body)) ++ body

/-- Appends a record to the sectors: a record never crosses a sector, and a full area loses its
oldest sector. -/
def sectorAdd (l : List (List HmRec)) (x : HmRec) : List (List HmRec) :=
  match l.getLast? with
  | none => [[x]]
  | some sec =>
    if (sec.map HmRec.size).sum + x.size ≤ 65536 then l.dropLast ++ [sec ++ [x]]
    else (if 64 ≤ l.length then l.drop 1 else l) ++ [[x]]

/-- The buffered records are written to flash. -/
def State.logFlush (s : State) : State :=
  { s with
    flash := { s.flash with log := s.hm.logBuf.foldl sectorAdd s.flash.log }
    hm := { s.hm with logBuf := [] } }

/-- LOG_FLUSH (R386). -/
def execLogFlush (s : State) : Host.Outcome State Fault Refusal := .next s.logFlush

/-- After a reset the record numbers go on from the last record that reached flash (R386). -/
def State.logResume (s : State) : State :=
  match s.flash.log.flatten.getLast? with
  | none => s
  | some x => ({ s with hm := { s.hm with logSeq := x.seq + 1 } } : State).wr (mgtA 0x500) (BitVec.ofNat 32 x.seq)

/-- Every record held, oldest first. -/
def State.hmRecords (s : State) : List HmRec := s.flash.log.flatten ++ s.hm.logBuf

/-- The whole records that fit. -/
def hmFit (room : Nat) : List HmRec → List HmRec
  | [] => []
  | x :: l => if x.size ≤ room then x :: hmFit (room - x.size) l else []

/-! ### Requests (R391, R392) -/

/-- The stated request length of an MGT_OP (Table 17-7). -/
def mgtReqOk (op len : Nat) : Bool :=
  if op = 0x02 then len = 4 else if op = 0x04 then len = 64
  else if op = 0x10 || op = 0x20 || op = 0x30 then len = 8
  else if op = 0x18 then len = 16
  else if op = 0x21 then 8 < len && len ≤ 8 + 2 ^ 20
  else if op = 0x32 then len = 4640
  else if op = 0x34 then true else len = 0

/-- The response minimum of an MGT_OP (Table 17-7). -/
def mgtRespMin (op : Nat) : Nat :=
  if op = 0x01 then 1536 else if op = 0x02 then 256 else if op = 0x03 then 18992
  else if op = 0x04 then 4952 else if op = 0x31 then 64 else 0

/-- The MGT_OP codes of Table 17-7. -/
def mgtOps : List Nat :=
  [0x01, 0x02, 0x03, 0x04, 0x10, 0x11, 0x18, 0x19, 0x20, 0x21, 0x22, 0x23, 0x24, 0x25, 0x30, 0x31, 0x32,
   0x33, 0x34]

/-- The MGT_OPs that the recovery state accepts (R391). -/
def mgtRecovery (op : Nat) : Bool :=
  [0x01, 0x02, 0x03, 0x04, 0x20, 0x21, 0x22, 0x23, 0x24, 0x25].contains op

/-- The checks of a mailbox request (R391, R330): its MGT_OP, the maker session it needs, and its length. -/
def State.mbxCheck (s : State) : Status :=
  let op := s.fld (mbxA 4) 15 0
  let n := (s.rd (mbxA 8)).toNat
  let maker := match s.hm.maker with | none => false | some m => m.opened && decide (m.ring = 0xFFFF)
  if !mgtOps.contains op then .descriptorInvalid
  else if s.hm.phase = .recovery && !mgtRecovery op then .permissionDenied
  else if op = 0x34 && !maker then .makerSessionRequired
  else if 2 ^ 21 < n || !mgtReqOk op n then .lengthExceeds
  else .success

/-- The ring that a request came from; 0xFFFF for the mailbox. -/
def MgtSrc.ringNo : MgtSrc → Nat
  | .ring r _ => r
  | .mailbox => 0xFFFF

/-- Ends a mailbox request: response, status, DONE and its count (Table 17-8), and the role action
record (R382). -/
def State.mbxDone (s : State) (op : Nat) (st : Status) (resp : Bytes) : State :=
  let s : State := { s with hm := { s.hm with mbxResp := resp } }
  let s := (s.put (mbxA 0xC) 31 24 st.code).put (mbxA 0xC) 0 0 0
  let s := (s.event (mbxA 0xC) 1 (mbxA 0x14)).wr (mbxA 0x10) (BitVec.ofNat 32 resp.length)
  if roleNeeded 0x08 op then s.roleAction 0x08 op 0xFFFF 0 st else s

/-- Completes a request with its response (R324, R331). -/
def State.mgtDone (s : State) (src : MgtSrc) (op : Nat) (st : Status) (resp : Bytes) (result : Nat) : State :=
  match src with
  | .mailbox => s.mbxDone op st (resp.take (2 ^ 20))
  | .ring r num =>
    match s.desc r num with
    | none => s
    | some d => (s.hostData (le d.bytes 24 8) (resp.take (le d.bytes 32 4))).completeR r num st result

/-- A request without a response. -/
def State.mgtEnd (s : State) (src : MgtSrc) (op : Nat) (st : Status) : State := s.mgtDone src op st [] 0

/-- Serves the request at the head of the queue, if it is `op` and has started (R391): `req` holds
the request bytes that a ring's descriptor reads. -/
def State.withMgt (s : State) (op : Nat) (req : Option Bytes) (f : State → MgtSrc → Bytes → State) : State :=
  match s.hm.queue with
  | [] => s
  | .mailbox :: rest =>
    if s.fld (mbxA 4) 15 0 = op then
      let b := (List.range (s.rd (mbxA 8)).toNat).map (fun i => tget 0 s.hm.mbxReq i)
      f { s with hm := { s.hm with queue := rest } } .mailbox b
    else s
  | .ring r num :: rest =>
    match s.startable r 0x08 with
    | none => s
    | some d =>
      if d.num ≠ num || le d.bytes 8 2 ≠ op then s
      else
        let s : State := ({ s with hm := { s.hm with queue := rest } } : State).begin r num
        let n := le d.bytes 12 4
        match req with
        | none => s.complete r num .hostMemoryFault
        | some b => f s (.ring r num) (b.take n)

/-- The request of an MGT_OP that carries none. -/
def noReq : Option Bytes := some []

/-- Harbourmaster views: what the spec leaves to measurement is free (Tables 16-12, 17-9). -/
def State.mgtView (s : State) (a : Nat) : Word :=
  let o := a - 0xA00000
  if 0x40 ≤ o && o < 0x50 then BitVec.ofNat 32 (Config.freeNat (s.free + a) % 2 ^ 24)
  else if 0x340 ≤ o && o < 0x378 && o % 4 = 0 then putBits (s.rd a) 15 0 (Config.freeNat (s.free + a))
  else s.rd a

/-- The MGT block's registers as bytes (Table 17-7, STATUS). -/
def State.mgtBlock (s : State) : Bytes := (List.range 384).flatMap (fun i => leBytes 4 (s.mgtView (mgtA (4 * i))).toNat)

/-- STATUS (R391). -/
def execStatus (s : State) : Host.Outcome State Fault Refusal :=
  .next (s.withMgt 0x01 noReq (fun s src _ => (s.mgtDone src 0x01 .success s.mgtBlock 0).bump))

/-- LOG_READ (R387). -/
def execLogRead (req : Option Bytes) (s : State) : Host.Outcome State Fault Refusal :=
  .next (s.withMgt 0x02 req (fun s src b =>
    let room := match src with
      | .mailbox => 2 ^ 20
      | .ring r num => match s.desc r num with | none => 0 | some d => le d.bytes 32 4
    let from_ := le b 0 4
    let all := s.hmRecords
    -- records from FROM_SEQ on, or from the oldest held where it has been erased
    let l := all.dropWhile (fun x => decide (0 < dist32 from_ x.seq))
    let out := hmFit room l
    let data := out.flatMap HmRec.encode
    let nxt := (from_ + (l.head?.map (fun x => (dist32 x.seq from_).toNat)).getD 0 + out.length) % 2 ^ 32
    s.mgtDone src 0x02 .success data (data.length + nxt * 2 ^ 32)))

/-- IDENTITY (R389). -/
def execIdentity (s : State) : Host.Outcome State Fault Refusal :=
  .next (s.withMgt 0x03 noReq (fun s src _ =>
    s.mgtDone src 0x03 .success
      (fitTo 16 Config.serial ++ fitTo 2592 Config.identityKey ++ fitTo 16384 Config.certChain) 0))

/-- The attestation report without its signature (Table 17-6). -/
def State.attestBody (s : State) (nonce : Bytes) : Bytes :=
  let f := b2n (s.flag (mgtA 0x100) 5) + 2 * b2n (s.flag (mgtA 0x100) 4) + 4 * b2n (s.flag (mgtA 0) 2) +
    8 * b2n (s.flag (mgtA 0x100) 6)
  leBytes 4 0x5454414D ++ leBytes 2 1 ++ leBytes 2 f ++ fitTo 64 nonce ++ fitTo 16 Config.serial ++
    leBytes 2 s.pkgNum ++ leBytes 1 s.fuses.cdCount ++ leBytes 1 (s.fld (mgtA 0x100) 1 0) ++
    leBytes 4 (s.rd (mgtA 8)).toNat ++ leBytes 1 s.fuses.svn ++ leBytes 1 (s.fld (mgtA 0xC) 7 0) ++
    leBytes 1 (s.fld (mgtA 0) 1 1) ++ [0] ++ leBytes 4 (s.rd (mgtA 4)).toNat ++ leBytes 8 s.clk.tick ++
    fitTo 64 (((s.hm.image.map (fun h => slice h 64 64))).getD []) ++ fitTo 64 Config.romDigest ++
    sha3_512 s.configBytes ++ leBytes 4 (s.rd (mgtA 0x500)).toNat ++ leBytes 2 (s.fld (mgtA 0x28) 15 8) ++
    leBytes 2 (s.fld (mgtA 0x28) 7 0) ++ zeros 8

/-- ATTEST (R390). -/
def execAttest (req : Option Bytes) (s : State) : Host.Outcome State Fault Refusal :=
  .next (s.withMgt 0x04 req (fun s src b =>
    let body := s.attestBody b
    s.mgtDone src 0x04 .success (body ++ fitTo 4627 (Config.mldsaSign (sha3_512 body)) ++ zeros 5) 0))

/-- MGT_STATE.SERVICE: 0 normal, 1 start-up, 2 test, 3 recovery (Table 03-5). -/
def State.service (s : State) : Nat := s.fld (mgtA 0x100) 1 0

/-- SET_STATE (R384). -/
def execSetState (req : Option Bytes) (s : State) : Host.Outcome State Fault Refusal :=
  .next (s.withMgt 0x10 req (fun s src b =>
    let n := le b 0 1
    if 3 < n || (b.drop 1).any (fun x => x != 0) then s.mgtEnd src 0x10 .descriptorInvalid
    else if n = 1 || (n = 0 && (s.flag (mgtA 0x100) 4 || s.flag (mgtA 0x100) 5)) then
      s.mgtEnd src 0x10 .serviceStateInvalid
    else
      let old := s.service
      let s := s.put (mgtA 0x100) 1 0 n
      (s.hmLog 0x05 none src.ringNo 1 (leBytes 1 old ++ leBytes 1 n)).mgtEnd src 0x10 .success))

/-! ### Package reset (R355) -/

/-- The rails ramp down: every CD_EN[n], then LP_EN[1], then LP_EN[0] (R414). -/
def State.railsDown (s : State) : State :=
  let s := ((List.range 7).filter (fun n => s.hm.cdEn.testBit n)).foldl (fun (s : State) n => s.emit (.cdEn n false)) s
  let s := if s.hm.lpEn.testBit 1 then s.emit (.lpEn 1 false) else s
  let s := if s.hm.lpEn.testBit 0 then s.emit (.lpEn 0 false) else s
  { s with hm := { s.hm with lpEn := 0, cdEn := 0 } }

/-- A crash dump that survives a package reset has RETAINED set (Table 16-9). -/
def retained (b : Bytes) : Bytes := if b.isEmpty then b else splice b 7 [BitVec.ofNat 8 (le b 7 1 ||| 2)]

/-- What a package reset leaves: the slot of an update before its step 4 is invalid (R388); flash, fuses and the crash store survive; the reset is in force
until its release. `cause` is recorded for the next boot (Table 16-12). -/
def State.packageReset (s : State) (cause : Nat) (phase : Phase) : State :=
  let mark : Option BootRec → Option BootRec := fun r => r.map (fun x => { x with lastCause := cause })
  let drop : Nat → Bool := fun n => match s.hm.update with | some u => u.slot == n && !u.activated | none => false
  let flash := { s.flash with
    recA := mark s.flash.recA, recB := mark s.flash.recB
    slot0 := if drop 0 then [] else s.flash.slot0, slot1 := if drop 1 then [] else s.flash.slot1 }
  let base := State.reset
  let live := (List.range 4).foldl (fun (s : State) g =>
    if s.flag (ssoA g 0xC) 31 then s.emit (.sso g false false) else s) s
  let live := live.railsDown
  let crash := s.hm.crash
  let due := if s.hm.phase = .reset || s.hm.phase = .tripped then s.hm.resetDue else s.clk.ref + 11050000
  let s : State := { base with
    pending := s.pending, out := live.out, free := s.free + 1, flash := flash, fuses := s.fuses
    clk := { Clk.init with ref := s.clk.ref }
    hm := { Hm.init with phase := phase, crash := retained crash, cause := cause, resetDue := due } }
  if crash.isEmpty then s else s.put (mgtA 0x30) 31 31 1

/-- PACKAGE_RESET: completes, and the package then resets, its log written (R391, Table 17-7). -/
def execPackageReset (s : State) : Host.Outcome State Fault Refusal :=
  .next (s.withMgt 0x11 noReq (fun s src _ => (s.mgtEnd src 0x11 .success).logFlush.packageReset 5 .reset))

/-! ### Capture (R385) -/

/-- In-service compute dies (GLB_CD_PRESENT.IN_SERVICE). -/
def State.inService (s : State) : List Nat := (List.range 7).filter (fun n => (s.fld 4 14 8).testBit n)

/-- CAPTURE_ARM (R123, R385). -/
def execCaptureArm (req : Option Bytes) (s : State) : Host.Outcome State Fault Refusal :=
  .next (s.withMgt 0x18 req (fun s src b =>
    let size := le b 8 2
    if le b 10 6 ≠ 0 || 1 < le b 2 2 || 7 < le b 4 4 || size < 1 || 16 < size ||
        (8191 < le b 0 2 && le b 0 2 ≠ 0xFFFF) then s.mgtEnd src 0x18 .descriptorInvalid
    else if !s.jobs.isEmpty then s.mgtEnd src 0x18 .jobsActive
    else if s.hm.armed.isSome || s.hm.held.isSome || (s.logOn && s.inService.length ≤ 1) then
      s.mgtEnd src 0x18 .captureAreaBusy
    else
      let c : CaptureReq := ⟨le b 0 2, (le b 2 2).testBit 0, le b 4 4, size, (s.inService.head?).getD 0⟩
      let s : State := { s with hm := { s.hm with armed := some c } }
      ((s.put (mgtA 0x100) 6 6 1).hmLog 0x0E none src.ringNo 1 [0]).mgtEnd src 0x18 .success))

/-- CAPTURE_RELEASE: discards a held capture or disarms an armed one (R385). -/
def execCaptureRelease (s : State) : Host.Outcome State Fault Refusal :=
  .next (s.withMgt 0x19 noReq (fun s src _ =>
    let s : State := { s with hm := { s.hm with armed := none, held := none } }
    let s := (s.put (mgtA 0x100) 6 6 0).put (mgtA 0x30) 30 30 0
    (s.hmLog 0x0E none src.ringNo 1 [1]).mgtEnd src 0x19 .success))

/-! ### The boot step record (R360) -/

/-- The record that the ROM uses: the valid copy of the higher generation, else an empty one. -/
def State.bootRec (s : State) : BootRec :=
  match s.flash.recA, s.flash.recB with
  | some a, some b => if b.generation ≤ a.generation then a else b
  | some a, none => a
  | none, some b => b
  | none, none => ⟨0, 0, 0, 0, 0, []⟩

/-- Writes an update of the record into the other copy, with GENERATION increased by one. -/
def State.putRec (s : State) (x : BootRec) : State :=
  let y := { x with generation := s.bootRec.generation + 1 }
  let intoA := match s.flash.recA, s.flash.recB with
    | some a, some b => decide (a.generation < b.generation)
    | some _, none => false
    | none, _ => true
  let s : State := { s with flash := if intoA then { s.flash with recA := some y } else { s.flash with recB := some y } }
  let count := fun (p : BootEntry → Bool) => (y.entries.filter p).length
  (s.put (mgtA 0x28) 15 8 (count (fun e => e.mark == 1 || e.mark == 3))).put (mgtA 0x28) 7 0
    (count (fun e => e.mark == 2))

/-- Replaces the entry of a step instance. -/
def entryPut (e : BootEntry) (l : List BootEntry) : List BootEntry :=
  if l.any (fun x => x.step == e.step && x.unit == e.unit) then
    mapIf (fun x => x.step == e.step && x.unit == e.unit) (fun _ => e) l
  else l ++ [e]

/-- The entry of a step instance; an empty record leaves every instance normal. -/
def BootRec.entry (r : BootRec) (step unit : Nat) : BootEntry :=
  ((r.entries.filter (fun e => e.step == step && e.unit == unit)).head?).getD ⟨step, unit, 0, 0, 0, 0, 0⟩

/-- The record forgets that an optional instance is skipped once the unit reaches service (R359). -/
def State.markClear (s : State) (step unit : Nat) : State :=
  let r := s.bootRec
  let e := r.entry step unit
  if e.mark = 0 then s else s.putRec { r with entries := entryPut { e with mark := 0 } r.entries }

/-- An optional instance failed in this boot: a port stays down (R359). -/
def State.bootFailed (s : State) (step unit : Nat) : Bool :=
  let r := s.bootRec
  let e := r.entry step unit
  e.outcome = 3 && e.bootNum = r.bootCount

/-! ### Firmware update (R363, R388) -/

/-- Image slot `n` as bytes. -/
def State.slotTbl (s : State) (n : Nat) : Tbl Byte := if n = 0 then s.flash.slot0 else s.flash.slot1

/-- Bytes of an image slot; an erased byte reads 0xFF. -/
def State.slotBytes (s : State) (n off len : Nat) : Bytes :=
  let t := s.slotTbl n
  (List.range len).map (fun i => tget 0xFF t (off + i))

/-- Replaces an image slot. -/
def State.setSlot (s : State) (n : Nat) (t : Tbl Byte) : State :=
  { s with flash := if n = 0 then { s.flash with slot0 := t } else { s.flash with slot1 := t } }

/-- The checks of R363 on slot `n`, in order. -/
def State.verifySlot (s : State) (n : Nat) : Status :=
  let h := s.slotBytes n 0 8192
  let res := (slice h 36 28 ++ slice h 7347 845).any (fun b => b != 0)
  if le h 0 4 ≠ 0x4638565A || le h 4 4 ≠ 1 || res then .imageVersionRefused
  else if sha3_512 (slice h 128 2592) ≠ Config.romKeyDigest then .imageSignatureInvalid
  else if !Config.mldsaVerify (slice h 128 2592) (sha3_512 (h.take 2720)) (slice h 2720 4627) then .imageSignatureInvalid
  else if 24 * 2 ^ 20 - 8192 < le h 24 4 || sha3_512 (s.slotBytes n 8192 (le h 24 4)) ≠ slice h 64 64 then
    .imageSignatureInvalid
  else if le h 12 4 < s.fuses.svn then .imageVersionRefused
  else .success

/-- Logs a step of an update (Table 17-5) and completes the request. -/
def State.updEnd (s : State) (src : MgtSrc) (op slot : Nat) (st : Status) : State :=
  let h := s.slotBytes slot 8 8
  (s.hmLog 0x06 none src.ringNo 1 (leBytes 1 (op - 0x1F) ++ leBytes 1 slot ++ h ++ leBytes 2 st.code)).mgtEnd src op st

/-- Runs `f` for the owner of the open update; any other ring gets UPDATE_BUSY. -/
def State.withUpdate (s : State) (src : MgtSrc) (op : Nat) (f : State → Update → State) : State :=
  match s.hm.update with
  | none => s.mgtEnd src op .updateBusy
  | some u => if u.owner.ringNo = src.ringNo then f s u else s.mgtEnd src op .updateBusy

/-- Sets or clears the open update and the registers that show it. -/
def State.setUpdate (s : State) (u : Option Update) : State :=
  let s : State := { s with hm := { s.hm with update := u } }
  match u with
  | none => (s.put (mgtA 0x100) 7 7 0).wr (mgtA 0x104) 0
  | some x =>
    let m := x.owner.ringNo
    (s.put (mgtA 0x100) 7 7 1).wr (mgtA 0x104) (if m = 0xFFFF then 0x2000 else BitVec.ofNat 32 m)

/-- Slot that an update writes: the one that did not boot; in recovery the preferred one (R388). -/
def State.updSlot (s : State) : Nat :=
  if s.hm.phase = .recovery then s.bootRec.preferred else 1 - s.fld (mgtA 0) 1 1

/-- UPDATE_BEGIN (R388). -/
def execUpdateBegin (req : Option Bytes) (s : State) : Host.Outcome State Fault Refusal :=
  .next (s.withMgt 0x20 req (fun s src b =>
    let len := le b 0 4
    if s.hm.update.isSome then s.mgtEnd src 0x20 .updateBusy
    else if len = 0 || 24 * 2 ^ 20 < len then s.mgtEnd src 0x20 .lengthExceeds
    else if le b 4 4 ≠ 0 then s.mgtEnd src 0x20 .descriptorInvalid
    else
      let slot := s.updSlot
      ((s.setSlot slot []).setUpdate (some ⟨src, slot, len, false, false⟩)).updEnd src 0x20 slot .success))

/-- Writes bytes into a slot. -/
def slotWrite (off : Nat) : Bytes → Tbl Byte → Tbl Byte
  | [], t => t
  | b :: bs, t => slotWrite (off + 1) bs (tset 0xFF t off b)

/-- UPDATE_WRITE: 4 KiB steps but for the last write, within IMAGE_LEN (R388). -/
def execUpdateWrite (req : Option Bytes) (s : State) : Host.Outcome State Fault Refusal :=
  .next (s.withMgt 0x21 req (fun s src b => s.withUpdate src 0x21 (fun s u =>
    let off := le b 0 8
    let data := b.drop 8
    let n := data.length
    if u.activated then s.mgtEnd src 0x21 .updateBusy
    else if off % 4096 ≠ 0 || (n % 4096 ≠ 0 && off + n ≠ u.len) || 2 ^ 20 < n || u.len < off + n then
      s.mgtEnd src 0x21 .lengthExceeds
    else
      ((s.setSlot u.slot (slotWrite off data (s.slotTbl u.slot))).setUpdate (some { u with verified := false })).mgtEnd
        src 0x21 .success)))

/-- UPDATE_VERIFY: R363, and DRV_MIN at most DRV_MAX (R388). -/
def execUpdateVerify (s : State) : Host.Outcome State Fault Refusal :=
  .next (s.withMgt 0x22 noReq (fun s src _ => s.withUpdate src 0x22 (fun s u =>
    let st := s.verifySlot u.slot
    let h := s.slotBytes u.slot 16 8
    let st := if st = .success && le h 4 4 < le h 0 4 then Status.imageVersionRefused else st
    (s.setUpdate (some { u with verified := decide (st = .success) })).updEnd src 0x22 u.slot st)))

/-- UPDATE_ACTIVATE: after a successful verify, the new slot is preferred; in the recovery state
the package also resets (R388). -/
def execUpdateActivate (s : State) : Host.Outcome State Fault Refusal :=
  .next (s.withMgt 0x23 noReq (fun s src _ => s.withUpdate src 0x23 (fun s u =>
    if !u.verified then s.updEnd src 0x23 u.slot .updateBusy
    else
      let rec_ := s.hm.phase = .recovery
      let s := s.putRec { s.bootRec with preferred := u.slot }
      let s := (s.setUpdate (some { u with activated := true })).updEnd src 0x23 u.slot .success
      if rec_ then s.logFlush.packageReset 4 .reset else s)))

/-- UPDATE_CONFIRM, while the new image runs: the fused security version rises to the booted
image's SVN, and the update closes (R388). -/
def execUpdateConfirm (s : State) : Host.Outcome State Fault Refusal :=
  .next (s.withMgt 0x24 noReq (fun s src _ =>
    match s.hm.update with
    | some u => s.updEnd src 0x24 u.slot .updateBusy
    | none =>
      let svn := max s.fuses.svn (s.fld (mgtA 0xC) 7 0)
      let s : State := { s with fuses := { s.fuses with svn := svn } }
      (s.put (mgtA 0xC) 15 8 svn).updEnd src 0x24 (s.fld (mgtA 0) 1 1) .success))

/-- Closes an update before step 4; its slot is invalid (R388). -/
def State.dropUpdate (s : State) (u : Update) : State :=
  if u.activated then s.setUpdate none else (s.setSlot u.slot []).setUpdate none

/-- UPDATE_ABORT (R388). -/
def execUpdateAbort (s : State) : Host.Outcome State Fault Refusal :=
  .next (s.withMgt 0x25 noReq (fun s src _ => s.withUpdate src 0x25 (fun s u =>
    if u.activated then s.updEnd src 0x25 u.slot .updateBusy
    else (s.dropUpdate u).updEnd src 0x25 u.slot .success)))

/-! ### Maker sessions (R383) -/

/-- A MAKER log record: event 1 enable, 2 challenge, 3 open, 4 refused, 5 end, 6 operation. -/
def State.makerLog (s : State) (ev ring : Nat) (rights : Bytes) (minutes : Nat) : State :=
  s.hmLog 0x07 none ring (if ev = 6 then 2 else 1) (leBytes 1 ev ++ zeros 1 ++ leBytes 2 minutes ++ fitTo 8 rights)

/-- Ends the maker session. -/
def State.makerStop (s : State) : State :=
  match s.hm.maker with
  | none => s
  | some m =>
    let s : State := { s with hm := { s.hm with maker := none } }
    if m.opened then (s.put (mgtA 0x100) 4 4 0).makerLog 5 m.ring m.rights m.minutes else s

/-- MAKER_ENABLE: in service state test or recovery only (R383). -/
def execMakerEnable (req : Option Bytes) (s : State) : Host.Outcome State Fault Refusal :=
  .next (s.withMgt 0x30 req (fun s src b =>
    let m := le b 0 2
    let open_ := match s.hm.maker with | none => false | some x => x.opened
    if m < 1 || 1440 < m || le b 2 6 ≠ 0 then s.mgtEnd src 0x30 .descriptorInvalid
    else if s.service < 2 || open_ then s.mgtEnd src 0x30 .serviceStateInvalid
    else
      let s : State := { s with hm := { s.hm with maker := some ⟨src.ringNo, m, none, false, [], 0⟩ } }
      (s.makerLog 1 src.ringNo [] m).mgtEnd src 0x30 .success))

/-- Runs `f` on the session steps that the request's ring has begun. -/
def State.withMaker (s : State) (src : MgtSrc) (op : Nat) (f : State → Maker → State) : State :=
  match s.hm.maker with
  | none => s.mgtEnd src op .makerSessionRequired
  | some m => if m.ring = src.ringNo then f s m else s.mgtEnd src op .makerSessionRequired

/-- MAKER_CHALLENGE: a fresh 64-byte nonce (R383). -/
def execMakerChallenge (s : State) : Host.Outcome State Fault Refusal :=
  .next (s.withMgt 0x31 noReq (fun s src _ => s.withMaker src 0x31 (fun s m =>
    if m.opened then s.mgtEnd src 0x31 .makerSessionRequired
    else
      let nonce := fitTo 64 (Config.freeBytes s.free)
      let s : State := { s with free := s.free + 1, hm := { s.hm with maker := some { m with nonce := some nonce } } }
      (s.makerLog 2 src.ringNo [] m.minutes).mgtDone src 0x31 .success nonce 0)))

/-- MAKER_RESPONSE: a verified signature opens the session; debug unlock latches a package stop
(R383). -/
def execMakerResponse (req : Option Bytes) (s : State) : Host.Outcome State Fault Refusal :=
  .next (s.withMgt 0x32 req (fun s src b => s.withMaker src 0x32 (fun s m =>
    match m.nonce with
    | none => s.mgtEnd src 0x32 .makerSessionRequired
    | some nonce =>
      let rights := slice b 0 8
      let msg := nonce ++ fitTo 16 Config.serial ++ rights
      if (slice b 4635 5).any (fun x => x != 0) then s.mgtEnd src 0x32 .descriptorInvalid
      else if Config.mldsaVerify Config.makerKey msg (slice b 8 4627) then
        let s : State := { s with hm := { s.hm with
          maker := some { m with nonce := none, opened := true, rights := rights, since := s.clk.ref } } }
        let s := (s.put (mgtA 0x100) 4 4 1).makerLog 3 src.ringNo rights m.minutes
        let s := if Config.grantsDebug rights then (s.put (mgtA 0x100) 5 5 1).packageStop true else s
        s.mgtEnd src 0x32 .success
      else
        let s : State := { s with hm := { s.hm with maker := some { m with nonce := none } } }
        (s.makerLog 4 src.ringNo rights m.minutes).mgtEnd src 0x32 .imageSignatureInvalid)))

/-- MAKER_END (R383). -/
def execMakerEnd (s : State) : Host.Outcome State Fault Refusal :=
  .next (s.withMgt 0x33 noReq (fun s src _ => s.withMaker src 0x33 (fun s _ =>
    s.makerStop.mgtEnd src 0x33 .success)))

/-- MAKER_OP: logged; its own effect is Jaursen's and undocumented (R383). -/
def execMakerOp (req : Option Bytes) (s : State) : Host.Outcome State Fault Refusal :=
  .next (s.withMgt 0x34 req (fun s src _ => s.withMaker src 0x34 (fun s m =>
    if m.opened then (s.makerLog 6 src.ringNo m.rights m.minutes).mgtDone src 0x34 .success (Config.freeBytes s.free) 0
    else s.mgtEnd src 0x34 .makerSessionRequired)))

/-- MAKER_SESSION_EXPIRY: the duration passes (R383). -/
def execMakerSessionExpiry (s : State) : Host.Outcome State Fault Refusal :=
  .next (
    match s.hm.maker with
    | none => s
    | some m => if m.opened then s.atRef (m.since + m.minutes * 60000000000) State.makerStop else s)

/-- What ends with a ring that is disabled or halted: its maker session (R383), and an update that
it owns when disabled (R388). -/
def State.makerRing (s : State) (r : Nat) : State :=
  match s.hm.maker with
  | none => s
  | some m => if m.ring = r then s.makerStop else s

/-- Closes the update of a disabled owner ring (R388). -/
def State.updateRing (s : State) (r : Nat) : State :=
  match s.hm.update with
  | none => s
  | some u => if u.owner.ringNo = r && !u.activated then s.dropUpdate u else s

/-! ### Sensors and cycle gating (R375 to R377) -/

/-- G of R376 for a temperature in sixteenths of a degree: floor of quarter degrees above 100 °C. -/
def gateOf (t : Int) : Nat := if t < 1600 then 0 else min 24 (1 + ((t - 1600) / 4).toNat)

/-- Whether site `i` exists (R375). -/
def State.sitePresent (s : State) (i : Nat) : Bool := i / 8 = 0 || decide (i / 8 ≤ s.fuses.cdCount)

/-- The highest reading of die `d` (0 the quay die) in a sample. -/
def hottest (temps : List Nat) (d : Nat) : Int :=
  (List.range 8).foldl (fun m j => max m (sint 16 (temps.getD (8 * d + j) 0))) (-32768)

/-- The gating step of die `d`: up at once, down one step after 10 ms, to 0 only below 99 °C (R376). -/
def State.gateDie (s : State) (temps : List Nat) (d : Nat) : State :=
  let t := hottest temps d
  let g := s.fld (mgtA (0x310 + 4 * d)) 4 0
  let f := gateOf t
  let since := tget 0 s.hm.coolSince d
  let cool : Nat → State → State := fun n s => { s with hm := { s.hm with coolSince := tset 0 s.hm.coolSince d n } }
  if g ≤ f then
    let s := (cool 0 s).put (mgtA (0x310 + 4 * d)) 4 0 f
    if g = 0 && 0 < f then
      (s.event (mgtA 0x300) 0 (mgtA 0x304)).hmLog 0x0A (some d) 0xFFFF 0xFF (leBytes 1 d ++ leBytes 1 f ++ [1])
    else s
  else if since = 0 then cool (s.clk.ref + 1) s
  else if since - 1 + 10000000 ≤ s.clk.ref && (1 < g || t < 1584) then
    let s := (cool (s.clk.ref + 1) s).put (mgtA (0x310 + 4 * d)) 4 0 (g - 1)
    if g = 1 then s.hmLog 0x0A (some d) 0xFFFF 0xFF (leBytes 1 d ++ [0, 2]) else s
  else s

/-- A site above 105 °C for more than 1 s (R377). -/
def State.overSite (s : State) (temps : List Nat) (i : Nat) : State :=
  let hot := decide (1680 < sint 16 (temps.getD i 0))
  let since := tget 0 s.hm.hotSince i
  let set_ : Nat → State → State := fun n s => { s with hm := { s.hm with hotSince := tset 0 s.hm.hotSince i n } }
  if !hot then set_ 0 s
  else if since = 0 then set_ (s.clk.ref + 1) s
  else if since = 1 then s
  else if since - 1 + 1000000000 < s.clk.ref then
    -- reported once an episode: a mark that no reference time gives
    ((set_ 1 s).event (mgtA 0x300) 1 (mgtA 0x308)).hmLog 0x0A (some (64 + i)) 0xFFFF 0xFF
      (leBytes 1 (i / 8) ++ leBytes 1 i ++ leBytes 2 (temps.getD i 0) ++ [3])
  else s

/-- THERMAL_SAMPLE: a reading of every site in sixteenths of a degree (R375 to R377). In the hold
after a thermal trip, readings below 95 °C everywhere end the hold (R371). -/
def execThermalSample (temps : List Nat) (s : State) : Host.Outcome State Fault Refusal :=
  .next (
    let sites := (List.range 64).filter s.sitePresent
    if s.hm.phase = .tripped then
      if sites.all (fun i => decide (sint 16 (temps.getD i 0) < 1520)) then
        ({ s with hm := { s.hm with phase := .reset } } : State).emit (.trip false)
      else s
    else if s.hm.phase ≠ .ready then s
    else
      let s := sites.foldl (fun s i => s.put (mgtA (0x200 + 4 * i)) 15 0 (temps.getD i 0)) s
      let hot := (bestBy (fun i j => decide (sint 16 (temps.getD j 0) < sint 16 (temps.getD i 0))) sites).getD 0
      let s := (s.put (mgtA 0x300) 23 16 hot).tlySyncAll
      let s := ((List.range 8).filter (fun d => d = 0 || d ≤ s.fuses.cdCount)).foldl (fun s d => s.gateDie temps d) s
      sites.foldl (fun s i => s.overSite temps i) s)

/-- THERMAL_TRIP: a site at 110 °C; a package reset, held until every site reads below 95 °C
(R371), with TRIP_N low (R415). -/
def execThermalTrip (site : Nat) (s : State) : Host.Outcome State Fault Refusal :=
  guardI (decide (site < 64)) (
    if s.sitePresent site && (s.hm.phase = .ready || s.hm.phase = .recovery) then (s.packageReset 2 .tripped).emit (.trip true) else s)

/-- VOLTAGE_TRIP: a rail beyond its limits for 5 µs; a package reset (R371, R415). -/
def execVoltageTrip (rail : Nat) (s : State) : Host.Outcome State Fault Refusal :=
  guardI (decide (rail < 14)) (
    if s.hm.phase = .ready || s.hm.phase = .recovery then (s.packageReset 3 .reset).emit (.trip true) else s)

/-! ### Voltage margin and ageing (R378 to R380) -/

/-- The weeks until the least-squares line of V_crit (tenths of a mV) against week reaches 800 mV,
counted from the latest measurement; 0xFFFF where it does not rise (R379). -/
def lifeWeeks (ms : List Margin) : Nat :=
  let n : Int := ms.length
  let xs := ms.map (fun m => (m.week : Int))
  let ys := ms.map (·.vcrit)
  let sx := xs.sum
  let sy := ys.sum
  let sxy := ((xs.zip ys).map (fun p => p.1 * p.2)).sum
  let sxx := (xs.map (fun x => x * x)).sum
  let a := n * sxy - sx * sy
  let b := n * sxx - sx * sx
  let last := xs.getLastD 0
  -- slope a / b; the line at `last` is (sy·b + a·(n·last − sx)) / (n·b)
  if a ≤ 0 || b ≤ 0 || n ≤ 0 then 0xFFFF
  else min 0xFFFF (max 0 ((8000 * n * b - (sy * b + a * (n * last - sx))) / (n * a))).toNat

/-- The set-points on the way from one to another, 1 mV each (R378). -/
def voltSteps (a b : Nat) : List Nat :=
  if a ≤ b then (List.range (b - a)).map (fun i => a + i + 1) else (List.range (a - b)).map (fun i => a - i - 1)

/-- MARGIN_MEASUREMENT of die `n`: `slack` in tenths of a ps (R378, R379). -/
def execMarginMeasurement (n slack week : Nat) (s : State) : Host.Outcome State Fault Refusal :=
  guardI (decide (n < 7)) (
    if !s.inService.contains n then s
    else
      let vset := s.fld (mgtA (0x340 + 4 * n)) 31 16
      let k : Int := (Config.fusedK n : Int) + 1
      -- V_crit = V_set − S / K, in tenths of a mV and, times K, exactly
      let crit10 : Int := ((vset : Int) * 10 * k - (slack : Int) * 10) / k
      let up : Int := ((vset : Int) + 70) * k - slack
      let want : Int := -((-up) / (5 * k)) * 5
      let vnew := (clampInt 720 820 want).toNat
      let spent : Bool := decide (820 * k < up)
      let dead : Bool := decide (820 * k < ((vset : Int) + 20) * k - slack)
      let ms := tget [] s.flash.margins n ++ [⟨week, crit10, vnew⟩]
      let s : State := { s with flash := { s.flash with margins := tset [] s.flash.margins n ms } }
      let life := lifeWeeks (ms.drop (ms.length - 26))
      let a := 0x400 + 0x10 * n
      let s := (s.put (mgtA a) 31 16 vset).put (mgtA a) 15 0 (crit10 / 10).toNat
      let s := ((s.put (mgtA (a + 4)) 16 16 (b2n spent)).put (mgtA (a + 4)) 15 0 life).wr (mgtA (a + 8)) (BitVec.ofNat 32 week)
      let s := (voltSteps vset vnew).foldl (fun (s : State) v => s.emit (.vout (0x40 + n) v)) s
      let s := s.put (mgtA (0x340 + 4 * n)) 31 16 vnew
      let s := s.hmLog 0x08 (some n) 0xFFFF 0xFF (leBytes 1 n ++ leBytes 2 vset ++ leBytes 4 slack ++
        leBytes 2 (crit10 / 10).toNat ++ leBytes 2 vnew ++ leBytes 4 week)
      let s := if spent then s.hmLog 0x09 (some n) 0xFFFF 0xFF (leBytes 1 n ++ leBytes 2 life ++ [1] ++ leBytes 1 (b2n dead)) else s
      if dead then
        let r := s.bootRec
        s.putRec { r with entries := entryPut { r.entry 6 n with mark := 3, bootNum := r.bootCount } r.entries }
      else s)

/-- PMB_ALERT: the harbourmaster reads STATUS_WORD of each regulator; a failed command or a set
fault bit is counted and logged (R380, R421). -/
def execPmbAlert (regs : List PmbStatus) (s : State) : Host.Outcome State Fault Refusal :=
  .next (if s.hm.phase ≠ .ready then s else regs.foldl (fun s x =>
    if 0x40 ≤ x.addr && x.addr ≤ 0x4B && (match x.word with | none => true | some w => decide (w ≠ 0)) then
      (s.count (mgtA 0x508)).hmLog 0x0B (some x.addr) 0xFFFF 0xFF
        (leBytes 1 x.addr ++ [0x79] ++ leBytes 2 (x.word.getD 0))
    else s) s)

/-! ### Traps and crash dumps (R367 to R370) -/

/-- A core-state section (R370). -/
def pilotSection (i : Nat) (p : Pilot) : Bytes :=
  leBytes 1 i ++ leBytes 1 p.state ++ zeros 2 ++ leBytes 4 p.cause ++ leBytes 8 p.pc ++ leBytes 8 p.tval ++
    p.gpr.flatMap (fun g => leBytes 8 g)

/-- A firmware crash dump (Table 16-9): five core states and the kernel trace, whose events the
spec does not describe and which is therefore free. -/
def State.crashDump (s : State) (hm : Pilot) : Bytes :=
  let cores := (List.range 4).map (fun i => pilotSection i (s.hm.pilots.getD i Pilot.init)) ++ [pilotSection 4 hm]
  let ktick := leBytes 8 (Config.freeNat s.free)
  let secs := cores.map (fun c => c ++ ktick)
  let ktrace := fitTo 16384 (Config.freeBytes s.free)
  let dir := (List.range 5).flatMap (fun i =>
    leBytes 2 1 ++ leBytes 2 i ++ leBytes 4 0 ++ leBytes 8 (256 + 288 * i) ++ leBytes 8 288 ++ zeros 8) ++
    leBytes 2 2 ++ leBytes 2 0 ++ leBytes 4 0 ++ leBytes 8 (256 + 1440) ++ leBytes 8 16384 ++ zeros 8
  let hdr := leBytes 4 0x504D4455 ++ leBytes 2 1 ++ leBytes 1 1 ++ leBytes 1 0 ++ leBytes 8 (256 + 1440 + 16384) ++
    leBytes 8 s.clk.tick ++ leBytes 4 s.now32 ++ leBytes 2 0 ++ leBytes 2 6 ++ leBytes 4 (s.rd (mgtA 8)).toNat ++
    leBytes 2 s.pkgNum ++ zeros 26
  hdr ++ dir ++ secs.flatten ++ ktrace

/-- Writes the crash dump into the store and logs the crash (R367, R368). -/
def State.crashed (s : State) (hm : Pilot) (cause pc : Nat) : State :=
  let d := s.crashDump hm
  let s : State := { s with free := s.free + 1, hm := { s.hm with crash := d } }
  let s := (s.put (mgtA 0x30) 31 31 1).event (mgtA 0) 3 (mgtA 0x38)
  s.hmLog 0x0D none 0xFFFF 0xFF (leBytes 4 cause ++ leBytes 4 0 ++ leBytes 8 pc)

/-- PILOT_CORE_TRAP: the core halts and the kernel stops kicking (R367). -/
def execPilotCoreTrap (core cause pc tval : Nat) (gpr : List Nat) (s : State) : Host.Outcome State Fault Refusal :=
  guardI (decide (core < 4)) (
    if !s.isReady then s
    else
      let p : Pilot := ⟨1, cause, pc, tval, (gpr ++ List.replicate 32 0).take 32⟩
      let s : State := { s with hm := { s.hm with pilots := setAt s.hm.pilots core p } }
      s.crashed Pilot.init cause pc)

/-- HARBOURMASTER_TRAP: a crash dump, and the core restarts (R367); requests fetched meanwhile
start when it returns. -/
def execHarbourmasterTrap (cause pc tval : Nat) (gpr : List Nat) (s : State) : Host.Outcome State Fault Refusal :=
  .next (if !s.isReady && s.hm.phase ≠ .recovery then s
    else s.crashed ⟨1, cause, pc, tval, (gpr ++ List.replicate 32 0).take 32⟩ cause pc)

end Sys2Proof.Machine
end

