-- ==== Sys2Proof/Machine/Ethernet.lean ====
section
/-!
DEFINITION. Ethernet transmission at a given time (R253, R254) and the port states (R424, R425).
-/

namespace Sys2Proof.Machine

open Sys2Proof

/-- ETH_LAUNCH_CFG.TIMED of a queue; queue 7 is always timed (Table 10-7). -/
def State.queueTimed (s : State) (p q : Nat) : Bool := q = 7 || (s.fld (ethA p 0x200) 7 0).testBit q
/-- ETH_LAUNCH_CFG.LATE_DROP of a queue. -/
def State.lateDrop (s : State) (p q : Nat) : Bool := (s.fld (ethA p 0x200) 15 8).testBit q

/-- Completes a host frame's descriptor. -/
def State.ethComplete (s : State) (src : TxSrc) (st : Status) : State :=
  match src with
  | .host r num => s.complete r num st
  | _ => s

/-- A frame as the MAC sends it: padded to 60 bytes, with its check sequence (R273). -/
def macFrame (b : Bytes) : Bytes :=
  let p := b ++ zeros (60 - b.length)
  p ++ leBytes 4 (crcOf crc32Poly p)

/-- A late frame: sent at once or dropped, and counted (R253); while nothing may leave it stays queued (R187, R356). `rest` is the queue without it. -/
def State.ethLateFrame (s : State) (p : Nat) (f : EthTx) : State :=
  if s.lateDrop p f.queue then
    (s.event (ethA p 0x204) 1 (ethA p 0x20C)).ethComplete f.src .launchLate
  else
    if s.mayTransmit then
      let s := (s.event (ethA p 0x204) 0 (ethA p 0x208)).emit (.eth p f.launch (macFrame f.bytes))
      s.setEp p { s.ep p with q := (s.ep p).q ++ [{ f with sent := true }] }
    else s.setEp p { s.ep p with q := (s.ep p).q ++ [f] }

/-- Puts a frame into a transmit queue; a late or far frame of a timed queue is refused, dropped
or sent at once (R253). -/
def State.ethEnqueue (s : State) (p q field : Nat) (src : TxSrc) (b : Bytes) : State :=
  if s.queueTimed p q then
    let d := dist32 field s.now32
    let f : EthTx := ⟨q, some (s.extend field), false, src, b⟩
    if 1000000000 < d then
      (s.event (ethA p 0x204) 2 (ethA p 0x210)).ethComplete src .launchOutOfRange
    else if d < 0 then s.ethLateFrame p f
    else s.setEp p { s.ep p with q := (s.ep p).q ++ [f] }
  else s.setEp p { s.ep p with q := (s.ep p).q ++ [⟨q, none, false, src, b⟩] }

/-- ETH_TX: a host frame enters its queue (R253, Table 14-4). -/
def execEthTx (r : Nat) (frame : Option Bytes) (s : State) : Host.Outcome State Fault Refusal :=
  guardI (decide (r < 8192)) (s.withDesc r 0x30 (fun s d =>
    match frame with
    | none => s.complete r d.num .hostMemoryFault
    | some b =>
      s.ethEnqueue (le d.bytes 8 1) (le d.bytes 9 1) (le d.bytes 24 4) (.host r d.num)
        (b.take (le d.bytes 12 4))))

/-- The head of queue `q` of a port: its first frame that has not left. -/
def Eth.head (e : Eth) (q : Nat) : Option EthTx :=
  (e.q.filter (fun f => f.queue == q && !f.sent)).head?

/-- The earliest launch time among the heads of a port's queues. -/
def Eth.nextLaunch (e : Eth) : Option Nat :=
  bestBy (fun a b => decide (a < b)) ((List.range 8).filterMap (fun q => (e.head q).bind (·.launch)))

/-- Takes the first unsent frame of queue `q` out of a list of frames. -/
def takeHead (q : Nat) : List EthTx → List EthTx
  | [] => []
  | f :: l => if f.queue = q && !f.sent then l else f :: takeHead q l

/-- Sends the head frames of queue `q` that are due at `l`, and deals with the late ones that then
reach the head (R253, R254). -/
def State.launchQueue (l p q : Nat) : Nat → State → State
  | 0, s => s
  | n + 1, s =>
    match (s.ep p).head q with
    | none => s
    | some f =>
      match f.launch with
      | none => s
      | some x =>
        let s' := s.setEp p { s.ep p with q := takeHead q (s.ep p).q }
        if x = l then
          let s' := s'.emit (.eth p f.launch (macFrame f.bytes))
          State.launchQueue l p q n (s'.setEp p { s'.ep p with q := (s'.ep p).q ++ [{ f with sent := true }] })
        else if x < l then State.launchQueue l p q n (s'.ethLateFrame p f)
        else s

/-- TIMED_FRAME_LAUNCH: working time reaches the earliest launch time of a port's queues; the
frames due leave in order of queue number from 7 downward, then of enqueue (R253, R254). -/
def execTimedFrameLaunch (p : Nat) (s : State) : Host.Outcome State Fault Refusal :=
  guardI (decide (p < 4)) (
    match (s.ep p).nextLaunch with
    | none => s
    | some l => if !s.mayTransmit then s else s.atT l (fun s =>
        [7, 6, 5, 4, 3, 2, 1, 0].foldl (fun s q => s.launchQueue l p q (s.ep p).q.length) s))

/-- The hold window in ns at the port's rate, for a frame of 1,522 bytes (R254). -/
def State.holdWindow (s : State) (p : Nat) : Nat := if s.fld (ethA p 0) 1 0 = 0 then 1284 else 544

/-- Whether an untimed frame can have left now: its transmission did not begin in the hold window
of a pending launch, the next edge's command frames among them (R254, R273). -/
def State.mayLeave (s : State) (p : Nat) (f : EthTx) : Bool :=
  let start := s.clk.t - s.ethTime p f.bytes / 100
  let staged := (List.range 64).any (fun a => (s.ax a).staged.isSome &&
    s.fld (ctlA a 0x18) 31 30 == 2 && s.fld (ctlA a 0x18) 29 27 == p)
  (!staged || decide (start + s.holdWindow p < s.clk.nextEdge)) && (s.ep p).q.all (fun g =>
    match g.launch with
    | none => true
    | some l => g.sent || start + s.holdWindow p < l || decide (l ≤ start))

/-- ETH_TX_DONE: the oldest frame of queue `q` on the wire has left the MAC, which completes its
descriptor (R253, Table 14-4). The tally counts the padded frame without its check sequence, which no
rule states otherwise. -/
def execEthTxDone (p q : Nat) (s : State) : Host.Outcome State Fault Refusal :=
  guardI (decide (p < 4) && decide (q < 8)) (
    match findAt (fun (f : EthTx) => f.queue == q && (f.sent || f.launch.isNone)) (s.ep p).q 0 with
    | none => s
    | some (i, f) =>
      if s.mayTransmit && (f.sent || s.mayLeave p f) then
        let s := s.setEp p { s.ep p with q := (s.ep p).q.eraseIdx i }
        let s := if f.sent then s else s.emit (.eth p none (macFrame f.bytes))
        (s.tally 7 0x30 p (max 60 f.bytes.length)).ethComplete f.src .success
      else s)

/-- ETH_PORT_LINK_DOWN: the link leaves the up state (R425). -/
def execEthPortLinkDown (p : Nat) (s : State) : Host.Outcome State Fault Refusal :=
  guardI (decide (p < 4)) (
    if s.flag (ethA p 4) 0 then (s.put (ethA p 4) 0 0 0).event (ethA p 4) 1 (ethA p 8) else s)

/-- ETH_PORT_LINK_UP: a port in service gains block lock (R425). -/
def execEthPortLinkUp (p : Nat) (s : State) : Host.Outcome State Fault Refusal :=
  guardI (decide (p < 4)) (
    if s.flag (ethA p 0) 31 && !s.bootFailed 12 p then (s.put (ethA p 4) 0 0 1).markClear 12 p else s)

end Sys2Proof.Machine
end

