-- ==== Sys2Proof/Machine/Control.lean ====
section
/-!
DEFINITION. The control engine (chapter 11): segments, the profile generator, the loops, the
encoding of commands, axis faults, the trace, and the comparison with the checker (R310, R311).
-/

namespace Sys2Proof.Machine

open Sys2Proof

/-! ### Limits per tick (R257) -/

/-- Ts: PERIOD_US times the FP32 value nearest to 10^-6, rounded once. -/
def State.ts (s : State) : F32 := fmul (fofNat (s.fld (timA 0x100) 13 0)) 0x358637BD#32

/-- A per-second quantity per tick. -/
def State.per1 (s : State) (x : F32) : F32 := fmul x s.ts
/-- A per-second-squared quantity per tick. -/
def State.per2 (s : State) (x : F32) : F32 := fmul (s.per1 x) s.ts
/-- A per-second-cubed quantity per tick. -/
def State.per3 (s : State) (x : F32) : F32 := fmul (s.per2 x) s.ts

/-- An FP32 register of axis `a`. -/
def State.fr (s : State) (a o : Nat) : F32 := s.rd (ctlA a o)

/-- Profile limits per tick: velocity, acceleration, jerk. -/
structure Lim where
  v : F32
  a : F32
  j : F32
  deriving DecidableEq, Repr

/-- The axis limits, as the commit that set them converted them (R257). -/
def State.axisLim (s : State) (a : Nat) : Lim := ⟨(s.ax a).vt, (s.ax a).at_, (s.ax a).jt⟩

/-- The conversion of a limit register of an axis that a commit sets (R257). -/
def State.limitSet (s : State) (addr : Nat) : State :=
  let a := (addr - 0x400000) / 0x800
  if addr < 0x400000 || 0x420000 ≤ addr then s
  else if addr = ctlA a 0x40 then s.setAx a { s.ax a with vt := s.per1 (s.fr a 0x40) }
  else if addr = ctlA a 0x44 then s.setAx a { s.ax a with at_ := s.per2 (s.fr a 0x44) }
  else if addr = ctlA a 0x48 then s.setAx a { s.ax a with jt := s.per3 (s.fr a 0x48) }
  else if addr = ctlA a 0x58 then s.setAx a { s.ax a with vw := s.per1 (s.fr a 0x58) }
  else s

/-- A segment's limit: its own where nonzero, never above the axis limit. -/
def ownLim (own conv axis : F32) : F32 :=
  if feq own f0 then axis else if flt axis conv then axis else conv

/-- The limits Vs, As and Js of a segment. -/
def State.segLim (s : State) (a : Nat) (g : Seg) : Lim :=
  let x := s.axisLim a
  ⟨ownLim g.vlim (s.per1 g.vlim) x.v, ownLim g.alim (s.per2 g.alim) x.a, ownLim g.jlim (s.per3 g.jlim) x.j⟩

/-! ### Segments (R261 to R266) -/

/-- The outcome of a segment on its ring (R266): a descriptor completes; a job's segment posts an
event on refusal, on SUPERSEDED, and on completion when NOTIFY is set. A job without a descriptor
here (opcode 0) posts none. -/
def State.segEnd (s : State) (a : Nat) (g : Seg) (st : Status) : State :=
  match g.src with
  | .desc num => s.complete g.ring num st
  | .job _ tag op =>
    if op = 0 || st = .segCut || (st = .success && !g.notify) then s
    else s.postEvent g.ring tag op st (a + g.tag.toNat * 2 ^ 32)

/-- The CTL_STAT bit and counter of an outcome other than completion (Table 11-8). -/
def State.segCount (s : State) (a : Nat) (st : Status) : State :=
  if st = .success then s
  else if st = .segLate then s.event (ctlA a 0x100) 8 (ctlA a 0x110)
  else if st = .superseded then s.event (ctlA a 0x100) 7 (ctlA a 0x114)
  else if st = .segCut then s.count (ctlA a 0x128)
  else s.event (ctlA a 0x100) 6 (ctlA a 0x118)

/-- A segment's outcome, counted. -/
def State.segOut (s : State) (a : Nat) (g : Seg) (st : Status) : State := (s.segCount a st).segEnd a g st

/-- Ends the current and every queued segment with SEG_CUT (R266). -/
def State.cutAll (s : State) (a : Nat) : State :=
  let x := s.ax a
  let gs := (match x.cur with | none => [] | some c => [c.seg]) ++ x.q
  gs.foldl (fun s g => s.segOut a g .segCut) (s.setAx a { x with q := [], cur := none })

/-- CTL_OWNER: sets the owner's level and ring. -/
def State.setOwner (s : State) (a level ring : Nat) : State :=
  s.wr (ctlA a 0x104) (BitVec.ofNat 32 (2 ^ 31 + level * 2 ^ 28 + ring % 2 ^ 13))
/-- Clears the owner. -/
def State.noOwner (s : State) (a : Nat) : State := s.wr (ctlA a 0x104) 0
/-- The owner's level and ring, while the axis has one. -/
def State.owner (s : State) (a : Nat) : Option (Nat × Nat) :=
  if s.flag (ctlA a 0x104) 31 then some (s.fld (ctlA a 0x104) 29 28, s.fld (ctlA a 0x104) 12 0) else none

/-- The master level of a ring's descriptor (R261). -/
def State.level (s : State) (r : Nat) : Nat := if s.installer r then 2 else 0

/-- A segment record (Table 11-2) with its level, ring, source, start tick and arrival. -/
def segOf (b : Bytes) (level ring start arr : Nat) (src : SegSrc) : Seg :=
  { start := start, kind := le b 5 1, notify := (le b 6 2).testBit 1, target := BitVec.ofNat 32 (le b 8 4)
    endv := BitVec.ofNat 32 (le b 12 4), vlim := BitVec.ofNat 32 (le b 16 4)
    alim := BitVec.ofNat 32 (le b 20 4), jlim := BitVec.ofNat 32 (le b 24 4)
    tag := BitVec.ofNat 32 (le b 28 4), level := level, ring := ring, src := src, arr := arr }

/-- The first row of Table 11-3. -/
def segBad (b : Bytes) (g : Seg) : Bool :=
  let lims := [g.vlim, g.alim, g.jlim] ++ (if g.kind = 1 then [g.endv] else [])
  let vals := lims ++ (if g.kind = 1 || g.kind = 2 then [g.target] else [])
  decide (3 < le b 6 2) || decide (63 < le b 4 1) || decide (g.kind < 1) || decide (3 < g.kind) ||
    (decide (g.kind = 3) && decide (g.endv ≠ 0)) || vals.any fbad || lims.any (fun x => flt x f0)

/-- Whether a queued segment is removed by an arrival of its own ring (R263). -/
def segReplaced (ring start : Nat) (g : Seg) : Bool := g.ring == ring && decide (start ≤ g.start)

/-- A segment arrives (R262, R263). `key` is the SEQ of the SUBMIT record of its job or descriptor, `ord` its ordinal
among its job's segments: they tell a late segment's OUTCOME (R189). -/
def State.segArrive (s : State) (b : Bytes) (level ring key ord : Nat) (src : SegSrc) : State :=
  let c := s.windowOf s.clk.t
  let a := le b 4 1
  let now := (le b 6 2).testBit 0
  let d := dist32 (le b 0 4) c
  let start := if now then c else (c + d).toNat
  let g := segOf b level ring start s.clk.ref src
  let drop : Status → State := fun st => s.segOut a g st
  if segBad b g then (if a < 64 then drop .segInvalid else s.segEnd a g .segInvalid)
  else if s.axState a = 0 then drop .axisDisabled
  else if s.axState a = 4 || s.axState a = 5 then drop .axisFaulted
  else if (match s.owner a with | none => false | some o => decide (level < o.1)) then drop .axisOwned
  else if g.kind = 1 && (flt g.target (s.fr a 0x4C) || flt (s.fr a 0x50) g.target) then drop .segOutOfRange
  else if (!now && d < 0) || (s.inReplay && s.logged 3 key a ord) then
    (s.outcome 3 key a ord).segOut a g .segLate
  else
    let x := s.ax a
    let gone := x.q.filter (segReplaced ring start)
    let q := x.q.filter (fun e => !segReplaced ring start e)
    let seen := if (match s.owner a with | none => false | some o => o.2 = ring && o.1 = 1) then some s.clk.ref else x.segRef
    let s := s.setAx a { x with q := q, segRef := seen }
    let s := s.countN (ctlA a 0x11C) gone.length
    let s := gone.foldl (fun s e => match e.src with
      | .desc num => s.complete e.ring num .superseded
      | .job _ _ _ => s) s
    if 64 ≤ q.length then s.segOut a g .segQueueFull
    else s.setAx a { s.ax a with q := insertBy (fun u v => decide (u.start ≤ v.start)) g q }

/-- SEGMENT: one segment by descriptor, its level that of the ring's role (R261, Table 14-4). -/
def execSegment (r : Nat) (s : State) : Host.Outcome State Fault Refusal :=
  guardI (decide (r < 8192)) (s.withDesc r 0x21 (fun s d =>
    (s.logDesc r d 0 (s.level r) [] []).segArrive (slice d.bytes 16 32) (s.level r) r s.slog.seq 0 (.desc d.num)))

/-! ### Axis commands (R259, R260) -/

/-- Runs `f` on a started AXIS_CMD descriptor that carries command `cmd`. -/
def State.withCmd (s : State) (r cmd : Nat) (f : State → Nat → Nat → State) : State :=
  match s.startable r 0x20 with
  | none => s
  | some d =>
    if le d.bytes 9 1 = cmd then f ((s.begin r d.num).logDesc r d 0 0 [] []) (le d.bytes 8 1) d.num else s

/-- The status of a command in a state that it does not name (R260). -/
def State.wrongState (s : State) (a : Nat) : Status := if s.axState a = 0 then .axisDisabled else .axisFaulted

/-- ENABLE of axis `a` (R259). -/
def State.enableCmd (s : State) (r a num : Nat) : State :=
  let x := s.ax a
  if s.axState a ≠ 0 then s.complete r num (s.wrongState a)
  else if !x.enWait.isEmpty then s.setAx a { x with enWait := x.enWait ++ [(r, num)] }
  else if !s.locked then s.complete r num .tickUnlocked
  else if s.fld (ctlA a 4) 31 30 = 0 || s.fld (ctlA a 0x18) 31 30 = 0 || !flt f0 (s.fr a 0x40) ||
      !flt f0 (s.fr a 0x44) || !flt f0 (s.fr a 0x48) then s.complete r num .ctlCfgInvalid
  else s.setAx a { x with enWait := [(r, num)], enWins := 0, fb := [] }

/-- ENABLE (R259). The wait for valid feedback ends in a computation. -/
def execEnable (r : Nat) (s : State) : Host.Outcome State Fault Refusal :=
  guardI (decide (r < 8192)) (s.withCmd r 1 (fun s a num => s.enableCmd r a num))

/-- Ends an ownership that an installer does not hold: planner, operator or safety block (R264, R265). -/
def State.endOwner (s : State) (a : Nat) : State :=
  match s.owner a with
  | some (2, _) => s
  | _ => s.noOwner a

/-- The axis becomes DISABLED: its segments are cut, only an installer that has not released it still owns it, and
every waiting DISABLE completes (R260, R264, R265). -/
def State.disableNow (s : State) (a : Nat) : State :=
  let s := (s.cutAll a).endOwner a
  let x := s.ax a
  let s := s.setAx a { x with disWait := [], reinit := false, safeReq := none, safeOwned := false,
                              staged := none, segRef := none, fb := [], disagree := [] }
  x.disWait.foldl (fun s w => s.complete w.1 w.2 .success) (s.setAxState a 0)

/-- DISABLE of axis `a` (R259, R260). -/
def State.disableCmd (s : State) (r a num : Nat) : State :=
  let x := s.ax a
  let st := s.axState a
  if st = 0 then
    if x.enWait.isEmpty then s.complete r num .axisDisabled
    else
      let s := x.enWait.foldl (fun s w => s.complete w.1 w.2 .axisDisabled) (s.setAx a { x with enWait := [], enWins := 0 })
      s.complete r num .success
  else
    let s := s.setAx a { x with disWait := x.disWait ++ [(r, num)] }
    if st = 4 || st = 5 then s.disableNow a
    else if st = 1 then s
    else (s.cutAll a).setAxState a 3

/-- DISABLE (R260). -/
def execDisable (r : Nat) (s : State) : Host.Outcome State Fault Refusal :=
  guardI (decide (r < 8192)) (s.withCmd r 2 (fun s a num => s.disableCmd r a num))

/-- RELEASE of axis `a`: ends installer ownership (R260, R265). -/
def State.releaseCmd (s : State) (r a num : Nat) : State :=
  if s.axState a = 0 then s.complete r num .axisDisabled
  else (match s.owner a with
    | some (2, _) => s.noOwner a
    | _ => s).complete r num .success

/-- RELEASE (R260). -/
def execRelease (r : Nat) (s : State) : Host.Outcome State Fault Refusal :=
  guardI (decide (r < 8192)) (s.withCmd r 3 (fun s a num => s.releaseCmd r a num))

/-- CLEAR_FAULT of axis `a`: it re-initialises at its next window with feedback (R260). -/
def State.clearCmd (s : State) (r a num : Nat) : State :=
  if s.axState a ≠ 5 then s.complete r num (s.wrongState a)
  else (s.setAx a { s.ax a with reinit := true }).complete r num .success

/-- CLEAR_FAULT (R260). -/
def execClearFault (r : Nat) (s : State) : Host.Outcome State Fault Refusal :=
  guardI (decide (r < 8192)) (s.withCmd r 4 (fun s a num => s.clearCmd r a num))

/-- SAFE_STOP_RESET of axis `a`: refused while the safety block asserts its stop (R260). -/
def State.resetCmd (s : State) (r a num : Nat) : State :=
  if s.axState a ≠ 4 then s.complete r num (s.wrongState a)
  else if s.stopAsserted a then s.complete r num .axisOwned
  else (s.setAx a { s.ax a with reinit := true }).complete r num .success

/-- SAFE_STOP_RESET (R260). -/
def execSafeStopReset (r : Nat) (s : State) : Host.Outcome State Fault Refusal :=
  guardI (decide (r < 8192)) (s.withCmd r 5 (fun s a num => s.resetCmd r a num))

/-- The axis command `cmd` (Table 14-4). -/
def State.axisCmd (s : State) (r cmd a num : Nat) : State :=
  match cmd with
  | 1 => s.enableCmd r a num
  | 2 => s.disableCmd r a num
  | 3 => s.releaseCmd r a num
  | 4 => s.clearCmd r a num
  | 5 => s.resetCmd r a num
  | _ => s

/-! ### The compensation tables (R272) -/

/-- A table of FP32 values from its bytes. -/
def tableOf (b : Bytes) : Nat → Nat → Tbl F32
  | _, 0 => []
  | i, n + 1 =>
    let v : F32 := BitVec.ofNat 32 (le b 0 4)
    if v = f0 then tableOf (b.drop 4) (i + 1) n else (i, v) :: tableOf (b.drop 4) (i + 1) n

/-- Table `k` of axis `a` is loaded; it takes effect at the next computation. -/
def State.loadTable (s : State) (a k : Nat) (b : Bytes) : State :=
  let x := s.ax a
  s.setAx a { x with tblLoad := x.tblLoad.filter (fun e => e.1 != k) ++ [(k, tableOf b 0 4096)] }

/-- AXIS_TABLE: loads a friction or cogging table (R272). -/
def execAxisTable (r : Nat) (tab : Option Bytes) (s : State) : Host.Outcome State Fault Refusal :=
  guardI (decide (r < 8192)) (s.withDesc r 0x22 (fun s d =>
    match tab with
    | none => s.complete r d.num .hostMemoryFault
    | some b => ((s.logDesc r d 0 0 b []).loadTable (le d.bytes 8 1) (le d.bytes 9 1) b).complete r d.num .success))

/-- Loaded tables come into use at a computation. -/
def Axis.takeTables (x : Axis) : Axis :=
  let get := fun k d => ((x.tblLoad.find? (fun e => e.1 == k)).map (·.2)).getD d
  { x with fric := get 0 x.fric, cog := get 1 x.cog, tblLoad := [] }

/-- table(T, pf) of R272. -/
def State.tableTerm (s : State) (a : Nat) (t : Tbl F32) (pf : F32) : F32 :=
  let x := fmul (fsub pf (s.fr a 0xAC)) (s.fr a 0xB0)
  let fl : F32 → Int := fun v => ((fv v).floor).getD 0
  if s.flag (ctlA a 0) 3 then
    if fbad x then f0
    else
      let x := fsub x (fmul 0x45800000#32 (fofInt (fl (fdiv x 0x45800000#32))))
      let i := (min (fl x) 4095).toNat
      let f := fsub x (fofInt i)
      fadd (tget f0 t i) (fmul f (fsub (tget f0 t ((i + 1) % 4096)) (tget f0 t i)))
  else
    if fisNan x then f0
    else
      let x := fclamp x f0 0x457FF000#32
      let i := (fl x).toNat
      let f := fsub x (fofInt i)
      fadd (tget f0 t i) (fmul f (fsub (tget f0 t (min (i + 1) 4095)) (tget f0 t i)))

/-! ### Taking over, profile and completion (R264, R267, R268) -/

/-- Whether segment `g` stands before `h` among those taken: higher level, then lower ring (R264). -/
def segBeats (g h : Seg) : Bool := decide (h.level < g.level) || (g.level == h.level && decide (g.ring < h.ring))

/-- Stage 4 counts from a planner axis's becoming MOVING, or from a new owner's latest segment, one that arrived at one
of `arr` (Table 13-2). `was` and `own`: state and owner before `w` took over. -/
def State.segWatch (s : State) (a : Nat) (w : Seg) (was : Nat) (own : Option (Nat × Nat)) (arr : List Nat) : State :=
  if w.kind = 3 || w.level ≠ 1 then s
  else if was ≠ 2 then s.setAx a { s.ax a with segRef := some s.clk.ref }
  else if own = some (w.level, w.ring) then s
  else s.setAx a { s.ax a with segRef := some (arr.foldl max 0) }

/-- Segment takeover at the computation of tick `n` (R264). -/
def State.takeover (s : State) (a n : Nat) : State :=
  let x := s.ax a
  let own := s.owner a
  let due := fun (g : Seg) => decide (s.clk.prevComp < g.start) && decide (g.start ≤ n)
  let taken := x.q.filter due
  let last := fun (g : Seg) => taken.all (fun h => h.ring != g.ring || decide (h.start ≤ g.start))
  match bestBy segBeats (taken.filter last) with
  | none => s
  | some w =>
    let rest := x.q.filter (fun g => !due g)
    let drop := fun (g : Seg) => decide (g.level < w.level) || (g.level == w.level && g.ring != w.ring)
    let cur : CurSeg := ⟨w, fsgn (fsub w.target x.p), 0⟩
    let s := s.setAx a { x with q := rest.filter (fun g => !drop g), cur := some cur }
    -- the earlier of one ring end as ended by the next; every other loser is superseded, but the current segment
    -- of another ring is cut by a STOP (R266)
    let s := (taken.filter (fun g => g != w)).foldl (fun s g =>
      s.segOut a g (if last g then .superseded else .success)) s
    let s := match x.cur with
      | none => s
      | some c => s.segOut a c.seg (if c.seg.ring = w.ring then .success else if w.kind = 3 then .segCut else .superseded)
    let s := (rest.filter drop).foldl (fun s g => s.segOut a g .superseded) s
    let s := (s.setOwner a w.level w.ring).wr (ctlA a 0x130) w.tag
    let was := s.axState a
    let s := s.setAxState a (if w.kind = 3 then 3 else 2)
    s.segWatch a w was own (((taken ++ rest).filter (fun g => g.ring == w.ring)).map (fun g => g.arr))

/-- The profile step (R267): `stop` in STOPPING or for a STOP segment. -/
def profileStep (stop trap : Bool) (kind : Nat) (pt ve tv : F32) (l : Lim) (x : Axis) : Axis :=
  let vg :=
    if stop then f0
    else if kind = 2 then fclamp tv (fneg l.v) l.v
    else
      let d := fsub pt x.p
      let vb := fsqrt (fadd (fmul ve ve) (fmul (fadd l.a l.a) (fabs d)))
      fmul (fsgn d) (fminL (fminL l.v vb) (fadd (fabs d) ve))
  let acc :=
    if trap then fclamp (fsub vg x.v) (fneg l.a) l.a
    else
      let ag := fsub (fsub vg x.v) (fdiv (fmul x.acc (fabs x.acc)) (fadd l.j l.j))
      let ag := fclamp ag (fneg l.a) l.a
      fadd x.acc (fclamp (fsub ag x.acc) (fneg l.j) l.j)
  let v := fadd x.v acc
  { x with acc := acc, v := v, p := fadd x.p v }

/-- Enters HOLD, or STOPPING where the reference still moves (R268); planner and operator
ownership ends in HOLD without a queued segment of the owner's ring (R265). -/
def State.restOrStop (s : State) (a : Nat) : State :=
  let x := s.ax a
  if feq x.v f0 then
    let s := s.setAxState a 1
    match s.owner a with
    | some (l, r) => if l < 2 && !x.q.any (fun g => g.ring == r) then s.noOwner a else s
    | none => s
  else s.setAxState a 3

/-- The profile and the completion of the current segment, in MOVING, STOPPING and FAULT
(R267, R268, R274). -/
def State.advance (s : State) (a n : Nat) : State :=
  let x := s.ax a
  let st := s.axState a
  let lim := match x.cur with | none => s.axisLim a | some c => s.segLim a c.seg
  let kind := match x.cur with | none => 3 | some c => c.seg.kind
  let pt := match x.cur with | none => f0 | some c => c.seg.target
  let ve := match x.cur with | none => f0 | some c => s.per1 c.seg.endv
  let stop := st ≠ 2 || kind = 3
  let x := profileStep stop (s.flag (ctlA a 0) 2) kind pt ve (s.per1 pt) lim x
  let done := match x.cur with | none => 0 | some c => c.done + 1
  let x := { x with cur := x.cur.map (fun c => { c with done := done }) }
  let vw := x.vw
  let s0 := match x.cur with | none => f0 | some c => c.s0
  let fin :=
    if stop then fle (fabs x.v) vw && fle (fabs x.acc) lim.j
    else if kind = 1 then fle (fabs (fsub pt x.p)) (s.fr a 0x54) && fle (fabs (fsub x.v (fmul s0 ve))) vw
    else
      let dur : Nat := match x.cur with | none => 0 | some c => c.seg.endv.toNat
      decide (dur ≠ 0) && decide (dur ≤ done)
  if !fin then s.setAx a x
  else
    let x := if stop then { x with v := f0, acc := f0 }
      else if kind = 1 && feq ve f0 then { x with p := pt, v := f0, acc := f0 } else x
    let cur := x.cur
    let s := s.setAx a { x with cur := none }
    let s := match cur with | none => s | some c => s.segOut a c.seg .success
    if st = 5 then s
    else if (s.ax a).q.any (fun g => g.start == n + 1) && (s.ax a).disWait.isEmpty then s.setAxState a 2
    else s.restOrStop a

/-! ### Loops, encoding and faults (R271, R273, R274) -/

/-- What the loops compute for one axis. -/
structure LoopOut where
  ep : F32
  ev : F32
  pv : F32
  dv : F32
  ka : F32
  kv : F32
  fric : F32
  cog : F32
  uc : F32
  y : F32
  u : F32
  outer : Bool
  deriving DecidableEq, Repr

/-- R271 for axis `a` at tick `n` on the references pr, vr and ar; `init`: no rate limit (R259). -/
def State.loops (s : State) (a n : Nat) (pr vr ar : F32) (init : Bool) (x : Axis) : LoopOut × Axis :=
  let outer := n % (s.fld (ctlA a 0) 19 16 + 1) = 0
  let ep := if outer then fsub pr x.pf else x.epPrev
  let kv := fmul (s.fr a 0x90) vr
  let ilim := s.fr a 0x8C
  let ip := if outer then fclamp (fadd x.ip (fmul (s.fr a 0x84) ep)) (fneg ilim) ilim else x.ip
  let vs := if outer then
      fadd (fadd (fadd (fmul (s.fr a 0x80) ep) ip) (fmul (s.fr a 0x88) (fsub ep x.epPrev))) kv
    else x.vs
  let ev := fsub vs x.vf
  let ivl := s.fr a 0xA0
  let iv := fclamp (fadd x.iv (fmul (s.fr a 0x98) ev)) (fneg ivl) ivl
  let pv := fmul (s.fr a 0x94) ev
  let dv := fmul (s.fr a 0x9C) (fsub ev x.evPrev)
  let ka := fmul (s.fr a 0xA4) ar
  let uc := fadd (fadd (fadd pv iv) dv) ka
  let fricOn := s.flag (ctlA a 0) 4 && flt (s.per1 (s.fr a 0xA8)) (fabs vr)
  let fric := if fricOn then fmul (fsgn vr) (s.tableTerm a x.fric x.pf) else f0
  let uc := if fricOn then fadd uc fric else uc
  let cogOn := s.flag (ctlA a 0) 5
  let cog := if cogOn then s.tableTerm a x.cog x.pf else f0
  let uc := if cogOn then fadd uc cog else uc
  let mode := s.fld (ctlA a 0) 1 0
  let y := if mode = 0 then uc else if mode = 1 then fdiv vs s.ts else pr
  let u := fclamp y (s.fr a 0x64) (s.fr a 0x68)
  let rate := s.fr a 0x6C
  let u := if init then u else fclamp u (fsub x.uPrev rate) (fadd x.uPrev rate)
  (⟨ep, ev, pv, dv, ka, kv, fric, cog, uc, y, u, outer⟩,
    { x with ip := ip, vs := vs, epPrev := ep, iv := iv, evPrev := ev, uPrev := u })

/-- The encoded value of `u` and whether it was limited (R273). -/
def State.encodeU (s : State) (a : Nat) (u : F32) : Bytes × Bool :=
  let ty := s.fld (ctlA a 0x18) 23 22
  if ty = 2 then (leBytes 4 u.toNat, false)
  else
    let w := if ty = 0 then 16 else 32
    let lo : Int := -((2 ^ (w - 1) : Nat) : Int)
    let hi : Int := ((2 ^ (w - 1) : Nat) : Int) - 1
    let m := fv (fmul u (s.fr a 0x24))
    let v := fvToIntSat lo hi m
    let exact := match m.toIntScaled 0 with
      | some i => decide (i = v)
      | none => false
    (leBytes (w / 8) (uint w v), !exact)

/-- A limited or saturated output (Table 11-8). -/
def State.clipped (s : State) (a : Nat) : State := s.event (ctlA a 0x100) 5 (ctlA a 0x120)

/-- The command frame of `u` with counter `cnt` (R273). -/
def State.frameOf (s : State) (a : Nat) (u : F32) (cnt : Nat) : Bytes :=
  let tmpl := (List.range 32).flatMap (fun w => leBytes 4 (s.rd (ctlA a (0x400 + 4 * w))).toNat)
  let b := tmpl.take (s.fld (ctlA a 0x18) 19 12)
  let b := splice b (s.fld (ctlA a 0x1C) 7 0) (s.encodeU a u).1
  if s.flag (ctlA a 0x18) 21 then splice b (s.fld (ctlA a 0x1C) 15 8) [BitVec.ofNat 8 cnt] else b

/-- Encodes a command, counting a limited value (R273). -/
def State.encodeCmd (s : State) (a : Nat) (u : F32) : State × Bytes :=
  let s' := if (s.encodeU a u).2 then s.clipped a else s
  (s', s.frameOf a u (s.ax a).cnt)

/-- Launches an encoded command at the present edge (R273). In replay it is built and not sent
(R187). -/
def State.launch (s : State) (a : Nat) (u : F32) (b : Bytes) : State :=
  let x := s.ax a
  let s := s.setAx a { x with cnt := (x.cnt + 1) % 256, lastU := some u, staged := none }
  let s : State := { s with slog := { s.slog with cmds := s.slog.cmds ++ b } }
  let cfg := s.rd (ctlA a 0x18)
  let i := bits cfg 29 27
  if s.inReplay then s
  else if bits cfg 31 30 = 1 then
    s.canEnqueue i
      ⟨canPad { id := s.fld (ctlA a 0x20) 28 0, ide := cfg.toNat.testBit 26, fdf := cfg.toNat.testBit 25
                brs := cfg.toNat.testBit 24, esi := false, rtr := false, dlc := 0, data := b }, .axis a, s.clk.t, 0, 0⟩
  else s.ethEnqueue i 7 s.now32 (.axis a) b

/-- Encodes `u` anew and launches it. -/
def State.launchU (s : State) (a : Nat) (u : F32) : State :=
  let e := s.encodeCmd a u
  e.1.launch a u e.2

/-- The axis enters SAFE_STOP; its segments are cut, and a fault status is recorded (R264, R266). -/
def State.enterSafe (s : State) (a : Nat) (st : Option Status) : State :=
  if s.axState a = 4 then s
  else
    let s := (s.cutAll a).setAxState a 4
    let s := s.setAx a { s.ax a with reinit := false }
    match st with
    | none => s
    | some st => s.put (ctlA a 0x100) 31 24 st.code

/-- An axis fault is a safety fault of the axis (Table 13-4). -/
def State.axisFault (s : State) (a : Nat) (st : Status) : State :=
  let s := if s.flag (ctlA a 0) 8 then s.enterSafe a (some st)
    else ((s.cutAll a).put (ctlA a 0x100) 31 24 st.code).setAxState a 5
  s.safFault st a 0 0

/-! ### Trace (R277) -/

/-- Records the trace memory holds with the present mask; none with an empty mask. -/
def State.trcCap (s : State) (a : Nat) : Nat :=
  let k := ((List.range 32).filter (fun i => s.flag (ctlA a 0x204) i)).length
  if k = 0 then 0 else 65536 / k

/-- CTL_TRC_STAT.RECORDS follows the memory. -/
def State.trcShow (s : State) (a : Nat) : State := s.put (ctlA a 0x20C) 16 0 (s.ax a).trc.length

/-- The trigger between two records (R277). -/
def trcHit (edge : Nat) (level : F32) (prev now : F32 × Nat) : Bool :=
  let up := flt prev.1 level && fle level now.1
  let down := flt level prev.1 && fle now.1 level
  if edge = 0 then up else if edge = 1 then down else if edge = 2 then up || down
  else decide (prev.2 ≠ now.2)

/-- The trigger's node is the checker's u or its difference, known only at the comparison. -/
def State.trcLate (s : State) (a : Nat) : Bool :=
  decide (s.fld (ctlA a 0x200) 29 28 ≠ 3) && (s.fld (ctlA a 0x200) 20 16 == 20 || s.fld (ctlA a 0x200) 20 16 == 21)

/-- The last record is the trigger record: PRE records from before it stay (R277). -/
def State.trcFire (s : State) (a n : Nat) (now : F32 × Nat) : State :=
  let cap := s.trcCap a
  let x := s.ax a
  let pre := min (s.fld (ctlA a 0x200) 15 0) (cap - 1)
  let keep := x.trc.drop (x.trc.length - 1 - pre)
  let s := s.setAx a { x with trc := keep, trcPrev := some now, trcTrig := some (keep.length - 1) }
  let s := ((s.put (ctlA a 0x20C) 30 30 1).wr (ctlA a 0x210) (BitVec.ofNat 32 n)).trcShow a
  if cap ≤ keep.length then s.put (ctlA a 0x20C) 31 31 1 else s

/-- Whether the value `now` of the trigger node fires a triggered trace that still waits (R277). -/
def State.trcHits (s : State) (a : Nat) (now : F32 × Nat) : Bool :=
  decide (s.fld (ctlA a 0x200) 31 30 = 2) && !s.flag (ctlA a 0x20C) 30 && (match (s.ax a).trcPrev with
    | none => false
    | some p => trcHit (s.fld (ctlA a 0x200) 29 28) (s.rd (ctlA a 0x208)) p now)

/-- Writes one trace record of the 32 nodes of Table 11-6 and evaluates the trigger. -/
def State.trace (s : State) (a n : Nat) (nodes : List Word) : State :=
  let mode := s.fld (ctlA a 0x200) 31 30
  let cap := s.trcCap a
  if (mode ≠ 1 && mode ≠ 2) || cap = 0 || s.flag (ctlA a 0x20C) 31 then s
  else
    let x := s.ax a
    let rec_ := (List.range 32).filterMap (fun i => if s.flag (ctlA a 0x204) i then some (nodes.getD i 0) else none)
    let now := (nodes.getD (s.fld (ctlA a 0x200) 20 16) 0, s.axState a)
    let late := s.trcLate a
    let hit := !late && s.trcHits a now
    let s := s.setAx a { x with trc := x.trc ++ [(n, rec_)] }
    if hit then s.trcFire a n now
    else
      let past := cap < (s.ax a).trc.length
      let trig := decide (mode = 2) && s.flag (ctlA a 0x20C) 30
      let s := s.setAx a { s.ax a with
        trc := if past then (s.ax a).trc.drop 1 else (s.ax a).trc, trcPrev := if late then x.trcPrev else some now }
      let s := (if past then s.put (ctlA a 0x20C) 29 29 1 else s).trcShow a
      if trig && decide (cap ≤ (s.ax a).trc.length) then s.put (ctlA a 0x20C) 31 31 1 else s

/-- The axis's trace memory is cleared; recording restarts at the next computation. -/
def State.trcClear (s : State) (a : Nat) : State :=
  (s.setAx a { s.ax a with trc := [], trcPrev := none, trcTrig := none }).wr (ctlA a 0x20C) 0

/-- TRACE_READ: a 32-byte header and the held records, oldest first (R277, Table 14-4). -/
def execTraceRead (r : Nat) (s : State) : Host.Outcome State Fault Refusal :=
  guardI (decide (r < 8192)) (s.withDesc r 0x23 (fun s d =>
    let a := le d.bytes 8 1
    let x := s.ax a
    let first := ((x.trc.head?).map (·.1)).getD 0
    let hdr := leBytes 4 a ++ leBytes 4 (s.rd (ctlA a 0x204)).toNat ++ leBytes 4 x.trc.length ++
      leBytes 4 first ++ leBytes 4 (x.trcTrig.getD 0xFFFFFFFF) ++ zeros 12
    let data := hdr ++ x.trc.flatMap (fun e => e.2.flatMap (fun w => leBytes 4 w.toNat))
    let data := data.take (le d.bytes 12 4)
    let s := s.hostData (le d.bytes 16 8) data
    s.completeR r d.num .success data.length))

/-! ### The computation (R26) -/

/-- The feedback of window `n`: the frame with the latest stamp and how many were superseded (R25). -/
def Axis.window (x : Axis) (n : Nat) : Option FbFrame × Nat :=
  let fs := x.fb.filter (fun f => f.win == n)
  (bestBy (fun u v => decide (v.stamp < u.stamp)) fs.reverse, fs.length - 1)

/-- Takes the window's feedback; `fresh`: there is no previous window, so a velocity taken from the
position has no stated value and is free. -/
def State.takeFb (s : State) (a : Nat) (f : FbFrame) (fresh : Bool) : State :=
  let x := s.ax a
  let vf := if s.flag (ctlA a 4) 25 then f.vel else if fresh then Config.freeWord s.free else fsub f.pos x.pf
  s.bump.setAx a { x with pf := f.pos, vf := vf, fbStamp := f.stamp, staleRun := 0 }

/-- Initialises the profile and loops from the feedback position; the axis enters HOLD (R259). -/
def State.initAxis (s : State) (a : Nat) : State :=
  let x := s.ax a
  (s.setAx a { x with p := x.pf, v := f0, acc := f0, ip := f0, iv := f0, epPrev := f0, evPrev := f0, vs := f0,
                      followRun := 0, cur := none }).setAxState a 1

/-- Records the live values, the trace and the staged command of one computation. `refs`: the profile's outputs are
those of this computation. -/
def State.stage (s : State) (a n sup : Nat) (stale refs : Bool) (pr vr ar : F32) (o : LoopOut) : State :=
  let x := s.ax a
  let e := s.encodeCmd a o.u
  let s := e.1
  let s := s.setAx a { s.ax a with staged := some ⟨o.u, e.2, false, false, false⟩ }
  let s := if !refs then s else (s.wr (ctlA a 0x140) pr).wr (ctlA a 0x144) (fdiv vr s.ts)
  let s := ((s.wr (ctlA a 0x148) x.pf).wr (ctlA a 0x14C) (fdiv x.vf s.ts)).wr (ctlA a 0x150) o.u
  let free := s.free
  let tgt := match x.cur with | none => Config.freeWord free | some c => c.seg.target
  let lvl : Word := match s.owner a with | none => 0xFFFFFFFF#32 | some ow => BitVec.ofNat 32 ow.1
  let enc := BitVec.ofNat 32 (ofLe (s.encodeU a o.u).1)
  let num := fun (k : Nat) => (BitVec.ofNat 32 k : Word)
  let nodes := [pr, vr, ar, tgt, x.pf, x.vf, o.ep, x.ip, x.vs, o.ev, x.iv, o.pv, o.dv, o.ka, o.kv, o.fric, o.cog,
    o.uc, o.y, o.u, Config.freeWord (free + 1), Config.freeWord (free + 2), enc, num (x.fbStamp), num (b2n stale),
    num sup, num (s.axState a), lvl, num x.q.length, s.rd (ctlA a 0x130), num (b2n o.outer), num n]
  ((s.bump.bump).bump).trace a n nodes

/-- The values of loops that are off (SAFE_STOP): the spec states none, so the computed ones are
free; `u` is OUT_STOP (R273). -/
def State.offLoops (s : State) (a n : Nat) : LoopOut :=
  let w := fun k => Config.freeWord (s.free + k)
  ⟨w 0, w 1, w 2, w 3, w 4, w 5, w 6, w 7, w 8, w 9, s.fr a 0x28, decide (n % (s.fld (ctlA a 0) 19 16 + 1) = 0)⟩

/-- Loops, faults and the staged command of an axis whose references are set. -/
def State.closeLoop (s : State) (a n sup : Nat) (stale init : Bool) : State :=
  let st := s.axState a
  let x := s.ax a
  let vr := if st = 1 then f0 else x.v
  let ar := if st = 1 then f0 else x.acc
  if st = 4 then
    ({ s with free := s.free + 10 } : State).stage a n sup stale false x.p x.v x.acc (s.offLoops a n)
  else
    let out := s.loops a n x.p vr ar init x
    let o := out.1
    let lim := s.fr a 0x5C
    let past := flt lim (fabs (fsub x.p x.pf))
    let run := if past then x.followRun + 1 else 0
    let s := s.setAx a { out.2 with followRun := run }
    let s := if !fisNan o.y && !feq o.u o.y then s.clipped a else s
    let outside := flt x.pf (fsub (s.fr a 0x4C) lim) || flt (fadd (s.fr a 0x50) lim) x.pf
    let bad := if st = 5 then none else if outside then some Status.positionLimit
      else if past && s.fld (ctlA a 0x60) 15 0 ≤ run then some Status.followingError else none
    match bad with
    | none => s.stage a n sup stale true x.p vr ar o
    | some f =>
      let s := s.axisFault a f
      s.stage a n sup stale true x.p vr ar (if s.axState a = 4 then { o with u := s.fr a 0x28 } else o)

/-- The computation of an enabled axis for window `n` (R264 to R274). -/
def State.computeAxis (s : State) (a n : Nat) (f : Option FbFrame) (sup : Nat) : State :=
  let s := s.countN (ctlA a 0x10C) sup
  let stale := f.isNone
  let s := match f with
    | some f => s.takeFb a f false
    | none =>
      let s := s.event (ctlA a 0x100) 4 (ctlA a 0x108)
      s.setAx a { s.ax a with staleRun := (s.ax a).staleRun + 1 }
  -- R270: stale feedback; R264, R276, R311: a stop that waits for this computation
  let s := if stale && s.fld (ctlA a 0) 23 20 ≤ (s.ax a).staleRun && s.axState a ≠ 4 then
      (s.enterSafe a (some .feedbackStale)).safFault .feedbackStale a 0 0 else s
  let s := match (s.ax a).safeReq with
    | none => s
    | some st => (s.setAx a { s.ax a with safeReq := none, reinit := false }).enterSafe a st
  if (s.ax a).reinit && !stale then
    let x := s.ax a
    let s := (s.setAx a { x with reinit := false, safeOwned := false }).noOwner a
    (s.initAxis a).closeLoop a n sup stale true
  else if !(s.ax a).disWait.isEmpty && (s.axState a = 1 || s.axState a = 4 || s.axState a = 5) then s.disableNow a
  else
    let st := s.axState a
    let s := if (st = 1 || st = 2 || st = 3) && (s.ax a).disWait.isEmpty then s.takeover a n else s
    let s := if s.axState a = 2 && (s.ax a).cur.isNone then s.restOrStop a else s
    let st := s.axState a
    let s := if st = 2 || st = 3 || st = 5 then s.advance a n else s
    s.closeLoop a n sup stale false

/-- One axis at a computation: an enabled axis computes, and a waiting ENABLE completes or fails
(R259), the latter too where LOCKED has become 0 meanwhile (R16). -/
def State.axisStep (n : Nat) (s : State) (a : Nat) : State :=
  let x := s.ax a
  if s.axState a = 0 && x.enWait.isEmpty then s
  else
    let w := x.window n
    let s := s.setAx a { x.takeTables with fb := x.fb.filter (fun f => decide (n < f.win)) }
    if s.axState a ≠ 0 then s.computeAxis a n w.1 w.2
    else
      let fail := fun (st : Status) => x.enWait.foldl (fun s e => s.complete e.1 e.2 st)
        (s.setAx a { s.ax a with enWait := [], enWins := 0 })
      match w.1 with
      | some f =>
        if !s.locked then fail .tickUnlocked else
        let s := s.countN (ctlA a 0x10C) w.2
        let s := s.setAx a { s.ax a with enWait := [], enWins := 0, q := [], cur := none, safeOwned := s.stopAsserted a }
        let s := (s.takeFb a f true).noOwner a
        let s := (s.initAxis a).closeLoop a n w.2 false true
        x.enWait.foldl (fun s e => s.complete e.1 e.2 .success) s
      | none =>
        let k := x.enWins + 1
        if s.fld (ctlA a 0) 23 20 ≤ k then fail (if s.locked then .feedbackStale else .tickUnlocked)
        else s.setAx a { s.ax a with enWins := k }

/-- CONTROL_COMPUTATION: the cut-off of the window is reached, and the engine computes every
enabled axis (R26). A window whose cut-off a time step passed is never computed (R433). The first
one after a package reset lets the safe-stop outputs energise (R356). -/
def execControlComputation (s : State) : Host.Outcome State Fault Refusal :=
  .next (
    if !s.clk.live || s.clk.win ≠ .collecting then s
    else s.atT s.cutoff (fun s =>
      let n := s.clk.tick
      let cut := s.cutoff
      let s := (List.range 64).foldl (State.axisStep n) s
      let s : State := { s with clk := { s.clk with win := .computed, lastCut := cut, prevComp := n } }
      if s.saf.computed then s
      else ({ s with saf := { s.saf with computed := true } } : State).ssoUpdate))

/-! ### Checker comparison (R310, R311) -/

/-- A disagreement of axis `a` in window `n`: the previous command is held, and a third within 100
ticks stops the axis (R310, R311). Not counted in FAULT. -/
def State.disagreement (s : State) (a n : Nat) : State :=
  let x := s.ax a
  let mark : Bool → State → State := fun stop s =>
    s.setAx a { s.ax a with staged := (s.ax a).staged.map (fun c =>
      { c with compared := true, hold := !stop, stop := stop }) }
  if s.axState a = 0 || s.axState a = 4 || s.axState a = 5 then mark false s
  else
    let s := s.event (safA 0) 0 (safA 0x400)
    let h := (x.disagree ++ [n]).drop (x.disagree.length - 2)
    if h.length = 3 && n - h.headD 0 < 100 then
      let g := if s.flag (safA 8) 0 then ((s.axisGroups a).map (fun g => 2 ^ g)).sum else 0
      let s := s.count (safA 0x404)
      let s := s.setAx a { s.ax a with disagree := [], safeReq := some (some .checkerDisagree) }
      ((mark true s).safFault .checkerDisagree a g 0).stopGroups g
    else
      (mark false (s.setAx a { s.ax a with disagree := h })).safFault .checkerDisagree a 0 0

/-- Patches the trace record of the computation with the checker's u, and evaluates a trigger on it (Table 11-6,
nodes 20, 21). A record without a comparison fires none. -/
def State.tracePatch (s : State) (a n : Nat) (u cu : F32) : State :=
  let x := s.ax a
  let idx := fun i => ((List.range i).filter (fun j => s.flag (ctlA a 0x204) j)).length
  let fix := fun (r : List Word) =>
    let r := if s.flag (ctlA a 0x204) 20 then setAt r (idx 20) cu else r
    if s.flag (ctlA a 0x204) 21 then setAt r (idx 21) (fsub u cu) else r
  let s := s.setAx a { x with trc := x.trc.map (fun e => if e.1 = n then (e.1, fix e.2) else e) }
  let now := (if s.fld (ctlA a 0x200) 20 16 = 20 then cu else fsub u cu, s.axState a)
  if s.trcLate a && ((s.ax a).trc.getLast?.map (fun e => e.1)) == some n then
    if s.trcHits a now then s.trcFire a n now else s.setAx a { s.ax a with trcPrev := some now }
  else s

/-- CHECKER_COMPARISON: the checker's u of axis `a` for the present window (R310). -/
def execCheckerComparison (a : Nat) (u : F32) (s : State) : Host.Outcome State Fault Refusal :=
  guardI (decide (a < 64)) (
    match (s.ax a).staged with
    | none => s
    | some c =>
      if c.compared || s.clk.win ≠ .computed || s.clk.nextEdge < s.clk.t + 5000 then s
      else
        let s := s.tracePatch a s.clk.tick c.u u
        let d := fabs (fsub c.u u)
        if fisNan c.u || fisNan u || fisNan d || flt (s.fr a 0x70) d then s.disagreement a s.clk.tick
        else s.setAx a { s.ax a with staged := some { c with compared := true } })

/-- A comparison of axis `a` misses its deadline (R27): GUARD_MISS and a disagreement. -/
def State.guardMiss (s : State) (a : Nat) : State :=
  match (s.ax a).staged with
  | none => s
  | some c =>
    if c.compared then s
    else ((s.event (timA 0x110) 2 (timA 0x118)).outcome 1 0 a 0).disagreement a s.clk.tick

/-- COMPARISON_DEADLINE: 5 µs before the edge (R27). -/
def execComparisonDeadline (s : State) : Host.Outcome State Fault Refusal :=
  .next (
    if !s.clk.live || s.clk.win ≠ .computed then s
    else s.atT (s.clk.nextEdge - 5000) (fun s => (List.range 64).foldl State.guardMiss s))

/-! ### Launch at an edge (R26, R301, R433) -/

/-- The stop of axis `a` replaces its command at the edge of tick `n` (R301). -/
def State.stopAt (s : State) (a n : Nat) : Bool := s.stopAsserted a && decide ((s.ax a).stopEdge ≤ n)

/-- The launch of axis `a` at the edge of tick `n`: its compared command, the previous one, or a
stop frame; after a time step the previous one or a stop frame (R26, R310, R311, R433). -/
def State.launchAxis (n : Nat) (computed : Bool) (s : State) (a : Nat) : State :=
  let x := s.ax a
  let again : State → State := fun s => match x.lastU with
    | none => s.setAx a { s.ax a with staged := none }
    | some u => s.launchU a u
  match (if computed then x.staged else none) with
  | some c =>
    if s.stopAt a n || c.stop then
      if s.axState a = 4 && c.u = s.fr a 0x28 then s.launch a c.u c.bytes else s.launchU a (s.fr a 0x28)
    else if c.hold then again s
    else s.launch a c.u c.bytes
  | none =>
    if computed || !s.axOn a then s.setAx a { x with staged := none }
    else if s.stopAt a n then s.launchU a (s.fr a 0x28)
    else again s

end Sys2Proof.Machine
end

