-- ==== Sys2Proof/Machine/Arith.lean ====
section
/-!
DEFINITION. What a matrix core computes (chapters 2 and 3): operands, products, chunk sums, the
canonical tree, the vector unit, and the quantiser with its counts.
-/

namespace Sys2Proof.Machine

open Sys2Proof

/-! ### Operands (R36 to R40) -/

/-- Bits of an element as stored. -/
def fmtWidth : NumFmt → Nat
  | .i8 => 8 | .u8 => 8 | .i4 => 4 | .u4 => 4 | .bs4 => 4 | .e4m3 => 8 | .e5m2 => 8
  | .bf16 => 16 | .fp16 => 16 | .fp32 => 32

/-- Integer formats (R39). -/
def fmtIsInt : NumFmt → Bool
  | .i8 => true | .u8 => true | .i4 => true | .u4 => true | _ => false

/-- The operand pairs of Table 02-2. -/
def pairOk (s w : NumFmt) : Bool :=
  match s, w with
  | .i8, .i8 | .i8, .u8 | .u8, .i8 | .u8, .u8 => true
  | .i8, .i4 | .i8, .u4 | .u8, .i4 | .u8, .u4 | .i4, .i4 | .i4, .u4 | .u4, .i4 | .u4, .u4 => true
  | .i8, .bs4 | .u8, .bs4 | .i4, .bs4 | .u4, .bs4 => true
  | .e4m3, .e4m3 | .e4m3, .e5m2 | .e5m2, .e4m3 | .e5m2, .e5m2 => true
  | .bf16, .bf16 => true
  | .fp16, .fp16 => true
  | _, _ => false

/-- Element `i` of a tensor at `a`; two 4-bit elements share a byte, the even one low (R39). -/
def rawElem (mem : Nat → Nat) (f : NumFmt) (a i : Nat) : Nat :=
  match fmtWidth f with
  | 4 => (mem (a + i / 2) >>> (4 * (i % 2))) % 16
  | 8 => mem (a + i)
  | 16 => mem (a + 2 * i) + 256 * mem (a + 2 * i + 1)
  | _ => mem (a + 4 * i) + 256 * mem (a + 4 * i + 1) + 65536 * mem (a + 4 * i + 2) +
      16777216 * mem (a + 4 * i + 3)

/-- The integer an element encodes (R39, R40). -/
def intElem (f : NumFmt) (raw : Nat) : Int :=
  match f with
  | .i8 => sint 8 raw
  | .i4 => sint 4 raw
  | .bs4 => sint 4 raw
  | _ => (raw : Int)

/-- The floating-point format of an element, if it has one. -/
def fmtFp : NumFmt → Option Fmt
  | .e4m3 => some .e4m3 | .e5m2 => some .e5m2 | .bf16 => some .bf16 | .fp16 => some .fp16
  | .fp32 => some .fp32 | _ => none

/-- The value an element encodes, as FP32 or narrower (R38, R39). -/
def elemVal (f : NumFmt) (raw : Nat) : FV :=
  match fmtFp f with
  | some g => fdec g raw
  | none => FV.ofInt (intElem f raw)

/-! ### Sums (R43 to R49) -/

/-- One level of the canonical tree: neighbours combine, an odd last one is carried (R46, R48). -/
def pairUp {α : Type} (f : α → α → α) : List α → List α
  | x :: y :: l => f x y :: pairUp f l
  | l => l

/-- Levels of the tree until one value is left; `n` bounds their number. -/
def treeLevels {α : Type} (f : α → α → α) : Nat → List α → List α
  | 0, l => l
  | n + 1, l => treeLevels f n (pairUp f l)

/-- reduce_chunks (R48), and chunk_sum_fp (R46) big 256 products. -/
def reduceTree {α : Type} (f : α → α → α) (zero : α) (l : List α) : α :=
  (treeLevels f l.length l).headD zero

/-- Nodes of a level of the tree over `n` chunks (R48). -/
def treeWidth (n : Nat) : Nat → Nat
  | 0 => n
  | l + 1 => (treeWidth n l + 1) / 2

/-- Where a partial stands, by level and position, once every level at which it is an odd last one has carried it up
(R48); the first argument bounds the levels. -/
def carryUp (n : Nat) : Nat → Nat × Nat → Nat × Nat
  | 0, x => x
  | k + 1, x =>
    if 1 < treeWidth n x.1 && x.2 % 2 = 0 && x.2 + 1 = treeWidth n x.1 then carryUp n k (x.1 + 1, x.2 / 2) else x

/-- Two partials are the first and the second child of one node (R49). -/
def siblings (n : Nat) (a b : Nat × Nat) : Bool :=
  let x := carryUp n 32 a
  let y := carryUp n 32 b
  x.1 == y.1 && x.2 % 2 == 0 && y.2 == x.2 + 1 && decide (y.2 < treeWidth n x.1)

/-- A product as it enters the tree (R42): rounded to FP32. -/
def fprod (a b : FV) : F32 := f32 (a.mul b)

/-- The chunk sum of 256 products, absent ones being +0.0 (R43, R46). -/
def chunkSumFp (p : List F32) : F32 := reduceTree fadd f0 (p ++ List.replicate (256 - p.length) f0)

/-- 18-bit two's complement (R47). -/
def wrap18 (v : Int) : Int := sint 18 (uint 18 v)

/-- The value of a BS4 block (R47): the corrected block sum times 2^(E − 127). -/
def blockValue (e : Nat) (b zw : Int) : F32 :=
  if e = 255 then fnan
  else
    let d := wrap18 (wrap18 b - wrap18 zw)
    f32 (.fin (decide (d < 0)) d.natAbs ((e : Int) - 127))

/-- The value of a BS4 element widened to BF16, and whether it saturated (R40, R81). -/
def bs4Widen (e : Nat) (q : Int) : FV × Bool :=
  if e = 255 then (.nan, false)
  else
    let v : FV := .fin (decide (q < 0)) q.natAbs ((e : Int) - 127)
    let b := fconv .bf16 v
    (fdec .bf16 b, decide ((fdec .bf16 b).cmp v ≠ some .eq))

/-! ### The vector unit (R51 to R54) -/

/-- Writes an FP32 result in the lane format: BF16 lanes round a second time (R51). DEDUCED (log 125): that rounding is
R41's, which gives infinity for a finite FP32 value beyond BF16's range, where R54's conversions saturate. -/
def laneOut (bf : Bool) (x : F32) : Nat := if bf then fenc .bf16 false (fv x) else x.toNat

/-- Reads a lane. -/
def laneIn (bf : Bool) (raw : Nat) : F32 := if bf then f32 (fdec .bf16 raw) else BitVec.ofNat 32 raw

/-- Two-operand operations (R51). -/
def vecOp : VecFn → F32 → F32 → F32
  | .add => fadd | .sub => fsub | .mul => fmul | .min => vmin | .max => vmax

/-- One-operand and transcendental operations (R51, R53). -/
def vecOp1 : VecFn1 → F32 → F32
  | .abs => fabs | .neg => fneg | .exp2 => fexp2 | .log2 => flog2 | .recip => frecip | .rsqrt => frsqrt

/-- Whether a predicate holds of a comparison's outcome; none is unordered (R51). -/
def predHolds : VecPred → Option Ordering → Bool
  | .eq, o => o == some .eq
  | .ne, o => o != some .eq
  | .lt, o => o == some .lt
  | .le, o => o == some .lt || o == some .eq
  | .gt, o => o == some .gt
  | .ge, o => o == some .gt || o == some .eq

/-- The lane mask of a floating-point comparison (R51). -/
def cmpMask (p : VecPred) (bf : Bool) (a b : Nat) : Nat :=
  let f : Fmt := if bf then .bf16 else .fp32
  if predHolds p ((fdec f a).cmp (fdec f b)) then (if bf then 0xFFFF else 0xFFFFFFFF) else 0

/-- The order of two int32 lanes (R51). -/
def intOrder (a b : Int) : Ordering := if a < b then .lt else if a = b then .eq else .gt

/-- int32 lane operations; shift counts of 32 or more give 0 or all sign bits (R51). -/
def intOp (f : IntFn) (a b : Nat) : Nat :=
  let x := sint 32 a
  let y := sint 32 b
  let lo : Int := -2147483648
  let hi : Int := 2147483647
  match f with
  | .add => uint 32 (x + y)
  | .sub => uint 32 (x - y)
  | .addSat => uint 32 (clampInt lo hi (x + y))
  | .subSat => uint 32 (clampInt lo hi (x - y))
  | .min => uint 32 (if y < x then y else x)
  | .max => uint 32 (if x < y then y else x)
  | .shl => if 32 ≤ b then 0 else (a <<< b) % 2 ^ 32
  | .shr => if 32 ≤ b then 0 else a >>> b
  | .sar => uint 32 (x / ((2 ^ min b 32 : Nat) : Int))
  | .and => a &&& b
  | .or => a ||| b
  | .xor => a ^^^ b

/-- One floating-point operation of a reduction; BF16 lanes round twice (R51). -/
def laneStep (bf : Bool) (op : F32 → F32 → F32) (x y : F32) : F32 := laneIn bf (laneOut bf (op x y))

/-- A reduction across the 64 FP32 or 128 BF16 lanes (R52): missing lanes add +0.0 to a sum and nothing to a maximum or
minimum, whose NaN is the canonical one (R51). DESIGN CHOICE (log 126): over no lanes at all it is +0.0, which the spec
leaves open. -/
def laneReduce (bf : Bool) (f : LaneFn) (l : List F32) : F32 :=
  let canon : F32 → F32 := fun x => if fisNan x then fnan else x
  match f with
  | .sum => reduceTree (laneStep bf fadd) f0 (l ++ List.replicate ((if bf then 128 else 64) - l.length) f0)
  | .max => canon (reduceTree (laneStep bf vmax) f0 l)
  | .min => canon (reduceTree (laneStep bf vmin) f0 l)

/-- A reduction across int32 lanes: the sum wraps (R51, R52). -/
def laneReduceInt (f : LaneFn) (l : List Nat) : Nat :=
  reduceTree (intOp (match f with | .sum => .add | .max => .max | .min => .min)) 0 l

/-- Limits of an integer format. -/
def intRange : NumFmt → Int × Int
  | .i8 => (-128, 127) | .u8 => (0, 255) | .i4 => (-8, 7) | .u4 => (0, 15) | _ => (-8, 7)

/-- A conversion to a format (R54). -/
def convTo (f : NumFmt) (v : FV) : Nat :=
  match fmtFp f with
  | some g => fconv g v
  | none => uint (fmtWidth f) (fvToIntSat (intRange f).1 (intRange f).2 v)

/-! ### The quantiser (chapter 3) -/

/-- The corrected sum of R66. -/
def corrected (a za w zw s k : Int) : Int := a - za * w - zw * s + k * za * zw

/-- The correction paths (Table 03-2). -/
inductive ZpPath where
  | main | fallback | bs4 | none
  deriving DecidableEq, Repr

/-- The path that admission selects for an operator, from its declared formats and zero points (R67). -/
def zpPath (o : OpDecl) : ZpPath :=
  match o.pair with
  | none => .none
  | some (a, w) =>
    if !fmtIsInt a then .none
    else if w = .bs4 then .bs4
    else if o.zw.any (fun z => z ≠ 0) then .main
    else .fallback

/-- C of an operator's output channel `j` (Table 03-2), from its accumulator, weight sum and activation sum. -/
def zpCorrect (o : OpDecl) (j : Nat) (a w s : Int) : Int :=
  match zpPath o with
  | .main => corrected a o.za w (o.zw.getD j 0) s o.k
  | .fallback => a - o.za * w
  | _ => a

/-- Accumulators of an operator are int48: its integer modes (R63). -/
def intAcc (o : OpDecl) : Bool := zpPath o == .main || zpPath o == .fallback

/-- How an element is counted (R72). -/
inductive QCount where
  | plain | clipped | nan
  deriving DecidableEq, Repr

/-- A finite magnitude that stays below 2^40 in steps of the output (R71). -/
def roundClamp (u : F32) : Int :=
  match fv u with
  | .nan => 0
  | .inf s => if s then -1099511627776 else 1099511627776
  | v => clampInt (-1099511627776) 1099511627776 ((v.toIntScaled 0).getD 0)

/-- The quantiser's listing from u on (R71): the stored element, its count, and v. -/
def quantOut (f : NumFmt) (zOut : Int) (u : F32) : Nat × QCount × F32 :=
  match fmtFp f with
  | none =>
    let t := roundClamp u + zOut
    let q := clampInt (intRange f).1 (intRange f).2 t
    (uint (fmtWidth f) q, if fisNan u then .nan else if q ≠ t then .clipped else .plain, fofInt (q - zOut))
  | some g =>
    let q := fconv g (fv u)
    let top : FV := fdec g g.maxFin
    let qv := fdec g q
    let big := qv.isInf || (decide (qv.abs.cmp top = some .eq) && decide ((fv u).abs.cmp top = some .gt)) ||
      (decide (g = .e4m3) && fisInf u)
    (q, if fisNan u then .nan else if big then .clipped else .plain, f32 qv)

/-- u of the quantiser's listing (R71). -/
def quantU (x sa sw bias invOut : F32) : F32 := fmul (fadd (fmul x (fmul sa sw)) bias) invOut

/-- The error e of R74 in units of 2^−16. -/
def sqErr (u v : F32) : Int :=
  let top : Int := 2147483647
  match fv u with
  | .inf s => if s then -top else top
  | _ => clampInt (-top) top ((((fv (fsub u v)).toIntScaled 16)).getD 0)

/-- Statistics counts saturate here (R77). -/
def statTop : Nat := 0xFFFFFFFFFFFFFFFE

/-- Counts of nothing. -/
def TStat.zero : TStat := ⟨0, 0, 0, 0, false, 0⟩

/-- Sums of two runs' counts (R75). -/
def TStat.add (a b : TStat) : TStat :=
  ⟨satAdd statTop a.elements b.elements, satAdd statTop a.clipped b.clipped, satAdd statTop a.nans b.nans,
    min (2 ^ 64 - 1) (a.sq + b.sq), a.sqSat || b.sqSat || decide (2 ^ 64 ≤ a.sq + b.sq),
    satAdd statTop a.sqCount b.sqCount⟩

/-- Counts as a report of a package's share gives them, and back (R75). -/
def TStat.toList (x : TStat) : List Nat := [x.elements, x.clipped, x.nans, x.sq, b2n x.sqSat, x.sqCount]
def TStat.ofList (l : List Nat) : TStat := ⟨l.getD 0 0, l.getD 1 0, l.getD 2 0, l.getD 3 0, l.getD 4 0 == 1, l.getD 5 0⟩

/-- Counts one element (R72, R74). -/
def TStat.count (mse : Bool) (c : QCount) (u v : F32) (x : TStat) : TStat :=
  let e := sqErr u v
  let on := mse && decide (c ≠ .nan)
  x.add ⟨1, b2n (c == .clipped), b2n (c == .nan), if on then (e * e).natAbs else 0, false, b2n on⟩

/-- A quantiser statistics record (Table 03-3). -/
def statRecord (tensor code gen : Nat) (mse part : Bool) (x : TStat) : Bytes :=
  leBytes 4 tensor ++ leBytes 2 (b2n mse + 2 * b2n (mse && x.sqSat) + 4 * b2n part) ++ leBytes 2 code ++
    leBytes 8 x.elements ++ leBytes 8 x.clipped ++ leBytes 8 x.nans ++
    leBytes 8 (if mse then x.sq else 0) ++ leBytes 8 (if mse then x.sqCount else 0) ++ leBytes 8 gen ++ leBytes 8 gen

/-! ### Attention (R80 to R88) -/

/-- The position range a query row sees (R83). -/
def seen (qpos len window : Nat) (causal : Bool) : Nat × Nat :=
  (if window = 0 then 0 else qpos + 1 - window, if causal then qpos else len - 1)

/-- The bucket of a distance (R84). -/
def biasBucket (pos qpos : Nat) : Nat :=
  let d : Int := (pos : Int) - qpos
  let a := d.natAbs
  let e := Nat.log2 a
  let b := if a < 128 then a else if 14 < e then 255 else 128 + 16 * (e - 7) + (a >>> (e - 4)) % 16
  if 0 < d then b + 256 else b

/-- The score in base 2 (R82). -/
def score (s kScale c bias : F32) : F32 := fadd (fmul (fmul s kScale) c) bias

/-- A row's running state: frame, L, O, bad, saturated (R86, R87). -/
structure AttnAcc where
  m : Option Int
  l : Nat
  o : List Int
  bad : Bool
  sat : Bool
  deriving DecidableEq, Repr

/-- The greatest magnitude of a score that is used (R86). -/
def scoreTop : F32 := 0x4B800000#32

/-- Whether a score is used: −2^24 ≤ t ≤ 2^24. -/
def scoreUsed (t : F32) : Bool := fle (fneg scoreTop) t && fle t scoreTop

/-- Clamps and says whether it had to. -/
def satTo (lo hi v : Int) : Int × Bool := (clampInt lo hi v, decide (v < lo) || decide (hi < v))

/-- The fixed-point term of one probability and value (R86, R87); none for a NaN product. -/
def pvTerm (p v : F32) : Option (Int × Bool) :=
  match (fv p).mul (fv v) with
  | .nan => none
  | .inf s => some (if s then -(2 ^ 63 - 1) else 2 ^ 63 - 1, true)
  | x => some (satTo (-(2 ^ 63 - 1)) (2 ^ 63 - 1) ((x.toIntScaled 32).getD 0))

/-- One position of the second pass big a block (R86). DEDUCED (log 133): a conversion that
saturates makes the row saturated even where the sum stays within the limits. -/
def attnTerm (x : AttnAcc) (t : F32) (v : List F32) : AttnAcc :=
  match x.m with
  | none => x
  | some m =>
    if !scoreUsed t then x
    else
      let p := fexp2 (fsub t (fofInt m))
      let lp := satTo 0 (2 ^ 64 - 1) (((fv p).toIntScaled 32).getD 0)
      let l := satTo 0 (2 ^ 64 - 1) ((x.l : Int) + lp.1)
      let os := List.zipWith (fun (o : Int) e =>
        match pvTerm p e with
        | none => (o, false, true)
        | some (w, s) =>
          let r := satTo (-(2 ^ 63 - 1)) (2 ^ 63 - 1) (o + w)
          (r.1, s || r.2, false)) x.o v
      { m := x.m, l := l.1.toNat, o := os.map (·.1), bad := x.bad || os.any (·.2.2)
        sat := x.sat || lp.2 || l.2 || os.any (·.2.1) }

/-- One block of 64 positions (R86). -/
def attnBlock (x : AttnAcc) (ts : List (F32 × List F32)) : AttnAcc :=
  let bad := ts.any (fun e => fisNan e.1 || flt scoreTop e.1)
  let mb := ts.foldl (fun (m : Option Int) e =>
    if scoreUsed e.1 then
      let c := ((fv e.1).ceil).getD 0
      some (match m with | none => c | some v => max v c)
    else m) x.m
  let sh := match x.m, mb with
    | some m, some b => min 64 (b - m).toNat
    | _, _ => 0
  let y : AttnAcc := { x with
    m := mb, l := x.l >>> sh, o := x.o.map (fun o => o / ((2 ^ sh : Nat) : Int)), bad := x.bad || bad }
  ts.foldl (fun y e => attnTerm y e.1 e.2) y

/-- The result of one query row of one head: output, saturated, ended as NaN (R86, R87). `blocks`
holds the visible positions block by block. -/
def attnRow (dim : Nat) (blocks : List (List (F32 × List F32))) : List F32 × Bool × Bool :=
  let x := blocks.foldl attnBlock ⟨none, 0, List.replicate dim 0, false, false⟩
  if x.bad || x.m.isNone then (List.replicate dim fnan, x.sat, true)
  else
    let rl := frecip (f32 (.fin false x.l (-32)))
    (x.o.map (fun o => fmul (f32 (.fin (decide (o < 0)) o.natAbs (-32))) rl), x.sat, false)

end Sys2Proof.Machine
end

