-- ==== Sys2Proof/Machine/Memory.lean ====
section
/-!
DEFINITION. The compute dies' memories (chapter 5): the die-local address map, reads and writes of
bytes, regions and their allocation and zeroing, cores and DMA channels, ECC records, and the
fault registers of a core.
-/

namespace Sys2Proof.Machine

open Sys2Proof

/-! ### The die-local address map (R103, Table 05-2) -/

/-- First address beyond the usable DRAM: 21 GiB. -/
def dramTop : Nat := 0x540000000
/-- Die pool: base and size. -/
def poolLo : Nat := 0x800000000
def poolSize : Nat := 0x8000000
/-- Scratchpad of physical core `k`. -/
def spadLo (k : Nat) : Nat := 0x900000000 + k * 0x1000000
def spadSize : Nat := 0x1000000
/-- Instruction memory of physical core `k`. -/
def imemLo (k : Nat) : Nat := 0xA00000000 + k * 0x40000
def imemSize : Nat := 0x40000
/-- The bank of the die pool that holds the KV page table (R112). -/
def kvBankLo : Nat := 0x807E00000

/-- The memory that holds an address: first address and first beyond; none if it is invalid. -/
def memRange (a : Nat) : Option (Nat × Nat) :=
  if a < dramTop then some (0, dramTop)
  else if poolLo ≤ a && a < poolLo + poolSize then some (poolLo, poolLo + poolSize)
  else if spadLo 0 ≤ a && a < spadLo 17 then
    let k := (a - spadLo 0) / spadSize
    some (spadLo k, spadLo k + spadSize)
  else if imemLo 0 ≤ a && a < imemLo 17 then
    let k := (a - imemLo 0) / imemSize
    some (imemLo k, imemLo k + imemSize)
  else none

/-- A range lies within one memory. -/
def rangeOk (a n : Nat) : Bool :=
  match memRange a with
  | none => false
  | some r => decide (a + n ≤ r.2)

/-- The scratchpad bank of core `k` that holds a die-local address (R103). -/
def spadBank (k a : Nat) : Option Nat :=
  if spadLo k ≤ a && a < spadLo k + spadSize then some ((a - spadLo k) / 0x80000) else none

/-! ### Bytes -/

/-- The memories of die `d`. -/
def State.mem (s : State) (d : Nat) : Tbl Byte := tget [] s.comp.mems d
/-- Replaces the memories of die `d`. -/
def State.setMem (s : State) (d : Nat) (m : Tbl Byte) : State :=
  { s with comp := { s.comp with mems := tset [] s.comp.mems d m } }
/-- One byte. -/
def State.rdByte (s : State) (d a : Nat) : Nat := (tget 0 (s.mem d) a).toNat
/-- `n` bytes from `a`. -/
def State.rdBytes (s : State) (d a n : Nat) : Bytes := (List.range n).map (fun i => tget 0 (s.mem d) (a + i))
/-- Stores bytes from `a` on into a table. -/
def memPut : Nat → Bytes → Tbl Byte → Tbl Byte
  | _, [], m => m
  | a, b :: bs, m => memPut (a + 1) bs (tset 0 m a b)
/-- Every die memory is in canonical form: addresses rising, and no byte listed that an unlisted one reads
as. -/
def memsWf (l : Tbl (Tbl Byte)) : Bool := twf [] l && l.all (fun e => twf 0 e.2)
/-- Writes bytes from `a` on. -/
def State.wrBytes (s : State) (d a : Nat) (b : Bytes) : State := s.setMem d (memPut a b (s.mem d))
/-- The stored bytes of a range. -/
def memCut (a n : Nat) (m : Tbl Byte) : Tbl Byte := m.filter (fun e => a ≤ e.1 && decide (e.1 < a + n))
/-- A range with every byte zero. -/
def memZero (a n : Nat) (m : Tbl Byte) : Tbl Byte := m.filter (fun e => !(a ≤ e.1 && decide (e.1 < a + n)))
/-- Zeroes a region (R121). -/
def State.zeroRegion (s : State) (r : Region) : State := s.setMem r.die (memZero r.base r.size (s.mem r.die))
/-- Zeroes every SRAM of a die: all but DRAM (Table 06-11). -/
def State.zeroSram (s : State) (d : Nat) : State := s.setMem d ((s.mem d).filter (fun e => decide (e.1 < dramTop)))

/-! ### Components -/

/-- Core `k` of die `d`. -/
def State.core (s : State) (d k : Nat) : Core := tget Core.init s.comp.cores (d * 17 + k)
def State.setCore (s : State) (d k : Nat) (x : Core) : State :=
  { s with comp := { s.comp with cores := tset Core.init s.comp.cores (d * 17 + k) x } }
/-- DMA channel `c` of core `k` of die `d`. -/
def State.chan (s : State) (d k c : Nat) : Chan := tget Chan.init s.comp.chans ((d * 17 + k) * 8 + c)
def State.setChan (s : State) (d k c : Nat) (x : Chan) : State :=
  { s with comp := { s.comp with chans := tset Chan.init s.comp.chans ((d * 17 + k) * 8 + c) x } }
/-- Berth `b` of die `d`. -/
def State.berth (s : State) (d b : Nat) : Berth := tget Berth.init s.comp.berths (d * 256 + b)
def State.setBerth (s : State) (d b : Nat) (x : Berth) : State :=
  { s with comp := { s.comp with berths := tset Berth.init s.comp.berths (d * 256 + b) x } }
/-- The KV cache of die `d`. -/
def State.kvDie (s : State) (d : Nat) : KvDie := tget KvDie.init s.comp.kvd d
def State.setKvDie (s : State) (d : Nat) (x : KvDie) : State :=
  { s with comp := { s.comp with kvd := tset KvDie.init s.comp.kvd d x } }
/-- Stream `st`. -/
def State.strm (s : State) (st : Nat) : Strm := tget Strm.init s.comp.strm st
def State.setStrm (s : State) (st : Nat) (x : Strm) : State :=
  { s with comp := { s.comp with strm := tset Strm.init s.comp.strm st x } }
/-- Link `k`. -/
def State.lnk (s : State) (k : Nat) : Lnk := tget Lnk.init s.comp.lnks k
def State.setLnk (s : State) (k : Nat) (x : Lnk) : State :=
  { s with comp := { s.comp with lnks := tset Lnk.init s.comp.lnks k x } }
/-- Rewrites link `k` where its packets or credits change: LNK_CREDIT_WAIT counts up to now first (R396). -/
def State.linkSet (s : State) (k : Nat) (x : Lnk) : State :=
  (if (s.lnk k).starved = x.starved then s else s.tlySync 7).setLnk k x
/-- Replaces the job table. -/
def State.setJobs (s : State) (l : List Job) : State := { s with jobs := l }
/-- Job `id`. -/
def State.job (s : State) (id : Nat) : Option Job := s.jobs.find? (fun j => j.id == id)
/-- Rewrites job `id`. -/
def State.updJob (s : State) (id : Nat) (f : Job → Job) : State :=
  s.setJobs (mapIf (fun j => j.id == id) f s.jobs)

/-- ROLE of a core (Table 02-11): 1 enabled. -/
def State.coreRole (s : State) (d k : Nat) : Nat := s.fld (mcA d k 0) 17 16
/-- The core is degraded. -/
def State.coreDegraded (s : State) (d k : Nat) : Bool := s.flag (mcA d k 0) 20
/-- The physical core that serves a logical index (R34). -/
def State.physOf (s : State) (d l : Nat) : Option Nat :=
  (List.range 17).find? (fun k => s.coreRole d k == 1 && s.fld (mcA d k 0) 12 8 == l)
/-- The compute dies serve: not in a package job loss. -/
def State.diesUp (s : State) : Bool := s.loss.isNone

/-! ### Regions in use, and allocation -/

/-- The DRAM that the placer may use on a die: below the post-mortem and shift-log areas (R123,
R181). -/
def State.dramHi (s : State) (d : Nat) : Nat :=
  let cap : Nat :=
    match s.hm.armed, s.hm.held with
    | some c, _ => if c.die = d then c.size64M * 2 ^ 26 else 0
    | none, some (c, _) => if c.die = d then c.size64M * 2 ^ 26 else 0
    | none, none => 0
  let log := if s.logMode ≠ 0 && s.inService.getLast? = some d then s.fld 0x304 13 8 * 2 ^ 28 else 0
  dramTop - cap - log

/-- The memory under a berth (Table 05-15). -/
def State.berthRegion (s : State) (d b : Nat) : Region :=
  let off := s.fld (berthA d b 4) 15 0 * 4096
  ⟨d, if s.flag (berthA d b 0) 2 then spadLo (s.fld (berthA d b 0) 12 8) + off else poolLo + off,
    s.fld (berthA d b 8) 15 0 * 4096⟩
/-- STATE of a berth: 0 closed, 1 open, 2 closing. -/
def State.berthState (s : State) (d b : Nat) : Nat := s.fld (berthA d b 0) 1 0

/-- The page regions of a die's KV cache (Table 04-11). -/
def State.kvRegions (s : State) (d : Nat) : List Region :=
  let sh := (s.kvDie d).shift
  if sh = 0 then []
  else [⟨d, (s.kvDie d).poolBase, (s.rd (kvA d 8)).toNat * 2 ^ sh⟩,
        ⟨d, (s.kvDie d).dramBase, (s.rd (kvA d 0xC)).toNat * 2 ^ sh⟩]

/-- Regions of a die that are held. -/
def State.usedOn (s : State) (d : Nat) : List Region :=
  let js := s.jobs.flatMap (fun j => j.places.map (fun p => (⟨p.die, p.base, p.size⟩ : Region)) ++ j.pins)
  let ps := s.comp.pkgs.filterMap (fun e => e.2.map (fun p => p.home))
  let bs := (s.comp.berths.filter (fun e => e.1 / 256 == d)).filterMap (fun e =>
    if s.berthState d (e.1 % 256) = 0 then none else some (s.berthRegion d (e.1 % 256)))
  let rs := s.comp.strm.flatMap (fun e => e.2.ring)
  (js ++ ps ++ bs ++ rs ++ s.kvRegions d).filter (fun r => r.die == d && decide (0 < r.size))

/-- Two ranges share an address. -/
def overlaps (a n b m : Nat) : Bool := decide (a < b + m) && decide (b < a + n)

/-- Rounds up to a multiple of `m`. -/
def alignUp (m a : Nat) : Nat := cdiv a m * m

/-- The lowest place of `size` bytes, aligned, within [lo, hi) that no region of `used` overlaps. -/
def firstFit (used : List Region) (lo hi size al : Nat) : Option Nat :=
  let cands := (lo :: used.map (fun u => alignUp al (u.base + u.size))).filter (fun c =>
    decide (lo ≤ c) && decide (c + size ≤ hi) && used.all (fun u => !overlaps c size u.base u.size))
  bestBy (fun a b => decide (a < b)) cands

/-- Marks regions for zeroing (R121). -/
def State.dirtyAdd (s : State) (l : List Region) : State :=
  { s with comp := { s.comp with dirty := s.comp.dirty ++ l.filter (fun r => decide (0 < r.size)) } }

/-! ### Faults of a core's memories, and ECC (R114 to R116, Tables 05-8 to 05-13) -/

/-- The port class that owns a bank in the running tile (R108). -/
def State.bankOwner (s : State) (d k b : Nat) : Nat :=
  (s.rd64 (mcA d k 0x54) >>> (2 * b)) % 4

/-- MC_MEM_FAULT_INFO and MC_MEM_FAULT_ADDR take a fault. BANK and OWNER of an address outside the core's scratchpad are
not stated and are free. -/
def State.memLatch (s : State) (d k : Nat) (st : Status) (chan cls addr : Nat) : State :=
  let bank := (spadBank k addr).getD (Config.freeNat s.free % 32)
  let owner := if (spadBank k addr).isSome then s.bankOwner d k bank else Config.freeNat (s.free + 1) % 4
  let v := (st.code % 256) * 2 ^ 24 + (chan % 16) * 2 ^ 16 + (cls % 4) * 2 ^ 12 + owner * 2 ^ 10 + bank * 2 ^ 5 + 1
  (((s.wr (mcA d k 0x48) (BitVec.ofNat 32 v)).wr (mcA d k 0x68) (BitVec.ofNat 32 addr)).wr
    (mcA d k 0x6C) (BitVec.ofNat 32 (addr / 2 ^ 32 % 16))).bump.bump

/-- Nothing holds a core's fault registers: MC_MEM_STAT is all zero (Table 05-10). -/
def State.memLatchFree (s : State) (d k : Nat) : Bool := decide (s.fld (mcA d k 0x40) 2 0 = 0)

/-- Records a memory fault of a core: its flag and count, and, when MC_MEM_STAT was all zero, the
fault information and address. -/
def State.memFault (s : State) (d k bit' lo : Nat) (st : Status) (chan cls addr : Nat) : State :=
  let t := (s.raise (mcA d k 0x40) bit').count8 (mcA d k 0x44) lo
  if s.memLatchFree d k then t.memLatch d k st chan cls addr else t

/-- An uncorrectable word of DRAM or die pool: flag, count, and the first failing address, which is taken while
FIRST_VALID is 0 (R116). -/
def State.eccFail (s : State) (d addr n : Nat) : State :=
  let first := !s.flag (eccA d 0x18) 31
  let s :=
    if addr < dramTop then (s.raise (eccA d 0) 1).countN (eccA d 8) n
    else if poolLo ≤ addr && addr < poolLo + poolSize then (s.raise (eccA d 0) 3).countN (eccA d 0x10) n
    else s
  if first && (s.flag (eccA d 0) 1 || s.flag (eccA d 0) 3) then
    (s.wr (eccA d 0x14) (BitVec.ofNat 32 addr)).wr (eccA d 0x18) (BitVec.ofNat 32 (2 ^ 31 + addr / 2 ^ 32 % 16))
  else s

/-- Corrected words of DRAM or die pool, met by a read or a scrub (R114, Table 05-13). -/
def State.eccCorr (s : State) (d target n : Nat) : State :=
  if n = 0 then s
  else
    let s := s.tally d 0x12 0xFF n
    if target = 0 then (s.raise (eccA d 0) 0).countN (eccA d 4) n
    else (s.raise (eccA d 0) 2).countN (eccA d 0xC) n

/-- Takes regions into use: the zeroing that one of them waits for comes first (R121). -/
def State.claim (s : State) (l : List Region) : State :=
  let hit : Region → Bool := fun r => l.any (fun q => q.die == r.die && overlaps r.base r.size q.base q.size)
  let s := (s.comp.dirty.filter hit).foldl State.zeroRegion s
  { s with comp := { s.comp with dirty := s.comp.dirty.filter (fun r => !hit r) } }

/-- The address whose fault a halted channel records: the failing word, or the transfer's first
source address. -/
def xferSrc : Option Xfer → Nat
  | some (.copy a _ _) => a
  | some (.berth a _ _ _ _ _ _) => a
  | none => 0

/-- Halts a DMA channel (R111). -/
def State.haltChan (s : State) (d k c : Nat) (st : Status) (addr : Nat) : State :=
  let s := s.setChan d k c { s.chan d k c with st := .idle, halt := some st }
  s.memFault d k 2 16 st c 3 addr

/-- A channel's pending copy takes place: the words of `n` bytes from its source. -/
def State.finishCopy (s : State) (d k c : Nat) : State :=
  match (s.chan d k c).st, (s.chan d k c).xfer with
  | .copying, some (.copy a b n) =>
    (s.wrBytes d b (s.rdBytes d a n)).setChan d k c { s.chan d k c with st := .idle }
  | _, _ => s

/-! ### The ingest queue (R224, R238) -/

/-- Bytes that a sample holds in the ingest buffer. -/
def Sample.held (x : Sample) : Nat :=
  if x.canary then 0
  else
    match x.phase with
    | .offloaded (_ + 1) => 0
    | .hosted => 0
    | _ => (x.pkts.map List.length).sum

/-- Bytes in the ingest buffer. -/
def State.ingBytes (s : State) : Nat :=
  (s.comp.strm.map (fun e =>
    (match e.2.cur with | none => 0 | some x => x.held) + (e.2.wait.map Sample.held).sum)).sum

/-- The size of the ingest buffer: 64 MiB. -/
def ingRoom : Nat := 2 ^ 26

/-- ING_QUEUE follows the buffer, and OFFLOADING the thresholds; never in deterministic mode (R176). -/
def State.ingQueue (s : State) : State :=
  let s := s.tlySync 7
  let n := s.ingBytes / 65536
  let s := s.put (ingW 4) 10 0 n
  let on := s.flag (ingW 4) 16
  if !s.flag (ingW 0) 31 || s.det then s.put (ingW 4) 16 16 0
  else if !on && s.fld (ingW 0) 26 16 ≤ n then (s.put (ingW 4) 16 16 1).event (ingW 8) 1 (ingW 0x10)
  else if on && n ≤ s.fld (ingW 0) 10 0 then s.put (ingW 4) 16 16 0
  else s

end Sys2Proof.Machine
end

