-- ==== Sys2Proof/Machine/Fabric.lean ====
section
/-!
DEFINITION. The Ralostair fabric (chapter 8): topology and routing, packets, the links' virtual
channels and retry, and link states and training.
-/

namespace Sys2Proof.Machine

open Sys2Proof

/-! ### Topology and routing (R203, R206) -/

/-- KIND: also the number of dimensions. -/
def State.kind (s : State) : Nat := s.fld (fabA 0) 1 0
/-- The dimensions X, Y and Z. -/
def State.dims (s : State) : List Nat := [s.fld (fabA 0) 14 8, s.fld (fabA 0) 21 16, s.fld (fabA 0) 27 24]
/-- LEAD_PKG. -/
def State.leadPkg (s : State) : Nat := s.fld (fabA 4) 25 16
/-- This package is the lead (R214). -/
def State.isLead (s : State) : Bool := s.pkgNum == s.leadPkg

/-- Coordinates of package `p` (R203). -/
def State.coords (s : State) (p : Nat) : List Nat :=
  match s.dims with
  | [x, y, _] => [p % x, p / x % y, p / (x * y)]
  | _ => [0, 0, 0]

/-- The direction that link `k` faces; none under KIND NONE (R203). -/
def State.linkDir (s : State) (k : Nat) : Option Nat := if s.kind = 0 then none else some (k % (2 * s.kind))

/-- The package one step along direction `d` from package `p`, with wrap-around (R203). -/
def State.neighbour (s : State) (p d : Nat) : Nat :=
  match s.dims, s.coords p with
  | [x, y, z], [a, b, c] =>
    let go : Nat → Nat → Nat → Nat := fun i n v =>
      if d = 2 * i then (v + 1) % n else if d = 2 * i + 1 then (v + n - 1) % n else v
    go 0 x a + x * (go 1 y b + y * go 2 z c)
  | _, _ => p

/-- STATE of a link (Table 08-1). -/
def State.linkState (s : State) (k : Nat) : Nat := s.fld (lnkA k 4) 11 8
/-- Some link of direction `d` is UP. -/
def State.dirUp (s : State) (d : Nat) : Bool :=
  (List.range 12).any (fun k => s.linkDir k == some d && s.linkState k == 3)

/-- The first hop towards a package, in dimension order, the shorter way round first (R206). -/
def State.firstHop (s : State) (dst : Nat) : Option Nat :=
  let dims := (List.range s.kind).filter (fun i => (s.coords s.pkgNum).getD i 0 != (s.coords dst).getD i 0)
  match dims with
  | [] => none
  | i :: _ =>
    let n := s.dims.getD i 1
    let fwd := ((s.coords dst).getD i 0 + n - (s.coords s.pkgNum).getD i 0) % n
    let d := if fwd ≤ n - fwd then 2 * i else 2 * i + 1
    let o := if d % 2 = 0 then d + 1 else d - 1
    if s.dirUp d then some d else if s.dirUp o then some o else none

/-- A package can be reached, as far as this package's links show (R206, R207). -/
def State.reachable (s : State) (dst : Nat) : Bool := dst == s.pkgNum || (s.firstHop dst).isSome

/-- The topology's diameter: the hops of R143 (R203). -/
def State.hops (s : State) : Nat := ((s.dims.take s.kind).map (fun n => n / 2)).sum

/-- Links UP. -/
def State.linksUp (s : State) : Nat := ((List.range 12).filter (fun k => s.linkState k == 3)).length

/-- CUT, PARTIAL and READY of LNK_FAB_STAT follow the links (Table 08-13). -/
def State.fabShow (s : State) : State :=
  let on := s.kind ≠ 0
  let cut := on && (List.range (2 * s.kind)).any (fun d => !s.dirUp d)
  let part := on && decide (s.linksUp < 12)
  s.put (fabA 8) 2 0 (4 * b2n cut + 2 * b2n part + b2n (on && s.linksUp == 12))

/-- Moves a link to a state. -/
def State.setLinkState (s : State) (k n : Nat) : State :=
  ((s.put (lnkA k 4) 11 8 n).setLnk k { s.lnk k with since := s.clk.ref }).fabShow

/-! ### Packets (Tables 08-2, 08-3) -/

/-- The header and payload of a packet, LSEQ zero and without CRC. -/
structure FabPkt where
  type : Nat
  vc : Nat
  dstPkg : Nat
  dstDie : Nat
  srcPkg : Nat
  srcDie : Nat
  chan : Nat
  berth : Nat
  gen : Nat
  off : Nat
  level : Nat
  pos : Nat
  payload : Bytes
  deriving DecidableEq, Repr

/-- The header as a 128-bit number (Table 08-2). -/
def FabPkt.header (p : FabPkt) (lseq : Nat) : Nat :=
  p.type + p.vc * 2 ^ 4 + lseq * 2 ^ 6 + p.dstPkg * 2 ^ 18 + p.dstDie * 2 ^ 28 + p.srcPkg * 2 ^ 32 +
    p.srcDie * 2 ^ 42 + p.chan * 2 ^ 45 + p.berth * 2 ^ 48 + p.gen * 2 ^ 56 + p.off * 2 ^ 64 +
    ((p.payload.length - 1) / 8) * 2 ^ 96 + p.level * 2 ^ 104 + p.pos * 2 ^ 109

/-- The packet's bytes without CRC. -/
def FabPkt.bytes (p : FabPkt) : Bytes := leBytes 16 (p.header 0) ++ p.payload

/-- A packet as sent: LSEQ in place, CRC-32C behind (R196). -/
def sealPkt (lseq : Nat) (b : Bytes) : Bytes :=
  let h := leBytes 16 (ofLe (b.take 16) + lseq * 2 ^ 6) ++ b.drop 16
  h ++ leBytes 4 (crc32c h)

/-! ### Sending (R200, R201) -/

/-- The replay buffer of a link in bytes. -/
def replayCap : Nat := 131072

/-- The first waiting packet of a virtual channel that its credits cover. -/
def Lnk.ready (x : Lnk) (vc : Nat) : Option LinkPkt :=
  match x.queue.find? (fun p => p.vc == vc) with
  | none => none
  | some p =>
    if cdiv p.size 64 ≤ x.credits.getD vc 0 && (x.replay.map (fun q => q.size)).sum + p.size ≤ replayCap
    then some p else none

/-- The channel that sends next: 0 first, 1 and 2 in turn, 3 last or after 64 others (R200). -/
def Lnk.pick (x : Lnk) : Option LinkPkt :=
  let a := if x.alt = 1 then 2 else 1
  let order := if 64 ≤ x.since3 then [3, 0, a, x.alt] else [0, a, x.alt, 3]
  (order.filterMap x.ready).head?

/-- Removes the first packet of a virtual channel. -/
def dropVc (vc : Nat) : List LinkPkt → List LinkPkt
  | [] => []
  | p :: l => if p.vc = vc then l else p :: dropVc vc l

/-- The receive buffer that a packet in transit held is free: its credits go back (R200). -/
def State.creditBack (s : State) : Option (Nat × Nat × Nat) → State
  | some (k, vc, units) => s.emit (.linkCredit k vc units)
  | none => s

/-- Sends one packet. -/
def State.linkXmit (s : State) (k : Nat) (p : LinkPkt) : State :=
  let x := s.lnk k
  let s := s.linkSet k { x with
    next := (x.next + 1) % 4096
    queue := dropVc p.vc x.queue
    replay := x.replay ++ [{ p with seq := x.next }]
    credits := setAt x.credits p.vc (x.credits.getD p.vc 0 - cdiv p.size 64)
    ackRef := if x.replay.isEmpty then s.clk.ref else x.ackRef
    alt := if p.vc = 1 || p.vc = 2 then p.vc else x.alt
    since3 := if p.vc = 3 then 0 else x.since3 + 1 }
  let s := s.creditBack p.origin
  (s.emit (.fabric k (sealPkt x.next p.bytes))).tally 7 0x10 k (p.size - 20)

/-- Sends what credits and the replay buffer allow. -/
def State.linkDrain (k : Nat) : Nat → State → State
  | 0, s => s
  | n + 1, s =>
    if s.linkState k = 3 then
      match (s.lnk k).pick with
      | none => s
      | some p => State.linkDrain k n (s.linkXmit k p)
    else s

/-- Hands packet bytes to link `k`. -/
def State.linkQueue (s : State) (k vc : Nat) (b : Bytes) (origin : Option (Nat × Nat × Nat)) : State :=
  let x := s.lnk k
  let s := s.linkSet k { x with queue := x.queue ++ [⟨0, vc, b.length + 4, b, origin⟩] }
  State.linkDrain k (x.queue.length + 1) s

/-- Rewrites the fabric's counts. -/
def State.setFab (s : State) (f : Fab) : State := { s with comp := { s.comp with fab := f } }

/-- The link that the next packet for a package takes, and its direction: the UP links of a direction take turns (R206). -/
def State.linkFor (s : State) (dst : Nat) : Option (Nat × Nat) :=
  (s.firstHop dst).bind (fun d =>
    let l := (List.range 12).filter (fun k => s.linkDir k == some d && s.linkState k == 3)
    (l[tget 0 s.comp.fab.turn d % max 1 l.length]?).map (fun k => (k, d)))

/-- Sends packet bytes towards a package; none where it is unreachable. -/
def State.sendBytes (s : State) (dst vc : Nat) (b : Bytes) (origin : Option (Nat × Nat × Nat)) : Option State :=
  if dst = s.pkgNum then some (s.emit (.loopback (sealPkt 0 b)))
  else (s.linkFor dst).map (fun x =>
    (s.setFab { s.comp.fab with turn := tupd 0 s.comp.fab.turn x.2 (fun n => n + 1) }).linkQueue x.1 vc b origin)

/-- Sends a packet, cut into packets of 512 payload bytes (R196); none where it is unreachable. -/
def State.sendPkt (p : FabPkt) : Nat → State → Option State
  | 0, s => some s
  | n + 1, s =>
    if p.payload.length ≤ 512 then s.sendBytes p.dstPkg p.vc { p with payload := padTo 8 p.payload }.bytes none
    else
      (s.sendBytes p.dstPkg p.vc { p with payload := p.payload.take 512 }.bytes none).bind
        (State.sendPkt { p with payload := p.payload.drop 512, off := p.off + 512 } n)

/-- Sends a packet, or nothing where its destination is unreachable. -/
def State.sendTo (s : State) (p : FabPkt) : State := (State.sendPkt p (p.payload.length / 512 + 1) s).getD s

/-- A packet of this package's quay die. -/
def State.quayPkt (s : State) (type vc dst : Nat) (payload : Bytes) : FabPkt :=
  ⟨type, vc, dst, 7, s.pkgNum, 7, 0, 0, 0, 0, 0, 0, payload⟩

/-- Sends a heartbeat, which carries LEAD_PKG (R214). -/
def State.sendHeartbeat (s : State) (dst : Nat) : State := s.sendTo (s.quayPkt 0xA 3 dst (leBytes 8 s.leadPkg))

/-- Sends a peer-end message of the lead, or a report to it: the job's key and a status code. -/
def State.sendEnd (s : State) (dst job : Nat) (st : Status) : State :=
  s.sendTo (s.quayPkt 9 3 dst (leBytes 4 job ++ leBytes 4 st.code))

/-! ### Link events (R197 to R202) -/

/-- LINK_TRAINING_RETRY: a DOWN or MISWIRED link trains every 100 ms while enabled (Table 08-1). A
link without a direction stays DOWN (R197). -/
def execLinkTrainingRetry (k : Nat) (s : State) : Host.Outcome State Fault Refusal :=
  guardI (decide (k < 12)) (
    if (s.linkState k = 1 || s.linkState k = 5) && s.flag (lnkA k 0) 0 && s.kind ≠ 0 then
      s.atRef ((s.lnk k).since + 100000000) (fun s => s.setLinkState k 2)
    else s)

/-- The identity check of R197. -/
def State.identityOk (s : State) (k : Nat) (p : LinkPeer) : Bool :=
  match s.linkDir k with
  | none => false
  | some d =>
    p.topo == s.kind :: s.dims && p.lead == s.leadPkg && p.pkg == s.neighbour s.pkgNum d &&
      p.link % (2 * s.kind) == (if d % 2 = 0 then d + 1 else d - 1)

/-- Sends this side's identity (R197, step 3). -/
def State.sendIdentity (s : State) (k : Nat) : State := s.emit (.linkIdentity k s.pkgNum (s.kind :: s.dims) s.leadPkg)

/-- The limits of the four training steps, ns (R197). -/
def trainLimits : List Nat := [25000000, 5000000, 1000000, 100000]

/-- Steps within their limits. -/
def stepsOk (l : List Nat) : Bool := (l.zip trainLimits).all (fun x => decide (x.1 ≤ x.2))

/-- All 4 lanes work, in order or reversed; polarity does not matter (R194). -/
def lanesOk (l : List (Option (Nat × Bool))) : Bool :=
  let order := l.map (fun x => x.map (fun y => y.1))
  order == (List.range 4).map some || order == ((List.range 4).map some).reverse

/-- LINK_TRAINED: every step has passed, and the link becomes UP, or MISWIRED where the identity check fails (R197);
with fewer than 4 lanes it stays DOWN (R194). -/
def execLinkTrained (k : Nat) (t : Training) (s : State) :
    Host.Outcome State Fault Refusal :=
  guardI (decide (k < 12)) (
    if s.linkState k ≠ 2 || t.steps.length ≠ 4 || !stepsOk t.steps then s
    else s.atRef ((s.lnk k).since + t.steps.sum) (fun s =>
      if !lanesOk t.lanes then s.setLinkState k 1
      else
        let s := (s.sendIdentity k).wr (lnkA k 8) (BitVec.ofNat 32 (t.peer.link % 16 * 2 ^ 16 + t.peer.pkg % 1024))
        if s.identityOk k t.peer then
          let s := s.linkSet k { Lnk.init with ackRef := s.clk.ref }
          (s.setLinkState k 3).markClear 11 k
        else (s.setLinkState k 5).event (lnkA k 4) 3 (lnkA k 0x24)))

/-- LINK_TRAINING_OVERRUN: the step after those that passed overruns, and the link is DOWN (R197). -/
def execLinkTrainingOverrun (k : Nat) (steps : List Nat) (s : State) : Host.Outcome State Fault Refusal :=
  guardI (decide (k < 12)) (
    if s.linkState k ≠ 2 || 3 < steps.length || !stepsOk steps then s
    else s.atRef ((s.lnk k).since + steps.sum + trainLimits.getD steps.length 0) (fun s =>
      (if 2 ≤ steps.length then s.sendIdentity k else s).setLinkState k 1))

/-- Adds to a 64-bit counter, saturating (R216). -/
def State.count64 (s : State) (a n : Nat) : State := s.wr64 a (satAdd statTop (s.rd64 a) n)

/-! ### Receiving (R195, R199 to R201, R206) -/

/-- The codewords of a link since its last packet: up to 15 symbol errors are corrected and counted, and a codeword with
more is counted (R195). -/
def State.fecCount (s : State) (k : Nat) (corrected : List Nat) (codewords : Nat) : State :=
  (s.count64 (lnkA k 0xC) corrected.sum).countN (lnkA k 0x14) codewords

/-- A packet fails its CRC: counted, and a negative acknowledgement names its LSEQ, the next in order (R201). -/
def State.crcFail (s : State) (k : Nat) : State :=
  let x := s.lnk k
  (s.setLnk k { x with crcFails := x.crcFails + 1 }).emit (.linkNak k x.expect)

/-- LINK_CRC_FAILURE: the packet, and every later one until the replay reaches it, is discarded (R201). A packet of no
type of Table 08-3 fails too. -/
def execLinkCrcFailure (k _lseq : Nat) (corrected : List Nat) (codewords : Nat) (s : State) :
    Host.Outcome State Fault Refusal :=
  guardI (decide (k < 12) && corrected.all (fun n => decide (n ≤ 15)))
    (if s.linkState k = 3 then (s.fecCount k corrected codewords).crcFail k else s)

/-- Packet bytes with LSEQ cleared. -/
def clearSeq (b : Bytes) : Bytes :=
  let h := ofLe (b.take 16)
  leBytes 16 (h - h / 2 ^ 6 % 2 ^ 12 * 2 ^ 6) ++ b.drop 16

/-- A packet goes on towards its package; one that has no way is dropped. -/
def State.forward (s : State) (k vc dst : Nat) (b : Bytes) (units : Nat) : State :=
  let o := some (k, vc, units)
  (s.sendBytes dst vc (clearSeq b) o).getD (s.creditBack o)

/-- A packet arrives on a link; answers whether it is accepted. One out of order is discarded; one that was accepted before
is acknowledged again. -/
def State.rxPkt (s : State) (vc : Nat) (p : RxPkt) : State × Bool :=
  let x := s.lnk p.link
  if s.linkState p.link ≠ 3 then (s, false)
  else
    let s := s.fecCount p.link (p.errs.filter (fun n => decide (n ≤ 15))) (p.errs.filter (fun n => decide (15 < n))).length
    if p.errs.any (fun n => decide (15 < n)) then (s.crcFail p.link, false)
    else if p.lseq ≠ x.expect then
      (if (x.expect + 4096 - p.lseq) % 4096 ≤ 2048 then s.emit (.linkAck p.link ((x.expect + 4095) % 4096)) else s, false)
    else
      let s := (s.setLnk p.link { x with expect := (x.expect + 1) % 4096 }).emit (.linkAck p.link p.lseq)
      let s := s.tally 7 0x11 p.link p.len
      let units := cdiv (p.len + 20) 64
      match p.onward with
      | some (dst, b) => (s.forward p.link vc dst b units, true)
      | none => (s.creditBack (some (p.link, vc, units)), true)

/-- The packets of a message arrive on virtual channel `vc`; the message takes effect once all are accepted, and if it is
for this package. -/
def State.received (s : State) (vc : Nat) (rx : List RxPkt) (f : State → State) : State :=
  let x := rx.foldl (fun (x : State × Bool) p =>
    let y := x.1.rxPkt vc p
    (y.1, x.2 && y.2 && p.onward.isNone)) (s, true)
  if x.2 then f x.1 else x.1

/-- The links of arriving packets exist. -/
def rxOk (rx : List RxPkt) : Bool := rx.all (fun p => decide (p.link < 12))

/-- A link enters RETRAINING (R202). -/
def State.retraining (s : State) (k : Nat) : State :=
  (s.setLinkState k 4).event (lnkA k 4) 1 (lnkA k 0x1C)

/-- Packets of a replay buffer from an LSEQ on; all where it is not there. -/
def fromSeq (lseq : Nat) (l : List LinkPkt) : List LinkPkt :=
  match findAt (fun (p : LinkPkt) => p.seq == lseq) l 0 with
  | none => l
  | some (i, _) => l.drop i

/-- Sends packets of the replay buffer again, in order (R201). -/
def State.replaySend (s : State) (k : Nat) (l : List LinkPkt) : State :=
  l.foldl (fun s p => (s.emit (.fabric k (sealPkt p.seq p.bytes))).tally 7 0x12 k p.size) s

/-- LINK_NAK: the sender replays from the named LSEQ; the eighth consecutive failure of one packet
retrains the link (R201, R202). -/
def execLinkNak (k lseq : Nat) (s : State) : Host.Outcome State Fault Refusal :=
  guardI (decide (k < 12)) (
    let x := s.lnk k
    if s.linkState k = 3 && x.replay.any (fun p => p.seq == lseq) then
      let fails := if 0 < x.fails && x.failSeq = lseq then x.fails + 1 else 1
      let s := s.setLnk k { x with fails := fails, failSeq := lseq, ackRef := s.clk.ref }
      let s := s.event (lnkA k 4) 0 (lnkA k 0x18)
      if 8 ≤ fails then (s.setLnk k { s.lnk k with fails := 0 }).retraining k
      else s.replaySend k (fromSeq lseq x.replay)
    else s)

/-- LINK_ACK: packets up to the named LSEQ leave the replay buffer (R201). -/
def execLinkAck (k lseq : Nat) (s : State) : Host.Outcome State Fault Refusal :=
  guardI (decide (k < 12)) (
    let x := s.lnk k
    if x.replay.any (fun p => p.seq == lseq) then
      let rest := (fromSeq lseq x.replay).drop 1
      let s := s.setLnk k { x with
        replay := rest, fails := if rest.any (fun p => p.seq == x.failSeq) then x.fails else 0, ackRef := s.clk.ref }
      State.linkDrain k x.queue.length s
    else s)

/-- FLOW_CREDIT_RETURN (R200). -/
def execFlowCreditReturn (k vc units : Nat) (s : State) : Host.Outcome State Fault Refusal :=
  guardI (decide (k < 12) && decide (vc < 4)) (
    if s.linkState k = 3 then
      let x := s.lnk k
      let c := min (fullCredits.getD vc 0) (x.credits.getD vc 0 + units)
      State.linkDrain k x.queue.length (s.linkSet k { x with credits := setAt x.credits vc c })
    else s)

/-- ACK_TIMEOUT: 10 µs without an acknowledgement while packets are outstanding (R202). -/
def execAckTimeout (k : Nat) (s : State) : Host.Outcome State Fault Refusal :=
  guardI (decide (k < 12)) (
    if s.linkState k = 3 && !(s.lnk k).replay.isEmpty then
      s.atRef ((s.lnk k).ackRef + 10000) (fun s => s.retraining k)
    else s)

/-- RETRAIN: LNK_CTL.RETRAIN is written on an UP link (R202, Table 08-8). -/
def execRetrain (k : Nat) (s : State) : Host.Outcome State Fault Refusal :=
  guardI (decide (k < 12)) (
    if s.isReady && s.linkState k = 3 then (s.raise (lnkA k 0) 1).retraining k else s)

/-- RETRAINING_DONE: UP again, with its replay buffer and LSEQ, once the identity exchange has passed again (R202). -/
def execRetrainingDone (r : Retrained) (s : State) : Host.Outcome State Fault Refusal :=
  guardI (decide (r.link < 12)) (
    if s.linkState r.link = 4 && decide (s.clk.ref ≤ (s.lnk r.link).since + 1000000) then
      let s := s.sendIdentity r.link
      if !s.identityOk r.link r.peer then s
      else
        let s := (s.put (lnkA r.link 0) 1 1 0).setLinkState r.link 3
        let s := s.setLnk r.link { s.lnk r.link with fails := 0, ackRef := s.clk.ref }
        let l := (s.lnk r.link).replay
        let s := if l.isEmpty then s else s.raise (lnkA r.link 4) 0
        State.linkDrain r.link (s.lnk r.link).queue.length (s.replaySend r.link l)
    else s)

/-- A packet that has not been sent yet leaves a link for another one; without a way it is dropped. -/
def State.reroute (s : State) (p : LinkPkt) : State :=
  (s.sendBytes (le p.bytes 0 16 / 2 ^ 18 % 1024) p.vc p.bytes p.origin).getD (s.creditBack p.origin)

/-- A link leaves UP or RETRAINING for DOWN, or for DISABLED, and its replay buffer is discarded
(R202); packets that wait for credit take other links. -/
def State.linkFall (s : State) (k dst' : Nat) : State :=
  let wait := (s.lnk k).queue
  let s := (s.put (lnkA k 0) 1 1 0).setLinkState k dst'
  let s := if dst' = 1 then s.event (lnkA k 4) 2 (lnkA k 0x20) else s
  wait.foldl State.reroute (s.linkSet k { Lnk.init with since := s.clk.ref })

end Sys2Proof.Machine
end

