-- ==== Sys2Proof/Machine/Berths.lean ====
section
/-!
DEFINITION. Berths (R124 to R131): opening and closing, credits, and the writes and requests that
arrive at a berth's credit manager.
-/

namespace Sys2Proof.Machine

open Sys2Proof

/-- The 4 KiB units that a length costs (R125). -/
def creditCost (len : Nat) : Nat := cdiv len 4096

/-- Open or closing berths of a die, in order. -/
def State.berthsHeld (s : State) (d : Nat) : List Nat :=
  (s.comp.berths.filter (fun e => e.1 / 256 == d && s.berthState d (e.1 % 256) != 0)).map (fun e => e.1 % 256)

/-- MC_BERTH_BANKS of a core (R109). -/
def State.berthBanks (s : State) (d k : Nat) : Nat :=
  ((List.range 32).filter (fun b => (s.berthsHeld d).any (fun i =>
    let r := s.berthRegion d i
    s.flag (berthA d i 0) 2 && s.fld (berthA d i 0) 12 8 == k &&
      overlaps (spadLo k + b * 0x80000) 0x80000 r.base r.size))).foldl setBitN 0

/-- Writes GRANTED of a berth: units granted and not returned. -/
def State.berthGranted (s : State) (d b : Nat) : State :=
  s.put (berthA d b 0x10) 28 16 (((s.berth d b).grants.map (fun g => creditCost g.len)).sum)

/-- A berth becomes CLOSED: its grants are void and its memory waits for zeroing (R129, R121). -/
def State.berthShut (s : State) (d b : Nat) : State :=
  let r := s.berthRegion d b
  let s := ((s.put (berthA d b 0) 1 0 0).setBerth d b { s.berth d b with queue := [], grants := [] }).berthGranted d b
  s.dirtyAdd [r]

/-- The CLOSING berth whose grants have reached zero becomes CLOSED (R129). -/
def State.berthDrained (s : State) (d b : Nat) : State :=
  if s.berthState d b = 2 && (s.berth d b).grants.isEmpty then s.berthShut d b else s

/-- A control packet of a berth's credit manager to a sender. -/
def State.creditPkt (s : State) (type d b gen dstPkg dstDie chan off : Nat) (payload : Bytes) : FabPkt :=
  ⟨type, 0, dstPkg, dstDie, s.pkgNum, d, chan, b, gen, off, 0, 0, payload⟩

/-- Refuses a request: counted at the berth's die, and the sender is told (R125). -/
def State.refuseCredit (s : State) (d b gen : Nat) (c : Credit) (st : Status) : State :=
  let s :=
    if st = .windowClosed then s.event (bthA d 0) 1 (bthA d 0xC)
    else if st = .berthSourceDenied then s.event (bthA d 0) 2 (bthA d 0x10)
    else if st = .lengthExceeds then s.event (bthA d 0) 4 (bthA d 0x18)
    else s
  s.sendTo (s.creditPkt 4 d b gen c.srcPkg c.srcDie c.chan c.off (leBytes 8 st.code))

/-- Drops a write: counted at the berth and its die, and the sender is told (R127, R130). -/
def State.dropWrite (s : State) (d b gen srcPkg srcDie chan off : Nat) (st : Status) : State :=
  let s :=
    if st = .windowClosed then (s.event (bthA d 0) 0 (bthA d 8)).count (berthA d b 0x14)
    else if st = .berthNoCredit then s.event (bthA d 0) 3 (bthA d 0x14)
    else if st = .lengthExceeds then s.event (bthA d 0) 4 (bthA d 0x18)
    else s
  s.sendTo (s.creditPkt 6 d b gen srcPkg srcDie chan off (leBytes 8 st.code))

/-- The placer's close command at t0: queued requests are refused (R129). -/
def State.berthClose (s : State) (d b : Nat) : State :=
  if s.berthState d b = 1 then
    let x := s.berth d b
    let gen := s.fld (berthA d b 0) 23 16
    let s := (s.put (berthA d b 0) 1 0 2).setBerth d b { x with queue := [], closeRef := s.clk.ref }
    let s := x.queue.foldl (fun s c => s.refuseCredit d b gen c .windowClosed) s
    s.berthDrained d b
  else s

/-- Every open berth of a job closes: in two phases, or at once (R212). -/
def State.closeBerths (s : State) (job : Nat) (atOnce : Bool) : State :=
  (s.comp.berths.filter (fun e => e.2.job == job)).foldl (fun s e =>
    let d := e.1 / 256
    let b := e.1 % 256
    if s.berthState d b = 0 then s
    else if atOnce then s.berthShut d b
    else s.berthClose d b) s

/-- Every berth of the package becomes CLOSED at once (R131). -/
def State.closeAllBerths (s : State) : State :=
  s.comp.berths.foldl (fun s e =>
    if s.berthState (e.1 / 256) (e.1 % 256) = 0 then s else s.berthShut (e.1 / 256) (e.1 % 256)) s

/-- The lowest closed berth index of a die whose memory is not waiting for zeroing (R130). -/
def State.freeBerth (s : State) (d : Nat) : Option Nat :=
  (List.range 256).find? (fun b =>
    s.berthState d b == 0 && !s.comp.dirty.any (fun r =>
      let q := s.berthRegion d b
      r.die == d && overlaps r.base r.size q.base q.size))

/-- The place of a berth on die `d`: its core for a scratchpad berth, and its base. In the die pool it takes whole units
of 64 KiB (R112). -/
def State.berthPlace (s : State) (d size : Nat) (core : Option Nat) : Option (Option Nat × Nat) :=
  match core with
  | some k => (firstFit (s.usedOn d) (spadLo k) (spadLo k + spadSize) size 4096).map (fun a => (some k, a))
  | none => (firstFit (s.usedOn d) poolLo kvBankLo (alignUp 65536 size) 65536).map (fun a => (none, a))

/-- Opens a berth on die `d` for a job (R124). The spec leaves the place to the placer: which of the die pool and the
enabled cores' scratchpads it is, and the credit pool, are free; within it the berth takes the lowest place that fits. A
berth that finds no room is not opened. -/
def State.openBerth (s : State) (d job size4k srcLo srcHi : Nat) : State :=
  let units := max 1 size4k
  let core := ((none :: (List.range 17).map some).getD (Config.freeNat (s.free + 1) % 18) none).filter (fun k => s.coreRole d k == 1)
  match s.freeBerth d, s.berthPlace d (units * 4096) core with
  | some b, some (core, a) =>
    let gen := (s.fld (berthA d b 0) 23 16 + 1) % 256
    let pool := 1 + Config.freeNat s.free % min 4096 units
    let s := s.bump.bump.claim [⟨d, a, units * 4096⟩]
    let at_ : Nat × Nat := match core with | some k => (k * 2 ^ 8 + 4, spadLo k) | none => (0, poolLo)
    let s := s.wr (berthA d b 0) (BitVec.ofNat 32 (gen * 2 ^ 16 + at_.1 + 1))
    let s := s.wr (berthA d b 4) (BitVec.ofNat 32 ((a - at_.2) / 4096))
    let s := s.wr (berthA d b 8) (BitVec.ofNat 32 units)
    let s := s.wr (berthA d b 0xC) (BitVec.ofNat 32 (srcHi * 2 ^ 16 + srcLo))
    let s := s.wr (berthA d b 0x10) (BitVec.ofNat 32 pool)
    (s.wr (berthA d b 0x14) 0).setBerth d b ⟨job, [], [], 0⟩
  | _, _ => s

/-- The variant contains compute die `d` (Table 00-1). -/
def State.diePresent (s : State) (d : Nat) : Bool := decide (d < s.fuses.cdCount)

/-- A CLOSING berth whose 100 µs have passed closes first. -/
def State.berthDue (s : State) (d b : Nat) : State :=
  if s.berthState d b = 2 && decide ((s.berth d b).closeRef + 100000 ≤ s.clk.ref) then s.berthShut d b else s

/-- The order of requests that arrive in the same cycle: lower package, then die, then channel (R126). -/
def Credit.before (a b : Credit) : Bool :=
  a.ref == b.ref && (decide (a.srcPkg < b.srcPkg) || (a.srcPkg == b.srcPkg &&
    (decide (a.srcDie < b.srcDie) || (a.srcDie == b.srcDie && decide (a.chan < b.chan)))))

/-- A request takes its place in a berth's queue. DEDUCED (log 135): requests at the same nanosecond of the system reference
arrive in the same cycle. -/
def queueCredit (c : Credit) (q : List Credit) : List Credit :=
  q.takeWhile (fun x => !c.before x) ++ c :: q.dropWhile (fun x => !c.before x)

/-- CREDIT_REQ: a request arrives and is queued or refused (R125, R199). -/
def execCreditReq (v : Via Nat) (berth gen srcPkg srcDie chan off len : Nat) (s : State) :
    Host.Outcome State Fault Refusal :=
  guardI (rxOk v.rx && (decide (v.msg < 8) && (decide (berth < 256) && (decide (srcPkg < 1024) && (decide (srcDie < 7) &&
      decide (chan < 8)))))) (s.received 0 v.rx (fun s =>
    let c : Credit := ⟨srcPkg, srcDie, chan, off, len, s.clk.ref⟩
    if !s.diePresent v.msg then s.refuseCredit v.msg berth gen c .fabricUnreachable
    else
      let s := s.berthDue v.msg berth
      let size := s.fld (berthA v.msg berth 8) 15 0 * 4096
      if s.berthState v.msg berth ≠ 1 || s.fld (berthA v.msg berth 0) 23 16 ≠ gen then
        s.refuseCredit v.msg berth gen c .windowClosed
      else if srcPkg < s.fld (berthA v.msg berth 0xC) 9 0 || s.fld (berthA v.msg berth 0xC) 25 16 < srcPkg then
        s.refuseCredit v.msg berth gen c .berthSourceDenied
      else if off % 8 ≠ 0 || len % 8 ≠ 0 || len < 8 || 65536 < len || size < off + len ||
          s.fld (berthA v.msg berth 0x10) 12 0 < creditCost len then
        s.refuseCredit v.msg berth gen c .lengthExceeds
      else s.setBerth v.msg berth { s.berth v.msg berth with queue := queueCredit c (s.berth v.msg berth).queue }))

/-- The head of a berth's queue is granted when its units are free and its range meets no
outstanding grant (R126). -/
def State.grantHead (s : State) (d b : Nat) : State :=
  let x := s.berth d b
  match x.queue with
  | [] => s
  | c :: rest =>
    let free := s.fld (berthA d b 0x10) 12 0 - s.fld (berthA d b 0x10) 28 16
    if s.berthState d b = 1 && decide (creditCost c.len ≤ free) &&
        x.grants.all (fun g => !overlaps c.off c.len g.off g.len) then
      let s := (s.setBerth d b { x with queue := rest, grants := x.grants ++ [c] }).berthGranted d b
      s.sendTo (s.creditPkt 3 d b (s.fld (berthA d b 0) 23 16) c.srcPkg c.srcDie c.chan c.off (leBytes 8 c.len))
    else s

/-- CREDIT_RELEASE: a sender returns its grant (R128); a drained CLOSING berth closes (R129). -/
def execCreditRelease (v : Via Nat) (berth srcPkg srcDie chan : Nat) (s : State) : Host.Outcome State Fault Refusal :=
  guardI (rxOk v.rx && (decide (v.msg < 7) && decide (berth < 256))) (s.received 0 v.rx (fun s =>
    let x := s.berth v.msg berth
    let keep := x.grants.filter (fun g => !(g.srcPkg == srcPkg && g.srcDie == srcDie && g.chan == chan))
    ((s.setBerth v.msg berth { x with grants := keep }).berthGranted v.msg berth).berthDrained v.msg berth))

/-- WRITE: a berth write is stored and acknowledged, or dropped (R127, R129, R130, R199). -/
def execWrite (v : Via Nat) (berth gen srcPkg srcDie chan off : Nat) (data : Bytes) (s : State) :
    Host.Outcome State Fault Refusal :=
  guardI (rxOk v.rx && (decide (v.msg < 8) && (decide (berth < 256) && (decide (srcPkg < 1024) && (decide (srcDie < 7) &&
      decide (chan < 8)))))) (s.received 2 v.rx (fun s =>
    if !s.diePresent v.msg then s.dropWrite v.msg berth gen srcPkg srcDie chan off .fabricUnreachable
    else
      let s := s.berthDue v.msg berth
      let mine := (s.berth v.msg berth).grants.filter (fun g =>
        g.srcPkg == srcPkg && g.srcDie == srcDie && g.chan == chan)
      if s.berthState v.msg berth = 0 || s.fld (berthA v.msg berth 0) 23 16 ≠ gen then
        s.dropWrite v.msg berth gen srcPkg srcDie chan off .windowClosed
      else if mine.isEmpty then s.dropWrite v.msg berth gen srcPkg srcDie chan off .berthNoCredit
      else if !mine.any (fun g => decide (g.off ≤ off) && decide (off + data.length ≤ g.off + g.len)) then
        s.dropWrite v.msg berth gen srcPkg srcDie chan off .lengthExceeds
      else
        let r := s.berthRegion v.msg berth
        let s := (s.wrBytes v.msg (r.base + off) data).tally v.msg 0x11 0xFF data.length
        s.sendTo (s.creditPkt 5 v.msg berth gen srcPkg srcDie chan off (leBytes 8 data.length))))

/-- BERTH_CLOSE_EXPIRY: 100 µs after the close command (R129). -/
def execBerthCloseExpiry (die berth : Nat) (s : State) : Host.Outcome State Fault Refusal :=
  guardI (decide (die < 7) && decide (berth < 256)) (
    if s.berthState die berth = 2 then
      s.atRef ((s.berth die berth).closeRef + 100000) (fun s => s.berthShut die berth)
    else s)

end Sys2Proof.Machine
end

