-- ==== Sys2Proof/Machine/Transactions.lean ====
section
/-!
DEFINITION. The configuration transaction (chapter 15): opening, staging, rolling back and timing
out. Validation and application stand in Commit.lean.
-/

namespace Sys2Proof.Machine

open Sys2Proof

/-- GLB_CFG_STAT.OPEN. -/
def State.cfgOpen (s : State) : Bool := s.flag 0x100 0
/-- GLB_CFG_STAT.COMMITTING. -/
def State.cfgCommitting (s : State) : Bool := s.flag 0x100 1
/-- The ring that owns the open transaction. -/
def State.cfgOwner (s : State) : Nat := s.fld 0x100 28 16
/-- Ring `r` owns the open transaction. -/
def State.cfgOwns (s : State) (r : Nat) : Bool := s.cfgOpen && decide (s.cfgOwner = r)

/-- Closes the transaction: nothing stays staged. -/
def State.cfgClose (s : State) : State :=
  let s : State := { s with cfg := { s.cfg with staged := [], commitNum := none } }
  ((s.put 0x100 2 0 0).put 0x100 28 16 0).put (timA 0x110) 3 3 0

/-- The transaction of a ring that is disabled or halted rolls back, unless it is committing
(R349). -/
def State.cfgRing (s : State) (r : Nat) : State :=
  if s.cfgOwns r && !s.cfgCommitting then s.cfgClose else s

/-- CFG_BEGIN (R345). -/
def execCfgBegin (r : Nat) (s : State) : Host.Outcome State Fault Refusal :=
  guardI (decide (r < 8192)) (s.withDesc r 0x02 (fun s d =>
    if s.cfgOpen || s.cfgCommitting then s.complete r d.num .cfgBusy
    else
      let s := ((s.put 0x100 0 0 1).put 0x100 28 16 r).count 0x108
      let s : State := { s with cfg := ⟨[], s.clk.ref, none, 0, none⟩ }
      s.complete r d.num .success))

/-- What a CFG_COMMIT or CFG_ROLLBACK that names no transaction of its ring completes with (R347,
R349). -/
def State.cfgMiss (s : State) (r num : Nat) : State :=
  if s.cfgOwns r then s.complete r num .cfgBusy
  else if s.cfg.timedOut = some r then
    ({ s with cfg := { s.cfg with timedOut := none } } : State).complete r num .cfgTimeout
  else s.complete r num .cfgNotOpen

/-- CFG_ROLLBACK (R347). -/
def execCfgRollback (r : Nat) (s : State) : Host.Outcome State Fault Refusal :=
  guardI (decide (r < 8192)) (s.withDesc r 0x04 (fun s d =>
    if s.cfgOwns r && !s.cfgCommitting then s.cfgClose.complete r d.num .success
    else s.cfgMiss r d.num))

/-- CFG_TIMEOUT: 10 s without a fetched CFG_COMMIT roll the transaction back (R349). -/
def execCfgTimeout (s : State) : Host.Outcome State Fault Refusal :=
  .next (
    if s.cfgOpen && !s.cfgCommitting then
      s.atRef (s.cfg.openRef + 10000000000) (fun s =>
        let r := s.cfgOwner
        let n := s.cfg.staged.length
        let s := s.cfgClose.event 0x100 4 0x120
        let s : State := { s with cfg := { s.cfg with timedOut := some r } }
        s.hmLog 0x03 none r (s.roleOf r) (leBytes 8 s.clk.tick ++ leBytes 4 n ++ leBytes 2 Status.cfgTimeout.code))
    else s)

/-- Replaces or inserts a staged value, in address order. -/
def stagePut (a : Nat) (v : Word) : List (Nat × Word) → List (Nat × Word)
  | [] => [(a, v)]
  | (b, w) :: l => if a = b then (a, v) :: l else if a < b then (a, v) :: (b, w) :: l else (b, w) :: stagePut a v l

/-- A write to transactional fields: staged while a transaction is open and not frozen, ignored
and counted otherwise (R344, R346). -/
def State.stageWrite (s : State) (a : Nat) (v : Word) : State :=
  if s.cfgOpen && !s.cfgCommitting then
    if 4096 ≤ s.cfg.staged.length && !s.cfg.staged.any (fun e => e.1 == a) then s.put 0x100 2 2 1
    else { s with cfg := { s.cfg with staged := stagePut a v s.cfg.staged } }
  else s.event 0x100 5 0x124

/-- The state in which every staged value stands in its register. -/
def State.stagedView (s : State) : State :=
  s.cfg.staged.foldl (fun s e =>
    match rowAt e.1 with
    | none => s
    | some r =>
      let old := (s.rd e.1).toNat
      s.wr e.1 (BitVec.ofNat 32 (old - (old &&& r.rw) + (e.2.toNat &&& r.rw)))) s

end Sys2Proof.Machine
end

