-- ==== Sys2Proof/Machine/Rings.lean ====
section
/-!
DEFINITION. The host interface (chapter 14): doorbells, fetching and checking descriptors, ring
set-up, roles, receive buffers, MSI-X and the PCI Express link.
-/

namespace Sys2Proof.Machine

open Sys2Proof

/-- A ring halts (R328); its open transaction rolls back (R349) and its maker session ends (R383). -/
def State.haltAll (s : State) (r : Nat) (st : Status) : State := ((s.haltRing r st).cfgRing r).makerRing r

/-- A doorbell write that is ignored (R327). -/
def State.dbIgnored (s : State) : State := s.event (hifA 4) 2 (hifA 0x10)

/-- SQ_TAIL (R327). -/
def execSqTail (r v : Nat) (s : State) : Host.Outcome State Fault Refusal :=
  guardI (decide (r < 8192)) (
    if !s.ringOn r || s.ringHalted r then s.dbIgnored
    else
      let cur := (s.ring r).sqTail
      let head := (s.rd (ringA r 0x1C)).toNat
      let back := decide (dist32 v cur < 0)
      let far := decide (s.ringSize r < (v % 2 ^ 32 + 2 ^ 32 - head) % 2 ^ 32)
      if back || far then s.haltAll r .descriptorInvalid
      else s.setRing r { s.ring r with sqTail := v % 2 ^ 32 })

/-- CQ_HEAD (R327). -/
def execCqHead (r v : Nat) (s : State) : Host.Outcome State Fault Refusal :=
  guardI (decide (r < 8192)) (
    if !s.ringOn r || s.ringHalted r then s.dbIgnored
    else
      let back := decide (dist32 v (s.ring r).cqHead < 0)
      let far := decide (s.cqUsed r < (v % 2 ^ 32 + 2 ^ 32 - (s.ring r).cqHead) % 2 ^ 32)
      if back || far then s.haltAll r .descriptorInvalid
      else s.setRing r { s.ring r with cqHead := v % 2 ^ 32 })

/-- HIF_RING_STAT.BUSY. -/
def State.ringBusy (s : State) (r : Nat) : Bool := decide (0 < s.reserved r)

/-- The driver check has passed (R365). -/
def State.drvAccepted (s : State) : Bool := s.flag (mgtA 0x1C) 0

/-- A write of HIF_RING_CFG (R326): SIZE_LOG2 and VECTOR while disabled, then ENABLE. -/
def State.ringCfgWrite (s : State) (r : Nat) (val : Word) : State :=
  let wasOn := s.ringOn r
  let n := bits val 20 16
  let s := if !wasOn && 6 ≤ n && n ≤ 16 then s.put (ringA r 0x10) 20 16 n else s
  let s := if wasOn then s else s.put (ringA r 0x10) 10 0 (bits val 10 0)
  if !s.drvAccepted then s
  else if val.toNat.testBit 31 then
    if wasOn then s
    else
      let s := (s.put (ringA r 0x10) 31 31 1).wr (ringA r 0x1C) 0
      (s.wr (ringA r 0x20) 0).setRing r { Ring.init with classC := (s.ring r).classC }
  else if !wasOn || s.ringBusy r then s
  else
    let s := (s.put (ringA r 0x10) 31 31 0).wr (ringA r 0x18) 0
    ((s.cfgRing r).makerRing r).updateRing r

/-- BAR0 is open to writes of the harbourmaster's and the other blocks' registers (R358). -/
def State.bar0Open (s : State) : Bool := s.isReady

/-- RING_ENABLE: a write of HIF_RING_CFG with ENABLE = 1 (R326). -/
def execRingEnable (r : Nat) (val : Word) (s : State) : Host.Outcome State Fault Refusal :=
  guardI (decide (r < 8192)) (if s.bar0Open then s.ringCfgWrite r (val ||| 0x80000000#32) else s)

/-- RING_DISABLE: a write of HIF_RING_CFG with ENABLE = 0 (R326). -/
def execRingDisable (r : Nat) (val : Word) (s : State) : Host.Outcome State Fault Refusal :=
  guardI (decide (r < 8192)) (if s.bar0Open then s.ringCfgWrite r (val &&& 0x7FFFFFFF#32) else s)

/-! ### Fetching and checking descriptors (R328 to R331) -/

/-- Enumerated operands and instance ranges (R330 step 2). DEDUCED (log 137): CORE of a scrub of a scratchpad or instruction
memory is an instance range too. -/
def State.enumOk (s : State) (op : Nat) (b : Bytes) : Bool :=
  let f := fun o n => le b o n
  let die := fun d => s.inService.contains d
  if op = 0x01 then f 8 4 < 8192 && f 12 1 ≤ 1 && f 14 2 < 32
  else if op = 0x08 then mgtOps.contains (f 8 2)
  else if op = 0x13 then f 8 4 < 8192
  else if op = 0x18 then f 8 1 ≤ 1
  else if op = 0x19 then f 8 1 ≤ 3 && die (f 9 1) && (f 8 1 < 2 || f 10 1 ≤ 16)
  else if op = 0x20 then f 8 1 < 64 && 1 ≤ f 9 1 && f 9 1 ≤ 5
  else if op = 0x22 then f 8 1 < 64 && f 9 1 ≤ 1
  else if op = 0x23 then f 8 1 < 64
  else if op = 0x28 then f 8 1 < 16
  else if op = 0x29 || op = 0x3A then f 8 1 < 48
  else if op = 0x30 then f 8 1 < 4 && f 9 1 ≤ 6
  else if op = 0x31 then f 8 1 < 8 && f 9 1 ≤ 1
  else if op = 0x38 then f 8 1 ≤ 1
  else if op = 0x40 then f 8 1 = 7 || die (f 8 1)
  else true

/-- Every address operand is 8-byte aligned (R330 step 2). -/
def alignOk (op : Nat) (b : Bytes) : Bool := (opAddrs op).all (fun x => le b x.1 8 % 8 = 0)

/-- The permission bit an operator ring needs (Table 14-2); none where any ring may. -/
def permBit (op : Nat) : Option Nat :=
  if 0x10 ≤ op && op ≤ 0x14 then some 0
  else if op = 0x21 then some 1
  else if op = 0x30 || op = 0x31 then some 2
  else if op = 0x32 then some 3
  else if op = 0x40 then some 4 else none

/-- A maker session is open on ring `r`. -/
def State.makerOn (s : State) (r : Nat) : Bool :=
  match s.hm.maker with
  | none => false
  | some m => m.opened && decide (m.ring = r)

/-- Role and permission (R330 step 3). -/
def State.roleCheck (s : State) (r op : Nat) (b : Bytes) : Status :=
  if roleNeeded op (le b 8 2) && !s.installer r then .permissionDenied
  else if (match permBit op with | none => false | some p => !s.perm r p) then .permissionDenied
  else if op = 0x13 && !s.installer r && le b 8 4 ≠ r then .permissionDenied
  else if op = 0x08 && le b 8 2 = 0x34 && !s.makerOn r then .makerSessionRequired
  else .success

/-- The 32-bit length, count and size operands of an opcode. -/
def opLens : Nat → List Nat
  | 0x08 => [12, 32]
  | 0x10 => [8]
  | 0x11 => [12, 32, 36]
  | 0x12 => [12, 24, 28, 48, 52]
  | 0x18 => [12]
  | 0x19 => [12, 32]
  | 0x22 => [12]
  | 0x23 => [12]
  | 0x29 => [12]
  | 0x30 => [12]
  | 0x32 => [12]
  | 0x38 => [12]
  | 0x39 => [12]
  | 0x3A => [12]
  | 0x40 => [12]
  | _ => []

/-- Bytes that every OFFLOAD_POST buffer must hold: the header and the least packet list. The spec
states no largest offloadable sample; a sample that a buffer cannot hold completes it with
LENGTH_EXCEEDS. -/
def offloadMin : Nat := 40

/-- The length rules of an opcode (Table 14-4, R331, R334). -/
def State.lenRule (_ : State) (op : Nat) (b : Bytes) : Bool :=
  let f := fun o => le b o 4
  if op = 0x08 then mgtReqOk (le b 8 2) (f 12) && mgtRespMin (le b 8 2) ≤ f 32
  else if op = 0x10 then 0 < f 8
  else if op = 0x11 then (le b 8 2 ≠ 0 || 0 < f 12) && 160 ≤ f 32
  else if op = 0x12 then 0 < f 12 && 160 ≤ f 24 && f 12 * 32 ≤ f 28 && f 12 * 8 ≤ f 48
  else if op = 0x18 then 32 ≤ f 12
  -- DRAM, die pool, scratchpad and instruction memory ranges are checked by the scrub itself
  else if op = 0x19 then 0 < f 12 && f 32 = 32
  else if op = 0x22 then f 12 = 16384
  else if op = 0x23 then 262176 ≤ f 12
  else if op = 0x29 then 0 < f 12
  else if op = 0x30 then 14 ≤ f 12 && f 12 ≤ 1514
  else if op = 0x32 then 0 < f 12 && f 12 % 80 = 0
  else if op = 0x38 then 65536 ≤ f 12
  else if op = 0x39 then offloadMin ≤ f 12
  else if op = 0x40 then f 12 = (if le b 8 1 = 7 then 512 else 256)
  else true

/-- All length checks of R330 step 4: no 0xFFFF_FFFF, the opcode's rules, and no address range past
2^64. -/
def State.lenOk (s : State) (op : Nat) (b : Bytes) : Bool :=
  (opLens op).all (fun o => le b o 4 ≠ 0xFFFFFFFF) && s.lenRule op b &&
    (opAddrs op).all (fun x => decide (le b x.1 8 + (if x.2.1 = 0 then x.2.2 else le b x.2.1 4 * x.2.2) ≤ 2 ^ 64))

/-- The checks of R330, steps 1 to 4, in order. -/
def State.checkDesc (s : State) (r : Nat) (b : Bytes) : Status :=
  let op := dOp b
  match opFields op with
  | none => .opcodeInvalid
  | some fs =>
    if !reservedZero fs b || 3 < dFlags b || !alignOk op b || !s.enumOk op b then .descriptorInvalid
    else
      let st := s.roleCheck r op b
      if st ≠ .success then st
      else if s.lenOk op b then .success else .lengthExceeds

/-- The opcodes that are not fetched during a package job loss (R339). -/
def jobOp (op : Nat) : Bool := (0x10 ≤ op && op ≤ 0x14) || op = 0x19

/-- What happens at a descriptor's fetch beyond its checks: a CFG_COMMIT freezes the staging of its
owner (R347), and a harbourmaster request joins the queue (R391). -/
def State.fetched (s : State) (r num op : Nat) : State :=
  if op = 0x03 && s.cfgOwns r && !s.cfgCommitting then
    let s : State := { s with cfg := { s.cfg with commitNum := some num, commitT := s.clk.t } }
    s.put 0x100 1 1 1
  else if op = 0x08 then { s with hm := { s.hm with queue := s.hm.queue ++ [.ring r num] } }
  else s

/-- What a descriptor fetched now may rest on later (R157, R302). -/
def State.fetchInfo (s : State) : Fetch :=
  ⟨s.clk.t, s.clk.tick, ((List.range 4).filter s.mayRelease).foldl setBitN 0, s.saf.stops⟩

/-- DESCRIPTOR_FETCH: the next descriptor of ring `r`, `none` where the host read failed (R328).
Nothing is fetched while the link is down (R325), without completion room beyond the reserved
count, or, for a job descriptor, during a package job loss (R339). -/
def execDescriptorFetch (r : Nat) (desc : Option Bytes) (s : State) : Host.Outcome State Fault Refusal :=
  guardI (decide (r < 8192)) (
    let head := (s.rd (ringA r 0x1C)).toNat
    if !s.isReady || !s.ringOn r || s.ringHalted r || !s.linkUp || head = (s.ring r).sqTail ||
        s.cqFree r ≤ s.reserved r then s
    else
      match desc with
      | none => s.haltAll r .hostMemoryFault
      | some raw =>
        let b := fitTo 64 raw
        if s.loss.isSome && jobOp (dOp b) then s
        else
          let d : Inflight := ⟨head, dTag b, dOp b, (dFlags b).testBit 0, (dFlags b).testBit 1, b, false, s.fetchInfo⟩
          let s := (s.wr (ringA r 0x1C) (BitVec.ofNat 32 (head + 1))).tally 7 0x50 0xFF 1
          let s := s.setRing r { s.ring r with fl := (s.ring r).fl ++ [d] }
          let st := s.checkDesc r b
          if st = .success then s.fetched r head d.op else s.complete r head st)

/-- NOP (R332). -/
def execNop (r : Nat) (s : State) : Host.Outcome State Fault Refusal :=
  guardI (decide (r < 8192)) (s.withDesc r 0x00 (fun s d => s.complete r d.num .success))

/-- RING_ROLE (R329). -/
def execRingRole (r : Nat) (s : State) : Host.Outcome State Fault Refusal :=
  guardI (decide (r < 8192)) (s.withDesc r 0x01 (fun s d =>
    let t := le d.bytes 8 4
    if t = 0 then s.complete r d.num .descriptorInvalid
    else if s.ringOn t && s.ringBusy t then s.complete r d.num .ringBusy
    else ((s.put (ringA t 0x14) 31 31 (le d.bytes 12 1)).put (ringA t 0x14) 5 0 (le d.bytes 14 2)).complete
      r d.num .success))

/-- RX_POST: a buffer for received CAN records (R332, Table 14-4). -/
def execRxPost (r : Nat) (s : State) : Host.Outcome State Fault Refusal :=
  guardI (decide (r < 8192)) (s.withDesc r 0x32 (fun s d =>
    s.setRing r { s.ring r with rx := (s.ring r).rx ++ [⟨d.num, le d.bytes 16 8, le d.bytes 12 4 / 80, 0, 0⟩] }))

/-- Completes the first receive buffer with the records written. -/
def State.rxDone (s : State) (r : Nat) (x : RxBuf) : State :=
  (s.setRing r { s.ring r with rx := (s.ring r).rx.drop 1 }).completeR r x.num .success x.got

/-- RX_POST_TIMEOUT: 1 ms after the buffer's first record (Table 14-4). -/
def execRxPostTimeout (r : Nat) (s : State) : Host.Outcome State Fault Refusal :=
  guardI (decide (r < 8192)) (
    match (s.ring r).rx with
    | [] => s
    | x :: _ => if x.got = 0 then s else s.atRef (x.since + 1000000) (fun s => s.rxDone r x))

/-- MSIX_SIGNAL: a vector with entries not yet signalled, at most once per 2 µs (R323). -/
def execMsixSignal (v : Nat) (s : State) : Host.Outcome State Fault Refusal :=
  guardI (decide (v < 2048)) (
    let last := tget 0 s.hif.msiLast v
    if !s.hif.msiPend.contains v || s.clk.ref + 1 < last + 2000 then s
    else
      let s : State := { s with hif := { s.hif with
        msiPend := s.hif.msiPend.filter (fun x => x != v), msiLast := tset 0 s.hif.msiLast v (s.clk.ref + 1) } }
      s.emitHost (.msix v))

/-- PCIE_LINK_DOWN (R325). -/
def execPcieLinkDown (s : State) : Host.Outcome State Fault Refusal := .next (s.put (hifA 0) 9 0 0)

/-- PCIE_LINK_UP: the trained generation and width (R321, Table 14-11). -/
def execPcieLinkUp (gen width : Nat) (s : State) : Host.Outcome State Fault Refusal :=
  .next (
    if s.hm.phase = .reset || s.hm.phase = .tripped || gen < 1 || 5 < gen || !([1, 2, 4, 8, 16].contains width) then s
    else s.put (hifA 0) 9 0 (b2n (decide (gen < 5) || decide (width < 16)) * 512 + width * 16 + gen))

end Sys2Proof.Machine
end

