-- ==== Sys2Proof/Machine/Package.lean ====
section
/-!
DEFINITION. Ciboica packages: the manifest (R139), the package checks (R138) and retention (R333).
-/

namespace Sys2Proof.Machine

open Sys2Proof

/-! ### The manifest (Tables 06-3 to 06-5) -/

/-- OPERATOR_COUNT, OUTPUT_COUNT, SEM_COUNT, PACKAGES and DIES_MIN. -/
def pkgOps (p : Package) : Nat := le p.manifest 8 4
def pkgOutputs (p : Package) : Nat := le p.manifest 16 4
def pkgSems (p : Package) : Nat := le p.manifest 20 4
def pkgSpan (p : Package) : Nat := le p.manifest 24 4
def pkgDies (p : Package) : Nat := le p.manifest 28 4
/-- MAX_SEQUENCES and MAX_SEQ_TOKENS. -/
def pkgMaxSeq (p : Package) : Nat := le p.manifest 32 4
def pkgMaxTok (p : Package) : Nat := le p.manifest 36 4
/-- CLASSES, PIN_BANKS, PIN_POOL_64K and PAGE_SHIFT. -/
def pkgClasses (p : Package) : Nat := le p.manifest 40 2
def pkgPinBanks (p : Package) : Nat := le p.manifest 42 2
def pkgPinPool (p : Package) : Nat := le p.manifest 44 4
def pkgShift (p : Package) : Nat := le p.manifest 48 1

/-- An operator record. -/
structure OpRec where
  first : Nat
  tiles : Nat
  cycles : Nat
  progLen : Nat
  level : Nat
  asym : Bool
  attention : Bool
  remote : Bool
  collBytes : Nat
  coll : Nat
  deriving DecidableEq, Repr

/-- Operator record `i`. -/
def opRec (p : Package) (i : Nat) : OpRec :=
  let b := slice p.manifest (64 + 32 * i) 32
  let f := le b 18 2
  ⟨le b 0 4, le b 4 4, le b 8 4, le b 12 4, le b 16 2, f.testBit 0, f.testBit 1, f.testBit 2, le b 20 4, le b 24 1⟩

/-- Every operator record, in manifest order. -/
def opRecs (p : Package) : List OpRec := (List.range (pkgOps p)).map (opRec p)

/-- Declaration of operator `i`. -/
def opDecl (p : Package) (i : Nat) : OpDecl := p.ops.getD i ⟨none, 0, [], 0, [], none, [], [], [], [], ⟨0, false, false, 0⟩⟩

/-- Bytes of semaphore record `k`. -/
def semRec (p : Package) (k : Nat) : Bytes := slice p.manifest (64 + 32 * pkgOps p + 16 * k) 16

/-- Output tensors with statistics records, in manifest order (R75). -/
def pkgOutTensors (p : Package) : List Nat :=
  ((List.range p.tensors.length).filter (fun i => (p.tensors.map (fun t => t.output)).getD i false)).take (pkgOutputs p)

/-- The operator that a job-wide tile belongs to, and the tile's index within it. -/
def tileOp (p : Package) (t : Nat) : Option (Nat × Nat) :=
  (findAt (fun (o : OpRec) => o.first ≤ t && decide (t < o.first + o.tiles)) (opRecs p) 0).map
    (fun x => (x.1, t - x.2.first))

/-- The header of a job-wide tile. -/
def tileHeader (p : Package) (t : Nat) : Bytes :=
  match tileOp p t with
  | none => []
  | some (o, i) => (opDecl p o).tiles.getD i []

/-- Some operator is an attention operator. -/
def pkgKv (p : Package) : Bool := p.ops.any (fun o => o.attn.isSome)

/-- Chains of a sequence: one for each attention operator and KV-head group, in that order (R148). -/
def pkgChains (p : Package) : List (Nat × Nat) :=
  (List.range p.ops.length).flatMap (fun o =>
    match (opDecl p o).attn with
    | none => []
    | some a => (List.range a.chains).map (fun g => (o, g)))

/-! ### The checks (R138, R139) -/

/-- Bytes [a, a + n) are zero. -/
def zeroAt (b : Bytes) (a n : Nat) : Bool := le b a n = 0

/-- 32-bit fields at the given offsets: none is 0xFFFF_FFFF. -/
def noOnes (b : Bytes) (offs : List Nat) : Bool := offs.all (fun o => le b o 4 ≠ 0xFFFFFFFF)

/-- The checks of the header (R139, Table 06-3). -/
def headerOk (p : Package) : Bool :=
  let m := p.manifest
  let n := le m 4 4
  le m 0 4 = 1 && 64 ≤ n && n ≤ m.length && noOnes m [0, 4, 8, 12, 16, 20, 24, 28, 32, 36, 44] &&
    zeroAt m 49 15 && 1 ≤ pkgOps p && pkgOps p ≤ 65536 && 1 ≤ le m 12 4 && le m 12 4 ≤ 1048576 &&
    pkgSems p ≤ 64 && 1 ≤ pkgSpan p && pkgSpan p ≤ 1024 && 1 ≤ pkgDies p && pkgDies p ≤ 7 &&
    pkgMaxSeq p ≤ 4096 && pkgMaxTok p ≤ 2097152 && pkgClasses p ≤ 3 && pkgPinBanks p ≤ 32 &&
    64 + 32 * pkgOps p + 16 * pkgSems p ≤ n &&
    p.ops.length = pkgOps p && p.tensors.length = le m 12 4 &&
    (if pkgKv p then 10 ≤ pkgShift p && pkgShift p ≤ 16 else pkgShift p = 0 && pkgMaxSeq p = 0)

/-- The checks of operator record `i` (R139, Table 06-4). -/
def opRecOk (p : Package) (i : Nat) : Bool :=
  let b := slice p.manifest (64 + 32 * i) 32
  let o := opRec p i
  noOnes b [0, 4, 8, 12, 20] && 1 ≤ o.tiles && o.tiles ≤ 1048576 && le b 18 2 < 8 && o.coll ≤ 4 && zeroAt b 25 7 &&
    o.attention == (opDecl p i).attn.isSome && o.asym == (zpPath (opDecl p i) == .main) &&
    (opDecl p i).tiles.length == o.tiles &&
    (opDecl p i).inputs.all (fun j => j < pkgOps p && (opRec p j).level ≤ o.level)

/-- The checks of semaphore record `k` (R139, Table 06-5). -/
def semRecOk (p : Package) (k : Nat) : Bool :=
  let b := semRec p k
  noOnes b [4, 8] && le b 0 2 ≤ 63 && zeroAt b 2 2 && zeroAt b 12 4

/-- The manifest's structure (R139). -/
def manifestOk (p : Package) : Bool :=
  headerOk p && (List.range (pkgOps p)).all (opRecOk p) && (List.range (pkgSems p)).all (semRecOk p)

/-- A normal FP32 value greater than zero (R65). -/
def scaleOk (x : F32) : Bool := !x.toNat.testBit 31 && 1 ≤ bits x 30 23 && bits x 30 23 ≤ 254

/-- The zero-point rule (R66). -/
def zeroPointBad (o : OpDecl) : Bool :=
  match o.pair with
  | none => false
  | some (a, w) => (!fmtIsInt a && o.za ≠ 0) || ((!fmtIsInt w || w == .bs4) && o.zw.any (fun z => z ≠ 0))

/-- The limits of an attention operator (R80, Table 04-1). -/
def attnOk (p : Package) (a : AttnDecl) : Bool :=
  32 ≤ a.dim && a.dim ≤ 256 && a.dim % 32 = 0 &&
    (if a.qfmt = .bf16 then [NumFmt.bf16, .e4m3, .i8, .bs4].contains a.kfmt else a.qfmt == .e4m3 && a.kfmt == .e4m3) &&
    1 ≤ a.group && a.group ≤ 16 && a.biasHeads ≤ 128 && a.block = 64 && 1 ≤ pkgMaxSeq p && 1 ≤ pkgMaxTok p

/-- Bytes of one half of a page (Table 04-5). -/
def pageHalf (a : AttnDecl) : Nat :=
  let n := 16 * a.group * a.dim
  if a.kfmt = .bs4 then n / 2 + n / 32 else n * fmtWidth a.kfmt / 8

/-- The tile header rule (R107). -/
def tileHeaderOk (o : OpDecl) (b : Bytes) : Bool :=
  b.length = 64 && noOnes b [0, 4, 8, 12, 16, 20, 24] && 1 ≤ le b 8 4 && le b 8 4 ≤ 28000 && 1 ≤ le b 24 4 &&
    le b 24 4 ≤ 262144 && le b 20 4 % 256 = 0 && le b 20 4 + le b 24 4 ≤ o.prog.length && zeroAt b 29 3 && zeroAt b 40 24

/-- The package checks of one operator, in ascending label order (R138). -/
def opCheck (p : Package) (o : OpDecl) : Status :=
  let int := match o.pair with | some (a, _) => fmtIsInt a | none => false
  if (match o.pair with | some (a, w) => !pairOk a w | none => false) then .operandPairUnsupported
  else if o.tiles.any (fun t => le t 12 4 % 256 ≠ 0) then .tileKMisaligned
  else if int && 16777216 < o.k then .kExceedsLimit
  else if !o.scales.all scaleOk then .scaleInvalid
  else if zeroPointBad o then .zeroPointUnsupported
  else if (match o.attn with | some a => !attnOk p a | none => false) then .operandPairUnsupported
  else if o.bias.any (fun t => t.any (fun e => e / 1024 % 32 = 31)) then .biasInvalid
  else if (match o.attn with | some a => decide (2 ^ (pkgShift p - 1) < pageHalf a) | none => false) then .kvTableInvalid
  else if !o.tiles.all (tileHeaderOk o) then .tileHeaderInvalid
  else .success

/-- Steps 2 and 3 of Table 06-2: the status that a package earns. -/
def pkgCheck (p : Package) : Status :=
  if !manifestOk p then .manifestInvalid
  else ((p.ops.map (opCheck p)).find? (fun st => st != .success)).getD .success

/-! ### Retention (R333) -/

/-- The retained package with a handle. -/
def State.pkg (s : State) (h : Nat) : Option Pkg := tget none s.comp.pkgs h
/-- Sets or clears a handle. -/
def State.setPkg (s : State) (h : Nat) (p : Option Pkg) : State :=
  { s with comp := { s.comp with pkgs := tset none s.comp.pkgs h p } }
/-- The retained package with a digest, and its handle (R188, R333). -/
def State.pkgByDigest (s : State) (d : Bytes) : Option Nat :=
  (s.comp.pkgs.find? (fun e => (e.2.map (fun p => p.digest)) == some d)).map (fun e => e.1)

/-- A place of `size` bytes in the DRAM of the lowest in-service die with room. -/
def State.dramPlace (s : State) (size : Nat) : Option Region :=
  (s.inService.filterMap (fun d =>
    (firstFit (s.usedOn d) 0 (s.dramHi d) size 8).map (fun a => (⟨d, a, size⟩ : Region)))).head?

/-- Retains a checked package under the lowest free handle; none where handles or DRAM run out. -/
def State.retain (s : State) (p : Package) : Option (State × Nat) :=
  match (List.range 1024).find? (fun h => h ≠ 0 && (s.pkg h).isNone), s.dramPlace p.raw.length with
  | some h, some r => some (((s.claim [r]).wrBytes r.die r.base p.raw).setPkg h (some ⟨p, digest128 p.raw, r⟩), h)
  | _, _ => none

/-- PKG_RETAIN: checks, retains and gives a handle (R138, R333). A package that fails a check is not
retained (R330). -/
def execPkgRetain (r : Nat) (pkg : Option Package) (s : State) : Host.Outcome State Fault Refusal :=
  guardI (decide (r < 8192)) (
    if s.loss.isSome then s
    else s.withDesc r 0x10 (fun s d =>
      match pkg with
      | none => s.complete r d.num .hostMemoryFault
      | some p =>
        let st := pkgCheck p
        if st ≠ .success then s.complete r d.num st
        else
          match s.retain p with
          | none => s.complete r d.num .placementNoMemory
          | some (s, h) => s.completeR r d.num .success h))

end Sys2Proof.Machine
end

