-- ==== Sys2Proof/Machine/Plan.lean ====
section
/-!
DEFINITION. The placer's planning (chapter 6): the cyclic table's bytes, eligible cores, the plan
of R143, the placement of tensors, and the bound of R158.
-/

namespace Sys2Proof.Machine

open Sys2Proof

/-! ### The cyclic table (Tables 06-6, 06-7) -/

/-- An entry of a cyclic table. -/
structure CycEntry where
  job : Nat
  start : Bool
  kind : Nat
  off : Nat
  span : Nat
  /-- A reserved bit or byte is nonzero. -/
  bad : Bool
  deriving DecidableEq, Repr

/-- LENGTH_TICKS and FRAME_DIV of a table. -/
def cycLen (b : Bytes) : Nat := le b 0 4
def cycDiv (b : Bytes) : Nat := le b 8 4
/-- The entries of a table. -/
def cycEntries (b : Bytes) : List CycEntry :=
  (List.range (le b 4 4)).map (fun i =>
    let e := slice b (32 + 16 * i) 16
    let f := le e 2 2
    ⟨le e 0 2, f.testBit 0, f / 2 % 4, le e 4 2, le e 6 2, decide (8 ≤ f) || le e 8 8 != 0⟩)

/-- The bytes of bank `n`. -/
def State.bank (s : State) (n : Nat) : Bytes := if n = 0 then s.bank0 else s.bank1
/-- The running table, while one runs. -/
def State.runTable (s : State) : Option Bytes := if s.flag 0x208 0 then some (s.bank (s.fld 0x208 1 1)) else none
/-- Entries of the running table. -/
def State.runEntries (s : State) : List CycEntry :=
  match s.runTable with
  | none => []
  | some b => cycEntries b
/-- The tick's place in the running table's major cycle (R19). -/
def State.cycPos (s : State) : Nat :=
  match s.runTable with
  | none => 0
  | some b => s.clk.tick % cycLen b
/-- A slot of job `id` is open (R153). -/
def State.slotOpen (s : State) (id : Nat) : Bool :=
  s.runEntries.any (fun e => e.job == id && decide (e.off ≤ s.cycPos) && decide (s.cycPos < e.off + e.span))
/-- The running table reserves logical core `l` of die `d` (Table 06-17). -/
def State.coreReserved (s : State) (d l : Nat) : Bool := s.flag (glbA (0x220 + 4 * d)) l

/-! ### Cores (R142) -/

/-- Enabled cores of the dies in service, in order: die · 16 + logical index. -/
def State.coresEnabled (s : State) : List Nat :=
  s.inService.flatMap (fun d => (List.range 16).filterMap (fun l => if (s.physOf d l).isSome then some (d * 16 + l) else none))

/-- The core numbered `c` is degraded. -/
def State.degradedAt (s : State) (c : Nat) : Bool :=
  match s.physOf (c / 16) (c % 16) with
  | none => false
  | some k => s.coreDegraded (c / 16) k

/-- Cores eligible for a class S operator. -/
def State.eligible (s : State) (asym : Bool) : List Nat :=
  s.coresEnabled.filter (fun c => !s.coreReserved (c / 16) (c % 16) && !(asym && s.degradedAt c))

/-- Cores that a class C submission reserves and the placer may use for an operator. -/
def State.eligibleC (s : State) (masks : List Nat) (asym : Bool) : List Nat :=
  s.coresEnabled.filter (fun c => (masks.getD (c / 16) 0).testBit (c % 16) && !(asym && s.degradedAt c))

/-! ### The plan (R143) -/

/-- A tile to plan: operator, job-wide index, cost in cycles and the cores it may run on. -/
structure Work where
  op : Nat
  tile : Nat
  cost : Nat
  cores : List Nat
  deriving DecidableEq, Repr

/-- One level: its tiles and the cycles of its collectives. -/
structure LevelWork where
  level : Nat
  work : List Work
  coll : Nat
  deriving DecidableEq, Repr

/-- The planner's state: when each core is free, the time at which the level began, the plan, and
each level's duration. -/
structure PlanSt where
  free : Tbl Nat
  t : Nat
  plan : List PlanTile
  durs : List Nat
  deriving DecidableEq, Repr

/-- The first free core of those a tile may run on. -/
def PlanSt.pick (x : PlanSt) (cs : List Nat) : Option Nat :=
  bestBy (fun a b => decide (max (tget 0 x.free a) x.t < max (tget 0 x.free b) x.t)) cs

/-- Plans one tile. -/
def PlanSt.tile (level : Nat) (x : PlanSt) (w : Work) : PlanSt :=
  match x.pick w.cores with
  | none => x
  | some c =>
    let start := max (tget 0 x.free c) x.t
    { x with
      free := tset 0 x.free c (start + w.cost)
      plan := x.plan ++ [⟨w.op, w.tile, c / 16, c % 16, start, w.cost, level, 0⟩] }

/-- Plans one level. -/
def PlanSt.level (x : PlanSt) (l : LevelWork) : PlanSt :=
  let y := l.work.foldl (PlanSt.tile l.level) x
  let e := (y.free.map (fun f => f.2)).foldl max x.t
  { y with t := e + l.coll, durs := y.durs ++ [e - x.t] }

/-- The plan of a share. -/
def planShare (ls : List LevelWork) : PlanSt := ls.foldl PlanSt.level ⟨[], 0, [], []⟩

/-- Cost of an operator's tile: MAX_CYCLES and its dispatch (R141). -/
def opCost (o : OpRec) : Nat := o.cycles + 96 + cdiv o.progLen 64

/-- coll_cycles (R143). A package with no link up adds no term for bytes: its collectives move none. -/
def collCycles (nLinks hops : Nat) (o : OpRec) : Nat :=
  let ns := (if nLinks = 0 then 0 else cdiv o.collBytes (50 * nLinks)) + 600 * hops
  cdiv (ns * 7) 5

/-- Arithmetic cycles at 1.4 GHz in ns, rounded up. -/
def cyclesNs (c : Nat) : Nat := cdiv (c * 5) 7

/-- The contiguous share of rank `r` of `n` packages in `t` tiles: first tile and count (R148). -/
def shareOf (n r t : Nat) : Nat × Nat := (r * (t / n) + min r (t % n), t / n + b2n (decide (r < t % n)))

/-- Gives each chain to the die with the least planned attention work, ties to the first; dies are
pairs of package rank and die, in order (R148). -/
def assignChains (p : Package) (dies : List (Nat × Nat)) : List (Nat × Nat × Nat) :=
  let step : List (Nat × Nat × Nat) × Tbl Nat → (Nat × Nat × Nat) → List (Nat × Nat × Nat) × Tbl Nat := fun acc c =>
    match bestBy (fun a b => decide (tget 0 acc.2 (a.1 * 8 + a.2) < tget 0 acc.2 (b.1 * 8 + b.2))) dies with
    | none => acc
    | some d => (acc.1 ++ [(c.1, d.1, d.2)], tupd 0 acc.2 (d.1 * 8 + d.2) (fun w => w + c.2.2))
  let cs := pkgChains p
  let items := (List.range cs.length).map (fun i =>
    let o := (cs.getD i (0, 0)).1
    let n := match (opDecl p o).attn with | some a => a.chains | none => 1
    (i, o, (opRec p o).tiles / n * opCost (opRec p o)))
  (items.foldl step ([], [])).1

/-- The dies that hold the chains of live sequences of package `h`: chain and die. -/
def State.liveChains (s : State) (h : Nat) : List (Nat × Nat) :=
  match s.comp.kv.seqs.find? (fun e => (e.2.map (fun q => q.pkg)) == some h) with
  | some (_, some q) => q.dies.flatMap (fun d => d.chains.map (fun c => (c.1, d.die)))
  | _ => []

/-- Dies offered for chains of page size `shift` (R93). DEDUCED (log 134): a die whose live sequences have another page
size is not offered either, though no admitted job holds chains there. -/
def State.kvOffered (s : State) (shift : Nat) : List Nat :=
  s.inService.filter (fun d => (s.kvDie d).shift == 0 || (s.kvDie d).shift == shift)

/-- The chains of a job of package `h` over the packages `span`, this one at rank `r` with the dies `ds`: chain, rank and
die (R148). A package with live sequences keeps its chains where their pages are. -/
def State.chainPlan (s : State) (h : Nat) (p : Package) (span : List Nat) (r : Nat) (ds : List Nat) (peers : List Peer) :
    List (Nat × Nat × Nat) :=
  if !(s.liveChains h).isEmpty then tget [] s.comp.kv.assign h
  else
    assignChains p ((List.range (max 1 span.length)).flatMap (fun q =>
      let dies :=
        if q = r then (s.kvOffered (pkgShift p)).filter (fun d => ds.contains d)
        else ((peers.find? (fun x => some x.pkg == span[q]?)).map (fun x => x.dies)).getD []
      dies.map (fun d => (q, d))))

/-- The chains of rank `r`: chain and die. -/
def chainsAt (l : List (Nat × Nat × Nat)) (r : Nat) : List (Nat × Nat) :=
  (l.filter (fun c => c.2.1 == r)).map (fun c => (c.1, c.2.2))

/-- The chain that tile `i` of attention operator `o` works on: its tiles in equal runs. -/
def tileChain (p : Package) (o i : Nat) : Option Nat :=
  match (opDecl p o).attn with
  | none => none
  | some a => (findAt (fun c => c == (o, i * a.chains / (opRec p o).tiles)) (pkgChains p) 0).map (fun x => x.1)

/-- The tiles of operator `o` in a share, with the cores they may run on. -/
def opWork (p : Package) (chains : List (Nat × Nat)) (n r o : Nat) (cores : List Nat) : List Work :=
  let rec' := opRec p o
  let mk : Nat → List Nat → Work := fun i cs => ⟨o, rec'.first + i, opCost rec', cs⟩
  if rec'.attention then
    (List.range rec'.tiles).filterMap (fun i =>
      (tileChain p o i).bind (fun c =>
        (chains.find? (fun x => x.1 == c)).map (fun x => mk i (cores.filter (fun k => k / 16 == x.2)))))
  else
    let sh := shareOf n r rec'.tiles
    (List.range sh.2).map (fun i => mk (sh.1 + i) cores)

/-- The levels of a package, ascending. -/
def pkgLevels (p : Package) : List Nat :=
  (opRecs p).foldl (fun l o => if l.contains o.level then l else insertBy (fun a b => decide (a ≤ b)) o.level l) []

/-- The level works of a share; `cores` gives an operator's cores by its ASYM flag. -/
def levelWorks (p : Package) (chains : List (Nat × Nat)) (n r nLinks hops : Nat) (cores : Bool → List Nat) :
    List LevelWork :=
  (pkgLevels p).map (fun l =>
    let os := (List.range (pkgOps p)).filter (fun o => (opRec p o).level == l)
    ⟨l, os.flatMap (fun o => opWork p chains n r o (cores (opRec p o).asym)),
      ((os.filter (fun o => (opRec p o).coll ≠ 0)).map (fun o => collCycles nLinks hops (opRec p o))).sum⟩)

/-- Step 6 of Table 06-2: an operator without a core (R69, R142). -/
def coreStatus (ls : List LevelWork) (p : Package) (cores : Bool → List Nat) : Status :=
  let asym := (opRecs p).any (fun o => o.asym)
  if asym && (cores true).isEmpty then .needsSumColumn
  else if (cores false).isEmpty || ls.any (fun l => l.work.any (fun w => w.cores.isEmpty)) then .placementNoCore
  else .success

/-! ### Placement (R146, R151) -/

/-- The scratchpad bank of physical core `k` as a region. -/
def bankRegion (d k b : Nat) : Region := ⟨d, spadLo k + b * 0x80000, 0x80000⟩

/-- Cores (die · 16 + logical) of the planned tiles that consume a tensor. -/
def consumers (plan : List PlanTile) (t : TensorDecl) : List Nat :=
  (plan.filter (fun x => t.uses.contains x.tile)).foldl (fun l x =>
    if l.contains (x.die * 16 + x.core) then l else l ++ [x.die * 16 + x.core]) []

/-- Banks of a core that every tile planned there gives to one and the same port class. -/
def sharedBanks (p : Package) (plan : List PlanTile) (c : Nat) : List Nat :=
  let owners := (plan.filter (fun x => x.die * 16 + x.core == c)).map (fun x => le (tileHeader p x.tile) 32 8)
  (List.range 32).filter (fun b =>
    match owners.map (fun o => o / 4 ^ b % 4) with
    | [] => false
    | v :: vs => v ≠ 0 && vs.all (fun w => w == v))

/-- The first place of a tensor in the scratchpad of core `c`, in the banks `banks`. -/
def State.spadPlace (s : State) (used : List Region) (c size : Nat) (banks : List Nat) : Option Region :=
  (s.physOf (c / 16) (c % 16)).bind (fun k =>
    let closed := ((List.range 32).filter (fun b => !banks.contains b)).map (bankRegion (c / 16) k)
    (firstFit (used.filter (fun r => r.die == c / 16) ++ closed) (spadLo k) (spadLo k + spadSize) size 64).map
      (fun a => ⟨c / 16, a, size⟩))

/-- A place in a range of memory of die `d`. -/
def rangePlace (used : List Region) (d lo hi size al : Nat) : Option Region :=
  (firstFit (used.filter (fun r => r.die == d)) lo hi size al).map (fun a => ⟨d, a, size⟩)

/-- One place on each of several dies; none if a die has no room. -/
def placesOn (f : Nat → Option Region) (ds : List Nat) : Option (List Region) :=
  ds.foldr (fun d acc => match f d, acc with | some r, some l => some (r :: l) | _, _ => none) (some [])

/-- Dies of a list of cores, in order, without repeats. -/
def diesOf (cs : List Nat) : List Nat := cs.foldl (fun l c => if l.contains (c / 16) then l else l ++ [c / 16]) []

/-- The places of one tensor of a class S job (R146). A tensor that no planned tile consumes goes to
the first die of the plan; one that only other packages consume has no place here. -/
def State.placeS (s : State) (p : Package) (plan : List PlanTile) (used : List Region) (t : TensorDecl) :
    Option (List Region) :=
  let cs := consumers plan t
  let ds := if t.uses.isEmpty then (diesOf (plan.map (fun x => x.die * 16 + x.core))).take 1 else diesOf cs
  let spad := match cs with
    | [c] => if s.coreReserved (c / 16) (c % 16) then none else s.spadPlace used c t.size (sharedBanks p plan c)
    | _ => none
  if t.size = 0 then some []
  else
    match spad with
    | some r => some [r]
    | none =>
      match placesOn (fun d => rangePlace used d poolLo kvBankLo (alignUp 65536 t.size) 65536) ds with
      | some l => some l
      | none => placesOn (fun d => rangePlace used d 0 (s.dramHi d) t.size 64) ds

/-- The places of one tensor of a class C job, within its pins (R151). -/
def State.placeC (s : State) (pins : List Region) (plan : List PlanTile) (used : List Region) (t : TensorDecl) :
    Option (List Region) :=
  let cs := consumers plan t
  let ds := if t.uses.isEmpty then (diesOf (plan.map (fun x => x.die * 16 + x.core))).take 1 else diesOf cs
  let inPins : Nat → List Region := fun d => pins.filter (fun r => r.die == d)
  let spad := match cs with
    | [c] => (s.physOf (c / 16) (c % 16)).bind (fun k =>
        s.spadPlace used c t.size ((List.range 32).filter (fun b => (inPins (c / 16)).contains (bankRegion (c / 16) k b))))
    | _ => none
  if t.size = 0 then some []
  else
    match spad with
    | some r => some [r]
    | none => placesOn (fun d =>
        ((inPins d).filter (fun r => decide (r.base < spadLo 0))).foldl (fun acc r =>
          match acc with
          | some x => some x
          | none => rangePlace used d r.base (r.base + r.size) t.size 64) none) ds

/-- Places every tensor of a package in manifest order. -/
def placeAll (f : List Region → TensorDecl → Option (List Region)) :
    Nat → List TensorDecl → List Region → Option (List Place)
  | _, [], _ => some []
  | i, t :: ts, used =>
    match f used t with
    | none => none
    | some rs =>
      (placeAll f (i + 1) ts (used ++ rs)).map (fun l => rs.map (fun r => ⟨i, r.die, r.base, r.size⟩) ++ l)

/-- All regions in use. -/
def State.usedAll (s : State) : List Region := s.inService.flatMap s.usedOn

/-- A place holds staged weights: those of a scratchpad or die pool (R147). -/
def stagedAt (p : Package) (x : Place) : Bool :=
  decide (poolLo ≤ x.base) && (match p.tensors[x.tensor]? with | some t => t.weights.isSome | none => false)

/-- Staging cost in ns: the largest staged size on one die at 136.5 GB/s (R147). -/
def stageNs (p : Package) (places : List Place) : Nat :=
  let size : Place → Nat := fun x => match p.tensors[x.tensor]? with | some t => t.size | none => 0
  let sum : Nat → Nat := fun d => ((places.filter (fun x => x.die == d && stagedAt p x)).map size).sum
  cdiv (((List.range 7).map sum).foldl max 0 * 10) 1365

/-- The class C banks of a core that a submission gets: the highest-numbered ones that no other
class C job holds (R151). -/
def State.pinBanks (s : State) (n d k : Nat) : List Nat :=
  let held := (s.jobs.filter (fun j => j.classC)).flatMap (fun j => j.pins)
  (((List.range 32).reverse.filter (fun b => !held.contains (bankRegion d k b))).take n)

/-- The lowest `n` free 64 KiB units of the die pool of die `d` from an address on, as runs; none where there are too few. -/
def poolUnits (used : List Region) (d : Nat) : Nat → Nat → Nat → Option (List Region)
  | _, _, 0 => some []
  | 0, _, _ => none
  | f + 1, lo, n =>
    match firstFit used lo kvBankLo 65536 65536 with
    | none => none
    | some a =>
      let stop := ((used.filter (fun u => decide (a ≤ u.base))).map (fun u => u.base)).foldl min kvBankLo
      let k := min n ((stop - a) / 65536)
      if k = 0 then none else (poolUnits used d f (a + k * 65536) (n - k)).map (fun l => ⟨d, a, k * 65536⟩ :: l)

/-- The pins of a class C submission; none where banks or units are not free (R151). -/
def State.pinsFor (s : State) (p : Package) (masks : List Nat) : Option (List Region) :=
  let cs := s.eligibleC masks false
  let banks := cs.flatMap (fun c =>
    match s.physOf (c / 16) (c % 16) with
    | none => []
    | some k => (s.pinBanks (pkgPinBanks p) (c / 16) k).map (bankRegion (c / 16) k))
  let pool := (diesOf cs).map (fun d => poolUnits (s.usedOn d) d (s.usedOn d).length.succ poolLo (pkgPinPool p))
  let clash := banks.any (fun b => (s.usedOn b.die).any (fun r => overlaps r.base r.size b.base b.size))
  if banks.length < cs.length * pkgPinBanks p || clash || pool.any Option.isNone then none
  else some (banks ++ pool.flatMap (fun l => l.getD []))

/-! ### Ranks and bounds (R158 to R166) -/

/-- The rank of a job's class and priority: class C before every priority (R160). -/
def Job.rank (j : Job) : Nat := if j.classC then 0 else j.prio + 1

/-- The ceiling of a semaphore key among admitted jobs (R165). -/
def ceiling (js : List Job) (key : Nat) : Nat :=
  ((js.filter (fun j => j.sems.any (fun x => x.key == key))).map Job.rank).foldl min 9

/-- The effective priority: the most urgent of the job's own and the ceilings it holds (R160). -/
def effRank (js : List Job) (j : Job) : Nat :=
  ((j.sems.filter (fun x => x.held)).map (fun x => ceiling js x.key)).foldl min j.rank

/-- Job `a` ranks before job `b` (R160); `js` is in order of submission. -/
def ranksBefore (js : List Job) (a b : Job) : Bool :=
  let idx : Job → Nat := fun j => match findAt (fun x => x.id == j.id) js 0 with | some (i, _) => i | none => js.length
  lexLt [effRank js a, a.deadline, a.ring, idx a] [effRank js b, b.deadline, b.ring, idx b]

/-- The planned hold of a semaphore in ns (R166). -/
def holdNs (plan : List PlanTile) (x : SemBind) : Nat :=
  match plan.find? (fun t => t.tile == x.acq), plan.find? (fun t => t.tile == x.rel) with
  | some a, some b => cyclesNs (b.start + b.cost - a.start)
  | _, _ => 0

/-- B(J) of R158. -/
def blockNs (js : List Job) (j : Job) : Nat :=
  let low := js.filter (fun m => !m.classC && decide (j.prio < m.prio))
  let holds := low.flatMap (fun m => (m.sems.filter (fun x => decide (ceiling js x.key ≤ j.rank))).map
    (fun x => holdNs m.plan x + 2000))
  holds.foldl max (if low.isEmpty then j.farBlock else max 22000 j.farBlock)

/-- bound(J) of R158 in ns. -/
def boundNs (js : List Job) (j : Job) : Nat :=
  let before := js.filter (fun k => !k.classC && k.id ≠ j.id && ranksBefore js k j)
  j.x + j.w + blockNs js j + (before.map (fun k => k.x + k.w + j.w)).sum + j.farNs

/-- Job `j` ranks before a job of another package, which was submitted earlier (R160). -/
def beforePeer (js : List Job) (j : Job) (k : PeerJob) : Bool := lexLt [effRank js j, j.deadline, j.ring] [k.rank, k.deadline, k.ring]

/-- What jobs of other packages add to the interference and the blocking of a job (R158). -/
def farOf (js : List Job) (j : Job) (l : List PeerJob) : Nat × Nat :=
  let low := l.filter (fun k => decide (j.prio < k.prio))
  (((l.filter (fun k => !beforePeer js j k)).map (fun k => k.x + k.w + j.w)).sum,
    ((low.flatMap (fun k => k.holds.filter (fun h => decide (h.1 ≤ j.rank)))).map (fun h => h.2 + 2000)).foldl max
      (if low.isEmpty then 0 else 22000))

/-- start(J): the later of its release and the decision of its admission. -/
def Job.startT (j : Job) : Nat := max j.release j.admitT

/-- The test of R158. -/
def boundOk (js : List Job) (j : Job) : Bool := decide (j.startT + boundNs js j ≤ j.deadline)

/-- Every job that J ranks before, again with J among them (R159). -/
def othersOk (js : List Job) (j : Job) (l : List PeerJob) : Bool :=
  let all := js ++ [j]
  (js.filter (fun m => !m.classC && ranksBefore all j m)).all (fun m => boundOk all m) &&
    (l.filter (beforePeer all j)).all (fun k => decide (j.x + j.w + k.w ≤ k.slack))

/-- Step 9 of Table 06-2: J against its deadline, and every job that J ranks before again (R158, R159). -/
def timingOk (js : List Job) (j : Job) (l : List PeerJob) : Bool := boundOk (js ++ [j]) j && othersOk js j l

/-! ### The fit of an activation (R156) -/

/-- Where a tile of `cost` cycles can run from `t` on: within a slot of `slots` (cycles), before its end. -/
def slotFit (slots : List (Nat × Nat)) (t cost : Nat) : Option Nat :=
  ((slots.filter (fun s => decide (max t s.1 + cost ≤ s.2))).map (fun s => max t s.1)).head?

/-- One tile of the simulation: on the core that R143 picks, in the first slot that holds it. -/
def fitTile (slots : List (Nat × Nat)) (x : Option PlanSt) (w : Work) : Option PlanSt :=
  x.bind (fun x => (x.pick w.cores).bind (fun c =>
    (slotFit slots (max (tget 0 x.free c) x.t) w.cost).map (fun t =>
      { x with free := tset 0 x.free c (t + w.cost) })))

/-- The simulation of a plan in its slots completes, with its last collective, within the last slot. -/
def fitsIn (slots : List (Nat × Nat)) (ls : List LevelWork) : Bool :=
  match ls.foldl (fun (x : Option PlanSt) l =>
    ((l.work.foldl (fitTile slots) x)).map (fun y =>
      { y with t := (y.free.map (fun f => f.2)).foldl max y.t + l.coll })) (some ⟨[], 0, [], []⟩) with
  | none => false
  | some y => decide (y.t ≤ (slots.map (fun x => x.2)).foldl max 0)

end Sys2Proof.Machine
end

