-- ==== Sys2Proof/Machine/Kv.lean ====
section
/-!
DEFINITION. The KV cache (chapter 4): page regions, the page table, and the settling of a step's
leaves, joins and growth (R92 to R100).
-/

namespace Sys2Proof.Machine

open Sys2Proof

/-- Sequence slot `i`. -/
def State.seq (s : State) (i : Nat) : Option KvSeq := tget none s.comp.kv.seqs i
def State.setSeq (s : State) (i : Nat) (q : Option KvSeq) : State :=
  { s with comp := { s.comp with kv := { s.comp.kv with seqs := tset none s.comp.kv.seqs i q } } }

/-- A sequence's part on die `d`. -/
def KvSeq.on (q : KvSeq) (d : Nat) : Option SeqDie := q.dies.find? (fun x => x.die == d)
/-- Rewrites a sequence's part on die `d`. -/
def KvSeq.upd (q : KvSeq) (d : Nat) (f : SeqDie → SeqDie) : KvSeq :=
  { q with dies := mapIf (fun x => x.die == d) f q.dies }
/-- The entries of a chain of a sequence on a die. -/
def SeqDie.chain (x : SeqDie) (c : Nat) : List Nat := ((x.chains.find? (fun e => e.1 == c)).map (fun e => e.2)).getD []
/-- Pages of a sequence on a die. -/
def SeqDie.pages (x : SeqDie) : List Nat := x.chains.flatMap (fun c => c.2)

/-- Live sequences with a part on die `d`: slot, sequence and part. -/
def State.seqsOn (s : State) (d : Nat) : List (Nat × KvSeq × SeqDie) :=
  s.comp.kv.seqs.filterMap (fun e => e.2.bind (fun q => (q.on d).map (fun x => (e.1, q, x))))

/-- Page table entries of a die (R94). -/
def kvEntries : Nat := 131072
/-- The 128 bits of a valid entry (Table 04-6). -/
def KvEntry.bits (e : KvEntry) : Nat :=
  1 + e.loc % 2 * 2 + e.fmt % 4 * 2 ^ 2 + e.phys % 2 ^ 24 * 2 ^ 8 + e.kScale % 2 ^ 16 * 2 ^ 32 + e.vScale % 2 ^ 16 * 2 ^ 48 +
    e.next % 2 ^ 17 * 2 ^ 64 + b2n e.last * 2 ^ 81 + e.fill % 2 ^ 5 * 2 ^ 82 + e.slot % 2 ^ 12 * 2 ^ 96 + e.gen % 2 ^ 20 * 2 ^ 108
/-- The entry that 128 bits hold; none where VALID is 0 (Table 04-6). -/
def KvEntry.ofBits (w : Nat) : Option KvEntry :=
  let f : Nat → Nat → Nat := fun lo n => w / 2 ^ lo % 2 ^ n
  if w % 2 = 0 then none
  else some ⟨f 1 1, f 2 2, f 8 24, f 32 16, f 48 16, f 64 17, f 81 1 == 1, f 82 5, f 96 12, f 108 20⟩
/-- Page table entry `i` of die `d`, from the die pool (R94, R112). -/
def State.pte (s : State) (d i : Nat) : Option KvEntry := KvEntry.ofBits (le (s.rdBytes d (kvBankLo + 16 * i) 16) 0 16)
/-- Writes page table entry `i` of die `d`. DESIGN CHOICE (log 130): an entry that maps no page holds zeros. -/
def State.setPte (s : State) (d i : Nat) (e : Option KvEntry) : State :=
  s.wrBytes d (kvBankLo + 16 * i) (leBytes 16 ((e.map KvEntry.bits).getD 0))
/-- The valid entries of die `d`, in index order. -/
def State.kvTable (s : State) (d : Nat) : List (Nat × KvEntry) :=
  (memCut kvBankLo (16 * kvEntries) (s.mem d)).filterMap (fun c =>
    if (c.1 - kvBankLo) % 16 = 0 && c.2.toNat.testBit 0 then
      (s.pte d ((c.1 - kvBankLo) / 16)).map (fun e => ((c.1 - kvBankLo) / 16, e))
    else none)
/-- Physical pages in use at a location of die `d`. -/
def State.kvUsed (s : State) (d loc : Nat) : List Nat :=
  (s.kvTable d).filterMap (fun e => if e.2.loc = loc then some e.2.phys else none)
/-- Reserved, unallocated pages at a location of die `d`. -/
def State.kvResv (s : State) (d loc : Nat) : Nat :=
  ((s.seqsOn d).map (fun e => if b2n e.2.2.dram = loc then e.2.2.resv else 0)).sum
/-- Pages of a location that are neither in use nor reserved: the registers' region sizes (Table
04-11). -/
def State.kvFree (s : State) (d loc : Nat) : Nat :=
  (s.rd (kvA d (if loc = 0 then 8 else 0xC))).toNat - (s.kvUsed d loc).length - s.kvResv d loc
/-- Free page table entries. -/
def State.kvFreeEntries (s : State) (d : Nat) : Nat := kvEntries - (s.kvTable d).length

/-- The lowest index not in a list. -/
def lowestFree (used : List Nat) : Nat := ((List.range (used.length + 1)).find? (fun i => !used.contains i)).getD used.length

/-- The address of a physical page. -/
def State.pageAddr (s : State) (d loc phys : Nat) : Nat :=
  (if loc = 0 then (s.kvDie d).poolBase else (s.kvDie d).dramBase) + phys * 2 ^ (s.kvDie d).shift

/-- Releases an entry; its page is zeroed (R121). -/
def State.freePte (s : State) (d i : Nat) : State :=
  match s.pte d i with
  | none => s
  | some e => (s.zeroRegion ⟨d, s.pageAddr d e.loc e.phys, 2 ^ (s.kvDie d).shift⟩).setPte d i none

/-- Releases a sequence's pages, entries and reservation on die `d`. -/
def State.dropOn (s : State) (slot d : Nat) : State :=
  match s.seq slot with
  | none => s
  | some q =>
    match q.on d with
    | none => s
    | some x => (x.pages.foldl (fun s i => s.freePte d i) s).setSeq slot
        (some { q with dies := q.dies.filter (fun y => y.die != d) })

/-- Ends a sequence on every die and empties its slot. -/
def State.dropSeq (s : State) (slot : Nat) : State :=
  match s.seq slot with
  | none => s
  | some q => (q.dies.foldl (fun s x => s.dropOn slot x.die) s).setSeq slot none

/-! ### Set-up and release of page regions (R92, R93) -/

/-- Bytes of a range that nothing uses, where what is used takes whole units of `al` bytes. -/
def roomIn (used : List Region) (lo hi al : Nat) : Nat :=
  hi - lo - ((used.filter (fun r => decide (lo ≤ r.base) && decide (r.base < hi))).map (fun r => alignUp al r.size)).sum

/-- A region of a free number of units of `al` bytes, at most what the range has room for: base and bytes. -/
def State.kvRegion (s : State) (d lo hi al : Nat) : Nat × Nat :=
  let used := s.usedOn d
  let n := Config.freeNat s.free % (roomIn used lo hi al / al + 1) * al
  match firstFit used lo hi n al with
  | some a => (a, n)
  | none => (lo, 0)

/-- Makes die `d` ready for `n` chains of page size `shift`. The spec states no size for the page
regions; in the die pool they take whole units of 64 KiB (R112). -/
def State.kvSetup (s : State) (d n shift : Nat) : State :=
  let s := (s.wr (kvA d 0) (BitVec.ofNat 32 n)).wr (kvA d 4) (BitVec.ofNat 32 shift)
  if (s.kvDie d).shift = shift then s
  else
    let p := s.kvRegion d poolLo kvBankLo 65536
    let q := s.bump.kvRegion d 0 (s.dramHi d) (2 ^ shift)
    let s := s.bump.bump.claim [⟨d, p.1, p.2⟩, ⟨d, q.1, q.2⟩]
    let s := (s.wr (kvA d 8) (BitVec.ofNat 32 (p.2 / 2 ^ shift))).wr (kvA d 0xC) (BitVec.ofNat 32 (q.2 / 2 ^ shift))
    s.setKvDie d ⟨shift, p.1, q.1⟩

/-- The dies of a job's chains. -/
def Job.kvDies (j : Job) : List Nat := j.chains.foldl (fun l c => if l.contains c.2 then l else l ++ [c.2]) []

/-- PAGE_SHIFT reads 0 while no admitted job holds chains on the die (Table 04-10); without a live
sequence its regions are released too. -/
def State.kvIdle (s : State) (d : Nat) : State :=
  if s.jobs.any (fun j => j.kvDies.contains d) then s
  else
    let s := s.wr (kvA d 4) 0
    if (s.seqsOn d).isEmpty then
      ((s.dirtyAdd (s.kvRegions d)).wr (kvA d 8) 0).wr (kvA d 0xC) 0 |>.setKvDie d KvDie.init
    else s

/-- The counts of Table 04-12, written when a step start has settled (R101). -/
def State.kvShow (s : State) (d : Nat) : State :=
  let w := fun (s : State) (o v : Nat) => s.wr (kvA d o) (BitVec.ofNat 32 v)
  let s := w (w s 0x10 (s.kvFree d 0)) 0x14 (s.kvResv d 0)
  w (w (w s 0x18 (s.kvFree d 1)) 0x1C (s.kvResv d 1)) 0x20 (s.kvFreeEntries d)

/-! ### Allocation (R98) -/

/-- Appends a page at `loc` to a chain of a sequence: the lowest free entry and page. -/
def State.takePage (s : State) (slot d chain loc : Nat) : State :=
  match s.seq slot with
  | none => s
  | some q =>
    match q.on d with
    | none => s
    | some x =>
      let i := lowestFree ((s.kvTable d).map (fun e => e.1))
      let e : KvEntry := ⟨loc, q.fmt, lowestFree (s.kvUsed d loc), 0x3F80, 0x3F80, 0, true, 0, slot, q.gen⟩
      let s := match (x.chain chain).getLast? with
        | none => s
        | some j => match s.pte d j with
          | none => s
          | some f => s.setPte d j (some { f with next := i, last := false })
      (s.setPte d i (some e)).setSeq slot (some (q.upd d (fun y =>
        { y with chains := mapIf (fun c => c.1 == chain) (fun c => (c.1, c.2 ++ [i])) y.chains })))

/-- Takes one page of the sequence's own reservation. -/
def State.takeResv (s : State) (slot d : Nat) : State :=
  match s.seq slot with
  | none => s
  | some q => s.setSeq slot (some (q.upd d (fun y => { y with resv := y.resv - 1 })))

/-- Moves a page to DRAM: the lowest free page there; its content is copied. -/
def State.movePage (s : State) (d i : Nat) : State :=
  match s.pte d i with
  | none => s
  | some e =>
    let p := lowestFree (s.kvUsed d 1)
    let n := 2 ^ (s.kvDie d).shift
    let b := s.rdBytes d (s.pageAddr d 0 e.phys) n
    let s := (s.zeroRegion ⟨d, s.pageAddr d 0 e.phys, n⟩).wrBytes d (s.pageAddr d 1 p) b
    s.setPte d i (some { e with loc := 1, phys := p })

/-- Moves a sequence's pages on die `d` to DRAM; its reservation becomes DRAM pages. -/
def State.moveSeq (s : State) (slot d : Nat) : State :=
  match s.seq slot with
  | none => s
  | some q =>
    match q.on d with
    | none => s
    | some x =>
      let s := x.pages.foldl (fun s i => s.movePage d i) s
      (s.setSeq slot (some (q.upd d (fun y => { y with dram := true })))).event (kvA d 0x24) 2 (kvA d 0x30)

/-- The pool-resident sequence of die `d` with the highest admission number. -/
def State.kvVictim (s : State) (d : Nat) : Option (Nat × KvSeq × SeqDie) :=
  bestBy (fun a b => decide (b.2.1.admission < a.2.1.admission)) ((s.seqsOn d).filter (fun e => !e.2.2.dram))

/-- Suspends a sequence on die `d`: what it holds there is released (R98). -/
def State.suspendOn (s : State) (slot d : Nat) : State := (s.dropOn slot d).event (kvA d 0x24) 3 (kvA d 0x34)

/-- The loop of allocate(x) for a pool-resident sequence without reservation: the slots suspended. DEDUCED (log 131): where
the free DRAM pages exactly cover what x itself moves, the listing takes one more DRAM page without a test, and the page
taken is the next index. -/
def State.allocLoop (slot d chain : Nat) : Nat → State → State × List Nat
  | 0, s => (s, [])
  | n + 1, s =>
    if 0 < s.kvFree d 0 && 0 < s.kvFreeEntries d then (s.takePage slot d chain 0, [])
    else
      match s.kvVictim d with
      | none => (s.suspendOn slot d, [slot])
      | some (y, _, part) =>
        if part.pages.length + part.resv ≤ s.kvFree d 1 && 0 < s.kvFreeEntries d then
          let s := s.moveSeq y d
          if y = slot then (s.takePage slot d chain 1, []) else State.allocLoop slot d chain n s
        else
          let s := s.suspendOn y d
          if y = slot then (s, [slot])
          else
            let r := State.allocLoop slot d chain n s
            (r.1, y :: r.2)

/-- allocate(x) of R98 on die `d`: one page for a chain; the slots suspended. DEDUCED (log 131): a sequence that has
reserved pages left where no entry is free goes on to the loop, which leaves its reservation as it is. -/
def State.allocPage (s : State) (slot d chain : Nat) : State × List Nat :=
  match (s.seq slot).bind (fun q => q.on d) with
  | none => (s, [])
  | some x =>
    if x.dram then
      if 0 < x.resv && 0 < s.kvFreeEntries d then ((s.takeResv slot d).takePage slot d chain 1, [])
      else if 0 < s.kvFree d 1 && 0 < s.kvFreeEntries d then (s.takePage slot d chain 1, [])
      else (s.suspendOn slot d, [slot])
    else if 0 < x.resv && 0 < s.kvFreeEntries d then ((s.takeResv slot d).takePage slot d chain 0, [])
    else State.allocLoop slot d chain (s.comp.kv.seqs.length + 1) s

/-- Pages for `n` more logical pages of a chain. -/
def State.allocChain (slot d chain : Nat) : Nat → State × List Nat → State × List Nat
  | 0, r => r
  | n + 1, r =>
    let x := r.1.allocPage slot d chain
    State.allocChain slot d chain n (x.1, r.2 ++ x.2)

/-! ### Settling a step (R89 to R99) -/

/-- A row of the lengths table (Table 04-3). -/
def kvRow (b : Bytes) : KvRow :=
  ⟨le b 0 2, le b 2 2, le b 4 4, le b 8 4, le b 12 4, le b 16 4, le b 20 1, le b 21 1, le b 24 4, .success⟩

/-- JOIN, LEAVE and CAUSAL. -/
def KvRow.join (r : KvRow) : Bool := r.flags.testBit 0
def KvRow.leave (r : KvRow) : Bool := r.flags.testBit 1
def KvRow.causal (r : KvRow) : Bool := r.flags.testBit 2

/-- The rows of a lengths table. -/
def kvRows (n : Nat) (b : Bytes) : List KvRow := (List.range n).map (fun i => kvRow (slice b (32 * i) 32))

/-- Rows that reject the whole step (R90). -/
def kvTableBad (n : Nat) (b : Bytes) : Bool :=
  let rows := kvRows n b
  (List.range n).any (fun i =>
    let x := slice b (32 * i) 32
    let r := kvRow x
    (rows.filter (fun q => q.slot == r.slot)).length ≠ 1 || (r.leave && 0 < r.qLen && !r.join) ||
      8 ≤ r.flags || !zeroAt x 22 2 || !zeroAt x 28 4 || !noOnes x [4, 8, 12, 16, 24, 28])

/-- The check of one row (Table 04-4, R140); a row out of its field's range is ignored with
KV_TABLE_INVALID. DEDUCED (log 132): a JOIN row whose Q_START is not 0 is ignored with KV_POSITION_MISMATCH, and keeps the
old sequence where LEAVE is set too; JOIN and LEAVE on an empty slot joins, and on another package's is KV_SLOT_BUSY. -/
def State.kvCheck (s : State) (h maxTok : Nat) (r : KvRow) : Status :=
  let mine := (s.seq r.slot).filter (fun q => q.pkg == h)
  if 4096 ≤ r.slot || 65536 < r.qLen then .kvTableInvalid
  else if r.join then
    if (s.seq r.slot).isSome && !(r.leave && mine.isSome) then .kvSlotBusy
    else if maxTok < r.qLen then .lengthExceeds
    else if r.qStart ≠ 0 then .kvPositionMismatch
    else if r.reserve < r.qLen || 3 < r.fmt then .kvTableInvalid
    else .success
  else
    match mine with
    | none => .kvSlotEmpty
    | some q =>
      if r.leave then .success
      else if maxTok < q.len + r.qLen then .lengthExceeds
      else if r.qStart ≠ q.len then .kvPositionMismatch
      else .success

/-- Phase 1: leaves, sequences retired by the previous step and position mismatches (R98). -/
def State.kvLeaves (s : State) (h : Nat) (rows : List KvRow) : State :=
  rows.foldl (fun s r =>
    let own := match s.seq r.slot with | some q => q.pkg == h | none => false
    if own && ((r.leave && r.status == .success) || (!r.join && r.status == .kvPositionMismatch)) then s.dropSeq r.slot else s) s

/-- Sequences of package `h` that the previous step retired end (R100). -/
def State.kvRetired (s : State) (h : Nat) : State :=
  s.comp.kv.seqs.foldl (fun s e => match e.2 with
    | some q => if q.retired && q.pkg == h then s.dropSeq e.1 else s
    | none => s) s

/-- Pages that a join reserves on die `d`. -/
def joinNeed (j : List (Nat × Nat)) (d : Nat) (r : KvRow) : Nat := cdiv r.reserve 16 * (j.filter (fun c => c.2 == d)).length

/-- Phase 2 on die `d`: the slots of the joins it admits (R98). -/
def State.kvJoins (s : State) (chains : List (Nat × Nat)) (d : Nat) (rows : List KvRow) : List Nat :=
  (rows.foldl (fun (acc : List Nat × Nat) r =>
    let need := joinNeed chains d r
    if r.join && r.status == .success && need ≤ acc.2 && need ≤ s.kvFreeEntries d then (acc.1 ++ [r.slot], acc.2 - need)
    else acc) ([], s.kvFree d 0)).1

/-- The dies of a list of chains. -/
def chainDies (chains : List (Nat × Nat)) : List Nat := chains.foldl (fun l c => if l.contains c.2 then l else l ++ [c.2]) []

/-- Slots of joins that some die of the package turns away; each such die counts the deferral. -/
def State.kvDenied (s : State) (chains : List (Nat × Nat)) (rows : List KvRow) : State × List Nat :=
  (chainDies chains).foldl (fun acc d =>
    let yes := s.kvJoins chains d rows
    let no := (rows.filter (fun r => r.join && r.status == .success && !yes.contains r.slot)).map (fun r => r.slot)
    (no.foldl (fun s _ => s.event (kvA d 0x24) 1 (kvA d 0x2C)) acc.1,
      acc.2 ++ no.filter (fun x => !acc.2.contains x))) (s, [])

/-- A join takes its slot: next generation and admission number, and its reservation on each die
(R95, R98). -/
def State.kvJoin (s : State) (h : Nat) (chains : List (Nat × Nat)) (r : KvRow) : State :=
  let g := (tget 0 s.comp.kv.gens r.slot + 1) % 2 ^ 20
  let n := s.comp.kv.admission + 1
  let dies := (chainDies chains).map (fun d =>
    (⟨d, false, joinNeed chains d r, ((chains.filter (fun c => c.2 == d)).map (fun c => (c.1, [])))⟩ : SeqDie))
  let s : State := { s with comp := { s.comp with kv :=
    { s.comp.kv with gens := tset 0 s.comp.kv.gens r.slot g, admission := n } } }
  s.setSeq r.slot (some ⟨h, 0, r.fmt, n, g, false, dies⟩)

/-- Phase 3 on die `d`: growth in row order; the slots suspended (R98). -/
def State.kvGrow (s : State) (chains : List (Nat × Nat)) (d : Nat) (rows : List KvRow) : State × List Nat :=
  rows.foldl (fun acc r =>
    if r.status ≠ .success || r.qLen = 0 || acc.2.contains r.slot then acc
    else
      match acc.1.seq r.slot with
      | none => acc
      | some q =>
        let pages := cdiv (q.len + r.qLen) 16 - cdiv q.len 16
        (chains.filter (fun c => c.2 == d)).foldl (fun acc c => State.allocChain r.slot d c.1 pages acc) acc) (s, [])

/-- After phase 2: the denied joins are deferred, the others take their slots, and phase 3 runs on every die. What the
package suspends comes with the rows (R98, R99). -/
def State.kvGrowth (s : State) (h : Nat) (chains : List (Nat × Nat)) (rows : List KvRow) (denied : List Nat) :
    State × List KvRow × List Nat :=
  let rows := mapIf (fun r => r.join && r.status == .success && denied.contains r.slot)
    (fun r => { r with status := .kvJoinDeferred }) rows
  let s := (rows.filter (fun r => r.join && r.status == .success)).foldl (fun s r => s.kvJoin h chains r) s
  let g := (chainDies chains).foldl (fun acc d =>
    let x := acc.1.kvGrow chains d rows
    (x.1, acc.2 ++ x.2)) (s, [])
  (g.1, rows, g.2)

/-- After phase 3: what is suspended anywhere ends everywhere, and the other sequences have their new lengths (R99,
R101). -/
def State.kvFinish (s : State) (chains : List (Nat × Nat)) (rows : List KvRow) (susp : List Nat) : State × List KvRow :=
  let s := susp.foldl (fun s i => s.dropSeq i) s
  let rows := mapIf (fun r => r.status == .success && susp.contains r.slot) (fun r => { r with status := .kvSuspended }) rows
  let s := rows.foldl (fun s r =>
    if r.status = .success then
      match s.seq r.slot with
      | some q => s.setSeq r.slot (some { q with len := q.len + r.qLen })
      | none => s
    else s) s
  ((chainDies chains).foldl State.kvShow s, rows)

/-- Every sequence ends: the page tables' contents are lost (Table 06-12), and the page regions wait for zeroing
(R121). -/
def State.kvClear (s : State) : State :=
  let s : State := { s with comp := { s.comp with kv := { s.comp.kv with seqs := [] } } }
  s.inService.foldl (fun s d =>
    let s := (s.zeroRegion ⟨d, kvBankLo, 16 * kvEntries⟩).dirtyAdd (s.kvRegions d)
    (((s.wr (kvA d 4) 0).wr (kvA d 8) 0).wr (kvA d 0xC) 0).setKvDie d KvDie.init) s

/-- PKG_RELEASE: the package leaves DRAM unless an admitted job uses it (R138, Table 14-4); its
sequences end with it. -/
def execPkgRelease (r : Nat) (s : State) : Host.Outcome State Fault Refusal :=
  guardI (decide (r < 8192)) (
    if s.loss.isSome then s
    else s.withDesc r 0x14 (fun s d =>
      let h := le d.bytes 8 2
      match s.pkg h with
      | none => s.complete r d.num .packageNotRetained
      | some p =>
        if s.jobs.any (fun j => j.pkg == h) then s.complete r d.num .jobInUse
        else
          let s := s.comp.kv.seqs.foldl (fun s e => match e.2 with
            | some q => if q.pkg = h then s.dropSeq e.1 else s
            | none => s) s
          let s := s.inService.foldl State.kvIdle s
          ((s.setPkg h none).dirtyAdd [p.home]).complete r d.num .success))

end Sys2Proof.Machine
end

