-- ==== Sys2Proof/Machine/JobEnd.lean ====
section
/-!
DEFINITION. The end of a job: what it writes, what it frees and what its host sees (R75, R91, R121,
R165, R276, R335, R337), output digests (R184), and post-mortem capture (R123).
-/

namespace Sys2Proof.Machine

open Sys2Proof

/-! ### Digests (R184, R188) -/

/-- An output's digest: a DIGEST record, or in replay one to compare. Outputs of a job without a
SUBMIT record have no key. -/
def State.digest (s : State) (kind key tensor act tick : Nat) (b : Bytes) : State :=
  if kind ≠ 4 && key = 0 then s
  else if s.inReplay then
    { s with slog := { s.slog with made := s.slog.made ++ [([tick, kind, key, tensor, act], digest128 b)] } }
  else if s.flag 0x304 4 then
    s.slogNow 0x0B 0 (leBytes 4 kind ++ leBytes 4 key ++ leBytes 4 tensor ++ leBytes 4 act ++ leBytes 8 tick ++ digest128 b)
  else s

/-! ### A job's tensors -/

/-- A job that no descriptor of this package admitted: a member share (R148), or a job of replay. Such a
job writes nothing to the host. -/
def Job.silent (j : Job) : Bool := decide (2 ^ 32 ≤ j.num)

/-- The first place of a tensor of a job. -/
def Job.placeOf (j : Job) (t : Nat) : Option Place := j.places.find? (fun p => p.tensor == t)

/-- The declaration of a tensor of a job's package. -/
def State.tensorDecl (s : State) (j : Job) (t : Nat) : Option TensorDecl :=
  (s.pkg j.pkg).bind (fun p => p.decl.tensors[t]?)

/-- The bytes of a tensor, as its first copy holds them. -/
def State.tensorBytes (s : State) (j : Job) (t : Nat) : Bytes :=
  match j.placeOf t, s.tensorDecl j t with
  | some p, some d => s.rdBytes p.die p.base d.size
  | _, _ => []

/-- The tensors that leave a job: those with statistics records and those bound to outputs. -/
def State.outTensors (s : State) (j : Job) : List Nat :=
  match s.pkg j.pkg with
  | none => []
  | some p =>
    (List.range p.decl.tensors.length).filter (fun t =>
      (pkgOutTensors p.decl).contains t ||
        j.binds.any (fun b => b.tensor == t && (b.kind == 2 || b.kind == 4 || b.kind == 6)))

/-- Digests of a job's output tensors. -/
def State.tensorDigests (s : State) (j : Job) (kind act : Nat) : State :=
  (s.outTensors j).foldl (fun t i => t.digest kind j.key i act j.tick (s.tensorBytes j i)) s

/-- Segment records in axis order (Table 07-5). -/
def segsByAxis (b : Bytes) : Bytes :=
  ((List.range (b.length / 32)).foldl (fun l i =>
    insertBy (fun x y => decide (le x 4 1 ≤ le y 4 1)) (slice b (32 * i) 32) l) []).flatten

/-- Writes a job's host outputs (R334). -/
def State.hostOutputs (s : State) (j : Job) : State :=
  if j.silent then s else (j.binds.filter (fun b => b.kind == 2)).foldl (fun s b => s.hostData b.addr (s.tensorBytes j b.tensor)) s

/-- Writes one statistics record in the order of R76. -/
def State.statWrite (s : State) (addr : Nat) (b : Bytes) : State :=
  ((s.hostData (addr + 56) (slice b 56 8)).hostData addr (slice b 0 48)).hostData (addr + 48) (slice b 48 8)

/-- Writes the statistics records of a job, one per output tensor in manifest order (R75, R76). -/
def State.statsOut (s : State) (j : Job) (part : Bool) : State :=
  match (if j.silent then none else s.pkg j.pkg) with
  | none => s
  | some p =>
    let ts := pkgOutTensors p.decl
    (List.range ts.length).foldl (fun s i =>
      let t := ts.getD i 0
      let code := match p.decl.tensors[t]? with | some d => d.code | none => 0
      s.statWrite (j.statsAddr + 64 * i) (statRecord t code j.gen j.mse part (tget TStat.zero j.stats t))) s

/-- Writes the sequence status array of a STEP, in row order (R91). -/
def State.statusOut (s : State) (j : Job) : State :=
  if j.silent then s else s.hostData j.statusAddr (j.rows.flatMap (fun r => leBytes 4 r.tag ++ leBytes 4 r.status.code))

/-! ### Regions and post-mortem capture (R121, R123) -/

/-- The scratchpad banks and instruction memories that a job's tiles have left, and no other job's tile has taken since. -/
def State.coreRegions (s : State) (j : Job) : List Region :=
  s.comp.cores.flatMap (fun e => (e.2.banks.filter (fun b => b.2 == some j.id)).map (fun b =>
    if b.1 = 32 then (⟨e.1 / 17, imemLo (e.1 % 17), imemSize⟩ : Region) else bankRegion (e.1 / 17) (e.1 % 17) b.1))

/-- Every region that a job holds, but for the memory under its berths. -/
def State.jobRegions (s : State) (j : Job) : List Region :=
  j.places.map (fun p => (⟨p.die, p.base, p.size⟩ : Region)) ++ j.pins ++ s.coreRegions j

/-- The memory under a job's berths that are not closed. -/
def State.jobBerths (s : State) (j : Job) : List Region :=
  (s.comp.berths.filter (fun e => e.2.job == j.id && s.berthState (e.1 / 256) (e.1 % 256) != 0)).map (fun e =>
    s.berthRegion (e.1 / 256) (e.1 % 256))

/-- The KV pages of the sequences that a STEP works on (R92). -/
def State.jobPages (s : State) (j : Job) : List Region :=
  if j.op ≠ 0x12 then []
  else (s.comp.kv.seqs.filter (fun e => (e.2.map (fun q => q.pkg)) == some j.pkg)).flatMap (fun e =>
    match e.2 with
    | none => []
    | some q => q.dies.flatMap (fun x => (x.pages.filterMap (s.pte x.die)).map (fun p =>
        (⟨x.die, s.pageAddr x.die p.loc p.phys, 2 ^ (s.kvDie x.die).shift⟩ : Region))))

/-- The capture kind of a region: 1 scratchpad, 2 instruction memory, 3 die pool; 0 for DRAM. -/
def regionKind (a : Nat) : Nat :=
  if a < dramTop then 0
  else if poolLo ≤ a && a < poolLo + poolSize then 3
  else if spadLo 0 ≤ a && a < spadLo 17 then 1
  else 2

/-- The physical core of a region's address; 0 for the die pool. -/
def regionCore (a : Nat) : Nat :=
  if regionKind a = 1 then (a - spadLo 0) / spadSize
  else if regionKind a = 2 then (a - imemLo 0) / imemSize
  else 0

/-- Copies regions into an area of `room` bytes until it is full. -/
def State.capRegions (s : State) : Nat → List Region → List CapSec × Bool
  | _, [] => ([], false)
  | room, r :: l =>
    let n := min r.size room
    let c : CapSec := ⟨regionKind r.base, r.die, regionCore r.base, r.base, n, decide (n < r.size), memCut r.base n (s.mem r.die)⟩
    if n < r.size then ([c], true)
    else
      let x := State.capRegions s (room - n) l
      (c :: x.1, x.2)

/-- Entries of a capture's job list (R370). -/
def jobList (js : List Job) : Bytes :=
  js.flatMap (fun j => leBytes 4 j.ring ++ leBytes 4 j.tag ++ leBytes 4 j.id ++ leBytes 4 (b2n (!j.classC)))

/-- A qualifying end is captured, and capture disarms (R123). -/
def State.capture (s : State) (js : List Job) (st : Status) : State :=
  match s.hm.armed with
  | none => s
  | some c =>
    let q := (js.filter (fun j => c.ring = 0xFFFF || j.ring = c.ring)).foldl (fun l j =>
      insertBy (fun a b => decide (a.ring ≤ b.ring)) j l) []
    if q.isEmpty || (st ≠ .packageJobLoss && !c.any) then s
    else
      let rs := (q.flatMap (fun j => s.jobRegions j ++ s.jobBerths j ++ s.jobPages j)).filter (fun r => regionKind r.base ≠ 0 && c.regions.testBit (regionKind r.base - 1))
      let x := s.capRegions (c.size64M * 2 ^ 26) rs
      let cap : Capture := ⟨st.code, (s.rd (mgtA 8)).toNat, s.pkgNum, s.clk.tick, s.now32, x.1, jobList s.jobs, x.2⟩
      let s : State := { s with hm := { s.hm with armed := none, held := some (c, cap) } }
      ((s.put (mgtA 0x100) 6 6 0).put (mgtA 0x30) 30 30 1).hmLog 0x0E none c.ring 0xFF
        ([2] ++ leBytes 2 st.code)

/-! ### Streams and axes -/

/-- The streams that a job's stream inputs and ROI tables are bound to. -/
def bindStreams (l : List Bind) : List Nat :=
  l.foldl (fun l b => if (b.kind == 3 || b.kind == 4) && !l.contains b.stream then l ++ [b.stream] else l) []
/-- The streams that a job is bound to. -/
def Job.streams (j : Job) : List Nat := bindStreams j.binds

/-- The job's binding leaves a stream: its ring, last-good tensor and ROI table go, and what waits is
discarded (R236). -/
def State.unbindStream (s : State) (st : Nat) : State :=
  let x := s.strm st
  let s := if x.wait.any (fun y => y.phase == .processing) then s.tlySync 7 else s
  let gone := (x.wait.filter (fun y => !y.canary)).length
  let s := if gone = 0 then s else (s.raise (ingA st 0xA0) 2).countN (ingA st 0xB0) gone
  let s := s.setStrm st { x with
    wait := x.wait.filter (fun y => y.canary), slots := [], good := none, bound := none, ring := [], roi := none }
  (((s.wr (ingA st 0xDC) 0).wr (ingA st 0xD4) 0).wr (ingA st 0xD8) 0).ingQueue

/-- A segment was written by job `id`. -/
def segOfJob (id : Nat) (g : Seg) : Bool := match g.src with | .job i _ _ => i == id | .desc _ => false

/-- A lost job's segments on axis `a` (R276). -/
def State.axisLost (j : Job) (st : Status) (s : State) (a : Nat) : State :=
  let x := s.ax a
  let gone := x.q.filter (segOfJob j.id)
  let cur := match x.cur with | none => false | some c => segOfJob j.id c.seg
  if gone.isEmpty && !cur then s
  else
    let s := (s.setAx a { x with q := x.q.filter (fun g => !segOfJob j.id g) }).countN (ctlA a 0x128) gone.length
    if s.owner a ≠ some (1, j.ring) then s
    else if s.flag (ctlA a 0) 9 then s.setAx a { s.ax a with safeReq := some (some st) }
    else
      match x.cur with
      | some c =>
        if c.seg.kind = 2 && c.seg.endv = 0 then (s.setAx a { s.ax a with cur := none }).setAxState a 3 else s
      | none => s

/-- The ends that cut a job's queued segments (R276). -/
def lossStatus (st : Status) : Bool :=
  st == .packageJobLoss || st == .peerJobLoss || st == .collectiveAbort || st == .leadLost

/-! ### The end -/

/-- The completion of a class S job or the job-end event of a class C job (R335, R337). -/
def State.jobEntry (s : State) (j : Job) (st : Status) : State :=
  let result := j.id + 2 ^ 16 * j.pkg
  let e := if j.classC then entryBytes j.tag st.code j.op 2 0 j.acts 0 else entryBytes j.tag st.code j.op 0 result 0 0
  let s := s.digest 5 j.key 0 (if j.classC then j.acts else 0) j.tick e
  if j.silent then s
  else if j.classC then
    let s := s.setRing j.ring { s.ring j.ring with classC := (s.ring j.ring).classC - 1 }
    s.writeEntry j.ring j.tag j.op st true true 0 j.acts s.now32
  else s.completeR j.ring j.num st result

/-- Flags and counts of a job's ending status (Table 06-19). -/
def State.endCount (s : State) (st : Status) : State :=
  if st = .deadlineOverrun then s.event 0x244 1 0x250
  else if st = .peerJobLoss then s.event 0x244 3 0x258
  else s

/-- What a job held is freed: regions wait for zeroing, berths close, its chains and streams go, its
tiles leave their cores. Removing the job frees its semaphores (R165). -/
def State.jobFree (s : State) (j : Job) (st : Status) : State :=
  let s := s.dirtyAdd (s.jobRegions j)
  let s := s.closeBerths j.id (decide (st = .collectiveAbort))
  let s : State := { s with comp := { s.comp with
    cores := s.comp.cores.map (fun e =>
      (e.1, { e.2 with
        last := if e.2.last = some j.id then none else e.2.last
        banks := e.2.banks.filter (fun b => b.2 != some j.id) })) } }
  let s := s.setJobs (s.jobs.filter (fun k => k.id != j.id))
  let s := j.kvDies.foldl State.kvIdle s
  j.streams.foldl State.unbindStream s

/-- The bytes of the report of a done share (R75). -/
def doneBytes (job pkg : Nat) (l : Tbl TStat) : Bytes :=
  leBytes 4 job ++ leBytes 4 pkg ++ leBytes 4 l.length ++ l.flatMap (fun e => leBytes 4 e.1 ++ e.2.toList.flatMap (fun n => leBytes 8 n))

/-- A member that has done its share tells the lead, with its quantiser counts (R75). -/
def State.sendDone (s : State) (j : Job) : State :=
  match j.member with
  | some lead => s.sendTo (s.quayPkt 9 3 s.leadPkg (padTo 8 (doneBytes lead s.pkgNum j.runStats)))
  | none => s

/-- A job ends with a status: outputs and records first, the completion last (R324). A package job
loss and a reset end jobs on their own paths. -/
def State.jobEnd (s : State) (id : Nat) (st : Status) : State :=
  match s.job id with
  | none => s
  | some j =>
    let ok := decide (st = .success)
    let s := if ok || st = .jobCancelled then s else s.capture [j] st
    let s := if !j.classC && ok then (s.hostOutputs j).tensorDigests j 2 0 else s
    let s := if !j.classC && !j.segs.isEmpty then s.digest 3 j.key 0 0 j.tick (segsByAxis j.segs) else s
    let s := if j.op = 0x12 then s.statusOut j else s
    let s := if j.classC then s else s.statsOut { j with stats := j.runStats, gen := 1 } (!ok)
    let s := if ok then s.sendDone j else s
    let s := s.endCount st
    let s := if !j.classC && st = .deadlineOverrun then s.outcome 0 j.key 0 0 else s
    let s := if lossStatus st then (List.range 64).foldl (State.axisLost j st) s else s
    let s := s.jobFree j st
    let s := s.jobEntry j st
    j.releasers.foldl (fun s x => s.complete x.1 x.2 .success) s

/-- Some tile of a job runs. -/
def State.jobRuns (s : State) (id : Nat) : Bool :=
  s.comp.cores.any (fun e => match e.2.tile with | some t => t.job == id | none => false)

/-- A job ends with a status at its next tile boundary: at once if no tile of it runs. The first
status stands. -/
def State.endSoon (s : State) (id : Nat) (st : Status) : State :=
  match s.job id with
  | none => s
  | some j =>
    if j.ending.isSome then s
    else if s.jobRuns id then s.updJob id (fun j => { j with ending := some st })
    else s.jobEnd id st

/-- The lead ends a spanning job on its other packages (R169, R212). -/
def State.tellPeers (s : State) (j : Job) (st : Status) : State :=
  if j.member.isSome then s
  else (j.span.filter (fun p => p ≠ s.pkgNum)).foldl (fun s p => s.sendEnd p j.id st) s

end Sys2Proof.Machine
end

