-- ==== Sys2Proof/Machine/Admit.lean ====
section
/-!
DEFINITION. Admission (R136 to R159, R164 to R166, R210, R233, R333, R334): SUBMIT and STEP, the
share of a spanning job on a member package, JOB_RELEASE and CYCLIC_LOAD.
-/

namespace Sys2Proof.Machine

open Sys2Proof

/-- What the device has of a submission. -/
structure SubReq where
  ring : Nat
  /-- Its descriptor; 2^32 for none. -/
  num : Nat
  desc : Bytes
  /-- Handle, or 0 with the package supplied. -/
  h : Nat
  pkg : Option Package
  param : Bytes
  lengths : Bytes
  inputs : List Bytes
  peers : List Peer
  /-- SEQ of its SUBMIT record. -/
  key : Nat
  subm : Bytes
  /-- On a member: the lead's plan. -/
  lead : Option SharePlan
  /-- Working time and tick at the descriptor's fetch (R157). -/
  fetchT : Nat
  fetchTick : Nat
  deriving DecidableEq, Repr

/-- A check that fails with a status. -/
def need (c : Bool) (st : Status) : Except Status Unit := if c then .ok () else .error st

/-- A check that gives its own status. -/
def needOk (st : Status) : Except Status Unit := if st = .success then .ok () else .error st

/-- PARAM_LEN, STATS_LEN and STATS_ADDR of a SUBMIT or STEP descriptor. -/
def subParamLen (d : Bytes) : Nat := if dOp d = 0x12 then le d 24 4 else le d 32 4
def subStatsLen (d : Bytes) : Nat := if dOp d = 0x12 then le d 52 4 else le d 36 4
def subStatsAddr (d : Bytes) : Nat := if dOp d = 0x12 then le d 56 8 else le d 40 8
/-- ROWS of a STEP; none in a SUBMIT. -/
def subRows (d : Bytes) : Nat := if dOp d = 0x12 then le d 12 4 else 0

/-! ### The parameter block (R334) -/

/-- Binding entry `i`. -/
def bindAt (b : Bytes) (i : Nat) : Bind :=
  let e := slice b (160 + 16 * i) 16
  ⟨le e 0 4, le e 4 1, le e 5 1, le e 8 8⟩

/-- The binding entries of a parameter block. -/
def bindsOf (b : Bytes) : List Bind := (List.range (le b 12 4)).map (bindAt b)

/-- The core masks of a parameter block. -/
def masksOf (b : Bytes) : List Nat := (List.range 7).map (fun i => le b (16 + 2 * i) 2)

/-- The entry's fields are within their values: a host address aligned, a stream in range, and
what does not apply to the kind or the class zero. -/
def bindBad (classC : Bool) (b : Bytes) (i : Nat) : Bool :=
  let e := bindAt b i
  let host := e.kind = 1 || e.kind = 2
  !zeroAt b (160 + 16 * i + 6) 2 || e.kind < 1 || 6 < e.kind ||
    (if host then e.stream ≠ 0 || e.addr % 8 ≠ 0 else e.addr ≠ 0 || 48 ≤ e.stream || !classC)

/-- R334 refuses the block's own fields. -/
def paramBad (step : Bool) (b : Bytes) : Bool :=
  let c := le b 0 1 = 0
  1 < le b 0 1 || (step && c) || 7 < le b 1 1 || 1 < le b 2 2 || !zeroAt b 30 2 ||
    (if c then le b 1 1 ≠ 0 || le b 2 2 ≠ 0 || le b 4 4 ≠ 0 || le b 8 4 ≠ 0
      else !zeroAt b 16 14 || (le b 2 2 = 0 && le b 8 4 ≠ 0)) ||
    (List.range (le b 12 4)).any (bindBad c b)

/-- R334 refuses the bindings: a tensor beyond the manifest, one named twice, or a host output that
overlaps another binding's range. -/
def bindsBad (p : Package) (l : List Bind) : Bool :=
  let size : Bind → Nat := fun b => match p.tensors[b.tensor]? with | some t => t.size | none => 0
  let host : Bind → Bool := fun b => b.kind == 1 || b.kind == 2
  (List.range l.length).any (fun i => match l[i]? with
    | none => false
    | some b =>
      p.tensors.length ≤ b.tensor ||
        (List.range i).any (fun k => match l[k]? with
          | none => false
          | some c => c.tensor == b.tensor ||
              (host b && host c && (b.kind == 2 || c.kind == 2) && overlaps b.addr (size b) c.addr (size c))))

/-! ### Streams (R233) -/

/-- OUT_FORMAT of a stream. -/
def State.streamFmt (s : State) (st : Nat) : NumFmt :=
  match s.fld (ingA st 0x1C) 1 0 with
  | 0 => .u8
  | 1 => .i8
  | 2 => .e4m3
  | _ => .bf16

/-- TRANSPORT of a stream: 3 is lidar. -/
def State.transport (s : State) (st : Nat) : Nat := s.fld (ingA st 0) 17 16

/-- Enabled field roles 0 to 5 of a lidar stream. -/
def State.lidarRoles (s : State) (st : Nat) : List Nat := (List.range 6).filter (fun i => s.flag (ingA st (0x44 + 4 * i)) 31)

/-- The tensor shape of a stream. -/
def State.streamShape (s : State) (st : Nat) : List Nat :=
  if s.transport st = 3 then [s.fld (ingA st 0x84) 18 0, (s.lidarRoles st).length]
  else [s.fld (ingA st 0x14) 28 24, s.fld (ingA st 0x14) 22 12, s.fld (ingA st 0x14) 10 0, if s.flag (ingA st 0xC) 7 then 1 else 3]

/-- Elements of a stream's tensor. -/
def State.streamElems (s : State) (st : Nat) : Nat := (s.streamShape st).foldl (· * ·) 1

/-- Bytes of a stream's tensor. -/
def State.streamBytes (s : State) (st : Nat) : Nat := s.streamElems st * fmtWidth (s.streamFmt st) / 8

/-- RING_SLOTS. -/
def State.ringSlots (s : State) (st : Nat) : Nat := s.fld (ingA st 0) 24 20

/-- Bytes of one ring slot: header and tensor, rounded up to 64 KiB. -/
def State.slotSize (s : State) (st : Nat) : Nat := alignUp 65536 (64 + s.streamBytes st)

/-- Bytes of a stream's ring with its last-good slot. -/
def State.ringBytes (s : State) (st : Nat) : Nat := (s.ringSlots st + 1) * s.slotSize st

/-- The stream checks of R233 but the last. -/
def State.streamCheck (s : State) (p : Package) (l : List Bind) : Status :=
  if (bindStreams l).any (fun st => s.jobs.any (fun j => j.streams.contains st)) then .streamBound
  else if l.any (fun b => (b.kind == 3 || b.kind == 5) && (match p.tensors[b.tensor]? with
      | none => true
      | some t => t.shape != s.streamShape b.stream || t.fmt != s.streamFmt b.stream)) then .streamShapeMismatch
  else .success

/-- Places for the slots of a stream's ring in the pool units `pool`: the first that each fits. -/
def State.ringPlaces (s : State) (pool : List Region) (st : Nat) : Nat → List Region → Option (List Region)
  | 0, _ => some []
  | n + 1, used =>
    match pool.findSome? (fun r => rangePlace used r.die r.base (r.base + r.size) (s.slotSize st) 65536) with
    | none => none
    | some x => (s.ringPlaces pool st n (used ++ [x])).map (fun l => x :: l)

/-- The rings of streams, one after another. -/
def State.layRings (s : State) (pool : List Region) : List Nat → List Region → Option (List (Nat × List Region))
  | [], _ => some []
  | st :: l, used =>
    match s.ringPlaces pool st (s.ringSlots st + 1) used with
    | none => none
    | some x => (s.layRings pool l (used ++ x)).map (fun m => (st, x) :: m)

/-- The rings of a class C job, in its pool units on the lowest die; none where they do not fit (R233). -/
def State.ringsFor (s : State) (pins : List Region) (sts : List Nat) : Option (List (Nat × List Region)) :=
  let pool := pins.filter (fun r => regionKind r.base = 3)
  s.layRings (pool.filter (fun r => some r.die == (pool.head?.map (fun x => x.die)))) sts []

/-! ### Semaphores (R164 to R166) -/

/-- The hardware semaphores that admitted jobs hold, as die · 256 + index. -/
def semsUsed (js : List Job) : List Nat := js.flatMap (fun j => j.sems.map (fun x => x.die * 256 + x.index))

/-- Binds semaphore records to hardware semaphores, sharing by key; none where none is free. -/
def State.bindSems (s : State) (js : List Job) : List (Nat × Nat × Nat) → List SemBind → Option (List SemBind)
  | [], acc => some acc
  | (key, acq, rel) :: l, acc =>
    let same := ((js.flatMap (fun j => j.sems)) ++ acc).find? (fun x => x.key == key)
    match same with
    | some x => State.bindSems s js l (acc ++ [⟨key, acq, rel, x.die, x.index, false⟩])
    | none =>
      let used := semsUsed js ++ acc.map (fun x => x.die * 256 + x.index)
      match (s.inService.flatMap (fun d => (List.range 256).map (fun i => d * 256 + i))).find? (fun k => !used.contains k) with
      | none => none
      | some k => State.bindSems s js l (acc ++ [⟨key, acq, rel, k / 256, k % 256, false⟩])

/-- The semaphore records of a package with their site keys. -/
def semKeys (p : Package) (param : Bytes) : List (Nat × Nat × Nat) :=
  (List.range (pkgSems p)).map (fun k => (le param (32 + 2 * k) 2, le (semRec p k) 4 4, le (semRec p k) 8 4))

/-- A key that a class C and a class S job bind has a class S hold of more than one tile (R166). -/
def ceilingBad (js : List Job) (classC : Bool) (l : List (Nat × Nat × Nat)) : Bool :=
  l.any (fun x => js.any (fun j => j.classC != classC && j.sems.any (fun y =>
    y.key == x.1 && (if classC then y.acq != y.rel else x.2.1 != x.2.2))))

/-! ### Release and deadline (R157, R176) -/

/-- The edge of tick c + d at the present base period. -/
def State.edgeAt (s : State) (d : Int) : Nat :=
  (if 0 < d then (s.clk.nextEdge : Int) + (d - 1) * s.clk.period else (s.clk.lastEdge : Int) + d * s.clk.period).toNat

/-- Release time and tick of a class S submission, from the tick and time of its fetch. -/
def State.releaseOf (s : State) (q : SubReq) : Nat × Nat :=
  let edge : Int → Nat × Nat := fun n => (s.edgeAt (n - s.clk.tick), n.toNat)
  if (le q.param 2 2).testBit 0 then edge ((q.fetchTick : Int) + dist32 (le q.param 8 4) q.fetchTick)
  else if s.det then edge ((q.fetchTick : Int) + 1)
  else (q.fetchT, q.fetchTick)

/-! ### The checks and the job (Table 06-2) -/

/-- The next job handle (Table 14-4, 16 bits). -/
def State.nextJob (s : State) : Nat :=
  (((List.range 65535).map (fun i => (s.comp.lastJob + i) % 65535 + 1)).find? (fun h => (s.job h).isNone)).getD 0

/-- The peers' answers to the lead (R210, R333). -/
def State.peerCheck (s : State) (l : List Peer) : Status :=
  if l.any (fun x => x.det != s.det) then .fabricCfgInvalid
  else if l.any (fun x => !x.reachable || !s.reachable x.pkg) then .fabricUnreachable
  else if l.any (fun x => !x.retained) then .packageNotRetained
  else .success

/-- The step of Table 06-2 at which a peer refuses its share. -/
def verdictStep (st : Status) : Nat :=
  if st = .needsSumColumn || st = .placementNoCore then 6
  else if st = .semCeilingInvalid || st = .semExhausted then 8
  else if st = .deadlineUnmeetable then 9
  else 7

/-- The first refusal among the peers' placements at a step of Table 06-2. -/
def peerVerdict (l : List Peer) (step : Nat) : Status :=
  ((l.filterMap (fun x => Status.ofCode x.verdict)).find? (fun st => st != .success && verdictStep st == step)).getD .success

/-- Largest contribution of each level on any package, in cycles (R158). -/
def levelMax (durs : List Nat) (peers : List Peer) : Nat :=
  ((List.range durs.length).map (fun i => (peers.map (fun x => x.levels.getD i 0)).foldl max (durs.getD i 0))).sum

/-- A job of the request before it is planned. -/
def SubReq.job (q : SubReq) (s : State) : Job :=
  let c := decide (le q.param 0 1 = 0)
  { id := s.nextJob, ring := q.ring, tag := dTag q.desc, op := dOp q.desc, classC := c, num := q.num,
    key := q.key, pkg := q.h, prio := le q.param 1 1, release := s.clk.t, deadline := 0,
    admitT := s.clk.t, tick := s.clk.tick, phase := .waiting, masks := if c then masksOf q.param else [],
    mse := decide (s.service ≠ 0), statsAddr := subStatsAddr q.desc, stats := [], runStats := [], gen := 0,
    binds := bindsOf q.param, plan := [], level := 0, collWait := false, x := 0, w := 0, places := [],
    pins := [], sems := [], span := [], member := none, chains := [], allChains := [], farNs := 0, farBlock := 0,
    heard := [], inputs := [], shown := [], displaced := false, rows := [],
    statusAddr := if dOp q.desc = 0x12 then le q.desc 40 8 else 0, settling := 0, reports := [],
    ending := none, segs := [], act := none, acts := 0, colls := [], releasers := [],
    subm := q.subm }

/-- The packages of a spanning job, ascending; empty for a local one. -/
def SubReq.span (q : SubReq) (s : State) (p : Package) : List Nat :=
  match q.lead with
  | some l => l.span
  | none =>
    if pkgSpan p ≤ 1 then []
    else (s.pkgNum :: q.peers.map (fun x => x.pkg)).foldl (fun l x => insertBy (fun a b => decide (a ≤ b)) x l) []

/-- Steps 1 to 5 of Table 06-2: the package, the block and the job table. -/
def State.admitChecks (s : State) (q : SubReq) : Except Status Package := do
  let step := decide (dOp q.desc = 0x12)
  let n := le q.param 12 4
  need (decide (n ≤ 512) && decide (160 + 16 * n ≤ subParamLen q.desc) && decide (subRows q.desc ≤ 4096)) .lengthExceeds
  need (!paramBad step q.param) .descriptorInvalid
  let p ← match (if q.h = 0 then q.pkg else (s.pkg q.h).map (fun p => p.decl)) with
    | some p => Except.ok p
    | none => Except.error Status.packageNotRetained
  need (decide (pkgOutputs p * 64 ≤ subStatsLen q.desc) && decide (subRows q.desc ≤ pkgMaxSeq p || !step)) .lengthExceeds
  if q.h = 0 then needOk (pkgCheck p)
  let c := decide (le q.param 0 1 = 0)
  need ((pkgClasses p).testBit (if c then 0 else 1) && (!c || pkgSpan p = 1)) .manifestInvalid
  need (!bindsBad p (bindsOf q.param)) .descriptorInvalid
  need (!step || !kvTableBad (subRows q.desc) q.lengths) .kvTableInvalid
  need (decide (s.jobs.length < 256) && (!c || decide ((s.jobs.filter (fun j => j.classC)).length < 64))) .jobTableFull
  if 1 < pkgSpan p && q.lead.isNone then
    need s.isLead .notLeadPackage
    needOk (s.peerCheck q.peers)
  return p

/-- What a package plans of a job: its packages, this one's rank, the chains of all, and the levels of its share. -/
structure Share where
  span : List Nat
  rank : Nat
  chains : List (Nat × Nat × Nat)
  levels : List LevelWork
  deriving DecidableEq, Repr

/-- The cores that a job's operators may run on, by the ASYM flag. -/
def State.coresFor (s : State) (j : Job) (asym : Bool) : List Nat :=
  if j.classC then s.eligibleC j.masks asym else s.eligible asym

/-- This package's share of a request (R143, R148). A member follows the lead's chains. -/
def State.share (s : State) (q : SubReq) (p : Package) (j : Job) : Share :=
  let span := if j.classC then [] else q.span s p
  let r := match findAt (fun x => x == s.pkgNum) span 0 with | some (i, _) => i | none => 0
  let chains := match q.lead with
    | some l => l.chains
    | none => s.chainPlan q.h p span r (diesOf (s.coresFor j false)) q.peers
  ⟨span, r, chains, levelWorks p (chainsAt chains r) (max 1 span.length) r s.linksUp s.hops (s.coresFor j)⟩

/-- Step 6 of Table 06-2: cores for every operator, here and on the other packages. -/
def State.coreCheck (s : State) (q : SubReq) (p : Package) (j : Job) : Status :=
  let st := coreStatus (s.share q p j).levels p (s.coresFor j)
  if st ≠ .success then st
  else if s.inService.length < pkgDies p || (j.classC && (opRecs p).any (fun o => o.remote)) then .placementNoCore
  else peerVerdict q.peers 6

/-- Step 7: no die is offered for the job's chains (R93). -/
def State.kvNowhere (s : State) (p : Package) (j : Job) : Bool :=
  pkgKv p && !(s.kvOffered (pkgShift p)).any (fun d => (diesOf (s.coresFor j false)).contains d)

/-- A class S job's plan, memory and bound: step 7. -/
def State.planS (s : State) (q : SubReq) (p : Package) (j : Job) : Except Status Job := do
  let x := s.share q p j
  let mk := planShare x.levels
  need (!s.kvNowhere p j) .placementNoMemory
  let places ← match placeAll (s.placeS p mk.plan) 0 p.tensors s.usedAll with
    | some l => Except.ok l
    | none => Except.error Status.placementNoMemory
  needOk (peerVerdict q.peers 7)
  let cyc := levelMax mk.durs q.peers + (x.levels.map (fun l => l.coll)).sum
  let rel := s.releaseOf q
  let j : Job := { j with
    plan := mk.plan, places := places, chains := chainsAt x.chains x.rank, allChains := x.chains, span := x.span
    inputs := q.inputs }
  return match q.lead with
    | some l => { j with
        x := l.x, w := l.w, release := l.release, tick := l.tick, deadline := l.deadline, member := some l.job
        farNs := l.far, farBlock := l.farBlock }
    | none =>
      let j : Job := { j with
        x := cyclesNs cyc + (if pkgKv p then 100000 else 0)
        w := (q.peers.map (fun x => x.stage)).foldl max (stageNs p places)
        release := rel.1, tick := rel.2, deadline := rel.1 + le q.param 4 4 * 1000 }
      let f := farOf s.jobs j (q.peers.flatMap (fun x => x.jobs))
      { j with farNs := f.1, farBlock := f.2 }

/-- A class C job's plan and pins: step 7. -/
def State.planC (s : State) (q : SubReq) (p : Package) (j : Job) : Except Status Job := do
  let x := s.share q p j
  let mk := planShare x.levels
  needOk (s.streamCheck p j.binds)
  need (!s.kvNowhere p j) .placementNoMemory
  let sts := bindStreams (j.binds.filter (fun b => b.kind == 3))
  let pins ← match s.pinsFor p j.masks with
    | some l => Except.ok l
    | none => Except.error Status.classCNotPinnable
  let rings ← match s.ringsFor pins sts with
    | some l => Except.ok (l.flatMap (fun e => e.2))
    | none => Except.error Status.classCNotPinnable
  let places ← match placeAll (s.placeC pins mk.plan) 0 p.tensors rings with
    | some l => Except.ok l
    | none => Except.error Status.classCNotPinnable
  return { j with
    plan := mk.plan, places := places, pins := pins, x := cyclesNs mk.t
    chains := chainsAt x.chains x.rank, allChains := x.chains }

/-- Steps 8 and 9: semaphores, then a class S job's deadline. A member tests its other jobs only: the lead has admitted
the job itself. -/
def State.admitLast (s : State) (q : SubReq) (p : Package) (j : Job) : Except Status Job := do
  let keys := semKeys p q.param
  need (!ceilingBad s.jobs j.classC keys) .semCeilingInvalid
  let sems ← match s.bindSems s.jobs keys [] with
    | some l => Except.ok l
    | none => Except.error Status.semExhausted
  needOk (peerVerdict q.peers 8)
  let j := { j with sems := sems }
  let us := le q.param 4 4
  need (j.classC || (if q.lead.isSome then othersOk s.jobs j []
    else 1 ≤ us && us ≤ 10000000 && timingOk s.jobs j (q.peers.flatMap (fun x => x.jobs)))) .deadlineUnmeetable
  needOk (peerVerdict q.peers 9)
  return j

/-- The state that retains the request's package, with its handle; a supplied package that cannot be
retained is refused with the memory checks of step 7. -/
def State.keepPkg (s : State) (q : SubReq) (p : Package) : Except Status (State × Nat) :=
  if q.h ≠ 0 then .ok (s, q.h)
  else
    match s.retain p with
    | some x => .ok x
    | none => .error .placementNoMemory

/-- The job placed as its class asks. -/
def State.planJob (s : State) (q : SubReq) (p : Package) (j : Job) : Except Status Job :=
  if j.classC then s.planC q p j else s.planS q p j

/-- Table 06-2: the job that the request becomes, over the state that retains its package, or the
status that refuses it. -/
def State.admission (s : State) (q : SubReq) : Except Status (State × Job) := do
  let p ← s.admitChecks q
  needOk (s.coreCheck q p (q.job s))
  let kept ← s.keepPkg q p
  let j ← kept.1.planJob q p { q.job s with pkg := kept.2 }
  let j ← s.admitLast q p j
  return (kept.1, j)

/-! ### Taking a job in -/

/-- Writes a tensor's bytes into each of its places. -/
def State.fillTensor (s : State) (j : Job) (t : Nat) (b : Bytes) : State :=
  (j.places.filter (fun p => p.tensor == t)).foldl (fun s p => s.wrBytes p.die p.base (b.take p.size)) s

/-- Weights come into those of their places that satisfy `f`. -/
def State.fillWeights (s : State) (p : Package) (j : Job) (f : Place → Bool) : State :=
  (j.places.filter f).foldl (fun s x =>
    match (p.tensors[x.tensor]?).bind (fun t => t.weights) with
    | some b => s.wrBytes x.die x.base (b.take x.size)
    | none => s) s

/-- Host inputs come into place, in the order of their bindings (R334). -/
def State.fillInputs (s : State) (j : Job) (inputs : List Bytes) : State :=
  let ins := j.binds.filter (fun b => b.kind == 1)
  (List.range ins.length).foldl (fun s i =>
    match ins[i]? with
    | some b => s.fillTensor j b.tensor (inputs.getD i [])
    | none => s) s

/-- The bytes at host address `a`, with those that a visible output covers. -/
def overlay (a : Nat) (b : Bytes) (x : Nat × Bytes) : Bytes :=
  if !overlaps a b.length x.1 x.2.length then b
  else
    let lo := max a x.1
    let hi := min (a + b.length) (x.1 + x.2.length)
    b.take (lo - a) ++ (x.2.drop (lo - x.1)).take (hi - lo) ++ b.drop (hi - a)

/-- A class S job reads its host inputs at its release: where a class C job writes them, what is visible then (R178,
R334). -/
def State.readInputs (s : State) (j : Job) : State :=
  let shown := (s.jobs.filter (fun k => k.classC)).flatMap (fun k => k.shown)
  let ins := j.binds.filter (fun b => b.kind == 1)
  let data := (List.range ins.length).map (fun i =>
    match ins[i]? with
    | some b => shown.foldl (overlay b.addr) (j.inputs.getD i [])
    | none => [])
  (s.fillInputs j data).updJob j.id (fun j => { j with inputs := [] })

/-- A class C job's streams get their rings (R233, R236). -/
def State.bindStreamsOf (s : State) (j : Job) : State :=
  let sts := bindStreams (j.binds.filter (fun b => b.kind == 3))
  let s := ((s.ringsFor j.pins sts).getD []).foldl (fun s x =>
    s.setStrm x.1 { s.strm x.1 with
      slots := List.replicate (s.ringSlots x.1) none, good := none, bound := none, ring := x.2, roi := none }) s
  j.streams.foldl (fun s st => s.wr (ingA st 0xDC) (BitVec.ofNat 32 (2 ^ 31 + j.id))) s

/-- The bytes of a planning message (R214). -/
def planBytes (x : SharePlan) (op : Nat) : Bytes :=
  leBytes 4 x.job ++ leBytes 4 x.ring ++ x.digest ++ leBytes 4 op ++ leBytes 4 x.param.length ++ padTo 8 x.param ++
    leBytes 4 x.lengths.length ++ padTo 8 x.lengths ++ leBytes 4 x.span.length ++ x.span.flatMap (fun p => leBytes 4 p) ++
    leBytes 8 x.release ++ leBytes 8 x.deadline ++ leBytes 8 x.tick ++ leBytes 4 x.chains.length ++
    x.chains.flatMap (fun c => leBytes 4 c.1 ++ leBytes 2 c.2.1 ++ leBytes 2 c.2.2) ++
    leBytes 8 x.x ++ leBytes 8 x.w ++ leBytes 8 x.far ++ leBytes 8 x.farBlock

/-- What the job's packages other than `pkg` add to its bound (R158). -/
def State.farFor (s : State) (q : SubReq) (j : Job) (pkg : Nat) : Nat × Nat :=
  let f := farOf s.jobs j ((q.peers.filter (fun x => x.pkg != pkg)).flatMap (fun x => x.jobs))
  let own : Job := { j with farNs := 0, farBlock := 0 }
  let b := blockNs s.jobs own
  (f.1 + (boundNs s.jobs own - j.x - j.w - b), max f.2 b)

/-- The lead sends its plan to the job's other packages, and hears from each anew (R148, R214). -/
def State.sendPlan (s : State) (q : SubReq) (j : Job) : State :=
  if j.member.isSome || j.span.isEmpty then s
  else
    let d := ((s.pkg j.pkg).map (fun p => p.digest)).getD []
    (j.span.filter (fun p => p ≠ s.pkgNum)).foldl (fun s p =>
      let s : State := { s with comp := { s.comp with fab := { s.comp.fab with member := tset 0 s.comp.fab.member p 0 } } }
      let far := s.farFor q j p
      s.sendTo (s.quayPkt 9 3 p (planBytes ⟨j.id, j.ring, d, decide (j.op = 0x12), q.param, q.lengths, j.span, j.release, j.deadline,
        j.tick, j.allChains, j.x, j.w, far.1, far.2⟩ j.op))) s

/-- A report of a settle: job, package, stage, slots (R99). -/
def settleBytes (job pkg stage : Nat) (slots : List Nat) : Bytes :=
  leBytes 4 job ++ leBytes 4 pkg ++ leBytes 4 stage ++ leBytes 4 slots.length ++ padTo 8 (slots.flatMap (fun x => leBytes 4 x))

/-- A member's report goes to the lead (R99). -/
def State.settleReport (s : State) (member : Option Nat) (stage : Nat) (slots : List Nat) : State :=
  match member with
  | some lead => s.sendTo (s.quayPkt 9 3 s.leadPkg (settleBytes lead s.pkgNum stage slots))
  | none => s

/-- Phases 1 and 2 of a STEP, and for a local job phase 3 too; a package of a spanning one reports the joins it turns
away to the lead and waits (R98, R99). -/
def State.stepSettle (s : State) (q : SubReq) (p : Package) (j : Job) : State × Job :=
  if j.op ≠ 0x12 then (s, j)
  else
    let s := s.kvRetired j.pkg
    let rows := (kvRows (subRows q.desc) q.lengths).map (fun r => { r with status := s.kvCheck j.pkg (pkgMaxTok p) r })
    let s := s.kvLeaves j.pkg rows
    let x := s.kvDenied j.chains rows
    if j.span.isEmpty then
      let y := x.1.kvGrowth j.pkg j.chains rows x.2
      let z := y.1.kvFinish j.chains y.2.1 y.2.2
      (z.1, { j with rows := z.2 })
    else
      let s := x.1.settleReport j.member 1 x.2
      (s, { j with rows := rows, settling := 1, reports := [(s.pkgNum, 1, x.2)] })

/-- An admitted job enters the table: its regions are taken, its tensors filled, its dies set up for
KV pages, its streams bound and its step settled. A class S job's weights in scratchpads and die pools are staged later
(R147), and its host inputs are read at its release. -/
def State.enter (s : State) (q : SubReq) (j : Job) : State :=
  match s.pkg j.pkg with
  | none => s
  | some pk =>
    let p := pk.decl
    let s := s.claim (j.places.map (fun x => (⟨x.die, x.base, x.size⟩ : Region)) ++ j.pins)
    let s := s.fillWeights p j (fun x => j.classC || decide (x.base < dramTop))
    let s := if j.classC then s.fillInputs j q.inputs else s
    let s : State := if j.allChains.isEmpty then s
      else { s with comp := { s.comp with kv := { s.comp.kv with assign := tset [] s.comp.kv.assign j.pkg j.allChains } } }
    let s := j.kvDies.foldl (fun s d => s.kvSetup d (j.chains.filter (fun c => c.2 == d)).length (pkgShift p)) s
    let s := if j.classC then s.bindStreamsOf j else s
    let x := s.stepSettle q p j
    let s := x.1.setJobs (x.1.jobs ++ [x.2])
    let s : State := { s with comp := { s.comp with lastJob := j.id } }
    (s.count 0x248).sendPlan q j

/-- A job of a peer, as a SUBMIT record holds it. -/
def peerJobBytes (k : PeerJob) : Bytes :=
  leBytes 4 k.prio ++ leBytes 4 k.rank ++ leBytes 8 k.deadline ++ leBytes 4 k.ring ++ leBytes 8 k.x ++ leBytes 8 k.w ++
    leBytes 8 k.slack ++ k.holds.flatMap (fun h => leBytes 4 h.1 ++ leBytes 8 h.2)

/-- A peer's answer, as a SUBMIT record holds it. -/
def peerBytes (p : Peer) : Bytes :=
  leBytes 4 p.pkg ++ leBytes 4 (b2n p.det + 2 * b2n p.reachable + 4 * b2n p.retained) ++ leBytes 4 p.verdict ++
    leBytes 8 p.stage ++ part (p.levels.flatMap (leBytes 8)) ++ part (p.dies.flatMap (leBytes 1)) ++
    leBytes 4 p.jobs.length ++ p.jobs.flatMap (fun k => part (peerJobBytes k))

/-- The payload of a job's SUBMIT record: its two blocks are the parameter block and the lengths table; the data of its
input bindings and the peers' answers follow, each behind its length. -/
def submBytes (q : SubReq) (digest : Bytes) (handle : Nat) : Bytes :=
  descBytes handle q.desc digest q.fetchT q.fetchTick 0 q.param q.lengths ++
    leBytes 4 q.inputs.length ++ q.inputs.flatMap part ++ leBytes 4 q.peers.length ++ q.peers.flatMap (fun p => part (peerBytes p))

/-- The digest of a request's package (R183). -/
def State.subDigest (s : State) (q : SubReq) : Bytes :=
  if q.h = 0 then (match q.pkg with | some p => digest128 p.raw | none => [])
  else ((s.pkg q.h).map (fun p => p.digest)).getD []

/-- The digest of the completion that a submission's decision gives it (R184): a class C job's admission, or a
refusal. -/
def State.subDone (s : State) (q : SubReq) (st : Status) (result : Nat) : State :=
  s.digest 5 q.key 1 0 q.fetchTick (entryBytes (dTag q.desc) st.code (dOp q.desc) 0 result 0 0)

/-- Decides a submission: admitted, with the job, or refused. -/
def State.subDecide (s : State) (q : SubReq) : State × Except Status Job :=
  match s.admission q with
  | .error st => ((s.event 0x244 0 0x24C).subDone q st 0, .error st)
  | .ok (s, j) =>
    let s := s.enter q j
    (if j.classC then s.subDone q .success (j.id + 2 ^ 16 * j.pkg) else s, .ok j)

/-- Decides a submission of a ring and logs it. A class C submission completes now. -/
def State.decideSub (s : State) (q : SubReq) : State :=
  let b := submBytes q (s.subDigest q) s.nextJob
  let q := { q with key := if s.logOn && !s.inReplay then s.slog.seq else 0, subm := b }
  let x := (s.logSubmit q.ring b).subDecide q
  match x.2 with
  | .error st => x.1.complete q.ring q.num st
  | .ok j =>
    if j.classC then
      let s := x.1.setRing q.ring { x.1.ring q.ring with classC := (x.1.ring q.ring).classC + 1 }
      s.completeR q.ring q.num .success (j.id + 2 ^ 16 * j.pkg)
    else x.1

/-- The data of host reads; none where one failed. -/
def allSome : List (Option Bytes) → Option (List Bytes)
  | [] => some []
  | none :: _ => none
  | some b :: l => (allSome l).map (fun t => b :: t)

/-- SUBMIT: a package is supplied or named, checked and admitted as a job (R138, R333, R334). -/
def execSubmit (r : Nat) (pkg : Option Package) (param : Option Bytes) (inputs : List (Option Bytes))
    (peers : List Peer) (s : State) : Host.Outcome State Fault Refusal :=
  guardI (decide (r < 8192)) (
    if s.loss.isSome then s
    else s.withDesc r 0x11 (fun s d =>
      let h := le d.bytes 8 2
      match param, allSome inputs, (h = 0 && pkg.isNone : Bool) with
      | some pr, some ins, false =>
        s.decideSub ⟨r, d.num, d.bytes, h, pkg, pr, [], ins, peers, 0, [], none, d.fetch.t, d.fetch.tick⟩
      | _, _, _ => s.complete r d.num .hostMemoryFault))

/-- STEP: a class S job of a retained package with a lengths table (R89 to R99). -/
def execStep (r : Nat) (param lengths : Option Bytes) (inputs : List (Option Bytes)) (peers : List Peer)
    (s : State) : Host.Outcome State Fault Refusal :=
  guardI (decide (r < 8192)) (
    if s.loss.isSome then s
    else s.withDesc r 0x12 (fun s d =>
      match param, lengths, allSome inputs with
      | some pr, some ln, some ins =>
        s.decideSub ⟨r, d.num, d.bytes, le d.bytes 8 2, none, pr, ln, ins, peers, 0, [], none, d.fetch.t, d.fetch.tick⟩
      | _, _, _ => s.complete r d.num .hostMemoryFault))

/-! ### A member's share (R148) -/

/-- The share of a lead's spanning job on this package; what refuses it is reported to the lead. -/
def State.takePlan (s : State) (x : SharePlan) : State :=
  match s.pkgByDigest x.digest with
  | none => s.sendEnd s.leadPkg x.job .packageNotRetained
  | some h =>
    let rows := x.lengths.length / 32
    let desc := if x.step then [0x12, 0] ++ zeros 6 ++ leBytes 2 h ++ zeros 2 ++ leBytes 4 rows ++ zeros 8 ++
        leBytes 4 x.param.length ++ leBytes 4 x.lengths.length ++ zeros 20 ++ leBytes 4 0x4000000 ++ zeros 8
      else [0x11, 0] ++ zeros 6 ++ leBytes 2 h ++ zeros 22 ++ leBytes 4 x.param.length ++ leBytes 4 0x4000000 ++ zeros 24
    let q : SubReq := ⟨x.ring, 2 ^ 32, desc, h, none, x.param, x.lengths, [], [], 0, [], some x, s.clk.t, s.clk.tick⟩
    match s.admission q with
    | .error st => s.sendEnd s.leadPkg x.job st
    | .ok (s, j) => s.enter q j

/-! ### Release (R137, R338) -/

/-- A loaded table names a job. -/
def tableNames (b : Bytes) (id : Nat) : Bool := (cycEntries b).any (fun e => e.job == id)

/-- The running or pending table references a job. -/
def State.cycNames (s : State) (id : Nat) : Bool :=
  (match s.runTable with | none => false | some b => tableNames b id) ||
    (match s.comp.cycNext with | some (some n) => tableNames (s.bank n) id | _ => false)

/-- Releases a class C job, or stops a class S job at its next tile boundary (R338). In replay the jobs are those of
the log. -/
def State.releaseJob (s : State) (r : Nat) (d : Inflight) : State :=
  let ring := le d.bytes 8 4
  let tag := le d.bytes 12 4
  match s.jobs.find? (fun j => j.ring == ring && j.tag == tag && (!j.silent || (s.inReplay && j.member.isNone))) with
  | none => s.complete r d.num .descriptorInvalid
  | some j =>
    let s := s.logDesc r d 0 0 [] []
    if j.classC && s.cycNames j.id then s.complete r d.num .jobInUse
    else
      let s := s.updJob j.id (fun j => { j with releasers := j.releasers ++ [(r, d.num)] })
      if j.classC then s.endSoon j.id .success
      else (s.tellPeers j .jobCancelled).endSoon j.id .jobCancelled

/-- JOB_RELEASE: a ring's own job, or on an installer ring any (R338, Table 14-4). -/
def execJobRelease (r : Nat) (s : State) : Host.Outcome State Fault Refusal :=
  guardI (decide (r < 8192)) (
    if s.loss.isSome then s
    else s.withDesc r 0x13 (fun s d =>
      if le d.bytes 8 4 ≠ r && !s.installer r then s.complete r d.num .permissionDenied else s.releaseJob r d))

/-! ### Cyclic tables (R152) -/

/-- CYCLIC_LOAD: loads a table into a bank that is neither active nor pending. -/
def execCyclicLoad (r : Nat) (table : Option Bytes) (s : State) : Host.Outcome State Fault Refusal :=
  guardI (decide (r < 8192)) (s.withDesc r 0x18 (fun s d =>
    match table with
    | none => s.complete r d.num .hostMemoryFault
    | some b =>
      let n := le d.bytes 8 1
      let len := le d.bytes 12 4
      let k := le b 4 4
      if (s.flag 0x208 0 && s.fld 0x208 1 1 = n) || s.comp.cycNext = some (some n) then
        s.complete r d.num .cyclicBankActive
      else if k = 0 || 512 < k || len < 32 + 16 * k then s.complete r d.num .lengthExceeds
      else
        let t := fitTo (32 + 16 * k) b
        let s : State := if n = 0 then { s with bank0 := t } else { s with bank1 := t }
        let s := s.wr (glbA (0x20C + 4 * n)) (BitVec.ofNat 32 (2 ^ 31 + k * 2 ^ 16 + le b 0 4 % 2048))
        s.complete r d.num .success))

end Sys2Proof.Machine
end

