-- ==== Sys2Proof/Machine/TileOps.lean ====
section
/-!
DEFINITION. What the operations of a tile do in the memories of its core and die (R36 to R54, R63 to
R75, R80 to R88, R92 to R95, R100).
-/

namespace Sys2Proof.Machine

open Sys2Proof

/-- The core that runs a tile: die, physical core, job and operator. -/
structure TileCtx where
  die : Nat
  core : Nat
  job : Nat
  op : Nat
  deriving DecidableEq, Repr

/-! ### Core-local memory -/

/-- Reads a byte at a core-local offset. -/
def State.spRd (s : State) (x : TileCtx) (a : Nat) : Nat := s.rdByte x.die (spadLo x.core + a % spadSize)
/-- Stores bytes from a core-local offset on. -/
def spPut (base : Nat) : Nat → Bytes → Tbl Byte → Tbl Byte
  | _, [], m => m
  | a, b :: bs, m => spPut base (a + 1) bs (tset 0 m (base + a % spadSize) b)
/-- Writes bytes from a core-local offset on. -/
def State.spWr (s : State) (x : TileCtx) (a : Nat) (b : Bytes) : State :=
  s.setMem x.die (spPut (spadLo x.core) a b (s.mem x.die))
/-- A little-endian field of `n` bytes. -/
def rdLe (mem : Nat → Nat) (a : Nat) : Nat → Nat
  | 0 => 0
  | n + 1 => mem a + 256 * rdLe mem (a + 1) n

/-- Packs elements of `w` bits; two 4-bit elements share a byte, the even one low (R39). -/
def packElems (w : Nat) : List Nat → Bytes
  | [] => []
  | [a] => if w = 4 then [BitVec.ofNat 8 (a % 16)] else leBytes (w / 8) a
  | a :: b :: l =>
    if w = 4 then BitVec.ofNat 8 (a % 16 + 16 * (b % 16)) :: packElems w l
    else leBytes (w / 8) a ++ packElems w (b :: l)

/-- Bytes of an accumulator: int48 in 8-byte containers, FP32 in 4 (R49). -/
def accSize (int : Bool) : Nat := if int then 8 else 4
/-- An int48 in its container, sign-extended. -/
def accInt (mem : Nat → Nat) (a : Nat) : Int := sint 64 (rdLe mem a 8)
/-- An FP32 value. -/
def accFp (mem : Nat → Nat) (a : Nat) : F32 := BitVec.ofNat 32 (rdLe mem a 4)

/-! ### The array (R42 to R50) -/

/-- The integer chunk sum of row `i` and column `j` from index `lo` to `hi`. -/
def chunkInt (mem : Nat → Nat) (sf wf : NumFmt) (a w k i j lo hi : Nat) : Int :=
  (List.range (hi - lo)).foldl (fun acc t =>
    acc + intElem sf (rawElem mem sf a (i * k + lo + t)) * intElem wf (rawElem mem wf w (j * k + lo + t))) 0

/-- The floating-point chunk sum. -/
def chunkFp (mem : Nat → Nat) (sf wf : NumFmt) (a w k i j lo hi : Nat) : F32 :=
  chunkSumFp ((List.range (hi - lo)).map (fun t =>
    fprod (elemVal sf (rawElem mem sf a (i * k + lo + t))) (elemVal wf (rawElem mem wf w (j * k + lo + t)))))

/-- The BS4 chunk sum: eight block values through the tree (R47). Each column of a BS4 tensor begins a
block. -/
def chunkBs4 (mem : Nat → Nat) (sf : NumFmt) (a w e wb : Nat) (za : Int) (k i j lo hi : Nat) : F32 :=
  let cols := cdiv k 32
  let block : Nat → F32 := fun b =>
    let first := lo + 32 * b
    if hi ≤ first then f0
    else
      let idx := j * cols + first / 32
      let sum := (List.range (min 32 (hi - first))).foldl (fun acc t =>
        acc + intElem sf (rawElem mem sf a (i * k + first + t)) *
          intElem .bs4 (rawElem mem .bs4 w (j * cols * 32 + first + t))) (0 : Int)
      blockValue (mem (e + idx)) sum (za * sint 16 (rdLe mem (wb + 2 * idx) 2))
  reduceTree fadd f0 ((List.range 8).map block)

/-- The partials of an m × n block: one per chunk, `[row][column][chunk]`. `za` is the activation zero point that the
array applies to BS4 block sums. -/
def chunkBytes (mem : Nat → Nat) (sf wf : NumFmt) (a w e wb : Nat) (za : Int) (m n k : Nat) : Bytes :=
  (List.range m).flatMap (fun i => (List.range n).flatMap (fun j => (List.range (cdiv k 256)).flatMap (fun c =>
    let lo := 256 * c
    let hi := min k (lo + 256)
    if wf = .bs4 then leBytes 4 (chunkBs4 mem sf a w e wb za k i j lo hi).toNat
    else if fmtIsInt sf then leBytes 8 (uint 64 (chunkInt mem sf wf a w k i j lo hi))
    else leBytes 4 (chunkFp mem sf wf a w k i j lo hi).toNat)))

/-- reduce_chunks for each of `count` elements (R48). -/
def reduceBytes (mem : Nat → Nat) (int : Bool) (src n count : Nat) : Bytes :=
  (List.range count).flatMap (fun e =>
    let at_ : Nat → Nat := fun c => src + (e * n + c) * accSize int
    if int then leBytes 8 (uint 64 (reduceTree (· + ·) 0 ((List.range n).map (fun c => accInt mem (at_ c)))))
    else leBytes 4 (reduceTree fadd f0 ((List.range n).map (fun c => accFp mem (at_ c)))).toNat)

/-- One node of the tree for each of `count` elements, from its children (R49). -/
def nodeBytes (mem : Nat → Nat) (int : Bool) (x y count : Nat) : Bytes :=
  (List.range count).flatMap (fun e =>
    let o := e * accSize int
    if int then leBytes 8 (uint 64 (accInt mem (x + o) + accInt mem (y + o)))
    else leBytes 4 (fadd (accFp mem (x + o)) (accFp mem (y + o))).toNat)

/-- The sum column's row sums (R50), `[row][part]`: one part for each chunk, or for each block of BS4 weights. -/
def rowSumBytes (mem : Nat → Nat) (sf wf : NumFmt) (a m k : Nat) : Bytes :=
  let len := if wf = .bs4 then 32 else 256
  (List.range m).flatMap (fun i => (List.range (cdiv k len)).flatMap (fun c =>
    leBytes 8 (uint 64 ((List.range (min len (k - c * len))).foldl (fun acc t =>
      acc + intElem sf (rawElem mem sf a (i * k + c * len + t))) (0 : Int)))))

/-! ### The quantiser (R63 to R75) -/

/-- u of element (i, j) of a quantiser pass of operator `o`, by the path that its declaration selects (R67, R71). -/
def quantElem (mem : Nat → Nat) (o : OpDecl) (q : QuantOp) (i j : Nat) : F32 :=
  let at_ := q.acc + (i * q.n + j) * accSize (intAcc o)
  let x := if intAcc o then fofInt (zpCorrect o (q.col + j) (accInt mem at_) (accInt mem (q.wsum + 8 * j)) (accInt mem (q.ssum + 8 * i)))
    else accFp mem at_
  quantU x (accFp mem (q.sa + if q.saRow then 4 * i else 0)) (accFp mem (q.sw + if q.swCol then 4 * j else 0))
    (match q.bias with | some b => accFp mem (b + 4 * j) | none => f0) q.invOut

/-- Every element of a pass in row order: stored code, count, u and v. -/
def quantElems (mem : Nat → Nat) (o : OpDecl) (q : QuantOp) : List (Nat × QCount × F32 × F32) :=
  (List.range q.m).flatMap (fun i => (List.range q.n).map (fun j =>
    let u := quantElem mem o q i j
    let r := quantOut q.fmt q.zOut u
    (r.1, r.2.1, u, r.2.2)))

/-- The declaration of the operator whose tile runs. -/
def State.tileDecl (s : State) (x : TileCtx) : OpDecl :=
  match (s.job x.job).bind (fun j => s.pkg j.pkg) with
  | none => opDecl ⟨[], [], [], []⟩ 0
  | some p => opDecl p.decl x.op

/-- A quantiser pass: elements, the tensor's counts and the core's (R75, R78). -/
def State.quantPass (s : State) (x : TileCtx) (q : QuantOp) : State :=
  let es := quantElems (s.spRd x) (s.tileDecl x) q
  let clip := (es.filter (fun e => e.2.1 == .clipped)).length
  let nan := (es.filter (fun e => e.2.1 == .nan)).length
  let s := s.spWr x q.dst (packElems (fmtWidth q.fmt) (es.map (fun e => e.1)))
  let s := s.updJob x.job (fun j =>
    let t := es.foldl (fun t e => t.count j.mse e.2.1 e.2.2.1 e.2.2.2) (tget TStat.zero j.runStats q.tensor)
    { j with runStats := tset TStat.zero j.runStats q.tensor t })
  ((s.count64 (mcA x.die x.core 0x24) es.length).count64 (mcA x.die x.core 0x2C) clip).count64 (mcA x.die x.core 0x34) nan

/-! ### The vector unit (R51 to R54) -/

/-- Bytes of a lane. -/
def laneSize (bf : Bool) : Nat := if bf then 2 else 4
/-- A lane's bits. -/
def lane (mem : Nat → Nat) (bf : Bool) (a i : Nat) : Nat := rdLe mem (a + i * laneSize bf) (laneSize bf)

/-- `n` lanes of results. -/
def laneBytes (bf : Bool) (n : Nat) (f : Nat → Nat) : Bytes :=
  (List.range n).flatMap (fun i => leBytes (laneSize bf) (f i))

/-! ### Attention (R81 to R88) -/

/-- The format of a page by its code (Table 04-6). -/
def pageFmt : Nat → NumFmt
  | 0 => .bf16 | 1 => .e4m3 | 2 => .i8 | _ => .bs4
/-- The code of a page format. -/
def pageCode : NumFmt → Nat
  | .bf16 => 0 | .e4m3 => 1 | .i8 => 2 | _ => 3

/-- Element of a half page: widened value, and whether widening saturated (R81, Table 04-5). -/
def pageElem (mem : Nat → Nat) (f : NumFmt) (base group dim slot g i : Nat) : FV × Bool :=
  let idx := (slot * group + g) * dim + i
  let raw := rawElem mem f base idx
  if f = .bs4 then bs4Widen (mem (base + 8 * group * dim + idx / 32)) (intElem .bs4 raw) else (elemVal f raw, false)

/-- A position's score, its scaled values, and whether widening saturated. -/
structure PosVal where
  t : F32
  v : List F32
  sat : Bool
  deriving DecidableEq, Repr

/-- The bias of a bucket of a head, from distance-bias table `i` of the operator (R84, R85). No value is stated for an
entry beyond the operator's tables. -/
def State.biasAt (s : State) (o : OpDecl) (i head bucket : Nat) : F32 :=
  if o.bias.isEmpty then f0
  else
    match (o.bias[i]?).bind (fun t => t[head * 512 + bucket]?) with
    | some e => f32 (fdec .fp16 e)
    | none => Config.freeWord (s.free + bucket)

/-- Score and values at a position, from its page, with distance-bias table `i` (R82). -/
def State.posVal (s : State) (x : TileCtx) (a : AttnOp) (i : Nat) (e : KvEntry) (pos : Nat) : PosVal :=
  let f := pageFmt e.fmt
  let mem := s.rdByte x.die
  let page := s.pageAddr x.die e.loc e.phys
  let half := 2 ^ (s.kvDie x.die).shift / 2
  let ks := (List.range a.dim).map (fun i => pageElem mem f page a.group a.dim (pos % 16) a.g i)
  let vs := (List.range a.dim).map (fun i => pageElem mem f (page + half) a.group a.dim (pos % 16) a.g i)
  let q := (List.range a.dim).map (fun i => elemVal a.qfmt (rawElem (s.spRd x) a.qfmt a.q i))
  let dot := chunkSumFp (List.zipWith (fun u w => fprod u w.1) q ks)
  let bias := s.biasAt (s.tileDecl x) i a.head (biasBucket pos a.qpos)
  let vscale := f32 (fdec .bf16 e.vScale)
  ⟨score dot (f32 (fdec .bf16 e.kScale)) a.c bias, vs.map (fun w => fmul (f32 w.1) vscale),
    ks.any (fun w => w.2) || vs.any (fun w => w.2)⟩

/-- The pages of positions lo to hi of a chain; none where one is not mapped. -/
def State.chainPage (s : State) (d : Nat) (chain : List Nat) (pos : Nat) : Option KvEntry :=
  (chain[pos / 16]?).bind (fun i => s.pte d i)

/-- A sequence is retired: a page's format is not its own (Table 04-4, R100). -/
def State.kvRetire (s : State) (x : TileCtx) (slot : Nat) : State :=
  match s.seq slot with
  | none => s
  | some q =>
    if q.retired then s
    else
      let s := (s.setSeq slot (some { q with retired := true })).event (kvA x.die 0x24) 0 (kvA x.die 0x28)
      s.updJob x.job (fun j => { j with
        rows := mapIf (fun r => r.slot == slot && r.status == .success) (fun r => { r with status := .kvFormatMismatch }) j.rows })

/-- The flags and counts of a finished row (R87). -/
def State.attFlags (s : State) (d : Nat) (sat bad : Bool) : State :=
  let s := if sat then s.event (kvA d 0x24) 4 (kvA d 0x38) else s
  if bad then s.event (kvA d 0x24) 5 (kvA d 0x3C) else s

/-- A row of FP32 results. -/
def State.putRow (s : State) (x : TileCtx) (dst : Nat) (o : List F32) : State :=
  s.spWr x dst (o.flatMap (fun v => leBytes 4 v.toNat))

/-- The row was retired, deferred or suspended: its packed output rows are +0.0 (R91). -/
def KvRow.dropped (r : KvRow) : Bool :=
  [Status.kvPositionMismatch, .kvJoinDeferred, .kvFormatMismatch, .kvSuspended].contains r.status

/-- One query row of one head (R82 to R88). A row that R91 drops gives +0.0; what the output rows of another row that is
ignored hold is not stated. DESIGN CHOICE (log 84): without a lengths table, in a job that is no STEP, the operation
changes nothing. -/
def State.attnRun (s : State) (x : TileCtx) (a : AttnOp) : State :=
  match (s.job x.job).bind (fun j => j.rows.find? (fun r => r.slot == a.slot)) with
  | none => s
  | some r =>
    let zero := List.replicate a.dim f0
    if r.dropped then s.putRow x a.dst zero
    else
      match if r.status = .success then s.seq a.slot else none with
      | none =>
        ({ s with free := s.free + a.dim } : State).putRow x a.dst ((List.range a.dim).map (fun i => Config.freeWord (s.free + i)))
      | some q =>
        let chain := match q.on x.die with | some p => p.chain a.chain | none => []
        let b := seen a.qpos q.len r.window r.causal
        let ps := (List.range (b.2 + 1 - b.1)).map (fun i => b.1 + i)
        let es := ps.filterMap (fun p => (s.chainPage x.die chain p).map (fun e => (p, e)))
        if q.retired || es.any (fun e => e.2.fmt != q.fmt) then (s.kvRetire x a.slot).putRow x a.dst zero
        else
          let vs := es.map (fun e => (e.1, s.posVal x a r.bias e.2 e.1))
          let blocks := (List.range (b.2 / 64 + 1)).map (fun k =>
            (vs.filter (fun v => v.1 / 64 == k)).map (fun v => (v.2.t, v.2.v)))
          let o := attnRow a.dim blocks
          let s : State := { s with free := s.free + 512 }
          (s.putRow x a.dst o.1).attFlags x.die (o.2.1 || vs.any (fun v => v.2.sat)) o.2.2

/-- The format that the running operator gives its pages. -/
def State.opPageFmt (s : State) (x : TileCtx) : Option NumFmt :=
  (s.tileDecl x).attn.map (fun a => a.kfmt)

/-- Writes one token's keys and values (`len` bytes of elements each, BS4 exponents behind them) and
its page's scales, 1.0 for BF16 and FP8 pages (R92, Table 04-6). -/
def State.kvStore (s : State) (x : TileCtx) (slot chain pos k v len ks vs : Nat) : State :=
  let c := match (s.seq slot).bind (fun q => q.on x.die) with | some p => p.chain chain | none => []
  match (c.drop (pos / 16)).head?, s.opPageFmt x with
  | some i, some f =>
    match s.pte x.die i with
    | none => s
    | some e =>
      let page := s.pageAddr x.die e.loc e.phys
      let half := 2 ^ (s.kvDie x.die).shift / 2
      let tok := pos % 16
      let bytes : Nat → Nat → Bytes := fun a n => (List.range n).map (fun t => BitVec.ofNat 8 (s.spRd x (a + t)))
      let put : State → Nat → Nat → State := fun s a base =>
        let s := s.wrBytes x.die (base + tok * len) (bytes a len)
        if f = .bs4 then s.wrBytes x.die (base + 16 * len + tok * (len / 16)) (bytes (a + len) (len / 16)) else s
      let s := put (put s k page) v (page + half)
      let scale : Nat → Nat := fun v => if f = .bf16 || f = .e4m3 then 0x3F80 else v % 65536
      s.setPte x.die i (some { e with
        fmt := pageCode f, kScale := scale ks, vScale := scale vs, fill := max e.fill (tok + 1) })
  | _, _ => s

/-! ### Port classes (R104, R105, R108) -/

/-- Bytes that `n` elements take up. -/
def elemSpan (f : NumFmt) (n : Nat) : Nat := cdiv (n * fmtWidth f) 8

/-- A range of core-local addresses that an operation reads or writes, and the class of its port: 1 matrix, 2 vector
(Table 05-3). -/
structure Access where
  cls : Nat
  addr : Nat
  len : Nat
  deriving DecidableEq, Repr

/-- What a quantiser pass reads and writes. -/
def quantAccess (o : OpDecl) (q : QuantOp) : List Access :=
  [⟨2, q.acc, q.m * q.n * accSize (intAcc o)⟩, ⟨2, q.sa, if q.saRow then 4 * q.m else 4⟩,
    ⟨2, q.sw, if q.swCol then 4 * q.n else 4⟩, ⟨2, q.dst, elemSpan q.fmt (q.m * q.n)⟩] ++
    (match q.bias with | some b => [⟨2, b, 4 * q.n⟩] | none => []) ++
    (if intAcc o then [⟨2, q.wsum, 8 * q.n⟩] else []) ++ (if zpPath o = .main then [⟨2, q.ssum, 8 * q.m⟩] else [])

/-- What an operation of a tile reads and writes in its core's scratchpad, by port class (Table 05-3). DEDUCED (log 127):
results of the array leave through the quantiser's writes, and the attention sequencer uses the matrix class for all its
accesses. -/
def opAccess (o : OpDecl) : TileOp → List Access
  | .chunks sf wf a w e wb m n k dst =>
    let blocks := if wf = .bs4 then n * cdiv k 32 else 0
    let int := fmtIsInt sf && wf != .bs4
    [⟨1, a, elemSpan sf (m * k)⟩, ⟨1, w, if wf = .bs4 then blocks * 16 else elemSpan wf (n * k)⟩, ⟨1, e, blocks⟩,
      ⟨1, wb, 2 * blocks⟩, ⟨2, dst, m * n * cdiv k 256 * accSize int⟩]
  | .reduce int src n count dst => [⟨2, src, count * n * accSize int⟩, ⟨2, dst, count * accSize int⟩]
  | .node int _ x y count dst =>
    [⟨2, x.addr, count * accSize int⟩, ⟨2, y.addr, count * accSize int⟩, ⟨2, dst, count * accSize int⟩]
  | .rowSums sf wf a m k dst => [⟨1, a, elemSpan sf (m * k)⟩, ⟨2, dst, 8 * (m * cdiv k (if wf = .bs4 then 32 else 256))⟩]
  | .quant q => quantAccess o q
  | .vec _ bf a b n dst | .cmp _ bf a b n dst => [a, b, dst].map (fun v => ⟨2, v, n * laneSize bf⟩)
  | .fma bf a b c n dst => [a, b, c, dst].map (fun v => ⟨2, v, n * laneSize bf⟩)
  | .vec1 _ bf a n dst => [a, dst].map (fun v => ⟨2, v, n * laneSize bf⟩)
  | .ivec _ a b n dst | .icmp _ a b n dst => [a, b, dst].map (fun v => ⟨2, v, 4 * n⟩)
  | .conv f g a n dst => [⟨2, a, elemSpan f n⟩, ⟨2, dst, elemSpan g n⟩]
  | .lanes _ ty a n dst =>
    let w := laneSize (ty == .bf16)
    [⟨2, a, n * w⟩, ⟨2, dst, w⟩]
  | .attn a => [⟨1, a.q, elemSpan a.qfmt a.dim⟩, ⟨1, a.dst, 4 * a.dim⟩]
  | .kvWrite _ _ _ k v len _ _ =>
    let n := len + (if (o.attn.map (fun a => a.kfmt)) = some .bs4 then len / 16 else 0)
    [⟨1, k, n⟩, ⟨1, v, n⟩]

/-- The first address of an access that lies in a bank which another class, or none, owns (R108). -/
def State.accessClash (s : State) (d k : Nat) (x : Access) : Option (Nat × Nat) :=
  let a := x.addr % spadSize
  if x.len = 0 then none
  else
    ((List.range ((a + x.len - 1) / 0x80000 + 1 - a / 0x80000)).find? (fun i =>
      s.bankOwner d k ((a / 0x80000 + i) % 32) != x.cls)).map (fun i =>
        (spadLo k + (max a ((a / 0x80000 + i) * 0x80000)) % spadSize, x.cls))

/-- The first access of an operation that traps its core: its address and class. -/
def State.opClash (s : State) (x : TileCtx) (o : TileOp) : Option (Nat × Nat) :=
  (opAccess (s.tileDecl x) o).findSome? (s.accessClash x.die x.core)

/-! ### Every operation -/

/-- Runs one operation of a tile. Operations that the hardware has no mode for change nothing: an operand pair outside
Table 02-2 (R36), partials that are no siblings (R49), and activation sums of floating-point operands or on a degraded
core (R50, R58). -/
def State.tileOp (x : TileCtx) (s : State) (o : TileOp) : State :=
  let mem := s.spRd x
  match o with
  | .chunks sf wf a w e wb m n k dst =>
    if pairOk sf wf then s.spWr x dst (chunkBytes mem sf wf a w e wb (s.tileDecl x).za m n k) else s
  | .reduce int src n count dst => s.spWr x dst (reduceBytes mem int src n count)
  | .node int n a b count dst =>
    if siblings n (a.level, a.pos) (b.level, b.pos) then s.spWr x dst (nodeBytes mem int a.addr b.addr count) else s
  | .rowSums sf wf a m k dst =>
    if fmtIsInt sf && pairOk sf wf && !s.coreDegraded x.die x.core then s.spWr x dst (rowSumBytes mem sf wf a m k) else s
  | .quant q => s.quantPass x q
  | .vec fn bf a b n dst =>
    s.spWr x dst (laneBytes bf n (fun i => laneOut bf (vecOp fn (laneIn bf (lane mem bf a i)) (laneIn bf (lane mem bf b i)))))
  | .fma bf a b c n dst =>
    s.spWr x dst (laneBytes bf n (fun i =>
      laneOut bf (ffma (laneIn bf (lane mem bf a i)) (laneIn bf (lane mem bf b i)) (laneIn bf (lane mem bf c i)))))
  | .vec1 fn bf a n dst => s.spWr x dst (laneBytes bf n (fun i => laneOut bf (vecOp1 fn (laneIn bf (lane mem bf a i)))))
  | .cmp p bf a b n dst => s.spWr x dst (laneBytes bf n (fun i => cmpMask p bf (lane mem bf a i) (lane mem bf b i)))
  | .ivec fn a b n dst => s.spWr x dst (laneBytes false n (fun i => intOp fn (lane mem false a i) (lane mem false b i)))
  | .icmp p a b n dst =>
    s.spWr x dst (laneBytes false n (fun i =>
      if predHolds p (some (intOrder (sint 32 (lane mem false a i)) (sint 32 (lane mem false b i)))) then 0xFFFFFFFF else 0))
  | .conv f g a n dst =>
    s.spWr x dst (packElems (fmtWidth g) ((List.range n).map (fun i => convTo g (elemVal f (rawElem mem f a i)))))
  | .lanes fn ty a n dst =>
    let bf := ty == .bf16
    let l := (List.range n).map (lane mem bf a)
    s.spWr x dst (leBytes (laneSize bf)
      (if ty = .i32 then laneReduceInt fn l else laneOut bf (laneReduce bf fn (l.map (laneIn bf)))))
  | .attn a => s.attnRun x a
  | .kvWrite slot chain pos k v len ks vs => s.kvStore x slot chain pos k v len ks vs

end Sys2Proof.Machine
end

