-- ==== Sys2Proof/Machine/Collective.lean ====
section
/-!
DEFINITION. The collective engine (R49, R208 to R212): what a package contributes to a job's collectives, how partials
and ranks' values combine, how the result goes out, and what ends a collective.
-/

namespace Sys2Proof.Machine

open Sys2Proof

/-! ### Ends (R111, R212) -/

/-- The other packages of a spanning job hear of its end: a member tells the lead, the lead the rest. -/
def State.report (s : State) (j : Job) (st : Status) : State :=
  match j.member with
  | some lead => s.sendEnd s.leadPkg lead st
  | none => s.tellPeers j st

/-- A job's channel halted in the tile that ended (R111), or its collective cannot complete (R212). -/
def State.haltJob (s : State) (id : Nat) (st : Status) : State :=
  match s.job id with
  | none => s
  | some j =>
    if j.classC then
      s.updJob id (fun j => { j with act := j.act.map (fun a => if a.halt.isSome then a else { a with halt := some st }) })
    else
      if j.ending.isSome then s else (s.report j st).endSoon id st

/-- The event of an aborted collective. -/
def State.abortEvent (s : State) : State := s.event (fabA 8) 3 (fabA 0x10)

/-- A collective of a job cannot complete. -/
def State.collFail (s : State) (id : Nat) : State := s.abortEvent.haltJob id .collectiveAbort

/-! ### The plan of a collective (R208) -/

/-- The job that a message's key names: the lead's own handle. -/
def State.spanJob (s : State) (key : Nat) : Option Job :=
  if s.isLead then (s.job key).filter (fun j => !j.span.isEmpty)
  else s.jobs.find? (fun j => j.member == some key)

/-- The key of a job in messages. -/
def Job.spanKey (j : Job) : Nat := j.member.getD j.id

/-- The rank of this package in a job. -/
def State.rankOf (s : State) (j : Job) : Nat := ((findAt (fun p => p == s.pkgNum) j.span 0).map (fun x => x.1)).getD 0

/-- Segment `r` of `n` of a tensor: its first byte and its length. The plan's boundaries are the model's: contiguous runs of
8-byte units. -/
def collSeg (n r size : Nat) : Nat × Nat :=
  let x := shareOf n r (cdiv size 8)
  (min size (8 * x.1), min size (8 * (x.1 + x.2)) - min size (8 * x.1))

/-- One collective, as this package's part in it needs it. -/
structure CollCtx where
  id : Nat
  op : Nat
  /-- COLL_KIND. -/
  kind : Nat
  decl : CollDecl
  /-- Leaves of the tree: the chunks, or the ranks. -/
  leaves : Nat
  /-- Bytes of the tensor. -/
  size : Nat
  /-- Packages of the job, the rank of this one, and the job's key. -/
  span : List Nat
  me : Nat
  key : Nat
  /-- The die that its packets name: that of the tensor's first place. -/
  die : Nat
  deriving DecidableEq, Repr

/-- The collective of operator `o` of a job. -/
def State.collCtx (s : State) (j : Job) (o : Nat) : Option CollCtx :=
  match s.pkg j.pkg with
  | none => none
  | some p =>
    let d := (opDecl p.decl o).coll
    let k := (opRec p.decl o).coll
    if j.span.isEmpty || k = 0 || pkgOps p.decl ≤ o then none
    else some ⟨j.id, o, k, d, if d.tree then cdiv (opDecl p.decl o).k 256 else j.span.length,
      ((s.tensorDecl j d.tensor).map (fun t => t.size)).getD 0, j.span, s.rankOf j, j.spanKey,
      ((j.placeOf d.tensor).map (fun x => x.die)).getD 0⟩

/-- Ranks whose bytes a package receives (R208): the result of a reduction comes from rank 0. -/
def CollCtx.from_ (c : CollCtx) : List Nat :=
  if c.kind = 3 then List.range c.span.length else if c.kind = 4 then [c.decl.root % c.span.length] else [0]

/-- Operators of level `l` that a collective follows. -/
def collOps (p : Package) (l : Nat) : List Nat :=
  (List.range (pkgOps p)).filter (fun o => (opRec p o).level == l && decide ((opRec p o).coll ≠ 0))

/-- A job's collective of operator `o`. -/
def Job.coll (j : Job) (o : Nat) : Coll := (j.colls.find? (fun c => c.op == o)).getD ⟨o, [], [], [], []⟩

/-- Changes a collective of a job. -/
def State.updColl (s : State) (c : CollCtx) (f : Coll → Coll) : State :=
  s.updJob c.id (fun j => { j with colls := j.colls.filter (fun x => x.op != c.op) ++ [f (j.coll c.op)] })

/-! ### Sending (R209, R211) -/

/-- The payload of a COLL_PARTIAL: key, operator, kind of content, rank, and the data. -/
def collBytes (key op : Nat) (part : CollPart) (data : Bytes) : Bytes :=
  let x : Nat × Nat := match part with | .tree _ _ => (0, 0) | .rank r => (1, r) | .result r => (2, r)
  leBytes 4 key ++ leBytes 2 op ++ leBytes 2 x.1 ++ leBytes 4 x.2 ++ leBytes 4 data.length ++ padTo 8 data

/-- Sends data of a collective to a rank; a rank that cannot be reached ends it (R212). -/
def State.collTo (s : State) (c : CollCtx) (rank : Nat) (part : CollPart) (data : Bytes) : State :=
  let dst := c.span.getD rank s.pkgNum
  let node : Nat × Nat := match part with | .tree l p => (l, p) | _ => (0, 0)
  if s.reachable dst then
    s.sendTo ⟨7, 1, dst, c.die, s.pkgNum, c.die, 0, 0, 0, 0, node.1, node.2, collBytes c.key c.op part data⟩
  else s.collFail c.id

/-- Signals to a rank that what this package gave it is in its memory (R211), or acknowledges (type 5) what it gave. -/
def State.collTell (s : State) (c : CollCtx) (type rank : Nat) : State :=
  s.sendTo (s.quayPkt type 0 (c.span.getD rank s.pkgNum) (leBytes 4 c.key ++ leBytes 2 c.op ++ leBytes 2 c.me))

/-- Writes what rank `src` gave into the job's tensor: the whole, or in a gather its segment; in a reduce-scatter this
package's own segment. -/
def State.collStore (s : State) (c : CollCtx) (src : Nat) (data : Bytes) : State :=
  match s.job c.id with
  | none => s
  | some j =>
    let n := c.span.length
    let at_ := if c.kind = 2 then (collSeg n c.me c.size).1 else if c.kind = 3 then (collSeg n src c.size).1 else 0
    (j.places.filter (fun p => p.tensor == c.decl.tensor)).foldl (fun s p =>
      s.wrBytes p.die (p.base + at_) (data.take (p.size - at_))) s

/-- Gives a rank its part of the result. -/
def State.collGive (c : CollCtx) (s : State) (x : Nat × Bytes) : State :=
  if x.1 = c.me then (s.collStore c c.me x.2).collTell c 8 c.me
  else (s.updColl c (fun y => { y with out := y.out ++ [x.1] })).collTo c x.1 (.result c.me) x.2

/-- The result of a reduction goes out to its holders: all of it, or each rank's segment. -/
def State.collResult (s : State) (c : CollCtx) (b : Bytes) : State :=
  ((List.range c.span.length).map (fun r =>
    let g := collSeg c.span.length r c.size
    (r, if c.kind = 2 then slice b g.1 g.2 else b))).foldl (State.collGive c) s

/-! ### Combining (R49, R209) -/

/-- Adds two contributions element by element. -/
def partAdd (int : Bool) (a b : Bytes) : Bytes :=
  let n := accSize int
  (List.range (min a.length b.length / n)).flatMap (fun i =>
    if int then leBytes 8 (uint 64 (sint 64 (le a (8 * i) 8) + sint 64 (le b (8 * i) 8)))
    else leBytes 4 (fadd (BitVec.ofNat 32 (le a (4 * i) 4)) (BitVec.ofNat 32 (le b (4 * i) 4))).toNat)

/-- The rank that holds leaf `i`: ranks hold contiguous runs of the chunks, and each its own value. -/
def CollCtx.owner (c : CollCtx) (i : Nat) : Nat :=
  let n := c.span.length
  ((List.range n).find? (fun r => decide ((shareOf n r c.leaves).1 ≤ i) &&
    decide (i < (shareOf n r c.leaves).1 + (shareOf n r c.leaves).2))).getD 0

/-- Takes in a tree partial: siblings combine into their node, the first child first (R49), on the package of the lowest
rank below it; elsewhere the partial is sent there unchanged. The root goes out. -/
def State.collNode (c : CollCtx) : Nat → Nat × Nat → Bytes → State → State
  | 0, _, _, s => s
  | n + 1, at_, b, s =>
    let x := carryUp c.leaves 32 at_
    let home := if treeWidth c.leaves x.1 ≤ 1 then 0 else c.owner (x.2 / 2 * 2 * 2 ^ x.1)
    if home ≠ c.me then s.collTo c home (.tree x.1 x.2) b
    else if treeWidth c.leaves x.1 ≤ 1 then s.collResult c b
    else
      let sib := if x.2 % 2 = 0 then x.2 + 1 else x.2 - 1
      match (((s.job c.id).map (fun j => (j.coll c.op).nodes)).getD []).find? (fun e => e.1 == x.1 && e.2.1 == sib) with
      | none => s.updColl c (fun y => { y with nodes := y.nodes ++ [(x.1, x.2, b)] })
      | some e =>
        let v := if x.2 % 2 = 0 then partAdd c.decl.int b e.2.2 else partAdd c.decl.int e.2.2 b
        State.collNode c n (x.1 + 1, x.2 / 2) v (s.updColl c (fun y => { y with nodes := y.nodes.filter (fun f => f != e) }))

/-- Takes in a rank's value in free mode, at rank 0: values add up in the order of arrival, of the same cycle the lower
rank first. -/
def State.collArr (s : State) (c : CollCtx) (r : Nat) (b : Bytes) : State :=
  if c.me ≠ 0 then s.collTo c 0 (.rank r) b
  else
    let old := (((s.job c.id).map (fun j => (j.coll c.op).arr)).getD []).filter (fun e => e.1 != r)
    let l := insertBy (fun a b => decide (a.2.1 < b.2.1) || (a.2.1 == b.2.1 && decide (a.1 ≤ b.1))) (r, s.clk.ref, b) old
    if l.length < c.span.length then s.updColl c (fun y => { y with arr := l })
    else
      let sum := match l with | [] => [] | e :: m => m.foldl (fun a f => partAdd c.decl.int a f.2.2) e.2.2
      (s.updColl c (fun y => { y with arr := [] })).collResult c sum

/-- Takes in data of a collective. -/
def State.collIn (s : State) (c : CollCtx) (part : CollPart) (data : Bytes) : State :=
  match part with
  | .tree l p => if c.kind = 1 || c.kind = 2 then s.collNode c 40 (l, p) data else s
  | .rank r =>
    if c.kind ≠ 1 && c.kind ≠ 2 then s
    else if s.det then s.collNode c 40 (0, r) data
    else s.collArr c r data
  | .result r => (s.collStore c r data).collTell c 5 r

/-- This package's own part once its share of the level has ended: its value, its segment, or the root's tensor. Chunk
partials come from the tiles. -/
def State.collOwn (s : State) (c : CollCtx) : State :=
  match s.job c.id with
  | none => s
  | some j =>
    let b := s.tensorBytes j c.decl.tensor
    let n := c.span.length
    if c.kind = 3 then
      let g := collSeg n c.me c.size
      ((List.range n).map (fun r => (r, slice b g.1 g.2))).foldl (State.collGive c) s
    else if c.kind = 4 then
      if c.decl.root % n = c.me then ((List.range n).map (fun r => (r, b))).foldl (State.collGive c) s else s
    else if c.decl.tree then s
    else s.collIn c (.rank c.me) b

/-! ### A level's collectives (R211) -/

/-- The collectives of level `l` of a job begin on this package. -/
def State.collStart (s : State) (j : Job) (p : Package) (l : Nat) : State :=
  let s := s.updJob j.id (fun j => { j with collWait := true })
  ((collOps p l).filterMap (s.collCtx j)).foldl State.collOwn s

/-- Every collective of level `l` is complete on this package. -/
def State.collsDone (s : State) (j : Job) (p : Package) (l : Nat) : Bool :=
  ((collOps p l).filterMap (s.collCtx j)).all (fun c => c.from_.all (fun r => (j.coll c.op).evs.contains r))

/-- They are counted, the job's berths close (R129), and the next level's tiles are released. -/
def State.collsEnd (s : State) (j : Job) (p : Package) (l : Nat) : State :=
  let s := (s.countN (fabA 0x1C) (collOps p l).length).closeBerths j.id false
  s.updJob j.id (fun j => { j with
    collWait := false, colls := j.colls.filter (fun c => !(collOps p l).contains c.op), level := j.level + 1 })

end Sys2Proof.Machine
end

