-- ==== Sys2Proof/Machine/Tiles.lean ====
section
/-!
DEFINITION. Running jobs (R22 to R30, R106 to R111, R143, R149, R153 to R165, R178): releases, levels,
tile dispatch and tile end, and how a job or an activation completes or runs out of time.
-/

namespace Sys2Proof.Machine

open Sys2Proof

/-! ### Levels (R143) -/

/-- The level under way; none when every level has ended. -/
def State.levelOf (s : State) (j : Job) : Option Nat :=
  (s.pkg j.pkg).bind (fun p => (pkgLevels p.decl)[j.level]?)

/-- Steps past every level whose tiles have all ended and that no collective of a spanning job follows; a job on one
package has none to wait for. -/
def levelStep (p : Package) : Nat → Job → Job
  | 0, j => j
  | n + 1, j =>
    match (pkgLevels p)[j.level]? with
    | none => j
    | some l =>
      if j.plan.any (fun t => t.level == l && t.st != 2) || (!j.span.isEmpty && !(collOps p l).isEmpty) then j
      else levelStep p n { j with level := j.level + 1 }

/-- Steps a job's levels: at the end of a level its collectives begin, and hold the level until they are complete
(R211). -/
def State.levelsOn (id : Nat) (p : Package) : Nat → State → State
  | 0, s => s
  | n + 1, s =>
    let s := s.updJob id (levelStep p ((pkgLevels p).length + 1))
    match s.job id with
    | none => s
    | some j =>
      match (pkgLevels p)[j.level]? with
      | none => s
      | some l =>
        if j.plan.any (fun t => t.level == l && t.st != 2) then s
        else
          let s := if j.collWait then s else s.collStart j p l
          match s.job id with
          | none => s
          | some j => if s.collsDone j p l then State.levelsOn id p n (s.collsEnd j p l) else s

/-- Brings job `id` to its next level that has work. -/
def State.stepLevels (s : State) (id : Nat) : State :=
  match (s.job id).bind (fun j => s.pkg j.pkg) with
  | some p => State.levelsOn id p.decl ((pkgLevels p.decl).length + 1) s
  | none => s

/-- Every level of a job has ended. -/
def State.levelsDone (s : State) (j : Job) : Bool := (s.levelOf j).isNone && !j.collWait

/-- A class S job starts to run. -/
def State.startRun (s : State) (id : Nat) : State :=
  (s.updJob id (fun j => { j with phase := .running })).stepLevels id

/-- A job has weights to stage on this package (R147). -/
def State.stages (s : State) (j : Job) : Bool :=
  match s.pkg j.pkg with
  | none => false
  | some p => j.places.any (stagedAt p.decl)

/-- CLASS_S_RELEASE: the release tick is reached: the inputs are read, and staging comes first (R157, R147, R178). -/
def execClassSRelease (job : Nat) (s : State) : Host.Outcome State Fault Refusal :=
  .next (match s.job job with
    | none => s
    | some j =>
      if j.classC || j.phase ≠ .waiting || s.clk.tick < j.tick then s
      else
        let s := s.readInputs j
        if s.stages j then s.updJob job (fun j => { j with phase := .staging }) else s.startRun job)

/-- A core's running tile of another job owns a bank that a place lies in (R108). -/
def State.placeTaken (s : State) (id : Nat) (x : Place) : Bool :=
  (List.range 17).any (fun k =>
    (match (s.core x.die k).tile with | some t => t.job != id | none => false) &&
      (List.range 32).any (fun b => s.bankOwner x.die k b != 0 && overlaps x.base x.size (spadLo k + b * 0x80000) 0x80000))

/-- WEIGHT_STAGING_COMPLETE: the staged weights are in place (R147). Staging cannot complete while another job's tile owns
banks that they go into. -/
def execWeightStagingComplete (job : Nat) (s : State) : Host.Outcome State Fault Refusal :=
  .next (match s.job job with
    | none => s
    | some j =>
      match s.pkg j.pkg with
      | none => s
      | some p =>
        let staged := stagedAt p.decl
        if j.classC || j.phase ≠ .staging || (j.places.filter staged).any (s.placeTaken job) then s
        else ((s.fillWeights p.decl j staged).updJob job (fun j => { j with displaced := false })).startRun job)

/-! ### Which tile a core runs next (R149, R160) -/

/-- The activation of a class C job may run tiles now (R153). -/
def State.actOpen (s : State) (j : Job) : Bool :=
  match j.act with
  | none => false
  | some a => !a.done && !a.overran && a.halt.isNone && j.ending.isNone &&
      a.slots.any (fun x => decide (x.1 ≤ s.clk.tick) && decide (s.clk.tick < x.2))

/-- A class S job may run tiles now. -/
def Job.runnable (j : Job) : Bool :=
  !j.classC && decide (j.phase = .running) && j.settling == 0 && !j.collWait && j.ending.isNone

/-- The first tile of a job's level under way that waits and satisfies `f`. -/
def State.nextTile (s : State) (j : Job) (f : PlanTile → Bool) : Option PlanTile :=
  match s.levelOf j with
  | none => none
  | some l => j.plan.find? (fun t => decide (t.st = 0) && t.level == l && f t)

/-- BANK_OWNER of a tile of a job. -/
def State.tileOwner (s : State) (j : Job) (t : Nat) : Nat :=
  match s.pkg j.pkg with
  | none => 0
  | some p => le (tileHeader p.decl t) 32 8
/-- The class that a BANK_OWNER value gives bank `b` (R108). -/
def ownerOf (o b : Nat) : Nat := o / 4 ^ b % 4

/-- The operator record of a planned tile. -/
def State.tileRec (s : State) (j : Job) (t : PlanTile) : OpRec :=
  match s.pkg j.pkg with
  | none => ⟨0, 0, 0, 0, 0, false, false, false, 0, 0⟩
  | some p => opRec p.decl t.op

/-- No other job holds the hardware semaphore of a binding (R165). -/
def State.semFree (s : State) (x : SemBind) : Bool :=
  !s.jobs.any (fun j => j.sems.any (fun y => y.held && y.die == x.die && y.index == x.index))

/-- A tile of a job may go to core `k` of die `d` as it stands: berth banks (R109), another job's class
C banks (R151), activation sums (R69), and the semaphores it acquires (R165). -/
def State.canRun (s : State) (d k : Nat) (j : Job) (t : PlanTile) : Bool :=
  let o := s.tileOwner j t.tile
  let pins := (s.jobs.filter (fun m => m.classC && m.id != j.id)).flatMap (fun m => m.pins)
  (List.range 32).all (fun b =>
    (!(s.berthBanks d k).testBit b || ownerOf o b == 0 || ownerOf o b == 3) &&
      (ownerOf o b == 0 || !pins.contains (bankRegion d k b))) &&
    !((s.tileRec j t).asym && s.coreDegraded d k) &&
    j.sems.all (fun x => decide (x.acq ≠ t.tile) || x.held || s.semFree x)

/-- A class S tile of a job may go to logical core `l` of die `d` although a table reserves it: with load balancing on, if
it is local-only (R141, R149, R161). -/
def State.reservedOk (s : State) (d l : Nat) (j : Job) (t : PlanTile) : Bool :=
  !s.coreReserved d l || (!s.det && !s.flag 0x200 1 && !(s.tileRec j t).remote)

/-- The running table has an open slot on logical core `l` of die `d`. -/
def State.reservedOpen (s : State) (d l : Nat) : Bool :=
  s.jobs.any (fun j => j.classC && (j.masks.getD d 0).testBit l && s.slotOpen j.id)

/-- A core may take a class S tile now: it runs nothing, no scrub holds it, and no slot is open on it. -/
def State.coreIdle (s : State) (d l : Nat) : Bool :=
  match s.physOf d l with
  | none => false
  | some k => (s.core d k).tile.isNone && !(s.core d k).held && !s.reservedOpen d l

/-- Load balancing is on (R150). -/
def State.lbOn (s : State) : Bool := !s.det && !s.flag 0x200 1

/-- Planned start of a tile of a class S job, working time. -/
def Job.tileStart (j : Job) (t : PlanTile) : Nat := j.startT + j.w + cyclesNs t.start

/-- No input tensor of a tile lies in the scratchpad of core `k` of die `d`. -/
def State.inputsFree (s : State) (j : Job) (t : PlanTile) (d k : Nat) : Bool :=
  j.places.all (fun p => !(p.die == d && decide (spadLo k ≤ p.base) && decide (p.base < spadLo k + spadSize) &&
    (match s.tensorDecl j p.tensor with | some x => x.uses.contains t.tile | none => false)))

/-- Load balancing may move a tile to logical core `l` of die `d` (R149). -/
def State.mayMove (s : State) (d l : Nat) (j : Job) (t : PlanTile) : Bool :=
  let stop := s.clk.t + cyclesNs t.cost
  t.die == d && t.core != l && !s.coreIdle d t.core && (List.range l).all (fun m => !s.coreIdle d m) &&
    decide (s.clk.t < j.tileStart t) &&
    (match s.physOf d t.core with | some k => s.inputsFree j t d k | none => true) &&
    s.jobs.all (fun m => m.classC || m.plan.all (fun u =>
      decide (u.st ≠ 0) || u.die != d || u.core != l || decide (stop ≤ m.tileStart u))) && s.reservedOk d l j t

/-- The tile of class S job `j` that core `k` (logical `l`) of die `d` may take, and whether it moves. -/
def State.tileFor (s : State) (d k l : Nat) (j : Job) : Option (PlanTile × Bool) :=
  match (s.nextTile j (fun t => t.die == d && t.core == l)).filter (fun t => s.canRun d k j t && s.reservedOk d l j t) with
  | some t => some (t, false)
  | none =>
    if s.lbOn then (s.nextTile j (fun t => s.mayMove d l j t && s.canRun d k j t)).map (fun t => (t, true)) else none

/-- A tile of an activation ends before the slot that is open does (R153, R156). -/
def State.slotHolds (s : State) (j : Job) (t : PlanTile) : Bool :=
  match j.act with
  | none => false
  | some a => a.slots.any (fun x => decide (x.1 ≤ s.clk.tick) && decide (s.clk.tick < x.2) &&
      decide (s.clk.t + cyclesNs t.cost ≤ s.edgeAt ((x.2 : Int) - s.clk.tick)))

/-- The tile that a core's boundary dispatches (R160): class C in an open slot, else class S by rank. -/
def State.pickTile (s : State) (d k l : Nat) : Option (Job × PlanTile × Bool) :=
  let own : Job → Option PlanTile := fun j =>
    (s.nextTile j (fun t => t.die == d && t.core == l)).filter (fun t => s.canRun d k j t && s.slotHolds j t)
  match (s.jobs.filter (fun j => j.classC && s.actOpen j)).filterMap (fun j => (own j).map (fun t => (j, t, false))) with
  | x :: _ => some x
  | [] =>
    if s.reservedOpen d l then none
    else
      bestBy (fun a b => ranksBefore s.jobs a.1 b.1)
        ((s.jobs.filter Job.runnable).filterMap (fun j => (s.tileFor d k l j).map (fun x => (j, x.1, x.2))))

/-- The previous job of a core still has ready tiles and ranks after the job that takes the core (R162). -/
def State.preempts (s : State) (d k : Nat) (j : Job) : Bool :=
  match (s.core d k).last.bind s.job with
  | none => false
  | some a => a.id != j.id && a.runnable && (s.nextTile a (fun _ => true)).isSome &&
      (j.classC || ranksBefore s.jobs j a)

/-- The placer opens the berth of an operator that other dies write for: the model's place is the die
of the operator's first dispatched tile. -/
def State.opBerth (s : State) (d : Nat) (j : Job) (t : PlanTile) : State :=
  let o := s.tileRec j t
  if (o.coll = 0 && !o.remote) || j.plan.any (fun u => u.op == t.op && decide (u.st ≠ 0)) then s
  else s.openBerth d j.id (cdiv o.collBytes 4096) (j.span.headD s.pkgNum) (j.span.getLast?.getD s.pkgNum)

/-- The staged weights of other class S jobs in the banks that a tile takes are displaced (R147). -/
def State.displace (s : State) (d k id owner : Nat) : State :=
  s.setJobs (mapIf (fun m => !m.classC && m.id != id && decide (m.phase = .running) &&
      (match s.pkg m.pkg with
        | none => false
        | some p => (m.places.filter (stagedAt p.decl)).any (fun x => x.die == d &&
            (List.range 32).any (fun b => ownerOf owner b != 0 && overlaps x.base x.size (spadLo k + b * 0x80000) 0x80000))))
    (fun m => { m with displaced := true }) s.jobs)

/-- Dispatches a tile to core `k` of die `d`. -/
def State.dispatch (s : State) (d k : Nat) (j : Job) (t : PlanTile) (moved : Bool) : State :=
  let o := s.tileOwner j t.tile
  let pk := (s.pkg j.pkg).map (fun p => p.decl)
  let prog := match pk with
    | none => []
    | some p => slice (opDecl p t.op).prog (le (tileHeader p t.tile) 20 4) (le (tileHeader p t.tile) 24 4)
  let s := if s.preempts d k j then s.count 0x25C else s
  let s := if moved then s.count 0x260 else s
  let s := s.claim (⟨d, imemLo k, imemSize⟩ :: ((List.range 32).filter (fun b => ownerOf o b != 0)).map (bankRegion d k))
  let s := ((s.displace d k j.id o).opBerth d j t).wrBytes d (imemLo k) prog
  let s := (s.wr (mcA d k 0x54) (BitVec.ofNat 32 o)).wr (mcA d k 0x58) (BitVec.ofNat 32 (o / 2 ^ 32))
  let banks := ((List.range 32).filter (fun b => ownerOf o b != 0) ++ [32]).foldl (fun m b => tset none m b (some j.id)) (s.core d k).banks
  let s := s.setCore d k { s.core d k with tile := some ⟨j.id, t.tile, t.op, s.clk.ref⟩, last := some j.id, banks := banks }
  let s := s.updJob j.id (fun j => { j with
    plan := mapIf (fun u => u.tile == t.tile) (fun u => { u with st := 1 }) j.plan
    sems := mapIf (fun x => x.acq == t.tile) (fun x => { x with held := true }) j.sems })
  s.tally 7 0x61 0xFF 1

/-- TILE_DISPATCH: a tile boundary on a physical core (R160). A job whose staged weights were displaced stages them again
first (R147, R162). -/
def execTileDispatch (die core : Nat) (s : State) : Host.Outcome State Fault Refusal :=
  guardI (decide (die < 7) && decide (core < 17)) (
    let x := s.core die core
    if s.loss.isSome || s.coreRole die core ≠ 1 || x.tile.isSome || x.held then s
    else
      match s.pickTile die core (s.fld (mcA die core 0) 12 8) with
      | none => s
      | some (j, t, moved) =>
        if j.displaced then s.updJob j.id (fun j => { j with phase := .staging })
        else (s.tlySync die).dispatch die core j t moved)

/-! ### How an activation ends (R23, R29, R111, R178) -/

/-- Sets aside the activation of a job. -/
def Job.noAct (j : Job) : Job :=
  { j with
    act := none, runStats := [], phase := .waiting, sems := j.sems.map (fun x => { x with held := false }) }

/-- A canary that its activation did not finish counts as a deferral (R314). -/
def State.canaryLost (s : State) (st : Nat) : State :=
  ((s.setSst st { s.sst st with canary := none, tensor := none }).put (safSt st 8) 0 0 0).canaryDefer st

/-- An expected perception publication is missing, or came outside its window (R307, R308). -/
def State.percMissed (s : State) : State :=
  if s.flag (safA 0x10) 31 then { s with saf := { s.saf with percDue := s.saf.percDue + 1 } } else s

/-- The activation of a job ends without publishing. -/
def State.actEnd (s : State) (id : Nat) : State :=
  match s.job id with
  | none => s
  | some j =>
    match j.act with
    | none => s
    | some a =>
      let s := s.updJob id Job.noAct
      let s :=
        if a.halt.isSome then s
        else
          let s := s.digest 5 j.key 2 a.num a.start (entryBytes j.tag Status.deadlineOverrun.code j.op 2 0 a.num 0)
          let s := if j.silent then s else s.postEvent j.ring j.tag j.op .deadlineOverrun a.num
          (s.endCount .deadlineOverrun).outcome 0 j.key a.num 0
      let s := if a.kind = 0 then s.percMissed else s
      a.canaries.foldl State.canaryLost s

/-- ROI tables that an activation publishes (R232). -/
def State.roiPublish (s : State) (j : Job) : State :=
  (j.binds.filter (fun b => b.kind == 4)).foldl (fun s b =>
    let v := (match (s.strm b.stream).roi with | some r => r.1 | none => 0) + 1
    (s.setStrm b.stream { s.strm b.stream with roi := some (v, s.tensorBytes j b.tensor) }).wr (ingA b.stream 0xD8)
      (BitVec.ofNat 32 v)) s

/-- The checked outputs of the streams whose canary the activation bound (R314). -/
def State.canaryChecks (s : State) (j : Job) (a : Act) : State :=
  (j.binds.filter (fun b => b.kind == 6 && a.canaries.contains b.stream)).foldl (fun s b =>
    s.canaryCheck b.stream (digest128 (s.tensorBytes j b.tensor))) s

/-- An activation's outputs are published, all at once (R23). -/
def State.publish (s : State) (id : Nat) : State :=
  match s.job id with
  | none => s
  | some j =>
    match j.act with
    | none => s
    | some a =>
      let stats := j.runStats.foldl (fun t e => tset TStat.zero t e.1 ((tget TStat.zero t e.1).add e.2)) j.stats
      let shown := (j.binds.filter (fun b => b.kind == 2)).map (fun b => (b.addr, s.tensorBytes j b.tensor))
      let j : Job := { j with stats := stats, gen := j.gen + 1, acts := j.acts + 1, shown := shown }
      let s := s.updJob id (fun _ => j.noAct)
      let s := ((s.hostOutputs j).statsOut j false).tensorDigests j 1 a.num
      let s := (s.roiPublish j).canaryChecks j a
      if a.kind ≠ 0 then s
      else if s.clk.t < a.startT + s.fld (safA 0x10) 19 0 * 1000 then s.percMissed
      else { s with saf := { s.saf with percMiss := 0 } }

/-- CLASS_C_ACTIVATION_COMPLETE: every tile has ended. In deterministic mode the outputs wait for the
edge that ends the last slot (R23, R178). -/
def execClassCActivationComplete (job : Nat) (s : State) : Host.Outcome State Fault Refusal :=
  .next (match s.job job with
    | none => s
    | some j =>
      match j.act with
      | none => s
      | some a =>
        if a.done || a.overran || a.halt.isSome || !s.levelsDone j || s.jobRuns job then s
        else if s.det then s.updJob job (fun j => { j with act := some { a with done := true } })
        else s.publish job)

/-- The tick that follows an activation's last slot. -/
def Act.stop (a : Act) : Nat := (a.slots.map (fun x => x.2)).foldl max a.start

/-- CLASS_C_SLOT_END: an activation that is incomplete at the end of its last slot stops at its next
tile boundary (R29). -/
def execClassCSlotEnd (job : Nat) (s : State) : Host.Outcome State Fault Refusal :=
  .next (match s.job job with
    | none => s
    | some j =>
      match j.act with
      | none => s
      | some a =>
        if a.done || a.overran || s.clk.tick < a.stop then s
        else
          let s := s.updJob job (fun j => { j with act := some { a with overran := true } })
          if s.jobRuns job then s else s.actEnd job)

/-! ### How a class S job ends (R30, R336) -/

/-- In replay, the log holds a DEADLINE_OVERRUN of a job's run or activation (R189). -/
def State.loggedOverrun (s : State) (key unit : Nat) : Bool :=
  s.inReplay && s.logged 0 key unit 0

/-- A lead has heard that the job's other packages have done their shares (R75, R148). -/
def State.sharesDone (s : State) (j : Job) : Bool :=
  j.member.isSome || j.span.all (fun p => p == s.pkgNum || j.heard.contains p)

/-- CLASS_S_JOB_COMPLETE: every tile has ended and the collectives are done, on every package for a lead. -/
def execClassSJobComplete (job : Nat) (s : State) : Host.Outcome State Fault Refusal :=
  .next (match s.job job with
    | none => s
    | some j =>
      if j.classC || j.phase ≠ .running || j.settling ≠ 0 || j.ending.isSome || !s.levelsDone j || s.jobRuns job ||
          !s.sharesDone j then s
      else s.jobEnd job (if s.loggedOverrun j.key 0 then .deadlineOverrun else .success))

/-- CLASS_S_DEADLINE (R30). -/
def execClassSDeadline (job : Nat) (s : State) : Host.Outcome State Fault Refusal :=
  .next (match s.job job with
    | none => s
    | some j => if j.classC then s else s.atT j.deadline (fun s => s.endSoon job .deadlineOverrun))

/-- JOB_SEGMENT_ARRIVAL: a class S job's segment at master level 1, on its own ring (R261, R262). -/
def execJobSegmentArrival (job : Nat) (rec' : Bytes) (s : State) : Host.Outcome State Fault Refusal :=
  .next (match s.job job with
    | none => s
    | some j =>
      if j.classC || j.phase ≠ .running then s
      else
        let b := fitTo 32 rec'
        (s.updJob job (fun j => { j with segs := j.segs ++ b })).segArrive b 1 j.ring j.key (j.segs.length / 32)
          (.job job j.tag (if j.silent then 0 else j.op)))

/-! ### Tile end (R106, R128) -/

/-- A control packet of a DMA channel to the berth that its transfer names. -/
def State.chanPkt (s : State) (type d c : Nat) (x : Xfer) (payload : Bytes) : Option FabPkt :=
  match x with
  | .copy _ _ _ => none
  | .berth _ pkg die berth gen off _ => some ⟨type, 0, pkg, die, s.pkgNum, d, c, berth, gen, off, 0, 0, payload⟩

/-- Returns the grant of a channel's transfer (R128). -/
def State.returnGrant (s : State) (d c : Nat) (x : Xfer) : State :=
  match s.chanPkt 0xB d c x (zeros 8) with
  | none => s
  | some p => s.sendTo p

/-- Channel `c` is done with its tile: a halted berth transfer's credit goes back, and the channel is
free. -/
def State.chanDone (s : State) (d k c : Nat) : State :=
  let x := s.chan d k c
  let s := match x.halt, x.xfer with
    | some _, some t => s.returnGrant d c t
    | _, _ => s
  s.setChan d k c Chan.init

/-- Adds the arithmetic cycles since a tile's dispatch to the core's busy count (R404). -/
def State.busyAdd (s : State) (d k since : Nat) : State :=
  s.wr64 (mcA d k 0x60) (s.busyCycles d k since)

/-- After a tile boundary of a job: what waited for it comes about once no tile of the job runs. -/
def State.boundary (s : State) (id : Nat) : State :=
  match s.job id with
  | none => s
  | some j =>
    if s.jobRuns id then s
    else
      match j.ending, j.act with
      | some st, _ => s.jobEnd id st
      | none, some a => if a.overran || a.halt.isSome then s.actEnd id else s
      | none, none => s

end Sys2Proof.Machine
end

