-- ==== Sys2Proof/Machine/Loss.lean ====
section
/-!
DEFINITION. Job faults and the package job loss (R55, R56, R108, R114, R121, R131, R167 to R170, R339),
column and core sparing (R57, R59), zeroing, and the scrubber (R118 to R120).
-/

namespace Sys2Proof.Machine

open Sys2Proof

/-! ### The trap (R167) -/

/-- Every core stops at once, mid-tile, and so do the DMA channels. -/
def State.stopCores (s : State) : State :=
  let s := s.comp.cores.foldl (fun s e => match e.2.tile with
    | none => s
    | some t =>
      let d := e.1 / 17
      let k := e.1 % 17
      ((s.busyAdd d k t.since).wr (mcA d k 0x54) 0).wr (mcA d k 0x58) 0) s
  { s with comp := { s.comp with
      cores := s.comp.cores.map (fun e => (e.1, { e.2 with tile := none, last := none, banks := [] })), chans := [] } }

/-- The running table stops; a change that waits for its boundary goes too. -/
def State.cycStop (s : State) : State :=
  let was := s.flag 0x208 0
  let s := ((s.put 0x208 26 16 0).put 0x208 2 0 0)
  let s := if was then s.put 0x208 3 3 1 else s
  let s := (List.range 7).foldl (fun s d => s.wr (glbA (0x220 + 4 * d)) 0) s
  { s with comp := { s.comp with cycNext := none } }

/-- The canaries that a lost job's streams have waiting, or its activation had bound (R314). -/
def Job.canaryStreams (j : Job) (s : State) : List Nat :=
  let bound := match j.act with | some a => a.canaries | none => []
  bound ++ ((j.binds.filter (fun b => b.kind == 5 && (s.sst b.stream).canary.isSome && !bound.contains b.stream)).map
    (fun b => b.stream))

/-- What the quay die does about one lost job at the trap: its segments (R276), its packages (R169), its
canaries, its expected publication and its streams (R236). -/
def State.jobLost (s : State) (j : Job) : State :=
  let s := (List.range 64).foldl (State.axisLost j .packageJobLoss) s
  let s := s.report j (if j.member.isSome then .packageJobLoss else .peerJobLoss)
  let s := (j.canaryStreams s).foldl State.canaryLost s
  let s := match j.act with
    | some a => if a.kind = 0 then s.percMissed else s
    | none => s
  j.streams.foldl State.unbindStream s

/-- A package job loss: every job on the package is lost (Table 06-11, row 0, and Table 06-12). -/
def State.packageLoss (s : State) : State :=
  let s := (s.event 0x244 2 0x254).slogNow 0x0C 0 [0]
  let s := s.capture s.jobs .packageJobLoss
  let s := s.stopCores.closeAllBerths.cycStop
  let js := s.jobs
  let s := s.dirtyAdd ((js.flatMap s.jobRegions).filter (fun r => decide (r.base < dramTop)))
  let s := js.foldl State.jobLost s
  let s := s.kvClear
  { s with jobs := [], loss := some s.clk.ref, comp := { s.comp with lost := js } }

/-- A job fault with status `st` on core `k` of die `d` (R167). -/
def State.jobFault (s : State) (d k : Nat) (st : Status) : State :=
  (s.tlySyncAll.wr 0x264 (BitVec.ofNat 32 (st.code % 256 * 2 ^ 24 + d * 2 ^ 16 + k * 2 ^ 8))).packageLoss

/-- A trap needs a core that runs a tile, outside a loss. -/
def State.running (s : State) (d k : Nat) : Bool := s.loss.isNone && (s.core d k).tile.isSome

/-- CORE_FAULT: a check of Table 02-8 traps the core (R55). DESIGN CHOICE (log 128): an exponent parity fault of a
floating-point datapath, for which the spec gives no MC_FAULT_STAT bit or count, is no event of the model. -/
def execCoreFault (die core : Nat) (kind : CoreCheck) (s : State) : Host.Outcome State Fault Refusal :=
  guardI (decide (die < 7) && decide (core < 17)) (
    if !s.running die core then s
    else
      let i := match kind with | .weight => 0 | .acc => 1 | .vector => 2
      let s := (s.raise (mcA die core 8) i).count8 (mcA die core 0xC) (8 * i)
      (s.setCore die core { s.core die core with trapped := true }).jobFault die core .coreFault)

/-- BANK_CONFLICT: an access through a class that does not own the bank, or to an invalid address, traps
the core before it takes effect (R108, R117). -/
def execBankConflict (die core addr cls : Nat) (s : State) : Host.Outcome State Fault Refusal :=
  guardI (decide (die < 7) && decide (core < 17)) (
    let bad := match spadBank core addr with
      | none => true
      | some b => s.bankOwner die core b != cls
    if !s.running die core || !bad || cls = 0 || 3 < cls then s
    else (s.memFault die core 0 0 .bankConflict 0 cls addr).jobFault die core .bankConflict)

/-- ECC_UNCORRECTABLE: an instruction fetch or a matrix or vector port read of a word that cannot be
corrected (Table 05-5). The class of an instruction fetch is not stated. -/
def execEccUncorrectable (die core addr : Nat) (s : State) : Host.Outcome State Fault Refusal :=
  guardI (decide (die < 7) && decide (core < 17)) (
    let code := decide (imemLo core ≤ addr) && decide (addr < imemLo core + imemSize)
    match spadBank core addr, code with
    | none, false => s
    | none, true =>
      if !s.running die core then s
      else (s.bump.memFault die core 1 8 .eccUncorrectable 0 (Config.freeNat s.free) addr).jobFault die core .eccUncorrectable
    | some b, _ =>
      let cls := s.bankOwner die core b
      if !s.running die core || (cls ≠ 1 && cls ≠ 2) then s
      else (s.memFault die core 1 8 .eccUncorrectable 0 cls addr).jobFault die core .eccUncorrectable)

/-- KV_WALK_FAULT: the walker meets an entry that does not belong to its chain, or a word of die pool or DRAM that cannot
be corrected (R95, Table 05-5). -/
def execKvWalkFault (die : Nat) (w : FailedWalk) (s : State) : Host.Outcome State Fault Refusal :=
  guardI (decide (die < 7) && decide (w.core < 17)) (
    if s.running die w.core then
      (match w.word with | some a => s.eccFail die a 1 | none => s).jobFault die w.core .kvWalkFault
    else s)

/-! ### Tile end (R106, R108) -/

/-- Runs a tile's operations in order, up to the first whose access traps: its address and class (R108). -/
def State.runOps (s : State) (x : TileCtx) : List TileOp → State × Option (Nat × Nat)
  | [] => (s, none)
  | o :: l =>
    match s.opClash x o with
    | some c => (s, some c)
    | none => (s.tileOp x o).runOps x l

/-- Corrected words of a core's scratchpad and instruction memory (Table 05-12). -/
def State.coreCorr (s : State) (d k n : Nat) : State :=
  if n = 0 then s else (s.countN (mcA d k 0x50) n).tally d 0x12 0xFF n

/-- The single-bit errors that a tile's reads met are counted (R114). -/
def State.eccFixed (s : State) (d k : Nat) (f : EccFixes) : State :=
  ((s.eccCorr d 0 f.dram).eccCorr d 1 f.pool).coreCorr d k f.core

/-- TILE_END: the program's operations take place, banks, channels and credits pass on, and semaphores
whose REL_TILE it was are released (R106, R165). Nothing ends while a channel waits. -/
def execTileEnd (die core : Nat) (w : TileWork) (s : State) : Host.Outcome State Fault Refusal :=
  guardI (decide (die < 7) && decide (core < 17)) (
    match (s.core die core).tile with
    | none => s
    | some t =>
      if s.loss.isSome || (List.range 8).any (fun c =>
          (s.chan die core c).st == .waitCredit || (s.chan die core c).st == .waitAck) then s
      else
        let s := (List.range 8).foldl (fun s c => s.finishCopy die core c) ((s.tlySync die).eccFixed die core w.fixes)
        let run := s.runOps ⟨die, core, t.job, t.op⟩ w.ops
        let s := run.1
        match run.2 with
        | some (a, cls) => (s.memFault die core 0 0 .bankConflict 0 cls a).jobFault die core .bankConflict
        | none =>
        let halt := ((List.range 8).filterMap (fun c => (s.chan die core c).halt)).head?
        let s := (List.range 8).foldl (fun s c => s.chanDone die core c) s
        let s := (s.wr (mcA die core 0x54) 0).wr (mcA die core 0x58) 0
        let s := (s.busyAdd die core t.since).setCore die core { s.core die core with tile := none }
        let s := s.tally die 4 core 1
        let s := s.updJob t.job (fun j => { j with
          plan := mapIf (fun u => u.tile == t.tile) (fun u => { u with st := 2 }) j.plan
          sems := mapIf (fun x => x.rel == t.tile) (fun x => { x with held := false }) j.sems })
        let s := s.stepLevels t.job
        let s := match halt with
          | some st => s.haltJob t.job st
          | none => s
        s.boundary t.job)

/-! ### Self-test and sparing (R56 to R59) -/

/-- State of a core by its failures (Table 02-9): 0 normal, 1 degraded, 2 retired. -/
def Core.grade (x : Core) : Nat :=
  let data := x.failed.filter (fun c => decide (c < 64))
  let spare := !x.failed.contains 65
  let sum := !x.failed.contains 64
  if x.unitFailed then 2
  else
    match data with
    | [] => if sum then 0 else 1
    | [_] => if spare then (if sum then 0 else 1) else if sum then 1 else 2
    | [_, _] => if spare && sum then 1 else 2
    | _ => 2

/-- MC_COL_MAP of a core (Tables 02-9, 02-12). DESIGN CHOICE (log 129): a retired core shows no column mapping, as Table
02-9 states none for it. -/
def Core.colMap (x : Core) : Nat :=
  let data := x.failed.filter (fun c => decide (c < 64))
  let spare := !x.failed.contains 65
  let sum := !x.failed.contains 64
  let map : Nat :=
    if x.grade = 2 then 0
    else
      match data with
      | [a] => if spare then 2 ^ 6 + a else 2 ^ 14 + a * 2 ^ 8
      | [a, b] => 2 ^ 6 + min a b + 2 ^ 14 + max a b * 2 ^ 8
      | _ => 0
  map + 2 ^ 15 * b2n (!spare) + 2 ^ 16 * b2n (!sum)

/-- The physical core that R59 gives each logical index of a die, from the cores' grades. -/
def spareMap (grade : Nat → Nat) : List (Option Nat) :=
  let base := (List.range 16).map (fun k => if grade k = 2 then none else some k)
  let vacant := (List.range 16).find? (fun k => decide (grade k = 2))
  let target := match vacant with
    | some k => some k
    | none => if grade 16 = 0 then (List.range 16).find? (fun k => decide (grade k = 1)) else none
  match target with
  | none => base
  | some t => if grade 16 ≠ 2 && (vacant.isSome || grade 16 = 0) then setAt base t (some 16) else base

/-- Writes MC_ID of every core of a die after a self-test (R34, R59, Table 02-11). -/
def State.coreMap (s : State) (d : Nat) : State :=
  let grade := fun k => (s.core d k).grade
  let m := spareMap grade
  (List.range 17).foldl (fun s k =>
    let role : Nat × Nat := match findAt (fun x => x == some k) m 0 with
      | some (l, _) => (1, l)
      | none => (if grade k = 2 then 3 else 2, 0x1F)
    s.wr (mcA d k 0) (BitVec.ofNat 32 (b2n (decide (grade k = 1)) * 2 ^ 20 + role.1 * 2 ^ 16 + role.2 * 2 ^ 8 + k))) s

/-- Takes in one core's self-test: failures accumulate until package reset (R57). -/
def State.selfTest (s : State) (t : SelfTest) (after : Bool) : State :=
  let x := s.core t.die t.core
  let all := (List.range 66).filter (fun c => x.failed.contains c || t.cols.contains c)
  let x := { x with failed := all, unitFailed := x.unitFailed || t.unitFail, trapped := false }
  let s := s.setCore t.die t.core x
  let s := if all.isEmpty && !x.unitFailed then s
    else (s.raise (mcA t.die t.core 8) 3).count8 (mcA t.die t.core 0xC) 24
  let r := b2n x.unitFailed * 2 ^ 23 + all.length * 2 ^ 16 + all.headD 0x7F * 2 ^ 8 + 2 * b2n after + 1
  (s.wr (mcA t.die t.core 0x10) (BitVec.ofNat 32 r)).wr (mcA t.die t.core 4) (BitVec.ofNat 32 x.colMap)

/-- SELFTEST_DONE: the test of a core that trapped, within the loss (R56). -/
def execSelftestDone (t : SelfTest) (s : State) : Host.Outcome State Fault Refusal :=
  guardI (decide (t.die < 7) && decide (t.core < 17)) (
    if s.loss.isSome && (s.core t.die t.core).trapped then (s.selfTest t true).coreMap t.die else s)

/-! ### The release (R168, R339) -/

/-- The lost jobs' entries: rings ascending, and each ring's in order of admission. -/
def lostOrder (l : List Job) : List Job := l.foldl (fun q j => insertBy (fun a b => decide (a.ring ≤ b.ring)) j q) []

/-- Ends one lost job's record at its host. -/
def State.lostEntry (s : State) (j : Job) : State :=
  j.releasers.foldl (fun s x => s.complete x.1 x.2 .success) (s.jobEntry j .packageJobLoss)

/-- LOSS_DIES_RELEASED: SRAM zeroed, trapped cores tested, and the completions posted. -/
def execLossDiesReleased (s : State) : Host.Outcome State Fault Refusal :=
  .next (match s.loss with
    | none => s
    | some t =>
      if s.comp.cores.any (fun e => e.2.trapped) then s
      else
        let s := s.inService.foldl State.zeroSram s
        let s : State := { s with comp := { s.comp with dirty := s.comp.dirty.filter (fun r => decide (r.base < dramTop)) } }
        let s := (lostOrder s.comp.lost).foldl State.lostEntry s
        let s := s.wr 0x268 (BitVec.ofNat 32 ((s.clk.ref - t) / 1000))
        ({ s with loss := none, comp := { s.comp with lost := [] } } : State).tlySyncAll)

/-! ### Zeroing (R121) -/

/-- REGION_ZEROED: a region that waits is zeroed. -/
def execRegionZeroed (die base : Nat) (s : State) : Host.Outcome State Fault Refusal :=
  guardI (decide (die < 7)) (
    match s.comp.dirty.find? (fun r => r.die == die && r.base == base) with
    | none => s
    | some r =>
      let s := s.zeroRegion r
      { s with comp := { s.comp with dirty := s.comp.dirty.filter (fun q => q != r) } })

/-! ### The scrubber (R118 to R120) -/

/-- The range of a scrub target. -/
def scrubRange (target core : Nat) : Nat × Nat :=
  match target with
  | 0 => (0, dramTop)
  | 1 => (poolLo, poolLo + poolSize)
  | 2 => (spadLo core, spadLo core + spadSize)
  | _ => (imemLo core, imemLo core + imemSize)

/-- The cyclic table reserves physical core `k` of die `d`. -/
def State.physReserved (s : State) (d k : Nat) : Bool :=
  s.coreRole d k == 1 && s.coreReserved d (s.fld (mcA d k 0) 12 8)

/-- SCRUB: the checks of R118, then the scrub holds its core out of dispatch. -/
def execScrub (r : Nat) (s : State) : Host.Outcome State Fault Refusal :=
  guardI (decide (r < 8192)) (
    if s.loss.isSome then s
    else s.withDesc r 0x19 (fun s d =>
      let target := le d.bytes 8 1
      let die := le d.bytes 9 1
      let core := le d.bytes 10 1
      let n := le d.bytes 12 4
      let base := le d.bytes 16 8
      let lim := scrubRange target core
      if base % 4096 ≠ 0 then s.complete r d.num .descriptorInvalid
      else if n = 0 || n = 0xFFFFFFFF || base < lim.1 || lim.2 < base + n * 4096 then s.complete r d.num .lengthExceeds
      else if 2 ≤ target && ((s.core die core).tile.isSome || s.physReserved die core) then s.complete r d.num .scrubBusy
      else
        let s := if 2 ≤ target then s.setCore die core { s.core die core with held := true } else s
        { s with comp := { s.comp with scrubs := s.comp.scrubs ++ [⟨r, d.num, target, die, core, base, n * 512⟩] } }))

/-- Saturates a count of a scrub summary (R120). -/
def scrubTop (n : Nat) : Nat := min n 0xFFFFFFFFFFFFFFFE

/-- The summary of a scrub (Table 05-6). -/
def scrubSummary (words corrected : Nat) (bad : List Nat) : Bytes :=
  leBytes 8 (scrubTop words) ++ leBytes 8 (scrubTop corrected) ++ leBytes 8 (scrubTop bad.length) ++
    leBytes 8 ((bestBy (fun a b => decide (a < b)) bad).getD 0xFFFFFFFFFFFFFFFF)

/-- The words among `l` that a scrub scans, each once. -/
def Scrub.hits (x : Scrub) (l : List Nat) : List Nat :=
  (l.filter (fun a => decide (x.base ≤ a) && decide (a < x.base + 8 * x.words) && decide (a % 8 = 0))).foldl
    (fun m a => if m.contains a then m else m ++ [a]) []

/-- The counts and addresses that a scrub reports to its die or core (R116, R120). DEDUCED (log 116): words that cannot be
corrected in a scratchpad or instruction memory go into the core's fault registers while MC_MEM_STAT is all zero; the port
class of a scrub is free. -/
def State.scrubFound (s : State) (x : Scrub) (corrected : Nat) (bad : List Nat) : State :=
  let low := bestBy (fun a b => decide (a < b)) bad
  if x.target < 2 then
    let s := s.eccCorr x.die x.target corrected
    match low with | some a => s.eccFail x.die a bad.length | none => s
  else
    let others := s.comp.scrubs.any (fun y => y.die == x.die && y.core == x.core && decide (2 ≤ y.target))
    let s := (s.setCore x.die x.core { s.core x.die x.core with held := others }).coreCorr x.die x.core corrected
    match low with
    | some a =>
      if s.memLatchFree x.die x.core then s.bump.memLatch x.die x.core .eccUncorrectable 0 (Config.freeNat s.free) a else s
    | none => s

/-- SCRUB_DONE: the oldest scrub of a ring ends with words corrected and the addresses of those that
could not be (R119, R120). -/
def execScrubDone (r corrected : Nat) (uncorrectable : List Nat) (s : State) : Host.Outcome State Fault Refusal :=
  guardI (decide (r < 8192)) (
    match s.comp.scrubs.find? (fun x => x.ring == r), s.loss with
    | some x, none =>
      let bad := x.hits uncorrectable
      let n := min corrected (x.words - bad.length)
      let s : State := { s with comp := { s.comp with scrubs := s.comp.scrubs.filter (fun y => y != x) } }
      let s := s.scrubFound x n bad
      match s.desc r x.num with
      | none => s
      | some d => (s.hostData (le d.bytes 24 8) (scrubSummary x.words n bad)).complete r x.num .success
    | _, _ => s)

end Sys2Proof.Machine
end

