-- ==== Sys2Proof/Machine/Dma.lean ====
section
/-!
DEFINITION. DMA channels and the sender's side of berths (R110, R111, R115, R125 to R130, R207), and
what the fabric brings to a job: collectives, the lead's messages and heartbeats (R99, R148, R169,
R202, R209 to R215).
-/

namespace Sys2Proof.Machine

open Sys2Proof

/-! ### DMA transfers (R110) -/

/-- Instances of a DMA channel. -/
def chanOk (die core chan : Nat) : Bool := decide (die < 7) && (decide (core < 17) && decide (chan < 8))

/-- The memory that an address lies in, as a core's own channels see it: 0 none, 1 its scratchpad, 2 its
instruction memory, 3 die pool, 4 DRAM. -/
def dmaMem (k a : Nat) : Nat :=
  if a < dramTop then 4
  else if poolLo ≤ a && a < poolLo + poolSize then 3
  else if spadLo k ≤ a && a < spadLo k + spadSize then 1
  else if imemLo k ≤ a && a < imemLo k + imemSize then 2
  else 0

/-- A path between a channel's memories (R110). -/
def dmaPath (src dst : Nat) : Bool :=
  (src == 1 && (dst == 3 || dst == 4)) || ((src == 3 || src == 4) && (dst == 1 || dst == 2))

/-- The length and ranges of a transfer are in order. -/
def xferOk (k : Nat) : Xfer → Bool
  | .copy src dst len =>
    len ≠ 0 && len ≠ 0xFFFFFFFF && len % 8 = 0 && src % 8 = 0 && dst % 8 = 0 && rangeOk src len && rangeOk dst len &&
      dmaPath (dmaMem k src) (dmaMem k dst)
  | .berth src _ _ _ _ _ len =>
    len ≠ 0 && len ≠ 0xFFFFFFFF && len % 8 = 0 && src % 8 = 0 && rangeOk src len && (dmaMem k src == 1 || dmaMem k src == 3)

/-- The die pool and DRAM that a job's transfers may reach: its tensors and pins, its package, the memory under its
berths, and the rings of the streams bound to it (R122). -/
def State.jobReach (s : State) (j : Job) : List Region :=
  j.places.map (fun p => (⟨p.die, p.base, p.size⟩ : Region)) ++ j.pins ++ (match s.pkg j.pkg with | some p => [p.home] | none => []) ++
    s.jobBerths j ++ j.streams.flatMap (fun i => (s.strm i).ring)

/-- A range of a transfer lies in the core's own memories or in one region of its job. -/
def State.reachOk (s : State) (d k : Nat) (j : Job) (a n : Nat) : Bool :=
  dmaMem k a == 1 || dmaMem k a == 2 || (s.jobReach j).any (fun r => r.die == d && decide (r.base ≤ a) && decide (a + n ≤ r.base + r.size))

/-- A transfer keeps within the regions of the job whose tile runs. DEDUCED (log 136): one that does not runs past the end
of its range. -/
def State.xferMine (s : State) (d k : Nat) (x : Xfer) : Bool :=
  match (s.core d k).tile.bind (fun t => s.job t.job) with
  | none => false
  | some j =>
    match x with
    | .copy src dst len => s.reachOk d k j src len && s.reachOk d k j dst len
    | .berth src _ _ _ _ _ len => s.reachOk d k j src len

/-- The first address of a range in the core's scratchpad whose bank the DMA class does not own. -/
def State.dmaClash (s : State) (d k a n : Nat) : Option Nat :=
  if dmaMem k a ≠ 1 then none
  else
    let first := (a - spadLo k) / 0x80000
    let last := (a + n - 1 - spadLo k) / 0x80000
    ((List.range (last + 1 - first)).find? (fun i => s.bankOwner d k (first + i) != 3)).map (fun i =>
      max a (spadLo k + (first + i) * 0x80000))

/-- The first scratchpad access of a transfer that meets a bank of another class (R108). -/
def State.xferClash (s : State) (d k : Nat) : Xfer → Option Nat
  | .copy src dst len => match s.dmaClash d k src len with | some a => some a | none => s.dmaClash d k dst len
  | .berth src _ _ _ _ _ len => s.dmaClash d k src len

/-- A berth transfer's destination cannot be reached (R199, R207). -/
def State.xferCut (s : State) : Xfer → Bool
  | .copy _ _ _ => false
  | .berth _ pkg die _ _ _ _ => decide (7 ≤ die) || !s.reachable pkg

/-- Refuses a transfer at the source, which is counted (R207). -/
def State.unreachable (s : State) (d k c : Nat) (x : Xfer) : State :=
  (s.haltChan d k c .fabricUnreachable (xferSrc (some x))).event (fabA 8) 4 (fabA 0x14)

/-- DMA_TRANSFER_ISSUE: a channel that is free takes a transfer, checked first (R110, R111). A channel's
previous copy is complete before its next begins. -/
def execDmaTransferIssue (die core chan : Nat) (x : Xfer) (s : State) : Host.Outcome State Fault Refusal :=
  guardI (chanOk die core chan) (
    let c := s.chan die core chan
    if !s.running die core || c.halt.isSome || c.st = .waitCredit || c.st = .waitAck then s
    else
      let s := (s.tlySync die).finishCopy die core chan
      let s := s.setChan die core chan ⟨.idle, some x, none, none⟩
      if !xferOk core x || !s.xferMine die core x then s.haltChan die core chan .lengthExceeds (xferSrc (some x))
      else
        match s.xferClash die core x with
        | some a => (s.memFault die core 0 0 .bankConflict 0 3 a).jobFault die core .bankConflict
        | none =>
          if s.xferCut x then s.unreachable die core chan x
          else
            match x, s.chanPkt 2 die chan x (leBytes 8 (match x with | .copy _ _ n => n | .berth _ _ _ _ _ _ n => n)) with
            | .berth _ _ _ _ _ _ _, some p => (s.setChan die core chan ⟨.waitCredit, some x, none, none⟩).sendTo p
            | _, _ => s.setChan die core chan ⟨.copying, some x, none, none⟩)

/-- DMA_UNCORRECTABLE: a channel's read meets a word that cannot be corrected; the words before it are
delivered (R115). DEDUCED (log 80): the word at which a berth transfer's read will fail is named while the transfer waits for
its grant, since the grant brings the read and the write. -/
def execDmaUncorrectable (die core chan word : Nat) (s : State) : Host.Outcome State Fault Refusal :=
  guardI (chanOk die core chan) (
    let c := s.chan die core chan
    let hit : Nat → Nat → Bool := fun src n => decide (src ≤ word) && decide (word < src + n) && decide (word % 8 = 0)
    match c.st, c.xfer with
    | .copying, some (.copy src dst n) =>
      if hit src n then
        ((s.wrBytes die dst (s.rdBytes die src (word - src))).eccFail die word 1).haltChan die core chan .dmaUncorrectable word
      else s
    | .waitCredit, some (.berth src _ _ _ _ _ n) =>
      if hit src n then s.setChan die core chan { c with bad := some (match c.bad with | some w => min w word | none => word) } else s
    | _, _ => s)

/-! ### Credits, as the sender sees them -/

/-- A grant reaches its channel: the write goes out under it (R126, R127), up to a word that cannot be read (R115). -/
def State.granted (s : State) (d k c : Nat) : State :=
  match (s.chan d k c).st, (s.chan d k c).xfer with
  | .waitCredit, some (.berth src pkg die berth gen off len) =>
    let x : Xfer := .berth src pkg die berth gen off len
    let bad := (s.chan d k c).bad
    let n := match bad with | some w => w - src | none => len
    let s := s.tlySync d
    if s.xferCut x then s.unreachable d k c x
    else
      let p : FabPkt := ⟨1, 2, pkg, die, s.pkgNum, d, c, berth, gen, off, 0, 0, s.rdBytes d src n⟩
      let s := s.setChan d k c ⟨.waitAck, some x, none, none⟩
      let s := if n = 0 then s else s.sendTo p
      match bad with
      | some w => (s.eccFail d w 1).haltChan d k c .dmaUncorrectable w
      | none => s
  | _, _ => s

/-- CREDIT_GRANT: at the credit manager, or at a sender (R126). -/
def execCreditGrant (g : GrantAt) (s : State) : Host.Outcome State Fault Refusal :=
  match g with
  | .manager die berth => guardI (decide (die < 7) && decide (berth < 256)) (s.grantHead die berth)
  | .sender rx die core chan => guardI (rxOk rx && chanOk die core chan) (s.received 0 rx (fun s => s.granted die core chan))

/-- A status that a refusal or a dropped write carries (R111). -/
def berthStatus (l : List Status) (code : Nat) : Option Status := (Status.ofCode code).filter (fun st => l.contains st)

/-- CREDIT_REFUSE: the channel halts (R125). -/
def execCreditRefuse (v : Via Nat) (core chan status : Nat) (s : State) : Host.Outcome State Fault Refusal :=
  guardI (rxOk v.rx && chanOk v.msg core chan) (s.received 0 v.rx (fun s =>
    let c := s.chan v.msg core chan
    match c.st, berthStatus [.windowClosed, .berthSourceDenied, .lengthExceeds, .fabricUnreachable] status with
    | .waitCredit, some st => (s.tlySync v.msg).haltChan v.msg core chan st (xferSrc c.xfer)
    | _, _ => s))

/-- An acknowledgement reaches its channel, whose grant goes back (R128). -/
def State.chanAck (s : State) (d k c : Nat) : State :=
  match (s.chan d k c).st, (s.chan d k c).xfer with
  | .waitAck, some x => (s.setChan d k c Chan.init).returnGrant d c x
  | _, _ => s

/-- A rank acknowledges what the engine gave it: the engine signals the collective's completion to it (R211). -/
def State.collAck (s : State) (key op rank : Nat) : State :=
  match (s.spanJob key).bind (fun j => (s.collCtx j op).filter (fun c => (j.coll c.op).out.contains rank)) with
  | none => s
  | some c => (s.updColl c (fun y => { y with out := y.out.filter (fun r => r != rank) })).collTell c 8 rank

/-- WRITE_ACK: the data is wholly in memory (R127). -/
def execWriteAck (v : Via AckAt) (a b : Nat) (s : State) : Host.Outcome State Fault Refusal :=
  match v.msg with
  | .chan die => guardI (rxOk v.rx && chanOk die a b) (s.received 0 v.rx (fun s => s.chanAck die a b))
  | .coll job => guardI (rxOk v.rx) (s.received 0 v.rx (fun s => s.collAck job a b))

/-- WRITE_NAK: the write was dropped, and the channel halts (R127, R130). -/
def execWriteNak (v : Via Nat) (core chan status : Nat) (s : State) : Host.Outcome State Fault Refusal :=
  guardI (rxOk v.rx && chanOk v.msg core chan) (s.received 0 v.rx (fun s =>
    let c := s.chan v.msg core chan
    match c.st, berthStatus [.windowClosed, .berthNoCredit, .lengthExceeds, .fabricUnreachable] status with
    | .waitAck, some st => s.haltChan v.msg core chan st (xferSrc c.xfer)
    | _, _ => s))

/-! ### Links that fall (R202, R212) -/

/-- A packet of a link belongs to a channel's transfer, as far as its header tells (Table 08-2). -/
def pktOf (pkg d c : Nat) (x : Xfer) (b : Bytes) : Bool :=
  match x with
  | .copy _ _ _ => false
  | .berth _ dst die berth gen _ _ =>
    let h := le b 0 16
    h / 2 ^ 18 % 1024 == dst && h / 2 ^ 28 % 8 == die && h / 2 ^ 32 % 1024 == pkg && h / 2 ^ 42 % 8 == d &&
      h / 2 ^ 45 % 8 == c && h / 2 ^ 48 % 256 == berth && h / 2 ^ 56 % 256 == gen

/-- Collectives under way that lose data by a link's fall: those of a job with a package that discarded packets were for,
and those with a rank that has not acknowledged and can no longer be reached. -/
def State.collsLost (s : State) (gone : List Bytes) (j : Job) : Nat :=
  let dests := (gone.filter (fun b => le b 0 1 % 16 == 7)).map (fun b => le b 0 16 / 2 ^ 18 % 1024)
  (j.colls.filter (fun c => j.span.any dests.contains ||
    c.out.any (fun r => !s.reachable (j.span.getD r s.pkgNum)))).length

/-- Link `k` goes DOWN. DMA transfers that lost packets or their way halt; each job that lost a transfer or a collective
ends, counted once per collective (R202, R212). -/
def State.linkLost (s : State) (k dst' : Nat) : State :=
  let gone := (s.lnk k).replay.map (fun p => p.bytes)
  let s := s.linkFall k dst'
  let hit := s.comp.chans.filter (fun e => (e.2.st == .waitCredit || e.2.st == .waitAck) &&
    (match e.2.xfer with | none => false | some x => gone.any (pktOf s.pkgNum (e.1 / 8 / 17) (e.1 % 8) x) || s.xferCut x))
  let jobs := hit.filterMap (fun e => (s.core (e.1 / 8 / 17) (e.1 / 8 % 17)).tile.map (fun t => t.job))
  let s := hit.foldl (fun s e =>
    (s.tlySync (e.1 / 8 / 17)).haltChan (e.1 / 8 / 17) (e.1 / 8 % 17) (e.1 % 8) .collectiveAbort (xferSrc e.2.xfer)) s
  let js := (s.jobs.map (fun j => (j.id, max (s.collsLost gone j) (b2n (jobs.contains j.id))))).filter (fun x => x.2 != 0)
  js.foldl (fun s x => ((List.range x.2).foldl (fun s _ => s.abortEvent) s).haltJob x.1 .collectiveAbort) s

/-- RETRAIN_TIMEOUT: 1 ms of retraining without success (R202). -/
def execRetrainTimeout (k : Nat) (s : State) : Host.Outcome State Fault Refusal :=
  guardI (decide (k < 12)) (
    if s.linkState k = 4 then s.atRef ((s.lnk k).since + 1000000) (fun s => s.linkLost k 1) else s)

/-- LINK_PEER_LOST: an UP link goes straight to DOWN (Table 08-1). -/
def execLinkPeerLost (k : Nat) (s : State) : Host.Outcome State Fault Refusal :=
  guardI (decide (k < 12)) (if s.linkState k = 3 then s.linkLost k 1 else s)

/-! ### The lead (R99, R148, R169, R212, R214, R215) -/

/-- A peer-end message, or at the lead a report: the job ends at the next tile boundary (R169, R212). -/
def State.peerEnd (s : State) (key : Nat) (st : Status) : State :=
  match s.spanJob key with
  | none => s
  | some j =>
    let st := if st = .packageJobLoss then .peerJobLoss else st
    if j.ending.isSome then s
    else
      let s := if st = .collectiveAbort then s.abortEvent else s
      (s.tellPeers j st).endSoon j.id st

/-! ### Collectives (R209, R211) -/

/-- COLL_PARTIAL: data of a collective arrives (R208, R209). -/
def execCollPartial (v : Via Nat) (op : Nat) (part : CollPart) (data : Bytes) (s : State) :
    Host.Outcome State Fault Refusal :=
  guardI (rxOk v.rx) (s.received 1 v.rx (fun s =>
    match (s.spanJob v.msg).bind (fun j => s.collCtx j op) with
    | none => s
    | some c => s.collIn c part data))

/-- COLL_EVENT: a rank's bytes of a collective are here, and the next level's tiles are released once all are; or the
collective is aborted (R211, R212). -/
def execCollEvent (v : Via CollSignal) (s : State) : Host.Outcome State Fault Refusal :=
  guardI (rxOk v.rx) (s.received 0 v.rx (fun s =>
    if v.msg.abort then s.peerEnd v.msg.job .collectiveAbort
    else
      match (s.spanJob v.msg.job).bind (fun j => s.collCtx j v.msg.op) with
      | none => s
      | some c => (s.updColl c (fun y => { y with evs := y.evs ++ [v.msg.rank] })).stepLevels c.id))

/-! ### Messages of the lead -/

/-- A package's share is done: its quantiser counts join the job's (R75). -/
def Job.shareDone (j : Job) (pkg : Nat) (counts : List (Nat × List Nat)) : Job :=
  { j with
    heard := j.heard ++ [pkg]
    runStats := counts.foldl (fun t e => tset TStat.zero t e.1 ((tget TStat.zero t e.1).add (TStat.ofList e.2))) j.runStats }

/-- A message of the lead, or to it (R214). -/
def State.leadMsg (s : State) (msg : LeadMsg) : State :=
  match msg with
  | .plan p => if s.isLead || s.loss.isSome then s else s.takePlan p
  | .done job pkg counts => match s.spanJob job with
    | some j => if j.member.isSome || j.heard.contains pkg then s else s.updJob j.id (fun j => j.shareDone pkg counts)
    | none => s
  | .endJob job status => match Status.ofCode status with
    | some st => s.peerEnd job st
    | none => s
  | .settle job pkg stage slots => match s.spanJob job with
    | some j => if j.settling = 0 then s
      else s.updJob j.id (fun j => { j with
        reports := j.reports.filter (fun r => !(r.1 == pkg && r.2.1 == stage)) ++ [(pkg, stage, slots)] })
    | none => s

/-- LEAD_MSG (R214). -/
def execLeadMsg (v : Via LeadMsg) (s : State) : Host.Outcome State Fault Refusal :=
  guardI (rxOk v.rx) (s.received 3 v.rx (fun s => s.leadMsg v.msg))

/-- The slots that the reports of a stage name. -/
def Job.settleSlots (j : Job) (stage : Nat) : List Nat := (j.reports.filter (fun r => r.2.1 == stage)).flatMap (fun r => r.2.2)

/-- The lead has every package's report of a stage, or a member has the lead's (R99). -/
def State.settleReady (s : State) (j : Job) : Bool :=
  let have' := fun p => j.reports.any (fun r => r.1 == p && r.2.1 == j.settling)
  j.settling != 0 && (if j.member.isSome then have' s.leadPkg else j.span.all have')

/-- The lead tells the job's other packages what a stage has come to (R99). -/
def State.settleTell (s : State) (j : Job) (slots : List Nat) : State :=
  if j.member.isSome then s
  else (j.span.filter (fun p => p ≠ s.pkgNum)).foldl (fun s p =>
    s.sendTo (s.quayPkt 9 3 p (settleBytes j.id s.pkgNum j.settling slots))) s

/-- STEP_SETTLE_ROUND: a stage is complete. After the joins phase 3 runs, and its suspensions are reported; after the
suspensions the step is settled (R98, R99). -/
def execStepSettleRound (job : Nat) (s : State) : Host.Outcome State Fault Refusal :=
  .next (match s.job job with
    | none => s
    | some j =>
      if !s.settleReady j then s
      else
        let slots := j.settleSlots j.settling
        let s := s.settleTell j slots
        if j.settling = 1 then
          let x := s.kvGrowth j.pkg j.chains j.rows slots
          let s := x.1.settleReport j.member 2 x.2.2
          s.updJob job (fun j => { j with rows := x.2.1, settling := 2, reports := j.reports ++ [(s.pkgNum, 2, x.2.2)] })
        else
          let x := s.kvFinish j.chains j.rows slots
          x.1.updJob job (fun j => { j with rows := x.2, settling := 0, reports := [] }))

/-- HEARTBEAT: one that names another lead is ignored (R214). -/
def execHeartbeat (v : Via Nat) (lead : Nat) (s : State) : Host.Outcome State Fault Refusal :=
  guardI (rxOk v.rx && decide (v.msg < 1024)) (s.received 3 v.rx (fun s =>
    if lead ≠ s.leadPkg then s
    else if s.isLead then s.setFab { s.comp.fab with member := tset 0 s.comp.fab.member v.msg 0 }
    else if v.msg = s.leadPkg then (s.setFab { s.comp.fab with leadTicks := 0 }).sendHeartbeat v.msg
    else s))

/-- LEAD_HEARTBEAT_TIMEOUT: 16 base ticks without a valid lead heartbeat (R215). -/
def execLeadHeartbeatTimeout (s : State) : Host.Outcome State Fault Refusal :=
  .next (
    if s.isLead || s.comp.fab.leadTicks < 16 then s
    else
      let s := (s.setFab { s.comp.fab with leadTicks := 0 }).event (fabA 8) 5 (fabA 0x18)
      (s.jobs.filter (fun j => !j.span.isEmpty)).foldl (fun s j => s.endSoon j.id .leadLost) s)

/-- MEMBER_HEARTBEAT_TIMEOUT: the lead has not heard from a package for 16 base ticks (R215). -/
def execMemberHeartbeatTimeout (pkg : Nat) (s : State) : Host.Outcome State Fault Refusal :=
  guardI (decide (pkg < 1024)) (
    if !s.isLead || tget 0 s.comp.fab.member pkg < 16 then s
    else
      let s := s.setFab { s.comp.fab with member := tset 0 s.comp.fab.member pkg 0 }
      (s.jobs.filter (fun j => j.span.contains pkg)).foldl (fun s j => (s.tellPeers j .peerJobLoss).endSoon j.id .peerJobLoss) s)

end Sys2Proof.Machine
end

