-- ==== Sys2Proof/Machine/Pixels.lean ====
section
/-!
DEFINITION. Sensor payloads and pre-processing (R218, R219, R222, R225, R226, R229 to R231): RTP
headers, the payload formats, coverage, and the stages that turn a sample into a tensor. The layouts
of RTP (RFC 3550), RFC 4175 and RFC 2435 are PRESUMED: the spec names the documents.
-/

namespace Sys2Proof.Machine

open Sys2Proof

/-- A big-endian field of `n` bytes. -/
def be (b : Bytes) (o n : Nat) : Nat := ofBe (slice b o n)

/-! ### RTP -/

/-- An RTP packet without contributing sources, extension and padding (R220). -/
structure Rtp where
  version : Nat
  pt : Nat
  seq : Nat
  ts : Nat
  ssrc : Nat
  marker : Bool
  body : Bytes
  deriving DecidableEq, Repr

/-- Reads an RTP packet. -/
def rtpOf (b : Bytes) : Rtp :=
  let f := be b 0 1
  let g := be b 1 1
  let h := 12 + 4 * (f % 16)
  let h := if f.testBit 4 then h + 4 + 4 * be b (h + 2) 2 else h
  let pad := if f.testBit 5 then be b (b.length - 1) 1 else 0
  ⟨f / 64, g % 128, be b 2 2, be b 4 4, be b 8 4, g.testBit 7, (b.take (b.length - pad)).drop h⟩

/-- The ranges cover [0, n) without a gap, from `pos` on. -/
def covers (rs : List (Nat × Nat)) (n : Nat) : Nat → Nat → Bool
  | 0, pos => decide (n ≤ pos)
  | k + 1, pos =>
    if n ≤ pos then true
    else
      match rs.find? (fun r => decide (r.1 ≤ pos) && decide (pos < r.2)) with
      | none => false
      | some r => covers rs n k r.2

/-! ### RFC 4175 -/

/-- A line segment of an RFC 4175 packet. -/
structure LineSeg where
  field : Bool
  line : Nat
  off : Nat
  /-- Length that the header states. -/
  want : Nat
  data : Bytes
  deriving DecidableEq, Repr

/-- Segment headers up to the one without the continuation bit, and what follows them. -/
def lineHdrs : Nat → Bytes → List (Nat × Nat × Nat) × Bytes
  | 0, b => ([], b)
  | n + 1, b =>
    if (be b 4 2).testBit 15 then
      let x := lineHdrs n (b.drop 6)
      ((be b 0 2, be b 2 2, be b 4 2) :: x.1, x.2)
    else ([(be b 0 2, be b 2 2, be b 4 2)], b.drop 6)

/-- Cuts the payload by its segment headers. -/
def cutSegs : List (Nat × Nat × Nat) → Bytes → List LineSeg
  | [], _ => []
  | (n, l, o) :: t, b => ⟨l.testBit 15, l % 32768, o % 32768, n, b.take n⟩ :: cutSegs t (b.drop n)

/-- The segments of an RTP body, behind the extended sequence number. -/
def lineSegs (body : Bytes) : List LineSeg :=
  let x := lineHdrs body.length (body.drop 2)
  cutSegs x.1 x.2

/-- Pixels of a pgroup, by SAMPLING. -/
def pgPix (samp : Nat) : Nat := if samp = 0 then 1 else 2
/-- Bytes of a pgroup, by SAMPLING (R219). -/
def pgBytes (samp : Nat) : Nat := match samp with | 0 => 3 | 1 => 4 | 2 => 5 | 3 => 2 | _ => 3
/-- Bits of a sample value, by SAMPLING. -/
def pgBits (samp : Nat) : Nat := match samp with | 2 => 10 | 4 => 12 | _ => 8

/-- First pixel beyond a segment. -/
def LineSeg.stop (samp : Nat) (g : LineSeg) : Nat := g.off + g.want / pgBytes samp * pgPix samp

/-- A segment is malformed (Table 09-2, reason 2). -/
def LineSeg.bad (samp w h : Nat) (g : LineSeg) : Bool :=
  g.field || decide (h ≤ g.line) || decide (w < g.stop samp) || decide (g.want % pgBytes samp ≠ 0) ||
    decide (g.off % pgPix samp ≠ 0) || decide (g.data.length ≠ g.want)

/-- Every line of the frame is covered (R222). -/
def framed (samp w h : Nat) (gs : List LineSeg) : Bool :=
  (List.range h).all (fun y =>
    covers ((gs.filter (fun g => g.line == y)).map (fun g => (g.off, g.stop samp))) w gs.length 0)

/-- The values that the pgroup of pixel (x, y) gives it: red, green and blue, or Cb, Y and Cr, or one
mosaic value; from the segment that came last. -/
def pixelRaw (samp : Nat) (gs : List LineSeg) (x y : Nat) : List Nat :=
  match gs.reverse.find? (fun g => g.line == y && decide (g.off ≤ x) && decide (x < g.stop samp)) with
  | none => [0, 0, 0]
  | some g =>
    let i := x - g.off
    let b := slice g.data (i / pgPix samp * pgBytes samp) (pgBytes samp)
    let v := ofBe b
    match samp with
    | 0 => [be b 0 1, be b 1 1, be b 2 1]
    | 1 => [be b 0 1, be b (1 + 2 * (i % 2)) 1, be b 2 1]
    | 2 => [v / 2 ^ 30 % 1024, (if i % 2 = 0 then v / 2 ^ 20 else v) % 1024, v / 2 ^ 10 % 1024]
    | 3 => [be b (i % 2) 1]
    | _ => [if i % 2 = 0 then v / 4096 else v % 4096]

/-! ### RFC 2435 -/

/-- An RFC 2435 packet. -/
structure Jpg where
  /-- Type-specific field, type, Q, width, height and restart interval. -/
  key : List Nat
  off : Nat
  scan : Bytes
  /-- In-band tables stand where they must. -/
  tables : Bool
  deriving DecidableEq, Repr

/-- Reads the RFC 2435 headers of an RTP body. -/
def jpgOf (b : Bytes) : Jpg :=
  let ty := be b 4 1
  let q := be b 5 1
  let off := be b 1 3
  let rst := decide (64 ≤ ty) && decide (ty < 128)
  let r := b.drop 8
  let ri := if rst then be r 0 2 else 0
  let r := if rst then r.drop 4 else r
  let inband := decide (128 ≤ q) && decide (off = 0)
  let n := be r 2 2
  ⟨[be b 0 1, ty, q, 8 * be b 6 1, 8 * be b 7 1, ri], off, if inband then r.drop (4 + n) else r,
    !inband || (decide (0 < n) && decide (4 + n ≤ r.length))⟩

def Jpg.ty (j : Jpg) : Nat := j.key.getD 1 0
def Jpg.q (j : Jpg) : Nat := j.key.getD 2 0
def Jpg.w (j : Jpg) : Nat := j.key.getD 3 0
def Jpg.h (j : Jpg) : Nat := j.key.getD 4 0
def Jpg.ri (j : Jpg) : Nat := j.key.getD 5 0
/-- First scan byte beyond a fragment. -/
def Jpg.stop (j : Jpg) : Nat := j.off + j.scan.length

/-- A packet is malformed against the sample's earlier ones (Table 09-2, reason 2). -/
def Jpg.bad (prior : List Jpg) (j : Jpg) : Bool :=
  !([0, 1, 64, 65].contains j.ty) || decide (j.q = 0) || (decide (100 ≤ j.q) && decide (j.q ≤ 127)) || !j.tables ||
    prior.any (fun i => i.key != j.key || (decide (i.off < j.stop) && decide (j.off < i.stop)))

/-- Width or height out of range (Table 09-2, reason 3). -/
def Jpg.oversize (w h : Nat) (j : Jpg) : Bool :=
  decide (j.off = 0) && (decide (j.w = 0) || decide (j.h = 0) || decide (w < j.w) || decide (h < j.h))

/-- The fragments run contiguously from 0 to `stop` (R222). -/
def scanned (js : List Jpg) (stop : Nat) : Bool := covers (js.map (fun j => (j.off, j.stop))) stop js.length 0

/-- Where the decoded planes of a JPEG frame hold the luma of pixel (x, y). -/
def jpgLuma (w x y : Nat) : Nat := y * w + x

/-- Where they hold the chroma of pixel (x, y), of plane 0 for Cb and 1 for Cr: replicated to full size (Table 09-3)
from half the width, and for types 1 and 65 half the height. -/
def jpgChroma (ty w h plane x y : Nat) : Nat :=
  let half := decide (ty % 64 = 1)
  let cw := cdiv w 2
  let ch := if half then cdiv h 2 else h
  w * h + plane * (cw * ch) + (if half then y / 2 else y) * cw + x / 2

/-- The least size of a scan (R226). -/
def minScan (j : Jpg) : Nat :=
  let small := decide (j.ty = 0) || decide (j.ty = 64)
  let mcus := cdiv j.w 16 * cdiv j.h (if small then 8 else 16)
  cdiv (mcus * (if small then 4 else 6) * 2) 8 + (if 64 ≤ j.ty then 2 * (cdiv mcus j.ri - 1) else 0)

/-! ### Colour (R229, R230) -/

/-- The FP32 value nearest to a ratio. -/
def fratio (a b : Nat) : F32 := f32 ((FV.ofInt a).div (FV.ofInt b))

/-- K_R and K_B of BT.601 and BT.709, in ten thousandths. -/
def kRed (m709 : Bool) : Nat := if m709 then 2126 else 2990
def kBlue (m709 : Bool) : Nat := if m709 then 722 else 1140
def kGreen (m709 : Bool) : Nat := 10000 - kRed m709 - kBlue m709

/-- Y and the two chroma differences of a pixel, by range. -/
def yccLevels (limited : Bool) (bits y cb cr : Nat) : F32 × F32 × F32 :=
  let mid := fofNat (2 ^ (bits - 1))
  let c : Nat → F32 := fun v =>
    let d := fsub (fofNat v) mid
    if limited then fdiv (fmul d (fofNat 255)) (fofNat 224) else d
  let yy := if limited then fdiv (fmul (fsub (fofNat y) (fofNat (16 * 2 ^ (bits - 8)))) (fofNat 255)) (fofNat 219)
    else fofNat y
  (yy, c cb, c cr)

/-- The output channels of a YCbCr pixel. -/
def yccOut (grey m709 limited : Bool) (bits y cb cr : Nat) : List F32 :=
  let l := yccLevels limited bits y cb cr
  let kr := kRed m709
  let kb := kBlue m709
  let kg := kGreen m709
  if grey then [l.1]
  else
    [fadd l.1 (fmul (fratio (2 * (10000 - kr)) 10000) l.2.2),
     fsub (fsub l.1 (fmul (fratio (2 * kb * (10000 - kb)) (kg * 10000)) l.2.1))
       (fmul (fratio (2 * kr * (10000 - kr)) (kg * 10000)) l.2.2),
     fadd l.1 (fmul (fratio (2 * (10000 - kb)) 10000) l.2.1)]

/-- The output channels of an RGB pixel. -/
def rgbOut (grey m709 : Bool) (r g b : F32) : List F32 :=
  if grey then
    [fadd (fadd (fmul (fratio (kRed m709) 10000) r) (fmul (fratio (kGreen m709) 10000) g))
      (fmul (fratio (kBlue m709) 10000) b)]
  else [r, g, b]

/-- The filter colour of a mosaic pixel: 0 red, 1 green, 2 blue (R219). -/
def cfaColour (cfa x y : Nat) : Nat :=
  let t := match cfa with
    | 0 => [0, 1, 1, 2]
    | 1 => [1, 0, 2, 1]
    | 2 => [1, 2, 0, 1]
    | _ => [2, 1, 1, 0]
  t.getD (y % 2 * 2 + x % 2) 0

/-- A coordinate outside [0, n) takes the nearest pixel of the same filter colour: `i` is one above
the coordinate. -/
def mirror (n i : Nat) : Nat := if i = 0 then 1 else if n < i then n - 2 else i - 1

/-- Bilinear demosaic of colour `c` (Table 09-3): the value itself, or the mean of the neighbours of that
colour. -/
def demosaic (cfa w h : Nat) (raw : Nat → Nat → Nat) (x y c : Nat) : F32 :=
  if cfaColour cfa x y = c then fofNat (raw x y)
  else
    let ns := [(0, 0), (1, 0), (2, 0), (0, 1), (2, 1), (0, 2), (1, 2), (2, 2)].map (fun d =>
      (mirror w (x + d.1), mirror h (y + d.2)))
    let vs := (ns.filter (fun q => cfaColour cfa q.1 q.2 = c)).map (fun q => raw q.1 q.2)
    fdiv (fofNat vs.sum) (fofNat vs.length)

/-! ### Crop, resize and conversion (R230, R231) -/

/-- One element in the output format, and whether it saturated: convert of R230. -/
def outElem (f : NumFmt) (zp : Int) (y : F32) : Nat × Bool :=
  match fmtFp f with
  | none =>
    let r := intRange f
    let t := fvToIntSat (-2147483648) 2147483647 (fv y) + zp
    let c := clampInt r.1 r.2 t
    (uint (fmtWidth f) c, decide (c ≠ t))
  | some g => (fconv g (fv y), decide ((fdec g g.maxFin).cmp (fv y).abs = some .lt))

/-- The encoding of zero (R228). -/
def zeroElem (f : NumFmt) (zp : Int) : Nat := (outElem f zp f0).1

/-- Elements as bytes. -/
def elemBytes (f : NumFmt) (l : List Nat) : Bytes := l.flatMap (fun v => leBytes (fmtWidth f / 8) v)

/-- The source coordinate of an output pixel: index, next index and fraction. -/
def resizeAt (o n out lo : Nat) : Nat × Nat × F32 :=
  let half : F32 := 0x3F000000#32
  let c := fsub (fadd (fdiv (fmul (fadd (fofNat o) half) (fofNat n)) (fofNat out)) (fofNat lo)) half
  let c := fclamp c (fofNat lo) (fofNat (lo + n - 1))
  let i := ((fv c).floor.getD 0).toNat
  (i, min (i + 1) (lo + n - 1), fsub c (fofNat i))

/-- Bilinear interpolation of channel `c`. -/
def bilinear (p : Nat → Nat → List F32) (c : Nat) (x y : Nat × Nat × F32) : F32 :=
  let at' : Nat → Nat → F32 := fun i k => (p i k).getD c f0
  let row : Nat → F32 := fun k => fadd (at' x.1 k) (fmul x.2.2 (fsub (at' x.2.1 k) (at' x.1 k)))
  let top := row y.1
  fadd top (fmul y.2.2 (fsub (row y.2.1) top))

/-- Entry `r` of an ROI table. -/
def roiEntry (t : Bytes) (r : Nat) : Bytes := slice t (32 * r) 32

/-- The clipped rectangle of an image entry: x, y, width, height; none if it is disabled or empty. -/
def roiRect (w h : Nat) (e : Bytes) : Option (Nat × Nat × Nat × Nat) :=
  let x := le e 4 2
  let y := le e 6 2
  let x1 := min (x + le e 8 2) w
  let y1 := min (y + le e 10 2) h
  if (le e 0 2).testBit 0 && decide (x < x1) && decide (y < y1) then some (x, y, x1 - x, y1 - y) else none

/-- What pre-processing makes of a sample. -/
structure TensorOut where
  data : Bytes
  /-- ROI_VALID. -/
  valid : Nat
  points : Nat
  clipped : Nat
  /-- ROI entries treated as disabled. -/
  empties : Nat
  /-- Lidar records skipped as NaN or infinite. -/
  skips : Nat
  deriving DecidableEq, Repr

/-- How a stream's tensor is made. -/
structure OutCfg where
  fmt : NumFmt
  zp : Int
  rois : Nat
  h : Nat
  w : Nat
  chans : Nat
  mean : List F32
  gain : List F32
  deriving DecidableEq, Repr

/-- The elements of one rectangle. -/
def rectElems (o : OutCfg) (p : Nat → Nat → List F32) (q : Nat × Nat × Nat × Nat) : List (Nat × Bool) :=
  (List.range o.h).flatMap (fun oy => (List.range o.w).flatMap (fun ox =>
    let x := resizeAt ox q.2.2.1 o.w q.1
    let y := resizeAt oy q.2.2.2 o.h q.2.1
    (List.range o.chans).map (fun c =>
      outElem o.fmt o.zp (fmul (fsub (bilinear p c x y) (o.mean.getD c f0)) (o.gain.getD c f0)))))

/-- The tensor of an image; without an ROI table, ROI 0 is the whole frame. -/
def imageTensor (o : OutCfg) (w h : Nat) (p : Nat → Nat → List F32) (roi : Option Bytes) : TensorOut :=
  let rect : Nat → Option (Nat × Nat × Nat × Nat) := fun r =>
    match roi with
    | none => if r = 0 then some (0, 0, w, h) else none
    | some t => roiRect w h (roiEntry t r)
  let want : Nat → Bool := fun r => match roi with | none => false | some t => (le (roiEntry t r) 0 2).testBit 0
  let blank := List.replicate (o.h * o.w * o.chans) (zeroElem o.fmt o.zp, false)
  let es := (List.range o.rois).flatMap (fun r => match rect r with | none => blank | some q => rectElems o p q)
  { data := elemBytes o.fmt (es.map (fun e => e.1))
    valid := ((List.range o.rois).map (fun r => b2n (rect r).isSome * 2 ^ r)).sum
    points := 0
    clipped := (es.filter (fun e => e.2)).length
    empties := ((List.range o.rois).filter (fun r => want r && (rect r).isNone)).length
    skips := 0 }

/-! ### Lidar (R223, R230, R231) -/

/-- A field of the point-record descriptor. -/
structure PrField where
  on : Bool
  type : Nat
  off : Nat
  scale : F32
  deriving DecidableEq, Repr

/-- Bytes of a field TYPE. -/
def prSize (t : Nat) : Nat := match t with | 0 => 1 | 1 => 2 | 2 => 2 | _ => 4

/-- The raw value of a field as 32 bits: FRAME_ID. -/
def PrField.raw (f : PrField) (r : Bytes) : Nat :=
  let v := le r f.off (prSize f.type)
  if f.type = 1 then uint 32 (sint 16 v) else v

/-- A field holds zero: a floating-point zero of either sign too. -/
def PrField.isZero (f : PrField) (r : Bytes) : Bool :=
  let v := le r f.off (prSize f.type)
  decide ((if f.type = 5 then v % 2 ^ 31 else v) = 0)

/-- A field scaled. -/
def PrField.value (f : PrField) (r : Bytes) : F32 :=
  let v := le r f.off (prSize f.type)
  let x : F32 := match f.type with
    | 1 => fofInt (sint 16 v)
    | 3 => fofInt (sint 32 v)
    | 5 => BitVec.ofNat 32 v
    | _ => fofNat v
  fmul x f.scale

/-- The records of a payload. -/
def prRecords (off size : Nat) (b : Bytes) : List Bytes :=
  (List.range ((b.length - off) / size)).map (fun i => slice b (off + i * size) size)

/-- The bounds of a lidar box: for x, y and z the least and the greatest value. -/
def boxBounds (e : Bytes) : List (F32 × F32) :=
  let f : Nat → F32 := fun o => BitVec.ofNat 32 (le e o 4)
  [(f 4, f 8), (f 12, f 16), (f 20, f 24)]

/-- A box has a NaN bound, or a minimum greater than its maximum. -/
def boxBad (e : Bytes) : Bool := (boxBounds e).any (fun b => fisNan b.1 || fisNan b.2 || flt b.2 b.1)

/-- A point lies inside a box, bounds inclusive; a coordinate that the stream lacks lies inside. -/
def boxHolds (e : Bytes) (p : List (Option F32)) : Bool :=
  (List.zip (boxBounds e) p).all (fun x => match x.2 with
    | none => true
    | some v => fle x.1.1 v && fle v x.1.2)

/-- The tensor of a lidar sample of at most `rows` rows. -/
def lidarTensor (o : OutCfg) (rows : Nat) (fs : List PrField) (recs : List Bytes) (roi : Option Bytes) : TensorOut :=
  let fld : Nat → Option PrField := fun i => (fs[i]?).filter (fun f => f.on)
  let on := (List.range o.rois).filter (fun r => match roi with
    | none => false
    | some t => (le (roiEntry t r) 0 2).testBit 0)
  let entry : Nat → Bytes := fun r => match roi with | none => [] | some t => roiEntry t r
  let good := on.filter (fun r => !boxBad (entry r))
  let xyz : Bytes → List (Option F32) := fun r => (List.range 3).map (fun i => (fld i).map (fun f => f.value r))
  let valid : Bytes → Bool := fun r => match fld 7 with | none => true | some f => !f.isZero r
  let live := recs.filter valid
  let odd : Bytes → Bool := fun r => (xyz r).any (fun v => match v with | none => false | some x => fbad x)
  let kept := (live.filter (fun r => !odd r)).filter (fun r =>
    roi.isNone || good.any (fun b => boxHolds (entry b) (xyz r)))
  let es := kept.flatMap (fun r =>
    ((List.range 6).filterMap fld).map (fun f => outElem o.fmt o.zp (f.value r)))
  let blank := List.replicate ((rows - kept.length) * o.chans) (zeroElem o.fmt o.zp)
  { data := elemBytes o.fmt (es.map (fun e => e.1) ++ blank)
    valid := (good.map (fun r => 2 ^ r)).sum + b2n (roi.isNone)
    points := kept.length
    clipped := (es.filter (fun e => e.2)).length
    empties := on.length - good.length
    skips := (live.filter odd).length }

/-! ### The tensor header (Table 09-5) -/

/-- A tensor header's fields. -/
structure TensorHdr where
  num : Nat
  stream : Nat
  flags : Nat
  tick : Nat
  stamp : Nat
  uncert : Nat
  valid : Nat
  ts : Nat
  src : Nat
  version : Nat
  w : Nat
  h : Nat
  points : Nat
  clipped : Nat
  reason : Nat
  deriving DecidableEq, Repr

/-- The 64 bytes of a tensor header. -/
def TensorHdr.bytes (x : TensorHdr) : Bytes :=
  leBytes 4 x.num ++ leBytes 2 x.stream ++ leBytes 2 x.flags ++ leBytes 8 x.tick ++ leBytes 4 x.stamp ++
    leBytes 2 x.uncert ++ leBytes 2 x.valid ++ leBytes 4 x.ts ++ leBytes 4 x.src ++ leBytes 4 x.version ++
    leBytes 2 x.w ++ leBytes 2 x.h ++ leBytes 4 x.points ++ leBytes 4 x.clipped ++ leBytes 1 x.reason ++ zeros 15

end Sys2Proof.Machine
end

