-- ==== Sys2Proof/Machine/Ingest.lean ====
section
/-!
DEFINITION. Sensor ingest (chapter 9): packets into samples, corrupt samples and substitutes, tensor
rings, canary gaps (R313), and decode offload.
-/

namespace Sys2Proof.Machine

open Sys2Proof

/-! ### Configuration of a stream (R240) -/

/-- SAMPLING of a stream. -/
def State.sampling (s : State) (st : Nat) : Nat := s.fld (ingA st 0xC) 4 2
/-- MAX_W and MAX_H. -/
def State.maxW (s : State) (st : Nat) : Nat := s.fld (ingA st 0x10) 12 0
def State.maxH (s : State) (st : Nat) : Nat := s.fld (ingA st 0x10) 28 16
/-- REC_OFFSET and REC_SIZE. -/
def State.recOff (s : State) (st : Nat) : Nat := s.fld (ingA st 0x40) 26 16
def State.recSize (s : State) (st : Nat) : Nat := s.fld (ingA st 0x40) 8 0
/-- MAX_POINTS. -/
def State.maxPoints (s : State) (st : Nat) : Nat := s.fld (ingA st 0x84) 18 0

/-- Role `i` of the point-record descriptor. -/
def State.prField (s : State) (st i : Nat) : PrField :=
  ⟨s.flag (ingA st (0x44 + 4 * i)) 31, s.fld (ingA st (0x44 + 4 * i)) 10 8, s.fld (ingA st (0x44 + 4 * i)) 7 0,
    s.rd (ingA st (0x64 + 4 * i))⟩

/-- How a stream's tensor is made. -/
def State.outCfg (s : State) (st : Nat) : OutCfg :=
  let z := s.fld (ingA st 0x1C) 15 8
  { fmt := s.streamFmt st
    zp := if s.streamFmt st = .i8 then sint 8 z else z
    rois := s.fld (ingA st 0x14) 28 24, h := s.fld (ingA st 0x14) 22 12, w := s.fld (ingA st 0x14) 10 0
    chans := if s.transport st = 3 then (s.lidarRoles st).length else if s.flag (ingA st 0xC) 7 then 1 else 3
    mean := (List.range 3).map (fun c => s.rd (ingA st (0x20 + 4 * c)))
    gain := (List.range 3).map (fun c => s.rd (ingA st (0x2C + 4 * c))) }

/-- A job is bound to the stream. -/
def State.streamBound (s : State) (st : Nat) : Bool := s.flag (ingA st 0xDC) 31

/-! ### Checks and completeness (R222, R223, R225, R226) -/

/-- The RFC 4175 segments of a sample. -/
def Sample.segs (x : Sample) : List LineSeg := x.pkts.flatMap (fun p => lineSegs (rtpOf p).body)
/-- The RFC 2435 packets of a sample. -/
def Sample.jpgs (x : Sample) : List Jpg := x.pkts.map (fun p => jpgOf (rtpOf p).body)
/-- The records of a lidar sample. -/
def State.records (s : State) (st : Nat) (x : Sample) : List Bytes :=
  x.pkts.flatMap (prRecords (s.recOff st) (s.recSize st))

/-- The reason for which a packet makes its sample corrupt; 0 for none. -/
def State.packetReason (s : State) (st : Nat) (x : Sample) (b : Bytes) : Nat :=
  match s.transport st with
  | 1 => if (lineSegs (rtpOf b).body).any (LineSeg.bad (s.sampling st) (s.maxW st) (s.maxH st)) then 2 else 0
  | 2 =>
    let j := jpgOf (rtpOf b).body
    if j.bad x.jpgs then 2 else if j.oversize (s.maxW st) (s.maxH st) then 3 else 0
  | _ =>
    if (b.length - s.recOff st) % s.recSize st ≠ 0 then 2
    else if s.maxPoints st < (s.records st x).length + (prRecords (s.recOff st) (s.recSize st) b).length then 6 else 0

/-- A sample takes a payload, or becomes corrupt by it. -/
def State.absorb (s : State) (st : Nat) (x : Sample) (b : Bytes) : Sample :=
  let r := if x.reason ≠ 0 then x.reason else s.packetReason st x b
  if r = 0 then { x with pkts := x.pkts ++ [b] } else { x with reason := r }

/-- An RTP sample is complete (R222). -/
def State.complete4 (s : State) (st : Nat) (x : Sample) : Bool :=
  x.marker &&
    (if s.transport st = 1 then framed (s.sampling st) (s.maxW st) (s.maxH st) x.segs
    else
      match (x.pkts.filter (fun p => (rtpOf p).marker)).getLast? with
      | none => false
      | some p => scanned x.jpgs (jpgOf (rtpOf p).body).stop)

/-- Fewer scan bytes than R226 allows. -/
def State.inflated (s : State) (st : Nat) (x : Sample) : Bool :=
  decide (s.transport st = 2) &&
    (match x.jpgs with
    | [] => false
    | j :: l => decide (((j :: l).map (fun i => i.scan.length)).sum < minScan j))

/-! ### Tensors -/

/-- Source width and height of a sample. -/
def State.sampleDims (s : State) (st : Nat) (x : Sample) : Nat × Nat :=
  if s.transport st = 1 then (s.maxW st, s.maxH st)
  else if s.transport st = 2 then
    match (if x.phase = .hosted then x.pkts.drop 1 else x.pkts) with
    | [] => (0, 0)
    | p :: _ => ((jpgOf (rtpOf p).body).w, (jpgOf (rtpOf p).body).h)
  else (0, 0)

/-- The pixels of a sample, as output channels (Table 09-3). -/
def State.samplePixels (s : State) (st : Nat) (x : Sample) : Nat → Nat → List F32 :=
  let grey := s.flag (ingA st 0xC) 7
  let m709 := s.flag (ingA st 0xC) 5
  let d := s.sampleDims st x
  if s.transport st = 1 then
    let samp := s.sampling st
    let raw : Nat → Nat → List Nat := pixelRaw samp x.segs
    fun i k =>
      let v := raw i k
      if samp = 0 then rgbOut grey m709 (fofNat (v.getD 0 0)) (fofNat (v.getD 1 0)) (fofNat (v.getD 2 0))
      else if samp ≤ 2 then
        yccOut grey m709 (s.flag (ingA st 0xC) 6) (pgBits samp) (v.getD 1 0) (v.getD 0 0) (v.getD 2 0)
      else
        let c := demosaic (s.fld (ingA st 0xC) 1 0) d.1 d.2 (fun a b => (raw a b).getD 0 0) i k
        rgbOut grey m709 (c 0) (c 1) (c 2)
  else if x.phase = .hosted then
    let planes := x.pkts.headD []
    let n := d.1 * d.2
    fun i k => yccOut grey false false 8 (le planes (k * d.1 + i) 1) (le planes (n + k * d.1 + i) 1)
      (le planes (2 * n + k * d.1 + i) 1)
  else
    let planes := Config.jpegDecode x.pkts d.1 d.2
    let ty := match x.pkts with | [] => 0 | p :: _ => (jpgOf (rtpOf p).body).ty
    fun i k => yccOut grey false false 8 (le planes (jpgLuma d.1 i k) 1) (le planes (jpgChroma ty d.1 d.2 0 i k) 1)
      (le planes (jpgChroma ty d.1 d.2 1 i k) 1)

/-- Pre-processing of a good sample (R229). -/
def State.makeTensor (s : State) (st : Nat) (x : Sample) : TensorOut :=
  let roi := x.roi.map (fun r => r.2)
  if s.transport st = 3 then
    lidarTensor (s.outCfg st) (s.maxPoints st) ((List.range 8).map (s.prField st)) (s.records st x) roi
  else
    let d := s.sampleDims st x
    imageTensor (s.outCfg st) d.1 d.2 (s.samplePixels st x) roi

/-- Flags that a sample's own tensor carries. -/
def Sample.flags (x : Sample) : Nat :=
  8 * b2n (decide (x.phase = .hosted)) + 16 * b2n x.canary + 32 * b2n x.roi.isNone

/-- ROI_VERSION of a sample. -/
def Sample.version (x : Sample) : Nat := match x.roi with | none => 0 | some r => r.1

/-- The bytes of a good sample's tensor with its header. -/
def State.goodTensor (s : State) (st : Nat) (x : Sample) (o : TensorOut) : Bytes :=
  let d := s.sampleDims st x
  let h : TensorHdr := ⟨x.num, st, x.flags, x.tick, x.stamp, x.uncert, o.valid, x.ts, x.num, x.version, d.1, d.2,
    o.points, o.clipped, 0⟩
  h.bytes ++ o.data

/-- The elements of a neutral tensor (R228). -/
def State.neutralData (s : State) (st : Nat) : Bytes :=
  elemBytes (s.streamFmt st) (List.replicate (s.streamElems st) (zeroElem (s.streamFmt st) (s.outCfg st).zp))

/-- The source size that a neutral tensor's header states: 0 for lidar, the frame of RFC 4175, and of an RFC 2435
sample what its packets said. Without such a packet there is no source size; it is free. -/
def State.neutralDims (s : State) (st : Nat) (x : Sample) : Nat × Nat :=
  if s.transport st = 2 && x.pkts.isEmpty then (Config.freeNat (s.free + 1), Config.freeNat (s.free + 2))
  else s.sampleDims st x

/-- The header of a neutral tensor for a sample. Its ROI_VALID is not stated and is free. -/
def State.neutralHdr (s : State) (st : Nat) (x : Sample) (flags reason : Nat) : TensorHdr :=
  let d := s.neutralDims st x
  ⟨x.num, st, flags + x.flags, x.tick, x.stamp, x.uncert, Config.freeNat s.free, x.ts, 0, x.version, d.1, d.2, 0, 0,
    reason⟩

/-- A neutral tensor for a sample (R228). -/
def State.neutralTensor (s : State) (st : Nat) (x : Sample) (flags reason : Nat) : Bytes :=
  (s.neutralHdr st x flags reason).bytes ++ s.neutralData st

/-- A substitute: the last-good tensor with the sample's number, stamp and reason, else a neutral one
(R227). -/
def State.subTensor (s : State) (st : Nat) (x : Sample) (reason : Nat) : Bytes :=
  match (s.strm st).good with
  | none => s.neutralTensor st x 3 reason
  | some g =>
    let b := splice g 0 (leBytes 4 x.num)
    let b := splice b 6 (leBytes 2 (setBitN (le g 6 2) 0 ||| 16 * b2n x.canary))
    let b := splice b 8 (leBytes 8 x.tick ++ leBytes 4 x.stamp ++ leBytes 2 x.uncert)
    splice (splice b 28 (leBytes 4 (le g 0 4))) 48 (leBytes 1 reason)

/-! ### The tensor ring (R234) -/

/-- The two newest of a list of slots. -/
def newestTwo (l : List (Nat × RingSlot)) : List Nat :=
  ((l.foldl (fun a x => insertBy (fun u v => decide (v.2.stamp ≤ u.2.stamp)) x a) []).take 2).map (fun x => x.1)

/-- The slots of a ring that hold samples. -/
def Strm.held (x : Strm) : List (Nat × RingSlot) :=
  (List.range x.slots.length).filterMap (fun i => (x.slots.getD i none).map (fun r => (i, r)))

/-- BIND_LAG in ns. -/
def State.bindLag (s : State) : Nat := s.fld 0x300 13 0 * 1000

/-- The slot for sample `num` with stamp `t`. -/
def State.chooseSlot (s : State) (st num t : Nat) : Option Nat :=
  let x := s.strm st
  let early := x.held.filter (fun e => decide (e.2.num < num))
  let keep :=
    (match x.bound with | none => [] | some i => [i]) ++
    (if s.det then
      (early.filter (fun e => decide (t ≤ e.2.stamp + s.bindLag))).map (fun e => e.1) ++
        newestTwo (early.filter (fun e => decide (e.2.stamp + s.bindLag < t)))
    else newestTwo early)
  let rest := (List.range x.slots.length).filter (fun i => !keep.contains i)
  match rest.find? (fun i => (x.slots.getD i none).isNone) with
  | some i => some i
  | none =>
    let age : Nat → Nat := fun i => match x.slots.getD i none with | none => 0 | some r => r.stamp
    bestBy (fun a b => decide (age a < age b)) rest

/-- Takes a slot; processing that its sample still needs is abandoned. -/
def State.takeSlot (s : State) (st i : Nat) (r : RingSlot) : State :=
  let x := s.strm st
  let busy : Sample → Bool := fun y => y.slot == some i
  let s := if x.wait.any busy then (s.tlySync 7).count (ingA st 0xC8) else s
  s.setStrm st { x with slots := setAt x.slots i (some r), wait := x.wait.filter (fun y => !busy y) }

/-- Writes a tensor with its header into slot `i`; RING_SLOTS is the last-good slot. -/
def State.slotWrite (s : State) (st i : Nat) (b : Bytes) : State :=
  match (s.strm st).ring[i]? with
  | none => s
  | some r => s.wrBytes r.die r.base b

/-- A tensor or substitute is written for a sample: stage 2 (Table 13-2). -/
def State.wdPre (s : State) (st : Nat) (x : Sample) : State :=
  if x.done ≠ 0 && decide (x.done + s.fld (safA 0xC) 15 0 * 1000 < s.clk.t) then
    (s.wdMiss 2).wdFault 2 st (s.fld (safA 4) 7 4)
  else s

/-- Substitutes a corrupt sample (R227). -/
def State.substitute (s : State) (st : Nat) (x : Sample) (reason : Nat) : State :=
  let s := s.put (ingA st 0xA0) 31 24 reason
  if x.canary then
    let b := s.subTensor st x reason
    let s := s.setSst st { s.sst st with tensor := some (b, s.clk.t) }
    ((s.event (ingA st 0xA0) 0 (ingA st 0xA8)).wdPre st x).bump.bump.bump
  else
    match s.chooseSlot st x.num x.stamp with
    | none => s.event (ingA st 0xA0) 3 (ingA st 0xB4)
    | some i =>
      let b := s.subTensor st x reason
      let s := (s.takeSlot st i ⟨x.num, x.stamp, true, s.clk.t⟩).slotWrite st i b
      ((s.event (ingA st 0xA0) 0 (ingA st 0xA8)).wdPre st x).bump.bump.bump

/-! ### Gaps (R313) -/

/-- The first frame-tick edge after `t` (R17). -/
def State.frameEdge (s : State) (t : Nat) : Nat :=
  let c := s.clk
  let fd := max 1 (s.fld (timA 0x100) 26 16)
  let first := c.nextEdge + (fd - 1 - (c.nextTick + fd - 1) % fd) * c.period
  if t < c.lastEdge && c.tick % fd = 0 then c.lastEdge
  else if t < first then first
  else first + ((t - first) / (fd * c.period) + 1) * (fd * c.period)

/-- The tick that contains an instant. -/
def State.tickOf (s : State) (t : Nat) : Nat :=
  let c := s.clk
  if c.nextEdge ≤ t then c.nextTick + (t - c.nextEdge) / c.period
  else if c.lastEdge ≤ t then c.tick
  else c.tick - cdiv (c.lastEdge - t) c.period

/-- A presentation is deferred at this gap. -/
def State.gapDefers (s : State) (st t : Nat) : Bool :=
  decide (s.frameEdge t - t < s.fld (safA 0x18) 15 0 * 1000) ||
    !s.runEntries.any (fun e => e.start && decide (e.kind = 1)) ||
    !s.jobs.any (fun j => j.binds.any (fun b => b.kind == 5 && b.stream == st))

/-- A sample that starts. -/
def Sample.start (ts : Nat) : Sample :=
  { num := 0, ts := ts, stamp := 0, uncert := 0, tick := 0, last := 0, done := 0, seqs := [], marker := false,
    pkts := [], reason := 0, phase := .assembling, canary := false, roi := none, slot := none }

/-- The sequence number of an RTP packet; extended for RFC 4175. -/
def State.rtpSeq (s : State) (st : Nat) (r : Rtp) : Nat :=
  if s.transport st = 1 then be r.body 0 2 * 65536 + r.seq else r.seq

/-- FRAME_ID of a payload's first record; none without a whole record. -/
def State.frameId (s : State) (st : Nat) (b : Bytes) : Option Nat :=
  ((prRecords (s.recOff st) (s.recSize st) b).head?).map (fun r => (s.prField st 6).raw r)

/-- An RTP packet that stream `st` does not take: version, payload type, SSRC, or a sequence number of the sample
`x` again (R220). -/
def State.rtpForeign (s : State) (st : Nat) (r : Rtp) (x : Option Sample) : Bool :=
  decide (r.version ≠ 2) || decide (r.pt ≠ s.fld (ingA st 8) 6 0) ||
    (s.flag (ingA st 8) 8 && decide (r.ssrc ≠ (s.rd (ingA st 4)).toNat)) ||
    (match x with | none => false | some y => y.ts == r.ts && y.seqs.contains (s.rtpSeq st r))

/-- An RTP sample whose packets are all there, with the reason for which it is corrupt (R222, R226). -/
def State.ripe (s : State) (st : Nat) (x : Sample) : Bool :=
  decide (s.transport st ≠ 3) && x.marker && (decide (x.reason ≠ 0) || s.complete4 st x)

/-- The golden packets are assembled (R220, R222, R225, R237) until they close the sample; foreign ones count.
DEDUCED: a packet behind the sample's end belongs to no sample. -/
def State.goldenIn (s : State) (st : Nat) : List Bytes → Sample → State × Sample
  | [], x => (s, x)
  | b :: l, x =>
    let r := rtpOf b
    let rtp := decide (s.transport st ≠ 3)
    if rtp && s.rtpForeign st r (some x) then State.goldenIn (s.event (ingA st 0xA0) 1 (ingA st 0xAC)) st l x
    else
      let ts := if rtp then r.ts else (s.frameId st b).getD x.ts
      if ts ≠ x.ts then (s, x)
      else
        let x := s.absorb st { x with seqs := if rtp then s.rtpSeq st r :: x.seqs else [], marker := x.marker || (rtp && r.marker) } b
        if s.ripe st x then (s, x) else State.goldenIn s st l x

/-- What the golden sample starts from: the timestamp or FRAME_ID of its first packet that is not foreign. -/
def State.goldenTs (s : State) (st : Nat) (l : List Bytes) : Nat :=
  if s.transport st = 3 then (l.findSome? (s.frameId st)).getD 0
  else match l.find? (fun b => !s.rtpForeign st (rtpOf b) none) with | none => 0 | some b => (rtpOf b).ts

/-- A sample goes to the host instead of the decoder (R238). -/
def State.offloads (s : State) (st : Nat) : Bool :=
  s.flag (ingW 4) 16 && s.flag (ingA st 0) 25 && decide (s.transport st = 2)

/-- Where a good, complete sample waits. -/
def State.waitPhase (s : State) (st : Nat) : SamplePhase := if s.offloads st then .offloaded 0 else .waiting

/-- Presents the golden sample to the stream's path (R237): it waits for its turn like any other sample, or is
corrupt at once. -/
def State.present (s : State) (st t u : Nat) (g : Golden) : State :=
  let v := match (s.strm st).roi with | none => 0 | some r => r.1
  let s := (s.setSst st { s.sst st with canary := some (g, t), tensor := none }).put (safSt st 8) 0 0 1
  let p := s.goldenIn st g.packets { Sample.start (s.goldenTs st g.packets) with
    stamp := t, uncert := u, tick := s.tickOf t, last := s.clk.ref, done := s.clk.t, canary := true
    roi := some (v, g.roi) }
  let s := p.1
  let x := p.2
  let r := if x.reason ≠ 0 then x.reason
    else if s.transport st = 3 then 0
    else if !s.complete4 st x then 1
    else if s.inflated st x then 4 else 0
  if r = 0 then s.setStrm st { s.strm st with wait := (s.strm st).wait ++ [{ x with phase := s.waitPhase st }] }
  else s.substitute st x r

/-- A stream's gap opens at stamp `t`. -/
def State.gapOpen (s : State) (st t u : Nat) : State :=
  let n := min 255 (s.fld (safSt st 8) 23 16 + 1)
  let s := s.put (safSt st 8) 23 16 n
  match (s.sst st).golden with
  | none => s
  | some g =>
    if !s.flag (safA 0x18) 31 || !s.flag (safSt st 0) 30 || n < s.fld (safSt st 0) 7 0 || (s.sst st).canary.isSome then s
    else if s.gapDefers st t then s.canaryDefer st
    else s.present st t u g

/-! ### The end of a sample -/

/-- A good, complete sample gets its slot and waits for its turn (R224, R234). -/
def State.queueSample (s : State) (st : Nat) (x : Sample) : State :=
  match s.chooseSlot st x.num x.stamp with
  | none => s.event (ingA st 0xA0) 3 (ingA st 0xB4)
  | some i =>
    let s := s.takeSlot st i ⟨x.num, x.stamp, false, 0⟩
    let y := { x with slot := some i, phase := s.waitPhase st }
    s.setStrm st { s.strm st with wait := (s.strm st).wait ++ [y] }

/-- A sample closes or completes: it is numbered, stage 1 sees it, it is discarded, substituted or
queued, and the stream's gap opens. -/
def State.sampleDone (s : State) (st : Nat) (x : Sample) : State :=
  let rtp := decide (s.transport st ≠ 3)
  let n := (s.strm st).num + 1
  let x := { x with num := n, done := s.clk.t, reason := if x.reason = 0 && s.inflated st x then 4 else x.reason }
  let s := s.setStrm st { s.strm st with
    cur := none, num := n, closed := if rtp then x.ts :: (s.strm st).closed else (s.strm st).closed }
  let s := ((s.wr (ingA st 0xD0) (BitVec.ofNat 32 n)).count (ingA st 0xA4)).wdIngest st
  let s :=
    if !s.streamBound st || s.loss.isSome then
      (if x.reason = 0 then s else s.put (ingA st 0xA0) 31 24 x.reason).event (ingA st 0xA0) 2 (ingA st 0xB0)
    else if x.reason ≠ 0 then s.substitute st x x.reason
    else s.queueSample st x
  s.gapOpen st x.stamp x.uncert

/-- The current sample is closed before it is complete, or times out (R222, R223). -/
def State.closeSample (s : State) (st : Nat) (x : Sample) : State :=
  s.sampleDone st { x with reason := if x.reason = 0 && s.transport st ≠ 3 then 1 else x.reason }

/-! ### Packets (R220, R221) -/

/-- A matched packet is foreign (R220). -/
def State.foreign (s : State) (st : Nat) (p : Packet) : Bool :=
  let r := rtpOf p.payload
  let x := s.strm st
  p.fragment || p.badSum ||
    (decide (s.transport st ≠ 3) && (s.rtpForeign st r x.cur || x.closed.contains r.ts))

/-- A packet that is not foreign joins its sample. -/
def State.assemble (s : State) (st stamp u : Nat) (b : Bytes) : State :=
  let r := rtpOf b
  let rtp := decide (s.transport st ≠ 3)
  let cur := (s.strm st).cur
  let ts := if rtp then r.ts else (s.frameId st b).getD (match cur with | some x => x.ts | none => 0)
  let s := match cur with
    | none => s
    | some x => if x.ts = ts then s else s.closeSample st x
  let x := ((s.strm st).cur).getD (Sample.start ts)
  let x := { x with
    stamp := stamp, uncert := u, tick := s.tickOf stamp, last := s.clk.ref
    seqs := if rtp then s.rtpSeq st r :: x.seqs else [], marker := x.marker || (rtp && r.marker), roi := (s.strm st).roi }
  let full := decide (x.reason = 0) && decide (ingRoom < s.ingBytes + b.length)
  let s := if full then s.event (ingW 8) 0 (ingW 0xC) else s
  let x := if full then { x with reason := 7 } else s.absorb st x b
  let s := s.setStrm st { s.strm st with cur := some x }
  if rtp && (if x.reason = 0 then s.complete4 st x else r.marker) then s.sampleDone st x else s

/-- A matched packet: stamped, logged, checked and assembled (R221). -/
def State.sensorIn (s : State) (st stamp u : Nat) (p : Packet) : State :=
  let u := min uncertMax u
  let s := ((s.tally 7 0x20 st 1).stamped u).slogAdd 0x04 0 st stamp u p.payload
  if s.foreign st p then s.event (ingA st 0xA0) 1 (ingA st 0xAC) else (s.assemble st stamp u p.payload).ingQueue

/-- Stream `st` receives. -/
def State.streamOn (s : State) (st : Nat) : Bool := s.flag (ingA st 0) 31 && decide (s.transport st ≠ 0)

/-- SENSOR_PACKET: a packet that matches enabled stream `st`. Network input is ignored in replay (R187). -/
def execSensorPacket (st stamp uncert : Nat) (p : Packet) (s : State) : Host.Outcome State Fault Refusal :=
  guardI (decide (st < 48)) (
    if s.isReady && s.streamOn st && !s.inReplay then s.sensorIn st stamp uncert p else s)

/-- SAMPLE_TIMEOUT: SAMPLE_TIMEOUT_US after the current sample's latest packet (R222, R223, R225). -/
def execSampleTimeout (st : Nat) (s : State) : Host.Outcome State Fault Refusal :=
  guardI (decide (st < 48)) (
    match (s.strm st).cur with
    | none => s
    | some x => s.atRef (x.last + s.fld (ingA st 0x18) 15 0 * 1000) (fun s => (s.closeSample st x).ingQueue))

/-! ### Offload (R238, R239) -/

/-- A packet list (Table 14-4). -/
def packetBytes (l : List Bytes) : Bytes := l.flatMap (fun b => padTo 8 (leBytes 4 b.length ++ b))

/-- Rewrites the samples of a stream that satisfy `f`. -/
def State.updSample (s : State) (st : Nat) (f : Sample → Bool) (g : Sample → Sample) : State :=
  s.setStrm st { s.strm st with wait := mapIf f g (s.strm st).wait }

/-- The waiting offload buffer: the oldest of the lowest ring. -/
def State.offloadBuf (s : State) : Option (Nat × Inflight) :=
  (s.hif.rings.filterMap (fun e => (e.2.fl.find? (fun d => d.begun && d.op == 0x39)).map (fun d => (e.1, d)))).head?

/-- Complete samples of all streams in phase `f`, in the order of their stamps (R224). -/
def State.sampleQueue (s : State) (f : SamplePhase → Bool) : List (Nat × Sample) :=
  (s.comp.strm.flatMap (fun e => (e.2.wait.filter (fun x => f x.phase)).map (fun x => (e.1, x)))).foldl (fun l x =>
    insertBy (fun a b => decide (a.2.stamp < b.2.stamp) || (a.2.stamp == b.2.stamp && decide (a.1 ≤ b.1))) x l) []

/-- Posts the next sample that goes to the host into the next buffer. A buffer that cannot hold it
completes with LENGTH_EXCEEDS. -/
def State.offloadOne (s : State) : State :=
  match (s.sampleQueue (fun p => p == .offloaded 0)).head?, s.offloadBuf with
  | some (st, x), some (r, d) =>
    let l := packetBytes x.pkts
    let b := leBytes 2 st ++ zeros 2 ++ leBytes 4 x.num ++ leBytes 4 x.stamp ++ leBytes 4 x.pkts.length ++
      leBytes 4 l.length ++ zeros 12 ++ l
    if le d.bytes 12 4 < b.length then s.complete r d.num .lengthExceeds
    else
      let s := (s.hostData (le d.bytes 16 8) b).complete r d.num .success
      let s := s.updSample st (fun y => y.num == x.num && y.canary == x.canary) (fun y => { y with phase := .offloaded (s.clk.ref + 1) })
      (s.event (ingA st 0xA0) 6 (ingA st 0xC0)).ingQueue
  | _, _ => s

/-- Posts what can be posted. -/
def State.offloadAll (s : State) : State :=
  (List.range ((s.sampleQueue (fun p => p == .offloaded 0)).length + 1)).foldl (fun s _ => s.offloadOne) s

/-- OFFLOAD_POST: a buffer for one offloaded sample (Table 14-4). -/
def execOffloadPost (r : Nat) (s : State) : Host.Outcome State Fault Refusal :=
  guardI (decide (r < 8192)) (s.withDesc r 0x39 (fun s _ => s.offloadAll))

/-- SAMPLE_PROCESS_START: the decoder and pre-processor take the next complete sample, and samples for the
host are posted (R224, R238). -/
def execSampleProcessStart (s : State) : Host.Outcome State Fault Refusal :=
  .next (
    let s := s.offloadAll
    match (s.sampleQueue (fun p => p == .waiting)).head? with
    | none => s
    | some (st, x) =>
      (s.tlySync 7).updSample st (fun y => y.num == x.num && y.canary == x.canary) (fun y => { y with phase := .processing }))

/-! ### Tensors complete, and what fails -/

/-- Takes a sample out of those that wait. -/
def State.dropSample (s : State) (st : Nat) (x : Sample) : State :=
  s.setStrm st { s.strm st with wait := (s.strm st).wait.filter (fun y => !(y.num == x.num && y.canary == x.canary)) }

/-- The sample of a stream in the pre-processor. -/
def State.inProcess (s : State) (st : Nat) : Option Sample :=
  (s.strm st).wait.find? (fun x => x.phase == .processing || x.phase == .hosted)

/-- Counts what pre-processing met. -/
def State.countTensor (s : State) (st : Nat) (o : TensorOut) : State :=
  let s := if o.clipped = 0 then s else (s.raise (ingA st 0xA0) 5).countN (ingA st 0xBC) o.clipped
  let s := if o.empties = 0 then s else (s.raise (ingA st 0xA0) 4).countN (ingA st 0xB8) o.empties
  s.countN (ingA st 0xC4) o.skips

/-- A good tensor stands in its slot and is copied to the last-good slot (R235). -/
def State.tensorDone (s : State) (st i : Nat) (x : Sample) (b : Bytes) : State :=
  let y := s.strm st
  let s := (s.slotWrite st i b).slotWrite st y.slots.length b
  let s := s.setStrm st { y with slots := setAt y.slots i (some ⟨x.num, x.stamp, true, s.clk.t⟩), good := some b }
  s.wr (ingA st 0xD4) (BitVec.ofNat 32 x.num)

/-- TENSOR_COMPLETE: the stream's sample in the pre-processor becomes a tensor (R229, R235, R237). -/
def execTensorComplete (st : Nat) (s : State) : Host.Outcome State Fault Refusal :=
  guardI (decide (st < 48)) (
    match s.inProcess st with
    | none => s
    | some x =>
      let o := s.makeTensor st x
      let b := s.goodTensor st x o
      let s := (((s.tlySync 7).dropSample st x).countTensor st o).wdPre st x
      if x.canary then s.setSst st { s.sst st with tensor := some (b, s.clk.t) }
      else
        match x.slot with
        | none => s.ingQueue
        | some i => (s.tensorDone st i x b).ingQueue)

/-- A sample's slot is abandoned and it is substituted (R226, R227). -/
def State.sampleFails (s : State) (st : Nat) (x : Sample) (reason : Nat) : State :=
  let s := (s.tlySync 7).dropSample st x
  let y := s.strm st
  let s := match x.slot with
    | none => s
    | some i => s.setStrm st { y with slots := setAt y.slots i none }
  (s.substitute st x reason).ingQueue

/-- DECODE_ERROR: the JPEG decoder fails on the stream's sample (Table 09-2, reason 5). -/
def execDecodeError (st : Nat) (s : State) : Host.Outcome State Fault Refusal :=
  guardI (decide (st < 48)) (
    match (s.strm st).wait.find? (fun x => x.phase == .processing) with
    | none => s
    | some x => if s.transport st = 2 then s.sampleFails st x 5 else s)

/-- The sample `num` of a stream that stands at the host, with the reference time at which its time
is over; a golden sample has no number, 0 (R237). -/
def State.atHost (s : State) (st num : Nat) : Option (Sample × Nat) :=
  ((s.strm st).wait.find? (fun x => x.num == num)).bind (fun x =>
    match x.phase with
    | .offloaded (r + 1) => some (x, r + s.fld (ingA st 0x18) 31 16 * 100000)
    | _ => none)

/-- HOST_DECODE_TIMEOUT: HOST_TIMEOUT passes without a frame (R239). -/
def execHostDecodeTimeout (st num : Nat) (s : State) : Host.Outcome State Fault Refusal :=
  guardI (decide (st < 48)) (
    match s.atHost st num with
    | none => s
    | some (x, due) => s.atRef due (fun s => s.sampleFails st x 8))

/-- DECODED: the host returns the planes of a sample (R239, Table 14-4). -/
def execDecoded (r : Nat) (planes : Option Bytes) (s : State) : Host.Outcome State Fault Refusal :=
  guardI (decide (r < 8192)) (s.withDesc r 0x3A (fun s d =>
    let st := le d.bytes 8 1
    match s.atHost st (le d.bytes 24 4) with
    | none => s.complete r d.num .offloadExpired
    | some (x, due) =>
      let m := s.sampleDims st x
      if due < s.clk.ref then (s.sampleFails st x 8).complete r d.num .offloadExpired
      else if le d.bytes 12 4 ≠ 3 * m.1 * m.2 then (s.sampleFails st x 9).complete r d.num .lengthExceeds
      else
        match planes with
        | none => s.complete r d.num .hostMemoryFault
        | some b =>
          let s := s.updSample st (fun y => y.num == x.num && y.canary == x.canary)
            (fun y => { y with phase := .hosted, pkts := fitTo (3 * m.1 * m.2) b :: y.pkts })
          s.complete r d.num .success))

/-- PREPROCESS_WATCHDOG_EXPIRY: PRE_MAX_US after a sample's completion without a tensor or substitute
(Table 13-2, stage 2). -/
def execPreprocessWatchdogExpiry (st : Nat) (s : State) : Host.Outcome State Fault Refusal :=
  guardI (decide (st < 48)) (
    match (s.strm st).wait.find? (fun x => decide (x.done ≠ 0)) with
    | none => s
    | some x => s.atT (x.done + s.fld (safA 0xC) 15 0 * 1000 + 1) (fun s =>
        let s := s.updSample st (fun y => y.num == x.num && y.canary == x.canary) (fun y => { y with done := 0 })
        (s.wdMiss 2).wdFault 2 st (s.fld (safA 4) 7 4)))

end Sys2Proof.Machine
end

