-- ==== Sys2Proof/Machine/Receive.lean ====
section
/-!
DEFINITION. Host CAN frames, and what the pilot cores do with received CAN and Ethernet frames:
stamping, logging, feedback and delivery to rings (R269, R284, R291, R292).
-/

namespace Sys2Proof.Machine

open Sys2Proof

/-! ### Feedback (R269) -/

/-- Bytes of a feedback field by type: int16, int32 or fp32 (Table 11-5). -/
def fbLen (t : Nat) : Nat := if t = 0 then 2 else 4

/-- A feedback field in FP32; none beyond the frame's length. -/
def fbField (b : Bytes) (t off : Nat) : Option F32 :=
  if off + fbLen t ≤ b.length then
    let v := le b off (fbLen t)
    some (if t = 0 then fofInt (sint 16 v) else if t = 1 then fofInt (sint 32 v) else BitVec.ofNat 32 v)
  else none

/-- A field times its scale; none where it is absent, NaN or infinite. -/
def fbScaled (b : Bytes) (t off : Nat) (scale : F32) : Option F32 :=
  ((fbField b t off).map (fun x => fmul x scale)).filter (fun x => !fbad x)

/-- Position and velocity of axis `a` in the bytes of a frame. -/
def State.fbValues (s : State) (a : Nat) (b : Bytes) : Option (F32 × F32) :=
  let f := s.rd (ctlA a 0xC)
  match fbScaled b (bits f 21 20) (bits f 15 8) (s.fr a 0x10) with
  | none => none
  | some p =>
    if s.flag (ctlA a 4) 25 then
      (fbScaled b (bits f 23 22) (bits f 31 24) (s.fr a 0x14)).map (fun v => (p, s.per1 v))
    else some (p, f0)

/-- Axes whose feedback is matched: the enabled ones, and those that wait for a first valid frame to
become enabled (R259). -/
def State.fbAxes (s : State) : List Nat :=
  (List.range 64).filter (fun a => s.axOn a || !(s.ax a).enWait.isEmpty)

/-- A frame that matches the feedback sources of the axes `l`: it enters its window, or it is
discarded. A frame of a window already computed or passed is discarded uncounted (R433). -/
def State.feedback (s : State) (l : List Nat) (stamp : Nat) (b : Bytes) : State :=
  match l with
  | [] => s
  | [a] =>
    match s.fbValues a b with
    | none => s.count (ctlA a 0x124)
    | some (p, v) =>
      match s.fbWindow stamp with
      | none => s
      | some n => s.setAx a { s.ax a with fb := (s.ax a).fb ++ [⟨n, stamp, p, v⟩] }
  | l => l.foldl (fun s a => s.count (ctlA a 0x124)) s

/-! ### CAN -/

/-- The axes whose feedback a CAN frame is; remote frames match none (R291). -/
def State.canAxes (s : State) (c : Nat) (f : CanFrame) : List Nat :=
  if f.rtr then []
  else s.fbAxes.filter (fun a =>
    let w := s.rd (ctlA a 4)
    bits w 31 30 == 1 && bits w 29 27 == c && w.toNat.testBit 26 == f.ide && s.fld (ctlA a 8) 28 0 == f.id)

/-- The 80-byte record of a received frame (Table 12-3). -/
def canRecord (c stamp uncert : Nat) (f : CanFrame) : Bytes :=
  let n := if f.rtr then 0 else f.data.length
  leBytes 4 (f.id + 2 ^ 29 * b2n f.ide + 2 ^ 30 * b2n f.fdf + 2 ^ 31 * b2n f.rtr) ++
    leBytes 4 (b2n f.brs + 2 * b2n f.esi + 16 * c) ++ leBytes 4 (stamp % 2 ^ 32) ++ leBytes 2 uncert ++
    leBytes 1 f.dlc ++ leBytes 1 n ++ (f.data.take n ++ zeros (64 - n))

/-- The record as the shift log holds it (R292). -/
def canLogged (c : Nat) (f : CanFrame) : Bytes :=
  (canRecord c 0 0 f).take (cdiv (16 + if f.rtr then 0 else f.data.length) 8 * 8)

/-- The first host filter that a frame matches: its ring (R291). -/
def State.canFilter (s : State) (c : Nat) (f : CanFrame) : Option Nat :=
  ((List.range 32).find? (fun i =>
    let w := s.rd (canA c (0x200 + 16 * i))
    let m := s.fld (canA c (0x204 + 16 * i)) 28 0
    w.toNat.testBit 31 && w.toNat.testBit 29 == f.ide && f.id &&& m == bits w 28 0 &&& m)).map
      (fun i => s.fld (canA c (0x208 + 16 * i)) 12 0)

/-- Delivers a record to a ring's oldest receive buffer; without one it is dropped (R337). -/
def State.deliver (s : State) (r : Nat) (b : Bytes) : State :=
  match (s.ring r).rx with
  | [] => s.dropEvent r
  | x :: l =>
    let s := s.hostData (x.addr + 80 * x.got) b
    let x := { x with got := x.got + 1, since := if x.got = 0 then s.clk.ref else x.since }
    let s := s.setRing r { s.ring r with rx := x :: l }
    if x.room ≤ x.got then s.rxDone r x else s

/-- The kernel handles a drained frame: stamp, log, axes, filters, in this order (R291). -/
def State.canIn (s : State) (c stamp uncert : Nat) (f : CanFrame) : State :=
  let u := min uncertMax uncert
  let s := (s.stamped u).slogAdd 0x05 0 c stamp u (canLogged c f)
  let l := s.canAxes c f
  let s := s.feedback l stamp f.data
  match s.canFilter c f with
  | some r => s.deliver r (canRecord c stamp u f)
  | none => if l.isEmpty then s.count (canA c 0x84) else s

/-- CAN_FIFO_DRAIN: the kernel drains the FIFO's oldest frames, one for each stamp (R291). -/
def execCanFifoDrain (c : Nat) (stamps : List (Nat × Nat)) (s : State) : Host.Outcome State Fault Refusal :=
  guardI (decide (c < 8)) (
    if s.inReplay then s
    else
      let l := (s.cn c).fifo
      let s := s.tlySync 7
      let s := s.setCn c { s.cn c with fifo := l.drop stamps.length }
      (l.zip stamps).foldl (fun s e => s.canIn c e.2.1 e.2.2 e.1) s)

/-- The frame that a CAN_TX record describes (Table 12-3). -/
def canFrameOf (b : Bytes) : CanFrame :=
  let w := le b 0 4
  let g := le b 4 4
  { id := w % 2 ^ 29, ide := w.testBit 29, fdf := w.testBit 30, brs := g.testBit 0, esi := g.testBit 1,
    rtr := w.testBit 31, dlc := le b 14 1, data := slice b 16 (le b 15 1) }

/-- The record checks of R284. -/
def canRecordOk (b : Bytes) : Bool :=
  canFrameOk (canFrameOf b) && decide (le b 15 1 ≤ 64) && (le b 4 4 &&& 0xFFFFFF8C) == 0

/-- A checked host frame enters the launch queue, or is refused or dropped (R284, R253). -/
def State.canSubmit (s : State) (r c num : Nat) (timed : Bool) (field : Nat) (f : CanFrame) : State :=
  let d := if timed then dist32 field s.now32 else 0
  if 1000000000 < d then s.complete r num .launchOutOfRange
  else if d < 0 && s.flag (canA c 0) 13 then s.complete r num .launchLate
  else
    let e : CanTxE := ⟨canPad { f with esi := false }, .host r num, if timed then s.extend field else s.clk.t, 0, 0⟩
    (s.canEnqueue c e).canLoad c

/-- CAN_TX (R284, Table 14-4). -/
def execCanTx (r : Nat) (rec' : Option Bytes) (s : State) : Host.Outcome State Fault Refusal :=
  guardI (decide (r < 8192)) (s.withDesc r 0x31 (fun s d =>
    match rec' with
    | none => s.complete r d.num .hostMemoryFault
    | some b =>
      if canRecordOk b then
        s.canSubmit r (le d.bytes 8 1) d.num (decide (le d.bytes 9 1 = 1)) (le d.bytes 12 4) (canFrameOf b)
      else s.complete r d.num .descriptorInvalid))

/-! ### Ethernet -/

/-- EtherType at a byte offset, in the byte order of the wire (R8). -/
def etherType (b : Bytes) (off : Nat) : Nat := ofBe (slice b off 2)

/-- Where the payload of a frame begins, with its EtherType: untagged or with one IEEE 802.1Q tag (R220). -/
def etherBody (b : Bytes) : Nat × Nat := if etherType b 12 = 0x8100 then (18, etherType b 16) else (14, etherType b 12)

/-- The one's-complement sum of 16-bit words, big-endian. -/
def onesSum : Bytes → Nat
  | [] => 0
  | [x] => x.toNat * 256
  | x :: y :: l => x.toNat * 256 + y.toNat + onesSum l

/-- Folds the carries of a one's-complement sum. -/
def foldSum (n : Nat) : Nat := ((n % 65536 + n / 65536) % 65536) + (n % 65536 + n / 65536) / 65536

/-- A UDP datagram found in a frame: destination port and what ingest sees of it. -/
structure Udp where
  port : Nat
  pkt : Packet
  deriving DecidableEq, Repr

/-- The datagram of UDP bytes `u`, with the pseudo-header's addresses. -/
def udpOf (addrs u : Bytes) (fragment : Bool) : Udp :=
  let len := ofBe (slice u 4 2)
  let sum := ofBe (slice u 6 2)
  let whole := u.take len
  let bad := sum ≠ 0 && foldSum (onesSum addrs + 17 + len + onesSum whole) ≠ 0xFFFF
  ⟨ofBe (slice u 2 2), whole.drop 8, fragment, !fragment && bad⟩

/-- The UDP header behind the extension headers of an IPv6 packet (RFC 8200, PRESUMED): `next` names what `b` begins
with. Hop-by-hop, routing and destination options are passed; a fragment header marks a fragment. -/
def ip6Udp : Nat → Nat → Bytes → Bool → Option (Bytes × Bool)
  | 0, _, _, _ => none
  | n + 1, next, b, frag =>
    if next = 17 then some (b, frag)
    else if next = 0 || next = 43 || next = 60 then ip6Udp n (le b 0 1) (b.drop (8 * le b 1 1 + 8)) frag
    else if next = 44 && ofBe (slice b 2 2) / 8 = 0 then ip6Udp n (le b 0 1) (b.drop 8) true
    else none

/-- The UDP datagram of an Ethernet frame, over IPv4 or IPv6 (R220). A later fragment of a datagram
carries no UDP header, and reads no port. -/
def udpIn (b : Bytes) : Option Udp :=
  let h := etherBody b
  let ip := b.drop h.1
  if h.2 = 0x0800 then
    let hl := le ip 0 1 % 16 * 4
    let total := ofBe (slice ip 2 2)
    let fo := ofBe (slice ip 6 2)
    if le ip 0 1 / 16 = 4 && le ip 9 1 = 17 && fo % 8192 = 0 then
      some (udpOf (slice ip 12 8) ((ip.take total).drop hl) (fo.testBit 13))
    else none
  else if h.2 = 0x86DD then
    let total := 40 + ofBe (slice ip 4 2)
    if le ip 0 1 / 16 = 6 then
      (ip6Udp (ip.length + 1) (le ip 6 1) ((ip.take total).drop 40) false).map (fun u => udpOf (slice ip 8 32) u.1 u.2)
    else none
  else none

/-- The enabled stream that takes UDP port `n` of Ethernet port `p` (R220). -/
def State.streamFor (s : State) (p n : Nat) : Option Nat :=
  (List.range 48).find? (fun st =>
    s.streamOn st && s.fld (ingA st 0) 19 18 == p && s.fld (ingA st 0) 15 0 == n)

/-- The axes whose feedback an Ethernet frame is (R269). -/
def State.ethAxes (s : State) (p : Nat) (b : Bytes) : List Nat :=
  s.fbAxes.filter (fun a =>
    let k := s.fld (ctlA a 0xC) 7 0
    s.fld (ctlA a 4) 31 30 == 2 && s.fld (ctlA a 4) 29 27 == p && s.fld (ctlA a 8) 31 16 == etherType b 12 &&
      decide (k + 2 ≤ b.length) && le b k 2 == s.fld (ctlA a 8) 15 0)

/-- An Ethernet control frame: stamped, logged and offered to the axes (R269). -/
def State.ethCtrl (s : State) (p stamp uncert : Nat) (b : Bytes) : State :=
  match s.ethAxes p b with
  | [] => s
  | l =>
    let u := min uncertMax uncert
    ((s.stamped u).slogAdd 0x06 0 p stamp u b).feedback l stamp b

/-- A frame received whole: to ingest, to feedback, or to neither. The PTP messages that the device uses are
commands of their own; any other is discarded at the port, not counted and not logged (R242). -/
def State.ethIn (s : State) (p stamp uncert : Nat) (b : Bytes) : State :=
  if (etherBody b).2 = 0x88F7 then s
  else
    let s := s.tally 7 0x31 p b.length
    match udpIn b with
    | none => s.ethCtrl p stamp uncert b
    | some u =>
      match s.streamFor p u.port with
      | none => s.ethCtrl p stamp uncert b
      | some st => s.sensorIn st stamp uncert u.pkt

/-- ETH_FRAME_RECEIVED (R269, R220): on a port in service; in replay the network is ignored (R187). -/
def execEthFrameReceived (p stamp uncert : Nat) (frame : Bytes) (s : State) : Host.Outcome State Fault Refusal :=
  guardI (decide (p < 4)) (
    if s.isReady && s.flag (ethA p 0) 31 && !s.inReplay then s.ethIn p stamp uncert frame else s)

end Sys2Proof.Machine
end

