-- ==== Sys2Proof/Machine/Tally.lean ====
section
/-!
DEFINITION. The tally counters' requests, edge actions and readings (R398 to R402).
-/

namespace Sys2Proof.Machine

open Sys2Proof

/-- Writes of 1 to TLY_CTL: each request waits for the next edge (R399). -/
def State.tlyReq (s : State) (mask : Nat) : State :=
  if mask % 16 = 0 || !s.isReady then s
  else (s.put (tlyA 0) 3 0 (s.fld (tlyA 0) 3 0 ||| mask % 16)).put (tlyA 4) 1 1 1

/-- START (R399). -/
def execStart (s : State) : Host.Outcome State Fault Refusal := .next (s.tlyReq 8)
/-- CLEAR (R399). -/
def execClear (s : State) : Host.Outcome State Fault Refusal := .next (s.tlyReq 4)
/-- STOP (R399). -/
def execStop (s : State) : Host.Outcome State Fault Refusal := .next (s.tlyReq 2)
/-- SNAP (R399). -/
def execSnap (s : State) : Host.Outcome State Fault Refusal := .next (s.tlyReq 1)

/-- `f` on every counter of every die that counts. -/
def State.tlyEach (s : State) (f : State → Nat → Nat → State) : State :=
  ((List.range 8).filter (fun d => d = 7 || s.flag 4 (8 + d))).foldl
    (fun s d => (List.range (tlyN d)).foldl (fun s c => f s d c) s) s

/-- Zeroes a counter's value and SAT (R399, R400). -/
def State.tlyZero (s : State) (d c : Nat) : State := (s.wr (tlyC d c 8) 0).wr (tlyC d c 0xC) 0

/-- SNAP: every value into its SNAP registers, with the edge's tick (R399). -/
def State.tlySnap (s : State) : State :=
  let s := s.tlyEach (fun s d c => (s.wr (tlyC d c 0x10) (s.rd (tlyC d c 8))).wr (tlyC d c 0x14) (s.rd (tlyC d c 0xC)))
  (s.wr64 (tlyA 0x10) s.clk.tick).event (tlyA 4) 2 (tlyA 8)

/-- CLEAR: every value, SNAP register and SAT bit (R399). -/
def State.tlyClear (s : State) : State :=
  s.tlyEach (fun s d c => ((s.tlyZero d c).wr (tlyC d c 0x10) 0).wr (tlyC d c 0x14) 0)

/-- The requests that act at an edge, in order: SNAP, STOP, CLEAR, START (R399). -/
def State.tlyEdge (s : State) : State :=
  let m := s.fld (tlyA 0) 3 0
  if m = 0 then s
  else
    let s := s.tlySyncAll
    let s := if m.testBit 0 then s.tlySnap else s
    let s := if m.testBit 1 then s.put (tlyA 4) 0 0 0 else s
    let s := if m.testBit 2 then s.tlyClear else s
    let s := if m.testBit 3 then s.put (tlyA 4) 0 0 1 else s
    ((s.put (tlyA 0) 3 0 0).put (tlyA 4) 1 1 0).tlySyncAll

/-- One counter as TALLY_READ writes it (R402). -/
def State.tlyEntry (s : State) (d c : Nat) : Bytes :=
  let w := s.rd (tlyC d c 0)
  leBytes 8 (s.tlyVal d c + 2 ^ 48 * b2n (s.tlySat d c) + 2 ^ 49 * b2n (w.toNat.testBit 31) +
    2 ^ 50 * b2n (w.toNat.testBit 30))

/-- TALLY_READ (R402). -/
def execTallyRead (r : Nat) (s : State) : Host.Outcome State Fault Refusal :=
  guardI (decide (r < 8192)) (s.withDesc r 0x40 (fun s d =>
    let die := le d.bytes 8 1
    if die ≠ 7 && !s.flag 4 (8 + die) then s.complete r d.num .descriptorInvalid
    else
      let s := s.tlySync die
      (s.hostData (le d.bytes 16 8) ((List.range (tlyN die)).flatMap (s.tlyEntry die))).complete r d.num .success))

/-- An event whose occurrences the model itself determines. -/
def tlyKnown (d ev : Nat) : Bool :=
  tlyByCommand d ev || ev = 1 ||
    (if d = 7 then ev = 0x13 || ev = 0x21 || ev = 0x22 || ev = 0x40 else ev = 2 || ev = 3 || ev = 0xA)

/-- TALLY_COUNTER_SATURATION: counter `c` of die `die`, without CHAIN, reaches its top (R398). A
counter of an event that the model determines has reached it only if its value says so. -/
def execTallyCounterSaturation (die c : Nat) (s : State) : Host.Outcome State Fault Refusal :=
  guardI (decide (die < 8) && decide (c < tlyN die)) (
    if !s.tlyOn die then s
    else
      let s := s.tlySync die
      let w := s.rd (tlyC die c 0)
      if w.toNat.testBit 31 && !w.toNat.testBit 30 &&
          (!tlyKnown die (bits w 7 0) || decide (tlyTop ≤ s.tlyVal die c)) then s.tlySaturate die c
      else s)

end Sys2Proof.Machine
end

