-- ==== Sys2Proof/Machine/Time.lean ====
section
/-!
DEFINITION. Site time (chapter 10): best master selection, the domain states, the active domain,
switchover, holdover, time steps and the link delay.
-/

namespace Sys2Proof.Machine

open Sys2Proof

/-- TIM_DOM_STAT.STATE: 0 DISABLED, 1 LISTENING, 2 ACQUIRING, 3 LOCKED. -/
def State.domState (s : State) (d : Nat) : Nat := s.fld (domA d 4) 1 0
/-- Writes TIM_DOM_STAT.STATE. -/
def State.setDomState (s : State) (d n : Nat) : State := s.put (domA d 4) 1 0 n

/-- The enabled domain that a PTP message of domain number `dnum` on port `p` belongs to (R242);
none in replay, which ignores network time (R187). -/
def State.domFor (s : State) (p dnum : Nat) : Option Nat :=
  if s.inReplay then none
  else ((List.range 2).filter (fun d => s.flag (domA d 0) 31 && s.fld (domA d 0) 6 0 == dnum &&
    (s.fld (domA d 0) 19 16).testBit p)).head?

/-- TIM_SEL_CFG.PRIMARY. -/
def State.primary (s : State) : Nat := s.fld (timA 0x80) 0 0

/-- The active domain, if one is. -/
def State.activeDom (s : State) : Option Nat :=
  if s.flag (timA 0x88) 1 then some (s.fld (timA 0x88) 0 0) else none

/-- The domain's offset from working time is within SLEW_LIMIT_US (R249). -/
def State.offsetOk (s : State) (d : Nat) : Bool :=
  decide ((s.dom d).off.natAbs ≤ s.fld (timA 0x80) 31 16 * 1000)

/-- Returns a domain to LISTENING; a LOCKED domain loses lock, which is counted (R248). -/
def State.toListening (s : State) (d : Nat) : State :=
  let was := s.domState d
  let s := s.setDom d { s.dom d with good := 0, bad := 0, wait := none }
  let s : State := if s.primary = d then { s with clk := { s.clk with goodSince := none } } else s
  let s := s.setDomState d 1
  if was = 3 then s.event (domA d 4) 2 (domA d 0x14) else s

/-- A domain sees the grandmaster identity `gm`: a change sets GM_CHANGE and returns the domain
to LISTENING (R248). -/
def State.seeGm (s : State) (d gm : Nat) : State :=
  let changed := match (s.dom d).gm with
    | none => false
    | some g => g != gm
  let s := s.setDom d { s.dom d with gm := some gm }
  if changed then (s.raise (domA d 4) 3).toListening d else s

/-- Best master selection over the candidates a domain holds (R242). Without a candidate there is
no selected grandmaster, and the domain listens. -/
def State.selectMaster (s : State) (d : Nat) : State :=
  match bestBy (fun (x y : Candidate) => lexLt x.vec.key y.vec.key) (s.dom d).cands with
  | none =>
    let s := s.setDom d { s.dom d with sel := none }
    if s.domState d = 0 then s else s.toListening d
  | some c =>
    let s := s.seeGm d c.vec.gm
    let s := s.setDom d { s.dom d with sel := some (c.port, c.vec.gm) }
    (s.put (domA d 4) 9 8 c.port).wr64 (domA d 8) c.vec.gm

/-- Records an Announce of port `p`, replacing the port's earlier one. -/
def candPut (c : Candidate) (l : List Candidate) : List Candidate :=
  l.filter (fun x => x.port != c.port) ++ [c]

/-- The ns of a message interval of 2^k s. -/
def intervalNs (k : Int) : Nat := if k < 0 then 1000000000 / 2 ^ k.natAbs else 1000000000 * 2 ^ k.natAbs

/-- ANNOUNCE: feeds the domain's best master selection (R242, R248). -/
def execAnnounce (p dnum : Nat) (m : AnnounceBody) (s : State) : Host.Outcome State Fault Refusal :=
  guardI (decide (p < 4)) (
    match s.domFor p dnum with
    | none => s
    | some d =>
      let c : Candidate := ⟨p, m.vec, s.clk.ref + 3 * intervalNs m.logInt⟩
      (s.setDom d { s.dom d with cands := candPut c (s.dom d).cands }).selectMaster d)

/-- The port's information for a domain has aged out (Table 10-1): best master selection runs
without it. -/
def State.agePort (s : State) (d p : Nat) : State :=
  (s.setDom d { s.dom d with cands := (s.dom d).cands.filter (fun x => x.port != p) }).selectMaster d

/-- SYNC_RECEIPT_TIMEOUT: three Sync intervals pass without a Sync from the selected grandmaster
(R242, R248). -/
def execSyncReceiptTimeout (d : Nat) (s : State) : Host.Outcome State Fault Refusal :=
  guardI (decide (d < 2)) (
    if s.domState d < 2 then s
    else
      match (s.dom d).sel with
      | none => s
      | some (p, _) => s.atRef (s.dom d).syncDue (fun s => (s.toListening d).agePort d p))

/-- ANNOUNCE_RECEIPT_TIMEOUT: three Announce intervals pass without an Announce on port `p`
(R242). -/
def execAnnounceReceiptTimeout (d p : Nat) (s : State) : Host.Outcome State Fault Refusal :=
  guardI (decide (d < 2) && decide (p < 4)) (
    match (s.dom d).cands.find? (fun c => c.port == p) with
    | none => s
    | some c => s.atRef c.due (fun s => s.agePort d p))

/-- The selected grandmaster announces the PTP timescale; a domain on ARB never locks (Table 10-1). -/
def State.ptpScale (s : State) (d : Nat) : Bool :=
  match (s.dom d).sel with
  | none => false
  | some (p, _) => (s.dom d).cands.any (fun c => c.port == p && c.vec.ptp)

/-- Working time slews towards the active domain's clock, at most 50 ppm (R250). -/
def State.slewTo (s : State) (off : Int) : State :=
  let s : State := { s with clk := { s.clk with slew := off, slewAcc := 0 } }
  s.put (timA 0x88) 3 3 (b2n (off ≠ 0))

/-- Stops slewing. -/
def State.slewStop (s : State) : State := s.slewTo 0

/-- The servo offset of a Sync on port `p` stamped `rx` whose origin time with corrections is `origin`: the domain
clock at the receipt, less the grandmaster's time there, with the port's ingress correction and link delay (R246). -/
def State.servoOffset (s : State) (d p rx : Nat) (origin : Int) : Int :=
  (rx : Int) - s.fld (timA (0xC0 + 4 * p)) 15 0 + (s.dom d).off - (origin + (s.rd (timA (0xD0 + 4 * p))).toNat)

/-- A domain's servo takes one Sync of servo offset `off` (R248): the counts of in-range and far Syncs, the move to
ACQUIRING on the first one, LOCKED after 16 within LOCK_NS, and the loss of lock after 4 beyond
4·LOCK_NS. While the domain is active, working time takes its frequency correction, and while it is LOCKED too its
offset is corrected by slewing. -/
def State.servo (s : State) (d : Nat) (off : Int) (r : ServoResult) : State :=
  let lock := s.fld (timA 0x84) 13 0
  let near := off.natAbs ≤ lock
  let far := 4 * lock < off.natAbs
  let x := s.dom d
  let x := if s.domState d = 1 then { x with good := 0, bad := 0 } else x
  let x := { x with off := r.clockOff, freq := r.freq, wait := none, good := if near then x.good + 1 else 0,
                    bad := if far then x.bad + 1 else 0 }
  let s := s.setDom d x
  let s : State := if s.activeDom = some d then { s with clk := { s.clk with freq := r.freq } } else s
  let s := if s.domState d = 1 then s.setDomState d 2 else s
  if s.domState d = 2 && 16 ≤ x.good && s.ptpScale d then
    (s.setDom d { x with lockedAt := s.clk.ref / 1000 }).setDomState d 3
  else if s.domState d = 3 then
    if 4 ≤ x.bad then s.toListening d
    else if s.activeDom = some d then s.slewTo x.off else s
  else s

/-- SYNC: received and stamped (R246); a one-step Sync updates the servo, a two-step Sync waits
for its Follow_Up. A Sync that reveals another grandmaster is discarded (R248). -/
def execSync (p dnum gm seqId : Nat) (twoStep : Bool) (m : SyncBody) (s : State) :
    Host.Outcome State Fault Refusal :=
  guardI (decide (p < 4)) (
    match s.domFor p dnum with
    | none => s
    | some d =>
      match (s.dom d).sel with
      | none => s
      | some (sp, sg) =>
        if sp ≠ p then s
        else if sg ≠ gm then
          let s := s.seeGm d gm
          (s.setDom d { s.dom d with
            cands := (s.dom d).cands.filter (fun c => c.port != p || c.vec.gm == gm) }).selectMaster d
        else
          let due := s.clk.ref + 3 * intervalNs m.logInt
          if twoStep then s.setDom d { s.dom d with wait := some ⟨seqId, p, m.rx, m.origin⟩, syncDue := due }
          else (s.setDom d { s.dom d with syncDue := due }).servo d (s.servoOffset d p m.rx m.origin) m.servo)

/-- FOLLOW_UP: completes the two-step Sync of the same sequence number (R242). -/
def execFollowUp (p dnum seqId : Nat) (m : FollowUpBody) (s : State) : Host.Outcome State Fault Refusal :=
  guardI (decide (p < 4)) (
    match s.domFor p dnum with
    | none => s
    | some d =>
      match (s.dom d).wait with
      | none => s
      | some w =>
        if w.seqId = seqId && w.port = p then s.servo d (s.servoOffset d p w.rx (w.corr + m.origin)) m.servo else s)

/-! ### Link delay -/

/-- A receive stamp of port `p` with its ingress correction (R246). -/
def State.ingress (s : State) (p rx : Nat) : Nat := rx - s.fld (timA (0xC0 + 4 * p)) 15 0
/-- A transmit stamp of port `p` with its egress correction (R246). -/
def State.egress (s : State) (p tx : Nat) : Nat := tx + s.fld (timA (0xC0 + 4 * p)) 31 16

/-- PDELAY_REQ: the port answers with a Pdelay_Resp, which carries the receipt time, and its Pdelay_Resp_Follow_Up,
which carries the answer's departure (R242). -/
def execPdelayReq (p seqId rx tx : Nat) (s : State) : Host.Outcome State Fault Refusal :=
  guardI (decide (p < 4)) (
    if s.mayTransmit then (s.emit (.ptp p 2 seqId (s.ingress p rx))).emit (.ptp p 3 seqId (s.egress p tx)) else s)

/-- PDELAY_REQ_TRANSMIT: the port sends a Pdelay_Req, stamped at `tx` (R242, R246). -/
def execPdelayReqTransmit (p tx : Nat) (s : State) : Host.Outcome State Fault Refusal :=
  guardI (decide (p < 4)) (if !s.mayTransmit then s else
    let q := ((s.ep p).pdSeq + 1) % 65536
    (s.setEp p { s.ep p with pdSeq := q, pdOut := some (q, tx), pdResp := none }).emit (.ptp p 1 q tx))

/-- PDELAY_RESP: the peer's receipt time t2 and the local stamp of its answer (R242). -/
def execPdelayResp (p seqId t2 rx : Nat) (s : State) : Host.Outcome State Fault Refusal :=
  guardI (decide (p < 4)) (
    match (s.ep p).pdOut with
    | none => s
    | some (q, _) => if q = seqId && !s.inReplay then s.setEp p { s.ep p with pdResp := some (t2, rx) } else s)

/-- The mean link delay of the peer-to-peer mechanism, with the port's latency corrections
(R242, R246); a delay below 0 reads 0. -/
def meanLinkDelay (t1 t2 t3 t4 ingress egress : Nat) : Nat :=
  (((t4 : Int) - ingress - ((t1 : Int) + egress) - ((t3 : Int) - t2)) / 2).toNat

/-- PDELAY_RESP_FOLLOW_UP: completes the measurement, which TIM_PORT_DELAY[p] then shows (R242). -/
def execPdelayRespFollowUp (p seqId t3 : Nat) (s : State) : Host.Outcome State Fault Refusal :=
  guardI (decide (p < 4)) (
    match (s.ep p).pdOut, (s.ep p).pdResp with
    | some (q, t1), some (t2, t4) =>
      if q = seqId && !s.inReplay then
        let m := meanLinkDelay t1 t2 t3 t4 (s.fld (timA (0xC0 + 4 * p)) 15 0) (s.fld (timA (0xC0 + 4 * p)) 31 16)
        (s.setEp p { s.ep p with pdOut := none, pdResp := none }).wr (timA (0xD0 + 4 * p)) (BitVec.ofNat 32 m)
      else s
    | _, _ => s)

/-! ### The active domain -/

/-- The first edge that a working time of `t` leaves to be issued (R18): unchanged before the next
edge, else the edge of the tick that contains `t`. -/
def Clk.stepEdge (c : Clk) (t : Nat) : Nat :=
  if t < c.nextEdge then c.nextEdge else t / c.period * c.period

/-- Working time steps by `by_` (R15, R18, R249 rule 1, R433). -/
def State.stepTime (s : State) (by_ : Int) : State :=
  let c := s.clk
  let t := ((c.t : Int) + by_).toNat
  let e := c.stepEdge t
  let passed := if e = c.nextEdge && t < e then 0 else (e - c.nextEdge) / c.period + 1
  let jump : Int := (t : Int) - c.t
  let win :=
    if passed = 0 then (if c.win = .collecting && s.cutoff < t && c.t < t then .passed else c.win)
    else .passed
  let s := s.slewStop
  let s : State := { s with
    clk := { s.clk with t := t, nextEdge := e
                        nextTick := if passed ≤ 1 then c.nextTick else e / c.period
                        win := if c.live then win else c.win }
    }
  let s := s.eachDom (fun x => { x with off := x.off - jump })
  let s := if c.live && decide (0 < passed) then (s.raise (timA 0x110) 1).countN (timA 0x114) passed else s
  s.event (timA 0x88) 5 (timA 0x90)

/-- TIM_HOLD_MS while holdover lasts (R251). -/
def State.holdMs (s : State) : Nat :=
  if s.flag (timA 0x88) 2 then (s.clk.ref - s.clk.holdSince) / 1000000 else (s.rd (timA 0x94)).toNat

/-- Ends holdover; TIM_HOLD_MS keeps the elapsed time. -/
def State.endHold (s : State) : State :=
  if s.flag (timA 0x88) 2 then (s.wr (timA 0x94) (BitVec.ofNat 32 s.holdMs)).put (timA 0x88) 2 2 0 else s

/-- Makes domain `d` active: working time takes its frequency correction (R243). -/
def State.setActive (s : State) (d : Nat) : State :=
  let s : State := { s with clk := { s.clk with goodSince := none, freq := (s.dom d).freq, freqAcc := (s.dom d).acc } }
  (s.put (timA 0x88) 0 0 d).put (timA 0x88) 1 1 1

/-- Takes domain `d` under rule 1 of R249: working time takes its clock's value at once. -/
def State.takeDomain (s : State) (d : Nat) : State :=
  let s := (s.setActive d).stepTime (s.dom d).off
  s.put (timA 0x110) 0 0 1

/-- The phase change at a switchover, the difference of two servos' estimates: free, below 20 ns
(R250). No edge is skipped or repeated. -/
def State.phaseStep (s : State) : Int :=
  clampInt ((s.clk.lastEdge : Int) - s.clk.t) ((s.clk.nextEdge : Int) - s.clk.t)
    (((Config.freeNat s.free % 39 : Nat) : Int) - 19)

/-- Switches over to domain `d` (R249 rules 2, 4 and 5, R250): a phase change below 20 ns, and the
rest of the offset by slewing. -/
def State.switchover (s : State) (d : Nat) : State :=
  let k := s.phaseStep
  let s := ((s.bump.endHold).setActive d).event (timA 0x88) 4 (timA 0x8C)
  let s : State := { s with clk := { s.clk with t := ((s.clk.t : Int) + k).toNat } }
  let s := s.eachDom (fun x => { x with off := x.off - k })
  s.slewTo (s.dom d).off

/-- Enters holdover (R251). -/
def State.enterHold (s : State) : State :=
  let s := (s.slewStop.put (timA 0x88) 1 1 0).put (timA 0x88) 2 2 1
  { s with clk := { s.clk with holdSince := s.clk.ref, goodSince := none } }

/-- The domain that rule 1 takes: of two, the first to have become LOCKED, and the primary where both did in one
microsecond (R249). -/
def State.lockedDom (s : State) : Option Nat :=
  let first := s.domState (1 - s.primary) ≠ 3 || (s.dom s.primary).lockedAt ≤ (s.dom (1 - s.primary)).lockedAt
  if s.domState s.primary = 3 && first then some s.primary
  else if s.domState (1 - s.primary) = 3 then some (1 - s.primary) else none

/-- A LOCKED domain that meets the offset condition of rule 2. -/
def State.nearDom (s : State) : Option Nat :=
  if s.domState s.primary = 3 && s.offsetOk s.primary then some s.primary
  else if s.domState (1 - s.primary) = 3 && s.offsetOk (1 - s.primary) then some (1 - s.primary) else none

/-- The 10 s of rule 4: they run while the secondary is active and the primary is LOCKED within
the limit, and restart otherwise (R249). -/
def State.watchPrimary (s : State) : State :=
  let ok := s.activeDom = some (1 - s.primary) && s.domState s.primary = 3 && s.offsetOk s.primary
  let since := if ok then (match s.clk.goodSince with
    | none => some s.clk.ref
    | some x => some x) else none
  { s with clk := { s.clk with goodSince := since } }

/-- ACTIVE_DOMAIN_EVALUATION (R249): once per microsecond the time unit chooses, switches or holds
the active domain. -/
def execActiveDomainEvaluation (s : State) : Host.Outcome State Fault Refusal :=
  .next (
    match s.activeDom with
    | some a =>
      if s.domState a = 3 then s.watchPrimary
      else if s.domState (1 - a) = 3 && s.offsetOk (1 - a) then s.switchover (1 - a)
      else s.enterHold
    | none =>
      if s.flag (timA 0x88) 2 then
        match s.nearDom with
        | some d => s.switchover d
        | none => s
      else
        match s.lockedDom with
        | some d => s.takeDomain d
        | none => s)

/-- PRIMARY_RETURN (R249 rule 4): the primary has stayed LOCKED within the limit for 10 s. -/
def execPrimaryReturn (s : State) : Host.Outcome State Fault Refusal :=
  .next (
    match s.clk.goodSince with
    | none => s
    | some g => s.atRef (g + 10000000000) (fun s =>
        if s.activeDom = some (1 - s.primary) && s.domState s.primary = 3 && s.offsetOk s.primary then
          s.switchover s.primary
        else s))

/-- HOLDOVER_EXPIRY (R249 rule 5, R251): LOCKED becomes 0, working time runs free, and a LOCKED
domain is taken in the same instant. -/
def execHoldoverExpiry (s : State) : Host.Outcome State Fault Refusal :=
  .next (
    if s.flag (timA 0x88) 2 then
      s.atRef (s.clk.holdSince + s.fld (timA 0x80) 15 8 * 1000000000) (fun s =>
        let s := s.endHold.setLocked false
        match s.lockedDom with
        | some d => s.takeDomain d
        | none => s)
    else s)

/-- The restart of a domain whose TIM_DOM_CFG a commit changed (R255). -/
def State.domRestart (s : State) (d : Nat) : State :=
  let s := s.setDom d { Dom.init with off := (s.dom d).off }
  let s : State := if s.primary = d then { s with clk := { s.clk with goodSince := none } } else s
  s.setDomState d (if s.flag (domA d 0) 31 then 1 else 0)

end Sys2Proof.Machine
end

