-- ==== Sys2Proof/Machine/Validate.lean ====
section
/-!
DEFINITION. The validation of a configuration transaction (R347, R348): for each staged register,
the rules of its block over the values that the transaction would leave, and the rules that
depend on the package's state. `s` is the live state and `v` the one with every staged value in
its register.
-/

namespace Sys2Proof.Machine

open Sys2Proof

/-- The first of a list of checks that fails, with its status. -/
def firstBad (l : List (Bool × Status)) : Option Status := (l.find? (fun x => x.1)).map (fun x => x.2)

/-- `n` lies outside `lo` to `hi`. -/
def outside (n lo hi : Nat) : Bool := decide (n < lo) || decide (hi < n)

/-- The transaction changes bits of the register at `a`. -/
def State.alters (s v : State) (a hi lo : Nat) : Bool := s.fld a hi lo != v.fld a hi lo

/-! ### The tick, time and determinism (R19, R20, R150, R181, R187, R255) -/

/-- Ranges of TIM_TICK_CFG and TIM_CUTOFF (R20). -/
def State.tickBad (v : State) : Bool :=
  outside (v.fld (timA 0x100) 13 0) 250 10000 || outside (v.fld (timA 0x100) 26 16) 1 1024 ||
    decide (v.fld (timA 0x104) 12 0 < 80) || decide (v.fld (timA 0x100) 13 0 < 2 * v.fld (timA 0x104) 12 0)

/-- Rules over TIM_DOM_CFG (R255). -/
def State.domBad (v : State) (d : Nat) : Bool :=
  v.flag (domA d 0) 31 && (decide (v.fld (domA d 0) 19 16 = 0) ||
    (v.flag (domA (1 - d) 0) 31 && v.fld (domA d 0) 6 0 == v.fld (domA (1 - d) 0) 6 0))

/-- Static rules of TIM, by offset. -/
def State.timBad (v : State) (o : Nat) : Option Status :=
  if o = 0x100 || o = 0x104 then firstBad [(v.tickBad, .tickCfgInvalid)]
  else if o = 0x80 then
    firstBad [(outside (v.fld (timA 0x80) 31 16) 1 1000 || v.fld (timA 0x80) 15 8 == 0, .timeCfgInvalid)]
  else if o = 0x84 then firstBad [(outside (v.fld (timA 0x84) 13 0) 20 10000, .timeCfgInvalid)]
  else if o < 0x80 then firstBad [(v.domBad (o / 0x40), .timeCfgInvalid)]
  else none

/-- State-dependent rules of TIM (R20, R255). -/
def State.timBusy (s v : State) (o : Nat) : Option Status :=
  if o = 0x100 then
    firstBad [((s.alters v (timA 0x100) 13 0 || s.alters v (timA 0x100) 26 16) && (s.anyAxis || s.flag 0x208 0),
      .tickCfgBusy)]
  else if o < 0x80 then
    firstBad [(s.alters v (timA o) 31 0 && s.activeDom == some (o / 0x40) && s.anyAxis, .tickCfgBusy)]
  else none

/-! ### The cyclic table (R19, R154, R156) -/

/-- Two entries overlap in time. -/
def CycEntry.meets (x y : CycEntry) : Bool := decide (x.off < y.off + y.span) && decide (y.off < x.off + x.span)

/-- No two entries of a list meet where `p` relates them. -/
def clashFree (p : CycEntry → CycEntry → Bool) : List CycEntry → Bool
  | [] => true
  | x :: l => l.all (fun y => !(p x y && x.meets y)) && clashFree p l

/-- Entries stand in order of TICK_OFFSET, then JOB (R152). -/
def cycSorted : List CycEntry → Bool
  | x :: y :: l => (decide (x.off < y.off) || (x.off == y.off && decide (x.job ≤ y.job))) && cycSorted (y :: l)
  | _ => true

/-- An entry breaks a rule of R154 that names it alone. -/
def CycEntry.bad' (l frameDiv : Nat) (e : CycEntry) : Bool :=
  e.bad || decide (e.kind = 3) || decide (l < e.off + e.span) || decide (e.span = 0) ||
    (e.start && decide (e.kind = 0) && decide (e.off % frameDiv ≠ 0))

/-- The entries of the activation that a START entry begins: those of its job up to the job's next
START entry in the cycle (R153). -/
def actEntries (es : List CycEntry) (e : CycEntry) : List CycEntry :=
  es.filter (fun x => x.job == e.job && decide (e.off ≤ x.off) &&
    !es.any (fun y => y.job == e.job && y.start && decide (e.off < y.off) && decide (y.off ≤ x.off)))

/-- The entry begins exactly where an entry of the same job ended. -/
def follows (es : List CycEntry) (l : Nat) (e : CycEntry) : Bool :=
  es.any (fun x => x.job == e.job && (x.off + x.span) % l == e.off % l)

/-- Arithmetic cycles in `t` ns, rounded up and down. -/
def cyclesUp (t : Nat) : Nat := cdiv (t * 7) 5
def cyclesDown (t : Nat) : Nat := t * 7 / 5

/-- The slots of an activation in cycles from its START edge, 22 µs after an edge that does not follow
an entry of the same job (R156). -/
def fitSlots (es : List CycEntry) (l period : Nat) (e : CycEntry) : List (Nat × Nat) :=
  (actEntries es e).map (fun x =>
    (cyclesUp ((x.off - e.off) * period + if follows es l x then 0 else 22000),
     cyclesDown ((x.off + x.span - e.off) * period)))

/-- The activation that a START entry begins fits (R156). -/
def State.actFits (s v : State) (es : List CycEntry) (l : Nat) (e : CycEntry) : Bool :=
  match s.job e.job with
  | none => true
  | some j =>
    match s.pkg j.pkg with
    | none => true
    | some p => fitsIn (fitSlots es l (v.fld (timA 0x100) 13 0 * 1000) e)
        (levelWorks p.decl j.chains 1 0 s.linksUp s.hops (fun asym => s.eligibleC j.masks asym))

/-- Static rules of GLB_CYC_CFG and the fit. -/
def State.cycBad (s v : State) : Option Status :=
  if !v.flag 0x204 0 then none
  else
    let b := s.bank (v.fld 0x204 1 1)
    let l := cycLen b
    let fd := v.fld (timA 0x100) 26 16
    let es := cycEntries b
    firstBad [(b.isEmpty || outside l 1 1024, .cyclicTableInvalid),
      (decide (l % fd ≠ 0), .tickCfgInvalid),
      (decide (cycDiv b ≠ fd) || (slice b 12 20).any (fun x => x != 0) || es.any (CycEntry.bad' l fd) || !cycSorted es ||
        !clashFree (fun x y => x.job == y.job) es, .cyclicTableInvalid),
      (es.any (fun e => e.start && !s.actFits v es l e), .deadlineUnmeetable)]

/-- Two jobs share a reserved core. -/
def State.shareCore (s : State) (a b : Nat) : Bool :=
  match s.job a, s.job b with
  | some j, some k => a ≠ b && (List.range 7).any (fun d => (j.masks.getD d 0 &&& k.masks.getD d 0) != 0)
  | _, _ => false

/-- State-dependent rules of GLB_CYC_CFG (R154). -/
def State.cycBusy (s v : State) : Option Status :=
  if !v.flag 0x204 0 then none
  else
    let es := cycEntries (s.bank (v.fld 0x204 1 1))
    firstBad [(es.any (fun e => !((s.job e.job).map (fun j => j.classC)).getD false) || !clashFree (fun x y => s.shareCore x.job y.job) es,
      .cyclicTableInvalid), ((s.cycBad v).isSome, (s.cycBad v).getD .success)]

/-- Static rules of GLB, by offset. No rule names a status for GLB_DET_CFG, for GLB_LOG_CFG's range, or for
replay without DETERMINISTIC. -/
def State.glbBad (s v : State) (o : Nat) : Option Status :=
  if o = 0x204 then s.cycBad v
  else if o = 0x300 then firstBad [(outside (v.fld 0x300 13 0) 250 16000, .cfgWriteInvalid)]
  else if o = 0x304 then firstBad [(outside (v.fld 0x304 13 8) 1 32, .cfgWriteInvalid)]
  else if o = 0x330 || o = 0x200 then firstBad [(v.inReplay && !v.det, .cfgWriteInvalid)]
  else none

/-- State-dependent rules of GLB (R150, R154, R181, R187). -/
def State.glbBusy (s v : State) (o : Nat) : Option Status :=
  let jobs := !s.jobs.isEmpty
  if o = 0x200 then firstBad [(s.alters v 0x200 1 0 && jobs, .jobsActive)]
  else if o = 0x204 then s.cycBusy v
  else if o = 0x304 then firstBad [(s.alters v 0x304 13 8 && jobs, .jobsActive)]
  else if o = 0x330 then
    firstBad [(v.inReplay && !s.inReplay && (s.anyAxis || jobs || s.domState 0 == 3 || s.domState 1 == 3 ||
      v.logMode == 0), .replayBusy)]
  else none

/-! ### Streams (R240) -/

/-- Bytes of a point-record field by type (Table 09-9). -/
def prBytes (t : Nat) : Nat := if t = 0 then 1 else if t < 3 then 2 else 4

/-- A lidar field of stream `st` lies beyond its record. -/
def State.fieldBeyond (v : State) (st : Nat) : Bool :=
  (List.range 8).any (fun i =>
    let w := v.rd (ingA st (0x44 + 4 * i))
    w.toNat.testBit 31 && decide (v.fld (ingA st 0x40) 8 0 < bits w 7 0 + prBytes (bits w 10 8)))

/-- A lidar stream lacks role 6, or every role from 0 to 5. -/
def State.rolesBad (v : State) (st : Nat) : Bool :=
  decide (v.fld (ingA st 0) 17 16 = 3) && (!v.flag (ingA st (0x44 + 24)) 31 ||
    (List.range 6).all (fun i => !v.flag (ingA st (0x44 + 4 * i)) 31))

/-- A Bayer dimension is odd. -/
def State.bayerOdd (v : State) (st : Nat) : Bool :=
  decide (v.fld (ingA st 0) 17 16 = 1) && outside (v.fld (ingA st 0xC) 4 2) 0 2 &&
    (v.flag (ingA st 0x10) 0 || v.flag (ingA st 0x10) 16)

/-- Two enabled streams share PORT and UDP_PORT. -/
def State.portShared (v : State) (st : Nat) : Bool :=
  v.flag (ingA st 0) 31 && (List.range 48).any (fun k => k ≠ st && v.flag (ingA k 0) 31 &&
    v.fld (ingA k 0) 19 18 == v.fld (ingA st 0) 19 18 && v.fld (ingA k 0) 15 0 == v.fld (ingA st 0) 15 0)

/-- Static rules of stream `st`, by offset. -/
def State.streamBad (v : State) (st o : Nat) : Bool :=
  let w := v.rd (ingA st o)
  if o = 0 then outside (bits w 24 20) 4 16 || v.portShared st || v.rolesBad st || v.bayerOdd st
  else if o = 0xC then decide (4 < bits w 4 2) || v.bayerOdd st
  else if o = 0x10 then outside (bits w 28 16) 16 4096 || outside (bits w 12 0) 16 4096 || v.bayerOdd st
  else if o = 0x14 then outside (bits w 28 24) 1 16 || bits w 22 12 == 0 || bits w 10 0 == 0
  else if o = 0x18 then bits w 31 16 == 0 || decide (bits w 15 0 < 100)
  else if o = 0x40 then decide (1024 < bits w 26 16) || outside (bits w 8 0) 4 256 || v.fieldBeyond st
  else if 0x44 ≤ o && decide (o < 0x64) then decide (5 < bits w 10 8) || v.rolesBad st || v.fieldBeyond st
  else if o = 0x84 then outside (bits w 18 0) 1 262144
  else false

/-- Static rules of ING. -/
def State.ingBad (v : State) (o : Nat) : Option Status :=
  if o = 0xF000 then
    let w := v.rd (ingW 0)
    firstBad [(outside (bits w 26 16) 1 1024 || decide (1023 < bits w 10 0) || decide (bits w 26 16 ≤ bits w 10 0),
      .streamCfgInvalid)]
  else firstBad [(v.streamBad (o / 0x400) (o % 0x400), .streamCfgInvalid)]

/-- The fields that a bound stream keeps (R240), as bit masks by offset. -/
def boundMask (o : Nat) : Nat :=
  if o = 0 then 0x01F30000
  else if o = 0xC then 0x80
  else if o = 0x14 then 0x1F7FF7FF
  else if o = 0x1C then 3
  else if o = 0x84 then 0x7FFFF
  else if 0x44 ≤ o && decide (o < 0x64) then 0x80000000
  else 0

/-- State-dependent rules of ING. -/
def State.ingBusy (s v : State) (o : Nat) : Option Status :=
  let st := o / 0x400
  let a := 0x300000 + o
  firstBad [(decide (o < 0xC000) && s.flag (ingA st 0xDC) 31 &&
    ((s.rd a).toNat &&& boundMask (o % 0x400)) != ((v.rd a).toNat &&& boundMask (o % 0x400)), .streamBound)]

/-! ### Axes (R278) -/

/-- FP32 registers that must be finite. -/
def ctlFloats : List Nat :=
  [0x10, 0x14, 0x24, 0x28, 0x40, 0x44, 0x48, 0x4C, 0x50, 0x54, 0x58, 0x5C, 0x64, 0x68, 0x6C, 0x70, 0x80, 0x84, 0x88,
   0x8C, 0x90, 0x94, 0x98, 0x9C, 0xA0, 0xA4, 0xA8, 0xAC, 0xB0]
/-- FP32 registers that must not be negative. -/
def ctlNonNeg : List Nat := [0x54, 0x58, 0x5C, 0x70, 0x8C, 0xA0, 0xA8]

/-- The command frame's LEN or a field beyond it. -/
def State.outBad (v : State) (a : Nat) : Bool :=
  let w := v.rd (ctlA a 0x18)
  let n := bits w 19 12
  let size := if bits w 23 22 = 0 then 2 else 4
  let kind := bits w 31 30
  kind ≠ 0 &&
    ((kind == 1 && (!fdLengths.contains n || (!w.toNat.testBit 25 && decide (8 < n)))) || (kind == 2 && outside n 14 128) ||
      decide (n < v.fld (ctlA a 0x1C) 7 0 + size) ||
      (w.toNat.testBit 21 && decide (n < v.fld (ctlA a 0x1C) 15 8 + 1)))

/-- Static rules of axis `a`, by offset. -/
def State.axisBad (v : State) (a o : Nat) : Bool :=
  let w := v.rd (ctlA a o)
  (ctlFloats.contains o && fbad w) || (ctlNonNeg.contains o && flt w f0) ||
    (if o = 0 then bits w 23 20 == 0 || bits w 1 0 == 3
    else if o = 4 then bits w 31 30 == 3 || (bits w 31 30 == 2 && decide (3 < bits w 29 27))
    else if o = 0xC then bits w 23 22 == 3 || bits w 21 20 == 3
    else if o = 0x18 then bits w 31 30 == 3 || (bits w 31 30 == 2 && decide (3 < bits w 29 27)) || bits w 23 22 == 3 || v.outBad a
    else if o = 0x1C then v.outBad a
    else if o = 0x4C || o = 0x50 then fle (v.fr a 0x50) (v.fr a 0x4C)
    else if o = 0x60 then bits w 15 0 == 0
    else if o = 0x64 || o = 0x68 then fle (v.fr a 0x68) (v.fr a 0x64)
    else if o = 0x6C then fle w f0
    else false)

/-- Bits of a register that only a DISABLED axis lets change. -/
def axisMask (o : Nat) : Nat :=
  if o = 0 then 0xF000B
  else if [4, 8, 0xC, 0x10, 0x14, 0x18, 0x1C, 0x20, 0x24].contains o || (0x400 ≤ o && decide (o < 0x480)) then 0xFFFFFFFF
  else 0

/-- Two enabled axes share a feedback match. -/
def State.matchShared (s v : State) (a : Nat) : Bool :=
  let key := fun k =>
    let w := v.rd (ctlA k 4)
    if bits w 31 30 = 1 then [1, bits w 29 26, v.fld (ctlA k 8) 28 0]
    else [bits w 31 30, bits w 29 27, v.fld (ctlA k 8) 31 0, v.fld (ctlA k 0xC) 7 0]
  s.axOn a && v.fld (ctlA a 4) 31 30 != 0 && (List.range 64).any (fun k => k ≠ a && s.axOn k && key k == key a)

/-- State-dependent rules of axis `a`. -/
def State.axisBusy (s v : State) (a o : Nat) : Option Status :=
  let x := ctlA a o
  firstBad [(s.axOn a && ((s.rd x).toNat &&& axisMask o) != ((v.rd x).toNat &&& axisMask o), .axisCfgBusy),
    ((o = 4 || o = 8 || o = 0xC) && s.matchShared v a, .ctlCfgInvalid)]

/-! ### CAN (R295) -/

/-- CAN-clock cycles of a nominal and of a data bit (R282). -/
def State.nomBit (v : State) (c : Nat) : Nat :=
  let w := v.rd (canA c 4)
  (bits w 4 0 + 1) * (3 + bits w 15 8 + bits w 22 16)
def State.datBit (v : State) (c : Nat) : Nat :=
  let w := v.rd (canA c 8)
  (bits w 4 0 + 1) * (3 + bits w 12 8 + bits w 19 16)

/-- Static rules of controller `c`, by offset. -/
def State.canBad (v : State) (c o : Nat) : Bool :=
  let n := v.rd (canA c 4)
  let d := v.rd (canA c 8)
  let f := v.rd (canA c 0x14)
  if o = 4 || o = 8 then
    bits n 15 8 == 0 || decide (bits n 22 16 < bits n 30 24) || decide (bits d 19 16 < bits d 27 24) ||
      decide (v.nomBit c < 80) || decide (v.datBit c < 10) || decide (v.nomBit c < v.datBit c) ||
      (decide (v.datBit c < 80) && !d.toNat.testBit 31)
  else if o = 0x14 then decide (8 < bits f 3 0) || (f.toNat.testBit 5 && !f.toNat.testBit 4)
  else false

/-- An enabled axis uses controller `c` for feedback or commands. -/
def State.canUsed (s : State) (c : Nat) : Bool :=
  (List.range 64).any (fun a => s.axOn a &&
    ((s.fld (ctlA a 4) 31 30 == 1 && s.fld (ctlA a 4) 29 27 == c) || (s.fld (ctlA a 0x18) 31 30 == 1 && s.fld (ctlA a 0x18) 29 27 == c)))

/-- The register's change to MODE, bit timing or TDC (R296). -/
def State.canTiming (s v : State) (c : Nat) : Bool :=
  s.alters v (canA c 0) 1 0 || s.alters v (canA c 4) 31 0 || s.alters v (canA c 8) 31 0 || s.alters v (canA c 0xC) 6 0

/-- State-dependent rules of controller `c`. -/
def State.canBusy (s v : State) (c o : Nat) : Option Status :=
  let x := canA c o
  firstBad [(s.canUsed c && ((o = 0 && (s.alters v x 1 0 || s.alters v x 5 5)) ||
    ((o = 4 || o = 8) && s.alters v x 31 0) || (o = 0xC && s.alters v x 6 0)), .canCfgBusy)]

/-! ### Links (R204), the safety block (R317), tally (R400) and Ethernet (R424) -/

/-- The topology registers hold no topology of Table 08-4. -/
def State.topoBad (v : State) : Bool :=
  let dims := v.dims
  let x := dims.getD 0 0
  let y := dims.getD 1 0
  let z := dims.getD 2 0
  let size := x * y * z
  let shape := match v.kind with
    | 0 => false
    | 1 => outside x 2 64 || y != 1 || z != 1
    | 2 => outside x 2 32 || outside y 2 32 || z != 1
    | _ => outside x 2 16 || outside y 2 8 || outside z 2 8
  shape || decide (1024 < size) || decide (size ≤ v.pkgNum) || decide (size ≤ v.leadPkg) ||
    (v.kind = 0 && v.leadPkg != v.pkgNum)

/-- Rules of LNK_TOPO_CFG and LNK_PKG_CFG. -/
def State.lnkBad (v : State) (o : Nat) : Option Status :=
  if o = 0x80000 || o = 0x80004 then firstBad [(v.topoBad, .fabricCfgInvalid)] else none
def State.lnkBusy (s v : State) (o : Nat) : Option Status :=
  if o = 0x80000 || o = 0x80004 then firstBad [(s.alters v (0x700000 + o) 31 0 && !s.jobs.isEmpty, .jobsActive)] else none

/-- Static rules of SAF, by offset. -/
def State.safBad (v : State) (o : Nat) : Bool :=
  let w := v.rd (safA o)
  if o = 0xC then decide (bits w 15 0 < 100)
  else if o = 0x10 then bits w 27 24 == 0 || decide (1000000 < bits w 19 0)
  else if o = 0x14 then bits w 15 0 == 0
  else if 0x20 ≤ o && decide (o < 0x60) then bits w 23 16 == 0 || outside (bits w 9 0) 1 1000
  else if 0x100 ≤ o && decide (o < 0x400) then
    let st := (o - 0x100) / 0x10
    let g := v.rd (safSt st 4)
    let gap := v.flag (safSt st 0) 31 && decide (bits g 31 16 ≤ bits g 15 0)
    if o % 0x10 = 0 then decide (bits w 7 0 < 4) || gap else bits g 31 16 == 0 || gap
  else false

/-- An axis of a group of the mask is enabled. -/
def State.guarded (s : State) (mask : Nat) : Bool :=
  (List.range 4).any (fun g => mask.testBit g && (List.range 64).any (fun a => (s.groupAxes g).testBit a && s.axOn a))

/-- Bits of a field that the transaction clears, and whether it raises or lowers the field. -/
def State.drops (s v : State) (a hi lo : Nat) : Nat := s.fld a hi lo - (s.fld a hi lo &&& v.fld a hi lo)
def State.raises (s v : State) (a hi lo : Nat) : Bool := decide (s.fld a hi lo < v.fld a hi lo)

/-- The groups whose protection the change of the register at offset `o` reduces (R317). -/
def State.lessens (s v : State) (o : Nat) : Nat :=
  let a := safA o
  let re := fun hi lo => s.fld (safA 4) hi lo
  if o = 4 then [0, 4, 8, 12, 16, 20].foldl (fun m lo => m ||| s.drops v a (lo + 3) lo) 0
  else if o = 0xC then (if s.raises v a 15 0 then re 7 4 else 0)
  else if o = 0x10 then (if s.drops v a 31 31 != 0 || s.raises v a 27 24 || v.raises s a 19 0 then re 11 8 else 0)
  else if o = 0x14 then (if s.drops v a 31 31 != 0 || s.raises v a 15 0 then re 15 12 else 0)
  else if 0x20 ≤ o && decide (o < 0x60) then
    (if s.drops v a 31 31 != 0 || s.raises v a 9 0 || s.raises v a 23 16 then s.fld a 27 24 else s.drops v a 27 24)
  else if 0x80 ≤ o && decide (o < 0xC0) then
    let g := (o - 0x80) / 0x10
    (if (if o % 0x10 = 0 then s.drops v a 31 31 != 0 || s.drops v a 7 0 != 0 else s.drops v a 31 0 != 0) then 2 ^ g else 0)
  else if 0x100 ≤ o && decide (o < 0x400) then
    (if o % 0x10 = 0 then
      (if s.drops v a 31 31 != 0 then re 3 0 else 0) ||| (if s.drops v a 30 30 != 0 || s.raises v a 7 0 then re 19 16 else 0)
    else (if s.raises v a 31 16 || v.raises s a 15 0 then re 3 0 else 0))
  else 0

/-- The units that an event of Tables 18-1 and 18-2 admits: `none` for one outside its die's table,
else the number of units beside 0xFF. NONE belongs to both dies (R398). -/
def tlyUnits (d ev : Nat) : Option Nat :=
  if ev = 0 then some 17
  else if d = 7 then
    (if ev = 1 then some 0
    else if 0x10 ≤ ev && ev ≤ 0x13 then some 12
    else if ev = 0x20 then some 48
    else if ev = 0x21 || ev = 0x22 then some 0
    else if 0x30 ≤ ev && ev ≤ 0x32 then some 4
    else if ev = 0x40 then some 8
    else if 0x50 ≤ ev && ev ≤ 0x52 then some 0
    else if ev = 0x60 then some 4
    else if ev = 0x61 then some 0
    else none)
  else if ev ≤ 0x12 then some 17 else none

/-- Occupancy events. -/
def tlyOcc (d ev : Nat) : Bool :=
  if d = 7 then [0x13, 0x21, 0x22, 0x32, 0x40, 0x60].contains ev else [3, 9, 0xA, 0xB, 0xE].contains ev

/-- Counter `c` of die `d` breaks a rule of R400. -/
def State.tlyBad (v : State) (d c : Nat) : Bool :=
  let w := v.rd (tlyC d c 0)
  let ev := bits w 7 0
  let u := bits w 15 8
  let chainBad := fun i => v.flag (tlyC d i 0) 30 && (i + 1 == tlyN d || v.fld (tlyC d (i + 1) 0) 7 0 != 0 ||
    v.flag (tlyC d (i + 1) 0) 31 != v.flag (tlyC d i 0) 31)
  (match tlyUnits d ev with
    | none => true
    | some n => u != 0xFF && decide (n ≤ u)) ||
    (!tlyOcc d ev && (w.toNat.testBit 29 || v.fld (tlyC d c 4) 15 0 != 0)) || chainBad c ||
    (decide (0 < c) && chainBad (c - 1))

/-- Die and counter of a TLY offset. -/
def tlyAt (o : Nat) : Nat × Nat := if o < 0x10000 then (7, (o - 0x1000) / 0x20) else ((o - 0x10000) / 0x1000, o % 0x1000 / 0x20)

/-! ### All blocks -/

/-- The static rules of the staged register at `a`. -/
def State.regBad (s v : State) (a : Nat) : Option Status :=
  if a < 0x100000 then s.glbBad v a
  else if a < 0x200000 then none
  else if a < 0x300000 then v.timBad (a - 0x200000)
  else if a < 0x400000 then v.ingBad (a - 0x300000)
  else if a < 0x500000 then firstBad [(v.axisBad ((a - 0x400000) / 0x800) (a % 0x800), .ctlCfgInvalid)]
  else if a < 0x600000 then firstBad [(v.canBad ((a - 0x500000) / 0x1000) (a % 0x1000), .canCfgInvalid)]
  else if a < 0x700000 then
    firstBad [(a % 0x4000 = 0 && (decide (1 < v.fld a 1 0) || (v.flag a 2 && v.fld a 1 0 == 0)), .cfgWriteInvalid)]
  else if a < 0x800000 then v.lnkBad (a - 0x700000)
  else if a < 0x900000 then firstBad [(v.safBad (a - 0x800000), .safCfgInvalid)]
  else if a < 0xA00000 then
    firstBad [(v.tlyBad (tlyAt (a - 0x900000)).1 (tlyAt (a - 0x900000)).2, .tlyCfgInvalid)]
  else none

/-- The state-dependent rules of the staged register at `a`. -/
def State.regBusy (s v : State) (a : Nat) : Option Status :=
  if a < 0x100000 then s.glbBusy v a
  else if a < 0x200000 then none
  else if a < 0x300000 then s.timBusy v (a - 0x200000)
  else if a < 0x400000 then s.ingBusy v (a - 0x300000)
  else if a < 0x500000 then s.axisBusy v ((a - 0x400000) / 0x800) (a % 0x800)
  else if a < 0x600000 then s.canBusy v ((a - 0x500000) / 0x1000) (a % 0x1000)
  else if a < 0x700000 then none
  else if a < 0x800000 then s.lnkBusy v (a - 0x700000)
  else if a < 0x900000 then firstBad [(s.guarded (s.lessens v (a - 0x800000)), .safCfgBusy)]
  else none

/-- The first failure in address order, with its register (R348). -/
def firstFail (f : Nat → Option Status) : List (Nat × Word) → Option (Nat × Status)
  | [] => none
  | (a, _) :: l =>
    match f a with
    | some st => some (a, st)
    | none => firstFail f l

/-- Preliminary validation: the rules over staged values and loaded tables (R347). -/
def State.prelim (s : State) : Option (Nat × Status) := firstFail (s.regBad s.stagedView) s.cfg.staged

/-- Edge validation: the rules that depend on the package's state (R347). -/
def State.edgeCheck (s : State) : Option (Nat × Status) := firstFail (s.regBusy s.stagedView) s.cfg.staged

end Sys2Proof.Machine
end

