-- ==== Sys2Proof/Machine/Commit.lean ====
section
/-!
DEFINITION. Committing a configuration transaction (R347 to R350) and what each block does at the edge
when its settings change (R155, R182, R187, R204, R255, R296, R305, R400, R424).
-/

namespace Sys2Proof.Machine

open Sys2Proof

/-! ### What changed settings do at the edge

`old` is the state before the edge, `s` the one with the new values in its registers. -/

/-- A field differs between two states. -/
def State.moved (s old : State) (a hi lo : Nat) : Bool := old.fld a hi lo != s.fld a hi lo

/-- Time domains restart (R255); the 10 s of R249 rule 4 begin anew with another primary. -/
def State.timApplied (s old : State) : State :=
  let s := [0, 1].foldl (fun s d => if s.moved old (domA d 0) 31 0 then s.domRestart d else s) s
  if s.moved old (timA 0x80) 0 0 then { s with clk := { s.clk with goodSince := none } } else s

/-- A committed table change waits for its major-cycle boundary (R155). After a package job loss the
commit of an enabled table starts it again (R170); disabling a table that does not run cancels. -/
def State.cycApplied (s old : State) (staged : Bool) : State :=
  let on := s.flag 0x204 0
  let runs := s.flag 0x208 0
  let idle := !runs && s.comp.cycNext.isNone
  if !s.moved old 0x204 1 0 && !(staged && on && idle) then s
  else
    let next : Option (Option Nat) := if on then some (some (s.fld 0x204 1 1)) else if runs then some none else none
    ({ s with comp := { s.comp with cycNext := next } } : State).put 0x208 2 2 (b2n next.isSome)

/-- Ethernet ports restart: the link is down until block lock (R424). -/
def State.ethApplied (s old : State) : State :=
  (List.range 4).foldl (fun s p =>
    if s.moved old (ethA p 0) 31 31 || s.moved old (ethA p 0) 2 0 then
      (if s.flag (ethA p 4) 0 then (s.put (ethA p 4) 0 0 0).event (ethA p 4) 1 (ethA p 8) else s)
    else s) s

/-- CAN controllers re-integrate, or reserve TXB[0] (R296). `busy` says what each does on the bus. -/
def State.canApplied (s old : State) (busy : Nat) : State :=
  (List.range 8).foldl (fun s c =>
    if old.canTiming s c then s.canRestart c (old.canMode c) busy
    else if s.safetyRes c && !old.safetyRes c then s.canReserve c (s.onBus c busy)
    else s) s

/-- Links retrain after a topology change, and follow their ENABLE bits (R198, R204, Table 08-1). -/
def State.linkApplied (s old : State) : State :=
  let topo := s.moved old (fabA 0) 31 0 || s.moved old (fabA 4) 31 0
  let s := (List.range 12).foldl (fun s k =>
    let on := s.flag (lnkA k 0) 0
    let st := s.linkState k
    if !on then (if st = 0 then s else s.linkLost k 0)
    else if st = 0 then s.setLinkState k 1
    else if !topo then s
    else
      let s := if st = 3 || st = 4 then s.linkFall k 1 else (s.linkSet k Lnk.init).setLinkState k 1
      if s.kind = 0 then s else s.setLinkState k 2) s
  if topo then s.fabShow else s

/-- The safety block takes new settings: an input enabled outside its run state makes a demand (R305),
stage 1 starts anew, stage 3 forgets what it waited for once disarmed, outputs follow, and axes that a
stopped group now holds stop (R300, R307). -/
def State.safApplied (s old : State) : State :=
  let s := (List.range 16).foldl (fun s i =>
    let a := safA (0x20 + 4 * i)
    if s.moved old a 31 0 then
      let s := s.siTrack i
      if s.siOn i && !old.siOn i && !s.siRun i then s.siDemand i else s
    else s) s
  let s := (List.range 4).foldl (fun s g =>
    if s.flag (ssoA g 0) 30 && !old.flag (ssoA g 0) 30 then (s.pulseResume g 0).pulseResume g 1 else s) s
  let s := (List.range 48).foldl (fun s st =>
    if s.moved old (safSt st 0) 31 31 then s.setSst st { s.sst st with last := none } else s) s
  let s : State := if s.flag (safA 0x10) 31 then s else { s with saf := { s.saf with percDue := 0, percMiss := 0 } }
  let s := (List.range 64).foldl (fun s a => if s.stopAsserted a && !old.stopAsserted a then s.stopAxis a else s) s
  s.ssoUpdate

/-- Counters whose settings change start at zero (R400). -/
def State.tlyApplied (s old : State) : State :=
  s.tlyEach (fun s d c =>
    if s.moved old (tlyC d c 0) 31 0 || s.moved old (tlyC d c 4) 31 0 then s.tlyZero d c else s)

/-- Every block but the log and replay takes its new settings. -/
def State.blocksApplied (s old : State) (busy : Nat) (cyc : Bool) : State :=
  let s := ((s.timApplied old).cycApplied old cyc).ethApplied old
  let s := (((s.canApplied old busy).linkApplied old).safApplied old).tlyApplied old
  if s.moved old (ingW 0) 31 0 || s.moved old 0x200 0 0 then s.ingQueue else s

/-! ### The shift log and replay (R182, R186, R187) -/

/-- Logging starts: START, CONFIG, then a SUBMIT record for each admitted class C job in handle order, whose
SEQ is the job's key from here on. A class S job in flight has no record and no key. -/
def State.logBegin (s : State) : State :=
  let s : State := { s with slog := { s.slog with recs := [], seq := 0, dropped := 0, actNum := 0 } }
  let s := ((s.put 0x308 0 0 1).put 0x308 3 3 0).wr64 0x318 0
  let s := s.setJobs (s.jobs.map (fun j => if j.classC then j else { j with key := 0 }))
  let js := (s.jobs.filter (fun j => j.classC)).foldl (fun l j => insertBy (fun a b => decide (a.id ≤ b.id)) j l) []
  js.foldl (fun s j => (s.updJob j.id (fun j => { j with key := s.slog.seq })).logSubmit j.ring j.subm) s.logStart.logConfig

/-- Logging ends. Waiting buffers complete with what they hold; streamed records that no buffer has taken stay until the
host takes them. -/
def State.logEnd (s : State) (mode : Nat) : State :=
  let s := s.postsDone (mode = 3)
  (if mode = 3 then s else { s with slog := { s.slog with recs := [] } }).put 0x308 0 0 0

/-- The records that replay starts from: those from the first CONFIG on, with a START record before it. -/
def replayFrom : List LogRec → List LogRec
  | [] => []
  | x :: l => if x.type = 1 || x.type = 2 then x :: l else replayFrom l

/-- Replay starts: the log area, or the host's posted buffers in streaming mode, supply the records. -/
def State.replayStart (s : State) : State :=
  let l := replayFrom (if s.logMode = 3 then s.slog.play else s.slog.recs)
  let s : State := { s with slog := { s.slog with play := l, ticks := [], outs := [], made := [], want := [], fresh := true, actNum := 0 } }
  (s.put 0x308 0 0 0).wr 0x334 (BitVec.ofNat 32 ((s.rd 0x334).toNat % 16 / 4 * 4 + 1))

/-- Replay mode is left: its jobs end with it, and ticks follow no time domain (R15). -/
def State.replayLeave (s : State) : State :=
  let s := (s.jobs.filter (fun j => j.silent && j.member.isNone)).foldl (fun s j => s.endSoon j.id .jobCancelled) s
  (s.put 0x334 0 0 0).setLocked false

/-- The log and replay take their new settings, and the commit is logged. -/
def State.logApplied (s old : State) : State :=
  let s := if s.inReplay && !old.inReplay then s.replayStart else if old.inReplay && !s.inReplay then s.replayLeave else s
  let on : State → Bool := fun x => x.logMode ≠ 0 && !x.inReplay
  if s.inReplay then s
  else if !on s then (if on old then s.logEnd old.logMode else s)
  else if !on old || (!s.logOn && s.moved old 0x304 1 0) then s.logBegin
  else s.logConfig

/-! ### The commit (R347, R348) -/

/-- The harbourmaster's record of a commit (Table 17-5). -/
def State.cfgLog (s : State) (st : Status) : State :=
  let r := s.cfgOwner
  s.hmLog 0x03 none r (s.roleOf r)
    (leBytes 8 s.clk.tick ++ leBytes 4 s.cfg.staged.length ++ leBytes 2 st.code ++ leBytes 4 (s.rd 0x128).toNat)

/-- The commit fails: nothing is applied and the transaction closes. An overflow names no register. -/
def State.cfgFail (s : State) (num : Nat) (a : Option Nat) (st : Status) : State :=
  let r := s.cfgOwner
  let s := (s.event 0x100 3 0x11C).put 0x100 15 8 st.code
  let s := match a with
    | some a => s.wr 0x128 (BitVec.ofNat 32 a)
    | none => s
  (s.cfgLog st).cfgClose.complete r num st

/-- Every staged value takes effect (R350). -/
def State.cfgApply (s : State) (num busy : Nat) : State :=
  let r := s.cfgOwner
  let old := s.tlySyncAll
  let s := (s.cfg.staged.foldl (fun s e => s.limitSet e.1) old.stagedView)
  let s := (s.blocksApplied old busy (s.cfg.staged.any (fun e => e.1 == 0x204))).logApplied old
  let s := ((s.count 0x118).put 0x100 15 8 0).wr64 0x12C s.clk.tick
  (s.cfgLog .success).cfgClose.complete r num .success

/-- The CFG_COMMIT that waits for its edge, once its preliminary validation has begun. -/
def State.cfgWaits (s : State) : Option Nat :=
  match s.cfg.commitNum with
  | none => none
  | some n => if s.cfgCommitting && ((s.desc s.cfgOwner n).map (fun d => d.begun)).getD false then some n else none

/-- The commit edge: the next edge's tick begins, the rules that depend on the state are checked, and
either every staged value takes effect or none does. -/
def State.commitNow (s : State) (num busy : Nat) : State :=
  let s : State := { s with clk := { s.clk with tick := s.clk.nextTick, lastEdge := s.clk.nextEdge } }
  match s.edgeCheck with
  | some (a, st) => s.cfgFail num (some a) st
  | none => s.cfgApply num busy

/-- CFG_COMMIT: the staging freezes, and preliminary validation runs (R346, R347). -/
def execCfgCommit (r : Nat) (s : State) : Host.Outcome State Fault Refusal :=
  guardI (decide (r < 8192)) (s.withDesc r 0x03 (fun s d =>
    if s.cfgOwns r && (!s.cfgCommitting || s.cfg.commitNum = some d.num) then
      let s : State := { s with cfg := { s.cfg with commitNum := some d.num, commitT := s.clk.t } }
      let s := s.put 0x100 1 1 1
      if s.flag 0x100 2 then s.cfgFail d.num none .cfgWriteInvalid
      else
        match s.prelim with
        | some (a, st) => s.cfgFail d.num (some a) st
        | none =>
          -- CFG_PENDING: a change of the tick waits for its edge (Table 01-9)
          let v := s.stagedView
          let change := decide (v.rd (timA 0x100) ≠ s.rd (timA 0x100)) || decide (v.rd (timA 0x104) ≠ s.rd (timA 0x104))
          if change then s.put (timA 0x110) 3 3 1 else s
    else s.cfgMiss r d.num))

/-- CFG_COMMIT_EDGE: the next edge is the commit edge, at least 20 µs after preliminary validation, which
ends at any time from its begin on to 100 ms later. -/
def execCfgCommitEdge (busy : Nat) (s : State) : Host.Outcome State Fault Refusal :=
  .next (match s.cfgWaits with
    | none => s
    | some n =>
      if s.clk.live && decide (s.cfg.commitT + 20000 ≤ s.clk.nextEdge) then s.atT s.clk.nextEdge (fun s => s.commitNow n busy)
      else s)

/-- A commit whose validation has had its 100 ms takes effect at this edge. -/
def State.commitDue (s : State) (busy : Nat) : State :=
  match s.cfgWaits with
  | none => s
  | some n => if s.cfg.commitT + 100020000 ≤ s.clk.nextEdge then s.commitNow n busy else s

end Sys2Proof.Machine
end

