-- ==== Sys2Proof/Machine/Registers.lean ====
section
/-!
DEFINITION. Register accesses (R2, R6, R7, R343, R344, R351, R352, R358, R359, R365, R392): what a read
returns, and what a write does. Registers that show other state of the block are computed here.
-/

namespace Sys2Proof.Machine

open Sys2Proof

/-! ### Which blocks answer -/

/-- The compute die whose block an offset lies in, its tally counters included (R2, R401). -/
def dieOf (a : Nat) : Option Nat :=
  if 0x1000000 ≤ a && a < 0x8000000 then some (a / 0x1000000 - 1)
  else if 0x910000 ≤ a && a < 0x917000 then some ((a - 0x910000) / 0x1000)
  else none

/-- The boot registers (R372). -/
def bootReg (a : Nat) : Bool := 0xA00000 ≤ a && a < 0xA00100

/-- The boot registers of a compute die (R373). -/
def dieBootReg (a : Nat) : Bool :=
  0x1900100 ≤ a && 0x900100 ≤ a % 0x1000000 && decide (a % 0x1000000 ≤ 0x900120) && a < 0x8000000

/-- MC_ID of a physical core, as die and core. -/
def mcIdOf (a : Nat) : Option (Nat × Nat) :=
  let o := a % 0x1000000
  if 0x1000000 ≤ a && a < 0x8000000 && o % 0x10000 = 0 && o / 0x10000 < 17 then some (a / 0x1000000 - 1, o / 0x10000)
  else none

/-- Writes reach the register at `a`: the block exists, its die is in service, and the package has booted;
until then only MGT_DRV_VERSION takes writes (R2, R358, R359). -/
def State.writable (s : State) (a : Nat) : Bool :=
  if !s.isReady then a = mgtA 0x18
  else match dieOf a with
    | none => true
    | some d => s.diePresent d && s.flag 4 (8 + d)

/-! ### Registers that show other state -/

/-- Word `i` of a 64-bit quantity. -/
def word (v i : Nat) : Word := BitVec.ofNat 32 (v / 2 ^ (32 * i))

/-- An integer in the two's complement form of a signed 32-bit register, saturating at ±(2^31 − 1). -/
def sat32 (v : Int) : Word := BitVec.ofNat 32 (uint 32 (clampInt (-2147483647) 2147483647 v))

/-- GLB views (Tables 15-5, 15-6, 06-17). -/
def State.glbView (s : State) (a : Nat) : Word :=
  if a = 0 then BitVec.ofNat 32 (0x5A080000 + s.fuses.stepping % 256 * 2 ^ 8 + s.fuses.cdCount)
  else if a = 4 then putBits (s.rd 4) 6 0 (2 ^ s.fuses.cdCount - 1)
  else if a = 0x104 then BitVec.ofNat 32 s.cfg.staged.length
  else if a = 0x10C then
    BitVec.ofNat 32 (if s.cfgOpen && !s.cfgCommitting then (s.cfg.openRef + 10000000000 - s.clk.ref) / 1000000 else 0)
  else if a = 0x240 then
    BitVec.ofNat 32 ((s.jobs.filter (fun j => !j.classC)).length * 2 ^ 16 + (s.jobs.filter (fun j => j.classC)).length)
  else s.rd a

/-- Ring and MSI-X views (Tables 14-11, 14-12, R323). -/
def State.hifView (s : State) (a : Nat) : Word :=
  if 0x148000 ≤ a && a < 0x148100 then
    BitVec.ofNat 32 ((s.hif.msiPend.filter (fun v => v / 32 == (a - 0x148000) / 4)).foldl (fun n v => setBitN n (v % 32)) 0)
  else if a < 0x180000 then s.rd a
  else
    let r := (a - 0x180000) / 0x40
    let o := a % 0x40
    if o = 0x14 then putBits (s.rd a) 31 31 (b2n (s.installer r))
    else if o = 0x18 then putBits (s.rd a) 0 0 (b2n (s.ringBusy r))
    else if o = 0x24 then
      BitVec.ofNat 32 ((s.jobs.filter (fun j => j.ring == r && !j.silent)).length * 2 ^ 17 + (s.ring r).fl.length)
    else s.rd a

/-- TIM views (Tables 01-8, 10-4 to 10-6). -/
def State.timView (s : State) (a : Nat) : Word :=
  if a = domA 0 0x10 then sat32 (s.dom 0).off
  else if a = domA 1 0x10 then sat32 (s.dom 1).off
  else if a = timA 0x94 then BitVec.ofNat 32 s.holdMs
  else if a = timA 0xA0 then word s.clk.t 0
  else if a = timA 0xA4 then word s.clk.t 1
  else if a = timA 0x108 then word s.clk.tick 0
  else if a = timA 0x10C then word s.clk.tick 1
  else s.rd a

/-- What a transmit buffer shows (Table 12-7): its control word, or its identifier. -/
def bufView (x : Option CanBuf) (id : Bool) : Word :=
  match x with
  | none => 0
  | some b =>
    if id then BitVec.ofNat 32 (b2n b.e.frame.ide * 2 ^ 29 + b.e.frame.id % 2 ^ 29)
    else
      let src : Nat × Nat := match b.e.src with | .safety => (0, 0) | .axis a => (1, a) | .host _ _ => (2, 0)
      BitVec.ofNat 32 (2 ^ 31 + src.1 * 2 ^ 29 + min 15 b.e.attempts * 2 ^ 8 + src.2)

/-- Frames of a launch queue that the host, or the control engine, sent. -/
def hostQueued (q : List CanTxE) : Nat := (q.filter (fun e => match e.src with | .host _ _ => true | _ => false)).length

/-- CAN views (Table 12-7). -/
def State.canView (s : State) (a : Nat) : Word :=
  let c := (a - 0x500000) / 0x1000
  let o := a % 0x1000
  let x := s.cn c
  if 0x100 ≤ o && o < 0x118 then bufView (x.bufAt ((o - 0x100) / 8)) (o % 8 = 4)
  else if o = 0x120 then putBits (s.rd a) 6 0 x.fifo.length
  else if o = 0x124 then BitVec.ofNat 32 (hostQueued x.q * 2 ^ 16 + (x.q.length - hostQueued x.q))
  else s.rd a

/-- Link views (Tables 08-9, 08-13). -/
def State.lnkView (s : State) (a : Nat) : Word :=
  if a = fabA 0xC then
    let c := s.coords s.pkgNum
    BitVec.ofNat 32 (c.getD 2 0 % 16 * 2 ^ 24 + c.getD 1 0 % 64 * 2 ^ 16 + c.getD 0 0 % 64 * 2 ^ 8)
  else if a < 0x780000 && a % 0x2000 = 4 then putBits (s.rd a) 19 16 ((s.linkDir ((a - 0x700000) / 0x2000)).getD 0xF)
  else s.rd a

/-- Views of a compute die's blocks (Tables 02-11, 03-5, 05-11, 05-14). -/
def State.cdView (s : State) (a : Nat) : Word :=
  let d := a / 0x1000000 - 1
  let o := a % 0x1000000
  let k := o / 0x10000
  let r := o % 0x10000
  if k < 17 then
    if r = 0 then putBits (s.rd a) 4 0 k
    else if r = 0x20 then BitVec.ofNat 32 (s.service + 16 * b2n (decide (s.service ≠ 0)))
    else if r = 0x60 || r = 0x64 then
      match (s.core d k).tile with
      | none => s.rd a
      | some t =>
        let n := s.busyCycles d k t.since
        BitVec.ofNat 32 (if r = 0x60 then n else n / 2 ^ 32)
    else if r = 0x4C then BitVec.ofNat 32 (s.berthBanks d k)
    else s.rd a
  else if o = 0x800004 then
    let n := fun st => ((s.berthsHeld d).filter (fun b => s.berthState d b == st)).length
    BitVec.ofNat 32 (n 2 * 2 ^ 16 + n 1)
  else s.rd a

/-- The header and directory of a held capture, and its sections as addresses and sizes (Table 16-9). -/
def Capture.head (x : Capture) : Bytes :=
  let n := x.secs.length
  let start := 64 + 32 * (n + 1)
  let total := start + (x.secs.map (·.size)).sum + x.jobs.length
  let dir := x.secs.foldl (fun (p : Bytes × Nat) c =>
    (p.1 ++ leBytes 2 4 ++ leBytes 2 (c.die * 32 + c.core) ++ leBytes 4 (b2n c.cut + 2 * c.kind) ++ leBytes 8 p.2 ++
      leBytes 8 c.size ++ leBytes 8 c.base, p.2 + c.size)) ([], start)
  leBytes 4 0x504D4455 ++ leBytes 2 1 ++ leBytes 1 2 ++ leBytes 1 (b2n x.cut) ++ leBytes 8 total ++ leBytes 8 x.tick ++
    leBytes 4 x.stamp ++ leBytes 2 x.status ++ leBytes 2 (n + 1) ++ leBytes 4 x.fw ++ leBytes 2 x.pkg ++ zeros 26 ++
    dir.1 ++ leBytes 2 5 ++ leBytes 2 0 ++ leBytes 4 0 ++ leBytes 8 dir.2 ++ leBytes 8 x.jobs.length ++ zeros 8

/-- Byte `o` of a capture's sections and job list. -/
def capByte (jobs : Bytes) : List CapSec → Nat → Byte
  | [], o => jobs.getD o 0
  | c :: l, o => if o < c.size then tget 0 c.data (c.base + o) else capByte jobs l (o - c.size)

/-- Byte `o` of a held capture. -/
def Capture.byte (x : Capture) (o : Nat) : Byte :=
  if o < x.head.length then x.head.getD o 0 else capByte x.jobs x.secs (o - x.head.length)

/-- Byte `o` of BAR4 beyond the mailbox registers (R392, Table 16-8). -/
def State.bar4Byte (s : State) (o : Nat) : Byte :=
  if 0x100000 ≤ o && o < 0x300000 then tget 0 s.hm.mbxReq (o - 0x100000)
  else if 0x300000 ≤ o && o < 0x400000 then s.hm.mbxResp.getD (o - 0x300000) 0
  else if 0x400000 ≤ o && o < 0x800000 then s.hm.crash.getD (o - 0x400000) 0
  else if 0x800000 ≤ o && o < 0x1000000 then
    match s.hm.held with
    | none => 0
    | some h => h.2.byte (s.fld (mgtA 0x30) 6 0 * 0x800000 + (o - 0x800000))
  else 0

/-- The live value of a register of a block that answers. -/
def State.blockView (s : State) (a : Nat) : Word :=
  if a < 0x100000 then s.glbView a
  else if a < 0x200000 then s.hifView a
  else if a < 0x300000 then s.timView a
  else if 0x400000 ≤ a && a < 0x500000 && a % 0x800 = 0x12C then BitVec.ofNat 32 (s.ax ((a - 0x400000) / 0x800)).q.length
  else if 0x500000 ≤ a && a < 0x600000 then s.canView a
  else if 0x700000 ≤ a && a < 0x800000 then s.lnkView a
  else if 0x900000 ≤ a && a < 0xA00000 then s.tlySyncAll.rd a
  else if 0xA00000 ≤ a && a < 0xB00000 then s.mgtView a
  else if 0x1000000 ≤ a && a < 0x8000000 then s.cdView a
  else s.rd a

/-- What the register at `a` reads before READY (R358): its reset value. PHYS_IDX resets to the core's number
(Table 02-11), INSTALLER of ring 0 to 1 (Table 14-12), and the station addresses to the fused ones (Table 19-7). -/
def resetView (a : Nat) (r : RegRow) : Word :=
  match mcIdOf a with
  | some (_, k) => BitVec.ofNat 32 (0x1F00 + k)
  | none =>
    if a = ringA 0 0x14 then BitVec.ofNat 32 (setBitN r.reset 31)
    else if r.base = 0x600010 || r.base = 0x600014 then
      word (Config.stationAddress ((a - 0x600000) / 0x4000) % 2 ^ 48) (b2n (decide (r.base = 0x600014)))
    else BitVec.ofNat 32 r.reset

/-- The live value of the register at `a`, GLB_CFG_PEEK registers apart: zero for an absent die (R2), reset
values before READY (R358), and what R359 leaves of a die held out. A reserved place reads zero. -/
def State.live' (s : State) (a : Nat) : Word :=
  if 0x10000000 ≤ a then
    let o := a - 0x10000000
    if o < 0x18 then s.rd a
    else BitVec.ofNat 32 (ofLe ((List.range 4).map (fun i => s.bar4Byte (o + i))))
  else
    match rowAt a with
    | none => 0
    | some r =>
      let d := dieOf a
      if d.any (fun d => !s.diePresent d) then 0
      else if !s.isReady then (if a = 0 || a = 4 || bootReg a then s.blockView a else resetView a r)
      else if d.all (fun d => s.flag 4 (8 + d)) then s.blockView a
      else if dieBootReg a then s.rd a
      else match mcIdOf a with
        | some _ => resetView a r
        | none => 0

/-- The offset that GLB_CFG_PEEK_ADDR names. -/
def State.peekAddr (s : State) : Nat := s.fld 0x110 27 2 * 4

/-- The live value of the register at `a` (R351 for the peek registers). -/
def State.live (s : State) (a : Nat) : Word :=
  let p := s.peekAddr
  let st := s.cfg.staged.find? (fun e => e.1 == p)
  if a = 0x110 && s.isReady then putBits (s.rd a) 0 0 (b2n st.isSome)
  else if a = 0x114 && s.isReady then
    match st with
    | some e => (match rowAt p with
      | some r => BitVec.ofNat 32 ((s.live' p).toNat - ((s.live' p).toNat &&& r.rw) + (e.2.toNat &&& r.rw))
      | none => e.2)
    | none => if p = 0x110 then putBits (s.rd p) 0 0 0 else s.live' p
  else s.live' a

/-- The register at `a` holds the upper word of a wide quantity (R6). -/
def upperWord (a : Nat) : Bool := match rowAt (a - 4) with | some r => decide (4 ≤ a) && r.wide | none => false

/-- What a read of `width` bytes at `a` returns (R6). -/
def State.readReg (s : State) (a width : Nat) : Word :=
  if width ≠ 4 || a % 4 ≠ 0 then 0
  else if upperWord a then
    match tget none s.latch a with
    | some w => w
    | none => s.live a
  else s.live a

/-! ### What a write does -/

/-- MGT_DRV_VERSION while the harbourmaster serves the host (R365). -/
def State.drvCheck (s : State) (v : Nat) : State :=
  let anyOn := s.regs.any (fun e => 0x180000 ≤ e.1 && e.1 < 0x200000 && e.1 % 0x40 == 0x10 && e.2.toNat.testBit 31)
  if anyOn then s.count (mgtA 0x20)
  else
    let ok := decide ((s.rd (mgtA 0x10)).toNat ≤ v) && decide (v ≤ (s.rd (mgtA 0x14)).toNat)
    let s := s.hmLog 0x0C none 0xFFFF 0xFF (leBytes 4 v ++ leBytes 1 (b2n ok))
    if ok then s.wr (mgtA 0x1C) 1
    else (s.wr (mgtA 0x1C) (BitVec.ofNat 32 (Status.driverVersionRefused.code * 2 ^ 24 + 2))).count (mgtA 0x20)

/-- A write of MGT_DRV_VERSION: checked at once when READY, and otherwise at READY (R358, R365). -/
def State.drvWrite (s : State) (v : Nat) : State :=
  if s.isReady then s.drvCheck v else { s with hm := { s.hm with drvWritten := some v } }

/-- MGT_DUMP_PAGE selects the capture page (R368). -/
def State.dumpPage (s : State) (v : Nat) : State := if s.isReady then s.put (mgtA 0x30) 6 0 v else s

/-- CLEAR_MARKS: the record is written with every instance in normal mode (R359). -/
def State.marksClear (s : State) : State :=
  if s.isReady then
    let r := s.bootRec
    s.putRec { r with entries := r.entries.map (fun e => { e with mark := 0 }) }
  else s

/-- GLB_CFG_PEEK_ADDR (R351). -/
def State.peekWrite (s : State) (val : Word) : State :=
  if s.isReady then s.put 0x110 27 2 (bits val 27 2) else s

/-- CTL_TRC_CFG and CTL_TRC_MASK: the memory clears and the trace starts anew (R277). -/
def State.trcWrite (s : State) (addr : Nat) (val : Word) : State :=
  match rowAt addr with
  | some r =>
    if s.isReady && (r.base == 0x400200 || r.base == 0x400204) then
      (s.wr addr (BitVec.ofNat 32 (val.toNat &&& r.rw))).trcClear ((addr - 0x400000) / 0x800)
    else s
  | none => s

/-- Whether a W1C bit can be cleared: an input's discrepancy clears only with the input back in its run
state (R305), and an output's fault only once a package reset has released the stop it caused (Table 13-8). -/
def State.w1cMask (s : State) (a w1c : Nat) : Nat :=
  if a = safA 0x64 then ((List.range 16).filter s.siRun).foldl (fun m i => setBitN m (16 + i)) 0
  else if (List.range 4).any (fun g => a == ssoA g 0xC) && s.pkgStopped then 0
  else w1c

/-- Clears W1C bits: those written 1 that hardware does not set in the same cycle (R352). Once MC_MEM_STAT
reads zero, MC_MEM_FAULT_ADDR is free again, and so is CD_ECC_FIRST_FAIL once no uncorrectable error is flagged but one
that coincides with the clear, whose address the latch then takes (R116, Table 05-10); so does GLB_DIV with a divergence
(Table 07-11). -/
def State.w1cWrite (s : State) (a val set : Nat) : State :=
  match rowAt a with
  | none => s
  | some r =>
    if r.w1c = 0 || !(s.writable a || 0x10000000 ≤ a) then s
    else
      let old := (s.rd a).toNat
      let m := old &&& val &&& s.w1cMask a r.w1c
      let s := s.wr a (BitVec.ofNat 32 (old - m + (m &&& set)))
      if r.base = 0x1000040 then (if s.fld a 2 0 = 0 then s.put (a + 8) 0 0 0 else s)
      else if r.base = 0x1900000 then (if (old - m) &&& 0xA = 0 then s.put (a + 0x18) 31 31 0 else s)
      else if a = 0x334 && (m &&& set).testBit 2 then { s with slog := { s.slog with divFree := true } }
      else s

/-- W1S request bits act at once (R343): RETRAIN, RECOVER, the tally requests and CLEAR_MARKS. -/
def State.w1sWrite (s : State) (a : Nat) (r : RegRow) (val : Nat) : State :=
  if val &&& r.w1s = 0 then s
  else if r.base = 0x700000 then
    let k := (a - 0x700000) / 0x2000
    if s.linkState k = 3 then (s.raise a 1).retraining k else s
  else if r.base = 0x500020 then s.canRecover ((a - 0x500000) / 0x1000)
  else if a = tlyA 0 then s.tlyReq val
  else if a = mgtA 0x24 then s.marksClear
  else s

/-- A direct register of BAR0 (R343). -/
def State.directWrite (s : State) (a : Nat) (r : RegRow) (val : Word) : State :=
  let v := BitVec.ofNat 32 (val.toNat &&& r.rw)
  if r.base = 0x110 then s.peekWrite val
  else if r.base = 0x180010 then s.ringCfgWrite ((a - 0x180000) / 0x40) val
  else if 0x180000 ≤ a && a < 0x200000 then (if s.ringOn ((a - 0x180000) / 0x40) || r.rw = 0 then s else s.wr a v)
  else if r.base = 0x400200 || r.base = 0x400204 then s.trcWrite a val
  else if r.rw = 0 then s
  else s.wr a v

/-- GO: the mailbox request joins the queue, or completes with the check that it fails (R391, R392). -/
def State.mbxGo (s : State) : State :=
  if s.mbxCheck ≠ .success then s.mbxDone (s.fld (mbxA 4) 15 0) s.mbxCheck []
  else ({ s with hm := { s.hm with queue := s.hm.queue ++ [.mailbox] } } : State).put (mbxA 0xC) 0 0 1

/-- A write to BAR4: mailbox registers and request area, ignored while BUSY (R392). -/
def State.bar4Write (s : State) (a : Nat) (val : Word) : State :=
  let o := a - 0x10000000
  if s.hm.phase = .reset || s.hm.phase = .tripped || s.flag (mbxA 0xC) 0 then s
  else if o = 0 then (if val.toNat.testBit 0 then s.mbxGo else s)
  else if o = 4 then s.wr a (val &&& 0xFFFF#32)
  else if o = 8 then s.wr a val
  else if o = 0xC then s.w1cWrite a val.toNat 0
  else if 0x100000 ≤ o && o < 0x300000 then
    let q := (List.range 4).foldl (fun q i =>
      tset 0 q (o - 0x100000 + i) (BitVec.ofNat 8 (val.toNat / 2 ^ (8 * i)))) s.hm.mbxReq
    { s with hm := { s.hm with mbxReq := q } }
  else s

/-- The value a write stages: bit 7 of TIMED reads 1 and ignores writes (Table 10-7). -/
def stageVal (r : RegRow) (val : Word) : Word := if r.base = 0x600200 then val ||| 0x80#32 else val

/-- A write to a register of BAR0 that takes writes (R344). -/
def State.regWrite (s : State) (a : Nat) (val : Word) : State :=
  match rowAt a with
  | none => s
  | some r =>
    if !s.writable a then s
    else if a = mgtA 0x18 then s.drvWrite val.toNat
    else if a = mgtA 0x34 then s.dumpPage (bits val 6 0)
    else
      let s := s.w1cWrite a val.toNat 0
      let s := s.w1sWrite a r val.toNat
      if r.direct then s.directWrite a r val
      else if r.txn then s.stageWrite a (stageVal r val)
      else s

/-- REGISTER_WRITE (R6, R343, R344). BAR4 stands from 0x1000_0000 on. -/
def execRegisterWrite (addr width : Nat) (val : Word) (s : State) : Host.Outcome State Fault Refusal :=
  .next (if width ≠ 4 || addr % 4 ≠ 0 then s
    else if 0x10000000 ≤ addr then s.bar4Write addr val
    else s.regWrite addr val)

/-- W1C_CLEAR: `set` holds the bits that hardware sets in the same cycle, which stay set; the event that
sets them is a command of its own and counts itself (R352). -/
def execW1cClear (addr : Nat) (val set : Word) (s : State) : Host.Outcome State Fault Refusal :=
  .next (s.w1cWrite addr val.toNat set.toNat)

/-- WIDE_LOW_WORD_READ: the low word is returned, and the upper word goes into its latch (R6). -/
def execWideLowWordRead (addr : Nat) (s : State) : Host.Outcome State Fault Refusal :=
  .next (
    match rowAt addr with
    | none => { s with lastRead := 0 }
    | some r =>
      if !r.wide then { s with lastRead := s.readReg addr 4 }
      else
        { s with lastRead := s.live addr, latch := tset none s.latch (addr + 4) (some (s.live (addr + 4))) })

/-- PEEK_ADDR_WRITE (R351). -/
def execPeekAddrWrite (val : Word) (s : State) : Host.Outcome State Fault Refusal := .next (s.peekWrite val)

/-- TRACE_CONFIG_WRITE (R277). -/
def execTraceConfigWrite (addr : Nat) (val : Word) (s : State) : Host.Outcome State Fault Refusal :=
  .next (s.trcWrite addr val)

/-- DRV_VERSION_WRITE (R365). -/
def execDrvVersionWrite (v : Nat) (s : State) : Host.Outcome State Fault Refusal :=
  .next (s.drvWrite (v % 2 ^ 32))

/-- DUMP_PAGE_SELECT (R368). -/
def execDumpPageSelect (v : Nat) (s : State) : Host.Outcome State Fault Refusal := .next (s.dumpPage v)

/-- CLEAR_MARKS (R359). -/
def execClearMarks (s : State) : Host.Outcome State Fault Refusal := .next s.marksClear

end Sys2Proof.Machine
end

