-- ==== Sys2Proof/Machine/Boot.lean ====
section
/-!
DEFINITION. Resets and the boot sequence (R117, R355 to R364, R378, R412 to R415).
-/

namespace Sys2Proof.Machine

open Sys2Proof

/-! ### Hot reset and function-level reset (R357) -/

/-- A number that no fetched descriptor carries: what waits on a descriptor of a reset ring completes
nothing. -/
def orphan (n : Nat) : Nat := n % 2 ^ 32 + 2 ^ 32

/-- A frame's source once the rings are reset. -/
def TxSrc.orphaned : TxSrc → TxSrc
  | .host r n => .host r (orphan n)
  | x => x

/-- A segment once the rings are reset. -/
def Seg.orphaned (g : Seg) : Seg :=
  match g.src with
  | .desc n => { g with src := .desc (orphan n) }
  | .job _ _ _ => g

/-- An axis once the rings are reset: its work continues without completions. -/
def Axis.orphaned (x : Axis) : Axis :=
  { x with
    enWait := x.enWait.map (fun e => (e.1, orphan e.2))
    disWait := x.disWait.map (fun e => (e.1, orphan e.2))
    q := x.q.map Seg.orphaned
    cur := x.cur.map (fun c => { c with seg := c.seg.orphaned }) }

/-- A queued CAN frame once the rings are reset. -/
def CanTxE.orphaned (e : CanTxE) : CanTxE := { e with src := e.src.orphaned }

/-- A CAN controller once the rings are reset. -/
def Can.orphaned (x : Can) : Can :=
  { x with q := x.q.map CanTxE.orphaned, buf := x.buf.map (fun b => b.map (fun f => { f with e := f.e.orphaned })) }

/-- A job whose completions, events and releases are discarded. Its regions are those it holds now. -/
def State.jobOrphan (s : State) (j : Job) : Job :=
  let kept := (s.coreRegions j).filter (fun r => regionKind r.base == 1)
  { j with num := orphan j.num, releasers := [], rows := [], pins := j.pins ++ kept }

/-- Registers of the HIF block that a hot reset leaves: the counters (R340). -/
def hifCounter (a : Nat) : Bool := a = 0x10000C || a = 0x100010 || a = 0x100014 || (0x180000 ≤ a && a % 0x40 = 0x28)

/-- The table stops and both banks are emptied. -/
def State.cycEmpty (s : State) : State :=
  let s := (((s.put 0x208 26 16 0).put 0x208 2 0 0).wr 0x20C 0).wr 0x210 0
  let s := (List.range 7).foldl (fun s d => s.wr (glbA (0x220 + 4 * d)) 0) s
  { s with bank0 := [], bank1 := [], comp := { s.comp with cycNext := none } }

/-- Every retained package is released, with its sequences (R138). -/
def State.pkgsGone (s : State) : State :=
  let s := s.comp.kv.seqs.foldl (fun s e => s.dropSeq e.1) s
  let homes := s.comp.pkgs.filterMap (fun e => e.2.map (·.home))
  let s : State := { s with comp := { s.comp with pkgs := [] } }
  (s.inService.foldl State.kvIdle s).dirtyAdd homes

/-- What waits on descriptors of the rings goes on without them. -/
def State.ringsGone (s : State) : State :=
  let s : State := { s with
    axes := s.axes.map (fun e => (e.1, e.2.orphaned))
    can := s.can.map (fun e => (e.1, e.2.orphaned))
    eth := s.eth.map (fun e => (e.1, { e.2 with q := e.2.q.map (fun f => { f with src := f.src.orphaned }) }))
    slog := { s.slog with posts := [] }
    comp := { s.comp with
      scrubs := s.comp.scrubs.map (fun x => { x with num := orphan x.num })
      lost := s.comp.lost.map s.jobOrphan }
    hm := { s.hm with queue := s.hm.queue.filter (fun q => match q with | .mailbox => true | .ring _ _ => false) }
    jobs := s.jobs.map s.jobOrphan
    hif := ⟨[], [], s.hif.msiLast⟩ }
  let s := match s.hm.update with
    | some u => (match u.owner with | .ring _ _ => if u.activated then s else s.dropUpdate u | .mailbox => s)
    | none => s
  match s.hm.maker with
  | some m => if m.ring = 0xFFFF then s else s.makerStop
  | none => s

/-- A hot or function-level reset. `link` says that the PCI Express link goes down with it. -/
def State.hostReset (s : State) (link : Bool) : State :=
  if !s.isReady then s
  else
    let l := s.rd (hifA 0)
    let s := s.ringsGone
    let s : State := { s with regs := s.regs.filter (fun e => !(0x100000 ≤ e.1 && e.1 < 0x200000 && !hifCounter e.1)) }
    let s := if link then s else s.wr (hifA 0) l
    let s := s.cycEmpty
    let js := s.jobs
    let s := js.foldl (fun s j => (s.report j .jobCancelled).endSoon j.id .jobCancelled) s
    let s := s.pkgsGone
    let s := if s.cfgOpen then (s.cfgClose.put 0x100 1 1 0) else s
    let s : State := { s with cfg := { s.cfg with timedOut := none }, hm := { s.hm with drvWritten := none } }
    s.wr (mgtA 0x1C) 0

/-- HOT_RESET: PCIe hot reset, PERST# or link disable (R355, R357). -/
def execHotReset (s : State) : Host.Outcome State Fault Refusal := .next (s.hostReset true)

/-- FUNCTION_LEVEL_RESET: the link stays trained (R357). -/
def execFunctionLevelReset (s : State) : Host.Outcome State Fault Refusal := .next (s.hostReset false)

/-! ### Power and the reset inputs (R355, R413, R414) -/

/-- POWER_ON: the supplies reach their levels; only flash and fuses survive. -/
def execPowerOn (s : State) : Host.Outcome State Fault Refusal :=
  .next { State.reset with
    pending := s.pending, out := s.out, free := s.free + 1, flash := s.flash, fuses := s.fuses }

/-- RESET_INPUT: RESET_N (`rst`) or PWROK low for `ns`; shorter than 1 µs it is ignored (R414). A loss of
PWROK reports as power-on. A package already in reset stays in it. -/
def execResetInput (rst : Bool) (ns : Nat) (s : State) : Host.Outcome State Fault Refusal :=
  .next (if ns < 1000 || s.hm.phase = .reset || s.hm.phase = .tripped then s
    else s.packageReset (b2n rst) .reset)

/-! ### Boot steps (R358, R359) -/

/-- The limit of a step instance, µs (Table 16-2). -/
def stepLimit (step : Nat) : Nat :=
  [0, 1000, 100000, 50000, 1000000, 100000, 50000, 50000, 500000, 400000, 20000, 200000, 50000, 1000].getD step 0

/-- The result of a step instance; one that the operand does not list passes, and one that exceeds its limit fails
(R358). -/
def stepRes (l : List StepResult) (step unit : Nat) : StepResult :=
  let r := (l.find? (fun x => x.step == step && x.unit == unit)).getD ⟨step, unit, true, 0, 0⟩
  { r with ok := r.ok && decide (r.micros ≤ stepLimit step) }

/-- A boot under way: the record, the dies held out with the step that held each, and whether a required
instance failed in normal mode. -/
structure Booting where
  rec_ : BootRec
  out : List (Nat × Nat)
  failed : Bool
  deriving DecidableEq, Repr

/-- Writes an instance's entry. -/
def bootEntry (x : Booting) (r : StepResult) (outcome mark detail : Nat) : Booting :=
  let e : BootEntry := ⟨r.step, r.unit, outcome, mark, detail, x.rec_.bootCount, r.micros⟩
  { x with rec_ := { x.rec_ with entries := entryPut e x.rec_.entries } }

/-- An entry found STARTED counts as FAILED (R359). -/
def startedFails (e : BootEntry) : BootEntry :=
  if e.outcome ≠ 1 then e
  else
    let mark := if e.step = 11 || e.step = 12 then 2 else if e.step = 10 then 3
      else if 5 ≤ e.step && e.step ≤ 9 && e.mark = 0 then 1 else e.mark
    { e with outcome := 3, mark := mark }

/-- The compute die that an instance of steps 6 to 10 belongs to. -/
def entryDie (e : BootEntry) : Option Nat :=
  if e.step = 8 then some (e.unit / 8) else if 6 ≤ e.step && e.step ≤ 10 then some e.unit else none

/-- Dies whose record entry says out of service, with the entry's step. -/
def markedOut (l : List BootEntry) : List (Nat × Nat) :=
  (l.filter (fun e => e.mark == 3)).filterMap (fun e => (entryDie e).map (fun d => (d, e.step)))

/-- Runs one instance of a required step on die `d`. -/
def bootInst (l : List StepResult) (step d unit : Nat) (detail : Nat) (x : Booting) : Booting :=
  if x.out.any (fun o => o.1 == d) then x
  else
    let r := stepRes l step unit
    let alt := decide ((x.rec_.entry step unit).mark = 1)
    if r.ok then bootEntry x r 2 (b2n alt) (if step = 10 then detail else r.detail)
    else if step = 10 then { bootEntry x r 3 3 r.detail with out := x.out ++ [(d, 10)] }
    else if alt then { bootEntry x r 3 1 r.detail with out := x.out ++ [(d, step)] }
    else { bootEntry x r 3 1 r.detail with failed := true }

/-- Units of a step on die `d`. -/
def stepUnits (step d : Nat) : List Nat := if step = 8 then (List.range 8).map (fun c => d * 8 + c) else [d]

/-- A core as its self-test leaves it. -/
def testedCore (tests : List SelfTest) (d k : Nat) : Core :=
  match tests.find? (fun t => t.die == d && t.core == k) with
  | some t => { Core.init with failed := (List.range 66).filter (fun c => t.cols.contains c), unitFailed := t.unitFail }
  | none => Core.init

/-- Cores of a die that the self-test retires. -/
def retiredCores (tests : List SelfTest) (d : Nat) : Nat :=
  ((List.range 17).filter (fun k => (testedCore tests d k).grade == 2)).length

/-- Runs a required step on every present die. A step after a failure in normal mode does not run. -/
def bootStep (l : List StepResult) (tests : List SelfTest) (dies : List Nat) (x : Booting) (step : Nat) : Booting :=
  if x.failed then x
  else dies.foldl (fun x d =>
    (stepUnits step d).foldl (fun x u => bootInst l step d u (retiredCores tests d) x) x) x

/-- Runs one instance of an optional step (R359). -/
def bootOpt (l : List StepResult) (step : Nat) (x : Booting) (unit : Nat) : Booting :=
  let r := stepRes l step unit
  if (x.rec_.entry step unit).mark = 2 then bootEntry x { r with micros := 0 } 4 2 0
  else if r.ok then bootEntry x r 2 0 r.detail
  else bootEntry x r 3 2 r.detail

/-! ### Booting -/

/-- The status of an image slot at step 4: R363, or the step's own failure with the status it reports. -/
def State.slotStatus (s : State) (l : List StepResult) (n : Nat) : Status :=
  let r := stepRes l 4 n
  if r.ok then s.verifySlot n else (Status.ofCode r.detail).getD .imageSignatureInvalid

/-- Shows MGT_BOOT_STAT and MGT_BOOT_COUNT. -/
def State.bootShow (s : State) (status step slot flags : Nat) (count : Nat) : State :=
  (s.wr (mgtA 0) (BitVec.ofNat 32 (status * 2 ^ 24 + s.hm.cause * 2 ^ 20 + step * 2 ^ 16 + slot * 2 + flags))).wr (mgtA 4)
    (BitVec.ofNat 32 count)

/-- The recovery state (R364). -/
def State.recover (s : State) (x : Booting) (step pref : Nat) (st : Status) : State :=
  let s := s.putRec x.rec_
  let s : State := { s with hm := { s.hm with phase := .recovery } }
  s.bootShow st.code step pref 4 x.rec_.bootCount

/-- The set-point of a compute die's rail at step 6, mV (R378): nominal in alternate mode. -/
def State.railSet (s : State) (x : Booting) (d : Nat) : Nat :=
  if (x.rec_.entry 6 d).mark = 1 then 750 else (((tget [] s.flash.margins d).getLast?).map (·.vnew)).getD 750

/-- The rails rise: LP_EN[0], LP_EN[1], then CD_EN of each present die (Table 19-4), each regulator set first (R412);
those of a die held out go down again. -/
def State.railsUp (s : State) (dies : List Nat) (x : Booting) : State :=
  let s := (((s.emit (.vout 0x4A 1050)).emit (.lpEn 0 true)).emit (.vout 0x4B 500)).emit (.lpEn 1 true)
  let s := dies.foldl (fun (s : State) d => (s.emit (.vout (0x40 + d) (s.railSet x d))).emit (.cdEn d true)) s
  let gone := dies.filter (fun d => x.out.any (fun o => o.1 == d))
  let s := gone.foldl (fun (s : State) d => s.emit (.cdEn d false)) s
  { s with hm := { s.hm with lpEn := 3, cdEn := (dies.filter (fun d => !gone.contains d)).foldl setBitN 0 } }

/-- Set-points that MGT_VMON shows. -/
def State.vmonShow (s : State) (dies : List Nat) (x : Booting) : State :=
  let s := dies.foldl (fun s d => s.put (mgtA (0x340 + 4 * d)) 31 16 (s.railSet x d)) s
  let fixed : List (Nat × Nat) := [(7, 750), (8, 900), (9, 1800), (10, 1050), (11, 500), (12, 1800), (13, 3300)]
  fixed.foldl (fun s e => s.put (mgtA (0x340 + 4 * e.1)) 31 16 e.2) s

/-- The boot registers of one present die (Table 16-13). EXTRA_NS in conservative mode is at most 20 (R362),
and otherwise free. -/
def State.dieShow (s : State) (x : Booting) (d : Nat) : State :=
  let held := x.out.find? (fun o => o.1 == d)
  let alt := fun step unit => decide ((x.rec_.entry step unit).mark = 1)
  let s := (List.range 8).foldl (fun s c =>
    let e := x.rec_.entry 8 (d * 8 + c)
    let now := decide (e.bootNum = x.rec_.bootCount)
    let v := if !now || e.outcome = 0 then 0
      else if e.outcome = 3 then 2
      else if alt 8 (d * 8 + c) then Config.freeNat (s.free + c) % 21 * 2 ^ 16 + 5 else 4
    s.wr (eccA d (0x100 + 4 * c)) (BitVec.ofNat 32 v)) s
  s.wr (eccA d 0x120) (BitVec.ofNat 32 (b2n held.isNone * 2 ^ 31 + b2n (alt 9 d) * 2 ^ 6 + b2n (alt 7 d) * 2 ^ 5 +
    b2n (alt 6 d) * 2 ^ 4 + (held.map (·.2)).getD 0))

/-- The harbourmaster's BOOT records: this boot's entries, LAST_CAUSE and the slot (Table 17-5). -/
def bootChunks : Nat → List BootEntry → List (List BootEntry)
  | 0, _ => []
  | n + 1, l => if l.isEmpty then [] else l.take 13 :: bootChunks n (l.drop 13)

/-- The bytes of a record entry (Table 16-4). -/
def BootEntry.bytes (e : BootEntry) : Bytes :=
  leBytes 1 e.step ++ leBytes 1 e.unit ++ leBytes 1 e.outcome ++ leBytes 1 e.mark ++ leBytes 2 e.detail ++ zeros 2 ++
    leBytes 4 e.bootNum ++ leBytes 4 e.duration

/-- Writes the BOOT records. -/
def State.bootLog (s : State) (x : Booting) (slot : Nat) : State :=
  let es := x.rec_.entries.filter (fun e => e.bootNum == x.rec_.bootCount)
  (bootChunks es.length es).foldl (fun s c =>
    s.hmLog 0x01 none 0xFFFF 0xFF (c.flatMap BootEntry.bytes ++ leBytes 1 s.hm.cause ++ leBytes 1 slot)) s

/-- Step 13: the dies are released, the tick unit starts on local time, READY (R15, R358). -/
def State.release (s : State) (x : Booting) (tests : List SelfTest) (slot : Nat) : State :=
  let x := bootEntry x (stepRes [] 13 0) 2 0 0
  let dies := List.range s.fuses.cdCount
  let live := dies.filter (fun d => !x.out.any (fun o => o.1 == d))
  let h := s.slotBytes slot 0 8192
  let s := s.putRec x.rec_
  let s := (s.railsUp dies x).vmonShow dies x
  let s := (dies.foldl (fun s d => s.dieShow x d) s).bump
  let s := s.put 4 14 8 (live.foldl setBitN 0)
  let s := live.foldl (fun s d =>
    let s := s.put (eccA d 0) 8 8 1
    let s := (List.range 17).foldl (fun s k =>
      let c := testedCore tests d k
      s.selfTest ⟨d, k, c.failed, c.unitFailed⟩ false) s
    s.coreMap d) s
  let s := (List.range 12).foldl (fun s k =>
    if (x.rec_.entry 11 k).outcome = 4 then s else (s.put (lnkA k 0) 0 0 1).setLinkState k 1) s
  let s := (List.range 4).foldl (fun s p => s.wr64 (ethA p 0x10) (Config.stationAddress p % 2 ^ 48)) s
  let s := (s.wr (mgtA 8) (BitVec.ofNat 32 (le h 8 4))).wr (mgtA 0xC) (BitVec.ofNat 32 (s.fuses.svn % 256 * 2 ^ 8 + le h 12 4 % 256))
  let s := (s.wr (mgtA 0x10) (BitVec.ofNat 32 (le h 16 4))).wr (mgtA 0x14) (BitVec.ofNat 32 (le h 20 4))
  let s : State := { s with
    clk := { Clk.init with ref := s.clk.ref, live := true }
    hm := { s.hm with phase := .ready, image := some h } }
  let s := (s.bootShow 0 13 slot 1 x.rec_.bootCount).bootLog x slot
  match s.hm.drvWritten with
  | some v => s.drvCheck v
  | none => s

/-- A self-reset (R359). -/
def State.selfReset (s : State) : State :=
  let s := s.logFlush.packageReset 4 .reset
  { s with hm := { s.hm with resetDue := s.clk.ref + 11050000 } }

/-- Steps 1 to 13. -/
def State.boot (s : State) (l : List StepResult) (tests : List SelfTest) : State :=
  let s := (if s.hm.cause = 3 then s.emit (.trip false) else s).logResume
  let old : BootRec := if (stepRes l 3 0).ok then s.bootRec else ⟨s.bootRec.generation, 0, 0, 0, 0, []⟩
  let es := old.entries.map startedFails
  let r : BootRec := { old with bootCount := old.bootCount + 1, lastCause := s.hm.cause, entries := es }
  let x : Booting := ⟨r, markedOut es, false⟩
  let x := [1, 2].foldl (fun x n => bootEntry x (stepRes l n 0) (if (stepRes l n 0).ok then 2 else 3) 0 (stepRes l n 0).detail) x
  let x := bootEntry x (stepRes l 3 0) (if (stepRes l 3 0).ok then 2 else 3) 0 (stepRes l 3 0).detail
  let pref := r.preferred % 2
  let alt := decide ((r.entry 5 0).mark = 1)
  let first := if alt then 1 - pref else pref
  let stP := s.slotStatus l pref
  let st0 := s.slotStatus l first
  let st1 := s.slotStatus l (1 - first)
  let x := bootEntry x (stepRes l 4 first) (if st0 = .success then 2 else 3) 0 st0.code
  let x := if st0 = .success then x else bootEntry x (stepRes l 4 (1 - first)) (if st1 = .success then 2 else 3) 0 st1.code
  if st0 ≠ .success && st1 ≠ .success then s.recover x 4 pref stP
  else
    let slot := if st0 = .success then first else 1 - first
    let r := { x.rec_ with lastSlot := slot, preferred := if stP = .success then pref else slot }
    let x := { x with rec_ := r }
    let f := stepRes l 5 0
    if !f.ok && alt then s.recover (bootEntry x f 3 1 f.detail) 5 pref stP
    else if !f.ok then (s.putRec (bootEntry x f 3 1 f.detail).rec_).selfReset
    else
      let x := bootEntry x f 2 (b2n alt) f.detail
      let dies := List.range s.fuses.cdCount
      let x := [6, 7, 8, 9, 10].foldl (bootStep l tests dies) x
      let x := (List.range 12).foldl (bootOpt l 11) x
      let x := (List.range 4).foldl (bootOpt l 12) x
      if x.failed then ((s.putRec x.rec_).railsUp dies x).selfReset
      else s.release x tests slot

/-- RESET_RELEASE: PWROK and RESET_N read high. It takes effect once the rails are down (R414), and not in
the hold after a thermal trip (R371). -/
def execResetRelease (steps : List StepResult) (tests : List SelfTest) (s : State) :
    Host.Outcome State Fault Refusal :=
  .next (if s.hm.phase = .reset then s.atRef s.hm.resetDue (fun s => s.boot steps tests) else s)

end Sys2Proof.Machine
end

