-- ==== Sys2Proof/Machine/Activate.lean ====
section
/-!
DEFINITION. What an edge does for the compute side: class C outputs become visible (R178), a table
change takes effect (R155), activations start and bind their inputs (R22, R153, R177, R235, R314),
missing publications are noticed (R308), and the lead's heartbeats (R214, R215).
-/

namespace Sys2Proof.Machine

open Sys2Proof

/-! ### Activations that end (R155, R178) -/

/-- The tiles of an activation that is over keep their cores to their boundary, for no job. -/
def State.orphanTiles (s : State) (id : Nat) : State :=
  { s with comp := { s.comp with cores := s.comp.cores.map (fun e =>
      (e.1, { e.2 with tile := e.2.tile.map (fun t => if t.job = id then { t with job := 0 } else t) })) } }

/-- In deterministic mode the outputs of job `id`'s completed activation become visible at the edge that ends
its last slot (R178); a logged overrun stops it in replay (R189). -/
def State.detPublish (s : State) (id : Nat) : State :=
  match s.job id with
  | none => s
  | some j =>
    match j.act with
    | none => s
    | some a =>
      if !a.done || s.clk.tick < a.stop then s
      else if s.loggedOverrun j.key a.num then s.actEnd id
      else s.publish id

/-- An activation that has not completed by the end of its last entry stops (R29). -/
def State.actStop (s : State) (id : Nat) : State :=
  match s.job id with
  | none => s
  | some j =>
    match j.act with
    | none => s
    | some a =>
      if a.done || a.overran || s.clk.tick < a.stop then s
      else
        let s := s.updJob id (fun j => { j with act := some { a with overran := true } })
        if s.jobRuns id then s else s.actEnd id

/-! ### The table (R155) -/

/-- GLB_CYC_RESV follows the running table: the cores that its jobs reserve (Table 06-17). -/
def State.resvShow (s : State) : State :=
  let js := s.jobs.filter (fun j => s.runEntries.any (fun e => e.job == j.id))
  (List.range 7).foldl (fun s d =>
    s.wr (glbA (0x220 + 4 * d)) (BitVec.ofNat 32 ((js.map (fun j => j.masks.getD d 0)).foldl (· ||| ·) 0))) s

/-- A table change takes effect now. -/
def State.cycSet (s : State) (next : Option Nat) : State :=
  let s := match next with
    | some b => (((s.put 0x208 0 0 1).put 0x208 1 1 b).put 0x208 2 2 0).put 0x208 26 16 (cycLen (s.bank b))
    | none => (s.put 0x208 2 0 0).put 0x208 26 16 0
  ({ s with comp := { s.comp with cycNext := none } } : State).resvShow

/-- CYCLIC_TABLE_SWITCH: a committed change takes effect at the first tick n with n mod L = 0, L the new
table's length, or the running one's when none follows (R155). -/
def State.cycSwitch (s : State) : State :=
  match s.comp.cycNext with
  | none => s
  | some next =>
    let l := match next with
      | some b => cycLen (s.bank b)
      | none => (match s.runTable with | some b => cycLen b | none => 1)
    if s.clk.tick % l = 0 then ((s.jobs.map (fun j => j.id)).foldl State.actStop s).cycSet next else s

/-! ### Binding (R22, R177, R189, R235) -/

/-- What a binding gives: the ring slot, and whether it is late. -/
structure Binding where
  slot : Option Nat
  late : Bool
  deriving DecidableEq, Repr

/-- The newest of a ring's samples that satisfy `f`. -/
def Strm.newest (x : Strm) (f : RingSlot → Bool) : Option (Nat × RingSlot) :=
  bestBy (fun a b => decide (b.2.num < a.2.num)) (x.held.filter (fun e => f e.2))

/-- The tensor of a slot was complete at the present edge. -/
def State.bindable (s : State) (r : RingSlot) : Bool := r.full && decide (r.done ≤ s.clk.lastEdge)

/-- The binding that R22, or R177 in deterministic mode, gives a stream at the present edge. -/
def State.bindRule (s : State) (st : Nat) : Binding :=
  let x := s.strm st
  if s.det then
    let old : RingSlot → Bool := fun r => decide (r.stamp + s.bindLag < s.clk.lastEdge)
    let first := x.newest old
    ⟨(x.newest (fun r => old r && s.bindable r)).map (fun e => e.1),
      match first with | some e => !s.bindable e.2 | none => false⟩
  else ⟨(x.newest s.bindable).map (fun e => e.1), false⟩

/-- The logged BIND record of an activation's stream in this tick (R189). -/
def State.bindLogged (s : State) (num st : Nat) : Option LogRec :=
  if s.inReplay then
    s.slog.ticks.find? (fun r => r.type == 9 && le r.payload 0 4 == num && le r.payload 4 4 == st)
  else none

/-- The binding of an activation's stream. In replay the BIND record decides it; a late binding that the
log does not hold sets TIMING_DIV (R189). -/
def State.bindOf (s : State) (num st : Nat) : Binding × Bool :=
  let b := s.bindRule st
  match s.bindLogged num st with
  | none => (b, s.inReplay && b.late)
  | some r =>
    let want := le r.payload 8 4
    if want = 0 then (⟨none, r.flags.testBit 0⟩, false)
    else
      match (s.strm st).newest (fun x => x.num == want && x.full) with
      | some e => (⟨some e.1, r.flags.testBit 0⟩, false)
      | none => (b, true)

/-- The tensor in ring slot `i` of a stream, with its header. -/
def State.slotData (s : State) (st i : Nat) : Bytes :=
  match (s.strm st).ring[i]? with
  | none => []
  | some r => s.rdBytes r.die r.base (64 + s.streamBytes st)

/-- Marks a slot's header REPEATED (Table 09-5). -/
def State.markRepeated (s : State) (st i : Nat) : State :=
  match (s.strm st).ring[i]? with
  | none => s
  | some r =>
    let a := r.base + 6
    s.wrBytes r.die a (leBytes 2 (setBitN (ofLe (s.rdBytes r.die a 2)) 2))

/-- The sample number that a binding gives. -/
def State.boundNum (s : State) (st : Nat) (i : Option Nat) : Nat :=
  match i with
  | none => 0
  | some i => (match (s.strm st).slots.getD i none with | some r => r.num | none => 0)

/-- An activation's input on a stream: a tensor with its header (Table 09-5). -/
def State.giveTensor (s : State) (j : Job) (b : Bind) (x : Bytes) : State :=
  (s.updJob j.id (fun j => { j with
    act := j.act.map (fun a => { a with heads := a.heads ++ [(b.stream, x.take 64)] }) })).fillTensor j b.tensor (x.drop 64)

/-- The neutral tensor of a binding for which the ring holds none (R235): NEUTRAL, SAMPLE_NUM 0. Its stamp and RTP
timestamp are those of no sample, and free. -/
def State.giveNeutral (s : State) (j : Job) (b : Bind) : State :=
  let x : Sample := { Sample.start (Config.freeNat (s.free + 3)) with
    stamp := Config.freeNat (s.free + 4), uncert := Config.freeNat (s.free + 5), tick := Config.freeNat (s.free + 6)
    roi := (s.strm b.stream).roi }
  let s := s.giveTensor j b (s.neutralTensor b.stream x 2 0)
  { s with free := s.free + 7 }

/-- SAMPLE_BINDING: one stream input of an activation takes its tensor (R22, R177, R235). -/
def State.bindStream (j : Job) (num : Nat) (s : State) (b : Bind) : State :=
  let st := b.stream
  let x := s.bindOf num st
  let s := if x.1.late then s.event 0x308 4 0x314 else s
  let s := if x.1.late && !s.inReplay then s.event 0x308 5 0x320 else s
  let s := if x.2 then s.event 0x334 3 0x33C else s
  let s := s.slogAdd 0x09 (b2n x.1.late) st s.now32 0 (leBytes 4 num ++ leBytes 4 st ++ leBytes 4 (s.boundNum st x.1.slot))
  match x.1.slot with
  | none => (s.count (ingA st 0xCC)).giveNeutral j b
  | some i =>
    let s := if (s.strm st).bound = some i then s.markRepeated st i else s
    let s := s.setStrm st { s.strm st with bound := some i }
    s.giveTensor j b (s.slotData st i)

/-- The canary tensor that a canary activation binds on a stream: complete at the edge, and in
deterministic mode with its stamp before the edge by more than BIND_LAG (R313). -/
def State.canaryTensor (s : State) (st : Nat) : Option Bytes :=
  match (s.sst st).canary, (s.sst st).tensor with
  | some (_, t), some (b, done) =>
    if done ≤ s.clk.lastEdge && (!s.det || decide (t + s.bindLag < s.clk.lastEdge)) then some b else none
  | _, _ => none

/-- One canary input of a canary activation; without a canary it is a neutral tensor (R314). -/
def State.bindCanary (j : Job) (s : State) (b : Bind) : State :=
  match s.canaryTensor b.stream with
  | some t =>
    (s.updJob j.id (fun j => { j with
      act := j.act.map (fun a => { a with canaries := a.canaries ++ [b.stream] }) })).giveTensor j b t
  | none => s.giveNeutral j b

/-! ### Activations that start (R153) -/

/-- ACTIVATION_START: a START entry's tick. An activation of the job that is still incomplete is over. -/
def State.actStart (s : State) (es : List CycEntry) (e : CycEntry) : State :=
  let s := (match s.job e.job with
    | some j => if j.act.isSome then (s.actEnd e.job).orphanTiles e.job else s
    | none => s)
  match s.job e.job with
  | none => s
  | some j =>
    if j.ending.isSome then s
    else
      let num := s.slog.actNum
      let slots := (actEntries es e).map (fun x => (s.clk.tick + (x.off - e.off), s.clk.tick + (x.off - e.off) + x.span))
      let a : Act := ⟨num, s.clk.tick, e.kind, slots, false, false, none, s.clk.t, [], []⟩
      let plan := j.plan.map (fun t => { t with st := 0 })
      let s : State := { s with slog := { s.slog with actNum := num + 1 } }
      let s := s.updJob j.id (fun j => { j with
        tick := s.clk.tick, phase := .running, plan := plan, level := 0, collWait := false, colls := [], act := some a })
      let s := (j.binds.filter (fun b => b.kind == 3)).foldl (State.bindStream j num) s
      let s := if e.kind = 1 then (j.binds.filter (fun b => b.kind == 5)).foldl (State.bindCanary j) s else s
      s.stepLevels j.id

/-- The activations that start at the present tick. -/
def State.actStarts (s : State) : State :=
  let es := s.runEntries
  (es.filter (fun e => e.start && e.off == s.cycPos)).foldl (fun s e => s.actStart es e) s

/-- Without a running table stage 3 misses a publication at every frame tick (R17, R308). -/
def State.percFrame (s : State) : State :=
  if s.runTable.isNone && s.clk.tick % max 1 (s.fld (timA 0x100) 26 16) = 0 then s.percMissed else s

/-! ### Heartbeats (R214, R215) -/

/-- The other packages of the spanning jobs that this package leads, each once. -/
def State.memberPkgs (s : State) : List Nat :=
  (s.jobs.filter (fun j => j.member.isNone)).foldl (fun l j =>
    j.span.foldl (fun l p => if p = s.pkgNum || l.contains p then l else l ++ [p]) l) []

/-- The lead sends its heartbeats, and each package counts another tick unheard while spanning jobs bind it. -/
def State.heartbeats (s : State) : State :=
  let ps := s.memberPkgs
  let f := s.comp.fab
  let lead := if s.jobs.any (fun j => j.member.isSome) then f.leadTicks + 1 else 0
  let mem := ps.foldl (fun t p => tset 0 t p (tget 0 f.member p + 1)) []
  let s := s.setFab { f with leadTicks := lead, member := mem }
  ps.foldl State.sendHeartbeat s

end Sys2Proof.Machine
end

