-- ==== Sys2Proof/Machine/Replay.lean ====
section
/-!
DEFINITION. Replay (R187 to R191): one tick's logged records delivered at its edge, logged jobs submitted
again, recorded timing outcomes applied, digests compared and the first divergence latched.
-/

namespace Sys2Proof.Machine

open Sys2Proof

/-- GLB_REPLAY_STAT.RUNNING, in replay mode. -/
def State.replaying (s : State) : Bool := s.inReplay && s.flag 0x334 0

/-- Replay stops: DONE, with the status that ended it, 0 for none. -/
def State.replayStop (s : State) (code : Nat) : State :=
  ((s.put 0x334 0 0 0).put 0x334 1 1 1).put 0x334 31 24 code

/-! ### Divergence (R190) -/

/-- The key of a DIGEST record. -/
def LogRec.digestKey (r : LogRec) : List Nat :=
  [le r.payload 16 8, le r.payload 0 4, le r.payload 4 4, le r.payload 8 4, le r.payload 12 4]

/-- Lexicographic order of digest keys. -/
def keyLe : List Nat → List Nat → Bool
  | [], _ => true
  | _ :: _, [] => false
  | a :: l, b :: m => decide (a < b) || (a == b && keyLe l m)

/-- The digest of a key. -/
def digestOf (l : List (List Nat × Bytes)) (k : List Nat) : Option Bytes := (l.find? (fun e => e.1 == k)).map (fun e => e.2)

/-- The output of a key (tick, KIND, JOB_KEY, TENSOR_ID, ACTIVATION) can be made no more: its launch or its decision is
past, its activation is over, or its job is gone. -/
def State.settled (s : State) (k : List Nat) : Bool :=
  let key := k.getD 2 0
  let ended := !s.jobs.any (fun j => j.key == key && (match j.act with | some a => a.num == k.getD 4 0 | none => false))
  match k.getD 1 0 with
  | 4 => true
  | 1 => ended
  | 5 => if k.getD 3 0 = 1 then true else if k.getD 3 0 = 2 then ended else !s.jobs.any (fun j => j.key == key)
  | _ => !s.jobs.any (fun j => j.key == key)

/-- The divergent keys of a tick (R190): digests that differ, those made that the rest of the log does not hold, and those
logged whose output can be made no more. -/
def State.divergent (s : State) : List (List Nat) :=
  let final := s.slog.play.isEmpty
  let later : List Nat → Bool := fun k => s.slog.play.any (fun r => r.type == 0x0B && r.digestKey == k)
  let one := s.slog.made.filterMap (fun m => match digestOf s.slog.want m.1 with
    | some d => if d = m.2 then none else some m.1
    | none => if later m.1 then none else some m.1)
  let two := s.slog.want.filter (fun w => (digestOf s.slog.made w.1).isNone && (final || s.settled w.1))
  (one ++ two.map (fun w => w.1)).foldl (fun l k => insertBy keyLe k l) []

/-- One divergence: counted, and latched if it is the first or meets the clear of DIVERGED (Table 07-11). -/
def State.diverge (s : State) (k : List Nat) : State :=
  let s : State :=
    if s.flag 0x334 2 && !s.slog.divFree then s
    else
      let s : State := { s with slog := { s.slog with divFree := false } }
      (((s.wr64 0x340 (k.getD 0 0)).wr 0x348 (BitVec.ofNat 32 (k.getD 2 0))).wr 0x34C
        (BitVec.ofNat 32 (k.getD 1 0 % 16 * 2 ^ 28 + k.getD 3 0 % 2 ^ 20))).wr 0x350 (BitVec.ofNat 32 (k.getD 4 0))
  s.event 0x334 2 0x338

/-- DIVERGENCE_LATCH: the end of a replayed tick. Keys that both sides hold, and those that diverged, are done with. -/
def State.replayCompare (s : State) : State :=
  let m := s.slog.made
  let w := s.slog.want
  let ds := s.divergent
  let s : State := { s with slog := { s.slog with
    made := m.filter (fun e => (digestOf w e.1).isNone && !ds.contains e.1)
    want := w.filter (fun e => (digestOf m e.1).isNone && !ds.contains e.1) } }
  let s := ds.foldl State.diverge s
  if !ds.isEmpty && s.flag 0x330 1 then s.replayStop 0 else s

/-! ### The records of a tick (R188, R190) -/

/-- A gap MARK. -/
def LogRec.isGap (r : LogRec) : Bool := r.type == 0x0C && le r.payload 0 1 == 1

/-- The valid records from the front on, up to one that is invalid or that SEQ shows to be missing. -/
def validRecs : Option Nat → List LogRec → List LogRec
  | _, [] => []
  | prev, r :: l =>
    let next := match prev with
      | none => true
      | some q => r.isGap || r.seq == (q + 1) % 2 ^ 32
    if r.type = 0 || !next then [] else r :: validRecs (some r.seq) l

/-- Takes the records of the next logged tick. -/
def State.replayTake (s : State) : List LogRec × State :=
  match s.slog.play with
  | [] => ([], s)
  | h :: _ =>
    let g := s.slog.play.takeWhile (fun r => r.tick == h.tick)
    let v := validRecs ((s.slog.ticks.getLast?).map (fun r => r.seq)) g
    let want := (v.filter (fun r => r.type == 0x0B)).map (fun r => (r.digestKey, slice r.payload 24 16))
    (v, { s with slog := { s.slog with
      play := s.slog.play.drop g.length, ticks := v, outs := s.slog.outs ++ v.filter (fun r => r.type == 0x0A)
      want := s.slog.want ++ want } })

/-- Joins records of one type that a full-size payload continues. -/
def joinRecs : List LogRec → List LogRec
  | [] => []
  | r :: l =>
    match joinRecs l with
    | n :: m =>
      if r.payload.length = 65504 && r.type = n.type then { r with payload := r.payload ++ n.payload } :: m else r :: n :: m
    | [] => [r]

/-! ### CONFIG (R182, R186) -/

/-- The pairs of a CONFIG payload, and what follows them: the service state with the loaded banks. -/
def cfgPairs : Nat → Bytes → List (Nat × Nat) × Bytes
  | 0, b => ([], b)
  | n + 1, b =>
    if b.length < 8 then ([], [])
    else if le b 0 4 = 0xFFFFFFFF then ([], b.drop 4)
    else
      let x := cfgPairs n (b.drop 8)
      ((le b 0 4, le b 4 4) :: x.1, x.2)

/-- The byte string behind a length, and the rest. -/
def takePart (b : Bytes) : Bytes × Bytes := (slice b 4 (le b 0 4), b.drop (4 + le b 0 4))

/-- A cyclic table at the head of a byte string. -/
def tableAt (b : Bytes) : Bytes := b.take (32 + 16 * le b 4 4)

/-- The registers that replay keeps its own values in: GLB_MODE, GLB_LOG_CFG and GLB_REPLAY_CFG. -/
def replayOwn (a : Nat) : Bool := a == 0x200 || a == 0x304 || a == 0x330

/-- Writes the transactional bits of a register. -/
def State.cfgWrite (s : State) (a v : Nat) : State :=
  match rowAt a with
  | none => s
  | some r =>
    let old := (s.rd a).toNat
    if r.txn && !replayOwn a then s.wr a (BitVec.ofNat 32 (old - (old &&& r.rw) + (v &&& r.rw))) else s

/-- The converted limits of a CONFIG record are in force (R257). -/
def State.cfgLims (s : State) (b : Bytes) : State :=
  let s : State := { s with axes := s.axes.map (fun e => (e.1, { e.2 with vt := 0, at_ := 0, jt := 0, vw := 0 })) }
  (List.range (b.length / 20)).foldl (fun s i =>
    let v : Nat → F32 := fun k => BitVec.ofNat 32 (le b (20 * i + 4 + 4 * k) 4)
    s.setAx (le b (20 * i) 4) { s.ax (le b (20 * i) 4) with vt := v 0, at_ := v 1, jt := v 2, vw := v 3 }) s

/-- The tables of a CONFIG record come into their banks. -/
def State.cfgTables (s : State) (b : Bytes) : State :=
  let f := le b 0 4
  let l := takePart (b.drop 4)
  let t0 := if f.testBit 8 then tableAt l.2 else []
  let t1 := if f.testBit 9 then tableAt (l.2.drop t0.length) else []
  let show' : State → Nat → Bytes → State := fun s n t =>
    s.wr (glbA (0x20C + 4 * n)) (BitVec.ofNat 32 (if t.isEmpty then 0 else 2 ^ 31 + le t 4 4 * 2 ^ 16 + le t 0 4 % 2048))
  let s : State := { s.cfgLims l.1 with bank0 := t0, bank1 := t1 }
  (show' (show' s 0 t0) 1 t1).put (mgtA 0x100) 1 0 (f % 4)

/-- A CONFIG record takes effect: it is the whole configuration, so every register that it does not list holds its reset
value. The table of the first one of a replay or after a gap runs at once. -/
def State.replayConfig (s : State) (busy : Nat) (b : Bytes) : State :=
  let old := s.tlySyncAll
  let x := cfgPairs b.length b
  let s := old.configPairs.foldl (fun s e => s.cfgWrite e.1 (resetAt e.1).toNat) old
  let s := (x.1.foldl (fun s e => s.cfgWrite e.1 e.2) s).cfgTables x.2
  let s := s.blocksApplied old busy false
  if old.slog.fresh then
    let s : State := { s with slog := { s.slog with fresh := false } }
    if s.flag 0x204 0 then s.cycSet (some (s.fld 0x204 1 1)) else s
  else s

/-! ### SUBMIT (R182, R188) -/

/-- Several of them. -/
def takeParts : Nat → Bytes → List Bytes × Bytes
  | 0, b => ([], b)
  | n + 1, b =>
    let x := takePart b
    let y := takeParts n x.2
    (x.1 :: y.1, y.2)

/-- A job of a peer from its bytes. -/
def peerJobOf (b : Bytes) : PeerJob :=
  ⟨le b 0 4, le b 4 4, le b 8 8, le b 16 4, le b 20 8, le b 28 8, le b 36 8,
    (List.range ((b.length - 44) / 12)).map (fun i => (le b (44 + 12 * i) 4, le b (48 + 12 * i) 8))⟩

/-- A peer's answer from its bytes. -/
def peerOf (b : Bytes) : Peer :=
  let l := takePart (b.drop 20)
  let d := takePart l.2
  let js := (takeParts (min (le d.2 0 4) b.length) (d.2.drop 4)).1
  ⟨le b 0 4, d.1.map (fun x => x.toNat), js.map peerJobOf, (le b 4 4).testBit 0, (le b 4 4).testBit 1, (le b 4 4).testBit 2,
    (List.range (l.1.length / 8)).map (fun i => le l.1 (8 * i) 8), le b 12 8, le b 8 4⟩

/-- The descriptor of a SUBMIT record, under a number that no ring has: it completes nowhere. -/
def LogRec.desc (r : LogRec) (b : Bytes) : Inflight :=
  ⟨2 ^ 32, dTag b, dOp b, false, false, b, true, ⟨le r.payload 84 8, le r.payload 92 8, 0, []⟩⟩

/-- Submits a logged job again under its logged handle, with its live fetch. Its completion goes to no ring. `rest`: what
follows the record's parameter block and lengths table. -/
def State.replayJob (s : State) (r : LogRec) (d : Inflight) (param lengths rest : Bytes) : State :=
  let ins := takeParts (min (le rest 0 4) rest.length) (rest.drop 4)
  let ps := takeParts (min (le ins.2 0 4) rest.length) (ins.2.drop 4)
  let q : SubReq := ⟨r.source, d.num, d.bytes, 0, none, param, lengths, ins.1, ps.1.map peerOf, r.seq, r.payload, none, d.fetch.t,
    d.fetch.tick⟩
  match s.pkgByDigest (slice r.payload 68 16) with
  | none => s.subDone q .replayPackageMissing 0
  | some h => (({ s with comp := { s.comp with lastJob := le r.payload 0 4 + 65534 } } : State).subDecide { q with h := h }).1

/-- A logged descriptor takes effect again (R174, R188). -/
def State.replaySubmit (s : State) (r : LogRec) : State :=
  let b := slice r.payload 4 64
  let d := r.desc b
  let x := takePart (r.payload.drop 104)
  let y := takePart x.2
  match d.op with
  | 0x11 => s.replayJob r d x.1 y.1 y.2
  | 0x12 => s.replayJob r d x.1 y.1 y.2
  | 0x13 => s.releaseJob r.source d
  | 0x20 => s.axisCmd r.source (le b 9 1) (le b 8 1) d.num
  | 0x21 => s.segArrive (slice b 16 32) (le r.payload 100 4) r.source r.seq 0 (.desc d.num)
  | 0x22 => s.loadTable (le b 8 1) (le b 9 1) x.1
  | 0x28 => s.acceptReset (le r.payload 0 4)
  | 0x29 => (s.storeGolden (le b 8 1) (goldenOf b x.1 y.1)).getD s
  | _ => s

/-! ### Other records -/

/-- A SAFETY_IN record: both channels as logged (R304, R305). -/
def State.replayInput (s : State) (r : LogRec) : State :=
  let i := r.source % 16
  let was := s.siRun i
  let s := (s.put (safA 0x60) (2 * i) (2 * i) (le r.payload 1 1 % 2)).put (safA 0x60) (2 * i + 1) (2 * i + 1) (le r.payload 2 1 % 2)
  let s := s.siTrack i
  if s.siOn i && was && !s.siRun i then s.siDemand i else s

/-- A logged package job loss; digests of the jobs lost in this tick are not compared. -/
def State.replayLoss (s : State) : State :=
  let keys := s.jobs.map (fun j => j.key)
  let keep : List Nat × Bytes → Bool := fun e => !keys.contains (e.1.getD 2 0)
  let s := s.packageLoss
  { s with slog := { s.slog with made := s.slog.made.filter keep, want := s.slog.want.filter keep } }

/-- A logged DEADLINE_OVERRUN of a class S job stops it; one of an activation applies as its slots end. -/
def State.replayOverrun (s : State) (key : Nat) : State :=
  match s.jobs.find? (fun j => j.key == key && !j.classC) with
  | none => s
  | some j => s.endSoon j.id .deadlineOverrun

/-- Delivers one record with its stamp as the time (R188). -/
def State.deliverRec (busy : Nat) (s : State) (r : LogRec) : State :=
  let t := s.clk.t
  let stamp := s.extend r.stamp
  let at' : (State → State) → State := fun f =>
    let s := f { s with clk := { s.clk with t := stamp } }
    { s with clk := { s.clk with t := t } }
  match r.type with
  | 1 => ({ s with slog := { s.slog with fresh := true } } : State).put (fabA 4) 9 0 (le r.payload 0 2)
  | 2 => s.replayConfig busy r.payload
  | 4 => at' (fun s => if r.source < 48 && s.streamOn r.source then s.sensorIn r.source stamp r.uncert ⟨r.payload, false, false⟩ else s)
  | 5 => at' (fun s => s.canIn (r.source % 8) stamp r.uncert (canFrameOf r.payload))
  | 6 => at' (fun s => s.ethCtrl (r.source % 4) stamp r.uncert r.payload)
  | 7 => at' (fun s => s.replayInput r)
  | 8 => at' (fun s => s.replaySubmit r)
  | 0x0A => if le r.payload 0 4 = 0 then s.replayOverrun (le r.payload 4 4) else s
  | 0x0C => if le r.payload 0 1 = 0 then at' State.replayLoss
      else if r.isGap then { s with slog := { s.slog with fresh := true } } else s
  | _ => s

/-- Delivers records in order. -/
def State.deliverAll (s : State) (busy : Nat) (l : List LogRec) : State := (joinRecs l).foldl (State.deliverRec busy) s

/-! ### The edge of a replayed tick -/

/-- Recorded GUARD_MISS outcomes of the tick that ends hold the axes' commands (R189). -/
def State.replayGuard (s : State) : State :=
  if !s.replaying then s
  else
    (List.range 64).foldl (fun s a =>
      if !s.slog.ticks.any (fun r => r.isOutcome 1 0 a 0) then s
      else
        match (s.ax a).staged with
        | none => s
        | some c =>
          if c.compared && (c.hold || c.stop) then s
          else (s.setAx a { s.ax a with staged := some { c with compared := false } }).guardMiss a) s

/-- Working time and the tick number become those of an EDGE record. -/
def State.replayTime (s : State) (r : LogRec) : State :=
  let t := le r.payload 0 6 * 1000000000 + le r.payload 6 4
  let first := s.slog.fresh
  let s : State := { s with clk := { s.clk with
    t := t, tick := r.tick, lastEdge := t
    prevComp := if first then r.tick - 1 else s.clk.prevComp
    lastCut := if first then 0 else s.clk.lastCut } }
  let s : State := if first then { s with axes := s.axes.map (fun e => (e.1, { e.2 with fb := [] })) } else s
  (s.put (timA 0x88) 0 0 (le r.payload 10 1)).setLocked (decide (le r.payload 11 1 = 1))

/-- REPLAY_TICK at an edge: what stood at the edge of the last tick is compared, then the next tick's records
are taken. Those before its EDGE record come into effect now; the others are answered, to be delivered
when the edge's own work is done. -/
def State.replayEdge (s : State) (busy : Nat) : List LogRec × State :=
  if !s.replaying then ([], s)
  else
    let s := if s.slog.ticks.isEmpty then s else s.replayCompare
    if !s.replaying then ([], s)
    else if s.slog.play.isEmpty then ([], s.replayStop 0)
    else
      let x := s.replayTake
      let pre := x.1.takeWhile (fun r => r.type != 3)
      match x.1.drop pre.length with
      | [] => (x.1, x.2)
      | e :: l => (l, ((x.2.replayTime e).deliverAll busy pre).resvShow)

/-- After the edge's own work: the tick's other records, and the end of an invalid log (R190). -/
def State.replayRest (s : State) (busy : Nat) (l : List LogRec) (bad : Bool) : State :=
  let s := s.deliverAll busy l
  if bad then s.replayStop (Status.replayLogInvalid.code % 256) else s

end Sys2Proof.Machine
end

