-- ==== Sys2Proof/Machine/Tick.lean ====
section
/-!
DEFINITION. The tick edge (R13 to R21, R26, R287, R302, R399) and everything that happens at it.
-/

namespace Sys2Proof.Machine

open Sys2Proof

/-- PERIOD in force, ns. -/
def State.periodNs (s : State) : Nat := s.fld (timA 0x100) 13 0 * 1000

/-- The edge after the present one, and its tick number (R13). After a change of period the next edge is the
first multiple of the new period that is not earlier than one new period from now (R21). A window whose
cut-off has passed already is never computed; the present window opens at its predecessor's cut-off (R24, R433). -/
def State.nextTimes (s : State) : State :=
  let c := s.clk
  let p := s.periodNs
  let same := p = 0 || p = c.period
  let e := if same then c.lastEdge + c.period else cdiv (c.lastEdge + p) p * p
  { s with clk := { c with
      lastCut := if c.win = .computed then c.lastCut else c.lastEdge - s.guardNs
      nextEdge := e, nextTick := if same then c.tick + 1 else e / p, period := if same then c.period else p
      win := if e - s.guardNs < c.t then .passed else .collecting } }

/-- Records dropped while streaming end with a gap MARK once there is room (R185). -/
def State.logGapMark (s : State) : State :=
  if s.logMode = 3 && decide (0 < s.slog.dropped) && decide (s.slog.used + 32 ≤ s.fld 0x304 13 8 * 2 ^ 28) then
    let n := s.slog.dropped
    let s : State := { s with slog := { s.slog with dropped := 0 } }
    ((s.slogNow 0x0C 0 ([1] ++ leBytes 4 n)).logEdge.logConfig).event 0x308 2 0x310
  else s.logEdge

/-- The records of an edge, and the streaming buffers that are full. -/
def State.logTick (s : State) : State := (if s.logOn && !s.inReplay then s.logGapMark else s).postsDone false

/-- COMMAND_LAUNCH: frames of earlier edges are withdrawn, then every axis's frame enters its queue, and the loaders
choose among them all (R26, R285, R287, R433). -/
def State.launchAll (s : State) (computed : Bool) (busy : Nat) : State :=
  let s := (List.range 8).foldl (fun s c => s.withdraw c busy) s
  let s : State := { s with slog := { s.slog with cmds := [] } }
  let s := (List.range 64).foldl (State.launchAxis s.clk.tick computed) s
  let s := (List.range 8).foldl State.canLoad s
  if s.slog.cmds.isEmpty then s else s.digest 4 0 0 0 s.clk.tick s.slog.cmds

/-- What the edge does in the compute side and in ingest. -/
def State.edgeCompute (s : State) : State :=
  let s := (s.jobs.map (fun j => j.id)).foldl State.detPublish s
  s.cycSwitch.actStarts.percFrame.heartbeats

/-- The work of an edge, at its time. `busy` says what each CAN controller does on the bus. -/
def State.edgeWork (busy : Nat) (s : State) : State :=
  let computed := decide (s.clk.win = .computed)
  let due := s.clk.nextTick
  let s := (s.replayGuard.tlySync 7).commitDue busy
  let s : State := { s with clk := { s.clk with tick := s.clk.nextTick, lastEdge := s.clk.nextEdge } }
  let head := (s.slog.play.head?).map (fun r => r.tick)
  let group := s.slog.play.takeWhile (fun r => some r.tick == head)
  let x := s.replayEdge busy
  let bad := x.2.replaying && decide (x.2.slog.ticks.length < group.length)
  let s := x.2.nextTimes.logTick
  let s := s.launchAll (computed && decide (s.clk.tick = due)) busy
  (s.edgeCompute.releaseGroups.tlyEdge).replayRest busy x.1 bad

/-- TICK_EDGE: working time reaches the next edge. -/
def execTickEdge (busy : Nat) (s : State) : Host.Outcome State Fault Refusal :=
  .next (if !s.clk.live then s else s.atT s.clk.nextEdge (State.edgeWork busy))

end Sys2Proof.Machine
end

