-- ==== Sys2Proof/Machine/Dispatch.lean ====
section
/-!
DEFINITION. The dispatch: one arm per command, each a direct call of the command's meaning.
-/

namespace Sys2Proof.Machine

open Sys2Proof

/-- The effect of a command on everything but the queue. -/
def exec (i : Instr) (s : State) : Host.Outcome State Fault Refusal :=
  match i with
  -- the tick and the control engine
  | .tickEdge busy => Sys2Proof.Machine.execTickEdge busy s
  | .controlComputation => Sys2Proof.Machine.execControlComputation s
  | .comparisonDeadline => Sys2Proof.Machine.execComparisonDeadline s
  | .checkerComparison a u => Sys2Proof.Machine.execCheckerComparison a u s
  | .profileWatchdogExpiry => Sys2Proof.Machine.execProfileWatchdogExpiry s
  | .loopWatchdogExpiry => Sys2Proof.Machine.execLoopWatchdogExpiry s
  | .outputWatchdogExpiry a => Sys2Proof.Machine.execOutputWatchdogExpiry a s
  | .kernelKick value after => Sys2Proof.Machine.execKernelKick value after s
  | .kernelWatchdogExpiry => Sys2Proof.Machine.execKernelWatchdogExpiry s
  -- site time
  | .activeDomainEvaluation => Sys2Proof.Machine.execActiveDomainEvaluation s
  | .primaryReturn => Sys2Proof.Machine.execPrimaryReturn s
  | .holdoverExpiry => Sys2Proof.Machine.execHoldoverExpiry s
  | .sync p dnum gm seqId twoStep body => Sys2Proof.Machine.execSync p dnum gm seqId twoStep body s
  | .followUp p dnum seqId body => Sys2Proof.Machine.execFollowUp p dnum seqId body s
  | .announce p dnum body => Sys2Proof.Machine.execAnnounce p dnum body s
  | .syncReceiptTimeout d => Sys2Proof.Machine.execSyncReceiptTimeout d s
  | .announceReceiptTimeout d p => Sys2Proof.Machine.execAnnounceReceiptTimeout d p s
  | .pdelayReq p seqId rx tx => Sys2Proof.Machine.execPdelayReq p seqId rx tx s
  | .pdelayResp p seqId t2 rx => Sys2Proof.Machine.execPdelayResp p seqId t2 rx s
  | .pdelayRespFollowUp p seqId t3 => Sys2Proof.Machine.execPdelayRespFollowUp p seqId t3 s
  | .pdelayReqTransmit p tx => Sys2Proof.Machine.execPdelayReqTransmit p tx s
  -- Ethernet
  | .ethTx r frame => Sys2Proof.Machine.execEthTx r frame s
  | .timedFrameLaunch p => Sys2Proof.Machine.execTimedFrameLaunch p s
  | .ethTxDone p q => Sys2Proof.Machine.execEthTxDone p q s
  | .ethFrameReceived p stamp uncert frame => Sys2Proof.Machine.execEthFrameReceived p stamp uncert frame s
  | .ethPortLinkDown p => Sys2Proof.Machine.execEthPortLinkDown p s
  | .ethPortLinkUp p => Sys2Proof.Machine.execEthPortLinkUp p s
  -- CAN
  | .canTx r rec => Sys2Proof.Machine.execCanTx r rec s
  | .canFrameEligible c => Sys2Proof.Machine.execCanFrameEligible c s
  | .canTxComplete c b stamp uncert tdc => Sys2Proof.Machine.execCanTxComplete c b stamp uncert tdc s
  | .canAttemptFailed c b fin => Sys2Proof.Machine.execCanAttemptFailed c b fin s
  | .canFrameReceived c f => Sys2Proof.Machine.execCanFrameReceived c f s
  | .canFifoDrain c stamps => Sys2Proof.Machine.execCanFifoDrain c stamps s
  | .canProtocolError c kind dataPhase role => Sys2Proof.Machine.execCanProtocolError c kind dataPhase role s
  | .canIntegrationDone c => Sys2Proof.Machine.execCanIntegrationDone c s
  | .busOffRecoveryDone c => Sys2Proof.Machine.execBusOffRecoveryDone c s
  | .recover c => Sys2Proof.Machine.execRecover c s
  -- functional safety
  | .safetyInputChange idx chan level stamp uncert => Sys2Proof.Machine.execSafetyInputChange idx chan level stamp uncert s
  | .inputDiscrepancy idx => Sys2Proof.Machine.execInputDiscrepancy idx s
  | .ssoReadbackFault g chan => Sys2Proof.Machine.execSsoReadbackFault g chan s
  | .ssoTestPulse g chan => Sys2Proof.Machine.execSsoTestPulse g chan s
  | .testPulseEnd g chan => Sys2Proof.Machine.execTestPulseEnd g chan s
  | .ingestWatchdogExpiry st => Sys2Proof.Machine.execIngestWatchdogExpiry st s
  | .preprocessWatchdogExpiry st => Sys2Proof.Machine.execPreprocessWatchdogExpiry st s
  | .perceptionWatchdogMiss => Sys2Proof.Machine.execPerceptionWatchdogMiss s
  | .segmentWatchdogExpiry a => Sys2Proof.Machine.execSegmentWatchdogExpiry a s
  | .safetyReset r => Sys2Proof.Machine.execSafetyReset r s
  | .goldenLoad r list roi => Sys2Proof.Machine.execGoldenLoad r list roi s
  -- the host interface
  | .sqTail r v => Sys2Proof.Machine.execSqTail r v s
  | .cqHead r v => Sys2Proof.Machine.execCqHead r v s
  | .ringEnable r val => Sys2Proof.Machine.execRingEnable r val s
  | .ringDisable r val => Sys2Proof.Machine.execRingDisable r val s
  | .descriptorFetch r desc => Sys2Proof.Machine.execDescriptorFetch r desc s
  | .msixSignal v => Sys2Proof.Machine.execMsixSignal v s
  | .pcieLinkDown => Sys2Proof.Machine.execPcieLinkDown s
  | .pcieLinkUp gen width => Sys2Proof.Machine.execPcieLinkUp gen width s
  | .hotReset => Sys2Proof.Machine.execHotReset s
  | .functionLevelReset => Sys2Proof.Machine.execFunctionLevelReset s
  | .nop r => Sys2Proof.Machine.execNop r s
  | .ringRole r => Sys2Proof.Machine.execRingRole r s
  | .rxPost r => Sys2Proof.Machine.execRxPost r s
  | .rxPostTimeout r => Sys2Proof.Machine.execRxPostTimeout r s
  -- registers and transactions
  | .cfgBegin r => Sys2Proof.Machine.execCfgBegin r s
  | .cfgCommit r => Sys2Proof.Machine.execCfgCommit r s
  | .cfgRollback r => Sys2Proof.Machine.execCfgRollback r s
  | .cfgCommitEdge busy => Sys2Proof.Machine.execCfgCommitEdge busy s
  | .cfgTimeout => Sys2Proof.Machine.execCfgTimeout s
  | .registerWrite addr width val => Sys2Proof.Machine.execRegisterWrite addr width val s
  | .w1cClear addr val set => Sys2Proof.Machine.execW1cClear addr val set s
  | .wideLowWordRead addr => Sys2Proof.Machine.execWideLowWordRead addr s
  | .peekAddrWrite val => Sys2Proof.Machine.execPeekAddrWrite val s
  | .traceConfigWrite addr val => Sys2Proof.Machine.execTraceConfigWrite addr val s
  | .drvVersionWrite v => Sys2Proof.Machine.execDrvVersionWrite v s
  | .dumpPageSelect v => Sys2Proof.Machine.execDumpPageSelect v s
  | .clearMarks => Sys2Proof.Machine.execClearMarks s
  | .start => Sys2Proof.Machine.execStart s
  | .stop => Sys2Proof.Machine.execStop s
  | .clear => Sys2Proof.Machine.execClear s
  | .snap => Sys2Proof.Machine.execSnap s
  -- axis commands
  | .enable r => Sys2Proof.Machine.execEnable r s
  | .disable r => Sys2Proof.Machine.execDisable r s
  | .release r => Sys2Proof.Machine.execRelease r s
  | .clearFault r => Sys2Proof.Machine.execClearFault r s
  | .safeStopReset r => Sys2Proof.Machine.execSafeStopReset r s
  | .segment r => Sys2Proof.Machine.execSegment r s
  | .jobSegmentArrival job rec => Sys2Proof.Machine.execJobSegmentArrival job rec s
  | .axisTable r tab => Sys2Proof.Machine.execAxisTable r tab s
  | .traceRead r => Sys2Proof.Machine.execTraceRead r s
  | .logPost r data => Sys2Proof.Machine.execLogPost r data s
  | .tallyRead r => Sys2Proof.Machine.execTallyRead r s
  -- sensor ingest
  | .sensorPacket st stamp uncert pkt => Sys2Proof.Machine.execSensorPacket st stamp uncert pkt s
  | .sampleTimeout st => Sys2Proof.Machine.execSampleTimeout st s
  | .sampleProcessStart => Sys2Proof.Machine.execSampleProcessStart s
  | .tensorComplete st => Sys2Proof.Machine.execTensorComplete st s
  | .decodeError st => Sys2Proof.Machine.execDecodeError st s
  | .hostDecodeTimeout st num => Sys2Proof.Machine.execHostDecodeTimeout st num s
  | .offloadPost r => Sys2Proof.Machine.execOffloadPost r s
  | .decoded r planes => Sys2Proof.Machine.execDecoded r planes s
  -- jobs, tiles and the compute dies
  | .pkgRetain r pkg => Sys2Proof.Machine.execPkgRetain r pkg s
  | .pkgRelease r => Sys2Proof.Machine.execPkgRelease r s
  | .submit r pkg param inputs peers => Sys2Proof.Machine.execSubmit r pkg param inputs peers s
  | .stepCmd r param lengths inputs peers => Sys2Proof.Machine.execStep r param lengths inputs peers s
  | .jobRelease r => Sys2Proof.Machine.execJobRelease r s
  | .cyclicLoad r table => Sys2Proof.Machine.execCyclicLoad r table s
  | .scrub r => Sys2Proof.Machine.execScrub r s
  | .scrubDone r corrected uncorrectable => Sys2Proof.Machine.execScrubDone r corrected uncorrectable s
  | .classCActivationComplete job => Sys2Proof.Machine.execClassCActivationComplete job s
  | .classCSlotEnd job => Sys2Proof.Machine.execClassCSlotEnd job s
  | .classSRelease job => Sys2Proof.Machine.execClassSRelease job s
  | .weightStagingComplete job => Sys2Proof.Machine.execWeightStagingComplete job s
  | .classSDeadline job => Sys2Proof.Machine.execClassSDeadline job s
  | .classSJobComplete job => Sys2Proof.Machine.execClassSJobComplete job s
  | .tileDispatch die core => Sys2Proof.Machine.execTileDispatch die core s
  | .tileEnd die core work => Sys2Proof.Machine.execTileEnd die core work s
  | .stepSettleRound job => Sys2Proof.Machine.execStepSettleRound job s
  | .regionZeroed die base => Sys2Proof.Machine.execRegionZeroed die base s
  | .dmaTransferIssue die core chan x => Sys2Proof.Machine.execDmaTransferIssue die core chan x s
  | .dmaUncorrectable die core chan word => Sys2Proof.Machine.execDmaUncorrectable die core chan word s
  | .coreFault die core kind => Sys2Proof.Machine.execCoreFault die core kind s
  | .bankConflict die core addr cls => Sys2Proof.Machine.execBankConflict die core addr cls s
  | .eccUncorrectable die core addr => Sys2Proof.Machine.execEccUncorrectable die core addr s
  | .kvWalkFault die walk => Sys2Proof.Machine.execKvWalkFault die walk s
  | .selftestDone t => Sys2Proof.Machine.execSelftestDone t s
  | .lossDiesReleased => Sys2Proof.Machine.execLossDiesReleased s
  -- berths
  | .creditReq die berth gen srcPkg srcDie chan off len => Sys2Proof.Machine.execCreditReq die berth gen srcPkg srcDie chan off len s
  | .creditGrant g => Sys2Proof.Machine.execCreditGrant g s
  | .creditRefuse die core chan status => Sys2Proof.Machine.execCreditRefuse die core chan status s
  | .creditRelease die berth srcPkg srcDie chan => Sys2Proof.Machine.execCreditRelease die berth srcPkg srcDie chan s
  | .write die berth gen srcPkg srcDie chan off data => Sys2Proof.Machine.execWrite die berth gen srcPkg srcDie chan off data s
  | .writeAck ack a b => Sys2Proof.Machine.execWriteAck ack a b s
  | .writeNak die core chan status => Sys2Proof.Machine.execWriteNak die core chan status s
  | .berthCloseExpiry die berth => Sys2Proof.Machine.execBerthCloseExpiry die berth s
  -- the fabric
  | .linkTrainingRetry k => Sys2Proof.Machine.execLinkTrainingRetry k s
  | .linkTrained k t => Sys2Proof.Machine.execLinkTrained k t s
  | .linkTrainingOverrun k steps => Sys2Proof.Machine.execLinkTrainingOverrun k steps s
  | .linkCrcFailure k lseq corrected codewords => Sys2Proof.Machine.execLinkCrcFailure k lseq corrected codewords s
  | .linkNak k lseq => Sys2Proof.Machine.execLinkNak k lseq s
  | .linkAck k lseq => Sys2Proof.Machine.execLinkAck k lseq s
  | .flowCreditReturn k vc units => Sys2Proof.Machine.execFlowCreditReturn k vc units s
  | .ackTimeout k => Sys2Proof.Machine.execAckTimeout k s
  | .retrain k => Sys2Proof.Machine.execRetrain k s
  | .retrainingDone r => Sys2Proof.Machine.execRetrainingDone r s
  | .retrainTimeout k => Sys2Proof.Machine.execRetrainTimeout k s
  | .linkPeerLost k => Sys2Proof.Machine.execLinkPeerLost k s
  | .collPartial job op part data => Sys2Proof.Machine.execCollPartial job op part data s
  | .collEvent e => Sys2Proof.Machine.execCollEvent e s
  | .leadMsg m => Sys2Proof.Machine.execLeadMsg m s
  | .heartbeat src lead => Sys2Proof.Machine.execHeartbeat src lead s
  | .leadHeartbeatTimeout => Sys2Proof.Machine.execLeadHeartbeatTimeout s
  | .memberHeartbeatTimeout pkg => Sys2Proof.Machine.execMemberHeartbeatTimeout pkg s
  | .tallyCounterSaturation die c => Sys2Proof.Machine.execTallyCounterSaturation die c s
  -- the harbourmaster
  | .status => Sys2Proof.Machine.execStatus s
  | .logRead req => Sys2Proof.Machine.execLogRead req s
  | .identity => Sys2Proof.Machine.execIdentity s
  | .attest req => Sys2Proof.Machine.execAttest req s
  | .setState req => Sys2Proof.Machine.execSetState req s
  | .packageReset => Sys2Proof.Machine.execPackageReset s
  | .captureArm req => Sys2Proof.Machine.execCaptureArm req s
  | .captureRelease => Sys2Proof.Machine.execCaptureRelease s
  | .updateBegin req => Sys2Proof.Machine.execUpdateBegin req s
  | .updateWrite req => Sys2Proof.Machine.execUpdateWrite req s
  | .updateVerify => Sys2Proof.Machine.execUpdateVerify s
  | .updateActivate => Sys2Proof.Machine.execUpdateActivate s
  | .updateConfirm => Sys2Proof.Machine.execUpdateConfirm s
  | .updateAbort => Sys2Proof.Machine.execUpdateAbort s
  | .makerEnable req => Sys2Proof.Machine.execMakerEnable req s
  | .makerChallenge => Sys2Proof.Machine.execMakerChallenge s
  | .makerResponse req => Sys2Proof.Machine.execMakerResponse req s
  | .makerEnd => Sys2Proof.Machine.execMakerEnd s
  | .makerOp req => Sys2Proof.Machine.execMakerOp req s
  | .makerSessionExpiry => Sys2Proof.Machine.execMakerSessionExpiry s
  | .thermalSample temps => Sys2Proof.Machine.execThermalSample temps s
  | .thermalTrip site => Sys2Proof.Machine.execThermalTrip site s
  | .voltageTrip rail => Sys2Proof.Machine.execVoltageTrip rail s
  | .marginMeasurement die slack week => Sys2Proof.Machine.execMarginMeasurement die slack week s
  | .logFlush => Sys2Proof.Machine.execLogFlush s
  | .pmbAlert regs => Sys2Proof.Machine.execPmbAlert regs s
  | .powerOn => Sys2Proof.Machine.execPowerOn s
  | .resetInput rst ns => Sys2Proof.Machine.execResetInput rst ns s
  | .resetRelease steps tests => Sys2Proof.Machine.execResetRelease steps tests s
  | .pilotCoreTrap core cause pc tval gpr => Sys2Proof.Machine.execPilotCoreTrap core cause pc tval gpr s
  | .harbourmasterTrap cause pc tval gpr => Sys2Proof.Machine.execHarbourmasterTrap cause pc tval gpr s

end Sys2Proof.Machine
end

