-- ==== Sys2Proof/Safety.lean ====
section
/-!
DEFINITION. The terms in which claims speak of commands and states: that a step answers a next state, what a
command answers, what changes between two states and what stays, and when a descriptor starts and completes.
-/

namespace Sys2Proof.Machine

open Sys2Proof

/-- A step answered a next state: it neither faulted nor was refused. -/
def steps (s : State) : Prop := ∃ t, Sys2Proof.Machine.step s = .next t

/-- The command `c` is answered in `s` with a next state that satisfies `P`. -/
def Answers (c : Instr) (s : State) (P : State → Prop) : Prop :=
  ∃ t, Sys2Proof.Machine.exec c s = .next t ∧ P t

/-- Working time reaches `due` no later than the next tick edge: `reach` answers a state. -/
def State.dueBy (s : State) (due : Nat) : Prop := due ≤ s.clk.t ∨ s.clk.live = false ∨ due ≤ s.clk.nextEdge

/-- The working time once the system reference stands at `due` (R243, R250). -/
def State.timeAt (s : State) (due : Nat) : Nat :=
  if due ≤ s.clk.ref then s.clk.t else (s.clk.t + s.clk.adv (due - s.clk.ref)).toNat

/-- No edge stands before the reference time `due`. -/
def State.dueByRef (s : State) (due : Nat) : Prop :=
  due ≤ s.clk.ref ∨ s.clk.live = false ∨ s.timeAt due ≤ s.clk.nextEdge

/-- The safety block owns axis `a`: its stop is asserted from the trigger on (R264). -/
structure State.SafetyOwns (s : State) (a : Nat) : Prop where
  level : s.rd (ctlA a 0x104) = 0xB0000000
  owned : (s.ax a).safeOwned = true

/-- The parts of the state beside the command queue and the registers. -/
inductive Part where
  | latch | lastRead | out | free | clk | doms | eth | hif | cfg | axes | can | saf | slog | flash | fuses | hm
  | jobs | bank0 | bank1 | loss | mems | pkgs | lastJob | cores | chans | berths | dirty | kv | kvd | lnks | fab
  | strm | scrubs | cycNext | tly | lost
  deriving DecidableEq, Repr

/-- The part reads the same in both states. -/
def Part.same (s t : State) : Part → Prop
  | .latch => t.latch = s.latch
  | .lastRead => t.lastRead = s.lastRead
  | .out => t.out = s.out
  | .free => t.free = s.free
  | .clk => t.clk = s.clk
  | .doms => t.doms = s.doms
  | .eth => t.eth = s.eth
  | .hif => t.hif = s.hif
  | .cfg => t.cfg = s.cfg
  | .axes => t.axes = s.axes
  | .can => t.can = s.can
  | .saf => t.saf = s.saf
  | .slog => t.slog = s.slog
  | .flash => t.flash = s.flash
  | .fuses => t.fuses = s.fuses
  | .hm => t.hm = s.hm
  | .jobs => t.jobs = s.jobs
  | .bank0 => t.bank0 = s.bank0
  | .bank1 => t.bank1 = s.bank1
  | .loss => t.loss = s.loss
  | .mems => t.comp.mems = s.comp.mems
  | .pkgs => t.comp.pkgs = s.comp.pkgs
  | .lastJob => t.comp.lastJob = s.comp.lastJob
  | .cores => t.comp.cores = s.comp.cores
  | .chans => t.comp.chans = s.comp.chans
  | .berths => t.comp.berths = s.comp.berths
  | .dirty => t.comp.dirty = s.comp.dirty
  | .kv => t.comp.kv = s.comp.kv
  | .kvd => t.comp.kvd = s.comp.kvd
  | .lnks => t.comp.lnks = s.comp.lnks
  | .fab => t.comp.fab = s.comp.fab
  | .strm => t.comp.strm = s.comp.strm
  | .scrubs => t.comp.scrubs = s.comp.scrubs
  | .cycNext => t.comp.cycNext = s.comp.cycNext
  | .tly => t.comp.tly = s.comp.tly
  | .lost => t.comp.lost = s.comp.lost

/-- The register blocks of Table 00-3, the compute dies, and the mailbox of BAR4. -/
inductive Block where
  | glb | hif | tim | ing | ctl | can | eth | lnk | saf | tly | mgt | dies | mbx
  deriving DecidableEq, Repr

/-- The number that `blk` gives a block's registers. -/
def Block.num : Block → Nat
  | .glb => 0
  | .hif => 1
  | .tim => 2
  | .ing => 3
  | .ctl => 4
  | .can => 5
  | .eth => 6
  | .lnk => 7
  | .saf => 8
  | .tly => 9
  | .mgt => 10
  | .dies => 16
  | .mbx => 17

/-- The registers of some blocks. -/
def inBlocks (bs : List Block) (a : Nat) : Prop := blk a ∈ bs.map Block.num

/-- Beside the parts `ps` and the registers that `may` names, nothing changes from `s` to `t`, the command queue
included. -/
structure OnlyChanges (s t : State) (ps : List Part) (may : Nat → Prop) : Prop where
  pending : t.pending = s.pending
  parts : ∀ p, p ∉ ps → p.same s t
  regs : ∀ a, ¬ may a → t.rd a = s.rd a

/-- Ring `r` exists, and its descriptor of opcode `op` that starts next (R336) is `d`, the one descriptor of its
number. -/
structure Starts (s : State) (r op : Nat) (d : Inflight) : Prop where
  ring : r < 8192
  next : s.startable r op = some d
  desc : s.desc r d.num = some d

/-- The completion entry that ring `r` would write next for descriptor `d` (Table 14-7). -/
def entryOf (s : State) (r : Nat) (d : Inflight) (st : Status) (result info time : Nat) : Out :=
  let n := (s.rd (ringA r 0x20)).toNat
  .entry r (n % s.ringSize r) (entryBytes d.tag st.code d.op
    (b2n (decide ((n / s.ringSize r) % 2 = 0)) + 4 * b2n (s.ring r).lost) result info time)

/-- From `s` to `t`, descriptor `d` of ring `r` completed (R335): it is no longer in flight, the ring's entry count
rose by one, its entry is the last output unless the link is down (R325), and its vector is to be signalled if it
asked for it. -/
structure Completed (s t : State) (r : Nat) (d : Inflight) (st : Status) (result info time : Nat) : Prop where
  gone : t.desc r d.num = none
  tail : t.rd (ringA r 0x20) = s.rd (ringA r 0x20) + 1
  entry : s.linkUp = true → t.out.getLast? = some (entryOf s r d st result info time)
  signal : d.intr = true → t.hif.msiPend.contains (s.fld (ringA r 0x10) 10 0) = true

/-- A harbourmaster request of operation `op` is first in its queue (R391) and ready to run, from `src` and with the
request bytes `b`: the mailbox's, or those that the host's memory gave for the descriptor. -/
inductive Asks (s : State) (op : Nat) : Option Bytes → MgtSrc → Bytes → Prop where
  | mailbox (req : Option Bytes) (rest : List MgtSrc) : s.hm.queue = .mailbox :: rest → s.fld (mbxA 4) 15 0 = op →
      Asks s op req .mailbox ((List.range (s.rd (mbxA 8)).toNat).map (fun i => tget 0 s.hm.mbxReq i))
  | ring (b : Bytes) (r : Nat) (d : Inflight) (rest : List MgtSrc) : s.hm.queue = .ring r d.num :: rest →
      Starts s r 0x08 d → le d.bytes 8 2 = op → Asks s op (some b) (.ring r d.num) (b.take (le d.bytes 12 4))

/-- From `s` to `t` the request of `src` was answered with `st`: in the mailbox's status register, which is no longer
busy (R390), or by its descriptor's completion. -/
def Replied (s t : State) (src : MgtSrc) (st : Status) : Prop :=
  match src with
  | .mailbox => t.fld (mbxA 0xC) 31 24 = st.code % 256 ∧ t.flag (mbxA 0xC) 0 = false ∧ t.flag (mbxA 0xC) 1 = true
  | .ring r n => ∃ d result, d.num = n ∧ Completed s t r d st result 0 s.now32

/-- Every part. -/
def Part.all : List Part :=
  [.latch, .lastRead, .out, .free, .clk, .doms, .eth, .hif, .cfg, .axes, .can, .saf, .slog, .flash, .fuses, .hm, .jobs, .bank0,
   .bank1, .loss, .mems, .pkgs, .lastJob, .cores, .chans, .berths, .dirty, .kv, .kvd, .lnks, .fab, .strm, .scrubs, .cycNext, .tly, .lost]

/-- The parts of the state that a command may change: those its rules name, with those of the further effects its rules
set off (a completed descriptor, an event, a stop). -/
def mayParts : Instr → List Part
  | .tickEdge .. => [.out, .free, .clk, .doms, .eth, .hif, .cfg, .axes, .can, .saf, .slog, .hm, .jobs, .bank0,
      .bank1, .loss, .mems, .pkgs, .lastJob, .cores, .chans, .berths, .dirty, .kv, .kvd, .lnks, .fab, .strm,
      .cycNext, .tly, .lost]
  | .controlComputation => [.out, .free, .clk, .doms, .hif, .axes, .saf, .hm]
  | .comparisonDeadline => [.out, .clk, .doms, .axes, .can, .saf, .slog, .hm]
  | .checkerComparison .. => [.out, .axes, .can, .saf, .hm]
  | .profileWatchdogExpiry => [.out, .free, .clk, .doms, .axes, .can, .saf, .hm]
  | .loopWatchdogExpiry => [.out, .free, .clk, .doms, .axes, .can, .saf, .hm]
  | .outputWatchdogExpiry .. => [.out, .free, .clk, .doms, .axes, .can, .saf, .hm]
  | .kernelKick .. => [.out, .free, .clk, .doms, .axes, .can, .saf, .hm]
  | .kernelWatchdogExpiry => [.out, .free, .clk, .doms, .axes, .can, .saf, .hm]
  | .activeDomainEvaluation => [.free, .clk, .doms]
  | .primaryReturn => [.free, .clk, .doms]
  | .holdoverExpiry => [.out, .free, .clk, .doms, .axes, .can, .saf, .hm]
  | .sync .. => [.clk, .doms]
  | .followUp .. => [.clk, .doms]
  | .announce .. => [.clk, .doms]
  | .syncReceiptTimeout .. => [.clk, .doms]
  | .announceReceiptTimeout .. => [.clk, .doms]
  | .pdelayReq .. => [.out]
  | .pdelayResp .. => [.eth]
  | .pdelayRespFollowUp .. => [.eth]
  | .pdelayReqTransmit .. => [.out, .eth]
  | .ethTx .. => [.out, .eth, .hif, .hm]
  | .timedFrameLaunch .. => [.out, .clk, .doms, .eth, .hif, .hm]
  | .ethTxDone .. => [.out, .eth, .hif, .hm]
  | .ethFrameReceived .. => [.out, .free, .axes, .can, .saf, .slog, .hm, .mems, .strm, .tly]
  | .ethPortLinkDown .. => []
  | .ethPortLinkUp .. => [.flash]
  | .canTx .. => [.out, .hif, .can, .hm]
  | .canFrameEligible .. => [.clk, .doms, .can]
  | .canTxComplete .. => [.out, .free, .hif, .can, .hm, .tly]
  | .canAttemptFailed .. => [.out, .hif, .can, .hm]
  | .canFrameReceived .. => [.out, .free, .hif, .can, .hm, .tly]
  | .canFifoDrain .. => [.out, .free, .hif, .axes, .can, .slog, .hm, .tly]
  | .canProtocolError .. => [.out, .hif, .can, .hm]
  | .canIntegrationDone .. => [.can]
  | .busOffRecoveryDone .. => []
  | .recover .. => []
  | .safetyInputChange .. => [.out, .axes, .can, .saf, .slog, .hm]
  | .inputDiscrepancy .. => [.out, .clk, .doms, .axes, .can, .saf, .hm]
  | .ssoReadbackFault .. => [.out, .free, .axes, .can, .saf, .hm]
  | .ssoTestPulse .. => [.out, .clk, .doms, .saf]
  | .testPulseEnd .. => [.out, .clk, .doms, .saf]
  | .ingestWatchdogExpiry .. => [.out, .clk, .doms, .axes, .can, .saf, .hm]
  | .preprocessWatchdogExpiry .. => [.out, .clk, .doms, .axes, .can, .saf, .hm, .strm]
  | .perceptionWatchdogMiss => [.out, .free, .axes, .can, .saf, .hm]
  | .segmentWatchdogExpiry .. => [.out, .clk, .doms, .axes, .can, .saf, .hm]
  | .safetyReset .. => [.out, .hif, .saf, .slog, .hm]
  | .goldenLoad .. => [.out, .hif, .saf, .slog, .hm]
  | .sqTail .. => [.hif, .cfg, .hm]
  | .cqHead .. => [.hif, .cfg, .hm]
  | .ringEnable .. => [.hif, .cfg, .flash, .hm]
  | .ringDisable .. => [.hif, .cfg, .flash, .hm]
  | .descriptorFetch .. => [.out, .hif, .cfg, .hm]
  | .msixSignal .. => [.out, .hif]
  | .pcieLinkDown => []
  | .pcieLinkUp .. => []
  | .hotReset => [.out, .free, .eth, .hif, .cfg, .axes, .can, .slog, .flash, .hm, .jobs, .bank0, .bank1, .mems,
      .pkgs, .cores, .berths, .dirty, .kv, .kvd, .lnks, .fab, .strm, .scrubs, .cycNext, .tly, .lost]
  | .functionLevelReset => [.out, .free, .eth, .hif, .cfg, .axes, .can, .slog, .flash, .hm, .jobs, .bank0, .bank1,
      .mems, .pkgs, .cores, .berths, .dirty, .kv, .kvd, .lnks, .fab, .strm, .scrubs, .cycNext, .tly, .lost]
  | .nop .. => [.out, .hif, .hm]
  | .ringRole .. => [.out, .hif, .hm]
  | .rxPost .. => [.hif]
  | .rxPostTimeout .. => [.out, .clk, .doms, .hif, .hm]
  | .cfgBegin .. => [.out, .hif, .cfg, .hm]
  | .cfgCommit .. => [.out, .hif, .cfg, .hm]
  | .cfgRollback .. => [.out, .hif, .cfg, .hm]
  | .cfgCommitEdge .. => [.out, .free, .clk, .doms, .hif, .cfg, .axes, .can, .saf, .slog, .hm, .jobs, .cores,
      .chans, .berths, .dirty, .kvd, .lnks, .fab, .strm, .cycNext, .tly]
  | .cfgTimeout => [.clk, .doms, .cfg, .hm]
  | .registerWrite .. => [.hif, .cfg, .axes, .slog, .flash, .hm, .lnks]
  | .w1cClear .. => [.slog]
  | .wideLowWordRead .. => [.latch, .lastRead, .free, .tly]
  | .peekAddrWrite .. => []
  | .traceConfigWrite .. => [.axes]
  | .drvVersionWrite .. => [.hm]
  | .dumpPageSelect .. => []
  | .clearMarks => [.flash]
  | .start => []
  | .stop => []
  | .clear => []
  | .snap => []
  | .enable .. => [.out, .hif, .axes, .slog, .hm]
  | .disable .. => [.out, .hif, .axes, .slog, .hm]
  | .release .. => [.out, .hif, .slog, .hm]
  | .clearFault .. => [.out, .hif, .axes, .slog, .hm]
  | .safeStopReset .. => [.out, .hif, .axes, .slog, .hm]
  | .segment .. => [.out, .hif, .axes, .slog, .hm]
  | .jobSegmentArrival .. => [.out, .hif, .axes, .slog, .hm, .jobs]
  | .axisTable .. => [.out, .hif, .axes, .slog, .hm]
  | .traceRead .. => [.out, .hif, .hm]
  | .logPost .. => [.out, .hif, .slog, .hm]
  | .tallyRead .. => [.out, .free, .hif, .hm, .tly]
  | .sensorPacket .. => [.out, .free, .axes, .can, .saf, .slog, .hm, .mems, .strm, .tly]
  | .sampleTimeout .. => [.out, .free, .clk, .doms, .axes, .can, .saf, .hm, .mems, .strm, .tly]
  | .sampleProcessStart => [.out, .free, .hif, .hm, .strm, .tly]
  | .tensorComplete .. => [.out, .free, .axes, .can, .saf, .hm, .mems, .strm, .tly]
  | .decodeError .. => [.out, .free, .axes, .can, .saf, .hm, .mems, .strm, .tly]
  | .hostDecodeTimeout .. => [.out, .free, .clk, .doms, .axes, .can, .saf, .hm, .mems, .strm, .tly]
  | .offloadPost .. => [.out, .free, .hif, .hm, .strm, .tly]
  | .decoded .. => [.out, .free, .hif, .axes, .can, .saf, .hm, .mems, .strm, .tly]
  | .pkgRetain .. => [.out, .hif, .hm, .mems, .pkgs, .dirty]
  | .pkgRelease .. => [.out, .hif, .hm, .mems, .pkgs, .dirty, .kv, .kvd]
  | .submit .. => [.out, .free, .hif, .slog, .hm, .jobs, .mems, .pkgs, .lastJob, .dirty, .kv, .kvd, .lnks, .fab,
      .strm, .tly]
  | .stepCmd .. => [.out, .free, .hif, .slog, .hm, .jobs, .mems, .pkgs, .lastJob, .dirty, .kv, .kvd, .lnks, .fab,
      .strm, .tly]
  | .jobRelease .. => [.out, .free, .hif, .axes, .slog, .hm, .jobs, .cores, .berths, .dirty, .kvd, .lnks, .fab,
      .strm, .tly]
  | .cyclicLoad .. => [.out, .hif, .hm, .bank0, .bank1]
  | .scrub .. => [.out, .hif, .hm, .cores, .scrubs]
  | .scrubDone .. => [.out, .free, .hif, .hm, .cores, .scrubs]
  | .classCActivationComplete .. => [.out, .axes, .can, .saf, .slog, .hm, .jobs, .strm]
  | .classCSlotEnd .. => [.out, .hif, .axes, .can, .saf, .slog, .hm, .jobs]
  | .classSRelease .. => [.out, .free, .hif, .axes, .slog, .hm, .jobs, .mems, .cores, .berths, .dirty, .kvd, .lnks,
      .fab, .strm, .tly]
  | .weightStagingComplete .. => [.out, .free, .hif, .axes, .slog, .hm, .jobs, .mems, .cores, .berths, .dirty,
      .kvd, .lnks, .fab, .strm, .tly]
  | .classSDeadline .. => [.out, .free, .clk, .doms, .hif, .axes, .slog, .hm, .jobs, .cores, .berths, .dirty, .kvd,
      .lnks, .fab, .strm, .tly]
  | .classSJobComplete .. => [.out, .free, .hif, .axes, .slog, .hm, .jobs, .cores, .berths, .dirty, .kvd, .lnks,
      .fab, .strm, .tly]
  | .tileDispatch .. => [.free, .jobs, .mems, .cores, .berths, .dirty, .tly]
  | .tileEnd .. => [.out, .free, .hif, .axes, .can, .saf, .slog, .hm, .jobs, .loss, .mems, .cores, .chans, .berths,
      .dirty, .kv, .kvd, .lnks, .fab, .strm, .cycNext, .tly, .lost]
  | .stepSettleRound .. => [.out, .free, .jobs, .mems, .kv, .lnks, .fab, .tly]
  | .regionZeroed .. => [.mems, .dirty]
  | .dmaTransferIssue .. => [.out, .free, .axes, .can, .saf, .slog, .hm, .jobs, .loss, .mems, .cores, .chans,
      .berths, .dirty, .kv, .kvd, .lnks, .fab, .strm, .cycNext, .tly, .lost]
  | .dmaUncorrectable .. => [.free, .mems, .chans]
  | .coreFault .. => [.out, .free, .axes, .can, .saf, .slog, .hm, .jobs, .loss, .mems, .cores, .chans, .berths,
      .dirty, .kv, .kvd, .lnks, .fab, .strm, .cycNext, .tly, .lost]
  | .bankConflict .. => [.out, .free, .axes, .can, .saf, .slog, .hm, .jobs, .loss, .mems, .cores, .chans, .berths,
      .dirty, .kv, .kvd, .lnks, .fab, .strm, .cycNext, .tly, .lost]
  | .eccUncorrectable .. => [.out, .free, .axes, .can, .saf, .slog, .hm, .jobs, .loss, .mems, .cores, .chans,
      .berths, .dirty, .kv, .kvd, .lnks, .fab, .strm, .cycNext, .tly, .lost]
  | .kvWalkFault .. => [.out, .free, .axes, .can, .saf, .slog, .hm, .jobs, .loss, .mems, .cores, .chans, .berths,
      .dirty, .kv, .kvd, .lnks, .fab, .strm, .cycNext, .tly, .lost]
  | .selftestDone .. => [.cores]
  | .lossDiesReleased => [.out, .free, .hif, .slog, .hm, .loss, .mems, .dirty, .tly, .lost]
  | .creditReq .. => [.out, .free, .berths, .dirty, .lnks, .fab, .tly]
  | .creditGrant .. => [.out, .free, .chans, .berths, .lnks, .fab, .tly]
  | .creditRefuse .. => [.out, .free, .chans, .lnks, .fab, .tly]
  | .creditRelease .. => [.out, .free, .berths, .dirty, .lnks, .fab, .tly]
  | .write .. => [.out, .free, .mems, .berths, .dirty, .lnks, .fab, .tly]
  | .writeAck .. => [.out, .free, .jobs, .chans, .lnks, .fab, .tly]
  | .writeNak .. => [.out, .free, .chans, .lnks, .fab, .tly]
  | .berthCloseExpiry .. => [.clk, .doms, .berths, .dirty]
  | .linkTrainingRetry .. => [.clk, .doms, .lnks]
  | .linkTrained .. => [.out, .free, .clk, .doms, .flash, .lnks, .tly]
  | .linkTrainingOverrun .. => [.out, .clk, .doms, .lnks]
  | .linkCrcFailure .. => [.out, .lnks]
  | .linkNak .. => [.out, .lnks]
  | .linkAck .. => [.out, .free, .lnks, .tly]
  | .flowCreditReturn .. => [.out, .free, .lnks, .tly]
  | .ackTimeout .. => [.clk, .doms, .lnks]
  | .retrain .. => [.lnks]
  | .retrainingDone .. => [.out, .free, .lnks, .tly]
  | .retrainTimeout .. => [.out, .free, .clk, .doms, .hif, .axes, .slog, .hm, .jobs, .cores, .chans, .berths,
      .dirty, .kvd, .lnks, .fab, .strm, .tly]
  | .linkPeerLost .. => [.out, .free, .hif, .axes, .slog, .hm, .jobs, .cores, .chans, .berths, .dirty, .kvd, .lnks,
      .fab, .strm, .tly]
  | .collPartial .. => [.out, .free, .hif, .axes, .slog, .hm, .jobs, .mems, .cores, .berths, .dirty, .kvd, .lnks,
      .fab, .strm, .tly]
  | .collEvent .. => [.out, .free, .hif, .axes, .slog, .hm, .jobs, .mems, .cores, .berths, .dirty, .kvd, .lnks,
      .fab, .strm, .tly]
  | .leadMsg .. => [.out, .free, .hif, .axes, .slog, .hm, .jobs, .mems, .pkgs, .lastJob, .cores, .berths, .dirty,
      .kv, .kvd, .lnks, .fab, .strm, .tly]
  | .heartbeat .. => [.out, .free, .lnks, .fab, .tly]
  | .leadHeartbeatTimeout => [.out, .free, .hif, .axes, .slog, .hm, .jobs, .cores, .berths, .dirty, .kvd, .lnks,
      .fab, .strm, .tly]
  | .memberHeartbeatTimeout .. => [.out, .free, .hif, .axes, .slog, .hm, .jobs, .cores, .berths, .dirty, .kvd,
      .lnks, .fab, .strm, .tly]
  | .tallyCounterSaturation .. => [.free, .tly]
  | .status => [.out, .free, .hif, .hm]
  | .logRead .. => [.out, .hif, .hm]
  | .identity => [.out, .hif, .hm]
  | .attest .. => [.out, .hif, .hm]
  | .setState .. => [.out, .hif, .hm]
  | .packageReset => Part.all
  | .captureArm .. => [.out, .hif, .hm]
  | .captureRelease => [.out, .hif, .hm]
  | .updateBegin .. => [.out, .hif, .flash, .hm]
  | .updateWrite .. => [.out, .hif, .flash, .hm]
  | .updateVerify => [.out, .hif, .hm]
  | .updateActivate => Part.all
  | .updateConfirm => [.out, .hif, .fuses, .hm]
  | .updateAbort => [.out, .hif, .flash, .hm]
  | .makerEnable .. => [.out, .hif, .hm]
  | .makerChallenge => [.out, .free, .hif, .hm]
  | .makerResponse .. => [.out, .hif, .axes, .can, .saf, .hm]
  | .makerEnd => [.out, .hif, .hm]
  | .makerOp .. => [.out, .hif, .hm]
  | .makerSessionExpiry => [.clk, .doms, .hm]
  | .thermalSample .. => [.out, .free, .hm, .tly]
  | .thermalTrip .. => Part.all
  | .voltageTrip .. => Part.all
  | .marginMeasurement .. => [.out, .flash, .hm]
  | .logFlush => [.flash, .hm]
  | .pmbAlert .. => [.hm]
  | .powerOn => Part.all
  | .resetInput .. => Part.all
  | .resetRelease .. => Part.all
  | .pilotCoreTrap .. => [.free, .hm]
  | .harbourmasterTrap .. => [.free, .hm]

/-- The blocks whose registers a command may change; `none` where it may change any block's. -/
def mayBlocks : Instr → Option (List Block)
  | .tickEdge .. => none
  | .controlComputation => some [.hif, .tim, .ctl, .saf, .tly, .mgt]
  | .comparisonDeadline => some [.glb, .tim, .ctl, .can, .saf, .mgt]
  | .checkerComparison .. => some [.ctl, .can, .saf, .mgt]
  | .profileWatchdogExpiry => some [.tim, .ctl, .can, .saf, .mgt]
  | .loopWatchdogExpiry => some [.tim, .ctl, .can, .saf, .mgt]
  | .outputWatchdogExpiry .. => some [.tim, .ctl, .can, .saf, .mgt]
  | .kernelKick .. => some [.tim, .ctl, .can, .saf, .mgt]
  | .kernelWatchdogExpiry => some [.tim, .ctl, .can, .saf, .mgt]
  | .activeDomainEvaluation => some [.tim]
  | .primaryReturn => some [.tim]
  | .holdoverExpiry => some [.tim, .ctl, .can, .saf, .mgt]
  | .sync .. => some [.tim]
  | .followUp .. => some [.tim]
  | .announce .. => some [.tim]
  | .syncReceiptTimeout .. => some [.tim]
  | .announceReceiptTimeout .. => some [.tim]
  | .pdelayReq .. => some []
  | .pdelayResp .. => some []
  | .pdelayRespFollowUp .. => some [.tim]
  | .pdelayReqTransmit .. => some []
  | .ethTx .. => some [.hif, .eth, .tly, .mgt]
  | .timedFrameLaunch .. => some [.hif, .tim, .eth, .tly, .mgt]
  | .ethTxDone .. => some [.hif, .tly, .mgt]
  | .ethFrameReceived .. => some [.glb, .tim, .ing, .ctl, .can, .saf, .tly, .mgt]
  | .ethPortLinkDown .. => some [.eth]
  | .ethPortLinkUp .. => some [.eth, .mgt]
  | .canTx .. => some [.hif, .can, .tly, .mgt]
  | .canFrameEligible .. => some [.tim]
  | .canTxComplete .. => some [.hif, .tim, .can, .tly, .mgt]
  | .canAttemptFailed .. => some [.hif, .can, .tly, .mgt]
  | .canFrameReceived .. => some [.hif, .can, .tly, .mgt]
  | .canFifoDrain .. => some [.glb, .hif, .tim, .ctl, .can, .tly, .mgt]
  | .canProtocolError .. => some [.hif, .can, .tly, .mgt]
  | .canIntegrationDone .. => some [.can]
  | .busOffRecoveryDone .. => some [.can]
  | .recover .. => some [.can]
  | .safetyInputChange .. => some [.glb, .tim, .ctl, .can, .saf, .mgt]
  | .inputDiscrepancy .. => some [.tim, .ctl, .can, .saf, .mgt]
  | .ssoReadbackFault .. => some [.ctl, .can, .saf, .mgt]
  | .ssoTestPulse .. => some [.tim, .saf]
  | .testPulseEnd .. => some [.tim, .saf]
  | .ingestWatchdogExpiry .. => some [.tim, .ctl, .can, .saf, .mgt]
  | .preprocessWatchdogExpiry .. => some [.tim, .ctl, .can, .saf, .mgt]
  | .perceptionWatchdogMiss => some [.ctl, .can, .saf, .mgt]
  | .segmentWatchdogExpiry .. => some [.tim, .ctl, .can, .saf, .mgt]
  | .safetyReset .. => some [.glb, .hif, .tly, .mgt]
  | .goldenLoad .. => some [.glb, .hif, .tly, .mgt]
  | .sqTail .. => some [.glb, .hif, .tim, .mgt]
  | .cqHead .. => some [.glb, .hif, .tim, .mgt]
  | .ringEnable .. => some [.glb, .hif, .tim, .mgt]
  | .ringDisable .. => some [.glb, .hif, .tim, .mgt]
  | .descriptorFetch .. => some [.glb, .hif, .tim, .tly, .mgt]
  | .msixSignal .. => some [.hif]
  | .pcieLinkDown => some [.hif]
  | .pcieLinkUp .. => some [.hif]
  | .hotReset => some [.glb, .hif, .tim, .ing, .ctl, .tly, .mgt, .dies]
  | .functionLevelReset => some [.glb, .hif, .tim, .ing, .ctl, .tly, .mgt, .dies]
  | .nop .. => some [.hif, .tly, .mgt]
  | .ringRole .. => some [.hif, .tly, .mgt]
  | .rxPost .. => some []
  | .rxPostTimeout .. => some [.hif, .tim, .tly, .mgt]
  | .cfgBegin .. => some [.glb, .hif, .tly, .mgt]
  | .cfgCommit .. => none
  | .cfgRollback .. => some [.glb, .hif, .tim, .tly, .mgt]
  | .cfgCommitEdge .. => none
  | .cfgTimeout => some [.glb, .tim, .mgt]
  | .registerWrite .. => none
  | .w1cClear .. => none
  | .wideLowWordRead .. => some [.tly]
  | .peekAddrWrite .. => some [.glb]
  | .traceConfigWrite .. => none
  | .drvVersionWrite .. => some [.mgt]
  | .dumpPageSelect .. => some [.mgt]
  | .clearMarks => some [.mgt]
  | .start => some [.tly]
  | .stop => some [.tly]
  | .clear => some [.tly]
  | .snap => some [.tly]
  | .enable .. => some [.glb, .hif, .tly, .mgt]
  | .disable .. => some [.glb, .hif, .ctl, .tly, .mgt]
  | .release .. => some [.glb, .hif, .ctl, .tly, .mgt]
  | .clearFault .. => some [.glb, .hif, .tly, .mgt]
  | .safeStopReset .. => some [.glb, .hif, .tly, .mgt]
  | .segment .. => some [.glb, .hif, .ctl, .tly, .mgt]
  | .jobSegmentArrival .. => some [.glb, .hif, .ctl, .tly, .mgt]
  | .axisTable .. => some [.glb, .hif, .tly, .mgt]
  | .traceRead .. => some [.hif, .tly, .mgt]
  | .logPost .. => some [.hif, .tly, .mgt]
  | .tallyRead .. => some [.hif, .tly, .mgt]
  | .sensorPacket .. => some [.glb, .tim, .ing, .ctl, .can, .saf, .tly, .mgt]
  | .sampleTimeout .. => some [.tim, .ing, .ctl, .can, .saf, .tly, .mgt]
  | .sampleProcessStart => some [.hif, .ing, .tly, .mgt]
  | .tensorComplete .. => some [.ing, .ctl, .can, .saf, .tly, .mgt]
  | .decodeError .. => some [.ing, .ctl, .can, .saf, .tly, .mgt]
  | .hostDecodeTimeout .. => some [.tim, .ing, .ctl, .can, .saf, .tly, .mgt]
  | .offloadPost .. => some [.hif, .ing, .tly, .mgt]
  | .decoded .. => some [.hif, .ing, .ctl, .can, .saf, .tly, .mgt]
  | .pkgRetain .. => some [.hif, .tly, .mgt]
  | .pkgRelease .. => some [.hif, .tly, .mgt, .dies]
  | .submit .. => some [.glb, .hif, .ing, .tly, .mgt, .dies]
  | .stepCmd .. => some [.glb, .hif, .ing, .tly, .mgt, .dies]
  | .jobRelease .. => some [.glb, .hif, .ing, .ctl, .tly, .mgt, .dies]
  | .cyclicLoad .. => some [.glb, .hif, .tly, .mgt]
  | .scrub .. => some [.hif, .tly, .mgt]
  | .scrubDone .. => some [.hif, .tly, .mgt, .dies]
  | .classCActivationComplete .. => some [.glb, .hif, .ing, .ctl, .can, .saf, .mgt]
  | .classCSlotEnd .. => some [.glb, .hif, .ctl, .can, .saf, .tly, .mgt]
  | .classSRelease .. => some [.glb, .hif, .ing, .ctl, .lnk, .tly, .mgt, .dies]
  | .weightStagingComplete .. => some [.glb, .hif, .ing, .ctl, .lnk, .tly, .mgt, .dies]
  | .classSDeadline .. => some [.glb, .hif, .tim, .ing, .ctl, .tly, .mgt, .dies]
  | .classSJobComplete .. => some [.glb, .hif, .ing, .ctl, .tly, .mgt, .dies]
  | .tileDispatch .. => some [.glb, .tly, .dies]
  | .tileEnd .. => some [.glb, .hif, .ing, .ctl, .can, .lnk, .saf, .tly, .mgt, .dies]
  | .stepSettleRound .. => some [.tly, .dies]
  | .regionZeroed .. => some []
  | .dmaTransferIssue .. => some [.glb, .ing, .ctl, .can, .lnk, .saf, .tly, .mgt, .dies]
  | .dmaUncorrectable .. => some [.dies]
  | .coreFault .. => some [.glb, .ing, .ctl, .can, .saf, .tly, .mgt, .dies]
  | .bankConflict .. => some [.glb, .ing, .ctl, .can, .saf, .tly, .mgt, .dies]
  | .eccUncorrectable .. => some [.glb, .ing, .ctl, .can, .saf, .tly, .mgt, .dies]
  | .kvWalkFault .. => some [.glb, .ing, .ctl, .can, .saf, .tly, .mgt, .dies]
  | .selftestDone .. => some [.dies]
  | .lossDiesReleased => some [.glb, .hif, .tly, .mgt]
  | .creditReq .. => some [.lnk, .tly, .dies]
  | .creditGrant .. => some [.lnk, .tly, .dies]
  | .creditRefuse .. => some [.lnk, .tly, .dies]
  | .creditRelease .. => some [.lnk, .tly, .dies]
  | .write .. => some [.lnk, .tly, .dies]
  | .writeAck .. => some [.lnk, .tly]
  | .writeNak .. => some [.lnk, .tly, .dies]
  | .berthCloseExpiry .. => some [.tim, .dies]
  | .linkTrainingRetry .. => some [.tim, .lnk]
  | .linkTrained .. => some [.tim, .lnk, .tly, .mgt]
  | .linkTrainingOverrun .. => some [.tim, .lnk]
  | .linkCrcFailure .. => some [.lnk]
  | .linkNak .. => some [.lnk, .tly]
  | .linkAck .. => some [.tly]
  | .flowCreditReturn .. => some [.tly]
  | .ackTimeout .. => some [.tim, .lnk]
  | .retrain .. => some [.lnk]
  | .retrainingDone .. => some [.lnk, .tly]
  | .retrainTimeout .. => some [.glb, .hif, .tim, .ing, .ctl, .lnk, .tly, .mgt, .dies]
  | .linkPeerLost .. => some [.glb, .hif, .ing, .ctl, .lnk, .tly, .mgt, .dies]
  | .collPartial .. => some [.glb, .hif, .ing, .ctl, .lnk, .tly, .mgt, .dies]
  | .collEvent .. => some [.glb, .hif, .ing, .ctl, .lnk, .tly, .mgt, .dies]
  | .leadMsg .. => some [.glb, .hif, .ing, .ctl, .lnk, .tly, .mgt, .dies]
  | .heartbeat .. => some [.lnk, .tly]
  | .leadHeartbeatTimeout => some [.glb, .hif, .ing, .ctl, .lnk, .tly, .mgt, .dies]
  | .memberHeartbeatTimeout .. => some [.glb, .hif, .ing, .ctl, .tly, .mgt, .dies]
  | .tallyCounterSaturation .. => some [.tly]
  | .status => some [.hif, .tly, .mgt, .mbx]
  | .logRead .. => some [.hif, .tly, .mgt, .mbx]
  | .identity => some [.hif, .tly, .mgt, .mbx]
  | .attest .. => some [.hif, .tly, .mgt, .mbx]
  | .setState .. => some [.hif, .tly, .mgt, .mbx]
  | .packageReset => none
  | .captureArm .. => some [.hif, .tly, .mgt, .mbx]
  | .captureRelease => some [.hif, .tly, .mgt, .mbx]
  | .updateBegin .. => some [.hif, .tly, .mgt, .mbx]
  | .updateWrite .. => some [.hif, .tly, .mgt, .mbx]
  | .updateVerify => some [.hif, .tly, .mgt, .mbx]
  | .updateActivate => none
  | .updateConfirm => some [.hif, .tly, .mgt, .mbx]
  | .updateAbort => some [.hif, .tly, .mgt, .mbx]
  | .makerEnable .. => some [.hif, .tly, .mgt, .mbx]
  | .makerChallenge => some [.hif, .tly, .mgt, .mbx]
  | .makerResponse .. => some [.hif, .ctl, .can, .saf, .tly, .mgt, .mbx]
  | .makerEnd => some [.hif, .tly, .mgt, .mbx]
  | .makerOp .. => some [.hif, .tly, .mgt, .mbx]
  | .makerSessionExpiry => some [.tim, .mgt]
  | .thermalSample .. => some [.tly, .mgt]
  | .thermalTrip .. => none
  | .voltageTrip .. => none
  | .marginMeasurement .. => some [.mgt]
  | .logFlush => some []
  | .pmbAlert .. => some [.mgt]
  | .powerOn => none
  | .resetInput .. => none
  | .resetRelease .. => none
  | .pilotCoreTrap .. => some [.mgt]
  | .harbourmasterTrap .. => some [.mgt]

/-- The register at `a` is one that the command may change. -/
def mayWrite (c : Instr) (a : Nat) : Prop :=
  match mayBlocks c with
  | none => True
  | some bs => inBlocks bs a

/-- The canonical forms that every step keeps: the registers' and the memories' lists, and the count of compute dies
that the package can carry (R97). -/
structure State.Inv (s : State) : Prop where
  regs : s.regsWf = true
  mems : memsWf s.comp.mems = true
  dies : s.fuses.cdCount ≤ 7

end Sys2Proof.Machine
end

