-- ==== Sys2Proof/Certificates/Slice0/Obligations.lean ====
section
/-!
DEFINITION. The statements for the provers. `Answers c s P` says that the command `c` answers a next state that
meets `P`; `Starts`, `Completed`, `Asks` and `Replied` (Sys2Proof.Safety) say which descriptor or request a
command serves and how it ended.
-/

open Sys2Proof Sys2Proof.Machine

/-- A step on a queue with a command in front is exec of that command on the state with the queue's rest. On an empty
queue the step idles: the model's choice, log entry 3. Rests on 95_what_each_step_holds.md. -/
def Obligations.StepRunsFront : Prop :=
  (∀ (s : State) (c : Instr) (cs : List Instr), s.pending = c :: cs → step s = exec c { s with pending := cs }) ∧
  (∀ s : State, s.pending = [] → step s = .next s.idle)

/-- Whenever a command answers a next state, the queue is the same, every part of the state that mayParts does not
name for the command is the same, and every register outside the blocks that mayBlocks names for it reads as
before. Rests on 95_what_each_step_holds.md; 15_registers_and_transactions.md: R343. -/
def Obligations.EveryFrame : Prop :=
  ∀ (c : Instr) (s t : State), exec c s = .next t → OnlyChanges s t (mayParts c) (mayWrite c)

/-- SNAP, STOP, CLEAR, START, PCIE_LINK_UP, PCIE_LINK_DOWN, RECOVER, BUS_OFF_RECOVERY_DONE, PEEK_ADDR_WRITE,
DUMP_PAGE_SELECT, CLEAR_MARKS, the port link events, the peer-delay follow-up, RETRAIN, ACK_TIMEOUT,
LINK_CRC_FAILURE, the test pulses and W1C_CLEAR change no register but the few listed for each. Rests on
18_tally_counters.md: R399; 14_host_rings.md: R325; 12_can_fd.md: R294, R296; 15_registers_and_transactions.md:
R350; 16_boot_and_firmware.md: R368; 08_ralostair_fabric.md: R195, R201, R202; 13_functional_safety.md: R306;
10_site_time.md: R245; 19_package_power_cooling.md: R425. -/
def Obligations.RegistersKept : Prop :=
  ∀ s t : State,
    let keeps := fun (c : Instr) (l : List Nat) => exec c s = .next t → ∀ a, a ∉ l → t.rd a = s.rd a
    (∀ c, c ∈ [Instr.snap, .stop, .clear, .start] → keeps c [tlyA 0, tlyA 4]) ∧
    (∀ g w, keeps (.pcieLinkUp g w) [hifA 0]) ∧ keeps .pcieLinkDown [hifA 0] ∧
    (∀ c, keeps (.recover c) [canA c 0x40]) ∧ (∀ c, keeps (.busOffRecoveryDone c) [canA c 0x40, canA c 0x44]) ∧
    (∀ v, keeps (.peekAddrWrite v) [0x110]) ∧ (∀ v, keeps (.dumpPageSelect v) [mgtA 0x30]) ∧
    keeps .clearMarks [mgtA 0x28] ∧
    (∀ p, keeps (.ethPortLinkDown p) [ethA p 4, ethA p 8]) ∧ (∀ p, keeps (.ethPortLinkUp p) [ethA p 4, mgtA 0x28]) ∧
    (∀ p q v, keeps (.pdelayRespFollowUp p q v) [timA (0xD0 + 4 * p)]) ∧
    (∀ k, keeps (.retrain k) [lnkA k 0, lnkA k 4, lnkA k 0x1C, fabA 8]) ∧
    (∀ k, keeps (.ackTimeout k) [lnkA k 4, lnkA k 0x1C, fabA 8, timA 0x88]) ∧
    (∀ k q c n, keeps (.linkCrcFailure k q c n) [lnkA k 0xC, lnkA k 0x10, lnkA k 0x14]) ∧
    (∀ g ch, keeps (.ssoTestPulse g ch) [ssoA g 0xC, timA 0x88]) ∧
    (∀ g ch, keeps (.testPulseEnd g ch) [ssoA g 0xC, timA 0x88]) ∧
    (∀ a v w, keeps (.w1cClear a v w) [a, a + 8, a + 0x18])

/-- An access of another width or alignment reads as zero and a write of that kind is ignored. A read of the low word
returns it and loads the upper word into its latch, and no other latch changes. An upper-word read returns the
latched value, or the live word before the first low-word read. A package reset empties the latches. No command
but a low-word read and the commands that reset the package changes a latch, register writes included. Rule R6. -/
def Obligations.WideLatch : Prop :=
  (∀ (s : State) (a w : Nat) (v : Word), (w ≠ 4 ∨ a % 4 ≠ 0) →
    s.readReg a w = 0 ∧ exec (.registerWrite a w v) s = .next s) ∧
  (∀ (s : State) (a : Nat) (r : RegRow), rowAt a = some r → r.wide = true → a % 4 = 0 →
    Answers (.wideLowWordRead a) s fun t => t.lastRead = s.live a ∧ t.readReg (a + 4) 4 = s.live (a + 4) ∧
      t.regs = s.regs ∧ ∀ b, b ≠ a + 4 → tget none t.latch b = tget none s.latch b) ∧
  (∀ (s : State) (a : Nat) (w : Word), a % 4 = 0 → upperWord a = true →
    tget none s.latch a = some w → s.readReg a 4 = w) ∧
  (∀ (s : State) (a : Nat), a % 4 = 0 → tget none s.latch a = none → s.readReg a 4 = s.live a) ∧
  (∀ (s : State) (cause : Nat) (p : Phase), (s.packageReset cause p).latch = []) ∧
  (∀ (c : Instr) (s t : State), exec c s = .next t → match c with
    | .wideLowWordRead _ | .packageReset | .updateActivate | .resetInput _ _ | .resetRelease _ _ | .thermalTrip _
    | .voltageTrip _ | .powerOn => True
    | _ => t.latch = s.latch)

/-- With the tick unit running, no commit waiting and no change of period, TICK_EDGE moves the time to the edge,
makes its number the tick number, and sets the next edge one period later with the next number. Rests on
01_device_and_tick.md: R13, R14. -/
def Obligations.TickEdgeAdvances : Prop :=
  ∀ (busy : Nat) (s : State), s.clk.live = true → s.clk.t ≤ s.clk.nextEdge → s.inReplay = false →
    s.cfg.commitNum = none → s.periodNs = s.clk.period →
    Answers (.tickEdge busy) s fun t =>
      t.clk.tick = s.clk.nextTick ∧ t.clk.lastEdge = s.clk.nextEdge ∧ t.clk.t = s.clk.nextEdge ∧
      t.clk.nextTick = s.clk.nextTick + 1 ∧ t.clk.nextEdge = s.clk.nextEdge + s.clk.period

/-- At an edge after which another period is in force, the next edge is a multiple of the new period, at least one
and less than two new periods later, its tick number is that multiple (R13), and the jump leaves TIM_SKIP_COUNT
as it was. Rule R21. -/
def Obligations.PeriodChange : Prop :=
  ∀ (busy : Nat) (s : State), s.clk.live = true → s.clk.t ≤ s.clk.nextEdge → s.inReplay = false →
    s.cfg.commitNum = none → 0 < s.periodNs → s.periodNs ≠ s.clk.period →
    Answers (.tickEdge busy) s fun t =>
      s.clk.nextEdge + s.periodNs ≤ t.clk.nextEdge ∧ t.clk.nextEdge < s.clk.nextEdge + 2 * s.periodNs ∧
      t.clk.nextTick * s.periodNs = t.clk.nextEdge ∧ t.clk.period = s.periodNs ∧
      t.rd (timA 0x114) = s.rd (timA 0x114)

/-- A two-step Sync of a domain's selected grandmaster waits for its Follow_Up, renews the receipt time-out of three
intervals and changes no register. A one-step Sync, or the Follow_Up it waits for, takes a LISTENING domain to
ACQUIRING with the offset and frequency of its servo. Rests on 10_site_time.md: R242, R244, R248. -/
def Obligations.SyncAnswers : Prop :=
  (∀ (p dnum gm seqId rx : Nat) (origin k : Int) (r : ServoResult) (s : State) (d : Nat), p < 4 →
    s.domFor p dnum = some d → (s.dom d).sel = some (p, gm) →
    Answers (.sync p dnum gm seqId true ⟨rx, origin, k, r⟩) s fun t =>
      (t.dom d).wait = some ⟨seqId, p, rx, origin⟩ ∧ (t.dom d).syncDue = s.clk.ref + 3 * intervalNs k ∧ t.regs = s.regs) ∧
  (∀ (p dnum gm seqId rx : Nat) (origin k : Int) (r : ServoResult) (s : State) (d : Nat), p < 4 →
    s.domFor p dnum = some d → (s.dom d).sel = some (p, gm) → s.domState d = 1 →
    Answers (.sync p dnum gm seqId false ⟨rx, origin, k, r⟩) s fun t =>
      t.domState d = 2 ∧ (t.dom d).off = r.clockOff ∧ (t.dom d).freq = r.freq) ∧
  (∀ (p dnum seqId rx : Nat) (corr origin : Int) (r : ServoResult) (s : State) (d : Nat), p < 4 →
    s.domFor p dnum = some d → (s.dom d).wait = some ⟨seqId, p, rx, corr⟩ → s.domState d = 1 →
    Answers (.followUp p dnum seqId ⟨origin, r⟩) s fun t =>
      t.domState d = 2 ∧ (t.dom d).off = r.clockOff ∧ (t.dom d).freq = r.freq ∧ (t.dom d).wait = none)

/-- On each one-step Sync of the selected grandmaster, with the offset that the receive stamp, the port's ingress
correction and the link delay give: an ACQUIRING domain locks at the 16th consecutive offset within LOCK_NS, and
only on the PTP time scale, and otherwise stays ACQUIRING; a LOCKED domain falls to LISTENING, counted, at the
4th consecutive offset beyond four times LOCK_NS, and otherwise stays LOCKED. Rests on 10_site_time.md: R246,
R248. -/
def Obligations.LockRule : Prop :=
  ∀ (p dnum gm seqId rx : Nat) (origin k : Int) (r : ServoResult) (s : State) (d : Nat), p < 4 →
    s.domFor p dnum = some d → (s.dom d).sel = some (p, gm) →
    let off : Int := (rx : Int) - s.fld (timA (0xC0 + 4 * p)) 15 0 + (s.dom d).off -
      (origin + (s.rd (timA (0xD0 + 4 * p))).toNat)
    let near := off.natAbs ≤ s.fld (timA 0x84) 13 0
    let far := 4 * s.fld (timA 0x84) 13 0 < off.natAbs
    Answers (.sync p dnum gm seqId false ⟨rx, origin, k, r⟩) s fun t =>
      (s.domState d = 2 → near → 15 ≤ (s.dom d).good → s.ptpScale d = true → t.domState d = 3) ∧
      (s.domState d = 2 → (¬near ∨ (s.dom d).good < 15 ∨ s.ptpScale d = false) → t.domState d = 2) ∧
      (s.domState d = 3 → far → 3 ≤ (s.dom d).bad → t.domState d = 1 ∧
        t.rd (domA d 0x14) = BitVec.ofNat 32 (satAdd countTop (s.rd (domA d 0x14)).toNat 1)) ∧
      (s.domState d = 3 → (¬far ∨ (s.dom d).bad < 3) → t.domState d = 3)

/-- ANNOUNCE puts its vector among the domain's candidates, with its time-out, and selects the best of them. A sync
receipt time-out that is due takes an ACQUIRING or LOCKED domain to LISTENING and drops the candidates of the
selected port, as log entry 20 presumes. An announce receipt time-out drops the candidates of its port once all
of them are due. Rests on 10_site_time.md: R242, R248. -/
def Obligations.MasterSelection : Prop :=
  (∀ (p dnum : Nat) (k : Int) (vec : AnnounceVec) (s : State) (d : Nat), p < 4 → s.domFor p dnum = some d →
    Answers (.announce p dnum ⟨k, vec⟩) s fun t =>
      (t.dom d).cands = candPut ⟨p, vec, s.clk.ref + 3 * intervalNs k⟩ (s.dom d).cands ∧
      ∃ c, bestBy (fun (x y : Candidate) => lexLt x.vec.key y.vec.key) (t.dom d).cands = some c ∧
        (t.dom d).sel = some (c.port, c.vec.gm)) ∧
  (∀ (d p g : Nat) (s : State), d < 2 → 2 ≤ s.domState d → (s.dom d).sel = some (p, g) → s.dueByRef (s.dom d).syncDue →
    Answers (.syncReceiptTimeout d) s fun t => t.domState d = 1 ∧ ∀ c ∈ (t.dom d).cands, c.port ≠ p) ∧
  (∀ (d p : Nat) (s : State), d < 2 → p < 4 → s.domState d ≠ 0 →
    (∀ c ∈ (s.dom d).cands, c.port = p → s.dueByRef c.due) →
    Answers (.announceReceiptTimeout d p) s fun t => ∀ c ∈ (t.dom d).cands, c.port ≠ p)

/-- A Pdelay_Req is answered with Pdelay_Resp and Pdelay_Resp_Follow_Up, whose stamps the port's ingress and egress
values correct, and changes nothing else. A port's own request goes out with the next sequence number; the
answer's stamps are kept; the follow-up gives the mean link delay of the four stamps and the port's values, and
ends the exchange. Rests on 10_site_time.md: R242, R245, R246. -/
def Obligations.LinkDelay : Prop :=
  (∀ (p seqId rx tx : Nat) (s : State), p < 4 → s.mayTransmit = true →
    let ingress := s.fld (timA (0xC0 + 4 * p)) 15 0
    let egress := s.fld (timA (0xC0 + 4 * p)) 31 16
    exec (.pdelayReq p seqId rx tx) s =
      .next ((s.emit (.ptp p 2 seqId (rx - ingress))).emit (.ptp p 3 seqId (tx + egress)))) ∧
  (∀ (p tx : Nat) (s : State), p < 4 → s.mayTransmit = true →
    let q := ((s.ep p).pdSeq + 1) % 65536
    Answers (.pdelayReqTransmit p tx) s fun t => t.out = s.out ++ [.ptp p 1 q tx] ∧ (t.ep p).pdOut = some (q, tx)) ∧
  (∀ (p seqId t1 t2 rx : Nat) (s : State), p < 4 → (s.ep p).pdOut = some (seqId, t1) → s.inReplay = false →
    Answers (.pdelayResp p seqId t2 rx) s fun t => (t.ep p).pdResp = some (t2, rx) ∧ (t.ep p).pdOut = (s.ep p).pdOut) ∧
  (∀ (p seqId t1 t2 t3 t4 : Nat) (s : State), p < 4 → (s.ep p).pdOut = some (seqId, t1) →
    (s.ep p).pdResp = some (t2, t4) → s.inReplay = false →
    Answers (.pdelayRespFollowUp p seqId t3) s fun t =>
      t.rd (timA (0xD0 + 4 * p)) = BitVec.ofNat 32 (meanLinkDelay t1 t2 t3 t4
        (s.fld (timA (0xC0 + 4 * p)) 15 0) (s.fld (timA (0xC0 + 4 * p)) 31 16)) ∧ (t.ep p).pdOut = none)

/-- With no active domain and no holdover, a locked domain becomes active, LOCKED is set and working time steps to
it. After 10 s in which the primary met rule 4 (the reference counts them, log entry 22) the primary becomes
active again, counted. When HOLD_S has passed in holdover with no locked domain, LOCKED and the HOLDOVER bit
clear (the bit: log entry 22). Rests on 10_site_time.md: R249, R251; 01_device_and_tick.md: R15. -/
def Obligations.ActiveDomain : Prop :=
  (∀ (s : State) (d : Nat), s.activeDom = none → s.flag (timA 0x88) 2 = false → s.lockedDom = some d →
    Answers .activeDomainEvaluation s fun t => t.activeDom = some d ∧ t.locked = true ∧
      t.clk.t = ((s.clk.t : Int) + (s.dom d).off).toNat) ∧
  (∀ (s u : State) (g : Nat), s.clk.goodSince = some g → s.reachRef (g + 10000000000) = some u →
    u.activeDom = some (1 - u.primary) → u.domState u.primary = 3 → u.offsetOk u.primary = true →
    Answers .primaryReturn s fun t => t.activeDom = some u.primary ∧
      t.rd (timA 0x8C) = BitVec.ofNat 32 (satAdd countTop (u.rd (timA 0x8C)).toNat 1)) ∧
  (∀ (s u : State), s.flag (timA 0x88) 2 = true →
    s.reachRef (s.clk.holdSince + s.fld (timA 0x80) 15 8 * 1000000000) = some u → u.lockedDom = none →
    Answers .holdoverExpiry s fun t => t.locked = false ∧ t.flag (timA 0x88) 2 = false)

/-- The control computation at the cut-off computes the window. At the comparison deadline each staged command that
was not compared is a disagreement and is held or stopped. The checker's u within the threshold marks the command
compared and changes neither the safety block nor its registers; a NaN or a difference beyond the threshold holds
or stops it. Rests on 01_device_and_tick.md: R26, R27; 13_functional_safety.md: R310, R311. -/
def Obligations.ControlCycle : Prop :=
  (∀ s u : State, s.clk.live = true → s.clk.win = .collecting → s.reach s.cutoff = some u →
    Answers .controlComputation s fun t => t.clk.win = .computed ∧ t.clk.lastCut = u.cutoff ∧
      t.clk.prevComp = u.clk.tick ∧ t.saf.computed = true) ∧
  (∀ s u : State, s.clk.live = true → s.clk.win = .computed → s.reach (s.clk.nextEdge - 5000) = some u →
    Answers .comparisonDeadline s fun t => ∀ a < 64, ∀ c, (u.ax a).staged = some c → c.compared = false →
      t.flag (timA 0x110) 2 = true ∧
      ∃ k, (t.ax a).staged = some { c with compared := true, hold := !k, stop := k }) ∧
  (∀ (s : State) (a : Nat) (u : F32) (c : StagedCmd), a < 64 → (s.ax a).staged = some c → c.compared = false →
    s.clk.win = .computed → s.clk.t + 5000 ≤ s.clk.nextEdge → fisNan c.u = false → fisNan u = false →
    fisNan (fabs (fsub c.u u)) = false → flt (s.fr a 0x70) (fabs (fsub c.u u)) = false →
    Answers (.checkerComparison a u) s fun t => (t.ax a).staged = some { c with compared := true } ∧ t.saf = s.saf ∧
      ∀ o < 0x100000, t.rd (safA o) = s.rd (safA o)) ∧
  (∀ (s : State) (a : Nat) (u : F32) (c : StagedCmd), a < 64 → (s.ax a).staged = some c → c.compared = false →
    s.clk.win = .computed → s.clk.t + 5000 ≤ s.clk.nextEdge →
    (fisNan c.u = true ∨ fisNan u = true ∨ flt (s.fr a 0x70) (fabs (fsub c.u u)) = true) →
    Answers (.checkerComparison a u) s fun t =>
      ∃ k, (t.ax a).staged = some { c with compared := true, hold := !k, stop := k })

/-- The expiry of the profile, loop, output or kernel watchdog, a wrong or untimely kernel kick and a readback fault
each stop the package: the stop is latched, all four groups stop and the safety block owns every enabled axis. A
first kick sets the next expected value (log entry 73), and a right and timely kick changes no register. Rests on
13_functional_safety.md: R303, R306, R307, R308. -/
def Obligations.LatchedPackageStop : Prop :=
  let all := fun (s t : State) => t.pkgStopped = true ∧ t.saf.latched = true ∧ (∀ g < 4, t.stopped.testBit g = true) ∧
    ∀ a < 64, s.axOn a = true → t.SafetyOwns a
  (∀ s u : State, s.clk.live = true → s.clk.win = .collecting → s.reach (s.cutoff + 10000) = some u →
    Answers .profileWatchdogExpiry s (all s)) ∧
  (∀ s u : State, s.clk.live = true → s.clk.win = .collecting → s.reach (s.cutoff + 18000) = some u →
    Answers .loopWatchdogExpiry s (all s)) ∧
  (∀ (s u : State) (a due : Nat), a < 64 → s.ethLate a = some due → s.reach due = some u →
    Answers (.outputWatchdogExpiry a) s (all s)) ∧
  (∀ (s u : State) (a : Nat), a < 64 → s.ethLate a = none → s.clk.live = true → s.axOn a = true →
    s.clk.win = .computed → (s.ax a).staged = none → s.reach (s.clk.nextEdge - 5000) = some u →
    Answers (.outputWatchdogExpiry a) s (all s)) ∧
  (∀ (s u : State) (want last : Nat), s.saf.kick = some (want, last) → s.reachRef (last + 150001) = some u →
    Answers .kernelWatchdogExpiry s (all s)) ∧
  (∀ (s : State) (g ch : Nat), g < 4 → ch < 2 → s.isReady = true → Answers (.ssoReadbackFault g ch) s (all s)) ∧
  (∀ (s : State) (value after : Nat), s.isReady = true → s.hm.pilots.all (fun p => p.state = 0) = true →
    s.saf.kick = none →
    Answers (.kernelKick value after) s fun t => t.saf.kick = some ((value + 1) % 256, s.clk.ref) ∧ t.regs = s.regs) ∧
  (∀ (s u : State) (value after want last : Nat), s.isReady = true → s.hm.pilots.all (fun p => p.state = 0) = true →
    s.saf.kick = some (want, last) → s.reachRef (last + after) = some u →
    Answers (.kernelKick value after) s fun t => t.saf.kick = some ((value + 1) % 256, u.clk.ref) ∧
      ((value % 256 ≠ want ∨ u.clk.ref < last + 50000 ∨ last + 150000 < u.clk.ref) → all s t) ∧
      (value % 256 = want → last + 50000 ≤ u.clk.ref → u.clk.ref ≤ last + 150000 → t.regs = u.regs))

/-- The ingest, preprocess, perception and segment watchdogs stop the groups that SAF_REACT maps to their stage, a
demand or discrepancy of a safety input the groups of its register, when their condition holds. Rests on
13_functional_safety.md: R305, R307, R308. -/
def Obligations.MappedGroupsStop : Prop :=
  let stops := fun (m : Nat) (t : State) => ∀ g < 4, m.testBit g = true → t.stopped.testBit g = true
  (∀ (s u : State) (st last : Nat), st < 48 → (s.sst st).last = some last → s.flag (safSt st 0) 31 = true →
    s.reachRef (last + s.fld (safSt st 4) 31 16 * 100000) = some u →
    Answers (.ingestWatchdogExpiry st) s (stops (s.fld (safA 4) 3 0))) ∧
  (∀ (s u : State) (st : Nat) (x : Sample), st < 48 →
    (s.strm st).wait.find? (fun x => decide (x.done ≠ 0)) = some x →
    s.reach (x.done + s.fld (safA 0xC) 15 0 * 1000 + 1) = some u →
    Answers (.preprocessWatchdogExpiry st) s (stops (s.fld (safA 4) 7 4))) ∧
  (∀ s : State, 0 < s.saf.percDue → s.flag (safA 0x10) 31 = true →
    Answers .perceptionWatchdogMiss s fun t => t.saf.percDue = s.saf.percDue - 1 ∧
      (s.fld (safA 0x10) 27 24 ≤ s.saf.percMiss + 1 → stops (s.fld (safA 4) 11 8) t)) ∧
  (∀ (s u : State) (a since : Nat), a < 64 → (s.ax a).segRef = some since → s.flag (safA 0x14) 31 = true →
    s.axState a = 2 → s.fld (ctlA a 0x104) 31 28 = 9 →
    s.reachRef (since + s.fld (safA 0x14) 15 0 * 1000000) = some u →
    Answers (.segmentWatchdogExpiry a) s (stops (s.fld (safA 4) 15 12))) ∧
  (∀ (s : State) (i ch stamp uncert : Nat) (level : Bool), i < 16 → ch < 2 → s.siLevel i ch ≠ level →
    s.inReplay = false → s.isReady = true →
    Answers (.safetyInputChange i ch level stamp uncert) s fun t => t.siLevel i ch = level ∧
      (s.siOn i = true → s.siRun i = true → stops (s.siGroups i) t)) ∧
  (∀ (s u : State) (i since : Nat), i < 16 → tget 0 s.saf.discSince i = since + 1 → s.siOn i = true →
    s.reachRef (since + s.fld (safA (0x20 + 4 * i)) 9 0 * 1000000 + 1) = some u →
    Answers (.inputDiscrepancy i) s fun t => t.flag (safA 0x64) (16 + i) = true ∧ stops (s.siGroups i) t)

/-- When its pulse is due a channel in run state with TP_EN goes de-energised for 200 us, and at the end of the pulse
it is energised again and its next pulse is due 250 ms after the present one; each change is an output. Rests on
13_functional_safety.md: R306. -/
def Obligations.TestPulses : Prop :=
  (∀ (s u : State) (g ch due : Nat), g < 4 → ch < 2 → s.flag (ssoA g 0xC) 31 = true → s.flag (ssoA g 0) 30 = true →
    tget Pulse.init s.saf.pulses (2 * g + ch) = ⟨false, due⟩ → 0 < due → s.reachRef due = some u →
    Answers (.ssoTestPulse g ch) s fun t => t.flag (ssoA g 0xC) ch = false ∧
      tget Pulse.init t.saf.pulses (2 * g + ch) = ⟨true, u.clk.ref + 200000⟩ ∧
      t.out = u.out ++ [.sso g (t.flag (ssoA g 0xC) 0) (t.flag (ssoA g 0xC) 1)]) ∧
  (∀ (s u : State) (g ch due : Nat), g < 4 → ch < 2 → tget Pulse.init s.saf.pulses (2 * g + ch) = ⟨true, due⟩ →
    s.reachRef due = some u →
    Answers (.testPulseEnd g ch) s fun t => t.flag (ssoA g 0xC) ch = true ∧
      tget Pulse.init t.saf.pulses (2 * g + ch) = ⟨false, due + 249800000⟩ ∧
      t.out = u.out ++ [.sso g (t.flag (ssoA g 0xC) 0) (t.flag (ssoA g 0xC) 1)])

/-- NOP completes with SUCCESS. RING_ROLE on a ring that is idle or off gives it the installer role and permissions
of the descriptor. CFG_ROLLBACK by the owner empties and closes the transaction; while committing it ends with
CFG_BUSY, with no own transaction with CFG_NOT_OPEN, and after a time-out with CFG_TIMEOUT. Rests on
14_host_rings.md: R329, R332; 15_registers_and_transactions.md: R347, R349. -/
def Obligations.RingDescriptors : Prop :=
  ∀ (s : State) (r : Nat) (d : Inflight),
    (Starts s r 0x00 d → Answers (.nop r) s fun t => Completed s t r d .success 0 0 s.now32) ∧
    (Starts s r 0x01 d → le d.bytes 8 4 ≠ 0 → le d.bytes 8 4 < 8192 →
      (s.ringOn (le d.bytes 8 4) && s.ringBusy (le d.bytes 8 4)) = false →
      Answers (.ringRole r) s fun t => Completed s t r d .success 0 0 s.now32 ∧
        t.installer (le d.bytes 8 4) = (le d.bytes 12 1 % 2 == 1) ∧
        t.fld (ringA (le d.bytes 8 4) 0x14) 5 0 = le d.bytes 14 2 % 64) ∧
    (Starts s r 0x04 d → Answers (.cfgRollback r) s fun t =>
      (s.cfgOwns r = true → s.cfgCommitting = false →
        Completed s t r d .success 0 0 s.now32 ∧ t.cfgOpen = false ∧ t.cfg.staged = []) ∧
      (s.cfgOwns r = true → s.cfgCommitting = true → Completed s t r d .cfgBusy 0 0 s.now32 ∧ t.cfg = s.cfg) ∧
      (s.cfgOwns r = false → s.cfg.timedOut ≠ some r → Completed s t r d .cfgNotOpen 0 0 s.now32 ∧ t.cfg = s.cfg) ∧
      (s.cfgOwns r = false → s.cfg.timedOut = some r → Completed s t r d .cfgTimeout 0 0 s.now32))

/-- AXIS_TABLE keeps its table for the axis, or ends with HOST_MEMORY_FAULT. RELEASE gives up a host's ownership,
CLEAR_FAULT and SAFE_STOP_RESET set the re-initialisation in their states, and each ends with the status of the
axis's state otherwise. TRACE_READ returns the records' length and leaves the axes as they are. Rests on
11_control_engine.md: R264, R272, R274, R277; 14_host_rings.md: R330. -/
def Obligations.AxisDescriptors : Prop :=
  ∀ (s : State) (r : Nat) (d : Inflight), let a := le d.bytes 8 1
    (∀ tab, Starts s r 0x22 d → Answers (.axisTable r (some tab)) s fun t => Completed s t r d .success 0 0 s.now32 ∧
      (le d.bytes 9 1, tableOf tab 0 4096) ∈ (t.ax a).tblLoad) ∧
    (Starts s r 0x22 d → Answers (.axisTable r none) s fun t => Completed s t r d .hostMemoryFault 0 0 s.now32 ∧
      t.axes = s.axes) ∧
    (Starts s r 0x20 d → le d.bytes 9 1 = 3 → s.axState a ≠ 0 → Answers (.release r) s fun t =>
      Completed s t r d .success 0 0 s.now32 ∧ (∀ q, s.owner a = some (2, q) → t.owner a = none) ∧
      ((∀ q, s.owner a ≠ some (2, q)) → t.owner a = s.owner a)) ∧
    (Starts s r 0x20 d → le d.bytes 9 1 = 3 → s.axState a = 0 → Answers (.release r) s fun t =>
      Completed s t r d .axisDisabled 0 0 s.now32 ∧ t.owner a = s.owner a) ∧
    (Starts s r 0x20 d → le d.bytes 9 1 = 4 → s.axState a = 5 → Answers (.clearFault r) s fun t =>
      Completed s t r d .success 0 0 s.now32 ∧ (t.ax a).reinit = true) ∧
    (Starts s r 0x20 d → le d.bytes 9 1 = 4 → s.axState a ≠ 5 → Answers (.clearFault r) s fun t =>
      Completed s t r d (if s.axState a = 0 then .axisDisabled else .axisFaulted) 0 0 s.now32 ∧ t.axes = s.axes) ∧
    (Starts s r 0x20 d → le d.bytes 9 1 = 5 → s.axState a = 4 → s.stopAsserted a = false →
      Answers (.safeStopReset r) s fun t => Completed s t r d .success 0 0 s.now32 ∧ (t.ax a).reinit = true) ∧
    (Starts s r 0x20 d → le d.bytes 9 1 = 5 → s.axState a = 4 → s.stopAsserted a = true →
      Answers (.safeStopReset r) s fun t => Completed s t r d .axisOwned 0 0 s.now32 ∧ t.axes = s.axes) ∧
    (Starts s r 0x23 d → Answers (.traceRead r) s fun t =>
      Completed s t r d .success
        (min (le d.bytes 12 4) (32 + 4 * ((s.ax a).trc.map (fun e => e.2.length)).sum)) 0 s.now32 ∧ t.axes = s.axes)

/-- A SAFETY_RESET whose groups could all be released when it was fetched completes with SUCCESS and marks the
stopped ones for the next edge, but those that stopped again since the fetch; otherwise it ends with
SAFETY_RESET_REFUSED and changes nothing of the safety block. GOLDEN_LOAD stores the golden sample of its stream,
or ends with LENGTH_EXCEEDS where its packet list does not add up (log entry 151) or all streams would hold more
than 48 MiB. Rests on 13_functional_safety.md: R302, R312. -/
def Obligations.SafetyDescriptors : Prop :=
  ∀ (s : State) (r : Nat) (d : Inflight),
    (Starts s r 0x28 d → (∀ g < 4, (le d.bytes 8 1).testBit g = true → d.fetch.may.testBit g = true) →
      Answers (.safetyReset r) s fun t => Completed s t r d .success 0 0 s.now32 ∧
        ∀ g < 4, (le d.bytes 8 1).testBit g = true → s.stopped.testBit g = true →
          (s.saf.stops.getD g 0 = d.fetch.stops.getD g 0 →
            t.saf.releasing.testBit g = true ∧ t.stopped.testBit g = true) ∧
          (s.saf.stops.getD g 0 ≠ d.fetch.stops.getD g 0 →
            t.saf.releasing.testBit g = s.saf.releasing.testBit g ∧ t.stopped.testBit g = true)) ∧
    (∀ g < 4, Starts s r 0x28 d → (le d.bytes 8 1).testBit g = true → d.fetch.may.testBit g = false →
      Answers (.safetyReset r) s fun t => Completed s t r d .safetyResetRefused 0 0 s.now32 ∧
        t.saf = s.saf ∧ t.stopped = s.stopped) ∧
    (∀ l o, Starts s r 0x29 d →
      let st := le d.bytes 8 1
      let well := packetListOk l.length (l.take (le d.bytes 12 4))
      let g : Golden := ⟨packetList l.length (l.take (le d.bytes 12 4)), o.take 512, slice d.bytes 32 16⟩
      (well = false → Answers (.goldenLoad r (some l) (some o)) s fun t =>
        Completed s t r d .lengthExceeds 0 0 s.now32 ∧ t.saf = s.saf) ∧
      (well = true → s.goldenUsed st + (g.packets.map List.length).sum + g.roi.length ≤ 48 * 2 ^ 20 →
        Answers (.goldenLoad r (some l) (some o)) s fun t => Completed s t r d .success 0 0 s.now32 ∧
          (t.sst st).golden = some g) ∧
      (48 * 2 ^ 20 < s.goldenUsed st + (g.packets.map List.length).sum + g.roi.length →
        Answers (.goldenLoad r (some l) (some o)) s fun t => Completed s t r d .lengthExceeds 0 0 s.now32 ∧
          t.saf = s.saf))

/-- CYCLIC_LOAD replaces a bank that does not run, nor starts at the next edge, and refuses one that does. TALLY_READ
of a die in service completes. PKG_RETAIN ends with the status of the package's check, or gives it a free handle.
PKG_RELEASE ends with PACKAGE_NOT_RETAINED, JOB_IN_USE or frees the handle. DECODED takes the planes of a sample
at the host, or ends with OFFLOAD_EXPIRED. Rests on 06_placement_and_scheduling.md: R152, R171;
18_tally_counters.md: R404; 14_host_rings.md: R333; 09_sensor_ingest.md: R239. -/
def Obligations.TableDescriptors : Prop :=
  ∀ (s : State) (r : Nat) (d : Inflight),
    (∀ b, Starts s r 0x18 d → 0 < le b 4 4 → le b 4 4 ≤ 512 → 32 + 16 * le b 4 4 ≤ le d.bytes 12 4 →
      let n := le d.bytes 8 1
      let running := (s.flag 0x208 0 && decide (s.fld 0x208 1 1 = n)) || decide (s.comp.cycNext = some (some n))
      n < 2 →
      Answers (.cyclicLoad r (some b)) s fun t =>
        (running = true → Completed s t r d .cyclicBankActive 0 0 s.now32 ∧ t.bank0 = s.bank0 ∧ t.bank1 = s.bank1) ∧
        (running = false → Completed s t r d .success 0 0 s.now32 ∧
          (if n = 0 then t.bank0 else t.bank1) = fitTo (32 + 16 * le b 4 4) b ∧
          (if n = 0 then t.bank1 = s.bank1 else t.bank0 = s.bank0) ∧ t.flag (glbA (0x20C + 4 * n)) 31 = true)) ∧
    (Starts s r 0x40 d → (le d.bytes 8 1 = 7 ∨ s.flag 4 (8 + le d.bytes 8 1) = true) →
      Answers (.tallyRead r) s fun t => Completed s t r d .success 0 0 s.now32) ∧
    (∀ p, Starts s r 0x10 d → s.loss = none →
      Answers (.pkgRetain r (some p)) s fun t =>
        (pkgCheck p ≠ .success → Completed s t r d (pkgCheck p) 0 0 s.now32 ∧ t.comp.pkgs = s.comp.pkgs) ∧
        (∀ u h, pkgCheck p = .success → (s.begin r d.num).retain p = some (u, h) →
          Completed s t r d .success h 0 s.now32 ∧ (t.pkg h).map (·.decl) = some p ∧ s.pkg h = none)) ∧
    (Starts s r 0x14 d → s.loss = none →
      Answers (.pkgRelease r) s fun t =>
        (s.pkg (le d.bytes 8 2) = none → Completed s t r d .packageNotRetained 0 0 s.now32) ∧
        (∀ p, s.pkg (le d.bytes 8 2) = some p → (∃ j ∈ s.jobs, j.pkg = le d.bytes 8 2) →
          Completed s t r d .jobInUse 0 0 s.now32 ∧ t.comp.pkgs = s.comp.pkgs) ∧
        (∀ p, s.pkg (le d.bytes 8 2) = some p → (∀ j ∈ s.jobs, j.pkg ≠ le d.bytes 8 2) →
          Completed s t r d .success 0 0 s.now32 ∧ t.pkg (le d.bytes 8 2) = none)) ∧
    (∀ planes, Starts s r 0x3A d → s.atHost (le d.bytes 8 1) (le d.bytes 24 4) = none →
      Answers (.decoded r planes) s fun t => Completed s t r d .offloadExpired 0 0 s.now32) ∧
    (∀ b x due, Starts s r 0x3A d → s.atHost (le d.bytes 8 1) (le d.bytes 24 4) = some (x, due) → s.clk.ref ≤ due →
      let m := s.sampleDims (le d.bytes 8 1) x
      le d.bytes 12 4 = 3 * m.1 * m.2 →
      Answers (.decoded r (some b)) s fun t => Completed s t r d .success 0 0 s.now32 ∧
        ∀ y ∈ (t.strm (le d.bytes 8 1)).wait, y.num = x.num → y.canary = x.canary → y.phase = .hosted)

/-- An ETH_TX to an untimed queue is queued and changes no register. One to a timed queue is queued with its launch
time, or ends with LAUNCH_OUT_OF_RANGE beyond 1 s ahead, and when late ends with LAUNCH_LATE or is sent at once,
as the port is set; while the package may not transmit a late frame is only queued. A CAN_TX with a bad record
ends with DESCRIPTOR_INVALID, with 32 host frames queued with CAN_QUEUE_FULL, and otherwise is queued with its
ESI bit 0, behind the others while no buffer is free. Rests on 10_site_time.md: R253; 12_can_fd.md: R284, R285. -/
def Obligations.FrameDescriptors : Prop :=
  ∀ (s : State) (r : Nat) (d : Inflight),
    let p := le d.bytes 8 1
    let q := le d.bytes 9 1
    let len := le d.bytes 12 4
    (∀ b, Starts s r 0x30 d → s.queueTimed p q = false → Answers (.ethTx r (some b)) s fun t =>
      (t.ep p).q = (s.ep p).q ++ [⟨q, none, false, .host r d.num, b.take len⟩] ∧ t.regs = s.regs ∧
      t.desc r d.num = some { d with begun := true }) ∧
    (∀ b, Starts s r 0x30 d → s.queueTimed p q = true →
      let field := le d.bytes 24 4
      (0 ≤ dist32 field s.now32 → dist32 field s.now32 ≤ 1000000000 → Answers (.ethTx r (some b)) s fun t =>
        (t.ep p).q = (s.ep p).q ++ [⟨q, some (s.extend field), false, .host r d.num, b.take len⟩]) ∧
      (1000000000 < dist32 field s.now32 → Answers (.ethTx r (some b)) s fun t =>
        Completed s t r d .launchOutOfRange 0 0 s.now32 ∧ t.flag (ethA p 0x204) 2 = true ∧ t.ep p = s.ep p) ∧
      (dist32 field s.now32 < 0 → s.lateDrop p q = true → Answers (.ethTx r (some b)) s fun t =>
        Completed s t r d .launchLate 0 0 s.now32 ∧ t.flag (ethA p 0x204) 1 = true ∧ t.ep p = s.ep p) ∧
      (dist32 field s.now32 < 0 → s.lateDrop p q = false → s.mayTransmit = true → Answers (.ethTx r (some b)) s fun t =>
        t.flag (ethA p 0x204) 0 = true ∧
        (t.ep p).q = (s.ep p).q ++ [⟨q, some (s.extend field), true, .host r d.num, b.take len⟩]) ∧
      (dist32 field s.now32 < 0 → s.lateDrop p q = false → s.mayTransmit = false → Answers (.ethTx r (some b)) s fun t =>
        t.regs = s.regs ∧ t.out = s.out ∧
        (t.ep p).q = (s.ep p).q ++ [⟨q, some (s.extend field), false, .host r d.num, b.take len⟩])) ∧
    (Starts s r 0x30 d → Answers (.ethTx r none) s fun t => Completed s t r d .hostMemoryFault 0 0 s.now32) ∧
    (∀ b, Starts s r 0x31 d → canRecordOk b = false → Answers (.canTx r (some b)) s fun t =>
      Completed s t r d .descriptorInvalid 0 0 s.now32 ∧ t.can = s.can) ∧
    (∀ b, Starts s r 0x31 d → canRecordOk b = true → q ≠ 1 → s.canSends p = true →
      ((s.cn p).q.filter (fun f => srcRank f.src = 2)).length < 32 →
      Answers (.canTx r (some b)) s fun t => (s.cn p).seq < (t.cn p).seq ∧
        t.desc r d.num = some { d with begun := true } ∧
        ((∀ k ∈ s.genBufs p, ((s.cn p).bufAt k).isSome = true) → (s.cn p).safeWait = false → (t.cn p).q =
          (s.cn p).q ++ [⟨canPad { canFrameOf b with esi := false }, .host r d.num, s.clk.t, (s.cn p).seq, 0⟩])) ∧
    (∀ b, Starts s r 0x31 d → canRecordOk b = true → q ≠ 1 → s.canSends p = true →
      32 ≤ ((s.cn p).q.filter (fun f => srcRank f.src = 2)).length →
      Answers (.canTx r (some b)) s fun t => Completed s t r d .canQueueFull 0 0 s.now32 ∧
        ((∀ k ∈ s.genBufs p, ((s.cn p).bufAt k).isSome = true) → (s.cn p).safeWait = false → t.can = s.can))

/-- RX_POST appends its buffer. While streamed logging goes on a LOG_POST of direction 0 waits behind the others;
once logging has ended it takes the records that fit, completes if it is full and otherwise waits. One of
direction 1 hands its records to replay and completes (log entry 62). An OFFLOAD_POST waits while no sample is
for the host, and otherwise takes it. Rests on 14_host_rings.md: R332; 07_determinism_and_replay.md: R183;
09_sensor_ingest.md: R238. -/
def Obligations.PostedBuffers : Prop :=
  ∀ (s : State) (r : Nat) (d : Inflight),
    (Starts s r 0x32 d → Answers (.rxPost r) s fun t =>
      (t.ring r).rx = (s.ring r).rx ++ [⟨d.num, le d.bytes 16 8, le d.bytes 12 4 / 80, 0, 0⟩] ∧ t.regs = s.regs ∧
      t.desc r d.num = some { d with begun := true }) ∧
    (∀ data, Starts s r 0x38 d → le d.bytes 8 1 = 0 →
      let p : Post := ⟨r, d.num, le d.bytes 12 4, [], false⟩
      (s.logMode ≠ 3 → s.logOn = true → (∀ x ∈ s.slog.posts, x.full = false) → Answers (.logPost r data) s fun t =>
        t.slog.posts = s.slog.posts ++ [p] ∧ t.slog.recs = s.slog.recs ∧ t.desc r d.num = some { d with begun := true }) ∧
      ((s.logMode = 3 ∨ s.logOn = false) → s.slog.posts = [] → Answers (.logPost r data) s fun t =>
        t.slog.recs = (p.take s.slog.recs).2 ∧
        ((p.take s.slog.recs).1.full = true → t.slog.posts = [] ∧
          Completed s t r d .success (p.take s.slog.recs).1.got.length 0 s.now32) ∧
        ((p.take s.slog.recs).1.full = false → t.slog.posts = [(p.take s.slog.recs).1] ∧
          t.desc r d.num = some { d with begun := true }))) ∧
    (∀ b, Starts s r 0x38 d → le d.bytes 8 1 ≠ 0 → Answers (.logPost r (some b)) s fun t =>
      Completed s t r d .success 0 0 s.now32 ∧
      t.slog.play = s.slog.play ++ LogRec.decodeAll b.length (b.take (le d.bytes 12 4))) ∧
    (Starts s r 0x39 d → (s.sampleQueue (fun p => p == .offloaded 0)) = [] → Answers (.offloadPost r) s fun t =>
      t.desc r d.num = some { d with begun := true } ∧ t.out = s.out ∧ t.regs = s.regs) ∧
    (∀ st x, Starts s r 0x39 d → s.sampleQueue (fun p => p == .offloaded 0) = [(st, x)] →
      (s.begin r d.num).offloadBuf = some (r, { d with begun := true }) →
      32 + (packetBytes x.pkts).length ≤ le d.bytes 12 4 → Answers (.offloadPost r) s fun t =>
      t.desc r d.num = none ∧
      ∀ y ∈ (t.strm st).wait, y.num = x.num → y.canary = x.canary → y.phase = .offloaded (s.clk.ref + 1))

/-- A CFG_COMMIT of the owner freezes its transaction, unless the staging overflowed or preliminary validation finds
a fault, which end it with their status and leave nothing staged. Without a transaction, or for one that commits
or has timed out, it ends with CFG_NOT_OPEN, CFG_BUSY or CFG_TIMEOUT. A SCRUB in range starts, holding its core,
or ends with SCRUB_BUSY while the core is in use. Rests on 15_registers_and_transactions.md: R346, R347, R348,
R349; 05_memory_and_berths.md: R118. -/
def Obligations.CommitDescriptors : Prop :=
  ∀ (s : State) (r : Nat) (d : Inflight),
    (Starts s r 0x03 d → s.cfgOwns r = true → (s.cfgCommitting = false ∨ s.cfg.commitNum = some d.num) →
      let v : State := ({ s.begin r d.num with cfg :=
        { s.cfg with commitNum := some d.num, commitT := s.clk.t } } : State).put 0x100 1 1 1
      Answers (.cfgCommit r) s fun t =>
        (s.flag 0x100 2 = false → v.prelim = none → t.cfgCommitting = true ∧ t.cfg.commitNum = some d.num ∧
          t.cfg.staged = s.cfg.staged ∧ t.desc r d.num = some { d with begun := true }) ∧
        (s.flag 0x100 2 = true → Completed s t r d .cfgWriteInvalid 0 0 s.now32 ∧ t.cfgOpen = false ∧
          t.cfg.staged = []) ∧
        (∀ a st, s.flag 0x100 2 = false → v.prelim = some (a, st) → Completed s t r d st 0 0 s.now32 ∧
          t.cfgOpen = false ∧ t.cfg.staged = [] ∧ t.rd 0x128 = BitVec.ofNat 32 a ∧
          t.fld 0x100 15 8 = st.code % 256)) ∧
    (Starts s r 0x03 d → s.cfgOwns r = true → s.cfgCommitting = true → s.cfg.commitNum ≠ some d.num →
      Answers (.cfgCommit r) s fun t => Completed s t r d .cfgBusy 0 0 s.now32 ∧ t.cfg = s.cfg) ∧
    (Starts s r 0x03 d → s.cfgOwns r = false → s.cfg.timedOut ≠ some r →
      Answers (.cfgCommit r) s fun t => Completed s t r d .cfgNotOpen 0 0 s.now32 ∧ t.cfg = s.cfg) ∧
    (Starts s r 0x03 d → s.cfgOwns r = false → s.cfg.timedOut = some r →
      Answers (.cfgCommit r) s fun t => Completed s t r d .cfgTimeout 0 0 s.now32) ∧
    (Starts s r 0x19 d → s.loss = none → le d.bytes 16 8 % 4096 = 0 →
      let target := le d.bytes 8 1
      let die := le d.bytes 9 1
      let core := le d.bytes 10 1
      let n := le d.bytes 12 4
      let base := le d.bytes 16 8
      let lim := scrubRange target core
      0 < n → n ≠ 0xFFFFFFFF → lim.1 ≤ base → base + n * 4096 ≤ lim.2 →
      ((target < 2 ∨ ((s.core die core).tile = none ∧ s.physReserved die core = false)) →
        Answers (.scrub r) s fun t =>
          t.comp.scrubs = s.comp.scrubs ++ [⟨r, d.num, target, die, core, base, n * 512⟩] ∧
          (2 ≤ target → (t.core die core).held = true) ∧ t.desc r d.num = some { d with begun := true }) ∧
      (2 ≤ target → ((s.core die core).tile ≠ none ∨ s.physReserved die core = true) →
        Answers (.scrub r) s fun t => Completed s t r d .scrubBusy 0 0 s.now32 ∧ t.comp.scrubs = s.comp.scrubs))

/-- A SUBMIT or STEP whose host memory reads all succeeded completes with the status that the admission checks give
and leaves the jobs alone, or enters the job that they admit, which becomes the last job; a class C submission
completes at once. The admission function is the model's (log entries 91 to 94). Rests on
06_placement_and_scheduling.md: R148, R149, R150, R158, R159; 14_host_rings.md: R333, R334. -/
def Obligations.JobRequests : Prop :=
  let decided := fun (s : State) (c : Instr) (r : Nat) (d : Inflight) (q : SubReq) =>
    let v := s.begin r d.num
    let b := submBytes q (v.subDigest q) v.nextJob
    let u := v.logSubmit r b
    let q : SubReq := { q with key := if s.logOn && !s.inReplay then s.slog.seq else 0, subm := b }
    (∀ st, u.admission q = .error st → Answers c s fun t =>
      Completed s t r d st 0 0 s.now32 ∧ t.jobs = s.jobs ∧ t.flag 0x244 0 = true) ∧
    (∀ w j, u.admission q = .ok (w, j) → (w.pkg j.pkg).isSome = true → Answers c s fun t =>
      (∃ x ∈ t.jobs, x.id = j.id) ∧ t.comp.lastJob = j.id ∧
      (j.classC = true → t.desc r d.num = none))
  ∀ (s : State) (r : Nat) (d : Inflight) (pr : Bytes) (inputs : List (Option Bytes)) (ins : List Bytes)
    (peers : List Peer), s.loss = none → allSome inputs = some ins →
    (∀ pkg, Starts s r 0x11 d → (le d.bytes 8 2 ≠ 0 ∨ pkg ≠ none) →
      decided s (.submit r pkg (some pr) inputs peers) r d
        ⟨r, d.num, d.bytes, le d.bytes 8 2, pkg, pr, [], ins, peers, 0, [], none, d.fetch.t, d.fetch.tick⟩) ∧
    (∀ ln, Starts s r 0x12 d → decided s (.stepCmd r (some pr) (some ln) inputs peers) r d
        ⟨r, d.num, d.bytes, le d.bytes 8 2, none, pr, ln, ins, peers, 0, [], none, d.fetch.t, d.fetch.tick⟩)

/-- Another ring's job needs the installer role. A job that is not there ends the descriptor with DESCRIPTOR_INVALID,
a class C job that a table names with JOB_IN_USE. Otherwise the job ends at once, or at its running tiles'
boundary with SUCCESS for class C and JOB_CANCELLED for class S. Rests on 06_placement_and_scheduling.md: R169,
R172; 14_host_rings.md: R333. -/
def Obligations.JobRelease : Prop :=
  ∀ (s : State) (r : Nat) (d : Inflight), s.loss = none → Starts s r 0x13 d →
    let ring := le d.bytes 8 4
    let tag := le d.bytes 12 4
    let named := s.jobs.find? (fun j => j.ring == ring && j.tag == tag && (!j.silent || (s.inReplay && j.member.isNone)))
    ((ring ≠ r → s.installer r = false → Answers (.jobRelease r) s fun t =>
      Completed s t r d .permissionDenied 0 0 s.now32 ∧ t.jobs = s.jobs)) ∧
    ((ring = r ∨ s.installer r = true) → named = none → Answers (.jobRelease r) s fun t =>
      Completed s t r d .descriptorInvalid 0 0 s.now32 ∧ t.jobs = s.jobs) ∧
    (∀ j, (ring = r ∨ s.installer r = true) → named = some j → j.classC = true → s.cycNames j.id = true →
      Answers (.jobRelease r) s fun t => Completed s t r d .jobInUse 0 0 s.now32 ∧ t.jobs = s.jobs) ∧
    (∀ j, (ring = r ∨ s.installer r = true) → named = some j → (j.classC = false ∨ s.cycNames j.id = false) →
      s.job j.id = some j → j.ending = none → Answers (.jobRelease r) s fun t =>
        (s.jobRuns j.id = false → t.job j.id = none ∧ t.desc r d.num = none) ∧
        (s.jobRuns j.id = true → (t.job j.id).map (·.ending) =
          some (some (if j.classC then .success else .jobCancelled))))

/-- ENABLE of a DISABLED axis waits for feedback when time is locked and its sources and limits are set, joins one
that waits, and ends with TICK_UNLOCKED, CTL_CFG_INVALID or AXIS_FAULTED otherwise. DISABLE acts as the axis's
state says. SEGMENT ends with the status of the first check that fails, in the order of R263, and otherwise
replaces later segments of its ring and joins the queue in order of start. Rests on 11_control_engine.md: R258,
R259, R260, R261, R262, R263, R264. -/
def Obligations.AxisCommands : Prop :=
  ∀ (s : State) (r : Nat) (d : Inflight),
    let a := le d.bytes 8 1
    (Starts s r 0x20 d → le d.bytes 9 1 = 1 → a < 64 →
      let ready := s.fld (ctlA a 4) 31 30 ≠ 0 ∧ s.fld (ctlA a 0x18) 31 30 ≠ 0 ∧ flt f0 (s.fr a 0x40) = true ∧
        flt f0 (s.fr a 0x44) = true ∧ flt f0 (s.fr a 0x48) = true
      Answers (.enable r) s fun t =>
        (s.axState a = 0 → (s.ax a).enWait = [] → s.locked = true → ready →
          (t.ax a).enWait = [(r, d.num)] ∧ t.axState a = 0 ∧ t.desc r d.num = some { d with begun := true }) ∧
        (s.axState a = 0 → (s.ax a).enWait = [] → s.locked = false →
          Completed s t r d .tickUnlocked 0 0 s.now32 ∧ t.axes = s.axes) ∧
        (s.axState a = 0 → (s.ax a).enWait = [] → s.locked = true → ¬ready →
          Completed s t r d .ctlCfgInvalid 0 0 s.now32 ∧ t.axes = s.axes) ∧
        (s.axState a = 0 → (s.ax a).enWait ≠ [] → (t.ax a).enWait = (s.ax a).enWait ++ [(r, d.num)]) ∧
        (s.axState a ≠ 0 → Completed s t r d .axisFaulted 0 0 s.now32 ∧ t.axes = s.axes)) ∧
    (Starts s r 0x20 d → le d.bytes 9 1 = 2 → a < 64 → Answers (.disable r) s fun t =>
        (s.axState a = 0 → (s.ax a).enWait = [] → Completed s t r d .axisDisabled 0 0 s.now32 ∧ t.axes = s.axes) ∧
        (s.axState a = 0 → (s.ax a).enWait ≠ [] → (t.ax a).enWait = [] ∧ t.desc r d.num = none) ∧
        (s.axState a = 1 → t.axState a = 1 ∧ (t.ax a).disWait = (s.ax a).disWait ++ [(r, d.num)]) ∧
        (s.axState a = 2 ∨ s.axState a = 3 → t.axState a = 3 ∧ (t.ax a).q = [] ∧ (t.ax a).cur = none) ∧
        (s.axState a = 4 ∨ s.axState a = 5 → t.axState a = 0 ∧ t.desc r d.num = none ∧
          ((∀ o, s.owner a = some o → o.1 ≠ 2) → t.owner a = none))) ∧
    (Starts s r 0x21 d →
      let b := slice d.bytes 16 32
      let x := le b 4 1
      let c := s.windowOf s.clk.t
      let now := (le b 6 2).testBit 0
      let start := if now then c else (c + dist32 (le b 0 4) c).toNat
      let g := segOf b (s.level r) r start s.clk.ref (.desc d.num)
      let owns := ∀ o, s.owner x = some o → o.1 ≤ s.level r
      let inRange := g.kind = 1 → flt g.target (s.fr x 0x4C) = false ∧ flt (s.fr x 0x50) g.target = false
      let late := now = false ∧ dist32 (le b 0 4) c < 0
      let left := (s.ax x).q.filter (fun e => !segReplaced r start e)
      Answers (.segment r) s fun t =>
        (segBad b g = true → Completed s t r d .segInvalid 0 0 s.now32) ∧
        (segBad b g = false → s.axState x = 0 → Completed s t r d .axisDisabled 0 0 s.now32) ∧
        (segBad b g = false → s.axState x = 4 ∨ s.axState x = 5 → Completed s t r d .axisFaulted 0 0 s.now32) ∧
        (segBad b g = false → 1 ≤ s.axState x → s.axState x ≤ 3 → ¬owns →
          Completed s t r d .axisOwned 0 0 s.now32 ∧ t.axes = s.axes) ∧
        (segBad b g = false → 1 ≤ s.axState x → s.axState x ≤ 3 → owns → ¬inRange →
          Completed s t r d .segOutOfRange 0 0 s.now32 ∧ t.axes = s.axes) ∧
        (segBad b g = false → 1 ≤ s.axState x → s.axState x ≤ 3 → owns → inRange → late → s.inReplay = false →
          Completed s t r d .segLate 0 0 s.now32 ∧ t.axes = s.axes) ∧
        (segBad b g = false → 1 ≤ s.axState x → s.axState x ≤ 3 → owns → inRange → ¬late → s.inReplay = false →
          left.length < 64 → (t.ax x).q = insertBy (fun u v => decide (u.start ≤ v.start)) g left) ∧
        (segBad b g = false → 1 ≤ s.axState x → s.axState x ≤ 3 → owns → inRange → ¬late → s.inReplay = false →
          64 ≤ left.length → t.desc r d.num = none ∧ (t.ax x).q = left))

/-- A tail or head doorbell of a live ring moves it when the value is in range and halts the ring when it is not; on
a ring that is off or halted it is ignored and counted. Rests on 14_host_rings.md: R327. -/
def Obligations.Doorbells : Prop :=
  ∀ (s : State) (r v : Nat), r < 8192 →
    let live := s.ringOn r = true ∧ s.ringHalted r = false
    let head := (s.rd (ringA r 0x1C)).toNat
    let sqOk := 0 ≤ dist32 v (s.ring r).sqTail ∧ (v % 2 ^ 32 + 2 ^ 32 - head) % 2 ^ 32 ≤ s.ringSize r
    let cqOk := 0 ≤ dist32 v (s.ring r).cqHead ∧ (v % 2 ^ 32 + 2 ^ 32 - (s.ring r).cqHead) % 2 ^ 32 ≤ s.cqUsed r
    (Answers (.sqTail r v) s fun t =>
      (live → sqOk → (t.ring r).sqTail = v % 2 ^ 32 ∧ t.regs = s.regs) ∧
      (live → ¬sqOk → t.ringHalted r = true) ∧
      (¬live → t.flag (hifA 4) 2 = true ∧ t.hif = s.hif)) ∧
    (Answers (.cqHead r v) s fun t =>
      (live → cqOk → (t.ring r).cqHead = v % 2 ^ 32 ∧ t.regs = s.regs) ∧
      (live → ¬cqOk → t.ringHalted r = true) ∧
      (¬live → t.flag (hifA 4) 2 = true ∧ t.hif = s.hif))

/-- With an accepted driver an enabled ring starts with empty counts, nothing in flight, its vector and its size;
without one it stays off; enabling an enabled ring changes nothing (log entry 49). Disabling an idle ring turns
it off, ends its halt and rolls back its open transaction; a busy ring stays on. Rests on 14_host_rings.md: R326;
16_boot_and_firmware.md: R365. -/
def Obligations.RingEnables : Prop :=
  ∀ (s : State) (r : Nat) (val : Word), r < 8192 → s.isReady = true →
    (s.ringOn r = false → s.drvAccepted = true → Answers (.ringEnable r val) s fun t =>
      t.ringOn r = true ∧ t.rd (ringA r 0x1C) = 0 ∧ t.rd (ringA r 0x20) = 0 ∧
      t.fld (ringA r 0x10) 10 0 = bits val 10 0 ∧ (t.ring r).fl = [] ∧ (t.ring r).sqTail = 0 ∧
      (6 ≤ bits val 20 16 → bits val 20 16 ≤ 16 → t.fld (ringA r 0x10) 20 16 = bits val 20 16)) ∧
    (s.ringOn r = false → s.drvAccepted = false → Answers (.ringEnable r val) s fun t => t.ringOn r = false) ∧
    (s.ringOn r = true → exec (.ringEnable r val) s = .next s) ∧
    (s.ringOn r = true → s.drvAccepted = true → s.ringBusy r = false → Answers (.ringDisable r val) s fun t =>
      t.ringOn r = false ∧ t.ringHalted r = false ∧ (s.cfgOwns r = true → s.cfgCommitting = false → t.cfgOpen = false)) ∧
    (s.ringOn r = true → s.ringBusy r = true → exec (.ringDisable r val) s = .next s) ∧
    (s.ringOn r = false → Answers (.ringDisable r val) s fun t =>
      t.ringOn r = false ∧ t.fld (ringA r 0x10) 10 0 = bits val 10 0)

/-- A live ring with work and room fetches its next descriptor: a failed read halts the ring with HOST_MEMORY_FAULT,
otherwise the head advances and the descriptor is in flight or completes with the status of its checks. During a
package job loss a job's descriptor is not fetched (log entry 51). Rests on 14_host_rings.md: R328, R330, R331. -/
def Obligations.DescriptorFetch : Prop :=
  ∀ (s : State) (r : Nat), r < 8192 → s.isReady = true → s.ringOn r = true → s.ringHalted r = false →
    s.linkUp = true → (s.rd (ringA r 0x1C)).toNat ≠ (s.ring r).sqTail → s.reserved r < s.cqFree r →
    let head := (s.rd (ringA r 0x1C)).toNat
    s.desc r head = none →
    (Answers (.descriptorFetch r none) s fun t => t.ringHalted r = true ∧
      t.fld (ringA r 0x18) 31 24 = Status.hostMemoryFault.code % 256) ∧
    (∀ raw, let b := fitTo 64 raw
      let d : Inflight := ⟨head, dTag b, dOp b, (dFlags b).testBit 0, (dFlags b).testBit 1, b, false, s.fetchInfo⟩
      (s.loss.isSome && jobOp (dOp b)) = false → Answers (.descriptorFetch r (some raw)) s fun t =>
        t.rd (ringA r 0x1C) = BitVec.ofNat 32 (head + 1) ∧
        (s.checkDesc r b = .success → (t.ring r).fl = (s.ring r).fl ++ [d]) ∧
        (s.checkDesc r b ≠ .success → Completed s t r d (s.checkDesc r b) 0 0 s.now32)) ∧
    (∀ raw, s.loss.isSome = true → jobOp (dOp (fitTo 64 raw)) = true →
      exec (.descriptorFetch r (some raw)) s = .next s)

/-- A pending vector is signalled at most once in 2 us, as an output while the link is up. The link's events change
HIF_LINK_STAT only. A receive buffer that holds a record for 1 ms is completed. Rests on 14_host_rings.md: R323,
R325, R337. -/
def Obligations.HostLink : Prop :=
  (∀ (s : State) (v : Nat), v < 2048 → s.hif.msiPend.contains v = true → tget 0 s.hif.msiLast v + 2000 ≤ s.clk.ref + 1 →
    Answers (.msixSignal v) s fun t => (s.linkUp = true → t.out = s.out ++ [.msix v]) ∧
      t.hif.msiPend.contains v = false ∧ tget 0 t.hif.msiLast v = s.clk.ref + 1) ∧
  (∀ (s : State) (v : Nat), v < 2048 → (s.hif.msiPend.contains v = false ∨ s.clk.ref + 1 < tget 0 s.hif.msiLast v + 2000) →
    exec (.msixSignal v) s = .next s) ∧
  (∀ s : State, Answers .pcieLinkDown s fun t => t.linkUp = false ∧ ∀ a, a ≠ hifA 0 → t.rd a = s.rd a) ∧
  (∀ (s : State) (gen width : Nat), s.hm.phase ≠ .reset → s.hm.phase ≠ .tripped → 1 ≤ gen → gen ≤ 5 →
    [1, 2, 4, 8, 16].contains width = true → Answers (.pcieLinkUp gen width) s fun t => t.linkUp = true ∧
      t.fld (hifA 0) 3 0 = gen ∧ t.fld (hifA 0) 8 4 = width ∧ ∀ a, a ≠ hifA 0 → t.rd a = s.rd a) ∧
  (∀ (s u : State) (r : Nat) (x : RxBuf) (l : List RxBuf), r < 8192 → (s.ring r).rx = x :: l → x.got ≠ 0 →
    s.reachRef (x.since + 1000000) = some u →
    Answers (.rxPostTimeout r) s fun t => (t.ring r).rx = l ∧ t.desc r x.num = none)

/-- Hot reset and function-level reset turn every ring off, forget the driver, close the transaction and release
every package; the first takes the link down and the second leaves it. Rests on 14_host_rings.md: R325;
16_boot_and_firmware.md: R357. -/
def Obligations.HostResets : Prop :=
  let gone := fun (t : State) => (∀ r < 8192, t.ringOn r = false) ∧ t.drvAccepted = false ∧ t.cfgOpen = false ∧
    t.comp.pkgs = []
  ∀ s : State, s.isReady = true →
    (Answers .hotReset s fun t => gone t ∧ t.linkUp = false) ∧
    (Answers .functionLevelReset s fun t => gone t ∧ t.linkUp = s.linkUp)

/-- At a commit edge at least 20 us after the commit began the transaction ends and its descriptor with it: a fault
that the edge finds is recorded and the period is unchanged, otherwise the status is clear, the period is the
staged one and the tick is recorded. A transaction open for 10 s is closed, flagged and remembered for its owner.
Rests on 15_registers_and_transactions.md: R346, R348, R349. -/
def Obligations.CommitEdge : Prop :=
  (∀ (s u : State) (n busy : Nat), s.cfgWaits = some n → s.clk.live = true → s.cfg.commitT + 20000 ≤ s.clk.nextEdge →
    s.reach s.clk.nextEdge = some u →
    let v : State := { u with clk := { u.clk with tick := u.clk.nextTick, lastEdge := u.clk.nextEdge } }
    Answers (.cfgCommitEdge busy) s fun t => t.cfgOpen = false ∧ t.cfg.staged = [] ∧ t.cfg.commitNum = none ∧
      t.desc u.cfgOwner n = none ∧
      (∀ a st, v.edgeCheck = some (a, st) → t.rd 0x128 = BitVec.ofNat 32 a ∧ t.fld 0x100 15 8 = st.code % 256 ∧
        t.periodNs = u.periodNs) ∧
      (v.edgeCheck = none → t.fld 0x100 15 8 = 0 ∧ t.periodNs = u.stagedView.periodNs ∧
        t.rd 0x12C = BitVec.ofNat 32 u.clk.nextTick)) ∧
  (∀ s u : State, s.cfgOpen = true → s.cfgCommitting = false → s.reachRef (s.cfg.openRef + 10000000000) = some u →
    Answers .cfgTimeout s fun t => t.cfgOpen = false ∧ t.cfg.staged = [] ∧ t.cfg.timedOut = some u.cfgOwner ∧
      t.flag 0x100 4 = true)

/-- An access of another width or alignment is ignored. A write to a transactional register joins the open
transaction, overflows it at 4,096 offsets, or is ignored, flagged and counted when none is open. A write to the
mailbox's request area stores its four bytes and changes no register. Rests on 15_registers_and_transactions.md:
R343, R344, R345; 00_scope.md: R6; 17_harbourmaster.md: R392. -/
def Obligations.RegisterWrites : Prop :=
  (∀ (s : State) (a width : Nat) (v : Word), (width ≠ 4 ∨ a % 4 ≠ 0) → exec (.registerWrite a width v) s = .next s) ∧
  (∀ (s : State) (a : Nat) (v : Word) (r : RegRow), a % 4 = 0 → a < 0x10000000 → rowAt a = some r →
    r.w1c = 0 → r.w1s = 0 → r.direct = false → r.txn = true → s.writable a = true →
    a ≠ mgtA 0x18 → a ≠ mgtA 0x34 → Answers (.registerWrite a 4 v) s fun t =>
      (s.cfgOpen = true → s.cfgCommitting = false →
        (s.cfg.staged.length < 4096 ∨ s.cfg.staged.any (fun e => e.1 == a) = true) →
        (a, stageVal r v) ∈ t.cfg.staged ∧ t.regs = s.regs) ∧
      (s.cfgOpen = true → s.cfgCommitting = false → 4096 ≤ s.cfg.staged.length →
        s.cfg.staged.any (fun e => e.1 == a) = false → t.cfg = s.cfg ∧ t.flag 0x100 2 = true) ∧
      ((s.cfgOpen = false ∨ s.cfgCommitting = true) → t.cfg = s.cfg ∧ t.flag 0x100 5 = true ∧
        t.rd 0x124 = BitVec.ofNat 32 (satAdd countTop (s.rd 0x124).toNat 1))) ∧
  (∀ (s : State) (o : Nat) (v : Word), o % 4 = 0 → 0x100000 ≤ o → o < 0x300000 → s.hm.phase ≠ .reset →
    s.hm.phase ≠ .tripped → s.flag (mbxA 0xC) 0 = false →
    Answers (.registerWrite (0x10000000 + o) 4 v) s fun t => t.regs = s.regs ∧
      ∀ i < 4, tget 0 t.hm.mbxReq (o - 0x100000 + i) = BitVec.ofNat 8 (v.toNat / 2 ^ (8 * i)))

/-- W1C_CLEAR clears the W1C bits written as 1 but those set in the same cycle (R352; log entry 16), leaves the
register's other bits, and has no effect on a register without W1C bits. WIDE_LOW_WORD_READ returns the live low
word, latches the live upper one and changes no register; of a register that is not the low word of a wide
quantity it returns the word and leaves the latches. Rests on 15_registers_and_transactions.md: R352;
00_scope.md: R6. -/
def Obligations.ClearsAndReads : Prop :=
  (∀ (s : State) (a : Nat) (v w : Word) (r : RegRow), rowAt a = some r → r.w1c ≠ 0 →
    (s.writable a = true ∨ 0x10000000 ≤ a) → Answers (.w1cClear a v w) s fun t =>
      ∀ i < 32, t.flag a i =
        (s.flag a i && !(v.toNat.testBit i && (s.w1cMask a r.w1c).testBit i && !w.toNat.testBit i))) ∧
  (∀ (s : State) (a : Nat) (v w : Word), rowAt a = none ∨ (∃ r, rowAt a = some r ∧ r.w1c = 0) →
    exec (.w1cClear a v w) s = .next s) ∧
  (∀ (s : State) (a : Nat) (r : RegRow), rowAt a = some r → r.wide = true → Answers (.wideLowWordRead a) s fun t =>
      t.lastRead = s.live a ∧ tget none t.latch (a + 4) = some (s.live (a + 4)) ∧ t.regs = s.regs) ∧
  (∀ (s : State) (a : Nat) (r : RegRow), rowAt a = some r → r.wide = false →
    Answers (.wideLowWordRead a) s fun t => t.lastRead = s.readReg a 4 ∧ t.latch = s.latch ∧ t.regs = s.regs)

/-- PEEK_ADDR_WRITE stores its offset, a trace configuration clears the trace, the driver version is kept before
READY and compared after (as unsigned, log entry 37) unless a ring is enabled, DUMP_PAGE_SELECT stores its page
and CLEAR_MARKS clears the marks (at once, log entry 38). Rests on 15_registers_and_transactions.md: R350;
11_control_engine.md: R277; 16_boot_and_firmware.md: R365, R368, R372. -/
def Obligations.DirectRegisters : Prop :=
  (∀ (s : State) (v : Word), s.isReady = true → Answers (.peekAddrWrite v) s fun t =>
    t.fld 0x110 27 2 = bits v 27 2 ∧ t.cfg = s.cfg) ∧
  (∀ (s : State) (a : Nat) (v : Word), a < 64 → s.isReady = true → Answers (.traceConfigWrite (ctlA a 0x200) v) s
    fun t => (t.ax a).trc = [] ∧ (t.ax a).trcTrig = none ∧ t.rd (ctlA a 0x20C) = 0 ∧
      ∀ r, rowAt (ctlA a 0x200) = some r → t.rd (ctlA a 0x200) = BitVec.ofNat 32 (v.toNat &&& r.rw)) ∧
  (∀ (s : State) (v : Nat), s.isReady = false → Answers (.drvVersionWrite v) s fun t =>
    t.hm.drvWritten = some (v % 2 ^ 32) ∧ t.regs = s.regs) ∧
  (∀ (s : State) (v : Nat), s.regsWf = true → s.isReady = true → (∀ r < 8192, s.ringOn r = false) → v < 2 ^ 32 →
    Answers (.drvVersionWrite v) s fun t => t.drvAccepted =
      (decide ((s.rd (mgtA 0x10)).toNat ≤ v) && decide (v ≤ (s.rd (mgtA 0x14)).toNat))) ∧
  (∀ (s : State) (r v : Nat), s.isReady = true → r < 8192 → s.ringOn r = true →
    Answers (.drvVersionWrite v) s fun t => t.drvAccepted = s.drvAccepted ∧
      t.rd (mgtA 0x20) = BitVec.ofNat 32 (satAdd countTop (s.rd (mgtA 0x20)).toNat 1)) ∧
  (∀ (s : State) (v : Nat), s.isReady = true → Answers (.dumpPageSelect v) s fun t => t.fld (mgtA 0x30) 6 0 = v % 128) ∧
  (∀ s : State, s.isReady = true → Answers .clearMarks s fun t => (∀ e ∈ t.bootRec.entries, e.mark = 0) ∧
    t.fld (mgtA 0x28) 15 0 = 0)

/-- SNAP, STOP, CLEAR and START set their request bits and leave RUNNING until the tick, where the requests clear and
START, after STOP, decides RUNNING. A counter without CHAIN of an event that the model does not determine
saturates at its command (log entry 114). Rests on 18_tally_counters.md: R398, R399. -/
def Obligations.TallyRequests : Prop :=
  (∀ (s : State) (c : Instr) (m : Nat), s.isReady = true →
    (c, m) ∈ [(Instr.snap, 1), (Instr.stop, 2), (Instr.clear, 4), (Instr.start, 8)] → Answers c s fun t =>
      t.fld (tlyA 0) 3 0 = s.fld (tlyA 0) 3 0 ||| m ∧ t.flag (tlyA 4) 1 = true ∧ t.flag (tlyA 4) 0 = s.flag (tlyA 4) 0) ∧
  (∀ s : State, s.fld (tlyA 0) 3 0 ≠ 0 →
    let m := s.fld (tlyA 0) 3 0
    s.tlyEdge.fld (tlyA 0) 3 0 = 0 ∧ s.tlyEdge.flag (tlyA 4) 1 = false ∧
    s.tlyEdge.flag (tlyA 4) 0 = (m.testBit 3 || (s.flag (tlyA 4) 0 && !m.testBit 1))) ∧
  (∀ (s : State) (die c : Nat), die < 8 → c < tlyN die → s.tlyOn die = true → s.flag (tlyC die c 0) 31 = true →
    s.flag (tlyC die c 0) 30 = false → tlyKnown die (s.fld (tlyC die c 0) 7 0) = false →
    Answers (.tallyCounterSaturation die c) s fun t => t.tlySat die c = true ∧
      (s.tlySat die c = false → t.tlyVal die c = tlyTop ∧ t.flag (tlyA 4) 3 = true))

/-- A timed frame leaves at its launch time, padded and with its check sequence. ETH_TX_DONE takes the head frame
that was sent or may leave from its queue and completes its descriptor; one that may not leave stays. A port's
link events set its status bits and count. A frame that gives a value for the one axis it matches joins that
axis's feedback in the window of its stamp, and is discarded once that window has been computed or has passed; a
port that is off, and replay, ignore frames, and a PTP frame is no feedback. Rests on 10_site_time.md: R242,
R253; 11_control_engine.md: R269; 19_package_power_cooling.md: R424, R425; 01_device_and_tick.md: R24. -/
def Obligations.EthernetPorts : Prop :=
  (∀ (s u : State) (p l q : Nat) (f : EthTx), p < 4 → q < 8 → (s.ep p).nextLaunch = some l → s.mayTransmit = true →
    s.reach l = some u → (s.ep p).head q = some f → f.launch = some l →
    Answers (.timedFrameLaunch p) s fun t => Out.eth p (some l) (macFrame f.bytes) ∈ t.out) ∧
  (∀ (s : State) (p q i : Nat) (f : EthTx), p < 4 → q < 8 → s.mayTransmit = true →
    findAt (fun (f : EthTx) => f.queue == q && (f.sent || f.launch.isNone)) (s.ep p).q 0 = some (i, f) →
    (f.sent = true ∨ s.mayLeave p f = true) → Answers (.ethTxDone p q) s fun t =>
      (t.ep p).q = (s.ep p).q.eraseIdx i ∧ (f.sent = false → Out.eth p none (macFrame f.bytes) ∈ t.out) ∧
      (∀ r n, f.src = .host r n → t.desc r n = none)) ∧
  (∀ (s : State) (p q i : Nat) (f : EthTx), p < 4 → q < 8 →
    findAt (fun (f : EthTx) => f.queue == q && (f.sent || f.launch.isNone)) (s.ep p).q 0 = some (i, f) →
    f.sent = false → s.mayLeave p f = false → exec (.ethTxDone p q) s = .next s) ∧
  (∀ (s : State) (p : Nat), p < 4 → s.flag (ethA p 4) 0 = true → Answers (.ethPortLinkDown p) s fun t =>
    t.flag (ethA p 4) 0 = false ∧ t.flag (ethA p 4) 1 = true ∧
    t.rd (ethA p 8) = BitVec.ofNat 32 (satAdd countTop (s.rd (ethA p 8)).toNat 1)) ∧
  (∀ (s : State) (p : Nat), p < 4 → s.flag (ethA p 0) 31 = true → s.bootFailed 12 p = false →
    Answers (.ethPortLinkUp p) s fun t => t.flag (ethA p 4) 0 = true) ∧
  (∀ (s : State) (p stamp uncert a : Nat) (b : Bytes) (x v : F32), p < 4 → s.isReady = true →
    s.flag (ethA p 0) 31 = true → s.inReplay = false → (etherBody b).2 ≠ 0x88F7 → udpIn b = none → s.ethAxes p b = [a] →
    a < 64 → s.fbValues a b = some (x, v) → Answers (.ethFrameReceived p stamp uncert b) s fun t =>
      (s.cutoff ≤ stamp → (t.ax a).fb = (s.ax a).fb ++
        [⟨s.clk.nextTick + (stamp - s.cutoff) / s.clk.period, stamp, x, v⟩]) ∧
      (stamp < s.cutoff → s.clk.lastCut ≤ stamp → s.clk.win ≠ .passed →
        (t.ax a).fb = (s.ax a).fb ++ [⟨s.clk.tick, stamp, x, v⟩]) ∧
      (stamp < s.cutoff → (stamp < s.clk.lastCut ∨ s.clk.win = .passed) → (t.ax a).fb = (s.ax a).fb)) ∧
  (∀ (s : State) (p stamp uncert : Nat) (b : Bytes), p < 4 → (etherBody b).2 = 0x88F7 →
    exec (.ethFrameReceived p stamp uncert b) s = .next s) ∧
  (∀ (s : State) (p stamp uncert : Nat) (b : Bytes), p < 4 →
    (s.isReady = false ∨ s.flag (ethA p 0) 31 = false ∨ s.inReplay = true) →
    exec (.ethFrameReceived p stamp uncert b) s = .next s)

/-- The frames whose launch time has come are loaded while buffers are free. A completed frame leaves as an output,
or in LOOPBACK enters the FIFO, is counted, lowers TEC and completes its descriptor. A failed attempt counts lost
arbitration; a stale or aborted frame leaves, one beyond its retries is dropped with its flag, and any other
stays with one more attempt. Rests on 12_can_fd.md: R282, R285, R286, R287, R288, R293. -/
def Obligations.CanTransmit : Prop :=
  (∀ (s u : State) (c : Nat) (e : CanTxE), c < 8 → s.canSends c = true →
    bestBy (fun (e f : CanTxE) => decide (e.launch < f.launch)) ((s.cn c).q.filter (fun e => s.clk.t < e.launch)) = some e →
    s.reach e.launch = some u → (s.cn c).safeWait = false →
    ((s.cn c).q.filter (fun f => decide (f.launch ≤ e.launch))).length ≤ 3 →
    Answers (.canFrameEligible c) s fun t => t.clk.t = e.launch ∧
      ((∃ k ∈ s.genBufs c, (t.cn c).bufAt k = none) → ∀ f ∈ (t.cn c).q, e.launch < f.launch)) ∧
  (∀ (s : State) (c b stamp uncert tdc : Nat) (f : CanBuf), c < 8 → b < 3 → s.mayTransmit = true →
    (s.cn c).bufAt b = some f → Answers (.canTxComplete c b stamp uncert tdc) s fun t =>
      let sent : CanFrame := { f.e.frame with esi := f.e.frame.fdf && decide (s.canState c = 3) }
      (s.canMode c ≠ 3 → Out.can c sent ∈ t.out) ∧
      (s.canMode c = 3 → (s.cn c).fifo.length < 64 → (t.cn c).fifo = (s.cn c).fifo ++ [sent]) ∧
      t.rd (canA c 0x7C) = BitVec.ofNat 32 (satAdd countTop (s.rd (canA c 0x7C)).toNat 1) ∧
      t.tec c = (if (s.cn c).fin = none then s.tec c - 1 else 0) ∧ (∀ r n, f.e.src = .host r n → t.desc r n = none) ∧
      (f.e.src = .safety → t.flag (canA c 0x40) 11 = true)) ∧
  (∀ (s : State) (c b : Nat) (lost : Bool) (tdc : Option Nat) (f : CanBuf), c < 8 → b < 3 → s.mayTransmit = true →
    (s.cn c).bufAt b = some f → Answers (.canAttemptFailed c b ⟨lost, tdc⟩) s fun t =>
      (lost = true → t.rd (canA c 0x60) = BitVec.ofNat 32 (satAdd countTop (s.rd (canA c 0x60)).toNat 1)) ∧
      (lost = false → t.rd (canA c 0x60) = s.rd (canA c 0x60)) ∧
      (f.stale = true → t.flag (canA c 0x40) 9 = true) ∧
      (f.stale = false → f.abort = true → ∀ r n, f.e.src = .host r n → t.desc r n = none) ∧
      (f.stale = false → f.abort = false → s.flag (canA c 0) 7 = false → s.fld (canA c 0) 11 8 ≤ f.e.attempts →
        ∀ r n, f.e.src = .host r n → t.flag (canA c 0x40) 8 = true ∧ t.desc r n = none) ∧
      (f.stale = false → f.abort = false → f.back = false →
        (f.e.src = .safety ∨ s.flag (canA c 0) 7 = true ∨ f.e.attempts < s.fld (canA c 0) 11 8) →
        (t.cn c).buf = setAt (s.cn c).buf b (some { f with e := { f.e with attempts := f.e.attempts + 1 } })))

/-- A received frame joins the FIFO, or is lost with its flag when 64 wait, and lowers REC as ISO 11898 says;
draining takes frames in order. A protocol error is counted, kept as the last error, and a transmitter's error
flag adds 8 to TEC, with the error-passive and bus-off limits; a receiver's adds 1 to REC, and the dominant bits
after a flag count no error. Integration and bus-off recovery end in their next states, and RECOVER starts the
recovery of a bus-off controller only. Rests on 12_can_fd.md: R281, R291, R293, R294, R295, R296. -/
def Obligations.CanReceive : Prop :=
  (∀ (s : State) (c : Nat) (f : CanFrame), c < 8 → s.canLive c = true → s.canMode c ≠ 3 → s.inReplay = false →
    Answers (.canFrameReceived c f) s fun t =>
      t.rec' c = (if (s.cn c).fin ≠ none ∨ s.rec' c = 0 then 0 else if s.rec' c ≤ 127 then s.rec' c - 1 else 127) ∧
      ((s.cn c).fifo.length < 64 → (t.cn c).fifo = (s.cn c).fifo ++ [f]) ∧
      (64 ≤ (s.cn c).fifo.length → (t.cn c).fifo = (s.cn c).fifo ∧ t.flag (canA c 0x40) 7 = true)) ∧
  (∀ (s : State) (c : Nat) (stamps : List (Nat × Nat)), c < 8 → s.inReplay = false →
    Answers (.canFifoDrain c stamps) s fun t => (t.cn c).fifo = (s.cn c).fifo.drop stamps.length) ∧
  (∀ (s : State) (c : Nat) (k : CanErr) (dataPhase : Bool) (role : CanRole), c < 8 → s.canLive c = true →
    s.inReplay = false →
    let e : CanErr := if k = .pex ∧ s.flag (canA c 0) 12 = false then .form else k
    Answers (.canProtocolError c k dataPhase role) s fun t =>
      (afterFlag role = false → t.rd (canA c (canErrCode e).2) =
        BitVec.ofNat 32 (satAdd countTop (s.rd (canA c (canErrCode e).2)).toNat 1)) ∧
      (afterFlag role = true → ∀ x : CanErr, t.rd (canA c (canErrCode x).2) = s.rd (canA c (canErrCode x).2)) ∧
      (afterFlag role = false → e ≠ .pex → t.fld (canA c 0x40) 27 25 = (canErrCode e).1) ∧
      ((s.cn c).fin = none → role = .transmitterFlag → t.tec c = min 511 (s.tec c + 8) ∧
        (255 < s.tec c + 8 → t.canState c = (if s.flag (canA c 0) 6 then 5 else 4) ∧ (t.cn c).q = []) ∧
        (127 < s.tec c + 8 → s.tec c + 8 ≤ 255 → t.canState c = 3)) ∧
      ((s.cn c).fin = none → role = .receiver → e ≠ .pex → t.rec' c = min 255 (s.rec' c + 1) ∧
        (s.tec c ≤ 255 → 127 < s.rec' c + 1 → t.canState c = 3))) ∧
  (∀ (s : State) (c : Nat), c < 8 → s.canState c = 1 → Answers (.canIntegrationDone c) s fun t => t.canState c = 2) ∧
  (∀ (s : State) (c : Nat), c < 8 → s.canState c = 5 → Answers (.busOffRecoveryDone c) s fun t =>
    t.canState c = 1 ∧ t.tec c = 0 ∧ t.rec' c = 0) ∧
  (∀ (s : State) (c : Nat), c < 8 → s.isReady = true → Answers (.recover c) s fun t =>
    (s.canState c = 4 → t.canState c = 5) ∧ (s.canState c ≠ 4 → t = s))

/-- A disabled stream, replay and a package not READY ignore packets. A foreign packet is flagged and counted and
leaves the stream. The first packet of an image opens a sample with its timestamp or gives the sample its number
and ends it. A sample whose last packet is SAMPLE_TIMEOUT old ends, takes its number and is counted. Rests on
09_sensor_ingest.md: R220, R221, R222, R223, R224. -/
def Obligations.SensorPackets : Prop :=
  (∀ (s : State) (st stamp uncert : Nat) (p : Packet), st < 48 →
    (s.isReady = false ∨ s.streamOn st = false ∨ s.inReplay = true) →
    exec (.sensorPacket st stamp uncert p) s = .next s) ∧
  (∀ (s : State) (st stamp uncert : Nat) (p : Packet), st < 48 → s.isReady = true → s.streamOn st = true →
    s.inReplay = false → Answers (.sensorPacket st stamp uncert p) s fun t =>
      (s.foreign st p = true → t.strm st = s.strm st ∧ t.flag (ingA st 0xA0) 1 = true ∧
        t.rd (ingA st 0xAC) = BitVec.ofNat 32 (satAdd countTop (s.rd (ingA st 0xAC)).toNat 1)) ∧
      (s.foreign st p = false → s.transport st ≠ 3 → (s.strm st).cur = none →
        (((t.strm st).cur.map (·.ts)) = some (rtpOf p.payload).ts ∧ (t.strm st).num = (s.strm st).num) ∨
        ((t.strm st).cur = none ∧ (t.strm st).num = (s.strm st).num + 1))) ∧
  (∀ (s u : State) (st : Nat) (x : Sample), st < 48 → (s.strm st).cur = some x →
    s.reachRef (x.last + s.fld (ingA st 0x18) 15 0 * 1000) = some u →
    Answers (.sampleTimeout st) s fun t => (t.strm st).cur = none ∧ (t.strm st).num = (s.strm st).num + 1 ∧
      t.rd (ingA st 0xD0) = BitVec.ofNat 32 ((s.strm st).num + 1) ∧
      t.rd (ingA st 0xA4) = BitVec.ofNat 32 (satAdd countTop (s.rd (ingA st 0xA4)).toNat 1))

/-- The oldest waiting sample goes into the decoder. A complete tensor leaves the waiting samples, fills its ring
slot, becomes the last-good tensor and the last number, or is a canary's tensor. A decode error, or the host's
time-out, records its reason and drops the sample. Rests on 09_sensor_ingest.md: R228, R229, R233, R234, R239;
13_functional_safety.md: R313. -/
def Obligations.SampleProcessing : Prop :=
  (∀ (s : State) (st : Nat) (x : Sample), s.sampleQueue (fun p => p == .offloaded 0) = [] →
    (s.sampleQueue (fun p => p == .waiting)).head? = some (st, x) → Answers .sampleProcessStart s fun t =>
      ∀ y ∈ (t.strm st).wait, y.num = x.num → y.canary = x.canary → y.phase = .processing) ∧
  (∀ (s : State) (st : Nat) (x : Sample), st < 48 → s.inProcess st = some x → Answers (.tensorComplete st) s fun t =>
    let b := s.goodTensor st x (s.makeTensor st x)
    (∀ y ∈ (t.strm st).wait, ¬(y.num = x.num ∧ y.canary = x.canary)) ∧
    (∀ i, x.canary = false → x.slot = some i →
      (t.strm st).slots = setAt (s.strm st).slots i (some ⟨x.num, x.stamp, true, s.clk.t⟩) ∧
      (t.strm st).good = some b ∧ t.rd (ingA st 0xD4) = BitVec.ofNat 32 x.num) ∧
    (x.canary = true → (t.sst st).tensor = some (b, s.clk.t))) ∧
  (∀ (s : State) (st : Nat) (x : Sample), st < 48 → (s.strm st).wait.find? (fun x => x.phase == .processing) = some x →
    s.transport st = 2 → Answers (.decodeError st) s fun t => t.fld (ingA st 0xA0) 31 24 = 5 ∧
      ∀ y ∈ (t.strm st).wait, ¬(y.num = x.num ∧ y.canary = x.canary)) ∧
  (∀ (s u : State) (st num due : Nat) (x : Sample), st < 48 → s.atHost st num = some (x, due) → s.reachRef due = some u →
    Answers (.hostDecodeTimeout st num) s fun t => t.fld (ingA st 0xA0) 31 24 = 8 ∧
      ∀ y ∈ (t.strm st).wait, ¬(y.num = x.num ∧ y.canary = x.canary))

/-- A waiting job whose tick has come is released into staging with its inputs read, or runs at once with nothing to
stage; staged it runs, once no other job's running tile owns a bank it writes (log entry 92). At its deadline it
ends, at its running tiles' boundary if it has any. With every level and every share done and no tile running it
completes. Rests on 06_placement_and_scheduling.md: R147, R159, R162, R172; 07_determinism_and_replay.md: R178. -/
def Obligations.ClassSJobs : Prop :=
  (∀ (s : State) (id : Nat) (j : Job), s.job id = some j → j.classC = false → j.phase = .waiting → j.tick ≤ s.clk.tick →
    Answers (.classSRelease id) s fun t =>
      (s.stages j = true → (t.job id).map (·.phase) = some .staging ∧ (t.job id).map (·.inputs) = some []) ∧
      (s.stages j = false → j.span = [] → (t.job id).map (·.phase) = some .running)) ∧
  (∀ (s : State) (id : Nat) (j : Job) (p : Pkg), s.job id = some j → s.pkg j.pkg = some p → j.classC = false →
    j.phase = .staging → Answers (.weightStagingComplete id) s fun t =>
      ((j.places.filter (stagedAt p.decl)).any (s.placeTaken id) = true → t = s) ∧
      ((j.places.filter (stagedAt p.decl)).any (s.placeTaken id) = false → j.span = [] →
        (t.job id).map (·.phase) = some .running ∧ (t.job id).map (·.displaced) = some false)) ∧
  (∀ (s u : State) (id : Nat) (j : Job), s.job id = some j → j.classC = false → j.ending = none →
    s.reach j.deadline = some u → Answers (.classSDeadline id) s fun t =>
      (s.jobRuns id = true → (t.job id).map (·.ending) = some (some .deadlineOverrun)) ∧
      (s.jobRuns id = false → t.job id = none ∧ (j.silent = false → t.desc j.ring j.num = none))) ∧
  (∀ (s : State) (id : Nat) (j : Job), s.job id = some j → j.classC = false → j.phase = .running → j.settling = 0 →
    j.ending = none → s.levelsDone j = true → s.jobRuns id = false → s.sharesDone j = true →
    Answers (.classSJobComplete id) s fun t => t.job id = none ∧ (j.silent = false → t.desc j.ring j.num = none))

/-- An activation whose levels are done completes at once, or in deterministic mode waits for its edge. One that is
not done at its last slot's end has overrun, or ends when none of its tiles runs; before that end the command has
no effect. Rests on 01_device_and_tick.md: R29, R30; 06_placement_and_scheduling.md: R153;
07_determinism_and_replay.md: R176. -/
def Obligations.Activations : Prop :=
  (∀ (s : State) (id : Nat) (j : Job) (a : Act), s.job id = some j → j.act = some a → a.done = false → a.overran = false →
    a.halt = none → s.levelsDone j = true → s.jobRuns id = false → Answers (.classCActivationComplete id) s fun t =>
      (s.det = true → (t.job id).map (·.act) = some (some { a with done := true })) ∧
      (s.det = false → (t.job id).map (·.act) = some none ∧ (t.job id).map (·.acts) = some (j.acts + 1) ∧
        (t.job id).map (·.gen) = some (j.gen + 1))) ∧
  (∀ (s : State) (id : Nat) (j : Job) (a : Act), s.job id = some j → j.act = some a → a.done = false → a.overran = false →
    a.stop ≤ s.clk.tick → Answers (.classCSlotEnd id) s fun t =>
      (s.jobRuns id = true → (t.job id).map (·.act) = some (some { a with overran := true })) ∧
      (s.jobRuns id = false → (t.job id).map (·.act) = some none ∧ (t.job id).map (·.acts) = some j.acts)) ∧
  (∀ (s : State) (id : Nat) (j : Job) (a : Act), s.job id = some j → j.act = some a →
    (a.done = true ∨ a.overran = true ∨ s.clk.tick < a.stop) → exec (.classCSlotEnd id) s = .next s)

/-- A segment written by a running class S job is recorded in the job; a bad one, or one to an axis that takes none,
leaves the axes; a good one joins the queue in order of start. Rests on 11_control_engine.md: R261, R263, R266. -/
def Obligations.JobSegments : Prop :=
  ∀ (s : State) (id : Nat) (j : Job) (rec' : Bytes), s.job id = some j → j.classC = false → j.phase = .running →
    let b := fitTo 32 rec'
    let x := le b 4 1
    let c := s.windowOf s.clk.t
    let now := (le b 6 2).testBit 0
    let start := if now then c else (c + dist32 (le b 0 4) c).toNat
    let g := segOf b 1 j.ring start s.clk.ref (.job id j.tag (if j.silent then 0 else j.op))
    let left := (s.ax x).q.filter (fun e => !segReplaced j.ring start e)
    Answers (.jobSegmentArrival id rec') s fun t => (t.job id).map (·.segs) = some (j.segs ++ b) ∧
      (segBad b g = true → t.axes = s.axes) ∧
      (segBad b g = false → (s.axState x = 0 ∨ s.axState x = 4 ∨ s.axState x = 5) → t.axes = s.axes) ∧
      (segBad b g = false → 1 ≤ s.axState x → s.axState x ≤ 3 → (∀ o, s.owner x = some o → o.1 ≤ 1) →
        (g.kind = 1 → flt g.target (s.fr x 0x4C) = false ∧ flt (s.fr x 0x50) g.target = false) →
        (now = true ∨ 0 ≤ dist32 (le b 0 4) c) → s.inReplay = false → left.length < 64 →
        (t.ax x).q = insertBy (fun u v => decide (u.start ≤ v.start)) g left)

/-- An idle enabled core takes the tile that the rules pick, with its bank owners, and the tile is marked running;
where the tile's job lost its staged weights the job is staged again first; a busy, held or disabled core, or a
loss, takes none. TILE_END frees the core and marks the tile done, or loses every job where one of its accesses
meets a bank of another class, and has no effect while a channel waits (log entry 78). Zeroing a region makes its
bytes 0, no other byte and no register changes. Rests on 05_memory_and_berths.md: R107, R108, R121;
06_placement_and_scheduling.md: R147, R162, R163. -/
def Obligations.TileRuns : Prop :=
  (∀ (s : State) (d k : Nat) (j : Job) (w : PlanTile) (moved : Bool), d < 7 → k < 17 → s.loss = none → s.coreRole d k = 1 →
    (s.core d k).tile = none → (s.core d k).held = false →
    s.pickTile d k (s.fld (mcA d k 0) 12 8) = some (j, w, moved) → j.displaced = true →
    Answers (.tileDispatch d k) s fun t => (t.core d k).tile = none ∧ ∀ x, t.job j.id = some x → x.phase = .staging) ∧
  (∀ (s : State) (d k : Nat) (j : Job) (w : PlanTile) (moved : Bool), d < 7 → k < 17 → s.loss = none → s.coreRole d k = 1 →
    (s.core d k).tile = none → (s.core d k).held = false →
    s.pickTile d k (s.fld (mcA d k 0) 12 8) = some (j, w, moved) → j.displaced = false →
    Answers (.tileDispatch d k) s fun t =>
      (t.core d k).tile = some ⟨j.id, w.tile, w.op, s.clk.ref⟩ ∧ (t.core d k).last = some j.id ∧
      t.rd (mcA d k 0x54) = BitVec.ofNat 32 (s.tileOwner j w.tile) ∧
      ∀ x, t.job j.id = some x → ∀ u ∈ x.plan, u.tile = w.tile → u.st = 1) ∧
  (∀ (s : State) (d k : Nat), d < 7 → k < 17 →
    (s.loss ≠ none ∨ s.coreRole d k ≠ 1 ∨ (s.core d k).tile ≠ none ∨ (s.core d k).held = true) →
    exec (.tileDispatch d k) s = .next s) ∧
  (∀ (s : State) (d k : Nat) (w : RunTile) (ops : List TileOp) (fixes : EccFixes), d < 7 → k < 17 → s.loss = none →
    (s.core d k).tile = some w →
    (∀ c < 8, (s.chan d k c).st ≠ .waitCredit ∧ (s.chan d k c).st ≠ .waitAck) →
    let v := (List.range 8).foldl (fun s c => s.finishCopy d k c) ((s.tlySync d).eccFixed d k fixes)
    Answers (.tileEnd d k ⟨ops, fixes⟩) s fun t =>
      ((v.runOps ⟨d, k, w.job, w.op⟩ ops).2 = none → (t.core d k).tile = none ∧
        ∀ x, (∀ j, s.job w.job = some j → j.act = none) → t.job w.job = some x →
          ∀ u ∈ x.plan, u.tile = w.tile → u.st = 2) ∧
      ((v.runOps ⟨d, k, w.job, w.op⟩ ops).2 ≠ none → t.loss.isSome = true)) ∧
  (∀ (s : State) (d k : Nat) (ops : List TileOp) (fixes : EccFixes), d < 7 → k < 17 →
    (∃ c < 8, (s.chan d k c).st = .waitCredit ∨ (s.chan d k c).st = .waitAck) →
    exec (.tileEnd d k ⟨ops, fixes⟩) s = .next s) ∧
  (∀ (s : State) (d base : Nat) (r : Region), d < 7 → memsWf s.comp.mems = true →
    s.comp.dirty.find? (fun r => r.die == d && r.base == base) = some r → Answers (.regionZeroed d base) s fun t =>
      r ∉ t.comp.dirty ∧ t.regs = s.regs ∧
      ∀ e a, t.rdByte e a = if e = d ∧ base ≤ a ∧ a < base + r.size then 0 else s.rdByte e a)

/-- A settle round ends when the reports it needs are in; a partial joins its collective unless its packet fails; an
event joins its rank's or ends the level; an abort counts and ends the job. Messages of the lead add reports,
tell a share done, or end the job, a member's loss as PEER_JOB_LOSS. A heartbeat resets its counter, and 16 ticks
without one end the jobs concerned. The protocol beyond the rules is the model's, log entries 100 and 101. Rests
on 04_attention_and_kv_cache.md: R99; 06_placement_and_scheduling.md: R169; 08_ralostair_fabric.md: R201, R209,
R211, R212, R214, R215. -/
def Obligations.SpanningJobs : Prop :=
  (∀ (s : State) (id : Nat) (j : Job), s.job id = some j → s.settleReady j = true →
    Answers (.stepSettleRound id) s fun t =>
      (j.settling = 1 → (t.job id).map (·.settling) = some 2) ∧
      (j.settling ≠ 1 → (t.job id).map (·.settling) = some 0 ∧ (t.job id).map (·.reports) = some [])) ∧
  (∀ (s : State) (key op r : Nat) (data : Bytes) (j : Job) (c : CollCtx), s.spanJob key = some j → s.job j.id = some j →
    s.collCtx j op = some c → c.kind = 1 → c.me = 0 → s.det = false → (j.coll op).arr = [] → 1 < j.span.length →
    Answers (.collPartial ⟨[], key⟩ op (.rank r) data) s fun t =>
      (t.job j.id).map (fun x => (x.coll op).arr) = some [(r, s.clk.ref, data)] ∧ t.regs = s.regs) ∧
  (∀ (s : State) (p : RxPkt) (key op : Nat) (part : CollPart) (data : Bytes), p.link < 12 → s.linkState p.link = 3 →
    p.errs.any (fun n => decide (15 < n)) = true → Answers (.collPartial ⟨[p], key⟩ op part data) s fun t =>
      t.jobs = s.jobs ∧ t.out = s.out ++ [.linkNak p.link (s.lnk p.link).expect]) ∧
  (∀ (s : State) (key op rank : Nat) (j : Job) (c : CollCtx), s.spanJob key = some j → s.job j.id = some j →
    s.collCtx j op = some c → (∀ p ∈ j.span, s.reachable p = true) → Answers (.collEvent ⟨[], key, op, rank, false⟩) s fun t =>
      ∃ x, t.job j.id = some x ∧ ((x.coll op).evs = (j.coll op).evs ++ [rank] ∨ j.level + 1 ≤ x.level)) ∧
  (∀ (s : State) (key op rank : Nat) (j : Job), s.spanJob key = some j → s.job j.id = some j → j.ending = none →
    Answers (.collEvent ⟨[], key, op, rank, true⟩) s fun t =>
      t.rd (fabA 0x10) = BitVec.ofNat 32 (satAdd countTop (s.rd (fabA 0x10)).toNat 1) ∧
      (s.jobRuns j.id = true → (t.job j.id).map (·.ending) = some (some .collectiveAbort)) ∧
      (s.jobRuns j.id = false → t.job j.id = none)) ∧
  (∀ (s : State) (key pkg stage : Nat) (slots : List Nat) (j : Job), s.spanJob key = some j → s.job j.id = some j →
    j.settling ≠ 0 → Answers (.leadMsg ⟨[], .settle key pkg stage slots⟩) s fun t =>
      (t.job j.id).map (·.reports) =
        some (j.reports.filter (fun r => !(r.1 == pkg && r.2.1 == stage)) ++ [(pkg, stage, slots)])) ∧
  (∀ (s : State) (key pkg : Nat) (counts : List (Nat × List Nat)) (j : Job), s.spanJob key = some j →
    s.job j.id = some j → j.member = none → j.heard.contains pkg = false →
    Answers (.leadMsg ⟨[], .done key pkg counts⟩) s fun t => (t.job j.id).map (·.heard) = some (j.heard ++ [pkg])) ∧
  (∀ (s : State) (key code : Nat) (j : Job) (st : Status), s.spanJob key = some j → s.job j.id = some j →
    j.ending = none → Status.ofCode code = some st → Answers (.leadMsg ⟨[], .endJob key code⟩) s fun t =>
      (s.jobRuns j.id = true → (t.job j.id).map (·.ending) =
        some (some (if st = .packageJobLoss then .peerJobLoss else st))) ∧
      (s.jobRuns j.id = false → t.job j.id = none)) ∧
  (∀ (s : State) (x : SharePlan), s.isLead = false → s.loss = none → s.pkgByDigest x.digest = none →
    Answers (.leadMsg ⟨[], .plan x⟩) s fun t => t.jobs = s.jobs) ∧
  (∀ (s : State) (src : Nat), src < 1024 → Answers (.heartbeat ⟨[], src⟩ s.leadPkg) s fun t =>
    (s.isLead = true → tget 0 t.comp.fab.member src = 0) ∧
    (s.isLead = false → src = s.leadPkg → t.comp.fab.leadTicks = 0)) ∧
  (∀ s : State, s.isLead = false → 16 ≤ s.comp.fab.leadTicks → Answers .leadHeartbeatTimeout s fun t =>
    t.comp.fab.leadTicks = 0 ∧ t.flag (fabA 8) 5 = true ∧
    ∀ j ∈ s.jobs, j.span ≠ [] → t.job j.id = none ∨ ∃ x, t.job j.id = some x ∧ x.ending.isSome = true) ∧
  (∀ (s : State) (pkg : Nat), pkg < 1024 → s.isLead = true → 16 ≤ tget 0 s.comp.fab.member pkg →
    Answers (.memberHeartbeatTimeout pkg) s fun t => tget 0 t.comp.fab.member pkg = 0 ∧
      ∀ j ∈ s.jobs, pkg ∈ j.span → t.job j.id = none ∨ ∃ x, t.job j.id = some x ∧ x.ending.isSome = true)

/-- A transfer of a running core starts when it is allowed, finishing the copy before it (log entry 79) and changing
no other byte; a bad length or a range outside the job's memory (log entry 136) halts the channel, a cut link
too, and a bank conflict loses every job. A channel that waits or is halted takes none. An uncorrectable word in
a copy's source halts the channel with the words before it copied; one in a berth transfer's source is kept until
its grant (log entry 80). Rests on 05_memory_and_berths.md: R110, R111, R113, R115, R119, R122. -/
def Obligations.DmaTransfers : Prop :=
  (∀ (s : State) (d k c : Nat) (x : Xfer), chanOk d k c = true → s.running d k = true → (s.chan d k c).halt = none →
    (s.chan d k c).st ≠ .waitCredit → (s.chan d k c).st ≠ .waitAck → Answers (.dmaTransferIssue d k c x) s fun t =>
      (xferOk k x = true → s.xferMine d k x = true → s.xferClash d k x = none → s.xferCut x = false →
        (t.chan d k c).xfer = some x ∧ (t.chan d k c).halt = none ∧ t.loss = none ∧
        (t.chan d k c).st = (match x with | .copy _ _ _ => .copying | .berth _ _ _ _ _ _ _ => .waitCredit) ∧
        (∀ a b n, (s.chan d k c).st = .copying → (s.chan d k c).xfer = some (.copy a b n) →
          t.rdBytes d b n = s.rdBytes d a n) ∧
        ∀ e q, (∀ a b n, (s.chan d k c).st = .copying → (s.chan d k c).xfer = some (.copy a b n) →
          e ≠ d ∨ q < b ∨ b + n ≤ q) → t.rdByte e q = s.rdByte e q) ∧
      (xferOk k x = false ∨ s.xferMine d k x = false → (t.chan d k c).halt = some .lengthExceeds ∧ t.flag (mcA d k 0x40) 2 = true) ∧
      (xferOk k x = true → s.xferMine d k x = true → s.xferClash d k x = none → s.xferCut x = true →
        (t.chan d k c).halt = some .fabricUnreachable ∧ t.flag (fabA 8) 4 = true) ∧
      (∀ a, xferOk k x = true → s.xferMine d k x = true → s.xferClash d k x = some a → t.loss = some s.clk.ref ∧ t.jobs = [])) ∧
  (∀ (s : State) (d k c : Nat) (x : Xfer), chanOk d k c = true →
    (s.running d k = false ∨ (s.chan d k c).halt ≠ none ∨ (s.chan d k c).st = .waitCredit ∨ (s.chan d k c).st = .waitAck) →
    exec (.dmaTransferIssue d k c x) s = .next s) ∧
  (∀ (s : State) (d k c word src dst n : Nat), chanOk d k c = true → (s.chan d k c).st = .copying →
    (s.chan d k c).xfer = some (.copy src dst n) → src ≤ word → word < src + n → word % 8 = 0 →
    Answers (.dmaUncorrectable d k c word) s fun t => (t.chan d k c).halt = some .dmaUncorrectable ∧
      t.flag (mcA d k 0x40) 2 = true ∧ (word < dramTop → t.flag (eccA d 0) 1 = true) ∧
      t.rdBytes d dst (word - src) = s.rdBytes d src (word - src) ∧
      ∀ e q, (e ≠ d ∨ q < dst ∨ dst + (word - src) ≤ q) → t.rdByte e q = s.rdByte e q) ∧
  (∀ (s : State) (d k c word src pkg die b gen off n : Nat), chanOk d k c = true → (s.chan d k c).st = .waitCredit →
    (s.chan d k c).xfer = some (.berth src pkg die b gen off n) → src ≤ word → word < src + n → word % 8 = 0 →
    (∀ w, (s.chan d k c).bad = some w → word ≤ w) →
    Answers (.dmaUncorrectable d k c word) s fun t => t.chan d k c = { s.chan d k c with bad := some word } ∧
      t.comp.mems = s.comp.mems ∧ t.regs = s.regs)

/-- A credit request of an open berth is queued when its generation, source and size are right, in order of arrival
and within one reference time by sender (log entry 135), and otherwise flagged with no change of the berths; a
berth of an absent die takes none. The head request is granted when it fits and overlaps no grant; the sender
then sends and waits for its answer, or halts when the link is cut or its source word fails; a refusal halts it.
A returned grant leaves the list, and the last one closes a closing berth. Rests on 05_memory_and_berths.md:
R125, R126, R129. -/
def Obligations.Credits : Prop :=
  (∀ (s : State) (d b gen srcPkg srcDie c off len : Nat), d < 8 → b < 256 → srcPkg < 1024 → srcDie < 7 → c < 8 →
    s.diePresent d = true → s.berthState d b = 1 →
    let named := s.fld (berthA d b 0) 23 16 = gen
    let allowed := s.fld (berthA d b 0xC) 9 0 ≤ srcPkg ∧ srcPkg ≤ s.fld (berthA d b 0xC) 25 16
    let fits := off % 8 = 0 ∧ len % 8 = 0 ∧ 8 ≤ len ∧ len ≤ 65536 ∧ off + len ≤ s.fld (berthA d b 8) 15 0 * 4096 ∧
      creditCost len ≤ s.fld (berthA d b 0x10) 12 0
    let c' : Credit := ⟨srcPkg, srcDie, c, off, len, s.clk.ref⟩
    Answers (.creditReq ⟨[], d⟩ b gen srcPkg srcDie c off len) s fun t =>
      (named → allowed → fits → t.regs = s.regs ∧ ∃ older younger, (s.berth d b).queue = older ++ younger ∧
        (t.berth d b).queue = older ++ c' :: younger ∧ (∀ x ∈ older, c'.before x = false) ∧
        ∀ x ∈ younger.head?, c'.before x = true) ∧
      (¬named → t.flag (bthA d 0) 1 = true ∧ t.comp.berths = s.comp.berths) ∧
      (named → ¬allowed → t.flag (bthA d 0) 2 = true ∧ t.comp.berths = s.comp.berths) ∧
      (named → allowed → ¬fits → t.flag (bthA d 0) 4 = true ∧ t.comp.berths = s.comp.berths)) ∧
  (∀ (s : State) (d b gen srcPkg srcDie c off len : Nat), d < 8 → b < 256 → srcPkg < 1024 → srcDie < 7 → c < 8 →
    s.diePresent d = true → s.berthState d b ≠ 1 →
    Answers (.creditReq ⟨[], d⟩ b gen srcPkg srcDie c off len) s fun t => t.flag (bthA d 0) 1 = true) ∧
  (∀ (s : State) (d b gen srcPkg srcDie c off len : Nat), d < 8 → b < 256 → srcPkg < 1024 → srcDie < 7 → c < 8 →
    s.diePresent d = false →
    Answers (.creditReq ⟨[], d⟩ b gen srcPkg srcDie c off len) s fun t => t.comp.berths = s.comp.berths) ∧
  (∀ (a b : Credit), a.before b = true ↔ a.ref = b.ref ∧ (a.srcPkg < b.srcPkg ∨ a.srcPkg = b.srcPkg ∧
    (a.srcDie < b.srcDie ∨ a.srcDie = b.srcDie ∧ a.chan < b.chan))) ∧
  (∀ (s : State) (d b : Nat) (c : Credit) (rest : List Credit), d < 7 → b < 256 → (s.berth d b).queue = c :: rest →
    s.berthState d b = 1 →
    creditCost c.len ≤ s.fld (berthA d b 0x10) 12 0 - s.fld (berthA d b 0x10) 28 16 →
    (s.berth d b).grants.all (fun g => !overlaps c.off c.len g.off g.len) = true →
    Answers (.creditGrant (.manager d b)) s fun t => (t.berth d b).queue = rest ∧
      (t.berth d b).grants = (s.berth d b).grants ++ [c]) ∧
  (∀ (s : State) (d k c src pkg die b gen off len : Nat), chanOk d k c = true → (s.chan d k c).st = .waitCredit →
    (s.chan d k c).xfer = some (.berth src pkg die b gen off len) →
    let cut := s.xferCut (.berth src pkg die b gen off len)
    Answers (.creditGrant (.sender [] d k c)) s fun t =>
      (cut = false → (s.chan d k c).bad = none → (t.chan d k c).st = .waitAck) ∧
      (cut = false → ∀ w, (s.chan d k c).bad = some w → (t.chan d k c).halt = some .dmaUncorrectable ∧
        t.flag (mcA d k 0x40) 2 = true ∧ (w < dramTop → t.flag (eccA d 0) 1 = true)) ∧
      (cut = true → (t.chan d k c).halt = some .fabricUnreachable ∧ t.flag (fabA 8) 4 = true)) ∧
  (∀ (s : State) (d k c code : Nat) (st : Status), chanOk d k c = true → (s.chan d k c).st = .waitCredit →
    berthStatus [.windowClosed, .berthSourceDenied, .lengthExceeds, .fabricUnreachable] code = some st →
    Answers (.creditRefuse ⟨[], d⟩ k c code) s fun t => (t.chan d k c).halt = some st ∧ t.flag (mcA d k 0x40) 2 = true) ∧
  (∀ (s : State) (d b srcPkg srcDie c : Nat), d < 7 → b < 256 →
    let keep := (s.berth d b).grants.filter (fun g => !(g.srcPkg == srcPkg && g.srcDie == srcDie && g.chan == c))
    Answers (.creditRelease ⟨[], d⟩ b srcPkg srcDie c) s fun t => (t.berth d b).grants = keep ∧
      (s.berthState d b = 2 → keep = [] → t.berthState d b = 0) ∧
      (s.berthState d b = 1 → t.berthState d b = 1))

/-- A write inside a grant of its sender to an open or closing berth stores exactly its bytes; one with another
generation, to a closed berth or an absent die, without a grant or outside its grants stores none, with its flag.
An acknowledgement frees the sender's channel and no other, a negative one halts it, and 100 us after the close
command a closing berth is closed with nothing left. Rests on 05_memory_and_berths.md: R127, R128, R129, R130. -/
def Obligations.BerthWrites : Prop :=
  (∀ (s : State) (d b gen srcPkg srcDie c off : Nat) (data : Bytes), d < 8 → b < 256 → srcPkg < 1024 → srcDie < 7 →
    c < 8 → s.diePresent d = true →
    (s.berthState d b = 1 ∨ s.berthState d b = 2 ∧ s.clk.ref < (s.berth d b).closeRef + 100000) →
    let named := s.fld (berthA d b 0) 23 16 = gen
    let mine := (s.berth d b).grants.filter (fun g => g.srcPkg == srcPkg && g.srcDie == srcDie && g.chan == c)
    let inGrant := mine.any (fun g => decide (g.off ≤ off) && decide (off + data.length ≤ g.off + g.len)) = true
    let at' := (s.berthRegion d b).base + off
    Answers (.write ⟨[], d⟩ b gen srcPkg srcDie c off data) s fun t =>
      (named → inGrant → ∀ e a, t.rdByte e a =
        if e = d ∧ at' ≤ a ∧ a < at' + data.length then (data.getD (a - at') 0).toNat else s.rdByte e a) ∧
      (¬named → t.comp.mems = s.comp.mems ∧ t.flag (bthA d 0) 0 = true) ∧
      (named → mine = [] → t.comp.mems = s.comp.mems ∧ t.flag (bthA d 0) 3 = true) ∧
      (named → mine ≠ [] → ¬inGrant → t.comp.mems = s.comp.mems ∧ t.flag (bthA d 0) 4 = true)) ∧
  (∀ (s : State) (d b gen srcPkg srcDie c off : Nat) (data : Bytes), d < 8 → b < 256 → srcPkg < 1024 → srcDie < 7 →
    c < 8 → s.diePresent d = false ∨ s.berthState d b = 0 →
    Answers (.write ⟨[], d⟩ b gen srcPkg srcDie c off data) s fun t => t.comp.mems = s.comp.mems ∧
      (s.diePresent d = true → t.flag (bthA d 0) 0 = true)) ∧
  (∀ (s : State) (d k c : Nat) (x : Xfer), chanOk d k c = true → (s.chan d k c).st = .waitAck →
    (s.chan d k c).xfer = some x → Answers (.writeAck ⟨[], .chan d⟩ k c) s fun t => t.chan d k c = Chan.init ∧ t.comp.mems = s.comp.mems ∧
      ∀ e j h, (e, j, h) ≠ (d, k, c) → chanOk e j h = true → t.chan e j h = s.chan e j h) ∧
  (∀ (s : State) (d k c code : Nat) (st : Status), chanOk d k c = true → (s.chan d k c).st = .waitAck →
    berthStatus [.windowClosed, .berthNoCredit, .lengthExceeds, .fabricUnreachable] code = some st →
    Answers (.writeNak ⟨[], d⟩ k c code) s fun t => (t.chan d k c).halt = some st ∧ t.flag (mcA d k 0x40) 2 = true) ∧
  (∀ (s u : State) (d b : Nat), d < 7 → b < 256 → s.berthState d b = 2 →
    s.reachRef ((s.berth d b).closeRef + 100000) = some u → Answers (.berthCloseExpiry d b) s fun t =>
      t.berthState d b = 0 ∧ (t.berth d b).queue = [] ∧ (t.berth d b).grants = [])

/-- A core fault, a bank conflict, an uncorrectable scratchpad error and a walk fault lose every job: the loss's time
is kept, no tile runs and the flag is set. A self-test clears its core's trap and adds the failed columns. With
every core tested the release ends the loss, gives its length and leaves SRAM zero (the moment: log entry 74). A
scrub's end completes its descriptor. Rests on 02_matrix_cores_and_arithmetic.md: R55, R56, R57, R58;
05_memory_and_berths.md: R116, R118; 06_placement_and_scheduling.md: R166, R167, R168. -/
def Obligations.PackageJobLoss : Prop :=
  let lost := fun (s t : State) => t.loss = some s.clk.ref ∧ t.jobs = [] ∧ t.comp.lost = s.jobs ∧
    t.flag 0x244 2 = true ∧ ∀ d k, (t.core d k).tile = none
  (∀ (s : State) (d k : Nat) (kind : CoreCheck), d < 7 → k < 17 → s.running d k = true →
    Answers (.coreFault d k kind) s fun t => lost s t ∧ (t.core d k).trapped = true) ∧
  (∀ (s : State) (d k a cls : Nat), d < 7 → k < 17 → s.running d k = true → 1 ≤ cls → cls ≤ 3 →
    (∀ b, spadBank k a = some b → s.bankOwner d k b ≠ cls) →
    Answers (.bankConflict d k a cls) s fun t => lost s t ∧ t.flag (mcA d k 0x40) 0 = true) ∧
  (∀ (s : State) (d k a b : Nat), d < 7 → k < 17 → s.running d k = true → spadBank k a = some b →
    (s.bankOwner d k b = 1 ∨ s.bankOwner d k b = 2) →
    Answers (.eccUncorrectable d k a) s fun t => lost s t ∧ t.flag (mcA d k 0x40) 1 = true) ∧
  (∀ (s : State) (d k : Nat), d < 7 → k < 17 → s.running d k = true →
    ∀ w, Answers (.kvWalkFault d ⟨k, w⟩) s (lost s)) ∧
  (∀ (s : State) (x : SelfTest), x.die < 7 → x.core < 17 → s.loss.isSome = true → (s.core x.die x.core).trapped = true →
    Answers (.selftestDone x) s fun t => (t.core x.die x.core).trapped = false ∧
      (∀ c ∈ x.cols, c < 66 → c ∈ (t.core x.die x.core).failed) ∧ t.loss = s.loss) ∧
  (∀ (s : State) (r : Nat), s.loss = some r → s.comp.cores.any (fun e => e.2.trapped) = false →
    Answers .lossDiesReleased s fun t => t.loss = none ∧ t.comp.lost = [] ∧
      t.rd 0x268 = BitVec.ofNat 32 ((s.clk.ref - r) / 1000) ∧
      ∀ d ∈ s.inService, ∀ a, dramTop ≤ a → t.rdByte d a = 0) ∧
  (∀ (s : State) (r corr : Nat) (bad : List Nat) (x : Scrub), r < 8192 → s.loss = none →
    s.comp.scrubs.find? (fun x => x.ring == r) = some x → Answers (.scrubDone r corr bad) s fun t =>
      x ∉ t.comp.scrubs ∧ t.desc r x.num = none)

/-- A link that is down or failed trains again after 100 ms, is up or fails by its peer's identity once its four
steps have kept their limits with four lanes in order, and falls back without them or when a step overruns.
RETRAIN, and an acknowledgement outstanding for 10 us, begin retraining, which ends in up once the peer's
identity is right, or after 1 ms in down with its packets dropped; so does the loss of the peer. Rests on
08_ralostair_fabric.md: R194, R195, R197, R202. -/
def Obligations.LinkStates : Prop :=
  (∀ (s u : State) (k : Nat), k < 12 → (s.linkState k = 1 ∨ s.linkState k = 5) → s.flag (lnkA k 0) 0 = true →
    s.kind ≠ 0 → s.reachRef ((s.lnk k).since + 100000000) = some u →
    Answers (.linkTrainingRetry k) s fun t => t.linkState k = 2 ∧ (t.lnk k).since = u.clk.ref) ∧
  (∀ (s u : State) (k : Nat) (steps : List Nat) (lanes : List (Option (Nat × Bool))) (p : LinkPeer), k < 12 →
    s.linkState k = 2 → steps.length = 4 → (∀ x ∈ steps.zip [25000000, 5000000, 1000000, 100000], x.1 ≤ x.2) →
    s.reachRef ((s.lnk k).since + steps.sum) = some u → Answers (.linkTrained k ⟨steps, lanes, p⟩) s fun t =>
      (lanesOk lanes = false → t.linkState k = 1) ∧
      (lanesOk lanes = true → t.fld (lnkA k 8) 9 0 = p.pkg % 1024 ∧ t.fld (lnkA k 8) 19 16 = p.link % 16 ∧
        (s.identityOk k p = true → t.linkState k = 3 ∧ (t.lnk k).credits = [128, 512, 512, 64] ∧ (t.lnk k).replay = [] ∧
          (t.lnk k).expect = 0) ∧
        (s.identityOk k p = false → t.linkState k = 5 ∧ t.flag (lnkA k 4) 3 = true))) ∧
  (∀ (lanes : List (Option (Nat × Bool))), lanesOk lanes = true ↔
    (lanes.map fun x => x.map (fun y => y.1)) ∈ [[some 0, some 1, some 2, some 3], [some 3, some 2, some 1, some 0]]) ∧
  (∀ (s u : State) (k : Nat) (steps : List Nat), k < 12 → s.linkState k = 2 → steps.length < 4 →
    (∀ x ∈ steps.zip [25000000, 5000000, 1000000, 100000], x.1 ≤ x.2) →
    s.reachRef ((s.lnk k).since + steps.sum + trainLimits.getD steps.length 0) = some u →
    Answers (.linkTrainingOverrun k steps) s fun t => t.linkState k = 1) ∧
  (∀ (s : State) (k : Nat), k < 12 → s.isReady = true → s.linkState k = 3 → Answers (.retrain k) s fun t =>
    t.linkState k = 4 ∧ t.flag (lnkA k 0) 1 = true ∧ t.flag (lnkA k 4) 1 = true) ∧
  (∀ (s u : State) (k : Nat), k < 12 → s.linkState k = 3 → (s.lnk k).replay ≠ [] →
    s.reachRef ((s.lnk k).ackRef + 10000) = some u → Answers (.ackTimeout k) s fun t =>
      t.linkState k = 4 ∧ t.flag (lnkA k 4) 1 = true) ∧
  (∀ (s : State) (k : Nat), k < 12 → s.linkState k = 4 → s.clk.ref ≤ (s.lnk k).since + 1000000 →
    ∀ p, Answers (.retrainingDone ⟨k, p⟩) s fun t =>
      (s.identityOk k p = true → t.linkState k = 3 ∧ t.flag (lnkA k 0) 1 = false ∧
        ((s.lnk k).replay ≠ [] → t.flag (lnkA k 4) 0 = true)) ∧
      (s.identityOk k p = false → t.linkState k = 4 ∧ t.regs = s.regs)) ∧
  (∀ (s u : State) (k : Nat), k < 12 → s.linkState k = 4 → s.reachRef ((s.lnk k).since + 1000000) = some u →
    Answers (.retrainTimeout k) s fun t => t.linkState k = 1 ∧ (t.lnk k).replay = [] ∧ (t.lnk k).queue = []) ∧
  (∀ (s : State) (k : Nat), k < 12 → s.linkState k = 3 → Answers (.linkPeerLost k) s fun t =>
    t.linkState k = 1 ∧ (t.lnk k).replay = [] ∧ (t.lnk k).queue = [])

/-- A packet with a bad check is reported with the number expected, and its uncorrectable codewords are counted. A
negative acknowledgement sends again from its number, keeping the replay buffer, and the 8th failure of one
packet begins retraining; a positive one frees packets up to its number; an unknown number changes nothing.
Returned credits fill up to the buffer's size. A received packet that fails, or comes out of order, has no
effect; one in order is acknowledged and its credits are returned. Rests on 08_ralostair_fabric.md: R195, R198,
R200, R201. -/
def Obligations.LinkPackets : Prop :=
  (∀ (s : State) (k lseq n : Nat) (corrected : List Nat), k < 12 → corrected.all (fun x => decide (x ≤ 15)) = true →
    s.linkState k = 3 → Answers (.linkCrcFailure k lseq corrected n) s fun t => t.out = s.out ++ [.linkNak k (s.lnk k).expect] ∧
      t.lnk k = { s.lnk k with crcFails := (s.lnk k).crcFails + 1 } ∧
      t.rd64 (lnkA k 0xC) = satAdd statTop (s.rd64 (lnkA k 0xC)) corrected.sum ∧
      t.rd (lnkA k 0x14) = BitVec.ofNat 32 (satAdd countTop (s.rd (lnkA k 0x14)).toNat n)) ∧
  (∀ (s : State) (k lseq : Nat), k < 12 → s.linkState k = 3 → (s.lnk k).replay.any (fun p => p.seq == lseq) = true →
    let again := fromSeq lseq (s.lnk k).replay
    let fails := if 0 < (s.lnk k).fails ∧ (s.lnk k).failSeq = lseq then (s.lnk k).fails + 1 else 1
    Answers (.linkNak k lseq) s fun t => (t.lnk k).replay = (s.lnk k).replay ∧ t.flag (lnkA k 4) 0 = true ∧
      (fails < 8 → t.linkState k = 3 ∧ (t.lnk k).fails = fails ∧
        t.out = s.out ++ again.map (fun p => .fabric k (sealPkt p.seq p.bytes))) ∧
      (8 ≤ fails → t.linkState k = 4 ∧ t.out = s.out)) ∧
  (∀ (s : State) (k lseq : Nat), k < 12 → (s.lnk k).replay.any (fun p => p.seq == lseq) = true →
    let rest := (fromSeq lseq (s.lnk k).replay).drop 1
    Answers (.linkAck k lseq) s fun t =>
      (t.lnk k).fails = (if rest.any (fun p => p.seq == (s.lnk k).failSeq) then (s.lnk k).fails else 0) ∧
      ((s.lnk k).queue = [] → (t.lnk k).replay = rest)) ∧
  (∀ (s : State) (k lseq : Nat), k < 12 → (s.lnk k).replay.any (fun p => p.seq == lseq) = false →
    exec (.linkAck k lseq) s = .next s ∧ exec (.linkNak k lseq) s = .next s) ∧
  (∀ (s : State) (k vc units : Nat), k < 12 → vc < 4 → s.linkState k = 3 → (s.lnk k).queue = [] →
    Answers (.flowCreditReturn k vc units) s fun t => (t.lnk k).credits =
      setAt (s.lnk k).credits vc (min (fullCredits.getD vc 0) ((s.lnk k).credits.getD vc 0 + units))) ∧
  (∀ (s : State) (p : RxPkt) (d k c : Nat), p.link < 12 → chanOk d k c = true →
    (s.linkState p.link ≠ 3 ∨ p.lseq ≠ (s.lnk p.link).expect ∨ p.errs.any (fun n => decide (15 < n)) = true) →
    Answers (.writeAck ⟨[p], .chan d⟩ k c) s fun t => t.comp.chans = s.comp.chans ∧
      (t.lnk p.link).expect = (s.lnk p.link).expect) ∧
  (∀ (s : State) (p : RxPkt) (d k c : Nat) (x : Xfer), p.link < 12 → chanOk d k c = true → s.linkState p.link = 3 →
    p.lseq = (s.lnk p.link).expect → p.errs.any (fun n => decide (15 < n)) = false → p.onward = none →
    (s.chan d k c).st = .waitAck → (s.chan d k c).xfer = some x →
    Answers (.writeAck ⟨[p], .chan d⟩ k c) s fun t => t.chan d k c = Chan.init ∧
      (t.lnk p.link).expect = ((s.lnk p.link).expect + 1) % 4096 ∧ Out.linkAck p.link p.lseq ∈ t.out ∧
      Out.linkCredit p.link 0 (cdiv (p.len + 20) 64) ∈ t.out)

/-- STATUS, LOG_READ, IDENTITY and ATTEST end with SUCCESS, STATUS with 1,536 bytes and IDENTITY with the package's
serial, key and certificates; with no request first in the queue each changes nothing. Rests on
17_harbourmaster.md: R389, R390, R391. -/
def Obligations.ManagementReads : Prop :=
  ∀ (s : State) (src : MgtSrc) (b : Bytes),
    (Asks s 0x01 noReq src b → Answers .status s fun t => Replied s t src .success ∧
      (src = .mailbox → t.hm.mbxResp.length = 1536) ∧ t.free = s.free + 1) ∧
    (∀ req, Asks s 0x02 req src b → Answers (.logRead req) s fun t => Replied s t src .success) ∧
    (Asks s 0x03 noReq src b → Answers .identity s fun t => Replied s t src .success ∧
      (src = .mailbox → t.hm.mbxResp =
        fitTo 16 Config.serial ++ fitTo 2592 Config.identityKey ++ fitTo 16384 Config.certChain)) ∧
    (∀ req, Asks s 0x04 req src b → Answers (.attest req) s fun t => Replied s t src .success) ∧
    (∀ req, s.hm.queue = [] → exec (.logRead req) s = .next s ∧ exec (.attest req) s = .next s ∧
      exec .status s = .next s ∧ exec .identity s = .next s)

/-- SET_STATE, CAPTURE_ARM and CAPTURE_RELEASE end with the status of the first rule broken, changing nothing (the
status of bad contents: log entry 43), or take effect with SUCCESS. PACKAGE_RESET writes the log to flash, resets
the package with its cause and keeps fuses, reference and queue. Rests on 17_harbourmaster.md: R382, R385;
16_boot_and_firmware.md: R366, R369. -/
def Obligations.ServiceRequests : Prop :=
  ∀ (s : State) (src : MgtSrc) (b : Bytes),
    (∀ req, Asks s 0x10 req src b →
      let n := le b 0 1
      let bad := 3 < n ∨ (b.drop 1).any (fun x => x != 0) = true
      let no := n = 1 ∨ (n = 0 ∧ (s.flag (mgtA 0x100) 4 = true ∨ s.flag (mgtA 0x100) 5 = true))
      Answers (.setState req) s fun t =>
        (bad → Replied s t src .descriptorInvalid ∧ t.service = s.service) ∧
        (¬bad → no → Replied s t src .serviceStateInvalid ∧ t.service = s.service) ∧
        (¬bad → ¬no → Replied s t src .success ∧ t.service = n)) ∧
    (Asks s 0x11 noReq src b → Answers .packageReset s fun t =>
      t.hm.phase = .reset ∧ t.hm.cause = 5 ∧ t.fuses = s.fuses ∧ t.clk.ref = s.clk.ref ∧
      (∃ l, t.flash.log = (s.hm.logBuf ++ l).foldl sectorAdd s.flash.log) ∧ t.jobs = [] ∧ t.comp.mems = [] ∧ t.pending = s.pending) ∧
    (∀ req, Asks s 0x18 req src b →
      let bad := le b 10 6 ≠ 0 ∨ 1 < le b 2 2 ∨ 7 < le b 4 4 ∨ le b 8 2 < 1 ∨ 16 < le b 8 2 ∨
        (8191 < le b 0 2 ∧ le b 0 2 ≠ 0xFFFF)
      let used := s.hm.armed.isSome = true ∨ s.hm.held.isSome = true ∨ (s.logOn = true ∧ s.inService.length ≤ 1)
      Answers (.captureArm req) s fun t =>
        (bad → Replied s t src .descriptorInvalid ∧ t.hm.armed = s.hm.armed) ∧
        (¬bad → s.jobs ≠ [] → Replied s t src .jobsActive ∧ t.hm.armed = s.hm.armed) ∧
        (¬bad → s.jobs = [] → used → Replied s t src .captureAreaBusy ∧ t.hm.armed = s.hm.armed) ∧
        (¬bad → s.jobs = [] → ¬used → Replied s t src .success ∧ t.flag (mgtA 0x100) 6 = true ∧
          t.hm.armed = some ⟨le b 0 2, (le b 2 2).testBit 0, le b 4 4, le b 8 2, (s.inService.head?).getD 0⟩)) ∧
    (Asks s 0x19 noReq src b → Answers .captureRelease s fun t => Replied s t src .success ∧ t.hm.armed = none ∧
      t.hm.held = none ∧ t.flag (mgtA 0x100) 6 = false ∧ t.flag (mgtA 0x30) 30 = false)

/-- UPDATE_BEGIN, WRITE, VERIFY, ACTIVATE, CONFIRM and ABORT act on the one open update in their order and end with
the status of what is wrong otherwise; writes land in the slot, an image is verified whose checks pass and whose
DRV_MIN is at most its DRV_MAX, a verified image becomes preferred, and CONFIRM raises the fused security
version. Another sender than the owner gets UPDATE_BUSY (log entry 44). Rests on 17_harbourmaster.md: R388;
16_boot_and_firmware.md: R362, R363. -/
def Obligations.ImageUpdate : Prop :=
  ∀ (s : State) (src : MgtSrc) (b : Bytes),
    (∀ req, Asks s 0x20 req src b → Answers (.updateBegin req) s fun t =>
      (s.hm.update.isSome = true → Replied s t src .updateBusy ∧ t.hm.update = s.hm.update) ∧
      (s.hm.update = none → (le b 0 4 = 0 ∨ 24 * 2 ^ 20 < le b 0 4) →
        Replied s t src .lengthExceeds ∧ t.hm.update = none) ∧
      (s.hm.update = none → 0 < le b 0 4 → le b 0 4 ≤ 24 * 2 ^ 20 → le b 4 4 = 0 → Replied s t src .success ∧
        t.hm.update = some ⟨src, s.updSlot, le b 0 4, false, false⟩ ∧ t.slotTbl s.updSlot = []) ∧
      (s.hm.update = none → 0 < le b 0 4 → le b 0 4 ≤ 24 * 2 ^ 20 → le b 4 4 ≠ 0 →
        Replied s t src .descriptorInvalid ∧ t.hm.update = none)) ∧
    (∀ req u, Asks s 0x21 req src b → s.hm.update = some u → u.owner.ringNo = src.ringNo → u.activated = false →
      let off := le b 0 8
      let n := (b.drop 8).length
      let bad := off % 4096 ≠ 0 ∨ (n % 4096 ≠ 0 ∧ off + n ≠ u.len) ∨ 2 ^ 20 < n ∨ u.len < off + n
      Answers (.updateWrite req) s fun t =>
        (bad → Replied s t src .lengthExceeds ∧ t.hm.update = some u ∧ t.flash = s.flash) ∧
        (¬bad → Replied s t src .success ∧ t.hm.update = some { u with verified := false } ∧
          t.slotTbl u.slot = slotWrite off (b.drop 8) (s.slotTbl u.slot))) ∧
    (∀ u, Asks s 0x22 noReq src b → s.hm.update = some u → u.owner.ringNo = src.ringNo →
      Answers .updateVerify s fun t =>
        (s.verifySlot u.slot ≠ .success → Replied s t src (s.verifySlot u.slot) ∧
          t.hm.update = some { u with verified := false }) ∧
        (s.verifySlot u.slot = .success →
          let ok := decide (le (s.slotBytes u.slot 16 8) 0 4 ≤ le (s.slotBytes u.slot 16 8) 4 4)
          t.hm.update = some { u with verified := ok } ∧
          Replied s t src (if ok then .success else .imageVersionRefused))) ∧
    (∀ u, Asks s 0x23 noReq src b → s.hm.update = some u → u.owner.ringNo = src.ringNo →
      Answers .updateActivate s fun t =>
        (u.verified = false → Replied s t src .updateBusy ∧ t.hm.update = some u) ∧
        (u.verified = true → t.bootRec.preferred = u.slot ∧
          (s.hm.phase ≠ .recovery → Replied s t src .success ∧ t.hm.update = some { u with activated := true }) ∧
          (s.hm.phase = .recovery → t.hm.phase = .reset))) ∧
    (Asks s 0x24 noReq src b → Answers .updateConfirm s fun t =>
      (s.hm.update = none → Replied s t src .success ∧ t.fuses.svn = max s.fuses.svn (s.fld (mgtA 0xC) 7 0)) ∧
      (s.hm.update.isSome = true → Replied s t src .updateBusy ∧ t.fuses = s.fuses)) ∧
    (∀ u, Asks s 0x25 noReq src b → s.hm.update = some u → u.owner.ringNo = src.ringNo →
      Answers .updateAbort s fun t =>
        (u.activated = false → Replied s t src .success ∧ t.hm.update = none ∧ t.slotTbl u.slot = []) ∧
        (u.activated = true → Replied s t src .updateBusy ∧ t.hm.update = some u)) ∧
    (∀ req, (s.hm.update = none ∨ ∃ u, s.hm.update = some u ∧ u.owner.ringNo ≠ src.ringNo) →
      (Asks s 0x21 req src b → Answers (.updateWrite req) s fun t => Replied s t src .updateBusy ∧ t.flash = s.flash) ∧
      (Asks s 0x22 noReq src b → Answers .updateVerify s fun t => Replied s t src .updateBusy ∧ t.flash = s.flash) ∧
      (Asks s 0x23 noReq src b → Answers .updateActivate s fun t => Replied s t src .updateBusy ∧ t.flash = s.flash) ∧
      (Asks s 0x25 noReq src b → Answers .updateAbort s fun t => Replied s t src .updateBusy ∧ t.flash = s.flash))

/-- MAKER_ENABLE, CHALLENGE, RESPONSE, END and OP follow R383: contents, service state, a nonce used once, a
signature that opens the session, debug rights that stop the package, its end by request or after its minutes,
and no session without its ring. What MAKER_OP does is left out (log entry 45). Rests on 17_harbourmaster.md:
R383, R384. -/
def Obligations.MakerSession : Prop :=
  (∀ (s : State) (src : MgtSrc) (b : Bytes) (req : Option Bytes), Asks s 0x30 req src b →
    let bad := le b 0 2 < 1 ∨ 1440 < le b 0 2 ∨ le b 2 6 ≠ 0
    let opened := ∃ m, s.hm.maker = some m ∧ m.opened = true
    Answers (.makerEnable req) s fun t =>
      (bad → Replied s t src .descriptorInvalid ∧ t.hm.maker = s.hm.maker) ∧
      (¬bad → (s.service < 2 ∨ opened) → Replied s t src .serviceStateInvalid ∧ t.hm.maker = s.hm.maker) ∧
      (¬bad → 2 ≤ s.service → ¬opened → Replied s t src .success ∧
        t.hm.maker = some ⟨src.ringNo, le b 0 2, none, false, [], 0⟩)) ∧
  (∀ (s : State) (src : MgtSrc) (b : Bytes) (m : Maker), Asks s 0x31 noReq src b → s.hm.maker = some m →
    m.ring = src.ringNo → m.opened = false → Answers .makerChallenge s fun t => Replied s t src .success ∧
      t.hm.maker = some { m with nonce := some (fitTo 64 (Config.freeBytes s.free)) } ∧ t.free = s.free + 1) ∧
  (∀ (s : State) (src : MgtSrc) (b : Bytes) (req : Option Bytes) (m : Maker), Asks s 0x32 req src b →
    s.hm.maker = some m → m.ring = src.ringNo → m.nonce = none → Answers (.makerResponse req) s fun t =>
      Replied s t src .makerSessionRequired ∧ t.hm.maker = some m) ∧
  (∀ (s : State) (src : MgtSrc) (b : Bytes) (req : Option Bytes) (m : Maker) (nonce : Bytes), Asks s 0x32 req src b →
    s.hm.maker = some m → m.ring = src.ringNo → m.nonce = some nonce →
    (slice b 4635 5).any (fun x => x != 0) = false →
    let signed := Config.mldsaVerify Config.makerKey (nonce ++ fitTo 16 Config.serial ++ slice b 0 8) (slice b 8 4627)
    Answers (.makerResponse req) s fun t =>
      (signed = true → Replied s t src .success ∧ t.flag (mgtA 0x100) 4 = true ∧ t.hm.maker =
        some { m with nonce := none, opened := true, rights := slice b 0 8, since := s.clk.ref }) ∧
      (signed = true → Config.grantsDebug (slice b 0 8) = true → t.flag (mgtA 0x100) 5 = true ∧ t.pkgStopped = true) ∧
      (signed = false → Replied s t src .imageSignatureInvalid ∧ t.hm.maker = some { m with nonce := none })) ∧
  (∀ (s : State) (src : MgtSrc) (b : Bytes) (m : Maker), s.hm.maker = some m → m.ring = src.ringNo →
    (Asks s 0x33 noReq src b → Answers .makerEnd s fun t => Replied s t src .success ∧ t.hm.maker = none ∧
      (m.opened = true → t.flag (mgtA 0x100) 4 = false)) ∧
    (∀ req, Asks s 0x34 req src b → Answers (.makerOp req) s fun t => t.hm.maker = some m ∧
      (m.opened = true → Replied s t src .success) ∧ (m.opened = false → Replied s t src .makerSessionRequired))) ∧
  (∀ (s : State) (src : MgtSrc) (b : Bytes) (req : Option Bytes),
    (s.hm.maker = none ∨ ∃ m, s.hm.maker = some m ∧ m.ring ≠ src.ringNo) →
    let refused := fun t => Replied s t src .makerSessionRequired ∧ t.hm.maker = s.hm.maker
    (Asks s 0x31 noReq src b → Answers .makerChallenge s refused) ∧
    (Asks s 0x32 req src b → Answers (.makerResponse req) s refused) ∧
    (Asks s 0x33 noReq src b → Answers .makerEnd s refused) ∧
    (Asks s 0x34 req src b → Answers (.makerOp req) s refused)) ∧
  (∀ (s u : State) (m : Maker), s.hm.maker = some m → m.opened = true →
    s.reachRef (m.since + m.minutes * 60000000000) = some u → Answers .makerSessionExpiry s fun t =>
      t.hm.maker = none ∧ t.flag (mgtA 0x100) 4 = false)

/-- A thermal sample shows each site and raises the gating that the hottest site asks for at once, and releases a
thermal trip when every site is below 95 C. Trips reset the package with their cause. A margin measurement sets
the voltage between 720 and 820 mV and keeps its history, LOG_FLUSH empties the buffer into flash, and a PMBus
alert counts the faulty converters (log entry 47). Rests on 17_harbourmaster.md: R376, R377, R378, R387;
16_boot_and_firmware.md: R371; 19_package_power_cooling.md: R415, R421. -/
def Obligations.Environment : Prop :=
  (∀ (s : State) (temps : List Nat), Answers (.thermalSample temps) s fun t =>
    (s.hm.phase = .ready → ∀ i < 64, s.sitePresent i = true →
      t.fld (mgtA (0x200 + 4 * i)) 15 0 = temps.getD i 0 % 65536) ∧
    (s.hm.phase = .ready → ∀ d < 8, (d = 0 ∨ d ≤ s.fuses.cdCount) →
      s.fld (mgtA (0x310 + 4 * d)) 4 0 ≤ gateOf (hottest temps d) →
      t.fld (mgtA (0x310 + 4 * d)) 4 0 = gateOf (hottest temps d)) ∧
    (s.hm.phase = .tripped → (∀ i < 64, s.sitePresent i = true → sint 16 (temps.getD i 0) < 1520) →
      t.hm.phase = .reset ∧ t.out = s.out ++ [.trip false]) ∧
    (s.hm.phase = .tripped → (∃ i < 64, s.sitePresent i = true ∧ 1520 ≤ sint 16 (temps.getD i 0)) → t = s)) ∧
  (∀ (s : State) (site : Nat), site < 64 → s.sitePresent site = true → (s.hm.phase = .ready ∨ s.hm.phase = .recovery) →
    Answers (.thermalTrip site) s fun t => t.hm.phase = .tripped ∧ t.hm.cause = 2 ∧ t.out.getLast? = some (.trip true) ∧
      t.clk.ref = s.clk.ref ∧ t.fuses = s.fuses) ∧
  (∀ (s : State) (rail : Nat), rail < 14 → (s.hm.phase = .ready ∨ s.hm.phase = .recovery) →
    Answers (.voltageTrip rail) s fun t => t.hm.phase = .reset ∧ t.hm.cause = 3 ∧ t.out.getLast? = some (.trip true) ∧
      t.clk.ref = s.clk.ref ∧ t.fuses = s.fuses) ∧
  (∀ (s : State) (n slack week : Nat), n < 7 → s.inService.contains n = true →
    Answers (.marginMeasurement n slack week) s fun t => 720 ≤ t.fld (mgtA (0x340 + 4 * n)) 31 16 ∧
      t.fld (mgtA (0x340 + 4 * n)) 31 16 ≤ 820 ∧ t.rd (mgtA (0x408 + 0x10 * n)) = BitVec.ofNat 32 week ∧
      (tget [] t.flash.margins n).length = (tget [] s.flash.margins n).length + 1) ∧
  (∀ s : State, Answers .logFlush s fun t => t.hm.logBuf = [] ∧ t.regs = s.regs ∧
    t.flash.log = s.hm.logBuf.foldl sectorAdd s.flash.log) ∧
  (∀ (s : State) (regs : List PmbStatus), s.hm.phase = .ready → Answers (.pmbAlert regs) s fun t =>
    t.rd (mgtA 0x508) = BitVec.ofNat 32 (satAdd countTop (s.rd (mgtA 0x508)).toNat (regs.filter (fun x =>
      decide (0x40 ≤ x.addr) && decide (x.addr ≤ 0x4B) && (x.word != some 0))).length))

/-- POWER_ON gives the state of reset with flash, fuses and queue kept. A reset input of 1 us resets the package; the
release boots it once the rails are down, ending in READY with time at 0, in recovery when no slot is good, or in
another reset. A trap of a pilot core or of the harbourmaster is kept as the crash record with its flags. Rests
on 16_boot_and_firmware.md: R355, R358, R359, R364, R367, R368; 19_package_power_cooling.md: R414. -/
def Obligations.ResetsAndBoot : Prop :=
  (∀ s : State, Answers .powerOn s fun t => t.regs = State.reset.regs ∧ t.hm = State.reset.hm ∧ t.clk = State.reset.clk ∧
    t.comp = State.reset.comp ∧ t.flash = s.flash ∧ t.fuses = s.fuses ∧ t.pending = s.pending) ∧
  (∀ (s : State) (rst : Bool) (ns : Nat), ns < 1000 → exec (.resetInput rst ns) s = .next s) ∧
  (∀ (s : State) (rst : Bool) (ns : Nat), 1000 ≤ ns → (s.hm.phase = .ready ∨ s.hm.phase = .recovery) →
    Answers (.resetInput rst ns) s fun t => t.hm.phase = .reset ∧ t.hm.cause = b2n rst ∧ t.clk.ref = s.clk.ref ∧
      t.hm.resetDue = s.clk.ref + 11050000 ∧ t.flash.log = s.flash.log ∧ t.jobs = [] ∧ t.comp.mems = []) ∧
  (∀ (s u : State) (l : List StepResult) (tests : List SelfTest), s.hm.phase = .reset →
    s.reachRef s.hm.resetDue = some u → Answers (.resetRelease l tests) s fun t =>
      t.bootRec.bootCount = (if (stepRes l 3 0).ok then s.bootRec.bootCount else 0) + 1 ∧
      (t.hm.phase = .ready → t.clk.live = true ∧ t.clk.t = 0 ∧ t.clk.tick = 0 ∧ t.fld (mgtA 0) 19 16 = 13) ∧
      ((∀ n < 2, s.slotStatus l n ≠ .success) → t.hm.phase = .recovery ∧ t.fld (mgtA 0) 19 16 = 4)) ∧
  (∀ (s : State) (l : List StepResult) (tests : List SelfTest), s.hm.phase ≠ .reset →
    exec (.resetRelease l tests) s = .next s) ∧
  (∀ (s : State) (core cause pc tval : Nat) (gpr : List Nat), core < 4 → s.isReady = true →
    Answers (.pilotCoreTrap core cause pc tval gpr) s fun t =>
      t.hm.pilots = setAt s.hm.pilots core ⟨1, cause, pc, tval, (gpr ++ List.replicate 32 0).take 32⟩ ∧
      t.flag (mgtA 0x30) 31 = true ∧ t.flag (mgtA 0) 3 = true) ∧
  (∀ (s : State) (cause pc tval : Nat) (gpr : List Nat), (s.isReady = true ∨ s.hm.phase = .recovery) →
    Answers (.harbourmasterTrap cause pc tval gpr) s fun t =>
      t.hm.crash = s.crashDump ⟨1, cause, pc, tval, (gpr ++ List.replicate 32 0).take 32⟩ ∧
      t.flag (mgtA 0x30) 31 = true ∧ t.flag (mgtA 0) 3 = true)

/-- CFG_BEGIN ends with CFG_BUSY while a transaction is open or committing, whichever ring owns it, and otherwise
opens one for its ring with nothing staged and counts it; from a ring that is no installer it completes with
PERMISSION_DENIED. No other register of the global block changes. Rule R345. -/
def Obligations.TransactionOpens : Prop :=
  ∀ (s : State) (r : Nat),
    (∀ d, Starts s r 0x02 d → s.cfgOpen = true ∨ s.cfgCommitting = true → Answers (.cfgBegin r) s fun t =>
      Completed s t r d .cfgBusy 0 0 s.now32 ∧ t.cfg = s.cfg ∧ ∀ a, a < 0x100000 → t.rd a = s.rd a) ∧
    (∀ d, Starts s r 0x02 d → s.cfgOpen = false → s.cfgCommitting = false → Answers (.cfgBegin r) s fun t =>
      Completed s t r d .success 0 0 s.now32 ∧ t.cfgOwns r = true ∧ t.cfg.staged = [] ∧ t.cfg.openRef = s.clk.ref ∧
      t.rd 0x108 = BitVec.ofNat 32 (satAdd countTop (s.rd 0x108).toNat 1) ∧
      ∀ a, a < 0x100000 → a ≠ 0x100 → a ≠ 0x108 → t.rd a = s.rd a) ∧
    (∀ raw, let b := fitTo 64 raw
      let head := (s.rd (ringA r 0x1C)).toNat
      let d : Inflight := ⟨head, dTag b, 0x02, (dFlags b).testBit 0, (dFlags b).testBit 1, b, false, s.fetchInfo⟩
      r < 8192 → s.isReady = true → s.ringOn r = true → s.ringHalted r = false → s.linkUp = true →
      head ≠ (s.ring r).sqTail → s.reserved r < s.cqFree r → s.desc r head = none → s.installer r = false →
      dOp b = 0x02 → reservedZero [] b = true → dFlags b ≤ 3 → Answers (.descriptorFetch r (some raw)) s fun t =>
        Completed s t r d .permissionDenied 0 0 s.now32 ∧ t.cfg = s.cfg)

/-- If the registers and die memories are in canonical form and at most the seven dies hold memory, so it is after
every step; no step lowers the fused security version (R362); and no command but a power-on sets the system
reference back (R242). Rests on 16_boot_and_firmware.md: R362; 10_site_time.md: R242; 05_memory_and_berths.md:
R103. -/
def Obligations.StepInvariant : Prop :=
  ∀ s t : State, step s = .next t → s.Inv →
    t.Inv ∧ s.fuses.svn ≤ t.fuses.svn ∧ (s.pending.head? ≠ some .powerOn → s.clk.ref ≤ t.clk.ref)

/-- The state right after reset has the registers and memories in canonical form (log entries 1 and 117). Rests on
16_boot_and_firmware.md: R355; 05_memory_and_berths.md: R117. -/
def Obligations.ResetInvariant : Prop := State.reset.Inv
end

