-- ==== Sys2Proof/Laws/Bits.lean ====
section
/-!
SUPPORT. Laws of bit fields: what a field reads after it, or another one, was written.
-/

namespace Sys2Proof.Machine

open Sys2Proof

theorem bits_lt (w : Word) (hi lo : Nat) : bits w hi lo < 2 ^ (hi - lo + 1) :=
  Nat.mod_lt _ (Nat.two_pow_pos _)

theorem testBit_bits (w : Word) (hi lo i : Nat) :
    (bits w hi lo).testBit i = (decide (i < hi - lo + 1) && w.toNat.testBit (lo + i)) := by
  unfold bits
  rw [Nat.testBit_mod_two_pow, Nat.testBit_shiftRight]

theorem putBits_toNat {w : Word} {hi lo v : Nat} (h : lo ≤ hi) (h32 : hi < 32) :
    (putBits w hi lo v).toNat =
      w.toNat / 2 ^ (hi + 1) * 2 ^ (hi + 1) + (v % 2 ^ (hi - lo + 1)) * 2 ^ lo + w.toNat % 2 ^ lo := by
  have hw := w.isLt
  unfold putBits
  simp only [BitVec.toNat_ofNat, Nat.shiftRight_eq_div_pow]
  have e : 2 ^ (hi + 1) = 2 ^ lo * 2 ^ (hi - lo + 1) := by rw [← Nat.pow_add]; congr 1; omega
  have d1 := Nat.div_add_mod w.toNat (2 ^ lo)
  have d2 := Nat.div_add_mod (w.toNat / 2 ^ lo) (2 ^ (hi - lo + 1))
  have d3 : w.toNat / 2 ^ (hi + 1) = w.toNat / 2 ^ lo / 2 ^ (hi - lo + 1) := by rw [e, Nat.div_div_eq_div_mul]
  have hv : v % 2 ^ (hi - lo + 1) < 2 ^ (hi - lo + 1) := Nat.mod_lt _ (Nat.two_pow_pos _)
  have ho : w.toNat / 2 ^ lo % 2 ^ (hi - lo + 1) < 2 ^ (hi - lo + 1) := Nat.mod_lt _ (Nat.two_pow_pos _)
  have hl : w.toNat % 2 ^ lo < 2 ^ lo := Nat.mod_lt _ (Nat.two_pow_pos _)
  rw [d3]
  generalize w.toNat / 2 ^ lo / 2 ^ (hi - lo + 1) = H at *
  generalize w.toNat / 2 ^ lo % 2 ^ (hi - lo + 1) = O at *
  generalize w.toNat % 2 ^ lo = L at *
  generalize v % 2 ^ (hi - lo + 1) = V at *
  have key : w.toNat = H * 2 ^ (hi + 1) + O * 2 ^ lo + L := by
    rw [e, ← d1, ← d2]; ring
  have hH : H * 2 ^ (hi + 1) + 2 ^ (hi + 1) ≤ 2 ^ 32 := by
    have : 2 ^ 32 = 2 ^ (31 - hi) * 2 ^ (hi + 1) := by rw [← Nat.pow_add]; congr 1; omega
    have lt : H < 2 ^ (31 - hi) := by
      by_contra hc
      have := Nat.mul_le_mul_right (2 ^ (hi + 1)) (Nat.le_of_not_lt hc)
      omega
    have := Nat.mul_le_mul_right (2 ^ (hi + 1)) (Nat.succ_le_of_lt lt)
    rw [Nat.succ_mul] at this
    omega
  have hV : V * 2 ^ lo + 2 ^ lo ≤ 2 ^ (hi + 1) := by
    have := Nat.mul_le_mul_right (2 ^ lo) (Nat.succ_le_of_lt hv)
    rw [Nat.succ_mul] at this
    rw [e, Nat.mul_comm (2 ^ lo)]
    omega
  have sub : w.toNat - O * 2 ^ lo + V * 2 ^ lo = H * 2 ^ (hi + 1) + V * 2 ^ lo + L := by omega
  rw [sub, Nat.mod_eq_of_lt (by omega)]

/-- A bit of a word after a field of it was written. -/
theorem testBit_putBits {w : Word} {hi lo v : Nat} (h : lo ≤ hi) (h32 : hi < 32) (i : Nat) :
    (putBits w hi lo v).toNat.testBit i =
      if lo ≤ i ∧ i ≤ hi then v.testBit (i - lo) else w.toNat.testBit i := by
  have hl : w.toNat % 2 ^ lo < 2 ^ lo := Nat.mod_lt _ (Nat.two_pow_pos _)
  have hv : v % 2 ^ (hi - lo + 1) < 2 ^ (hi - lo + 1) := Nat.mod_lt _ (Nat.two_pow_pos _)
  have e : 2 ^ (hi + 1) = 2 ^ (hi - lo + 1) * 2 ^ lo := by rw [← Nat.pow_add]; congr 1; omega
  have r : (putBits w hi lo v).toNat =
      2 ^ lo * (2 ^ (hi - lo + 1) * (w.toNat / 2 ^ (hi + 1)) + v % 2 ^ (hi - lo + 1)) + w.toNat % 2 ^ lo := by
    rw [putBits_toNat h h32, e]; ring
  rw [r, Nat.testBit_two_pow_mul_add _ hl, Nat.testBit_two_pow_mul_add _ hv]
  by_cases h1 : i < lo
  · rw [if_pos h1, if_neg (by omega), Nat.testBit_mod_two_pow]
    simp [h1]
  · rw [if_neg h1]
    by_cases h2 : i ≤ hi
    · rw [if_pos (by omega), if_pos (by omega), Nat.testBit_mod_two_pow]
      have : i - lo < hi - lo + 1 := by omega
      simp [this]
    · rw [if_neg (by omega), if_neg (by omega), ← Nat.shiftRight_eq_div_pow, Nat.testBit_shiftRight]
      congr 1
      omega

/-- A field reads what was written into it. -/
theorem bits_putBits {w : Word} {hi lo v : Nat} (h : lo ≤ hi) (h32 : hi < 32) :
    bits (putBits w hi lo v) hi lo = v % 2 ^ (hi - lo + 1) := by
  apply Nat.eq_of_testBit_eq
  intro i
  rw [testBit_bits, testBit_putBits h h32, Nat.testBit_mod_two_pow]
  by_cases hi' : i < hi - lo + 1
  · rw [if_pos (by omega)]
    simp [hi']
  · simp [hi']

/-- A field keeps its value when another one is written. -/
theorem bits_putBits_ne {w : Word} {hi lo hi' lo' v : Nat} (h : lo ≤ hi) (h32 : hi < 32)
    (d : hi' < lo ∨ hi < lo') (h' : lo' ≤ hi') :
    bits (putBits w hi lo v) hi' lo' = bits w hi' lo' := by
  apply Nat.eq_of_testBit_eq
  intro i
  rw [testBit_bits, testBit_bits, testBit_putBits h h32]
  by_cases hi'' : i < hi' - lo' + 1
  · rw [if_neg (by omega)]
  · simp [hi'']

/-- Every word has 32 bits. -/
theorem word_ext {v w : Word} (h : ∀ i, i < 32 → v.toNat.testBit i = w.toNat.testBit i) : v = w := by
  apply BitVec.eq_of_toNat_eq
  apply Nat.eq_of_testBit_eq
  intro i
  by_cases hi : i < 32
  · exact h i hi
  · rw [Nat.testBit_lt_two_pow, Nat.testBit_lt_two_pow]
    · exact Nat.lt_of_lt_of_le w.isLt (Nat.pow_le_pow_right (by omega) (by omega))
    · exact Nat.lt_of_lt_of_le v.isLt (Nat.pow_le_pow_right (by omega) (by omega))

end Sys2Proof.Machine
end

