-- ==== Sys2Proof/Laws/Table.lean ====
section
/-!
SUPPORT. Laws of sparse tables: reading after writing, and the canonical form that every write keeps.
-/

namespace Sys2Proof.Machine

variable {α : Type}

@[simp] theorem tget_nil (d : α) (k : Nat) : tget d [] k = d := rfl

theorem tget_terase (d : α) (t : Tbl α) (j k : Nat) :
    tget d (terase t j) k = if j = k then d else tget d t k := by
  induction t with
  | nil => simp [terase, tget]
  | cons e t ih =>
    obtain ⟨i, v⟩ := e
    grind [terase, tget]

theorem tget_tins (d : α) (t : Tbl α) (j k : Nat) (v : α) (h : ∀ e ∈ t, e.1 ≠ j) :
    tget d (tins t j v) k = if j = k then v else tget d t k := by
  induction t with
  | nil => simp [tins, tget]
  | cons e t ih =>
    obtain ⟨i, w⟩ := e
    have hi : i ≠ j := h (i, w) (by simp)
    have ih := ih (fun e he => h e (by simp [he]))
    by_cases hl : j < i
    · simp [tins, hl, tget]
    · by_cases hk : i = k
      · subst hk
        simp [tins, hl, tget, Ne.symm hi]
      · simp [tins, hl, tget, hk, ih]

theorem not_mem_terase (t : Tbl α) (j : Nat) : ∀ e ∈ terase t j, e.1 ≠ j := by
  induction t with
  | nil => simp [terase]
  | cons e t ih =>
    obtain ⟨i, w⟩ := e
    by_cases h : i = j
    · simpa [terase, h] using ih
    · simpa [terase, h] using ih

/-- Reading a table after a write. -/
theorem tget_tset [DecidableEq α] (d : α) (t : Tbl α) (j k : Nat) (v : α) :
    tget d (tset d t j v) k = if j = k then v else tget d t k := by
  unfold tset
  split
  · rename_i h
    rw [tget_terase, h]
  · rw [tget_tins _ _ _ _ _ (not_mem_terase t j), tget_terase]
    split <;> rfl

@[simp] theorem tget_tset_self [DecidableEq α] (d : α) (t : Tbl α) (k : Nat) (v : α) :
    tget d (tset d t k v) k = v := by simp [tget_tset]

theorem tget_tset_ne [DecidableEq α] (d : α) (t : Tbl α) {j k : Nat} (v : α) (h : j ≠ k) :
    tget d (tset d t j v) k = tget d t k := by simp [tget_tset, h]

theorem twfFrom_mono [DecidableEq α] {d : Nat → α} {t : Tbl α} {a b : Nat} (h : a ≤ b)
    (w : twfFrom d b t = true) : twfFrom d a t = true := by
  cases t with
  | nil => rfl
  | cons e t =>
    obtain ⟨i, v⟩ := e
    simp only [twfFrom, Bool.and_eq_true, decide_eq_true_eq] at *
    exact ⟨Nat.le_trans h w.1, w.2⟩

theorem twfFrom_filter [DecidableEq α] {d : Nat → α} (p : Nat × α → Bool) {t : Tbl α} {a : Nat}
    (w : twfFrom d a t = true) : twfFrom d a (t.filter p) = true := by
  induction t generalizing a with
  | nil => rfl
  | cons e t ih =>
    obtain ⟨i, v⟩ := e
    simp only [twfFrom, Bool.and_eq_true, decide_eq_true_eq] at w
    by_cases h : p (i, v) = true
    · simp only [List.filter, h, twfFrom, Bool.and_eq_true, decide_eq_true_eq]
      exact ⟨w.1, w.2.1, ih w.2.2⟩
    · simp only [List.filter, h]
      exact twfFrom_mono (Nat.le_succ_of_le w.1) (ih w.2.2)

theorem terase_eq_filter (t : Tbl α) (k : Nat) : terase t k = t.filter (fun e => e.1 != k) := by
  induction t with
  | nil => rfl
  | cons e t ih =>
    obtain ⟨i, v⟩ := e
    by_cases h : i = k <;> simp [terase, h, ih]

theorem twfFrom_tins [DecidableEq α] {d : Nat → α} {t : Tbl α} {a k : Nat} {v : α} (hk : a ≤ k) (hv : v ≠ d k)
    (hn : ∀ e ∈ t, e.1 ≠ k) (w : twfFrom d a t = true) : twfFrom d a (tins t k v) = true := by
  induction t generalizing a with
  | nil => simp [tins, twfFrom, hk, hv]
  | cons e t ih =>
    obtain ⟨i, x⟩ := e
    simp only [twfFrom, Bool.and_eq_true, decide_eq_true_eq] at w
    have hi : i ≠ k := hn (i, x) (by simp)
    by_cases h : k < i
    · simp only [tins, h, ↓reduceIte, twfFrom, Bool.and_eq_true, decide_eq_true_eq]
      exact ⟨hk, hv, h, w.2⟩
    · simp only [tins, h, ↓reduceIte, twfFrom, Bool.and_eq_true, decide_eq_true_eq]
      exact ⟨w.1, w.2.1, ih (by omega) (fun e he => hn e (by simp [he])) w.2.2⟩

/-- Every write keeps the canonical form. -/
theorem twfFrom_tset [DecidableEq α] {d : Nat → α} {t : Tbl α} (k : Nat) (v : α)
    (w : twfFrom d 0 t = true) : twfFrom d 0 (tset (d k) t k v) = true := by
  have we : twfFrom d 0 (terase t k) = true := by
    rw [terase_eq_filter]
    exact twfFrom_filter _ w
  unfold tset
  split
  · exact we
  · rename_i h
    exact twfFrom_tins (Nat.zero_le k) h (not_mem_terase t k) we

theorem twf_tset [DecidableEq α] {d : α} {t : Tbl α} (k : Nat) (v : α) (w : twf d t = true) :
    twf d (tset d t k v) = true := twfFrom_tset (d := fun _ => d) k v w

theorem twf_filter [DecidableEq α] {d : α} {t : Tbl α} (p : Nat × α → Bool) (w : twf d t = true) :
    twf d (t.filter p) = true := twfFrom_filter p w

theorem mem_tins {t : Tbl α} {k : Nat} {v : α} {e : Nat × α} (h : e ∈ tins t k v) : e = (k, v) ∨ e ∈ t := by
  induction t with
  | nil => simpa [tins] using h
  | cons x t ih =>
    obtain ⟨i, w⟩ := x
    by_cases hk : k < i
    · simpa [tins, hk] using h
    · simp only [tins, hk, ↓reduceIte, List.mem_cons] at h ⊢
      rcases h with h | h
      · exact .inr (.inl h)
      · rcases ih h with h | h
        · exact .inl h
        · exact .inr (.inr h)

/-- The entries of a table after a write. -/
theorem mem_tset [DecidableEq α] {d : α} {t : Tbl α} {k : Nat} {v : α} {e : Nat × α} (h : e ∈ tset d t k v) :
    e = (k, v) ∨ e ∈ t := by
  unfold tset at h
  split at h
  · rw [terase_eq_filter] at h
    exact .inr (List.mem_of_mem_filter h)
  · rcases mem_tins h with h | h
    · exact .inl h
    · rw [terase_eq_filter] at h
      exact .inr (List.mem_of_mem_filter h)

/-- Dropping other entries keeps what an index reads. -/
theorem tget_filter {d : α} {t : Tbl α} {k : Nat} (p : Nat × α → Bool) (hk : ∀ v, p (k, v) = true) :
    tget d (t.filter p) k = tget d t k := by
  induction t with
  | nil => rfl
  | cons e t ih =>
    obtain ⟨i, v⟩ := e
    by_cases h : i = k
    · subst h
      simp [List.filter, hk, tget]
    · by_cases hp : p (i, v) = true
      · simp [List.filter, hp, tget, h, ih]
      · simp [List.filter, hp, tget, h, ih]

end Sys2Proof.Machine
end

