-- ==== Sys2Proof/Laws/Regs.lean ====
section
/-!
SUPPORT. Laws of registers: what a register, a field or a flag reads after a write, and how far the writes
of the shared operations reach.
-/

namespace Sys2Proof.Machine

open Sys2Proof

/-- Reading a register after a write. -/
theorem State.rd_wr (s : State) (a b : Nat) (v : Word) : (s.wr a v).rd b = if a = b then v else s.rd b := by
  unfold State.rd State.wr
  by_cases h : a = b
  · subst h
    simp only [if_true]
    exact tget_tset_self _ _ _ _
  · simp only [h, if_false]
    have := tget_tset (resetAt a) s.regs a b v
    -- the reset value of the default does not matter away from `a`
    clear this
    unfold tset
    split
    · exact (tget_terase _ _ _ _).trans (if_neg h)
    · rw [tget_tins _ _ _ _ _ (not_mem_terase _ _), if_neg h]
      exact (tget_terase _ _ _ _).trans (if_neg h)

@[simp] theorem State.rd_wr_self (s : State) (a : Nat) (v : Word) : (s.wr a v).rd a = v := by simp [rd_wr]

theorem State.rd_wr_ne (s : State) {a b : Nat} (v : Word) (h : a ≠ b) : (s.wr a v).rd b = s.rd b := by
  simp [rd_wr, h]

/-- Equal register tables read the same. -/
theorem State.rd_congr {s t : State} (h : t.regs = s.regs) (a : Nat) : t.rd a = s.rd a := by
  unfold State.rd; rw [h]

@[simp] theorem State.rd_put_self (s : State) (a hi lo v : Nat) :
    (s.put a hi lo v).rd a = putBits (s.rd a) hi lo v := by simp [put]

theorem State.rd_put_ne (s : State) {a b : Nat} (hi lo v : Nat) (h : a ≠ b) : (s.put a hi lo v).rd b = s.rd b :=
  s.rd_wr_ne _ h

theorem State.fld_put_self (s : State) (a : Nat) {hi lo : Nat} (v : Nat) (h : lo ≤ hi) (h32 : hi < 32) :
    (s.put a hi lo v).fld a hi lo = v % 2 ^ (hi - lo + 1) := by
  simp [fld, bits_putBits h h32]

/-- A flag that was raised reads set. -/
theorem State.flag_raise_self (s : State) (a : Nat) {i : Nat} (h : i < 32) : (s.raise a i).flag a i = true := by
  unfold flag raise
  rw [rd_put_self, testBit_putBits (Nat.le_refl i) h, if_pos ⟨Nat.le_refl i, Nat.le_refl i⟩]
  simp

/-- Raising a flag keeps every other bit. -/
theorem State.flag_raise_ne (s : State) (a : Nat) {i j : Nat} (h : i < 32) (d : i ≠ j) :
    (s.raise a i).flag a j = s.flag a j := by
  unfold flag raise
  rw [rd_put_self, testBit_putBits (Nat.le_refl i) h, if_neg (by omega)]

theorem State.rd_raise_ne (s : State) {a b : Nat} (i : Nat) (h : a ≠ b) : (s.raise a i).rd b = s.rd b :=
  s.rd_put_ne _ _ _ h

theorem State.flag_wr_ne (s : State) {a b : Nat} (v : Word) (i : Nat) (h : a ≠ b) :
    (s.wr a v).flag b i = s.flag b i := by unfold flag; rw [rd_wr_ne _ _ h]

/-- A counter after `n` more occurrences. -/
@[simp] theorem State.rd_countN_self (s : State) (a n : Nat) :
    (s.countN a n).rd a = BitVec.ofNat 32 (satAdd countTop (s.rd a).toNat n) := by simp [countN]

theorem State.rd_countN_ne (s : State) {a b : Nat} (n : Nat) (h : a ≠ b) : (s.countN a n).rd b = s.rd b :=
  s.rd_wr_ne _ h

@[simp] theorem State.rd_count_self (s : State) (a : Nat) :
    (s.count a).rd a = BitVec.ofNat 32 (satAdd countTop (s.rd a).toNat 1) := by simp [count]

theorem State.rd_count_ne (s : State) {a b : Nat} (h : a ≠ b) : (s.count a).rd b = s.rd b := s.rd_wr_ne _ h

/-- An event's counter. -/
theorem State.rd_event_count (s : State) {a c : Nat} (i : Nat) (h : a ≠ c) :
    (s.event a i c).rd c = BitVec.ofNat 32 (satAdd countTop (s.rd c).toNat 1) := by
  unfold event
  rw [rd_count_self, rd_raise_ne _ _ h]

/-- An event's flag. -/
theorem State.flag_event (s : State) {a c i : Nat} (h : a ≠ c) (hi : i < 32) : (s.event a i c).flag a i = true := by
  unfold event
  rw [show (s.raise a i).count c = (s.raise a i).wr c _ from rfl, flag_wr_ne _ _ _ (Ne.symm h), flag_raise_self _ _ hi]

theorem State.rd_event_ne (s : State) {a b c : Nat} (i : Nat) (h : a ≠ b) (h' : c ≠ b) :
    (s.event a i c).rd b = s.rd b := by
  unfold event
  rw [rd_count_ne _ h', rd_raise_ne _ _ h]

/-! ### How far the tally, the logs and completions reach -/

/-- No register below `n` differs. -/
structure State.sameBelow (n : Nat) (s t : State) : Prop where
  rd : ∀ a, a < n → t.rd a = s.rd a

theorem State.sameBelow.refl (n : Nat) (s : State) : s.sameBelow n s := ⟨fun _ _ => rfl⟩

theorem State.sameBelow.trans {n : Nat} {s t u : State} (h : s.sameBelow n t) (k : t.sameBelow n u) :
    s.sameBelow n u := ⟨fun a ha => (k.rd a ha).trans (h.rd a ha)⟩

theorem State.sameBelow.wr {n : Nat} {s t : State} (h : s.sameBelow n t) {a : Nat} (ha : n ≤ a) (v : Word) :
    s.sameBelow n (t.wr a v) := ⟨fun b hb => (t.rd_wr_ne v (by omega)).trans (h.rd b hb)⟩

theorem State.sameBelow.foldl {α : Type} {n : Nat} {r : State} {f : State → α → State} {l : List α} {s : State}
    (h : r.sameBelow n s) (hf : ∀ s x, r.sameBelow n s → r.sameBelow n (f s x)) : r.sameBelow n (l.foldl f s) := by
  induction l generalizing s with
  | nil => exact h
  | cons x l ih => exact ih (hf s x h)

theorem tlyC_le (d c o : Nat) : 0x900000 ≤ tlyC d c o := by unfold tlyC; split <;> omega

theorem State.tlyAdd_below (d n fuel c : Nat) (s : State) : s.sameBelow 0x900000 (State.tlyAdd d n fuel c s) := by
  have low : ∀ c o, 0x900000 ≤ tlyC d c o := tlyC_le d
  have hp : ∀ (s t : State) c v, s.sameBelow 0x900000 t → s.sameBelow 0x900000 (t.tlyPut d c v) :=
    fun s t c v h => (h.wr (low ..) _).wr (low ..) _
  induction fuel generalizing n c s with
  | zero => exact State.sameBelow.refl _ _
  | succ k ih =>
    unfold State.tlyAdd
    extract_lets v t
    have ht : s.sameBelow 0x900000 t := hp _ _ _ _ (State.sameBelow.refl _ _)
    split
    · split
      · exact ht
      · exact ht.trans (ih _ _ _)
    · split
      · unfold State.tlySaturate
        split
        · exact State.sameBelow.refl _ _
        · exact ((((hp _ _ _ _ (State.sameBelow.refl _ _)).wr (low ..) _).wr (by unfold tlyA; omega) _).wr
            (by unfold tlyA; omega) _)
      · exact hp _ _ _ _ (State.sameBelow.refl _ _)

/-- The tally block alone changes when events are counted. -/
theorem State.tally_below (s : State) (d ev u n : Nat) : s.sameBelow 0x900000 (s.tally d ev u n) := by
  unfold State.tally
  split
  · refine State.sameBelow.foldl (State.sameBelow.refl _ _) (fun t c h => ?_)
    split
    · exact h.trans (State.tlyAdd_below ..)
    · exact h
  · exact State.sameBelow.refl _ _

theorem State.hmPush_below (s : State) (type : Nat) (supp : Bool) (ring role : Nat) (p : Bytes) :
    s.sameBelow 0xA00000 (s.hmPush type supp ring role p) := by
  unfold State.hmPush
  extract_lets mk gap add q hm t
  split
  · refine State.sameBelow.wr ?_ (by unfold mgtA; omega) _; exact ⟨fun _ _ => rfl⟩
  · refine State.sameBelow.wr (a := mgtA 0x504) ?_ (by unfold mgtA; omega) _; exact ⟨fun _ _ => rfl⟩

theorem State.hmLog_below (s : State) (type : Nat) (i : Option Nat) (ring role : Nat) (p : Bytes) :
    s.sameBelow 0xA00000 (s.hmLog type i ring role p) := by
  unfold State.hmLog
  split
  · exact State.hmPush_below ..
  · split
    · refine State.sameBelow.trans ?_ (State.hmPush_below ..); exact ⟨fun _ _ => rfl⟩
    · split
      · exact ⟨fun _ _ => rfl⟩
      · split
        · refine State.sameBelow.trans ?_ (State.hmPush_below ..); exact ⟨fun _ _ => rfl⟩
        · refine State.sameBelow.trans ?_ (State.hmPush_below ..); exact ⟨fun _ _ => rfl⟩

theorem State.roleAction_below (s : State) (op m r tag : Nat) (st : Status) :
    s.sameBelow 0xA00000 (s.roleAction op m r tag st) :=
  (State.hmLog_below ..).wr (by unfold mgtA; omega) _

theorem State.sameBelow.le {m n : Nat} {s t : State} (h : s.sameBelow n t) (hm : m ≤ n) : s.sameBelow m t :=
  ⟨fun a ha => h.rd a (by omega)⟩

/-! ### Fields -/

theorem State.fld_congr {s t : State} {a : Nat} (h : t.rd a = s.rd a) (hi lo : Nat) : t.fld a hi lo = s.fld a hi lo := by
  unfold State.fld; rw [h]

theorem State.flag_congr {s t : State} {a : Nat} (h : t.rd a = s.rd a) (i : Nat) : t.flag a i = s.flag a i := by
  unfold State.flag; rw [h]

/-- A field beside the one written. -/
theorem State.fld_put_beside (s : State) (a : Nat) {hi lo hi' lo' : Nat} (v : Nat) (h : lo ≤ hi) (h32 : hi < 32)
    (d : hi' < lo ∨ hi < lo') (h' : lo' ≤ hi') : (s.put a hi lo v).fld a hi' lo' = s.fld a hi' lo' := by
  unfold State.fld
  rw [State.rd_put_self, bits_putBits_ne h h32 d h']

/-- A flag beside the field written. -/
theorem State.flag_put_beside (s : State) (a : Nat) {hi lo i : Nat} (v : Nat) (h : lo ≤ hi) (h32 : hi < 32)
    (d : i < lo ∨ hi < i) : (s.put a hi lo v).flag a i = s.flag a i := by
  unfold State.flag
  rw [State.rd_put_self, testBit_putBits h h32, if_neg (by omega)]

/-- A flag inside the field written. -/
theorem State.flag_put_self (s : State) (a : Nat) {hi lo i : Nat} (v : Nat) (h : lo ≤ hi) (h32 : hi < 32)
    (d : lo ≤ i ∧ i ≤ hi) : (s.put a hi lo v).flag a i = v.testBit (i - lo) := by
  unfold State.flag
  rw [State.rd_put_self, testBit_putBits h h32, if_pos d]

/-- A field beside the flag that an event sets. -/
theorem State.fld_event_beside (s : State) {a c i hi lo : Nat} (h : a ≠ c) (h32 : i < 32) (d : hi < i ∨ i < lo)
    (h' : lo ≤ hi) : (s.event a i c).fld a hi lo = s.fld a hi lo := by
  unfold State.event State.raise
  rw [State.fld_congr (State.rd_count_ne _ (Ne.symm h)), State.fld_put_beside _ _ _ (Nat.le_refl i) h32 d h']

/-- A flag beside the one that an event sets. -/
theorem State.flag_event_beside (s : State) {a c i j : Nat} (h : a ≠ c) (h32 : i < 32) (d : i ≠ j) :
    (s.event a i c).flag a j = s.flag a j := by
  unfold State.event
  rw [State.flag_congr (State.rd_count_ne _ (Ne.symm h)), State.flag_raise_ne _ _ h32 d]

theorem State.fld_put_ne (s : State) {a b : Nat} (hi lo v hi' lo' : Nat) (h : a ≠ b) :
    (s.put a hi lo v).fld b hi' lo' = s.fld b hi' lo' := State.fld_congr (State.rd_put_ne _ _ _ _ h) ..

theorem State.flag_put_ne (s : State) {a b : Nat} (hi lo v i : Nat) (h : a ≠ b) :
    (s.put a hi lo v).flag b i = s.flag b i := State.flag_congr (State.rd_put_ne _ _ _ _ h) ..

theorem State.fld_event_ne (s : State) {a c b : Nat} (i hi lo : Nat) (h : a ≠ b) (h' : c ≠ b) :
    (s.event a i c).fld b hi lo = s.fld b hi lo := State.fld_congr (State.rd_event_ne _ _ h h') ..

theorem State.flag_event_ne (s : State) {a c b : Nat} (i j : Nat) (h : a ≠ b) (h' : c ≠ b) :
    (s.event a i c).flag b j = s.flag b j := State.flag_congr (State.rd_event_ne _ _ h h') ..

end Sys2Proof.Machine
end

