-- ==== Sys2Proof/Laws/Frame.lean ====
section
/-!
SUPPORT. What an operation can do to the state, said once: `Frame m s t` says that `t` follows from `s` by
operations that change only the components whose bits are set in `m`, never touch the command queue, keep
every canonical form, never lower the fused security version, and let the system reference run forward.
-/

namespace Sys2Proof.Machine

open Sys2Proof

/-- Bit `i` of a mask. -/
abbrev touches (m i : Nat) : Bool := m.testBit i

/-- Components by bit: 0 latch, 1 lastRead, 2 out, 3 free, 4 clk, 5 doms, 6 eth, 7 hif, 8 cfg, 9 axes, 10 can, 11 saf, 12 slog, 13 flash, 14 fuses, 15 hm, 16 jobs, 17 bank0, 18 bank1, 19 loss, 20 regs, 21 comp.mems, 22 comp.pkgs, 23 comp.lastJob, 24 comp.cores, 25 comp.chans, 26 comp.berths, 27 comp.dirty, 28 comp.kv, 29 comp.kvd, 30 comp.lnks, 31 comp.fab, 32 comp.strm, 33 comp.scrubs, 34 comp.cycNext, 35 comp.tly, 36 comp.lost; 37 lets the system reference go back; from 40 on, one bit for each block of registers (`blk`). -/
structure Frame (m : Nat) (s t : State) : Prop where
  pending : t.pending = s.pending
  count : t.fuses.cdCount = s.fuses.cdCount
  svn : s.fuses.svn ≤ t.fuses.svn
  regsWf : s.regsWf = true → t.regsWf = true
  memsWf : memsWf s.comp.mems = true → memsWf t.comp.mems = true
  ref : touches m 37 = false → s.clk.ref ≤ t.clk.ref
  blk : ∀ a, touches m (40 + blk a) = false → t.rd a = s.rd a
  latch : touches m 0 = false → t.latch = s.latch
  lastRead : touches m 1 = false → t.lastRead = s.lastRead
  out : touches m 2 = false → t.out = s.out
  free : touches m 3 = false → t.free = s.free
  clk : touches m 4 = false → t.clk = s.clk
  doms : touches m 5 = false → t.doms = s.doms
  eth : touches m 6 = false → t.eth = s.eth
  hif : touches m 7 = false → t.hif = s.hif
  cfg : touches m 8 = false → t.cfg = s.cfg
  axes : touches m 9 = false → t.axes = s.axes
  can : touches m 10 = false → t.can = s.can
  saf : touches m 11 = false → t.saf = s.saf
  slog : touches m 12 = false → t.slog = s.slog
  flash : touches m 13 = false → t.flash = s.flash
  fuses : touches m 14 = false → t.fuses = s.fuses
  hm : touches m 15 = false → t.hm = s.hm
  jobs : touches m 16 = false → t.jobs = s.jobs
  bank0 : touches m 17 = false → t.bank0 = s.bank0
  bank1 : touches m 18 = false → t.bank1 = s.bank1
  loss : touches m 19 = false → t.loss = s.loss
  regs : touches m 20 = false → t.regs = s.regs
  mems : touches m 21 = false → t.comp.mems = s.comp.mems
  pkgs : touches m 22 = false → t.comp.pkgs = s.comp.pkgs
  lastJob : touches m 23 = false → t.comp.lastJob = s.comp.lastJob
  cores : touches m 24 = false → t.comp.cores = s.comp.cores
  chans : touches m 25 = false → t.comp.chans = s.comp.chans
  berths : touches m 26 = false → t.comp.berths = s.comp.berths
  dirty : touches m 27 = false → t.comp.dirty = s.comp.dirty
  kv : touches m 28 = false → t.comp.kv = s.comp.kv
  kvd : touches m 29 = false → t.comp.kvd = s.comp.kvd
  lnks : touches m 30 = false → t.comp.lnks = s.comp.lnks
  fab : touches m 31 = false → t.comp.fab = s.comp.fab
  strm : touches m 32 = false → t.comp.strm = s.comp.strm
  scrubs : touches m 33 = false → t.comp.scrubs = s.comp.scrubs
  cycNext : touches m 34 = false → t.comp.cycNext = s.comp.cycNext
  tly : touches m 35 = false → t.comp.tly = s.comp.tly
  lost : touches m 36 = false → t.comp.lost = s.comp.lost

theorem Frame.refl (m : Nat) (s : State) : Frame m s s := by
  constructor <;> intros <;> first | rfl | assumption

theorem Frame.trans {m : Nat} {s t u : State} (h : Frame m s t) (k : Frame m t u) : Frame m s u where
  pending := k.pending.trans h.pending
  count := k.count.trans h.count
  svn := Nat.le_trans h.svn k.svn
  regsWf := fun w => k.regsWf (h.regsWf w)
  memsWf := fun w => k.memsWf (h.memsWf w)
  ref := fun b => Nat.le_trans (h.ref b) (k.ref b)
  blk := fun a b => (k.blk a b).trans (h.blk a b)
  latch := fun b => (k.latch b).trans (h.latch b)
  lastRead := fun b => (k.lastRead b).trans (h.lastRead b)
  out := fun b => (k.out b).trans (h.out b)
  free := fun b => (k.free b).trans (h.free b)
  clk := fun b => (k.clk b).trans (h.clk b)
  doms := fun b => (k.doms b).trans (h.doms b)
  eth := fun b => (k.eth b).trans (h.eth b)
  hif := fun b => (k.hif b).trans (h.hif b)
  cfg := fun b => (k.cfg b).trans (h.cfg b)
  axes := fun b => (k.axes b).trans (h.axes b)
  can := fun b => (k.can b).trans (h.can b)
  saf := fun b => (k.saf b).trans (h.saf b)
  slog := fun b => (k.slog b).trans (h.slog b)
  flash := fun b => (k.flash b).trans (h.flash b)
  fuses := fun b => (k.fuses b).trans (h.fuses b)
  hm := fun b => (k.hm b).trans (h.hm b)
  jobs := fun b => (k.jobs b).trans (h.jobs b)
  bank0 := fun b => (k.bank0 b).trans (h.bank0 b)
  bank1 := fun b => (k.bank1 b).trans (h.bank1 b)
  loss := fun b => (k.loss b).trans (h.loss b)
  regs := fun b => (k.regs b).trans (h.regs b)
  mems := fun b => (k.mems b).trans (h.mems b)
  pkgs := fun b => (k.pkgs b).trans (h.pkgs b)
  lastJob := fun b => (k.lastJob b).trans (h.lastJob b)
  cores := fun b => (k.cores b).trans (h.cores b)
  chans := fun b => (k.chans b).trans (h.chans b)
  berths := fun b => (k.berths b).trans (h.berths b)
  dirty := fun b => (k.dirty b).trans (h.dirty b)
  kv := fun b => (k.kv b).trans (h.kv b)
  kvd := fun b => (k.kvd b).trans (h.kvd b)
  lnks := fun b => (k.lnks b).trans (h.lnks b)
  fab := fun b => (k.fab b).trans (h.fab b)
  strm := fun b => (k.strm b).trans (h.strm b)
  scrubs := fun b => (k.scrubs b).trans (h.scrubs b)
  cycNext := fun b => (k.cycNext b).trans (h.cycNext b)
  tly := fun b => (k.tly b).trans (h.tly b)
  lost := fun b => (k.lost b).trans (h.lost b)

theorem touches_mono {n m i : Nat} (h : n &&& m = n) (b : touches m i = false) : touches n i = false := by
  unfold touches at *
  rw [← h, Nat.testBit_and, b, Bool.and_false]

theorem Frame.mono {n m : Nat} {s t : State} (h : Frame n s t) (hm : n &&& m = n) : Frame m s t where
  pending := h.pending
  count := h.count
  svn := h.svn
  regsWf := h.regsWf
  memsWf := h.memsWf
  ref := fun b => h.ref (touches_mono hm b)
  blk := fun a b => h.blk a (touches_mono hm b)
  latch := fun b => h.latch (touches_mono hm b)
  lastRead := fun b => h.lastRead (touches_mono hm b)
  out := fun b => h.out (touches_mono hm b)
  free := fun b => h.free (touches_mono hm b)
  clk := fun b => h.clk (touches_mono hm b)
  doms := fun b => h.doms (touches_mono hm b)
  eth := fun b => h.eth (touches_mono hm b)
  hif := fun b => h.hif (touches_mono hm b)
  cfg := fun b => h.cfg (touches_mono hm b)
  axes := fun b => h.axes (touches_mono hm b)
  can := fun b => h.can (touches_mono hm b)
  saf := fun b => h.saf (touches_mono hm b)
  slog := fun b => h.slog (touches_mono hm b)
  flash := fun b => h.flash (touches_mono hm b)
  fuses := fun b => h.fuses (touches_mono hm b)
  hm := fun b => h.hm (touches_mono hm b)
  jobs := fun b => h.jobs (touches_mono hm b)
  bank0 := fun b => h.bank0 (touches_mono hm b)
  bank1 := fun b => h.bank1 (touches_mono hm b)
  loss := fun b => h.loss (touches_mono hm b)
  regs := fun b => h.regs (touches_mono hm b)
  mems := fun b => h.mems (touches_mono hm b)
  pkgs := fun b => h.pkgs (touches_mono hm b)
  lastJob := fun b => h.lastJob (touches_mono hm b)
  cores := fun b => h.cores (touches_mono hm b)
  chans := fun b => h.chans (touches_mono hm b)
  berths := fun b => h.berths (touches_mono hm b)
  dirty := fun b => h.dirty (touches_mono hm b)
  kv := fun b => h.kv (touches_mono hm b)
  kvd := fun b => h.kvd (touches_mono hm b)
  lnks := fun b => h.lnks (touches_mono hm b)
  fab := fun b => h.fab (touches_mono hm b)
  strm := fun b => h.strm (touches_mono hm b)
  scrubs := fun b => h.scrubs (touches_mono hm b)
  cycNext := fun b => h.cycNext (touches_mono hm b)
  tly := fun b => h.tly (touches_mono hm b)
  lost := fun b => h.lost (touches_mono hm b)

theorem mask_trans {a b m : Nat} (h : a &&& b = a) (k : b &&& m = b) : a &&& m = a := by
  rw [← h, Nat.and_assoc, k]

/-- One more operation. -/
theorem Frame.step {n m : Nat} {r s t : State} (h : Frame m r s) (k : Frame n s t) (hm : n &&& m = n) : Frame m r t :=
  h.trans (k.mono hm)

theorem Frame.foldl {α : Type} {m : Nat} {r : State} {f : State → α → State} {l : List α} {s : State}
    (h : Frame m r s) (hf : ∀ s x, Frame m r s → Frame m r (f s x)) : Frame m r (l.foldl f s) := by
  induction l generalizing s with
  | nil => exact h
  | cons x l ih => exact ih (hf s x h)

/-- The first component of a fold over pairs. -/
theorem Frame.foldl_fst {α β : Type} {m : Nat} {r : State} {f : State × β → α → State × β} {l : List α}
    {p : State × β} (h : Frame m r p.1) (hf : ∀ p x, Frame m r p.1 → Frame m r (f p x).1) :
    Frame m r (l.foldl f p).1 := by
  induction l generalizing p with
  | nil => exact h
  | cons x l ih => exact ih (hf p x h)

theorem Frame.ite {m : Nat} {r s t : State} {c : Prop} [Decidable c] (h : c → Frame m r s) (k : ¬c → Frame m r t) :
    Frame m r (if c then s else t) := by
  split
  · exact h ‹_›
  · exact k ‹_›

/-- A record update that leaves the registers, the fuses and the die memories alone. -/
theorem Frame.upd {m : Nat} {r s : State} (h : Frame m r s) {v_latch v_lastRead v_out v_free v_clk v_doms v_eth v_hif v_cfg v_axes v_can v_saf v_slog v_flash v_hm v_jobs v_bank0 v_bank1 v_loss v_comp}
    (h_ref : s.clk.ref ≤ v_clk.ref ∨ touches m 37 = true) (h_mems : v_comp.mems = s.comp.mems)
    (h_latch : v_latch = s.latch ∨ touches m 0 = true)
    (h_lastRead : v_lastRead = s.lastRead ∨ touches m 1 = true)
    (h_out : v_out = s.out ∨ touches m 2 = true)
    (h_free : v_free = s.free ∨ touches m 3 = true)
    (h_clk : v_clk = s.clk ∨ touches m 4 = true)
    (h_doms : v_doms = s.doms ∨ touches m 5 = true)
    (h_eth : v_eth = s.eth ∨ touches m 6 = true)
    (h_hif : v_hif = s.hif ∨ touches m 7 = true)
    (h_cfg : v_cfg = s.cfg ∨ touches m 8 = true)
    (h_axes : v_axes = s.axes ∨ touches m 9 = true)
    (h_can : v_can = s.can ∨ touches m 10 = true)
    (h_saf : v_saf = s.saf ∨ touches m 11 = true)
    (h_slog : v_slog = s.slog ∨ touches m 12 = true)
    (h_flash : v_flash = s.flash ∨ touches m 13 = true)
    (h_hm : v_hm = s.hm ∨ touches m 15 = true)
    (h_jobs : v_jobs = s.jobs ∨ touches m 16 = true)
    (h_bank0 : v_bank0 = s.bank0 ∨ touches m 17 = true)
    (h_bank1 : v_bank1 = s.bank1 ∨ touches m 18 = true)
    (h_loss : v_loss = s.loss ∨ touches m 19 = true)
    (h_cpkgs : v_comp.pkgs = s.comp.pkgs ∨ touches m 22 = true)
    (h_clastJob : v_comp.lastJob = s.comp.lastJob ∨ touches m 23 = true)
    (h_ccores : v_comp.cores = s.comp.cores ∨ touches m 24 = true)
    (h_cchans : v_comp.chans = s.comp.chans ∨ touches m 25 = true)
    (h_cberths : v_comp.berths = s.comp.berths ∨ touches m 26 = true)
    (h_cdirty : v_comp.dirty = s.comp.dirty ∨ touches m 27 = true)
    (h_ckv : v_comp.kv = s.comp.kv ∨ touches m 28 = true)
    (h_ckvd : v_comp.kvd = s.comp.kvd ∨ touches m 29 = true)
    (h_clnks : v_comp.lnks = s.comp.lnks ∨ touches m 30 = true)
    (h_cfab : v_comp.fab = s.comp.fab ∨ touches m 31 = true)
    (h_cstrm : v_comp.strm = s.comp.strm ∨ touches m 32 = true)
    (h_cscrubs : v_comp.scrubs = s.comp.scrubs ∨ touches m 33 = true)
    (h_ccycNext : v_comp.cycNext = s.comp.cycNext ∨ touches m 34 = true)
    (h_ctly : v_comp.tly = s.comp.tly ∨ touches m 35 = true)
    (h_clost : v_comp.lost = s.comp.lost ∨ touches m 36 = true) :
    Frame m r (State.mk s.pending s.regs v_latch v_lastRead v_out v_free v_clk v_doms v_eth v_hif v_cfg v_axes v_can v_saf v_slog v_flash s.fuses v_hm v_jobs v_bank0 v_bank1 v_loss v_comp) := by
  refine h.trans ?_
  constructor
  case ref => intro b; rcases h_ref with h | h; exact h; rw [h] at b; cases b
  case latch => intro b; rcases h_latch with h | h; exact h; rw [h] at b; cases b
  case lastRead => intro b; rcases h_lastRead with h | h; exact h; rw [h] at b; cases b
  case out => intro b; rcases h_out with h | h; exact h; rw [h] at b; cases b
  case free => intro b; rcases h_free with h | h; exact h; rw [h] at b; cases b
  case clk => intro b; rcases h_clk with h | h; exact h; rw [h] at b; cases b
  case doms => intro b; rcases h_doms with h | h; exact h; rw [h] at b; cases b
  case eth => intro b; rcases h_eth with h | h; exact h; rw [h] at b; cases b
  case hif => intro b; rcases h_hif with h | h; exact h; rw [h] at b; cases b
  case cfg => intro b; rcases h_cfg with h | h; exact h; rw [h] at b; cases b
  case axes => intro b; rcases h_axes with h | h; exact h; rw [h] at b; cases b
  case can => intro b; rcases h_can with h | h; exact h; rw [h] at b; cases b
  case saf => intro b; rcases h_saf with h | h; exact h; rw [h] at b; cases b
  case slog => intro b; rcases h_slog with h | h; exact h; rw [h] at b; cases b
  case flash => intro b; rcases h_flash with h | h; exact h; rw [h] at b; cases b
  case hm => intro b; rcases h_hm with h | h; exact h; rw [h] at b; cases b
  case jobs => intro b; rcases h_jobs with h | h; exact h; rw [h] at b; cases b
  case bank0 => intro b; rcases h_bank0 with h | h; exact h; rw [h] at b; cases b
  case bank1 => intro b; rcases h_bank1 with h | h; exact h; rw [h] at b; cases b
  case loss => intro b; rcases h_loss with h | h; exact h; rw [h] at b; cases b
  case pkgs => intro b; rcases h_cpkgs with h | h; exact h; rw [h] at b; cases b
  case lastJob => intro b; rcases h_clastJob with h | h; exact h; rw [h] at b; cases b
  case cores => intro b; rcases h_ccores with h | h; exact h; rw [h] at b; cases b
  case chans => intro b; rcases h_cchans with h | h; exact h; rw [h] at b; cases b
  case berths => intro b; rcases h_cberths with h | h; exact h; rw [h] at b; cases b
  case dirty => intro b; rcases h_cdirty with h | h; exact h; rw [h] at b; cases b
  case kv => intro b; rcases h_ckv with h | h; exact h; rw [h] at b; cases b
  case kvd => intro b; rcases h_ckvd with h | h; exact h; rw [h] at b; cases b
  case lnks => intro b; rcases h_clnks with h | h; exact h; rw [h] at b; cases b
  case fab => intro b; rcases h_cfab with h | h; exact h; rw [h] at b; cases b
  case strm => intro b; rcases h_cstrm with h | h; exact h; rw [h] at b; cases b
  case scrubs => intro b; rcases h_cscrubs with h | h; exact h; rw [h] at b; cases b
  case cycNext => intro b; rcases h_ccycNext with h | h; exact h; rw [h] at b; cases b
  case tly => intro b; rcases h_ctly with h | h; exact h; rw [h] at b; cases b
  case lost => intro b; rcases h_clost with h | h; exact h; rw [h] at b; cases b
  case memsWf => intro w; show Machine.memsWf v_comp.mems = true; rw [h_mems]; exact w
  all_goals first | (intro; rfl) | (intros; rfl) | exact id | (intro; assumption)

/-! ### Operations that answer a state with something else, or none -/

/-- Every state that `e` answers, read by `get`, follows from `r`. -/
structure Fr {T : Type} (get : T → Option State) (m : Nat) (r : State) (e : T) : Prop where
  of : ∀ t, get e = some t → Frame m r t

/-- The state of a pair. -/
def getP {β : Type} (p : State × β) : Option State := some p.1
/-- The state of a pair, second. -/
def getP2 {β : Type} (p : β × State) : Option State := some p.2
/-- The state if any. -/
def getO (o : Option State) : Option State := o
/-- The state of a pair if any. -/
def getOP {β : Type} (o : Option (State × β)) : Option State := o.map Prod.fst
/-- The state of a pair unless there is an error. -/
def getE {ε β : Type} (o : Except ε (State × β)) : Option State :=
  match o with
  | .ok p => some p.1
  | .error _ => none
/-- The next state of an outcome. -/
def getN {φ ρ : Type} (o : Host.Outcome State φ ρ) : Option State :=
  match o with
  | .next t => some t
  | .fault _ => none
  | .refused _ => none

theorem Fr.step {T : Type} {get : T → Option State} {n m : Nat} {r s : State} {e : T} (h : Frame m r s)
    (k : Fr get n s e) (hm : n &&& m = n) : Fr get m r e := ⟨fun t ht => h.step (k.of t ht) hm⟩

theorem Fr.ite {T : Type} {get : T → Option State} {m : Nat} {r : State} {a b : T} {c : Prop} [Decidable c]
    (h : c → Fr get m r a) (k : ¬c → Fr get m r b) : Fr get m r (if c then a else b) := by
  split
  · exact h ‹_›
  · exact k ‹_›

theorem Fr.pair {β : Type} {m : Nat} {r s : State} {b : β} (h : Frame m r s) : Fr getP m r (s, b) :=
  ⟨fun t ht => by cases ht; exact h⟩
theorem Fr.pair2 {β : Type} {m : Nat} {r s : State} {b : β} (h : Frame m r s) : Fr getP2 m r (b, s) :=
  ⟨fun t ht => by cases ht; exact h⟩
theorem Fr.fst {β : Type} {m : Nat} {r : State} {p : State × β} (h : Fr getP m r p) : Frame m r p.1 := h.of _ rfl
theorem Fr.snd {β : Type} {m : Nat} {r : State} {p : β × State} (h : Fr getP2 m r p) : Frame m r p.2 := h.of _ rfl
theorem Fr.some {m : Nat} {r s : State} (h : Frame m r s) : Fr getO m r (.some s) :=
  ⟨fun t ht => by cases ht; exact h⟩
theorem Fr.none {m : Nat} {r : State} : Fr getO m r .none := ⟨fun t ht => by cases ht⟩
theorem Fr.somePair {β : Type} {m : Nat} {r s : State} {b : β} (h : Frame m r s) : Fr getOP m r (.some (s, b)) :=
  ⟨fun t ht => by cases ht; exact h⟩
theorem Fr.nonePair {β : Type} {m : Nat} {r : State} : Fr getOP m r (.none : Option (State × β)) := ⟨fun t ht => by cases ht⟩
theorem Fr.ok {ε β : Type} {m : Nat} {r s : State} {b : β} (h : Frame m r s) :
    Fr getE m r (.ok (s, b) : Except ε (State × β)) := ⟨fun t ht => by cases ht; exact h⟩
theorem Fr.err {ε β : Type} {m : Nat} {r : State} {x : ε} : Fr getE m r (.error x : Except ε (State × β)) :=
  ⟨fun t ht => by cases ht⟩
theorem Fr.next {φ ρ : Type} {m : Nat} {r s : State} (h : Frame m r s) :
    Fr getN m r (.next s : Host.Outcome State φ ρ) := ⟨fun t ht => by cases ht; exact h⟩
theorem Fr.fault {φ ρ : Type} {m : Nat} {r : State} {x : φ} :
    Fr getN m r (.fault x : Host.Outcome State φ ρ) := ⟨fun t ht => by cases ht⟩
theorem Fr.refused {φ ρ : Type} {m : Nat} {r : State} {x : ρ} :
    Fr getN m r (.refused x : Host.Outcome State φ ρ) := ⟨fun t ht => by cases ht⟩
theorem Fr.guard {c : Bool} {m : Nat} {r s : State} (h : Frame m r s) : Fr getN m r (guardI c s) := by
  unfold guardI
  split
  · exact Fr.next h
  · exact Fr.fault
theorem Fr.ofPair {β : Type} {m : Nat} {r s : State} {b : β} {p : State × β} (e : p = (s, b)) (h : Fr getP m r p) :
    Frame m r s := h.of _ (by rw [e]; rfl)
theorem Fr.ofPair2 {β : Type} {m : Nat} {r s : State} {b : β} {p : β × State} (e : p = (b, s)) (h : Fr getP2 m r p) :
    Frame m r s := h.of _ (by rw [e]; rfl)
theorem Fr.ofSome {m : Nat} {r s : State} {p : Option State} (e : p = Option.some s) (h : Fr getO m r p) :
    Frame m r s := h.of _ (by rw [e]; rfl)
theorem Fr.ofSomePair {β : Type} {m : Nat} {r s : State} {b : β} {p : Option (State × β)} (e : p = Option.some (s, b))
    (h : Fr getOP m r p) : Frame m r s := h.of _ (by rw [e]; rfl)
theorem Fr.ofOk {ε β : Type} {m : Nat} {r s : State} {b : β} {p : Except ε (State × β)} (e : p = Except.ok (s, b))
    (h : Fr getE m r p) : Frame m r s := h.of _ (by rw [e]; rfl)
theorem Fr.foldlPair {α β : Type} {m : Nat} {r : State} {f : State × β → α → State × β} {l : List α}
    {p : State × β} (h : Fr getP m r p) (hf : ∀ p x, Fr getP m r p → Fr getP m r (f p x)) :
    Fr getP m r (l.foldl f p) := by
  induction l generalizing p with
  | nil => exact h
  | cons x l ih => exact ih (hf p x h)
theorem Fr.foldlSome {α : Type} {m : Nat} {r : State} {f : Option State → α → Option State} {l : List α}
    {p : Option State} (h : Fr getO m r p) (hf : ∀ p x, Fr getO m r p → Fr getO m r (f p x)) :
    Fr getO m r (l.foldl f p) := by
  induction l generalizing p with
  | nil => exact h
  | cons x l ih => exact ih (hf p x h)
theorem Fr.map {α : Type} {m : Nat} {r : State} {f : α → State} {o : Option α} (h : ∀ x, Frame m r (f x)) :
    Fr getO m r (o.map f) := by
  cases o
  · exact Fr.none
  · exact Fr.some (h _)
theorem Fr.getD {m : Nat} {r d : State} {o : Option State} (h : Fr getO m r o) (k : Frame m r d) :
    Frame m r (o.getD d) := by
  cases o
  · exact k
  · exact h.of _ rfl

/-! ### The writers -/

theorem tb {m a : Nat} (k : Nat) (h1 : k * 0x100000 ≤ a) (h2 : a < (k + 1) * 0x100000) (hk : k < 16)
    (h : touches m (40 + k) = true) : touches m (40 + blk a) = true := by
  have : blk a = k := by unfold blk; rw [if_pos (by omega)]; omega
  rw [this]; exact h

theorem tbDie {m a : Nat} (h1 : 0x1000000 ≤ a) (h2 : a < 0x10000000) (h : touches m 56 = true) :
    touches m (40 + blk a) = true := by
  have : blk a = 16 := by unfold blk; rw [if_neg (by omega), if_pos h2]
  rw [this]; exact h

theorem tbMbx {m a : Nat} (h1 : 0x10000000 ≤ a) (h : touches m 57 = true) : touches m (40 + blk a) = true := by
  have : blk a = 17 := by unfold blk; rw [if_neg (by omega), if_neg (by omega)]
  rw [this]; exact h

theorem tbAll {m : Nat} (a : Nat) (h : 0x3ffff0000000000 &&& m = 0x3ffff0000000000) : touches m (40 + blk a) = true := by
  have hb : blk a < 18 := by
    unfold blk
    split
    · omega
    · split <;> omega
  have e : touches 0x3ffff0000000000 (40 + blk a) = true := by
    generalize blk a = k at hb
    revert hb
    revert k
    decide
  unfold touches at *
  rw [← h, Nat.testBit_and] at e
  simp only [Bool.and_eq_true] at e
  exact e.2

theorem tb_glbA {m o : Nat} (h : touches m 40 = true) : touches m (40 + blk (glbA o)) = true :=
  tb 0 (by unfold glbA; omega) (by unfold glbA; omega) (by omega) h
theorem tb_timA {m o : Nat} (h : touches m 42 = true) : touches m (40 + blk (timA o)) = true :=
  tb 2 (by unfold timA; omega) (by unfold timA; omega) (by omega) h
theorem tb_domA {m d o : Nat} (h : touches m 42 = true) : touches m (40 + blk (domA d o)) = true :=
  tb 2 (by unfold domA; omega) (by unfold domA; omega) (by omega) h
theorem tb_ingA {m st o : Nat} (h : touches m 43 = true) : touches m (40 + blk (ingA st o)) = true :=
  tb 3 (by unfold ingA; omega) (by unfold ingA; omega) (by omega) h
theorem tb_ingW {m o : Nat} (h : touches m 43 = true) : touches m (40 + blk (ingW o)) = true :=
  tb 3 (by unfold ingW; omega) (by unfold ingW; omega) (by omega) h
theorem tb_ctlA {m a o : Nat} (h : touches m 44 = true) : touches m (40 + blk (ctlA a o)) = true :=
  tb 4 (by unfold ctlA; omega) (by unfold ctlA; omega) (by omega) h
theorem tb_canA {m c o : Nat} (h : touches m 45 = true) : touches m (40 + blk (canA c o)) = true :=
  tb 5 (by unfold canA; omega) (by unfold canA; omega) (by omega) h
theorem tb_ethA {m p o : Nat} (h : touches m 46 = true) : touches m (40 + blk (ethA p o)) = true :=
  tb 6 (by unfold ethA; omega) (by unfold ethA; omega) (by omega) h
theorem tb_lnkA {m k o : Nat} (h : touches m 47 = true) : touches m (40 + blk (lnkA k o)) = true :=
  tb 7 (by unfold lnkA; omega) (by unfold lnkA; omega) (by omega) h
theorem tb_fabA {m o : Nat} (h : touches m 47 = true) : touches m (40 + blk (fabA o)) = true :=
  tb 7 (by unfold fabA; omega) (by unfold fabA; omega) (by omega) h
theorem tb_safA {m o : Nat} (h : touches m 48 = true) : touches m (40 + blk (safA o)) = true :=
  tb 8 (by unfold safA; omega) (by unfold safA; omega) (by omega) h
theorem tb_ssoA {m g o : Nat} (h : touches m 48 = true) : touches m (40 + blk (ssoA g o)) = true :=
  tb 8 (by unfold ssoA; omega) (by unfold ssoA; omega) (by omega) h
theorem tb_safSt {m st o : Nat} (h : touches m 48 = true) : touches m (40 + blk (safSt st o)) = true :=
  tb 8 (by unfold safSt; omega) (by unfold safSt; omega) (by omega) h
theorem tb_hifA {m o : Nat} (h : touches m 41 = true) : touches m (40 + blk (hifA o)) = true :=
  tb 1 (by unfold hifA; omega) (by unfold hifA; omega) (by omega) h
theorem tb_ringA {m r o : Nat} (h : touches m 41 = true) : touches m (40 + blk (ringA r o)) = true :=
  tb 1 (by unfold ringA; omega) (by unfold ringA; omega) (by omega) h
theorem tb_tlyA {m o : Nat} (h : touches m 49 = true) : touches m (40 + blk (tlyA o)) = true :=
  tb 9 (by unfold tlyA; omega) (by unfold tlyA; omega) (by omega) h
theorem tb_tlyC {m d c o : Nat} (h : touches m 49 = true) : touches m (40 + blk (tlyC d c o)) = true :=
  tb 9 (by unfold tlyC; omega) (by unfold tlyC; omega) (by omega) h
theorem tb_mgtA {m o : Nat} (h : touches m 50 = true) : touches m (40 + blk (mgtA o)) = true :=
  tb 10 (by unfold mgtA; omega) (by unfold mgtA; omega) (by omega) h
theorem tb_mbxA {m o : Nat} (h : touches m 57 = true) : touches m (40 + blk (mbxA o)) = true :=
  tbMbx (by unfold mbxA; omega) h
theorem tb_mcA {m d k o : Nat} (h : touches m 56 = true) : touches m (40 + blk (mcA d k o)) = true :=
  tbDie (by unfold mcA; omega) (by unfold mcA; omega) h
theorem tb_bthA {m d o : Nat} (h : touches m 56 = true) : touches m (40 + blk (bthA d o)) = true :=
  tbDie (by unfold bthA; omega) (by unfold bthA; omega) h
theorem tb_berthA {m d b o : Nat} (h : touches m 56 = true) : touches m (40 + blk (berthA d b o)) = true :=
  tbDie (by unfold berthA; omega) (by unfold berthA; omega) h
theorem tb_eccA {m d o : Nat} (h : touches m 56 = true) : touches m (40 + blk (eccA d o)) = true :=
  tbDie (by unfold eccA; omega) (by unfold eccA; omega) h
theorem tb_kvA {m d o : Nat} (h : touches m 56 = true) : touches m (40 + blk (kvA d o)) = true :=
  tbDie (by unfold kvA; omega) (by unfold kvA; omega) h

theorem State.wr_frame {m : Nat} (h : touches m 20 = true) {a : Nat} (hb : touches m (40 + blk a) = true)
    (s : State) (v : Word) : Frame m s (s.wr a v) := by
  constructor
  case regsWf => intro w; exact twfFrom_tset a v w
  case regs => intro b; rw [h] at b; cases b
  case blk =>
    intro c hc
    refine s.rd_wr_ne v (fun e => ?_)
    subst e
    rw [hb] at hc
    cases hc
  all_goals intros; first | rfl | assumption

theorem State.put_frame {m : Nat} (h : touches m 20 = true) {a : Nat} (hb : touches m (40 + blk a) = true)
    (s : State) (hi lo v : Nat) : Frame m s (s.put a hi lo v) := State.wr_frame h hb ..
theorem State.raise_frame {m : Nat} (h : touches m 20 = true) {a : Nat} (hb : touches m (40 + blk a) = true)
    (s : State) (i : Nat) : Frame m s (s.raise a i) := State.wr_frame h hb ..
theorem State.countN_frame {m : Nat} (h : touches m 20 = true) {a : Nat} (hb : touches m (40 + blk a) = true)
    (s : State) (n : Nat) : Frame m s (s.countN a n) := State.wr_frame h hb ..
theorem State.count_frame {m : Nat} (h : touches m 20 = true) {a : Nat} (hb : touches m (40 + blk a) = true)
    (s : State) : Frame m s (s.count a) := State.wr_frame h hb ..
theorem State.count8_frame {m : Nat} (h : touches m 20 = true) {a : Nat} (hb : touches m (40 + blk a) = true)
    (s : State) (lo : Nat) : Frame m s (s.count8 a lo) := State.wr_frame h hb ..
theorem State.event_frame {m : Nat} (h : touches m 20 = true) {a c : Nat} (hb : touches m (40 + blk a) = true)
    (hc : touches m (40 + blk c) = true) (s : State) (i : Nat) : Frame m s (s.event a i c) :=
  Frame.trans (State.raise_frame h hb ..) (State.count_frame h hc ..)
theorem State.wr64_frame {m : Nat} (h : touches m 20 = true) {a : Nat} (hb : touches m (40 + blk a) = true)
    (hc : touches m (40 + blk (a + 4)) = true) (s : State) (v : Nat) : Frame m s (s.wr64 a v) :=
  Frame.trans (State.wr_frame h hb ..) (State.wr_frame h hc ..)

theorem memsWf_set {l : Tbl (Tbl Byte)} {d : Nat} {m : Tbl Byte} (w : memsWf l = true) (h : twf 0 m = true) :
    memsWf (tset [] l d m) = true := by
  simp only [memsWf, Bool.and_eq_true, List.all_eq_true] at w ⊢
  refine ⟨twf_tset d m w.1, fun e he => ?_⟩
  rcases mem_tset he with h' | h'
  · rw [h']; exact h
  · exact w.2 e h'

theorem memsWf_get {l : Tbl (Tbl Byte)} (w : memsWf l = true) (d : Nat) : twf 0 (tget [] l d) = true := by
  simp only [memsWf, Bool.and_eq_true, List.all_eq_true] at w
  have h := w.2
  clear w
  induction l with
  | nil => rfl
  | cons e l ih =>
    obtain ⟨i, v⟩ := e
    unfold tget
    split
    · exact h (i, v) (by simp)
    · exact ih (fun e he => h e (by simp [he]))

/-- A die's memory is replaced by one that keeps the canonical form. -/
theorem State.setMem_frame (s : State) (d : Nat) (f : Tbl Byte → Tbl Byte) (h : ∀ m, twf 0 m = true → twf 0 (f m) = true) :
    Frame 0x200000 s (s.setMem d (f (s.mem d))) := by
  constructor
  case memsWf => intro w; exact memsWf_set w (h _ (memsWf_get w d))
  case mems => intro b; cases b
  all_goals intros; first | rfl | assumption

theorem memPut_wf (a : Nat) (b : Bytes) : ∀ m, twf 0 m = true → twf 0 (memPut a b m) = true := by
  induction b generalizing a with
  | nil => intro m w; exact w
  | cons x b ih => intro m w; exact ih (a + 1) _ (twf_tset a x w)

theorem memZero_wf (a n : Nat) : ∀ m, twf 0 m = true → twf 0 (memZero a n m) = true :=
  fun _ w => twf_filter _ w

theorem State.wrBytes_frame (s : State) (d a : Nat) (b : Bytes) : Frame 0x200000 s (s.wrBytes d a b) :=
  s.setMem_frame d (memPut a b) (memPut_wf a b)

theorem State.zeroRegion_frame (s : State) (r : Region) : Frame 0x200000 s (s.zeroRegion r) :=
  s.setMem_frame r.die (memZero r.base r.size) (memZero_wf r.base r.size)

theorem State.zeroSram_frame (s : State) (d : Nat) : Frame 0x200000 s (s.zeroSram d) :=
  s.setMem_frame d (fun m => m.filter (fun e => decide (e.1 < dramTop))) (fun _ w => twf_filter _ w)

end Sys2Proof.Machine
end

