-- ==== Sys2Proof/Laws/FrameOps.lean ====
section
/-!
SUPPORT. Frame laws of Machine/Ops.lean: which components each of its operations may change.
-/

namespace Sys2Proof.Machine

open Sys2Proof

theorem guardI_frame (a1 : Bool) (a2 : State) :
    Fr getN 0x0 a2 (guardI a1 a2) := by
  unfold guardI
  refine Fr.ite (fun h1 => ?_) (fun h1 => ?_)
  · refine Fr.next ?_
    exact Frame.refl _ _
  · exact Fr.fault

theorem State.slogPush_frame (a1 : State) (a2 : LogRec) :
    Frame 0x10000101000 a1 (State.slogPush a1 a2) := by
  unfold State.slogPush
  extract_lets v1 v2 v3
  have h4 : Frame 0x10000101000 a1 v3 := by
    unfold v3
    apply Frame.upd
    · exact Frame.refl _ _
    all_goals first | exact Or.inr rfl | exact Or.inl rfl | exact Or.inl (Nat.le_refl _) | rfl
  clear_value v3
  refine Frame.trans ?_ (State.wr64_frame rfl rfl rfl ..)
  assumption

theorem State.slogAdd_frame (a1 : State) (a2 : Nat) (a3 : Nat) (a4 : Nat) (a5 : Nat) (a6 : Nat) (a7 : Bytes) :
    Frame 0x10000101000 a1 (State.slogAdd a1 a2 a3 a4 a5 a6 a7) := by
  unfold State.slogAdd
  refine Frame.ite (fun h1 => ?_) (fun h1 => ?_)
  · extract_lets v2 v3 v4 v5 v6 v7 v8
    have h9 : Frame 0x10000101000 a1 v7 := by
      unfold v7
      apply Frame.upd
      · exact Frame.refl _ _
      all_goals first | exact Or.inr rfl | exact Or.inl rfl | exact Or.inl (Nat.le_refl _) | rfl
    clear_value v7
    refine Frame.ite (fun h10 => ?_) (fun h10 => ?_)
    · refine Frame.step ?_ (State.slogPush_frame ..) rfl
      refine Frame.ite (fun h11 => ?_) (fun h11 => ?_)
      · refine Frame.trans ?_ (State.event_frame rfl rfl rfl ..)
        assumption
      · assumption
    · refine Frame.ite (fun h12 => ?_) (fun h12 => ?_)
      · refine Frame.ite (fun h13 => ?_) (fun h13 => ?_)
        · apply Frame.upd
          · exact Frame.refl _ _
          all_goals first | exact Or.inr rfl | exact Or.inl rfl | exact Or.inl (Nat.le_refl _) | rfl
        · refine Frame.step ?_ (State.slogPush_frame ..) rfl
          exact Frame.refl _ _
      · refine Frame.ite (fun h14 => ?_) (fun h14 => ?_)
        · refine Frame.trans ?_ (State.put_frame rfl rfl ..)
          refine Frame.trans ?_ (State.put_frame rfl rfl ..)
          refine Frame.step ?_ (State.slogPush_frame ..) rfl
          exact Frame.refl _ _
        · apply Frame.upd
          · exact Frame.refl _ _
          all_goals first | exact Or.inr rfl | exact Or.inl rfl | exact Or.inl (Nat.le_refl _) | rfl
  · exact Frame.refl _ _

theorem State.slogNow_frame (a1 : State) (a2 : Nat) (a3 : Nat) (a4 : Bytes) :
    Frame 0x10000101000 a1 (State.slogNow a1 a2 a3 a4) := by
  unfold State.slogNow
  refine Frame.step ?_ (State.slogAdd_frame ..) rfl
  exact Frame.refl _ _

theorem State.logSubmit_frame (a1 : State) (a2 : Nat) (a3 : Bytes) :
    Frame 0x10000101000 a1 (State.logSubmit a1 a2 a3) := by
  unfold State.logSubmit
  refine Frame.foldl ?_ (fun u1 x2 h3 => ?_)
  · exact Frame.refl _ _
  · refine Frame.step ?_ (State.slogNow_frame ..) rfl
    assumption

theorem State.logDesc_frame (a1 : State) (a2 : Nat) (a3 : Inflight) (a4 : Nat) (a5 : Nat) (a6 : Bytes) (a7 : Bytes) :
    Frame 0x10000101000 a1 (State.logDesc a1 a2 a3 a4 a5 a6 a7) := by
  unfold State.logDesc
  refine Frame.step ?_ (State.logSubmit_frame ..) rfl
  exact Frame.refl _ _

theorem State.setRing_frame (a1 : State) (a2 : Nat) (a3 : Ring) :
    Frame 0x80 a1 (State.setRing a1 a2 a3) := by
  unfold State.setRing
  apply Frame.upd
  · exact Frame.refl _ _
  all_goals first | exact Or.inr rfl | exact Or.inl rfl | exact Or.inl (Nat.le_refl _) | rfl

theorem State.begin_frame (a1 : State) (a2 : Nat) (a3 : Nat) :
    Frame 0x80 a1 (State.begin a1 a2 a3) := by
  unfold State.begin
  refine Frame.step ?_ (State.setRing_frame ..) rfl
  exact Frame.refl _ _

theorem State.emitHost_frame (a1 : State) (a2 : Out) :
    Frame 0x20000100004 a1 (State.emitHost a1 a2) := by
  unfold State.emitHost
  refine Frame.ite (fun h1 => ?_) (fun h1 => ?_)
  · apply Frame.upd
    · exact Frame.refl _ _
    all_goals first | exact Or.inr rfl | exact Or.inl rfl | exact Or.inl (Nat.le_refl _) | rfl
  · refine Frame.trans ?_ (State.event_frame rfl (tb_hifA rfl) (tb_hifA rfl) ..)
    exact Frame.refl _ _

theorem State.tlyPut_frame (a1 : State) (a2 : Nat) (a3 : Nat) (a4 : Nat) :
    Frame 0x2000000100000 a1 (State.tlyPut a1 a2 a3 a4) := by
  unfold State.tlyPut
  refine Frame.trans ?_ (State.put_frame rfl (tb_tlyC rfl) ..)
  refine Frame.trans ?_ (State.wr_frame rfl (tb_tlyC rfl) ..)
  exact Frame.refl _ _

theorem State.tlySaturate_frame (a1 : State) (a2 : Nat) (a3 : Nat) :
    Frame 0x2000000100000 a1 (State.tlySaturate a1 a2 a3) := by
  unfold State.tlySaturate
  refine Frame.ite (fun h1 => ?_) (fun h1 => ?_)
  · exact Frame.refl _ _
  · refine Frame.trans ?_ (State.event_frame rfl (tb_tlyA rfl) (tb_tlyA rfl) ..)
    refine Frame.trans ?_ (State.put_frame rfl (tb_tlyC rfl) ..)
    refine Frame.step ?_ (State.tlyPut_frame ..) rfl
    exact Frame.refl _ _

theorem State.tlyAdd_frame (a1 : Nat) (a2 : Nat) (a3 : Nat) (a4 : Nat) (a5 : State) :
    Frame 0x2000000100000 a5 (State.tlyAdd a1 a2 a3 a4 a5) := by
  induction a3 generalizing a1 a2 a4 a5
  · unfold State.tlyAdd
    exact Frame.refl _ _
  · rename_i k_ ih
    unfold State.tlyAdd
    extract_lets v25 v26
    have h27 : Frame 0x2000000100000 a5 v26 := by
      unfold v26
      refine Frame.step ?_ (State.tlyPut_frame ..) rfl
      exact Frame.refl _ _
    clear_value v26
    refine Frame.ite (fun h28 => ?_) (fun h28 => ?_)
    · refine Frame.ite (fun h29 => ?_) (fun h29 => ?_)
      · assumption
      · refine Frame.step ?_ (ih ..) rfl
        assumption
    · refine Frame.ite (fun h30 => ?_) (fun h30 => ?_)
      · refine Frame.step ?_ (State.tlySaturate_frame ..) rfl
        exact Frame.refl _ _
      · refine Frame.step ?_ (State.tlyPut_frame ..) rfl
        exact Frame.refl _ _

theorem State.tally_frame (a1 : State) (a2 : Nat) (a3 : Nat) (a4 : Nat) (a5 : Nat) :
    Frame 0x2000000100000 a1 (State.tally a1 a2 a3 a4 a5) := by
  unfold State.tally
  refine Frame.ite (fun h1 => ?_) (fun h1 => ?_)
  · refine Frame.foldl ?_ (fun u2 x3 h4 => ?_)
    · exact Frame.refl _ _
    · refine Frame.ite (fun h5 => ?_) (fun h5 => ?_)
      · refine Frame.step ?_ (State.tlyAdd_frame ..) rfl
        assumption
      · assumption
  · exact Frame.refl _ _

theorem State.writeEntry_frame (a1 : State) (a2 : Nat) (a3 : Nat) (a4 : Nat) (a5 : Status) (a6 : Bool) (a7 : Bool) (a8 : Nat) (a9 : Nat) (a10 : Nat) :
    Frame 0x2020000100084 a1 (State.writeEntry a1 a2 a3 a4 a5 a6 a7 a8 a9 a10) := by
  unfold State.writeEntry
  extract_lets v1 v2 v3 v4 v5 v6 v7 v8 v9 v10
  have h11 : Frame 0x2020000100084 a1 v6 := by
    unfold v6
    refine Frame.step ?_ (State.emitHost_frame ..) rfl
    exact Frame.refl _ _
  clear_value v6
  have h12 : Frame 0x2020000100084 a1 v7 := by
    unfold v7
    refine Frame.step ?_ (State.tally_frame ..) rfl
    refine Frame.trans ?_ (State.wr_frame rfl (tb_ringA rfl) ..)
    assumption
  clear_value v7
  have h13 : Frame 0x2020000100084 a1 v9 := by
    unfold v9
    refine Frame.step ?_ (State.setRing_frame ..) rfl
    assumption
  clear_value v9
  refine Frame.ite (fun h14 => ?_) (fun h14 => ?_)
  · apply Frame.upd
    · assumption
    all_goals first | exact Or.inr rfl | exact Or.inl rfl | exact Or.inl (Nat.le_refl _) | rfl
  · assumption

theorem State.hmPush_frame (a1 : State) (a2 : Nat) (a3 : Bool) (a4 : Nat) (a5 : Nat) (a6 : Bytes) :
    Frame 0x4000000108000 a1 (State.hmPush a1 a2 a3 a4 a5 a6) := by
  unfold State.hmPush
  extract_lets v1 v2 v3 v4 v5 v6
  have h7 : Frame 0x4000000108000 a1 v6 := by
    unfold v6
    apply Frame.upd
    · exact Frame.refl _ _
    all_goals first | exact Or.inr rfl | exact Or.inl rfl | exact Or.inl (Nat.le_refl _) | rfl
  clear_value v6
  refine Frame.ite (fun h8 => ?_) (fun h8 => ?_)
  · refine Frame.trans ?_ (State.wr_frame rfl (tb_mgtA rfl) ..)
    assumption
  · refine Frame.trans ?_ (State.count_frame rfl (tb_mgtA rfl) ..)
    apply Frame.upd
    · exact Frame.refl _ _
    all_goals first | exact Or.inr rfl | exact Or.inl rfl | exact Or.inl (Nat.le_refl _) | rfl

theorem State.hmLog_frame (a1 : State) (a2 : Nat) (a3 : Option Nat) (a4 : Nat) (a5 : Nat) (a6 : Bytes) :
    Frame 0x4000000108000 a1 (State.hmLog a1 a2 a3 a4 a5 a6) := by
  unfold State.hmLog
  split
  · rename_i z1
    refine Frame.step ?_ (State.hmPush_frame ..) rfl
    exact Frame.refl _ _
  · rename_i z2 z3
    split
    · rename_i z4 z5
      refine Frame.step ?_ (State.hmPush_frame ..) rfl
      apply Frame.upd
      · exact Frame.refl _ _
      all_goals first | exact Or.inr rfl | exact Or.inl rfl | exact Or.inl (Nat.le_refl _) | rfl
    · rename_i z6 z7 z8
      extract_lets v9 v10 v11
      have h12 : Frame 0x4000000108000 a1 v11 := by
        unfold v11
        apply Frame.upd
        · exact Frame.refl _ _
        all_goals first | exact Or.inr rfl | exact Or.inl rfl | exact Or.inl (Nat.le_refl _) | rfl
      clear_value v11
      refine Frame.ite (fun h13 => ?_) (fun h13 => ?_)
      · apply Frame.upd
        · exact Frame.refl _ _
        all_goals first | exact Or.inr rfl | exact Or.inl rfl | exact Or.inl (Nat.le_refl _) | rfl
      · refine Frame.ite (fun h14 => ?_) (fun h14 => ?_)
        · refine Frame.step ?_ (State.hmPush_frame ..) rfl
          assumption
        · refine Frame.step ?_ (State.hmPush_frame ..) rfl
          assumption

theorem State.roleAction_frame (a1 : State) (a2 : Nat) (a3 : Nat) (a4 : Nat) (a5 : Nat) (a6 : Status) :
    Frame 0x4000000108000 a1 (State.roleAction a1 a2 a3 a4 a5 a6) := by
  unfold State.roleAction
  refine Frame.trans ?_ (State.count_frame rfl (tb_mgtA rfl) ..)
  refine Frame.step ?_ (State.hmLog_frame ..) rfl
  exact Frame.refl _ _

theorem State.completeAt_frame (a1 : State) (a2 : Nat) (a3 : Nat) (a4 : Status) (a5 : Nat) (a6 : Nat) (a7 : Nat) :
    Frame 0x6020000108084 a1 (State.completeAt a1 a2 a3 a4 a5 a6 a7) := by
  unfold State.completeAt
  split
  · rename_i z1 z2
    exact Frame.refl _ _
  · rename_i z3 z4 z5
    extract_lets v6 v7 v8 v9
    have h10 : Frame 0x6020000108084 a1 v7 := by
      unfold v7
      refine Frame.step ?_ (State.setRing_frame ..) rfl
      exact Frame.refl _ _
    clear_value v7
    have h11 : Frame 0x6020000108084 a1 v8 := by
      unfold v8
      refine Frame.step ?_ (State.writeEntry_frame ..) rfl
      assumption
    clear_value v8
    refine Frame.ite (fun h12 => ?_) (fun h12 => ?_)
    · refine Frame.step ?_ (State.roleAction_frame ..) rfl
      assumption
    · assumption

theorem State.complete_frame (a1 : State) (a2 : Nat) (a3 : Nat) (a4 : Status) :
    Frame 0x6020000108084 a1 (State.complete a1 a2 a3 a4) := by
  unfold State.complete
  refine Frame.step ?_ (State.completeAt_frame ..) rfl
  exact Frame.refl _ _

theorem State.setAx_frame (a1 : State) (a2 : Nat) (a3 : Axis) :
    Frame 0x200 a1 (State.setAx a1 a2 a3) := by
  unfold State.setAx
  apply Frame.upd
  · exact Frame.refl _ _
  all_goals first | exact Or.inr rfl | exact Or.inl rfl | exact Or.inl (Nat.le_refl _) | rfl

theorem State.setDom_frame (a1 : State) (a2 : Nat) (a3 : Dom) :
    Frame 0x20 a1 (State.setDom a1 a2 a3) := by
  unfold State.setDom
  apply Frame.upd
  · exact Frame.refl _ _
  all_goals first | exact Or.inr rfl | exact Or.inl rfl | exact Or.inl (Nat.le_refl _) | rfl

theorem State.eachDom_frame (a1 : State) (a2 : Dom → Dom) :
    Frame 0x20 a1 (State.eachDom a1 a2) := by
  unfold State.eachDom
  extract_lets v1
  unfold v1
  refine Frame.ite (fun h2 => ?_) (fun h2 => ?_)
  · refine Frame.ite (fun h3 => ?_) (fun h3 => ?_)
    · exact Frame.refl _ _
    · refine Frame.step ?_ (State.setDom_frame ..) rfl
      exact Frame.refl _ _
  · refine Frame.step ?_ (State.setDom_frame ..) rfl
    refine Frame.ite (fun h4 => ?_) (fun h4 => ?_)
    · exact Frame.refl _ _
    · refine Frame.step ?_ (State.setDom_frame ..) rfl
      exact Frame.refl _ _

theorem State.eachDom_clk (s : State) (f : Dom → Dom) : (s.eachDom f).clk = s.clk := by
  unfold State.eachDom
  extract_lets one
  have h1 : ∀ u d, (one u d).clk = u.clk := fun u d => by unfold one; split <;> rfl
  rw [h1, h1]

theorem State.pass_frame (s : State) (n : Nat) : Frame 0x40000100030 s (s.pass n) := by
  unfold State.pass
  extract_lets c a k left v w
  have hv : Frame 0x40000100030 s v := (State.eachDom_frame ..).mono rfl
  have hc : v.clk = s.clk := State.eachDom_clk ..
  clear_value v
  have hw : Frame 0x40000100030 s w := by
    unfold w
    apply Frame.upd hv
    case h_ref => left; rw [hc]; exact Nat.le_add_right _ _
    all_goals first | exact Or.inr rfl | exact Or.inl rfl | rfl
  clear_value w
  refine Frame.ite (fun _ => ?_) (fun _ => hw)
  exact Frame.trans hw (State.put_frame rfl (tb_timA rfl) ..)

theorem State.reachRef_frame (a1 : State) (a2 : Nat) :
    Fr getO 0x40000100030 a1 (State.reachRef a1 a2) := by
  unfold State.reachRef
  refine Fr.ite (fun h1 => ?_) (fun h1 => ?_)
  · refine Fr.some ?_
    exact Frame.refl _ _
  · extract_lets v2
    have h3 : Frame 0x40000100030 a1 v2 := by
      unfold v2
      refine Frame.step ?_ (State.pass_frame ..) rfl
      exact Frame.refl _ _
    clear_value v2
    refine Fr.ite (fun h4 => ?_) (fun h4 => ?_)
    · refine Fr.some ?_
      assumption
    · exact Fr.none

theorem State.atRef_frame {m : Nat} (hK : 0x40000100030 &&& m = 0x40000100030) {s : State} {due : Nat} {f : State → State}
    (hf : ∀ u, Frame m u (f u)) : Frame m s (s.atRef due f) := by
  unfold State.atRef
  split
  · rename_i t ht
    exact Frame.trans (((State.reachRef_frame s due).of t ht).mono hK) (hf t)
  · exact Frame.refl _ _

theorem State.setEp_frame (a1 : State) (a2 : Nat) (a3 : Eth) :
    Frame 0x40 a1 (State.setEp a1 a2 a3) := by
  unfold State.setEp
  apply Frame.upd
  · exact Frame.refl _ _
  all_goals first | exact Or.inr rfl | exact Or.inl rfl | exact Or.inl (Nat.le_refl _) | rfl

theorem State.emit_frame (a1 : State) (a2 : Out) :
    Frame 0x4 a1 (State.emit a1 a2) := by
  unfold State.emit
  apply Frame.upd
  · exact Frame.refl _ _
  all_goals first | exact Or.inr rfl | exact Or.inl rfl | exact Or.inl (Nat.le_refl _) | rfl

theorem State.bump_frame (a1 : State) :
    Frame 0x8 a1 (State.bump a1) := by
  unfold State.bump
  apply Frame.upd
  · exact Frame.refl _ _
  all_goals first | exact Or.inr rfl | exact Or.inl rfl | exact Or.inl (Nat.le_refl _) | rfl

theorem State.withDesc_frame {m : Nat} (hK : 0x80 &&& m = 0x80) {s : State} {r op : Nat} {f : State → Inflight → State}
    (hf : ∀ u d, Frame m u (f u d)) : Frame m s (s.withDesc r op f) := by
  unfold State.withDesc
  split
  · exact Frame.refl _ _
  · exact Frame.trans ((State.begin_frame ..).mono hK) (hf ..)

theorem State.dropEvent_frame (a1 : State) (a2 : Nat) :
    Frame 0x20000100080 a1 (State.dropEvent a1 a2) := by
  unfold State.dropEvent
  refine Frame.step ?_ (State.setRing_frame ..) rfl
  refine Frame.trans ?_ (State.count_frame rfl (tb_ringA rfl) ..)
  exact Frame.refl _ _

theorem State.postEvent_frame (a1 : State) (a2 : Nat) (a3 : Nat) (a4 : Nat) (a5 : Status) (a6 : Nat) :
    Frame 0x2020000100084 a1 (State.postEvent a1 a2 a3 a4 a5 a6) := by
  unfold State.postEvent
  refine Frame.ite (fun h1 => ?_) (fun h1 => ?_)
  · refine Frame.step ?_ (State.writeEntry_frame ..) rfl
    exact Frame.refl _ _
  · refine Frame.step ?_ (State.dropEvent_frame ..) rfl
    exact Frame.refl _ _

theorem State.outcome_frame (a1 : State) (a2 : Nat) (a3 : Nat) (a4 : Nat) (a5 : Nat) :
    Frame 0x10000101000 a1 (State.outcome a1 a2 a3 a4 a5) := by
  unfold State.outcome
  refine Frame.ite (fun h1 => ?_) (fun h1 => ?_)
  · refine Frame.ite (fun h2 => ?_) (fun h2 => ?_)
    · exact Frame.refl _ _
    · refine Frame.trans ?_ (State.event_frame rfl rfl rfl ..)
      exact Frame.refl _ _
  · refine Frame.trans ?_ (State.event_frame rfl rfl rfl ..)
    refine Frame.step ?_ (State.slogNow_frame ..) rfl
    exact Frame.refl _ _

theorem State.setAxState_frame (a1 : State) (a2 : Nat) (a3 : Nat) :
    Frame 0x100000100000 a1 (State.setAxState a1 a2 a3) := by
  unfold State.setAxState
  refine Frame.trans ?_ (State.put_frame rfl (tb_ctlA rfl) ..)
  exact Frame.refl _ _

theorem State.setCn_frame (a1 : State) (a2 : Nat) (a3 : Can) :
    Frame 0x400 a1 (State.setCn a1 a2 a3) := by
  unfold State.setCn
  apply Frame.upd
  · exact Frame.refl _ _
  all_goals first | exact Or.inr rfl | exact Or.inl rfl | exact Or.inl (Nat.le_refl _) | rfl

theorem State.setSst_frame (a1 : State) (a2 : Nat) (a3 : SafSt) :
    Frame 0x800 a1 (State.setSst a1 a2 a3) := by
  unfold State.setSst
  apply Frame.upd
  · exact Frame.refl _ _
  all_goals first | exact Or.inr rfl | exact Or.inl rfl | exact Or.inl (Nat.le_refl _) | rfl

theorem State.hostData_frame (a1 : State) (a2 : Nat) (a3 : Bytes) :
    Frame 0x20000100004 a1 (State.hostData a1 a2 a3) := by
  unfold State.hostData
  refine Frame.ite (fun h1 => ?_) (fun h1 => ?_)
  · exact Frame.refl _ _
  · refine Frame.step ?_ (State.emitHost_frame ..) rfl
    exact Frame.refl _ _

theorem State.completeR_frame (a1 : State) (a2 : Nat) (a3 : Nat) (a4 : Status) (a5 : Nat) :
    Frame 0x6020000108084 a1 (State.completeR a1 a2 a3 a4 a5) := by
  unfold State.completeR
  refine Frame.step ?_ (State.completeAt_frame ..) rfl
  exact Frame.refl _ _

theorem State.haltRing_frame (a1 : State) (a2 : Nat) (a3 : Status) :
    Frame 0x20000100000 a1 (State.haltRing a1 a2 a3) := by
  unfold State.haltRing
  extract_lets v1
  have h2 : Frame 0x20000100000 a1 v1 := by
    unfold v1
    refine Frame.trans ?_ (State.put_frame rfl (tb_ringA rfl) ..)
    refine Frame.trans ?_ (State.put_frame rfl (tb_ringA rfl) ..)
    exact Frame.refl _ _
  clear_value v1
  refine Frame.trans ?_ (State.event_frame rfl (tb_hifA rfl) (tb_hifA rfl) ..)
  assumption

theorem State.hold_frame (a1 : State) (a2 : Nat) :
    Frame 0x30 a1 (State.hold a1 a2) := by
  unfold State.hold
  extract_lets v1 v2 v3
  have h4 : Frame 0x30 a1 v2 := by
    unfold v2
    refine Frame.step ?_ (State.eachDom_frame ..) rfl
    exact Frame.refl _ _
  clear_value v2
  apply Frame.upd
  · assumption
  all_goals first | exact Or.inr rfl | exact Or.inl rfl | exact Or.inl (Nat.le_refl _) | rfl

theorem State.idle_frame (a1 : State) :
    Frame 0x40000100030 a1 (State.idle a1) := by
  unfold State.idle
  refine Frame.ite (fun h1 => ?_) (fun h1 => ?_)
  · refine Frame.ite (fun h2 => ?_) (fun h2 => ?_)
    · exact Frame.refl _ _
    · refine Frame.step ?_ (State.hold_frame ..) rfl
      refine Frame.step ?_ (State.pass_frame ..) rfl
      exact Frame.refl _ _
  · refine Frame.step ?_ (State.pass_frame ..) rfl
    exact Frame.refl _ _

theorem State.reach_frame (a1 : State) (a2 : Nat) :
    Fr getO 0x40000100030 a1 (State.reach a1 a2) := by
  unfold State.reach
  refine Fr.ite (fun h1 => ?_) (fun h1 => ?_)
  · refine Fr.some ?_
    exact Frame.refl _ _
  · refine Fr.ite (fun h2 => ?_) (fun h2 => ?_)
    · extract_lets v3 v4
      have h5 : Frame 0x40000100030 a1 v3 := by
        unfold v3
        refine Frame.step ?_ (State.hold_frame ..) rfl
        refine Frame.step ?_ (State.pass_frame ..) rfl
        exact Frame.refl _ _
      clear_value v3
      refine Fr.some ?_
      apply Frame.upd
      · assumption
      all_goals first | exact Or.inr rfl | exact Or.inl rfl | exact Or.inl (Nat.le_refl _) | rfl
    · exact Fr.none

theorem State.atT_frame {m : Nat} (hK : 0x40000100030 &&& m = 0x40000100030) {s : State} {due : Nat} {f : State → State}
    (hf : ∀ u, Frame m u (f u)) : Frame m s (s.atT due f) := by
  unfold State.atT
  split
  · rename_i t ht
    exact Frame.trans (((State.reach_frame s due).of t ht).mono hK) (hf t)
  · exact Frame.refl _ _

end Sys2Proof.Machine
end

