-- ==== Sys2Proof/Laws/State.lean ====
section
/-!
SUPPORT. What each plain update of the state leaves alone, one lemma a field, and that a part reads back as it was
written.
-/

namespace Sys2Proof.Machine

open Sys2Proof

@[simp] theorem State.wr_pending (s : State) (a : Nat) (v : Word) : (s.wr a v).pending = s.pending := rfl
@[simp] theorem State.wr_latch (s : State) (a : Nat) (v : Word) : (s.wr a v).latch = s.latch := rfl
@[simp] theorem State.wr_lastRead (s : State) (a : Nat) (v : Word) : (s.wr a v).lastRead = s.lastRead := rfl
@[simp] theorem State.wr_out (s : State) (a : Nat) (v : Word) : (s.wr a v).out = s.out := rfl
@[simp] theorem State.wr_free (s : State) (a : Nat) (v : Word) : (s.wr a v).free = s.free := rfl
@[simp] theorem State.wr_clk (s : State) (a : Nat) (v : Word) : (s.wr a v).clk = s.clk := rfl
@[simp] theorem State.wr_doms (s : State) (a : Nat) (v : Word) : (s.wr a v).doms = s.doms := rfl
@[simp] theorem State.wr_eth (s : State) (a : Nat) (v : Word) : (s.wr a v).eth = s.eth := rfl
@[simp] theorem State.wr_hif (s : State) (a : Nat) (v : Word) : (s.wr a v).hif = s.hif := rfl
@[simp] theorem State.wr_cfg (s : State) (a : Nat) (v : Word) : (s.wr a v).cfg = s.cfg := rfl
@[simp] theorem State.wr_axes (s : State) (a : Nat) (v : Word) : (s.wr a v).axes = s.axes := rfl
@[simp] theorem State.wr_can (s : State) (a : Nat) (v : Word) : (s.wr a v).can = s.can := rfl
@[simp] theorem State.wr_saf (s : State) (a : Nat) (v : Word) : (s.wr a v).saf = s.saf := rfl
@[simp] theorem State.wr_slog (s : State) (a : Nat) (v : Word) : (s.wr a v).slog = s.slog := rfl
@[simp] theorem State.wr_flash (s : State) (a : Nat) (v : Word) : (s.wr a v).flash = s.flash := rfl
@[simp] theorem State.wr_fuses (s : State) (a : Nat) (v : Word) : (s.wr a v).fuses = s.fuses := rfl
@[simp] theorem State.wr_hm (s : State) (a : Nat) (v : Word) : (s.wr a v).hm = s.hm := rfl
@[simp] theorem State.wr_jobs (s : State) (a : Nat) (v : Word) : (s.wr a v).jobs = s.jobs := rfl
@[simp] theorem State.wr_bank0 (s : State) (a : Nat) (v : Word) : (s.wr a v).bank0 = s.bank0 := rfl
@[simp] theorem State.wr_bank1 (s : State) (a : Nat) (v : Word) : (s.wr a v).bank1 = s.bank1 := rfl
@[simp] theorem State.wr_loss (s : State) (a : Nat) (v : Word) : (s.wr a v).loss = s.loss := rfl
@[simp] theorem State.wr_comp (s : State) (a : Nat) (v : Word) : (s.wr a v).comp = s.comp := rfl

@[simp] theorem State.put_pending (s : State) (a hi lo v : Nat) : (s.put a hi lo v).pending = s.pending := rfl
@[simp] theorem State.put_latch (s : State) (a hi lo v : Nat) : (s.put a hi lo v).latch = s.latch := rfl
@[simp] theorem State.put_lastRead (s : State) (a hi lo v : Nat) : (s.put a hi lo v).lastRead = s.lastRead := rfl
@[simp] theorem State.put_out (s : State) (a hi lo v : Nat) : (s.put a hi lo v).out = s.out := rfl
@[simp] theorem State.put_free (s : State) (a hi lo v : Nat) : (s.put a hi lo v).free = s.free := rfl
@[simp] theorem State.put_clk (s : State) (a hi lo v : Nat) : (s.put a hi lo v).clk = s.clk := rfl
@[simp] theorem State.put_doms (s : State) (a hi lo v : Nat) : (s.put a hi lo v).doms = s.doms := rfl
@[simp] theorem State.put_eth (s : State) (a hi lo v : Nat) : (s.put a hi lo v).eth = s.eth := rfl
@[simp] theorem State.put_hif (s : State) (a hi lo v : Nat) : (s.put a hi lo v).hif = s.hif := rfl
@[simp] theorem State.put_cfg (s : State) (a hi lo v : Nat) : (s.put a hi lo v).cfg = s.cfg := rfl
@[simp] theorem State.put_axes (s : State) (a hi lo v : Nat) : (s.put a hi lo v).axes = s.axes := rfl
@[simp] theorem State.put_can (s : State) (a hi lo v : Nat) : (s.put a hi lo v).can = s.can := rfl
@[simp] theorem State.put_saf (s : State) (a hi lo v : Nat) : (s.put a hi lo v).saf = s.saf := rfl
@[simp] theorem State.put_slog (s : State) (a hi lo v : Nat) : (s.put a hi lo v).slog = s.slog := rfl
@[simp] theorem State.put_flash (s : State) (a hi lo v : Nat) : (s.put a hi lo v).flash = s.flash := rfl
@[simp] theorem State.put_fuses (s : State) (a hi lo v : Nat) : (s.put a hi lo v).fuses = s.fuses := rfl
@[simp] theorem State.put_hm (s : State) (a hi lo v : Nat) : (s.put a hi lo v).hm = s.hm := rfl
@[simp] theorem State.put_jobs (s : State) (a hi lo v : Nat) : (s.put a hi lo v).jobs = s.jobs := rfl
@[simp] theorem State.put_bank0 (s : State) (a hi lo v : Nat) : (s.put a hi lo v).bank0 = s.bank0 := rfl
@[simp] theorem State.put_bank1 (s : State) (a hi lo v : Nat) : (s.put a hi lo v).bank1 = s.bank1 := rfl
@[simp] theorem State.put_loss (s : State) (a hi lo v : Nat) : (s.put a hi lo v).loss = s.loss := rfl
@[simp] theorem State.put_comp (s : State) (a hi lo v : Nat) : (s.put a hi lo v).comp = s.comp := rfl

@[simp] theorem State.raise_pending (s : State) (a i : Nat) : (s.raise a i).pending = s.pending := rfl
@[simp] theorem State.raise_latch (s : State) (a i : Nat) : (s.raise a i).latch = s.latch := rfl
@[simp] theorem State.raise_lastRead (s : State) (a i : Nat) : (s.raise a i).lastRead = s.lastRead := rfl
@[simp] theorem State.raise_out (s : State) (a i : Nat) : (s.raise a i).out = s.out := rfl
@[simp] theorem State.raise_free (s : State) (a i : Nat) : (s.raise a i).free = s.free := rfl
@[simp] theorem State.raise_clk (s : State) (a i : Nat) : (s.raise a i).clk = s.clk := rfl
@[simp] theorem State.raise_doms (s : State) (a i : Nat) : (s.raise a i).doms = s.doms := rfl
@[simp] theorem State.raise_eth (s : State) (a i : Nat) : (s.raise a i).eth = s.eth := rfl
@[simp] theorem State.raise_hif (s : State) (a i : Nat) : (s.raise a i).hif = s.hif := rfl
@[simp] theorem State.raise_cfg (s : State) (a i : Nat) : (s.raise a i).cfg = s.cfg := rfl
@[simp] theorem State.raise_axes (s : State) (a i : Nat) : (s.raise a i).axes = s.axes := rfl
@[simp] theorem State.raise_can (s : State) (a i : Nat) : (s.raise a i).can = s.can := rfl
@[simp] theorem State.raise_saf (s : State) (a i : Nat) : (s.raise a i).saf = s.saf := rfl
@[simp] theorem State.raise_slog (s : State) (a i : Nat) : (s.raise a i).slog = s.slog := rfl
@[simp] theorem State.raise_flash (s : State) (a i : Nat) : (s.raise a i).flash = s.flash := rfl
@[simp] theorem State.raise_fuses (s : State) (a i : Nat) : (s.raise a i).fuses = s.fuses := rfl
@[simp] theorem State.raise_hm (s : State) (a i : Nat) : (s.raise a i).hm = s.hm := rfl
@[simp] theorem State.raise_jobs (s : State) (a i : Nat) : (s.raise a i).jobs = s.jobs := rfl
@[simp] theorem State.raise_bank0 (s : State) (a i : Nat) : (s.raise a i).bank0 = s.bank0 := rfl
@[simp] theorem State.raise_bank1 (s : State) (a i : Nat) : (s.raise a i).bank1 = s.bank1 := rfl
@[simp] theorem State.raise_loss (s : State) (a i : Nat) : (s.raise a i).loss = s.loss := rfl
@[simp] theorem State.raise_comp (s : State) (a i : Nat) : (s.raise a i).comp = s.comp := rfl

@[simp] theorem State.countN_pending (s : State) (a n : Nat) : (s.countN a n).pending = s.pending := rfl
@[simp] theorem State.countN_latch (s : State) (a n : Nat) : (s.countN a n).latch = s.latch := rfl
@[simp] theorem State.countN_lastRead (s : State) (a n : Nat) : (s.countN a n).lastRead = s.lastRead := rfl
@[simp] theorem State.countN_out (s : State) (a n : Nat) : (s.countN a n).out = s.out := rfl
@[simp] theorem State.countN_free (s : State) (a n : Nat) : (s.countN a n).free = s.free := rfl
@[simp] theorem State.countN_clk (s : State) (a n : Nat) : (s.countN a n).clk = s.clk := rfl
@[simp] theorem State.countN_doms (s : State) (a n : Nat) : (s.countN a n).doms = s.doms := rfl
@[simp] theorem State.countN_eth (s : State) (a n : Nat) : (s.countN a n).eth = s.eth := rfl
@[simp] theorem State.countN_hif (s : State) (a n : Nat) : (s.countN a n).hif = s.hif := rfl
@[simp] theorem State.countN_cfg (s : State) (a n : Nat) : (s.countN a n).cfg = s.cfg := rfl
@[simp] theorem State.countN_axes (s : State) (a n : Nat) : (s.countN a n).axes = s.axes := rfl
@[simp] theorem State.countN_can (s : State) (a n : Nat) : (s.countN a n).can = s.can := rfl
@[simp] theorem State.countN_saf (s : State) (a n : Nat) : (s.countN a n).saf = s.saf := rfl
@[simp] theorem State.countN_slog (s : State) (a n : Nat) : (s.countN a n).slog = s.slog := rfl
@[simp] theorem State.countN_flash (s : State) (a n : Nat) : (s.countN a n).flash = s.flash := rfl
@[simp] theorem State.countN_fuses (s : State) (a n : Nat) : (s.countN a n).fuses = s.fuses := rfl
@[simp] theorem State.countN_hm (s : State) (a n : Nat) : (s.countN a n).hm = s.hm := rfl
@[simp] theorem State.countN_jobs (s : State) (a n : Nat) : (s.countN a n).jobs = s.jobs := rfl
@[simp] theorem State.countN_bank0 (s : State) (a n : Nat) : (s.countN a n).bank0 = s.bank0 := rfl
@[simp] theorem State.countN_bank1 (s : State) (a n : Nat) : (s.countN a n).bank1 = s.bank1 := rfl
@[simp] theorem State.countN_loss (s : State) (a n : Nat) : (s.countN a n).loss = s.loss := rfl
@[simp] theorem State.countN_comp (s : State) (a n : Nat) : (s.countN a n).comp = s.comp := rfl

@[simp] theorem State.count_pending (s : State) (a : Nat) : (s.count a).pending = s.pending := rfl
@[simp] theorem State.count_latch (s : State) (a : Nat) : (s.count a).latch = s.latch := rfl
@[simp] theorem State.count_lastRead (s : State) (a : Nat) : (s.count a).lastRead = s.lastRead := rfl
@[simp] theorem State.count_out (s : State) (a : Nat) : (s.count a).out = s.out := rfl
@[simp] theorem State.count_free (s : State) (a : Nat) : (s.count a).free = s.free := rfl
@[simp] theorem State.count_clk (s : State) (a : Nat) : (s.count a).clk = s.clk := rfl
@[simp] theorem State.count_doms (s : State) (a : Nat) : (s.count a).doms = s.doms := rfl
@[simp] theorem State.count_eth (s : State) (a : Nat) : (s.count a).eth = s.eth := rfl
@[simp] theorem State.count_hif (s : State) (a : Nat) : (s.count a).hif = s.hif := rfl
@[simp] theorem State.count_cfg (s : State) (a : Nat) : (s.count a).cfg = s.cfg := rfl
@[simp] theorem State.count_axes (s : State) (a : Nat) : (s.count a).axes = s.axes := rfl
@[simp] theorem State.count_can (s : State) (a : Nat) : (s.count a).can = s.can := rfl
@[simp] theorem State.count_saf (s : State) (a : Nat) : (s.count a).saf = s.saf := rfl
@[simp] theorem State.count_slog (s : State) (a : Nat) : (s.count a).slog = s.slog := rfl
@[simp] theorem State.count_flash (s : State) (a : Nat) : (s.count a).flash = s.flash := rfl
@[simp] theorem State.count_fuses (s : State) (a : Nat) : (s.count a).fuses = s.fuses := rfl
@[simp] theorem State.count_hm (s : State) (a : Nat) : (s.count a).hm = s.hm := rfl
@[simp] theorem State.count_jobs (s : State) (a : Nat) : (s.count a).jobs = s.jobs := rfl
@[simp] theorem State.count_bank0 (s : State) (a : Nat) : (s.count a).bank0 = s.bank0 := rfl
@[simp] theorem State.count_bank1 (s : State) (a : Nat) : (s.count a).bank1 = s.bank1 := rfl
@[simp] theorem State.count_loss (s : State) (a : Nat) : (s.count a).loss = s.loss := rfl
@[simp] theorem State.count_comp (s : State) (a : Nat) : (s.count a).comp = s.comp := rfl

@[simp] theorem State.event_pending (s : State) (a i c : Nat) : (s.event a i c).pending = s.pending := rfl
@[simp] theorem State.event_latch (s : State) (a i c : Nat) : (s.event a i c).latch = s.latch := rfl
@[simp] theorem State.event_lastRead (s : State) (a i c : Nat) : (s.event a i c).lastRead = s.lastRead := rfl
@[simp] theorem State.event_out (s : State) (a i c : Nat) : (s.event a i c).out = s.out := rfl
@[simp] theorem State.event_free (s : State) (a i c : Nat) : (s.event a i c).free = s.free := rfl
@[simp] theorem State.event_clk (s : State) (a i c : Nat) : (s.event a i c).clk = s.clk := rfl
@[simp] theorem State.event_doms (s : State) (a i c : Nat) : (s.event a i c).doms = s.doms := rfl
@[simp] theorem State.event_eth (s : State) (a i c : Nat) : (s.event a i c).eth = s.eth := rfl
@[simp] theorem State.event_hif (s : State) (a i c : Nat) : (s.event a i c).hif = s.hif := rfl
@[simp] theorem State.event_cfg (s : State) (a i c : Nat) : (s.event a i c).cfg = s.cfg := rfl
@[simp] theorem State.event_axes (s : State) (a i c : Nat) : (s.event a i c).axes = s.axes := rfl
@[simp] theorem State.event_can (s : State) (a i c : Nat) : (s.event a i c).can = s.can := rfl
@[simp] theorem State.event_saf (s : State) (a i c : Nat) : (s.event a i c).saf = s.saf := rfl
@[simp] theorem State.event_slog (s : State) (a i c : Nat) : (s.event a i c).slog = s.slog := rfl
@[simp] theorem State.event_flash (s : State) (a i c : Nat) : (s.event a i c).flash = s.flash := rfl
@[simp] theorem State.event_fuses (s : State) (a i c : Nat) : (s.event a i c).fuses = s.fuses := rfl
@[simp] theorem State.event_hm (s : State) (a i c : Nat) : (s.event a i c).hm = s.hm := rfl
@[simp] theorem State.event_jobs (s : State) (a i c : Nat) : (s.event a i c).jobs = s.jobs := rfl
@[simp] theorem State.event_bank0 (s : State) (a i c : Nat) : (s.event a i c).bank0 = s.bank0 := rfl
@[simp] theorem State.event_bank1 (s : State) (a i c : Nat) : (s.event a i c).bank1 = s.bank1 := rfl
@[simp] theorem State.event_loss (s : State) (a i c : Nat) : (s.event a i c).loss = s.loss := rfl
@[simp] theorem State.event_comp (s : State) (a i c : Nat) : (s.event a i c).comp = s.comp := rfl

@[simp] theorem State.setAx_pending (s : State) (a : Nat) (x : Axis) : (s.setAx a x).pending = s.pending := rfl
@[simp] theorem State.setAx_regs (s : State) (a : Nat) (x : Axis) : (s.setAx a x).regs = s.regs := rfl
@[simp] theorem State.setAx_latch (s : State) (a : Nat) (x : Axis) : (s.setAx a x).latch = s.latch := rfl
@[simp] theorem State.setAx_lastRead (s : State) (a : Nat) (x : Axis) : (s.setAx a x).lastRead = s.lastRead := rfl
@[simp] theorem State.setAx_out (s : State) (a : Nat) (x : Axis) : (s.setAx a x).out = s.out := rfl
@[simp] theorem State.setAx_free (s : State) (a : Nat) (x : Axis) : (s.setAx a x).free = s.free := rfl
@[simp] theorem State.setAx_clk (s : State) (a : Nat) (x : Axis) : (s.setAx a x).clk = s.clk := rfl
@[simp] theorem State.setAx_doms (s : State) (a : Nat) (x : Axis) : (s.setAx a x).doms = s.doms := rfl
@[simp] theorem State.setAx_eth (s : State) (a : Nat) (x : Axis) : (s.setAx a x).eth = s.eth := rfl
@[simp] theorem State.setAx_hif (s : State) (a : Nat) (x : Axis) : (s.setAx a x).hif = s.hif := rfl
@[simp] theorem State.setAx_cfg (s : State) (a : Nat) (x : Axis) : (s.setAx a x).cfg = s.cfg := rfl
@[simp] theorem State.setAx_can (s : State) (a : Nat) (x : Axis) : (s.setAx a x).can = s.can := rfl
@[simp] theorem State.setAx_saf (s : State) (a : Nat) (x : Axis) : (s.setAx a x).saf = s.saf := rfl
@[simp] theorem State.setAx_slog (s : State) (a : Nat) (x : Axis) : (s.setAx a x).slog = s.slog := rfl
@[simp] theorem State.setAx_flash (s : State) (a : Nat) (x : Axis) : (s.setAx a x).flash = s.flash := rfl
@[simp] theorem State.setAx_fuses (s : State) (a : Nat) (x : Axis) : (s.setAx a x).fuses = s.fuses := rfl
@[simp] theorem State.setAx_hm (s : State) (a : Nat) (x : Axis) : (s.setAx a x).hm = s.hm := rfl
@[simp] theorem State.setAx_jobs (s : State) (a : Nat) (x : Axis) : (s.setAx a x).jobs = s.jobs := rfl
@[simp] theorem State.setAx_bank0 (s : State) (a : Nat) (x : Axis) : (s.setAx a x).bank0 = s.bank0 := rfl
@[simp] theorem State.setAx_bank1 (s : State) (a : Nat) (x : Axis) : (s.setAx a x).bank1 = s.bank1 := rfl
@[simp] theorem State.setAx_loss (s : State) (a : Nat) (x : Axis) : (s.setAx a x).loss = s.loss := rfl
@[simp] theorem State.setAx_comp (s : State) (a : Nat) (x : Axis) : (s.setAx a x).comp = s.comp := rfl
@[simp] theorem State.setAx_rd (s : State) (a : Nat) (x : Axis) (x' : Nat) : (s.setAx a x).rd x' = s.rd x' := rfl

@[simp] theorem State.setCn_pending (s : State) (c : Nat) (x : Can) : (s.setCn c x).pending = s.pending := rfl
@[simp] theorem State.setCn_regs (s : State) (c : Nat) (x : Can) : (s.setCn c x).regs = s.regs := rfl
@[simp] theorem State.setCn_latch (s : State) (c : Nat) (x : Can) : (s.setCn c x).latch = s.latch := rfl
@[simp] theorem State.setCn_lastRead (s : State) (c : Nat) (x : Can) : (s.setCn c x).lastRead = s.lastRead := rfl
@[simp] theorem State.setCn_out (s : State) (c : Nat) (x : Can) : (s.setCn c x).out = s.out := rfl
@[simp] theorem State.setCn_free (s : State) (c : Nat) (x : Can) : (s.setCn c x).free = s.free := rfl
@[simp] theorem State.setCn_clk (s : State) (c : Nat) (x : Can) : (s.setCn c x).clk = s.clk := rfl
@[simp] theorem State.setCn_doms (s : State) (c : Nat) (x : Can) : (s.setCn c x).doms = s.doms := rfl
@[simp] theorem State.setCn_eth (s : State) (c : Nat) (x : Can) : (s.setCn c x).eth = s.eth := rfl
@[simp] theorem State.setCn_hif (s : State) (c : Nat) (x : Can) : (s.setCn c x).hif = s.hif := rfl
@[simp] theorem State.setCn_cfg (s : State) (c : Nat) (x : Can) : (s.setCn c x).cfg = s.cfg := rfl
@[simp] theorem State.setCn_axes (s : State) (c : Nat) (x : Can) : (s.setCn c x).axes = s.axes := rfl
@[simp] theorem State.setCn_saf (s : State) (c : Nat) (x : Can) : (s.setCn c x).saf = s.saf := rfl
@[simp] theorem State.setCn_slog (s : State) (c : Nat) (x : Can) : (s.setCn c x).slog = s.slog := rfl
@[simp] theorem State.setCn_flash (s : State) (c : Nat) (x : Can) : (s.setCn c x).flash = s.flash := rfl
@[simp] theorem State.setCn_fuses (s : State) (c : Nat) (x : Can) : (s.setCn c x).fuses = s.fuses := rfl
@[simp] theorem State.setCn_hm (s : State) (c : Nat) (x : Can) : (s.setCn c x).hm = s.hm := rfl
@[simp] theorem State.setCn_jobs (s : State) (c : Nat) (x : Can) : (s.setCn c x).jobs = s.jobs := rfl
@[simp] theorem State.setCn_bank0 (s : State) (c : Nat) (x : Can) : (s.setCn c x).bank0 = s.bank0 := rfl
@[simp] theorem State.setCn_bank1 (s : State) (c : Nat) (x : Can) : (s.setCn c x).bank1 = s.bank1 := rfl
@[simp] theorem State.setCn_loss (s : State) (c : Nat) (x : Can) : (s.setCn c x).loss = s.loss := rfl
@[simp] theorem State.setCn_comp (s : State) (c : Nat) (x : Can) : (s.setCn c x).comp = s.comp := rfl
@[simp] theorem State.setCn_rd (s : State) (c : Nat) (x : Can) (x' : Nat) : (s.setCn c x).rd x' = s.rd x' := rfl

@[simp] theorem State.setEp_pending (s : State) (p : Nat) (x : Eth) : (s.setEp p x).pending = s.pending := rfl
@[simp] theorem State.setEp_regs (s : State) (p : Nat) (x : Eth) : (s.setEp p x).regs = s.regs := rfl
@[simp] theorem State.setEp_latch (s : State) (p : Nat) (x : Eth) : (s.setEp p x).latch = s.latch := rfl
@[simp] theorem State.setEp_lastRead (s : State) (p : Nat) (x : Eth) : (s.setEp p x).lastRead = s.lastRead := rfl
@[simp] theorem State.setEp_out (s : State) (p : Nat) (x : Eth) : (s.setEp p x).out = s.out := rfl
@[simp] theorem State.setEp_free (s : State) (p : Nat) (x : Eth) : (s.setEp p x).free = s.free := rfl
@[simp] theorem State.setEp_clk (s : State) (p : Nat) (x : Eth) : (s.setEp p x).clk = s.clk := rfl
@[simp] theorem State.setEp_doms (s : State) (p : Nat) (x : Eth) : (s.setEp p x).doms = s.doms := rfl
@[simp] theorem State.setEp_hif (s : State) (p : Nat) (x : Eth) : (s.setEp p x).hif = s.hif := rfl
@[simp] theorem State.setEp_cfg (s : State) (p : Nat) (x : Eth) : (s.setEp p x).cfg = s.cfg := rfl
@[simp] theorem State.setEp_axes (s : State) (p : Nat) (x : Eth) : (s.setEp p x).axes = s.axes := rfl
@[simp] theorem State.setEp_can (s : State) (p : Nat) (x : Eth) : (s.setEp p x).can = s.can := rfl
@[simp] theorem State.setEp_saf (s : State) (p : Nat) (x : Eth) : (s.setEp p x).saf = s.saf := rfl
@[simp] theorem State.setEp_slog (s : State) (p : Nat) (x : Eth) : (s.setEp p x).slog = s.slog := rfl
@[simp] theorem State.setEp_flash (s : State) (p : Nat) (x : Eth) : (s.setEp p x).flash = s.flash := rfl
@[simp] theorem State.setEp_fuses (s : State) (p : Nat) (x : Eth) : (s.setEp p x).fuses = s.fuses := rfl
@[simp] theorem State.setEp_hm (s : State) (p : Nat) (x : Eth) : (s.setEp p x).hm = s.hm := rfl
@[simp] theorem State.setEp_jobs (s : State) (p : Nat) (x : Eth) : (s.setEp p x).jobs = s.jobs := rfl
@[simp] theorem State.setEp_bank0 (s : State) (p : Nat) (x : Eth) : (s.setEp p x).bank0 = s.bank0 := rfl
@[simp] theorem State.setEp_bank1 (s : State) (p : Nat) (x : Eth) : (s.setEp p x).bank1 = s.bank1 := rfl
@[simp] theorem State.setEp_loss (s : State) (p : Nat) (x : Eth) : (s.setEp p x).loss = s.loss := rfl
@[simp] theorem State.setEp_comp (s : State) (p : Nat) (x : Eth) : (s.setEp p x).comp = s.comp := rfl
@[simp] theorem State.setEp_rd (s : State) (p : Nat) (x : Eth) (x' : Nat) : (s.setEp p x).rd x' = s.rd x' := rfl

@[simp] theorem State.setDom_pending (s : State) (d : Nat) (x : Dom) : (s.setDom d x).pending = s.pending := rfl
@[simp] theorem State.setDom_regs (s : State) (d : Nat) (x : Dom) : (s.setDom d x).regs = s.regs := rfl
@[simp] theorem State.setDom_latch (s : State) (d : Nat) (x : Dom) : (s.setDom d x).latch = s.latch := rfl
@[simp] theorem State.setDom_lastRead (s : State) (d : Nat) (x : Dom) : (s.setDom d x).lastRead = s.lastRead := rfl
@[simp] theorem State.setDom_out (s : State) (d : Nat) (x : Dom) : (s.setDom d x).out = s.out := rfl
@[simp] theorem State.setDom_free (s : State) (d : Nat) (x : Dom) : (s.setDom d x).free = s.free := rfl
@[simp] theorem State.setDom_clk (s : State) (d : Nat) (x : Dom) : (s.setDom d x).clk = s.clk := rfl
@[simp] theorem State.setDom_eth (s : State) (d : Nat) (x : Dom) : (s.setDom d x).eth = s.eth := rfl
@[simp] theorem State.setDom_hif (s : State) (d : Nat) (x : Dom) : (s.setDom d x).hif = s.hif := rfl
@[simp] theorem State.setDom_cfg (s : State) (d : Nat) (x : Dom) : (s.setDom d x).cfg = s.cfg := rfl
@[simp] theorem State.setDom_axes (s : State) (d : Nat) (x : Dom) : (s.setDom d x).axes = s.axes := rfl
@[simp] theorem State.setDom_can (s : State) (d : Nat) (x : Dom) : (s.setDom d x).can = s.can := rfl
@[simp] theorem State.setDom_saf (s : State) (d : Nat) (x : Dom) : (s.setDom d x).saf = s.saf := rfl
@[simp] theorem State.setDom_slog (s : State) (d : Nat) (x : Dom) : (s.setDom d x).slog = s.slog := rfl
@[simp] theorem State.setDom_flash (s : State) (d : Nat) (x : Dom) : (s.setDom d x).flash = s.flash := rfl
@[simp] theorem State.setDom_fuses (s : State) (d : Nat) (x : Dom) : (s.setDom d x).fuses = s.fuses := rfl
@[simp] theorem State.setDom_hm (s : State) (d : Nat) (x : Dom) : (s.setDom d x).hm = s.hm := rfl
@[simp] theorem State.setDom_jobs (s : State) (d : Nat) (x : Dom) : (s.setDom d x).jobs = s.jobs := rfl
@[simp] theorem State.setDom_bank0 (s : State) (d : Nat) (x : Dom) : (s.setDom d x).bank0 = s.bank0 := rfl
@[simp] theorem State.setDom_bank1 (s : State) (d : Nat) (x : Dom) : (s.setDom d x).bank1 = s.bank1 := rfl
@[simp] theorem State.setDom_loss (s : State) (d : Nat) (x : Dom) : (s.setDom d x).loss = s.loss := rfl
@[simp] theorem State.setDom_comp (s : State) (d : Nat) (x : Dom) : (s.setDom d x).comp = s.comp := rfl
@[simp] theorem State.setDom_rd (s : State) (d : Nat) (x : Dom) (x' : Nat) : (s.setDom d x).rd x' = s.rd x' := rfl

@[simp] theorem State.setRing_pending (s : State) (r : Nat) (x : Ring) : (s.setRing r x).pending = s.pending := rfl
@[simp] theorem State.setRing_regs (s : State) (r : Nat) (x : Ring) : (s.setRing r x).regs = s.regs := rfl
@[simp] theorem State.setRing_latch (s : State) (r : Nat) (x : Ring) : (s.setRing r x).latch = s.latch := rfl
@[simp] theorem State.setRing_lastRead (s : State) (r : Nat) (x : Ring) : (s.setRing r x).lastRead = s.lastRead := rfl
@[simp] theorem State.setRing_out (s : State) (r : Nat) (x : Ring) : (s.setRing r x).out = s.out := rfl
@[simp] theorem State.setRing_free (s : State) (r : Nat) (x : Ring) : (s.setRing r x).free = s.free := rfl
@[simp] theorem State.setRing_clk (s : State) (r : Nat) (x : Ring) : (s.setRing r x).clk = s.clk := rfl
@[simp] theorem State.setRing_doms (s : State) (r : Nat) (x : Ring) : (s.setRing r x).doms = s.doms := rfl
@[simp] theorem State.setRing_eth (s : State) (r : Nat) (x : Ring) : (s.setRing r x).eth = s.eth := rfl
@[simp] theorem State.setRing_cfg (s : State) (r : Nat) (x : Ring) : (s.setRing r x).cfg = s.cfg := rfl
@[simp] theorem State.setRing_axes (s : State) (r : Nat) (x : Ring) : (s.setRing r x).axes = s.axes := rfl
@[simp] theorem State.setRing_can (s : State) (r : Nat) (x : Ring) : (s.setRing r x).can = s.can := rfl
@[simp] theorem State.setRing_saf (s : State) (r : Nat) (x : Ring) : (s.setRing r x).saf = s.saf := rfl
@[simp] theorem State.setRing_slog (s : State) (r : Nat) (x : Ring) : (s.setRing r x).slog = s.slog := rfl
@[simp] theorem State.setRing_flash (s : State) (r : Nat) (x : Ring) : (s.setRing r x).flash = s.flash := rfl
@[simp] theorem State.setRing_fuses (s : State) (r : Nat) (x : Ring) : (s.setRing r x).fuses = s.fuses := rfl
@[simp] theorem State.setRing_hm (s : State) (r : Nat) (x : Ring) : (s.setRing r x).hm = s.hm := rfl
@[simp] theorem State.setRing_jobs (s : State) (r : Nat) (x : Ring) : (s.setRing r x).jobs = s.jobs := rfl
@[simp] theorem State.setRing_bank0 (s : State) (r : Nat) (x : Ring) : (s.setRing r x).bank0 = s.bank0 := rfl
@[simp] theorem State.setRing_bank1 (s : State) (r : Nat) (x : Ring) : (s.setRing r x).bank1 = s.bank1 := rfl
@[simp] theorem State.setRing_loss (s : State) (r : Nat) (x : Ring) : (s.setRing r x).loss = s.loss := rfl
@[simp] theorem State.setRing_comp (s : State) (r : Nat) (x : Ring) : (s.setRing r x).comp = s.comp := rfl
@[simp] theorem State.setRing_rd (s : State) (r : Nat) (x : Ring) (x' : Nat) : (s.setRing r x).rd x' = s.rd x' := rfl

@[simp] theorem State.begin_pending (s : State) (r n : Nat) : (s.begin r n).pending = s.pending := rfl
@[simp] theorem State.begin_regs (s : State) (r n : Nat) : (s.begin r n).regs = s.regs := rfl
@[simp] theorem State.begin_latch (s : State) (r n : Nat) : (s.begin r n).latch = s.latch := rfl
@[simp] theorem State.begin_lastRead (s : State) (r n : Nat) : (s.begin r n).lastRead = s.lastRead := rfl
@[simp] theorem State.begin_out (s : State) (r n : Nat) : (s.begin r n).out = s.out := rfl
@[simp] theorem State.begin_free (s : State) (r n : Nat) : (s.begin r n).free = s.free := rfl
@[simp] theorem State.begin_clk (s : State) (r n : Nat) : (s.begin r n).clk = s.clk := rfl
@[simp] theorem State.begin_doms (s : State) (r n : Nat) : (s.begin r n).doms = s.doms := rfl
@[simp] theorem State.begin_eth (s : State) (r n : Nat) : (s.begin r n).eth = s.eth := rfl
@[simp] theorem State.begin_cfg (s : State) (r n : Nat) : (s.begin r n).cfg = s.cfg := rfl
@[simp] theorem State.begin_axes (s : State) (r n : Nat) : (s.begin r n).axes = s.axes := rfl
@[simp] theorem State.begin_can (s : State) (r n : Nat) : (s.begin r n).can = s.can := rfl
@[simp] theorem State.begin_saf (s : State) (r n : Nat) : (s.begin r n).saf = s.saf := rfl
@[simp] theorem State.begin_slog (s : State) (r n : Nat) : (s.begin r n).slog = s.slog := rfl
@[simp] theorem State.begin_flash (s : State) (r n : Nat) : (s.begin r n).flash = s.flash := rfl
@[simp] theorem State.begin_fuses (s : State) (r n : Nat) : (s.begin r n).fuses = s.fuses := rfl
@[simp] theorem State.begin_hm (s : State) (r n : Nat) : (s.begin r n).hm = s.hm := rfl
@[simp] theorem State.begin_jobs (s : State) (r n : Nat) : (s.begin r n).jobs = s.jobs := rfl
@[simp] theorem State.begin_bank0 (s : State) (r n : Nat) : (s.begin r n).bank0 = s.bank0 := rfl
@[simp] theorem State.begin_bank1 (s : State) (r n : Nat) : (s.begin r n).bank1 = s.bank1 := rfl
@[simp] theorem State.begin_loss (s : State) (r n : Nat) : (s.begin r n).loss = s.loss := rfl
@[simp] theorem State.begin_comp (s : State) (r n : Nat) : (s.begin r n).comp = s.comp := rfl
@[simp] theorem State.begin_rd (s : State) (r n : Nat) (x' : Nat) : (s.begin r n).rd x' = s.rd x' := rfl

@[simp] theorem State.setSst_pending (s : State) (st : Nat) (x : SafSt) : (s.setSst st x).pending = s.pending := rfl
@[simp] theorem State.setSst_regs (s : State) (st : Nat) (x : SafSt) : (s.setSst st x).regs = s.regs := rfl
@[simp] theorem State.setSst_latch (s : State) (st : Nat) (x : SafSt) : (s.setSst st x).latch = s.latch := rfl
@[simp] theorem State.setSst_lastRead (s : State) (st : Nat) (x : SafSt) : (s.setSst st x).lastRead = s.lastRead := rfl
@[simp] theorem State.setSst_out (s : State) (st : Nat) (x : SafSt) : (s.setSst st x).out = s.out := rfl
@[simp] theorem State.setSst_free (s : State) (st : Nat) (x : SafSt) : (s.setSst st x).free = s.free := rfl
@[simp] theorem State.setSst_clk (s : State) (st : Nat) (x : SafSt) : (s.setSst st x).clk = s.clk := rfl
@[simp] theorem State.setSst_doms (s : State) (st : Nat) (x : SafSt) : (s.setSst st x).doms = s.doms := rfl
@[simp] theorem State.setSst_eth (s : State) (st : Nat) (x : SafSt) : (s.setSst st x).eth = s.eth := rfl
@[simp] theorem State.setSst_hif (s : State) (st : Nat) (x : SafSt) : (s.setSst st x).hif = s.hif := rfl
@[simp] theorem State.setSst_cfg (s : State) (st : Nat) (x : SafSt) : (s.setSst st x).cfg = s.cfg := rfl
@[simp] theorem State.setSst_axes (s : State) (st : Nat) (x : SafSt) : (s.setSst st x).axes = s.axes := rfl
@[simp] theorem State.setSst_can (s : State) (st : Nat) (x : SafSt) : (s.setSst st x).can = s.can := rfl
@[simp] theorem State.setSst_slog (s : State) (st : Nat) (x : SafSt) : (s.setSst st x).slog = s.slog := rfl
@[simp] theorem State.setSst_flash (s : State) (st : Nat) (x : SafSt) : (s.setSst st x).flash = s.flash := rfl
@[simp] theorem State.setSst_fuses (s : State) (st : Nat) (x : SafSt) : (s.setSst st x).fuses = s.fuses := rfl
@[simp] theorem State.setSst_hm (s : State) (st : Nat) (x : SafSt) : (s.setSst st x).hm = s.hm := rfl
@[simp] theorem State.setSst_jobs (s : State) (st : Nat) (x : SafSt) : (s.setSst st x).jobs = s.jobs := rfl
@[simp] theorem State.setSst_bank0 (s : State) (st : Nat) (x : SafSt) : (s.setSst st x).bank0 = s.bank0 := rfl
@[simp] theorem State.setSst_bank1 (s : State) (st : Nat) (x : SafSt) : (s.setSst st x).bank1 = s.bank1 := rfl
@[simp] theorem State.setSst_loss (s : State) (st : Nat) (x : SafSt) : (s.setSst st x).loss = s.loss := rfl
@[simp] theorem State.setSst_comp (s : State) (st : Nat) (x : SafSt) : (s.setSst st x).comp = s.comp := rfl
@[simp] theorem State.setSst_rd (s : State) (st : Nat) (x : SafSt) (x' : Nat) : (s.setSst st x).rd x' = s.rd x' := rfl

@[simp] theorem State.bump_pending (s : State) : (s.bump).pending = s.pending := rfl
@[simp] theorem State.bump_regs (s : State) : (s.bump).regs = s.regs := rfl
@[simp] theorem State.bump_latch (s : State) : (s.bump).latch = s.latch := rfl
@[simp] theorem State.bump_lastRead (s : State) : (s.bump).lastRead = s.lastRead := rfl
@[simp] theorem State.bump_out (s : State) : (s.bump).out = s.out := rfl
@[simp] theorem State.bump_clk (s : State) : (s.bump).clk = s.clk := rfl
@[simp] theorem State.bump_doms (s : State) : (s.bump).doms = s.doms := rfl
@[simp] theorem State.bump_eth (s : State) : (s.bump).eth = s.eth := rfl
@[simp] theorem State.bump_hif (s : State) : (s.bump).hif = s.hif := rfl
@[simp] theorem State.bump_cfg (s : State) : (s.bump).cfg = s.cfg := rfl
@[simp] theorem State.bump_axes (s : State) : (s.bump).axes = s.axes := rfl
@[simp] theorem State.bump_can (s : State) : (s.bump).can = s.can := rfl
@[simp] theorem State.bump_saf (s : State) : (s.bump).saf = s.saf := rfl
@[simp] theorem State.bump_slog (s : State) : (s.bump).slog = s.slog := rfl
@[simp] theorem State.bump_flash (s : State) : (s.bump).flash = s.flash := rfl
@[simp] theorem State.bump_fuses (s : State) : (s.bump).fuses = s.fuses := rfl
@[simp] theorem State.bump_hm (s : State) : (s.bump).hm = s.hm := rfl
@[simp] theorem State.bump_jobs (s : State) : (s.bump).jobs = s.jobs := rfl
@[simp] theorem State.bump_bank0 (s : State) : (s.bump).bank0 = s.bank0 := rfl
@[simp] theorem State.bump_bank1 (s : State) : (s.bump).bank1 = s.bank1 := rfl
@[simp] theorem State.bump_loss (s : State) : (s.bump).loss = s.loss := rfl
@[simp] theorem State.bump_comp (s : State) : (s.bump).comp = s.comp := rfl
@[simp] theorem State.bump_rd (s : State) (x' : Nat) : (s.bump).rd x' = s.rd x' := rfl

@[simp] theorem State.emit_pending (s : State) (o : Out) : (s.emit o).pending = s.pending := rfl
@[simp] theorem State.emit_regs (s : State) (o : Out) : (s.emit o).regs = s.regs := rfl
@[simp] theorem State.emit_latch (s : State) (o : Out) : (s.emit o).latch = s.latch := rfl
@[simp] theorem State.emit_lastRead (s : State) (o : Out) : (s.emit o).lastRead = s.lastRead := rfl
@[simp] theorem State.emit_free (s : State) (o : Out) : (s.emit o).free = s.free := rfl
@[simp] theorem State.emit_clk (s : State) (o : Out) : (s.emit o).clk = s.clk := rfl
@[simp] theorem State.emit_doms (s : State) (o : Out) : (s.emit o).doms = s.doms := rfl
@[simp] theorem State.emit_eth (s : State) (o : Out) : (s.emit o).eth = s.eth := rfl
@[simp] theorem State.emit_hif (s : State) (o : Out) : (s.emit o).hif = s.hif := rfl
@[simp] theorem State.emit_cfg (s : State) (o : Out) : (s.emit o).cfg = s.cfg := rfl
@[simp] theorem State.emit_axes (s : State) (o : Out) : (s.emit o).axes = s.axes := rfl
@[simp] theorem State.emit_can (s : State) (o : Out) : (s.emit o).can = s.can := rfl
@[simp] theorem State.emit_saf (s : State) (o : Out) : (s.emit o).saf = s.saf := rfl
@[simp] theorem State.emit_slog (s : State) (o : Out) : (s.emit o).slog = s.slog := rfl
@[simp] theorem State.emit_flash (s : State) (o : Out) : (s.emit o).flash = s.flash := rfl
@[simp] theorem State.emit_fuses (s : State) (o : Out) : (s.emit o).fuses = s.fuses := rfl
@[simp] theorem State.emit_hm (s : State) (o : Out) : (s.emit o).hm = s.hm := rfl
@[simp] theorem State.emit_jobs (s : State) (o : Out) : (s.emit o).jobs = s.jobs := rfl
@[simp] theorem State.emit_bank0 (s : State) (o : Out) : (s.emit o).bank0 = s.bank0 := rfl
@[simp] theorem State.emit_bank1 (s : State) (o : Out) : (s.emit o).bank1 = s.bank1 := rfl
@[simp] theorem State.emit_loss (s : State) (o : Out) : (s.emit o).loss = s.loss := rfl
@[simp] theorem State.emit_comp (s : State) (o : Out) : (s.emit o).comp = s.comp := rfl
@[simp] theorem State.emit_rd (s : State) (o : Out) (x' : Nat) : (s.emit o).rd x' = s.rd x' := rfl

@[simp] theorem State.setJobs_pending (s : State) (l : List Job) : (s.setJobs l).pending = s.pending := rfl
@[simp] theorem State.setJobs_regs (s : State) (l : List Job) : (s.setJobs l).regs = s.regs := rfl
@[simp] theorem State.setJobs_latch (s : State) (l : List Job) : (s.setJobs l).latch = s.latch := rfl
@[simp] theorem State.setJobs_lastRead (s : State) (l : List Job) : (s.setJobs l).lastRead = s.lastRead := rfl
@[simp] theorem State.setJobs_out (s : State) (l : List Job) : (s.setJobs l).out = s.out := rfl
@[simp] theorem State.setJobs_free (s : State) (l : List Job) : (s.setJobs l).free = s.free := rfl
@[simp] theorem State.setJobs_clk (s : State) (l : List Job) : (s.setJobs l).clk = s.clk := rfl
@[simp] theorem State.setJobs_doms (s : State) (l : List Job) : (s.setJobs l).doms = s.doms := rfl
@[simp] theorem State.setJobs_eth (s : State) (l : List Job) : (s.setJobs l).eth = s.eth := rfl
@[simp] theorem State.setJobs_hif (s : State) (l : List Job) : (s.setJobs l).hif = s.hif := rfl
@[simp] theorem State.setJobs_cfg (s : State) (l : List Job) : (s.setJobs l).cfg = s.cfg := rfl
@[simp] theorem State.setJobs_axes (s : State) (l : List Job) : (s.setJobs l).axes = s.axes := rfl
@[simp] theorem State.setJobs_can (s : State) (l : List Job) : (s.setJobs l).can = s.can := rfl
@[simp] theorem State.setJobs_saf (s : State) (l : List Job) : (s.setJobs l).saf = s.saf := rfl
@[simp] theorem State.setJobs_slog (s : State) (l : List Job) : (s.setJobs l).slog = s.slog := rfl
@[simp] theorem State.setJobs_flash (s : State) (l : List Job) : (s.setJobs l).flash = s.flash := rfl
@[simp] theorem State.setJobs_fuses (s : State) (l : List Job) : (s.setJobs l).fuses = s.fuses := rfl
@[simp] theorem State.setJobs_hm (s : State) (l : List Job) : (s.setJobs l).hm = s.hm := rfl
@[simp] theorem State.setJobs_bank0 (s : State) (l : List Job) : (s.setJobs l).bank0 = s.bank0 := rfl
@[simp] theorem State.setJobs_bank1 (s : State) (l : List Job) : (s.setJobs l).bank1 = s.bank1 := rfl
@[simp] theorem State.setJobs_loss (s : State) (l : List Job) : (s.setJobs l).loss = s.loss := rfl
@[simp] theorem State.setJobs_comp (s : State) (l : List Job) : (s.setJobs l).comp = s.comp := rfl
@[simp] theorem State.setJobs_rd (s : State) (l : List Job) (x' : Nat) : (s.setJobs l).rd x' = s.rd x' := rfl

@[simp] theorem State.updJob_pending (s : State) (i : Nat) (f : Job → Job) : (s.updJob i f).pending = s.pending := rfl
@[simp] theorem State.updJob_regs (s : State) (i : Nat) (f : Job → Job) : (s.updJob i f).regs = s.regs := rfl
@[simp] theorem State.updJob_latch (s : State) (i : Nat) (f : Job → Job) : (s.updJob i f).latch = s.latch := rfl
@[simp] theorem State.updJob_lastRead (s : State) (i : Nat) (f : Job → Job) : (s.updJob i f).lastRead = s.lastRead := rfl
@[simp] theorem State.updJob_out (s : State) (i : Nat) (f : Job → Job) : (s.updJob i f).out = s.out := rfl
@[simp] theorem State.updJob_free (s : State) (i : Nat) (f : Job → Job) : (s.updJob i f).free = s.free := rfl
@[simp] theorem State.updJob_clk (s : State) (i : Nat) (f : Job → Job) : (s.updJob i f).clk = s.clk := rfl
@[simp] theorem State.updJob_doms (s : State) (i : Nat) (f : Job → Job) : (s.updJob i f).doms = s.doms := rfl
@[simp] theorem State.updJob_eth (s : State) (i : Nat) (f : Job → Job) : (s.updJob i f).eth = s.eth := rfl
@[simp] theorem State.updJob_hif (s : State) (i : Nat) (f : Job → Job) : (s.updJob i f).hif = s.hif := rfl
@[simp] theorem State.updJob_cfg (s : State) (i : Nat) (f : Job → Job) : (s.updJob i f).cfg = s.cfg := rfl
@[simp] theorem State.updJob_axes (s : State) (i : Nat) (f : Job → Job) : (s.updJob i f).axes = s.axes := rfl
@[simp] theorem State.updJob_can (s : State) (i : Nat) (f : Job → Job) : (s.updJob i f).can = s.can := rfl
@[simp] theorem State.updJob_saf (s : State) (i : Nat) (f : Job → Job) : (s.updJob i f).saf = s.saf := rfl
@[simp] theorem State.updJob_slog (s : State) (i : Nat) (f : Job → Job) : (s.updJob i f).slog = s.slog := rfl
@[simp] theorem State.updJob_flash (s : State) (i : Nat) (f : Job → Job) : (s.updJob i f).flash = s.flash := rfl
@[simp] theorem State.updJob_fuses (s : State) (i : Nat) (f : Job → Job) : (s.updJob i f).fuses = s.fuses := rfl
@[simp] theorem State.updJob_hm (s : State) (i : Nat) (f : Job → Job) : (s.updJob i f).hm = s.hm := rfl
@[simp] theorem State.updJob_bank0 (s : State) (i : Nat) (f : Job → Job) : (s.updJob i f).bank0 = s.bank0 := rfl
@[simp] theorem State.updJob_bank1 (s : State) (i : Nat) (f : Job → Job) : (s.updJob i f).bank1 = s.bank1 := rfl
@[simp] theorem State.updJob_loss (s : State) (i : Nat) (f : Job → Job) : (s.updJob i f).loss = s.loss := rfl
@[simp] theorem State.updJob_comp (s : State) (i : Nat) (f : Job → Job) : (s.updJob i f).comp = s.comp := rfl
@[simp] theorem State.updJob_rd (s : State) (i : Nat) (f : Job → Job) (x' : Nat) : (s.updJob i f).rd x' = s.rd x' := rfl

@[simp] theorem State.setMem_pending (s : State) (d : Nat) (m : Tbl Byte) : (s.setMem d m).pending = s.pending := rfl
@[simp] theorem State.setMem_regs (s : State) (d : Nat) (m : Tbl Byte) : (s.setMem d m).regs = s.regs := rfl
@[simp] theorem State.setMem_latch (s : State) (d : Nat) (m : Tbl Byte) : (s.setMem d m).latch = s.latch := rfl
@[simp] theorem State.setMem_lastRead (s : State) (d : Nat) (m : Tbl Byte) : (s.setMem d m).lastRead = s.lastRead := rfl
@[simp] theorem State.setMem_out (s : State) (d : Nat) (m : Tbl Byte) : (s.setMem d m).out = s.out := rfl
@[simp] theorem State.setMem_free (s : State) (d : Nat) (m : Tbl Byte) : (s.setMem d m).free = s.free := rfl
@[simp] theorem State.setMem_clk (s : State) (d : Nat) (m : Tbl Byte) : (s.setMem d m).clk = s.clk := rfl
@[simp] theorem State.setMem_doms (s : State) (d : Nat) (m : Tbl Byte) : (s.setMem d m).doms = s.doms := rfl
@[simp] theorem State.setMem_eth (s : State) (d : Nat) (m : Tbl Byte) : (s.setMem d m).eth = s.eth := rfl
@[simp] theorem State.setMem_hif (s : State) (d : Nat) (m : Tbl Byte) : (s.setMem d m).hif = s.hif := rfl
@[simp] theorem State.setMem_cfg (s : State) (d : Nat) (m : Tbl Byte) : (s.setMem d m).cfg = s.cfg := rfl
@[simp] theorem State.setMem_axes (s : State) (d : Nat) (m : Tbl Byte) : (s.setMem d m).axes = s.axes := rfl
@[simp] theorem State.setMem_can (s : State) (d : Nat) (m : Tbl Byte) : (s.setMem d m).can = s.can := rfl
@[simp] theorem State.setMem_saf (s : State) (d : Nat) (m : Tbl Byte) : (s.setMem d m).saf = s.saf := rfl
@[simp] theorem State.setMem_slog (s : State) (d : Nat) (m : Tbl Byte) : (s.setMem d m).slog = s.slog := rfl
@[simp] theorem State.setMem_flash (s : State) (d : Nat) (m : Tbl Byte) : (s.setMem d m).flash = s.flash := rfl
@[simp] theorem State.setMem_fuses (s : State) (d : Nat) (m : Tbl Byte) : (s.setMem d m).fuses = s.fuses := rfl
@[simp] theorem State.setMem_hm (s : State) (d : Nat) (m : Tbl Byte) : (s.setMem d m).hm = s.hm := rfl
@[simp] theorem State.setMem_jobs (s : State) (d : Nat) (m : Tbl Byte) : (s.setMem d m).jobs = s.jobs := rfl
@[simp] theorem State.setMem_bank0 (s : State) (d : Nat) (m : Tbl Byte) : (s.setMem d m).bank0 = s.bank0 := rfl
@[simp] theorem State.setMem_bank1 (s : State) (d : Nat) (m : Tbl Byte) : (s.setMem d m).bank1 = s.bank1 := rfl
@[simp] theorem State.setMem_loss (s : State) (d : Nat) (m : Tbl Byte) : (s.setMem d m).loss = s.loss := rfl
@[simp] theorem State.setMem_pkgs (s : State) (d : Nat) (m : Tbl Byte) : (s.setMem d m).comp.pkgs = s.comp.pkgs := rfl
@[simp] theorem State.setMem_lastJob (s : State) (d : Nat) (m : Tbl Byte) : (s.setMem d m).comp.lastJob = s.comp.lastJob := rfl
@[simp] theorem State.setMem_cores (s : State) (d : Nat) (m : Tbl Byte) : (s.setMem d m).comp.cores = s.comp.cores := rfl
@[simp] theorem State.setMem_chans (s : State) (d : Nat) (m : Tbl Byte) : (s.setMem d m).comp.chans = s.comp.chans := rfl
@[simp] theorem State.setMem_berths (s : State) (d : Nat) (m : Tbl Byte) : (s.setMem d m).comp.berths = s.comp.berths := rfl
@[simp] theorem State.setMem_dirty (s : State) (d : Nat) (m : Tbl Byte) : (s.setMem d m).comp.dirty = s.comp.dirty := rfl
@[simp] theorem State.setMem_kv (s : State) (d : Nat) (m : Tbl Byte) : (s.setMem d m).comp.kv = s.comp.kv := rfl
@[simp] theorem State.setMem_kvd (s : State) (d : Nat) (m : Tbl Byte) : (s.setMem d m).comp.kvd = s.comp.kvd := rfl
@[simp] theorem State.setMem_lnks (s : State) (d : Nat) (m : Tbl Byte) : (s.setMem d m).comp.lnks = s.comp.lnks := rfl
@[simp] theorem State.setMem_fab (s : State) (d : Nat) (m : Tbl Byte) : (s.setMem d m).comp.fab = s.comp.fab := rfl
@[simp] theorem State.setMem_strm (s : State) (d : Nat) (m : Tbl Byte) : (s.setMem d m).comp.strm = s.comp.strm := rfl
@[simp] theorem State.setMem_scrubs (s : State) (d : Nat) (m : Tbl Byte) : (s.setMem d m).comp.scrubs = s.comp.scrubs := rfl
@[simp] theorem State.setMem_cycNext (s : State) (d : Nat) (m : Tbl Byte) : (s.setMem d m).comp.cycNext = s.comp.cycNext := rfl
@[simp] theorem State.setMem_tly (s : State) (d : Nat) (m : Tbl Byte) : (s.setMem d m).comp.tly = s.comp.tly := rfl
@[simp] theorem State.setMem_lost (s : State) (d : Nat) (m : Tbl Byte) : (s.setMem d m).comp.lost = s.comp.lost := rfl
@[simp] theorem State.setMem_rd (s : State) (d : Nat) (m : Tbl Byte) (x' : Nat) : (s.setMem d m).rd x' = s.rd x' := rfl

@[simp] theorem State.setCore_pending (s : State) (d k : Nat) (x : Core) : (s.setCore d k x).pending = s.pending := rfl
@[simp] theorem State.setCore_regs (s : State) (d k : Nat) (x : Core) : (s.setCore d k x).regs = s.regs := rfl
@[simp] theorem State.setCore_latch (s : State) (d k : Nat) (x : Core) : (s.setCore d k x).latch = s.latch := rfl
@[simp] theorem State.setCore_lastRead (s : State) (d k : Nat) (x : Core) : (s.setCore d k x).lastRead = s.lastRead := rfl
@[simp] theorem State.setCore_out (s : State) (d k : Nat) (x : Core) : (s.setCore d k x).out = s.out := rfl
@[simp] theorem State.setCore_free (s : State) (d k : Nat) (x : Core) : (s.setCore d k x).free = s.free := rfl
@[simp] theorem State.setCore_clk (s : State) (d k : Nat) (x : Core) : (s.setCore d k x).clk = s.clk := rfl
@[simp] theorem State.setCore_doms (s : State) (d k : Nat) (x : Core) : (s.setCore d k x).doms = s.doms := rfl
@[simp] theorem State.setCore_eth (s : State) (d k : Nat) (x : Core) : (s.setCore d k x).eth = s.eth := rfl
@[simp] theorem State.setCore_hif (s : State) (d k : Nat) (x : Core) : (s.setCore d k x).hif = s.hif := rfl
@[simp] theorem State.setCore_cfg (s : State) (d k : Nat) (x : Core) : (s.setCore d k x).cfg = s.cfg := rfl
@[simp] theorem State.setCore_axes (s : State) (d k : Nat) (x : Core) : (s.setCore d k x).axes = s.axes := rfl
@[simp] theorem State.setCore_can (s : State) (d k : Nat) (x : Core) : (s.setCore d k x).can = s.can := rfl
@[simp] theorem State.setCore_saf (s : State) (d k : Nat) (x : Core) : (s.setCore d k x).saf = s.saf := rfl
@[simp] theorem State.setCore_slog (s : State) (d k : Nat) (x : Core) : (s.setCore d k x).slog = s.slog := rfl
@[simp] theorem State.setCore_flash (s : State) (d k : Nat) (x : Core) : (s.setCore d k x).flash = s.flash := rfl
@[simp] theorem State.setCore_fuses (s : State) (d k : Nat) (x : Core) : (s.setCore d k x).fuses = s.fuses := rfl
@[simp] theorem State.setCore_hm (s : State) (d k : Nat) (x : Core) : (s.setCore d k x).hm = s.hm := rfl
@[simp] theorem State.setCore_jobs (s : State) (d k : Nat) (x : Core) : (s.setCore d k x).jobs = s.jobs := rfl
@[simp] theorem State.setCore_bank0 (s : State) (d k : Nat) (x : Core) : (s.setCore d k x).bank0 = s.bank0 := rfl
@[simp] theorem State.setCore_bank1 (s : State) (d k : Nat) (x : Core) : (s.setCore d k x).bank1 = s.bank1 := rfl
@[simp] theorem State.setCore_loss (s : State) (d k : Nat) (x : Core) : (s.setCore d k x).loss = s.loss := rfl
@[simp] theorem State.setCore_pkgs (s : State) (d k : Nat) (x : Core) : (s.setCore d k x).comp.pkgs = s.comp.pkgs := rfl
@[simp] theorem State.setCore_lastJob (s : State) (d k : Nat) (x : Core) : (s.setCore d k x).comp.lastJob = s.comp.lastJob := rfl
@[simp] theorem State.setCore_chans (s : State) (d k : Nat) (x : Core) : (s.setCore d k x).comp.chans = s.comp.chans := rfl
@[simp] theorem State.setCore_berths (s : State) (d k : Nat) (x : Core) : (s.setCore d k x).comp.berths = s.comp.berths := rfl
@[simp] theorem State.setCore_mems (s : State) (d k : Nat) (x : Core) : (s.setCore d k x).comp.mems = s.comp.mems := rfl
@[simp] theorem State.setCore_dirty (s : State) (d k : Nat) (x : Core) : (s.setCore d k x).comp.dirty = s.comp.dirty := rfl
@[simp] theorem State.setCore_kv (s : State) (d k : Nat) (x : Core) : (s.setCore d k x).comp.kv = s.comp.kv := rfl
@[simp] theorem State.setCore_kvd (s : State) (d k : Nat) (x : Core) : (s.setCore d k x).comp.kvd = s.comp.kvd := rfl
@[simp] theorem State.setCore_lnks (s : State) (d k : Nat) (x : Core) : (s.setCore d k x).comp.lnks = s.comp.lnks := rfl
@[simp] theorem State.setCore_fab (s : State) (d k : Nat) (x : Core) : (s.setCore d k x).comp.fab = s.comp.fab := rfl
@[simp] theorem State.setCore_strm (s : State) (d k : Nat) (x : Core) : (s.setCore d k x).comp.strm = s.comp.strm := rfl
@[simp] theorem State.setCore_scrubs (s : State) (d k : Nat) (x : Core) : (s.setCore d k x).comp.scrubs = s.comp.scrubs := rfl
@[simp] theorem State.setCore_cycNext (s : State) (d k : Nat) (x : Core) : (s.setCore d k x).comp.cycNext = s.comp.cycNext := rfl
@[simp] theorem State.setCore_tly (s : State) (d k : Nat) (x : Core) : (s.setCore d k x).comp.tly = s.comp.tly := rfl
@[simp] theorem State.setCore_lost (s : State) (d k : Nat) (x : Core) : (s.setCore d k x).comp.lost = s.comp.lost := rfl
@[simp] theorem State.setCore_rd (s : State) (d k : Nat) (x : Core) (x' : Nat) : (s.setCore d k x).rd x' = s.rd x' := rfl

@[simp] theorem State.setChan_pending (s : State) (d k c : Nat) (x : Chan) : (s.setChan d k c x).pending = s.pending := rfl
@[simp] theorem State.setChan_regs (s : State) (d k c : Nat) (x : Chan) : (s.setChan d k c x).regs = s.regs := rfl
@[simp] theorem State.setChan_latch (s : State) (d k c : Nat) (x : Chan) : (s.setChan d k c x).latch = s.latch := rfl
@[simp] theorem State.setChan_lastRead (s : State) (d k c : Nat) (x : Chan) : (s.setChan d k c x).lastRead = s.lastRead := rfl
@[simp] theorem State.setChan_out (s : State) (d k c : Nat) (x : Chan) : (s.setChan d k c x).out = s.out := rfl
@[simp] theorem State.setChan_free (s : State) (d k c : Nat) (x : Chan) : (s.setChan d k c x).free = s.free := rfl
@[simp] theorem State.setChan_clk (s : State) (d k c : Nat) (x : Chan) : (s.setChan d k c x).clk = s.clk := rfl
@[simp] theorem State.setChan_doms (s : State) (d k c : Nat) (x : Chan) : (s.setChan d k c x).doms = s.doms := rfl
@[simp] theorem State.setChan_eth (s : State) (d k c : Nat) (x : Chan) : (s.setChan d k c x).eth = s.eth := rfl
@[simp] theorem State.setChan_hif (s : State) (d k c : Nat) (x : Chan) : (s.setChan d k c x).hif = s.hif := rfl
@[simp] theorem State.setChan_cfg (s : State) (d k c : Nat) (x : Chan) : (s.setChan d k c x).cfg = s.cfg := rfl
@[simp] theorem State.setChan_axes (s : State) (d k c : Nat) (x : Chan) : (s.setChan d k c x).axes = s.axes := rfl
@[simp] theorem State.setChan_can (s : State) (d k c : Nat) (x : Chan) : (s.setChan d k c x).can = s.can := rfl
@[simp] theorem State.setChan_saf (s : State) (d k c : Nat) (x : Chan) : (s.setChan d k c x).saf = s.saf := rfl
@[simp] theorem State.setChan_slog (s : State) (d k c : Nat) (x : Chan) : (s.setChan d k c x).slog = s.slog := rfl
@[simp] theorem State.setChan_flash (s : State) (d k c : Nat) (x : Chan) : (s.setChan d k c x).flash = s.flash := rfl
@[simp] theorem State.setChan_fuses (s : State) (d k c : Nat) (x : Chan) : (s.setChan d k c x).fuses = s.fuses := rfl
@[simp] theorem State.setChan_hm (s : State) (d k c : Nat) (x : Chan) : (s.setChan d k c x).hm = s.hm := rfl
@[simp] theorem State.setChan_jobs (s : State) (d k c : Nat) (x : Chan) : (s.setChan d k c x).jobs = s.jobs := rfl
@[simp] theorem State.setChan_bank0 (s : State) (d k c : Nat) (x : Chan) : (s.setChan d k c x).bank0 = s.bank0 := rfl
@[simp] theorem State.setChan_bank1 (s : State) (d k c : Nat) (x : Chan) : (s.setChan d k c x).bank1 = s.bank1 := rfl
@[simp] theorem State.setChan_loss (s : State) (d k c : Nat) (x : Chan) : (s.setChan d k c x).loss = s.loss := rfl
@[simp] theorem State.setChan_pkgs (s : State) (d k c : Nat) (x : Chan) : (s.setChan d k c x).comp.pkgs = s.comp.pkgs := rfl
@[simp] theorem State.setChan_lastJob (s : State) (d k c : Nat) (x : Chan) : (s.setChan d k c x).comp.lastJob = s.comp.lastJob := rfl
@[simp] theorem State.setChan_cores (s : State) (d k c : Nat) (x : Chan) : (s.setChan d k c x).comp.cores = s.comp.cores := rfl
@[simp] theorem State.setChan_berths (s : State) (d k c : Nat) (x : Chan) : (s.setChan d k c x).comp.berths = s.comp.berths := rfl
@[simp] theorem State.setChan_mems (s : State) (d k c : Nat) (x : Chan) : (s.setChan d k c x).comp.mems = s.comp.mems := rfl
@[simp] theorem State.setChan_dirty (s : State) (d k c : Nat) (x : Chan) : (s.setChan d k c x).comp.dirty = s.comp.dirty := rfl
@[simp] theorem State.setChan_kv (s : State) (d k c : Nat) (x : Chan) : (s.setChan d k c x).comp.kv = s.comp.kv := rfl
@[simp] theorem State.setChan_kvd (s : State) (d k c : Nat) (x : Chan) : (s.setChan d k c x).comp.kvd = s.comp.kvd := rfl
@[simp] theorem State.setChan_lnks (s : State) (d k c : Nat) (x : Chan) : (s.setChan d k c x).comp.lnks = s.comp.lnks := rfl
@[simp] theorem State.setChan_fab (s : State) (d k c : Nat) (x : Chan) : (s.setChan d k c x).comp.fab = s.comp.fab := rfl
@[simp] theorem State.setChan_strm (s : State) (d k c : Nat) (x : Chan) : (s.setChan d k c x).comp.strm = s.comp.strm := rfl
@[simp] theorem State.setChan_scrubs (s : State) (d k c : Nat) (x : Chan) : (s.setChan d k c x).comp.scrubs = s.comp.scrubs := rfl
@[simp] theorem State.setChan_cycNext (s : State) (d k c : Nat) (x : Chan) : (s.setChan d k c x).comp.cycNext = s.comp.cycNext := rfl
@[simp] theorem State.setChan_tly (s : State) (d k c : Nat) (x : Chan) : (s.setChan d k c x).comp.tly = s.comp.tly := rfl
@[simp] theorem State.setChan_lost (s : State) (d k c : Nat) (x : Chan) : (s.setChan d k c x).comp.lost = s.comp.lost := rfl
@[simp] theorem State.setChan_rd (s : State) (d k c : Nat) (x : Chan) (x' : Nat) : (s.setChan d k c x).rd x' = s.rd x' := rfl

@[simp] theorem State.setBerth_pending (s : State) (d b : Nat) (x : Berth) : (s.setBerth d b x).pending = s.pending := rfl
@[simp] theorem State.setBerth_regs (s : State) (d b : Nat) (x : Berth) : (s.setBerth d b x).regs = s.regs := rfl
@[simp] theorem State.setBerth_latch (s : State) (d b : Nat) (x : Berth) : (s.setBerth d b x).latch = s.latch := rfl
@[simp] theorem State.setBerth_lastRead (s : State) (d b : Nat) (x : Berth) : (s.setBerth d b x).lastRead = s.lastRead := rfl
@[simp] theorem State.setBerth_out (s : State) (d b : Nat) (x : Berth) : (s.setBerth d b x).out = s.out := rfl
@[simp] theorem State.setBerth_free (s : State) (d b : Nat) (x : Berth) : (s.setBerth d b x).free = s.free := rfl
@[simp] theorem State.setBerth_clk (s : State) (d b : Nat) (x : Berth) : (s.setBerth d b x).clk = s.clk := rfl
@[simp] theorem State.setBerth_doms (s : State) (d b : Nat) (x : Berth) : (s.setBerth d b x).doms = s.doms := rfl
@[simp] theorem State.setBerth_eth (s : State) (d b : Nat) (x : Berth) : (s.setBerth d b x).eth = s.eth := rfl
@[simp] theorem State.setBerth_hif (s : State) (d b : Nat) (x : Berth) : (s.setBerth d b x).hif = s.hif := rfl
@[simp] theorem State.setBerth_cfg (s : State) (d b : Nat) (x : Berth) : (s.setBerth d b x).cfg = s.cfg := rfl
@[simp] theorem State.setBerth_axes (s : State) (d b : Nat) (x : Berth) : (s.setBerth d b x).axes = s.axes := rfl
@[simp] theorem State.setBerth_can (s : State) (d b : Nat) (x : Berth) : (s.setBerth d b x).can = s.can := rfl
@[simp] theorem State.setBerth_saf (s : State) (d b : Nat) (x : Berth) : (s.setBerth d b x).saf = s.saf := rfl
@[simp] theorem State.setBerth_slog (s : State) (d b : Nat) (x : Berth) : (s.setBerth d b x).slog = s.slog := rfl
@[simp] theorem State.setBerth_flash (s : State) (d b : Nat) (x : Berth) : (s.setBerth d b x).flash = s.flash := rfl
@[simp] theorem State.setBerth_fuses (s : State) (d b : Nat) (x : Berth) : (s.setBerth d b x).fuses = s.fuses := rfl
@[simp] theorem State.setBerth_hm (s : State) (d b : Nat) (x : Berth) : (s.setBerth d b x).hm = s.hm := rfl
@[simp] theorem State.setBerth_jobs (s : State) (d b : Nat) (x : Berth) : (s.setBerth d b x).jobs = s.jobs := rfl
@[simp] theorem State.setBerth_bank0 (s : State) (d b : Nat) (x : Berth) : (s.setBerth d b x).bank0 = s.bank0 := rfl
@[simp] theorem State.setBerth_bank1 (s : State) (d b : Nat) (x : Berth) : (s.setBerth d b x).bank1 = s.bank1 := rfl
@[simp] theorem State.setBerth_loss (s : State) (d b : Nat) (x : Berth) : (s.setBerth d b x).loss = s.loss := rfl
@[simp] theorem State.setBerth_pkgs (s : State) (d b : Nat) (x : Berth) : (s.setBerth d b x).comp.pkgs = s.comp.pkgs := rfl
@[simp] theorem State.setBerth_lastJob (s : State) (d b : Nat) (x : Berth) : (s.setBerth d b x).comp.lastJob = s.comp.lastJob := rfl
@[simp] theorem State.setBerth_cores (s : State) (d b : Nat) (x : Berth) : (s.setBerth d b x).comp.cores = s.comp.cores := rfl
@[simp] theorem State.setBerth_chans (s : State) (d b : Nat) (x : Berth) : (s.setBerth d b x).comp.chans = s.comp.chans := rfl
@[simp] theorem State.setBerth_mems (s : State) (d b : Nat) (x : Berth) : (s.setBerth d b x).comp.mems = s.comp.mems := rfl
@[simp] theorem State.setBerth_dirty (s : State) (d b : Nat) (x : Berth) : (s.setBerth d b x).comp.dirty = s.comp.dirty := rfl
@[simp] theorem State.setBerth_kv (s : State) (d b : Nat) (x : Berth) : (s.setBerth d b x).comp.kv = s.comp.kv := rfl
@[simp] theorem State.setBerth_kvd (s : State) (d b : Nat) (x : Berth) : (s.setBerth d b x).comp.kvd = s.comp.kvd := rfl
@[simp] theorem State.setBerth_lnks (s : State) (d b : Nat) (x : Berth) : (s.setBerth d b x).comp.lnks = s.comp.lnks := rfl
@[simp] theorem State.setBerth_fab (s : State) (d b : Nat) (x : Berth) : (s.setBerth d b x).comp.fab = s.comp.fab := rfl
@[simp] theorem State.setBerth_strm (s : State) (d b : Nat) (x : Berth) : (s.setBerth d b x).comp.strm = s.comp.strm := rfl
@[simp] theorem State.setBerth_scrubs (s : State) (d b : Nat) (x : Berth) : (s.setBerth d b x).comp.scrubs = s.comp.scrubs := rfl
@[simp] theorem State.setBerth_cycNext (s : State) (d b : Nat) (x : Berth) : (s.setBerth d b x).comp.cycNext = s.comp.cycNext := rfl
@[simp] theorem State.setBerth_tly (s : State) (d b : Nat) (x : Berth) : (s.setBerth d b x).comp.tly = s.comp.tly := rfl
@[simp] theorem State.setBerth_lost (s : State) (d b : Nat) (x : Berth) : (s.setBerth d b x).comp.lost = s.comp.lost := rfl
@[simp] theorem State.setBerth_rd (s : State) (d b : Nat) (x : Berth) (x' : Nat) : (s.setBerth d b x).rd x' = s.rd x' := rfl

@[simp] theorem State.setKvDie_pending (s : State) (d : Nat) (x : KvDie) : (s.setKvDie d x).pending = s.pending := rfl
@[simp] theorem State.setKvDie_regs (s : State) (d : Nat) (x : KvDie) : (s.setKvDie d x).regs = s.regs := rfl
@[simp] theorem State.setKvDie_latch (s : State) (d : Nat) (x : KvDie) : (s.setKvDie d x).latch = s.latch := rfl
@[simp] theorem State.setKvDie_lastRead (s : State) (d : Nat) (x : KvDie) : (s.setKvDie d x).lastRead = s.lastRead := rfl
@[simp] theorem State.setKvDie_out (s : State) (d : Nat) (x : KvDie) : (s.setKvDie d x).out = s.out := rfl
@[simp] theorem State.setKvDie_free (s : State) (d : Nat) (x : KvDie) : (s.setKvDie d x).free = s.free := rfl
@[simp] theorem State.setKvDie_clk (s : State) (d : Nat) (x : KvDie) : (s.setKvDie d x).clk = s.clk := rfl
@[simp] theorem State.setKvDie_doms (s : State) (d : Nat) (x : KvDie) : (s.setKvDie d x).doms = s.doms := rfl
@[simp] theorem State.setKvDie_eth (s : State) (d : Nat) (x : KvDie) : (s.setKvDie d x).eth = s.eth := rfl
@[simp] theorem State.setKvDie_hif (s : State) (d : Nat) (x : KvDie) : (s.setKvDie d x).hif = s.hif := rfl
@[simp] theorem State.setKvDie_cfg (s : State) (d : Nat) (x : KvDie) : (s.setKvDie d x).cfg = s.cfg := rfl
@[simp] theorem State.setKvDie_axes (s : State) (d : Nat) (x : KvDie) : (s.setKvDie d x).axes = s.axes := rfl
@[simp] theorem State.setKvDie_can (s : State) (d : Nat) (x : KvDie) : (s.setKvDie d x).can = s.can := rfl
@[simp] theorem State.setKvDie_saf (s : State) (d : Nat) (x : KvDie) : (s.setKvDie d x).saf = s.saf := rfl
@[simp] theorem State.setKvDie_slog (s : State) (d : Nat) (x : KvDie) : (s.setKvDie d x).slog = s.slog := rfl
@[simp] theorem State.setKvDie_flash (s : State) (d : Nat) (x : KvDie) : (s.setKvDie d x).flash = s.flash := rfl
@[simp] theorem State.setKvDie_fuses (s : State) (d : Nat) (x : KvDie) : (s.setKvDie d x).fuses = s.fuses := rfl
@[simp] theorem State.setKvDie_hm (s : State) (d : Nat) (x : KvDie) : (s.setKvDie d x).hm = s.hm := rfl
@[simp] theorem State.setKvDie_jobs (s : State) (d : Nat) (x : KvDie) : (s.setKvDie d x).jobs = s.jobs := rfl
@[simp] theorem State.setKvDie_bank0 (s : State) (d : Nat) (x : KvDie) : (s.setKvDie d x).bank0 = s.bank0 := rfl
@[simp] theorem State.setKvDie_bank1 (s : State) (d : Nat) (x : KvDie) : (s.setKvDie d x).bank1 = s.bank1 := rfl
@[simp] theorem State.setKvDie_loss (s : State) (d : Nat) (x : KvDie) : (s.setKvDie d x).loss = s.loss := rfl
@[simp] theorem State.setKvDie_pkgs (s : State) (d : Nat) (x : KvDie) : (s.setKvDie d x).comp.pkgs = s.comp.pkgs := rfl
@[simp] theorem State.setKvDie_lastJob (s : State) (d : Nat) (x : KvDie) : (s.setKvDie d x).comp.lastJob = s.comp.lastJob := rfl
@[simp] theorem State.setKvDie_cores (s : State) (d : Nat) (x : KvDie) : (s.setKvDie d x).comp.cores = s.comp.cores := rfl
@[simp] theorem State.setKvDie_chans (s : State) (d : Nat) (x : KvDie) : (s.setKvDie d x).comp.chans = s.comp.chans := rfl
@[simp] theorem State.setKvDie_berths (s : State) (d : Nat) (x : KvDie) : (s.setKvDie d x).comp.berths = s.comp.berths := rfl
@[simp] theorem State.setKvDie_mems (s : State) (d : Nat) (x : KvDie) : (s.setKvDie d x).comp.mems = s.comp.mems := rfl
@[simp] theorem State.setKvDie_dirty (s : State) (d : Nat) (x : KvDie) : (s.setKvDie d x).comp.dirty = s.comp.dirty := rfl
@[simp] theorem State.setKvDie_kv (s : State) (d : Nat) (x : KvDie) : (s.setKvDie d x).comp.kv = s.comp.kv := rfl
@[simp] theorem State.setKvDie_lnks (s : State) (d : Nat) (x : KvDie) : (s.setKvDie d x).comp.lnks = s.comp.lnks := rfl
@[simp] theorem State.setKvDie_fab (s : State) (d : Nat) (x : KvDie) : (s.setKvDie d x).comp.fab = s.comp.fab := rfl
@[simp] theorem State.setKvDie_strm (s : State) (d : Nat) (x : KvDie) : (s.setKvDie d x).comp.strm = s.comp.strm := rfl
@[simp] theorem State.setKvDie_scrubs (s : State) (d : Nat) (x : KvDie) : (s.setKvDie d x).comp.scrubs = s.comp.scrubs := rfl
@[simp] theorem State.setKvDie_cycNext (s : State) (d : Nat) (x : KvDie) : (s.setKvDie d x).comp.cycNext = s.comp.cycNext := rfl
@[simp] theorem State.setKvDie_tly (s : State) (d : Nat) (x : KvDie) : (s.setKvDie d x).comp.tly = s.comp.tly := rfl
@[simp] theorem State.setKvDie_lost (s : State) (d : Nat) (x : KvDie) : (s.setKvDie d x).comp.lost = s.comp.lost := rfl
@[simp] theorem State.setKvDie_rd (s : State) (d : Nat) (x : KvDie) (x' : Nat) : (s.setKvDie d x).rd x' = s.rd x' := rfl

@[simp] theorem State.setStrm_pending (s : State) (n : Nat) (x : Strm) : (s.setStrm n x).pending = s.pending := rfl
@[simp] theorem State.setStrm_regs (s : State) (n : Nat) (x : Strm) : (s.setStrm n x).regs = s.regs := rfl
@[simp] theorem State.setStrm_latch (s : State) (n : Nat) (x : Strm) : (s.setStrm n x).latch = s.latch := rfl
@[simp] theorem State.setStrm_lastRead (s : State) (n : Nat) (x : Strm) : (s.setStrm n x).lastRead = s.lastRead := rfl
@[simp] theorem State.setStrm_out (s : State) (n : Nat) (x : Strm) : (s.setStrm n x).out = s.out := rfl
@[simp] theorem State.setStrm_free (s : State) (n : Nat) (x : Strm) : (s.setStrm n x).free = s.free := rfl
@[simp] theorem State.setStrm_clk (s : State) (n : Nat) (x : Strm) : (s.setStrm n x).clk = s.clk := rfl
@[simp] theorem State.setStrm_doms (s : State) (n : Nat) (x : Strm) : (s.setStrm n x).doms = s.doms := rfl
@[simp] theorem State.setStrm_eth (s : State) (n : Nat) (x : Strm) : (s.setStrm n x).eth = s.eth := rfl
@[simp] theorem State.setStrm_hif (s : State) (n : Nat) (x : Strm) : (s.setStrm n x).hif = s.hif := rfl
@[simp] theorem State.setStrm_cfg (s : State) (n : Nat) (x : Strm) : (s.setStrm n x).cfg = s.cfg := rfl
@[simp] theorem State.setStrm_axes (s : State) (n : Nat) (x : Strm) : (s.setStrm n x).axes = s.axes := rfl
@[simp] theorem State.setStrm_can (s : State) (n : Nat) (x : Strm) : (s.setStrm n x).can = s.can := rfl
@[simp] theorem State.setStrm_saf (s : State) (n : Nat) (x : Strm) : (s.setStrm n x).saf = s.saf := rfl
@[simp] theorem State.setStrm_slog (s : State) (n : Nat) (x : Strm) : (s.setStrm n x).slog = s.slog := rfl
@[simp] theorem State.setStrm_flash (s : State) (n : Nat) (x : Strm) : (s.setStrm n x).flash = s.flash := rfl
@[simp] theorem State.setStrm_fuses (s : State) (n : Nat) (x : Strm) : (s.setStrm n x).fuses = s.fuses := rfl
@[simp] theorem State.setStrm_hm (s : State) (n : Nat) (x : Strm) : (s.setStrm n x).hm = s.hm := rfl
@[simp] theorem State.setStrm_jobs (s : State) (n : Nat) (x : Strm) : (s.setStrm n x).jobs = s.jobs := rfl
@[simp] theorem State.setStrm_bank0 (s : State) (n : Nat) (x : Strm) : (s.setStrm n x).bank0 = s.bank0 := rfl
@[simp] theorem State.setStrm_bank1 (s : State) (n : Nat) (x : Strm) : (s.setStrm n x).bank1 = s.bank1 := rfl
@[simp] theorem State.setStrm_loss (s : State) (n : Nat) (x : Strm) : (s.setStrm n x).loss = s.loss := rfl
@[simp] theorem State.setStrm_pkgs (s : State) (n : Nat) (x : Strm) : (s.setStrm n x).comp.pkgs = s.comp.pkgs := rfl
@[simp] theorem State.setStrm_lastJob (s : State) (n : Nat) (x : Strm) : (s.setStrm n x).comp.lastJob = s.comp.lastJob := rfl
@[simp] theorem State.setStrm_cores (s : State) (n : Nat) (x : Strm) : (s.setStrm n x).comp.cores = s.comp.cores := rfl
@[simp] theorem State.setStrm_chans (s : State) (n : Nat) (x : Strm) : (s.setStrm n x).comp.chans = s.comp.chans := rfl
@[simp] theorem State.setStrm_berths (s : State) (n : Nat) (x : Strm) : (s.setStrm n x).comp.berths = s.comp.berths := rfl
@[simp] theorem State.setStrm_mems (s : State) (n : Nat) (x : Strm) : (s.setStrm n x).comp.mems = s.comp.mems := rfl
@[simp] theorem State.setStrm_dirty (s : State) (n : Nat) (x : Strm) : (s.setStrm n x).comp.dirty = s.comp.dirty := rfl
@[simp] theorem State.setStrm_kv (s : State) (n : Nat) (x : Strm) : (s.setStrm n x).comp.kv = s.comp.kv := rfl
@[simp] theorem State.setStrm_kvd (s : State) (n : Nat) (x : Strm) : (s.setStrm n x).comp.kvd = s.comp.kvd := rfl
@[simp] theorem State.setStrm_lnks (s : State) (n : Nat) (x : Strm) : (s.setStrm n x).comp.lnks = s.comp.lnks := rfl
@[simp] theorem State.setStrm_fab (s : State) (n : Nat) (x : Strm) : (s.setStrm n x).comp.fab = s.comp.fab := rfl
@[simp] theorem State.setStrm_scrubs (s : State) (n : Nat) (x : Strm) : (s.setStrm n x).comp.scrubs = s.comp.scrubs := rfl
@[simp] theorem State.setStrm_cycNext (s : State) (n : Nat) (x : Strm) : (s.setStrm n x).comp.cycNext = s.comp.cycNext := rfl
@[simp] theorem State.setStrm_tly (s : State) (n : Nat) (x : Strm) : (s.setStrm n x).comp.tly = s.comp.tly := rfl
@[simp] theorem State.setStrm_lost (s : State) (n : Nat) (x : Strm) : (s.setStrm n x).comp.lost = s.comp.lost := rfl
@[simp] theorem State.setStrm_rd (s : State) (n : Nat) (x : Strm) (x' : Nat) : (s.setStrm n x).rd x' = s.rd x' := rfl

@[simp] theorem State.setLnk_pending (s : State) (k : Nat) (x : Lnk) : (s.setLnk k x).pending = s.pending := rfl
@[simp] theorem State.setLnk_regs (s : State) (k : Nat) (x : Lnk) : (s.setLnk k x).regs = s.regs := rfl
@[simp] theorem State.setLnk_latch (s : State) (k : Nat) (x : Lnk) : (s.setLnk k x).latch = s.latch := rfl
@[simp] theorem State.setLnk_lastRead (s : State) (k : Nat) (x : Lnk) : (s.setLnk k x).lastRead = s.lastRead := rfl
@[simp] theorem State.setLnk_out (s : State) (k : Nat) (x : Lnk) : (s.setLnk k x).out = s.out := rfl
@[simp] theorem State.setLnk_free (s : State) (k : Nat) (x : Lnk) : (s.setLnk k x).free = s.free := rfl
@[simp] theorem State.setLnk_clk (s : State) (k : Nat) (x : Lnk) : (s.setLnk k x).clk = s.clk := rfl
@[simp] theorem State.setLnk_doms (s : State) (k : Nat) (x : Lnk) : (s.setLnk k x).doms = s.doms := rfl
@[simp] theorem State.setLnk_eth (s : State) (k : Nat) (x : Lnk) : (s.setLnk k x).eth = s.eth := rfl
@[simp] theorem State.setLnk_hif (s : State) (k : Nat) (x : Lnk) : (s.setLnk k x).hif = s.hif := rfl
@[simp] theorem State.setLnk_cfg (s : State) (k : Nat) (x : Lnk) : (s.setLnk k x).cfg = s.cfg := rfl
@[simp] theorem State.setLnk_axes (s : State) (k : Nat) (x : Lnk) : (s.setLnk k x).axes = s.axes := rfl
@[simp] theorem State.setLnk_can (s : State) (k : Nat) (x : Lnk) : (s.setLnk k x).can = s.can := rfl
@[simp] theorem State.setLnk_saf (s : State) (k : Nat) (x : Lnk) : (s.setLnk k x).saf = s.saf := rfl
@[simp] theorem State.setLnk_slog (s : State) (k : Nat) (x : Lnk) : (s.setLnk k x).slog = s.slog := rfl
@[simp] theorem State.setLnk_flash (s : State) (k : Nat) (x : Lnk) : (s.setLnk k x).flash = s.flash := rfl
@[simp] theorem State.setLnk_fuses (s : State) (k : Nat) (x : Lnk) : (s.setLnk k x).fuses = s.fuses := rfl
@[simp] theorem State.setLnk_hm (s : State) (k : Nat) (x : Lnk) : (s.setLnk k x).hm = s.hm := rfl
@[simp] theorem State.setLnk_jobs (s : State) (k : Nat) (x : Lnk) : (s.setLnk k x).jobs = s.jobs := rfl
@[simp] theorem State.setLnk_bank0 (s : State) (k : Nat) (x : Lnk) : (s.setLnk k x).bank0 = s.bank0 := rfl
@[simp] theorem State.setLnk_bank1 (s : State) (k : Nat) (x : Lnk) : (s.setLnk k x).bank1 = s.bank1 := rfl
@[simp] theorem State.setLnk_loss (s : State) (k : Nat) (x : Lnk) : (s.setLnk k x).loss = s.loss := rfl
@[simp] theorem State.setLnk_pkgs (s : State) (k : Nat) (x : Lnk) : (s.setLnk k x).comp.pkgs = s.comp.pkgs := rfl
@[simp] theorem State.setLnk_lastJob (s : State) (k : Nat) (x : Lnk) : (s.setLnk k x).comp.lastJob = s.comp.lastJob := rfl
@[simp] theorem State.setLnk_cores (s : State) (k : Nat) (x : Lnk) : (s.setLnk k x).comp.cores = s.comp.cores := rfl
@[simp] theorem State.setLnk_chans (s : State) (k : Nat) (x : Lnk) : (s.setLnk k x).comp.chans = s.comp.chans := rfl
@[simp] theorem State.setLnk_berths (s : State) (k : Nat) (x : Lnk) : (s.setLnk k x).comp.berths = s.comp.berths := rfl
@[simp] theorem State.setLnk_mems (s : State) (k : Nat) (x : Lnk) : (s.setLnk k x).comp.mems = s.comp.mems := rfl
@[simp] theorem State.setLnk_dirty (s : State) (k : Nat) (x : Lnk) : (s.setLnk k x).comp.dirty = s.comp.dirty := rfl
@[simp] theorem State.setLnk_kv (s : State) (k : Nat) (x : Lnk) : (s.setLnk k x).comp.kv = s.comp.kv := rfl
@[simp] theorem State.setLnk_kvd (s : State) (k : Nat) (x : Lnk) : (s.setLnk k x).comp.kvd = s.comp.kvd := rfl
@[simp] theorem State.setLnk_fab (s : State) (k : Nat) (x : Lnk) : (s.setLnk k x).comp.fab = s.comp.fab := rfl
@[simp] theorem State.setLnk_strm (s : State) (k : Nat) (x : Lnk) : (s.setLnk k x).comp.strm = s.comp.strm := rfl
@[simp] theorem State.setLnk_scrubs (s : State) (k : Nat) (x : Lnk) : (s.setLnk k x).comp.scrubs = s.comp.scrubs := rfl
@[simp] theorem State.setLnk_cycNext (s : State) (k : Nat) (x : Lnk) : (s.setLnk k x).comp.cycNext = s.comp.cycNext := rfl
@[simp] theorem State.setLnk_tly (s : State) (k : Nat) (x : Lnk) : (s.setLnk k x).comp.tly = s.comp.tly := rfl
@[simp] theorem State.setLnk_lost (s : State) (k : Nat) (x : Lnk) : (s.setLnk k x).comp.lost = s.comp.lost := rfl
@[simp] theorem State.setLnk_rd (s : State) (k : Nat) (x : Lnk) (x' : Nat) : (s.setLnk k x).rd x' = s.rd x' := rfl

@[simp] theorem State.setPkg_pending (s : State) (h : Nat) (p : Option Pkg) : (s.setPkg h p).pending = s.pending := rfl
@[simp] theorem State.setPkg_regs (s : State) (h : Nat) (p : Option Pkg) : (s.setPkg h p).regs = s.regs := rfl
@[simp] theorem State.setPkg_latch (s : State) (h : Nat) (p : Option Pkg) : (s.setPkg h p).latch = s.latch := rfl
@[simp] theorem State.setPkg_lastRead (s : State) (h : Nat) (p : Option Pkg) : (s.setPkg h p).lastRead = s.lastRead := rfl
@[simp] theorem State.setPkg_out (s : State) (h : Nat) (p : Option Pkg) : (s.setPkg h p).out = s.out := rfl
@[simp] theorem State.setPkg_free (s : State) (h : Nat) (p : Option Pkg) : (s.setPkg h p).free = s.free := rfl
@[simp] theorem State.setPkg_clk (s : State) (h : Nat) (p : Option Pkg) : (s.setPkg h p).clk = s.clk := rfl
@[simp] theorem State.setPkg_doms (s : State) (h : Nat) (p : Option Pkg) : (s.setPkg h p).doms = s.doms := rfl
@[simp] theorem State.setPkg_eth (s : State) (h : Nat) (p : Option Pkg) : (s.setPkg h p).eth = s.eth := rfl
@[simp] theorem State.setPkg_hif (s : State) (h : Nat) (p : Option Pkg) : (s.setPkg h p).hif = s.hif := rfl
@[simp] theorem State.setPkg_cfg (s : State) (h : Nat) (p : Option Pkg) : (s.setPkg h p).cfg = s.cfg := rfl
@[simp] theorem State.setPkg_axes (s : State) (h : Nat) (p : Option Pkg) : (s.setPkg h p).axes = s.axes := rfl
@[simp] theorem State.setPkg_can (s : State) (h : Nat) (p : Option Pkg) : (s.setPkg h p).can = s.can := rfl
@[simp] theorem State.setPkg_saf (s : State) (h : Nat) (p : Option Pkg) : (s.setPkg h p).saf = s.saf := rfl
@[simp] theorem State.setPkg_slog (s : State) (h : Nat) (p : Option Pkg) : (s.setPkg h p).slog = s.slog := rfl
@[simp] theorem State.setPkg_flash (s : State) (h : Nat) (p : Option Pkg) : (s.setPkg h p).flash = s.flash := rfl
@[simp] theorem State.setPkg_fuses (s : State) (h : Nat) (p : Option Pkg) : (s.setPkg h p).fuses = s.fuses := rfl
@[simp] theorem State.setPkg_hm (s : State) (h : Nat) (p : Option Pkg) : (s.setPkg h p).hm = s.hm := rfl
@[simp] theorem State.setPkg_jobs (s : State) (h : Nat) (p : Option Pkg) : (s.setPkg h p).jobs = s.jobs := rfl
@[simp] theorem State.setPkg_bank0 (s : State) (h : Nat) (p : Option Pkg) : (s.setPkg h p).bank0 = s.bank0 := rfl
@[simp] theorem State.setPkg_bank1 (s : State) (h : Nat) (p : Option Pkg) : (s.setPkg h p).bank1 = s.bank1 := rfl
@[simp] theorem State.setPkg_loss (s : State) (h : Nat) (p : Option Pkg) : (s.setPkg h p).loss = s.loss := rfl
@[simp] theorem State.setPkg_lastJob (s : State) (h : Nat) (p : Option Pkg) : (s.setPkg h p).comp.lastJob = s.comp.lastJob := rfl
@[simp] theorem State.setPkg_cores (s : State) (h : Nat) (p : Option Pkg) : (s.setPkg h p).comp.cores = s.comp.cores := rfl
@[simp] theorem State.setPkg_chans (s : State) (h : Nat) (p : Option Pkg) : (s.setPkg h p).comp.chans = s.comp.chans := rfl
@[simp] theorem State.setPkg_berths (s : State) (h : Nat) (p : Option Pkg) : (s.setPkg h p).comp.berths = s.comp.berths := rfl
@[simp] theorem State.setPkg_mems (s : State) (h : Nat) (p : Option Pkg) : (s.setPkg h p).comp.mems = s.comp.mems := rfl
@[simp] theorem State.setPkg_dirty (s : State) (h : Nat) (p : Option Pkg) : (s.setPkg h p).comp.dirty = s.comp.dirty := rfl
@[simp] theorem State.setPkg_kv (s : State) (h : Nat) (p : Option Pkg) : (s.setPkg h p).comp.kv = s.comp.kv := rfl
@[simp] theorem State.setPkg_kvd (s : State) (h : Nat) (p : Option Pkg) : (s.setPkg h p).comp.kvd = s.comp.kvd := rfl
@[simp] theorem State.setPkg_lnks (s : State) (h : Nat) (p : Option Pkg) : (s.setPkg h p).comp.lnks = s.comp.lnks := rfl
@[simp] theorem State.setPkg_fab (s : State) (h : Nat) (p : Option Pkg) : (s.setPkg h p).comp.fab = s.comp.fab := rfl
@[simp] theorem State.setPkg_strm (s : State) (h : Nat) (p : Option Pkg) : (s.setPkg h p).comp.strm = s.comp.strm := rfl
@[simp] theorem State.setPkg_scrubs (s : State) (h : Nat) (p : Option Pkg) : (s.setPkg h p).comp.scrubs = s.comp.scrubs := rfl
@[simp] theorem State.setPkg_cycNext (s : State) (h : Nat) (p : Option Pkg) : (s.setPkg h p).comp.cycNext = s.comp.cycNext := rfl
@[simp] theorem State.setPkg_tly (s : State) (h : Nat) (p : Option Pkg) : (s.setPkg h p).comp.tly = s.comp.tly := rfl
@[simp] theorem State.setPkg_lost (s : State) (h : Nat) (p : Option Pkg) : (s.setPkg h p).comp.lost = s.comp.lost := rfl
@[simp] theorem State.setPkg_rd (s : State) (h : Nat) (p : Option Pkg) (x' : Nat) : (s.setPkg h p).rd x' = s.rd x' := rfl

@[simp] theorem State.setSeq_pending (s : State) (i : Nat) (q : Option KvSeq) : (s.setSeq i q).pending = s.pending := rfl
@[simp] theorem State.setSeq_regs (s : State) (i : Nat) (q : Option KvSeq) : (s.setSeq i q).regs = s.regs := rfl
@[simp] theorem State.setSeq_latch (s : State) (i : Nat) (q : Option KvSeq) : (s.setSeq i q).latch = s.latch := rfl
@[simp] theorem State.setSeq_lastRead (s : State) (i : Nat) (q : Option KvSeq) : (s.setSeq i q).lastRead = s.lastRead := rfl
@[simp] theorem State.setSeq_out (s : State) (i : Nat) (q : Option KvSeq) : (s.setSeq i q).out = s.out := rfl
@[simp] theorem State.setSeq_free (s : State) (i : Nat) (q : Option KvSeq) : (s.setSeq i q).free = s.free := rfl
@[simp] theorem State.setSeq_clk (s : State) (i : Nat) (q : Option KvSeq) : (s.setSeq i q).clk = s.clk := rfl
@[simp] theorem State.setSeq_doms (s : State) (i : Nat) (q : Option KvSeq) : (s.setSeq i q).doms = s.doms := rfl
@[simp] theorem State.setSeq_eth (s : State) (i : Nat) (q : Option KvSeq) : (s.setSeq i q).eth = s.eth := rfl
@[simp] theorem State.setSeq_hif (s : State) (i : Nat) (q : Option KvSeq) : (s.setSeq i q).hif = s.hif := rfl
@[simp] theorem State.setSeq_cfg (s : State) (i : Nat) (q : Option KvSeq) : (s.setSeq i q).cfg = s.cfg := rfl
@[simp] theorem State.setSeq_axes (s : State) (i : Nat) (q : Option KvSeq) : (s.setSeq i q).axes = s.axes := rfl
@[simp] theorem State.setSeq_can (s : State) (i : Nat) (q : Option KvSeq) : (s.setSeq i q).can = s.can := rfl
@[simp] theorem State.setSeq_saf (s : State) (i : Nat) (q : Option KvSeq) : (s.setSeq i q).saf = s.saf := rfl
@[simp] theorem State.setSeq_slog (s : State) (i : Nat) (q : Option KvSeq) : (s.setSeq i q).slog = s.slog := rfl
@[simp] theorem State.setSeq_flash (s : State) (i : Nat) (q : Option KvSeq) : (s.setSeq i q).flash = s.flash := rfl
@[simp] theorem State.setSeq_fuses (s : State) (i : Nat) (q : Option KvSeq) : (s.setSeq i q).fuses = s.fuses := rfl
@[simp] theorem State.setSeq_hm (s : State) (i : Nat) (q : Option KvSeq) : (s.setSeq i q).hm = s.hm := rfl
@[simp] theorem State.setSeq_jobs (s : State) (i : Nat) (q : Option KvSeq) : (s.setSeq i q).jobs = s.jobs := rfl
@[simp] theorem State.setSeq_bank0 (s : State) (i : Nat) (q : Option KvSeq) : (s.setSeq i q).bank0 = s.bank0 := rfl
@[simp] theorem State.setSeq_bank1 (s : State) (i : Nat) (q : Option KvSeq) : (s.setSeq i q).bank1 = s.bank1 := rfl
@[simp] theorem State.setSeq_loss (s : State) (i : Nat) (q : Option KvSeq) : (s.setSeq i q).loss = s.loss := rfl
@[simp] theorem State.setSeq_pkgs (s : State) (i : Nat) (q : Option KvSeq) : (s.setSeq i q).comp.pkgs = s.comp.pkgs := rfl
@[simp] theorem State.setSeq_lastJob (s : State) (i : Nat) (q : Option KvSeq) : (s.setSeq i q).comp.lastJob = s.comp.lastJob := rfl
@[simp] theorem State.setSeq_cores (s : State) (i : Nat) (q : Option KvSeq) : (s.setSeq i q).comp.cores = s.comp.cores := rfl
@[simp] theorem State.setSeq_chans (s : State) (i : Nat) (q : Option KvSeq) : (s.setSeq i q).comp.chans = s.comp.chans := rfl
@[simp] theorem State.setSeq_berths (s : State) (i : Nat) (q : Option KvSeq) : (s.setSeq i q).comp.berths = s.comp.berths := rfl
@[simp] theorem State.setSeq_mems (s : State) (i : Nat) (q : Option KvSeq) : (s.setSeq i q).comp.mems = s.comp.mems := rfl
@[simp] theorem State.setSeq_dirty (s : State) (i : Nat) (q : Option KvSeq) : (s.setSeq i q).comp.dirty = s.comp.dirty := rfl
@[simp] theorem State.setSeq_kvd (s : State) (i : Nat) (q : Option KvSeq) : (s.setSeq i q).comp.kvd = s.comp.kvd := rfl
@[simp] theorem State.setSeq_lnks (s : State) (i : Nat) (q : Option KvSeq) : (s.setSeq i q).comp.lnks = s.comp.lnks := rfl
@[simp] theorem State.setSeq_fab (s : State) (i : Nat) (q : Option KvSeq) : (s.setSeq i q).comp.fab = s.comp.fab := rfl
@[simp] theorem State.setSeq_strm (s : State) (i : Nat) (q : Option KvSeq) : (s.setSeq i q).comp.strm = s.comp.strm := rfl
@[simp] theorem State.setSeq_scrubs (s : State) (i : Nat) (q : Option KvSeq) : (s.setSeq i q).comp.scrubs = s.comp.scrubs := rfl
@[simp] theorem State.setSeq_cycNext (s : State) (i : Nat) (q : Option KvSeq) : (s.setSeq i q).comp.cycNext = s.comp.cycNext := rfl
@[simp] theorem State.setSeq_tly (s : State) (i : Nat) (q : Option KvSeq) : (s.setSeq i q).comp.tly = s.comp.tly := rfl
@[simp] theorem State.setSeq_lost (s : State) (i : Nat) (q : Option KvSeq) : (s.setSeq i q).comp.lost = s.comp.lost := rfl
@[simp] theorem State.setSeq_rd (s : State) (i : Nat) (q : Option KvSeq) (x' : Nat) : (s.setSeq i q).rd x' = s.rd x' := rfl

@[simp] theorem State.setFab_pending (s : State) (f : Fab) : (s.setFab f).pending = s.pending := rfl
@[simp] theorem State.setFab_regs (s : State) (f : Fab) : (s.setFab f).regs = s.regs := rfl
@[simp] theorem State.setFab_latch (s : State) (f : Fab) : (s.setFab f).latch = s.latch := rfl
@[simp] theorem State.setFab_lastRead (s : State) (f : Fab) : (s.setFab f).lastRead = s.lastRead := rfl
@[simp] theorem State.setFab_out (s : State) (f : Fab) : (s.setFab f).out = s.out := rfl
@[simp] theorem State.setFab_free (s : State) (f : Fab) : (s.setFab f).free = s.free := rfl
@[simp] theorem State.setFab_clk (s : State) (f : Fab) : (s.setFab f).clk = s.clk := rfl
@[simp] theorem State.setFab_doms (s : State) (f : Fab) : (s.setFab f).doms = s.doms := rfl
@[simp] theorem State.setFab_eth (s : State) (f : Fab) : (s.setFab f).eth = s.eth := rfl
@[simp] theorem State.setFab_hif (s : State) (f : Fab) : (s.setFab f).hif = s.hif := rfl
@[simp] theorem State.setFab_cfg (s : State) (f : Fab) : (s.setFab f).cfg = s.cfg := rfl
@[simp] theorem State.setFab_axes (s : State) (f : Fab) : (s.setFab f).axes = s.axes := rfl
@[simp] theorem State.setFab_can (s : State) (f : Fab) : (s.setFab f).can = s.can := rfl
@[simp] theorem State.setFab_saf (s : State) (f : Fab) : (s.setFab f).saf = s.saf := rfl
@[simp] theorem State.setFab_slog (s : State) (f : Fab) : (s.setFab f).slog = s.slog := rfl
@[simp] theorem State.setFab_flash (s : State) (f : Fab) : (s.setFab f).flash = s.flash := rfl
@[simp] theorem State.setFab_fuses (s : State) (f : Fab) : (s.setFab f).fuses = s.fuses := rfl
@[simp] theorem State.setFab_hm (s : State) (f : Fab) : (s.setFab f).hm = s.hm := rfl
@[simp] theorem State.setFab_jobs (s : State) (f : Fab) : (s.setFab f).jobs = s.jobs := rfl
@[simp] theorem State.setFab_bank0 (s : State) (f : Fab) : (s.setFab f).bank0 = s.bank0 := rfl
@[simp] theorem State.setFab_bank1 (s : State) (f : Fab) : (s.setFab f).bank1 = s.bank1 := rfl
@[simp] theorem State.setFab_loss (s : State) (f : Fab) : (s.setFab f).loss = s.loss := rfl
@[simp] theorem State.setFab_pkgs (s : State) (f : Fab) : (s.setFab f).comp.pkgs = s.comp.pkgs := rfl
@[simp] theorem State.setFab_lastJob (s : State) (f : Fab) : (s.setFab f).comp.lastJob = s.comp.lastJob := rfl
@[simp] theorem State.setFab_cores (s : State) (f : Fab) : (s.setFab f).comp.cores = s.comp.cores := rfl
@[simp] theorem State.setFab_chans (s : State) (f : Fab) : (s.setFab f).comp.chans = s.comp.chans := rfl
@[simp] theorem State.setFab_berths (s : State) (f : Fab) : (s.setFab f).comp.berths = s.comp.berths := rfl
@[simp] theorem State.setFab_mems (s : State) (f : Fab) : (s.setFab f).comp.mems = s.comp.mems := rfl
@[simp] theorem State.setFab_dirty (s : State) (f : Fab) : (s.setFab f).comp.dirty = s.comp.dirty := rfl
@[simp] theorem State.setFab_kv (s : State) (f : Fab) : (s.setFab f).comp.kv = s.comp.kv := rfl
@[simp] theorem State.setFab_kvd (s : State) (f : Fab) : (s.setFab f).comp.kvd = s.comp.kvd := rfl
@[simp] theorem State.setFab_lnks (s : State) (f : Fab) : (s.setFab f).comp.lnks = s.comp.lnks := rfl
@[simp] theorem State.setFab_strm (s : State) (f : Fab) : (s.setFab f).comp.strm = s.comp.strm := rfl
@[simp] theorem State.setFab_scrubs (s : State) (f : Fab) : (s.setFab f).comp.scrubs = s.comp.scrubs := rfl
@[simp] theorem State.setFab_cycNext (s : State) (f : Fab) : (s.setFab f).comp.cycNext = s.comp.cycNext := rfl
@[simp] theorem State.setFab_tly (s : State) (f : Fab) : (s.setFab f).comp.tly = s.comp.tly := rfl
@[simp] theorem State.setFab_lost (s : State) (f : Fab) : (s.setFab f).comp.lost = s.comp.lost := rfl
@[simp] theorem State.setFab_rd (s : State) (f : Fab) (x' : Nat) : (s.setFab f).rd x' = s.rd x' := rfl

/-! ### Reading back -/

@[simp] theorem State.ax_setAx (s : State) (a : Nat) (x : Axis) : (s.setAx a x).ax a = x := by
  simp [State.ax, State.setAx]
@[simp] theorem State.cn_setCn (s : State) (a : Nat) (x : Can) : (s.setCn a x).cn a = x := by
  simp [State.cn, State.setCn]
@[simp] theorem State.ep_setEp (s : State) (a : Nat) (x : Eth) : (s.setEp a x).ep a = x := by
  simp [State.ep, State.setEp]
@[simp] theorem State.dom_setDom (s : State) (a : Nat) (x : Dom) : (s.setDom a x).dom a = x := by
  simp [State.dom, State.setDom]
@[simp] theorem State.ring_setRing (s : State) (a : Nat) (x : Ring) : (s.setRing a x).ring a = x := by
  simp [State.ring, State.setRing]
@[simp] theorem State.sst_setSst (s : State) (a : Nat) (x : SafSt) : (s.setSst a x).sst a = x := by
  simp [State.sst, State.setSst]
@[simp] theorem State.mem_setMem (s : State) (a : Nat) (x : Tbl Byte) : (s.setMem a x).mem a = x := by
  simp [State.mem, State.setMem]
@[simp] theorem State.core_setCore (s : State) (a k : Nat) (x : Core) : (s.setCore a k x).core a k = x := by
  simp [State.core, State.setCore]
@[simp] theorem State.chan_setChan (s : State) (a k c : Nat) (x : Chan) : (s.setChan a k c x).chan a k c = x := by
  simp [State.chan, State.setChan]
@[simp] theorem State.berth_setBerth (s : State) (a b : Nat) (x : Berth) : (s.setBerth a b x).berth a b = x := by
  simp [State.berth, State.setBerth]
@[simp] theorem State.kvDie_setKvDie (s : State) (a : Nat) (x : KvDie) : (s.setKvDie a x).kvDie a = x := by
  simp [State.kvDie, State.setKvDie]
@[simp] theorem State.strm_setStrm (s : State) (a : Nat) (x : Strm) : (s.setStrm a x).strm a = x := by
  simp [State.strm, State.setStrm]
@[simp] theorem State.lnk_setLnk (s : State) (a : Nat) (x : Lnk) : (s.setLnk a x).lnk a = x := by
  simp [State.lnk, State.setLnk]
@[simp] theorem State.pkg_setPkg (s : State) (a : Nat) (x : Option Pkg) : (s.setPkg a x).pkg a = x := by
  simp [State.pkg, State.setPkg]

/-- Two instances of one family are separate. -/
theorem State.ax_setAx_ne (s : State) {a b : Nat} (x : Axis) (h : a ≠ b) : (s.setAx a x).ax b = s.ax b :=
  tget_tset_ne _ _ _ h
theorem State.cn_setCn_ne (s : State) {a b : Nat} (x : Can) (h : a ≠ b) : (s.setCn a x).cn b = s.cn b :=
  tget_tset_ne _ _ _ h
theorem State.ep_setEp_ne (s : State) {a b : Nat} (x : Eth) (h : a ≠ b) : (s.setEp a x).ep b = s.ep b :=
  tget_tset_ne _ _ _ h
theorem State.dom_setDom_ne (s : State) {a b : Nat} (x : Dom) (h : a ≠ b) : (s.setDom a x).dom b = s.dom b :=
  tget_tset_ne _ _ _ h
theorem State.ring_setRing_ne (s : State) {a b : Nat} (x : Ring) (h : a ≠ b) : (s.setRing a x).ring b = s.ring b :=
  tget_tset_ne _ _ _ h
theorem State.sst_setSst_ne (s : State) {a b : Nat} (x : SafSt) (h : a ≠ b) : (s.setSst a x).sst b = s.sst b :=
  tget_tset_ne _ _ _ h
theorem State.strm_setStrm_ne (s : State) {a b : Nat} (x : Strm) (h : a ≠ b) : (s.setStrm a x).strm b = s.strm b :=
  tget_tset_ne _ _ _ h
theorem State.lnk_setLnk_ne (s : State) {a b : Nat} (x : Lnk) (h : a ≠ b) : (s.setLnk a x).lnk b = s.lnk b :=
  tget_tset_ne _ _ _ h

end Sys2Proof.Machine
end

