-- ==== Sys2Proof/Laws/Complete.lean ====
section
/-!
SUPPORT. How a descriptor starts and completes, and what changes between the states around an operation, in the
terms of Safety.lean.
-/

namespace Sys2Proof.Machine

open Sys2Proof

theorem filter_head_mapIf {α : Type} (p : α → Bool) (f : α → α) (hf : ∀ x, p (f x) = p x) (l : List α) :
    ((mapIf p f l).filter p).head? = ((l.filter p).head?).map f := by
  induction l with
  | nil => rfl
  | cons x l ih =>
    unfold mapIf at *
    cases h : p x
    · simp [h, ih]
    · simp [h, hf]

@[simp] theorem State.begin_ring (s : State) (r n : Nat) : (s.begin r n).ring r =
    { s.ring r with fl := mapIf (fun d => d.num == n) (fun d => { d with begun := true }) (s.ring r).fl } := by
  simp [State.begin]

theorem State.begin_ring_ne (s : State) {r q : Nat} (n : Nat) (h : r ≠ q) : (s.begin r n).ring q = s.ring q :=
  s.ring_setRing_ne _ h

/-- A started descriptor is still in flight. -/
theorem State.begin_desc {s : State} {r n : Nat} {d : Inflight} (h : s.desc r n = some d) :
    (s.begin r n).desc r n = some { d with begun := true } := by
  unfold State.desc at *
  rw [begin_ring]
  have := filter_head_mapIf (fun d : Inflight => d.num == n) (fun d => { d with begun := true })
    (fun _ => rfl) (s.ring r).fl
  rw [h] at this
  exact this

theorem State.desc_num {s : State} {r n : Nat} {d : Inflight} (h : s.desc r n = some d) : d.num = n := by
  unfold State.desc at h
  have := List.mem_of_head? h
  simpa using (List.mem_filter.mp this).2

/-- What `withDesc` runs. -/
theorem Starts.withDesc {s : State} {r op : Nat} {d : Inflight} (h : Starts s r op d) (f : State → Inflight → State) :
    s.withDesc r op f = f (s.begin r d.num) d := by
  unfold State.withDesc; rw [h.next]

theorem Starts.guard {s : State} {r op : Nat} {d : Inflight} (h : Starts s r op d) (f : State → Inflight → State) :
    guardI (decide (r < 8192)) (s.withDesc r op f) = .next (f (s.begin r d.num) d) := by
  rw [h.withDesc, guardI, if_pos (decide_eq_true h.ring)]

theorem guardI_true {c : Bool} {s : State} (h : c = true) : guardI c s = .next s := by unfold guardI; rw [if_pos h]

theorem State.linkUp_congr {s t : State} (h : t.rd (hifA 0) = s.rd (hifA 0)) : t.linkUp = s.linkUp := by
  unfold State.linkUp State.fld; rw [h]

theorem hmPush_out (s : State) (ty : Nat) (su : Bool) (r ro : Nat) (p : Bytes) :
    (s.hmPush ty su r ro p).out = s.out := (State.hmPush_frame ..).out rfl

theorem ringA_lt (r o : Nat) : ringA r o < 0x200000 := by unfold ringA; omega

/-- A completion's effect in the terms of `Completed`. -/
theorem State.completeAt_completed {s : State} {r : Nat} {d d' : Inflight} (st : Status) (result info time : Nat)
    (h : s.desc r d.num = some d') (ht : d'.tag = d.tag) (ho : d'.op = d.op) (hi : d'.intr = d.intr) :
    Completed s (s.completeAt r d.num st result info time) r d st result info time := by
  unfold State.completeAt
  split
  · next hn => rw [h] at hn; cases hn
  next d2 hd =>
  rw [h] at hd
  cases hd
  extract_lets src s1 s2 m
  -- the entry
  have e1 : s1.linkUp = s.linkUp := rfl
  have r1 : s1.ring r = { s.ring r with fl := (s.ring r).fl.filter (fun e => e.num != d.num) } := by simp [s1, src]
  have g1 : s1.desc r d.num = none := by
    unfold State.desc
    rw [r1]
    simp [List.filter_filter]
  have key : Completed s s2 r d st result info time := by
    unfold s2 State.writeEntry
    extract_lets n phase lost flags v a b src2 c e
    have hv : v = s.fld (ringA r 0x10) 10 0 := rfl
    have hc : c.ring r = { s1.ring r with lost := false } := by
      have : b.ring r = s1.ring r := by
        unfold b State.ring
        rw [(State.tally_frame ..).hif rfl]
        show tget Ring.init a.hif.rings r = _
        unfold a
        rw [(State.emitHost_frame ..).hif rfl]
      unfold c
      rw [State.ring_setRing]
      unfold src2
      rw [this]
    have hcr : c.rd (ringA r 0x20) = s.rd (ringA r 0x20) + 1 := by
      show b.rd _ = _
      unfold b
      rw [(State.tally_below ..).rd _ (Nat.lt_trans (ringA_lt r 0x20) (by decide)), State.rd_wr_self]
      unfold n
      show BitVec.ofNat 32 ((s.rd (ringA r 0x20)).toNat + 1) = _
      apply BitVec.eq_of_toNat_eq
      simp [BitVec.toNat_add]
    have hco : s.linkUp = true → c.out.getLast? = some (entryOf s r d st result info time) := by
      intro hl
      show b.out.getLast? = _
      unfold b
      rw [(State.tally_frame ..).out rfl]
      show a.out.getLast? = _
      unfold a State.emitHost
      rw [if_pos (by rw [e1]; exact hl)]
      have hl' : lost = (s.ring r).lost := by unfold lost; rw [r1]
      simp only [List.getLast?_append, List.getLast?_singleton, Option.some_or]
      unfold entryOf flags phase n
      rw [hl', ht, ho]
      unfold b2n
      split <;> simp_all [s1, State.ringSize, State.ringLog, State.fld]
    have hg : ∀ x : State, x.hif.rings = c.hif.rings → x.desc r d.num = none := by
      intro x hx
      unfold State.desc State.ring at *
      rw [hx, show tget Ring.init c.hif.rings r = _ from hc]
      exact g1
    constructor
    · split
      · exact hg _ rfl
      · exact hg _ rfl
    · split
      · exact hcr
      · exact hcr
    · split
      · exact hco
      · exact hco
    · intro hi'
      rw [hi, hi', Bool.true_and]
      split
      · rw [← hv]; simp
      · rename_i hn
        rw [← hv]
        simpa using hn
  split
  · exact {
      gone := by
        unfold State.desc State.ring
        rw [(State.roleAction_frame ..).hif rfl]
        exact key.gone
      tail := by
        rw [(State.roleAction_below ..).rd _ (Nat.lt_trans (ringA_lt r 0x20) (by decide))]
        exact key.tail
      entry := by
        rw [(State.roleAction_frame ..).out rfl]
        exact key.entry
      signal := by
        rw [(State.roleAction_frame ..).hif rfl]
        exact key.signal }
  · exact key

/-- A completion seen from an earlier state. -/
theorem Completed.of {s u t : State} {r : Nat} {d : Inflight} {st : Status} {result info time : Nat}
    (h : Completed u t r d st result info time) (hh : u.rd (hifA 0) = s.rd (hifA 0))
    (hc : u.rd (ringA r 0x10) = s.rd (ringA r 0x10)) (ht : u.rd (ringA r 0x20) = s.rd (ringA r 0x20))
    (hl : (u.ring r).lost = (s.ring r).lost) : Completed s t r d st result info time where
  gone := h.gone
  tail := by rw [h.tail, ht]
  entry := by
    rw [← State.linkUp_congr hh]
    intro w
    rw [h.entry w]
    unfold entryOf State.ringSize State.ringLog State.fld
    rw [ht, hl, hc]
  signal := by
    intro w
    have := h.signal w
    unfold State.fld at *
    rwa [hc] at this

theorem Completed.begin {s t : State} {r n : Nat} {d : Inflight} {st : Status} {result info time : Nat}
    (h : Completed (s.begin r n) t r d st result info time) : Completed s t r d st result info time :=
  h.of rfl rfl rfl (by simp)

theorem touches_ring {m : Nat} (h : touches m 41 = false) (r o : Nat) : touches m (40 + blk (ringA r o)) = false := by
  have : blk (ringA r o) = 1 := by unfold blk ringA; rw [if_pos (by omega)]; omega
  rw [this]; exact h

theorem touches_hif {m : Nat} (h : touches m 41 = false) (o : Nat) : touches m (40 + blk (hifA o)) = false := by
  have : blk (hifA o) = 1 := by unfold blk hifA; rw [if_pos (by omega)]; omega
  rw [this]; exact h

/-- A completion after an operation that leaves the host interface alone. -/
theorem Completed.frame {m : Nat} {s u t : State} {r : Nat} {d : Inflight} {st : Status} {result info time : Nat}
    (h : Completed u t r d st result info time) (f : Frame m s u) (h7 : touches m 7 = false)
    (h41 : touches m 41 = false) : Completed s t r d st result info time :=
  h.of (f.blk _ (touches_hif h41 0)) (f.blk _ (touches_ring h41 r _)) (f.blk _ (touches_ring h41 r _))
    (by unfold State.ring; rw [f.hif h7])

/-- A completion before an operation that leaves the host interface and the outputs alone. -/
theorem Completed.after {m : Nat} {s u t : State} {r : Nat} {d : Inflight} {st : Status} {result info time : Nat}
    (h : Completed s u r d st result info time) (f : Frame m u t) (h2 : touches m 2 = false)
    (h7 : touches m 7 = false) (h41 : touches m 41 = false) : Completed s t r d st result info time where
  gone := by
    have := h.gone
    unfold State.desc State.ring at *
    rwa [f.hif h7]
  tail := by rw [f.blk _ (touches_ring h41 r _)]; exact h.tail
  entry := by rw [f.out h2]; exact h.entry
  signal := by rw [f.hif h7]; exact h.signal

/-- The descriptor that a frame leaves in flight. -/
theorem Frame.desc {m : Nat} {s t : State} (f : Frame m s t) (h7 : touches m 7 = false) (r n : Nat) :
    t.desc r n = s.desc r n := by unfold State.desc State.ring; rw [f.hif h7]

/-- A started descriptor that an operation leaves alone completes. -/
theorem Starts.completes {s u : State} {m r op : Nat} {d : Inflight} (h : Starts s r op d)
    (f : Frame m (s.begin r d.num) u) (h7 : touches m 7 = false) (h41 : touches m 41 = false) (st : Status)
    (result info time : Nat) : Completed s (u.completeAt r d.num st result info time) r d st result info time :=
  ((State.completeAt_completed (d := d) (d' := { d with begun := true }) st result info time
    (by rw [f.desc h7]; exact State.begin_desc h.desc) rfl rfl rfl).frame f h7 h41).begin

/-- The bit of a part in a frame's mask. -/
def Part.bit : Part → Nat
  | .latch => 0
  | .lastRead => 1
  | .out => 2
  | .free => 3
  | .clk => 4
  | .doms => 5
  | .eth => 6
  | .hif => 7
  | .cfg => 8
  | .axes => 9
  | .can => 10
  | .saf => 11
  | .slog => 12
  | .flash => 13
  | .fuses => 14
  | .hm => 15
  | .jobs => 16
  | .bank0 => 17
  | .bank1 => 18
  | .loss => 19
  | .mems => 21
  | .pkgs => 22
  | .lastJob => 23
  | .cores => 24
  | .chans => 25
  | .berths => 26
  | .dirty => 27
  | .kv => 28
  | .kvd => 29
  | .lnks => 30
  | .fab => 31
  | .strm => 32
  | .scrubs => 33
  | .cycNext => 34
  | .tly => 35
  | .lost => 36

theorem Frame.part {m : Nat} {s t : State} (h : Frame m s t) (p : Part) (hp : touches m p.bit = false) :
    p.same s t := by
  cases p
  case latch => exact h.latch hp
  case lastRead => exact h.lastRead hp
  case out => exact h.out hp
  case free => exact h.free hp
  case clk => exact h.clk hp
  case doms => exact h.doms hp
  case eth => exact h.eth hp
  case hif => exact h.hif hp
  case cfg => exact h.cfg hp
  case axes => exact h.axes hp
  case can => exact h.can hp
  case saf => exact h.saf hp
  case slog => exact h.slog hp
  case flash => exact h.flash hp
  case fuses => exact h.fuses hp
  case hm => exact h.hm hp
  case jobs => exact h.jobs hp
  case bank0 => exact h.bank0 hp
  case bank1 => exact h.bank1 hp
  case loss => exact h.loss hp
  case mems => exact h.mems hp
  case pkgs => exact h.pkgs hp
  case lastJob => exact h.lastJob hp
  case cores => exact h.cores hp
  case chans => exact h.chans hp
  case berths => exact h.berths hp
  case dirty => exact h.dirty hp
  case kv => exact h.kv hp
  case kvd => exact h.kvd hp
  case lnks => exact h.lnks hp
  case fab => exact h.fab hp
  case strm => exact h.strm hp
  case scrubs => exact h.scrubs hp
  case cycNext => exact h.cycNext hp
  case tly => exact h.tly hp
  case lost => exact h.lost hp

theorem blk_lt (a : Nat) : blk a < 18 := by
  unfold blk
  split
  · omega
  · split <;> omega

/-- A frame says what changes. -/
theorem Frame.onlyChanges {m : Nat} {s t : State} {ps : List Part} {bs : List Block} (h : Frame m s t)
    (hp : ∀ p : Part, p ∈ ps ∨ touches m p.bit = false)
    (hb : ∀ k < 18, k ∈ bs.map Block.num ∨ touches m (40 + k) = false) : OnlyChanges s t ps (inBlocks bs) where
  pending := h.pending
  parts := fun p w => h.part p ((hp p).resolve_left w)
  regs := fun a w => h.blk a ((hb _ (blk_lt a)).resolve_left w)

end Sys2Proof.Machine
end

