-- ==== Sys2Proof/Laws/FrameTallySync.lean ====
section
/-!
SUPPORT. Frame laws of Machine/TallySync.lean: which components each of its operations may change.
-/

namespace Sys2Proof.Machine

open Sys2Proof

theorem State.tlyPass_frame (a1 : Nat) (a2 : Nat) (a3 : State) (a4 : Nat) :
    Frame 0x2000000100008 a3 (State.tlyPass a1 a2 a3 a4) := by
  unfold State.tlyPass
  extract_lets v1 v2
  refine Frame.ite (fun h3 => ?_) (fun h3 => ?_)
  · exact Frame.refl _ _
  · refine Frame.ite (fun h4 => ?_) (fun h4 => ?_)
    · refine Frame.step ?_ (State.tlyAdd_frame ..) rfl
      exact Frame.refl _ _
    · refine Frame.ite (fun h5 => ?_) (fun h5 => ?_)
      · refine Frame.step ?_ (State.tlyAdd_frame ..) rfl
        exact Frame.refl _ _
      · split
        · rename_i z6 z7 z8
          refine Frame.ite (fun h9 => ?_) (fun h9 => ?_)
          · refine Frame.ite (fun h10 => ?_) (fun h10 => ?_)
            · refine Frame.step ?_ (State.tlyAdd_frame ..) rfl
              exact Frame.refl _ _
            · exact Frame.refl _ _
          · refine Frame.step ?_ (State.tlyAdd_frame ..) rfl
            exact Frame.refl _ _
        · rename_i z11 z12
          refine Frame.step ?_ (State.bump_frame ..) rfl
          refine Frame.step ?_ (State.tlyAdd_frame ..) rfl
          exact Frame.refl _ _

theorem State.tlySync_frame (a1 : State) (a2 : Nat) :
    Frame 0x2000800100008 a1 (State.tlySync a1 a2) := by
  unfold State.tlySync
  extract_lets v1 v2 v3 v4
  have h5 : Frame 0x2000800100008 a1 v3 := by
    unfold v3
    refine Frame.ite (fun h6 => ?_) (fun h6 => ?_)
    · refine Frame.foldl ?_ (fun u7 x8 h9 => ?_)
      · exact Frame.refl _ _
      · refine Frame.step ?_ (State.tlyPass_frame ..) rfl
        assumption
    · exact Frame.refl _ _
  clear_value v3
  apply Frame.upd
  · assumption
  all_goals first | exact Or.inr rfl | exact Or.inl rfl | exact Or.inl (Nat.le_refl _) | rfl

theorem State.tlySyncAll_frame (a1 : State) :
    Frame 0x2000800100008 a1 (State.tlySyncAll a1) := by
  unfold State.tlySyncAll
  refine Frame.foldl ?_ (fun u1 x2 h3 => ?_)
  · exact Frame.refl _ _
  · refine Frame.step ?_ (State.tlySync_frame ..) rfl
    assumption

end Sys2Proof.Machine
end

