-- ==== Sys2Proof/Laws/FrameCan.lean ====
section
/-!
SUPPORT. Frame laws of Machine/Can.lean: which components each of its operations may change.
-/

namespace Sys2Proof.Machine

open Sys2Proof

theorem State.safeLoad_frame (a1 : State) (a2 : Nat) :
    Frame 0x400 a1 (State.safeLoad a1 a2) := by
  unfold State.safeLoad
  extract_lets v1 v2
  refine Frame.ite (fun h3 => ?_) (fun h3 => ?_)
  · refine Frame.step ?_ (State.setCn_frame ..) rfl
    exact Frame.refl _ _
  · exact Frame.refl _ _

theorem State.canTrigger_frame (a1 : State) (a2 : Nat) :
    Frame 0x200000100400 a1 (State.canTrigger a1 a2) := by
  unfold State.canTrigger
  extract_lets v1 v2 v3
  have h4 : Frame 0x200000100400 a1 v1 := by
    unfold v1
    refine Frame.trans ?_ (State.count_frame rfl (tb_canA rfl) ..)
    exact Frame.refl _ _
  clear_value v1
  refine Frame.ite (fun h5 => ?_) (fun h5 => ?_)
  · refine Frame.step ?_ (State.safeLoad_frame ..) rfl
    refine Frame.step ?_ (State.setCn_frame ..) rfl
    assumption
  · assumption

theorem State.canAbort_frame (a1 : State) (a2 : Nat) (a3 : Status) (a4 : CanTxE) :
    Frame 0x6220000108084 a1 (State.canAbort a1 a2 a3 a4) := by
  unfold State.canAbort
  split
  · rename_i z1 z2
    exact Frame.refl _ _
  · rename_i z3 z4 z5
    refine Frame.trans ?_ (State.event_frame rfl (tb_canA rfl) (tb_canA rfl) ..)
    exact Frame.refl _ _
  · rename_i z6 z7 z8 z9
    refine Frame.step ?_ (State.complete_frame ..) rfl
    refine Frame.trans ?_ (State.event_frame rfl (tb_canA rfl) (tb_canA rfl) ..)
    exact Frame.refl _ _

theorem State.canFlush_frame (a1 : State) (a2 : Nat) (a3 : Status) (a4 : Option Nat) :
    Frame 0x6220000108484 a1 (State.canFlush a1 a2 a3 a4) := by
  unfold State.canFlush
  extract_lets v1 v2 v3
  refine Frame.foldl ?_ (fun u4 x5 h6 => ?_)
  · refine Frame.step ?_ (State.setCn_frame ..) rfl
    exact Frame.refl _ _
  · refine Frame.step ?_ (State.canAbort_frame ..) rfl
    assumption

theorem State.setCanState_frame (a1 : State) (a2 : Nat) (a3 : Nat) :
    Frame 0x200000100000 a1 (State.setCanState a1 a2 a3) := by
  unfold State.setCanState
  refine Frame.trans ?_ (State.put_frame rfl (tb_canA rfl) ..)
  exact Frame.refl _ _

theorem State.canIntegrate_frame (a1 : State) (a2 : Nat) :
    Frame 0x200000100000 a1 (State.canIntegrate a1 a2) := by
  unfold State.canIntegrate
  refine Frame.step ?_ (State.setCanState_frame ..) rfl
  refine Frame.trans ?_ (State.put_frame rfl (tb_canA rfl) ..)
  exact Frame.refl _ _

theorem State.canRestart_frame (a1 : State) (a2 : Nat) (a3 : Nat) (a4 : Nat) :
    Frame 0x6220000108484 a1 (State.canRestart a1 a2 a3 a4) := by
  unfold State.canRestart
  extract_lets v1 v2 v3 v4
  have h5 : Frame 0x6220000108484 a1 v3 := by
    unfold v3
    refine Frame.step ?_ (State.canFlush_frame ..) rfl
    exact Frame.refl _ _
  clear_value v3
  refine Frame.ite (fun h6 => ?_) (fun h6 => ?_)
  · refine Frame.step ?_ (State.setCn_frame ..) rfl
    assumption
  · refine Frame.step ?_ (State.canIntegrate_frame ..) rfl
    refine Frame.step ?_ (State.setCn_frame ..) rfl
    assumption

theorem State.canReserve_frame (a1 : State) (a2 : Nat) (a3 : Option Nat) :
    Frame 0x400 a1 (State.canReserve a1 a2 a3) := by
  unfold State.canReserve
  extract_lets v1
  split
  · rename_i z2 z3
    exact Frame.refl _ _
  · rename_i z4 z5 z6
    refine Frame.ite (fun h7 => ?_) (fun h7 => ?_)
    · exact Frame.refl _ _
    · refine Frame.ite (fun h8 => ?_) (fun h8 => ?_)
      · refine Frame.step ?_ (State.setCn_frame ..) rfl
        exact Frame.refl _ _
      · refine Frame.step ?_ (State.setCn_frame ..) rfl
        exact Frame.refl _ _

theorem State.stamped_frame (a1 : State) (a2 : Nat) :
    Frame 0x40000100000 a1 (State.stamped a1 a2) := by
  unfold State.stamped
  refine Frame.ite (fun h1 => ?_) (fun h1 => ?_)
  · refine Frame.trans ?_ (State.put_frame rfl (tb_timA rfl) ..)
    exact Frame.refl _ _
  · exact Frame.refl _ _

theorem State.confine_frame (a1 : State) (a2 : Nat) :
    Frame 0x6220000108484 a1 (State.confine a1 a2) := by
  unfold State.confine
  refine Frame.ite (fun h1 => ?_) (fun h1 => ?_)
  · exact Frame.refl _ _
  · refine Frame.ite (fun h2 => ?_) (fun h2 => ?_)
    · extract_lets v3 v4
      have h5 : Frame 0x6220000108484 a1 v3 := by
        unfold v3
        refine Frame.trans ?_ (State.event_frame rfl (tb_canA rfl) (tb_canA rfl) ..)
        refine Frame.step ?_ (State.setCanState_frame ..) rfl
        exact Frame.refl _ _
      clear_value v3
      have h6 : Frame 0x6220000108484 a1 v4 := by
        unfold v4
        refine Frame.step ?_ (State.canFlush_frame ..) rfl
        assumption
      clear_value v4
      refine Frame.ite (fun h7 => ?_) (fun h7 => ?_)
      · refine Frame.step ?_ (State.setCanState_frame ..) rfl
        assumption
      · assumption
    · refine Frame.ite (fun h8 => ?_) (fun h8 => ?_)
      · refine Frame.ite (fun h9 => ?_) (fun h9 => ?_)
        · refine Frame.trans ?_ (State.event_frame rfl (tb_canA rfl) (tb_canA rfl) ..)
          refine Frame.step ?_ (State.setCanState_frame ..) rfl
          exact Frame.refl _ _
        · exact Frame.refl _ _
      · refine Frame.step ?_ (State.setCanState_frame ..) rfl
        exact Frame.refl _ _

theorem State.canFinish_frame (a1 : State) (a2 : Nat) :
    Frame 0x200000100400 a1 (State.canFinish a1 a2) := by
  unfold State.canFinish
  refine Frame.ite (fun h1 => ?_) (fun h1 => ?_)
  · exact Frame.refl _ _
  · refine Frame.step ?_ (State.canIntegrate_frame ..) rfl
    refine Frame.step ?_ (State.setCn_frame ..) rfl
    exact Frame.refl _ _

theorem State.canRecover_frame (a1 : State) (a2 : Nat) :
    Frame 0x200000100000 a1 (State.canRecover a1 a2) := by
  unfold State.canRecover
  refine Frame.ite (fun h1 => ?_) (fun h1 => ?_)
  · refine Frame.step ?_ (State.setCanState_frame ..) rfl
    exact Frame.refl _ _
  · exact Frame.refl _ _

theorem State.noteErr_frame (a1 : State) (a2 : Nat) (a3 : CanErr) (a4 : Bool) :
    Frame 0x200000100000 a1 (State.noteErr a1 a2 a3 a4) := by
  unfold State.noteErr
  extract_lets v1 v2
  have h3 : Frame 0x200000100000 a1 v2 := by
    unfold v2
    refine Frame.trans ?_ (State.count_frame rfl (tb_canA rfl) ..)
    exact Frame.refl _ _
  clear_value v2
  refine Frame.ite (fun h4 => ?_) (fun h4 => ?_)
  · assumption
  · refine Frame.trans ?_ (State.put_frame rfl (tb_canA rfl) ..)
    refine Frame.trans ?_ (State.put_frame rfl (tb_canA rfl) ..)
    assumption

theorem State.addErr_frame (a1 : State) (a2 : Nat) (a3 : Nat) (a4 : Nat) :
    Frame 0x200000100000 a1 (State.addErr a1 a2 a3 a4) := by
  unfold State.addErr
  refine Frame.trans ?_ (State.put_frame rfl (tb_canA rfl) ..)
  refine Frame.trans ?_ (State.put_frame rfl (tb_canA rfl) ..)
  exact Frame.refl _ _

theorem State.chargeErr_frame (a1 : State) (a2 : Nat) (a3 : CanErr) (a4 : CanRole) :
    Frame 0x200000100000 a1 (State.chargeErr a1 a2 a3 a4) := by
  unfold State.chargeErr
  split
  · rename_i z1
    refine Frame.ite (fun h2 => ?_) (fun h2 => ?_)
    · exact Frame.refl _ _
    · refine Frame.step ?_ (State.addErr_frame ..) rfl
      exact Frame.refl _ _
  · rename_i z3
    refine Frame.step ?_ (State.addErr_frame ..) rfl
    exact Frame.refl _ _
  · rename_i z4
    refine Frame.step ?_ (State.addErr_frame ..) rfl
    exact Frame.refl _ _
  · rename_i z5
    exact Frame.refl _ _
  · rename_i z6
    refine Frame.ite (fun h7 => ?_) (fun h7 => ?_)
    · exact Frame.refl _ _
    · refine Frame.step ?_ (State.addErr_frame ..) rfl
      exact Frame.refl _ _
  · rename_i z8
    refine Frame.step ?_ (State.addErr_frame ..) rfl
    exact Frame.refl _ _
  · rename_i z9
    refine Frame.step ?_ (State.addErr_frame ..) rfl
    exact Frame.refl _ _

theorem State.canError_frame (a1 : State) (a2 : Nat) (a3 : CanErr) (a4 : Bool) (a5 : CanRole) :
    Frame 0x6220000108484 a1 (State.canError a1 a2 a3 a4 a5) := by
  unfold State.canError
  extract_lets v1 v2 v3
  have h4 : Frame 0x6220000108484 a1 v2 := by
    unfold v2
    refine Frame.ite (fun h5 => ?_) (fun h5 => ?_)
    · exact Frame.refl _ _
    · refine Frame.step ?_ (State.noteErr_frame ..) rfl
      exact Frame.refl _ _
  clear_value v2
  have h6 : Frame 0x6220000108484 a1 v3 := by
    unfold v3
    refine Frame.step ?_ (State.confine_frame ..) rfl
    refine Frame.step ?_ (State.chargeErr_frame ..) rfl
    assumption
  clear_value v3
  refine Frame.ite (fun h7 => ?_) (fun h7 => ?_)
  · refine Frame.step ?_ (State.canFinish_frame ..) rfl
    assumption
  · assumption

theorem execBusOffRecoveryDone_frame (a1 : Nat) (a2 : State) :
    Fr getN 0x200000100000 a2 (execBusOffRecoveryDone a1 a2) := by
  unfold execBusOffRecoveryDone
  refine Fr.guard ?_
  refine Frame.ite (fun h1 => ?_) (fun h1 => ?_)
  · refine Frame.step ?_ (State.setCanState_frame ..) rfl
    refine Frame.trans ?_ (State.put_frame rfl (tb_canA rfl) ..)
    exact Frame.refl _ _
  · exact Frame.refl _ _

theorem State.compact_frame (a1 : State) (a2 : Nat) :
    Frame 0x400 a1 (State.compact a1 a2) := by
  unfold State.compact
  refine Frame.ite (fun h1 => ?_) (fun h1 => ?_)
  · extract_lets v2 v3 v4
    refine Frame.step ?_ (State.setCn_frame ..) rfl
    exact Frame.refl _ _
  · exact Frame.refl _ _

theorem execRecover_frame (a1 : Nat) (a2 : State) :
    Fr getN 0x200000100000 a2 (execRecover a1 a2) := by
  unfold execRecover
  refine Fr.guard ?_
  refine Frame.ite (fun h1 => ?_) (fun h1 => ?_)
  · refine Frame.step ?_ (State.canRecover_frame ..) rfl
    exact Frame.refl _ _
  · exact Frame.refl _ _

theorem State.withdraw_frame (a1 : State) (a2 : Nat) (a3 : Nat) :
    Frame 0x200000100400 a1 (State.withdraw a1 a2 a3) := by
  unfold State.withdraw
  extract_lets v1 v2 v3 v4 v5
  have h6 : Frame 0x200000100400 a1 v5 := by
    unfold v5
    refine Frame.step ?_ (State.setCn_frame ..) rfl
    exact Frame.refl _ _
  clear_value v5
  refine Frame.step ?_ (State.compact_frame ..) rfl
  refine Frame.ite (fun h7 => ?_) (fun h7 => ?_)
  · assumption
  · refine Frame.trans ?_ (State.countN_frame rfl (tb_canA rfl) ..)
    refine Frame.trans ?_ (State.raise_frame rfl (tb_canA rfl) ..)
    assumption

theorem State.canEnqueue_frame (a1 : State) (a2 : Nat) (a3 : CanTxE) :
    Frame 0x6220000108484 a1 (State.canEnqueue a1 a2 a3) := by
  unfold State.canEnqueue
  refine Frame.ite (fun h1 => ?_) (fun h1 => ?_)
  · refine Frame.step ?_ (State.canAbort_frame ..) rfl
    exact Frame.refl _ _
  · extract_lets v2 v3
    have h4 : Frame 0x6220000108484 a1 v3 := by
      unfold v3
      refine Frame.step ?_ (State.setCn_frame ..) rfl
      exact Frame.refl _ _
    clear_value v3
    split
    · rename_i z5 z6 z7 z8
      refine Frame.ite (fun h9 => ?_) (fun h9 => ?_)
      · refine Frame.step ?_ (State.complete_frame ..) rfl
        exact Frame.refl _ _
      · assumption
    · rename_i z10 z11
      assumption

theorem State.loadOne_frame (a1 : State) (a2 : Nat) :
    Frame 0x400 a1 (State.loadOne a1 a2) := by
  unfold State.loadOne
  extract_lets v1
  split
  · rename_i z2 z3
    exact Frame.refl _ _
  · rename_i z4 z5 z6
    split
    · rename_i z7 z8
      exact Frame.refl _ _
    · rename_i z9 z10 z11
      refine Frame.step ?_ (State.setCn_frame ..) rfl
      exact Frame.refl _ _

theorem State.canLoad_frame (a1 : State) (a2 : Nat) :
    Frame 0x400 a1 (State.canLoad a1 a2) := by
  unfold State.canLoad
  refine Frame.ite (fun h1 => ?_) (fun h1 => ?_)
  · refine Frame.step ?_ (State.loadOne_frame ..) rfl
    refine Frame.step ?_ (State.loadOne_frame ..) rfl
    refine Frame.step ?_ (State.loadOne_frame ..) rfl
    refine Frame.step ?_ (State.safeLoad_frame ..) rfl
    exact Frame.refl _ _
  · exact Frame.refl _ _

theorem execCanFrameEligible_frame (a1 : Nat) (a2 : State) :
    Fr getN 0x40000100430 a2 (execCanFrameEligible a1 a2) := by
  unfold execCanFrameEligible
  refine Fr.guard ?_
  split
  · rename_i z1 z2
    refine Frame.step ?_ (State.canLoad_frame ..) rfl
    exact Frame.refl _ _
  · rename_i z3 z4 z5
    refine Frame.trans ?_ (State.atT_frame rfl (fun u6 => ?_) ..)
    · exact Frame.refl _ _
    · refine Frame.step ?_ (State.canLoad_frame ..) rfl
      exact Frame.refl _ _

theorem State.unbuf_frame (a1 : State) (a2 : Nat) (a3 : Nat) :
    Frame 0x400 a1 (State.unbuf a1 a2 a3) := by
  unfold State.unbuf
  extract_lets v1
  refine Frame.step ?_ (State.compact_frame ..) rfl
  refine Frame.step ?_ (State.setCn_frame ..) rfl
  exact Frame.refl _ _

theorem State.tdcSet_frame (a1 : State) (a2 : Nat) (a3 : Nat) (a4 : CanFrame) :
    Frame 0x200000100000 a1 (State.tdcSet a1 a2 a3 a4) := by
  unfold State.tdcSet
  refine Frame.ite (fun h1 => ?_) (fun h1 => ?_)
  · refine Frame.trans ?_ (State.put_frame rfl (tb_canA rfl) ..)
    exact Frame.refl _ _
  · exact Frame.refl _ _

theorem State.fifoPush_frame (a1 : State) (a2 : Nat) (a3 : CanFrame) :
    Frame 0x2200800100408 a1 (State.fifoPush a1 a2 a3) := by
  unfold State.fifoPush
  extract_lets v1 v2 v3
  have h4 : Frame 0x2200800100408 a1 v2 := by
    unfold v2
    refine Frame.trans ?_ (State.count_frame rfl (tb_canA rfl) ..)
    refine Frame.step ?_ (State.setCn_frame ..) rfl
    refine Frame.step ?_ (State.tlySync_frame ..) rfl
    exact Frame.refl _ _
  clear_value v2
  refine Frame.ite (fun h5 => ?_) (fun h5 => ?_)
  · refine Frame.trans ?_ (State.event_frame rfl (tb_canA rfl) (tb_canA rfl) ..)
    exact Frame.refl _ _
  · refine Frame.ite (fun h6 => ?_) (fun h6 => ?_)
    · refine Frame.trans ?_ (State.put_frame rfl (tb_canA rfl) ..)
      assumption
    · assumption

theorem State.txDone_frame (s : State) (c b stamp uncert tdc : Nat) (f : CanBuf) :
    Frame 0x626080010848c s (s.txDone c b stamp uncert tdc f) := by
  unfold State.txDone
  extract_lets sent v1 v2 v3 v4
  have h1 : Frame 0x626080010848c s v1 := Frame.trans (State.put_frame rfl (tb_canA rfl) ..) (State.count_frame rfl (tb_canA rfl) ..)
  have h2 : Frame 0x626080010848c s v2 := Frame.step (Frame.step h1 (State.tdcSet_frame ..) rfl) (State.unbuf_frame ..) rfl
  have h3 : Frame 0x626080010848c s v3 := by
    unfold v3
    generalize f.e.src = src
    cases src with
    | safety => exact Frame.trans h2 (State.raise_frame rfl (tb_canA rfl) ..)
    | axis => exact h2
    | host r n => exact Frame.step (Frame.step h2 (State.stamped_frame ..) rfl) (State.completeAt_frame ..) rfl
  have h4 : Frame 0x626080010848c s v4 :=
    Frame.ite (fun _ => Frame.step h3 (State.fifoPush_frame ..) rfl) (fun _ => Frame.step h3 (State.emit_frame ..) rfl)
  exact Frame.step (Frame.step (Frame.step h4 (State.confine_frame ..) rfl) (State.canFinish_frame ..) rfl) (State.canLoad_frame ..) rfl

theorem State.canTxCompleteS_frame (a1 : State) (a2 : Nat) (a3 : Nat) (a4 : Nat) (a5 : Nat) (a6 : Nat) :
    Frame 0x626080010848c a1 (State.canTxCompleteS a1 a2 a3 a4 a5 a6) := by
  unfold State.canTxCompleteS
  split
  · rename_i z1 z2
    exact Frame.refl _ _
  · rename_i z3 z4 z5
    refine Frame.step ?_ (State.txDone_frame ..) rfl
    exact Frame.refl _ _

theorem execCanTxComplete_frame (a1 : Nat) (a2 : Nat) (a3 : Nat) (a4 : Nat) (a5 : Nat) (a6 : State) :
    Fr getN 0x626080010848c a6 (execCanTxComplete a1 a2 a3 a4 a5 a6) := by
  unfold execCanTxComplete
  refine Fr.guard ?_
  refine Frame.ite (fun h1 => ?_) (fun h1 => ?_)
  · refine Frame.step ?_ (State.canTxCompleteS_frame ..) rfl
    exact Frame.refl _ _
  · exact Frame.refl _ _

theorem State.attemptEnd_frame (a1 : State) (a2 : Nat) (a3 : Nat) (a4 : CanBuf) :
    Frame 0x6220000108484 a1 (State.attemptEnd a1 a2 a3 a4) := by
  unfold State.attemptEnd
  extract_lets v1 v2 v3 v4 v5 v6
  have h7 : Frame 0x6220000108484 a1 v4 := by
    unfold v4
    refine Frame.trans ?_ (State.event_frame rfl (tb_canA rfl) (tb_canA rfl) ..)
    refine Frame.step ?_ (State.unbuf_frame ..) rfl
    exact Frame.refl _ _
  clear_value v4
  have h8 : Frame 0x6220000108484 a1 v5 := by
    unfold v5
    split
    · rename_i z9 z10 z11 z12
      refine Frame.step ?_ (State.complete_frame ..) rfl
      assumption
    · rename_i z13 z14
      assumption
  clear_value v5
  refine Frame.ite (fun h15 => ?_) (fun h15 => ?_)
  · refine Frame.step ?_ (State.canLoad_frame ..) rfl
    refine Frame.trans ?_ (State.event_frame rfl (tb_canA rfl) (tb_canA rfl) ..)
    refine Frame.step ?_ (State.unbuf_frame ..) rfl
    exact Frame.refl _ _
  · refine Frame.ite (fun h16 => ?_) (fun h16 => ?_)
    · refine Frame.step ?_ (State.canLoad_frame ..) rfl
      refine Frame.step ?_ (State.canAbort_frame ..) rfl
      refine Frame.step ?_ (State.unbuf_frame ..) rfl
      exact Frame.refl _ _
    · refine Frame.ite (fun h17 => ?_) (fun h17 => ?_)
      · refine Frame.step ?_ (State.canLoad_frame ..) rfl
        assumption
      · refine Frame.ite (fun h18 => ?_) (fun h18 => ?_)
        · refine Frame.step ?_ (State.canLoad_frame ..) rfl
          refine Frame.step ?_ (State.setCn_frame ..) rfl
          exact Frame.refl _ _
        · refine Frame.step ?_ (State.setCn_frame ..) rfl
          exact Frame.refl _ _

theorem State.attemptFailed_frame (a1 : State) (a2 : Nat) (a3 : Nat) (a4 : Bool) (a5 : Option Nat) :
    Frame 0x6220000108484 a1 (State.attemptFailed a1 a2 a3 a4 a5) := by
  unfold State.attemptFailed
  split
  · rename_i z1 z2
    exact Frame.refl _ _
  · rename_i z3 z4 z5
    refine Frame.ite (fun h6 => ?_) (fun h6 => ?_)
    · refine Frame.step ?_ (State.attemptEnd_frame ..) rfl
      refine Frame.trans ?_ (State.count_frame rfl (tb_canA rfl) ..)
      exact Frame.refl _ _
    · extract_lets v7
      have h8 : Frame 0x6220000108484 a1 v7 := by
        unfold v7
        split
        · rename_i z9
          exact Frame.refl _ _
        · rename_i z10 z11
          refine Frame.step ?_ (State.tdcSet_frame ..) rfl
          exact Frame.refl _ _
      clear_value v7
      refine Frame.step ?_ (State.canFinish_frame ..) rfl
      refine Frame.step ?_ (State.attemptEnd_frame ..) rfl
      assumption

theorem execCanAttemptFailed_frame (a1 : Nat) (a2 : Nat) (a3 : AttemptEnd) (a5 : State) :
    Fr getN 0x6220000108484 a5 (execCanAttemptFailed a1 a2 a3 a5) := by
  unfold execCanAttemptFailed
  refine Fr.guard ?_
  refine Frame.ite (fun h1 => ?_) (fun h1 => ?_)
  · refine Frame.step ?_ (State.attemptFailed_frame ..) rfl
    exact Frame.refl _ _
  · exact Frame.refl _ _

theorem execCanFrameReceived_frame (a1 : Nat) (a2 : CanFrame) (a3 : State) :
    Fr getN 0x622080010848c a3 (execCanFrameReceived a1 a2 a3) := by
  unfold execCanFrameReceived
  refine Fr.guard ?_
  refine Frame.ite (fun h1 => ?_) (fun h1 => ?_)
  · extract_lets v2 v3
    have h4 : Frame 0x622080010848c a3 v3 := by
      unfold v3
      refine Frame.step ?_ (State.confine_frame ..) rfl
      refine Frame.trans ?_ (State.put_frame rfl (tb_canA rfl) ..)
      exact Frame.refl _ _
    clear_value v3
    refine Frame.step ?_ (State.canFinish_frame ..) rfl
    refine Frame.step ?_ (State.fifoPush_frame ..) rfl
    assumption
  · exact Frame.refl _ _

theorem execCanProtocolError_frame (a1 : Nat) (a2 : CanErr) (a3 : Bool) (a4 : CanRole) (a5 : State) :
    Fr getN 0x6220000108484 a5 (execCanProtocolError a1 a2 a3 a4 a5) := by
  unfold execCanProtocolError
  refine Fr.guard ?_
  refine Frame.ite (fun h1 => ?_) (fun h1 => ?_)
  · refine Frame.step ?_ (State.canError_frame ..) rfl
    exact Frame.refl _ _
  · exact Frame.refl _ _

theorem execCanIntegrationDone_frame (a1 : Nat) (a2 : State) :
    Fr getN 0x200000100400 a2 (execCanIntegrationDone a1 a2) := by
  unfold execCanIntegrationDone
  refine Fr.guard ?_
  refine Frame.ite (fun h1 => ?_) (fun h1 => ?_)
  · refine Frame.step ?_ (State.canLoad_frame ..) rfl
    refine Frame.step ?_ (State.setCanState_frame ..) rfl
    exact Frame.refl _ _
  · exact Frame.refl _ _

end Sys2Proof.Machine
end

