-- ==== Sys2Proof/Laws/FrameSafetyBlock.lean ====
section
/-!
SUPPORT. Frame laws of Machine/SafetyBlock.lean: which components each of its operations may change.
-/

namespace Sys2Proof.Machine

open Sys2Proof

theorem State.ssoDrive_frame (a1 : State) (a2 : Nat) (a3 : Bool) :
    Frame 0x1000000100804 a1 (State.ssoDrive a1 a2 a3) := by
  unfold State.ssoDrive
  extract_lets v1 v2 v3 v4
  have h5 : Frame 0x1000000100804 a1 v1 := by
    unfold v1
    refine Frame.trans ?_ (State.put_frame rfl (tb_ssoA rfl) ..)
    exact Frame.refl _ _
  clear_value v1
  have h6 : Frame 0x1000000100804 a1 v2 := by
    unfold v2
    refine Frame.trans ?_ (State.put_frame rfl (tb_ssoA rfl) ..)
    assumption
  clear_value v2
  refine Frame.step ?_ (State.emit_frame ..) rfl
  apply Frame.upd
  · assumption
  all_goals first | exact Or.inr rfl | exact Or.inl rfl | exact Or.inl (Nat.le_refl _) | rfl

theorem State.ssoSet_frame (a1 : State) (a2 : Nat) :
    Frame 0x1000000100804 a1 (State.ssoSet a1 a2) := by
  unfold State.ssoSet
  refine Frame.ite (fun h1 => ?_) (fun h1 => ?_)
  · exact Frame.refl _ _
  · refine Frame.step ?_ (State.ssoDrive_frame ..) rfl
    exact Frame.refl _ _

theorem State.stopAxis_frame (a1 : State) (a2 : Nat) :
    Frame 0x100000100200 a1 (State.stopAxis a1 a2) := by
  unfold State.stopAxis
  refine Frame.ite (fun h1 => ?_) (fun h1 => ?_)
  · extract_lets v2 v3
    have h4 : Frame 0x100000100200 a1 v3 := by
      unfold v3
      refine Frame.step ?_ (State.setAx_frame ..) rfl
      exact Frame.refl _ _
    clear_value v3
    refine Frame.trans ?_ (State.wr_frame rfl (tb_ctlA rfl) ..)
    assumption
  · exact Frame.refl _ _

theorem State.stopGroup_frame (a1 : State) (a2 : Nat) :
    Frame 0x1300000100e04 a1 (State.stopGroup a1 a2) := by
  unfold State.stopGroup
  extract_lets v1 v2 v3 v4 v5 v6 v7
  have h8 : Frame 0x1300000100e04 a1 v1 := by
    unfold v1
    refine Frame.trans ?_ (State.count_frame rfl (tb_safA rfl) ..)
    exact Frame.refl _ _
  clear_value v1
  have h9 : Frame 0x1300000100e04 a1 v3 := by
    unfold v3
    apply Frame.upd
    · assumption
    all_goals first | exact Or.inr rfl | exact Or.inl rfl | exact Or.inl (Nat.le_refl _) | rfl
  clear_value v3
  have h10 : Frame 0x1300000100e04 a1 v4 := by
    unfold v4
    refine Frame.trans ?_ (State.put_frame rfl (tb_safA rfl) ..)
    assumption
  clear_value v4
  have h11 : Frame 0x1300000100e04 a1 v5 := by
    unfold v5
    refine Frame.step ?_ (State.ssoSet_frame ..) rfl
    assumption
  clear_value v5
  have h12 : Frame 0x1300000100e04 a1 v7 := by
    unfold v7
    refine Frame.foldl ?_ (fun u13 x14 h15 => ?_)
    · assumption
    · refine Frame.step ?_ (State.canTrigger_frame ..) rfl
      assumption
  clear_value v7
  refine Frame.ite (fun h16 => ?_) (fun h16 => ?_)
  · assumption
  · refine Frame.foldl ?_ (fun u17 x18 h19 => ?_)
    · assumption
    · refine Frame.step ?_ (State.stopAxis_frame ..) rfl
      assumption

theorem State.stopGroups_frame (a1 : State) (a2 : Nat) :
    Frame 0x1300000100e04 a1 (State.stopGroups a1 a2) := by
  unfold State.stopGroups
  refine Frame.foldl ?_ (fun u1 x2 h3 => ?_)
  · exact Frame.refl _ _
  · refine Frame.step ?_ (State.stopGroup_frame ..) rfl
    assumption

theorem State.safFault_frame (a1 : State) (a2 : Status) (a3 : Nat) (a4 : Nat) (a5 : Nat) :
    Frame 0x5000000108000 a1 (State.safFault a1 a2 a3 a4 a5) := by
  unfold State.safFault
  extract_lets v1 v2
  have h3 : Frame 0x5000000108000 a1 v2 := by
    unfold v2
    refine Frame.trans ?_ (State.wr64_frame rfl (tb_safA rfl) (tb 8 (by unfold safA; omega) (by unfold safA; omega) (by omega) rfl) ..)
    refine Frame.trans ?_ (State.wr_frame rfl (tb_safA rfl) ..)
    exact Frame.refl _ _
  clear_value v2
  refine Frame.step ?_ (State.hmLog_frame ..) rfl
  assumption

theorem State.canaryFault_frame (a1 : State) (a2 : Nat) (a3 : Status) :
    Frame 0x5300000108e04 a1 (State.canaryFault a1 a2 a3) := by
  unfold State.canaryFault
  extract_lets v1
  refine Frame.step ?_ (State.stopGroups_frame ..) rfl
  refine Frame.step ?_ (State.safFault_frame ..) rfl
  refine Frame.trans ?_ (State.event_frame rfl (tb_safA rfl) (tb_safA rfl) ..)
  exact Frame.refl _ _

theorem State.canaryDefer_frame (a1 : State) (a2 : Nat) :
    Frame 0x5300000108e04 a1 (State.canaryDefer a1 a2) := by
  unfold State.canaryDefer
  extract_lets v1 v2
  have h3 : Frame 0x5300000108e04 a1 v2 := by
    unfold v2
    refine Frame.trans ?_ (State.put_frame rfl (tb_safSt rfl) ..)
    refine Frame.trans ?_ (State.put_frame rfl (tb_safSt rfl) ..)
    refine Frame.trans ?_ (State.count_frame rfl (tb_safA rfl) ..)
    exact Frame.refl _ _
  clear_value v2
  refine Frame.ite (fun h4 => ?_) (fun h4 => ?_)
  · refine Frame.step ?_ (State.canaryFault_frame ..) rfl
    refine Frame.trans ?_ (State.put_frame rfl (tb_safSt rfl) ..)
    assumption
  · assumption

theorem State.siTrack_frame (a1 : State) (a2 : Nat) :
    Frame 0x1000000100800 a1 (State.siTrack a1 a2) := by
  unfold State.siTrack
  extract_lets v1 v2 v3
  have h4 : Frame 0x1000000100800 a1 v1 := by
    unfold v1
    refine Frame.trans ?_ (State.put_frame rfl (tb_safA rfl) ..)
    exact Frame.refl _ _
  clear_value v1
  apply Frame.upd
  · assumption
  all_goals first | exact Or.inr rfl | exact Or.inl rfl | exact Or.inl (Nat.le_refl _) | rfl

theorem State.siDemand_frame (a1 : State) (a2 : Nat) :
    Frame 0x5300000108e04 a1 (State.siDemand a1 a2) := by
  unfold State.siDemand
  refine Frame.step ?_ (State.stopGroups_frame ..) rfl
  refine Frame.step ?_ (State.safFault_frame ..) rfl
  refine Frame.trans ?_ (State.event_frame rfl (tb_safA rfl) (tb_safA rfl) ..)
  exact Frame.refl _ _

theorem State.pulseResume_frame (a1 : State) (a2 : Nat) (a3 : Nat) :
    Frame 0x800 a1 (State.pulseResume a1 a2 a3) := by
  unfold State.pulseResume
  extract_lets v1 v2 v3
  refine Frame.ite (fun h4 => ?_) (fun h4 => ?_)
  · exact Frame.refl _ _
  · apply Frame.upd
    · exact Frame.refl _ _
    all_goals first | exact Or.inr rfl | exact Or.inl rfl | exact Or.inl (Nat.le_refl _) | rfl

theorem State.ssoUpdate_frame (a1 : State) :
    Frame 0x1000000100804 a1 (State.ssoUpdate a1) := by
  unfold State.ssoUpdate
  refine Frame.step ?_ (State.ssoSet_frame ..) rfl
  refine Frame.step ?_ (State.ssoSet_frame ..) rfl
  refine Frame.step ?_ (State.ssoSet_frame ..) rfl
  refine Frame.step ?_ (State.ssoSet_frame ..) rfl
  exact Frame.refl _ _

theorem State.wdFault_frame (a1 : State) (a2 : Nat) (a3 : Nat) (a4 : Nat) :
    Frame 0x5300000108e04 a1 (State.wdFault a1 a2 a3 a4) := by
  unfold State.wdFault
  refine Frame.step ?_ (State.stopGroups_frame ..) rfl
  refine Frame.step ?_ (State.safFault_frame ..) rfl
  exact Frame.refl _ _

theorem State.wdMiss_frame (a1 : State) (a2 : Nat) :
    Frame 0x1000000100000 a1 (State.wdMiss a1 a2) := by
  unfold State.wdMiss
  refine Frame.trans ?_ (State.event_frame rfl (tb_safA rfl) (tb_safA rfl) ..)
  exact Frame.refl _ _

theorem State.wdIngest_frame (a1 : State) (a2 : Nat) :
    Frame 0x5300000108e04 a1 (State.wdIngest a1 a2) := by
  unfold State.wdIngest
  refine Frame.ite (fun h1 => ?_) (fun h1 => ?_)
  · extract_lets v2 v3 v4
    have h5 : Frame 0x5300000108e04 a1 v4 := by
      unfold v4
      refine Frame.step ?_ (State.setSst_frame ..) rfl
      exact Frame.refl _ _
    clear_value v4
    refine Frame.ite (fun h6 => ?_) (fun h6 => ?_)
    · refine Frame.step ?_ (State.wdFault_frame ..) rfl
      refine Frame.step ?_ (State.wdMiss_frame ..) rfl
      assumption
    · assumption
  · exact Frame.refl _ _

theorem State.acceptReset_frame (a1 : State) (a2 : Nat) :
    Frame 0x800 a1 (State.acceptReset a1 a2) := by
  unfold State.acceptReset
  apply Frame.upd
  · exact Frame.refl _ _
  all_goals first | exact Or.inr rfl | exact Or.inl rfl | exact Or.inl (Nat.le_refl _) | rfl

theorem State.storeGolden_frame (a1 : State) (a2 : Nat) (a3 : Golden) :
    Fr getO 0x800 a1 (State.storeGolden a1 a2 a3) := by
  unfold State.storeGolden
  refine Fr.ite (fun h1 => ?_) (fun h1 => ?_)
  · exact Fr.none
  · refine Fr.some ?_
    refine Frame.step ?_ (State.setSst_frame ..) rfl
    exact Frame.refl _ _

theorem State.pulseEdge_frame (a1 : State) (a2 : Nat) (a3 : Nat) (a4 : Nat) (a5 : Pulse) :
    Frame 0x1000000100804 a1 (State.pulseEdge a1 a2 a3 a4 a5) := by
  unfold State.pulseEdge
  extract_lets v1 v2 v3
  have h4 : Frame 0x1000000100804 a1 v1 := by
    unfold v1
    refine Frame.trans ?_ (State.put_frame rfl (tb_ssoA rfl) ..)
    exact Frame.refl _ _
  clear_value v1
  have h5 : Frame 0x1000000100804 a1 v3 := by
    unfold v3
    apply Frame.upd
    · assumption
    all_goals first | exact Or.inr rfl | exact Or.inl rfl | exact Or.inl (Nat.le_refl _) | rfl
  clear_value v3
  refine Frame.step ?_ (State.emit_frame ..) rfl
  assumption

theorem execSsoTestPulse_frame (a1 : Nat) (a2 : Nat) (a3 : State) :
    Fr getN 0x1040000100834 a3 (execSsoTestPulse a1 a2 a3) := by
  unfold execSsoTestPulse
  refine Fr.guard ?_
  extract_lets v1
  refine Frame.ite (fun h2 => ?_) (fun h2 => ?_)
  · exact Frame.refl _ _
  · refine Frame.trans ?_ (State.atRef_frame rfl (fun u3 => ?_) ..)
    · exact Frame.refl _ _
    · refine Frame.step ?_ (State.pulseEdge_frame ..) rfl
      exact Frame.refl _ _

theorem State.safFaultFree_frame (a1 : State) (a2 : Status) (a3 : Nat) (a4 : Nat) :
    Frame 0x5000000108008 a1 (State.safFaultFree a1 a2 a3 a4) := by
  unfold State.safFaultFree
  refine Frame.step ?_ (State.bump_frame ..) rfl
  refine Frame.step ?_ (State.safFault_frame ..) rfl
  exact Frame.refl _ _

theorem State.tickUnlocked_frame (a1 : State) :
    Frame 0x5300000108e0c a1 (State.tickUnlocked a1) := by
  unfold State.tickUnlocked
  refine Frame.ite (fun h1 => ?_) (fun h1 => ?_)
  · extract_lets v2
    refine Frame.step ?_ (State.stopGroups_frame ..) rfl
    refine Frame.step ?_ (State.safFaultFree_frame ..) rfl
    refine Frame.trans ?_ (State.raise_frame rfl (tb_safA rfl) ..)
    exact Frame.refl _ _
  · exact Frame.refl _ _

theorem State.setLocked_frame (a1 : State) (a2 : Bool) :
    Frame 0x5340000108e0c a1 (State.setLocked a1 a2) := by
  unfold State.setLocked
  extract_lets v1 v2
  have h3 : Frame 0x5340000108e0c a1 v2 := by
    unfold v2
    refine Frame.trans ?_ (State.put_frame rfl (tb_timA rfl) ..)
    exact Frame.refl _ _
  clear_value v2
  refine Frame.ite (fun h4 => ?_) (fun h4 => ?_)
  · refine Frame.step ?_ (State.tickUnlocked_frame ..) rfl
    assumption
  · assumption

theorem execSegmentWatchdogExpiry_frame (a1 : Nat) (a2 : State) :
    Fr getN 0x5340000108e34 a2 (execSegmentWatchdogExpiry a1 a2) := by
  unfold execSegmentWatchdogExpiry
  refine Fr.guard ?_
  split
  · rename_i z1 z2
    exact Frame.refl _ _
  · rename_i z3 z4 z5
    refine Frame.ite (fun h6 => ?_) (fun h6 => ?_)
    · exact Frame.refl _ _
    · refine Frame.trans ?_ (State.atRef_frame rfl (fun u7 => ?_) ..)
      · exact Frame.refl _ _
      · refine Frame.step ?_ (State.wdFault_frame ..) rfl
        refine Frame.step ?_ (State.wdMiss_frame ..) rfl
        refine Frame.step ?_ (State.setAx_frame ..) rfl
        exact Frame.refl _ _

theorem State.restartWd_frame (a1 : State) (a2 : Nat) :
    Frame 0x800 a1 (State.restartWd a1 a2) := by
  unfold State.restartWd
  extract_lets v1
  refine Frame.ite (fun h2 => ?_) (fun h2 => ?_)
  · refine Frame.foldl ?_ (fun u3 x4 h5 => ?_)
    · exact Frame.refl _ _
    · refine Frame.step ?_ (State.setSst_frame ..) rfl
      assumption
  · exact Frame.refl _ _

theorem execGoldenLoad_frame (a1 : Nat) (a2 : Option Bytes) (a3 : Option Bytes) (a4 : State) :
    Fr getN 0x6030000109884 a4 (execGoldenLoad a1 a2 a3 a4) := by
  unfold execGoldenLoad
  refine Fr.guard ?_
  refine Frame.trans ?_ (State.withDesc_frame rfl (fun u1 x2 => ?_) ..)
  · exact Frame.refl _ _
  · extract_lets v3
    split
    · rename_i z4 z5 z6 z7
      refine Frame.ite (fun h8 => ?_) (fun h8 => ?_)
      · unfold v3
        refine Frame.step ?_ (State.complete_frame ..) rfl
        exact Frame.refl _ _
      · split
        · rename_i z9 z10
          unfold v3
          refine Frame.step ?_ (State.complete_frame ..) rfl
          exact Frame.refl _ _
        · rename_i z11 z12 z13
          have h14 : Frame 0x6030000109884 u1 z12 := Fr.ofSome z13 (by
            refine Fr.step ?_ (State.storeGolden_frame ..) rfl
            refine Frame.step ?_ (State.logDesc_frame ..) rfl
            exact Frame.refl _ _)
          unfold v3
          refine Frame.step ?_ (State.complete_frame ..) rfl
          assumption
    · rename_i z15 z16 z17
      unfold v3
      refine Frame.step ?_ (State.complete_frame ..) rfl
      exact Frame.refl _ _

theorem State.latchStop_frame (a1 : State) (a2 : Bool) :
    Frame 0x800 a1 (State.latchStop a1 a2) := by
  unfold State.latchStop
  apply Frame.upd
  · exact Frame.refl _ _
  all_goals first | exact Or.inr rfl | exact Or.inl rfl | exact Or.inl (Nat.le_refl _) | rfl

theorem State.packageStop_frame (a1 : State) (a2 : Bool) :
    Frame 0x1300000100e04 a1 (State.packageStop a1 a2) := by
  unfold State.packageStop
  refine Frame.foldl ?_ (fun u1 x2 h3 => ?_)
  · refine Frame.step ?_ (State.stopGroups_frame ..) rfl
    refine Frame.step ?_ (State.latchStop_frame ..) rfl
    refine Frame.trans ?_ (State.put_frame rfl (tb_safA rfl) ..)
    exact Frame.refl _ _
  · refine Frame.step ?_ (State.stopAxis_frame ..) rfl
    assumption

theorem State.wdPackage_frame (a1 : State) (a2 : Nat) (a3 : Option Nat) :
    Frame 0x5300000108e0c a1 (State.wdPackage a1 a2 a3) := by
  unfold State.wdPackage
  extract_lets v1 v2
  have h3 : Frame 0x5300000108e0c a1 v1 := by
    unfold v1
    refine Frame.step ?_ (State.wdMiss_frame ..) rfl
    exact Frame.refl _ _
  clear_value v1
  have h4 : Frame 0x5300000108e0c a1 v2 := by
    unfold v2
    split
    · rename_i z5 z6
      refine Frame.step ?_ (State.safFault_frame ..) rfl
      assumption
    · rename_i z7
      refine Frame.step ?_ (State.safFaultFree_frame ..) rfl
      assumption
  clear_value v2
  refine Frame.step ?_ (State.packageStop_frame ..) rfl
  assumption

theorem execKernelKick_frame (a1 : Nat) (a2 : Nat) (a3 : State) :
    Fr getN 0x5340000108e3c a3 (execKernelKick a1 a2 a3) := by
  unfold execKernelKick
  refine Fr.next ?_
  refine Frame.ite (fun h1 => ?_) (fun h1 => ?_)
  · exact Frame.refl _ _
  · split
    · rename_i z2 z3
      apply Frame.upd
      · exact Frame.refl _ _
      all_goals first | exact Or.inr rfl | exact Or.inl rfl | exact Or.inl (Nat.le_refl _) | rfl
    · rename_i z4 z5 z6 z7
      refine Frame.trans ?_ (State.atRef_frame rfl (fun u8 => ?_) ..)
      · exact Frame.refl _ _
      · extract_lets v9 v10 v11
        have h12 : Frame 0x5340000108e3c u8 v11 := by
          unfold v11
          apply Frame.upd
          · exact Frame.refl _ _
          all_goals first | exact Or.inr rfl | exact Or.inl rfl | exact Or.inl (Nat.le_refl _) | rfl
        clear_value v11
        refine Frame.ite (fun h13 => ?_) (fun h13 => ?_)
        · assumption
        · refine Frame.step ?_ (State.wdPackage_frame ..) rfl
          assumption

theorem State.releaseGroups_frame (a1 : State) :
    Frame 0x1000000100804 a1 (State.releaseGroups a1) := by
  unfold State.releaseGroups
  extract_lets v1 v2 v3 v4 v5
  have h6 : Frame 0x1000000100804 a1 v4 := by
    unfold v4
    apply Frame.upd
    · exact Frame.refl _ _
    all_goals first | exact Or.inr rfl | exact Or.inl rfl | exact Or.inl (Nat.le_refl _) | rfl
  clear_value v4
  refine Frame.ite (fun h7 => ?_) (fun h7 => ?_)
  · assumption
  · refine Frame.step ?_ (State.ssoUpdate_frame ..) rfl
    refine Frame.step ?_ (State.restartWd_frame ..) rfl
    refine Frame.trans ?_ (State.countN_frame rfl (tb_safA rfl) ..)
    refine Frame.trans ?_ (State.put_frame rfl (tb_safA rfl) ..)
    assumption

theorem State.canaryCheck_frame (a1 : State) (a2 : Nat) (a3 : Bytes) :
    Frame 0x5300000108e04 a1 (State.canaryCheck a1 a2 a3) := by
  unfold State.canaryCheck
  split
  · rename_i z1 z2
    exact Frame.refl _ _
  · rename_i z3 z4 z5 z6
    extract_lets v7 v8 v9
    have h10 : Frame 0x5300000108e04 a1 v8 := by
      unfold v8
      refine Frame.trans ?_ (State.put_frame rfl (tb_safSt rfl) ..)
      refine Frame.step ?_ (State.setSst_frame ..) rfl
      exact Frame.refl _ _
    clear_value v8
    have h11 : Frame 0x5300000108e04 a1 v9 := by
      unfold v9
      refine Frame.trans ?_ (State.put_frame rfl (tb_safSt rfl) ..)
      refine Frame.trans ?_ (State.count_frame rfl (tb_safA rfl) ..)
      assumption
    clear_value v9
    refine Frame.ite (fun h12 => ?_) (fun h12 => ?_)
    · refine Frame.trans ?_ (State.put_frame rfl (tb_safSt rfl) ..)
      refine Frame.trans ?_ (State.put_frame rfl (tb_safSt rfl) ..)
      assumption
    · refine Frame.step ?_ (State.canaryFault_frame ..) rfl
      refine Frame.trans ?_ (State.put_frame rfl (tb_safSt rfl) ..)
      assumption

theorem execProfileWatchdogExpiry_frame (a1 : State) :
    Fr getN 0x5340000108e3c a1 (execProfileWatchdogExpiry a1) := by
  unfold execProfileWatchdogExpiry
  refine Fr.next ?_
  refine Frame.ite (fun h1 => ?_) (fun h1 => ?_)
  · refine Frame.trans ?_ (State.atT_frame rfl (fun u2 => ?_) ..)
    · exact Frame.refl _ _
    · refine Frame.step ?_ (State.wdPackage_frame ..) rfl
      exact Frame.refl _ _
  · exact Frame.refl _ _

theorem execLoopWatchdogExpiry_frame (a1 : State) :
    Fr getN 0x5340000108e3c a1 (execLoopWatchdogExpiry a1) := by
  unfold execLoopWatchdogExpiry
  refine Fr.next ?_
  refine Frame.ite (fun h1 => ?_) (fun h1 => ?_)
  · refine Frame.trans ?_ (State.atT_frame rfl (fun u2 => ?_) ..)
    · exact Frame.refl _ _
    · refine Frame.step ?_ (State.wdPackage_frame ..) rfl
      exact Frame.refl _ _
  · exact Frame.refl _ _

theorem execOutputWatchdogExpiry_frame (a1 : Nat) (a2 : State) :
    Fr getN 0x5340000108e3c a2 (execOutputWatchdogExpiry a1 a2) := by
  unfold execOutputWatchdogExpiry
  refine Fr.guard ?_
  split
  · rename_i z1 z2 z3
    refine Frame.trans ?_ (State.atT_frame rfl (fun u4 => ?_) ..)
    · exact Frame.refl _ _
    · refine Frame.step ?_ (State.wdPackage_frame ..) rfl
      exact Frame.refl _ _
  · rename_i z5 z6
    refine Frame.ite (fun h7 => ?_) (fun h7 => ?_)
    · refine Frame.trans ?_ (State.atT_frame rfl (fun u8 => ?_) ..)
      · exact Frame.refl _ _
      · refine Frame.step ?_ (State.wdPackage_frame ..) rfl
        exact Frame.refl _ _
    · exact Frame.refl _ _

theorem execKernelWatchdogExpiry_frame (a1 : State) :
    Fr getN 0x5340000108e3c a1 (execKernelWatchdogExpiry a1) := by
  unfold execKernelWatchdogExpiry
  refine Fr.next ?_
  split
  · rename_i z1 z2
    exact Frame.refl _ _
  · rename_i z3 z4 z5 z6
    refine Frame.trans ?_ (State.atRef_frame rfl (fun u7 => ?_) ..)
    · exact Frame.refl _ _
    · refine Frame.step ?_ (State.wdPackage_frame ..) rfl
      apply Frame.upd
      · exact Frame.refl _ _
      all_goals first | exact Or.inr rfl | exact Or.inl rfl | exact Or.inl (Nat.le_refl _) | rfl

theorem execSafetyInputChange_frame (a1 : Nat) (a2 : Nat) (a3 : Bool) (a4 : Nat) (a5 : Nat) (a6 : State) :
    Fr getN 0x5350000109e04 a6 (execSafetyInputChange a1 a2 a3 a4 a5 a6) := by
  unfold execSafetyInputChange
  refine Fr.guard ?_
  refine Frame.ite (fun h1 => ?_) (fun h1 => ?_)
  · exact Frame.refl _ _
  · extract_lets v2 v3 v4 v5 v6
    have h7 : Frame 0x5350000109e04 a6 v4 := by
      unfold v4
      refine Frame.step ?_ (State.stamped_frame ..) rfl
      refine Frame.trans ?_ (State.put_frame rfl (tb_safA rfl) ..)
      exact Frame.refl _ _
    clear_value v4
    have h8 : Frame 0x5350000109e04 a6 v5 := by
      unfold v5
      refine Frame.step ?_ (State.slogAdd_frame ..) rfl
      assumption
    clear_value v5
    have h9 : Frame 0x5350000109e04 a6 v6 := by
      unfold v6
      refine Frame.step ?_ (State.siTrack_frame ..) rfl
      assumption
    clear_value v6
    refine Frame.ite (fun h10 => ?_) (fun h10 => ?_)
    · refine Frame.step ?_ (State.siDemand_frame ..) rfl
      assumption
    · assumption

theorem execInputDiscrepancy_frame (a1 : Nat) (a2 : State) :
    Fr getN 0x5340000108e34 a2 (execInputDiscrepancy a1 a2) := by
  unfold execInputDiscrepancy
  refine Fr.guard ?_
  extract_lets v1
  refine Frame.ite (fun h2 => ?_) (fun h2 => ?_)
  · exact Frame.refl _ _
  · refine Frame.trans ?_ (State.atRef_frame rfl (fun u3 => ?_) ..)
    · exact Frame.refl _ _
    · extract_lets v4 v5 v6
      have h7 : Frame 0x5340000108e34 u3 v5 := by
        unfold v5
        apply Frame.upd
        · exact Frame.refl _ _
        all_goals first | exact Or.inr rfl | exact Or.inl rfl | exact Or.inl (Nat.le_refl _) | rfl
      clear_value v5
      have h8 : Frame 0x5340000108e34 u3 v6 := by
        unfold v6
        refine Frame.trans ?_ (State.event_frame rfl (tb_safA rfl) (tb_safA rfl) ..)
        refine Frame.trans ?_ (State.raise_frame rfl (tb_safA rfl) ..)
        assumption
      clear_value v6
      refine Frame.step ?_ (State.stopGroups_frame ..) rfl
      refine Frame.step ?_ (State.safFault_frame ..) rfl
      assumption

theorem execSsoReadbackFault_frame (a1 : Nat) (a2 : Nat) (a3 : State) :
    Fr getN 0x5300000108e0c a3 (execSsoReadbackFault a1 a2 a3) := by
  unfold execSsoReadbackFault
  refine Fr.guard ?_
  refine Frame.ite (fun h1 => ?_) (fun h1 => ?_)
  · exact Frame.refl _ _
  · extract_lets v2 v3
    have h4 : Frame 0x5300000108e0c a3 v3 := by
      unfold v3
      refine Frame.trans ?_ (State.event_frame rfl (tb_safA rfl) (tb_safA rfl) ..)
      refine Frame.trans ?_ (State.raise_frame rfl (tb_ssoA rfl) ..)
      exact Frame.refl _ _
    clear_value v3
    refine Frame.trans ?_ (State.put_frame rfl (tb_ssoA rfl) ..)
    refine Frame.step ?_ (State.packageStop_frame ..) rfl
    refine Frame.step ?_ (State.safFaultFree_frame ..) rfl
    assumption

theorem execTestPulseEnd_frame (a1 : Nat) (a2 : Nat) (a3 : State) :
    Fr getN 0x1040000100834 a3 (execTestPulseEnd a1 a2 a3) := by
  unfold execTestPulseEnd
  refine Fr.guard ?_
  extract_lets v1
  refine Frame.ite (fun h2 => ?_) (fun h2 => ?_)
  · exact Frame.refl _ _
  · refine Frame.trans ?_ (State.atRef_frame rfl (fun u3 => ?_) ..)
    · exact Frame.refl _ _
    · refine Frame.step ?_ (State.pulseEdge_frame ..) rfl
      exact Frame.refl _ _

theorem execIngestWatchdogExpiry_frame (a1 : Nat) (a2 : State) :
    Fr getN 0x5340000108e34 a2 (execIngestWatchdogExpiry a1 a2) := by
  unfold execIngestWatchdogExpiry
  refine Fr.guard ?_
  split
  · rename_i z1 z2
    exact Frame.refl _ _
  · rename_i z3 z4 z5
    refine Frame.ite (fun h6 => ?_) (fun h6 => ?_)
    · exact Frame.refl _ _
    · refine Frame.trans ?_ (State.atRef_frame rfl (fun u7 => ?_) ..)
      · exact Frame.refl _ _
      · refine Frame.step ?_ (State.wdFault_frame ..) rfl
        refine Frame.step ?_ (State.wdMiss_frame ..) rfl
        refine Frame.step ?_ (State.setSst_frame ..) rfl
        exact Frame.refl _ _

theorem execPerceptionWatchdogMiss_frame (a1 : State) :
    Fr getN 0x5300000108e0c a1 (execPerceptionWatchdogMiss a1) := by
  unfold execPerceptionWatchdogMiss
  refine Fr.next ?_
  refine Frame.ite (fun h1 => ?_) (fun h1 => ?_)
  · exact Frame.refl _ _
  · extract_lets v2 v3 v4 v5 v6 v7
    have h8 : Frame 0x5300000108e0c a1 v5 := by
      unfold v5
      apply Frame.upd
      · exact Frame.refl _ _
      all_goals first | exact Or.inr rfl | exact Or.inl rfl | exact Or.inl (Nat.le_refl _) | rfl
    clear_value v5
    have h9 : Frame 0x5300000108e0c a1 v6 := by
      unfold v6
      refine Frame.step ?_ (State.wdMiss_frame ..) rfl
      assumption
    clear_value v6
    refine Frame.ite (fun h10 => ?_) (fun h10 => ?_)
    · refine Frame.step ?_ (State.stopGroups_frame ..) rfl
      refine Frame.step ?_ (State.safFaultFree_frame ..) rfl
      assumption
    · assumption

theorem execSafetyReset_frame (a1 : Nat) (a2 : State) :
    Fr getN 0x6030000109884 a2 (execSafetyReset a1 a2) := by
  unfold execSafetyReset
  refine Fr.guard ?_
  refine Frame.trans ?_ (State.withDesc_frame rfl (fun u1 x2 => ?_) ..)
  · exact Frame.refl _ _
  · extract_lets v3 v4 v5
    refine Frame.ite (fun h6 => ?_) (fun h6 => ?_)
    · refine Frame.step ?_ (State.acceptReset_frame ..) rfl
      refine Frame.step ?_ (State.logDesc_frame ..) rfl
      unfold v4
      refine Frame.step ?_ (State.complete_frame ..) rfl
      exact Frame.refl _ _
    · unfold v4
      refine Frame.step ?_ (State.complete_frame ..) rfl
      exact Frame.refl _ _

end Sys2Proof.Machine
end

