-- ==== Sys2Proof/Laws/FrameShiftLog.lean ====
section
/-!
SUPPORT. Frame laws of Machine/ShiftLog.lean: which components each of its operations may change.
-/

namespace Sys2Proof.Machine

open Sys2Proof

theorem State.logConfig_frame (a1 : State) :
    Frame 0x10000101000 a1 (State.logConfig a1) := by
  unfold State.logConfig
  extract_lets v1
  refine Frame.foldl ?_ (fun u2 x3 h4 => ?_)
  · exact Frame.refl _ _
  · refine Frame.step ?_ (State.slogNow_frame ..) rfl
    assumption

theorem State.logStart_frame (a1 : State) :
    Frame 0x10000101000 a1 (State.logStart a1) := by
  unfold State.logStart
  refine Frame.step ?_ (State.slogNow_frame ..) rfl
  exact Frame.refl _ _

theorem State.postsDone_frame (a1 : State) (a2 : Bool) :
    Frame 0x6020000109084 a1 (State.postsDone a1 a2) := by
  unfold State.postsDone
  extract_lets v1 v2 v3
  have h4 : Frame 0x6020000109084 a1 v3 := by
    unfold v3
    apply Frame.upd
    · exact Frame.refl _ _
    all_goals first | exact Or.inr rfl | exact Or.inl rfl | exact Or.inl (Nat.le_refl _) | rfl
  clear_value v3
  refine Frame.foldl ?_ (fun u5 x6 h7 => ?_)
  · assumption
  · split
    · rename_i z8 z9
      assumption
    · rename_i z10 z11 z12
      refine Frame.step ?_ (State.completeR_frame ..) rfl
      refine Frame.step ?_ (State.hostData_frame ..) rfl
      assumption

theorem execLogPost_frame (a1 : Nat) (a2 : Option Bytes) (a3 : State) :
    Fr getN 0x6020000109084 a3 (execLogPost a1 a2 a3) := by
  unfold execLogPost
  refine Fr.guard ?_
  refine Frame.trans ?_ (State.withDesc_frame rfl (fun u1 x2 => ?_) ..)
  · exact Frame.refl _ _
  · refine Frame.ite (fun h3 => ?_) (fun h3 => ?_)
    · extract_lets v4 v5
      refine Frame.step ?_ (State.postsDone_frame ..) rfl
      apply Frame.upd
      · exact Frame.refl _ _
      all_goals first | exact Or.inr rfl | exact Or.inl rfl | exact Or.inl (Nat.le_refl _) | rfl
    · split
      · rename_i z6
        refine Frame.step ?_ (State.complete_frame ..) rfl
        exact Frame.refl _ _
      · rename_i z7 z8
        extract_lets v9 v10 v11
        have h12 : Frame 0x6020000109084 u1 v11 := by
          unfold v11
          apply Frame.upd
          · exact Frame.refl _ _
          all_goals first | exact Or.inr rfl | exact Or.inl rfl | exact Or.inl (Nat.le_refl _) | rfl
        clear_value v11
        refine Frame.step ?_ (State.complete_frame ..) rfl
        assumption

theorem State.logEdge_frame (a1 : State) :
    Frame 0x10000101000 a1 (State.logEdge a1) := by
  unfold State.logEdge
  extract_lets v1
  refine Frame.step ?_ (State.slogNow_frame ..) rfl
  exact Frame.refl _ _

end Sys2Proof.Machine
end

