-- ==== Sys2Proof/Laws/FrameHarbour.lean ====
section
/-!
SUPPORT. Frame laws of Machine/Harbour.lean: which components each of its operations may change.
-/

namespace Sys2Proof.Machine

open Sys2Proof

theorem State.crashed_frame (a1 : State) (a2 : Pilot) (a3 : Nat) (a4 : Nat) :
    Frame 0x4000000108008 a1 (State.crashed a1 a2 a3 a4) := by
  unfold State.crashed
  extract_lets v1 v2 v3 v4
  have h5 : Frame 0x4000000108008 a1 v3 := by
    unfold v3
    apply Frame.upd
    · exact Frame.refl _ _
    all_goals first | exact Or.inr rfl | exact Or.inl rfl | exact Or.inl (Nat.le_refl _) | rfl
  clear_value v3
  have h6 : Frame 0x4000000108008 a1 v4 := by
    unfold v4
    refine Frame.trans ?_ (State.event_frame rfl (tb_mgtA rfl) (tb_mgtA rfl) ..)
    refine Frame.trans ?_ (State.put_frame rfl (tb_mgtA rfl) ..)
    assumption
  clear_value v4
  refine Frame.step ?_ (State.hmLog_frame ..) rfl
  assumption

theorem State.withMgt_frame {m : Nat} (hK : 0x6020000108084 &&& m = 0x6020000108084) {s : State} {op : Nat} {req : Option Bytes}
    {f : State → MgtSrc → Bytes → State} (hf : ∀ u c b, Frame m u (f u c b)) : Frame m s (s.withMgt op req f) := by
  have hq : ∀ q, Frame 0x8000 s { s with hm := { s.hm with queue := q } } := by
    intro q
    apply Frame.upd (Frame.refl _ s)
    case h_ref => exact Or.inl (Nat.le_refl _)
    all_goals first | exact Or.inr rfl | exact Or.inl rfl | rfl
  have h0 : 0x8000 &&& m = 0x8000 := mask_trans rfl hK
  unfold State.withMgt
  split
  · exact Frame.refl _ _
  · split
    · exact Frame.trans ((hq _).mono h0) (hf ..)
    · exact Frame.refl _ _
  · split
    · exact Frame.refl _ _
    · split
      · exact Frame.refl _ _
      · extract_lets w v n
        have hv : Frame m s v := by
          refine Frame.trans ((hq _).mono h0) ((State.begin_frame ..).mono (mask_trans rfl hK))
        clear_value v
        split
        · exact Frame.trans hv ((State.complete_frame ..).mono hK)
        · exact Frame.trans hv (hf ..)

theorem State.mbxDone_frame (a1 : State) (a2 : Nat) (a3 : Status) (a4 : Bytes) :
    Frame 0x204000000108000 a1 (State.mbxDone a1 a2 a3 a4) := by
  unfold State.mbxDone
  extract_lets v1 v2 v3 v4
  have h5 : Frame 0x204000000108000 a1 v2 := by
    unfold v2
    apply Frame.upd
    · exact Frame.refl _ _
    all_goals first | exact Or.inr rfl | exact Or.inl rfl | exact Or.inl (Nat.le_refl _) | rfl
  clear_value v2
  have h6 : Frame 0x204000000108000 a1 v3 := by
    unfold v3
    refine Frame.trans ?_ (State.put_frame rfl (tb_mbxA rfl) ..)
    refine Frame.trans ?_ (State.put_frame rfl (tb_mbxA rfl) ..)
    assumption
  clear_value v3
  have h7 : Frame 0x204000000108000 a1 v4 := by
    unfold v4
    refine Frame.trans ?_ (State.wr_frame rfl (tb_mbxA rfl) ..)
    refine Frame.trans ?_ (State.event_frame rfl (tb_mbxA rfl) (tb_mbxA rfl) ..)
    assumption
  clear_value v4
  refine Frame.ite (fun h8 => ?_) (fun h8 => ?_)
  · refine Frame.step ?_ (State.roleAction_frame ..) rfl
    assumption
  · assumption

theorem State.mgtDone_frame (a1 : State) (a2 : MgtSrc) (a3 : Nat) (a4 : Status) (a5 : Bytes) (a6 : Nat) :
    Frame 0x206020000108084 a1 (State.mgtDone a1 a2 a3 a4 a5 a6) := by
  unfold State.mgtDone
  split
  · rename_i z1
    refine Frame.step ?_ (State.mbxDone_frame ..) rfl
    exact Frame.refl _ _
  · rename_i z2 z3 z4
    split
    · rename_i z5 z6
      exact Frame.refl _ _
    · rename_i z7 z8 z9
      refine Frame.step ?_ (State.completeR_frame ..) rfl
      refine Frame.step ?_ (State.hostData_frame ..) rfl
      exact Frame.refl _ _

theorem State.mgtEnd_frame (a1 : State) (a2 : MgtSrc) (a3 : Nat) (a4 : Status) :
    Frame 0x206020000108084 a1 (State.mgtEnd a1 a2 a3 a4) := by
  unfold State.mgtEnd
  refine Frame.step ?_ (State.mgtDone_frame ..) rfl
  exact Frame.refl _ _

theorem State.withUpdate_frame {m : Nat} (hK : 0x206020000108084 &&& m = 0x206020000108084) {s : State} {src : MgtSrc} {op : Nat}
    {f : State → Update → State} (hf : ∀ u x, Frame m u (f u x)) : Frame m s (s.withUpdate src op f) := by
  unfold State.withUpdate
  split
  · exact (State.mgtEnd_frame ..).mono hK
  · split
    · exact hf ..
    · exact (State.mgtEnd_frame ..).mono hK

theorem State.updEnd_frame (a1 : State) (a2 : MgtSrc) (a3 : Nat) (a4 : Nat) (a5 : Status) :
    Frame 0x206020000108084 a1 (State.updEnd a1 a2 a3 a4 a5) := by
  unfold State.updEnd
  extract_lets v1
  refine Frame.step ?_ (State.mgtEnd_frame ..) rfl
  refine Frame.step ?_ (State.hmLog_frame ..) rfl
  exact Frame.refl _ _

theorem State.setUpdate_frame (a1 : State) (a2 : Option Update) :
    Frame 0x4000000108000 a1 (State.setUpdate a1 a2) := by
  unfold State.setUpdate
  extract_lets v1 v2
  have h3 : Frame 0x4000000108000 a1 v2 := by
    unfold v2
    apply Frame.upd
    · exact Frame.refl _ _
    all_goals first | exact Or.inr rfl | exact Or.inl rfl | exact Or.inl (Nat.le_refl _) | rfl
  clear_value v2
  split
  · rename_i z4
    refine Frame.trans ?_ (State.wr_frame rfl (tb_mgtA rfl) ..)
    refine Frame.trans ?_ (State.put_frame rfl (tb_mgtA rfl) ..)
    assumption
  · rename_i z5 z6
    extract_lets v7
    refine Frame.trans ?_ (State.wr_frame rfl (tb_mgtA rfl) ..)
    refine Frame.trans ?_ (State.put_frame rfl (tb_mgtA rfl) ..)
    assumption

theorem execUpdateVerify_frame (a1 : State) :
    Fr getN 0x206020000108084 a1 (execUpdateVerify a1) := by
  unfold execUpdateVerify
  refine Fr.next ?_
  refine Frame.trans ?_ (State.withMgt_frame rfl (fun u1 x2 x3 => ?_) ..)
  · exact Frame.refl _ _
  · refine Frame.trans ?_ (State.withUpdate_frame rfl (fun u4 x5 => ?_) ..)
    · exact Frame.refl _ _
    · extract_lets v6 v7 v8
      refine Frame.step ?_ (State.updEnd_frame ..) rfl
      refine Frame.step ?_ (State.setUpdate_frame ..) rfl
      exact Frame.refl _ _

theorem State.putRec_frame (a1 : State) (a2 : BootRec) :
    Frame 0x4000000102000 a1 (State.putRec a1 a2) := by
  unfold State.putRec
  extract_lets v1 v2 v3 v4 v5
  have h6 : Frame 0x4000000102000 a1 v4 := by
    unfold v4
    apply Frame.upd
    · exact Frame.refl _ _
    all_goals first | exact Or.inr rfl | exact Or.inl rfl | exact Or.inl (Nat.le_refl _) | rfl
  clear_value v4
  refine Frame.trans ?_ (State.put_frame rfl (tb_mgtA rfl) ..)
  refine Frame.trans ?_ (State.put_frame rfl (tb_mgtA rfl) ..)
  assumption

theorem State.setSlot_frame (a1 : State) (a2 : Nat) (a3 : Tbl Byte) :
    Frame 0x2000 a1 (State.setSlot a1 a2 a3) := by
  unfold State.setSlot
  apply Frame.upd
  · exact Frame.refl _ _
  all_goals first | exact Or.inr rfl | exact Or.inl rfl | exact Or.inl (Nat.le_refl _) | rfl

theorem State.dropUpdate_frame (a1 : State) (a2 : Update) :
    Frame 0x400000010a000 a1 (State.dropUpdate a1 a2) := by
  unfold State.dropUpdate
  refine Frame.ite (fun h1 => ?_) (fun h1 => ?_)
  · refine Frame.step ?_ (State.setUpdate_frame ..) rfl
    exact Frame.refl _ _
  · refine Frame.step ?_ (State.setUpdate_frame ..) rfl
    refine Frame.step ?_ (State.setSlot_frame ..) rfl
    exact Frame.refl _ _

theorem State.updateRing_frame (a1 : State) (a2 : Nat) :
    Frame 0x400000010a000 a1 (State.updateRing a1 a2) := by
  unfold State.updateRing
  split
  · rename_i z1 z2
    exact Frame.refl _ _
  · rename_i z3 z4 z5
    refine Frame.ite (fun h6 => ?_) (fun h6 => ?_)
    · refine Frame.step ?_ (State.dropUpdate_frame ..) rfl
      exact Frame.refl _ _
    · exact Frame.refl _ _

theorem State.makerLog_frame (a1 : State) (a2 : Nat) (a3 : Nat) (a4 : Bytes) (a5 : Nat) :
    Frame 0x4000000108000 a1 (State.makerLog a1 a2 a3 a4 a5) := by
  unfold State.makerLog
  refine Frame.step ?_ (State.hmLog_frame ..) rfl
  exact Frame.refl _ _

theorem State.makerStop_frame (a1 : State) :
    Frame 0x4000000108000 a1 (State.makerStop a1) := by
  unfold State.makerStop
  split
  · rename_i z1 z2
    exact Frame.refl _ _
  · rename_i z3 z4 z5
    extract_lets v6 v7
    have h8 : Frame 0x4000000108000 a1 v7 := by
      unfold v7
      apply Frame.upd
      · exact Frame.refl _ _
      all_goals first | exact Or.inr rfl | exact Or.inl rfl | exact Or.inl (Nat.le_refl _) | rfl
    clear_value v7
    refine Frame.ite (fun h9 => ?_) (fun h9 => ?_)
    · refine Frame.step ?_ (State.makerLog_frame ..) rfl
      refine Frame.trans ?_ (State.put_frame rfl (tb_mgtA rfl) ..)
      assumption
    · assumption

theorem State.makerRing_frame (a1 : State) (a2 : Nat) :
    Frame 0x4000000108000 a1 (State.makerRing a1 a2) := by
  unfold State.makerRing
  split
  · rename_i z1 z2
    exact Frame.refl _ _
  · rename_i z3 z4 z5
    refine Frame.ite (fun h6 => ?_) (fun h6 => ?_)
    · refine Frame.step ?_ (State.makerStop_frame ..) rfl
      exact Frame.refl _ _
    · exact Frame.refl _ _

theorem State.gateDie_frame (a1 : State) (a2 : List Nat) (a3 : Nat) :
    Frame 0x4000000108000 a1 (State.gateDie a1 a2 a3) := by
  unfold State.gateDie
  extract_lets v1 v2 v3 v4 v5 v6 v7
  have h8 : Frame 0x4000000108000 a1 v6 := by
    unfold v6
    refine Frame.trans ?_ (State.put_frame rfl (tb_mgtA rfl) ..)
    unfold v5
    apply Frame.upd
    · exact Frame.refl _ _
    all_goals first | exact Or.inr rfl | exact Or.inl rfl | exact Or.inl (Nat.le_refl _) | rfl
  clear_value v6
  have h9 : Frame 0x4000000108000 a1 v7 := by
    unfold v7
    refine Frame.trans ?_ (State.put_frame rfl (tb_mgtA rfl) ..)
    unfold v5
    apply Frame.upd
    · exact Frame.refl _ _
    all_goals first | exact Or.inr rfl | exact Or.inl rfl | exact Or.inl (Nat.le_refl _) | rfl
  clear_value v7
  refine Frame.ite (fun h10 => ?_) (fun h10 => ?_)
  · refine Frame.ite (fun h11 => ?_) (fun h11 => ?_)
    · refine Frame.step ?_ (State.hmLog_frame ..) rfl
      refine Frame.trans ?_ (State.event_frame rfl (tb_mgtA rfl) (tb_mgtA rfl) ..)
      assumption
    · assumption
  · refine Frame.ite (fun h12 => ?_) (fun h12 => ?_)
    · unfold v5
      apply Frame.upd
      · exact Frame.refl _ _
      all_goals first | exact Or.inr rfl | exact Or.inl rfl | exact Or.inl (Nat.le_refl _) | rfl
    · refine Frame.ite (fun h13 => ?_) (fun h13 => ?_)
      · refine Frame.ite (fun h14 => ?_) (fun h14 => ?_)
        · refine Frame.step ?_ (State.hmLog_frame ..) rfl
          assumption
        · assumption
      · exact Frame.refl _ _

theorem State.overSite_frame (a1 : State) (a2 : List Nat) (a3 : Nat) :
    Frame 0x4000000108000 a1 (State.overSite a1 a2 a3) := by
  unfold State.overSite
  extract_lets v1 v2 v3
  refine Frame.ite (fun h4 => ?_) (fun h4 => ?_)
  · unfold v3
    apply Frame.upd
    · exact Frame.refl _ _
    all_goals first | exact Or.inr rfl | exact Or.inl rfl | exact Or.inl (Nat.le_refl _) | rfl
  · refine Frame.ite (fun h5 => ?_) (fun h5 => ?_)
    · unfold v3
      apply Frame.upd
      · exact Frame.refl _ _
      all_goals first | exact Or.inr rfl | exact Or.inl rfl | exact Or.inl (Nat.le_refl _) | rfl
    · refine Frame.ite (fun h6 => ?_) (fun h6 => ?_)
      · exact Frame.refl _ _
      · refine Frame.ite (fun h7 => ?_) (fun h7 => ?_)
        · refine Frame.step ?_ (State.hmLog_frame ..) rfl
          refine Frame.trans ?_ (State.event_frame rfl (tb_mgtA rfl) (tb_mgtA rfl) ..)
          unfold v3
          apply Frame.upd
          · exact Frame.refl _ _
          all_goals first | exact Or.inr rfl | exact Or.inl rfl | exact Or.inl (Nat.le_refl _) | rfl
        · exact Frame.refl _ _

theorem execThermalSample_frame (a1 : List Nat) (a2 : State) :
    Fr getN 0x600080010800c a2 (execThermalSample a1 a2) := by
  unfold execThermalSample
  refine Fr.next ?_
  extract_lets v1 v2 v3 v4 v5 v6
  have h7 : Frame 0x600080010800c a2 v3 := by
    unfold v3
    refine Frame.foldl ?_ (fun u8 x9 h10 => ?_)
    · exact Frame.refl _ _
    · refine Frame.trans ?_ (State.put_frame rfl (tb_mgtA rfl) ..)
      assumption
  clear_value v3
  have h11 : Frame 0x600080010800c a2 v5 := by
    unfold v5
    refine Frame.step ?_ (State.tlySyncAll_frame ..) rfl
    refine Frame.trans ?_ (State.put_frame rfl (tb_mgtA rfl) ..)
    assumption
  clear_value v5
  have h12 : Frame 0x600080010800c a2 v6 := by
    unfold v6
    refine Frame.foldl ?_ (fun u13 x14 h15 => ?_)
    · assumption
    · refine Frame.step ?_ (State.gateDie_frame ..) rfl
      assumption
  clear_value v6
  refine Frame.ite (fun h16 => ?_) (fun h16 => ?_)
  · refine Frame.ite (fun h17 => ?_) (fun h17 => ?_)
    · refine Frame.step ?_ (State.emit_frame ..) rfl
      apply Frame.upd
      · exact Frame.refl _ _
      all_goals first | exact Or.inr rfl | exact Or.inl rfl | exact Or.inl (Nat.le_refl _) | rfl
    · exact Frame.refl _ _
  · refine Frame.ite (fun h18 => ?_) (fun h18 => ?_)
    · exact Frame.refl _ _
    · refine Frame.foldl ?_ (fun u19 x20 h21 => ?_)
      · assumption
      · refine Frame.step ?_ (State.overSite_frame ..) rfl
        assumption

theorem State.logResume_frame (a1 : State) :
    Frame 0x4000000108000 a1 (State.logResume a1) := by
  unfold State.logResume
  split
  · rename_i z1 z2
    exact Frame.refl _ _
  · rename_i z3 z4 z5
    refine Frame.trans ?_ (State.wr_frame rfl (tb_mgtA rfl) ..)
    apply Frame.upd
    · exact Frame.refl _ _
    all_goals first | exact Or.inr rfl | exact Or.inl rfl | exact Or.inl (Nat.le_refl _) | rfl

theorem State.railsDown_frame (a1 : State) :
    Frame 0x8004 a1 (State.railsDown a1) := by
  unfold State.railsDown
  extract_lets v1 v2 v3 v4
  have h5 : Frame 0x8004 a1 v1 := by
    unfold v1
    refine Frame.foldl ?_ (fun u6 x7 h8 => ?_)
    · exact Frame.refl _ _
    · refine Frame.step ?_ (State.emit_frame ..) rfl
      assumption
  clear_value v1
  have h9 : Frame 0x8004 a1 v2 := by
    unfold v2
    refine Frame.ite (fun h10 => ?_) (fun h10 => ?_)
    · refine Frame.step ?_ (State.emit_frame ..) rfl
      assumption
    · assumption
  clear_value v2
  have h11 : Frame 0x8004 a1 v3 := by
    unfold v3
    refine Frame.ite (fun h12 => ?_) (fun h12 => ?_)
    · refine Frame.step ?_ (State.emit_frame ..) rfl
      assumption
    · assumption
  clear_value v3
  apply Frame.upd
  · assumption
  all_goals first | exact Or.inr rfl | exact Or.inl rfl | exact Or.inl (Nat.le_refl _) | rfl

theorem State.packageReset_frame (s : State) (cause : Nat) (phase : Phase) :
    Frame 0x3ffff1fffffffff s (s.packageReset cause phase) := by
  unfold State.packageReset
  extract_lets mark drop src flash base live0 live crash due clk0 hm0 t
  have ht : Frame 0x3ffff1fffffffff s t := by
    clear_value flash live due
    constructor
    case ref => exact fun _ => Nat.le_refl _
    case svn => exact Nat.le_refl _
    case blk => intro a b; rw [tbAll a rfl] at b; cases b
    all_goals intros; first | rfl | contradiction
  clear_value t
  refine Frame.ite (fun _ => ht) (fun _ => ?_)
  exact Frame.trans ht (State.put_frame rfl (tb_mgtA rfl) ..)

theorem State.logFlush_frame (a1 : State) :
    Frame 0xa000 a1 (State.logFlush a1) := by
  unfold State.logFlush
  apply Frame.upd
  · exact Frame.refl _ _
  all_goals first | exact Or.inr rfl | exact Or.inl rfl | exact Or.inl (Nat.le_refl _) | rfl

theorem State.withMaker_frame {m : Nat} (hK : 0x206020000108084 &&& m = 0x206020000108084) {s : State} {src : MgtSrc} {op : Nat}
    {f : State → Maker → State} (hf : ∀ u x, Frame m u (f u x)) : Frame m s (s.withMaker src op f) := by
  unfold State.withMaker
  split
  · exact (State.mgtEnd_frame ..).mono hK
  · split
    · exact hf ..
    · exact (State.mgtEnd_frame ..).mono hK

theorem execMakerOp_frame (a1 : Option Bytes) (a2 : State) :
    Fr getN 0x206020000108084 a2 (execMakerOp a1 a2) := by
  unfold execMakerOp
  refine Fr.next ?_
  refine Frame.trans ?_ (State.withMgt_frame rfl (fun u1 x2 x3 => ?_) ..)
  · exact Frame.refl _ _
  · refine Frame.trans ?_ (State.withMaker_frame rfl (fun u4 x5 => ?_) ..)
    · exact Frame.refl _ _
    · refine Frame.ite (fun h6 => ?_) (fun h6 => ?_)
      · refine Frame.step ?_ (State.mgtDone_frame ..) rfl
        refine Frame.step ?_ (State.makerLog_frame ..) rfl
        exact Frame.refl _ _
      · refine Frame.step ?_ (State.mgtEnd_frame ..) rfl
        exact Frame.refl _ _

theorem State.markClear_frame (a1 : State) (a2 : Nat) (a3 : Nat) :
    Frame 0x4000000102000 a1 (State.markClear a1 a2 a3) := by
  unfold State.markClear
  extract_lets v1 v2
  refine Frame.ite (fun h3 => ?_) (fun h3 => ?_)
  · exact Frame.refl _ _
  · refine Frame.step ?_ (State.putRec_frame ..) rfl
    exact Frame.refl _ _

theorem execStatus_frame (a1 : State) :
    Fr getN 0x20602000010808c a1 (execStatus a1) := by
  unfold execStatus
  refine Fr.next ?_
  refine Frame.trans ?_ (State.withMgt_frame rfl (fun u1 x2 x3 => ?_) ..)
  · exact Frame.refl _ _
  · refine Frame.step ?_ (State.bump_frame ..) rfl
    refine Frame.step ?_ (State.mgtDone_frame ..) rfl
    exact Frame.refl _ _

theorem execLogRead_frame (a1 : Option Bytes) (a2 : State) :
    Fr getN 0x206020000108084 a2 (execLogRead a1 a2) := by
  unfold execLogRead
  refine Fr.next ?_
  refine Frame.trans ?_ (State.withMgt_frame rfl (fun u1 x2 x3 => ?_) ..)
  · exact Frame.refl _ _
  · extract_lets v4 v5 v6 v7 v8 v9 v10
    refine Frame.step ?_ (State.mgtDone_frame ..) rfl
    exact Frame.refl _ _

theorem execIdentity_frame (a1 : State) :
    Fr getN 0x206020000108084 a1 (execIdentity a1) := by
  unfold execIdentity
  refine Fr.next ?_
  refine Frame.trans ?_ (State.withMgt_frame rfl (fun u1 x2 x3 => ?_) ..)
  · exact Frame.refl _ _
  · refine Frame.step ?_ (State.mgtDone_frame ..) rfl
    exact Frame.refl _ _

theorem execAttest_frame (a1 : Option Bytes) (a2 : State) :
    Fr getN 0x206020000108084 a2 (execAttest a1 a2) := by
  unfold execAttest
  refine Fr.next ?_
  refine Frame.trans ?_ (State.withMgt_frame rfl (fun u1 x2 x3 => ?_) ..)
  · exact Frame.refl _ _
  · extract_lets v4
    refine Frame.step ?_ (State.mgtDone_frame ..) rfl
    exact Frame.refl _ _

theorem execSetState_frame (a1 : Option Bytes) (a2 : State) :
    Fr getN 0x206020000108084 a2 (execSetState a1 a2) := by
  unfold execSetState
  refine Fr.next ?_
  refine Frame.trans ?_ (State.withMgt_frame rfl (fun u1 x2 x3 => ?_) ..)
  · exact Frame.refl _ _
  · extract_lets v4 v5 v6
    have h7 : Frame 0x206020000108084 u1 v6 := by
      unfold v6
      refine Frame.trans ?_ (State.put_frame rfl (tb_mgtA rfl) ..)
      exact Frame.refl _ _
    clear_value v6
    refine Frame.ite (fun h8 => ?_) (fun h8 => ?_)
    · refine Frame.step ?_ (State.mgtEnd_frame ..) rfl
      exact Frame.refl _ _
    · refine Frame.ite (fun h9 => ?_) (fun h9 => ?_)
      · refine Frame.step ?_ (State.mgtEnd_frame ..) rfl
        exact Frame.refl _ _
      · refine Frame.step ?_ (State.mgtEnd_frame ..) rfl
        refine Frame.step ?_ (State.hmLog_frame ..) rfl
        assumption

theorem execPackageReset_frame (a1 : State) :
    Fr getN 0x3ffff1fffffffff a1 (execPackageReset a1) := by
  unfold execPackageReset
  refine Fr.next ?_
  refine Frame.trans ?_ (State.withMgt_frame rfl (fun u1 x2 x3 => ?_) ..)
  · exact Frame.refl _ _
  · refine Frame.step ?_ (State.packageReset_frame ..) rfl
    refine Frame.step ?_ (State.logFlush_frame ..) rfl
    refine Frame.step ?_ (State.mgtEnd_frame ..) rfl
    exact Frame.refl _ _

theorem execCaptureArm_frame (a1 : Option Bytes) (a2 : State) :
    Fr getN 0x206020000108084 a2 (execCaptureArm a1 a2) := by
  unfold execCaptureArm
  refine Fr.next ?_
  refine Frame.trans ?_ (State.withMgt_frame rfl (fun u1 x2 x3 => ?_) ..)
  · exact Frame.refl _ _
  · extract_lets v4 v5 v6 v7
    have h8 : Frame 0x206020000108084 u1 v7 := by
      unfold v7
      apply Frame.upd
      · exact Frame.refl _ _
      all_goals first | exact Or.inr rfl | exact Or.inl rfl | exact Or.inl (Nat.le_refl _) | rfl
    clear_value v7
    refine Frame.ite (fun h9 => ?_) (fun h9 => ?_)
    · refine Frame.step ?_ (State.mgtEnd_frame ..) rfl
      exact Frame.refl _ _
    · refine Frame.ite (fun h10 => ?_) (fun h10 => ?_)
      · refine Frame.step ?_ (State.mgtEnd_frame ..) rfl
        exact Frame.refl _ _
      · refine Frame.ite (fun h11 => ?_) (fun h11 => ?_)
        · refine Frame.step ?_ (State.mgtEnd_frame ..) rfl
          exact Frame.refl _ _
        · refine Frame.step ?_ (State.mgtEnd_frame ..) rfl
          refine Frame.step ?_ (State.hmLog_frame ..) rfl
          refine Frame.trans ?_ (State.put_frame rfl (tb_mgtA rfl) ..)
          assumption

theorem execCaptureRelease_frame (a1 : State) :
    Fr getN 0x206020000108084 a1 (execCaptureRelease a1) := by
  unfold execCaptureRelease
  refine Fr.next ?_
  refine Frame.trans ?_ (State.withMgt_frame rfl (fun u1 x2 x3 => ?_) ..)
  · exact Frame.refl _ _
  · extract_lets v4 v5 v6
    have h7 : Frame 0x206020000108084 u1 v5 := by
      unfold v5
      apply Frame.upd
      · exact Frame.refl _ _
      all_goals first | exact Or.inr rfl | exact Or.inl rfl | exact Or.inl (Nat.le_refl _) | rfl
    clear_value v5
    have h8 : Frame 0x206020000108084 u1 v6 := by
      unfold v6
      refine Frame.trans ?_ (State.put_frame rfl (tb_mgtA rfl) ..)
      refine Frame.trans ?_ (State.put_frame rfl (tb_mgtA rfl) ..)
      assumption
    clear_value v6
    refine Frame.step ?_ (State.mgtEnd_frame ..) rfl
    refine Frame.step ?_ (State.hmLog_frame ..) rfl
    assumption

theorem execUpdateBegin_frame (a1 : Option Bytes) (a2 : State) :
    Fr getN 0x20602000010a084 a2 (execUpdateBegin a1 a2) := by
  unfold execUpdateBegin
  refine Fr.next ?_
  refine Frame.trans ?_ (State.withMgt_frame rfl (fun u1 x2 x3 => ?_) ..)
  · exact Frame.refl _ _
  · extract_lets v4 v5
    refine Frame.ite (fun h6 => ?_) (fun h6 => ?_)
    · refine Frame.step ?_ (State.mgtEnd_frame ..) rfl
      exact Frame.refl _ _
    · refine Frame.ite (fun h7 => ?_) (fun h7 => ?_)
      · refine Frame.step ?_ (State.mgtEnd_frame ..) rfl
        exact Frame.refl _ _
      · refine Frame.ite (fun h8 => ?_) (fun h8 => ?_)
        · refine Frame.step ?_ (State.mgtEnd_frame ..) rfl
          exact Frame.refl _ _
        · refine Frame.step ?_ (State.updEnd_frame ..) rfl
          refine Frame.step ?_ (State.setUpdate_frame ..) rfl
          refine Frame.step ?_ (State.setSlot_frame ..) rfl
          exact Frame.refl _ _

theorem execUpdateWrite_frame (a1 : Option Bytes) (a2 : State) :
    Fr getN 0x20602000010a084 a2 (execUpdateWrite a1 a2) := by
  unfold execUpdateWrite
  refine Fr.next ?_
  refine Frame.trans ?_ (State.withMgt_frame rfl (fun u1 x2 x3 => ?_) ..)
  · exact Frame.refl _ _
  · refine Frame.trans ?_ (State.withUpdate_frame rfl (fun u4 x5 => ?_) ..)
    · exact Frame.refl _ _
    · extract_lets v6 v7 v8
      refine Frame.ite (fun h9 => ?_) (fun h9 => ?_)
      · refine Frame.step ?_ (State.mgtEnd_frame ..) rfl
        exact Frame.refl _ _
      · refine Frame.ite (fun h10 => ?_) (fun h10 => ?_)
        · refine Frame.step ?_ (State.mgtEnd_frame ..) rfl
          exact Frame.refl _ _
        · refine Frame.step ?_ (State.mgtEnd_frame ..) rfl
          refine Frame.step ?_ (State.setUpdate_frame ..) rfl
          refine Frame.step ?_ (State.setSlot_frame ..) rfl
          exact Frame.refl _ _

theorem execUpdateActivate_frame (a1 : State) :
    Fr getN 0x3ffff1fffffffff a1 (execUpdateActivate a1) := by
  unfold execUpdateActivate
  refine Fr.next ?_
  refine Frame.trans ?_ (State.withMgt_frame rfl (fun u1 x2 x3 => ?_) ..)
  · exact Frame.refl _ _
  · refine Frame.trans ?_ (State.withUpdate_frame rfl (fun u4 x5 => ?_) ..)
    · exact Frame.refl _ _
    · refine Frame.ite (fun h6 => ?_) (fun h6 => ?_)
      · refine Frame.step ?_ (State.updEnd_frame ..) rfl
        exact Frame.refl _ _
      · extract_lets v7 v8 v9 v10
        have h11 : Frame 0x3ffff1fffffffff u4 v9 := by
          unfold v9
          refine Frame.step ?_ (State.putRec_frame ..) rfl
          exact Frame.refl _ _
        clear_value v9
        have h12 : Frame 0x3ffff1fffffffff u4 v10 := by
          unfold v10
          refine Frame.step ?_ (State.updEnd_frame ..) rfl
          refine Frame.step ?_ (State.setUpdate_frame ..) rfl
          assumption
        clear_value v10
        refine Frame.ite (fun h13 => ?_) (fun h13 => ?_)
        · refine Frame.step ?_ (State.packageReset_frame ..) rfl
          refine Frame.step ?_ (State.logFlush_frame ..) rfl
          assumption
        · assumption

theorem State.burn_frame (s : State) (x : Nat) : Frame 0x4000 s
    { s with fuses := { s.fuses with svn := max s.fuses.svn x } } := by
  constructor
  case svn => exact Nat.le_max_left _ _
  case fuses => intro b; cases b
  all_goals intros; first | rfl | assumption | exact Nat.le_refl _

theorem execUpdateConfirm_frame (a1 : State) :
    Fr getN 0x20602000010c084 a1 (execUpdateConfirm a1) := by
  unfold execUpdateConfirm
  refine Fr.next ?_
  refine Frame.trans ?_ (State.withMgt_frame rfl (fun u1 x2 x3 => ?_) ..)
  · exact Frame.refl _ _
  · split
    · rename_i z4 z5 z6
      refine Frame.step ?_ (State.updEnd_frame ..) rfl
      exact Frame.refl _ _
    · rename_i z7 z8
      extract_lets v9 v10 v11
      have h12 : Frame 0x20602000010c084 u1 v11 := by
        unfold v11
        refine Frame.step ?_ (State.burn_frame ..) rfl
        exact Frame.refl _ _
      clear_value v11
      refine Frame.step ?_ (State.updEnd_frame ..) rfl
      refine Frame.trans ?_ (State.put_frame rfl (tb_mgtA rfl) ..)
      assumption

theorem execUpdateAbort_frame (a1 : State) :
    Fr getN 0x20602000010a084 a1 (execUpdateAbort a1) := by
  unfold execUpdateAbort
  refine Fr.next ?_
  refine Frame.trans ?_ (State.withMgt_frame rfl (fun u1 x2 x3 => ?_) ..)
  · exact Frame.refl _ _
  · refine Frame.trans ?_ (State.withUpdate_frame rfl (fun u4 x5 => ?_) ..)
    · exact Frame.refl _ _
    · refine Frame.ite (fun h6 => ?_) (fun h6 => ?_)
      · refine Frame.step ?_ (State.updEnd_frame ..) rfl
        exact Frame.refl _ _
      · refine Frame.step ?_ (State.updEnd_frame ..) rfl
        refine Frame.step ?_ (State.dropUpdate_frame ..) rfl
        exact Frame.refl _ _

theorem execMakerEnable_frame (a1 : Option Bytes) (a2 : State) :
    Fr getN 0x206020000108084 a2 (execMakerEnable a1 a2) := by
  unfold execMakerEnable
  refine Fr.next ?_
  refine Frame.trans ?_ (State.withMgt_frame rfl (fun u1 x2 x3 => ?_) ..)
  · exact Frame.refl _ _
  · extract_lets v4 v5 v6 v7
    have h8 : Frame 0x206020000108084 u1 v7 := by
      unfold v7
      apply Frame.upd
      · exact Frame.refl _ _
      all_goals first | exact Or.inr rfl | exact Or.inl rfl | exact Or.inl (Nat.le_refl _) | rfl
    clear_value v7
    refine Frame.ite (fun h9 => ?_) (fun h9 => ?_)
    · refine Frame.step ?_ (State.mgtEnd_frame ..) rfl
      exact Frame.refl _ _
    · refine Frame.ite (fun h10 => ?_) (fun h10 => ?_)
      · refine Frame.step ?_ (State.mgtEnd_frame ..) rfl
        exact Frame.refl _ _
      · refine Frame.step ?_ (State.mgtEnd_frame ..) rfl
        refine Frame.step ?_ (State.makerLog_frame ..) rfl
        assumption

theorem execMakerChallenge_frame (a1 : State) :
    Fr getN 0x20602000010808c a1 (execMakerChallenge a1) := by
  unfold execMakerChallenge
  refine Fr.next ?_
  refine Frame.trans ?_ (State.withMgt_frame rfl (fun u1 x2 x3 => ?_) ..)
  · exact Frame.refl _ _
  · refine Frame.trans ?_ (State.withMaker_frame rfl (fun u4 x5 => ?_) ..)
    · exact Frame.refl _ _
    · refine Frame.ite (fun h6 => ?_) (fun h6 => ?_)
      · refine Frame.step ?_ (State.mgtEnd_frame ..) rfl
        exact Frame.refl _ _
      · extract_lets v7 v8 v9
        have h10 : Frame 0x20602000010808c u4 v9 := by
          unfold v9
          apply Frame.upd
          · exact Frame.refl _ _
          all_goals first | exact Or.inr rfl | exact Or.inl rfl | exact Or.inl (Nat.le_refl _) | rfl
        clear_value v9
        refine Frame.step ?_ (State.mgtDone_frame ..) rfl
        refine Frame.step ?_ (State.makerLog_frame ..) rfl
        assumption

theorem execMakerResponse_frame (a1 : Option Bytes) (a2 : State) :
    Fr getN 0x207320000108e84 a2 (execMakerResponse a1 a2) := by
  unfold execMakerResponse
  refine Fr.next ?_
  refine Frame.trans ?_ (State.withMgt_frame rfl (fun u1 x2 x3 => ?_) ..)
  · exact Frame.refl _ _
  · refine Frame.trans ?_ (State.withMaker_frame rfl (fun u4 x5 => ?_) ..)
    · exact Frame.refl _ _
    · split
      · rename_i z6 z7
        refine Frame.step ?_ (State.mgtEnd_frame ..) rfl
        exact Frame.refl _ _
      · rename_i z8 z9 z10
        extract_lets v11 v12 v13 v14 v15 v16 v17
        have h18 : Frame 0x207320000108e84 u4 v14 := by
          unfold v14
          apply Frame.upd
          · exact Frame.refl _ _
          all_goals first | exact Or.inr rfl | exact Or.inl rfl | exact Or.inl (Nat.le_refl _) | rfl
        clear_value v14
        have h19 : Frame 0x207320000108e84 u4 v15 := by
          unfold v15
          refine Frame.step ?_ (State.makerLog_frame ..) rfl
          refine Frame.trans ?_ (State.put_frame rfl (tb_mgtA rfl) ..)
          assumption
        clear_value v15
        have h20 : Frame 0x207320000108e84 u4 v16 := by
          unfold v16
          refine Frame.ite (fun h21 => ?_) (fun h21 => ?_)
          · refine Frame.step ?_ (State.packageStop_frame ..) rfl
            refine Frame.trans ?_ (State.put_frame rfl (tb_mgtA rfl) ..)
            assumption
          · assumption
        clear_value v16
        have h22 : Frame 0x207320000108e84 u4 v17 := by
          unfold v17
          apply Frame.upd
          · exact Frame.refl _ _
          all_goals first | exact Or.inr rfl | exact Or.inl rfl | exact Or.inl (Nat.le_refl _) | rfl
        clear_value v17
        refine Frame.ite (fun h23 => ?_) (fun h23 => ?_)
        · refine Frame.step ?_ (State.mgtEnd_frame ..) rfl
          exact Frame.refl _ _
        · refine Frame.ite (fun h24 => ?_) (fun h24 => ?_)
          · refine Frame.step ?_ (State.mgtEnd_frame ..) rfl
            assumption
          · refine Frame.step ?_ (State.mgtEnd_frame ..) rfl
            refine Frame.step ?_ (State.makerLog_frame ..) rfl
            assumption

theorem execMakerEnd_frame (a1 : State) :
    Fr getN 0x206020000108084 a1 (execMakerEnd a1) := by
  unfold execMakerEnd
  refine Fr.next ?_
  refine Frame.trans ?_ (State.withMgt_frame rfl (fun u1 x2 x3 => ?_) ..)
  · exact Frame.refl _ _
  · refine Frame.trans ?_ (State.withMaker_frame rfl (fun u4 x5 => ?_) ..)
    · exact Frame.refl _ _
    · refine Frame.step ?_ (State.mgtEnd_frame ..) rfl
      refine Frame.step ?_ (State.makerStop_frame ..) rfl
      exact Frame.refl _ _

theorem execMakerSessionExpiry_frame (a1 : State) :
    Fr getN 0x4040000108030 a1 (execMakerSessionExpiry a1) := by
  unfold execMakerSessionExpiry
  refine Fr.next ?_
  split
  · rename_i z1 z2
    exact Frame.refl _ _
  · rename_i z3 z4 z5
    refine Frame.ite (fun h6 => ?_) (fun h6 => ?_)
    · refine Frame.trans ?_ (State.atRef_frame rfl (fun u7 => ?_) ..)
      · exact Frame.refl _ _
      · refine Frame.step ?_ (State.makerStop_frame ..) rfl
        exact Frame.refl _ _
    · exact Frame.refl _ _

theorem execThermalTrip_frame (a1 : Nat) (a2 : State) :
    Fr getN 0x3ffff1fffffffff a2 (execThermalTrip a1 a2) := by
  unfold execThermalTrip
  refine Fr.guard ?_
  refine Frame.ite (fun h1 => ?_) (fun h1 => ?_)
  · refine Frame.step ?_ (State.emit_frame ..) rfl
    refine Frame.step ?_ (State.packageReset_frame ..) rfl
    exact Frame.refl _ _
  · exact Frame.refl _ _

theorem execVoltageTrip_frame (a1 : Nat) (a2 : State) :
    Fr getN 0x3ffff1fffffffff a2 (execVoltageTrip a1 a2) := by
  unfold execVoltageTrip
  refine Fr.guard ?_
  refine Frame.ite (fun h1 => ?_) (fun h1 => ?_)
  · refine Frame.step ?_ (State.emit_frame ..) rfl
    refine Frame.step ?_ (State.packageReset_frame ..) rfl
    exact Frame.refl _ _
  · exact Frame.refl _ _

theorem execMarginMeasurement_frame (a1 : Nat) (a2 : Nat) (a3 : Nat) (a4 : State) :
    Fr getN 0x400000010a004 a4 (execMarginMeasurement a1 a2 a3 a4) := by
  unfold execMarginMeasurement
  refine Fr.guard ?_
  refine Frame.ite (fun h1 => ?_) (fun h1 => ?_)
  · exact Frame.refl _ _
  · extract_lets v2 v3 v4 v5 v6 v7 v8 v9 v10 v11 v12 v13 v14 v15 v16 v17 v18 v19 v20 v21 v22
    have h23 : Frame 0x400000010a004 a4 v12 := by
      unfold v12
      apply Frame.upd
      · exact Frame.refl _ _
      all_goals first | exact Or.inr rfl | exact Or.inl rfl | exact Or.inl (Nat.le_refl _) | rfl
    clear_value v12
    have h24 : Frame 0x400000010a004 a4 v15 := by
      unfold v15
      refine Frame.trans ?_ (State.put_frame rfl (tb_mgtA rfl) ..)
      refine Frame.trans ?_ (State.put_frame rfl (tb_mgtA rfl) ..)
      assumption
    clear_value v15
    have h25 : Frame 0x400000010a004 a4 v16 := by
      unfold v16
      refine Frame.trans ?_ (State.wr_frame rfl (tb_mgtA rfl) ..)
      refine Frame.trans ?_ (State.put_frame rfl (tb_mgtA rfl) ..)
      refine Frame.trans ?_ (State.put_frame rfl (tb_mgtA rfl) ..)
      assumption
    clear_value v16
    have h26 : Frame 0x400000010a004 a4 v17 := by
      unfold v17
      refine Frame.foldl ?_ (fun u27 x28 h29 => ?_)
      · assumption
      · refine Frame.step ?_ (State.emit_frame ..) rfl
        assumption
    clear_value v17
    have h30 : Frame 0x400000010a004 a4 v18 := by
      unfold v18
      refine Frame.trans ?_ (State.put_frame rfl (tb_mgtA rfl) ..)
      assumption
    clear_value v18
    have h31 : Frame 0x400000010a004 a4 v19 := by
      unfold v19
      refine Frame.step ?_ (State.hmLog_frame ..) rfl
      assumption
    clear_value v19
    have h32 : Frame 0x400000010a004 a4 v20 := by
      unfold v20
      refine Frame.ite (fun h33 => ?_) (fun h33 => ?_)
      · refine Frame.step ?_ (State.hmLog_frame ..) rfl
        assumption
      · assumption
    clear_value v20
    refine Frame.ite (fun h34 => ?_) (fun h34 => ?_)
    · refine Frame.step ?_ (State.putRec_frame ..) rfl
      assumption
    · assumption

theorem execLogFlush_frame (a1 : State) :
    Fr getN 0xa000 a1 (execLogFlush a1) := by
  unfold execLogFlush
  refine Fr.next ?_
  refine Frame.step ?_ (State.logFlush_frame ..) rfl
  exact Frame.refl _ _

theorem execPmbAlert_frame (a1 : List PmbStatus) (a2 : State) :
    Fr getN 0x4000000108000 a2 (execPmbAlert a1 a2) := by
  unfold execPmbAlert
  refine Fr.next ?_
  refine Frame.ite (fun h1 => ?_) (fun h1 => ?_)
  · exact Frame.refl _ _
  · refine Frame.foldl ?_ (fun u2 x3 h4 => ?_)
    · exact Frame.refl _ _
    · refine Frame.ite (fun h5 => ?_) (fun h5 => ?_)
      · refine Frame.step ?_ (State.hmLog_frame ..) rfl
        refine Frame.trans ?_ (State.count_frame rfl (tb_mgtA rfl) ..)
        assumption
      · assumption

theorem execPilotCoreTrap_frame (a1 : Nat) (a2 : Nat) (a3 : Nat) (a4 : Nat) (a5 : List Nat) (a6 : State) :
    Fr getN 0x4000000108008 a6 (execPilotCoreTrap a1 a2 a3 a4 a5 a6) := by
  unfold execPilotCoreTrap
  refine Fr.guard ?_
  refine Frame.ite (fun h1 => ?_) (fun h1 => ?_)
  · exact Frame.refl _ _
  · extract_lets v2 v3 v4
    have h5 : Frame 0x4000000108008 a6 v4 := by
      unfold v4
      apply Frame.upd
      · exact Frame.refl _ _
      all_goals first | exact Or.inr rfl | exact Or.inl rfl | exact Or.inl (Nat.le_refl _) | rfl
    clear_value v4
    refine Frame.step ?_ (State.crashed_frame ..) rfl
    assumption

theorem execHarbourmasterTrap_frame (a1 : Nat) (a2 : Nat) (a3 : Nat) (a4 : List Nat) (a5 : State) :
    Fr getN 0x4000000108008 a5 (execHarbourmasterTrap a1 a2 a3 a4 a5) := by
  unfold execHarbourmasterTrap
  refine Fr.next ?_
  refine Frame.ite (fun h1 => ?_) (fun h1 => ?_)
  · exact Frame.refl _ _
  · refine Frame.step ?_ (State.crashed_frame ..) rfl
    exact Frame.refl _ _

end Sys2Proof.Machine
end

