-- ==== Sys2Proof/Laws/FrameEthernet.lean ====
section
/-!
SUPPORT. Frame laws of Machine/Ethernet.lean: which components each of its operations may change.
-/

namespace Sys2Proof.Machine

open Sys2Proof

theorem State.ethComplete_frame (a1 : State) (a2 : TxSrc) (a3 : Status) :
    Frame 0x6020000108084 a1 (State.ethComplete a1 a2 a3) := by
  unfold State.ethComplete
  split
  · rename_i z1 z2 z3
    refine Frame.step ?_ (State.complete_frame ..) rfl
    exact Frame.refl _ _
  · rename_i z4 z5
    exact Frame.refl _ _

theorem State.ethLateFrame_frame (a1 : State) (a2 : Nat) (a3 : EthTx) :
    Frame 0x64200001080c4 a1 (State.ethLateFrame a1 a2 a3) := by
  unfold State.ethLateFrame
  refine Frame.ite (fun h1 => ?_) (fun h1 => ?_)
  · refine Frame.step ?_ (State.ethComplete_frame ..) rfl
    refine Frame.trans ?_ (State.event_frame rfl (tb_ethA rfl) (tb_ethA rfl) ..)
    exact Frame.refl _ _
  · refine Frame.ite (fun h2 => ?_) (fun h2 => ?_)
    · extract_lets v3 v4
      have h5 : Frame 0x64200001080c4 a1 v3 := by
        unfold v3
        refine Frame.step ?_ (State.emit_frame ..) rfl
        refine Frame.trans ?_ (State.event_frame rfl (tb_ethA rfl) (tb_ethA rfl) ..)
        exact Frame.refl _ _
      clear_value v3
      refine Frame.step ?_ (State.setEp_frame ..) rfl
      assumption
    · refine Frame.step ?_ (State.setEp_frame ..) rfl
      exact Frame.refl _ _

theorem State.launchQueue_frame (a1 : Nat) (a2 : Nat) (a3 : Nat) (a4 : Nat) (a5 : State) :
    Frame 0x64200001080c4 a5 (State.launchQueue a1 a2 a3 a4 a5) := by
  induction a4 generalizing a1 a2 a3 a5
  · unfold State.launchQueue
    exact Frame.refl _ _
  · rename_i k_ ih
    unfold State.launchQueue
    split
    · rename_i z67 z68
      exact Frame.refl _ _
    · rename_i z69 z70 z71
      split
      · rename_i z72 z73
        exact Frame.refl _ _
      · rename_i z74 z75 z76
        extract_lets v77 v78 v79 v80
        have h81 : Frame 0x64200001080c4 a5 v78 := by
          unfold v78
          refine Frame.step ?_ (State.setEp_frame ..) rfl
          exact Frame.refl _ _
        clear_value v78
        have h82 : Frame 0x64200001080c4 a5 v79 := by
          unfold v79
          refine Frame.step ?_ (State.emit_frame ..) rfl
          assumption
        clear_value v79
        refine Frame.ite (fun h83 => ?_) (fun h83 => ?_)
        · refine Frame.step ?_ (ih ..) rfl
          refine Frame.step ?_ (State.setEp_frame ..) rfl
          assumption
        · refine Frame.ite (fun h84 => ?_) (fun h84 => ?_)
          · refine Frame.step ?_ (ih ..) rfl
            refine Frame.step ?_ (State.ethLateFrame_frame ..) rfl
            assumption
          · exact Frame.refl _ _

theorem execEthTxDone_frame (a1 : Nat) (a2 : Nat) (a3 : State) :
    Fr getN 0x60200001080c4 a3 (execEthTxDone a1 a2 a3) := by
  unfold execEthTxDone
  refine Fr.guard ?_
  split
  · rename_i z1 z2
    exact Frame.refl _ _
  · rename_i z3 z4 z5 z6
    refine Frame.ite (fun h7 => ?_) (fun h7 => ?_)
    · extract_lets v8 v9 v10
      have h11 : Frame 0x60200001080c4 a3 v9 := by
        unfold v9
        refine Frame.step ?_ (State.setEp_frame ..) rfl
        exact Frame.refl _ _
      clear_value v9
      have h12 : Frame 0x60200001080c4 a3 v10 := by
        unfold v10
        refine Frame.ite (fun h13 => ?_) (fun h13 => ?_)
        · assumption
        · refine Frame.step ?_ (State.emit_frame ..) rfl
          assumption
      clear_value v10
      refine Frame.step ?_ (State.ethComplete_frame ..) rfl
      refine Frame.step ?_ (State.tally_frame ..) rfl
      assumption
    · exact Frame.refl _ _

theorem State.ethEnqueue_frame (a1 : State) (a2 : Nat) (a3 : Nat) (a4 : Nat) (a5 : TxSrc) (a6 : Bytes) :
    Frame 0x64200001080c4 a1 (State.ethEnqueue a1 a2 a3 a4 a5 a6) := by
  unfold State.ethEnqueue
  refine Frame.ite (fun h1 => ?_) (fun h1 => ?_)
  · extract_lets v2 v3 v4
    refine Frame.ite (fun h5 => ?_) (fun h5 => ?_)
    · refine Frame.step ?_ (State.ethComplete_frame ..) rfl
      refine Frame.trans ?_ (State.event_frame rfl (tb_ethA rfl) (tb_ethA rfl) ..)
      exact Frame.refl _ _
    · refine Frame.ite (fun h6 => ?_) (fun h6 => ?_)
      · refine Frame.step ?_ (State.ethLateFrame_frame ..) rfl
        exact Frame.refl _ _
      · refine Frame.step ?_ (State.setEp_frame ..) rfl
        exact Frame.refl _ _
  · refine Frame.step ?_ (State.setEp_frame ..) rfl
    exact Frame.refl _ _

theorem execEthTx_frame (a1 : Nat) (a2 : Option Bytes) (a3 : State) :
    Fr getN 0x64200001080c4 a3 (execEthTx a1 a2 a3) := by
  unfold execEthTx
  refine Fr.guard ?_
  refine Frame.trans ?_ (State.withDesc_frame rfl (fun u1 x2 => ?_) ..)
  · exact Frame.refl _ _
  · split
    · rename_i z3
      refine Frame.step ?_ (State.complete_frame ..) rfl
      exact Frame.refl _ _
    · rename_i z4 z5
      refine Frame.step ?_ (State.ethEnqueue_frame ..) rfl
      exact Frame.refl _ _

theorem execTimedFrameLaunch_frame (a1 : Nat) (a2 : State) :
    Fr getN 0x64600001080f4 a2 (execTimedFrameLaunch a1 a2) := by
  unfold execTimedFrameLaunch
  refine Fr.guard ?_
  split
  · rename_i z1 z2
    exact Frame.refl _ _
  · rename_i z3 z4 z5
    refine Frame.ite (fun h6 => ?_) (fun h6 => ?_)
    · exact Frame.refl _ _
    · refine Frame.trans ?_ (State.atT_frame rfl (fun u7 => ?_) ..)
      · exact Frame.refl _ _
      · refine Frame.foldl ?_ (fun u8 x9 h10 => ?_)
        · exact Frame.refl _ _
        · refine Frame.step ?_ (State.launchQueue_frame ..) rfl
          assumption

theorem execEthPortLinkDown_frame (a1 : Nat) (a2 : State) :
    Fr getN 0x400000100000 a2 (execEthPortLinkDown a1 a2) := by
  unfold execEthPortLinkDown
  refine Fr.guard ?_
  refine Frame.ite (fun h1 => ?_) (fun h1 => ?_)
  · refine Frame.trans ?_ (State.event_frame rfl (tb_ethA rfl) (tb_ethA rfl) ..)
    refine Frame.trans ?_ (State.put_frame rfl (tb_ethA rfl) ..)
    exact Frame.refl _ _
  · exact Frame.refl _ _

theorem execEthPortLinkUp_frame (a1 : Nat) (a2 : State) :
    Fr getN 0x4400000102000 a2 (execEthPortLinkUp a1 a2) := by
  unfold execEthPortLinkUp
  refine Fr.guard ?_
  refine Frame.ite (fun h1 => ?_) (fun h1 => ?_)
  · refine Frame.step ?_ (State.markClear_frame ..) rfl
    refine Frame.trans ?_ (State.put_frame rfl (tb_ethA rfl) ..)
    exact Frame.refl _ _
  · exact Frame.refl _ _

end Sys2Proof.Machine
end

