-- ==== Sys2Proof/Laws/FrameControl.lean ====
section
/-!
SUPPORT. Frame laws of Machine/Control.lean: which components each of its operations may change.
-/

namespace Sys2Proof.Machine

open Sys2Proof

theorem State.withCmd_frame {m : Nat} (hK : 0x10000101080 &&& m = 0x10000101080) {s : State} {r cmd : Nat}
    {f : State → Nat → Nat → State} (hf : ∀ u a n, Frame m u (f u a n)) : Frame m s (s.withCmd r cmd f) := by
  unfold State.withCmd
  split
  · exact Frame.refl _ _
  · rename_i d _
    split
    · refine Frame.trans (t := s.begin r d.num) ((State.begin_frame ..).mono (mask_trans rfl hK)) (Frame.trans ?_ (hf ..))
      exact (State.logDesc_frame ..).mono (mask_trans rfl hK)
    · exact Frame.refl _ _

theorem State.enableCmd_frame (a1 : State) (a2 : Nat) (a3 : Nat) (a4 : Nat) :
    Frame 0x6020000108284 a1 (State.enableCmd a1 a2 a3 a4) := by
  unfold State.enableCmd
  extract_lets v1
  refine Frame.ite (fun h2 => ?_) (fun h2 => ?_)
  · refine Frame.step ?_ (State.complete_frame ..) rfl
    exact Frame.refl _ _
  · refine Frame.ite (fun h3 => ?_) (fun h3 => ?_)
    · refine Frame.step ?_ (State.setAx_frame ..) rfl
      exact Frame.refl _ _
    · refine Frame.ite (fun h4 => ?_) (fun h4 => ?_)
      · refine Frame.step ?_ (State.complete_frame ..) rfl
        exact Frame.refl _ _
      · refine Frame.ite (fun h5 => ?_) (fun h5 => ?_)
        · refine Frame.step ?_ (State.complete_frame ..) rfl
          exact Frame.refl _ _
        · refine Frame.step ?_ (State.setAx_frame ..) rfl
          exact Frame.refl _ _

theorem execEnable_frame (a1 : Nat) (a2 : State) :
    Fr getN 0x6030000109284 a2 (execEnable a1 a2) := by
  unfold execEnable
  refine Fr.guard ?_
  refine Frame.trans ?_ (State.withCmd_frame rfl (fun u1 x2 x3 => ?_) ..)
  · exact Frame.refl _ _
  · refine Frame.step ?_ (State.enableCmd_frame ..) rfl
    exact Frame.refl _ _

theorem State.loadTable_frame (a1 : State) (a2 : Nat) (a3 : Nat) (a4 : Bytes) :
    Frame 0x200 a1 (State.loadTable a1 a2 a3 a4) := by
  unfold State.loadTable
  extract_lets v1
  refine Frame.step ?_ (State.setAx_frame ..) rfl
  exact Frame.refl _ _

theorem State.segEnd_frame (a1 : State) (a2 : Nat) (a3 : Seg) (a4 : Status) :
    Frame 0x6020000108084 a1 (State.segEnd a1 a2 a3 a4) := by
  unfold State.segEnd
  split
  · rename_i z1 z2 z3
    refine Frame.step ?_ (State.complete_frame ..) rfl
    exact Frame.refl _ _
  · rename_i z4 z5 z6 z7 z8
    refine Frame.ite (fun h9 => ?_) (fun h9 => ?_)
    · exact Frame.refl _ _
    · refine Frame.step ?_ (State.postEvent_frame ..) rfl
      exact Frame.refl _ _

theorem State.segCount_frame (a1 : State) (a2 : Nat) (a3 : Status) :
    Frame 0x100000100000 a1 (State.segCount a1 a2 a3) := by
  unfold State.segCount
  refine Frame.ite (fun h1 => ?_) (fun h1 => ?_)
  · exact Frame.refl _ _
  · refine Frame.ite (fun h2 => ?_) (fun h2 => ?_)
    · refine Frame.trans ?_ (State.event_frame rfl (tb_ctlA rfl) (tb_ctlA rfl) ..)
      exact Frame.refl _ _
    · refine Frame.ite (fun h3 => ?_) (fun h3 => ?_)
      · refine Frame.trans ?_ (State.event_frame rfl (tb_ctlA rfl) (tb_ctlA rfl) ..)
        exact Frame.refl _ _
      · refine Frame.ite (fun h4 => ?_) (fun h4 => ?_)
        · refine Frame.trans ?_ (State.count_frame rfl (tb_ctlA rfl) ..)
          exact Frame.refl _ _
        · refine Frame.trans ?_ (State.event_frame rfl (tb_ctlA rfl) (tb_ctlA rfl) ..)
          exact Frame.refl _ _

theorem State.segOut_frame (a1 : State) (a2 : Nat) (a3 : Seg) (a4 : Status) :
    Frame 0x6120000108084 a1 (State.segOut a1 a2 a3 a4) := by
  unfold State.segOut
  refine Frame.step ?_ (State.segEnd_frame ..) rfl
  refine Frame.step ?_ (State.segCount_frame ..) rfl
  exact Frame.refl _ _

theorem State.segArrive_frame (a1 : State) (a2 : Bytes) (a3 : Nat) (a4 : Nat) (a5 : Nat) (a6 : Nat) (a7 : SegSrc) :
    Frame 0x6130000109284 a1 (State.segArrive a1 a2 a3 a4 a5 a6 a7) := by
  unfold State.segArrive
  extract_lets v1 v2 v3 v4 v5 v6 v7 v8 v9 v10 v11 v12 v13 v14 v15
  have h16 : Frame 0x6130000109284 a1 v12 := by
    unfold v12
    refine Frame.step ?_ (State.setAx_frame ..) rfl
    exact Frame.refl _ _
  clear_value v12
  have h17 : Frame 0x6130000109284 a1 v13 := by
    unfold v13
    refine Frame.trans ?_ (State.countN_frame rfl (tb_ctlA rfl) ..)
    assumption
  clear_value v13
  have h18 : Frame 0x6130000109284 a1 v14 := by
    unfold v14
    refine Frame.foldl ?_ (fun u19 x20 h21 => ?_)
    · assumption
    · split
      · rename_i z22 z23 z24
        refine Frame.step ?_ (State.complete_frame ..) rfl
        assumption
      · rename_i z25 z26 z27 z28 z29
        assumption
  clear_value v14
  refine Frame.ite (fun h30 => ?_) (fun h30 => ?_)
  · refine Frame.ite (fun h31 => ?_) (fun h31 => ?_)
    · unfold v7
      refine Frame.step ?_ (State.segOut_frame ..) rfl
      exact Frame.refl _ _
    · refine Frame.step ?_ (State.segEnd_frame ..) rfl
      exact Frame.refl _ _
  · refine Frame.ite (fun h32 => ?_) (fun h32 => ?_)
    · unfold v7
      refine Frame.step ?_ (State.segOut_frame ..) rfl
      exact Frame.refl _ _
    · refine Frame.ite (fun h33 => ?_) (fun h33 => ?_)
      · unfold v7
        refine Frame.step ?_ (State.segOut_frame ..) rfl
        exact Frame.refl _ _
      · refine Frame.ite (fun h34 => ?_) (fun h34 => ?_)
        · unfold v7
          refine Frame.step ?_ (State.segOut_frame ..) rfl
          exact Frame.refl _ _
        · refine Frame.ite (fun h35 => ?_) (fun h35 => ?_)
          · unfold v7
            refine Frame.step ?_ (State.segOut_frame ..) rfl
            exact Frame.refl _ _
          · refine Frame.ite (fun h36 => ?_) (fun h36 => ?_)
            · refine Frame.step ?_ (State.segOut_frame ..) rfl
              refine Frame.step ?_ (State.outcome_frame ..) rfl
              exact Frame.refl _ _
            · refine Frame.ite (fun h37 => ?_) (fun h37 => ?_)
              · refine Frame.step ?_ (State.segOut_frame ..) rfl
                assumption
              · refine Frame.step ?_ (State.setAx_frame ..) rfl
                assumption

theorem execSegment_frame (a1 : Nat) (a2 : State) :
    Fr getN 0x6130000109284 a2 (execSegment a1 a2) := by
  unfold execSegment
  refine Fr.guard ?_
  refine Frame.trans ?_ (State.withDesc_frame rfl (fun u1 x2 => ?_) ..)
  · exact Frame.refl _ _
  · refine Frame.step ?_ (State.segArrive_frame ..) rfl
    refine Frame.step ?_ (State.logDesc_frame ..) rfl
    exact Frame.refl _ _

theorem State.disagreement_frame (a1 : State) (a2 : Nat) (a3 : Nat) :
    Frame 0x5300000108e04 a1 (State.disagreement a1 a2 a3) := by
  unfold State.disagreement
  extract_lets v1 v2 v3 v4 v5 v6 v7 v8 v9
  have h10 : Frame 0x5300000108e04 a1 v3 := by
    unfold v3
    refine Frame.trans ?_ (State.event_frame rfl (tb_safA rfl) (tb_safA rfl) ..)
    exact Frame.refl _ _
  clear_value v3
  have h11 : Frame 0x5300000108e04 a1 v6 := by
    unfold v6
    refine Frame.trans ?_ (State.count_frame rfl (tb_safA rfl) ..)
    assumption
  clear_value v6
  have h12 : Frame 0x5300000108e04 a1 v8 := by
    unfold v8
    refine Frame.step ?_ (State.setAx_frame ..) rfl
    assumption
  clear_value v8
  refine Frame.ite (fun h13 => ?_) (fun h13 => ?_)
  · unfold v2
    refine Frame.step ?_ (State.setAx_frame ..) rfl
    exact Frame.refl _ _
  · refine Frame.ite (fun h14 => ?_) (fun h14 => ?_)
    · refine Frame.step ?_ (State.stopGroups_frame ..) rfl
      refine Frame.step ?_ (State.safFault_frame ..) rfl
      unfold v2
      refine Frame.step ?_ (State.setAx_frame ..) rfl
      assumption
    · refine Frame.step ?_ (State.safFault_frame ..) rfl
      unfold v2
      refine Frame.step ?_ (State.setAx_frame ..) rfl
      refine Frame.step ?_ (State.setAx_frame ..) rfl
      assumption

theorem State.guardMiss_frame (a1 : State) (a2 : Nat) :
    Frame 0x5350000109e04 a1 (State.guardMiss a1 a2) := by
  unfold State.guardMiss
  split
  · rename_i z1 z2
    exact Frame.refl _ _
  · rename_i z3 z4 z5
    refine Frame.ite (fun h6 => ?_) (fun h6 => ?_)
    · exact Frame.refl _ _
    · refine Frame.step ?_ (State.disagreement_frame ..) rfl
      refine Frame.step ?_ (State.outcome_frame ..) rfl
      refine Frame.trans ?_ (State.event_frame rfl (tb_timA rfl) (tb_timA rfl) ..)
      exact Frame.refl _ _

theorem State.noOwner_frame (a1 : State) (a2 : Nat) :
    Frame 0x100000100000 a1 (State.noOwner a1 a2) := by
  unfold State.noOwner
  refine Frame.trans ?_ (State.wr_frame rfl (tb_ctlA rfl) ..)
  exact Frame.refl _ _

theorem State.endOwner_frame (a1 : State) (a2 : Nat) :
    Frame 0x100000100000 a1 (State.endOwner a1 a2) := by
  unfold State.endOwner
  split
  · rename_i z1 z2 z3
    exact Frame.refl _ _
  · rename_i z4 z5
    refine Frame.step ?_ (State.noOwner_frame ..) rfl
    exact Frame.refl _ _

theorem State.cutAll_frame (a1 : State) (a2 : Nat) :
    Frame 0x6120000108284 a1 (State.cutAll a1 a2) := by
  unfold State.cutAll
  extract_lets v1 v2
  refine Frame.foldl ?_ (fun u3 x4 h5 => ?_)
  · refine Frame.step ?_ (State.setAx_frame ..) rfl
    exact Frame.refl _ _
  · refine Frame.step ?_ (State.segOut_frame ..) rfl
    assumption

theorem State.disableNow_frame (a1 : State) (a2 : Nat) :
    Frame 0x6120000108284 a1 (State.disableNow a1 a2) := by
  unfold State.disableNow
  extract_lets v1 v2 v3
  have h4 : Frame 0x6120000108284 a1 v1 := by
    unfold v1
    refine Frame.step ?_ (State.endOwner_frame ..) rfl
    refine Frame.step ?_ (State.cutAll_frame ..) rfl
    exact Frame.refl _ _
  clear_value v1
  have h5 : Frame 0x6120000108284 a1 v3 := by
    unfold v3
    refine Frame.step ?_ (State.setAx_frame ..) rfl
    assumption
  clear_value v3
  refine Frame.foldl ?_ (fun u6 x7 h8 => ?_)
  · refine Frame.step ?_ (State.setAxState_frame ..) rfl
    assumption
  · refine Frame.step ?_ (State.complete_frame ..) rfl
    assumption

theorem State.disableCmd_frame (a1 : State) (a2 : Nat) (a3 : Nat) (a4 : Nat) :
    Frame 0x6120000108284 a1 (State.disableCmd a1 a2 a3 a4) := by
  unfold State.disableCmd
  extract_lets v1 v2 v3 v4
  have h5 : Frame 0x6120000108284 a1 v3 := by
    unfold v3
    refine Frame.foldl ?_ (fun u6 x7 h8 => ?_)
    · refine Frame.step ?_ (State.setAx_frame ..) rfl
      exact Frame.refl _ _
    · refine Frame.step ?_ (State.complete_frame ..) rfl
      assumption
  clear_value v3
  have h9 : Frame 0x6120000108284 a1 v4 := by
    unfold v4
    refine Frame.step ?_ (State.setAx_frame ..) rfl
    exact Frame.refl _ _
  clear_value v4
  refine Frame.ite (fun h10 => ?_) (fun h10 => ?_)
  · refine Frame.ite (fun h11 => ?_) (fun h11 => ?_)
    · refine Frame.step ?_ (State.complete_frame ..) rfl
      exact Frame.refl _ _
    · refine Frame.step ?_ (State.complete_frame ..) rfl
      assumption
  · refine Frame.ite (fun h12 => ?_) (fun h12 => ?_)
    · refine Frame.step ?_ (State.disableNow_frame ..) rfl
      assumption
    · refine Frame.ite (fun h13 => ?_) (fun h13 => ?_)
      · assumption
      · refine Frame.step ?_ (State.setAxState_frame ..) rfl
        refine Frame.step ?_ (State.cutAll_frame ..) rfl
        assumption

theorem State.releaseCmd_frame (a1 : State) (a2 : Nat) (a3 : Nat) (a4 : Nat) :
    Frame 0x6120000108084 a1 (State.releaseCmd a1 a2 a3 a4) := by
  unfold State.releaseCmd
  refine Frame.ite (fun h1 => ?_) (fun h1 => ?_)
  · refine Frame.step ?_ (State.complete_frame ..) rfl
    exact Frame.refl _ _
  · refine Frame.step ?_ (State.complete_frame ..) rfl
    split
    · rename_i z2 z3 z4
      refine Frame.step ?_ (State.noOwner_frame ..) rfl
      exact Frame.refl _ _
    · rename_i z5 z6
      exact Frame.refl _ _

theorem State.clearCmd_frame (a1 : State) (a2 : Nat) (a3 : Nat) (a4 : Nat) :
    Frame 0x6020000108284 a1 (State.clearCmd a1 a2 a3 a4) := by
  unfold State.clearCmd
  refine Frame.ite (fun h1 => ?_) (fun h1 => ?_)
  · refine Frame.step ?_ (State.complete_frame ..) rfl
    exact Frame.refl _ _
  · refine Frame.step ?_ (State.complete_frame ..) rfl
    refine Frame.step ?_ (State.setAx_frame ..) rfl
    exact Frame.refl _ _

theorem State.resetCmd_frame (a1 : State) (a2 : Nat) (a3 : Nat) (a4 : Nat) :
    Frame 0x6020000108284 a1 (State.resetCmd a1 a2 a3 a4) := by
  unfold State.resetCmd
  refine Frame.ite (fun h1 => ?_) (fun h1 => ?_)
  · refine Frame.step ?_ (State.complete_frame ..) rfl
    exact Frame.refl _ _
  · refine Frame.ite (fun h2 => ?_) (fun h2 => ?_)
    · refine Frame.step ?_ (State.complete_frame ..) rfl
      exact Frame.refl _ _
    · refine Frame.step ?_ (State.complete_frame ..) rfl
      refine Frame.step ?_ (State.setAx_frame ..) rfl
      exact Frame.refl _ _

theorem State.axisCmd_frame (a1 : State) (a2 : Nat) (a3 : Nat) (a4 : Nat) (a5 : Nat) :
    Frame 0x6120000108284 a1 (State.axisCmd a1 a2 a3 a4 a5) := by
  unfold State.axisCmd
  split
  · rename_i z1
    refine Frame.step ?_ (State.enableCmd_frame ..) rfl
    exact Frame.refl _ _
  · rename_i z2
    refine Frame.step ?_ (State.disableCmd_frame ..) rfl
    exact Frame.refl _ _
  · rename_i z3
    refine Frame.step ?_ (State.releaseCmd_frame ..) rfl
    exact Frame.refl _ _
  · rename_i z4
    refine Frame.step ?_ (State.clearCmd_frame ..) rfl
    exact Frame.refl _ _
  · rename_i z5
    refine Frame.step ?_ (State.resetCmd_frame ..) rfl
    exact Frame.refl _ _
  · rename_i z6 z7 z8 z9 z10 z11
    exact Frame.refl _ _

theorem State.limitSet_frame (a1 : State) (a2 : Nat) :
    Frame 0x200 a1 (State.limitSet a1 a2) := by
  unfold State.limitSet
  extract_lets v1 v2
  refine Frame.ite (fun h3 => ?_) (fun h3 => ?_)
  · exact Frame.refl _ _
  · refine Frame.ite (fun h4 => ?_) (fun h4 => ?_)
    · refine Frame.step ?_ (State.setAx_frame ..) rfl
      exact Frame.refl _ _
    · refine Frame.ite (fun h5 => ?_) (fun h5 => ?_)
      · refine Frame.step ?_ (State.setAx_frame ..) rfl
        exact Frame.refl _ _
      · refine Frame.ite (fun h6 => ?_) (fun h6 => ?_)
        · refine Frame.step ?_ (State.setAx_frame ..) rfl
          exact Frame.refl _ _
        · refine Frame.ite (fun h7 => ?_) (fun h7 => ?_)
          · refine Frame.step ?_ (State.setAx_frame ..) rfl
            exact Frame.refl _ _
          · exact Frame.refl _ _

theorem State.trcClear_frame (a1 : State) (a2 : Nat) :
    Frame 0x100000100200 a1 (State.trcClear a1 a2) := by
  unfold State.trcClear
  refine Frame.trans ?_ (State.wr_frame rfl (tb_ctlA rfl) ..)
  refine Frame.step ?_ (State.setAx_frame ..) rfl
  exact Frame.refl _ _

theorem State.trcShow_frame (a1 : State) (a2 : Nat) :
    Frame 0x100000100000 a1 (State.trcShow a1 a2) := by
  unfold State.trcShow
  refine Frame.trans ?_ (State.put_frame rfl (tb_ctlA rfl) ..)
  exact Frame.refl _ _

theorem State.trcFire_frame (a1 : State) (a2 : Nat) (a3 : Nat) (a4 : F32 × Nat) :
    Frame 0x100000100200 a1 (State.trcFire a1 a2 a3 a4) := by
  unfold State.trcFire
  extract_lets v1 v2 v3 v4 v5 v6
  have h7 : Frame 0x100000100200 a1 v5 := by
    unfold v5
    refine Frame.step ?_ (State.setAx_frame ..) rfl
    exact Frame.refl _ _
  clear_value v5
  have h8 : Frame 0x100000100200 a1 v6 := by
    unfold v6
    refine Frame.step ?_ (State.trcShow_frame ..) rfl
    refine Frame.trans ?_ (State.wr_frame rfl (tb_ctlA rfl) ..)
    refine Frame.trans ?_ (State.put_frame rfl (tb_ctlA rfl) ..)
    assumption
  clear_value v6
  refine Frame.ite (fun h9 => ?_) (fun h9 => ?_)
  · refine Frame.trans ?_ (State.put_frame rfl (tb_ctlA rfl) ..)
    assumption
  · assumption

theorem execDisable_frame (a1 : Nat) (a2 : State) :
    Fr getN 0x6130000109284 a2 (execDisable a1 a2) := by
  unfold execDisable
  refine Fr.guard ?_
  refine Frame.trans ?_ (State.withCmd_frame rfl (fun u1 x2 x3 => ?_) ..)
  · exact Frame.refl _ _
  · refine Frame.step ?_ (State.disableCmd_frame ..) rfl
    exact Frame.refl _ _

theorem State.clipped_frame (a1 : State) (a2 : Nat) :
    Frame 0x100000100000 a1 (State.clipped a1 a2) := by
  unfold State.clipped
  refine Frame.trans ?_ (State.event_frame rfl (tb_ctlA rfl) (tb_ctlA rfl) ..)
  exact Frame.refl _ _

theorem State.encodeCmd_frame (a1 : State) (a2 : Nat) (a3 : F32) :
    Fr getP 0x100000100000 a1 (State.encodeCmd a1 a2 a3) := by
  unfold State.encodeCmd
  extract_lets v1
  have h2 : Frame 0x100000100000 a1 v1 := by
    unfold v1
    refine Frame.ite (fun h3 => ?_) (fun h3 => ?_)
    · refine Frame.step ?_ (State.clipped_frame ..) rfl
      exact Frame.refl _ _
    · exact Frame.refl _ _
  clear_value v1
  refine Fr.pair ?_
  assumption

theorem State.trace_frame (a1 : State) (a2 : Nat) (a3 : Nat) (a4 : List Word) :
    Frame 0x100000100200 a1 (State.trace a1 a2 a3 a4) := by
  unfold State.trace
  extract_lets v1 v2 v3 v4 v5 v6 v7 v8 v9 v10 v11 v12 v13
  have h14 : Frame 0x100000100200 a1 v8 := by
    unfold v8
    refine Frame.step ?_ (State.setAx_frame ..) rfl
    exact Frame.refl _ _
  clear_value v8
  have h15 : Frame 0x100000100200 a1 v12 := by
    unfold v12
    refine Frame.step ?_ (State.setAx_frame ..) rfl
    assumption
  clear_value v12
  have h16 : Frame 0x100000100200 a1 v13 := by
    unfold v13
    refine Frame.step ?_ (State.trcShow_frame ..) rfl
    refine Frame.ite (fun h17 => ?_) (fun h17 => ?_)
    · refine Frame.trans ?_ (State.put_frame rfl (tb_ctlA rfl) ..)
      assumption
    · assumption
  clear_value v13
  refine Frame.ite (fun h18 => ?_) (fun h18 => ?_)
  · exact Frame.refl _ _
  · refine Frame.ite (fun h19 => ?_) (fun h19 => ?_)
    · refine Frame.step ?_ (State.trcFire_frame ..) rfl
      assumption
    · refine Frame.ite (fun h20 => ?_) (fun h20 => ?_)
      · refine Frame.trans ?_ (State.put_frame rfl (tb_ctlA rfl) ..)
        assumption
      · assumption

theorem State.stage_frame (a1 : State) (a2 : Nat) (a3 : Nat) (a4 : Nat) (a5 : Bool) (a6 : Bool) (a7 : F32) (a8 : F32) (a9 : F32) (a10 : LoopOut) :
    Frame 0x100000100208 a1 (State.stage a1 a2 a3 a4 a5 a6 a7 a8 a9 a10) := by
  unfold State.stage
  extract_lets v1 v2 v3 v4 v5 v6 v7 v8 v9 v10 v11 v12 v13
  have h14 : Fr getP 0x100000100208 a1 v2 := by
    unfold v2
    refine Fr.step ?_ (State.encodeCmd_frame ..) rfl
    exact Frame.refl _ _
  clear_value v2
  have h15 : Frame 0x100000100208 a1 v3 := by
    unfold v3
    refine Fr.fst ?_
    assumption
  clear_value v3
  have h16 : Frame 0x100000100208 a1 v5 := by
    unfold v5
    refine Frame.step ?_ (State.setAx_frame ..) rfl
    assumption
  clear_value v5
  have h17 : Frame 0x100000100208 a1 v6 := by
    unfold v6
    refine Frame.ite (fun h18 => ?_) (fun h18 => ?_)
    · assumption
    · refine Frame.trans ?_ (State.wr_frame rfl (tb_ctlA rfl) ..)
      refine Frame.trans ?_ (State.wr_frame rfl (tb_ctlA rfl) ..)
      assumption
  clear_value v6
  have h19 : Frame 0x100000100208 a1 v7 := by
    unfold v7
    refine Frame.trans ?_ (State.wr_frame rfl (tb_ctlA rfl) ..)
    refine Frame.trans ?_ (State.wr_frame rfl (tb_ctlA rfl) ..)
    refine Frame.trans ?_ (State.wr_frame rfl (tb_ctlA rfl) ..)
    assumption
  clear_value v7
  refine Frame.step ?_ (State.trace_frame ..) rfl
  refine Frame.step ?_ (State.bump_frame ..) rfl
  refine Frame.step ?_ (State.bump_frame ..) rfl
  refine Frame.step ?_ (State.bump_frame ..) rfl
  assumption

theorem State.launch_frame (a1 : State) (a2 : Nat) (a3 : F32) (a4 : Bytes) :
    Frame 0x66200001096c4 a1 (State.launch a1 a2 a3 a4) := by
  unfold State.launch
  extract_lets v1 v2 v3 v4 v5 v6
  have h7 : Frame 0x66200001096c4 a1 v2 := by
    unfold v2
    refine Frame.step ?_ (State.setAx_frame ..) rfl
    exact Frame.refl _ _
  clear_value v2
  have h8 : Frame 0x66200001096c4 a1 v4 := by
    unfold v4
    apply Frame.upd
    · assumption
    all_goals first | exact Or.inr rfl | exact Or.inl rfl | exact Or.inl (Nat.le_refl _) | rfl
  clear_value v4
  refine Frame.ite (fun h9 => ?_) (fun h9 => ?_)
  · assumption
  · refine Frame.ite (fun h10 => ?_) (fun h10 => ?_)
    · refine Frame.step ?_ (State.canEnqueue_frame ..) rfl
      assumption
    · refine Frame.step ?_ (State.ethEnqueue_frame ..) rfl
      assumption

theorem State.launchU_frame (a1 : State) (a2 : Nat) (a3 : F32) :
    Frame 0x67200001096c4 a1 (State.launchU a1 a2 a3) := by
  unfold State.launchU
  extract_lets v1
  have h2 : Fr getP 0x67200001096c4 a1 v1 := by
    unfold v1
    refine Fr.step ?_ (State.encodeCmd_frame ..) rfl
    exact Frame.refl _ _
  clear_value v1
  refine Frame.step ?_ (State.launch_frame ..) rfl
  refine Fr.fst ?_
  assumption

theorem State.launchAxis_frame (a1 : Nat) (a2 : Bool) (a3 : State) (a4 : Nat) :
    Frame 0x67200001096c4 a3 (State.launchAxis a1 a2 a3 a4) := by
  unfold State.launchAxis
  extract_lets v1 v2
  split
  · rename_i z3 z4 z5
    refine Frame.ite (fun h6 => ?_) (fun h6 => ?_)
    · refine Frame.ite (fun h7 => ?_) (fun h7 => ?_)
      · refine Frame.step ?_ (State.launch_frame ..) rfl
        exact Frame.refl _ _
      · refine Frame.step ?_ (State.launchU_frame ..) rfl
        exact Frame.refl _ _
    · refine Frame.ite (fun h8 => ?_) (fun h8 => ?_)
      · unfold v2
        split
        · rename_i z9 z10
          refine Frame.step ?_ (State.setAx_frame ..) rfl
          exact Frame.refl _ _
        · rename_i z11 z12 z13
          refine Frame.step ?_ (State.launchU_frame ..) rfl
          exact Frame.refl _ _
      · refine Frame.step ?_ (State.launch_frame ..) rfl
        exact Frame.refl _ _
  · rename_i z14 z15
    refine Frame.ite (fun h16 => ?_) (fun h16 => ?_)
    · refine Frame.step ?_ (State.setAx_frame ..) rfl
      exact Frame.refl _ _
    · refine Frame.ite (fun h17 => ?_) (fun h17 => ?_)
      · refine Frame.step ?_ (State.launchU_frame ..) rfl
        exact Frame.refl _ _
      · unfold v2
        split
        · rename_i z18 z19
          refine Frame.step ?_ (State.setAx_frame ..) rfl
          exact Frame.refl _ _
        · rename_i z20 z21 z22
          refine Frame.step ?_ (State.launchU_frame ..) rfl
          exact Frame.refl _ _

theorem State.takeFb_frame (a1 : State) (a2 : Nat) (a3 : FbFrame) (a4 : Bool) :
    Frame 0x208 a1 (State.takeFb a1 a2 a3 a4) := by
  unfold State.takeFb
  extract_lets v1 v2
  refine Frame.step ?_ (State.setAx_frame ..) rfl
  refine Frame.step ?_ (State.bump_frame ..) rfl
  exact Frame.refl _ _

theorem State.enterSafe_frame (a1 : State) (a2 : Nat) (a3 : Option Status) :
    Frame 0x6120000108284 a1 (State.enterSafe a1 a2 a3) := by
  unfold State.enterSafe
  refine Frame.ite (fun h1 => ?_) (fun h1 => ?_)
  · exact Frame.refl _ _
  · extract_lets v2 v3 v4
    have h5 : Frame 0x6120000108284 a1 v2 := by
      unfold v2
      refine Frame.step ?_ (State.setAxState_frame ..) rfl
      refine Frame.step ?_ (State.cutAll_frame ..) rfl
      exact Frame.refl _ _
    clear_value v2
    have h6 : Frame 0x6120000108284 a1 v4 := by
      unfold v4
      refine Frame.step ?_ (State.setAx_frame ..) rfl
      assumption
    clear_value v4
    split
    · rename_i z7
      assumption
    · rename_i z8 z9
      refine Frame.trans ?_ (State.put_frame rfl (tb_ctlA rfl) ..)
      assumption

theorem State.axisFault_frame (a1 : State) (a2 : Nat) (a3 : Status) :
    Frame 0x7120000108284 a1 (State.axisFault a1 a2 a3) := by
  unfold State.axisFault
  extract_lets v1
  have h2 : Frame 0x7120000108284 a1 v1 := by
    unfold v1
    refine Frame.ite (fun h3 => ?_) (fun h3 => ?_)
    · refine Frame.step ?_ (State.enterSafe_frame ..) rfl
      exact Frame.refl _ _
    · refine Frame.step ?_ (State.setAxState_frame ..) rfl
      refine Frame.trans ?_ (State.put_frame rfl (tb_ctlA rfl) ..)
      refine Frame.step ?_ (State.cutAll_frame ..) rfl
      exact Frame.refl _ _
  clear_value v1
  refine Frame.step ?_ (State.safFault_frame ..) rfl
  assumption

theorem State.closeLoop_frame (a1 : State) (a2 : Nat) (a3 : Nat) (a4 : Nat) (a5 : Bool) (a6 : Bool) :
    Frame 0x712000010828c a1 (State.closeLoop a1 a2 a3 a4 a5 a6) := by
  unfold State.closeLoop
  extract_lets v1 v2 v3 v4 v5 v6 v7 v8 v9 v10 v11 v12 v13 v14
  have h15 : Frame 0x712000010828c a1 v11 := by
    unfold v11
    refine Frame.step ?_ (State.setAx_frame ..) rfl
    exact Frame.refl _ _
  clear_value v11
  have h16 : Frame 0x712000010828c a1 v12 := by
    unfold v12
    refine Frame.ite (fun h17 => ?_) (fun h17 => ?_)
    · refine Frame.step ?_ (State.clipped_frame ..) rfl
      assumption
    · assumption
  clear_value v12
  refine Frame.ite (fun h18 => ?_) (fun h18 => ?_)
  · refine Frame.step ?_ (State.stage_frame ..) rfl
    apply Frame.upd
    · exact Frame.refl _ _
    all_goals first | exact Or.inr rfl | exact Or.inl rfl | exact Or.inl (Nat.le_refl _) | rfl
  · clear_value v14
    split
    · rename_i z19
      refine Frame.step ?_ (State.stage_frame ..) rfl
      assumption
    · rename_i z20 z21
      extract_lets v22
      have h23 : Frame 0x712000010828c a1 v22 := by
        unfold v22
        refine Frame.step ?_ (State.axisFault_frame ..) rfl
        assumption
      clear_value v22
      refine Frame.step ?_ (State.stage_frame ..) rfl
      assumption

theorem State.initAxis_frame (a1 : State) (a2 : Nat) :
    Frame 0x100000100200 a1 (State.initAxis a1 a2) := by
  unfold State.initAxis
  extract_lets v1
  refine Frame.step ?_ (State.setAxState_frame ..) rfl
  refine Frame.step ?_ (State.setAx_frame ..) rfl
  exact Frame.refl _ _

theorem State.setOwner_frame (a1 : State) (a2 : Nat) (a3 : Nat) (a4 : Nat) :
    Frame 0x100000100000 a1 (State.setOwner a1 a2 a3 a4) := by
  unfold State.setOwner
  refine Frame.trans ?_ (State.wr_frame rfl (tb_ctlA rfl) ..)
  exact Frame.refl _ _

theorem State.segWatch_frame (a1 : State) (a2 : Nat) (a3 : Seg) (a4 : Nat) (a5 : Option (Nat × Nat)) (a6 : List Nat) :
    Frame 0x200 a1 (State.segWatch a1 a2 a3 a4 a5 a6) := by
  unfold State.segWatch
  refine Frame.ite (fun h1 => ?_) (fun h1 => ?_)
  · exact Frame.refl _ _
  · refine Frame.ite (fun h2 => ?_) (fun h2 => ?_)
    · refine Frame.step ?_ (State.setAx_frame ..) rfl
      exact Frame.refl _ _
    · refine Frame.ite (fun h3 => ?_) (fun h3 => ?_)
      · exact Frame.refl _ _
      · refine Frame.step ?_ (State.setAx_frame ..) rfl
        exact Frame.refl _ _

theorem State.takeover_frame (a1 : State) (a2 : Nat) (a3 : Nat) :
    Frame 0x6120000108284 a1 (State.takeover a1 a2 a3) := by
  unfold State.takeover
  extract_lets v1 v2 v3 v4 v5 v6
  split
  · rename_i z7 z8
    exact Frame.refl _ _
  · rename_i z9 z10 z11
    extract_lets v12 v13 v14 v15 v16 v17 v18 v19 v20
    have h21 : Frame 0x6120000108284 a1 v14 := by
      unfold v14
      refine Frame.step ?_ (State.setAx_frame ..) rfl
      exact Frame.refl _ _
    clear_value v14
    have h22 : Frame 0x6120000108284 a1 v15 := by
      unfold v15
      refine Frame.foldl ?_ (fun u23 x24 h25 => ?_)
      · assumption
      · refine Frame.step ?_ (State.segOut_frame ..) rfl
        assumption
    clear_value v15
    have h26 : Frame 0x6120000108284 a1 v16 := by
      unfold v16
      split
      · rename_i z27 z28
        assumption
      · rename_i z29 z30 z31
        refine Frame.step ?_ (State.segOut_frame ..) rfl
        assumption
    clear_value v16
    have h32 : Frame 0x6120000108284 a1 v17 := by
      unfold v17
      refine Frame.foldl ?_ (fun u33 x34 h35 => ?_)
      · assumption
      · refine Frame.step ?_ (State.segOut_frame ..) rfl
        assumption
    clear_value v17
    have h36 : Frame 0x6120000108284 a1 v18 := by
      unfold v18
      refine Frame.trans ?_ (State.wr_frame rfl (tb_ctlA rfl) ..)
      refine Frame.step ?_ (State.setOwner_frame ..) rfl
      assumption
    clear_value v18
    have h37 : Frame 0x6120000108284 a1 v20 := by
      unfold v20
      refine Frame.step ?_ (State.setAxState_frame ..) rfl
      assumption
    clear_value v20
    refine Frame.step ?_ (State.segWatch_frame ..) rfl
    assumption

theorem State.restOrStop_frame (a1 : State) (a2 : Nat) :
    Frame 0x100000100000 a1 (State.restOrStop a1 a2) := by
  unfold State.restOrStop
  extract_lets v1 v2
  have h3 : Frame 0x100000100000 a1 v2 := by
    unfold v2
    refine Frame.step ?_ (State.setAxState_frame ..) rfl
    exact Frame.refl _ _
  clear_value v2
  refine Frame.ite (fun h4 => ?_) (fun h4 => ?_)
  · split
    · rename_i z5 z6 z7 z8
      refine Frame.ite (fun h9 => ?_) (fun h9 => ?_)
      · refine Frame.step ?_ (State.noOwner_frame ..) rfl
        assumption
      · assumption
    · rename_i z10 z11
      assumption
  · refine Frame.step ?_ (State.setAxState_frame ..) rfl
    exact Frame.refl _ _

theorem State.advance_frame (a1 : State) (a2 : Nat) (a3 : Nat) :
    Frame 0x6120000108284 a1 (State.advance a1 a2 a3) := by
  unfold State.advance
  extract_lets v1 v2 v3 v4 v5 v6 v7 v8 v9 v10 v11 v12 v13 v14 v15 v16 v17 v18
  have h19 : Frame 0x6120000108284 a1 v17 := by
    unfold v17
    refine Frame.step ?_ (State.setAx_frame ..) rfl
    exact Frame.refl _ _
  clear_value v17
  have h20 : Frame 0x6120000108284 a1 v18 := by
    unfold v18
    clear_value v16
    split
    · rename_i z21
      assumption
    · rename_i z22 z23
      refine Frame.step ?_ (State.segOut_frame ..) rfl
      assumption
  clear_value v18
  refine Frame.ite (fun h24 => ?_) (fun h24 => ?_)
  · refine Frame.step ?_ (State.setAx_frame ..) rfl
    exact Frame.refl _ _
  · refine Frame.ite (fun h25 => ?_) (fun h25 => ?_)
    · assumption
    · refine Frame.ite (fun h26 => ?_) (fun h26 => ?_)
      · refine Frame.step ?_ (State.setAxState_frame ..) rfl
        assumption
      · refine Frame.step ?_ (State.restOrStop_frame ..) rfl
        assumption

theorem State.computeAxis_frame (a1 : State) (a2 : Nat) (a3 : Nat) (a4 : Option FbFrame) (a5 : Nat) :
    Frame 0x712000010828c a1 (State.computeAxis a1 a2 a3 a4 a5) := by
  unfold State.computeAxis
  extract_lets v1 v2 v3 v4 v5 v6 v7 v8 v9 v10 v11 v12 v13 v14 v15
  have h16 : Frame 0x712000010828c a1 v1 := by
    unfold v1
    refine Frame.trans ?_ (State.countN_frame rfl (tb_ctlA rfl) ..)
    exact Frame.refl _ _
  clear_value v1
  have h17 : Frame 0x712000010828c a1 v3 := by
    unfold v3
    refine Frame.trans ?_ (State.event_frame rfl (tb_ctlA rfl) (tb_ctlA rfl) ..)
    assumption
  clear_value v3
  have h18 : Frame 0x712000010828c a1 v5 := by
    unfold v5
    split
    · rename_i z19 z20
      refine Frame.step ?_ (State.takeFb_frame ..) rfl
      assumption
    · rename_i z21
      refine Frame.step ?_ (State.setAx_frame ..) rfl
      assumption
  clear_value v5
  have h22 : Frame 0x712000010828c a1 v6 := by
    unfold v6
    refine Frame.ite (fun h23 => ?_) (fun h23 => ?_)
    · refine Frame.step ?_ (State.safFault_frame ..) rfl
      refine Frame.step ?_ (State.enterSafe_frame ..) rfl
      assumption
    · assumption
  clear_value v6
  have h24 : Frame 0x712000010828c a1 v8 := by
    unfold v8
    split
    · rename_i z25 z26
      assumption
    · rename_i z27 z28 z29
      refine Frame.step ?_ (State.enterSafe_frame ..) rfl
      refine Frame.step ?_ (State.setAx_frame ..) rfl
      assumption
  clear_value v8
  have h30 : Frame 0x712000010828c a1 v10 := by
    unfold v10
    refine Frame.step ?_ (State.noOwner_frame ..) rfl
    refine Frame.step ?_ (State.setAx_frame ..) rfl
    assumption
  clear_value v10
  have h31 : Frame 0x712000010828c a1 v12 := by
    unfold v12
    refine Frame.ite (fun h32 => ?_) (fun h32 => ?_)
    · refine Frame.step ?_ (State.takeover_frame ..) rfl
      assumption
    · assumption
  clear_value v12
  have h33 : Frame 0x712000010828c a1 v13 := by
    unfold v13
    refine Frame.ite (fun h34 => ?_) (fun h34 => ?_)
    · refine Frame.step ?_ (State.restOrStop_frame ..) rfl
      assumption
    · assumption
  clear_value v13
  have h35 : Frame 0x712000010828c a1 v15 := by
    unfold v15
    refine Frame.ite (fun h36 => ?_) (fun h36 => ?_)
    · refine Frame.step ?_ (State.advance_frame ..) rfl
      assumption
    · assumption
  clear_value v15
  refine Frame.ite (fun h37 => ?_) (fun h37 => ?_)
  · refine Frame.step ?_ (State.closeLoop_frame ..) rfl
    refine Frame.step ?_ (State.initAxis_frame ..) rfl
    assumption
  · refine Frame.ite (fun h38 => ?_) (fun h38 => ?_)
    · refine Frame.step ?_ (State.disableNow_frame ..) rfl
      assumption
    · refine Frame.step ?_ (State.closeLoop_frame ..) rfl
      assumption

theorem State.axisStep_frame (a1 : Nat) (a2 : State) (a3 : Nat) :
    Frame 0x712000010828c a2 (State.axisStep a1 a2 a3) := by
  unfold State.axisStep
  extract_lets v1 v2 v3 v4 v5 v6 v7 v8 v9 v10
  have h11 : Frame 0x712000010828c a2 v4 := by
    unfold v4
    refine Frame.step ?_ (State.setAx_frame ..) rfl
    exact Frame.refl _ _
  clear_value v4
  have h12 : Frame 0x712000010828c a2 v7 := by
    unfold v7
    refine Frame.trans ?_ (State.countN_frame rfl (tb_ctlA rfl) ..)
    assumption
  clear_value v7
  have h13 : Frame 0x712000010828c a2 v9 := by
    unfold v9
    refine Frame.step ?_ (State.setAx_frame ..) rfl
    assumption
  clear_value v9
  refine Frame.ite (fun h14 => ?_) (fun h14 => ?_)
  · exact Frame.refl _ _
  · refine Frame.ite (fun h15 => ?_) (fun h15 => ?_)
    · refine Frame.step ?_ (State.computeAxis_frame ..) rfl
      assumption
    · split
      · rename_i z16 z17 z18
        refine Frame.ite (fun h19 => ?_) (fun h19 => ?_)
        · unfold v6
          refine Frame.foldl ?_ (fun u20 x21 h22 => ?_)
          · refine Frame.step ?_ (State.setAx_frame ..) rfl
            assumption
          · refine Frame.step ?_ (State.complete_frame ..) rfl
            assumption
        · extract_lets v23 v24
          have h25 : Frame 0x712000010828c a2 v23 := by
            unfold v23
            refine Frame.step ?_ (State.noOwner_frame ..) rfl
            refine Frame.step ?_ (State.takeFb_frame ..) rfl
            assumption
          clear_value v23
          have h26 : Frame 0x712000010828c a2 v24 := by
            unfold v24
            refine Frame.step ?_ (State.closeLoop_frame ..) rfl
            refine Frame.step ?_ (State.initAxis_frame ..) rfl
            assumption
          clear_value v24
          refine Frame.foldl ?_ (fun u27 x28 h29 => ?_)
          · assumption
          · refine Frame.step ?_ (State.complete_frame ..) rfl
            assumption
      · rename_i z30 z31
        refine Frame.ite (fun h32 => ?_) (fun h32 => ?_)
        · unfold v6
          refine Frame.foldl ?_ (fun u33 x34 h35 => ?_)
          · refine Frame.step ?_ (State.setAx_frame ..) rfl
            assumption
          · refine Frame.step ?_ (State.complete_frame ..) rfl
            assumption
        · refine Frame.step ?_ (State.setAx_frame ..) rfl
          assumption

theorem execControlComputation_frame (a1 : State) :
    Fr getN 0x7160000108abc a1 (execControlComputation a1) := by
  unfold execControlComputation
  refine Fr.next ?_
  refine Frame.ite (fun h1 => ?_) (fun h1 => ?_)
  · exact Frame.refl _ _
  · refine Frame.trans ?_ (State.atT_frame rfl (fun u2 => ?_) ..)
    · exact Frame.refl _ _
    · extract_lets v3 v4 v5 v6 v7 v8
      have h9 : Frame 0x7160000108abc u2 v5 := by
        unfold v5
        refine Frame.foldl ?_ (fun u10 x11 h12 => ?_)
        · exact Frame.refl _ _
        · refine Frame.step ?_ (State.axisStep_frame ..) rfl
          assumption
      clear_value v5
      have h13 : Frame 0x7160000108abc u2 v7 := by
        unfold v7
        apply Frame.upd
        · assumption
        all_goals first | exact Or.inr rfl | exact Or.inl rfl | exact Or.inl (Nat.le_refl _) | rfl
      clear_value v7
      refine Frame.ite (fun h14 => ?_) (fun h14 => ?_)
      · assumption
      · refine Frame.step ?_ (State.ssoUpdate_frame ..) rfl
        apply Frame.upd
        · assumption
        all_goals first | exact Or.inr rfl | exact Or.inl rfl | exact Or.inl (Nat.le_refl _) | rfl

theorem execComparisonDeadline_frame (a1 : State) :
    Fr getN 0x5350000109e34 a1 (execComparisonDeadline a1) := by
  unfold execComparisonDeadline
  refine Fr.next ?_
  refine Frame.ite (fun h1 => ?_) (fun h1 => ?_)
  · exact Frame.refl _ _
  · refine Frame.trans ?_ (State.atT_frame rfl (fun u2 => ?_) ..)
    · exact Frame.refl _ _
    · refine Frame.foldl ?_ (fun u3 x4 h5 => ?_)
      · exact Frame.refl _ _
      · refine Frame.step ?_ (State.guardMiss_frame ..) rfl
        assumption

theorem State.tracePatch_frame (a1 : State) (a2 : Nat) (a3 : Nat) (a4 : F32) (a5 : F32) :
    Frame 0x100000100200 a1 (State.tracePatch a1 a2 a3 a4 a5) := by
  unfold State.tracePatch
  extract_lets v1 v2 v3 v4 v5 v6
  have h7 : Frame 0x100000100200 a1 v4 := by
    unfold v4
    refine Frame.step ?_ (State.setAx_frame ..) rfl
    exact Frame.refl _ _
  clear_value v4
  refine Frame.ite (fun h8 => ?_) (fun h8 => ?_)
  · refine Frame.ite (fun h9 => ?_) (fun h9 => ?_)
    · refine Frame.step ?_ (State.trcFire_frame ..) rfl
      assumption
    · refine Frame.step ?_ (State.setAx_frame ..) rfl
      assumption
  · assumption

theorem execCheckerComparison_frame (a1 : Nat) (a2 : F32) (a3 : State) :
    Fr getN 0x5300000108e04 a3 (execCheckerComparison a1 a2 a3) := by
  unfold execCheckerComparison
  refine Fr.guard ?_
  split
  · rename_i z1 z2
    exact Frame.refl _ _
  · rename_i z3 z4 z5
    refine Frame.ite (fun h6 => ?_) (fun h6 => ?_)
    · exact Frame.refl _ _
    · extract_lets v7 v8 v9
      have h10 : Frame 0x5300000108e04 a3 v7 := by
        unfold v7
        refine Frame.step ?_ (State.tracePatch_frame ..) rfl
        exact Frame.refl _ _
      clear_value v7
      refine Frame.ite (fun h11 => ?_) (fun h11 => ?_)
      · refine Frame.step ?_ (State.disagreement_frame ..) rfl
        assumption
      · refine Frame.step ?_ (State.setAx_frame ..) rfl
        assumption

theorem execRelease_frame (a1 : Nat) (a2 : State) :
    Fr getN 0x6130000109084 a2 (execRelease a1 a2) := by
  unfold execRelease
  refine Fr.guard ?_
  refine Frame.trans ?_ (State.withCmd_frame rfl (fun u1 x2 x3 => ?_) ..)
  · exact Frame.refl _ _
  · refine Frame.step ?_ (State.releaseCmd_frame ..) rfl
    exact Frame.refl _ _

theorem execClearFault_frame (a1 : Nat) (a2 : State) :
    Fr getN 0x6030000109284 a2 (execClearFault a1 a2) := by
  unfold execClearFault
  refine Fr.guard ?_
  refine Frame.trans ?_ (State.withCmd_frame rfl (fun u1 x2 x3 => ?_) ..)
  · exact Frame.refl _ _
  · refine Frame.step ?_ (State.clearCmd_frame ..) rfl
    exact Frame.refl _ _

theorem execSafeStopReset_frame (a1 : Nat) (a2 : State) :
    Fr getN 0x6030000109284 a2 (execSafeStopReset a1 a2) := by
  unfold execSafeStopReset
  refine Fr.guard ?_
  refine Frame.trans ?_ (State.withCmd_frame rfl (fun u1 x2 x3 => ?_) ..)
  · exact Frame.refl _ _
  · refine Frame.step ?_ (State.resetCmd_frame ..) rfl
    exact Frame.refl _ _

theorem execAxisTable_frame (a1 : Nat) (a2 : Option Bytes) (a3 : State) :
    Fr getN 0x6030000109284 a3 (execAxisTable a1 a2 a3) := by
  unfold execAxisTable
  refine Fr.guard ?_
  refine Frame.trans ?_ (State.withDesc_frame rfl (fun u1 x2 => ?_) ..)
  · exact Frame.refl _ _
  · split
    · rename_i z3
      refine Frame.step ?_ (State.complete_frame ..) rfl
      exact Frame.refl _ _
    · rename_i z4 z5
      refine Frame.step ?_ (State.complete_frame ..) rfl
      refine Frame.step ?_ (State.loadTable_frame ..) rfl
      refine Frame.step ?_ (State.logDesc_frame ..) rfl
      exact Frame.refl _ _

theorem execTraceRead_frame (a1 : Nat) (a2 : State) :
    Fr getN 0x6020000108084 a2 (execTraceRead a1 a2) := by
  unfold execTraceRead
  refine Fr.guard ?_
  refine Frame.trans ?_ (State.withDesc_frame rfl (fun u1 x2 => ?_) ..)
  · exact Frame.refl _ _
  · extract_lets v3 v4 v5 v6 v7 v8 v9
    have h10 : Frame 0x6020000108084 u1 v9 := by
      unfold v9
      refine Frame.step ?_ (State.hostData_frame ..) rfl
      exact Frame.refl _ _
    clear_value v9
    refine Frame.step ?_ (State.completeR_frame ..) rfl
    assumption

end Sys2Proof.Machine
end

