-- ==== Sys2Proof/Laws/FrameMemory.lean ====
section
/-!
SUPPORT. Frame laws of Machine/Memory.lean: which components each of its operations may change.
-/

namespace Sys2Proof.Machine

open Sys2Proof

theorem State.setBerth_frame (a1 : State) (a2 : Nat) (a3 : Nat) (a4 : Berth) :
    Frame 0x4000000 a1 (State.setBerth a1 a2 a3 a4) := by
  unfold State.setBerth
  apply Frame.upd
  · exact Frame.refl _ _
  all_goals first | exact Or.inr rfl | exact Or.inl rfl | exact Or.inl (Nat.le_refl _) | rfl

theorem State.dirtyAdd_frame (a1 : State) (a2 : List Region) :
    Frame 0x8000000 a1 (State.dirtyAdd a1 a2) := by
  unfold State.dirtyAdd
  apply Frame.upd
  · exact Frame.refl _ _
  all_goals first | exact Or.inr rfl | exact Or.inl rfl | exact Or.inl (Nat.le_refl _) | rfl

theorem State.setLnk_frame (a1 : State) (a2 : Nat) (a3 : Lnk) :
    Frame 0x40000000 a1 (State.setLnk a1 a2 a3) := by
  unfold State.setLnk
  apply Frame.upd
  · exact Frame.refl _ _
  all_goals first | exact Or.inr rfl | exact Or.inl rfl | exact Or.inl (Nat.le_refl _) | rfl

theorem State.linkSet_frame (a1 : State) (a2 : Nat) (a3 : Lnk) :
    Frame 0x2000840100008 a1 (State.linkSet a1 a2 a3) := by
  unfold State.linkSet
  refine Frame.step ?_ (State.setLnk_frame ..) rfl
  refine Frame.ite (fun h1 => ?_) (fun h1 => ?_)
  · exact Frame.refl _ _
  · refine Frame.step ?_ (State.tlySync_frame ..) rfl
    exact Frame.refl _ _

theorem State.setStrm_frame (a1 : State) (a2 : Nat) (a3 : Strm) :
    Frame 0x100000000 a1 (State.setStrm a1 a2 a3) := by
  unfold State.setStrm
  apply Frame.upd
  · exact Frame.refl _ _
  all_goals first | exact Or.inr rfl | exact Or.inl rfl | exact Or.inl (Nat.le_refl _) | rfl

theorem State.ingQueue_frame (a1 : State) :
    Frame 0x2080800100008 a1 (State.ingQueue a1) := by
  unfold State.ingQueue
  extract_lets v1 v2 v3 v4
  have h5 : Frame 0x2080800100008 a1 v1 := by
    unfold v1
    refine Frame.step ?_ (State.tlySync_frame ..) rfl
    exact Frame.refl _ _
  clear_value v1
  have h6 : Frame 0x2080800100008 a1 v3 := by
    unfold v3
    refine Frame.trans ?_ (State.put_frame rfl (tb_ingW rfl) ..)
    assumption
  clear_value v3
  refine Frame.ite (fun h7 => ?_) (fun h7 => ?_)
  · refine Frame.trans ?_ (State.put_frame rfl (tb_ingW rfl) ..)
    assumption
  · refine Frame.ite (fun h8 => ?_) (fun h8 => ?_)
    · refine Frame.trans ?_ (State.event_frame rfl (tb_ingW rfl) (tb_ingW rfl) ..)
      refine Frame.trans ?_ (State.put_frame rfl (tb_ingW rfl) ..)
      assumption
    · refine Frame.ite (fun h9 => ?_) (fun h9 => ?_)
      · refine Frame.trans ?_ (State.put_frame rfl (tb_ingW rfl) ..)
        assumption
      · assumption

theorem State.setChan_frame (a1 : State) (a2 : Nat) (a3 : Nat) (a4 : Nat) (a5 : Chan) :
    Frame 0x2000000 a1 (State.setChan a1 a2 a3 a4 a5) := by
  unfold State.setChan
  apply Frame.upd
  · exact Frame.refl _ _
  all_goals first | exact Or.inr rfl | exact Or.inl rfl | exact Or.inl (Nat.le_refl _) | rfl

theorem State.finishCopy_frame (a1 : State) (a2 : Nat) (a3 : Nat) (a4 : Nat) :
    Frame 0x2200000 a1 (State.finishCopy a1 a2 a3 a4) := by
  unfold State.finishCopy
  split
  · rename_i z1 z2 z3 z4 z5 z6 z7
    refine Frame.step ?_ (State.setChan_frame ..) rfl
    refine Frame.step ?_ (State.wrBytes_frame ..) rfl
    exact Frame.refl _ _
  · rename_i z8 z9 z10
    exact Frame.refl _ _

theorem State.memLatch_frame (a1 : State) (a2 : Nat) (a3 : Nat) (a4 : Status) (a5 : Nat) (a6 : Nat) (a7 : Nat) :
    Frame 0x100000000100008 a1 (State.memLatch a1 a2 a3 a4 a5 a6 a7) := by
  unfold State.memLatch
  extract_lets v1 v2 v3
  refine Frame.step ?_ (State.bump_frame ..) rfl
  refine Frame.step ?_ (State.bump_frame ..) rfl
  refine Frame.trans ?_ (State.wr_frame rfl (tb_mcA rfl) ..)
  refine Frame.trans ?_ (State.wr_frame rfl (tb_mcA rfl) ..)
  refine Frame.trans ?_ (State.wr_frame rfl (tb_mcA rfl) ..)
  exact Frame.refl _ _

theorem State.memFault_frame (a1 : State) (a2 : Nat) (a3 : Nat) (a4 : Nat) (a5 : Nat) (a6 : Status) (a7 : Nat) (a8 : Nat) (a9 : Nat) :
    Frame 0x100000000100008 a1 (State.memFault a1 a2 a3 a4 a5 a6 a7 a8 a9) := by
  unfold State.memFault
  extract_lets v1
  have h2 : Frame 0x100000000100008 a1 v1 := by
    unfold v1
    refine Frame.trans ?_ (State.count8_frame rfl (tb_mcA rfl) ..)
    refine Frame.trans ?_ (State.raise_frame rfl (tb_mcA rfl) ..)
    exact Frame.refl _ _
  clear_value v1
  refine Frame.ite (fun h3 => ?_) (fun h3 => ?_)
  · refine Frame.step ?_ (State.memLatch_frame ..) rfl
    assumption
  · assumption

theorem State.haltChan_frame (a1 : State) (a2 : Nat) (a3 : Nat) (a4 : Nat) (a5 : Status) (a6 : Nat) :
    Frame 0x100000002100008 a1 (State.haltChan a1 a2 a3 a4 a5 a6) := by
  unfold State.haltChan
  extract_lets v1 v2
  have h3 : Frame 0x100000002100008 a1 v2 := by
    unfold v2
    refine Frame.step ?_ (State.setChan_frame ..) rfl
    exact Frame.refl _ _
  clear_value v2
  refine Frame.step ?_ (State.memFault_frame ..) rfl
  assumption

theorem State.setKvDie_frame (a1 : State) (a2 : Nat) (a3 : KvDie) :
    Frame 0x20000000 a1 (State.setKvDie a1 a2 a3) := by
  unfold State.setKvDie
  apply Frame.upd
  · exact Frame.refl _ _
  all_goals first | exact Or.inr rfl | exact Or.inl rfl | exact Or.inl (Nat.le_refl _) | rfl

theorem State.claim_frame (a1 : State) (a2 : List Region) :
    Frame 0x8200000 a1 (State.claim a1 a2) := by
  unfold State.claim
  extract_lets v1 v2 v3
  have h4 : Frame 0x8200000 a1 v2 := by
    unfold v2
    refine Frame.foldl ?_ (fun u5 x6 h7 => ?_)
    · exact Frame.refl _ _
    · refine Frame.step ?_ (State.zeroRegion_frame ..) rfl
      assumption
  clear_value v2
  apply Frame.upd
  · assumption
  all_goals first | exact Or.inr rfl | exact Or.inl rfl | exact Or.inl (Nat.le_refl _) | rfl

theorem State.setJobs_frame (a1 : State) (a2 : List Job) :
    Frame 0x10000 a1 (State.setJobs a1 a2) := by
  unfold State.setJobs
  apply Frame.upd
  · exact Frame.refl _ _
  all_goals first | exact Or.inr rfl | exact Or.inl rfl | exact Or.inl (Nat.le_refl _) | rfl

theorem State.updJob_frame (a1 : State) (a2 : Nat) (a3 : Job → Job) :
    Frame 0x10000 a1 (State.updJob a1 a2 a3) := by
  unfold State.updJob
  refine Frame.step ?_ (State.setJobs_frame ..) rfl
  exact Frame.refl _ _

theorem State.setCore_frame (a1 : State) (a2 : Nat) (a3 : Nat) (a4 : Core) :
    Frame 0x1000000 a1 (State.setCore a1 a2 a3 a4) := by
  unfold State.setCore
  apply Frame.upd
  · exact Frame.refl _ _
  all_goals first | exact Or.inr rfl | exact Or.inl rfl | exact Or.inl (Nat.le_refl _) | rfl

theorem State.eccFail_frame (a1 : State) (a2 : Nat) (a3 : Nat) (a4 : Nat) :
    Frame 0x100000000100000 a1 (State.eccFail a1 a2 a3 a4) := by
  unfold State.eccFail
  extract_lets v1 v2
  have h3 : Frame 0x100000000100000 a1 v2 := by
    unfold v2
    refine Frame.ite (fun h4 => ?_) (fun h4 => ?_)
    · refine Frame.trans ?_ (State.countN_frame rfl (tb_eccA rfl) ..)
      refine Frame.trans ?_ (State.raise_frame rfl (tb_eccA rfl) ..)
      exact Frame.refl _ _
    · refine Frame.ite (fun h5 => ?_) (fun h5 => ?_)
      · refine Frame.trans ?_ (State.countN_frame rfl (tb_eccA rfl) ..)
        refine Frame.trans ?_ (State.raise_frame rfl (tb_eccA rfl) ..)
        exact Frame.refl _ _
      · exact Frame.refl _ _
  clear_value v2
  refine Frame.ite (fun h6 => ?_) (fun h6 => ?_)
  · refine Frame.trans ?_ (State.wr_frame rfl (tb_eccA rfl) ..)
    refine Frame.trans ?_ (State.wr_frame rfl (tb_eccA rfl) ..)
    assumption
  · assumption

theorem State.eccCorr_frame (a1 : State) (a2 : Nat) (a3 : Nat) (a4 : Nat) :
    Frame 0x102000000100000 a1 (State.eccCorr a1 a2 a3 a4) := by
  unfold State.eccCorr
  refine Frame.ite (fun h1 => ?_) (fun h1 => ?_)
  · exact Frame.refl _ _
  · extract_lets v2
    have h3 : Frame 0x102000000100000 a1 v2 := by
      unfold v2
      refine Frame.step ?_ (State.tally_frame ..) rfl
      exact Frame.refl _ _
    clear_value v2
    refine Frame.ite (fun h4 => ?_) (fun h4 => ?_)
    · refine Frame.trans ?_ (State.countN_frame rfl (tb_eccA rfl) ..)
      refine Frame.trans ?_ (State.raise_frame rfl (tb_eccA rfl) ..)
      assumption
    · refine Frame.trans ?_ (State.countN_frame rfl (tb_eccA rfl) ..)
      refine Frame.trans ?_ (State.raise_frame rfl (tb_eccA rfl) ..)
      assumption

end Sys2Proof.Machine
end

