-- ==== Sys2Proof/Laws/FrameFabric.lean ====
section
/-!
SUPPORT. Frame laws of Machine/Fabric.lean: which components each of its operations may change.
-/

namespace Sys2Proof.Machine

open Sys2Proof

theorem State.creditBack_frame (a1 : State) (a2 : Option (Nat × Nat × Nat)) :
    Frame 0x4 a1 (State.creditBack a1 a2) := by
  unfold State.creditBack
  split
  · rename_i z1 z2 z3 z4
    refine Frame.step ?_ (State.emit_frame ..) rfl
    exact Frame.refl _ _
  · rename_i z5
    exact Frame.refl _ _

theorem State.linkXmit_frame (a1 : State) (a2 : Nat) (a3 : LinkPkt) :
    Frame 0x200084010000c a1 (State.linkXmit a1 a2 a3) := by
  unfold State.linkXmit
  extract_lets v1 v2 v3
  have h4 : Frame 0x200084010000c a1 v2 := by
    unfold v2
    refine Frame.step ?_ (State.linkSet_frame ..) rfl
    exact Frame.refl _ _
  clear_value v2
  have h5 : Frame 0x200084010000c a1 v3 := by
    unfold v3
    refine Frame.step ?_ (State.creditBack_frame ..) rfl
    assumption
  clear_value v3
  refine Frame.step ?_ (State.tally_frame ..) rfl
  refine Frame.step ?_ (State.emit_frame ..) rfl
  assumption

theorem State.linkDrain_frame (a1 : Nat) (a2 : Nat) (a3 : State) :
    Frame 0x200084010000c a3 (State.linkDrain a1 a2 a3) := by
  induction a2 generalizing a1 a3
  · unfold State.linkDrain
    exact Frame.refl _ _
  · rename_i k_ ih
    unfold State.linkDrain
    refine Frame.ite (fun h12 => ?_) (fun h12 => ?_)
    · split
      · rename_i z13 z14
        exact Frame.refl _ _
      · rename_i z15 z16 z17
        refine Frame.step ?_ (ih ..) rfl
        refine Frame.step ?_ (State.linkXmit_frame ..) rfl
        exact Frame.refl _ _
    · exact Frame.refl _ _

theorem State.linkQueue_frame (a1 : State) (a2 : Nat) (a3 : Nat) (a4 : Bytes) (a5 : Option (Nat × Nat × Nat)) :
    Frame 0x200084010000c a1 (State.linkQueue a1 a2 a3 a4 a5) := by
  unfold State.linkQueue
  extract_lets v1 v2
  have h3 : Frame 0x200084010000c a1 v2 := by
    unfold v2
    refine Frame.step ?_ (State.linkSet_frame ..) rfl
    exact Frame.refl _ _
  clear_value v2
  refine Frame.step ?_ (State.linkDrain_frame ..) rfl
  assumption

theorem State.setFab_frame (a1 : State) (a2 : Fab) :
    Frame 0x80000000 a1 (State.setFab a1 a2) := by
  unfold State.setFab
  apply Frame.upd
  · exact Frame.refl _ _
  all_goals first | exact Or.inr rfl | exact Or.inl rfl | exact Or.inl (Nat.le_refl _) | rfl

theorem State.sendBytes_frame (a1 : State) (a2 : Nat) (a3 : Nat) (a4 : Bytes) (a5 : Option (Nat × Nat × Nat)) :
    Fr getO 0x20008c010000c a1 (State.sendBytes a1 a2 a3 a4 a5) := by
  unfold State.sendBytes
  refine Fr.ite (fun h1 => ?_) (fun h1 => ?_)
  · refine Fr.some ?_
    refine Frame.step ?_ (State.emit_frame ..) rfl
    exact Frame.refl _ _
  · refine Fr.map (fun x2 => ?_)
    refine Frame.step ?_ (State.linkQueue_frame ..) rfl
    refine Frame.step ?_ (State.setFab_frame ..) rfl
    exact Frame.refl _ _

theorem State.sendPkt_frame (p : FabPkt) (n : Nat) (s : State) : Fr getO 0x20008c010000c s (State.sendPkt p n s) := by
  induction n generalizing p s with
  | zero => exact Fr.some (Frame.refl _ _)
  | succ n ih =>
    unfold State.sendPkt
    refine Fr.ite (fun _ => Fr.step (Frame.refl _ _) (State.sendBytes_frame ..) rfl) (fun _ => ⟨fun t ht => ?_⟩)
    obtain ⟨u, hu, hr⟩ := Option.bind_eq_some_iff.mp ht
    exact Frame.trans ((State.sendBytes_frame ..).of u hu) ((ih ..).of t hr)

theorem State.sendTo_frame (a1 : State) (a2 : FabPkt) :
    Frame 0x20008c010000c a1 (State.sendTo a1 a2) := by
  unfold State.sendTo
  refine Fr.getD ?_ ?_
  · refine Fr.step ?_ (State.sendPkt_frame ..) rfl
    exact Frame.refl _ _
  · exact Frame.refl _ _

theorem State.sendEnd_frame (a1 : State) (a2 : Nat) (a3 : Nat) (a4 : Status) :
    Frame 0x20008c010000c a1 (State.sendEnd a1 a2 a3 a4) := by
  unfold State.sendEnd
  refine Frame.step ?_ (State.sendTo_frame ..) rfl
  exact Frame.refl _ _

theorem State.count64_frame {m : Nat} (h : touches m 20 = true) {a : Nat} (hb : touches m (40 + blk a) = true)
    (hc : touches m (40 + blk (a + 4)) = true) (s : State) (n : Nat) : Frame m s (s.count64 a n) :=
  State.wr64_frame h hb hc ..

theorem State.fecCount_frame (a1 : State) (a2 : Nat) (a3 : List Nat) (a4 : Nat) :
    Frame 0x800000100000 a1 (State.fecCount a1 a2 a3 a4) := by
  unfold State.fecCount
  refine Frame.trans ?_ (State.countN_frame rfl (tb_lnkA rfl) ..)
  exact State.count64_frame rfl (tb_lnkA rfl) (tb 7 (by unfold lnkA; omega) (by unfold lnkA; omega) (by omega) rfl) ..

theorem State.crcFail_frame (a1 : State) (a2 : Nat) :
    Frame 0x40000004 a1 (State.crcFail a1 a2) := by
  unfold State.crcFail
  extract_lets v1
  refine Frame.step ?_ (State.emit_frame ..) rfl
  refine Frame.step ?_ (State.setLnk_frame ..) rfl
  exact Frame.refl _ _

theorem State.forward_frame (a1 : State) (a2 : Nat) (a3 : Nat) (a4 : Nat) (a5 : Bytes) (a6 : Nat) :
    Frame 0x20008c010000c a1 (State.forward a1 a2 a3 a4 a5 a6) := by
  unfold State.forward
  extract_lets v1
  refine Fr.getD ?_ ?_
  · refine Fr.step ?_ (State.sendBytes_frame ..) rfl
    exact Frame.refl _ _
  · refine Frame.step ?_ (State.creditBack_frame ..) rfl
    exact Frame.refl _ _

theorem State.rxPkt_frame (a1 : State) (a2 : Nat) (a3 : RxPkt) :
    Fr getP 0x28008c010000c a1 (State.rxPkt a1 a2 a3) := by
  unfold State.rxPkt
  extract_lets v1 v2 v3 v4 v5
  have h6 : Frame 0x28008c010000c a1 v2 := by
    unfold v2
    refine Frame.step ?_ (State.fecCount_frame ..) rfl
    exact Frame.refl _ _
  clear_value v2
  have h7 : Frame 0x28008c010000c a1 v3 := by
    unfold v3
    refine Frame.step ?_ (State.emit_frame ..) rfl
    refine Frame.step ?_ (State.setLnk_frame ..) rfl
    assumption
  clear_value v3
  have h8 : Frame 0x28008c010000c a1 v4 := by
    unfold v4
    refine Frame.step ?_ (State.tally_frame ..) rfl
    assumption
  clear_value v4
  refine Fr.ite (fun h9 => ?_) (fun h9 => ?_)
  · refine Fr.pair ?_
    exact Frame.refl _ _
  · refine Fr.ite (fun h10 => ?_) (fun h10 => ?_)
    · refine Fr.pair ?_
      refine Frame.step ?_ (State.crcFail_frame ..) rfl
      assumption
    · refine Fr.ite (fun h11 => ?_) (fun h11 => ?_)
      · refine Fr.pair ?_
        refine Frame.ite (fun h12 => ?_) (fun h12 => ?_)
        · refine Frame.step ?_ (State.emit_frame ..) rfl
          assumption
        · assumption
      · split
        · rename_i z13 z14 z15 z16
          refine Fr.pair ?_
          refine Frame.step ?_ (State.forward_frame ..) rfl
          assumption
        · rename_i z17 z18
          refine Fr.pair ?_
          refine Frame.step ?_ (State.creditBack_frame ..) rfl
          assumption

theorem State.received_frame {m : Nat} (hK : 0x28008c010000c &&& m = 0x28008c010000c) {s : State} {vc : Nat} {rx : List RxPkt}
    {f : State → State} (hf : ∀ u, Frame m u (f u)) : Frame m s (s.received vc rx f) := by
  unfold State.received
  extract_lets x
  have hx : Fr getP m s x := Fr.foldlPair (Fr.pair (Frame.refl _ _))
    (fun y p h => Fr.pair (h.fst.trans ((State.rxPkt_frame ..).fst.mono hK)))
  clear_value x
  exact Frame.ite (fun _ => hx.fst.trans (hf _)) (fun _ => hx.fst)

theorem State.fabShow_frame (a1 : State) :
    Frame 0x800000100000 a1 (State.fabShow a1) := by
  unfold State.fabShow
  extract_lets v1 v2 v3
  refine Frame.trans ?_ (State.put_frame rfl (tb_fabA rfl) ..)
  exact Frame.refl _ _

theorem State.setLinkState_frame (a1 : State) (a2 : Nat) (a3 : Nat) :
    Frame 0x800040100000 a1 (State.setLinkState a1 a2 a3) := by
  unfold State.setLinkState
  refine Frame.step ?_ (State.fabShow_frame ..) rfl
  refine Frame.step ?_ (State.setLnk_frame ..) rfl
  refine Frame.trans ?_ (State.put_frame rfl (tb_lnkA rfl) ..)
  exact Frame.refl _ _

theorem State.reroute_frame (a1 : State) (a2 : LinkPkt) :
    Frame 0x20008c010000c a1 (State.reroute a1 a2) := by
  unfold State.reroute
  refine Fr.getD ?_ ?_
  · refine Fr.step ?_ (State.sendBytes_frame ..) rfl
    exact Frame.refl _ _
  · refine Frame.step ?_ (State.creditBack_frame ..) rfl
    exact Frame.refl _ _

theorem State.linkFall_frame (a1 : State) (a2 : Nat) (a3 : Nat) :
    Frame 0x28008c010000c a1 (State.linkFall a1 a2 a3) := by
  unfold State.linkFall
  extract_lets v1 v2 v3 v4
  have h5 : Frame 0x28008c010000c a1 v2 := by
    unfold v2
    refine Frame.step ?_ (State.setLinkState_frame ..) rfl
    refine Frame.trans ?_ (State.put_frame rfl (tb_lnkA rfl) ..)
    exact Frame.refl _ _
  clear_value v2
  have h6 : Frame 0x28008c010000c a1 v3 := by
    unfold v3
    refine Frame.ite (fun h7 => ?_) (fun h7 => ?_)
    · refine Frame.trans ?_ (State.event_frame rfl (tb_lnkA rfl) (tb_lnkA rfl) ..)
      assumption
    · assumption
  clear_value v3
  refine Frame.foldl ?_ (fun u8 x9 h10 => ?_)
  · refine Frame.step ?_ (State.linkSet_frame ..) rfl
    assumption
  · refine Frame.step ?_ (State.reroute_frame ..) rfl
    assumption

theorem State.sendHeartbeat_frame (a1 : State) (a2 : Nat) :
    Frame 0x20008c010000c a1 (State.sendHeartbeat a1 a2) := by
  unfold State.sendHeartbeat
  refine Frame.step ?_ (State.sendTo_frame ..) rfl
  exact Frame.refl _ _

theorem State.retraining_frame (a1 : State) (a2 : Nat) :
    Frame 0x800040100000 a1 (State.retraining a1 a2) := by
  unfold State.retraining
  refine Frame.trans ?_ (State.event_frame rfl (tb_lnkA rfl) (tb_lnkA rfl) ..)
  refine Frame.step ?_ (State.setLinkState_frame ..) rfl
  exact Frame.refl _ _

theorem State.sendIdentity_frame (a1 : State) (a2 : Nat) :
    Frame 0x4 a1 (State.sendIdentity a1 a2) := by
  unfold State.sendIdentity
  refine Frame.step ?_ (State.emit_frame ..) rfl
  exact Frame.refl _ _

theorem execLinkTrainingOverrun_frame (a1 : Nat) (a2 : List Nat) (a3 : State) :
    Fr getN 0x840040100034 a3 (execLinkTrainingOverrun a1 a2 a3) := by
  unfold execLinkTrainingOverrun
  refine Fr.guard ?_
  refine Frame.ite (fun h1 => ?_) (fun h1 => ?_)
  · exact Frame.refl _ _
  · refine Frame.trans ?_ (State.atRef_frame rfl (fun u2 => ?_) ..)
    · exact Frame.refl _ _
    · refine Frame.step ?_ (State.setLinkState_frame ..) rfl
      refine Frame.ite (fun h3 => ?_) (fun h3 => ?_)
      · refine Frame.step ?_ (State.sendIdentity_frame ..) rfl
        exact Frame.refl _ _
      · exact Frame.refl _ _

theorem execLinkTrainingRetry_frame (a1 : Nat) (a2 : State) :
    Fr getN 0x840040100030 a2 (execLinkTrainingRetry a1 a2) := by
  unfold execLinkTrainingRetry
  refine Fr.guard ?_
  refine Frame.ite (fun h1 => ?_) (fun h1 => ?_)
  · refine Frame.trans ?_ (State.atRef_frame rfl (fun u2 => ?_) ..)
    · exact Frame.refl _ _
    · refine Frame.step ?_ (State.setLinkState_frame ..) rfl
      exact Frame.refl _ _
  · exact Frame.refl _ _

theorem execLinkTrained_frame (a1 : Nat) (a2 : Training) (a5 : State) :
    Fr getN 0x684084010203c a5 (execLinkTrained a1 a2 a5) := by
  unfold execLinkTrained
  refine Fr.guard ?_
  refine Frame.ite (fun h1 => ?_) (fun h1 => ?_)
  · exact Frame.refl _ _
  · refine Frame.trans ?_ (State.atRef_frame rfl (fun u2 => ?_) ..)
    · exact Frame.refl _ _
    · refine Frame.ite (fun h3 => ?_) (fun h3 => ?_)
      · refine Frame.step ?_ (State.setLinkState_frame ..) rfl
        exact Frame.refl _ _
      · extract_lets v4 v5 v6
        have h7 : Frame 0x684084010203c u2 v4 := by
          unfold v4
          refine Frame.trans ?_ (State.wr_frame rfl (tb_lnkA rfl) ..)
          refine Frame.step ?_ (State.sendIdentity_frame ..) rfl
          exact Frame.refl _ _
        clear_value v4
        have h8 : Frame 0x684084010203c u2 v6 := by
          unfold v6
          refine Frame.step ?_ (State.linkSet_frame ..) rfl
          assumption
        clear_value v6
        refine Frame.ite (fun h9 => ?_) (fun h9 => ?_)
        · refine Frame.step ?_ (State.markClear_frame ..) rfl
          refine Frame.step ?_ (State.setLinkState_frame ..) rfl
          assumption
        · refine Frame.trans ?_ (State.event_frame rfl (tb_lnkA rfl) (tb_lnkA rfl) ..)
          refine Frame.step ?_ (State.setLinkState_frame ..) rfl
          assumption

theorem execLinkCrcFailure_frame (a1 : Nat) (a2 : Nat) (a4 : List Nat) (a5 : Nat) (a3 : State) :
    Fr getN 0x800040100004 a3 (execLinkCrcFailure a1 a2 a4 a5 a3) := by
  unfold execLinkCrcFailure
  refine Fr.guard ?_
  refine Frame.ite (fun h1 => ?_) (fun h1 => ?_)
  · refine Frame.step ?_ (State.crcFail_frame ..) rfl
    refine Frame.step ?_ (State.fecCount_frame ..) rfl
    exact Frame.refl _ _
  · exact Frame.refl _ _

theorem State.replaySend_frame (a1 : State) (a2 : Nat) (a3 : List LinkPkt) :
    Frame 0x2000000100004 a1 (State.replaySend a1 a2 a3) := by
  unfold State.replaySend
  refine Frame.foldl ?_ (fun u1 x2 h3 => ?_)
  · exact Frame.refl _ _
  · refine Frame.step ?_ (State.tally_frame ..) rfl
    refine Frame.step ?_ (State.emit_frame ..) rfl
    assumption

theorem execLinkNak_frame (a1 : Nat) (a2 : Nat) (a3 : State) :
    Fr getN 0x2800040100004 a3 (execLinkNak a1 a2 a3) := by
  unfold execLinkNak
  refine Fr.guard ?_
  extract_lets v1 v2 v3 v4 v5
  have h6 : Frame 0x2800040100004 a3 v3 := by
    unfold v3
    refine Frame.step ?_ (State.setLnk_frame ..) rfl
    exact Frame.refl _ _
  clear_value v3
  have h7 : Frame 0x2800040100004 a3 v4 := by
    unfold v4
    refine Frame.trans ?_ (State.event_frame rfl (tb_lnkA rfl) (tb_lnkA rfl) ..)
    assumption
  clear_value v4
  refine Frame.ite (fun h8 => ?_) (fun h8 => ?_)
  · refine Frame.ite (fun h9 => ?_) (fun h9 => ?_)
    · refine Frame.step ?_ (State.retraining_frame ..) rfl
      refine Frame.step ?_ (State.setLnk_frame ..) rfl
      assumption
    · refine Frame.step ?_ (State.replaySend_frame ..) rfl
      assumption
  · exact Frame.refl _ _

theorem execLinkAck_frame (a1 : Nat) (a2 : Nat) (a3 : State) :
    Fr getN 0x200084010000c a3 (execLinkAck a1 a2 a3) := by
  unfold execLinkAck
  refine Fr.guard ?_
  extract_lets v1 v2 v3
  have h4 : Frame 0x200084010000c a3 v3 := by
    unfold v3
    refine Frame.step ?_ (State.setLnk_frame ..) rfl
    exact Frame.refl _ _
  clear_value v3
  refine Frame.ite (fun h5 => ?_) (fun h5 => ?_)
  · refine Frame.step ?_ (State.linkDrain_frame ..) rfl
    assumption
  · exact Frame.refl _ _

theorem execFlowCreditReturn_frame (a1 : Nat) (a2 : Nat) (a3 : Nat) (a4 : State) :
    Fr getN 0x200084010000c a4 (execFlowCreditReturn a1 a2 a3 a4) := by
  unfold execFlowCreditReturn
  refine Fr.guard ?_
  refine Frame.ite (fun h1 => ?_) (fun h1 => ?_)
  · extract_lets v2 v3
    refine Frame.step ?_ (State.linkDrain_frame ..) rfl
    refine Frame.step ?_ (State.linkSet_frame ..) rfl
    exact Frame.refl _ _
  · exact Frame.refl _ _

theorem execAckTimeout_frame (a1 : Nat) (a2 : State) :
    Fr getN 0x840040100030 a2 (execAckTimeout a1 a2) := by
  unfold execAckTimeout
  refine Fr.guard ?_
  refine Frame.ite (fun h1 => ?_) (fun h1 => ?_)
  · refine Frame.trans ?_ (State.atRef_frame rfl (fun u2 => ?_) ..)
    · exact Frame.refl _ _
    · refine Frame.step ?_ (State.retraining_frame ..) rfl
      exact Frame.refl _ _
  · exact Frame.refl _ _

theorem execRetrain_frame (a1 : Nat) (a2 : State) :
    Fr getN 0x800040100000 a2 (execRetrain a1 a2) := by
  unfold execRetrain
  refine Fr.guard ?_
  refine Frame.ite (fun h1 => ?_) (fun h1 => ?_)
  · refine Frame.step ?_ (State.retraining_frame ..) rfl
    refine Frame.trans ?_ (State.raise_frame rfl (tb_lnkA rfl) ..)
    exact Frame.refl _ _
  · exact Frame.refl _ _

theorem execRetrainingDone_frame (a1 : Retrained) (a3 : State) :
    Fr getN 0x280084010000c a3 (execRetrainingDone a1 a3) := by
  unfold execRetrainingDone
  refine Fr.guard ?_
  refine Frame.ite (fun h1 => ?_) (fun h1 => ?_)
  · extract_lets v2 v3 v4 v5 v6 v7
    have h8 : Frame 0x280084010000c a3 v2 := by
      unfold v2
      refine Frame.step ?_ (State.sendIdentity_frame ..) rfl
      exact Frame.refl _ _
    clear_value v2
    have h9 : Frame 0x280084010000c a3 v3 := by
      unfold v3
      refine Frame.step ?_ (State.setLinkState_frame ..) rfl
      refine Frame.trans ?_ (State.put_frame rfl (tb_lnkA rfl) ..)
      assumption
    clear_value v3
    have h10 : Frame 0x280084010000c a3 v5 := by
      unfold v5
      refine Frame.step ?_ (State.setLnk_frame ..) rfl
      assumption
    clear_value v5
    have h11 : Frame 0x280084010000c a3 v7 := by
      unfold v7
      refine Frame.ite (fun h12 => ?_) (fun h12 => ?_)
      · assumption
      · refine Frame.trans ?_ (State.raise_frame rfl (tb_lnkA rfl) ..)
        assumption
    clear_value v7
    refine Frame.ite (fun h13 => ?_) (fun h13 => ?_)
    · assumption
    · refine Frame.step ?_ (State.linkDrain_frame ..) rfl
      refine Frame.step ?_ (State.replaySend_frame ..) rfl
      assumption
  · exact Frame.refl _ _

end Sys2Proof.Machine
end

