-- ==== Sys2Proof/Laws/FrameBerths.lean ====
section
/-!
SUPPORT. Frame laws of Machine/Berths.lean: which components each of its operations may change.
-/

namespace Sys2Proof.Machine

open Sys2Proof

theorem State.berthGranted_frame (a1 : State) (a2 : Nat) (a3 : Nat) :
    Frame 0x100000000100000 a1 (State.berthGranted a1 a2 a3) := by
  unfold State.berthGranted
  refine Frame.trans ?_ (State.put_frame rfl (tb_berthA rfl) ..)
  exact Frame.refl _ _

theorem State.berthShut_frame (a1 : State) (a2 : Nat) (a3 : Nat) :
    Frame 0x10000000c100000 a1 (State.berthShut a1 a2 a3) := by
  unfold State.berthShut
  extract_lets v1 v2 v3
  have h4 : Frame 0x10000000c100000 a1 v3 := by
    unfold v3
    refine Frame.step ?_ (State.berthGranted_frame ..) rfl
    refine Frame.step ?_ (State.setBerth_frame ..) rfl
    refine Frame.trans ?_ (State.put_frame rfl (tb_berthA rfl) ..)
    exact Frame.refl _ _
  clear_value v3
  refine Frame.step ?_ (State.dirtyAdd_frame ..) rfl
  assumption

theorem execBerthCloseExpiry_frame (a1 : Nat) (a2 : Nat) (a3 : State) :
    Fr getN 0x10004000c100030 a3 (execBerthCloseExpiry a1 a2 a3) := by
  unfold execBerthCloseExpiry
  refine Fr.guard ?_
  refine Frame.ite (fun h1 => ?_) (fun h1 => ?_)
  · refine Frame.trans ?_ (State.atRef_frame rfl (fun u2 => ?_) ..)
    · exact Frame.refl _ _
    · refine Frame.step ?_ (State.berthShut_frame ..) rfl
      exact Frame.refl _ _
  · exact Frame.refl _ _

theorem State.closeAllBerths_frame (a1 : State) :
    Frame 0x10000000c100000 a1 (State.closeAllBerths a1) := by
  unfold State.closeAllBerths
  refine Frame.foldl ?_ (fun u1 x2 h3 => ?_)
  · exact Frame.refl _ _
  · refine Frame.ite (fun h4 => ?_) (fun h4 => ?_)
    · assumption
    · refine Frame.step ?_ (State.berthShut_frame ..) rfl
      assumption

theorem State.refuseCredit_frame (a1 : State) (a2 : Nat) (a3 : Nat) (a4 : Nat) (a5 : Credit) (a6 : Status) :
    Frame 0x1020008c010000c a1 (State.refuseCredit a1 a2 a3 a4 a5 a6) := by
  unfold State.refuseCredit
  extract_lets v1
  have h2 : Frame 0x1020008c010000c a1 v1 := by
    unfold v1
    refine Frame.ite (fun h3 => ?_) (fun h3 => ?_)
    · refine Frame.trans ?_ (State.event_frame rfl (tb_bthA rfl) (tb_bthA rfl) ..)
      exact Frame.refl _ _
    · refine Frame.ite (fun h4 => ?_) (fun h4 => ?_)
      · refine Frame.trans ?_ (State.event_frame rfl (tb_bthA rfl) (tb_bthA rfl) ..)
        exact Frame.refl _ _
      · refine Frame.ite (fun h5 => ?_) (fun h5 => ?_)
        · refine Frame.trans ?_ (State.event_frame rfl (tb_bthA rfl) (tb_bthA rfl) ..)
          exact Frame.refl _ _
        · exact Frame.refl _ _
  clear_value v1
  refine Frame.step ?_ (State.sendTo_frame ..) rfl
  assumption

theorem State.berthDrained_frame (a1 : State) (a2 : Nat) (a3 : Nat) :
    Frame 0x10000000c100000 a1 (State.berthDrained a1 a2 a3) := by
  unfold State.berthDrained
  refine Frame.ite (fun h1 => ?_) (fun h1 => ?_)
  · refine Frame.step ?_ (State.berthShut_frame ..) rfl
    exact Frame.refl _ _
  · exact Frame.refl _ _

theorem State.berthClose_frame (a1 : State) (a2 : Nat) (a3 : Nat) :
    Frame 0x1020008cc10000c a1 (State.berthClose a1 a2 a3) := by
  unfold State.berthClose
  refine Frame.ite (fun h1 => ?_) (fun h1 => ?_)
  · extract_lets v2 v3 v4 v5
    have h6 : Frame 0x1020008cc10000c a1 v4 := by
      unfold v4
      refine Frame.step ?_ (State.setBerth_frame ..) rfl
      refine Frame.trans ?_ (State.put_frame rfl (tb_berthA rfl) ..)
      exact Frame.refl _ _
    clear_value v4
    have h7 : Frame 0x1020008cc10000c a1 v5 := by
      unfold v5
      refine Frame.foldl ?_ (fun u8 x9 h10 => ?_)
      · assumption
      · refine Frame.step ?_ (State.refuseCredit_frame ..) rfl
        assumption
    clear_value v5
    refine Frame.step ?_ (State.berthDrained_frame ..) rfl
    assumption
  · exact Frame.refl _ _

theorem State.closeBerths_frame (a1 : State) (a2 : Nat) (a3 : Bool) :
    Frame 0x1020008cc10000c a1 (State.closeBerths a1 a2 a3) := by
  unfold State.closeBerths
  refine Frame.foldl ?_ (fun u1 x2 h3 => ?_)
  · exact Frame.refl _ _
  · extract_lets v4 v5
    refine Frame.ite (fun h6 => ?_) (fun h6 => ?_)
    · assumption
    · refine Frame.ite (fun h7 => ?_) (fun h7 => ?_)
      · refine Frame.step ?_ (State.berthShut_frame ..) rfl
        assumption
      · refine Frame.step ?_ (State.berthClose_frame ..) rfl
        assumption

theorem State.openBerth_frame (a1 : State) (a2 : Nat) (a3 : Nat) (a4 : Nat) (a5 : Nat) (a6 : Nat) :
    Frame 0x10000000c300008 a1 (State.openBerth a1 a2 a3 a4 a5 a6) := by
  unfold State.openBerth
  extract_lets v1 v2 v3
  split
  · rename_i z4 z5 z6 z7 z8 z9 z10
    extract_lets v11 v12 v13 v14 v15 v16 v17 v18
    have h19 : Frame 0x10000000c300008 a1 v12 := by
      unfold v12
      refine Frame.step ?_ (State.claim_frame ..) rfl
      refine Frame.step ?_ (State.bump_frame ..) rfl
      refine Frame.step ?_ (State.bump_frame ..) rfl
      exact Frame.refl _ _
    clear_value v12
    have h20 : Frame 0x10000000c300008 a1 v14 := by
      unfold v14
      refine Frame.trans ?_ (State.wr_frame rfl (tb_berthA rfl) ..)
      assumption
    clear_value v14
    have h21 : Frame 0x10000000c300008 a1 v15 := by
      unfold v15
      refine Frame.trans ?_ (State.wr_frame rfl (tb_berthA rfl) ..)
      assumption
    clear_value v15
    have h22 : Frame 0x10000000c300008 a1 v16 := by
      unfold v16
      refine Frame.trans ?_ (State.wr_frame rfl (tb_berthA rfl) ..)
      assumption
    clear_value v16
    have h23 : Frame 0x10000000c300008 a1 v17 := by
      unfold v17
      refine Frame.trans ?_ (State.wr_frame rfl (tb_berthA rfl) ..)
      assumption
    clear_value v17
    have h24 : Frame 0x10000000c300008 a1 v18 := by
      unfold v18
      refine Frame.trans ?_ (State.wr_frame rfl (tb_berthA rfl) ..)
      assumption
    clear_value v18
    refine Frame.step ?_ (State.setBerth_frame ..) rfl
    refine Frame.trans ?_ (State.wr_frame rfl (tb_berthA rfl) ..)
    assumption
  · rename_i z25 z26 z27
    exact Frame.refl _ _

theorem State.berthDue_frame (a1 : State) (a2 : Nat) (a3 : Nat) :
    Frame 0x10000000c100000 a1 (State.berthDue a1 a2 a3) := by
  unfold State.berthDue
  refine Frame.ite (fun h1 => ?_) (fun h1 => ?_)
  · refine Frame.step ?_ (State.berthShut_frame ..) rfl
    exact Frame.refl _ _
  · exact Frame.refl _ _

theorem execCreditReq_frame (a1 : Via Nat) (a3 : Nat) (a4 : Nat) (a5 : Nat) (a6 : Nat) (a7 : Nat) (a8 : Nat) (a9 : Nat) (a10 : State) :
    Fr getN 0x1028008cc10000c a10 (execCreditReq a1 a3 a4 a5 a6 a7 a8 a9 a10) := by
  unfold execCreditReq
  refine Fr.guard ?_
  refine Frame.trans ?_ (State.received_frame rfl (fun u1 => ?_) ..)
  · exact Frame.refl _ _
  · extract_lets v2 v3 v4 v5
    have h6 : Frame 0x1028008cc10000c u1 v3 := by
      unfold v3
      refine Frame.step ?_ (State.berthDue_frame ..) rfl
      exact Frame.refl _ _
    clear_value v3
    refine Frame.ite (fun h7 => ?_) (fun h7 => ?_)
    · refine Frame.step ?_ (State.refuseCredit_frame ..) rfl
      exact Frame.refl _ _
    · refine Frame.ite (fun h8 => ?_) (fun h8 => ?_)
      · refine Frame.step ?_ (State.refuseCredit_frame ..) rfl
        assumption
      · refine Frame.ite (fun h9 => ?_) (fun h9 => ?_)
        · refine Frame.step ?_ (State.refuseCredit_frame ..) rfl
          assumption
        · refine Frame.ite (fun h10 => ?_) (fun h10 => ?_)
          · refine Frame.step ?_ (State.refuseCredit_frame ..) rfl
            assumption
          · refine Frame.step ?_ (State.setBerth_frame ..) rfl
            assumption

theorem State.grantHead_frame (a1 : State) (a2 : Nat) (a3 : Nat) :
    Frame 0x1020008c410000c a1 (State.grantHead a1 a2 a3) := by
  unfold State.grantHead
  extract_lets v1 v2
  split
  · rename_i z3 z4
    exact Frame.refl _ _
  · rename_i z5 z6 z7 z8
    refine Frame.ite (fun h9 => ?_) (fun h9 => ?_)
    · extract_lets v10
      have h11 : Frame 0x1020008c410000c a1 v10 := by
        unfold v10
        refine Frame.step ?_ (State.berthGranted_frame ..) rfl
        refine Frame.step ?_ (State.setBerth_frame ..) rfl
        exact Frame.refl _ _
      clear_value v10
      refine Frame.step ?_ (State.sendTo_frame ..) rfl
      assumption
    · exact Frame.refl _ _

theorem execCreditRelease_frame (a1 : Via Nat) (a3 : Nat) (a4 : Nat) (a5 : Nat) (a6 : Nat) (a7 : State) :
    Fr getN 0x1028008cc10000c a7 (execCreditRelease a1 a3 a4 a5 a6 a7) := by
  unfold execCreditRelease
  refine Fr.guard ?_
  refine Frame.trans ?_ (State.received_frame rfl (fun u1 => ?_) ..)
  · exact Frame.refl _ _
  · extract_lets v2 v3
    refine Frame.step ?_ (State.berthDrained_frame ..) rfl
    refine Frame.step ?_ (State.berthGranted_frame ..) rfl
    refine Frame.step ?_ (State.setBerth_frame ..) rfl
    exact Frame.refl _ _

theorem State.dropWrite_frame (a1 : State) (a2 : Nat) (a3 : Nat) (a4 : Nat) (a5 : Nat) (a6 : Nat) (a7 : Nat) (a8 : Nat) (a9 : Status) :
    Frame 0x1020008c010000c a1 (State.dropWrite a1 a2 a3 a4 a5 a6 a7 a8 a9) := by
  unfold State.dropWrite
  extract_lets v1
  have h2 : Frame 0x1020008c010000c a1 v1 := by
    unfold v1
    refine Frame.ite (fun h3 => ?_) (fun h3 => ?_)
    · refine Frame.trans ?_ (State.count_frame rfl (tb_berthA rfl) ..)
      refine Frame.trans ?_ (State.event_frame rfl (tb_bthA rfl) (tb_bthA rfl) ..)
      exact Frame.refl _ _
    · refine Frame.ite (fun h4 => ?_) (fun h4 => ?_)
      · refine Frame.trans ?_ (State.event_frame rfl (tb_bthA rfl) (tb_bthA rfl) ..)
        exact Frame.refl _ _
      · refine Frame.ite (fun h5 => ?_) (fun h5 => ?_)
        · refine Frame.trans ?_ (State.event_frame rfl (tb_bthA rfl) (tb_bthA rfl) ..)
          exact Frame.refl _ _
        · exact Frame.refl _ _
  clear_value v1
  refine Frame.step ?_ (State.sendTo_frame ..) rfl
  assumption

theorem execWrite_frame (a1 : Via Nat) (a3 : Nat) (a4 : Nat) (a5 : Nat) (a6 : Nat) (a7 : Nat) (a8 : Nat) (a9 : Bytes) (a10 : State) :
    Fr getN 0x1028008cc30000c a10 (execWrite a1 a3 a4 a5 a6 a7 a8 a9 a10) := by
  unfold execWrite
  refine Fr.guard ?_
  refine Frame.trans ?_ (State.received_frame rfl (fun u1 => ?_) ..)
  · exact Frame.refl _ _
  · refine Frame.ite (fun h2 => ?_) (fun h2 => ?_)
    · refine Frame.step ?_ (State.dropWrite_frame ..) rfl
      exact Frame.refl _ _
    · extract_lets v3 v4 v5 v6
      have h7 : Frame 0x1028008cc30000c u1 v3 := by
        unfold v3
        refine Frame.step ?_ (State.berthDue_frame ..) rfl
        exact Frame.refl _ _
      clear_value v3
      have h8 : Frame 0x1028008cc30000c u1 v6 := by
        unfold v6
        refine Frame.step ?_ (State.tally_frame ..) rfl
        refine Frame.step ?_ (State.wrBytes_frame ..) rfl
        assumption
      clear_value v6
      refine Frame.ite (fun h9 => ?_) (fun h9 => ?_)
      · refine Frame.step ?_ (State.dropWrite_frame ..) rfl
        assumption
      · refine Frame.ite (fun h10 => ?_) (fun h10 => ?_)
        · refine Frame.step ?_ (State.dropWrite_frame ..) rfl
          assumption
        · refine Frame.ite (fun h11 => ?_) (fun h11 => ?_)
          · refine Frame.step ?_ (State.dropWrite_frame ..) rfl
            assumption
          · refine Frame.step ?_ (State.sendTo_frame ..) rfl
            assumption

end Sys2Proof.Machine
end

