-- ==== Sys2Proof/Laws/FrameTransactions.lean ====
section
/-!
SUPPORT. Frame laws of Machine/Transactions.lean: which components each of its operations may change.
-/

namespace Sys2Proof.Machine

open Sys2Proof

theorem State.cfgClose_frame (a1 : State) :
    Frame 0x50000100100 a1 (State.cfgClose a1) := by
  unfold State.cfgClose
  extract_lets v1 v2
  have h3 : Frame 0x50000100100 a1 v2 := by
    unfold v2
    apply Frame.upd
    · exact Frame.refl _ _
    all_goals first | exact Or.inr rfl | exact Or.inl rfl | exact Or.inl (Nat.le_refl _) | rfl
  clear_value v2
  refine Frame.trans ?_ (State.put_frame rfl (tb_timA rfl) ..)
  refine Frame.trans ?_ (State.put_frame rfl rfl ..)
  refine Frame.trans ?_ (State.put_frame rfl rfl ..)
  assumption

theorem State.cfgRing_frame (a1 : State) (a2 : Nat) :
    Frame 0x50000100100 a1 (State.cfgRing a1 a2) := by
  unfold State.cfgRing
  refine Frame.ite (fun h1 => ?_) (fun h1 => ?_)
  · refine Frame.step ?_ (State.cfgClose_frame ..) rfl
    exact Frame.refl _ _
  · exact Frame.refl _ _

theorem State.stagedView_frame (a1 : State) :
    Frame 0x3ffff0000100000 a1 (State.stagedView a1) := by
  unfold State.stagedView
  refine Frame.foldl ?_ (fun u1 x2 h3 => ?_)
  · exact Frame.refl _ _
  · split
    · rename_i z4 z5
      assumption
    · rename_i z6 z7 z8
      extract_lets v9
      refine Frame.trans ?_ (State.wr_frame rfl (tbAll _ rfl) ..)
      assumption

theorem State.stageWrite_frame (a1 : State) (a2 : Nat) (a3 : Word) :
    Frame 0x10000100100 a1 (State.stageWrite a1 a2 a3) := by
  unfold State.stageWrite
  refine Frame.ite (fun h1 => ?_) (fun h1 => ?_)
  · refine Frame.ite (fun h2 => ?_) (fun h2 => ?_)
    · refine Frame.trans ?_ (State.put_frame rfl rfl ..)
      exact Frame.refl _ _
    · apply Frame.upd
      · exact Frame.refl _ _
      all_goals first | exact Or.inr rfl | exact Or.inl rfl | exact Or.inl (Nat.le_refl _) | rfl
  · refine Frame.trans ?_ (State.event_frame rfl rfl rfl ..)
    exact Frame.refl _ _

theorem execCfgBegin_frame (a1 : Nat) (a2 : State) :
    Fr getN 0x6030000108184 a2 (execCfgBegin a1 a2) := by
  unfold execCfgBegin
  refine Fr.guard ?_
  refine Frame.trans ?_ (State.withDesc_frame rfl (fun u1 x2 => ?_) ..)
  · exact Frame.refl _ _
  · refine Frame.ite (fun h3 => ?_) (fun h3 => ?_)
    · refine Frame.step ?_ (State.complete_frame ..) rfl
      exact Frame.refl _ _
    · extract_lets v4 v5
      have h6 : Frame 0x6030000108184 u1 v4 := by
        unfold v4
        refine Frame.trans ?_ (State.count_frame rfl rfl ..)
        refine Frame.trans ?_ (State.put_frame rfl rfl ..)
        refine Frame.trans ?_ (State.put_frame rfl rfl ..)
        exact Frame.refl _ _
      clear_value v4
      have h7 : Frame 0x6030000108184 u1 v5 := by
        unfold v5
        apply Frame.upd
        · assumption
        all_goals first | exact Or.inr rfl | exact Or.inl rfl | exact Or.inl (Nat.le_refl _) | rfl
      clear_value v5
      refine Frame.step ?_ (State.complete_frame ..) rfl
      assumption

theorem State.cfgMiss_frame (a1 : State) (a2 : Nat) (a3 : Nat) :
    Frame 0x6020000108184 a1 (State.cfgMiss a1 a2 a3) := by
  unfold State.cfgMiss
  refine Frame.ite (fun h1 => ?_) (fun h1 => ?_)
  · refine Frame.step ?_ (State.complete_frame ..) rfl
    exact Frame.refl _ _
  · refine Frame.ite (fun h2 => ?_) (fun h2 => ?_)
    · refine Frame.step ?_ (State.complete_frame ..) rfl
      apply Frame.upd
      · exact Frame.refl _ _
      all_goals first | exact Or.inr rfl | exact Or.inl rfl | exact Or.inl (Nat.le_refl _) | rfl
    · refine Frame.step ?_ (State.complete_frame ..) rfl
      exact Frame.refl _ _

theorem execCfgRollback_frame (a1 : Nat) (a2 : State) :
    Fr getN 0x6070000108184 a2 (execCfgRollback a1 a2) := by
  unfold execCfgRollback
  refine Fr.guard ?_
  refine Frame.trans ?_ (State.withDesc_frame rfl (fun u1 x2 => ?_) ..)
  · exact Frame.refl _ _
  · refine Frame.ite (fun h3 => ?_) (fun h3 => ?_)
    · refine Frame.step ?_ (State.complete_frame ..) rfl
      refine Frame.step ?_ (State.cfgClose_frame ..) rfl
      exact Frame.refl _ _
    · refine Frame.step ?_ (State.cfgMiss_frame ..) rfl
      exact Frame.refl _ _

theorem execCfgTimeout_frame (a1 : State) :
    Fr getN 0x4050000108130 a1 (execCfgTimeout a1) := by
  unfold execCfgTimeout
  refine Fr.next ?_
  refine Frame.ite (fun h1 => ?_) (fun h1 => ?_)
  · refine Frame.trans ?_ (State.atRef_frame rfl (fun u2 => ?_) ..)
    · exact Frame.refl _ _
    · extract_lets v3 v4 v5 v6 v7
      have h8 : Frame 0x4050000108130 u2 v5 := by
        unfold v5
        refine Frame.trans ?_ (State.event_frame rfl rfl rfl ..)
        refine Frame.step ?_ (State.cfgClose_frame ..) rfl
        exact Frame.refl _ _
      clear_value v5
      have h9 : Frame 0x4050000108130 u2 v7 := by
        unfold v7
        apply Frame.upd
        · assumption
        all_goals first | exact Or.inr rfl | exact Or.inl rfl | exact Or.inl (Nat.le_refl _) | rfl
      clear_value v7
      refine Frame.step ?_ (State.hmLog_frame ..) rfl
      assumption
  · exact Frame.refl _ _

end Sys2Proof.Machine
end

