-- ==== Sys2Proof/Laws/FrameRings.lean ====
section
/-!
SUPPORT. Frame laws of Machine/Rings.lean: which components each of its operations may change.
-/

namespace Sys2Proof.Machine

open Sys2Proof

theorem State.rxDone_frame (a1 : State) (a2 : Nat) (a3 : RxBuf) :
    Frame 0x6020000108084 a1 (State.rxDone a1 a2 a3) := by
  unfold State.rxDone
  refine Frame.step ?_ (State.completeR_frame ..) rfl
  refine Frame.step ?_ (State.setRing_frame ..) rfl
  exact Frame.refl _ _

theorem State.ringCfgWrite_frame (a1 : State) (a2 : Nat) (a3 : Word) :
    Frame 0x407000010a180 a1 (State.ringCfgWrite a1 a2 a3) := by
  unfold State.ringCfgWrite
  extract_lets v1 v2 v3 v4 v5 v6 v7
  have h8 : Frame 0x407000010a180 a1 v3 := by
    unfold v3
    refine Frame.ite (fun h9 => ?_) (fun h9 => ?_)
    · refine Frame.trans ?_ (State.put_frame rfl (tb_ringA rfl) ..)
      exact Frame.refl _ _
    · exact Frame.refl _ _
  clear_value v3
  have h10 : Frame 0x407000010a180 a1 v4 := by
    unfold v4
    refine Frame.ite (fun h11 => ?_) (fun h11 => ?_)
    · assumption
    · refine Frame.trans ?_ (State.put_frame rfl (tb_ringA rfl) ..)
      assumption
  clear_value v4
  have h12 : Frame 0x407000010a180 a1 v5 := by
    unfold v5
    refine Frame.trans ?_ (State.wr_frame rfl (tb_ringA rfl) ..)
    refine Frame.trans ?_ (State.put_frame rfl (tb_ringA rfl) ..)
    assumption
  clear_value v5
  have h13 : Frame 0x407000010a180 a1 v7 := by
    unfold v7
    refine Frame.trans ?_ (State.wr_frame rfl (tb_ringA rfl) ..)
    refine Frame.trans ?_ (State.put_frame rfl (tb_ringA rfl) ..)
    assumption
  clear_value v7
  refine Frame.ite (fun h14 => ?_) (fun h14 => ?_)
  · assumption
  · refine Frame.ite (fun h15 => ?_) (fun h15 => ?_)
    · refine Frame.ite (fun h16 => ?_) (fun h16 => ?_)
      · assumption
      · refine Frame.step ?_ (State.setRing_frame ..) rfl
        refine Frame.trans ?_ (State.wr_frame rfl (tb_ringA rfl) ..)
        assumption
    · refine Frame.ite (fun h17 => ?_) (fun h17 => ?_)
      · assumption
      · refine Frame.step ?_ (State.updateRing_frame ..) rfl
        refine Frame.step ?_ (State.makerRing_frame ..) rfl
        refine Frame.step ?_ (State.cfgRing_frame ..) rfl
        assumption

theorem execRingDisable_frame (a1 : Nat) (a2 : Word) (a3 : State) :
    Fr getN 0x407000010a180 a3 (execRingDisable a1 a2 a3) := by
  unfold execRingDisable
  refine Fr.guard ?_
  refine Frame.ite (fun h1 => ?_) (fun h1 => ?_)
  · refine Frame.step ?_ (State.ringCfgWrite_frame ..) rfl
    exact Frame.refl _ _
  · exact Frame.refl _ _

theorem State.dbIgnored_frame (a1 : State) :
    Frame 0x20000100000 a1 (State.dbIgnored a1) := by
  unfold State.dbIgnored
  refine Frame.trans ?_ (State.event_frame rfl (tb_hifA rfl) (tb_hifA rfl) ..)
  exact Frame.refl _ _

theorem State.haltAll_frame (a1 : State) (a2 : Nat) (a3 : Status) :
    Frame 0x4070000108100 a1 (State.haltAll a1 a2 a3) := by
  unfold State.haltAll
  refine Frame.step ?_ (State.makerRing_frame ..) rfl
  refine Frame.step ?_ (State.cfgRing_frame ..) rfl
  refine Frame.step ?_ (State.haltRing_frame ..) rfl
  exact Frame.refl _ _

theorem execSqTail_frame (a1 : Nat) (a2 : Nat) (a3 : State) :
    Fr getN 0x4070000108180 a3 (execSqTail a1 a2 a3) := by
  unfold execSqTail
  refine Fr.guard ?_
  refine Frame.ite (fun h1 => ?_) (fun h1 => ?_)
  · refine Frame.step ?_ (State.dbIgnored_frame ..) rfl
    exact Frame.refl _ _
  · extract_lets v2 v3 v4 v5 v6
    refine Frame.ite (fun h7 => ?_) (fun h7 => ?_)
    · refine Frame.step ?_ (State.haltAll_frame ..) rfl
      exact Frame.refl _ _
    · refine Frame.step ?_ (State.setRing_frame ..) rfl
      exact Frame.refl _ _

theorem execRingRole_frame (a1 : Nat) (a2 : State) :
    Fr getN 0x6020000108084 a2 (execRingRole a1 a2) := by
  unfold execRingRole
  refine Fr.guard ?_
  refine Frame.trans ?_ (State.withDesc_frame rfl (fun u1 x2 => ?_) ..)
  · exact Frame.refl _ _
  · extract_lets v3
    refine Frame.ite (fun h4 => ?_) (fun h4 => ?_)
    · refine Frame.step ?_ (State.complete_frame ..) rfl
      exact Frame.refl _ _
    · refine Frame.ite (fun h5 => ?_) (fun h5 => ?_)
      · refine Frame.step ?_ (State.complete_frame ..) rfl
        exact Frame.refl _ _
      · refine Frame.step ?_ (State.complete_frame ..) rfl
        refine Frame.trans ?_ (State.put_frame rfl (tb_ringA rfl) ..)
        refine Frame.trans ?_ (State.put_frame rfl (tb_ringA rfl) ..)
        exact Frame.refl _ _

theorem State.fetched_frame (a1 : State) (a2 : Nat) (a3 : Nat) (a4 : Nat) :
    Frame 0x10000108100 a1 (State.fetched a1 a2 a3 a4) := by
  unfold State.fetched
  refine Frame.ite (fun h1 => ?_) (fun h1 => ?_)
  · extract_lets v2 v3
    have h4 : Frame 0x10000108100 a1 v3 := by
      unfold v3
      apply Frame.upd
      · exact Frame.refl _ _
      all_goals first | exact Or.inr rfl | exact Or.inl rfl | exact Or.inl (Nat.le_refl _) | rfl
    clear_value v3
    refine Frame.trans ?_ (State.put_frame rfl rfl ..)
    assumption
  · refine Frame.ite (fun h5 => ?_) (fun h5 => ?_)
    · apply Frame.upd
      · exact Frame.refl _ _
      all_goals first | exact Or.inr rfl | exact Or.inl rfl | exact Or.inl (Nat.le_refl _) | rfl
    · exact Frame.refl _ _

theorem execCqHead_frame (a1 : Nat) (a2 : Nat) (a3 : State) :
    Fr getN 0x4070000108180 a3 (execCqHead a1 a2 a3) := by
  unfold execCqHead
  refine Fr.guard ?_
  refine Frame.ite (fun h1 => ?_) (fun h1 => ?_)
  · refine Frame.step ?_ (State.dbIgnored_frame ..) rfl
    exact Frame.refl _ _
  · extract_lets v2 v3 v4
    refine Frame.ite (fun h5 => ?_) (fun h5 => ?_)
    · refine Frame.step ?_ (State.haltAll_frame ..) rfl
      exact Frame.refl _ _
    · refine Frame.step ?_ (State.setRing_frame ..) rfl
      exact Frame.refl _ _

theorem execRingEnable_frame (a1 : Nat) (a2 : Word) (a3 : State) :
    Fr getN 0x407000010a180 a3 (execRingEnable a1 a2 a3) := by
  unfold execRingEnable
  refine Fr.guard ?_
  refine Frame.ite (fun h1 => ?_) (fun h1 => ?_)
  · refine Frame.step ?_ (State.ringCfgWrite_frame ..) rfl
    exact Frame.refl _ _
  · exact Frame.refl _ _

theorem execDescriptorFetch_frame (a1 : Nat) (a2 : Option Bytes) (a3 : State) :
    Fr getN 0x6070000108184 a3 (execDescriptorFetch a1 a2 a3) := by
  unfold execDescriptorFetch
  refine Fr.guard ?_
  extract_lets v1 v2 v3
  have h4 : Frame 0x6070000108184 a3 v2 := by
    unfold v2
    refine Frame.step ?_ (State.tally_frame ..) rfl
    refine Frame.trans ?_ (State.wr_frame rfl (tb_ringA rfl) ..)
    exact Frame.refl _ _
  clear_value v2
  refine Frame.ite (fun h5 => ?_) (fun h5 => ?_)
  · exact Frame.refl _ _
  · split
    · rename_i z6
      refine Frame.step ?_ (State.haltAll_frame ..) rfl
      exact Frame.refl _ _
    · rename_i z7 z8
      extract_lets v9 v10 v11 v12
      have h13 : Frame 0x6070000108184 a3 v11 := by
        unfold v11
        refine Frame.step ?_ (State.setRing_frame ..) rfl
        assumption
      clear_value v11
      refine Frame.ite (fun h14 => ?_) (fun h14 => ?_)
      · exact Frame.refl _ _
      · refine Frame.ite (fun h15 => ?_) (fun h15 => ?_)
        · refine Frame.step ?_ (State.fetched_frame ..) rfl
          assumption
        · refine Frame.step ?_ (State.complete_frame ..) rfl
          assumption

theorem execMsixSignal_frame (a1 : Nat) (a2 : State) :
    Fr getN 0x20000100084 a2 (execMsixSignal a1 a2) := by
  unfold execMsixSignal
  refine Fr.guard ?_
  extract_lets v1 v2 v3
  have h4 : Frame 0x20000100084 a2 v3 := by
    unfold v3
    apply Frame.upd
    · exact Frame.refl _ _
    all_goals first | exact Or.inr rfl | exact Or.inl rfl | exact Or.inl (Nat.le_refl _) | rfl
  clear_value v3
  refine Frame.ite (fun h5 => ?_) (fun h5 => ?_)
  · exact Frame.refl _ _
  · refine Frame.step ?_ (State.emitHost_frame ..) rfl
    assumption

theorem execPcieLinkDown_frame (a1 : State) :
    Fr getN 0x20000100000 a1 (execPcieLinkDown a1) := by
  unfold execPcieLinkDown
  refine Fr.next ?_
  refine Frame.trans ?_ (State.put_frame rfl (tb_hifA rfl) ..)
  exact Frame.refl _ _

theorem execPcieLinkUp_frame (a1 : Nat) (a2 : Nat) (a3 : State) :
    Fr getN 0x20000100000 a3 (execPcieLinkUp a1 a2 a3) := by
  unfold execPcieLinkUp
  refine Fr.next ?_
  refine Frame.ite (fun h1 => ?_) (fun h1 => ?_)
  · exact Frame.refl _ _
  · refine Frame.trans ?_ (State.put_frame rfl (tb_hifA rfl) ..)
    exact Frame.refl _ _

theorem execNop_frame (a1 : Nat) (a2 : State) :
    Fr getN 0x6020000108084 a2 (execNop a1 a2) := by
  unfold execNop
  refine Fr.guard ?_
  refine Frame.trans ?_ (State.withDesc_frame rfl (fun u1 x2 => ?_) ..)
  · exact Frame.refl _ _
  · refine Frame.step ?_ (State.complete_frame ..) rfl
    exact Frame.refl _ _

theorem execRxPost_frame (a1 : Nat) (a2 : State) :
    Fr getN 0x80 a2 (execRxPost a1 a2) := by
  unfold execRxPost
  refine Fr.guard ?_
  refine Frame.trans ?_ (State.withDesc_frame rfl (fun u1 x2 => ?_) ..)
  · exact Frame.refl _ _
  · refine Frame.step ?_ (State.setRing_frame ..) rfl
    exact Frame.refl _ _

theorem execRxPostTimeout_frame (a1 : Nat) (a2 : State) :
    Fr getN 0x60600001080b4 a2 (execRxPostTimeout a1 a2) := by
  unfold execRxPostTimeout
  refine Fr.guard ?_
  split
  · rename_i z1 z2
    exact Frame.refl _ _
  · rename_i z3 z4 z5 z6
    refine Frame.ite (fun h7 => ?_) (fun h7 => ?_)
    · exact Frame.refl _ _
    · refine Frame.trans ?_ (State.atRef_frame rfl (fun u8 => ?_) ..)
      · exact Frame.refl _ _
      · refine Frame.step ?_ (State.rxDone_frame ..) rfl
        exact Frame.refl _ _

end Sys2Proof.Machine
end

