-- ==== Sys2Proof/Laws/FramePackage.lean ====
section
/-!
SUPPORT. Frame laws of Machine/Package.lean: which components each of its operations may change.
-/

namespace Sys2Proof.Machine

open Sys2Proof

theorem State.setPkg_frame (a1 : State) (a2 : Nat) (a3 : Option Pkg) :
    Frame 0x400000 a1 (State.setPkg a1 a2 a3) := by
  unfold State.setPkg
  apply Frame.upd
  · exact Frame.refl _ _
  all_goals first | exact Or.inr rfl | exact Or.inl rfl | exact Or.inl (Nat.le_refl _) | rfl

theorem State.retain_frame (a1 : State) (a2 : Package) :
    Fr getOP 0x8600000 a1 (State.retain a1 a2) := by
  unfold State.retain
  split
  · rename_i z1 z2 z3 z4 z5 z6
    refine Fr.somePair ?_
    refine Frame.step ?_ (State.setPkg_frame ..) rfl
    refine Frame.step ?_ (State.wrBytes_frame ..) rfl
    refine Frame.step ?_ (State.claim_frame ..) rfl
    exact Frame.refl _ _
  · rename_i z7 z8 z9
    exact Fr.nonePair

theorem execPkgRetain_frame (a1 : Nat) (a2 : Option Package) (a3 : State) :
    Fr getN 0x6020008708084 a3 (execPkgRetain a1 a2 a3) := by
  unfold execPkgRetain
  refine Fr.guard ?_
  refine Frame.ite (fun h1 => ?_) (fun h1 => ?_)
  · exact Frame.refl _ _
  · refine Frame.trans ?_ (State.withDesc_frame rfl (fun u2 x3 => ?_) ..)
    · exact Frame.refl _ _
    · split
      · rename_i z4
        refine Frame.step ?_ (State.complete_frame ..) rfl
        exact Frame.refl _ _
      · rename_i z5 z6
        extract_lets v7
        refine Frame.ite (fun h8 => ?_) (fun h8 => ?_)
        · refine Frame.step ?_ (State.complete_frame ..) rfl
          exact Frame.refl _ _
        · split
          · rename_i z9 z10
            refine Frame.step ?_ (State.complete_frame ..) rfl
            exact Frame.refl _ _
          · rename_i z11 z12 z13 z14
            have h15 : Frame 0x6020008708084 u2 z12 := Fr.ofSomePair z14 (by
              refine Fr.step ?_ (State.retain_frame ..) rfl
              exact Frame.refl _ _)
            refine Frame.step ?_ (State.completeR_frame ..) rfl
            assumption

end Sys2Proof.Machine
end

