-- ==== Sys2Proof/Laws/FrameKv.lean ====
section
/-!
SUPPORT. Frame laws of Machine/Kv.lean: which components each of its operations may change.
-/

namespace Sys2Proof.Machine

open Sys2Proof

theorem State.kvClear_frame (a1 : State) :
    Frame 0x100000038300000 a1 (State.kvClear a1) := by
  unfold State.kvClear
  extract_lets v1 v2 v3
  have h4 : Frame 0x100000038300000 a1 v3 := by
    unfold v3
    apply Frame.upd
    · exact Frame.refl _ _
    all_goals first | exact Or.inr rfl | exact Or.inl rfl | exact Or.inl (Nat.le_refl _) | rfl
  clear_value v3
  refine Frame.foldl ?_ (fun u5 x6 h7 => ?_)
  · assumption
  · extract_lets v8
    have h9 : Frame 0x100000038300000 a1 v8 := by
      unfold v8
      refine Frame.step ?_ (State.dirtyAdd_frame ..) rfl
      refine Frame.step ?_ (State.zeroRegion_frame ..) rfl
      assumption
    clear_value v8
    refine Frame.step ?_ (State.setKvDie_frame ..) rfl
    refine Frame.trans ?_ (State.wr_frame rfl (tb_kvA rfl) ..)
    refine Frame.trans ?_ (State.wr_frame rfl (tb_kvA rfl) ..)
    refine Frame.trans ?_ (State.wr_frame rfl (tb_kvA rfl) ..)
    assumption

theorem State.kvSetup_frame (a1 : State) (a2 : Nat) (a3 : Nat) (a4 : Nat) :
    Frame 0x100000028300008 a1 (State.kvSetup a1 a2 a3 a4) := by
  unfold State.kvSetup
  extract_lets v1 v2 v3 v4 v5
  have h6 : Frame 0x100000028300008 a1 v1 := by
    unfold v1
    refine Frame.trans ?_ (State.wr_frame rfl (tb_kvA rfl) ..)
    refine Frame.trans ?_ (State.wr_frame rfl (tb_kvA rfl) ..)
    exact Frame.refl _ _
  clear_value v1
  have h7 : Frame 0x100000028300008 a1 v4 := by
    unfold v4
    refine Frame.step ?_ (State.claim_frame ..) rfl
    refine Frame.step ?_ (State.bump_frame ..) rfl
    refine Frame.step ?_ (State.bump_frame ..) rfl
    assumption
  clear_value v4
  have h8 : Frame 0x100000028300008 a1 v5 := by
    unfold v5
    refine Frame.trans ?_ (State.wr_frame rfl (tb_kvA rfl) ..)
    refine Frame.trans ?_ (State.wr_frame rfl (tb_kvA rfl) ..)
    assumption
  clear_value v5
  refine Frame.ite (fun h9 => ?_) (fun h9 => ?_)
  · assumption
  · refine Frame.step ?_ (State.setKvDie_frame ..) rfl
    assumption

theorem State.setSeq_frame (a1 : State) (a2 : Nat) (a3 : Option KvSeq) :
    Frame 0x10000000 a1 (State.setSeq a1 a2 a3) := by
  unfold State.setSeq
  apply Frame.upd
  · exact Frame.refl _ _
  all_goals first | exact Or.inr rfl | exact Or.inl rfl | exact Or.inl (Nat.le_refl _) | rfl

theorem State.setPte_frame (a1 : State) (a2 : Nat) (a3 : Nat) (a4 : Option KvEntry) :
    Frame 0x200000 a1 (State.setPte a1 a2 a3 a4) := by
  unfold State.setPte
  refine Frame.step ?_ (State.wrBytes_frame ..) rfl
  exact Frame.refl _ _

theorem State.freePte_frame (a1 : State) (a2 : Nat) (a3 : Nat) :
    Frame 0x200000 a1 (State.freePte a1 a2 a3) := by
  unfold State.freePte
  split
  · rename_i z1 z2
    exact Frame.refl _ _
  · rename_i z3 z4 z5
    refine Frame.step ?_ (State.setPte_frame ..) rfl
    refine Frame.step ?_ (State.zeroRegion_frame ..) rfl
    exact Frame.refl _ _

theorem State.dropOn_frame (a1 : State) (a2 : Nat) (a3 : Nat) :
    Frame 0x10200000 a1 (State.dropOn a1 a2 a3) := by
  unfold State.dropOn
  split
  · rename_i z1 z2
    exact Frame.refl _ _
  · rename_i z3 z4 z5
    split
    · rename_i z6 z7
      exact Frame.refl _ _
    · rename_i z8 z9 z10
      refine Frame.step ?_ (State.setSeq_frame ..) rfl
      refine Frame.foldl ?_ (fun u11 x12 h13 => ?_)
      · exact Frame.refl _ _
      · refine Frame.step ?_ (State.freePte_frame ..) rfl
        assumption

theorem State.dropSeq_frame (a1 : State) (a2 : Nat) :
    Frame 0x10200000 a1 (State.dropSeq a1 a2) := by
  unfold State.dropSeq
  split
  · rename_i z1 z2
    exact Frame.refl _ _
  · rename_i z3 z4 z5
    refine Frame.step ?_ (State.setSeq_frame ..) rfl
    refine Frame.foldl ?_ (fun u6 x7 h8 => ?_)
    · exact Frame.refl _ _
    · refine Frame.step ?_ (State.dropOn_frame ..) rfl
      assumption

theorem State.kvRetired_frame (a1 : State) (a2 : Nat) :
    Frame 0x10200000 a1 (State.kvRetired a1 a2) := by
  unfold State.kvRetired
  refine Frame.foldl ?_ (fun u1 x2 h3 => ?_)
  · exact Frame.refl _ _
  · split
    · rename_i z4 z5 z6
      refine Frame.ite (fun h7 => ?_) (fun h7 => ?_)
      · refine Frame.step ?_ (State.dropSeq_frame ..) rfl
        assumption
      · assumption
    · rename_i z8 z9
      assumption

theorem State.kvLeaves_frame (a1 : State) (a2 : Nat) (a3 : List KvRow) :
    Frame 0x10200000 a1 (State.kvLeaves a1 a2 a3) := by
  unfold State.kvLeaves
  refine Frame.foldl ?_ (fun u1 x2 h3 => ?_)
  · exact Frame.refl _ _
  · extract_lets v4
    refine Frame.ite (fun h5 => ?_) (fun h5 => ?_)
    · refine Frame.step ?_ (State.dropSeq_frame ..) rfl
      assumption
    · assumption

theorem State.kvDenied_frame (a1 : State) (a2 : List (Nat × Nat)) (a3 : List KvRow) :
    Fr getP 0x100000000100000 a1 (State.kvDenied a1 a2 a3) := by
  unfold State.kvDenied
  refine Fr.foldlPair ?_ (fun u1 x2 h3 => ?_)
  · refine Fr.pair ?_
    exact Frame.refl _ _
  · extract_lets v4 v5
    refine Fr.pair ?_
    refine Frame.foldl ?_ (fun u6 x7 h8 => ?_)
    · refine Fr.fst ?_
      assumption
    · refine Frame.trans ?_ (State.event_frame rfl (tb_kvA rfl) (tb_kvA rfl) ..)
      assumption

theorem State.kvJoin_frame (a1 : State) (a2 : Nat) (a3 : List (Nat × Nat)) (a4 : KvRow) :
    Frame 0x10000000 a1 (State.kvJoin a1 a2 a3 a4) := by
  unfold State.kvJoin
  extract_lets v1 v2 v3 v4 v5 v6
  have h7 : Frame 0x10000000 a1 v6 := by
    unfold v6
    apply Frame.upd
    · exact Frame.refl _ _
    all_goals first | exact Or.inr rfl | exact Or.inl rfl | exact Or.inl (Nat.le_refl _) | rfl
  clear_value v6
  refine Frame.step ?_ (State.setSeq_frame ..) rfl
  assumption

theorem State.takePage_frame (a1 : State) (a2 : Nat) (a3 : Nat) (a4 : Nat) (a5 : Nat) :
    Frame 0x10200000 a1 (State.takePage a1 a2 a3 a4 a5) := by
  unfold State.takePage
  split
  · rename_i z1 z2
    exact Frame.refl _ _
  · rename_i z3 z4 z5
    split
    · rename_i z6 z7
      exact Frame.refl _ _
    · rename_i z8 z9 z10
      extract_lets v11 v12 v13
      have h14 : Frame 0x10200000 a1 v13 := by
        unfold v13
        split
        · rename_i z15 z16
          exact Frame.refl _ _
        · rename_i z17 z18 z19
          split
          · rename_i z20 z21
            exact Frame.refl _ _
          · rename_i z22 z23 z24
            refine Frame.step ?_ (State.setPte_frame ..) rfl
            exact Frame.refl _ _
      clear_value v13
      refine Frame.step ?_ (State.setSeq_frame ..) rfl
      refine Frame.step ?_ (State.setPte_frame ..) rfl
      assumption

theorem State.takeResv_frame (a1 : State) (a2 : Nat) (a3 : Nat) :
    Frame 0x10000000 a1 (State.takeResv a1 a2 a3) := by
  unfold State.takeResv
  split
  · rename_i z1 z2
    exact Frame.refl _ _
  · rename_i z3 z4 z5
    refine Frame.step ?_ (State.setSeq_frame ..) rfl
    exact Frame.refl _ _

theorem State.suspendOn_frame (a1 : State) (a2 : Nat) (a3 : Nat) :
    Frame 0x100000010300000 a1 (State.suspendOn a1 a2 a3) := by
  unfold State.suspendOn
  refine Frame.trans ?_ (State.event_frame rfl (tb_kvA rfl) (tb_kvA rfl) ..)
  refine Frame.step ?_ (State.dropOn_frame ..) rfl
  exact Frame.refl _ _

theorem State.movePage_frame (a1 : State) (a2 : Nat) (a3 : Nat) :
    Frame 0x200000 a1 (State.movePage a1 a2 a3) := by
  unfold State.movePage
  split
  · rename_i z1 z2
    exact Frame.refl _ _
  · rename_i z3 z4 z5
    extract_lets v6 v7 v8 v9
    have h10 : Frame 0x200000 a1 v9 := by
      unfold v9
      refine Frame.step ?_ (State.wrBytes_frame ..) rfl
      refine Frame.step ?_ (State.zeroRegion_frame ..) rfl
      exact Frame.refl _ _
    clear_value v9
    refine Frame.step ?_ (State.setPte_frame ..) rfl
    assumption

theorem State.moveSeq_frame (a1 : State) (a2 : Nat) (a3 : Nat) :
    Frame 0x100000010300000 a1 (State.moveSeq a1 a2 a3) := by
  unfold State.moveSeq
  split
  · rename_i z1 z2
    exact Frame.refl _ _
  · rename_i z3 z4 z5
    split
    · rename_i z6 z7
      exact Frame.refl _ _
    · rename_i z8 z9 z10
      extract_lets v11
      have h12 : Frame 0x100000010300000 a1 v11 := by
        unfold v11
        refine Frame.foldl ?_ (fun u13 x14 h15 => ?_)
        · exact Frame.refl _ _
        · refine Frame.step ?_ (State.movePage_frame ..) rfl
          assumption
      clear_value v11
      refine Frame.trans ?_ (State.event_frame rfl (tb_kvA rfl) (tb_kvA rfl) ..)
      refine Frame.step ?_ (State.setSeq_frame ..) rfl
      assumption

theorem State.allocLoop_frame (a1 : Nat) (a2 : Nat) (a3 : Nat) (a4 : Nat) (a5 : State) :
    Fr getP 0x100000010300000 a5 (State.allocLoop a1 a2 a3 a4 a5) := by
  induction a4 generalizing a1 a2 a3 a5
  · unfold State.allocLoop
    refine Fr.pair ?_
    exact Frame.refl _ _
  · rename_i k_ ih
    unfold State.allocLoop
    refine Fr.ite (fun h52 => ?_) (fun h52 => ?_)
    · refine Fr.pair ?_
      refine Frame.step ?_ (State.takePage_frame ..) rfl
      exact Frame.refl _ _
    · split
      · rename_i z53 z54
        refine Fr.pair ?_
        refine Frame.step ?_ (State.suspendOn_frame ..) rfl
        exact Frame.refl _ _
      · rename_i z55 z56 z57 z58 z59
        refine Fr.ite (fun h60 => ?_) (fun h60 => ?_)
        · extract_lets v61
          have h62 : Frame 0x100000010300000 a5 v61 := by
            unfold v61
            refine Frame.step ?_ (State.moveSeq_frame ..) rfl
            exact Frame.refl _ _
          clear_value v61
          refine Fr.ite (fun h63 => ?_) (fun h63 => ?_)
          · refine Fr.pair ?_
            refine Frame.step ?_ (State.takePage_frame ..) rfl
            assumption
          · refine Fr.step ?_ (ih ..) rfl
            assumption
        · extract_lets v64 v65
          have h66 : Frame 0x100000010300000 a5 v64 := by
            unfold v64
            refine Frame.step ?_ (State.suspendOn_frame ..) rfl
            exact Frame.refl _ _
          clear_value v64
          have h67 : Fr getP 0x100000010300000 a5 v65 := by
            unfold v65
            refine Fr.step ?_ (ih ..) rfl
            assumption
          clear_value v65
          refine Fr.ite (fun h68 => ?_) (fun h68 => ?_)
          · refine Fr.pair ?_
            assumption
          · refine Fr.pair ?_
            refine Fr.fst ?_
            assumption

theorem State.allocPage_frame (a1 : State) (a2 : Nat) (a3 : Nat) (a4 : Nat) :
    Fr getP 0x100000010300000 a1 (State.allocPage a1 a2 a3 a4) := by
  unfold State.allocPage
  split
  · rename_i z1 z2
    refine Fr.pair ?_
    exact Frame.refl _ _
  · rename_i z3 z4 z5
    refine Fr.ite (fun h6 => ?_) (fun h6 => ?_)
    · refine Fr.ite (fun h7 => ?_) (fun h7 => ?_)
      · refine Fr.pair ?_
        refine Frame.step ?_ (State.takePage_frame ..) rfl
        refine Frame.step ?_ (State.takeResv_frame ..) rfl
        exact Frame.refl _ _
      · refine Fr.ite (fun h8 => ?_) (fun h8 => ?_)
        · refine Fr.pair ?_
          refine Frame.step ?_ (State.takePage_frame ..) rfl
          exact Frame.refl _ _
        · refine Fr.pair ?_
          refine Frame.step ?_ (State.suspendOn_frame ..) rfl
          exact Frame.refl _ _
    · refine Fr.ite (fun h9 => ?_) (fun h9 => ?_)
      · refine Fr.pair ?_
        refine Frame.step ?_ (State.takePage_frame ..) rfl
        refine Frame.step ?_ (State.takeResv_frame ..) rfl
        exact Frame.refl _ _
      · refine Fr.step ?_ (State.allocLoop_frame ..) rfl
        exact Frame.refl _ _

theorem State.allocChain_frame (slot d chain n : Nat) (r : State) (p : State × List Nat) (h : Frame 0x100000010300000 r p.1) :
    Frame 0x100000010300000 r (State.allocChain slot d chain n p).1 := by
  induction n generalizing p with
  | zero => exact h
  | succ n ih =>
    unfold State.allocChain
    exact ih _ (Frame.step h ((State.allocPage_frame ..).fst) rfl)

theorem State.kvGrow_frame (s : State) (chains : List (Nat × Nat)) (d : Nat) (rows : List KvRow) :
    Fr getP 0x100000010300000 s (s.kvGrow chains d rows) := by
  unfold State.kvGrow
  refine Fr.foldlPair (Fr.pair (Frame.refl _ _)) (fun p x h => ?_)
  refine Fr.ite (fun _ => h) (fun _ => ?_)
  split
  · exact h
  · refine Fr.foldlPair h (fun p x h => ⟨fun t ht => ?_⟩)
    cases ht
    exact State.allocChain_frame _ _ _ _ _ _ h.fst

theorem State.kvGrowth_frame (a1 : State) (a2 : Nat) (a3 : List (Nat × Nat)) (a4 : List KvRow) (a5 : List Nat) :
    Fr getP 0x100000010300000 a1 (State.kvGrowth a1 a2 a3 a4 a5) := by
  unfold State.kvGrowth
  extract_lets v1 v2 v3
  have h4 : Frame 0x100000010300000 a1 v2 := by
    unfold v2
    refine Frame.foldl ?_ (fun u5 x6 h7 => ?_)
    · exact Frame.refl _ _
    · refine Frame.step ?_ (State.kvJoin_frame ..) rfl
      assumption
  clear_value v2
  have h8 : Fr getP 0x100000010300000 a1 v3 := by
    unfold v3
    refine Fr.foldlPair ?_ (fun u9 x10 h11 => ?_)
    · refine Fr.pair ?_
      assumption
    · extract_lets v12
      have h13 : Fr getP 0x100000010300000 a1 v12 := by
        unfold v12
        refine Fr.step ?_ (State.kvGrow_frame ..) rfl
        refine Fr.fst ?_
        assumption
      clear_value v12
      refine Fr.pair ?_
      refine Fr.fst ?_
      assumption
  clear_value v3
  refine Fr.pair ?_
  refine Fr.fst ?_
  assumption

theorem State.kvShow_frame (a1 : State) (a2 : Nat) :
    Frame 0x100000000100000 a1 (State.kvShow a1 a2) := by
  unfold State.kvShow
  extract_lets v1 v2
  have h3 : Frame 0x100000000100000 a1 v2 := by
    unfold v2
    unfold v1
    refine Frame.trans ?_ (State.wr_frame rfl (tb_kvA rfl) ..)
    refine Frame.trans ?_ (State.wr_frame rfl (tb_kvA rfl) ..)
    exact Frame.refl _ _
  clear_value v2
  unfold v1
  refine Frame.trans ?_ (State.wr_frame rfl (tb_kvA rfl) ..)
  refine Frame.trans ?_ (State.wr_frame rfl (tb_kvA rfl) ..)
  refine Frame.trans ?_ (State.wr_frame rfl (tb_kvA rfl) ..)
  assumption

theorem State.kvFinish_frame (a1 : State) (a2 : List (Nat × Nat)) (a3 : List KvRow) (a4 : List Nat) :
    Fr getP 0x100000010300000 a1 (State.kvFinish a1 a2 a3 a4) := by
  unfold State.kvFinish
  extract_lets v1 v2 v3
  have h4 : Frame 0x100000010300000 a1 v1 := by
    unfold v1
    refine Frame.foldl ?_ (fun u5 x6 h7 => ?_)
    · exact Frame.refl _ _
    · refine Frame.step ?_ (State.dropSeq_frame ..) rfl
      assumption
  clear_value v1
  have h8 : Frame 0x100000010300000 a1 v3 := by
    unfold v3
    refine Frame.foldl ?_ (fun u9 x10 h11 => ?_)
    · assumption
    · refine Frame.ite (fun h12 => ?_) (fun h12 => ?_)
      · split
        · rename_i z13 z14 z15
          refine Frame.step ?_ (State.setSeq_frame ..) rfl
          assumption
        · rename_i z16 z17
          assumption
      · assumption
  clear_value v3
  refine Fr.pair ?_
  refine Frame.foldl ?_ (fun u18 x19 h20 => ?_)
  · assumption
  · refine Frame.step ?_ (State.kvShow_frame ..) rfl
    assumption

theorem State.kvIdle_frame (a1 : State) (a2 : Nat) :
    Frame 0x100000028100000 a1 (State.kvIdle a1 a2) := by
  unfold State.kvIdle
  refine Frame.ite (fun h1 => ?_) (fun h1 => ?_)
  · exact Frame.refl _ _
  · extract_lets v2
    have h3 : Frame 0x100000028100000 a1 v2 := by
      unfold v2
      refine Frame.trans ?_ (State.wr_frame rfl (tb_kvA rfl) ..)
      exact Frame.refl _ _
    clear_value v2
    refine Frame.ite (fun h4 => ?_) (fun h4 => ?_)
    · refine Frame.step ?_ (State.setKvDie_frame ..) rfl
      refine Frame.trans ?_ (State.wr_frame rfl (tb_kvA rfl) ..)
      refine Frame.trans ?_ (State.wr_frame rfl (tb_kvA rfl) ..)
      refine Frame.step ?_ (State.dirtyAdd_frame ..) rfl
      assumption
    · assumption

theorem execPkgRelease_frame (a1 : Nat) (a2 : State) :
    Fr getN 0x106020038708084 a2 (execPkgRelease a1 a2) := by
  unfold execPkgRelease
  refine Fr.guard ?_
  refine Frame.ite (fun h1 => ?_) (fun h1 => ?_)
  · exact Frame.refl _ _
  · refine Frame.trans ?_ (State.withDesc_frame rfl (fun u2 x3 => ?_) ..)
    · exact Frame.refl _ _
    · extract_lets v4 v5 v6
      have h7 : Frame 0x106020038708084 u2 v5 := by
        unfold v5
        refine Frame.foldl ?_ (fun u8 x9 h10 => ?_)
        · exact Frame.refl _ _
        · split
          · rename_i z11 z12 z13
            refine Frame.ite (fun h14 => ?_) (fun h14 => ?_)
            · refine Frame.step ?_ (State.dropSeq_frame ..) rfl
              assumption
            · assumption
          · rename_i z15 z16
            assumption
      clear_value v5
      have h17 : Frame 0x106020038708084 u2 v6 := by
        unfold v6
        refine Frame.foldl ?_ (fun u18 x19 h20 => ?_)
        · assumption
        · refine Frame.step ?_ (State.kvIdle_frame ..) rfl
          assumption
      clear_value v6
      split
      · rename_i z21 z22
        refine Frame.step ?_ (State.complete_frame ..) rfl
        exact Frame.refl _ _
      · rename_i z23 z24 z25
        refine Frame.ite (fun h26 => ?_) (fun h26 => ?_)
        · refine Frame.step ?_ (State.complete_frame ..) rfl
          exact Frame.refl _ _
        · refine Frame.step ?_ (State.complete_frame ..) rfl
          refine Frame.step ?_ (State.dirtyAdd_frame ..) rfl
          refine Frame.step ?_ (State.setPkg_frame ..) rfl
          assumption

end Sys2Proof.Machine
end

