-- ==== Sys2Proof/Laws/FrameJobEnd.lean ====
section
/-!
SUPPORT. Frame laws of Machine/JobEnd.lean: which components each of its operations may change.
-/

namespace Sys2Proof.Machine

open Sys2Proof

theorem State.axisLost_frame (a1 : Job) (a2 : Status) (a3 : State) (a4 : Nat) :
    Frame 0x100000100200 a3 (State.axisLost a1 a2 a3 a4) := by
  unfold State.axisLost
  extract_lets v1 v2 v3 v4 v5
  have h6 : Frame 0x100000100200 a3 v4 := by
    unfold v4
    refine Frame.trans ?_ (State.countN_frame rfl (tb_ctlA rfl) ..)
    refine Frame.step ?_ (State.setAx_frame ..) rfl
    exact Frame.refl _ _
  clear_value v4
  refine Frame.ite (fun h7 => ?_) (fun h7 => ?_)
  · exact Frame.refl _ _
  · refine Frame.ite (fun h8 => ?_) (fun h8 => ?_)
    · assumption
    · refine Frame.ite (fun h9 => ?_) (fun h9 => ?_)
      · refine Frame.step ?_ (State.setAx_frame ..) rfl
        assumption
      · split
        · rename_i z10 z11 z12
          refine Frame.ite (fun h13 => ?_) (fun h13 => ?_)
          · refine Frame.step ?_ (State.setAxState_frame ..) rfl
            refine Frame.step ?_ (State.setAx_frame ..) rfl
            assumption
          · assumption
        · rename_i z14 z15
          assumption

theorem State.tellPeers_frame (a1 : State) (a2 : Job) (a3 : Status) :
    Frame 0x20008c010000c a1 (State.tellPeers a1 a2 a3) := by
  unfold State.tellPeers
  refine Frame.ite (fun h1 => ?_) (fun h1 => ?_)
  · exact Frame.refl _ _
  · refine Frame.foldl ?_ (fun u2 x3 h4 => ?_)
    · exact Frame.refl _ _
    · refine Frame.step ?_ (State.sendEnd_frame ..) rfl
      assumption

theorem State.unbindStream_frame (a1 : State) (a2 : Nat) :
    Frame 0x2080900100008 a1 (State.unbindStream a1 a2) := by
  unfold State.unbindStream
  extract_lets v1 v2 v3 v4 v5
  have h6 : Frame 0x2080900100008 a1 v2 := by
    unfold v2
    refine Frame.ite (fun h7 => ?_) (fun h7 => ?_)
    · refine Frame.step ?_ (State.tlySync_frame ..) rfl
      exact Frame.refl _ _
    · exact Frame.refl _ _
  clear_value v2
  have h8 : Frame 0x2080900100008 a1 v4 := by
    unfold v4
    refine Frame.ite (fun h9 => ?_) (fun h9 => ?_)
    · assumption
    · refine Frame.trans ?_ (State.countN_frame rfl (tb_ingA rfl) ..)
      refine Frame.trans ?_ (State.raise_frame rfl (tb_ingA rfl) ..)
      assumption
  clear_value v4
  have h10 : Frame 0x2080900100008 a1 v5 := by
    unfold v5
    refine Frame.step ?_ (State.setStrm_frame ..) rfl
    assumption
  clear_value v5
  refine Frame.step ?_ (State.ingQueue_frame ..) rfl
  refine Frame.trans ?_ (State.wr_frame rfl (tb_ingA rfl) ..)
  refine Frame.trans ?_ (State.wr_frame rfl (tb_ingA rfl) ..)
  refine Frame.trans ?_ (State.wr_frame rfl (tb_ingA rfl) ..)
  assumption

theorem State.capture_frame (a1 : State) (a2 : List Job) (a3 : Status) :
    Frame 0x4000000108000 a1 (State.capture a1 a2 a3) := by
  unfold State.capture
  split
  · rename_i z1 z2
    exact Frame.refl _ _
  · rename_i z3 z4 z5
    extract_lets v6 v7 v8 v9 v10 v11
    have h12 : Frame 0x4000000108000 a1 v11 := by
      unfold v11
      apply Frame.upd
      · exact Frame.refl _ _
      all_goals first | exact Or.inr rfl | exact Or.inl rfl | exact Or.inl (Nat.le_refl _) | rfl
    clear_value v11
    refine Frame.ite (fun h13 => ?_) (fun h13 => ?_)
    · exact Frame.refl _ _
    · refine Frame.step ?_ (State.hmLog_frame ..) rfl
      refine Frame.trans ?_ (State.put_frame rfl (tb_mgtA rfl) ..)
      refine Frame.trans ?_ (State.put_frame rfl (tb_mgtA rfl) ..)
      assumption

theorem State.digest_frame (a1 : State) (a2 : Nat) (a3 : Nat) (a4 : Nat) (a5 : Nat) (a6 : Nat) (a7 : Bytes) :
    Frame 0x10000101000 a1 (State.digest a1 a2 a3 a4 a5 a6 a7) := by
  unfold State.digest
  refine Frame.ite (fun h1 => ?_) (fun h1 => ?_)
  · exact Frame.refl _ _
  · refine Frame.ite (fun h2 => ?_) (fun h2 => ?_)
    · apply Frame.upd
      · exact Frame.refl _ _
      all_goals first | exact Or.inr rfl | exact Or.inl rfl | exact Or.inl (Nat.le_refl _) | rfl
    · refine Frame.ite (fun h3 => ?_) (fun h3 => ?_)
      · refine Frame.step ?_ (State.slogNow_frame ..) rfl
        exact Frame.refl _ _
      · exact Frame.refl _ _

theorem State.tensorDigests_frame (a1 : State) (a2 : Job) (a3 : Nat) (a4 : Nat) :
    Frame 0x10000101000 a1 (State.tensorDigests a1 a2 a3 a4) := by
  unfold State.tensorDigests
  refine Frame.foldl ?_ (fun u1 x2 h3 => ?_)
  · exact Frame.refl _ _
  · refine Frame.step ?_ (State.digest_frame ..) rfl
    assumption

theorem State.hostOutputs_frame (a1 : State) (a2 : Job) :
    Frame 0x20000100004 a1 (State.hostOutputs a1 a2) := by
  unfold State.hostOutputs
  refine Frame.ite (fun h1 => ?_) (fun h1 => ?_)
  · exact Frame.refl _ _
  · refine Frame.foldl ?_ (fun u2 x3 h4 => ?_)
    · exact Frame.refl _ _
    · refine Frame.step ?_ (State.hostData_frame ..) rfl
      assumption

theorem State.statusOut_frame (a1 : State) (a2 : Job) :
    Frame 0x20000100004 a1 (State.statusOut a1 a2) := by
  unfold State.statusOut
  refine Frame.ite (fun h1 => ?_) (fun h1 => ?_)
  · exact Frame.refl _ _
  · refine Frame.step ?_ (State.hostData_frame ..) rfl
    exact Frame.refl _ _

theorem State.statWrite_frame (a1 : State) (a2 : Nat) (a3 : Bytes) :
    Frame 0x20000100004 a1 (State.statWrite a1 a2 a3) := by
  unfold State.statWrite
  refine Frame.step ?_ (State.hostData_frame ..) rfl
  refine Frame.step ?_ (State.hostData_frame ..) rfl
  refine Frame.step ?_ (State.hostData_frame ..) rfl
  exact Frame.refl _ _

theorem State.statsOut_frame (a1 : State) (a2 : Job) (a3 : Bool) :
    Frame 0x20000100004 a1 (State.statsOut a1 a2 a3) := by
  unfold State.statsOut
  split
  · rename_i z1 z2
    exact Frame.refl _ _
  · rename_i z3 z4 z5
    extract_lets v6
    refine Frame.foldl ?_ (fun u7 x8 h9 => ?_)
    · exact Frame.refl _ _
    · extract_lets v10 v11
      refine Frame.step ?_ (State.statWrite_frame ..) rfl
      assumption

theorem State.sendDone_frame (a1 : State) (a2 : Job) :
    Frame 0x20008c010000c a1 (State.sendDone a1 a2) := by
  unfold State.sendDone
  split
  · rename_i z1 z2 z3
    refine Frame.step ?_ (State.sendTo_frame ..) rfl
    exact Frame.refl _ _
  · rename_i z4 z5
    exact Frame.refl _ _

theorem State.endCount_frame (a1 : State) (a2 : Status) :
    Frame 0x10000100000 a1 (State.endCount a1 a2) := by
  unfold State.endCount
  refine Frame.ite (fun h1 => ?_) (fun h1 => ?_)
  · refine Frame.trans ?_ (State.event_frame rfl rfl rfl ..)
    exact Frame.refl _ _
  · refine Frame.ite (fun h2 => ?_) (fun h2 => ?_)
    · refine Frame.trans ?_ (State.event_frame rfl rfl rfl ..)
      exact Frame.refl _ _
    · exact Frame.refl _ _

theorem State.jobFree_frame (a1 : State) (a2 : Job) (a3 : Status) :
    Frame 0x1020809ed11000c a1 (State.jobFree a1 a2 a3) := by
  unfold State.jobFree
  extract_lets v1 v2 v3 v4 v5 v6
  have h7 : Frame 0x1020809ed11000c a1 v1 := by
    unfold v1
    refine Frame.step ?_ (State.dirtyAdd_frame ..) rfl
    exact Frame.refl _ _
  clear_value v1
  have h8 : Frame 0x1020809ed11000c a1 v2 := by
    unfold v2
    refine Frame.step ?_ (State.closeBerths_frame ..) rfl
    assumption
  clear_value v2
  have h9 : Frame 0x1020809ed11000c a1 v4 := by
    unfold v4
    apply Frame.upd
    · assumption
    all_goals first | exact Or.inr rfl | exact Or.inl rfl | exact Or.inl (Nat.le_refl _) | rfl
  clear_value v4
  have h10 : Frame 0x1020809ed11000c a1 v5 := by
    unfold v5
    refine Frame.step ?_ (State.setJobs_frame ..) rfl
    assumption
  clear_value v5
  have h11 : Frame 0x1020809ed11000c a1 v6 := by
    unfold v6
    refine Frame.foldl ?_ (fun u12 x13 h14 => ?_)
    · assumption
    · refine Frame.step ?_ (State.kvIdle_frame ..) rfl
      assumption
  clear_value v6
  refine Frame.foldl ?_ (fun u15 x16 h17 => ?_)
  · assumption
  · refine Frame.step ?_ (State.unbindStream_frame ..) rfl
    assumption

theorem State.jobEntry_frame (a1 : State) (a2 : Job) (a3 : Status) :
    Frame 0x6030000109084 a1 (State.jobEntry a1 a2 a3) := by
  unfold State.jobEntry
  extract_lets v1 v2 v3 v4 v5
  have h6 : Frame 0x6030000109084 a1 v3 := by
    unfold v3
    refine Frame.step ?_ (State.digest_frame ..) rfl
    exact Frame.refl _ _
  clear_value v3
  have h7 : Frame 0x6030000109084 a1 v5 := by
    unfold v5
    refine Frame.step ?_ (State.setRing_frame ..) rfl
    assumption
  clear_value v5
  refine Frame.ite (fun h8 => ?_) (fun h8 => ?_)
  · assumption
  · refine Frame.ite (fun h9 => ?_) (fun h9 => ?_)
    · refine Frame.step ?_ (State.writeEntry_frame ..) rfl
      assumption
    · refine Frame.step ?_ (State.completeR_frame ..) rfl
      assumption

theorem State.jobEnd_frame (a1 : State) (a2 : Nat) (a3 : Status) :
    Frame 0x1061b09ed11928c a1 (State.jobEnd a1 a2 a3) := by
  unfold State.jobEnd
  split
  · rename_i z1 z2
    exact Frame.refl _ _
  · rename_i z3 z4 z5
    extract_lets v6 v7 v8 v9 v10 v11 v12 v13 v14 v15 v16 v17
    have h18 : Frame 0x1061b09ed11928c a1 v7 := by
      unfold v7
      refine Frame.ite (fun h19 => ?_) (fun h19 => ?_)
      · exact Frame.refl _ _
      · refine Frame.step ?_ (State.capture_frame ..) rfl
        exact Frame.refl _ _
    clear_value v7
    have h20 : Frame 0x1061b09ed11928c a1 v8 := by
      unfold v8
      refine Frame.ite (fun h21 => ?_) (fun h21 => ?_)
      · refine Frame.step ?_ (State.tensorDigests_frame ..) rfl
        refine Frame.step ?_ (State.hostOutputs_frame ..) rfl
        assumption
      · assumption
    clear_value v8
    have h22 : Frame 0x1061b09ed11928c a1 v9 := by
      unfold v9
      refine Frame.ite (fun h23 => ?_) (fun h23 => ?_)
      · refine Frame.step ?_ (State.digest_frame ..) rfl
        assumption
      · assumption
    clear_value v9
    have h24 : Frame 0x1061b09ed11928c a1 v10 := by
      unfold v10
      refine Frame.ite (fun h25 => ?_) (fun h25 => ?_)
      · refine Frame.step ?_ (State.statusOut_frame ..) rfl
        assumption
      · assumption
    clear_value v10
    have h26 : Frame 0x1061b09ed11928c a1 v11 := by
      unfold v11
      refine Frame.ite (fun h27 => ?_) (fun h27 => ?_)
      · assumption
      · refine Frame.step ?_ (State.statsOut_frame ..) rfl
        assumption
    clear_value v11
    have h28 : Frame 0x1061b09ed11928c a1 v12 := by
      unfold v12
      refine Frame.ite (fun h29 => ?_) (fun h29 => ?_)
      · refine Frame.step ?_ (State.sendDone_frame ..) rfl
        assumption
      · assumption
    clear_value v12
    have h30 : Frame 0x1061b09ed11928c a1 v13 := by
      unfold v13
      refine Frame.step ?_ (State.endCount_frame ..) rfl
      assumption
    clear_value v13
    have h31 : Frame 0x1061b09ed11928c a1 v14 := by
      unfold v14
      refine Frame.ite (fun h32 => ?_) (fun h32 => ?_)
      · refine Frame.step ?_ (State.outcome_frame ..) rfl
        assumption
      · assumption
    clear_value v14
    have h33 : Frame 0x1061b09ed11928c a1 v15 := by
      unfold v15
      refine Frame.ite (fun h34 => ?_) (fun h34 => ?_)
      · refine Frame.foldl ?_ (fun u35 x36 h37 => ?_)
        · assumption
        · refine Frame.step ?_ (State.axisLost_frame ..) rfl
          assumption
      · assumption
    clear_value v15
    have h38 : Frame 0x1061b09ed11928c a1 v16 := by
      unfold v16
      refine Frame.step ?_ (State.jobFree_frame ..) rfl
      assumption
    clear_value v16
    have h39 : Frame 0x1061b09ed11928c a1 v17 := by
      unfold v17
      refine Frame.step ?_ (State.jobEntry_frame ..) rfl
      assumption
    clear_value v17
    refine Frame.foldl ?_ (fun u40 x41 h42 => ?_)
    · assumption
    · refine Frame.step ?_ (State.complete_frame ..) rfl
      assumption

theorem State.endSoon_frame (a1 : State) (a2 : Nat) (a3 : Status) :
    Frame 0x1061b09ed11928c a1 (State.endSoon a1 a2 a3) := by
  unfold State.endSoon
  split
  · rename_i z1 z2
    exact Frame.refl _ _
  · rename_i z3 z4 z5
    refine Frame.ite (fun h6 => ?_) (fun h6 => ?_)
    · exact Frame.refl _ _
    · refine Frame.ite (fun h7 => ?_) (fun h7 => ?_)
      · refine Frame.step ?_ (State.updJob_frame ..) rfl
        exact Frame.refl _ _
      · refine Frame.step ?_ (State.jobEnd_frame ..) rfl
        exact Frame.refl _ _

end Sys2Proof.Machine
end

