-- ==== Sys2Proof/Laws/FrameAdmit.lean ====
section
/-!
SUPPORT. Frame laws of Machine/Admit.lean: which components each of its operations may change.
-/

namespace Sys2Proof.Machine

open Sys2Proof

theorem except_bind_ok {ε α β : Type} {x : Except ε α} {f : α → Except ε β} {b : β} (h : (x >>= f) = .ok b) :
    ∃ a, x = .ok a ∧ f a = .ok b := by
  cases x with
  | error e => cases h
  | ok a => exact ⟨a, rfl, h⟩

theorem State.keepPkg_frame (s : State) (q : SubReq) (p : Package) : Fr getE 0x8600000 s (s.keepPkg q p) := by
  unfold State.keepPkg
  refine Fr.ite (fun _ => Fr.ok (Frame.refl _ _)) (fun _ => ?_)
  split
  · rename_i x hx
    exact Fr.ok ((State.retain_frame ..).of _ (by rw [hx]; rfl))
  · exact Fr.err

theorem State.fillWeights_frame (a1 : State) (a2 : Package) (a3 : Job) (a4 : Place → Bool) :
    Frame 0x200000 a1 (State.fillWeights a1 a2 a3 a4) := by
  unfold State.fillWeights
  refine Frame.foldl ?_ (fun u1 x2 h3 => ?_)
  · exact Frame.refl _ _
  · split
    · rename_i z4 z5 z6
      refine Frame.step ?_ (State.wrBytes_frame ..) rfl
      assumption
    · rename_i z7 z8
      assumption

theorem State.fillTensor_frame (a1 : State) (a2 : Job) (a3 : Nat) (a4 : Bytes) :
    Frame 0x200000 a1 (State.fillTensor a1 a2 a3 a4) := by
  unfold State.fillTensor
  refine Frame.foldl ?_ (fun u1 x2 h3 => ?_)
  · exact Frame.refl _ _
  · refine Frame.step ?_ (State.wrBytes_frame ..) rfl
    assumption

theorem State.fillInputs_frame (a1 : State) (a2 : Job) (a3 : List Bytes) :
    Frame 0x200000 a1 (State.fillInputs a1 a2 a3) := by
  unfold State.fillInputs
  extract_lets v1
  refine Frame.foldl ?_ (fun u2 x3 h4 => ?_)
  · exact Frame.refl _ _
  · split
    · rename_i z5 z6 z7
      refine Frame.step ?_ (State.fillTensor_frame ..) rfl
      assumption
    · rename_i z8 z9
      assumption

theorem State.bindStreamsOf_frame (a1 : State) (a2 : Job) :
    Frame 0x80100100000 a1 (State.bindStreamsOf a1 a2) := by
  unfold State.bindStreamsOf
  extract_lets v1 v2
  have h3 : Frame 0x80100100000 a1 v2 := by
    unfold v2
    refine Frame.foldl ?_ (fun u4 x5 h6 => ?_)
    · exact Frame.refl _ _
    · refine Frame.step ?_ (State.setStrm_frame ..) rfl
      assumption
  clear_value v2
  refine Frame.foldl ?_ (fun u7 x8 h9 => ?_)
  · assumption
  · refine Frame.trans ?_ (State.wr_frame rfl (tb_ingA rfl) ..)
    assumption

theorem State.settleReport_frame (a1 : State) (a2 : Option Nat) (a3 : Nat) (a4 : List Nat) :
    Frame 0x20008c010000c a1 (State.settleReport a1 a2 a3 a4) := by
  unfold State.settleReport
  split
  · rename_i z1 z2
    refine Frame.step ?_ (State.sendTo_frame ..) rfl
    exact Frame.refl _ _
  · rename_i z3
    exact Frame.refl _ _

theorem State.stepSettle_frame (a1 : State) (a2 : SubReq) (a3 : Package) (a4 : Job) :
    Fr getP 0x1020008d030000c a1 (State.stepSettle a1 a2 a3 a4) := by
  unfold State.stepSettle
  refine Fr.ite (fun h1 => ?_) (fun h1 => ?_)
  · refine Fr.pair ?_
    exact Frame.refl _ _
  · extract_lets v2 v3 v4 v5 v6 v7 v8
    have h9 : Frame 0x1020008d030000c a1 v2 := by
      unfold v2
      refine Frame.step ?_ (State.kvRetired_frame ..) rfl
      exact Frame.refl _ _
    clear_value v2
    have h10 : Frame 0x1020008d030000c a1 v4 := by
      unfold v4
      refine Frame.step ?_ (State.kvLeaves_frame ..) rfl
      assumption
    clear_value v4
    have h11 : Fr getP 0x1020008d030000c a1 v5 := by
      unfold v5
      refine Fr.step ?_ (State.kvDenied_frame ..) rfl
      assumption
    clear_value v5
    have h12 : Fr getP 0x1020008d030000c a1 v6 := by
      unfold v6
      refine Fr.step ?_ (State.kvGrowth_frame ..) rfl
      refine Fr.fst ?_
      assumption
    clear_value v6
    have h13 : Fr getP 0x1020008d030000c a1 v7 := by
      unfold v7
      refine Fr.step ?_ (State.kvFinish_frame ..) rfl
      refine Fr.fst ?_
      assumption
    clear_value v7
    have h14 : Frame 0x1020008d030000c a1 v8 := by
      unfold v8
      refine Frame.step ?_ (State.settleReport_frame ..) rfl
      refine Fr.fst ?_
      assumption
    clear_value v8
    refine Fr.ite (fun h15 => ?_) (fun h15 => ?_)
    · refine Fr.pair ?_
      refine Fr.fst ?_
      assumption
    · refine Fr.pair ?_
      assumption

theorem State.sendPlan_frame (a1 : State) (a2 : SubReq) (a3 : Job) :
    Frame 0x20008c010000c a1 (State.sendPlan a1 a2 a3) := by
  unfold State.sendPlan
  refine Frame.ite (fun h1 => ?_) (fun h1 => ?_)
  · exact Frame.refl _ _
  · extract_lets v2
    refine Frame.foldl ?_ (fun u3 x4 h5 => ?_)
    · exact Frame.refl _ _
    · extract_lets v6 v7 v8 v9
      have h10 : Frame 0x20008c010000c a1 v8 := by
        unfold v8
        apply Frame.upd
        · assumption
        all_goals first | exact Or.inr rfl | exact Or.inl rfl | exact Or.inl (Nat.le_refl _) | rfl
      clear_value v8
      refine Frame.step ?_ (State.sendTo_frame ..) rfl
      assumption

theorem State.enter_frame (a1 : State) (a2 : SubReq) (a3 : Job) :
    Frame 0x1020909f8b1000c a1 (State.enter a1 a2 a3) := by
  unfold State.enter
  split
  · rename_i z1 z2
    exact Frame.refl _ _
  · rename_i z3 z4 z5
    extract_lets v6 v7 v8 v9 v10 v11 v12 v13 v14 v15 v16 v17 v18
    have h19 : Frame 0x1020909f8b1000c a1 v7 := by
      unfold v7
      refine Frame.step ?_ (State.claim_frame ..) rfl
      exact Frame.refl _ _
    clear_value v7
    have h20 : Frame 0x1020909f8b1000c a1 v8 := by
      unfold v8
      refine Frame.step ?_ (State.fillWeights_frame ..) rfl
      assumption
    clear_value v8
    have h21 : Frame 0x1020909f8b1000c a1 v9 := by
      unfold v9
      refine Frame.ite (fun h22 => ?_) (fun h22 => ?_)
      · refine Frame.step ?_ (State.fillInputs_frame ..) rfl
        assumption
      · assumption
    clear_value v9
    have h23 : Frame 0x1020909f8b1000c a1 v12 := by
      unfold v12
      refine Frame.ite (fun h24 => ?_) (fun h24 => ?_)
      · assumption
      · apply Frame.upd
        · assumption
        all_goals first | exact Or.inr rfl | exact Or.inl rfl | exact Or.inl (Nat.le_refl _) | rfl
    clear_value v12
    have h25 : Frame 0x1020909f8b1000c a1 v13 := by
      unfold v13
      refine Frame.foldl ?_ (fun u26 x27 h28 => ?_)
      · assumption
      · refine Frame.step ?_ (State.kvSetup_frame ..) rfl
        assumption
    clear_value v13
    have h29 : Frame 0x1020909f8b1000c a1 v14 := by
      unfold v14
      refine Frame.ite (fun h30 => ?_) (fun h30 => ?_)
      · refine Frame.step ?_ (State.bindStreamsOf_frame ..) rfl
        assumption
      · assumption
    clear_value v14
    have h31 : Fr getP 0x1020909f8b1000c a1 v15 := by
      unfold v15
      refine Fr.step ?_ (State.stepSettle_frame ..) rfl
      assumption
    clear_value v15
    have h32 : Frame 0x1020909f8b1000c a1 v16 := by
      unfold v16
      refine Frame.step ?_ (State.setJobs_frame ..) rfl
      refine Fr.fst ?_
      assumption
    clear_value v16
    have h33 : Frame 0x1020909f8b1000c a1 v18 := by
      unfold v18
      apply Frame.upd
      · assumption
      all_goals first | exact Or.inr rfl | exact Or.inl rfl | exact Or.inl (Nat.le_refl _) | rfl
    clear_value v18
    refine Frame.step ?_ (State.sendPlan_frame ..) rfl
    refine Frame.trans ?_ (State.count_frame rfl rfl ..)
    assumption

theorem State.admission_frame (s : State) (q : SubReq) : Fr getE 0x8600000 s (s.admission q) := by
  refine ⟨fun t ht => ?_⟩
  cases hx : s.admission q with
  | error e => rw [hx] at ht; cases ht
  | ok r =>
    rw [hx] at ht
    cases ht
    unfold State.admission at hx
    obtain ⟨p, _, hx⟩ := except_bind_ok hx
    obtain ⟨_, _, hx⟩ := except_bind_ok hx
    obtain ⟨kept, hk, hx⟩ := except_bind_ok hx
    obtain ⟨j, _, hx⟩ := except_bind_ok hx
    obtain ⟨j', _, hx⟩ := except_bind_ok hx
    cases hx
    exact (State.keepPkg_frame ..).of _ (by rw [hk]; rfl)

theorem State.takePlan_frame (a1 : State) (a2 : SharePlan) :
    Frame 0x1020909f8f1000c a1 (State.takePlan a1 a2) := by
  unfold State.takePlan
  split
  · rename_i z1 z2
    refine Frame.step ?_ (State.sendEnd_frame ..) rfl
    exact Frame.refl _ _
  · rename_i z3 z4 z5
    extract_lets v6 v7 v8
    split
    · rename_i z9 z10 z11
      refine Frame.step ?_ (State.sendEnd_frame ..) rfl
      exact Frame.refl _ _
    · rename_i z12 z13 z14 z15
      have h16 : Frame 0x1020909f8f1000c a1 z13 := Fr.ofOk z15 (by
        refine Fr.step ?_ (State.admission_frame ..) rfl
        exact Frame.refl _ _)
      refine Frame.step ?_ (State.enter_frame ..) rfl
      assumption

theorem State.subDone_frame (a1 : State) (a2 : SubReq) (a3 : Status) (a4 : Nat) :
    Frame 0x10000101000 a1 (State.subDone a1 a2 a3 a4) := by
  unfold State.subDone
  refine Frame.step ?_ (State.digest_frame ..) rfl
  exact Frame.refl _ _

theorem State.subDecide_frame (a1 : State) (a2 : SubReq) :
    Fr getP 0x1020909f8f1100c a1 (State.subDecide a1 a2) := by
  unfold State.subDecide
  split
  · rename_i z1 z2 z3
    refine Fr.pair ?_
    refine Frame.step ?_ (State.subDone_frame ..) rfl
    refine Frame.trans ?_ (State.event_frame rfl rfl rfl ..)
    exact Frame.refl _ _
  · rename_i z4 z5 z6 z7
    have h8 : Frame 0x1020909f8f1100c a1 z5 := Fr.ofOk z7 (by
      refine Fr.step ?_ (State.admission_frame ..) rfl
      exact Frame.refl _ _)
    extract_lets v9
    have h10 : Frame 0x1020909f8f1100c a1 v9 := by
      unfold v9
      refine Frame.step ?_ (State.enter_frame ..) rfl
      assumption
    clear_value v9
    refine Fr.pair ?_
    refine Frame.ite (fun h11 => ?_) (fun h11 => ?_)
    · refine Frame.step ?_ (State.subDone_frame ..) rfl
      assumption
    · assumption

theorem State.releaseJob_frame (a1 : State) (a2 : Nat) (a3 : Inflight) :
    Frame 0x1061b09ed11928c a1 (State.releaseJob a1 a2 a3) := by
  unfold State.releaseJob
  extract_lets v1 v2 v3
  have h4 : Frame 0x1061b09ed11928c a1 v3 := by
    unfold v3
    refine Frame.step ?_ (State.logDesc_frame ..) rfl
    exact Frame.refl _ _
  clear_value v3
  split
  · rename_i z5 z6
    refine Frame.step ?_ (State.complete_frame ..) rfl
    exact Frame.refl _ _
  · rename_i z7 z8 z9
    refine Frame.ite (fun h10 => ?_) (fun h10 => ?_)
    · refine Frame.step ?_ (State.complete_frame ..) rfl
      assumption
    · extract_lets v11
      have h12 : Frame 0x1061b09ed11928c a1 v11 := by
        unfold v11
        refine Frame.step ?_ (State.updJob_frame ..) rfl
        assumption
      clear_value v11
      refine Frame.ite (fun h13 => ?_) (fun h13 => ?_)
      · refine Frame.step ?_ (State.endSoon_frame ..) rfl
        assumption
      · refine Frame.step ?_ (State.endSoon_frame ..) rfl
        refine Frame.step ?_ (State.tellPeers_frame ..) rfl
        assumption

theorem State.decideSub_frame (a1 : State) (a2 : SubReq) :
    Frame 0x1060b09f8f1908c a1 (State.decideSub a1 a2) := by
  unfold State.decideSub
  extract_lets v1 v2 v3 v4 v5
  have h6 : Fr getP 0x1060b09f8f1908c a1 v3 := by
    unfold v3
    refine Fr.step ?_ (State.subDecide_frame ..) rfl
    refine Frame.step ?_ (State.logSubmit_frame ..) rfl
    exact Frame.refl _ _
  clear_value v3
  have h7 : Frame 0x1060b09f8f1908c a1 v5 := by
    unfold v5
    refine Frame.step ?_ (State.setRing_frame ..) rfl
    refine Fr.fst ?_
    assumption
  clear_value v5
  split
  · rename_i z8 z9 z10
    refine Frame.step ?_ (State.complete_frame ..) rfl
    refine Fr.fst ?_
    assumption
  · rename_i z11 z12 z13
    refine Frame.ite (fun h14 => ?_) (fun h14 => ?_)
    · refine Frame.step ?_ (State.completeR_frame ..) rfl
      assumption
    · refine Fr.fst ?_
      assumption

theorem execStep_frame (a1 : Nat) (a2 : Option Bytes) (a3 : Option Bytes) (a4 : List (Option Bytes)) (a5 : List Peer) (a6 : State) :
    Fr getN 0x1060b09f8f1908c a6 (execStep a1 a2 a3 a4 a5 a6) := by
  unfold execStep
  refine Fr.guard ?_
  refine Frame.ite (fun h1 => ?_) (fun h1 => ?_)
  · exact Frame.refl _ _
  · refine Frame.trans ?_ (State.withDesc_frame rfl (fun u2 x3 => ?_) ..)
    · exact Frame.refl _ _
    · split
      · rename_i z4 z5 z6 z7 z8 z9 z10
        refine Frame.step ?_ (State.decideSub_frame ..) rfl
        exact Frame.refl _ _
      · rename_i z11 z12 z13 z14 z15 z16
        refine Frame.step ?_ (State.complete_frame ..) rfl
        exact Frame.refl _ _

theorem execSubmit_frame (a1 : Nat) (a2 : Option Package) (a3 : Option Bytes) (a4 : List (Option Bytes)) (a5 : List Peer) (a6 : State) :
    Fr getN 0x1060b09f8f1908c a6 (execSubmit a1 a2 a3 a4 a5 a6) := by
  unfold execSubmit
  refine Fr.guard ?_
  refine Frame.ite (fun h1 => ?_) (fun h1 => ?_)
  · exact Frame.refl _ _
  · refine Frame.trans ?_ (State.withDesc_frame rfl (fun u2 x3 => ?_) ..)
    · exact Frame.refl _ _
    · extract_lets v4
      split
      · rename_i z5 z6 z7 z8 z9 z10 z11
        refine Frame.step ?_ (State.decideSub_frame ..) rfl
        exact Frame.refl _ _
      · rename_i z12 z13 z14 z15 z16
        refine Frame.step ?_ (State.complete_frame ..) rfl
        exact Frame.refl _ _

theorem execJobRelease_frame (a1 : Nat) (a2 : State) :
    Fr getN 0x1061b09ed11928c a2 (execJobRelease a1 a2) := by
  unfold execJobRelease
  refine Fr.guard ?_
  refine Frame.ite (fun h1 => ?_) (fun h1 => ?_)
  · exact Frame.refl _ _
  · refine Frame.trans ?_ (State.withDesc_frame rfl (fun u2 x3 => ?_) ..)
    · exact Frame.refl _ _
    · refine Frame.ite (fun h4 => ?_) (fun h4 => ?_)
      · refine Frame.step ?_ (State.complete_frame ..) rfl
        exact Frame.refl _ _
      · refine Frame.step ?_ (State.releaseJob_frame ..) rfl
        exact Frame.refl _ _

theorem execCyclicLoad_frame (a1 : Nat) (a2 : Option Bytes) (a3 : State) :
    Fr getN 0x6030000168084 a3 (execCyclicLoad a1 a2 a3) := by
  unfold execCyclicLoad
  refine Fr.guard ?_
  refine Frame.trans ?_ (State.withDesc_frame rfl (fun u1 x2 => ?_) ..)
  · exact Frame.refl _ _
  · split
    · rename_i z3
      refine Frame.step ?_ (State.complete_frame ..) rfl
      exact Frame.refl _ _
    · rename_i z4 z5
      extract_lets v6 v7 v8 v9 v10 v11
      have h12 : Frame 0x6030000168084 u1 v10 := by
        unfold v10
        refine Frame.ite (fun h13 => ?_) (fun h13 => ?_)
        · apply Frame.upd
          · exact Frame.refl _ _
          all_goals first | exact Or.inr rfl | exact Or.inl rfl | exact Or.inl (Nat.le_refl _) | rfl
        · apply Frame.upd
          · exact Frame.refl _ _
          all_goals first | exact Or.inr rfl | exact Or.inl rfl | exact Or.inl (Nat.le_refl _) | rfl
      clear_value v10
      have h14 : Frame 0x6030000168084 u1 v11 := by
        unfold v11
        refine Frame.trans ?_ (State.wr_frame rfl (tb_glbA rfl) ..)
        assumption
      clear_value v11
      refine Frame.ite (fun h15 => ?_) (fun h15 => ?_)
      · refine Frame.step ?_ (State.complete_frame ..) rfl
        exact Frame.refl _ _
      · refine Frame.ite (fun h16 => ?_) (fun h16 => ?_)
        · refine Frame.step ?_ (State.complete_frame ..) rfl
          exact Frame.refl _ _
        · refine Frame.step ?_ (State.complete_frame ..) rfl
          assumption

theorem State.readInputs_frame (a1 : State) (a2 : Job) :
    Frame 0x210000 a1 (State.readInputs a1 a2) := by
  unfold State.readInputs
  extract_lets v1 v2 v3
  refine Frame.step ?_ (State.updJob_frame ..) rfl
  refine Frame.step ?_ (State.fillInputs_frame ..) rfl
  exact Frame.refl _ _

end Sys2Proof.Machine
end

