-- ==== Sys2Proof/Laws/FrameIngest.lean ====
section
/-!
SUPPORT. Frame laws of Machine/Ingest.lean: which components each of its operations may change.
-/

namespace Sys2Proof.Machine

open Sys2Proof

theorem State.slotWrite_frame (a1 : State) (a2 : Nat) (a3 : Nat) (a4 : Bytes) :
    Frame 0x200000 a1 (State.slotWrite a1 a2 a3 a4) := by
  unfold State.slotWrite
  split
  · rename_i z1 z2
    exact Frame.refl _ _
  · rename_i z3 z4 z5
    refine Frame.step ?_ (State.wrBytes_frame ..) rfl
    exact Frame.refl _ _

theorem State.tensorDone_frame (a1 : State) (a2 : Nat) (a3 : Nat) (a4 : Sample) (a5 : Bytes) :
    Frame 0x80100300000 a1 (State.tensorDone a1 a2 a3 a4 a5) := by
  unfold State.tensorDone
  extract_lets v1 v2 v3
  have h4 : Frame 0x80100300000 a1 v2 := by
    unfold v2
    refine Frame.step ?_ (State.slotWrite_frame ..) rfl
    refine Frame.step ?_ (State.slotWrite_frame ..) rfl
    exact Frame.refl _ _
  clear_value v2
  have h5 : Frame 0x80100300000 a1 v3 := by
    unfold v3
    refine Frame.step ?_ (State.setStrm_frame ..) rfl
    assumption
  clear_value v3
  refine Frame.trans ?_ (State.wr_frame rfl (tb_ingA rfl) ..)
  assumption

theorem State.wdPre_frame (a1 : State) (a2 : Nat) (a3 : Sample) :
    Frame 0x5300000108e04 a1 (State.wdPre a1 a2 a3) := by
  unfold State.wdPre
  refine Frame.ite (fun h1 => ?_) (fun h1 => ?_)
  · refine Frame.step ?_ (State.wdFault_frame ..) rfl
    refine Frame.step ?_ (State.wdMiss_frame ..) rfl
    exact Frame.refl _ _
  · exact Frame.refl _ _

theorem State.takeSlot_frame (a1 : State) (a2 : Nat) (a3 : Nat) (a4 : RingSlot) :
    Frame 0x2080900100008 a1 (State.takeSlot a1 a2 a3 a4) := by
  unfold State.takeSlot
  extract_lets v1 v2 v3
  have h4 : Frame 0x2080900100008 a1 v3 := by
    unfold v3
    refine Frame.ite (fun h5 => ?_) (fun h5 => ?_)
    · refine Frame.trans ?_ (State.count_frame rfl (tb_ingA rfl) ..)
      refine Frame.step ?_ (State.tlySync_frame ..) rfl
      exact Frame.refl _ _
    · exact Frame.refl _ _
  clear_value v3
  refine Frame.step ?_ (State.setStrm_frame ..) rfl
  assumption

theorem State.substitute_frame (a1 : State) (a2 : Nat) (a3 : Sample) (a4 : Nat) :
    Frame 0x7380900308e0c a1 (State.substitute a1 a2 a3 a4) := by
  unfold State.substitute
  extract_lets v1 v2 v3 v4
  have h5 : Frame 0x7380900308e0c a1 v1 := by
    unfold v1
    refine Frame.trans ?_ (State.put_frame rfl (tb_ingA rfl) ..)
    exact Frame.refl _ _
  clear_value v1
  have h6 : Frame 0x7380900308e0c a1 v4 := by
    unfold v4
    refine Frame.step ?_ (State.setSst_frame ..) rfl
    assumption
  clear_value v4
  refine Frame.ite (fun h7 => ?_) (fun h7 => ?_)
  · refine Frame.step ?_ (State.bump_frame ..) rfl
    refine Frame.step ?_ (State.bump_frame ..) rfl
    refine Frame.step ?_ (State.bump_frame ..) rfl
    refine Frame.step ?_ (State.wdPre_frame ..) rfl
    refine Frame.trans ?_ (State.event_frame rfl (tb_ingA rfl) (tb_ingA rfl) ..)
    assumption
  · split
    · rename_i z8 z9
      refine Frame.trans ?_ (State.event_frame rfl (tb_ingA rfl) (tb_ingA rfl) ..)
      assumption
    · rename_i z10 z11 z12
      extract_lets v13
      have h14 : Frame 0x7380900308e0c a1 v13 := by
        unfold v13
        refine Frame.step ?_ (State.slotWrite_frame ..) rfl
        refine Frame.step ?_ (State.takeSlot_frame ..) rfl
        assumption
      clear_value v13
      refine Frame.step ?_ (State.bump_frame ..) rfl
      refine Frame.step ?_ (State.bump_frame ..) rfl
      refine Frame.step ?_ (State.bump_frame ..) rfl
      refine Frame.step ?_ (State.wdPre_frame ..) rfl
      refine Frame.trans ?_ (State.event_frame rfl (tb_ingA rfl) (tb_ingA rfl) ..)
      assumption

theorem State.queueSample_frame (a1 : State) (a2 : Nat) (a3 : Sample) :
    Frame 0x2080900100008 a1 (State.queueSample a1 a2 a3) := by
  unfold State.queueSample
  split
  · rename_i z1 z2
    refine Frame.trans ?_ (State.event_frame rfl (tb_ingA rfl) (tb_ingA rfl) ..)
    exact Frame.refl _ _
  · rename_i z3 z4 z5
    extract_lets v6 v7 v8
    have h9 : Frame 0x2080900100008 a1 v6 := by
      unfold v6
      refine Frame.step ?_ (State.takeSlot_frame ..) rfl
      exact Frame.refl _ _
    clear_value v6
    refine Frame.step ?_ (State.setStrm_frame ..) rfl
    assumption

theorem State.goldenIn_frame (a1 : State) (a2 : Nat) (a3 : List Bytes) (a4 : Sample) :
    Fr getP 0x80000100000 a1 (State.goldenIn a1 a2 a3 a4) := by
  induction a3 generalizing a1 a2 a4
  · unfold State.goldenIn
    refine Fr.pair ?_
    exact Frame.refl _ _
  · rename_i hd_ tl_ ih
    unfold State.goldenIn
    extract_lets v12 v13 v14 v15
    refine Fr.ite (fun h16 => ?_) (fun h16 => ?_)
    · refine Fr.step ?_ (ih ..) rfl
      refine Frame.trans ?_ (State.event_frame rfl (tb_ingA rfl) (tb_ingA rfl) ..)
      exact Frame.refl _ _
    · refine Fr.ite (fun h17 => ?_) (fun h17 => ?_)
      · refine Fr.pair ?_
        exact Frame.refl _ _
      · refine Fr.ite (fun h18 => ?_) (fun h18 => ?_)
        · refine Fr.pair ?_
          exact Frame.refl _ _
        · refine Fr.step ?_ (ih ..) rfl
          exact Frame.refl _ _

theorem State.present_frame (a1 : State) (a2 : Nat) (a3 : Nat) (a4 : Nat) (a5 : Golden) :
    Frame 0x7380900308e0c a1 (State.present a1 a2 a3 a4 a5) := by
  unfold State.present
  extract_lets v1 v2 v3 v4 v5 v6 v7 v8 v9
  have h10 : Frame 0x7380900308e0c a1 v3 := by
    unfold v3
    refine Frame.trans ?_ (State.put_frame rfl (tb_safSt rfl) ..)
    refine Frame.step ?_ (State.setSst_frame ..) rfl
    exact Frame.refl _ _
  clear_value v3
  have h11 : Fr getP 0x7380900308e0c a1 v5 := by
    unfold v5
    refine Fr.step ?_ (State.goldenIn_frame ..) rfl
    assumption
  clear_value v5
  have h12 : Frame 0x7380900308e0c a1 v6 := by
    unfold v6
    refine Fr.fst ?_
    assumption
  clear_value v6
  refine Frame.ite (fun h13 => ?_) (fun h13 => ?_)
  · refine Frame.step ?_ (State.setStrm_frame ..) rfl
    assumption
  · refine Frame.step ?_ (State.substitute_frame ..) rfl
    assumption

theorem State.gapOpen_frame (a1 : State) (a2 : Nat) (a3 : Nat) (a4 : Nat) :
    Frame 0x7380900308e0c a1 (State.gapOpen a1 a2 a3 a4) := by
  unfold State.gapOpen
  extract_lets v1 v2
  have h3 : Frame 0x7380900308e0c a1 v2 := by
    unfold v2
    refine Frame.trans ?_ (State.put_frame rfl (tb_safSt rfl) ..)
    exact Frame.refl _ _
  clear_value v2
  split
  · rename_i z4 z5
    assumption
  · rename_i z6 z7 z8
    refine Frame.ite (fun h9 => ?_) (fun h9 => ?_)
    · assumption
    · refine Frame.ite (fun h10 => ?_) (fun h10 => ?_)
      · refine Frame.step ?_ (State.canaryDefer_frame ..) rfl
        assumption
      · refine Frame.step ?_ (State.present_frame ..) rfl
        assumption

theorem State.sampleDone_frame (a1 : State) (a2 : Nat) (a3 : Sample) :
    Frame 0x7380900308e0c a1 (State.sampleDone a1 a2 a3) := by
  unfold State.sampleDone
  extract_lets v1 v2 v3 v4 v5 v6 v7
  have h8 : Frame 0x7380900308e0c a1 v5 := by
    unfold v5
    refine Frame.step ?_ (State.setStrm_frame ..) rfl
    exact Frame.refl _ _
  clear_value v5
  have h9 : Frame 0x7380900308e0c a1 v6 := by
    unfold v6
    refine Frame.step ?_ (State.wdIngest_frame ..) rfl
    refine Frame.trans ?_ (State.count_frame rfl (tb_ingA rfl) ..)
    refine Frame.trans ?_ (State.wr_frame rfl (tb_ingA rfl) ..)
    assumption
  clear_value v6
  have h10 : Frame 0x7380900308e0c a1 v7 := by
    unfold v7
    refine Frame.ite (fun h11 => ?_) (fun h11 => ?_)
    · refine Frame.trans ?_ (State.event_frame rfl (tb_ingA rfl) (tb_ingA rfl) ..)
      refine Frame.ite (fun h12 => ?_) (fun h12 => ?_)
      · assumption
      · refine Frame.trans ?_ (State.put_frame rfl (tb_ingA rfl) ..)
        assumption
    · refine Frame.ite (fun h13 => ?_) (fun h13 => ?_)
      · refine Frame.step ?_ (State.substitute_frame ..) rfl
        assumption
      · refine Frame.step ?_ (State.queueSample_frame ..) rfl
        assumption
  clear_value v7
  refine Frame.step ?_ (State.gapOpen_frame ..) rfl
  assumption

theorem State.closeSample_frame (a1 : State) (a2 : Nat) (a3 : Sample) :
    Frame 0x7380900308e0c a1 (State.closeSample a1 a2 a3) := by
  unfold State.closeSample
  refine Frame.step ?_ (State.sampleDone_frame ..) rfl
  exact Frame.refl _ _

theorem State.assemble_frame (s : State) (st stamp u : Nat) (b : Bytes) :
    Frame 0x7380900308e0c s (s.assemble st stamp u b) := by
  unfold State.assemble
  extract_lets r rtp cur ts v x y full w z src t
  have hv : Frame 0x7380900308e0c s v := by
    unfold v
    generalize cur = c
    cases c with
    | none => exact Frame.refl _ _
    | some x => exact Frame.ite (fun _ => Frame.refl _ _) (fun _ => Frame.step (Frame.refl _ _) (State.closeSample_frame ..) rfl)
  have hw : Frame 0x7380900308e0c s w := Frame.ite (fun _ => Frame.trans hv (State.event_frame rfl (tb_ingW rfl) (tb_ingW rfl) ..)) (fun _ => hv)
  have ht : Frame 0x7380900308e0c s t := Frame.step hw (State.setStrm_frame ..) rfl
  exact Frame.ite (fun _ => Frame.step ht (State.sampleDone_frame ..) rfl) (fun _ => ht)

theorem State.sensorIn_frame (a1 : State) (a2 : Nat) (a3 : Nat) (a4 : Nat) (a5 : Packet) :
    Frame 0x73d0900309e0c a1 (State.sensorIn a1 a2 a3 a4 a5) := by
  unfold State.sensorIn
  extract_lets v1 v2
  have h3 : Frame 0x73d0900309e0c a1 v2 := by
    unfold v2
    refine Frame.step ?_ (State.slogAdd_frame ..) rfl
    refine Frame.step ?_ (State.stamped_frame ..) rfl
    refine Frame.step ?_ (State.tally_frame ..) rfl
    exact Frame.refl _ _
  clear_value v2
  refine Frame.ite (fun h4 => ?_) (fun h4 => ?_)
  · refine Frame.trans ?_ (State.event_frame rfl (tb_ingA rfl) (tb_ingA rfl) ..)
    assumption
  · refine Frame.step ?_ (State.ingQueue_frame ..) rfl
    refine Frame.step ?_ (State.assemble_frame ..) rfl
    assumption

theorem State.updSample_frame (a1 : State) (a2 : Nat) (a3 : Sample → Bool) (a4 : Sample → Sample) :
    Frame 0x100000000 a1 (State.updSample a1 a2 a3 a4) := by
  unfold State.updSample
  refine Frame.step ?_ (State.setStrm_frame ..) rfl
  exact Frame.refl _ _

theorem State.offloadOne_frame (a1 : State) :
    Frame 0x60a090010808c a1 (State.offloadOne a1) := by
  unfold State.offloadOne
  split
  · rename_i z1 z2 z3 z4 z5 z6 z7 z8
    extract_lets v9 v10 v11 v12
    have h13 : Frame 0x60a090010808c a1 v11 := by
      unfold v11
      refine Frame.step ?_ (State.complete_frame ..) rfl
      refine Frame.step ?_ (State.hostData_frame ..) rfl
      exact Frame.refl _ _
    clear_value v11
    have h14 : Frame 0x60a090010808c a1 v12 := by
      unfold v12
      refine Frame.step ?_ (State.updSample_frame ..) rfl
      assumption
    clear_value v12
    refine Frame.ite (fun h15 => ?_) (fun h15 => ?_)
    · refine Frame.step ?_ (State.complete_frame ..) rfl
      exact Frame.refl _ _
    · refine Frame.step ?_ (State.ingQueue_frame ..) rfl
      refine Frame.trans ?_ (State.event_frame rfl (tb_ingA rfl) (tb_ingA rfl) ..)
      assumption
  · rename_i z16 z17 z18
    exact Frame.refl _ _

theorem State.dropSample_frame (a1 : State) (a2 : Nat) (a3 : Sample) :
    Frame 0x100000000 a1 (State.dropSample a1 a2 a3) := by
  unfold State.dropSample
  refine Frame.step ?_ (State.setStrm_frame ..) rfl
  exact Frame.refl _ _

theorem State.sampleFails_frame (a1 : State) (a2 : Nat) (a3 : Sample) (a4 : Nat) :
    Frame 0x7380900308e0c a1 (State.sampleFails a1 a2 a3 a4) := by
  unfold State.sampleFails
  extract_lets v1 v2 v3
  have h4 : Frame 0x7380900308e0c a1 v1 := by
    unfold v1
    refine Frame.step ?_ (State.dropSample_frame ..) rfl
    refine Frame.step ?_ (State.tlySync_frame ..) rfl
    exact Frame.refl _ _
  clear_value v1
  have h5 : Frame 0x7380900308e0c a1 v3 := by
    unfold v3
    split
    · rename_i z6 z7
      assumption
    · rename_i z8 z9 z10
      refine Frame.step ?_ (State.setStrm_frame ..) rfl
      assumption
  clear_value v3
  refine Frame.step ?_ (State.ingQueue_frame ..) rfl
  refine Frame.step ?_ (State.substitute_frame ..) rfl
  assumption

theorem execHostDecodeTimeout_frame (a1 : Nat) (a2 : Nat) (a3 : State) :
    Fr getN 0x73c0900308e3c a3 (execHostDecodeTimeout a1 a2 a3) := by
  unfold execHostDecodeTimeout
  refine Fr.guard ?_
  split
  · rename_i z1 z2
    exact Frame.refl _ _
  · rename_i z3 z4 z5 z6
    refine Frame.trans ?_ (State.atRef_frame rfl (fun u7 => ?_) ..)
    · exact Frame.refl _ _
    · refine Frame.step ?_ (State.sampleFails_frame ..) rfl
      exact Frame.refl _ _

theorem State.countTensor_frame (a1 : State) (a2 : Nat) (a3 : TensorOut) :
    Frame 0x80000100000 a1 (State.countTensor a1 a2 a3) := by
  unfold State.countTensor
  extract_lets v1 v2
  have h3 : Frame 0x80000100000 a1 v1 := by
    unfold v1
    refine Frame.ite (fun h4 => ?_) (fun h4 => ?_)
    · exact Frame.refl _ _
    · refine Frame.trans ?_ (State.countN_frame rfl (tb_ingA rfl) ..)
      refine Frame.trans ?_ (State.raise_frame rfl (tb_ingA rfl) ..)
      exact Frame.refl _ _
  clear_value v1
  have h5 : Frame 0x80000100000 a1 v2 := by
    unfold v2
    refine Frame.ite (fun h6 => ?_) (fun h6 => ?_)
    · assumption
    · refine Frame.trans ?_ (State.countN_frame rfl (tb_ingA rfl) ..)
      refine Frame.trans ?_ (State.raise_frame rfl (tb_ingA rfl) ..)
      assumption
  clear_value v2
  refine Frame.trans ?_ (State.countN_frame rfl (tb_ingA rfl) ..)
  assumption

theorem execPreprocessWatchdogExpiry_frame (a1 : Nat) (a2 : State) :
    Fr getN 0x5340100108e34 a2 (execPreprocessWatchdogExpiry a1 a2) := by
  unfold execPreprocessWatchdogExpiry
  refine Fr.guard ?_
  split
  · rename_i z1 z2
    exact Frame.refl _ _
  · rename_i z3 z4 z5
    refine Frame.trans ?_ (State.atT_frame rfl (fun u6 => ?_) ..)
    · exact Frame.refl _ _
    · extract_lets v7
      have h8 : Frame 0x5340100108e34 u6 v7 := by
        unfold v7
        refine Frame.step ?_ (State.updSample_frame ..) rfl
        exact Frame.refl _ _
      clear_value v7
      refine Frame.step ?_ (State.wdFault_frame ..) rfl
      refine Frame.step ?_ (State.wdMiss_frame ..) rfl
      assumption

theorem execSensorPacket_frame (a1 : Nat) (a2 : Nat) (a3 : Nat) (a4 : Packet) (a5 : State) :
    Fr getN 0x73d0900309e0c a5 (execSensorPacket a1 a2 a3 a4 a5) := by
  unfold execSensorPacket
  refine Fr.guard ?_
  refine Frame.ite (fun h1 => ?_) (fun h1 => ?_)
  · refine Frame.step ?_ (State.sensorIn_frame ..) rfl
    exact Frame.refl _ _
  · exact Frame.refl _ _

theorem execSampleTimeout_frame (a1 : Nat) (a2 : State) :
    Fr getN 0x73c0900308e3c a2 (execSampleTimeout a1 a2) := by
  unfold execSampleTimeout
  refine Fr.guard ?_
  split
  · rename_i z1 z2
    exact Frame.refl _ _
  · rename_i z3 z4 z5
    refine Frame.trans ?_ (State.atRef_frame rfl (fun u6 => ?_) ..)
    · exact Frame.refl _ _
    · refine Frame.step ?_ (State.ingQueue_frame ..) rfl
      refine Frame.step ?_ (State.closeSample_frame ..) rfl
      exact Frame.refl _ _

theorem State.offloadAll_frame (a1 : State) :
    Frame 0x60a090010808c a1 (State.offloadAll a1) := by
  unfold State.offloadAll
  refine Frame.foldl ?_ (fun u1 x2 h3 => ?_)
  · exact Frame.refl _ _
  · refine Frame.step ?_ (State.offloadOne_frame ..) rfl
    assumption

theorem execSampleProcessStart_frame (a1 : State) :
    Fr getN 0x60a090010808c a1 (execSampleProcessStart a1) := by
  unfold execSampleProcessStart
  refine Fr.next ?_
  extract_lets v1
  have h2 : Frame 0x60a090010808c a1 v1 := by
    unfold v1
    refine Frame.step ?_ (State.offloadAll_frame ..) rfl
    exact Frame.refl _ _
  clear_value v1
  split
  · rename_i z3 z4
    assumption
  · rename_i z5 z6 z7 z8
    refine Frame.step ?_ (State.updSample_frame ..) rfl
    refine Frame.step ?_ (State.tlySync_frame ..) rfl
    assumption

theorem execTensorComplete_frame (a1 : Nat) (a2 : State) :
    Fr getN 0x7380900308e0c a2 (execTensorComplete a1 a2) := by
  unfold execTensorComplete
  refine Fr.guard ?_
  split
  · rename_i z1 z2
    exact Frame.refl _ _
  · rename_i z3 z4 z5
    extract_lets v6 v7 v8 v9
    have h10 : Frame 0x7380900308e0c a2 v8 := by
      unfold v8
      refine Frame.step ?_ (State.wdPre_frame ..) rfl
      refine Frame.step ?_ (State.countTensor_frame ..) rfl
      refine Frame.step ?_ (State.dropSample_frame ..) rfl
      refine Frame.step ?_ (State.tlySync_frame ..) rfl
      exact Frame.refl _ _
    clear_value v8
    refine Frame.ite (fun h11 => ?_) (fun h11 => ?_)
    · refine Frame.step ?_ (State.setSst_frame ..) rfl
      assumption
    · split
      · rename_i z12 z13
        refine Frame.step ?_ (State.ingQueue_frame ..) rfl
        assumption
      · rename_i z14 z15 z16
        refine Frame.step ?_ (State.ingQueue_frame ..) rfl
        refine Frame.step ?_ (State.tensorDone_frame ..) rfl
        assumption

theorem execDecodeError_frame (a1 : Nat) (a2 : State) :
    Fr getN 0x7380900308e0c a2 (execDecodeError a1 a2) := by
  unfold execDecodeError
  refine Fr.guard ?_
  split
  · rename_i z1 z2
    exact Frame.refl _ _
  · rename_i z3 z4 z5
    refine Frame.ite (fun h6 => ?_) (fun h6 => ?_)
    · refine Frame.step ?_ (State.sampleFails_frame ..) rfl
      exact Frame.refl _ _
    · exact Frame.refl _ _

theorem execOffloadPost_frame (a1 : Nat) (a2 : State) :
    Fr getN 0x60a090010808c a2 (execOffloadPost a1 a2) := by
  unfold execOffloadPost
  refine Fr.guard ?_
  refine Frame.trans ?_ (State.withDesc_frame rfl (fun u1 x2 => ?_) ..)
  · exact Frame.refl _ _
  · refine Frame.step ?_ (State.offloadAll_frame ..) rfl
    exact Frame.refl _ _

theorem execDecoded_frame (a1 : Nat) (a2 : Option Bytes) (a3 : State) :
    Fr getN 0x73a0900308e8c a3 (execDecoded a1 a2 a3) := by
  unfold execDecoded
  refine Fr.guard ?_
  refine Frame.trans ?_ (State.withDesc_frame rfl (fun u1 x2 => ?_) ..)
  · exact Frame.refl _ _
  · extract_lets v3
    split
    · rename_i z4 z5
      refine Frame.step ?_ (State.complete_frame ..) rfl
      exact Frame.refl _ _
    · rename_i z6 z7 z8 z9
      extract_lets v10
      refine Frame.ite (fun h11 => ?_) (fun h11 => ?_)
      · refine Frame.step ?_ (State.complete_frame ..) rfl
        refine Frame.step ?_ (State.sampleFails_frame ..) rfl
        exact Frame.refl _ _
      · refine Frame.ite (fun h12 => ?_) (fun h12 => ?_)
        · refine Frame.step ?_ (State.complete_frame ..) rfl
          refine Frame.step ?_ (State.sampleFails_frame ..) rfl
          exact Frame.refl _ _
        · split
          · rename_i z13
            refine Frame.step ?_ (State.complete_frame ..) rfl
            exact Frame.refl _ _
          · rename_i z14 z15
            extract_lets v16
            have h17 : Frame 0x73a0900308e8c u1 v16 := by
              unfold v16
              refine Frame.step ?_ (State.updSample_frame ..) rfl
              exact Frame.refl _ _
            clear_value v16
            refine Frame.step ?_ (State.complete_frame ..) rfl
            assumption

end Sys2Proof.Machine
end

