-- ==== Sys2Proof/Laws/FrameTileOps.lean ====
section
/-!
SUPPORT. Frame laws of Machine/TileOps.lean: which components each of its operations may change.
-/

namespace Sys2Proof.Machine

open Sys2Proof

theorem State.kvRetire_frame (a1 : State) (a2 : TileCtx) (a3 : Nat) :
    Frame 0x100000010110000 a1 (State.kvRetire a1 a2 a3) := by
  unfold State.kvRetire
  split
  · rename_i z1 z2
    exact Frame.refl _ _
  · rename_i z3 z4 z5
    refine Frame.ite (fun h6 => ?_) (fun h6 => ?_)
    · exact Frame.refl _ _
    · extract_lets v7
      have h8 : Frame 0x100000010110000 a1 v7 := by
        unfold v7
        refine Frame.trans ?_ (State.event_frame rfl (tb_kvA rfl) (tb_kvA rfl) ..)
        refine Frame.step ?_ (State.setSeq_frame ..) rfl
        exact Frame.refl _ _
      clear_value v7
      refine Frame.step ?_ (State.updJob_frame ..) rfl
      assumption

theorem spPut_wf (base a : Nat) (b : Bytes) : ∀ m, twf 0 m = true → twf 0 (spPut base a b m) = true := by
  induction b generalizing a with
  | nil => intro m w; exact w
  | cons x b ih => intro m w; exact ih (a + 1) _ (twf_tset _ x w)

theorem State.spWr_frame (s : State) (x : TileCtx) (a : Nat) (b : Bytes) : Frame 0x200000 s (s.spWr x a b) :=
  s.setMem_frame x.die (spPut (spadLo x.core) a b) (spPut_wf _ a b)

theorem State.quantPass_frame (a1 : State) (a2 : TileCtx) (a3 : QuantOp) :
    Frame 0x100000000310000 a1 (State.quantPass a1 a2 a3) := by
  unfold State.quantPass
  extract_lets v1 v2 v3 v4 v5
  have h6 : Frame 0x100000000310000 a1 v4 := by
    unfold v4
    refine Frame.step ?_ (State.spWr_frame ..) rfl
    exact Frame.refl _ _
  clear_value v4
  have h7 : Frame 0x100000000310000 a1 v5 := by
    unfold v5
    refine Frame.step ?_ (State.updJob_frame ..) rfl
    assumption
  clear_value v5
  refine Frame.trans ?_ (State.count64_frame rfl (tb_mcA rfl) (tbDie (by unfold mcA; omega) (by unfold mcA; omega) rfl) ..)
  refine Frame.trans ?_ (State.count64_frame rfl (tb_mcA rfl) (tbDie (by unfold mcA; omega) (by unfold mcA; omega) rfl) ..)
  refine Frame.trans ?_ (State.count64_frame rfl (tb_mcA rfl) (tbDie (by unfold mcA; omega) (by unfold mcA; omega) rfl) ..)
  assumption

theorem State.putRow_frame (a1 : State) (a2 : TileCtx) (a3 : Nat) (a4 : List F32) :
    Frame 0x200000 a1 (State.putRow a1 a2 a3 a4) := by
  unfold State.putRow
  refine Frame.step ?_ (State.spWr_frame ..) rfl
  exact Frame.refl _ _

theorem State.attFlags_frame (a1 : State) (a2 : Nat) (a3 : Bool) (a4 : Bool) :
    Frame 0x100000000100000 a1 (State.attFlags a1 a2 a3 a4) := by
  unfold State.attFlags
  extract_lets v1
  have h2 : Frame 0x100000000100000 a1 v1 := by
    unfold v1
    refine Frame.ite (fun h3 => ?_) (fun h3 => ?_)
    · refine Frame.trans ?_ (State.event_frame rfl (tb_kvA rfl) (tb_kvA rfl) ..)
      exact Frame.refl _ _
    · exact Frame.refl _ _
  clear_value v1
  refine Frame.ite (fun h4 => ?_) (fun h4 => ?_)
  · refine Frame.trans ?_ (State.event_frame rfl (tb_kvA rfl) (tb_kvA rfl) ..)
    assumption
  · assumption

theorem State.attnRun_frame (a1 : State) (a2 : TileCtx) (a3 : AttnOp) :
    Frame 0x100000010310008 a1 (State.attnRun a1 a2 a3) := by
  unfold State.attnRun
  split
  · rename_i z1 z2
    exact Frame.refl _ _
  · rename_i z3 z4 z5
    extract_lets v6 v7
    have h8 : Frame 0x100000010310008 a1 v7 := by
      unfold v7
      apply Frame.upd
      · exact Frame.refl _ _
      all_goals first | exact Or.inr rfl | exact Or.inl rfl | exact Or.inl (Nat.le_refl _) | rfl
    clear_value v7
    refine Frame.ite (fun h9 => ?_) (fun h9 => ?_)
    · refine Frame.step ?_ (State.putRow_frame ..) rfl
      exact Frame.refl _ _
    · split
      · rename_i z10 z11
        refine Frame.step ?_ (State.putRow_frame ..) rfl
        apply Frame.upd
        · exact Frame.refl _ _
        all_goals first | exact Or.inr rfl | exact Or.inl rfl | exact Or.inl (Nat.le_refl _) | rfl
      · rename_i z12 z13 z14
        extract_lets v15 v16 v17 v18 v19 v20 v21
        refine Frame.ite (fun h22 => ?_) (fun h22 => ?_)
        · refine Frame.step ?_ (State.putRow_frame ..) rfl
          refine Frame.step ?_ (State.kvRetire_frame ..) rfl
          exact Frame.refl _ _
        · refine Frame.step ?_ (State.attFlags_frame ..) rfl
          refine Frame.step ?_ (State.putRow_frame ..) rfl
          assumption

theorem State.kvStore_frame (a1 : State) (a2 : TileCtx) (a3 : Nat) (a4 : Nat) (a5 : Nat) (a6 : Nat) (a7 : Nat) (a8 : Nat) (a9 : Nat) (a10 : Nat) :
    Frame 0x200000 a1 (State.kvStore a1 a2 a3 a4 a5 a6 a7 a8 a9 a10) := by
  unfold State.kvStore
  extract_lets v1 v2 v3 v4
  split
  · rename_i z5 z6 z7 z8 z9 z10
    split
    · rename_i z11 z12
      exact Frame.refl _ _
    · rename_i z13 z14 z15
      extract_lets v16 v17 v18 v19
      have h20 : Frame 0x200000 a1 v18 := by
        unfold v18
        unfold v17
        extract_lets v21 v22
        have h23 : Frame 0x200000 a1 v21 := by
          unfold v21
          refine Frame.step ?_ (State.wrBytes_frame ..) rfl
          exact Frame.refl _ _
        clear_value v21
        have h24 : Frame 0x200000 a1 v22 := by
          unfold v22
          refine Frame.step ?_ (State.wrBytes_frame ..) rfl
          refine Frame.ite (fun h25 => ?_) (fun h25 => ?_)
          · refine Frame.step ?_ (State.wrBytes_frame ..) rfl
            assumption
          · assumption
        clear_value v22
        refine Frame.ite (fun h26 => ?_) (fun h26 => ?_)
        · refine Frame.step ?_ (State.wrBytes_frame ..) rfl
          assumption
        · assumption
      clear_value v18
      refine Frame.step ?_ (State.setPte_frame ..) rfl
      assumption
  · rename_i z27 z28 z29
    exact Frame.refl _ _

theorem State.tileOp_frame (a1 : TileCtx) (a2 : State) (a3 : TileOp) :
    Frame 0x100000010310008 a2 (State.tileOp a1 a2 a3) := by
  unfold State.tileOp
  extract_lets v1
  split
  · rename_i z2 z3 z4 z5 z6 z7 z8 z9 z10 z11 z12
    refine Frame.ite (fun h13 => ?_) (fun h13 => ?_)
    · refine Frame.step ?_ (State.spWr_frame ..) rfl
      exact Frame.refl _ _
    · exact Frame.refl _ _
  · rename_i z14 z15 z16 z17 z18 z19
    refine Frame.step ?_ (State.spWr_frame ..) rfl
    exact Frame.refl _ _
  · rename_i z20 z21 z22 z23 z24 z25 z26
    refine Frame.ite (fun h27 => ?_) (fun h27 => ?_)
    · refine Frame.step ?_ (State.spWr_frame ..) rfl
      exact Frame.refl _ _
    · exact Frame.refl _ _
  · rename_i z28 z29 z30 z31 z32 z33 z34
    refine Frame.ite (fun h35 => ?_) (fun h35 => ?_)
    · refine Frame.step ?_ (State.spWr_frame ..) rfl
      exact Frame.refl _ _
    · exact Frame.refl _ _
  · rename_i z36 z37
    refine Frame.step ?_ (State.quantPass_frame ..) rfl
    exact Frame.refl _ _
  · rename_i z38 z39 z40 z41 z42 z43 z44
    refine Frame.step ?_ (State.spWr_frame ..) rfl
    exact Frame.refl _ _
  · rename_i z45 z46 z47 z48 z49 z50 z51
    refine Frame.step ?_ (State.spWr_frame ..) rfl
    exact Frame.refl _ _
  · rename_i z52 z53 z54 z55 z56 z57
    refine Frame.step ?_ (State.spWr_frame ..) rfl
    exact Frame.refl _ _
  · rename_i z58 z59 z60 z61 z62 z63 z64
    refine Frame.step ?_ (State.spWr_frame ..) rfl
    exact Frame.refl _ _
  · rename_i z65 z66 z67 z68 z69 z70
    refine Frame.step ?_ (State.spWr_frame ..) rfl
    exact Frame.refl _ _
  · rename_i z71 z72 z73 z74 z75 z76
    refine Frame.step ?_ (State.spWr_frame ..) rfl
    exact Frame.refl _ _
  · rename_i z77 z78 z79 z80 z81 z82
    refine Frame.step ?_ (State.spWr_frame ..) rfl
    exact Frame.refl _ _
  · rename_i z83 z84 z85 z86 z87 z88
    extract_lets v89 v90
    refine Frame.step ?_ (State.spWr_frame ..) rfl
    exact Frame.refl _ _
  · rename_i z91 z92
    refine Frame.step ?_ (State.attnRun_frame ..) rfl
    exact Frame.refl _ _
  · rename_i z93 z94 z95 z96 z97 z98 z99 z100 z101
    refine Frame.step ?_ (State.kvStore_frame ..) rfl
    exact Frame.refl _ _

end Sys2Proof.Machine
end

