-- ==== Sys2Proof/Laws/FrameCollective.lean ====
section
/-!
SUPPORT. Frame laws of Machine/Collective.lean: which components each of its operations may change.
-/

namespace Sys2Proof.Machine

open Sys2Proof

theorem State.report_frame (a1 : State) (a2 : Job) (a3 : Status) :
    Frame 0x20008c010000c a1 (State.report a1 a2 a3) := by
  unfold State.report
  split
  · rename_i z1 z2 z3
    refine Frame.step ?_ (State.sendEnd_frame ..) rfl
    exact Frame.refl _ _
  · rename_i z4 z5
    refine Frame.step ?_ (State.tellPeers_frame ..) rfl
    exact Frame.refl _ _

theorem State.abortEvent_frame (a1 : State) :
    Frame 0x800000100000 a1 (State.abortEvent a1) := by
  unfold State.abortEvent
  refine Frame.trans ?_ (State.event_frame rfl (tb_fabA rfl) (tb_fabA rfl) ..)
  exact Frame.refl _ _

theorem State.haltJob_frame (a1 : State) (a2 : Nat) (a3 : Status) :
    Frame 0x1061b09ed11928c a1 (State.haltJob a1 a2 a3) := by
  unfold State.haltJob
  split
  · rename_i z1 z2
    exact Frame.refl _ _
  · rename_i z3 z4 z5
    refine Frame.ite (fun h6 => ?_) (fun h6 => ?_)
    · refine Frame.step ?_ (State.updJob_frame ..) rfl
      exact Frame.refl _ _
    · refine Frame.ite (fun h7 => ?_) (fun h7 => ?_)
      · exact Frame.refl _ _
      · refine Frame.step ?_ (State.endSoon_frame ..) rfl
        refine Frame.step ?_ (State.report_frame ..) rfl
        exact Frame.refl _ _

theorem State.collFail_frame (a1 : State) (a2 : Nat) :
    Frame 0x1069b09ed11928c a1 (State.collFail a1 a2) := by
  unfold State.collFail
  refine Frame.step ?_ (State.haltJob_frame ..) rfl
  refine Frame.step ?_ (State.abortEvent_frame ..) rfl
  exact Frame.refl _ _

theorem State.collTo_frame (a1 : State) (a2 : CollCtx) (a3 : Nat) (a4 : CollPart) (a5 : Bytes) :
    Frame 0x1069b09ed11928c a1 (State.collTo a1 a2 a3 a4 a5) := by
  unfold State.collTo
  extract_lets v1 v2
  refine Frame.ite (fun h3 => ?_) (fun h3 => ?_)
  · refine Frame.step ?_ (State.sendTo_frame ..) rfl
    exact Frame.refl _ _
  · refine Frame.step ?_ (State.collFail_frame ..) rfl
    exact Frame.refl _ _

theorem State.collTell_frame (a1 : State) (a2 : CollCtx) (a3 : Nat) (a4 : Nat) :
    Frame 0x20008c010000c a1 (State.collTell a1 a2 a3 a4) := by
  unfold State.collTell
  refine Frame.step ?_ (State.sendTo_frame ..) rfl
  exact Frame.refl _ _

theorem State.collStore_frame (a1 : State) (a2 : CollCtx) (a3 : Nat) (a4 : Bytes) :
    Frame 0x200000 a1 (State.collStore a1 a2 a3 a4) := by
  unfold State.collStore
  split
  · rename_i z1 z2
    exact Frame.refl _ _
  · rename_i z3 z4 z5
    extract_lets v6 v7
    refine Frame.foldl ?_ (fun u8 x9 h10 => ?_)
    · exact Frame.refl _ _
    · refine Frame.step ?_ (State.wrBytes_frame ..) rfl
      assumption

theorem State.updColl_frame (a1 : State) (a2 : CollCtx) (a3 : Coll → Coll) :
    Frame 0x10000 a1 (State.updColl a1 a2 a3) := by
  unfold State.updColl
  refine Frame.step ?_ (State.updJob_frame ..) rfl
  exact Frame.refl _ _

theorem State.collGive_frame (a1 : CollCtx) (a2 : State) (a3 : Nat × Bytes) :
    Frame 0x1069b09ed31928c a2 (State.collGive a1 a2 a3) := by
  unfold State.collGive
  refine Frame.ite (fun h1 => ?_) (fun h1 => ?_)
  · refine Frame.step ?_ (State.collTell_frame ..) rfl
    refine Frame.step ?_ (State.collStore_frame ..) rfl
    exact Frame.refl _ _
  · refine Frame.step ?_ (State.collTo_frame ..) rfl
    refine Frame.step ?_ (State.updColl_frame ..) rfl
    exact Frame.refl _ _

theorem State.collResult_frame (a1 : State) (a2 : CollCtx) (a3 : Bytes) :
    Frame 0x1069b09ed31928c a1 (State.collResult a1 a2 a3) := by
  unfold State.collResult
  refine Frame.foldl ?_ (fun u1 x2 h3 => ?_)
  · exact Frame.refl _ _
  · refine Frame.step ?_ (State.collGive_frame ..) rfl
    assumption

theorem State.collNode_frame (a1 : CollCtx) (a2 : Nat) (a3 : Nat × Nat) (a4 : Bytes) (a5 : State) :
    Frame 0x1069b09ed31928c a5 (State.collNode a1 a2 a3 a4 a5) := by
  induction a2 generalizing a1 a3 a4 a5
  · unfold State.collNode
    exact Frame.refl _ _
  · rename_i k_ ih
    unfold State.collNode
    extract_lets v1 v2 v3
    refine Frame.ite (fun h4 => ?_) (fun h4 => ?_)
    · refine Frame.step ?_ (State.collTo_frame ..) rfl
      exact Frame.refl _ _
    · refine Frame.ite (fun h5 => ?_) (fun h5 => ?_)
      · refine Frame.step ?_ (State.collResult_frame ..) rfl
        exact Frame.refl _ _
      · split
        · rename_i z6 z7
          refine Frame.step ?_ (State.updColl_frame ..) rfl
          exact Frame.refl _ _
        · rename_i z8 z9 z10
          extract_lets v11
          refine Frame.step ?_ (ih ..) rfl
          refine Frame.step ?_ (State.updColl_frame ..) rfl
          exact Frame.refl _ _

theorem State.collArr_frame (a1 : State) (a2 : CollCtx) (a3 : Nat) (a4 : Bytes) :
    Frame 0x1069b09ed31928c a1 (State.collArr a1 a2 a3 a4) := by
  unfold State.collArr
  refine Frame.ite (fun h1 => ?_) (fun h1 => ?_)
  · refine Frame.step ?_ (State.collTo_frame ..) rfl
    exact Frame.refl _ _
  · extract_lets v2 v3 v4
    refine Frame.ite (fun h5 => ?_) (fun h5 => ?_)
    · refine Frame.step ?_ (State.updColl_frame ..) rfl
      exact Frame.refl _ _
    · refine Frame.step ?_ (State.collResult_frame ..) rfl
      refine Frame.step ?_ (State.updColl_frame ..) rfl
      exact Frame.refl _ _

theorem State.collIn_frame (a1 : State) (a2 : CollCtx) (a3 : CollPart) (a4 : Bytes) :
    Frame 0x1069b09ed31928c a1 (State.collIn a1 a2 a3 a4) := by
  unfold State.collIn
  split
  · rename_i z1 z2 z3
    refine Frame.ite (fun h4 => ?_) (fun h4 => ?_)
    · refine Frame.step ?_ (State.collNode_frame ..) rfl
      exact Frame.refl _ _
    · exact Frame.refl _ _
  · rename_i z5 z6
    refine Frame.ite (fun h7 => ?_) (fun h7 => ?_)
    · exact Frame.refl _ _
    · refine Frame.ite (fun h8 => ?_) (fun h8 => ?_)
      · refine Frame.step ?_ (State.collNode_frame ..) rfl
        exact Frame.refl _ _
      · refine Frame.step ?_ (State.collArr_frame ..) rfl
        exact Frame.refl _ _
  · rename_i z9 z10
    refine Frame.step ?_ (State.collTell_frame ..) rfl
    refine Frame.step ?_ (State.collStore_frame ..) rfl
    exact Frame.refl _ _

theorem State.collOwn_frame (a1 : State) (a2 : CollCtx) :
    Frame 0x1069b09ed31928c a1 (State.collOwn a1 a2) := by
  unfold State.collOwn
  split
  · rename_i z1 z2
    exact Frame.refl _ _
  · rename_i z3 z4 z5
    extract_lets v6 v7 v8
    refine Frame.ite (fun h9 => ?_) (fun h9 => ?_)
    · refine Frame.foldl ?_ (fun u10 x11 h12 => ?_)
      · exact Frame.refl _ _
      · refine Frame.step ?_ (State.collGive_frame ..) rfl
        assumption
    · refine Frame.ite (fun h13 => ?_) (fun h13 => ?_)
      · refine Frame.ite (fun h14 => ?_) (fun h14 => ?_)
        · refine Frame.foldl ?_ (fun u15 x16 h17 => ?_)
          · exact Frame.refl _ _
          · refine Frame.step ?_ (State.collGive_frame ..) rfl
            assumption
        · exact Frame.refl _ _
      · refine Frame.ite (fun h18 => ?_) (fun h18 => ?_)
        · exact Frame.refl _ _
        · refine Frame.step ?_ (State.collIn_frame ..) rfl
          exact Frame.refl _ _

theorem State.collStart_frame (a1 : State) (a2 : Job) (a3 : Package) (a4 : Nat) :
    Frame 0x1069b09ed31928c a1 (State.collStart a1 a2 a3 a4) := by
  unfold State.collStart
  extract_lets v1
  have h2 : Frame 0x1069b09ed31928c a1 v1 := by
    unfold v1
    refine Frame.step ?_ (State.updJob_frame ..) rfl
    exact Frame.refl _ _
  clear_value v1
  refine Frame.foldl ?_ (fun u3 x4 h5 => ?_)
  · assumption
  · refine Frame.step ?_ (State.collOwn_frame ..) rfl
    assumption

theorem State.collsEnd_frame (a1 : State) (a2 : Job) (a3 : Package) (a4 : Nat) :
    Frame 0x1028008cc11000c a1 (State.collsEnd a1 a2 a3 a4) := by
  unfold State.collsEnd
  extract_lets v1
  have h2 : Frame 0x1028008cc11000c a1 v1 := by
    unfold v1
    refine Frame.step ?_ (State.closeBerths_frame ..) rfl
    refine Frame.trans ?_ (State.countN_frame rfl (tb_fabA rfl) ..)
    exact Frame.refl _ _
  clear_value v1
  refine Frame.step ?_ (State.updJob_frame ..) rfl
  assumption

end Sys2Proof.Machine
end

