-- ==== Sys2Proof/Laws/FrameTiles.lean ====
section
/-!
SUPPORT. Frame laws of Machine/Tiles.lean: which components each of its operations may change.
-/

namespace Sys2Proof.Machine

open Sys2Proof

theorem State.canaryLost_frame (a1 : State) (a2 : Nat) :
    Frame 0x5300000108e04 a1 (State.canaryLost a1 a2) := by
  unfold State.canaryLost
  refine Frame.step ?_ (State.canaryDefer_frame ..) rfl
  refine Frame.trans ?_ (State.put_frame rfl (tb_safSt rfl) ..)
  refine Frame.step ?_ (State.setSst_frame ..) rfl
  exact Frame.refl _ _

theorem State.percMissed_frame (a1 : State) :
    Frame 0x800 a1 (State.percMissed a1) := by
  unfold State.percMissed
  refine Frame.ite (fun h1 => ?_) (fun h1 => ?_)
  · apply Frame.upd
    · exact Frame.refl _ _
    all_goals first | exact Or.inr rfl | exact Or.inl rfl | exact Or.inl (Nat.le_refl _) | rfl
  · exact Frame.refl _ _

theorem State.busyAdd_frame (a1 : State) (a2 : Nat) (a3 : Nat) (a4 : Nat) :
    Frame 0x100000000100000 a1 (State.busyAdd a1 a2 a3 a4) := by
  unfold State.busyAdd
  refine Frame.trans ?_ (State.wr64_frame rfl (tb_mcA rfl) (tbDie (by unfold mcA; omega) (by unfold mcA; omega) rfl) ..)
  exact Frame.refl _ _

theorem State.returnGrant_frame (a1 : State) (a2 : Nat) (a3 : Nat) (a4 : Xfer) :
    Frame 0x20008c010000c a1 (State.returnGrant a1 a2 a3 a4) := by
  unfold State.returnGrant
  split
  · rename_i z1 z2
    exact Frame.refl _ _
  · rename_i z3 z4 z5
    refine Frame.step ?_ (State.sendTo_frame ..) rfl
    exact Frame.refl _ _

theorem State.chanDone_frame (a1 : State) (a2 : Nat) (a3 : Nat) (a4 : Nat) :
    Frame 0x20008c210000c a1 (State.chanDone a1 a2 a3 a4) := by
  unfold State.chanDone
  extract_lets v1 v2
  have h3 : Frame 0x20008c210000c a1 v2 := by
    unfold v2
    split
    · rename_i z4 z5 z6 z7 z8 z9
      refine Frame.step ?_ (State.returnGrant_frame ..) rfl
      exact Frame.refl _ _
    · rename_i z10 z11 z12
      exact Frame.refl _ _
  clear_value v2
  refine Frame.step ?_ (State.setChan_frame ..) rfl
  assumption

theorem State.roiPublish_frame (a1 : State) (a2 : Job) :
    Frame 0x80100100000 a1 (State.roiPublish a1 a2) := by
  unfold State.roiPublish
  refine Frame.foldl ?_ (fun u1 x2 h3 => ?_)
  · exact Frame.refl _ _
  · extract_lets v4 v5
    refine Frame.trans ?_ (State.wr_frame rfl (tb_ingA rfl) ..)
    refine Frame.step ?_ (State.setStrm_frame ..) rfl
    assumption

theorem State.actEnd_frame (a1 : State) (a2 : Nat) :
    Frame 0x7330000119e84 a1 (State.actEnd a1 a2) := by
  unfold State.actEnd
  split
  · rename_i z1 z2
    exact Frame.refl _ _
  · rename_i z3 z4 z5
    split
    · rename_i z6 z7
      exact Frame.refl _ _
    · rename_i z8 z9 z10
      extract_lets v11 v12 v13 v14 v15
      have h16 : Frame 0x7330000119e84 a1 v11 := by
        unfold v11
        refine Frame.step ?_ (State.updJob_frame ..) rfl
        exact Frame.refl _ _
      clear_value v11
      have h17 : Frame 0x7330000119e84 a1 v12 := by
        unfold v12
        refine Frame.step ?_ (State.digest_frame ..) rfl
        assumption
      clear_value v12
      have h18 : Frame 0x7330000119e84 a1 v13 := by
        unfold v13
        refine Frame.ite (fun h19 => ?_) (fun h19 => ?_)
        · assumption
        · refine Frame.step ?_ (State.postEvent_frame ..) rfl
          assumption
      clear_value v13
      have h20 : Frame 0x7330000119e84 a1 v14 := by
        unfold v14
        refine Frame.ite (fun h21 => ?_) (fun h21 => ?_)
        · assumption
        · refine Frame.step ?_ (State.outcome_frame ..) rfl
          refine Frame.step ?_ (State.endCount_frame ..) rfl
          assumption
      clear_value v14
      have h22 : Frame 0x7330000119e84 a1 v15 := by
        unfold v15
        refine Frame.ite (fun h23 => ?_) (fun h23 => ?_)
        · refine Frame.step ?_ (State.percMissed_frame ..) rfl
          assumption
        · assumption
      clear_value v15
      refine Frame.foldl ?_ (fun u24 x25 h26 => ?_)
      · assumption
      · refine Frame.step ?_ (State.canaryLost_frame ..) rfl
        assumption

theorem State.levelsOn_frame (a1 : Nat) (a2 : Package) (a3 : Nat) (a4 : State) :
    Frame 0x1069b09ed31928c a4 (State.levelsOn a1 a2 a3 a4) := by
  induction a3 generalizing a1 a2 a4
  · unfold State.levelsOn
    exact Frame.refl _ _
  · rename_i k_ ih
    unfold State.levelsOn
    extract_lets v28
    have h29 : Frame 0x1069b09ed31928c a4 v28 := by
      unfold v28
      refine Frame.step ?_ (State.updJob_frame ..) rfl
      exact Frame.refl _ _
    clear_value v28
    split
    · rename_i z30 z31
      assumption
    · rename_i z32 z33 z34
      split
      · rename_i z35 z36
        assumption
      · rename_i z37 z38 z39
        refine Frame.ite (fun h40 => ?_) (fun h40 => ?_)
        · assumption
        · extract_lets v41
          have h42 : Frame 0x1069b09ed31928c a4 v41 := by
            unfold v41
            refine Frame.ite (fun h43 => ?_) (fun h43 => ?_)
            · assumption
            · refine Frame.step ?_ (State.collStart_frame ..) rfl
              assumption
          clear_value v41
          split
          · rename_i z44 z45
            assumption
          · rename_i z46 z47 z48
            refine Frame.ite (fun h49 => ?_) (fun h49 => ?_)
            · refine Frame.step ?_ (ih ..) rfl
              refine Frame.step ?_ (State.collsEnd_frame ..) rfl
              assumption
            · assumption

theorem State.stepLevels_frame (a1 : State) (a2 : Nat) :
    Frame 0x1069b09ed31928c a1 (State.stepLevels a1 a2) := by
  unfold State.stepLevels
  split
  · rename_i z1 z2 z3
    refine Frame.step ?_ (State.levelsOn_frame ..) rfl
    exact Frame.refl _ _
  · rename_i z4 z5
    exact Frame.refl _ _

theorem State.startRun_frame (a1 : State) (a2 : Nat) :
    Frame 0x1069b09ed31928c a1 (State.startRun a1 a2) := by
  unfold State.startRun
  refine Frame.step ?_ (State.stepLevels_frame ..) rfl
  refine Frame.step ?_ (State.updJob_frame ..) rfl
  exact Frame.refl _ _

theorem execWeightStagingComplete_frame (a1 : Nat) (a2 : State) :
    Fr getN 0x1069b09ed31928c a2 (execWeightStagingComplete a1 a2) := by
  unfold execWeightStagingComplete
  refine Fr.next ?_
  split
  · rename_i z1 z2
    exact Frame.refl _ _
  · rename_i z3 z4 z5
    split
    · rename_i z6 z7
      exact Frame.refl _ _
    · rename_i z8 z9 z10
      extract_lets v11
      refine Frame.ite (fun h12 => ?_) (fun h12 => ?_)
      · exact Frame.refl _ _
      · refine Frame.step ?_ (State.startRun_frame ..) rfl
        refine Frame.step ?_ (State.updJob_frame ..) rfl
        refine Frame.step ?_ (State.fillWeights_frame ..) rfl
        exact Frame.refl _ _

theorem State.boundary_frame (a1 : State) (a2 : Nat) :
    Frame 0x1073b09ed119e8c a1 (State.boundary a1 a2) := by
  unfold State.boundary
  split
  · rename_i z1 z2
    exact Frame.refl _ _
  · rename_i z3 z4 z5
    refine Frame.ite (fun h6 => ?_) (fun h6 => ?_)
    · exact Frame.refl _ _
    · split
      · rename_i z7 z8 z9 z10
        refine Frame.step ?_ (State.jobEnd_frame ..) rfl
        exact Frame.refl _ _
      · rename_i z11 z12 z13 z14 z15
        refine Frame.ite (fun h16 => ?_) (fun h16 => ?_)
        · refine Frame.step ?_ (State.actEnd_frame ..) rfl
          exact Frame.refl _ _
        · exact Frame.refl _ _
      · rename_i z17 z18 z19 z20
        exact Frame.refl _ _

theorem State.opBerth_frame (a1 : State) (a2 : Nat) (a3 : Job) (a4 : PlanTile) :
    Frame 0x10000000c300008 a1 (State.opBerth a1 a2 a3 a4) := by
  unfold State.opBerth
  extract_lets v1
  refine Frame.ite (fun h2 => ?_) (fun h2 => ?_)
  · exact Frame.refl _ _
  · refine Frame.step ?_ (State.openBerth_frame ..) rfl
    exact Frame.refl _ _

theorem State.displace_frame (a1 : State) (a2 : Nat) (a3 : Nat) (a4 : Nat) (a5 : Nat) :
    Frame 0x10000 a1 (State.displace a1 a2 a3 a4 a5) := by
  unfold State.displace
  refine Frame.step ?_ (State.setJobs_frame ..) rfl
  exact Frame.refl _ _

theorem State.dispatch_frame (a1 : State) (a2 : Nat) (a3 : Nat) (a4 : Job) (a5 : PlanTile) (a6 : Bool) :
    Frame 0x10201000d310008 a1 (State.dispatch a1 a2 a3 a4 a5 a6) := by
  unfold State.dispatch
  extract_lets v1 v2 v3 v4 v5 v6 v7 v8 v9 v10 v11 v12
  have h13 : Frame 0x10201000d310008 a1 v4 := by
    unfold v4
    refine Frame.ite (fun h14 => ?_) (fun h14 => ?_)
    · refine Frame.trans ?_ (State.count_frame rfl rfl ..)
      exact Frame.refl _ _
    · exact Frame.refl _ _
  clear_value v4
  have h15 : Frame 0x10201000d310008 a1 v5 := by
    unfold v5
    refine Frame.ite (fun h16 => ?_) (fun h16 => ?_)
    · refine Frame.trans ?_ (State.count_frame rfl rfl ..)
      assumption
    · assumption
  clear_value v5
  have h17 : Frame 0x10201000d310008 a1 v6 := by
    unfold v6
    refine Frame.step ?_ (State.claim_frame ..) rfl
    assumption
  clear_value v6
  have h18 : Frame 0x10201000d310008 a1 v7 := by
    unfold v7
    refine Frame.step ?_ (State.wrBytes_frame ..) rfl
    refine Frame.step ?_ (State.opBerth_frame ..) rfl
    refine Frame.step ?_ (State.displace_frame ..) rfl
    assumption
  clear_value v7
  have h19 : Frame 0x10201000d310008 a1 v8 := by
    unfold v8
    refine Frame.trans ?_ (State.wr_frame rfl (tb_mcA rfl) ..)
    refine Frame.trans ?_ (State.wr_frame rfl (tb_mcA rfl) ..)
    assumption
  clear_value v8
  have h20 : Frame 0x10201000d310008 a1 v11 := by
    unfold v11
    refine Frame.step ?_ (State.setCore_frame ..) rfl
    assumption
  clear_value v11
  have h21 : Frame 0x10201000d310008 a1 v12 := by
    unfold v12
    refine Frame.step ?_ (State.updJob_frame ..) rfl
    assumption
  clear_value v12
  refine Frame.step ?_ (State.tally_frame ..) rfl
  assumption

theorem execClassSDeadline_frame (a1 : Nat) (a2 : State) :
    Fr getN 0x1061f09ed1192bc a2 (execClassSDeadline a1 a2) := by
  unfold execClassSDeadline
  refine Fr.next ?_
  split
  · rename_i z1 z2
    exact Frame.refl _ _
  · rename_i z3 z4 z5
    refine Frame.ite (fun h6 => ?_) (fun h6 => ?_)
    · exact Frame.refl _ _
    · refine Frame.trans ?_ (State.atT_frame rfl (fun u7 => ?_) ..)
      · exact Frame.refl _ _
      · refine Frame.step ?_ (State.endSoon_frame ..) rfl
        exact Frame.refl _ _

theorem State.canaryChecks_frame (a1 : State) (a2 : Job) (a3 : Act) :
    Frame 0x5300000108e04 a1 (State.canaryChecks a1 a2 a3) := by
  unfold State.canaryChecks
  refine Frame.foldl ?_ (fun u1 x2 h3 => ?_)
  · exact Frame.refl _ _
  · refine Frame.step ?_ (State.canaryCheck_frame ..) rfl
    assumption

theorem State.publish_frame (a1 : State) (a2 : Nat) :
    Frame 0x53b0100119e04 a1 (State.publish a1 a2) := by
  unfold State.publish
  split
  · rename_i z1 z2
    exact Frame.refl _ _
  · rename_i z3 z4 z5
    split
    · rename_i z6 z7
      exact Frame.refl _ _
    · rename_i z8 z9 z10
      extract_lets v11 v12 v13 v14 v15 v16 v17
      have h18 : Frame 0x53b0100119e04 a1 v14 := by
        unfold v14
        refine Frame.step ?_ (State.updJob_frame ..) rfl
        exact Frame.refl _ _
      clear_value v14
      have h19 : Frame 0x53b0100119e04 a1 v15 := by
        unfold v15
        refine Frame.step ?_ (State.tensorDigests_frame ..) rfl
        refine Frame.step ?_ (State.statsOut_frame ..) rfl
        refine Frame.step ?_ (State.hostOutputs_frame ..) rfl
        assumption
      clear_value v15
      have h20 : Frame 0x53b0100119e04 a1 v16 := by
        unfold v16
        refine Frame.step ?_ (State.canaryChecks_frame ..) rfl
        refine Frame.step ?_ (State.roiPublish_frame ..) rfl
        assumption
      clear_value v16
      refine Frame.ite (fun h21 => ?_) (fun h21 => ?_)
      · assumption
      · refine Frame.ite (fun h22 => ?_) (fun h22 => ?_)
        · refine Frame.step ?_ (State.percMissed_frame ..) rfl
          assumption
        · apply Frame.upd
          · assumption
          all_goals first | exact Or.inr rfl | exact Or.inl rfl | exact Or.inl (Nat.le_refl _) | rfl

theorem execJobSegmentArrival_frame (a1 : Nat) (a2 : Bytes) (a3 : State) :
    Fr getN 0x6130000119284 a3 (execJobSegmentArrival a1 a2 a3) := by
  unfold execJobSegmentArrival
  refine Fr.next ?_
  split
  · rename_i z1 z2
    exact Frame.refl _ _
  · rename_i z3 z4 z5
    refine Frame.ite (fun h6 => ?_) (fun h6 => ?_)
    · exact Frame.refl _ _
    · extract_lets v7
      refine Frame.step ?_ (State.segArrive_frame ..) rfl
      refine Frame.step ?_ (State.updJob_frame ..) rfl
      exact Frame.refl _ _

theorem execClassCActivationComplete_frame (a1 : Nat) (a2 : State) :
    Fr getN 0x53b0100119e04 a2 (execClassCActivationComplete a1 a2) := by
  unfold execClassCActivationComplete
  refine Fr.next ?_
  split
  · rename_i z1 z2
    exact Frame.refl _ _
  · rename_i z3 z4 z5
    split
    · rename_i z6 z7
      exact Frame.refl _ _
    · rename_i z8 z9 z10
      refine Frame.ite (fun h11 => ?_) (fun h11 => ?_)
      · exact Frame.refl _ _
      · refine Frame.ite (fun h12 => ?_) (fun h12 => ?_)
        · refine Frame.step ?_ (State.updJob_frame ..) rfl
          exact Frame.refl _ _
        · refine Frame.step ?_ (State.publish_frame ..) rfl
          exact Frame.refl _ _

theorem execClassCSlotEnd_frame (a1 : Nat) (a2 : State) :
    Fr getN 0x7330000119e84 a2 (execClassCSlotEnd a1 a2) := by
  unfold execClassCSlotEnd
  refine Fr.next ?_
  split
  · rename_i z1 z2
    exact Frame.refl _ _
  · rename_i z3 z4 z5
    split
    · rename_i z6 z7
      exact Frame.refl _ _
    · rename_i z8 z9 z10
      refine Frame.ite (fun h11 => ?_) (fun h11 => ?_)
      · exact Frame.refl _ _
      · extract_lets v12
        have h13 : Frame 0x7330000119e84 a2 v12 := by
          unfold v12
          refine Frame.step ?_ (State.updJob_frame ..) rfl
          exact Frame.refl _ _
        clear_value v12
        refine Frame.ite (fun h14 => ?_) (fun h14 => ?_)
        · assumption
        · refine Frame.step ?_ (State.actEnd_frame ..) rfl
          assumption

theorem execClassSRelease_frame (a1 : Nat) (a2 : State) :
    Fr getN 0x1069b09ed31928c a2 (execClassSRelease a1 a2) := by
  unfold execClassSRelease
  refine Fr.next ?_
  split
  · rename_i z1 z2
    exact Frame.refl _ _
  · rename_i z3 z4 z5
    refine Frame.ite (fun h6 => ?_) (fun h6 => ?_)
    · exact Frame.refl _ _
    · extract_lets v7
      have h8 : Frame 0x1069b09ed31928c a2 v7 := by
        unfold v7
        refine Frame.step ?_ (State.readInputs_frame ..) rfl
        exact Frame.refl _ _
      clear_value v7
      refine Frame.ite (fun h9 => ?_) (fun h9 => ?_)
      · refine Frame.step ?_ (State.updJob_frame ..) rfl
        assumption
      · refine Frame.step ?_ (State.startRun_frame ..) rfl
        assumption

theorem execClassSJobComplete_frame (a1 : Nat) (a2 : State) :
    Fr getN 0x1061b09ed11928c a2 (execClassSJobComplete a1 a2) := by
  unfold execClassSJobComplete
  refine Fr.next ?_
  split
  · rename_i z1 z2
    exact Frame.refl _ _
  · rename_i z3 z4 z5
    refine Frame.ite (fun h6 => ?_) (fun h6 => ?_)
    · exact Frame.refl _ _
    · refine Frame.step ?_ (State.jobEnd_frame ..) rfl
      exact Frame.refl _ _

theorem execTileDispatch_frame (a1 : Nat) (a2 : Nat) (a3 : State) :
    Fr getN 0x10201080d310008 a3 (execTileDispatch a1 a2 a3) := by
  unfold execTileDispatch
  refine Fr.guard ?_
  extract_lets v1
  refine Frame.ite (fun h2 => ?_) (fun h2 => ?_)
  · exact Frame.refl _ _
  · split
    · rename_i z3 z4
      exact Frame.refl _ _
    · rename_i z5 z6 z7 z8 z9
      refine Frame.ite (fun h10 => ?_) (fun h10 => ?_)
      · refine Frame.step ?_ (State.updJob_frame ..) rfl
        exact Frame.refl _ _
      · refine Frame.step ?_ (State.dispatch_frame ..) rfl
        refine Frame.step ?_ (State.tlySync_frame ..) rfl
        exact Frame.refl _ _

end Sys2Proof.Machine
end

