-- ==== Sys2Proof/Laws/FrameLoss.lean ====
section
/-!
SUPPORT. Frame laws of Machine/Loss.lean: which components each of its operations may change.
-/

namespace Sys2Proof.Machine

open Sys2Proof

theorem State.jobLost_frame (a1 : State) (a2 : Job) :
    Frame 0x73809c0108e0c a1 (State.jobLost a1 a2) := by
  unfold State.jobLost
  extract_lets v1 v2 v3 v4
  have h5 : Frame 0x73809c0108e0c a1 v1 := by
    unfold v1
    refine Frame.foldl ?_ (fun u6 x7 h8 => ?_)
    · exact Frame.refl _ _
    · refine Frame.step ?_ (State.axisLost_frame ..) rfl
      assumption
  clear_value v1
  have h9 : Frame 0x73809c0108e0c a1 v2 := by
    unfold v2
    refine Frame.step ?_ (State.report_frame ..) rfl
    assumption
  clear_value v2
  have h10 : Frame 0x73809c0108e0c a1 v3 := by
    unfold v3
    refine Frame.foldl ?_ (fun u11 x12 h13 => ?_)
    · assumption
    · refine Frame.step ?_ (State.canaryLost_frame ..) rfl
      assumption
  clear_value v3
  have h14 : Frame 0x73809c0108e0c a1 v4 := by
    unfold v4
    split
    · rename_i z15 z16 z17
      refine Frame.ite (fun h18 => ?_) (fun h18 => ?_)
      · refine Frame.step ?_ (State.percMissed_frame ..) rfl
        assumption
      · assumption
    · rename_i z19 z20
      assumption
  clear_value v4
  refine Frame.foldl ?_ (fun u21 x22 h23 => ?_)
  · assumption
  · refine Frame.step ?_ (State.unbindStream_frame ..) rfl
    assumption

theorem State.coreCorr_frame (a1 : State) (a2 : Nat) (a3 : Nat) (a4 : Nat) :
    Frame 0x102000000100000 a1 (State.coreCorr a1 a2 a3 a4) := by
  unfold State.coreCorr
  refine Frame.ite (fun h1 => ?_) (fun h1 => ?_)
  · exact Frame.refl _ _
  · refine Frame.step ?_ (State.tally_frame ..) rfl
    refine Frame.trans ?_ (State.countN_frame rfl (tb_mcA rfl) ..)
    exact Frame.refl _ _

theorem State.cycStop_frame (a1 : State) :
    Frame 0x10400100000 a1 (State.cycStop a1) := by
  unfold State.cycStop
  extract_lets v1 v2 v3 v4 v5
  have h6 : Frame 0x10400100000 a1 v2 := by
    unfold v2
    refine Frame.trans ?_ (State.put_frame rfl rfl ..)
    refine Frame.trans ?_ (State.put_frame rfl rfl ..)
    exact Frame.refl _ _
  clear_value v2
  have h7 : Frame 0x10400100000 a1 v3 := by
    unfold v3
    refine Frame.ite (fun h8 => ?_) (fun h8 => ?_)
    · refine Frame.trans ?_ (State.put_frame rfl rfl ..)
      assumption
    · assumption
  clear_value v3
  have h9 : Frame 0x10400100000 a1 v4 := by
    unfold v4
    refine Frame.foldl ?_ (fun u10 x11 h12 => ?_)
    · assumption
    · refine Frame.trans ?_ (State.wr_frame rfl (tb_glbA rfl) ..)
      assumption
  clear_value v4
  apply Frame.upd
  · assumption
  all_goals first | exact Or.inr rfl | exact Or.inl rfl | exact Or.inl (Nat.le_refl _) | rfl

theorem State.stopCores_frame (a1 : State) :
    Frame 0x100000003100000 a1 (State.stopCores a1) := by
  unfold State.stopCores
  extract_lets v1 v2
  have h3 : Frame 0x100000003100000 a1 v1 := by
    unfold v1
    refine Frame.foldl ?_ (fun u4 x5 h6 => ?_)
    · exact Frame.refl _ _
    · split
      · rename_i z7 z8
        assumption
      · rename_i z9 z10 z11
        extract_lets v12 v13
        refine Frame.trans ?_ (State.wr_frame rfl (tb_mcA rfl) ..)
        refine Frame.trans ?_ (State.wr_frame rfl (tb_mcA rfl) ..)
        refine Frame.step ?_ (State.busyAdd_frame ..) rfl
        assumption
  clear_value v1
  apply Frame.upd
  · assumption
  all_goals first | exact Or.inr rfl | exact Or.inl rfl | exact Or.inl (Nat.le_refl _) | rfl

theorem State.packageLoss_frame (a1 : State) :
    Frame 0x107391dff399e0c a1 (State.packageLoss a1) := by
  unfold State.packageLoss
  extract_lets v1 v2 v3 v4 v5 v6 v7 v8
  have h9 : Frame 0x107391dff399e0c a1 v1 := by
    unfold v1
    refine Frame.step ?_ (State.slogNow_frame ..) rfl
    refine Frame.trans ?_ (State.event_frame rfl rfl rfl ..)
    exact Frame.refl _ _
  clear_value v1
  have h10 : Frame 0x107391dff399e0c a1 v2 := by
    unfold v2
    refine Frame.step ?_ (State.capture_frame ..) rfl
    assumption
  clear_value v2
  have h11 : Frame 0x107391dff399e0c a1 v3 := by
    unfold v3
    refine Frame.step ?_ (State.cycStop_frame ..) rfl
    refine Frame.step ?_ (State.closeAllBerths_frame ..) rfl
    refine Frame.step ?_ (State.stopCores_frame ..) rfl
    assumption
  clear_value v3
  have h12 : Frame 0x107391dff399e0c a1 v5 := by
    unfold v5
    refine Frame.step ?_ (State.dirtyAdd_frame ..) rfl
    assumption
  clear_value v5
  have h13 : Frame 0x107391dff399e0c a1 v6 := by
    unfold v6
    refine Frame.foldl ?_ (fun u14 x15 h16 => ?_)
    · assumption
    · refine Frame.step ?_ (State.jobLost_frame ..) rfl
      assumption
  clear_value v6
  have h17 : Frame 0x107391dff399e0c a1 v7 := by
    unfold v7
    refine Frame.step ?_ (State.kvClear_frame ..) rfl
    assumption
  clear_value v7
  apply Frame.upd
  · assumption
  all_goals first | exact Or.inr rfl | exact Or.inl rfl | exact Or.inl (Nat.le_refl _) | rfl

theorem State.jobFault_frame (a1 : State) (a2 : Nat) (a3 : Nat) (a4 : Status) :
    Frame 0x107391dff399e0c a1 (State.jobFault a1 a2 a3 a4) := by
  unfold State.jobFault
  refine Frame.step ?_ (State.packageLoss_frame ..) rfl
  refine Frame.trans ?_ (State.wr_frame rfl rfl ..)
  refine Frame.step ?_ (State.tlySyncAll_frame ..) rfl
  exact Frame.refl _ _

theorem execRegionZeroed_frame (a1 : Nat) (a2 : Nat) (a3 : State) :
    Fr getN 0x8200000 a3 (execRegionZeroed a1 a2 a3) := by
  unfold execRegionZeroed
  refine Fr.guard ?_
  split
  · rename_i z1 z2
    exact Frame.refl _ _
  · rename_i z3 z4 z5
    extract_lets v6 v7
    have h8 : Frame 0x8200000 a3 v6 := by
      unfold v6
      refine Frame.step ?_ (State.zeroRegion_frame ..) rfl
      exact Frame.refl _ _
    clear_value v6
    apply Frame.upd
    · assumption
    all_goals first | exact Or.inr rfl | exact Or.inl rfl | exact Or.inl (Nat.le_refl _) | rfl

theorem State.coreMap_frame (a1 : State) (a2 : Nat) :
    Frame 0x100000000100000 a1 (State.coreMap a1 a2) := by
  unfold State.coreMap
  extract_lets v1 v2
  refine Frame.foldl ?_ (fun u3 x4 h5 => ?_)
  · exact Frame.refl _ _
  · extract_lets v6
    refine Frame.trans ?_ (State.wr_frame rfl (tb_mcA rfl) ..)
    assumption

theorem State.selfTest_frame (a1 : State) (a2 : SelfTest) (a3 : Bool) :
    Frame 0x100000001100000 a1 (State.selfTest a1 a2 a3) := by
  unfold State.selfTest
  extract_lets v1 v2 v3 v4 v5 v6
  have h7 : Frame 0x100000001100000 a1 v4 := by
    unfold v4
    refine Frame.step ?_ (State.setCore_frame ..) rfl
    exact Frame.refl _ _
  clear_value v4
  have h8 : Frame 0x100000001100000 a1 v5 := by
    unfold v5
    refine Frame.ite (fun h9 => ?_) (fun h9 => ?_)
    · assumption
    · refine Frame.trans ?_ (State.count8_frame rfl (tb_mcA rfl) ..)
      refine Frame.trans ?_ (State.raise_frame rfl (tb_mcA rfl) ..)
      assumption
  clear_value v5
  refine Frame.trans ?_ (State.wr_frame rfl (tb_mcA rfl) ..)
  refine Frame.trans ?_ (State.wr_frame rfl (tb_mcA rfl) ..)
  assumption

theorem execSelftestDone_frame (a1 : SelfTest) (a2 : State) :
    Fr getN 0x100000001100000 a2 (execSelftestDone a1 a2) := by
  unfold execSelftestDone
  refine Fr.guard ?_
  refine Frame.ite (fun h1 => ?_) (fun h1 => ?_)
  · refine Frame.step ?_ (State.coreMap_frame ..) rfl
    refine Frame.step ?_ (State.selfTest_frame ..) rfl
    exact Frame.refl _ _
  · exact Frame.refl _ _

theorem execCoreFault_frame (a1 : Nat) (a2 : Nat) (a3 : CoreCheck) (a4 : State) :
    Fr getN 0x107391dff399e0c a4 (execCoreFault a1 a2 a3 a4) := by
  unfold execCoreFault
  refine Fr.guard ?_
  refine Frame.ite (fun h1 => ?_) (fun h1 => ?_)
  · exact Frame.refl _ _
  · extract_lets v2 v3 v4
    have h5 : Frame 0x107391dff399e0c a4 v3 := by
      unfold v3
      refine Frame.trans ?_ (State.count8_frame rfl (tb_mcA rfl) ..)
      refine Frame.trans ?_ (State.raise_frame rfl (tb_mcA rfl) ..)
      exact Frame.refl _ _
    clear_value v3
    refine Frame.step ?_ (State.jobFault_frame ..) rfl
    refine Frame.step ?_ (State.setCore_frame ..) rfl
    assumption

theorem State.lostEntry_frame (a1 : State) (a2 : Job) :
    Frame 0x6030000109084 a1 (State.lostEntry a1 a2) := by
  unfold State.lostEntry
  refine Frame.foldl ?_ (fun u1 x2 h3 => ?_)
  · refine Frame.step ?_ (State.jobEntry_frame ..) rfl
    exact Frame.refl _ _
  · refine Frame.step ?_ (State.complete_frame ..) rfl
    assumption

theorem State.eccFixed_frame (a1 : State) (a2 : Nat) (a3 : Nat) (a4 : EccFixes) :
    Frame 0x102000000100000 a1 (State.eccFixed a1 a2 a3 a4) := by
  unfold State.eccFixed
  refine Frame.step ?_ (State.coreCorr_frame ..) rfl
  refine Frame.step ?_ (State.eccCorr_frame ..) rfl
  refine Frame.step ?_ (State.eccCorr_frame ..) rfl
  exact Frame.refl _ _

theorem State.runOps_frame (a1 : State) (a2 : TileCtx) (a3 : List TileOp) :
    Fr getP 0x100000010310008 a1 (State.runOps a1 a2 a3) := by
  induction a3 generalizing a1 a2
  · unfold State.runOps
    refine Fr.pair ?_
    exact Frame.refl _ _
  · rename_i hd_ tl_ ih
    unfold State.runOps
    split
    · rename_i z1 z2 z3
      refine Fr.pair ?_
      exact Frame.refl _ _
    · rename_i z4 z5
      refine Fr.step ?_ (ih ..) rfl
      refine Frame.step ?_ (State.tileOp_frame ..) rfl
      exact Frame.refl _ _

theorem execTileEnd_frame (a1 : Nat) (a2 : Nat) (a3 : TileWork) (a5 : State) :
    Fr getN 0x107bb1dff399e8c a5 (execTileEnd a1 a2 a3 a5) := by
  unfold execTileEnd
  refine Fr.guard ?_
  split
  · rename_i z1 z2
    exact Frame.refl _ _
  · rename_i z3 z4 z5
    refine Frame.ite (fun h6 => ?_) (fun h6 => ?_)
    · exact Frame.refl _ _
    · extract_lets v7 v8 v9 v10 v11 v12 v13 v14 v15 v16 v17 v18
      have h19 : Frame 0x107bb1dff399e8c a5 v7 := by
        unfold v7
        refine Frame.foldl ?_ (fun u20 x21 h22 => ?_)
        · refine Frame.step ?_ (State.eccFixed_frame ..) rfl
          refine Frame.step ?_ (State.tlySync_frame ..) rfl
          exact Frame.refl _ _
        · refine Frame.step ?_ (State.finishCopy_frame ..) rfl
          assumption
      clear_value v7
      have h23 : Fr getP 0x107bb1dff399e8c a5 v8 := by
        unfold v8
        refine Fr.step ?_ (State.runOps_frame ..) rfl
        assumption
      clear_value v8
      have h24 : Frame 0x107bb1dff399e8c a5 v9 := by
        unfold v9
        refine Fr.fst ?_
        assumption
      clear_value v9
      have h25 : Frame 0x107bb1dff399e8c a5 v11 := by
        unfold v11
        refine Frame.foldl ?_ (fun u26 x27 h28 => ?_)
        · assumption
        · refine Frame.step ?_ (State.chanDone_frame ..) rfl
          assumption
      clear_value v11
      have h29 : Frame 0x107bb1dff399e8c a5 v12 := by
        unfold v12
        refine Frame.trans ?_ (State.wr_frame rfl (tb_mcA rfl) ..)
        refine Frame.trans ?_ (State.wr_frame rfl (tb_mcA rfl) ..)
        assumption
      clear_value v12
      have h30 : Frame 0x107bb1dff399e8c a5 v14 := by
        unfold v14
        refine Frame.step ?_ (State.setCore_frame ..) rfl
        refine Frame.step ?_ (State.busyAdd_frame ..) rfl
        assumption
      clear_value v14
      have h31 : Frame 0x107bb1dff399e8c a5 v15 := by
        unfold v15
        refine Frame.step ?_ (State.tally_frame ..) rfl
        assumption
      clear_value v15
      have h32 : Frame 0x107bb1dff399e8c a5 v16 := by
        unfold v16
        refine Frame.step ?_ (State.updJob_frame ..) rfl
        assumption
      clear_value v16
      have h33 : Frame 0x107bb1dff399e8c a5 v17 := by
        unfold v17
        refine Frame.step ?_ (State.stepLevels_frame ..) rfl
        assumption
      clear_value v17
      have h34 : Frame 0x107bb1dff399e8c a5 v18 := by
        unfold v18
        clear_value v10
        split
        · rename_i z35 z36
          refine Frame.step ?_ (State.haltJob_frame ..) rfl
          assumption
        · rename_i z37
          assumption
      clear_value v18
      split
      · rename_i z38 z39 z40 z41
        refine Frame.step ?_ (State.jobFault_frame ..) rfl
        refine Frame.step ?_ (State.memFault_frame ..) rfl
        assumption
      · rename_i z42 z43
        refine Frame.step ?_ (State.boundary_frame ..) rfl
        assumption

theorem execScrub_frame (a1 : Nat) (a2 : State) :
    Fr getN 0x6020201108084 a2 (execScrub a1 a2) := by
  unfold execScrub
  refine Fr.guard ?_
  refine Frame.ite (fun h1 => ?_) (fun h1 => ?_)
  · exact Frame.refl _ _
  · refine Frame.trans ?_ (State.withDesc_frame rfl (fun u2 x3 => ?_) ..)
    · exact Frame.refl _ _
    · extract_lets v4 v5 v6 v7 v8 v9 v10 v11 v12
      have h13 : Frame 0x6020201108084 u2 v11 := by
        unfold v11
        refine Frame.ite (fun h14 => ?_) (fun h14 => ?_)
        · refine Frame.step ?_ (State.setCore_frame ..) rfl
          exact Frame.refl _ _
        · exact Frame.refl _ _
      clear_value v11
      refine Frame.ite (fun h15 => ?_) (fun h15 => ?_)
      · refine Frame.step ?_ (State.complete_frame ..) rfl
        exact Frame.refl _ _
      · refine Frame.ite (fun h16 => ?_) (fun h16 => ?_)
        · refine Frame.step ?_ (State.complete_frame ..) rfl
          exact Frame.refl _ _
        · refine Frame.ite (fun h17 => ?_) (fun h17 => ?_)
          · refine Frame.step ?_ (State.complete_frame ..) rfl
            exact Frame.refl _ _
          · apply Frame.upd
            · assumption
            all_goals first | exact Or.inr rfl | exact Or.inl rfl | exact Or.inl (Nat.le_refl _) | rfl

theorem State.scrubFound_frame (a1 : State) (a2 : Scrub) (a3 : Nat) (a4 : List Nat) :
    Frame 0x102000001100008 a1 (State.scrubFound a1 a2 a3 a4) := by
  unfold State.scrubFound
  extract_lets v1 v2 v3 v4 v5
  have h6 : Frame 0x102000001100008 a1 v2 := by
    unfold v2
    refine Frame.step ?_ (State.eccCorr_frame ..) rfl
    exact Frame.refl _ _
  clear_value v2
  have h7 : Frame 0x102000001100008 a1 v5 := by
    unfold v5
    refine Frame.step ?_ (State.coreCorr_frame ..) rfl
    refine Frame.step ?_ (State.setCore_frame ..) rfl
    exact Frame.refl _ _
  clear_value v5
  refine Frame.ite (fun h8 => ?_) (fun h8 => ?_)
  · clear_value v1
    split
    · rename_i z9 z10
      refine Frame.step ?_ (State.eccFail_frame ..) rfl
      assumption
    · rename_i z11
      assumption
  · clear_value v1
    split
    · rename_i z12 z13
      refine Frame.ite (fun h14 => ?_) (fun h14 => ?_)
      · refine Frame.step ?_ (State.memLatch_frame ..) rfl
        refine Frame.step ?_ (State.bump_frame ..) rfl
        assumption
      · assumption
    · rename_i z15
      assumption

theorem execScrubDone_frame (a1 : Nat) (a2 : Nat) (a3 : List Nat) (a4 : State) :
    Fr getN 0x10602020110808c a4 (execScrubDone a1 a2 a3 a4) := by
  unfold execScrubDone
  refine Fr.guard ?_
  split
  · rename_i z1 z2 z3 z4 z5
    extract_lets v6 v7 v8 v9 v10
    have h11 : Frame 0x10602020110808c a4 v9 := by
      unfold v9
      apply Frame.upd
      · exact Frame.refl _ _
      all_goals first | exact Or.inr rfl | exact Or.inl rfl | exact Or.inl (Nat.le_refl _) | rfl
    clear_value v9
    have h12 : Frame 0x10602020110808c a4 v10 := by
      unfold v10
      refine Frame.step ?_ (State.scrubFound_frame ..) rfl
      assumption
    clear_value v10
    split
    · rename_i z13 z14
      assumption
    · rename_i z15 z16 z17
      refine Frame.step ?_ (State.complete_frame ..) rfl
      refine Frame.step ?_ (State.hostData_frame ..) rfl
      assumption
  · rename_i z18 z19 z20
    exact Frame.refl _ _

theorem execBankConflict_frame (a1 : Nat) (a2 : Nat) (a3 : Nat) (a4 : Nat) (a5 : State) :
    Fr getN 0x107391dff399e0c a5 (execBankConflict a1 a2 a3 a4 a5) := by
  unfold execBankConflict
  refine Fr.guard ?_
  extract_lets v1
  refine Frame.ite (fun h2 => ?_) (fun h2 => ?_)
  · exact Frame.refl _ _
  · refine Frame.step ?_ (State.jobFault_frame ..) rfl
    refine Frame.step ?_ (State.memFault_frame ..) rfl
    exact Frame.refl _ _

theorem execEccUncorrectable_frame (a1 : Nat) (a2 : Nat) (a3 : Nat) (a4 : State) :
    Fr getN 0x107391dff399e0c a4 (execEccUncorrectable a1 a2 a3 a4) := by
  unfold execEccUncorrectable
  refine Fr.guard ?_
  extract_lets v1
  split
  · rename_i z2 z3 z4 z5
    exact Frame.refl _ _
  · rename_i z6 z7 z8 z9
    refine Frame.ite (fun h10 => ?_) (fun h10 => ?_)
    · exact Frame.refl _ _
    · refine Frame.step ?_ (State.jobFault_frame ..) rfl
      refine Frame.step ?_ (State.memFault_frame ..) rfl
      refine Frame.step ?_ (State.bump_frame ..) rfl
      exact Frame.refl _ _
  · rename_i z11 z12 z13 z14
    extract_lets v15
    refine Frame.ite (fun h16 => ?_) (fun h16 => ?_)
    · exact Frame.refl _ _
    · refine Frame.step ?_ (State.jobFault_frame ..) rfl
      refine Frame.step ?_ (State.memFault_frame ..) rfl
      exact Frame.refl _ _

theorem execKvWalkFault_frame (a1 : Nat) (a2 : FailedWalk) (a4 : State) :
    Fr getN 0x107391dff399e0c a4 (execKvWalkFault a1 a2 a4) := by
  unfold execKvWalkFault
  refine Fr.guard ?_
  refine Frame.ite (fun h1 => ?_) (fun h1 => ?_)
  · refine Frame.step ?_ (State.jobFault_frame ..) rfl
    split
    · rename_i z2 z3
      refine Frame.step ?_ (State.eccFail_frame ..) rfl
      exact Frame.refl _ _
    · rename_i z4
      exact Frame.refl _ _
  · exact Frame.refl _ _

theorem execLossDiesReleased_frame (a1 : State) :
    Fr getN 0x603180838908c a1 (execLossDiesReleased a1) := by
  unfold execLossDiesReleased
  refine Fr.next ?_
  split
  · rename_i z1 z2
    exact Frame.refl _ _
  · rename_i z3 z4 z5
    refine Frame.ite (fun h6 => ?_) (fun h6 => ?_)
    · exact Frame.refl _ _
    · extract_lets v7 v8 v9 v10 v11 v12
      have h13 : Frame 0x603180838908c a1 v7 := by
        unfold v7
        refine Frame.foldl ?_ (fun u14 x15 h16 => ?_)
        · exact Frame.refl _ _
        · refine Frame.step ?_ (State.zeroSram_frame ..) rfl
          assumption
      clear_value v7
      have h17 : Frame 0x603180838908c a1 v9 := by
        unfold v9
        apply Frame.upd
        · assumption
        all_goals first | exact Or.inr rfl | exact Or.inl rfl | exact Or.inl (Nat.le_refl _) | rfl
      clear_value v9
      have h18 : Frame 0x603180838908c a1 v10 := by
        unfold v10
        refine Frame.foldl ?_ (fun u19 x20 h21 => ?_)
        · assumption
        · refine Frame.step ?_ (State.lostEntry_frame ..) rfl
          assumption
      clear_value v10
      have h22 : Frame 0x603180838908c a1 v11 := by
        unfold v11
        refine Frame.trans ?_ (State.wr_frame rfl rfl ..)
        assumption
      clear_value v11
      refine Frame.step ?_ (State.tlySyncAll_frame ..) rfl
      apply Frame.upd
      · assumption
      all_goals first | exact Or.inr rfl | exact Or.inl rfl | exact Or.inl (Nat.le_refl _) | rfl

end Sys2Proof.Machine
end

