-- ==== Sys2Proof/Laws/FrameTime.lean ====
section
/-!
SUPPORT. Frame laws of Machine/Time.lean: which components each of its operations may change.
-/

namespace Sys2Proof.Machine

open Sys2Proof

theorem State.setDomState_frame (a1 : State) (a2 : Nat) (a3 : Nat) :
    Frame 0x40000100000 a1 (State.setDomState a1 a2 a3) := by
  unfold State.setDomState
  refine Frame.trans ?_ (State.put_frame rfl (tb_domA rfl) ..)
  exact Frame.refl _ _

theorem State.domRestart_frame (a1 : State) (a2 : Nat) :
    Frame 0x40000100030 a1 (State.domRestart a1 a2) := by
  unfold State.domRestart
  extract_lets v1 v2 v3 v4
  have h5 : Frame 0x40000100030 a1 v2 := by
    unfold v2
    refine Frame.step ?_ (State.setDom_frame ..) rfl
    exact Frame.refl _ _
  clear_value v2
  have h6 : Frame 0x40000100030 a1 v4 := by
    unfold v4
    refine Frame.ite (fun h7 => ?_) (fun h7 => ?_)
    · apply Frame.upd
      · assumption
      all_goals first | exact Or.inr rfl | exact Or.inl rfl | exact Or.inl (Nat.le_refl _) | rfl
    · assumption
  clear_value v4
  refine Frame.step ?_ (State.setDomState_frame ..) rfl
  assumption

theorem State.toListening_frame (a1 : State) (a2 : Nat) :
    Frame 0x40000100030 a1 (State.toListening a1 a2) := by
  unfold State.toListening
  extract_lets v1 v2 v3 v4 v5 v6
  have h7 : Frame 0x40000100030 a1 v3 := by
    unfold v3
    refine Frame.step ?_ (State.setDom_frame ..) rfl
    exact Frame.refl _ _
  clear_value v3
  have h8 : Frame 0x40000100030 a1 v5 := by
    unfold v5
    refine Frame.ite (fun h9 => ?_) (fun h9 => ?_)
    · apply Frame.upd
      · assumption
      all_goals first | exact Or.inr rfl | exact Or.inl rfl | exact Or.inl (Nat.le_refl _) | rfl
    · assumption
  clear_value v5
  have h10 : Frame 0x40000100030 a1 v6 := by
    unfold v6
    refine Frame.step ?_ (State.setDomState_frame ..) rfl
    assumption
  clear_value v6
  refine Frame.ite (fun h11 => ?_) (fun h11 => ?_)
  · refine Frame.trans ?_ (State.event_frame rfl (tb_domA rfl) (tb_domA rfl) ..)
    assumption
  · assumption

theorem State.seeGm_frame (a1 : State) (a2 : Nat) (a3 : Nat) :
    Frame 0x40000100030 a1 (State.seeGm a1 a2 a3) := by
  unfold State.seeGm
  extract_lets v1 v2 v3
  have h4 : Frame 0x40000100030 a1 v3 := by
    unfold v3
    refine Frame.step ?_ (State.setDom_frame ..) rfl
    exact Frame.refl _ _
  clear_value v3
  refine Frame.ite (fun h5 => ?_) (fun h5 => ?_)
  · refine Frame.step ?_ (State.toListening_frame ..) rfl
    refine Frame.trans ?_ (State.raise_frame rfl (tb_domA rfl) ..)
    assumption
  · assumption

theorem State.selectMaster_frame (a1 : State) (a2 : Nat) :
    Frame 0x40000100030 a1 (State.selectMaster a1 a2) := by
  unfold State.selectMaster
  split
  · rename_i z1 z2
    extract_lets v3 v4
    have h5 : Frame 0x40000100030 a1 v4 := by
      unfold v4
      refine Frame.step ?_ (State.setDom_frame ..) rfl
      exact Frame.refl _ _
    clear_value v4
    refine Frame.ite (fun h6 => ?_) (fun h6 => ?_)
    · assumption
    · refine Frame.step ?_ (State.toListening_frame ..) rfl
      assumption
  · rename_i z7 z8 z9
    extract_lets v10 v11 v12
    have h13 : Frame 0x40000100030 a1 v10 := by
      unfold v10
      refine Frame.step ?_ (State.seeGm_frame ..) rfl
      exact Frame.refl _ _
    clear_value v10
    have h14 : Frame 0x40000100030 a1 v12 := by
      unfold v12
      refine Frame.step ?_ (State.setDom_frame ..) rfl
      assumption
    clear_value v12
    refine Frame.trans ?_ (State.wr64_frame rfl (tb_domA rfl) (tb 2 (by unfold domA; omega) (by unfold domA; omega) (by omega) rfl) ..)
    refine Frame.trans ?_ (State.put_frame rfl (tb_domA rfl) ..)
    assumption

theorem State.agePort_frame (a1 : State) (a2 : Nat) (a3 : Nat) :
    Frame 0x40000100030 a1 (State.agePort a1 a2 a3) := by
  unfold State.agePort
  refine Frame.step ?_ (State.selectMaster_frame ..) rfl
  refine Frame.step ?_ (State.setDom_frame ..) rfl
  exact Frame.refl _ _

theorem execAnnounceReceiptTimeout_frame (a1 : Nat) (a2 : Nat) (a3 : State) :
    Fr getN 0x40000100030 a3 (execAnnounceReceiptTimeout a1 a2 a3) := by
  unfold execAnnounceReceiptTimeout
  refine Fr.guard ?_
  split
  · rename_i z1 z2
    exact Frame.refl _ _
  · rename_i z3 z4 z5
    refine Frame.trans ?_ (State.atRef_frame rfl (fun u6 => ?_) ..)
    · exact Frame.refl _ _
    · refine Frame.step ?_ (State.agePort_frame ..) rfl
      exact Frame.refl _ _

theorem State.slewTo_frame (a1 : State) (a2 : Int) :
    Frame 0x40000100010 a1 (State.slewTo a1 a2) := by
  unfold State.slewTo
  extract_lets v1 v2
  have h3 : Frame 0x40000100010 a1 v2 := by
    unfold v2
    apply Frame.upd
    · exact Frame.refl _ _
    all_goals first | exact Or.inr rfl | exact Or.inl rfl | exact Or.inl (Nat.le_refl _) | rfl
  clear_value v2
  refine Frame.trans ?_ (State.put_frame rfl (tb_timA rfl) ..)
  assumption

theorem State.servo_frame (a1 : State) (a2 : Nat) (a3 : Int) (a4 : ServoResult) :
    Frame 0x40000100030 a1 (State.servo a1 a2 a3 a4) := by
  unfold State.servo
  extract_lets v1 v2 v3 v4 v5 v6 v7 v8 v9 v10
  have h11 : Frame 0x40000100030 a1 v7 := by
    unfold v7
    refine Frame.step ?_ (State.setDom_frame ..) rfl
    exact Frame.refl _ _
  clear_value v7
  have h12 : Frame 0x40000100030 a1 v9 := by
    unfold v9
    refine Frame.ite (fun h13 => ?_) (fun h13 => ?_)
    · apply Frame.upd
      · assumption
      all_goals first | exact Or.inr rfl | exact Or.inl rfl | exact Or.inl (Nat.le_refl _) | rfl
    · assumption
  clear_value v9
  have h14 : Frame 0x40000100030 a1 v10 := by
    unfold v10
    refine Frame.ite (fun h15 => ?_) (fun h15 => ?_)
    · refine Frame.step ?_ (State.setDomState_frame ..) rfl
      assumption
    · assumption
  clear_value v10
  refine Frame.ite (fun h16 => ?_) (fun h16 => ?_)
  · refine Frame.step ?_ (State.setDomState_frame ..) rfl
    refine Frame.step ?_ (State.setDom_frame ..) rfl
    assumption
  · refine Frame.ite (fun h17 => ?_) (fun h17 => ?_)
    · refine Frame.ite (fun h18 => ?_) (fun h18 => ?_)
      · refine Frame.step ?_ (State.toListening_frame ..) rfl
        assumption
      · refine Frame.ite (fun h19 => ?_) (fun h19 => ?_)
        · refine Frame.step ?_ (State.slewTo_frame ..) rfl
          assumption
        · assumption
    · assumption

theorem State.slewStop_frame (a1 : State) :
    Frame 0x40000100010 a1 (State.slewStop a1) := by
  unfold State.slewStop
  refine Frame.step ?_ (State.slewTo_frame ..) rfl
  exact Frame.refl _ _

theorem State.stepTime_frame (a1 : State) (a2 : Int) :
    Frame 0x40000100030 a1 (State.stepTime a1 a2) := by
  unfold State.stepTime
  extract_lets v1 v2 v3 v4 v5 v6 v7 v8 v9 v10 v11
  have h12 : Frame 0x40000100030 a1 v7 := by
    unfold v7
    refine Frame.step ?_ (State.slewStop_frame ..) rfl
    exact Frame.refl _ _
  clear_value v7
  have h13 : Frame 0x40000100030 a1 v9 := by
    unfold v9
    apply Frame.upd
    · assumption
    all_goals first | exact Or.inr rfl | exact Or.inl rfl | exact Or.inl (Nat.le_refl _) | rfl
  clear_value v9
  have h14 : Frame 0x40000100030 a1 v10 := by
    unfold v10
    refine Frame.step ?_ (State.eachDom_frame ..) rfl
    assumption
  clear_value v10
  have h15 : Frame 0x40000100030 a1 v11 := by
    unfold v11
    refine Frame.ite (fun h16 => ?_) (fun h16 => ?_)
    · refine Frame.trans ?_ (State.countN_frame rfl (tb_timA rfl) ..)
      refine Frame.trans ?_ (State.raise_frame rfl (tb_timA rfl) ..)
      assumption
    · assumption
  clear_value v11
  refine Frame.trans ?_ (State.event_frame rfl (tb_timA rfl) (tb_timA rfl) ..)
  assumption

theorem execAnnounce_frame (a1 : Nat) (a2 : Nat) (a3 : AnnounceBody) (a5 : State) :
    Fr getN 0x40000100030 a5 (execAnnounce a1 a2 a3 a5) := by
  unfold execAnnounce
  refine Fr.guard ?_
  split
  · rename_i z1 z2
    exact Frame.refl _ _
  · rename_i z3 z4 z5
    extract_lets v6 v7
    refine Frame.step ?_ (State.selectMaster_frame ..) rfl
    refine Frame.step ?_ (State.setDom_frame ..) rfl
    exact Frame.refl _ _

theorem execPdelayReq_frame (a1 : Nat) (a2 : Nat) (a3 : Nat) (a4 : Nat) (a5 : State) :
    Fr getN 0x4 a5 (execPdelayReq a1 a2 a3 a4 a5) := by
  unfold execPdelayReq
  refine Fr.guard ?_
  refine Frame.ite (fun h1 => ?_) (fun h1 => ?_)
  · refine Frame.step ?_ (State.emit_frame ..) rfl
    refine Frame.step ?_ (State.emit_frame ..) rfl
    exact Frame.refl _ _
  · exact Frame.refl _ _

theorem execSync_frame (a1 : Nat) (a2 : Nat) (a3 : Nat) (a4 : Nat) (a5 : Bool) (a6 : SyncBody) (a10 : State) :
    Fr getN 0x40000100030 a10 (execSync a1 a2 a3 a4 a5 a6 a10) := by
  unfold execSync
  refine Fr.guard ?_
  split
  · rename_i z1 z2
    exact Frame.refl _ _
  · rename_i z3 z4 z5
    split
    · rename_i z6 z7
      exact Frame.refl _ _
    · rename_i z8 z9 z10 z11
      refine Frame.ite (fun h12 => ?_) (fun h12 => ?_)
      · exact Frame.refl _ _
      · refine Frame.ite (fun h13 => ?_) (fun h13 => ?_)
        · extract_lets v14 v15
          have h16 : Frame 0x40000100030 a10 v14 := by
            unfold v14
            refine Frame.step ?_ (State.seeGm_frame ..) rfl
            exact Frame.refl _ _
          clear_value v14
          refine Frame.step ?_ (State.selectMaster_frame ..) rfl
          refine Frame.step ?_ (State.setDom_frame ..) rfl
          assumption
        · extract_lets v17 v18
          refine Frame.ite (fun h19 => ?_) (fun h19 => ?_)
          · refine Frame.step ?_ (State.setDom_frame ..) rfl
            exact Frame.refl _ _
          · refine Frame.step ?_ (State.servo_frame ..) rfl
            refine Frame.step ?_ (State.setDom_frame ..) rfl
            exact Frame.refl _ _

theorem State.setActive_frame (a1 : State) (a2 : Nat) :
    Frame 0x40000100010 a1 (State.setActive a1 a2) := by
  unfold State.setActive
  extract_lets v1 v2
  have h3 : Frame 0x40000100010 a1 v2 := by
    unfold v2
    apply Frame.upd
    · exact Frame.refl _ _
    all_goals first | exact Or.inr rfl | exact Or.inl rfl | exact Or.inl (Nat.le_refl _) | rfl
  clear_value v2
  refine Frame.trans ?_ (State.put_frame rfl (tb_timA rfl) ..)
  refine Frame.trans ?_ (State.put_frame rfl (tb_timA rfl) ..)
  assumption

theorem State.takeDomain_frame (a1 : State) (a2 : Nat) :
    Frame 0x40000100030 a1 (State.takeDomain a1 a2) := by
  unfold State.takeDomain
  extract_lets v1
  have h2 : Frame 0x40000100030 a1 v1 := by
    unfold v1
    refine Frame.step ?_ (State.stepTime_frame ..) rfl
    refine Frame.step ?_ (State.setActive_frame ..) rfl
    exact Frame.refl _ _
  clear_value v1
  refine Frame.trans ?_ (State.put_frame rfl (tb_timA rfl) ..)
  assumption

theorem State.watchPrimary_frame (a1 : State) :
    Frame 0x10 a1 (State.watchPrimary a1) := by
  unfold State.watchPrimary
  extract_lets v1 v2 v3
  apply Frame.upd
  · exact Frame.refl _ _
  all_goals first | exact Or.inr rfl | exact Or.inl rfl | exact Or.inl (Nat.le_refl _) | rfl

theorem State.endHold_frame (a1 : State) :
    Frame 0x40000100000 a1 (State.endHold a1) := by
  unfold State.endHold
  refine Frame.ite (fun h1 => ?_) (fun h1 => ?_)
  · refine Frame.trans ?_ (State.put_frame rfl (tb_timA rfl) ..)
    refine Frame.trans ?_ (State.wr_frame rfl (tb_timA rfl) ..)
    exact Frame.refl _ _
  · exact Frame.refl _ _

theorem State.switchover_frame (a1 : State) (a2 : Nat) :
    Frame 0x40000100038 a1 (State.switchover a1 a2) := by
  unfold State.switchover
  extract_lets v1 v2 v3 v4 v5
  have h6 : Frame 0x40000100038 a1 v2 := by
    unfold v2
    refine Frame.trans ?_ (State.event_frame rfl (tb_timA rfl) (tb_timA rfl) ..)
    refine Frame.step ?_ (State.setActive_frame ..) rfl
    refine Frame.step ?_ (State.endHold_frame ..) rfl
    refine Frame.step ?_ (State.bump_frame ..) rfl
    exact Frame.refl _ _
  clear_value v2
  have h7 : Frame 0x40000100038 a1 v4 := by
    unfold v4
    apply Frame.upd
    · assumption
    all_goals first | exact Or.inr rfl | exact Or.inl rfl | exact Or.inl (Nat.le_refl _) | rfl
  clear_value v4
  have h8 : Frame 0x40000100038 a1 v5 := by
    unfold v5
    refine Frame.step ?_ (State.eachDom_frame ..) rfl
    assumption
  clear_value v5
  refine Frame.step ?_ (State.slewTo_frame ..) rfl
  assumption

theorem State.enterHold_frame (a1 : State) :
    Frame 0x40000100010 a1 (State.enterHold a1) := by
  unfold State.enterHold
  extract_lets v1 v2
  have h3 : Frame 0x40000100010 a1 v1 := by
    unfold v1
    refine Frame.trans ?_ (State.put_frame rfl (tb_timA rfl) ..)
    refine Frame.trans ?_ (State.put_frame rfl (tb_timA rfl) ..)
    refine Frame.step ?_ (State.slewStop_frame ..) rfl
    exact Frame.refl _ _
  clear_value v1
  apply Frame.upd
  · assumption
  all_goals first | exact Or.inr rfl | exact Or.inl rfl | exact Or.inl (Nat.le_refl _) | rfl

theorem execActiveDomainEvaluation_frame (a1 : State) :
    Fr getN 0x40000100038 a1 (execActiveDomainEvaluation a1) := by
  unfold execActiveDomainEvaluation
  refine Fr.next ?_
  split
  · rename_i z1 z2 z3
    refine Frame.ite (fun h4 => ?_) (fun h4 => ?_)
    · refine Frame.step ?_ (State.watchPrimary_frame ..) rfl
      exact Frame.refl _ _
    · refine Frame.ite (fun h5 => ?_) (fun h5 => ?_)
      · refine Frame.step ?_ (State.switchover_frame ..) rfl
        exact Frame.refl _ _
      · refine Frame.step ?_ (State.enterHold_frame ..) rfl
        exact Frame.refl _ _
  · rename_i z6 z7
    refine Frame.ite (fun h8 => ?_) (fun h8 => ?_)
    · split
      · rename_i z9 z10 z11
        refine Frame.step ?_ (State.switchover_frame ..) rfl
        exact Frame.refl _ _
      · rename_i z12 z13
        exact Frame.refl _ _
    · split
      · rename_i z14 z15 z16
        refine Frame.step ?_ (State.takeDomain_frame ..) rfl
        exact Frame.refl _ _
      · rename_i z17 z18
        exact Frame.refl _ _

theorem execPrimaryReturn_frame (a1 : State) :
    Fr getN 0x40000100038 a1 (execPrimaryReturn a1) := by
  unfold execPrimaryReturn
  refine Fr.next ?_
  split
  · rename_i z1 z2
    exact Frame.refl _ _
  · rename_i z3 z4 z5
    refine Frame.trans ?_ (State.atRef_frame rfl (fun u6 => ?_) ..)
    · exact Frame.refl _ _
    · refine Frame.ite (fun h7 => ?_) (fun h7 => ?_)
      · refine Frame.step ?_ (State.switchover_frame ..) rfl
        exact Frame.refl _ _
      · exact Frame.refl _ _

theorem execHoldoverExpiry_frame (a1 : State) :
    Fr getN 0x5340000108e3c a1 (execHoldoverExpiry a1) := by
  unfold execHoldoverExpiry
  refine Fr.next ?_
  refine Frame.ite (fun h1 => ?_) (fun h1 => ?_)
  · refine Frame.trans ?_ (State.atRef_frame rfl (fun u2 => ?_) ..)
    · exact Frame.refl _ _
    · extract_lets v3
      have h4 : Frame 0x5340000108e3c u2 v3 := by
        unfold v3
        refine Frame.step ?_ (State.setLocked_frame ..) rfl
        refine Frame.step ?_ (State.endHold_frame ..) rfl
        exact Frame.refl _ _
      clear_value v3
      split
      · rename_i z5 z6 z7
        refine Frame.step ?_ (State.takeDomain_frame ..) rfl
        assumption
      · rename_i z8 z9
        assumption
  · exact Frame.refl _ _

theorem execFollowUp_frame (a1 : Nat) (a2 : Nat) (a3 : Nat) (a4 : FollowUpBody) (a6 : State) :
    Fr getN 0x40000100030 a6 (execFollowUp a1 a2 a3 a4 a6) := by
  unfold execFollowUp
  refine Fr.guard ?_
  split
  · rename_i z1 z2
    exact Frame.refl _ _
  · rename_i z3 z4 z5
    split
    · rename_i z6 z7
      exact Frame.refl _ _
    · rename_i z8 z9 z10
      refine Frame.ite (fun h11 => ?_) (fun h11 => ?_)
      · refine Frame.step ?_ (State.servo_frame ..) rfl
        exact Frame.refl _ _
      · exact Frame.refl _ _

theorem execSyncReceiptTimeout_frame (a1 : Nat) (a2 : State) :
    Fr getN 0x40000100030 a2 (execSyncReceiptTimeout a1 a2) := by
  unfold execSyncReceiptTimeout
  refine Fr.guard ?_
  refine Frame.ite (fun h1 => ?_) (fun h1 => ?_)
  · exact Frame.refl _ _
  · split
    · rename_i z2 z3
      exact Frame.refl _ _
    · rename_i z4 z5 z6 z7
      refine Frame.trans ?_ (State.atRef_frame rfl (fun u8 => ?_) ..)
      · exact Frame.refl _ _
      · refine Frame.step ?_ (State.agePort_frame ..) rfl
        refine Frame.step ?_ (State.toListening_frame ..) rfl
        exact Frame.refl _ _

theorem execPdelayResp_frame (a1 : Nat) (a2 : Nat) (a3 : Nat) (a4 : Nat) (a5 : State) :
    Fr getN 0x40 a5 (execPdelayResp a1 a2 a3 a4 a5) := by
  unfold execPdelayResp
  refine Fr.guard ?_
  split
  · rename_i z1 z2
    exact Frame.refl _ _
  · rename_i z3 z4 z5 z6
    refine Frame.ite (fun h7 => ?_) (fun h7 => ?_)
    · refine Frame.step ?_ (State.setEp_frame ..) rfl
      exact Frame.refl _ _
    · exact Frame.refl _ _

theorem execPdelayRespFollowUp_frame (a1 : Nat) (a2 : Nat) (a3 : Nat) (a4 : State) :
    Fr getN 0x40000100040 a4 (execPdelayRespFollowUp a1 a2 a3 a4) := by
  unfold execPdelayRespFollowUp
  refine Fr.guard ?_
  split
  · rename_i z1 z2 z3 z4 z5 z6 z7 z8
    refine Frame.ite (fun h9 => ?_) (fun h9 => ?_)
    · extract_lets v10 v11
      refine Frame.trans ?_ (State.wr_frame rfl (tb_timA rfl) ..)
      refine Frame.step ?_ (State.setEp_frame ..) rfl
      exact Frame.refl _ _
    · exact Frame.refl _ _
  · rename_i z12 z13 z14
    exact Frame.refl _ _

theorem execPdelayReqTransmit_frame (a1 : Nat) (a2 : Nat) (a3 : State) :
    Fr getN 0x44 a3 (execPdelayReqTransmit a1 a2 a3) := by
  unfold execPdelayReqTransmit
  refine Fr.guard ?_
  refine Frame.ite (fun h1 => ?_) (fun h1 => ?_)
  · exact Frame.refl _ _
  · extract_lets v2 v3
    refine Frame.step ?_ (State.emit_frame ..) rfl
    refine Frame.step ?_ (State.setEp_frame ..) rfl
    exact Frame.refl _ _

end Sys2Proof.Machine
end

