-- ==== Sys2Proof/Laws/FrameActivate.lean ====
section
/-!
SUPPORT. Frame laws of Machine/Activate.lean: which components each of its operations may change.
-/

namespace Sys2Proof.Machine

open Sys2Proof

theorem State.resvShow_frame (a1 : State) :
    Frame 0x10000100000 a1 (State.resvShow a1) := by
  unfold State.resvShow
  extract_lets v1
  refine Frame.foldl ?_ (fun u2 x3 h4 => ?_)
  · exact Frame.refl _ _
  · refine Frame.trans ?_ (State.wr_frame rfl (tb_glbA rfl) ..)
    assumption

theorem State.cycSet_frame (a1 : State) (a2 : Option Nat) :
    Frame 0x10400100000 a1 (State.cycSet a1 a2) := by
  unfold State.cycSet
  extract_lets v1 v2
  have h3 : Frame 0x10400100000 a1 v1 := by
    unfold v1
    split
    · rename_i z4 z5
      refine Frame.trans ?_ (State.put_frame rfl rfl ..)
      refine Frame.trans ?_ (State.put_frame rfl rfl ..)
      refine Frame.trans ?_ (State.put_frame rfl rfl ..)
      refine Frame.trans ?_ (State.put_frame rfl rfl ..)
      exact Frame.refl _ _
    · rename_i z6
      refine Frame.trans ?_ (State.put_frame rfl rfl ..)
      refine Frame.trans ?_ (State.put_frame rfl rfl ..)
      exact Frame.refl _ _
  clear_value v1
  refine Frame.step ?_ (State.resvShow_frame ..) rfl
  apply Frame.upd
  · assumption
  all_goals first | exact Or.inr rfl | exact Or.inl rfl | exact Or.inl (Nat.le_refl _) | rfl

theorem State.orphanTiles_frame (a1 : State) (a2 : Nat) :
    Frame 0x1000000 a1 (State.orphanTiles a1 a2) := by
  unfold State.orphanTiles
  apply Frame.upd
  · exact Frame.refl _ _
  all_goals first | exact Or.inr rfl | exact Or.inl rfl | exact Or.inl (Nat.le_refl _) | rfl

theorem State.giveTensor_frame (a1 : State) (a2 : Job) (a3 : Bind) (a4 : Bytes) :
    Frame 0x210000 a1 (State.giveTensor a1 a2 a3 a4) := by
  unfold State.giveTensor
  refine Frame.step ?_ (State.fillTensor_frame ..) rfl
  refine Frame.step ?_ (State.updJob_frame ..) rfl
  exact Frame.refl _ _

theorem State.giveNeutral_frame (a1 : State) (a2 : Job) (a3 : Bind) :
    Frame 0x210008 a1 (State.giveNeutral a1 a2 a3) := by
  unfold State.giveNeutral
  extract_lets v1 v2 v3
  have h4 : Frame 0x210008 a1 v3 := by
    unfold v3
    refine Frame.step ?_ (State.giveTensor_frame ..) rfl
    exact Frame.refl _ _
  clear_value v3
  apply Frame.upd
  · assumption
  all_goals first | exact Or.inr rfl | exact Or.inl rfl | exact Or.inl (Nat.le_refl _) | rfl

theorem State.markRepeated_frame (a1 : State) (a2 : Nat) (a3 : Nat) :
    Frame 0x200000 a1 (State.markRepeated a1 a2 a3) := by
  unfold State.markRepeated
  split
  · rename_i z1 z2
    exact Frame.refl _ _
  · rename_i z3 z4 z5
    extract_lets v6
    refine Frame.step ?_ (State.wrBytes_frame ..) rfl
    exact Frame.refl _ _

theorem State.bindStream_frame (a1 : Job) (a2 : Nat) (a3 : State) (a4 : Bind) :
    Frame 0x90100311008 a3 (State.bindStream a1 a2 a3 a4) := by
  unfold State.bindStream
  extract_lets v1 v2 v3 v4 v5 v6
  have h7 : Frame 0x90100311008 a3 v3 := by
    unfold v3
    refine Frame.ite (fun h8 => ?_) (fun h8 => ?_)
    · refine Frame.trans ?_ (State.event_frame rfl rfl rfl ..)
      exact Frame.refl _ _
    · exact Frame.refl _ _
  clear_value v3
  have h9 : Frame 0x90100311008 a3 v4 := by
    unfold v4
    refine Frame.ite (fun h10 => ?_) (fun h10 => ?_)
    · refine Frame.trans ?_ (State.event_frame rfl rfl rfl ..)
      assumption
    · assumption
  clear_value v4
  have h11 : Frame 0x90100311008 a3 v5 := by
    unfold v5
    refine Frame.ite (fun h12 => ?_) (fun h12 => ?_)
    · refine Frame.trans ?_ (State.event_frame rfl rfl rfl ..)
      assumption
    · assumption
  clear_value v5
  have h13 : Frame 0x90100311008 a3 v6 := by
    unfold v6
    refine Frame.step ?_ (State.slogAdd_frame ..) rfl
    assumption
  clear_value v6
  split
  · rename_i z14 z15
    refine Frame.step ?_ (State.giveNeutral_frame ..) rfl
    refine Frame.trans ?_ (State.count_frame rfl (tb_ingA rfl) ..)
    assumption
  · rename_i z16 z17 z18
    extract_lets v19 v20 v21
    have h22 : Frame 0x90100311008 a3 v19 := by
      unfold v19
      refine Frame.ite (fun h23 => ?_) (fun h23 => ?_)
      · refine Frame.step ?_ (State.markRepeated_frame ..) rfl
        assumption
      · assumption
    clear_value v19
    have h24 : Frame 0x90100311008 a3 v21 := by
      unfold v21
      refine Frame.step ?_ (State.setStrm_frame ..) rfl
      assumption
    clear_value v21
    refine Frame.step ?_ (State.giveTensor_frame ..) rfl
    assumption

theorem State.bindCanary_frame (a1 : Job) (a2 : State) (a3 : Bind) :
    Frame 0x210008 a2 (State.bindCanary a1 a2 a3) := by
  unfold State.bindCanary
  split
  · rename_i z1 z2 z3
    refine Frame.step ?_ (State.giveTensor_frame ..) rfl
    refine Frame.step ?_ (State.updJob_frame ..) rfl
    exact Frame.refl _ _
  · rename_i z4 z5
    refine Frame.step ?_ (State.giveNeutral_frame ..) rfl
    exact Frame.refl _ _

theorem State.actStart_frame (a1 : State) (a2 : List CycEntry) (a3 : CycEntry) :
    Frame 0x107bb09ed319e8c a1 (State.actStart a1 a2 a3) := by
  unfold State.actStart
  extract_lets v1 v2 v3 v4 v5 v6
  have h7 : Frame 0x107bb09ed319e8c a1 v1 := by
    unfold v1
    split
    · rename_i z8 z9 z10
      refine Frame.ite (fun h11 => ?_) (fun h11 => ?_)
      · refine Frame.step ?_ (State.orphanTiles_frame ..) rfl
        refine Frame.step ?_ (State.actEnd_frame ..) rfl
        exact Frame.refl _ _
      · exact Frame.refl _ _
    · rename_i z12 z13
      exact Frame.refl _ _
  clear_value v1
  have h14 : Frame 0x107bb09ed319e8c a1 v6 := by
    unfold v6
    apply Frame.upd
    · assumption
    all_goals first | exact Or.inr rfl | exact Or.inl rfl | exact Or.inl (Nat.le_refl _) | rfl
  clear_value v6
  split
  · rename_i z15 z16
    assumption
  · rename_i z17 z18 z19
    refine Frame.ite (fun h20 => ?_) (fun h20 => ?_)
    · assumption
    · extract_lets v21 v22 v23 v24
      have h25 : Frame 0x107bb09ed319e8c a1 v22 := by
        unfold v22
        refine Frame.step ?_ (State.updJob_frame ..) rfl
        assumption
      clear_value v22
      have h26 : Frame 0x107bb09ed319e8c a1 v23 := by
        unfold v23
        refine Frame.foldl ?_ (fun u27 x28 h29 => ?_)
        · assumption
        · refine Frame.step ?_ (State.bindStream_frame ..) rfl
          assumption
      clear_value v23
      have h30 : Frame 0x107bb09ed319e8c a1 v24 := by
        unfold v24
        refine Frame.ite (fun h31 => ?_) (fun h31 => ?_)
        · refine Frame.foldl ?_ (fun u32 x33 h34 => ?_)
          · assumption
          · refine Frame.step ?_ (State.bindCanary_frame ..) rfl
            assumption
        · assumption
      clear_value v24
      refine Frame.step ?_ (State.stepLevels_frame ..) rfl
      assumption

theorem State.actStarts_frame (a1 : State) :
    Frame 0x107bb09ed319e8c a1 (State.actStarts a1) := by
  unfold State.actStarts
  extract_lets v1
  refine Frame.foldl ?_ (fun u2 x3 h4 => ?_)
  · exact Frame.refl _ _
  · refine Frame.step ?_ (State.actStart_frame ..) rfl
    assumption

theorem State.detPublish_frame (a1 : State) (a2 : Nat) :
    Frame 0x73b0100119e84 a1 (State.detPublish a1 a2) := by
  unfold State.detPublish
  split
  · rename_i z1 z2
    exact Frame.refl _ _
  · rename_i z3 z4 z5
    split
    · rename_i z6 z7
      exact Frame.refl _ _
    · rename_i z8 z9 z10
      refine Frame.ite (fun h11 => ?_) (fun h11 => ?_)
      · exact Frame.refl _ _
      · refine Frame.ite (fun h12 => ?_) (fun h12 => ?_)
        · refine Frame.step ?_ (State.actEnd_frame ..) rfl
          exact Frame.refl _ _
        · refine Frame.step ?_ (State.publish_frame ..) rfl
          exact Frame.refl _ _

theorem State.heartbeats_frame (a1 : State) :
    Frame 0x20008c010000c a1 (State.heartbeats a1) := by
  unfold State.heartbeats
  extract_lets v1 v2 v3 v4 v5
  have h6 : Frame 0x20008c010000c a1 v5 := by
    unfold v5
    refine Frame.step ?_ (State.setFab_frame ..) rfl
    exact Frame.refl _ _
  clear_value v5
  refine Frame.foldl ?_ (fun u7 x8 h9 => ?_)
  · assumption
  · refine Frame.step ?_ (State.sendHeartbeat_frame ..) rfl
    assumption

theorem State.percFrame_frame (a1 : State) :
    Frame 0x800 a1 (State.percFrame a1) := by
  unfold State.percFrame
  refine Frame.ite (fun h1 => ?_) (fun h1 => ?_)
  · refine Frame.step ?_ (State.percMissed_frame ..) rfl
    exact Frame.refl _ _
  · exact Frame.refl _ _

theorem State.actStop_frame (a1 : State) (a2 : Nat) :
    Frame 0x7330000119e84 a1 (State.actStop a1 a2) := by
  unfold State.actStop
  split
  · rename_i z1 z2
    exact Frame.refl _ _
  · rename_i z3 z4 z5
    split
    · rename_i z6 z7
      exact Frame.refl _ _
    · rename_i z8 z9 z10
      refine Frame.ite (fun h11 => ?_) (fun h11 => ?_)
      · exact Frame.refl _ _
      · extract_lets v12
        have h13 : Frame 0x7330000119e84 a1 v12 := by
          unfold v12
          refine Frame.step ?_ (State.updJob_frame ..) rfl
          exact Frame.refl _ _
        clear_value v12
        refine Frame.ite (fun h14 => ?_) (fun h14 => ?_)
        · assumption
        · refine Frame.step ?_ (State.actEnd_frame ..) rfl
          assumption

theorem State.cycSwitch_frame (a1 : State) :
    Frame 0x7330400119e84 a1 (State.cycSwitch a1) := by
  unfold State.cycSwitch
  split
  · rename_i z1 z2
    exact Frame.refl _ _
  · rename_i z3 z4 z5
    extract_lets v6
    refine Frame.ite (fun h7 => ?_) (fun h7 => ?_)
    · refine Frame.step ?_ (State.cycSet_frame ..) rfl
      refine Frame.foldl ?_ (fun u8 x9 h10 => ?_)
      · exact Frame.refl _ _
      · refine Frame.step ?_ (State.actStop_frame ..) rfl
        assumption
    · exact Frame.refl _ _

end Sys2Proof.Machine
end

