-- ==== Sys2Proof/Laws/FrameDma.lean ====
section
/-!
SUPPORT. Frame laws of Machine/Dma.lean: which components each of its operations may change.
-/

namespace Sys2Proof.Machine

open Sys2Proof

theorem State.unreachable_frame (a1 : State) (a2 : Nat) (a3 : Nat) (a4 : Nat) (a5 : Xfer) :
    Frame 0x100800002100008 a1 (State.unreachable a1 a2 a3 a4 a5) := by
  unfold State.unreachable
  refine Frame.trans ?_ (State.event_frame rfl (tb_fabA rfl) (tb_fabA rfl) ..)
  refine Frame.step ?_ (State.haltChan_frame ..) rfl
  exact Frame.refl _ _

theorem execDmaTransferIssue_frame (a1 : Nat) (a2 : Nat) (a3 : Nat) (a4 : Xfer) (a5 : State) :
    Fr getN 0x107b91dff399e0c a5 (execDmaTransferIssue a1 a2 a3 a4 a5) := by
  unfold execDmaTransferIssue
  refine Fr.guard ?_
  extract_lets v1 v2 v3
  have h4 : Frame 0x107b91dff399e0c a5 v2 := by
    unfold v2
    refine Frame.step ?_ (State.finishCopy_frame ..) rfl
    refine Frame.step ?_ (State.tlySync_frame ..) rfl
    exact Frame.refl _ _
  clear_value v2
  have h5 : Frame 0x107b91dff399e0c a5 v3 := by
    unfold v3
    refine Frame.step ?_ (State.setChan_frame ..) rfl
    assumption
  clear_value v3
  refine Frame.ite (fun h6 => ?_) (fun h6 => ?_)
  · exact Frame.refl _ _
  · refine Frame.ite (fun h7 => ?_) (fun h7 => ?_)
    · refine Frame.step ?_ (State.haltChan_frame ..) rfl
      assumption
    · split
      · rename_i z8 z9 z10
        refine Frame.step ?_ (State.jobFault_frame ..) rfl
        refine Frame.step ?_ (State.memFault_frame ..) rfl
        assumption
      · rename_i z11 z12
        refine Frame.ite (fun h13 => ?_) (fun h13 => ?_)
        · refine Frame.step ?_ (State.unreachable_frame ..) rfl
          assumption
        · split
          · rename_i z14 z15 z16 z17 z18 z19 z20 z21 z22 z23 z24
            refine Frame.step ?_ (State.sendTo_frame ..) rfl
            refine Frame.step ?_ (State.setChan_frame ..) rfl
            assumption
          · rename_i z25 z26 z27 z28
            refine Frame.step ?_ (State.setChan_frame ..) rfl
            assumption

theorem State.peerEnd_frame (a1 : State) (a2 : Nat) (a3 : Status) :
    Frame 0x1069b09ed11928c a1 (State.peerEnd a1 a2 a3) := by
  unfold State.peerEnd
  split
  · rename_i z1 z2
    exact Frame.refl _ _
  · rename_i z3 z4 z5
    extract_lets v6 v7
    have h8 : Frame 0x1069b09ed11928c a1 v7 := by
      unfold v7
      refine Frame.ite (fun h9 => ?_) (fun h9 => ?_)
      · refine Frame.step ?_ (State.abortEvent_frame ..) rfl
        exact Frame.refl _ _
      · exact Frame.refl _ _
    clear_value v7
    refine Frame.ite (fun h10 => ?_) (fun h10 => ?_)
    · exact Frame.refl _ _
    · refine Frame.step ?_ (State.endSoon_frame ..) rfl
      refine Frame.step ?_ (State.tellPeers_frame ..) rfl
      assumption

theorem State.leadMsg_frame (a1 : State) (a2 : LeadMsg) :
    Frame 0x1069b09fdf1928c a1 (State.leadMsg a1 a2) := by
  unfold State.leadMsg
  split
  · rename_i z1 z2
    refine Frame.ite (fun h3 => ?_) (fun h3 => ?_)
    · exact Frame.refl _ _
    · refine Frame.step ?_ (State.takePlan_frame ..) rfl
      exact Frame.refl _ _
  · rename_i z4 z5 z6 z7
    split
    · rename_i z8 z9 z10
      refine Frame.ite (fun h11 => ?_) (fun h11 => ?_)
      · exact Frame.refl _ _
      · refine Frame.step ?_ (State.updJob_frame ..) rfl
        exact Frame.refl _ _
    · rename_i z12 z13
      exact Frame.refl _ _
  · rename_i z14 z15 z16
    split
    · rename_i z17 z18 z19
      refine Frame.step ?_ (State.peerEnd_frame ..) rfl
      exact Frame.refl _ _
    · rename_i z20 z21
      exact Frame.refl _ _
  · rename_i z22 z23 z24 z25 z26
    split
    · rename_i z27 z28 z29
      refine Frame.ite (fun h30 => ?_) (fun h30 => ?_)
      · exact Frame.refl _ _
      · refine Frame.step ?_ (State.updJob_frame ..) rfl
        exact Frame.refl _ _
    · rename_i z31 z32
      exact Frame.refl _ _

theorem execLeadMsg_frame (a1 : Via LeadMsg) (a3 : State) :
    Fr getN 0x1069b09fdf1928c a3 (execLeadMsg a1 a3) := by
  unfold execLeadMsg
  refine Fr.guard ?_
  refine Frame.trans ?_ (State.received_frame rfl (fun u1 => ?_) ..)
  · exact Frame.refl _ _
  · refine Frame.step ?_ (State.leadMsg_frame ..) rfl
    exact Frame.refl _ _

theorem State.linkLost_frame (a1 : State) (a2 : Nat) (a3 : Nat) :
    Frame 0x1069b09ef11928c a1 (State.linkLost a1 a2 a3) := by
  unfold State.linkLost
  extract_lets v1 v2 v3 v4 v5 v6
  have h7 : Frame 0x1069b09ef11928c a1 v2 := by
    unfold v2
    refine Frame.step ?_ (State.linkFall_frame ..) rfl
    exact Frame.refl _ _
  clear_value v2
  have h8 : Frame 0x1069b09ef11928c a1 v5 := by
    unfold v5
    refine Frame.foldl ?_ (fun u9 x10 h11 => ?_)
    · assumption
    · refine Frame.step ?_ (State.haltChan_frame ..) rfl
      refine Frame.step ?_ (State.tlySync_frame ..) rfl
      assumption
  clear_value v5
  refine Frame.foldl ?_ (fun u12 x13 h14 => ?_)
  · assumption
  · refine Frame.step ?_ (State.haltJob_frame ..) rfl
    refine Frame.foldl ?_ (fun u15 x16 h17 => ?_)
    · assumption
    · refine Frame.step ?_ (State.abortEvent_frame ..) rfl
      assumption

theorem execHeartbeat_frame (a1 : Via Nat) (a3 : Nat) (a4 : State) :
    Fr getN 0x28008c010000c a4 (execHeartbeat a1 a3 a4) := by
  unfold execHeartbeat
  refine Fr.guard ?_
  refine Frame.trans ?_ (State.received_frame rfl (fun u1 => ?_) ..)
  · exact Frame.refl _ _
  · refine Frame.ite (fun h2 => ?_) (fun h2 => ?_)
    · exact Frame.refl _ _
    · refine Frame.ite (fun h3 => ?_) (fun h3 => ?_)
      · refine Frame.step ?_ (State.setFab_frame ..) rfl
        exact Frame.refl _ _
      · refine Frame.ite (fun h4 => ?_) (fun h4 => ?_)
        · refine Frame.step ?_ (State.sendHeartbeat_frame ..) rfl
          refine Frame.step ?_ (State.setFab_frame ..) rfl
          exact Frame.refl _ _
        · exact Frame.refl _ _

theorem State.granted_frame (a1 : State) (a2 : Nat) (a3 : Nat) (a4 : Nat) :
    Frame 0x1028008c210000c a1 (State.granted a1 a2 a3 a4) := by
  unfold State.granted
  split
  · rename_i z1 z2 z3 z4 z5 z6 z7 z8 z9 z10 z11
    extract_lets v12 v13 v14 v15 v16 v17 v18
    have h19 : Frame 0x1028008c210000c a1 v15 := by
      unfold v15
      refine Frame.step ?_ (State.tlySync_frame ..) rfl
      exact Frame.refl _ _
    clear_value v15
    have h20 : Frame 0x1028008c210000c a1 v17 := by
      unfold v17
      refine Frame.step ?_ (State.setChan_frame ..) rfl
      assumption
    clear_value v17
    have h21 : Frame 0x1028008c210000c a1 v18 := by
      unfold v18
      refine Frame.ite (fun h22 => ?_) (fun h22 => ?_)
      · assumption
      · refine Frame.step ?_ (State.sendTo_frame ..) rfl
        assumption
    clear_value v18
    refine Frame.ite (fun h23 => ?_) (fun h23 => ?_)
    · refine Frame.step ?_ (State.unreachable_frame ..) rfl
      assumption
    · clear_value v13
      split
      · rename_i z24 z25
        refine Frame.step ?_ (State.haltChan_frame ..) rfl
        refine Frame.step ?_ (State.eccFail_frame ..) rfl
        assumption
      · rename_i z26
        assumption
  · rename_i z27 z28 z29
    exact Frame.refl _ _

theorem State.settleTell_frame (a1 : State) (a2 : Job) (a3 : List Nat) :
    Frame 0x20008c010000c a1 (State.settleTell a1 a2 a3) := by
  unfold State.settleTell
  refine Frame.ite (fun h1 => ?_) (fun h1 => ?_)
  · exact Frame.refl _ _
  · refine Frame.foldl ?_ (fun u2 x3 h4 => ?_)
    · exact Frame.refl _ _
    · refine Frame.step ?_ (State.sendTo_frame ..) rfl
      assumption

theorem execStepSettleRound_frame (a1 : Nat) (a2 : State) :
    Fr getN 0x1020008d031000c a2 (execStepSettleRound a1 a2) := by
  unfold execStepSettleRound
  refine Fr.next ?_
  split
  · rename_i z1 z2
    exact Frame.refl _ _
  · rename_i z3 z4 z5
    refine Frame.ite (fun h6 => ?_) (fun h6 => ?_)
    · exact Frame.refl _ _
    · extract_lets v7 v8 v9 v10 v11
      have h12 : Frame 0x1020008d031000c a2 v8 := by
        unfold v8
        refine Frame.step ?_ (State.settleTell_frame ..) rfl
        exact Frame.refl _ _
      clear_value v8
      have h13 : Fr getP 0x1020008d031000c a2 v9 := by
        unfold v9
        refine Fr.step ?_ (State.kvGrowth_frame ..) rfl
        assumption
      clear_value v9
      have h14 : Frame 0x1020008d031000c a2 v10 := by
        unfold v10
        refine Frame.step ?_ (State.settleReport_frame ..) rfl
        refine Fr.fst ?_
        assumption
      clear_value v10
      have h15 : Fr getP 0x1020008d031000c a2 v11 := by
        unfold v11
        refine Fr.step ?_ (State.kvFinish_frame ..) rfl
        assumption
      clear_value v11
      refine Frame.ite (fun h16 => ?_) (fun h16 => ?_)
      · refine Frame.step ?_ (State.updJob_frame ..) rfl
        assumption
      · refine Frame.step ?_ (State.updJob_frame ..) rfl
        refine Fr.fst ?_
        assumption

theorem execDmaUncorrectable_frame (a1 : Nat) (a2 : Nat) (a3 : Nat) (a4 : Nat) (a5 : State) :
    Fr getN 0x100000002300008 a5 (execDmaUncorrectable a1 a2 a3 a4 a5) := by
  unfold execDmaUncorrectable
  refine Fr.guard ?_
  extract_lets v1 v2
  split
  · rename_i z3 z4 z5 z6 z7 z8 z9
    refine Frame.ite (fun h10 => ?_) (fun h10 => ?_)
    · refine Frame.step ?_ (State.haltChan_frame ..) rfl
      refine Frame.step ?_ (State.eccFail_frame ..) rfl
      refine Frame.step ?_ (State.wrBytes_frame ..) rfl
      exact Frame.refl _ _
    · exact Frame.refl _ _
  · rename_i z11 z12 z13 z14 z15 z16 z17 z18 z19 z20 z21
    refine Frame.ite (fun h22 => ?_) (fun h22 => ?_)
    · refine Frame.step ?_ (State.setChan_frame ..) rfl
      exact Frame.refl _ _
    · exact Frame.refl _ _
  · rename_i z23 z24 z25 z26
    exact Frame.refl _ _

theorem execCreditGrant_frame (a2 : GrantAt) (a3 : State) :
    Fr getN 0x1028008c610000c a3 (execCreditGrant a2 a3) := by
  unfold execCreditGrant
  split
  · rename_i z1 z2 z3
    refine Fr.guard ?_
    refine Frame.step ?_ (State.grantHead_frame ..) rfl
    exact Frame.refl _ _
  · rename_i z4 z5 z6 z7
    refine Fr.guard ?_
    refine Frame.trans ?_ (State.received_frame rfl (fun u8 => ?_) ..)
    · exact Frame.refl _ _
    · refine Frame.step ?_ (State.granted_frame ..) rfl
      exact Frame.refl _ _

theorem execCreditRefuse_frame (a1 : Via Nat) (a3 : Nat) (a4 : Nat) (a5 : Nat) (a6 : State) :
    Fr getN 0x1028008c210000c a6 (execCreditRefuse a1 a3 a4 a5 a6) := by
  unfold execCreditRefuse
  refine Fr.guard ?_
  refine Frame.trans ?_ (State.received_frame rfl (fun u1 => ?_) ..)
  · exact Frame.refl _ _
  · extract_lets v2
    split
    · rename_i z3 z4 z5 z6 z7
      refine Frame.step ?_ (State.haltChan_frame ..) rfl
      refine Frame.step ?_ (State.tlySync_frame ..) rfl
      exact Frame.refl _ _
    · rename_i z8 z9 z10
      exact Frame.refl _ _

theorem State.chanAck_frame (a1 : State) (a2 : Nat) (a3 : Nat) (a4 : Nat) :
    Frame 0x20008c210000c a1 (State.chanAck a1 a2 a3 a4) := by
  unfold State.chanAck
  split
  · rename_i z1 z2 z3 z4 z5
    refine Frame.step ?_ (State.returnGrant_frame ..) rfl
    refine Frame.step ?_ (State.setChan_frame ..) rfl
    exact Frame.refl _ _
  · rename_i z6 z7 z8
    exact Frame.refl _ _

theorem State.collAck_frame (a1 : State) (a2 : Nat) (a3 : Nat) (a4 : Nat) :
    Frame 0x20008c011000c a1 (State.collAck a1 a2 a3 a4) := by
  unfold State.collAck
  split
  · rename_i z1 z2
    exact Frame.refl _ _
  · rename_i z3 z4 z5
    refine Frame.step ?_ (State.collTell_frame ..) rfl
    refine Frame.step ?_ (State.updColl_frame ..) rfl
    exact Frame.refl _ _

theorem execWriteAck_frame (a1 : Via AckAt) (a2 : Nat) (a4 : Nat) (a3 : State) :
    Fr getN 0x28008c211000c a3 (execWriteAck a1 a2 a4 a3) := by
  unfold execWriteAck
  split
  · refine Fr.guard ?_
    refine Frame.trans ?_ (State.received_frame rfl (fun u5 => ?_) ..)
    · exact Frame.refl _ _
    · refine Frame.step ?_ (State.chanAck_frame ..) rfl
      exact Frame.refl _ _
  · refine Fr.guard ?_
    refine Frame.trans ?_ (State.received_frame rfl (fun u10 => ?_) ..)
    · exact Frame.refl _ _
    · refine Frame.step ?_ (State.collAck_frame ..) rfl
      exact Frame.refl _ _

theorem execWriteNak_frame (a1 : Via Nat) (a3 : Nat) (a4 : Nat) (a5 : Nat) (a6 : State) :
    Fr getN 0x1028008c210000c a6 (execWriteNak a1 a3 a4 a5 a6) := by
  unfold execWriteNak
  refine Fr.guard ?_
  refine Frame.trans ?_ (State.received_frame rfl (fun u1 => ?_) ..)
  · exact Frame.refl _ _
  · extract_lets v2
    split
    · rename_i z3 z4 z5 z6 z7
      refine Frame.step ?_ (State.haltChan_frame ..) rfl
      exact Frame.refl _ _
    · rename_i z8 z9 z10
      exact Frame.refl _ _

theorem execRetrainTimeout_frame (a1 : Nat) (a2 : State) :
    Fr getN 0x1069f09ef1192bc a2 (execRetrainTimeout a1 a2) := by
  unfold execRetrainTimeout
  refine Fr.guard ?_
  refine Frame.ite (fun h1 => ?_) (fun h1 => ?_)
  · refine Frame.trans ?_ (State.atRef_frame rfl (fun u2 => ?_) ..)
    · exact Frame.refl _ _
    · refine Frame.step ?_ (State.linkLost_frame ..) rfl
      exact Frame.refl _ _
  · exact Frame.refl _ _

theorem execLinkPeerLost_frame (a1 : Nat) (a2 : State) :
    Fr getN 0x1069b09ef11928c a2 (execLinkPeerLost a1 a2) := by
  unfold execLinkPeerLost
  refine Fr.guard ?_
  refine Frame.ite (fun h1 => ?_) (fun h1 => ?_)
  · refine Frame.step ?_ (State.linkLost_frame ..) rfl
    exact Frame.refl _ _
  · exact Frame.refl _ _

theorem execCollPartial_frame (a1 : Via Nat) (a3 : Nat) (a4 : CollPart) (a5 : Bytes) (a6 : State) :
    Fr getN 0x1069b09ed31928c a6 (execCollPartial a1 a3 a4 a5 a6) := by
  unfold execCollPartial
  refine Fr.guard ?_
  refine Frame.trans ?_ (State.received_frame rfl (fun u1 => ?_) ..)
  · exact Frame.refl _ _
  · split
    · rename_i z2 z3
      exact Frame.refl _ _
    · rename_i z4 z5 z6
      refine Frame.step ?_ (State.collIn_frame ..) rfl
      exact Frame.refl _ _

theorem execCollEvent_frame (a1 : Via CollSignal) (a6 : State) :
    Fr getN 0x1069b09ed31928c a6 (execCollEvent a1 a6) := by
  unfold execCollEvent
  refine Fr.guard ?_
  refine Frame.trans ?_ (State.received_frame rfl (fun u1 => ?_) ..)
  · exact Frame.refl _ _
  · refine Frame.ite (fun h2 => ?_) (fun h2 => ?_)
    · refine Frame.step ?_ (State.peerEnd_frame ..) rfl
      exact Frame.refl _ _
    · split
      · rename_i z3 z4
        exact Frame.refl _ _
      · rename_i z5 z6 z7
        refine Frame.step ?_ (State.stepLevels_frame ..) rfl
        refine Frame.step ?_ (State.updColl_frame ..) rfl
        exact Frame.refl _ _

theorem execLeadHeartbeatTimeout_frame (a1 : State) :
    Fr getN 0x1069b09ed11928c a1 (execLeadHeartbeatTimeout a1) := by
  unfold execLeadHeartbeatTimeout
  refine Fr.next ?_
  refine Frame.ite (fun h1 => ?_) (fun h1 => ?_)
  · exact Frame.refl _ _
  · extract_lets v2 v3
    have h4 : Frame 0x1069b09ed11928c a1 v3 := by
      unfold v3
      refine Frame.trans ?_ (State.event_frame rfl (tb_fabA rfl) (tb_fabA rfl) ..)
      refine Frame.step ?_ (State.setFab_frame ..) rfl
      exact Frame.refl _ _
    clear_value v3
    refine Frame.foldl ?_ (fun u5 x6 h7 => ?_)
    · assumption
    · refine Frame.step ?_ (State.endSoon_frame ..) rfl
      assumption

theorem execMemberHeartbeatTimeout_frame (a1 : Nat) (a2 : State) :
    Fr getN 0x1061b09ed11928c a2 (execMemberHeartbeatTimeout a1 a2) := by
  unfold execMemberHeartbeatTimeout
  refine Fr.guard ?_
  refine Frame.ite (fun h1 => ?_) (fun h1 => ?_)
  · exact Frame.refl _ _
  · extract_lets v2 v3
    have h4 : Frame 0x1061b09ed11928c a2 v3 := by
      unfold v3
      refine Frame.step ?_ (State.setFab_frame ..) rfl
      exact Frame.refl _ _
    clear_value v3
    refine Frame.foldl ?_ (fun u5 x6 h7 => ?_)
    · assumption
    · refine Frame.step ?_ (State.endSoon_frame ..) rfl
      refine Frame.step ?_ (State.tellPeers_frame ..) rfl
      assumption

end Sys2Proof.Machine
end

