-- ==== Sys2Proof/Laws/FrameReceive.lean ====
section
/-!
SUPPORT. Frame laws of Machine/Receive.lean: which components each of its operations may change.
-/

namespace Sys2Proof.Machine

open Sys2Proof

theorem State.feedback_frame (a1 : State) (a2 : List Nat) (a3 : Nat) (a4 : Bytes) :
    Frame 0x100000100200 a1 (State.feedback a1 a2 a3 a4) := by
  unfold State.feedback
  split
  · rename_i z1
    exact Frame.refl _ _
  · rename_i z2 z3
    split
    · rename_i z4 z5
      refine Frame.trans ?_ (State.count_frame rfl (tb_ctlA rfl) ..)
      exact Frame.refl _ _
    · rename_i z6 z7 z8 z9
      split
      · rename_i z10 z11
        exact Frame.refl _ _
      · rename_i z12 z13 z14
        refine Frame.step ?_ (State.setAx_frame ..) rfl
        exact Frame.refl _ _
  · rename_i z15 z16 z17
    refine Frame.foldl ?_ (fun u18 x19 h20 => ?_)
    · exact Frame.refl _ _
    · refine Frame.trans ?_ (State.count_frame rfl (tb_ctlA rfl) ..)
      assumption

theorem State.deliver_frame (a1 : State) (a2 : Nat) (a3 : Bytes) :
    Frame 0x6020000108084 a1 (State.deliver a1 a2 a3) := by
  unfold State.deliver
  split
  · rename_i z1 z2
    refine Frame.step ?_ (State.dropEvent_frame ..) rfl
    exact Frame.refl _ _
  · rename_i z3 z4 z5 z6
    extract_lets v7 v8 v9 v10
    have h11 : Frame 0x6020000108084 a1 v7 := by
      unfold v7
      refine Frame.step ?_ (State.hostData_frame ..) rfl
      exact Frame.refl _ _
    clear_value v7
    have h12 : Frame 0x6020000108084 a1 v10 := by
      unfold v10
      refine Frame.step ?_ (State.setRing_frame ..) rfl
      assumption
    clear_value v10
    refine Frame.ite (fun h13 => ?_) (fun h13 => ?_)
    · refine Frame.step ?_ (State.rxDone_frame ..) rfl
      assumption
    · assumption

theorem State.canIn_frame (a1 : State) (a2 : Nat) (a3 : Nat) (a4 : Nat) (a5 : CanFrame) :
    Frame 0x6370000109284 a1 (State.canIn a1 a2 a3 a4 a5) := by
  unfold State.canIn
  extract_lets v1 v2 v3 v4
  have h5 : Frame 0x6370000109284 a1 v2 := by
    unfold v2
    refine Frame.step ?_ (State.slogAdd_frame ..) rfl
    refine Frame.step ?_ (State.stamped_frame ..) rfl
    exact Frame.refl _ _
  clear_value v2
  have h6 : Frame 0x6370000109284 a1 v4 := by
    unfold v4
    refine Frame.step ?_ (State.feedback_frame ..) rfl
    assumption
  clear_value v4
  split
  · rename_i z7 z8 z9
    refine Frame.step ?_ (State.deliver_frame ..) rfl
    assumption
  · rename_i z10 z11
    refine Frame.ite (fun h12 => ?_) (fun h12 => ?_)
    · refine Frame.trans ?_ (State.count_frame rfl (tb_canA rfl) ..)
      assumption
    · assumption

theorem State.ethCtrl_frame (a1 : State) (a2 : Nat) (a3 : Nat) (a4 : Nat) (a5 : Bytes) :
    Frame 0x150000101200 a1 (State.ethCtrl a1 a2 a3 a4 a5) := by
  unfold State.ethCtrl
  split
  · rename_i z1 z2
    exact Frame.refl _ _
  · rename_i z3 z4
    extract_lets v5
    refine Frame.step ?_ (State.feedback_frame ..) rfl
    refine Frame.step ?_ (State.slogAdd_frame ..) rfl
    refine Frame.step ?_ (State.stamped_frame ..) rfl
    exact Frame.refl _ _

theorem execCanFifoDrain_frame (a1 : Nat) (a2 : List (Nat × Nat)) (a3 : State) :
    Fr getN 0x637080010968c a3 (execCanFifoDrain a1 a2 a3) := by
  unfold execCanFifoDrain
  refine Fr.guard ?_
  refine Frame.ite (fun h1 => ?_) (fun h1 => ?_)
  · exact Frame.refl _ _
  · extract_lets v2 v3 v4 v5
    have h6 : Frame 0x637080010968c a3 v3 := by
      unfold v3
      refine Frame.step ?_ (State.tlySync_frame ..) rfl
      exact Frame.refl _ _
    clear_value v3
    have h7 : Frame 0x637080010968c a3 v5 := by
      unfold v5
      refine Frame.step ?_ (State.setCn_frame ..) rfl
      assumption
    clear_value v5
    refine Frame.foldl ?_ (fun u8 x9 h10 => ?_)
    · assumption
    · refine Frame.step ?_ (State.canIn_frame ..) rfl
      assumption

theorem State.ethIn_frame (a1 : State) (a2 : Nat) (a3 : Nat) (a4 : Nat) (a5 : Bytes) :
    Frame 0x73d0900309e0c a1 (State.ethIn a1 a2 a3 a4 a5) := by
  unfold State.ethIn
  refine Frame.ite (fun h1 => ?_) (fun h1 => ?_)
  · exact Frame.refl _ _
  · extract_lets v2
    have h3 : Frame 0x73d0900309e0c a1 v2 := by
      unfold v2
      refine Frame.step ?_ (State.tally_frame ..) rfl
      exact Frame.refl _ _
    clear_value v2
    split
    · rename_i z4 z5
      refine Frame.step ?_ (State.ethCtrl_frame ..) rfl
      assumption
    · rename_i z6 z7 z8
      split
      · rename_i z9 z10
        refine Frame.step ?_ (State.ethCtrl_frame ..) rfl
        assumption
      · rename_i z11 z12 z13
        refine Frame.step ?_ (State.sensorIn_frame ..) rfl
        assumption

theorem execEthFrameReceived_frame (a1 : Nat) (a2 : Nat) (a3 : Nat) (a4 : Bytes) (a5 : State) :
    Fr getN 0x73d0900309e0c a5 (execEthFrameReceived a1 a2 a3 a4 a5) := by
  unfold execEthFrameReceived
  refine Fr.guard ?_
  refine Frame.ite (fun h1 => ?_) (fun h1 => ?_)
  · refine Frame.step ?_ (State.ethIn_frame ..) rfl
    exact Frame.refl _ _
  · exact Frame.refl _ _

theorem State.canSubmit_frame (a1 : State) (a2 : Nat) (a3 : Nat) (a4 : Nat) (a5 : Bool) (a6 : Nat) (a7 : CanFrame) :
    Frame 0x6220000108484 a1 (State.canSubmit a1 a2 a3 a4 a5 a6 a7) := by
  unfold State.canSubmit
  extract_lets v1 v2
  refine Frame.ite (fun h3 => ?_) (fun h3 => ?_)
  · refine Frame.step ?_ (State.complete_frame ..) rfl
    exact Frame.refl _ _
  · refine Frame.ite (fun h4 => ?_) (fun h4 => ?_)
    · refine Frame.step ?_ (State.complete_frame ..) rfl
      exact Frame.refl _ _
    · refine Frame.step ?_ (State.canLoad_frame ..) rfl
      refine Frame.step ?_ (State.canEnqueue_frame ..) rfl
      exact Frame.refl _ _

theorem execCanTx_frame (a1 : Nat) (a2 : Option Bytes) (a3 : State) :
    Fr getN 0x6220000108484 a3 (execCanTx a1 a2 a3) := by
  unfold execCanTx
  refine Fr.guard ?_
  refine Frame.trans ?_ (State.withDesc_frame rfl (fun u1 x2 => ?_) ..)
  · exact Frame.refl _ _
  · split
    · rename_i z3
      refine Frame.step ?_ (State.complete_frame ..) rfl
      exact Frame.refl _ _
    · rename_i z4 z5
      refine Frame.ite (fun h6 => ?_) (fun h6 => ?_)
      · refine Frame.step ?_ (State.canSubmit_frame ..) rfl
        exact Frame.refl _ _
      · refine Frame.step ?_ (State.complete_frame ..) rfl
        exact Frame.refl _ _

end Sys2Proof.Machine
end

