-- ==== Sys2Proof/Laws/FrameTally.lean ====
section
/-!
SUPPORT. Frame laws of Machine/Tally.lean: which components each of its operations may change.
-/

namespace Sys2Proof.Machine

open Sys2Proof

theorem State.tlyEach_frame {m : Nat} (_ : 0 &&& m = 0) {s : State} {f : State → Nat → Nat → State}
    (hf : ∀ u d c, Frame m u (f u d c)) : Frame m s (s.tlyEach f) := by
  unfold State.tlyEach
  refine Frame.foldl (Frame.refl _ _) (fun u d h => ?_)
  exact Frame.foldl h (fun u c h => h.trans (hf ..))

theorem State.tlyZero_frame (a1 : State) (a2 : Nat) (a3 : Nat) :
    Frame 0x2000000100000 a1 (State.tlyZero a1 a2 a3) := by
  unfold State.tlyZero
  refine Frame.trans ?_ (State.wr_frame rfl (tb_tlyC rfl) ..)
  refine Frame.trans ?_ (State.wr_frame rfl (tb_tlyC rfl) ..)
  exact Frame.refl _ _

theorem State.tlyReq_frame (a1 : State) (a2 : Nat) :
    Frame 0x2000000100000 a1 (State.tlyReq a1 a2) := by
  unfold State.tlyReq
  refine Frame.ite (fun h1 => ?_) (fun h1 => ?_)
  · exact Frame.refl _ _
  · refine Frame.trans ?_ (State.put_frame rfl (tb_tlyA rfl) ..)
    refine Frame.trans ?_ (State.put_frame rfl (tb_tlyA rfl) ..)
    exact Frame.refl _ _

theorem State.tlySnap_frame (a1 : State) :
    Frame 0x2000000100000 a1 (State.tlySnap a1) := by
  unfold State.tlySnap
  extract_lets v1
  have h2 : Frame 0x2000000100000 a1 v1 := by
    unfold v1
    refine Frame.trans ?_ (State.tlyEach_frame rfl (fun u3 x4 x5 => ?_) ..)
    · exact Frame.refl _ _
    · refine Frame.trans ?_ (State.wr_frame rfl (tb_tlyC rfl) ..)
      refine Frame.trans ?_ (State.wr_frame rfl (tb_tlyC rfl) ..)
      exact Frame.refl _ _
  clear_value v1
  refine Frame.trans ?_ (State.event_frame rfl (tb_tlyA rfl) (tb_tlyA rfl) ..)
  refine Frame.trans ?_ (State.wr64_frame rfl (tb_tlyA rfl) (tb 9 (by unfold tlyA; omega) (by unfold tlyA; omega) (by omega) rfl) ..)
  assumption

theorem State.tlyClear_frame (a1 : State) :
    Frame 0x2000000100000 a1 (State.tlyClear a1) := by
  unfold State.tlyClear
  refine Frame.trans ?_ (State.tlyEach_frame rfl (fun u1 x2 x3 => ?_) ..)
  · exact Frame.refl _ _
  · refine Frame.trans ?_ (State.wr_frame rfl (tb_tlyC rfl) ..)
    refine Frame.trans ?_ (State.wr_frame rfl (tb_tlyC rfl) ..)
    refine Frame.step ?_ (State.tlyZero_frame ..) rfl
    exact Frame.refl _ _

theorem State.tlyEdge_frame (a1 : State) :
    Frame 0x2000800100008 a1 (State.tlyEdge a1) := by
  unfold State.tlyEdge
  extract_lets v1 v2 v3 v4 v5 v6
  have h7 : Frame 0x2000800100008 a1 v2 := by
    unfold v2
    refine Frame.step ?_ (State.tlySyncAll_frame ..) rfl
    exact Frame.refl _ _
  clear_value v2
  have h8 : Frame 0x2000800100008 a1 v3 := by
    unfold v3
    refine Frame.ite (fun h9 => ?_) (fun h9 => ?_)
    · refine Frame.step ?_ (State.tlySnap_frame ..) rfl
      assumption
    · assumption
  clear_value v3
  have h10 : Frame 0x2000800100008 a1 v4 := by
    unfold v4
    refine Frame.ite (fun h11 => ?_) (fun h11 => ?_)
    · refine Frame.trans ?_ (State.put_frame rfl (tb_tlyA rfl) ..)
      assumption
    · assumption
  clear_value v4
  have h12 : Frame 0x2000800100008 a1 v5 := by
    unfold v5
    refine Frame.ite (fun h13 => ?_) (fun h13 => ?_)
    · refine Frame.step ?_ (State.tlyClear_frame ..) rfl
      assumption
    · assumption
  clear_value v5
  have h14 : Frame 0x2000800100008 a1 v6 := by
    unfold v6
    refine Frame.ite (fun h15 => ?_) (fun h15 => ?_)
    · refine Frame.trans ?_ (State.put_frame rfl (tb_tlyA rfl) ..)
      assumption
    · assumption
  clear_value v6
  refine Frame.ite (fun h16 => ?_) (fun h16 => ?_)
  · exact Frame.refl _ _
  · refine Frame.step ?_ (State.tlySyncAll_frame ..) rfl
    refine Frame.trans ?_ (State.put_frame rfl (tb_tlyA rfl) ..)
    refine Frame.trans ?_ (State.put_frame rfl (tb_tlyA rfl) ..)
    assumption

theorem execStart_frame (a1 : State) :
    Fr getN 0x2000000100000 a1 (execStart a1) := by
  unfold execStart
  refine Fr.next ?_
  refine Frame.step ?_ (State.tlyReq_frame ..) rfl
  exact Frame.refl _ _

theorem execStop_frame (a1 : State) :
    Fr getN 0x2000000100000 a1 (execStop a1) := by
  unfold execStop
  refine Fr.next ?_
  refine Frame.step ?_ (State.tlyReq_frame ..) rfl
  exact Frame.refl _ _

theorem execClear_frame (a1 : State) :
    Fr getN 0x2000000100000 a1 (execClear a1) := by
  unfold execClear
  refine Fr.next ?_
  refine Frame.step ?_ (State.tlyReq_frame ..) rfl
  exact Frame.refl _ _

theorem execSnap_frame (a1 : State) :
    Fr getN 0x2000000100000 a1 (execSnap a1) := by
  unfold execSnap
  refine Fr.next ?_
  refine Frame.step ?_ (State.tlyReq_frame ..) rfl
  exact Frame.refl _ _

theorem execTallyRead_frame (a1 : Nat) (a2 : State) :
    Fr getN 0x602080010808c a2 (execTallyRead a1 a2) := by
  unfold execTallyRead
  refine Fr.guard ?_
  refine Frame.trans ?_ (State.withDesc_frame rfl (fun u1 x2 => ?_) ..)
  · exact Frame.refl _ _
  · extract_lets v3 v4
    have h5 : Frame 0x602080010808c u1 v4 := by
      unfold v4
      refine Frame.step ?_ (State.tlySync_frame ..) rfl
      exact Frame.refl _ _
    clear_value v4
    refine Frame.ite (fun h6 => ?_) (fun h6 => ?_)
    · refine Frame.step ?_ (State.complete_frame ..) rfl
      exact Frame.refl _ _
    · refine Frame.step ?_ (State.complete_frame ..) rfl
      refine Frame.step ?_ (State.hostData_frame ..) rfl
      assumption

theorem execTallyCounterSaturation_frame (a1 : Nat) (a2 : Nat) (a3 : State) :
    Fr getN 0x2000800100008 a3 (execTallyCounterSaturation a1 a2 a3) := by
  unfold execTallyCounterSaturation
  refine Fr.guard ?_
  refine Frame.ite (fun h1 => ?_) (fun h1 => ?_)
  · exact Frame.refl _ _
  · extract_lets v2 v3
    have h4 : Frame 0x2000800100008 a3 v2 := by
      unfold v2
      refine Frame.step ?_ (State.tlySync_frame ..) rfl
      exact Frame.refl _ _
    clear_value v2
    refine Frame.ite (fun h5 => ?_) (fun h5 => ?_)
    · refine Frame.step ?_ (State.tlySaturate_frame ..) rfl
      assumption
    · assumption

end Sys2Proof.Machine
end

