-- ==== Sys2Proof/Laws/FrameCommit.lean ====
section
/-!
SUPPORT. Frame laws of Machine/Commit.lean: which components each of its operations may change.
-/

namespace Sys2Proof.Machine

open Sys2Proof

theorem State.tlyApplied_frame (a1 : State) (a2 : State) :
    Frame 0x2000000100000 a1 (State.tlyApplied a1 a2) := by
  unfold State.tlyApplied
  refine Frame.trans ?_ (State.tlyEach_frame rfl (fun u1 x2 x3 => ?_) ..)
  · exact Frame.refl _ _
  · refine Frame.ite (fun h4 => ?_) (fun h4 => ?_)
    · refine Frame.step ?_ (State.tlyZero_frame ..) rfl
      exact Frame.refl _ _
    · exact Frame.refl _ _

theorem State.logBegin_frame (a1 : State) :
    Frame 0x10000111000 a1 (State.logBegin a1) := by
  unfold State.logBegin
  extract_lets v1 v2 v3 v4 v5
  have h6 : Frame 0x10000111000 a1 v2 := by
    unfold v2
    apply Frame.upd
    · exact Frame.refl _ _
    all_goals first | exact Or.inr rfl | exact Or.inl rfl | exact Or.inl (Nat.le_refl _) | rfl
  clear_value v2
  have h7 : Frame 0x10000111000 a1 v3 := by
    unfold v3
    refine Frame.trans ?_ (State.wr64_frame rfl rfl rfl ..)
    refine Frame.trans ?_ (State.put_frame rfl rfl ..)
    refine Frame.trans ?_ (State.put_frame rfl rfl ..)
    assumption
  clear_value v3
  have h8 : Frame 0x10000111000 a1 v4 := by
    unfold v4
    refine Frame.step ?_ (State.setJobs_frame ..) rfl
    assumption
  clear_value v4
  refine Frame.foldl ?_ (fun u9 x10 h11 => ?_)
  · refine Frame.step ?_ (State.logConfig_frame ..) rfl
    refine Frame.step ?_ (State.logStart_frame ..) rfl
    assumption
  · refine Frame.step ?_ (State.logSubmit_frame ..) rfl
    refine Frame.step ?_ (State.updJob_frame ..) rfl
    assumption

theorem State.ethApplied_frame (a1 : State) (a2 : State) :
    Frame 0x400000100000 a1 (State.ethApplied a1 a2) := by
  unfold State.ethApplied
  refine Frame.foldl ?_ (fun u1 x2 h3 => ?_)
  · exact Frame.refl _ _
  · refine Frame.ite (fun h4 => ?_) (fun h4 => ?_)
    · refine Frame.ite (fun h5 => ?_) (fun h5 => ?_)
      · refine Frame.trans ?_ (State.event_frame rfl (tb_ethA rfl) (tb_ethA rfl) ..)
        refine Frame.trans ?_ (State.put_frame rfl (tb_ethA rfl) ..)
        assumption
      · assumption
    · assumption

theorem State.cycApplied_frame (a1 : State) (a2 : State) (a3 : Bool) :
    Frame 0x10400100000 a1 (State.cycApplied a1 a2 a3) := by
  unfold State.cycApplied
  extract_lets v1 v2 v3 v4 v5
  refine Frame.ite (fun h6 => ?_) (fun h6 => ?_)
  · exact Frame.refl _ _
  · refine Frame.trans ?_ (State.put_frame rfl rfl ..)
    apply Frame.upd
    · exact Frame.refl _ _
    all_goals first | exact Or.inr rfl | exact Or.inl rfl | exact Or.inl (Nat.le_refl _) | rfl

theorem State.timApplied_frame (a1 : State) (a2 : State) :
    Frame 0x40000100030 a1 (State.timApplied a1 a2) := by
  unfold State.timApplied
  extract_lets v1 v2
  have h3 : Frame 0x40000100030 a1 v1 := by
    unfold v1
    refine Frame.foldl ?_ (fun u4 x5 h6 => ?_)
    · exact Frame.refl _ _
    · refine Frame.ite (fun h7 => ?_) (fun h7 => ?_)
      · refine Frame.step ?_ (State.domRestart_frame ..) rfl
        assumption
      · assumption
  clear_value v1
  refine Frame.ite (fun h8 => ?_) (fun h8 => ?_)
  · apply Frame.upd
    · assumption
    all_goals first | exact Or.inr rfl | exact Or.inl rfl | exact Or.inl (Nat.le_refl _) | rfl
  · assumption

theorem State.safApplied_frame (a1 : State) (a2 : State) :
    Frame 0x5300000108e04 a1 (State.safApplied a1 a2) := by
  unfold State.safApplied
  extract_lets v1 v2 v3 v4 v5 v6
  have h7 : Frame 0x5300000108e04 a1 v1 := by
    unfold v1
    refine Frame.foldl ?_ (fun u8 x9 h10 => ?_)
    · exact Frame.refl _ _
    · extract_lets v11 v12
      have h13 : Frame 0x5300000108e04 a1 v12 := by
        unfold v12
        refine Frame.step ?_ (State.siTrack_frame ..) rfl
        assumption
      clear_value v12
      refine Frame.ite (fun h14 => ?_) (fun h14 => ?_)
      · refine Frame.ite (fun h15 => ?_) (fun h15 => ?_)
        · refine Frame.step ?_ (State.siDemand_frame ..) rfl
          assumption
        · assumption
      · assumption
  clear_value v1
  have h16 : Frame 0x5300000108e04 a1 v2 := by
    unfold v2
    refine Frame.foldl ?_ (fun u17 x18 h19 => ?_)
    · assumption
    · refine Frame.ite (fun h20 => ?_) (fun h20 => ?_)
      · refine Frame.step ?_ (State.pulseResume_frame ..) rfl
        refine Frame.step ?_ (State.pulseResume_frame ..) rfl
        assumption
      · assumption
  clear_value v2
  have h21 : Frame 0x5300000108e04 a1 v3 := by
    unfold v3
    refine Frame.foldl ?_ (fun u22 x23 h24 => ?_)
    · assumption
    · refine Frame.ite (fun h25 => ?_) (fun h25 => ?_)
      · refine Frame.step ?_ (State.setSst_frame ..) rfl
        assumption
      · assumption
  clear_value v3
  have h26 : Frame 0x5300000108e04 a1 v5 := by
    unfold v5
    refine Frame.ite (fun h27 => ?_) (fun h27 => ?_)
    · assumption
    · apply Frame.upd
      · assumption
      all_goals first | exact Or.inr rfl | exact Or.inl rfl | exact Or.inl (Nat.le_refl _) | rfl
  clear_value v5
  have h28 : Frame 0x5300000108e04 a1 v6 := by
    unfold v6
    refine Frame.foldl ?_ (fun u29 x30 h31 => ?_)
    · assumption
    · refine Frame.ite (fun h32 => ?_) (fun h32 => ?_)
      · refine Frame.step ?_ (State.stopAxis_frame ..) rfl
        assumption
      · assumption
  clear_value v6
  refine Frame.step ?_ (State.ssoUpdate_frame ..) rfl
  assumption

theorem State.linkApplied_frame (s old : State) : Frame 0x1069b09ef11928c s (s.linkApplied old) := by
  unfold State.linkApplied
  extract_lets topo v1
  have h1 : Frame 0x1069b09ef11928c s v1 := by
    refine Frame.foldl (Frame.refl _ _) (fun u k h => ?_)
    extract_lets on st v2
    refine Frame.ite (fun _ => Frame.ite (fun _ => h) (fun _ => Frame.step h (State.linkLost_frame ..) rfl)) (fun _ => ?_)
    refine Frame.ite (fun _ => Frame.step h (State.setLinkState_frame ..) rfl) (fun _ => ?_)
    refine Frame.ite (fun _ => h) (fun _ => ?_)
    have h2 : Frame 0x1069b09ef11928c s v2 := Frame.ite (fun _ => Frame.step h (State.linkFall_frame ..) rfl)
      (fun _ => Frame.step (Frame.step h (State.linkSet_frame ..) rfl) (State.setLinkState_frame ..) rfl)
    exact Frame.ite (fun _ => h2) (fun _ => Frame.step h2 (State.setLinkState_frame ..) rfl)
  exact Frame.ite (fun _ => Frame.step h1 (State.fabShow_frame ..) rfl) (fun _ => h1)

theorem State.canApplied_frame (a1 : State) (a2 : State) (a3 : Nat) :
    Frame 0x6220000108484 a1 (State.canApplied a1 a2 a3) := by
  unfold State.canApplied
  refine Frame.foldl ?_ (fun u1 x2 h3 => ?_)
  · exact Frame.refl _ _
  · refine Frame.ite (fun h4 => ?_) (fun h4 => ?_)
    · refine Frame.step ?_ (State.canRestart_frame ..) rfl
      assumption
    · refine Frame.ite (fun h5 => ?_) (fun h5 => ?_)
      · refine Frame.step ?_ (State.canReserve_frame ..) rfl
        assumption
      · assumption

theorem State.blocksApplied_frame (a1 : State) (a2 : State) (a3 : Nat) (a4 : Bool) :
    Frame 0x107ff0def119ebc a1 (State.blocksApplied a1 a2 a3 a4) := by
  unfold State.blocksApplied
  extract_lets v1 v2
  have h3 : Frame 0x107ff0def119ebc a1 v1 := by
    unfold v1
    refine Frame.step ?_ (State.ethApplied_frame ..) rfl
    refine Frame.step ?_ (State.cycApplied_frame ..) rfl
    refine Frame.step ?_ (State.timApplied_frame ..) rfl
    exact Frame.refl _ _
  clear_value v1
  have h4 : Frame 0x107ff0def119ebc a1 v2 := by
    unfold v2
    refine Frame.step ?_ (State.tlyApplied_frame ..) rfl
    refine Frame.step ?_ (State.safApplied_frame ..) rfl
    refine Frame.step ?_ (State.linkApplied_frame ..) rfl
    refine Frame.step ?_ (State.canApplied_frame ..) rfl
    assumption
  clear_value v2
  refine Frame.ite (fun h5 => ?_) (fun h5 => ?_)
  · refine Frame.step ?_ (State.ingQueue_frame ..) rfl
    assumption
  · assumption

theorem State.replayStart_frame (a1 : State) :
    Frame 0x10000101000 a1 (State.replayStart a1) := by
  unfold State.replayStart
  extract_lets v1 v2 v3
  have h4 : Frame 0x10000101000 a1 v3 := by
    unfold v3
    apply Frame.upd
    · exact Frame.refl _ _
    all_goals first | exact Or.inr rfl | exact Or.inl rfl | exact Or.inl (Nat.le_refl _) | rfl
  clear_value v3
  refine Frame.trans ?_ (State.wr_frame rfl rfl ..)
  refine Frame.trans ?_ (State.put_frame rfl rfl ..)
  assumption

theorem State.replayLeave_frame (a1 : State) :
    Frame 0x1073f09ed119e8c a1 (State.replayLeave a1) := by
  unfold State.replayLeave
  extract_lets v1
  have h2 : Frame 0x1073f09ed119e8c a1 v1 := by
    unfold v1
    refine Frame.foldl ?_ (fun u3 x4 h5 => ?_)
    · exact Frame.refl _ _
    · refine Frame.step ?_ (State.endSoon_frame ..) rfl
      assumption
  clear_value v1
  refine Frame.step ?_ (State.setLocked_frame ..) rfl
  refine Frame.trans ?_ (State.put_frame rfl rfl ..)
  assumption

theorem State.logEnd_frame (a1 : State) (a2 : Nat) :
    Frame 0x6030000109084 a1 (State.logEnd a1 a2) := by
  unfold State.logEnd
  extract_lets v1 v2
  have h3 : Frame 0x6030000109084 a1 v1 := by
    unfold v1
    refine Frame.step ?_ (State.postsDone_frame ..) rfl
    exact Frame.refl _ _
  clear_value v1
  refine Frame.trans ?_ (State.put_frame rfl rfl ..)
  refine Frame.ite (fun h4 => ?_) (fun h4 => ?_)
  · assumption
  · apply Frame.upd
    · assumption
    all_goals first | exact Or.inr rfl | exact Or.inl rfl | exact Or.inl (Nat.le_refl _) | rfl

theorem State.logApplied_frame (a1 : State) (a2 : State) :
    Frame 0x1073f09ed119e8c a1 (State.logApplied a1 a2) := by
  unfold State.logApplied
  extract_lets v1 v2
  have h3 : Frame 0x1073f09ed119e8c a1 v1 := by
    unfold v1
    refine Frame.ite (fun h4 => ?_) (fun h4 => ?_)
    · refine Frame.step ?_ (State.replayStart_frame ..) rfl
      exact Frame.refl _ _
    · refine Frame.ite (fun h5 => ?_) (fun h5 => ?_)
      · refine Frame.step ?_ (State.replayLeave_frame ..) rfl
        exact Frame.refl _ _
      · exact Frame.refl _ _
  clear_value v1
  refine Frame.ite (fun h6 => ?_) (fun h6 => ?_)
  · assumption
  · refine Frame.ite (fun h7 => ?_) (fun h7 => ?_)
    · refine Frame.ite (fun h8 => ?_) (fun h8 => ?_)
      · refine Frame.step ?_ (State.logEnd_frame ..) rfl
        assumption
      · assumption
    · refine Frame.ite (fun h9 => ?_) (fun h9 => ?_)
      · refine Frame.step ?_ (State.logBegin_frame ..) rfl
        assumption
      · refine Frame.step ?_ (State.logConfig_frame ..) rfl
        assumption

theorem State.cfgLog_frame (a1 : State) (a2 : Status) :
    Frame 0x4000000108000 a1 (State.cfgLog a1 a2) := by
  unfold State.cfgLog
  extract_lets v1
  refine Frame.step ?_ (State.hmLog_frame ..) rfl
  exact Frame.refl _ _

theorem State.cfgApply_frame (a1 : State) (a2 : Nat) (a3 : Nat) :
    Frame 0x3ffff0def119fbc a1 (State.cfgApply a1 a2 a3) := by
  unfold State.cfgApply
  extract_lets v1 v2 v3 v4 v5
  have h6 : Frame 0x3ffff0def119fbc a1 v2 := by
    unfold v2
    refine Frame.step ?_ (State.tlySyncAll_frame ..) rfl
    exact Frame.refl _ _
  clear_value v2
  have h7 : Frame 0x3ffff0def119fbc a1 v3 := by
    unfold v3
    refine Frame.foldl ?_ (fun u8 x9 h10 => ?_)
    · refine Frame.step ?_ (State.stagedView_frame ..) rfl
      assumption
    · refine Frame.step ?_ (State.limitSet_frame ..) rfl
      assumption
  clear_value v3
  have h11 : Frame 0x3ffff0def119fbc a1 v4 := by
    unfold v4
    refine Frame.step ?_ (State.logApplied_frame ..) rfl
    refine Frame.step ?_ (State.blocksApplied_frame ..) rfl
    assumption
  clear_value v4
  have h12 : Frame 0x3ffff0def119fbc a1 v5 := by
    unfold v5
    refine Frame.trans ?_ (State.wr64_frame rfl rfl rfl ..)
    refine Frame.trans ?_ (State.put_frame rfl rfl ..)
    refine Frame.trans ?_ (State.count_frame rfl rfl ..)
    assumption
  clear_value v5
  refine Frame.step ?_ (State.complete_frame ..) rfl
  refine Frame.step ?_ (State.cfgClose_frame ..) rfl
  refine Frame.step ?_ (State.cfgLog_frame ..) rfl
  assumption

theorem State.cfgFail_frame (a1 : State) (a2 : Nat) (a3 : Option Nat) (a4 : Status) :
    Frame 0x6070000108184 a1 (State.cfgFail a1 a2 a3 a4) := by
  unfold State.cfgFail
  extract_lets v1 v2 v3
  have h4 : Frame 0x6070000108184 a1 v2 := by
    unfold v2
    refine Frame.trans ?_ (State.put_frame rfl rfl ..)
    refine Frame.trans ?_ (State.event_frame rfl rfl rfl ..)
    exact Frame.refl _ _
  clear_value v2
  have h5 : Frame 0x6070000108184 a1 v3 := by
    unfold v3
    split
    · rename_i z6 z7
      refine Frame.trans ?_ (State.wr_frame rfl rfl ..)
      assumption
    · rename_i z8
      assumption
  clear_value v3
  refine Frame.step ?_ (State.complete_frame ..) rfl
  refine Frame.step ?_ (State.cfgClose_frame ..) rfl
  refine Frame.step ?_ (State.cfgLog_frame ..) rfl
  assumption

theorem State.commitNow_frame (a1 : State) (a2 : Nat) (a3 : Nat) :
    Frame 0x3ffff0def119fbc a1 (State.commitNow a1 a2 a3) := by
  unfold State.commitNow
  extract_lets v1 v2
  have h3 : Frame 0x3ffff0def119fbc a1 v2 := by
    unfold v2
    apply Frame.upd
    · exact Frame.refl _ _
    all_goals first | exact Or.inr rfl | exact Or.inl rfl | exact Or.inl (Nat.le_refl _) | rfl
  clear_value v2
  split
  · rename_i z4 z5 z6 z7
    refine Frame.step ?_ (State.cfgFail_frame ..) rfl
    assumption
  · rename_i z8 z9
    refine Frame.step ?_ (State.cfgApply_frame ..) rfl
    assumption

theorem State.commitDue_frame (a1 : State) (a2 : Nat) :
    Frame 0x3ffff0def119fbc a1 (State.commitDue a1 a2) := by
  unfold State.commitDue
  split
  · rename_i z1 z2
    exact Frame.refl _ _
  · rename_i z3 z4 z5
    refine Frame.ite (fun h6 => ?_) (fun h6 => ?_)
    · refine Frame.step ?_ (State.commitNow_frame ..) rfl
      exact Frame.refl _ _
    · exact Frame.refl _ _

theorem execCfgCommit_frame (a1 : Nat) (a2 : State) :
    Fr getN 0x3ffff0000108184 a2 (execCfgCommit a1 a2) := by
  unfold execCfgCommit
  refine Fr.guard ?_
  refine Frame.trans ?_ (State.withDesc_frame rfl (fun u1 x2 => ?_) ..)
  · exact Frame.refl _ _
  · refine Frame.ite (fun h3 => ?_) (fun h3 => ?_)
    · extract_lets v4 v5 v6 v7 v8
      have h9 : Frame 0x3ffff0000108184 u1 v5 := by
        unfold v5
        apply Frame.upd
        · exact Frame.refl _ _
        all_goals first | exact Or.inr rfl | exact Or.inl rfl | exact Or.inl (Nat.le_refl _) | rfl
      clear_value v5
      have h10 : Frame 0x3ffff0000108184 u1 v6 := by
        unfold v6
        refine Frame.trans ?_ (State.put_frame rfl rfl ..)
        assumption
      clear_value v6
      have h11 : Frame 0x3ffff0000108184 u1 v7 := by
        unfold v7
        refine Frame.step ?_ (State.stagedView_frame ..) rfl
        assumption
      clear_value v7
      refine Frame.ite (fun h12 => ?_) (fun h12 => ?_)
      · refine Frame.step ?_ (State.cfgFail_frame ..) rfl
        assumption
      · split
        · rename_i z13 z14 z15 z16
          refine Frame.step ?_ (State.cfgFail_frame ..) rfl
          assumption
        · rename_i z17 z18
          refine Frame.ite (fun h19 => ?_) (fun h19 => ?_)
          · refine Frame.trans ?_ (State.put_frame rfl (tb_timA rfl) ..)
            assumption
          · assumption
    · refine Frame.step ?_ (State.cfgMiss_frame ..) rfl
      exact Frame.refl _ _

theorem execCfgCommitEdge_frame (a1 : Nat) (a2 : State) :
    Fr getN 0x3ffff0def119fbc a2 (execCfgCommitEdge a1 a2) := by
  unfold execCfgCommitEdge
  refine Fr.next ?_
  split
  · rename_i z1 z2
    exact Frame.refl _ _
  · rename_i z3 z4 z5
    refine Frame.ite (fun h6 => ?_) (fun h6 => ?_)
    · refine Frame.trans ?_ (State.atT_frame rfl (fun u7 => ?_) ..)
      · exact Frame.refl _ _
      · refine Frame.step ?_ (State.commitNow_frame ..) rfl
        exact Frame.refl _ _
    · exact Frame.refl _ _

end Sys2Proof.Machine
end

