-- ==== Sys2Proof/Laws/FrameRegisters.lean ====
section
/-!
SUPPORT. Frame laws of Machine/Registers.lean: which components each of its operations may change.
-/

namespace Sys2Proof.Machine

open Sys2Proof

theorem State.drvCheck_frame (a1 : State) (a2 : Nat) :
    Frame 0x4000000108000 a1 (State.drvCheck a1 a2) := by
  unfold State.drvCheck
  extract_lets v1 v2 v3
  have h4 : Frame 0x4000000108000 a1 v3 := by
    unfold v3
    refine Frame.step ?_ (State.hmLog_frame ..) rfl
    exact Frame.refl _ _
  clear_value v3
  refine Frame.ite (fun h5 => ?_) (fun h5 => ?_)
  · refine Frame.trans ?_ (State.count_frame rfl (tb_mgtA rfl) ..)
    exact Frame.refl _ _
  · refine Frame.ite (fun h6 => ?_) (fun h6 => ?_)
    · refine Frame.trans ?_ (State.wr_frame rfl (tb_mgtA rfl) ..)
      assumption
    · refine Frame.trans ?_ (State.count_frame rfl (tb_mgtA rfl) ..)
      refine Frame.trans ?_ (State.wr_frame rfl (tb_mgtA rfl) ..)
      assumption

theorem State.drvWrite_frame (a1 : State) (a2 : Nat) :
    Frame 0x4000000108000 a1 (State.drvWrite a1 a2) := by
  unfold State.drvWrite
  refine Frame.ite (fun h1 => ?_) (fun h1 => ?_)
  · refine Frame.step ?_ (State.drvCheck_frame ..) rfl
    exact Frame.refl _ _
  · apply Frame.upd
    · exact Frame.refl _ _
    all_goals first | exact Or.inr rfl | exact Or.inl rfl | exact Or.inl (Nat.le_refl _) | rfl

theorem State.dumpPage_frame (a1 : State) (a2 : Nat) :
    Frame 0x4000000100000 a1 (State.dumpPage a1 a2) := by
  unfold State.dumpPage
  refine Frame.ite (fun h1 => ?_) (fun h1 => ?_)
  · refine Frame.trans ?_ (State.put_frame rfl (tb_mgtA rfl) ..)
    exact Frame.refl _ _
  · exact Frame.refl _ _

theorem State.w1cWrite_frame (a1 : State) (a2 : Nat) (a3 : Nat) (a4 : Nat) :
    Frame 0x3ffff0000101000 a1 (State.w1cWrite a1 a2 a3 a4) := by
  unfold State.w1cWrite
  split
  · rename_i z1 z2
    exact Frame.refl _ _
  · rename_i z3 z4 z5
    refine Frame.ite (fun h6 => ?_) (fun h6 => ?_)
    · exact Frame.refl _ _
    · extract_lets v7 v8 v9 v10
      have h11 : Frame 0x3ffff0000101000 a1 v9 := by
        unfold v9
        refine Frame.trans ?_ (State.wr_frame rfl (tbAll _ rfl) ..)
        exact Frame.refl _ _
      clear_value v9
      refine Frame.ite (fun h12 => ?_) (fun h12 => ?_)
      · refine Frame.ite (fun h13 => ?_) (fun h13 => ?_)
        · refine Frame.trans ?_ (State.put_frame rfl (tbAll _ rfl) ..)
          assumption
        · assumption
      · refine Frame.ite (fun h14 => ?_) (fun h14 => ?_)
        · refine Frame.ite (fun h15 => ?_) (fun h15 => ?_)
          · refine Frame.trans ?_ (State.put_frame rfl (tbAll _ rfl) ..)
            assumption
          · assumption
        · refine Frame.ite (fun h16 => ?_) (fun h16 => ?_)
          · apply Frame.upd
            · assumption
            all_goals first | exact Or.inr rfl | exact Or.inl rfl | exact Or.inl (Nat.le_refl _) | rfl
          · assumption

theorem State.marksClear_frame (a1 : State) :
    Frame 0x4000000102000 a1 (State.marksClear a1) := by
  unfold State.marksClear
  refine Frame.ite (fun h1 => ?_) (fun h1 => ?_)
  · extract_lets v2
    refine Frame.step ?_ (State.putRec_frame ..) rfl
    exact Frame.refl _ _
  · exact Frame.refl _ _

theorem State.w1sWrite_frame (a1 : State) (a2 : Nat) (a3 : RegRow) (a4 : Nat) :
    Frame 0x3ffff0040102000 a1 (State.w1sWrite a1 a2 a3 a4) := by
  unfold State.w1sWrite
  refine Frame.ite (fun h1 => ?_) (fun h1 => ?_)
  · exact Frame.refl _ _
  · refine Frame.ite (fun h2 => ?_) (fun h2 => ?_)
    · extract_lets v3
      refine Frame.ite (fun h4 => ?_) (fun h4 => ?_)
      · refine Frame.step ?_ (State.retraining_frame ..) rfl
        refine Frame.trans ?_ (State.raise_frame rfl (tbAll _ rfl) ..)
        exact Frame.refl _ _
      · exact Frame.refl _ _
    · refine Frame.ite (fun h5 => ?_) (fun h5 => ?_)
      · refine Frame.step ?_ (State.canRecover_frame ..) rfl
        exact Frame.refl _ _
      · refine Frame.ite (fun h6 => ?_) (fun h6 => ?_)
        · refine Frame.step ?_ (State.tlyReq_frame ..) rfl
          exact Frame.refl _ _
        · refine Frame.ite (fun h7 => ?_) (fun h7 => ?_)
          · refine Frame.step ?_ (State.marksClear_frame ..) rfl
            exact Frame.refl _ _
          · exact Frame.refl _ _

theorem State.peekWrite_frame (a1 : State) (a2 : Word) :
    Frame 0x10000100000 a1 (State.peekWrite a1 a2) := by
  unfold State.peekWrite
  refine Frame.ite (fun h1 => ?_) (fun h1 => ?_)
  · refine Frame.trans ?_ (State.put_frame rfl rfl ..)
    exact Frame.refl _ _
  · exact Frame.refl _ _

theorem State.trcWrite_frame (a1 : State) (a2 : Nat) (a3 : Word) :
    Frame 0x3ffff0000100200 a1 (State.trcWrite a1 a2 a3) := by
  unfold State.trcWrite
  split
  · rename_i z1 z2 z3
    refine Frame.ite (fun h4 => ?_) (fun h4 => ?_)
    · refine Frame.step ?_ (State.trcClear_frame ..) rfl
      refine Frame.trans ?_ (State.wr_frame rfl (tbAll _ rfl) ..)
      exact Frame.refl _ _
    · exact Frame.refl _ _
  · rename_i z5 z6
    exact Frame.refl _ _

theorem State.directWrite_frame (a1 : State) (a2 : Nat) (a3 : RegRow) (a4 : Word) :
    Frame 0x3ffff000010a380 a1 (State.directWrite a1 a2 a3 a4) := by
  unfold State.directWrite
  extract_lets v1
  refine Frame.ite (fun h2 => ?_) (fun h2 => ?_)
  · refine Frame.step ?_ (State.peekWrite_frame ..) rfl
    exact Frame.refl _ _
  · refine Frame.ite (fun h3 => ?_) (fun h3 => ?_)
    · refine Frame.step ?_ (State.ringCfgWrite_frame ..) rfl
      exact Frame.refl _ _
    · refine Frame.ite (fun h4 => ?_) (fun h4 => ?_)
      · refine Frame.ite (fun h5 => ?_) (fun h5 => ?_)
        · exact Frame.refl _ _
        · refine Frame.trans ?_ (State.wr_frame rfl (tbAll _ rfl) ..)
          exact Frame.refl _ _
      · refine Frame.ite (fun h6 => ?_) (fun h6 => ?_)
        · refine Frame.step ?_ (State.trcWrite_frame ..) rfl
          exact Frame.refl _ _
        · refine Frame.ite (fun h7 => ?_) (fun h7 => ?_)
          · exact Frame.refl _ _
          · refine Frame.trans ?_ (State.wr_frame rfl (tbAll _ rfl) ..)
            exact Frame.refl _ _

theorem State.regWrite_frame (a1 : State) (a2 : Nat) (a3 : Word) :
    Frame 0x3ffff004010b380 a1 (State.regWrite a1 a2 a3) := by
  unfold State.regWrite
  split
  · rename_i z1 z2
    exact Frame.refl _ _
  · rename_i z3 z4 z5
    refine Frame.ite (fun h6 => ?_) (fun h6 => ?_)
    · exact Frame.refl _ _
    · refine Frame.ite (fun h7 => ?_) (fun h7 => ?_)
      · refine Frame.step ?_ (State.drvWrite_frame ..) rfl
        exact Frame.refl _ _
      · refine Frame.ite (fun h8 => ?_) (fun h8 => ?_)
        · refine Frame.step ?_ (State.dumpPage_frame ..) rfl
          exact Frame.refl _ _
        · extract_lets v9 v10
          have h11 : Frame 0x3ffff004010b380 a1 v9 := by
            unfold v9
            refine Frame.step ?_ (State.w1cWrite_frame ..) rfl
            exact Frame.refl _ _
          clear_value v9
          have h12 : Frame 0x3ffff004010b380 a1 v10 := by
            unfold v10
            refine Frame.step ?_ (State.w1sWrite_frame ..) rfl
            assumption
          clear_value v10
          refine Frame.ite (fun h13 => ?_) (fun h13 => ?_)
          · refine Frame.step ?_ (State.directWrite_frame ..) rfl
            assumption
          · refine Frame.ite (fun h14 => ?_) (fun h14 => ?_)
            · refine Frame.step ?_ (State.stageWrite_frame ..) rfl
              assumption
            · assumption

theorem State.mbxGo_frame (a1 : State) :
    Frame 0x204000000108000 a1 (State.mbxGo a1) := by
  unfold State.mbxGo
  refine Frame.ite (fun h1 => ?_) (fun h1 => ?_)
  · refine Frame.step ?_ (State.mbxDone_frame ..) rfl
    exact Frame.refl _ _
  · refine Frame.trans ?_ (State.put_frame rfl (tb_mbxA rfl) ..)
    apply Frame.upd
    · exact Frame.refl _ _
    all_goals first | exact Or.inr rfl | exact Or.inl rfl | exact Or.inl (Nat.le_refl _) | rfl

theorem State.bar4Write_frame (a1 : State) (a2 : Nat) (a3 : Word) :
    Frame 0x3ffff0000109000 a1 (State.bar4Write a1 a2 a3) := by
  unfold State.bar4Write
  extract_lets v1 v2 v3
  refine Frame.ite (fun h4 => ?_) (fun h4 => ?_)
  · exact Frame.refl _ _
  · refine Frame.ite (fun h5 => ?_) (fun h5 => ?_)
    · refine Frame.ite (fun h6 => ?_) (fun h6 => ?_)
      · refine Frame.step ?_ (State.mbxGo_frame ..) rfl
        exact Frame.refl _ _
      · exact Frame.refl _ _
    · refine Frame.ite (fun h7 => ?_) (fun h7 => ?_)
      · refine Frame.trans ?_ (State.wr_frame rfl (tbAll _ rfl) ..)
        exact Frame.refl _ _
      · refine Frame.ite (fun h8 => ?_) (fun h8 => ?_)
        · refine Frame.trans ?_ (State.wr_frame rfl (tbAll _ rfl) ..)
          exact Frame.refl _ _
        · refine Frame.ite (fun h9 => ?_) (fun h9 => ?_)
          · refine Frame.step ?_ (State.w1cWrite_frame ..) rfl
            exact Frame.refl _ _
          · refine Frame.ite (fun h10 => ?_) (fun h10 => ?_)
            · apply Frame.upd
              · exact Frame.refl _ _
              all_goals first | exact Or.inr rfl | exact Or.inl rfl | exact Or.inl (Nat.le_refl _) | rfl
            · exact Frame.refl _ _

theorem execRegisterWrite_frame (a1 : Nat) (a2 : Nat) (a3 : Word) (a4 : State) :
    Fr getN 0x3ffff004010b380 a4 (execRegisterWrite a1 a2 a3 a4) := by
  unfold execRegisterWrite
  refine Fr.next ?_
  refine Frame.ite (fun h1 => ?_) (fun h1 => ?_)
  · exact Frame.refl _ _
  · refine Frame.ite (fun h2 => ?_) (fun h2 => ?_)
    · refine Frame.step ?_ (State.bar4Write_frame ..) rfl
      exact Frame.refl _ _
    · refine Frame.step ?_ (State.regWrite_frame ..) rfl
      exact Frame.refl _ _

theorem execW1cClear_frame (a1 : Nat) (a2 : Word) (a3 : Word) (a4 : State) :
    Fr getN 0x3ffff0000101000 a4 (execW1cClear a1 a2 a3 a4) := by
  unfold execW1cClear
  refine Fr.next ?_
  refine Frame.step ?_ (State.w1cWrite_frame ..) rfl
  exact Frame.refl _ _

theorem execWideLowWordRead_frame (a1 : Nat) (a2 : State) :
    Fr getN 0x200080010000b a2 (execWideLowWordRead a1 a2) := by
  unfold execWideLowWordRead
  refine Fr.next ?_
  split
  · rename_i z1 z2
    apply Frame.upd
    · exact Frame.refl _ _
    all_goals first | exact Or.inr rfl | exact Or.inl rfl | exact Or.inl (Nat.le_refl _) | rfl
  · rename_i z3 z4 z5
    refine Frame.ite (fun h6 => ?_) (fun h6 => ?_)
    · apply Frame.upd
      · exact Frame.refl _ _
      all_goals first | exact Or.inr rfl | exact Or.inl rfl | exact Or.inl (Nat.le_refl _) | rfl
    · apply Frame.upd
      · exact Frame.refl _ _
      all_goals first | exact Or.inr rfl | exact Or.inl rfl | exact Or.inl (Nat.le_refl _) | rfl

theorem execPeekAddrWrite_frame (a1 : Word) (a2 : State) :
    Fr getN 0x10000100000 a2 (execPeekAddrWrite a1 a2) := by
  unfold execPeekAddrWrite
  refine Fr.next ?_
  refine Frame.step ?_ (State.peekWrite_frame ..) rfl
  exact Frame.refl _ _

theorem execTraceConfigWrite_frame (a1 : Nat) (a2 : Word) (a3 : State) :
    Fr getN 0x3ffff0000100200 a3 (execTraceConfigWrite a1 a2 a3) := by
  unfold execTraceConfigWrite
  refine Fr.next ?_
  refine Frame.step ?_ (State.trcWrite_frame ..) rfl
  exact Frame.refl _ _

theorem execDrvVersionWrite_frame (a1 : Nat) (a2 : State) :
    Fr getN 0x4000000108000 a2 (execDrvVersionWrite a1 a2) := by
  unfold execDrvVersionWrite
  refine Fr.next ?_
  refine Frame.step ?_ (State.drvWrite_frame ..) rfl
  exact Frame.refl _ _

theorem execDumpPageSelect_frame (a1 : Nat) (a2 : State) :
    Fr getN 0x4000000100000 a2 (execDumpPageSelect a1 a2) := by
  unfold execDumpPageSelect
  refine Fr.next ?_
  refine Frame.step ?_ (State.dumpPage_frame ..) rfl
  exact Frame.refl _ _

theorem execClearMarks_frame (a1 : State) :
    Fr getN 0x4000000102000 a1 (execClearMarks a1) := by
  unfold execClearMarks
  refine Fr.next ?_
  refine Frame.step ?_ (State.marksClear_frame ..) rfl
  exact Frame.refl _ _

end Sys2Proof.Machine
end

