-- ==== Sys2Proof/Laws/FrameBoot.lean ====
section
/-!
SUPPORT. Frame laws of Machine/Boot.lean: which components each of its operations may change.
-/

namespace Sys2Proof.Machine

open Sys2Proof

theorem State.cycEmpty_frame (a1 : State) :
    Frame 0x10400160000 a1 (State.cycEmpty a1) := by
  unfold State.cycEmpty
  extract_lets v1 v2 v3
  have h4 : Frame 0x10400160000 a1 v1 := by
    unfold v1
    refine Frame.trans ?_ (State.wr_frame rfl rfl ..)
    refine Frame.trans ?_ (State.wr_frame rfl rfl ..)
    refine Frame.trans ?_ (State.put_frame rfl rfl ..)
    refine Frame.trans ?_ (State.put_frame rfl rfl ..)
    exact Frame.refl _ _
  clear_value v1
  have h5 : Frame 0x10400160000 a1 v2 := by
    unfold v2
    refine Frame.foldl ?_ (fun u6 x7 h8 => ?_)
    · assumption
    · refine Frame.trans ?_ (State.wr_frame rfl (tb_glbA rfl) ..)
      assumption
  clear_value v2
  apply Frame.upd
  · assumption
  all_goals first | exact Or.inr rfl | exact Or.inl rfl | exact Or.inl (Nat.le_refl _) | rfl

theorem State.bootShow_frame (a1 : State) (a2 : Nat) (a3 : Nat) (a4 : Nat) (a5 : Nat) (a6 : Nat) :
    Frame 0x4000000100000 a1 (State.bootShow a1 a2 a3 a4 a5 a6) := by
  unfold State.bootShow
  refine Frame.trans ?_ (State.wr_frame rfl (tb_mgtA rfl) ..)
  refine Frame.trans ?_ (State.wr_frame rfl (tb_mgtA rfl) ..)
  exact Frame.refl _ _

theorem State.recover_frame (a1 : State) (a2 : Booting) (a3 : Nat) (a4 : Nat) (a5 : Status) :
    Frame 0x400000010a000 a1 (State.recover a1 a2 a3 a4 a5) := by
  unfold State.recover
  extract_lets v1 v2 v3
  have h4 : Frame 0x400000010a000 a1 v1 := by
    unfold v1
    refine Frame.step ?_ (State.putRec_frame ..) rfl
    exact Frame.refl _ _
  clear_value v1
  have h5 : Frame 0x400000010a000 a1 v3 := by
    unfold v3
    apply Frame.upd
    · assumption
    all_goals first | exact Or.inr rfl | exact Or.inl rfl | exact Or.inl (Nat.le_refl _) | rfl
  clear_value v3
  refine Frame.step ?_ (State.bootShow_frame ..) rfl
  assumption

theorem State.pkgsGone_frame (a1 : State) :
    Frame 0x100000038700000 a1 (State.pkgsGone a1) := by
  unfold State.pkgsGone
  extract_lets v1 v2 v3 v4
  have h5 : Frame 0x100000038700000 a1 v1 := by
    unfold v1
    refine Frame.foldl ?_ (fun u6 x7 h8 => ?_)
    · exact Frame.refl _ _
    · refine Frame.step ?_ (State.dropSeq_frame ..) rfl
      assumption
  clear_value v1
  have h9 : Frame 0x100000038700000 a1 v4 := by
    unfold v4
    apply Frame.upd
    · assumption
    all_goals first | exact Or.inr rfl | exact Or.inl rfl | exact Or.inl (Nat.le_refl _) | rfl
  clear_value v4
  refine Frame.step ?_ (State.dirtyAdd_frame ..) rfl
  refine Frame.foldl ?_ (fun u10 x11 h12 => ?_)
  · assumption
  · refine Frame.step ?_ (State.kvIdle_frame ..) rfl
    assumption

theorem State.selfReset_frame (a1 : State) :
    Frame 0x3ffff1fffffffff a1 (State.selfReset a1) := by
  unfold State.selfReset
  extract_lets v1 v2
  have h3 : Frame 0x3ffff1fffffffff a1 v1 := by
    unfold v1
    refine Frame.step ?_ (State.packageReset_frame ..) rfl
    refine Frame.step ?_ (State.logFlush_frame ..) rfl
    exact Frame.refl _ _
  clear_value v1
  apply Frame.upd
  · assumption
  all_goals first | exact Or.inr rfl | exact Or.inl rfl | exact Or.inl (Nat.le_refl _) | rfl

theorem State.railsUp_frame (a1 : State) (a2 : List Nat) (a3 : Booting) :
    Frame 0x8004 a1 (State.railsUp a1 a2 a3) := by
  unfold State.railsUp
  extract_lets v1 v2 v3 v4 v5
  have h6 : Frame 0x8004 a1 v1 := by
    unfold v1
    refine Frame.step ?_ (State.emit_frame ..) rfl
    refine Frame.step ?_ (State.emit_frame ..) rfl
    refine Frame.step ?_ (State.emit_frame ..) rfl
    refine Frame.step ?_ (State.emit_frame ..) rfl
    exact Frame.refl _ _
  clear_value v1
  have h7 : Frame 0x8004 a1 v2 := by
    unfold v2
    refine Frame.foldl ?_ (fun u8 x9 h10 => ?_)
    · assumption
    · refine Frame.step ?_ (State.emit_frame ..) rfl
      refine Frame.step ?_ (State.emit_frame ..) rfl
      assumption
  clear_value v2
  have h11 : Frame 0x8004 a1 v4 := by
    unfold v4
    refine Frame.foldl ?_ (fun u12 x13 h14 => ?_)
    · assumption
    · refine Frame.step ?_ (State.emit_frame ..) rfl
      assumption
  clear_value v4
  apply Frame.upd
  · assumption
  all_goals first | exact Or.inr rfl | exact Or.inl rfl | exact Or.inl (Nat.le_refl _) | rfl

theorem State.vmonShow_frame (a1 : State) (a2 : List Nat) (a3 : Booting) :
    Frame 0x4000000100000 a1 (State.vmonShow a1 a2 a3) := by
  unfold State.vmonShow
  extract_lets v1 v2
  have h3 : Frame 0x4000000100000 a1 v1 := by
    unfold v1
    refine Frame.foldl ?_ (fun u4 x5 h6 => ?_)
    · exact Frame.refl _ _
    · refine Frame.trans ?_ (State.put_frame rfl (tb_mgtA rfl) ..)
      assumption
  clear_value v1
  refine Frame.foldl ?_ (fun u7 x8 h9 => ?_)
  · assumption
  · refine Frame.trans ?_ (State.put_frame rfl (tb_mgtA rfl) ..)
    assumption

theorem State.dieShow_frame (a1 : State) (a2 : Booting) (a3 : Nat) :
    Frame 0x100000000100000 a1 (State.dieShow a1 a2 a3) := by
  unfold State.dieShow
  extract_lets v1 v2 v3
  have h4 : Frame 0x100000000100000 a1 v3 := by
    unfold v3
    refine Frame.foldl ?_ (fun u5 x6 h7 => ?_)
    · exact Frame.refl _ _
    · extract_lets v8 v9 v10
      refine Frame.trans ?_ (State.wr_frame rfl (tb_eccA rfl) ..)
      assumption
  clear_value v3
  refine Frame.trans ?_ (State.wr_frame rfl (tb_eccA rfl) ..)
  assumption

theorem State.bootLog_frame (a1 : State) (a2 : Booting) (a3 : Nat) :
    Frame 0x4000000108000 a1 (State.bootLog a1 a2 a3) := by
  unfold State.bootLog
  extract_lets v1
  refine Frame.foldl ?_ (fun u2 x3 h4 => ?_)
  · exact Frame.refl _ _
  · refine Frame.step ?_ (State.hmLog_frame ..) rfl
    assumption

theorem State.release_frame (a1 : State) (a2 : Booting) (a3 : List SelfTest) (a4 : Nat) :
    Frame 0x104c1004110a01c a1 (State.release a1 a2 a3 a4) := by
  unfold State.release
  extract_lets v1 v2 v3 v4 v5 v6 v7 v8 v9 v10 v11 v12 v13 v14 v15 v16 v17
  have h18 : Frame 0x104c1004110a01c a1 v5 := by
    unfold v5
    refine Frame.step ?_ (State.putRec_frame ..) rfl
    exact Frame.refl _ _
  clear_value v5
  have h19 : Frame 0x104c1004110a01c a1 v6 := by
    unfold v6
    refine Frame.step ?_ (State.vmonShow_frame ..) rfl
    refine Frame.step ?_ (State.railsUp_frame ..) rfl
    assumption
  clear_value v6
  have h20 : Frame 0x104c1004110a01c a1 v7 := by
    unfold v7
    refine Frame.step ?_ (State.bump_frame ..) rfl
    refine Frame.foldl ?_ (fun u21 x22 h23 => ?_)
    · assumption
    · refine Frame.step ?_ (State.dieShow_frame ..) rfl
      assumption
  clear_value v7
  have h24 : Frame 0x104c1004110a01c a1 v8 := by
    unfold v8
    refine Frame.trans ?_ (State.put_frame rfl rfl ..)
    assumption
  clear_value v8
  have h25 : Frame 0x104c1004110a01c a1 v9 := by
    unfold v9
    refine Frame.foldl ?_ (fun u26 x27 h28 => ?_)
    · assumption
    · extract_lets v29 v30
      have h31 : Frame 0x104c1004110a01c a1 v29 := by
        unfold v29
        refine Frame.trans ?_ (State.put_frame rfl (tb_eccA rfl) ..)
        assumption
      clear_value v29
      have h32 : Frame 0x104c1004110a01c a1 v30 := by
        unfold v30
        refine Frame.foldl ?_ (fun u33 x34 h35 => ?_)
        · assumption
        · extract_lets v36
          refine Frame.step ?_ (State.selfTest_frame ..) rfl
          assumption
      clear_value v30
      refine Frame.step ?_ (State.coreMap_frame ..) rfl
      assumption
  clear_value v9
  have h37 : Frame 0x104c1004110a01c a1 v10 := by
    unfold v10
    refine Frame.foldl ?_ (fun u38 x39 h40 => ?_)
    · assumption
    · refine Frame.ite (fun h41 => ?_) (fun h41 => ?_)
      · assumption
      · refine Frame.step ?_ (State.setLinkState_frame ..) rfl
        refine Frame.trans ?_ (State.put_frame rfl (tb_lnkA rfl) ..)
        assumption
  clear_value v10
  have h42 : Frame 0x104c1004110a01c a1 v11 := by
    unfold v11
    refine Frame.foldl ?_ (fun u43 x44 h45 => ?_)
    · assumption
    · refine Frame.trans ?_ (State.wr64_frame rfl (tb_ethA rfl) (tb 6 (by unfold ethA; omega) (by unfold ethA; omega) (by omega) rfl) ..)
      assumption
  clear_value v11
  have h46 : Frame 0x104c1004110a01c a1 v12 := by
    unfold v12
    refine Frame.trans ?_ (State.wr_frame rfl (tb_mgtA rfl) ..)
    refine Frame.trans ?_ (State.wr_frame rfl (tb_mgtA rfl) ..)
    assumption
  clear_value v12
  have h47 : Frame 0x104c1004110a01c a1 v13 := by
    unfold v13
    refine Frame.trans ?_ (State.wr_frame rfl (tb_mgtA rfl) ..)
    refine Frame.trans ?_ (State.wr_frame rfl (tb_mgtA rfl) ..)
    assumption
  clear_value v13
  have h48 : Frame 0x104c1004110a01c a1 v16 := by
    unfold v16
    apply Frame.upd
    · assumption
    all_goals first | exact Or.inr rfl | exact Or.inl rfl | exact Or.inl (Nat.le_refl _) | rfl
  clear_value v16
  have h49 : Frame 0x104c1004110a01c a1 v17 := by
    unfold v17
    refine Frame.step ?_ (State.bootLog_frame ..) rfl
    refine Frame.step ?_ (State.bootShow_frame ..) rfl
    assumption
  clear_value v17
  split
  · rename_i z50 z51 z52
    refine Frame.step ?_ (State.drvCheck_frame ..) rfl
    assumption
  · rename_i z53 z54
    assumption

theorem State.boot_frame (a1 : State) (a2 : List StepResult) (a3 : List SelfTest) :
    Frame 0x3ffff1fffffffff a1 (State.boot a1 a2 a3) := by
  unfold State.boot
  extract_lets v1 v2 v3 v4 v5 v6 v7 v8 v9 v10 v11 v12 v13 v14 v15 v16 v17 v18 v19 v20 v21 v22 v23 v24 v25
  have h26 : Frame 0x3ffff1fffffffff a1 v1 := by
    unfold v1
    refine Frame.step ?_ (State.logResume_frame ..) rfl
    refine Frame.ite (fun h27 => ?_) (fun h27 => ?_)
    · refine Frame.step ?_ (State.emit_frame ..) rfl
      exact Frame.refl _ _
    · exact Frame.refl _ _
  clear_value v1
  refine Frame.ite (fun h28 => ?_) (fun h28 => ?_)
  · refine Frame.step ?_ (State.recover_frame ..) rfl
    assumption
  · refine Frame.ite (fun h29 => ?_) (fun h29 => ?_)
    · refine Frame.step ?_ (State.recover_frame ..) rfl
      assumption
    · refine Frame.ite (fun h30 => ?_) (fun h30 => ?_)
      · refine Frame.step ?_ (State.selfReset_frame ..) rfl
        refine Frame.step ?_ (State.putRec_frame ..) rfl
        assumption
      · refine Frame.ite (fun h31 => ?_) (fun h31 => ?_)
        · refine Frame.step ?_ (State.selfReset_frame ..) rfl
          refine Frame.step ?_ (State.railsUp_frame ..) rfl
          refine Frame.step ?_ (State.putRec_frame ..) rfl
          assumption
        · refine Frame.step ?_ (State.release_frame ..) rfl
          assumption

theorem execResetRelease_frame (a1 : List StepResult) (a2 : List SelfTest) (a3 : State) :
    Fr getN 0x3ffff1fffffffff a3 (execResetRelease a1 a2 a3) := by
  unfold execResetRelease
  refine Fr.next ?_
  refine Frame.ite (fun h1 => ?_) (fun h1 => ?_)
  · refine Frame.trans ?_ (State.atRef_frame rfl (fun u2 => ?_) ..)
    · exact Frame.refl _ _
    · refine Frame.step ?_ (State.boot_frame ..) rfl
      exact Frame.refl _ _
  · exact Frame.refl _ _

theorem State.ringsGone_frame (a1 : State) :
    Frame 0x400120011b6c0 a1 (State.ringsGone a1) := by
  unfold State.ringsGone
  extract_lets v1 v2 v3 v4 v5
  have h6 : Frame 0x400120011b6c0 a1 v4 := by
    unfold v4
    apply Frame.upd
    · exact Frame.refl _ _
    all_goals first | exact Or.inr rfl | exact Or.inl rfl | exact Or.inl (Nat.le_refl _) | rfl
  clear_value v4
  have h7 : Frame 0x400120011b6c0 a1 v5 := by
    unfold v5
    split
    · rename_i z8 z9 z10
      split
      · rename_i z11 z12 z13 z14
        refine Frame.ite (fun h15 => ?_) (fun h15 => ?_)
        · assumption
        · refine Frame.step ?_ (State.dropUpdate_frame ..) rfl
          assumption
      · rename_i z16 z17
        assumption
    · rename_i z18 z19
      assumption
  clear_value v5
  split
  · rename_i z20 z21 z22
    refine Frame.ite (fun h23 => ?_) (fun h23 => ?_)
    · assumption
    · refine Frame.step ?_ (State.makerStop_frame ..) rfl
      assumption
  · rename_i z24 z25
    assumption

theorem State.hifClear_frame (s : State) : Frame 0x20000100000 s
    { s with regs := s.regs.filter (fun e => !(0x100000 ≤ e.1 && e.1 < 0x200000 && !hifCounter e.1)) } := by
  constructor
  case regsWf => intro w; exact twfFrom_filter _ w
  case regs => intro b; cases b
  case blk =>
    intro a b
    have hp : ¬(0x100000 ≤ a ∧ a < 0x200000) := by
      intro h
      have : blk a = 1 := by unfold blk; rw [if_pos (by omega)]; omega
      rw [this] at b
      cases b
    refine tget_filter _ (fun w => ?_)
    simp only [Bool.not_eq_eq_eq_not, Bool.not_true, Bool.and_eq_false_imp]
    intro h
    rw [Bool.and_eq_true, decide_eq_true_eq, decide_eq_true_eq] at h
    exact absurd h hp
  all_goals intros; first | rfl | assumption | exact Nat.le_refl _

theorem State.hostReset_frame (a1 : State) (a2 : Bool) :
    Frame 0x1061f1ffd77b7cc a1 (State.hostReset a1 a2) := by
  unfold State.hostReset
  refine Frame.ite (fun h1 => ?_) (fun h1 => ?_)
  · exact Frame.refl _ _
  · extract_lets v2 v3 v4 v5 v6 v7 v8 v9 v10 v11 v12 v13
    have h14 : Frame 0x1061f1ffd77b7cc a1 v3 := by
      unfold v3
      refine Frame.step ?_ (State.ringsGone_frame ..) rfl
      exact Frame.refl _ _
    clear_value v3
    have h15 : Frame 0x1061f1ffd77b7cc a1 v4 := by
      unfold v4
      refine Frame.step ?_ (State.hifClear_frame ..) rfl
      assumption
    clear_value v4
    have h16 : Frame 0x1061f1ffd77b7cc a1 v5 := by
      unfold v5
      refine Frame.ite (fun h17 => ?_) (fun h17 => ?_)
      · assumption
      · refine Frame.trans ?_ (State.wr_frame rfl (tb_hifA rfl) ..)
        assumption
    clear_value v5
    have h18 : Frame 0x1061f1ffd77b7cc a1 v6 := by
      unfold v6
      refine Frame.step ?_ (State.cycEmpty_frame ..) rfl
      assumption
    clear_value v6
    have h19 : Frame 0x1061f1ffd77b7cc a1 v8 := by
      unfold v8
      refine Frame.foldl ?_ (fun u20 x21 h22 => ?_)
      · assumption
      · refine Frame.step ?_ (State.endSoon_frame ..) rfl
        refine Frame.step ?_ (State.report_frame ..) rfl
        assumption
    clear_value v8
    have h23 : Frame 0x1061f1ffd77b7cc a1 v9 := by
      unfold v9
      refine Frame.step ?_ (State.pkgsGone_frame ..) rfl
      assumption
    clear_value v9
    have h24 : Frame 0x1061f1ffd77b7cc a1 v10 := by
      unfold v10
      refine Frame.ite (fun h25 => ?_) (fun h25 => ?_)
      · refine Frame.trans ?_ (State.put_frame rfl rfl ..)
        refine Frame.step ?_ (State.cfgClose_frame ..) rfl
        assumption
      · assumption
    clear_value v10
    have h26 : Frame 0x1061f1ffd77b7cc a1 v13 := by
      unfold v13
      apply Frame.upd
      · assumption
      all_goals first | exact Or.inr rfl | exact Or.inl rfl | exact Or.inl (Nat.le_refl _) | rfl
    clear_value v13
    refine Frame.trans ?_ (State.wr_frame rfl (tb_mgtA rfl) ..)
    assumption

theorem execResetInput_frame (a1 : Bool) (a2 : Nat) (a3 : State) :
    Fr getN 0x3ffff1fffffffff a3 (execResetInput a1 a2 a3) := by
  unfold execResetInput
  refine Fr.next ?_
  refine Frame.ite (fun h1 => ?_) (fun h1 => ?_)
  · exact Frame.refl _ _
  · refine Frame.step ?_ (State.packageReset_frame ..) rfl
    exact Frame.refl _ _

theorem execHotReset_frame (a1 : State) :
    Fr getN 0x1061f1ffd77b7cc a1 (execHotReset a1) := by
  unfold execHotReset
  refine Fr.next ?_
  refine Frame.step ?_ (State.hostReset_frame ..) rfl
  exact Frame.refl _ _

theorem execFunctionLevelReset_frame (a1 : State) :
    Fr getN 0x1061f1ffd77b7cc a1 (execFunctionLevelReset a1) := by
  unfold execFunctionLevelReset
  refine Fr.next ?_
  refine Frame.step ?_ (State.hostReset_frame ..) rfl
  exact Frame.refl _ _

theorem execPowerOn_frame (s : State) : Fr getN 0x3ffff3fffffffff s (execPowerOn s) := by
  refine Fr.next ?_
  constructor
  case svn => exact Nat.le_refl _
  case blk => intro a b; rw [tbAll a rfl] at b; cases b
  all_goals intros; first | rfl | contradiction

end Sys2Proof.Machine
end

