-- ==== Sys2Proof/Laws/FrameReplay.lean ====
section
/-!
SUPPORT. Frame laws of Machine/Replay.lean: which components each of its operations may change.
-/

namespace Sys2Proof.Machine

open Sys2Proof

theorem State.cfgWrite_frame (a1 : State) (a2 : Nat) (a3 : Nat) :
    Frame 0x3ffff0000100000 a1 (State.cfgWrite a1 a2 a3) := by
  unfold State.cfgWrite
  split
  · rename_i z1 z2
    exact Frame.refl _ _
  · rename_i z3 z4 z5
    extract_lets v6
    refine Frame.ite (fun h7 => ?_) (fun h7 => ?_)
    · refine Frame.trans ?_ (State.wr_frame rfl (tbAll _ rfl) ..)
      exact Frame.refl _ _
    · exact Frame.refl _ _

theorem State.cfgLims_frame (a1 : State) (a2 : Bytes) :
    Frame 0x200 a1 (State.cfgLims a1 a2) := by
  unfold State.cfgLims
  extract_lets v1
  have h2 : Frame 0x200 a1 v1 := by
    unfold v1
    apply Frame.upd
    · exact Frame.refl _ _
    all_goals first | exact Or.inr rfl | exact Or.inl rfl | exact Or.inl (Nat.le_refl _) | rfl
  clear_value v1
  refine Frame.foldl ?_ (fun u3 x4 h5 => ?_)
  · assumption
  · extract_lets v6 v7
    refine Frame.step ?_ (State.setAx_frame ..) rfl
    assumption

theorem State.cfgTables_frame (a1 : State) (a2 : Bytes) :
    Frame 0x4010000160200 a1 (State.cfgTables a1 a2) := by
  unfold State.cfgTables
  extract_lets v1 v2 v3 v4 v5 v6 v7
  have h8 : Frame 0x4010000160200 a1 v6 := by
    unfold v6
    refine Frame.step ?_ (State.cfgLims_frame ..) rfl
    exact Frame.refl _ _
  clear_value v6
  have h9 : Frame 0x4010000160200 a1 v7 := by
    unfold v7
    apply Frame.upd
    · assumption
    all_goals first | exact Or.inr rfl | exact Or.inl rfl | exact Or.inl (Nat.le_refl _) | rfl
  clear_value v7
  refine Frame.trans ?_ (State.put_frame rfl (tb_mgtA rfl) ..)
  unfold v5
  refine Frame.trans ?_ (State.wr_frame rfl (tb_glbA rfl) ..)
  refine Frame.trans ?_ (State.wr_frame rfl (tb_glbA rfl) ..)
  assumption

theorem State.replayConfig_frame (a1 : State) (a2 : Nat) (a3 : Bytes) :
    Frame 0x3ffff0def179ebc a1 (State.replayConfig a1 a2 a3) := by
  unfold State.replayConfig
  extract_lets v1 v2 v3 v4 v5 v6 v7
  have h8 : Frame 0x3ffff0def179ebc a1 v1 := by
    unfold v1
    refine Frame.step ?_ (State.tlySyncAll_frame ..) rfl
    exact Frame.refl _ _
  clear_value v1
  have h9 : Frame 0x3ffff0def179ebc a1 v3 := by
    unfold v3
    refine Frame.foldl ?_ (fun u10 x11 h12 => ?_)
    · assumption
    · refine Frame.step ?_ (State.cfgWrite_frame ..) rfl
      assumption
  clear_value v3
  have h13 : Frame 0x3ffff0def179ebc a1 v4 := by
    unfold v4
    refine Frame.step ?_ (State.cfgTables_frame ..) rfl
    refine Frame.foldl ?_ (fun u14 x15 h16 => ?_)
    · assumption
    · refine Frame.step ?_ (State.cfgWrite_frame ..) rfl
      assumption
  clear_value v4
  have h17 : Frame 0x3ffff0def179ebc a1 v5 := by
    unfold v5
    refine Frame.step ?_ (State.blocksApplied_frame ..) rfl
    assumption
  clear_value v5
  have h18 : Frame 0x3ffff0def179ebc a1 v7 := by
    unfold v7
    apply Frame.upd
    · assumption
    all_goals first | exact Or.inr rfl | exact Or.inl rfl | exact Or.inl (Nat.le_refl _) | rfl
  clear_value v7
  refine Frame.ite (fun h19 => ?_) (fun h19 => ?_)
  · refine Frame.ite (fun h20 => ?_) (fun h20 => ?_)
    · refine Frame.step ?_ (State.cycSet_frame ..) rfl
      assumption
    · assumption
  · assumption

theorem State.replayInput_frame (a1 : State) (a2 : LogRec) :
    Frame 0x5300000108e04 a1 (State.replayInput a1 a2) := by
  unfold State.replayInput
  extract_lets v1 v2 v3 v4
  have h5 : Frame 0x5300000108e04 a1 v3 := by
    unfold v3
    refine Frame.trans ?_ (State.put_frame rfl (tb_safA rfl) ..)
    refine Frame.trans ?_ (State.put_frame rfl (tb_safA rfl) ..)
    exact Frame.refl _ _
  clear_value v3
  have h6 : Frame 0x5300000108e04 a1 v4 := by
    unfold v4
    refine Frame.step ?_ (State.siTrack_frame ..) rfl
    assumption
  clear_value v4
  refine Frame.ite (fun h7 => ?_) (fun h7 => ?_)
  · refine Frame.step ?_ (State.siDemand_frame ..) rfl
    assumption
  · assumption

theorem State.replayJob_frame (a1 : State) (a2 : LogRec) (a3 : Inflight) (a4 : Bytes) (a5 : Bytes) (a6 : Bytes) :
    Frame 0x1020909f8f1100c a1 (State.replayJob a1 a2 a3 a4 a5 a6) := by
  unfold State.replayJob
  extract_lets v1 v2 v3 v4
  split
  · rename_i z5 z6
    refine Frame.step ?_ (State.subDone_frame ..) rfl
    exact Frame.refl _ _
  · rename_i z7 z8 z9
    refine Fr.fst ?_
    refine Fr.step ?_ (State.subDecide_frame ..) rfl
    apply Frame.upd
    · exact Frame.refl _ _
    all_goals first | exact Or.inr rfl | exact Or.inl rfl | exact Or.inl (Nat.le_refl _) | rfl

theorem State.replaySubmit_frame (a1 : State) (a2 : LogRec) :
    Frame 0x1061b09fdf19a8c a1 (State.replaySubmit a1 a2) := by
  unfold State.replaySubmit
  extract_lets v1 v2 v3 v4
  split
  · rename_i z5 z6
    refine Frame.step ?_ (State.replayJob_frame ..) rfl
    exact Frame.refl _ _
  · rename_i z7 z8
    refine Frame.step ?_ (State.replayJob_frame ..) rfl
    exact Frame.refl _ _
  · rename_i z9 z10
    refine Frame.step ?_ (State.releaseJob_frame ..) rfl
    exact Frame.refl _ _
  · rename_i z11 z12
    refine Frame.step ?_ (State.axisCmd_frame ..) rfl
    exact Frame.refl _ _
  · rename_i z13 z14
    refine Frame.step ?_ (State.segArrive_frame ..) rfl
    exact Frame.refl _ _
  · rename_i z15 z16
    refine Frame.step ?_ (State.loadTable_frame ..) rfl
    exact Frame.refl _ _
  · rename_i z17 z18
    refine Frame.step ?_ (State.acceptReset_frame ..) rfl
    exact Frame.refl _ _
  · rename_i z19 z20
    refine Fr.getD ?_ ?_
    · refine Fr.step ?_ (State.storeGolden_frame ..) rfl
      exact Frame.refl _ _
    · exact Frame.refl _ _
  · rename_i z21 z22 z23 z24 z25 z26 z27 z28 z29
    exact Frame.refl _ _

theorem State.replayOverrun_frame (a1 : State) (a2 : Nat) :
    Frame 0x1061b09ed11928c a1 (State.replayOverrun a1 a2) := by
  unfold State.replayOverrun
  split
  · rename_i z1 z2
    exact Frame.refl _ _
  · rename_i z3 z4 z5
    refine Frame.step ?_ (State.endSoon_frame ..) rfl
    exact Frame.refl _ _

theorem State.replayLoss_frame (a1 : State) :
    Frame 0x107391dff399e0c a1 (State.replayLoss a1) := by
  unfold State.replayLoss
  extract_lets v1 v2 v3 v4
  have h5 : Frame 0x107391dff399e0c a1 v3 := by
    unfold v3
    refine Frame.step ?_ (State.packageLoss_frame ..) rfl
    exact Frame.refl _ _
  clear_value v3
  apply Frame.upd
  · assumption
  all_goals first | exact Or.inr rfl | exact Or.inl rfl | exact Or.inl (Nat.le_refl _) | rfl

theorem State.deliverRec_frame (a1 : Nat) (a2 : State) (a3 : LogRec) :
    Frame 0x3ffff1dffff9ebc a2 (State.deliverRec a1 a2 a3) := by
  unfold State.deliverRec
  extract_lets v1 v2 v3 v4 v5
  split
  · rename_i z6 z7
    refine Frame.trans ?_ (State.put_frame rfl (tb_fabA rfl) ..)
    apply Frame.upd
    · exact Frame.refl _ _
    all_goals first | exact Or.inr rfl | exact Or.inl rfl | exact Or.inl (Nat.le_refl _) | rfl
  · rename_i z8 z9
    refine Frame.step ?_ (State.replayConfig_frame ..) rfl
    exact Frame.refl _ _
  · rename_i z10 z11
    unfold v4
    extract_lets v12 v13
    have h14 : Frame 0x3ffff1dffff9ebc a2 v12 := by
      unfold v12
      beta_reduce
      refine Frame.ite (fun h15 => ?_) (fun h15 => ?_)
      · refine Frame.step ?_ (State.sensorIn_frame ..) rfl
        apply Frame.upd
        · exact Frame.refl _ _
        all_goals first | exact Or.inr rfl | exact Or.inl rfl | exact Or.inl (Nat.le_refl _) | rfl
      · apply Frame.upd
        · exact Frame.refl _ _
        all_goals first | exact Or.inr rfl | exact Or.inl rfl | exact Or.inl (Nat.le_refl _) | rfl
    clear_value v12
    apply Frame.upd
    · assumption
    all_goals first | exact Or.inr rfl | exact Or.inl rfl | exact Or.inl (Nat.le_refl _) | rfl
  · rename_i z16 z17
    unfold v4
    extract_lets v18 v19
    have h20 : Frame 0x3ffff1dffff9ebc a2 v18 := by
      unfold v18
      beta_reduce
      refine Frame.step ?_ (State.canIn_frame ..) rfl
      apply Frame.upd
      · exact Frame.refl _ _
      all_goals first | exact Or.inr rfl | exact Or.inl rfl | exact Or.inl (Nat.le_refl _) | rfl
    clear_value v18
    apply Frame.upd
    · assumption
    all_goals first | exact Or.inr rfl | exact Or.inl rfl | exact Or.inl (Nat.le_refl _) | rfl
  · rename_i z21 z22
    unfold v4
    extract_lets v23 v24
    have h25 : Frame 0x3ffff1dffff9ebc a2 v23 := by
      unfold v23
      beta_reduce
      refine Frame.step ?_ (State.ethCtrl_frame ..) rfl
      apply Frame.upd
      · exact Frame.refl _ _
      all_goals first | exact Or.inr rfl | exact Or.inl rfl | exact Or.inl (Nat.le_refl _) | rfl
    clear_value v23
    apply Frame.upd
    · assumption
    all_goals first | exact Or.inr rfl | exact Or.inl rfl | exact Or.inl (Nat.le_refl _) | rfl
  · rename_i z26 z27
    unfold v4
    extract_lets v28 v29
    have h30 : Frame 0x3ffff1dffff9ebc a2 v28 := by
      unfold v28
      beta_reduce
      refine Frame.step ?_ (State.replayInput_frame ..) rfl
      apply Frame.upd
      · exact Frame.refl _ _
      all_goals first | exact Or.inr rfl | exact Or.inl rfl | exact Or.inl (Nat.le_refl _) | rfl
    clear_value v28
    apply Frame.upd
    · assumption
    all_goals first | exact Or.inr rfl | exact Or.inl rfl | exact Or.inl (Nat.le_refl _) | rfl
  · rename_i z31 z32
    unfold v4
    extract_lets v33 v34
    have h35 : Frame 0x3ffff1dffff9ebc a2 v33 := by
      unfold v33
      beta_reduce
      refine Frame.step ?_ (State.replaySubmit_frame ..) rfl
      apply Frame.upd
      · exact Frame.refl _ _
      all_goals first | exact Or.inr rfl | exact Or.inl rfl | exact Or.inl (Nat.le_refl _) | rfl
    clear_value v33
    apply Frame.upd
    · assumption
    all_goals first | exact Or.inr rfl | exact Or.inl rfl | exact Or.inl (Nat.le_refl _) | rfl
  · rename_i z36 z37
    refine Frame.ite (fun h38 => ?_) (fun h38 => ?_)
    · refine Frame.step ?_ (State.replayOverrun_frame ..) rfl
      exact Frame.refl _ _
    · exact Frame.refl _ _
  · rename_i z39 z40
    refine Frame.ite (fun h41 => ?_) (fun h41 => ?_)
    · unfold v4
      extract_lets v42 v43
      have h44 : Frame 0x3ffff1dffff9ebc a2 v42 := by
        unfold v42
        refine Frame.step ?_ (State.replayLoss_frame ..) rfl
        apply Frame.upd
        · exact Frame.refl _ _
        all_goals first | exact Or.inr rfl | exact Or.inl rfl | exact Or.inl (Nat.le_refl _) | rfl
      clear_value v42
      apply Frame.upd
      · assumption
      all_goals first | exact Or.inr rfl | exact Or.inl rfl | exact Or.inl (Nat.le_refl _) | rfl
    · refine Frame.ite (fun h45 => ?_) (fun h45 => ?_)
      · apply Frame.upd
        · exact Frame.refl _ _
        all_goals first | exact Or.inr rfl | exact Or.inl rfl | exact Or.inl (Nat.le_refl _) | rfl
      · exact Frame.refl _ _
  · rename_i z46 z47 z48 z49 z50 z51 z52 z53 z54 z55
    exact Frame.refl _ _

theorem State.deliverAll_frame (a1 : State) (a2 : Nat) (a3 : List LogRec) :
    Frame 0x3ffff1dffff9ebc a1 (State.deliverAll a1 a2 a3) := by
  unfold State.deliverAll
  refine Frame.foldl ?_ (fun u1 x2 h3 => ?_)
  · exact Frame.refl _ _
  · refine Frame.step ?_ (State.deliverRec_frame ..) rfl
    assumption

theorem State.replayTime_frame (a1 : State) (a2 : LogRec) :
    Frame 0x5340000108e1c a1 (State.replayTime a1 a2) := by
  unfold State.replayTime
  extract_lets v1 v2 v3 v4 v5
  have h6 : Frame 0x5340000108e1c a1 v4 := by
    unfold v4
    apply Frame.upd
    · exact Frame.refl _ _
    all_goals first | exact Or.inr rfl | exact Or.inl rfl | exact Or.inl (Nat.le_refl _) | rfl
  clear_value v4
  have h7 : Frame 0x5340000108e1c a1 v5 := by
    unfold v5
    refine Frame.ite (fun h8 => ?_) (fun h8 => ?_)
    · apply Frame.upd
      · assumption
      all_goals first | exact Or.inr rfl | exact Or.inl rfl | exact Or.inl (Nat.le_refl _) | rfl
    · assumption
  clear_value v5
  refine Frame.step ?_ (State.setLocked_frame ..) rfl
  refine Frame.trans ?_ (State.put_frame rfl (tb_timA rfl) ..)
  assumption

theorem State.replayGuard_frame (a1 : State) :
    Frame 0x5350000109e04 a1 (State.replayGuard a1) := by
  unfold State.replayGuard
  refine Frame.ite (fun h1 => ?_) (fun h1 => ?_)
  · exact Frame.refl _ _
  · refine Frame.foldl ?_ (fun u2 x3 h4 => ?_)
    · exact Frame.refl _ _
    · refine Frame.ite (fun h5 => ?_) (fun h5 => ?_)
      · assumption
      · split
        · rename_i z6 z7
          assumption
        · rename_i z8 z9 z10
          refine Frame.ite (fun h11 => ?_) (fun h11 => ?_)
          · assumption
          · refine Frame.step ?_ (State.guardMiss_frame ..) rfl
            refine Frame.step ?_ (State.setAx_frame ..) rfl
            assumption

theorem State.diverge_frame (a1 : State) (a2 : List Nat) :
    Frame 0x10000101000 a1 (State.diverge a1 a2) := by
  unfold State.diverge
  extract_lets v1 v2 v3
  have h4 : Frame 0x10000101000 a1 v2 := by
    unfold v2
    apply Frame.upd
    · exact Frame.refl _ _
    all_goals first | exact Or.inr rfl | exact Or.inl rfl | exact Or.inl (Nat.le_refl _) | rfl
  clear_value v2
  have h5 : Frame 0x10000101000 a1 v3 := by
    unfold v3
    refine Frame.ite (fun h6 => ?_) (fun h6 => ?_)
    · exact Frame.refl _ _
    · refine Frame.trans ?_ (State.wr_frame rfl rfl ..)
      refine Frame.trans ?_ (State.wr_frame rfl rfl ..)
      refine Frame.trans ?_ (State.wr_frame rfl rfl ..)
      refine Frame.trans ?_ (State.wr64_frame rfl rfl rfl ..)
      assumption
  clear_value v3
  refine Frame.trans ?_ (State.event_frame rfl rfl rfl ..)
  assumption

theorem State.replayStop_frame (a1 : State) (a2 : Nat) :
    Frame 0x10000100000 a1 (State.replayStop a1 a2) := by
  unfold State.replayStop
  refine Frame.trans ?_ (State.put_frame rfl rfl ..)
  refine Frame.trans ?_ (State.put_frame rfl rfl ..)
  refine Frame.trans ?_ (State.put_frame rfl rfl ..)
  exact Frame.refl _ _

theorem State.replayCompare_frame (a1 : State) :
    Frame 0x10000101000 a1 (State.replayCompare a1) := by
  unfold State.replayCompare
  extract_lets v1 v2 v3 v4 v5 v6
  have h7 : Frame 0x10000101000 a1 v5 := by
    unfold v5
    apply Frame.upd
    · exact Frame.refl _ _
    all_goals first | exact Or.inr rfl | exact Or.inl rfl | exact Or.inl (Nat.le_refl _) | rfl
  clear_value v5
  have h8 : Frame 0x10000101000 a1 v6 := by
    unfold v6
    refine Frame.foldl ?_ (fun u9 x10 h11 => ?_)
    · assumption
    · refine Frame.step ?_ (State.diverge_frame ..) rfl
      assumption
  clear_value v6
  refine Frame.ite (fun h12 => ?_) (fun h12 => ?_)
  · refine Frame.step ?_ (State.replayStop_frame ..) rfl
    assumption
  · assumption

theorem State.replayTake_frame (a1 : State) :
    Fr getP2 0x1000 a1 (State.replayTake a1) := by
  unfold State.replayTake
  split
  · rename_i z1 z2
    refine Fr.pair2 ?_
    exact Frame.refl _ _
  · rename_i z3 z4 z5 z6
    extract_lets v7 v8 v9 v10
    refine Fr.pair2 ?_
    apply Frame.upd
    · exact Frame.refl _ _
    all_goals first | exact Or.inr rfl | exact Or.inl rfl | exact Or.inl (Nat.le_refl _) | rfl

theorem State.replayEdge_frame (a1 : State) (a2 : Nat) :
    Fr getP2 0x3ffff1dffff9ebc a1 (State.replayEdge a1 a2) := by
  unfold State.replayEdge
  refine Fr.ite (fun h1 => ?_) (fun h1 => ?_)
  · refine Fr.pair2 ?_
    exact Frame.refl _ _
  · extract_lets v2 v3 v4
    have h5 : Frame 0x3ffff1dffff9ebc a1 v2 := by
      unfold v2
      refine Frame.ite (fun h6 => ?_) (fun h6 => ?_)
      · exact Frame.refl _ _
      · refine Frame.step ?_ (State.replayCompare_frame ..) rfl
        exact Frame.refl _ _
    clear_value v2
    have h7 : Fr getP2 0x3ffff1dffff9ebc a1 v3 := by
      unfold v3
      refine Fr.step ?_ (State.replayTake_frame ..) rfl
      assumption
    clear_value v3
    refine Fr.ite (fun h8 => ?_) (fun h8 => ?_)
    · refine Fr.pair2 ?_
      assumption
    · refine Fr.ite (fun h9 => ?_) (fun h9 => ?_)
      · refine Fr.pair2 ?_
        refine Frame.step ?_ (State.replayStop_frame ..) rfl
        assumption
      · split
        · rename_i z10 z11
          assumption
        · rename_i z12 z13 z14 z15
          refine Fr.pair2 ?_
          refine Frame.step ?_ (State.resvShow_frame ..) rfl
          refine Frame.step ?_ (State.deliverAll_frame ..) rfl
          refine Frame.step ?_ (State.replayTime_frame ..) rfl
          refine Fr.snd ?_
          assumption

theorem State.replayRest_frame (a1 : State) (a2 : Nat) (a3 : List LogRec) (a4 : Bool) :
    Frame 0x3ffff1dffff9ebc a1 (State.replayRest a1 a2 a3 a4) := by
  unfold State.replayRest
  extract_lets v1
  have h2 : Frame 0x3ffff1dffff9ebc a1 v1 := by
    unfold v1
    refine Frame.step ?_ (State.deliverAll_frame ..) rfl
    exact Frame.refl _ _
  clear_value v1
  refine Frame.ite (fun h3 => ?_) (fun h3 => ?_)
  · refine Frame.step ?_ (State.replayStop_frame ..) rfl
    assumption
  · assumption

end Sys2Proof.Machine
end

