-- ==== Sys2Proof/Laws/FrameTick.lean ====
section
/-!
SUPPORT. Frame laws of Machine/Tick.lean: which components each of its operations may change.
-/

namespace Sys2Proof.Machine

open Sys2Proof

theorem State.logGapMark_frame (a1 : State) :
    Frame 0x10000101000 a1 (State.logGapMark a1) := by
  unfold State.logGapMark
  refine Frame.ite (fun h1 => ?_) (fun h1 => ?_)
  · extract_lets v2 v3 v4
    have h5 : Frame 0x10000101000 a1 v4 := by
      unfold v4
      apply Frame.upd
      · exact Frame.refl _ _
      all_goals first | exact Or.inr rfl | exact Or.inl rfl | exact Or.inl (Nat.le_refl _) | rfl
    clear_value v4
    refine Frame.trans ?_ (State.event_frame rfl rfl rfl ..)
    refine Frame.step ?_ (State.logConfig_frame ..) rfl
    refine Frame.step ?_ (State.logEdge_frame ..) rfl
    refine Frame.step ?_ (State.slogNow_frame ..) rfl
    assumption
  · refine Frame.step ?_ (State.logEdge_frame ..) rfl
    exact Frame.refl _ _

theorem State.logTick_frame (a1 : State) :
    Frame 0x6030000109084 a1 (State.logTick a1) := by
  unfold State.logTick
  refine Frame.step ?_ (State.postsDone_frame ..) rfl
  refine Frame.ite (fun h1 => ?_) (fun h1 => ?_)
  · refine Frame.step ?_ (State.logGapMark_frame ..) rfl
    exact Frame.refl _ _
  · exact Frame.refl _ _

theorem State.nextTimes_frame (a1 : State) :
    Frame 0x10 a1 (State.nextTimes a1) := by
  unfold State.nextTimes
  extract_lets v1 v2 v3 v4
  apply Frame.upd
  · exact Frame.refl _ _
  all_goals first | exact Or.inr rfl | exact Or.inl rfl | exact Or.inl (Nat.le_refl _) | rfl

theorem State.launchAll_frame (a1 : State) (a2 : Bool) (a3 : Nat) :
    Frame 0x67300001096c4 a1 (State.launchAll a1 a2 a3) := by
  unfold State.launchAll
  extract_lets v1 v2 v3 v4 v5
  have h6 : Frame 0x67300001096c4 a1 v1 := by
    unfold v1
    refine Frame.foldl ?_ (fun u7 x8 h9 => ?_)
    · exact Frame.refl _ _
    · refine Frame.step ?_ (State.withdraw_frame ..) rfl
      assumption
  clear_value v1
  have h10 : Frame 0x67300001096c4 a1 v3 := by
    unfold v3
    apply Frame.upd
    · assumption
    all_goals first | exact Or.inr rfl | exact Or.inl rfl | exact Or.inl (Nat.le_refl _) | rfl
  clear_value v3
  have h11 : Frame 0x67300001096c4 a1 v4 := by
    unfold v4
    refine Frame.foldl ?_ (fun u12 x13 h14 => ?_)
    · assumption
    · refine Frame.step ?_ (State.launchAxis_frame ..) rfl
      assumption
  clear_value v4
  have h15 : Frame 0x67300001096c4 a1 v5 := by
    unfold v5
    refine Frame.foldl ?_ (fun u16 x17 h18 => ?_)
    · assumption
    · refine Frame.step ?_ (State.canLoad_frame ..) rfl
      assumption
  clear_value v5
  refine Frame.ite (fun h19 => ?_) (fun h19 => ?_)
  · assumption
  · refine Frame.step ?_ (State.digest_frame ..) rfl
    assumption

theorem State.edgeCompute_frame (a1 : State) :
    Frame 0x107bb0ded319e8c a1 (State.edgeCompute a1) := by
  unfold State.edgeCompute
  extract_lets v1
  have h2 : Frame 0x107bb0ded319e8c a1 v1 := by
    unfold v1
    refine Frame.foldl ?_ (fun u3 x4 h5 => ?_)
    · exact Frame.refl _ _
    · refine Frame.step ?_ (State.detPublish_frame ..) rfl
      assumption
  clear_value v1
  refine Frame.step ?_ (State.heartbeats_frame ..) rfl
  refine Frame.step ?_ (State.percFrame_frame ..) rfl
  refine Frame.step ?_ (State.actStarts_frame ..) rfl
  refine Frame.step ?_ (State.cycSwitch_frame ..) rfl
  assumption

theorem State.edgeWork_frame (a1 : Nat) (a2 : State) :
    Frame 0x3ffff1dffff9ffc a2 (State.edgeWork a1 a2) := by
  unfold State.edgeWork
  extract_lets v1 v2 v3 v4 v5 v6 v7 v8 v9 v10 v11
  have h12 : Frame 0x3ffff1dffff9ffc a2 v3 := by
    unfold v3
    refine Frame.step ?_ (State.commitDue_frame ..) rfl
    refine Frame.step ?_ (State.tlySync_frame ..) rfl
    refine Frame.step ?_ (State.replayGuard_frame ..) rfl
    exact Frame.refl _ _
  clear_value v3
  have h13 : Frame 0x3ffff1dffff9ffc a2 v5 := by
    unfold v5
    apply Frame.upd
    · assumption
    all_goals first | exact Or.inr rfl | exact Or.inl rfl | exact Or.inl (Nat.le_refl _) | rfl
  clear_value v5
  have h14 : Fr getP2 0x3ffff1dffff9ffc a2 v8 := by
    unfold v8
    refine Fr.step ?_ (State.replayEdge_frame ..) rfl
    assumption
  clear_value v8
  have h15 : Frame 0x3ffff1dffff9ffc a2 v10 := by
    unfold v10
    refine Frame.step ?_ (State.logTick_frame ..) rfl
    refine Frame.step ?_ (State.nextTimes_frame ..) rfl
    refine Fr.snd ?_
    assumption
  clear_value v10
  have h16 : Frame 0x3ffff1dffff9ffc a2 v11 := by
    unfold v11
    refine Frame.step ?_ (State.launchAll_frame ..) rfl
    assumption
  clear_value v11
  refine Frame.step ?_ (State.replayRest_frame ..) rfl
  refine Frame.step ?_ (State.tlyEdge_frame ..) rfl
  refine Frame.step ?_ (State.releaseGroups_frame ..) rfl
  refine Frame.step ?_ (State.edgeCompute_frame ..) rfl
  assumption

theorem execTickEdge_frame (a1 : Nat) (a2 : State) :
    Fr getN 0x3ffff1dffff9ffc a2 (execTickEdge a1 a2) := by
  unfold execTickEdge
  refine Fr.next ?_
  refine Frame.ite (fun h1 => ?_) (fun h1 => ?_)
  · exact Frame.refl _ _
  · refine Frame.trans ?_ (State.atT_frame rfl (fun u2 => ?_) ..)
    · exact Frame.refl _ _
    · refine Frame.step ?_ (State.edgeWork_frame ..) rfl
      exact Frame.refl _ _

end Sys2Proof.Machine
end

