-- ==== Sys2Proof/Laws/FrameExec.lean ====
section
/-!
SUPPORT. The frame of every command: which components it may change, as a mask of `Frame`.
-/

namespace Sys2Proof.Machine

open Sys2Proof

/-- The components that a command may change, by the bits of `Frame`. -/
def frameMask : Instr → Nat
  | .tickEdge .. => 0x3ffff1dffff9ffc
  | .controlComputation => 0x7160000108abc
  | .comparisonDeadline => 0x5350000109e34
  | .checkerComparison .. => 0x5300000108e04
  | .profileWatchdogExpiry => 0x5340000108e3c
  | .loopWatchdogExpiry => 0x5340000108e3c
  | .outputWatchdogExpiry .. => 0x5340000108e3c
  | .kernelKick .. => 0x5340000108e3c
  | .kernelWatchdogExpiry => 0x5340000108e3c
  | .activeDomainEvaluation => 0x40000100038
  | .primaryReturn => 0x40000100038
  | .holdoverExpiry => 0x5340000108e3c
  | .sync .. => 0x40000100030
  | .followUp .. => 0x40000100030
  | .announce .. => 0x40000100030
  | .syncReceiptTimeout .. => 0x40000100030
  | .announceReceiptTimeout .. => 0x40000100030
  | .pdelayReq .. => 0x4
  | .pdelayResp .. => 0x40
  | .pdelayRespFollowUp .. => 0x40000100040
  | .pdelayReqTransmit .. => 0x44
  | .ethTx .. => 0x64200001080c4
  | .timedFrameLaunch .. => 0x64600001080f4
  | .ethTxDone .. => 0x60200001080c4
  | .ethFrameReceived .. => 0x73d0900309e0c
  | .ethPortLinkDown .. => 0x400000100000
  | .ethPortLinkUp .. => 0x4400000102000
  | .canTx .. => 0x6220000108484
  | .canFrameEligible .. => 0x40000100430
  | .canTxComplete .. => 0x626080010848c
  | .canAttemptFailed .. => 0x6220000108484
  | .canFrameReceived .. => 0x622080010848c
  | .canFifoDrain .. => 0x637080010968c
  | .canProtocolError .. => 0x6220000108484
  | .canIntegrationDone .. => 0x200000100400
  | .busOffRecoveryDone .. => 0x200000100000
  | .recover .. => 0x200000100000
  | .safetyInputChange .. => 0x5350000109e04
  | .inputDiscrepancy .. => 0x5340000108e34
  | .ssoReadbackFault .. => 0x5300000108e0c
  | .ssoTestPulse .. => 0x1040000100834
  | .testPulseEnd .. => 0x1040000100834
  | .ingestWatchdogExpiry .. => 0x5340000108e34
  | .preprocessWatchdogExpiry .. => 0x5340100108e34
  | .perceptionWatchdogMiss => 0x5300000108e0c
  | .segmentWatchdogExpiry .. => 0x5340000108e34
  | .safetyReset .. => 0x6030000109884
  | .goldenLoad .. => 0x6030000109884
  | .sqTail .. => 0x4070000108180
  | .cqHead .. => 0x4070000108180
  | .ringEnable .. => 0x407000010a180
  | .ringDisable .. => 0x407000010a180
  | .descriptorFetch .. => 0x6070000108184
  | .msixSignal .. => 0x20000100084
  | .pcieLinkDown => 0x20000100000
  | .pcieLinkUp .. => 0x20000100000
  | .hotReset => 0x1061f1ffd77b7cc
  | .functionLevelReset => 0x1061f1ffd77b7cc
  | .nop .. => 0x6020000108084
  | .ringRole .. => 0x6020000108084
  | .rxPost .. => 0x80
  | .rxPostTimeout .. => 0x60600001080b4
  | .cfgBegin .. => 0x6030000108184
  | .cfgCommit .. => 0x3ffff0000108184
  | .cfgRollback .. => 0x6070000108184
  | .cfgCommitEdge .. => 0x3ffff0def119fbc
  | .cfgTimeout => 0x4050000108130
  | .registerWrite .. => 0x3ffff004010b380
  | .w1cClear .. => 0x3ffff0000101000
  | .wideLowWordRead .. => 0x200080010000b
  | .peekAddrWrite .. => 0x10000100000
  | .traceConfigWrite .. => 0x3ffff0000100200
  | .drvVersionWrite .. => 0x4000000108000
  | .dumpPageSelect .. => 0x4000000100000
  | .clearMarks => 0x4000000102000
  | .start => 0x2000000100000
  | .stop => 0x2000000100000
  | .clear => 0x2000000100000
  | .snap => 0x2000000100000
  | .enable .. => 0x6030000109284
  | .disable .. => 0x6130000109284
  | .release .. => 0x6130000109084
  | .clearFault .. => 0x6030000109284
  | .safeStopReset .. => 0x6030000109284
  | .segment .. => 0x6130000109284
  | .jobSegmentArrival .. => 0x6130000119284
  | .axisTable .. => 0x6030000109284
  | .traceRead .. => 0x6020000108084
  | .logPost .. => 0x6020000109084
  | .tallyRead .. => 0x602080010808c
  | .sensorPacket .. => 0x73d0900309e0c
  | .sampleTimeout .. => 0x73c0900308e3c
  | .sampleProcessStart => 0x60a090010808c
  | .tensorComplete .. => 0x7380900308e0c
  | .decodeError .. => 0x7380900308e0c
  | .hostDecodeTimeout .. => 0x73c0900308e3c
  | .offloadPost .. => 0x60a090010808c
  | .decoded .. => 0x73a0900308e8c
  | .pkgRetain .. => 0x6020008708084
  | .pkgRelease .. => 0x106020038708084
  | .submit .. => 0x1060b09f8f1908c
  | .stepCmd .. => 0x1060b09f8f1908c
  | .jobRelease .. => 0x1061b09ed11928c
  | .cyclicLoad .. => 0x6030000168084
  | .scrub .. => 0x6020201108084
  | .scrubDone .. => 0x10602020110808c
  | .classCActivationComplete .. => 0x53b0100119e04
  | .classCSlotEnd .. => 0x7330000119e84
  | .classSRelease .. => 0x1069b09ed31928c
  | .weightStagingComplete .. => 0x1069b09ed31928c
  | .classSDeadline .. => 0x1061f09ed1192bc
  | .classSJobComplete .. => 0x1061b09ed11928c
  | .tileDispatch .. => 0x10201080d310008
  | .tileEnd .. => 0x107bb1dff399e8c
  | .stepSettleRound .. => 0x1020008d031000c
  | .regionZeroed .. => 0x8200000
  | .dmaTransferIssue .. => 0x107b91dff399e0c
  | .dmaUncorrectable .. => 0x100000002300008
  | .coreFault .. => 0x107391dff399e0c
  | .bankConflict .. => 0x107391dff399e0c
  | .eccUncorrectable .. => 0x107391dff399e0c
  | .kvWalkFault .. => 0x107391dff399e0c
  | .selftestDone .. => 0x100000001100000
  | .lossDiesReleased => 0x603180838908c
  | .creditReq .. => 0x1028008cc10000c
  | .creditGrant .. => 0x1028008c610000c
  | .creditRefuse .. => 0x1028008c210000c
  | .creditRelease .. => 0x1028008cc10000c
  | .write .. => 0x1028008cc30000c
  | .writeAck .. => 0x28008c211000c
  | .writeNak .. => 0x1028008c210000c
  | .berthCloseExpiry .. => 0x10004000c100030
  | .linkTrainingRetry .. => 0x840040100030
  | .linkTrained .. => 0x684084010203c
  | .linkTrainingOverrun .. => 0x840040100034
  | .linkCrcFailure .. => 0x800040100004
  | .linkNak .. => 0x2800040100004
  | .linkAck .. => 0x200084010000c
  | .flowCreditReturn .. => 0x200084010000c
  | .ackTimeout .. => 0x840040100030
  | .retrain .. => 0x800040100000
  | .retrainingDone .. => 0x280084010000c
  | .retrainTimeout .. => 0x1069f09ef1192bc
  | .linkPeerLost .. => 0x1069b09ef11928c
  | .collPartial .. => 0x1069b09ed31928c
  | .collEvent .. => 0x1069b09ed31928c
  | .leadMsg .. => 0x1069b09fdf1928c
  | .heartbeat .. => 0x28008c010000c
  | .leadHeartbeatTimeout => 0x1069b09ed11928c
  | .memberHeartbeatTimeout .. => 0x1061b09ed11928c
  | .tallyCounterSaturation .. => 0x2000800100008
  | .status => 0x20602000010808c
  | .logRead .. => 0x206020000108084
  | .identity => 0x206020000108084
  | .attest .. => 0x206020000108084
  | .setState .. => 0x206020000108084
  | .packageReset => 0x3ffff1fffffffff
  | .captureArm .. => 0x206020000108084
  | .captureRelease => 0x206020000108084
  | .updateBegin .. => 0x20602000010a084
  | .updateWrite .. => 0x20602000010a084
  | .updateVerify => 0x206020000108084
  | .updateActivate => 0x3ffff1fffffffff
  | .updateConfirm => 0x20602000010c084
  | .updateAbort => 0x20602000010a084
  | .makerEnable .. => 0x206020000108084
  | .makerChallenge => 0x20602000010808c
  | .makerResponse .. => 0x207320000108e84
  | .makerEnd => 0x206020000108084
  | .makerOp .. => 0x206020000108084
  | .makerSessionExpiry => 0x4040000108030
  | .thermalSample .. => 0x600080010800c
  | .thermalTrip .. => 0x3ffff1fffffffff
  | .voltageTrip .. => 0x3ffff1fffffffff
  | .marginMeasurement .. => 0x400000010a004
  | .logFlush => 0xa000
  | .pmbAlert .. => 0x4000000108000
  | .powerOn => 0x3ffff3fffffffff
  | .resetInput .. => 0x3ffff1fffffffff
  | .resetRelease .. => 0x3ffff1fffffffff
  | .pilotCoreTrap .. => 0x4000000108008
  | .harbourmasterTrap .. => 0x4000000108008

theorem exec_frame (c : Instr) (s : State) : Fr getN (frameMask c) s (exec c s) := by
  cases c
  case tickEdge => exact execTickEdge_frame ..
  case controlComputation => exact execControlComputation_frame ..
  case comparisonDeadline => exact execComparisonDeadline_frame ..
  case checkerComparison => exact execCheckerComparison_frame ..
  case profileWatchdogExpiry => exact execProfileWatchdogExpiry_frame ..
  case loopWatchdogExpiry => exact execLoopWatchdogExpiry_frame ..
  case outputWatchdogExpiry => exact execOutputWatchdogExpiry_frame ..
  case kernelKick => exact execKernelKick_frame ..
  case kernelWatchdogExpiry => exact execKernelWatchdogExpiry_frame ..
  case activeDomainEvaluation => exact execActiveDomainEvaluation_frame ..
  case primaryReturn => exact execPrimaryReturn_frame ..
  case holdoverExpiry => exact execHoldoverExpiry_frame ..
  case sync => exact execSync_frame ..
  case followUp => exact execFollowUp_frame ..
  case announce => exact execAnnounce_frame ..
  case syncReceiptTimeout => exact execSyncReceiptTimeout_frame ..
  case announceReceiptTimeout => exact execAnnounceReceiptTimeout_frame ..
  case pdelayReq => exact execPdelayReq_frame ..
  case pdelayResp => exact execPdelayResp_frame ..
  case pdelayRespFollowUp => exact execPdelayRespFollowUp_frame ..
  case pdelayReqTransmit => exact execPdelayReqTransmit_frame ..
  case ethTx => exact execEthTx_frame ..
  case timedFrameLaunch => exact execTimedFrameLaunch_frame ..
  case ethTxDone => exact execEthTxDone_frame ..
  case ethFrameReceived => exact execEthFrameReceived_frame ..
  case ethPortLinkDown => exact execEthPortLinkDown_frame ..
  case ethPortLinkUp => exact execEthPortLinkUp_frame ..
  case canTx => exact execCanTx_frame ..
  case canFrameEligible => exact execCanFrameEligible_frame ..
  case canTxComplete => exact execCanTxComplete_frame ..
  case canAttemptFailed => exact execCanAttemptFailed_frame ..
  case canFrameReceived => exact execCanFrameReceived_frame ..
  case canFifoDrain => exact execCanFifoDrain_frame ..
  case canProtocolError => exact execCanProtocolError_frame ..
  case canIntegrationDone => exact execCanIntegrationDone_frame ..
  case busOffRecoveryDone => exact execBusOffRecoveryDone_frame ..
  case recover => exact execRecover_frame ..
  case safetyInputChange => exact execSafetyInputChange_frame ..
  case inputDiscrepancy => exact execInputDiscrepancy_frame ..
  case ssoReadbackFault => exact execSsoReadbackFault_frame ..
  case ssoTestPulse => exact execSsoTestPulse_frame ..
  case testPulseEnd => exact execTestPulseEnd_frame ..
  case ingestWatchdogExpiry => exact execIngestWatchdogExpiry_frame ..
  case preprocessWatchdogExpiry => exact execPreprocessWatchdogExpiry_frame ..
  case perceptionWatchdogMiss => exact execPerceptionWatchdogMiss_frame ..
  case segmentWatchdogExpiry => exact execSegmentWatchdogExpiry_frame ..
  case safetyReset => exact execSafetyReset_frame ..
  case goldenLoad => exact execGoldenLoad_frame ..
  case sqTail => exact execSqTail_frame ..
  case cqHead => exact execCqHead_frame ..
  case ringEnable => exact execRingEnable_frame ..
  case ringDisable => exact execRingDisable_frame ..
  case descriptorFetch => exact execDescriptorFetch_frame ..
  case msixSignal => exact execMsixSignal_frame ..
  case pcieLinkDown => exact execPcieLinkDown_frame ..
  case pcieLinkUp => exact execPcieLinkUp_frame ..
  case hotReset => exact execHotReset_frame ..
  case functionLevelReset => exact execFunctionLevelReset_frame ..
  case nop => exact execNop_frame ..
  case ringRole => exact execRingRole_frame ..
  case rxPost => exact execRxPost_frame ..
  case rxPostTimeout => exact execRxPostTimeout_frame ..
  case cfgBegin => exact execCfgBegin_frame ..
  case cfgCommit => exact execCfgCommit_frame ..
  case cfgRollback => exact execCfgRollback_frame ..
  case cfgCommitEdge => exact execCfgCommitEdge_frame ..
  case cfgTimeout => exact execCfgTimeout_frame ..
  case registerWrite => exact execRegisterWrite_frame ..
  case w1cClear => exact execW1cClear_frame ..
  case wideLowWordRead => exact execWideLowWordRead_frame ..
  case peekAddrWrite => exact execPeekAddrWrite_frame ..
  case traceConfigWrite => exact execTraceConfigWrite_frame ..
  case drvVersionWrite => exact execDrvVersionWrite_frame ..
  case dumpPageSelect => exact execDumpPageSelect_frame ..
  case clearMarks => exact execClearMarks_frame ..
  case start => exact execStart_frame ..
  case stop => exact execStop_frame ..
  case clear => exact execClear_frame ..
  case snap => exact execSnap_frame ..
  case enable => exact execEnable_frame ..
  case disable => exact execDisable_frame ..
  case release => exact execRelease_frame ..
  case clearFault => exact execClearFault_frame ..
  case safeStopReset => exact execSafeStopReset_frame ..
  case segment => exact execSegment_frame ..
  case jobSegmentArrival => exact execJobSegmentArrival_frame ..
  case axisTable => exact execAxisTable_frame ..
  case traceRead => exact execTraceRead_frame ..
  case logPost => exact execLogPost_frame ..
  case tallyRead => exact execTallyRead_frame ..
  case sensorPacket => exact execSensorPacket_frame ..
  case sampleTimeout => exact execSampleTimeout_frame ..
  case sampleProcessStart => exact execSampleProcessStart_frame ..
  case tensorComplete => exact execTensorComplete_frame ..
  case decodeError => exact execDecodeError_frame ..
  case hostDecodeTimeout => exact execHostDecodeTimeout_frame ..
  case offloadPost => exact execOffloadPost_frame ..
  case decoded => exact execDecoded_frame ..
  case pkgRetain => exact execPkgRetain_frame ..
  case pkgRelease => exact execPkgRelease_frame ..
  case submit => exact execSubmit_frame ..
  case stepCmd => exact execStep_frame ..
  case jobRelease => exact execJobRelease_frame ..
  case cyclicLoad => exact execCyclicLoad_frame ..
  case scrub => exact execScrub_frame ..
  case scrubDone => exact execScrubDone_frame ..
  case classCActivationComplete => exact execClassCActivationComplete_frame ..
  case classCSlotEnd => exact execClassCSlotEnd_frame ..
  case classSRelease => exact execClassSRelease_frame ..
  case weightStagingComplete => exact execWeightStagingComplete_frame ..
  case classSDeadline => exact execClassSDeadline_frame ..
  case classSJobComplete => exact execClassSJobComplete_frame ..
  case tileDispatch => exact execTileDispatch_frame ..
  case tileEnd => exact execTileEnd_frame ..
  case stepSettleRound => exact execStepSettleRound_frame ..
  case regionZeroed => exact execRegionZeroed_frame ..
  case dmaTransferIssue => exact execDmaTransferIssue_frame ..
  case dmaUncorrectable => exact execDmaUncorrectable_frame ..
  case coreFault => exact execCoreFault_frame ..
  case bankConflict => exact execBankConflict_frame ..
  case eccUncorrectable => exact execEccUncorrectable_frame ..
  case kvWalkFault => exact execKvWalkFault_frame ..
  case selftestDone => exact execSelftestDone_frame ..
  case lossDiesReleased => exact execLossDiesReleased_frame ..
  case creditReq => exact execCreditReq_frame ..
  case creditGrant => exact execCreditGrant_frame ..
  case creditRefuse => exact execCreditRefuse_frame ..
  case creditRelease => exact execCreditRelease_frame ..
  case write => exact execWrite_frame ..
  case writeAck => exact execWriteAck_frame ..
  case writeNak => exact execWriteNak_frame ..
  case berthCloseExpiry => exact execBerthCloseExpiry_frame ..
  case linkTrainingRetry => exact execLinkTrainingRetry_frame ..
  case linkTrained => exact execLinkTrained_frame ..
  case linkTrainingOverrun => exact execLinkTrainingOverrun_frame ..
  case linkCrcFailure => exact execLinkCrcFailure_frame _ 0 ..
  case linkNak => exact execLinkNak_frame ..
  case linkAck => exact execLinkAck_frame ..
  case flowCreditReturn => exact execFlowCreditReturn_frame ..
  case ackTimeout => exact execAckTimeout_frame ..
  case retrain => exact execRetrain_frame ..
  case retrainingDone => exact execRetrainingDone_frame ..
  case retrainTimeout => exact execRetrainTimeout_frame ..
  case linkPeerLost => exact execLinkPeerLost_frame ..
  case collPartial => exact execCollPartial_frame ..
  case collEvent => exact execCollEvent_frame ..
  case leadMsg => exact execLeadMsg_frame ..
  case heartbeat => exact execHeartbeat_frame ..
  case leadHeartbeatTimeout => exact execLeadHeartbeatTimeout_frame ..
  case memberHeartbeatTimeout => exact execMemberHeartbeatTimeout_frame ..
  case tallyCounterSaturation => exact execTallyCounterSaturation_frame ..
  case status => exact execStatus_frame ..
  case logRead => exact execLogRead_frame ..
  case identity => exact execIdentity_frame ..
  case attest => exact execAttest_frame ..
  case setState => exact execSetState_frame ..
  case packageReset => exact execPackageReset_frame ..
  case captureArm => exact execCaptureArm_frame ..
  case captureRelease => exact execCaptureRelease_frame ..
  case updateBegin => exact execUpdateBegin_frame ..
  case updateWrite => exact execUpdateWrite_frame ..
  case updateVerify => exact execUpdateVerify_frame ..
  case updateActivate => exact execUpdateActivate_frame ..
  case updateConfirm => exact execUpdateConfirm_frame ..
  case updateAbort => exact execUpdateAbort_frame ..
  case makerEnable => exact execMakerEnable_frame ..
  case makerChallenge => exact execMakerChallenge_frame ..
  case makerResponse => exact execMakerResponse_frame ..
  case makerEnd => exact execMakerEnd_frame ..
  case makerOp => exact execMakerOp_frame ..
  case makerSessionExpiry => exact execMakerSessionExpiry_frame ..
  case thermalSample => exact execThermalSample_frame ..
  case thermalTrip => exact execThermalTrip_frame ..
  case voltageTrip => exact execVoltageTrip_frame ..
  case marginMeasurement => exact execMarginMeasurement_frame ..
  case logFlush => exact execLogFlush_frame ..
  case pmbAlert => exact execPmbAlert_frame ..
  case powerOn => exact execPowerOn_frame ..
  case resetInput => exact execResetInput_frame ..
  case resetRelease => exact execResetRelease_frame ..
  case pilotCoreTrap => exact execPilotCoreTrap_frame ..
  case harbourmasterTrap => exact execHarbourmasterTrap_frame ..

/-- A command that answers a next state keeps its frame. -/
theorem exec_keeps {c : Instr} {s t : State} (h : exec c s = .next t) : Frame (frameMask c) s t :=
  (exec_frame c s).of t (by rw [h]; rfl)

end Sys2Proof.Machine
end

