-- ==== Sys2Proof/Laws/Reach.lean ====
section
/-!
SUPPORT. What reaching a later time does: the clock advances, domain offsets follow slewing, and of the registers only
the slewing bit of TIM_SEL_STAT can change.
-/

namespace Sys2Proof.Machine

open Sys2Proof

/-- `u` is `s` at a later working time `t`. -/
structure Later (s u : State) (t : Nat) : Prop where
  frame : Frame 0x40000100030 s u
  t : u.clk.t = t
  live : u.clk.live = s.clk.live
  tick : u.clk.tick = s.clk.tick
  lastEdge : u.clk.lastEdge = s.clk.lastEdge
  nextTick : u.clk.nextTick = s.clk.nextTick
  nextEdge : u.clk.nextEdge = s.clk.nextEdge
  period : u.clk.period = s.clk.period
  win : u.clk.win = s.clk.win
  lastCut : u.clk.lastCut = s.clk.lastCut
  prevComp : u.clk.prevComp = s.clk.prevComp
  holdSince : u.clk.holdSince = s.clk.holdSince
  goodSince : u.clk.goodSince = s.clk.goodSince
  freq : u.clk.freq = s.clk.freq
  rd : ∀ a, a ≠ timA 0x88 → u.rd a = s.rd a
  bit : ∀ i, i ≠ 3 → u.flag (timA 0x88) i = s.flag (timA 0x88) i

theorem Later.refl (s : State) : Later s s s.clk.t := by
  constructor <;> intros <;> first | rfl | exact Frame.refl _ _

/-- A later state whose clock alone moves on. -/
theorem Later.clock {s u v : State} {t due : Nat} (h : Later s u t) (hf : Frame 0x40000100030 s v) (hr : v.regs = u.regs)
    (hc : ∃ a, v.clk = { u.clk with t := due, freqAcc := a }) : Later s v due := by
  obtain ⟨a, hc⟩ := hc
  exact {
    frame := hf
    t := by rw [hc]
    live := by rw [hc]; exact h.live
    tick := by rw [hc]; exact h.tick
    lastEdge := by rw [hc]; exact h.lastEdge
    nextTick := by rw [hc]; exact h.nextTick
    nextEdge := by rw [hc]; exact h.nextEdge
    period := by rw [hc]; exact h.period
    win := by rw [hc]; exact h.win
    lastCut := by rw [hc]; exact h.lastCut
    prevComp := by rw [hc]; exact h.prevComp
    holdSince := by rw [hc]; exact h.holdSince
    goodSince := by rw [hc]; exact h.goodSince
    freq := by rw [hc]; exact h.freq
    rd := fun x hx => by rw [State.rd_congr hr]; exact h.rd x hx
    bit := fun i hi => by rw [← h.bit i hi]; unfold State.flag; rw [State.rd_congr hr] }

theorem State.eachDom_regs (s : State) (f : Dom → Dom) : (s.eachDom f).regs = s.regs := by
  unfold State.eachDom
  extract_lets one
  have h1 : ∀ u d, (one u d).regs = u.regs := fun u d => by unfold one; split <;> rfl
  rw [h1, h1]

theorem State.hold_clk (s : State) (due : Nat) : (s.hold due).clk = { s.clk with
    t := min s.clk.t due, freqAcc := s.clk.freqAcc + (s.clk.t - due) * 1000000000 } := by
  unfold State.hold
  dsimp only
  rw [State.eachDom_clk]

/-- Time passes. -/
theorem State.pass_later (s : State) (n : Nat) : Later s (s.pass n) (s.clk.t + s.clk.adv n).toNat := by
  have hf := State.pass_frame s n
  unfold State.pass at hf ⊢
  extract_lets c a k left v w at hf ⊢
  have hr : w.regs = s.regs := State.eachDom_regs ..
  have hc : ∃ b d e g, w.clk = { s.clk with
      t := (s.clk.t + s.clk.adv n).toNat, ref := b, slew := d, slewAcc := e, freqAcc := g } := ⟨_, _, _, _, rfl⟩
  clear_value w
  obtain ⟨b, d, e, g, hc⟩ := hc
  have clk : ∀ x : State, x.clk = w.clk → Frame 0x40000100030 s x →
      (∀ a, a ≠ timA 0x88 → x.rd a = s.rd a) → (∀ i, i ≠ 3 → x.flag (timA 0x88) i = s.flag (timA 0x88) i) →
      Later s x (s.clk.t + s.clk.adv n).toNat := by
    intro x hx fx rx bx
    constructor
    case frame => exact fx
    case rd => exact rx
    case bit => exact bx
    all_goals rw [hx, hc]
  split
  · rename_i hl
    rw [if_pos hl] at hf
    refine clk _ rfl hf (fun a ha => ?_) (fun i hi => ?_)
    · rw [State.rd_put_ne _ _ _ _ (Ne.symm ha), State.rd_congr hr]
    · unfold State.flag
      rw [State.rd_put_self, testBit_putBits (Nat.le_refl 3) (by decide), if_neg (by omega), State.rd_congr hr]
  · rename_i hl
    rw [if_neg hl] at hf
    refine clk _ rfl hf (fun a _ => State.rd_congr hr a) (fun i _ => ?_)
    unfold State.flag
    rw [State.rd_congr hr]

/-- The time `due` is reached where nothing stands before it. -/
theorem State.reach_later {s : State} {due : Nat} (h : s.dueBy due) :
    ∃ u, s.reach due = some u ∧ Later s u (max s.clk.t due) := by
  by_cases hd : due ≤ s.clk.t
  · refine ⟨s, by unfold State.reach; rw [if_pos hd], ?_⟩
    rw [Nat.max_eq_left hd]
    exact Later.refl s
  · have h2 : (!s.clk.live || decide (due ≤ s.clk.nextEdge)) = true := by
      rcases h with h | h | h
      · exact absurd h hd
      · simp [h]
      · simp [h]
    rw [Nat.max_eq_right (Nat.le_of_not_le hd)]
    have hr : ∃ u, s.reach due = some u := by
      unfold State.reach
      rw [if_neg hd, if_pos h2]
      exact ⟨_, rfl⟩
    obtain ⟨u, hu⟩ := hr
    refine ⟨u, hu, ?_⟩
    have hf := (State.reach_frame s due).of u hu
    unfold State.reach at hu
    rw [if_neg hd, if_pos h2] at hu
    cases hu
    refine (State.pass_later s (s.clk.refFor (due - s.clk.t))).clock hf ?_ 
      ⟨((s.pass (s.clk.refFor (due - s.clk.t))).hold due).clk.freqAcc, ?_⟩
    · exact State.eachDom_regs ..
    · rw [State.hold_clk]

/-- The system reference time `due` is reached where no edge passes first. -/
theorem State.reachRef_later {s : State} {due : Nat} (h : s.dueByRef due) :
    ∃ u, s.reachRef due = some u ∧ Later s u (s.timeAt due) := by
  unfold State.reachRef State.timeAt
  by_cases hd : due ≤ s.clk.ref
  · exact ⟨s, if_pos hd, by rw [if_pos hd]; exact Later.refl s⟩
  · have hl := State.pass_later s (due - s.clk.ref)
    refine ⟨s.pass (due - s.clk.ref), ?_, by rw [if_neg hd]; exact hl⟩
    rw [if_neg hd]
    dsimp only
    refine if_pos ?_
    rw [hl.t]
    rcases h with h | h | h
    · exact absurd h hd
    · simp [h]
    · unfold State.timeAt at h
      rw [if_neg hd] at h
      simp [h]

/-- What reaching a time can change. -/
theorem State.reach_fr {s u : State} {due : Nat} (h : s.reach due = some u) : Frame 0x40000100030 s u :=
  (State.reach_frame s due).of u h

theorem State.reachRef_fr {s u : State} {due : Nat} (h : s.reachRef due = some u) : Frame 0x40000100030 s u :=
  (State.reachRef_frame s due).of u h

/-- An update of the safety bookkeeping alone. -/
theorem Frame.saf_upd (s : State) (x : Saf) : Frame 0x800 s { s with saf := x } := by
  apply Frame.upd (Frame.refl _ _)
  all_goals first | exact Or.inr rfl | exact Or.inl rfl | exact Or.inl (Nat.le_refl _) | rfl

theorem State.atT_some {s u : State} {due : Nat} (h : s.reach due = some u) (f : State → State) : s.atT due f = f u := by
  unfold State.atT; rw [h]

theorem State.atRef_some {s u : State} {due : Nat} (h : s.reachRef due = some u) (f : State → State) :
    s.atRef due f = f u := by
  unfold State.atRef; rw [h]

theorem State.atT_later {s : State} {due : Nat} (h : s.dueBy due) (f : State → State) :
    ∃ u, s.atT due f = f u ∧ Later s u (max s.clk.t due) := by
  obtain ⟨u, hu, hl⟩ := State.reach_later h
  exact ⟨u, by unfold State.atT; rw [hu], hl⟩

theorem State.atRef_later {s : State} {due : Nat} (h : s.dueByRef due) (f : State → State) :
    ∃ u, s.atRef due f = f u ∧ Later s u (s.timeAt due) := by
  obtain ⟨u, hu, hl⟩ := State.reachRef_later h
  exact ⟨u, State.atRef_some hu f, hl⟩

theorem Later.fld {s u : State} {t : Nat} (h : Later s u t) {a : Nat} (ha : a ≠ timA 0x88) (hi lo : Nat) :
    u.fld a hi lo = s.fld a hi lo := by unfold State.fld; rw [h.rd a ha]

theorem Later.flag {s u : State} {t : Nat} (h : Later s u t) {a : Nat} (ha : a ≠ timA 0x88) (i : Nat) :
    u.flag a i = s.flag a i := by unfold State.flag; rw [h.rd a ha]

end Sys2Proof.Machine
end

