-- ==== Sys2Proof/Laws/Stops.lean ====
section
/-!
SUPPORT. What stopping a group and stopping the package leave in SAF_STAT and in the axes (R300, R301, R303).
-/

namespace Sys2Proof.Machine

open Sys2Proof

/-- A property that one element's step gives and no other step takes away holds after the fold. -/
theorem foldl_each {α : Type} {f : State → α → State} {p : State → α → Prop} {q : State → Prop} {l : List α} {s : State}
    (hq : q s) (keep : ∀ s, ∀ x ∈ l, q s → q (f s x)) (gives : ∀ s, ∀ x ∈ l, q s → p (f s x) x)
    (holds : ∀ s, ∀ x ∈ l, ∀ y ∈ l, q s → p s y → p (f s x) y) : ∀ x ∈ l, p (l.foldl f s) x := by
  have main : ∀ (m : List α) (s : State), (∀ x ∈ m, x ∈ l) → q s →
      (∀ y ∈ l, p s y → p (m.foldl f s) y) ∧ ∀ x ∈ m, p (m.foldl f s) x := by
    intro m
    induction m with
    | nil => intro s _ _; exact ⟨fun y _ h => h, fun x hx => by cases hx⟩
    | cons a m ih =>
      intro s hm hs
      have ha : a ∈ l := hm a (by simp)
      have := ih (f s a) (fun x hx => hm x (by simp [hx])) (keep s a ha hs)
      refine ⟨fun y hy h => this.1 y hy (holds s a ha y hy hs h), fun x hx => ?_⟩
      rcases List.mem_cons.mp hx with rfl | hx
      · exact this.1 x ha (gives s x ha hs)
      · exact this.2 x hx
  exact (main l s (fun x hx => hx) hq).2

theorem foldl_keep {α : Type} {f : State → α → State} {q : State → Prop} {l : List α} {s : State}
    (hq : q s) (keep : ∀ s, ∀ x ∈ l, q s → q (f s x)) : q (l.foldl f s) := by
  induction l generalizing s with
  | nil => exact hq
  | cons x l ih => exact ih (keep s x (by simp) hq) (fun s y hy => keep s y (by simp [hy]))

theorem blk_safA (o : Nat) (h : o < 0x100000) : blk (safA o) = 8 := by
  unfold blk safA; rw [if_pos (by omega)]; omega

theorem State.stopAxis_saf (s : State) (a o : Nat) (h : o < 0x100000) : (s.stopAxis a).rd (safA o) = s.rd (safA o) :=
  (State.stopAxis_frame ..).blk _ (by rw [blk_safA o h]; rfl)

theorem State.canTrigger_saf (s : State) (c o : Nat) (h : o < 0x100000) :
    (s.canTrigger c).rd (safA o) = s.rd (safA o) :=
  (State.canTrigger_frame ..).blk _ (by rw [blk_safA o h]; rfl)

theorem State.rd_saf (s : State) (x : Saf) (a : Nat) : ({ s with saf := x } : State).rd a = s.rd a := rfl

theorem ssoA_ne_stat (g o : Nat) : ssoA g o ≠ safA 0 := by unfold ssoA safA; omega

theorem State.ssoDrive_stat (s : State) (g : Nat) (r : Bool) : (s.ssoDrive g r).rd (safA 0) = s.rd (safA 0) := by
  unfold State.ssoDrive
  extract_lets a b p
  rw [State.emit_rd]
  have : ∀ v : State, v.regs = b.regs → v.rd (safA 0) = s.rd (safA 0) := by
    intro v hv
    rw [State.rd_congr hv]
    unfold b a
    rw [State.rd_put_ne _ _ _ _ (ssoA_ne_stat _ _), State.rd_put_ne _ _ _ _ (ssoA_ne_stat _ _)]
  exact this _ rfl

theorem State.ssoSet_stat (s : State) (g : Nat) : (s.ssoSet g).rd (safA 0) = s.rd (safA 0) := by
  unfold State.ssoSet
  split
  · rfl
  · exact State.ssoDrive_stat ..

/-- SAF_STAT after group `g` stops. -/
theorem State.stopGroup_stat (s : State) (g : Nat) : (s.stopGroup g).rd (safA 0) =
    if s.stopped.testBit g then s.rd (safA 0) else putBits (s.rd (safA 0)) 27 24 (setBitN s.stopped g) := by
  have h1 : (s.count (safA 0x424)).rd (safA 0) = s.rd (safA 0) := State.rd_count_ne _ (by unfold safA; omega)
  have e : ∀ u : State, u.rd (safA 0) = s.rd (safA 0) → u.stopped = s.stopped := by
    intro u hu; unfold State.stopped State.fld; rw [hu]
  unfold State.stopGroup
  extract_lets a sa b c d m p
  have ha : b.rd (safA 0) = s.rd (safA 0) := h1
  rw [e b ha]
  split
  · exact ha
  · apply foldl_keep (q := fun u => u.rd (safA 0) = putBits (s.rd (safA 0)) 27 24 (setBitN s.stopped g))
    · apply foldl_keep (q := fun u => u.rd (safA 0) = putBits (s.rd (safA 0)) 27 24 (setBitN s.stopped g))
      · unfold d
        rw [State.ssoSet_stat]
        unfold c
        rw [State.rd_put_self, e b ha, ha]
      · intro u x _ hu; rw [State.canTrigger_saf _ _ _ (by decide), hu]
    · intro u x _ hu; rw [State.stopAxis_saf _ _ _ (by decide), hu]

theorem testBit_setBitN (n i j : Nat) : (setBitN n i).testBit j = (n.testBit j || decide (i = j)) := by
  simp only [setBitN, Nat.testBit_or, Nat.testBit_shiftLeft]
  congr 1
  by_cases h : i = j
  · subst h; simp
  · simp only [h, decide_false]
    by_cases g : i ≤ j
    · have : Nat.testBit (2 ^ 0) (j - i) = decide (0 = j - i) := Nat.testBit_two_pow
      simp only [Nat.pow_zero] at this
      simp [this]
      omega
    · simp [g]

/-- SAF_STAT.STOPPED after group `g` stops. -/
theorem State.stopGroup_stopped (s : State) {g : Nat} (hg : g < 4) :
    (s.stopGroup g).stopped = setBitN s.stopped g := by
  have hb : s.stopped < 16 := by unfold State.stopped State.fld; exact bits_lt _ _ _
  show bits ((s.stopGroup g).rd (safA 0)) 27 24 = _
  rw [State.stopGroup_stat]
  split
  · rename_i h
    show s.stopped = _
    apply Nat.eq_of_testBit_eq
    intro j
    rw [testBit_setBitN]
    by_cases e : g = j
    · subst e; simp [h]
    · simp [e]
  · rw [bits_putBits (by decide) (by decide)]
    apply Nat.mod_eq_of_lt
    show setBitN s.stopped g < 16
    have : setBitN s.stopped g < 2 ^ 4 := by
      unfold setBitN
      refine Nat.or_lt_two_pow hb ?_
      rw [Nat.one_shiftLeft]
      exact Nat.pow_lt_pow_right (by decide) hg
    exact this

/-- The other bits of SAF_STAT stay. -/
theorem State.stopGroup_bit (s : State) (g : Nat) {i : Nat} (hi : i < 24) :
    (s.stopGroup g).flag (safA 0) i = s.flag (safA 0) i := by
  unfold State.flag
  rw [State.stopGroup_stat]
  split
  · rfl
  · rw [testBit_putBits (by decide) (by decide), if_neg (by omega)]

theorem State.stopGroups_bit (s : State) (m : Nat) {i : Nat} (hi : i < 24) :
    (s.stopGroups m).flag (safA 0) i = s.flag (safA 0) i := by
  unfold State.stopGroups
  exact foldl_keep (q := fun u => u.flag (safA 0) i = s.flag (safA 0) i) rfl
    (fun u g _ hu => (u.stopGroup_bit g hi).trans hu)

/-- Every group that the mask names stops, and no other group starts. -/
theorem State.stopGroups_stopped (s : State) (m : Nat) {g : Nat} (hg : g < 4) (h : m.testBit g || s.stopped.testBit g) :
    (s.stopGroups m).stopped.testBit g = true := by
  have up : ∀ (l : List Nat), (∀ x ∈ l, x < 4) → ∀ u : State, (g ∈ l ∨ u.stopped.testBit g = true) →
      (l.foldl State.stopGroup u).stopped.testBit g = true := by
    intro l
    induction l with
    | nil => intro _ u h; exact h.resolve_left (by simp)
    | cons x l ih =>
      intro hl u h
      apply ih (fun y hy => hl y (by simp [hy]))
      rw [State.stopGroup_stopped _ (hl x (by simp)), testBit_setBitN]
      rcases h with h | h
      · rcases List.mem_cons.mp h with rfl | h
        · right; simp
        · left; exact h
      · right; simp [h]
  unfold State.stopGroups
  apply up
  · intro x hx; simpa using (List.mem_filter.mp hx).1
  · rcases (Bool.or_eq_true _ _).mp h with h | h
    · left; simp [hg, h]
    · right; exact h

/-- The owner register of an axis lies apart from its state. -/
theorem State.stopAxis_stat (s : State) (a b : Nat) (ha : a < 64) (hb : b < 64) :
    (s.stopAxis a).rd (ctlA b 0x100) = s.rd (ctlA b 0x100) := by
  unfold State.stopAxis
  split
  · exact (State.rd_wr_ne _ _ (by unfold ctlA; omega)).trans rfl
  · rfl

theorem State.stopAxis_owns (s : State) (a : Nat) (h : s.axOn a = true) : (s.stopAxis a).SafetyOwns a := by
  unfold State.stopAxis
  rw [if_pos h]
  refine ⟨by simp, ?_⟩
  unfold State.ax State.wr State.setAx
  simp

theorem State.stopAxis_owns_ne (s : State) {a b : Nat} (ha : a < 64) (hb : b < 64) (h : s.SafetyOwns b) :
    (s.stopAxis a).SafetyOwns b := by
  by_cases e : a = b
  · subst e
    unfold State.stopAxis
    split
    · refine ⟨by simp, ?_⟩
      unfold State.ax State.wr State.setAx
      simp
    · exact h
  · unfold State.stopAxis
    split
    · extract_lets x t
      refine ⟨?_, ?_⟩
      · rw [State.rd_wr_ne _ _ (by unfold ctlA; omega)]
        exact h.level
      · have e2 : ∀ (u : State) (k : Nat) (v : Word), (u.wr k v).ax b = u.ax b := fun u k v => by
          unfold State.ax; rw [State.wr_axes]
        rw [e2]
        unfold t
        rw [State.ax_setAx_ne _ _ e]
        exact h.owned
    · exact h

theorem State.axOn_of {s t : State} {a : Nat} (h : t.rd (ctlA a 0x100) = s.rd (ctlA a 0x100)) : t.axOn a = s.axOn a := by
  unfold State.axOn State.axState State.fld; rw [h]

theorem ssoA_lt (g o : Nat) : ssoA g o < 0x800100 := by unfold ssoA; omega

theorem State.ssoSet_ctl (s : State) (g a o : Nat) : (s.ssoSet g).rd (ctlA a o) = s.rd (ctlA a o) :=
  (State.ssoSet_frame ..).blk _ (by
    have : blk (ctlA a o) = 4 := by unfold blk ctlA; rw [if_pos (by omega)]; omega
    rw [this]; rfl)

theorem State.canTrigger_ctl (s : State) (c a o : Nat) : (s.canTrigger c).rd (ctlA a o) = s.rd (ctlA a o) :=
  (State.canTrigger_frame ..).blk _ (by
    have : blk (ctlA a o) = 4 := by unfold blk ctlA; rw [if_pos (by omega)]; omega
    rw [this]; rfl)

/-- Stopping a group leaves every axis in its state. -/
theorem State.stopGroup_stat_axis (s : State) (g b : Nat) (hb : b < 64) :
    (s.stopGroup g).rd (ctlA b 0x100) = s.rd (ctlA b 0x100) := by
  unfold State.stopGroup
  extract_lets a sa u d m p
  have ha : u.rd (ctlA b 0x100) = s.rd (ctlA b 0x100) :=
    State.rd_count_ne _ (by unfold safA ctlA; omega)
  split
  · exact ha
  · apply foldl_keep (q := fun u => u.rd (ctlA b 0x100) = s.rd (ctlA b 0x100))
    · apply foldl_keep (q := fun u => u.rd (ctlA b 0x100) = s.rd (ctlA b 0x100))
      · unfold m
        rw [State.ssoSet_ctl]
        unfold d
        rw [State.rd_put_ne _ _ _ _ (by unfold safA ctlA; omega)]
        exact ha
      · intro u x _ hu; rw [State.canTrigger_ctl, hu]
    · intro u x hx hu
      rw [State.stopAxis_stat _ _ _ (by simpa using (List.mem_filter.mp hx).1) hb, hu]

/-- What a package stop does (R303): PKG_STOP is set, all four groups are stopped, and the safety block owns every
enabled axis. -/
theorem State.packageStop_stops (s : State) (latch : Bool) :
    (s.packageStop latch).pkgStopped = true ∧ (∀ g < 4, (s.packageStop latch).stopped.testBit g = true) ∧
    (∀ a < 64, s.axOn a = true → (s.packageStop latch).SafetyOwns a) := by
  have hv : ∀ a, ((s.put (safA 0) 23 23 1).latchStop latch).rd a = (s.put (safA 0) 23 23 1).rd a :=
    State.rd_saf _ _
  unfold State.packageStop
  generalize hvv : (s.put (safA 0) 23 23 1).latchStop latch = v at hv
  generalize hww : v.stopGroups 0xF = w
  have hw : ∀ t : State, t.rd (safA 0) = w.rd (safA 0) → t.pkgStopped = true ∧ ∀ g < 4, t.stopped.testBit g = true := by
    intro t ht
    constructor
    · unfold State.pkgStopped State.flag
      rw [ht]
      show w.flag (safA 0) 23 = true
      rw [← hww, State.stopGroups_bit _ _ (by decide)]
      unfold State.flag
      rw [hv, State.rd_put_self, testBit_putBits (by decide) (by decide), if_pos (by decide)]
      decide
    · intro g hg
      unfold State.stopped State.fld
      rw [ht]
      show w.stopped.testBit g = true
      rw [← hww]
      refine State.stopGroups_stopped _ _ hg ?_
      have : Nat.testBit 0xF g = true := by
        match g, hg with
        | 0, _ => rfl
        | 1, _ => rfl
        | 2, _ => rfl
        | 3, _ => rfl
      rw [this]; rfl
  have hs : ((List.range 64).foldl State.stopAxis w).rd (safA 0) = w.rd (safA 0) :=
    foldl_keep (q := fun t => t.rd (safA 0) = w.rd (safA 0)) rfl
      (fun t x _ ht => (State.stopAxis_saf _ _ _ (by decide)).trans ht)
  refine ⟨(hw _ hs).1, (hw _ hs).2, ?_⟩
  have hax : ∀ b < 64, w.rd (ctlA b 0x100) = s.rd (ctlA b 0x100) := by
    intro b hb
    rw [← hww]
    unfold State.stopGroups
    apply foldl_keep (q := fun t => t.rd (ctlA b 0x100) = s.rd (ctlA b 0x100))
    · rw [hv]
      exact State.rd_put_ne _ _ _ _ (by unfold safA ctlA; omega)
    · intro t g _ ht
      rw [State.stopGroup_stat_axis _ _ _ hb, ht]
  intro a ha
  refine foldl_each (p := fun t a => s.axOn a = true → t.SafetyOwns a)
    (q := fun t => ∀ b < 64, t.rd (ctlA b 0x100) = s.rd (ctlA b 0x100)) hax ?_ ?_ ?_ a (List.mem_range.mpr ha)
  · intro t x hx ht b hb
    rw [State.stopAxis_stat _ _ _ (List.mem_range.mp hx) hb, ht b hb]
  · intro t x hx ht hon
    refine State.stopAxis_owns _ _ ?_
    rw [State.axOn_of (ht x (List.mem_range.mp hx))]
    exact hon
  · intro t x hx y hy _ h hon
    exact State.stopAxis_owns_ne _ (List.mem_range.mp hx) (List.mem_range.mp hy) (h hon)

/-- The safety bookkeeping that stopping a group leaves alone. -/
def Saf.core (x : Saf) : Saf := { x with releasing := 0, resets := [], stops := [], pulses := [] }

theorem Saf.core_latched (x : Saf) : x.core.latched = x.latched := rfl
theorem Saf.core_kick (x : Saf) : x.core.kick = x.kick := rfl
theorem Saf.core_percDue (x : Saf) : x.core.percDue = x.percDue := rfl
theorem Saf.core_computed (x : Saf) : x.core.computed = x.computed := rfl

theorem State.stopAxis_core (s : State) (a : Nat) : (s.stopAxis a).saf.core = s.saf.core := by
  rw [(State.stopAxis_frame s a).saf rfl]

theorem State.ssoSet_core (s : State) (g : Nat) : (s.ssoSet g).saf.core = s.saf.core := by
  have drive : ∀ r, (s.ssoDrive g r).saf.core = s.saf.core := by
    intro r
    unfold State.ssoDrive
    extract_lets a b p src
    rw [State.emit_saf]
    dsimp only
    have hb : b.saf = s.saf := by unfold b a; rw [State.put_saf, State.put_saf]
    unfold src
    rw [hb]
    rfl
  unfold State.ssoSet
  split
  · rfl
  · exact drive _

theorem State.stopGroup_core (s : State) (g : Nat) : (s.stopGroup g).saf.core = s.saf.core := by
  unfold State.stopGroup
  extract_lets a sa u d m p
  have hu : u.saf.core = s.saf.core := by
    unfold u
    have ha : a.saf = s.saf := by unfold a; rw [State.count_saf]
    dsimp only
    unfold sa
    rw [ha]
    rfl
  clear_value u
  split
  · exact hu
  · apply foldl_keep (q := fun v => v.saf.core = s.saf.core)
    · apply foldl_keep (q := fun v => v.saf.core = s.saf.core)
      · unfold m; rw [State.ssoSet_core]; unfold d; rw [State.put_saf, hu]
      · intro v x _ hv; rw [(State.canTrigger_frame v x).saf rfl, hv]
    · intro v x _ hv; rw [State.stopAxis_core, hv]

theorem State.stopGroups_core (s : State) (m : Nat) : (s.stopGroups m).saf.core = s.saf.core := by
  unfold State.stopGroups
  exact foldl_keep (q := fun t => t.saf.core = s.saf.core) rfl
    (fun t x _ ht => (State.stopGroup_core t x).trans ht)

theorem State.stopAxes_core (s : State) (l : List Nat) : (l.foldl State.stopAxis s).saf.core = s.saf.core :=
  foldl_keep (q := fun t => t.saf.core = s.saf.core) rfl (fun t x _ ht => (State.stopAxis_core t x).trans ht)

theorem State.packageStop_core (s : State) (l : Bool) :
    (s.packageStop l).saf.core = { s.saf.core with latched := s.saf.latched || l } := by
  unfold State.packageStop
  rw [State.stopAxes_core, State.stopGroups_core]
  unfold State.latchStop
  dsimp only
  rw [State.put_saf]
  rfl

theorem State.packageStop_latched (s : State) (l : Bool) :
    (s.packageStop l).saf.latched = (s.saf.latched || l) := by
  rw [← Saf.core_latched, State.packageStop_core]

theorem State.wdPackage_core (s : State) (stage : Nat) (i : Option Nat) :
    (s.wdPackage stage i).saf.core = { s.saf.core with latched := true } := by
  unfold State.wdPackage
  extract_lets v w
  have hw : w.saf = s.saf := by
    unfold w
    split
    · rw [(State.safFault_frame ..).saf rfl]; exact (State.wdMiss_frame s stage).saf rfl
    · rw [(State.safFaultFree_frame ..).saf rfl]; exact (State.wdMiss_frame s stage).saf rfl
  rw [State.packageStop_core, hw, Bool.or_true]

theorem blk_ctlA (a o : Nat) : blk (ctlA a o) = 4 := by unfold blk ctlA; rw [if_pos (by omega)]; omega

/-- A package stop after an operation that leaves the axes' registers alone. -/
theorem State.packageStop_from {m : Nat} {s u : State} (f : Frame m s u) (h : touches m 44 = false) :
    (u.packageStop true).pkgStopped = true ∧ (u.packageStop true).saf.latched = true ∧
    (∀ g < 4, (u.packageStop true).stopped.testBit g = true) ∧
    ∀ a < 64, s.axOn a = true → (u.packageStop true).SafetyOwns a := by
  have := u.packageStop_stops true
  refine ⟨this.1, by rw [State.packageStop_latched]; simp, this.2.1, fun a ha hon => this.2.2 a ha ?_⟩
  rw [State.axOn_of (f.blk _ (by rw [blk_ctlA]; exact h))]
  exact hon

/-- A watchdog of stages 5 to 8 stops the package (R303). -/
theorem State.wdPackage_from {m : Nat} {s u : State} (f : Frame m s u) (hm : m &&& 0x5040000108838 = m) (stage : Nat)
    (i : Option Nat) :
    (u.wdPackage stage i).pkgStopped = true ∧ (u.wdPackage stage i).saf.latched = true ∧
    (∀ g < 4, (u.wdPackage stage i).stopped.testBit g = true) ∧
    ∀ a < 64, s.axOn a = true → (u.wdPackage stage i).SafetyOwns a := by
  unfold State.wdPackage
  extract_lets v w
  have fv : Frame 0x5040000108838 s v := (f.mono hm).trans ((State.wdMiss_frame u stage).mono rfl)
  have fw : Frame 0x5040000108838 s w := by
    unfold w
    split
    · exact fv.trans ((State.safFault_frame ..).mono rfl)
    · exact fv.trans ((State.safFaultFree_frame ..).mono rfl)
  exact State.packageStop_from fw rfl

/-- Stopping groups writes SAF_STAT, its counter and the outputs' status, no other register below 0x80. -/
theorem State.stopGroup_low (s : State) (g : Nat) {o : Nat} (h : 0 < o) (h2 : o < 0x80) :
    (s.stopGroup g).rd (safA o) = s.rd (safA o) := by
  have hsso : ∀ (v : State), (v.ssoSet g).rd (safA o) = v.rd (safA o) := by
    intro v
    have drive : ∀ r, (v.ssoDrive g r).rd (safA o) = v.rd (safA o) := by
      intro r
      unfold State.ssoDrive
      extract_lets a b p
      have : ∀ w : State, w.regs = b.regs → w.rd (safA o) = v.rd (safA o) := by
        intro w hw
        rw [State.rd_congr hw]
        unfold b a
        rw [State.rd_put_ne _ _ _ _ (by unfold ssoA safA; omega), State.rd_put_ne _ _ _ _ (by unfold ssoA safA; omega)]
      rw [State.emit_rd]
      exact this _ rfl
    unfold State.ssoSet
    split
    · rfl
    · exact drive _
  unfold State.stopGroup
  extract_lets a sa u d m p
  have ha : u.rd (safA o) = s.rd (safA o) := by
    unfold u
    rw [State.rd_saf]
    exact State.rd_count_ne _ (by unfold safA; omega)
  clear_value u
  split
  · exact ha
  · apply foldl_keep (q := fun u => u.rd (safA o) = s.rd (safA o))
    · apply foldl_keep (q := fun u => u.rd (safA o) = s.rd (safA o))
      · unfold m
        rw [hsso]
        unfold d
        rw [State.rd_put_ne _ _ _ _ (by unfold safA; omega), ha]
      · intro u x _ hu; rw [State.canTrigger_saf _ _ _ (by omega), hu]
    · intro u x _ hu; rw [State.stopAxis_saf _ _ _ (by omega), hu]

theorem State.stopGroups_low (s : State) (m : Nat) {o : Nat} (h : 0 < o) (h2 : o < 0x80) :
    (s.stopGroups m).rd (safA o) = s.rd (safA o) := by
  unfold State.stopGroups
  exact foldl_keep (q := fun t => t.rd (safA o) = s.rd (safA o)) rfl (fun t x _ ht => (t.stopGroup_low x h h2).trans ht)

theorem State.safFault_low (s : State) (st : Status) (i m k : Nat) {o : Nat} (h2 : o < 0x80) :
    (s.safFault st i m k).rd (safA o) = s.rd (safA o) := by
  unfold State.safFault State.wr64
  extract_lets v a
  rw [(State.hmLog_frame ..).blk _ (by rw [blk_safA _ (by omega)]; rfl)]
  unfold a
  rw [State.rd_wr_ne _ _ (by unfold safA; omega), State.rd_wr_ne _ _ (by unfold safA; omega),
    State.rd_wr_ne _ _ (by unfold safA; omega)]

end Sys2Proof.Machine
end

