-- ==== Sys2Proof/WellFormed.lean ====
section
/-!
DEFINITION. Which commands name instances that the spec gives the package (Table 00-2). A command
that does not is no command of the block; its meaning faults with noSuchInstance.
-/

namespace Sys2Proof

/-- Every instance that a command names exists. -/
def Instr.wf : Instr → Bool
  | .tickEdge _ => true
  | .controlComputation => true
  | .comparisonDeadline => true
  | .checkerComparison a _ => decide (a < 64)
  | .profileWatchdogExpiry => true
  | .loopWatchdogExpiry => true
  | .outputWatchdogExpiry a => decide (a < 64)
  | .kernelKick _ _ => true
  | .kernelWatchdogExpiry => true
  | .activeDomainEvaluation => true
  | .primaryReturn => true
  | .holdoverExpiry => true
  | .sync p _ _ _ _ _ => decide (p < 4)
  | .followUp p _ _ _ => decide (p < 4)
  | .announce p _ _ => decide (p < 4)
  | .syncReceiptTimeout d => decide (d < 2)
  | .announceReceiptTimeout d p => decide (d < 2) && decide (p < 4)
  | .pdelayReq p _ _ _ => decide (p < 4)
  | .pdelayResp p _ _ _ => decide (p < 4)
  | .pdelayRespFollowUp p _ _ => decide (p < 4)
  | .pdelayReqTransmit p _ => decide (p < 4)
  | .ethTx r _ => decide (r < 8192)
  | .timedFrameLaunch p => decide (p < 4)
  | .ethTxDone p q => decide (p < 4) && decide (q < 8)
  | .ethFrameReceived p _ _ _ => decide (p < 4)
  | .ethPortLinkDown p => decide (p < 4)
  | .ethPortLinkUp p => decide (p < 4)
  | .canTx r _ => decide (r < 8192)
  | .canFrameEligible c => decide (c < 8)
  | .canTxComplete c b _ _ _ => decide (c < 8) && decide (b < 3)
  | .canAttemptFailed c b _ => decide (c < 8) && decide (b < 3)
  | .canFrameReceived c _ => decide (c < 8)
  | .canFifoDrain c _ => decide (c < 8)
  | .canProtocolError c _ _ _ => decide (c < 8)
  | .canIntegrationDone c => decide (c < 8)
  | .busOffRecoveryDone c => decide (c < 8)
  | .recover c => decide (c < 8)
  | .safetyInputChange idx chan _ _ _ => decide (idx < 16) && decide (chan < 2)
  | .inputDiscrepancy idx => decide (idx < 16)
  | .ssoReadbackFault g chan => decide (g < 4) && decide (chan < 2)
  | .ssoTestPulse g chan => decide (g < 4) && decide (chan < 2)
  | .testPulseEnd g chan => decide (g < 4) && decide (chan < 2)
  | .ingestWatchdogExpiry st => decide (st < 48)
  | .preprocessWatchdogExpiry st => decide (st < 48)
  | .perceptionWatchdogMiss => true
  | .segmentWatchdogExpiry a => decide (a < 64)
  | .safetyReset r => decide (r < 8192)
  | .goldenLoad r _ _ => decide (r < 8192)
  | .sqTail r _ => decide (r < 8192)
  | .cqHead r _ => decide (r < 8192)
  | .ringEnable r _ => decide (r < 8192)
  | .ringDisable r _ => decide (r < 8192)
  | .descriptorFetch r _ => decide (r < 8192)
  | .msixSignal v => decide (v < 2048)
  | .pcieLinkDown => true
  | .pcieLinkUp _ _ => true
  | .hotReset => true
  | .functionLevelReset => true
  | .nop r => decide (r < 8192)
  | .ringRole r => decide (r < 8192)
  | .rxPost r => decide (r < 8192)
  | .rxPostTimeout r => decide (r < 8192)
  | .cfgBegin r => decide (r < 8192)
  | .cfgCommit r => decide (r < 8192)
  | .cfgRollback r => decide (r < 8192)
  | .cfgCommitEdge _ => true
  | .cfgTimeout => true
  | .registerWrite _ _ _ => true
  | .w1cClear _ _ _ => true
  | .wideLowWordRead _ => true
  | .peekAddrWrite _ => true
  | .traceConfigWrite _ _ => true
  | .drvVersionWrite _ => true
  | .dumpPageSelect _ => true
  | .clearMarks => true
  | .start => true
  | .stop => true
  | .clear => true
  | .snap => true
  | .enable r => decide (r < 8192)
  | .disable r => decide (r < 8192)
  | .release r => decide (r < 8192)
  | .clearFault r => decide (r < 8192)
  | .safeStopReset r => decide (r < 8192)
  | .segment r => decide (r < 8192)
  | .jobSegmentArrival _ _ => true
  | .axisTable r _ => decide (r < 8192)
  | .traceRead r => decide (r < 8192)
  | .logPost r _ => decide (r < 8192)
  | .tallyRead r => decide (r < 8192)
  | .sensorPacket st _ _ _ => decide (st < 48)
  | .sampleTimeout st => decide (st < 48)
  | .sampleProcessStart => true
  | .tensorComplete st => decide (st < 48)
  | .decodeError st => decide (st < 48)
  | .hostDecodeTimeout st _ => decide (st < 48)
  | .offloadPost r => decide (r < 8192)
  | .decoded r _ => decide (r < 8192)
  | .pkgRetain r _ => decide (r < 8192)
  | .pkgRelease r => decide (r < 8192)
  | .submit r _ _ _ _ => decide (r < 8192)
  | .stepCmd r _ _ _ _ => decide (r < 8192)
  | .jobRelease r => decide (r < 8192)
  | .cyclicLoad r _ => decide (r < 8192)
  | .scrub r => decide (r < 8192)
  | .scrubDone r _ _ => decide (r < 8192)
  | .classCActivationComplete _ => true
  | .classCSlotEnd _ => true
  | .classSRelease _ => true
  | .weightStagingComplete _ => true
  | .classSDeadline _ => true
  | .classSJobComplete _ => true
  | .tileDispatch die core => decide (die < 7) && decide (core < 17)
  | .tileEnd die core _ => decide (die < 7) && decide (core < 17)
  | .stepSettleRound _ => true
  | .regionZeroed die _ => decide (die < 7)
  | .dmaTransferIssue die core chan _ => decide (die < 7) && decide (core < 17) && decide (chan < 8)
  | .dmaUncorrectable die core chan _ => decide (die < 7) && decide (core < 17) && decide (chan < 8)
  | .coreFault die core _ => decide (die < 7) && decide (core < 17)
  | .bankConflict die core _ cls => decide (die < 7) && decide (core < 17) && decide (cls < 4)
  | .eccUncorrectable die core _ => decide (die < 7) && decide (core < 17)
  | .kvWalkFault die w => decide (die < 7) && decide (w.core < 17)
  | .selftestDone t => decide (t.die < 7) && decide (t.core < 17)
  | .lossDiesReleased => true
  | .creditReq v berth _ srcPkg srcDie chan _ _ => v.rx.all (fun p => decide (p.link < 12)) && decide (v.msg < 8) && decide (berth < 256) && decide (srcPkg < 1024) && decide (srcDie < 7) && decide (chan < 8)
  | .creditGrant (.manager die berth) => decide (die < 7) && decide (berth < 256)
  | .creditGrant (.sender rx die core chan) => rx.all (fun p => decide (p.link < 12)) && decide (die < 7) && (decide (core < 17) && decide (chan < 8))
  | .creditRefuse v core chan _ => v.rx.all (fun p => decide (p.link < 12)) && decide (v.msg < 7) && decide (core < 17) && decide (chan < 8)
  | .creditRelease v berth _ _ _ => v.rx.all (fun p => decide (p.link < 12)) && decide (v.msg < 7) && decide (berth < 256)
  | .write v berth _ srcPkg srcDie chan _ _ => v.rx.all (fun p => decide (p.link < 12)) && decide (v.msg < 8) && decide (berth < 256) && decide (srcPkg < 1024) && decide (srcDie < 7) && decide (chan < 8)
  | .writeAck ⟨rx, .chan die⟩ core chan => rx.all (fun p => decide (p.link < 12)) && decide (die < 7) && decide (core < 17) && decide (chan < 8)
  | .writeAck ⟨rx, .coll _⟩ _ _ => rx.all (fun p => decide (p.link < 12))
  | .writeNak v core chan _ => v.rx.all (fun p => decide (p.link < 12)) && decide (v.msg < 7) && decide (core < 17) && decide (chan < 8)
  | .berthCloseExpiry die berth => decide (die < 7) && decide (berth < 256)
  | .linkTrainingRetry k => decide (k < 12)
  | .linkTrained k _ => decide (k < 12)
  | .linkTrainingOverrun k _ => decide (k < 12)
  | .linkCrcFailure k _ corrected _ => decide (k < 12) && corrected.all (fun n => decide (n ≤ 15))
  | .linkNak k _ => decide (k < 12)
  | .linkAck k _ => decide (k < 12)
  | .flowCreditReturn k vc _ => decide (k < 12) && decide (vc < 4)
  | .ackTimeout k => decide (k < 12)
  | .retrain k => decide (k < 12)
  | .retrainingDone r => decide (r.link < 12)
  | .retrainTimeout k => decide (k < 12)
  | .linkPeerLost k => decide (k < 12)
  | .collPartial v _ _ _ => v.rx.all (fun p => decide (p.link < 12))
  | .collEvent v => v.rx.all (fun p => decide (p.link < 12))
  | .leadMsg v => v.rx.all (fun p => decide (p.link < 12))
  | .heartbeat v _ => v.rx.all (fun p => decide (p.link < 12)) && decide (v.msg < 1024)
  | .leadHeartbeatTimeout => true
  | .memberHeartbeatTimeout pkg => decide (pkg < 1024)
  | .tallyCounterSaturation die c => decide (die < 8) && decide (c < (if die = 7 then 64 else 32))
  | .status => true
  | .logRead _ => true
  | .identity => true
  | .attest _ => true
  | .setState _ => true
  | .packageReset => true
  | .captureArm _ => true
  | .captureRelease => true
  | .updateBegin _ => true
  | .updateWrite _ => true
  | .updateVerify => true
  | .updateActivate => true
  | .updateConfirm => true
  | .updateAbort => true
  | .makerEnable _ => true
  | .makerChallenge => true
  | .makerResponse _ => true
  | .makerEnd => true
  | .makerOp _ => true
  | .makerSessionExpiry => true
  | .thermalSample _ => true
  | .thermalTrip site => decide (site < 64)
  | .voltageTrip rail => decide (rail < 14)
  | .marginMeasurement die _ _ => decide (die < 7)
  | .logFlush => true
  | .pmbAlert _ => true
  | .powerOn => true
  | .resetInput _ _ => true
  | .resetRelease _ _ => true
  | .pilotCoreTrap core _ _ _ _ => decide (core < 4)
  | .harbourmasterTrap _ _ _ _ => true

end Sys2Proof
end

