-- ==== Sys2Proof/Tests/Slice0.lean ====
section
/-!
SUPPORT. Tests. `witness_X` shows, for each clause of the statement `Obligations.X`, states and operands that meet its
hypotheses together, at the values where its clauses meet; where a clause rests on the outcome of a signature check, which
is a free value, all hypotheses but that outcome. Expected results of the other tests are the spec's.
-/

set_option Elab.async false

namespace Sys2Proof.Machine

open Sys2Proof

/-- A state with a transaction. -/
def State.setCfg (s : State) (c : Cfg) : State := { s with cfg := c }
/-- A state with a cyclic table in bank 0. -/
def State.setBank (s : State) (b : Bytes) : State := { s with bank0 := b }

end Sys2Proof.Machine

namespace Sys2Proof.Tests

open Sys2Proof Sys2Proof.Machine

/-! ### States and operands -/

/-- READY, with the PCI Express link up. -/
def rl : State := ({ State.reset with hm := { Hm.init with phase := .ready } } : State).put (hifA 0) 3 0 5

/-- Bytes with little-endian fields at their offsets: offset, width, value. -/
def f64 (n : Nat) (l : List (Nat × Nat × Nat)) : Bytes :=
  (List.range n).map (fun i => match l.find? (fun x => decide (x.1 ≤ i) && decide (i < x.1 + x.2.1)) with
    | some (o, _, v) => BitVec.ofNat 8 (v / 256 ^ (i - o))
    | none => 0)

/-- A fetched descriptor. -/
def D (op : Nat) (l : List (Nat × Nat × Nat)) : Inflight :=
  ⟨3, 7, op, true, false, f64 64 ([(0, 1, op), (4, 4, 7)] ++ l), false, ⟨0, 0, 0, []⟩⟩

/-- The descriptor, in flight on ring 1. -/
def put1 (d : Inflight) (s : State) : State := s.setRing 1 { Ring.init with fl := [d] }

/-- A request in the mailbox, first in the queue. -/
def mb (op len : Nat) (l : List (Nat × Nat × Nat)) (s : State) : State :=
  let s : State := { s with hm := { s.hm with
    queue := [.mailbox], mbxReq := ((List.range len).zip (f64 len l)).foldl (fun t e => tset 0 t e.1 e.2) [] } }
  ((s.put (mbxA 4) 15 0 op).wr (mbxA 8) (BitVec.ofNat 32 len)).put (mbxA 0xC) 0 0 1

/-- The request bytes that the mailbox holds. -/
def askedB (s : State) : Bytes := (List.range (s.rd (mbxA 8)).toNat).map (fun i => tget 0 s.hm.mbxReq i)

/-- The mailbox's request of operation `op` is first in the queue. -/
def asksB (s : State) (op : Nat) : Bool := s.hm.queue.head? == some .mailbox && s.fld (mbxA 4) 15 0 == op

theorem asksB_asks (s : State) (op : Nat) (req : Option Bytes) (h : asksB s op = true) :
    Asks s op req .mailbox (askedB s) := by
  simp only [asksB, Bool.and_eq_true, beq_iff_eq] at h
  cases hq : s.hm.queue with
  | nil => simp [hq] at h
  | cons x rest =>
    simp only [hq, List.head?_cons, Option.some.injEq] at h
    exact .mailbox req rest (by rw [hq, h.1]) h.2

/-- `Starts`, decided. -/
def startsB (s : State) (r op : Nat) (d : Inflight) : Bool :=
  decide (r < 8192) && decide (s.startable r op = some d) && decide (s.desc r d.num = some d)

theorem startsB_starts (s : State) (r op : Nat) (d : Inflight) (h : startsB s r op d = true) : Starts s r op d := by
  simp only [startsB, Bool.and_eq_true, decide_eq_true_eq] at h
  exact ⟨h.1.1, h.1.2, h.2⟩

/-- A compute die in service. -/
def cd : State := (rl.put 4 8 8 1).coreMap 0

/-- A package of one operator and one tile. -/
def P1 : Package :=
  { raw := List.replicate 64 1
    manifest := f64 96 [(0,4,1),(4,4,96),(8,4,1),(12,4,1),(24,4,1),(28,4,1),(40,2,3),(68,4,1),(72,4,1000),(76,4,256)]
    ops := [⟨none, 0, [], 0, [], none, [], List.replicate 256 0, [f64 64 [(8,4,100),(24,4,256)]], [], ⟨0, false, false, 0⟩⟩]
    tensors := [⟨64, 0, .i8, [64], none, false, [0]⟩] }

/-- A job of ring 1. -/
def J0 : Job :=
  { (({ ring := 1, num := 3, desc := [], h := 1, pkg := none, param := f64 64 [(0,1,1)], lengths := [], inputs := [],
        peers := [], key := 0, subm := [], lead := none, fetchT := 0, fetchTick := 0 } : SubReq).job rl) with
    id := 5, tag := 0x77, pkg := 2, ring := 1 }

/-- A CAN record. -/
def canB : Bytes := f64 80 [(0,4,0x123),(15,1,8),(16,8,0x1122334455667788)]

/-- A sample. -/
def smp (n : Nat) (ph : SamplePhase) : Sample := ⟨n, 1, 2, 0, 0, 0, 0, [], true, [], 0, ph, false, none, none⟩

def CE : CanTxE := ⟨canFrameOf canB, .host 1 9, 0, 0, 0⟩
def CB : CanBuf := ⟨⟨canFrameOf canB, .axis 3, 0, 0, 0⟩, false, false, false⟩
def LR : LogRec := ⟨5, 0, 1, 2, 3, 4, 5, [1, 2, 3]⟩
def SG0 : Seg := ⟨9,2,false,0,0,0x3F800000,0x3F800000,0x3F800000,7,0,4,.desc 8,0⟩

/-- A link in state `st`, with the fabric configured. -/
def LKs (st : Nat) (l : Lnk) (ref : Nat) : State :=
  { ((((rl.put (fabA 0) 1 0 2).put (fabA 0) 27 8 0x20404).put (lnkA 1 4) 11 8 st).put (lnkA 1 0) 0 0 1).setLnk 1 l with
    clk := { Clk.init with ref := ref } }
/-- The state at a later reference time. -/
def rr (s : State) (n : Nat) : State := (s.reachRef n).getD rl
def LP (n : Nat) : LinkPkt := ⟨n, 0, 1, [1], none⟩
def mk (m : Maker) (s : State) : State := { s with hm := { s.hm with maker := some m } }
def upd (u : Update) (s : State) : State := { s with hm := { s.hm with update := some u } }
def ph (p : Phase) (s : State) : State := { s with hm := { s.hm with phase := p } }
/-- A row that no register has. -/
def GR : RegRow := ⟨"", 0, 0, 0, 0, 0, 0, 0, 0, 0, 0, false, false⟩
/-- The package with a collective after its operator. -/
def PC : Package := { P1 with manifest := f64 96 [(0,4,1),(4,4,96),(8,4,1),(12,4,1),(24,4,1),(28,4,1),(40,2,3),(68,4,1),(72,4,1000),(76,4,256),(88,1,1)] }
/-- No collective. -/
def C0 : CollCtx := ⟨0, 0, 0, ⟨0, false, false, 0⟩, 0, 0, [], 0, 0, 0⟩

/-! ### Commands that name no instance -/

theorem test_ill_formed_1 : ([
    .checkerComparison 64 0, .outputWatchdogExpiry 64, .sync 4 0 0 0 false ⟨0, 0, 0, ⟨0, 0⟩⟩,
    .followUp 4 0 0 ⟨0, ⟨0, 0⟩⟩, .announce 4 0 ⟨0, ⟨[], 0, true⟩⟩, .syncReceiptTimeout 2,
    .announceReceiptTimeout 2 0, .announceReceiptTimeout 0 4, .pdelayReq 4 0 0 0, .pdelayResp 4 0 0 0,
    .pdelayRespFollowUp 4 0 0, .pdelayReqTransmit 4 0, .ethTx 8192 none, .timedFrameLaunch 4, .ethTxDone 4 0,
    .ethTxDone 0 8, .ethFrameReceived 4 0 0 [], .ethPortLinkDown 4, .ethPortLinkUp 4, .canTx 8192 none,
    .canFrameEligible 8, .canTxComplete 8 0 0 0 0, .canTxComplete 0 3 0 0 0, .canAttemptFailed 8 0 ⟨false, none⟩,
    .canAttemptFailed 0 3 ⟨false, none⟩, .canFrameReceived 8 ⟨0, false, false, false, false, false, 0, []⟩,
    .canFifoDrain 8 [], .canProtocolError 8 .bit false .receiver, .canIntegrationDone 8, .busOffRecoveryDone 8,
    .recover 8, .safetyInputChange 16 0 false 0 0, .safetyInputChange 0 2 false 0 0, .inputDiscrepancy 16,
    .ssoReadbackFault 4 0, .ssoReadbackFault 0 2, .ssoTestPulse 4 0, .ssoTestPulse 0 2, .testPulseEnd 4 0,
    .testPulseEnd 0 2, .ingestWatchdogExpiry 48, .preprocessWatchdogExpiry 48, .segmentWatchdogExpiry 64,
    .safetyReset 8192, .goldenLoad 8192 none none, .sqTail 8192 0, .cqHead 8192 0, .ringEnable 8192 0] : List Instr).all (fun i => !i.wf) = true := by decide

theorem test_ill_formed_2 : ([
    .ringDisable 8192 0, .descriptorFetch 8192 none, .msixSignal 2048, .nop 8192, .ringRole 8192, .rxPost 8192,
    .rxPostTimeout 8192, .cfgBegin 8192, .cfgCommit 8192, .cfgRollback 8192, .enable 8192, .disable 8192,
    .release 8192, .clearFault 8192, .safeStopReset 8192, .segment 8192, .axisTable 8192 none, .traceRead 8192,
    .logPost 8192 none, .tallyRead 8192, .sensorPacket 48 0 0 ⟨[], false, false⟩, .sampleTimeout 48,
    .tensorComplete 48, .decodeError 48, .hostDecodeTimeout 48 0, .offloadPost 8192, .decoded 8192 none,
    .pkgRetain 8192 none, .pkgRelease 8192, .submit 8192 none none [] [], .stepCmd 8192 none none [] [],
    .jobRelease 8192, .cyclicLoad 8192 none, .scrub 8192, .scrubDone 8192 0 [], .tileDispatch 7 0,
    .tileDispatch 0 17, .tileEnd 7 0 ⟨[], ⟨0, 0, 0⟩⟩, .tileEnd 0 17 ⟨[], ⟨0, 0, 0⟩⟩, .regionZeroed 7 0,
    .dmaTransferIssue 7 0 0 (.copy 0 0 0), .dmaTransferIssue 0 17 0 (.copy 0 0 0),
    .dmaTransferIssue 0 0 8 (.copy 0 0 0), .dmaUncorrectable 7 0 0 0, .dmaUncorrectable 0 17 0 0,
    .dmaUncorrectable 0 0 8 0, .coreFault 7 0 .acc, .coreFault 0 17 .acc] : List Instr).all (fun i => !i.wf) = true := by decide

theorem test_ill_formed_3 : ([
    .bankConflict 7 0 0 0, .bankConflict 0 17 0 0, .bankConflict 0 0 0 4, .eccUncorrectable 7 0 0,
    .eccUncorrectable 0 17 0, .kvWalkFault 7 ⟨0, none⟩, .kvWalkFault 0 ⟨17, none⟩, .selftestDone ⟨7, 0, [], false⟩,
    .selftestDone ⟨0, 17, [], false⟩, .creditReq ⟨[⟨12, 0, 0, [], none⟩], 0⟩ 0 0 0 0 0 0 0,
    .creditReq ⟨[], 8⟩ 0 0 0 0 0 0 0, .creditReq ⟨[], 0⟩ 256 0 0 0 0 0 0, .creditReq ⟨[], 0⟩ 0 0 1024 0 0 0 0,
    .creditReq ⟨[], 0⟩ 0 0 0 7 0 0 0, .creditReq ⟨[], 0⟩ 0 0 0 0 8 0 0,
    .creditRefuse ⟨[⟨12, 0, 0, [], none⟩], 0⟩ 0 0 0, .creditRefuse ⟨[], 7⟩ 0 0 0, .creditRefuse ⟨[], 0⟩ 17 0 0,
    .creditRefuse ⟨[], 0⟩ 0 8 0, .creditRelease ⟨[⟨12, 0, 0, [], none⟩], 0⟩ 0 0 0 0, .creditRelease ⟨[], 7⟩ 0 0 0 0,
    .creditRelease ⟨[], 0⟩ 256 0 0 0, .write ⟨[⟨12, 0, 0, [], none⟩], 0⟩ 0 0 0 0 0 0 [],
    .write ⟨[], 8⟩ 0 0 0 0 0 0 [], .write ⟨[], 0⟩ 256 0 0 0 0 0 [], .write ⟨[], 0⟩ 0 0 1024 0 0 0 [],
    .write ⟨[], 0⟩ 0 0 0 7 0 0 [], .write ⟨[], 0⟩ 0 0 0 0 8 0 [], .writeNak ⟨[⟨12, 0, 0, [], none⟩], 0⟩ 0 0 0,
    .writeNak ⟨[], 7⟩ 0 0 0, .writeNak ⟨[], 0⟩ 17 0 0, .writeNak ⟨[], 0⟩ 0 8 0, .berthCloseExpiry 7 0,
    .berthCloseExpiry 0 256, .linkTrainingRetry 12, .linkTrained 12 ⟨[], [], ⟨0, 0, [], 0⟩⟩,
    .linkTrainingOverrun 12 [], .linkCrcFailure 12 0 [] 0, .linkCrcFailure 0 0 [16] 0, .linkNak 12 0, .linkAck 12 0,
    .flowCreditReturn 12 0 0, .flowCreditReturn 0 4 0, .ackTimeout 12, .retrain 12,
    .retrainingDone ⟨12, ⟨0, 0, [], 0⟩⟩, .retrainTimeout 12, .linkPeerLost 12] : List Instr).all (fun i => !i.wf) = true := by decide

theorem test_ill_formed_4 : ([
    .collPartial ⟨[⟨12, 0, 0, [], none⟩], 0⟩ 0 (.rank 0) [], .collEvent ⟨[⟨12, 0, 0, [], none⟩], 0, 0, 0, false⟩,
    .leadMsg ⟨[⟨12, 0, 0, [], none⟩], .endJob 0 0⟩, .heartbeat ⟨[⟨12, 0, 0, [], none⟩], 0⟩ 0,
    .heartbeat ⟨[], 1024⟩ 0, .memberHeartbeatTimeout 1024, .tallyCounterSaturation 8 0,
    .tallyCounterSaturation 7 64, .tallyCounterSaturation 0 32, .thermalTrip 64, .voltageTrip 14,
    .marginMeasurement 7 0 0, .pilotCoreTrap 4 0 0 0 [], .creditGrant (.manager 7 0), .creditGrant (.manager 0 256),
    .creditGrant (.sender [⟨12, 0, 0, [], none⟩] 0 0 0), .creditGrant (.sender [] 7 0 0),
    .creditGrant (.sender [] 0 17 0), .creditGrant (.sender [] 0 0 8),
    .writeAck ⟨[⟨12, 0, 0, [], none⟩], .chan 0⟩ 0 0, .writeAck ⟨[], .chan 7⟩ 0 0, .writeAck ⟨[], .chan 0⟩ 17 0,
    .writeAck ⟨[], .chan 0⟩ 0 8, .writeAck ⟨[⟨12, 0, 0, [], none⟩], .coll 0⟩ 0 0] : List Instr).all (fun i => !i.wf) = true := by decide

/-! ### Single commands -/

/-- The command answers a next state. -/
def runs (s : State) (c : Instr) : Bool := match exec c s with | .next _ => true | _ => false

/-- The state that a command answers. -/
def after (s : State) (c : Instr) : State := match exec c s with | .next t => t | _ => s

/-- No command names instance 8192 of the rings. -/
theorem test_no_such_ring : (match exec (.nop 8192) rl with | .fault _ => true | _ => false) = true := by decide +kernel

/-- The opcode table gives no row bits. -/
theorem test_no_word : decodeTableWord 32 0 = none := by decide

/-- R21, worked example: 1,000 µs to 750 µs at the edge of tick 66,001. -/
theorem test_period_change :
    let s : State := { rl.put (timA 0x100) 13 0 750 with clk := { Clk.init with
      live := true, t := 66001000000, tick := 66000, lastEdge := 66000000000, nextTick := 66001, nextEdge := 66001000000 } }
    let t := after s (.tickEdge 0)
    (t.clk.tick == 66001 && t.clk.nextEdge == 66002250000 && t.clk.nextTick == 88003 && t.rd (timA 0x118) == s.rd (timA 0x118))
      = true := by
  decide +kernel

/-- Table 14-12: ring 0 holds the installer role at reset, ring 1 does not. -/
theorem test_reset_roles : (State.reset.live (ringA 0 0x14) == 0x80000000 && State.reset.live (ringA 1 0x14) == 0) = true := by
  decide +kernel

/-- R6: an access of two bytes reads as 0, and one of four at an address that is no multiple of 4. -/
theorem test_narrow_access : ((rl.readReg 0x200 2) == 0 && (rl.readReg 0x202 4) == 0) = true := by decide +kernel

/-! ### What the statements assume: by hand -/

/-- What a request comes to, as `Obligations.JobRequests` reads it: refused with a status, or admitted in a class. -/
def verdict (s : State) (r : Nat) (d : Inflight) (q : SubReq) : Option Status × Bool :=
  let v := s.begin r d.num
  let b := submBytes q (v.subDigest q) v.nextJob
  let u := v.logSubmit r b
  let q : SubReq := { q with key := if s.logOn && !s.inReplay then s.slog.seq else 0, subm := b }
  match u.admission q with
  | .error st => (some st, false)
  | .ok (w, j) => (if (w.pkg j.pkg).isSome then none else some .packageNotRetained, j.classC)

/-- A SUBMIT of the package with handle 2. -/
def subF : List (Nat × Nat × Nat) := [(8, 2, 2), (32, 4, 160), (36, 4, 64)]
/-- A STEP of it. -/
def stepF : List (Nat × Nat × Nat) := [(8, 2, 2), (24, 4, 160), (52, 4, 64)]
/-- The package with pins. -/
def PP : Package := { P1 with manifest := f64 96 [(0,4,1),(4,4,96),(8,4,1),(12,4,1),(24,4,1),(28,4,1),(40,2,3),(42,2,1),
  (44,4,1),(68,4,1),(72,4,1000),(76,4,256)] }
/-- A request with a parameter block. -/
def subQ (d : Inflight) (p : Bytes) : SubReq :=
  ⟨1, d.num, d.bytes, le d.bytes 8 2, none, p, [], [], [], 0, [], none, d.fetch.t, d.fetch.tick⟩
/-- A die in service with package 2 retained. -/
def subS (op : Nat) (f : List (Nat × Nat × Nat)) (p : Package) : State :=
  (cd.setPkg 2 (some ⟨p, [], ⟨0, 0, 64⟩⟩)) |> put1 (D op f)

theorem witness_JobRequests : [
    startsB (subS 0x11 subF P1) 1 0x11 (D 0x11 subF),
    startsB (subS 0x11 subF PP) 1 0x11 (D 0x11 subF),
    startsB (subS 0x12 stepF P1) 1 0x12 (D 0x12 stepF),
    verdict (subS 0x11 subF P1) 1 (D 0x11 subF) (subQ (D 0x11 subF) (f64 160 [(0,1,1),(4,4,1000000)])) == (none, false),
    verdict (subS 0x11 subF PP) 1 (D 0x11 subF) (subQ (D 0x11 subF) (f64 160 [(16,2,1)])) == (none, true),
    verdict (subS 0x12 stepF P1) 1 (D 0x12 stepF) (subQ (D 0x12 stepF) (f64 160 [(0,1,1),(4,4,1000000)])) == (none, false),
    verdict (subS 0x11 subF P1) 1 (D 0x11 subF) (subQ (D 0x11 subF) (f64 160 [])) == (some .placementNoCore, false)
    ].all id = true := by
  decide +kernel

/-- `EveryFrame`, the last clause of `WideLatch` and `RegistersKept`: commands that answer a next state. -/
theorem witness_EveryFrame : [
    runs rl .snap, runs rl .stop, runs rl .clear, runs rl .start, runs rl (.pcieLinkUp 5 4), runs rl .pcieLinkDown,
    runs (rl.put (canA 3 0x40) 2 0 4) (.recover 3), runs (rl.put (canA 3 0x40) 2 0 4) (.busOffRecoveryDone 3),
    runs rl (.peekAddrWrite 0x40), runs rl (.dumpPageSelect 3), runs rl .clearMarks, runs rl (.ethPortLinkDown 3),
    runs rl (.ethPortLinkUp 3), runs rl (.pdelayRespFollowUp 3 5 6),
    runs (LKs 3 Lnk.init 5) (.retrain 1), runs (LKs 3 Lnk.init 200000000) (.ackTimeout 1),
    runs (LKs 3 Lnk.init 5) (.linkCrcFailure 1 4 [15] 2), runs rl (.ssoTestPulse 3 1), runs rl (.testPulseEnd 3 1),
    runs rl (.w1cClear 0x244 1 0)].all id = true := by
  decide +kernel

/-- A waiting command. -/
def waiting (s : State) : State := { s with pending := [.start, .stop] }

theorem witness_StepRunsFront : (waiting rl).pending = .start :: [.stop] ∧ rl.pending = [] := by decide +kernel

theorem witness_StepInvariant :
    (waiting State.reset).Inv ∧ (∃ t, step (waiting State.reset) = .next t) ∧
      (waiting State.reset).pending.head? ≠ some .powerOn :=
  ⟨⟨by decide +kernel, by decide +kernel, by decide +kernel⟩, ⟨_, rfl⟩, by decide +kernel⟩

/-- A golden load of one packet, with `n` bytes stored for stream 3. -/
def fullS (n : Nat) : State :=
  put1 (D 0x29 [(8, 1, 47), (12, 4, 16)])
    { rl with saf := { Saf.init with st := [(3, { SafSt.init with golden := some ⟨[List.replicate n 0], [], []⟩ })] } }

theorem fullS_starts (n : Nat) : startsB (fullS n) 1 0x29 (D 0x29 [(8, 1, 47), (12, 4, 16)]) = true := by
  have h : startsB (fullS n) 1 0x29 (D 0x29 [(8, 1, 47), (12, 4, 16)]) =
      startsB (fullS 0) 1 0x29 (D 0x29 [(8, 1, 47), (12, 4, 16)]) := rfl
  rw [h]
  decide +kernel

/-- `SafetyDescriptors`, a load that the golden store has no room for. -/
theorem witness_SafetyDescriptors_full :
    let s := fullS (48 * 2 ^ 20 + 1)
    startsB s 1 0x29 (D 0x29 [(8, 1, 47), (12, 4, 16)]) = true ∧ 48 * 2 ^ 20 < s.goldenUsed 47 := by
  refine ⟨fullS_starts _, ?_⟩
  have h (n : Nat) : (fullS n).goldenUsed 47 = n := by
    simp [State.goldenUsed, fullS, put1, State.setRing, List.filter]
  rw [h]
  omega

/-! ### What the statements assume -/

theorem witness_WideLatch : [
    (let a : Nat := 0x100;
     let w : Nat := 2;
     decide ((w ≠ 4 ∨ a % 4 ≠ 0))),
    (let a : Nat := 0x102;
     let w : Nat := 4;
     decide ((w ≠ 4 ∨ a % 4 ≠ 0))),
    (let a : Nat := timA 0xA0;
     let r : RegRow := (rowAt (timA 0xA0)).getD GR;
     let b := 0;
     decide (rowAt a = some r) && decide (r.wide = true) && decide (a % 4 = 0) && decide (b ≠ a + 4)),
    (let a : Nat := tlyC 7 0 8;
     let r : RegRow := (rowAt (tlyC 7 0 8)).getD GR;
     let b := 0;
     decide (rowAt a = some r) && decide (r.wide = true) && decide (a % 4 = 0) && decide (b ≠ a + 4)),
    (let a : Nat := timA 0xA0;
     let r : RegRow := (rowAt (timA 0xA0)).getD GR;
     decide (rowAt a = some r) && decide (r.wide = true) && decide (a % 4 = 0)),
    (let a : Nat := tlyC 7 0 8;
     let r : RegRow := (rowAt (tlyC 7 0 8)).getD GR;
     decide (rowAt a = some r) && decide (r.wide = true) && decide (a % 4 = 0)),
    (let s : State := { rl with latch := [(timA 0xA4, some 5)] };
     let a : Nat := timA 0xA4;
     let w : Word := 5;
     decide (a % 4 = 0) && decide (upperWord a = true) && decide (tget none s.latch a = some w)),
    (let s : State := rl;
     let a : Nat := timA 0xA4;
     decide (a % 4 = 0) && decide (tget none s.latch a = none))].all id = true := by
  decide +kernel

theorem witness_TickEdgeAdvances : [
    (let s : State := { rl.put (timA 0x100) 13 0 1000 with clk := { Clk.init with live := true } };
     decide (s.clk.live = true) && decide (s.clk.t ≤ s.clk.nextEdge) && decide (s.inReplay = false) && decide
         (s.cfg.commitNum = none) && decide (s.periodNs = s.clk.period)),
    (let s : State :=
        { rl.put (timA 0x100) 13 0 750 with clk := { Clk.init with live := true, period := 750000, t := 1500000, nextEdge := 1500000, nextTick := 2 } };
     decide (s.clk.live = true) && decide (s.clk.t ≤ s.clk.nextEdge) && decide (s.inReplay = false) && decide
         (s.cfg.commitNum = none) && decide (s.periodNs = s.clk.period))].all id = true := by
  decide +kernel

theorem witness_PeriodChange : [
    (let s : State :=
        { rl.put (timA 0x100) 13 0 750 with clk := { Clk.init with live := true, t := 66001000000, tick := 66000, lastEdge := 66000000000, nextTick := 66001, nextEdge := 66001000000 } };
     decide (s.clk.live = true) && decide (s.clk.t ≤ s.clk.nextEdge) && decide (s.inReplay = false) && decide
         (s.cfg.commitNum = none) && decide (0 < s.periodNs) && decide (s.periodNs ≠ s.clk.period))].all id = true := by
  decide +kernel

theorem witness_SyncAnswers : [
    (let p : Nat := 3;
     let dnum : Nat := 5;
     let gm : Nat := 77;
     let s : State := ((rl.put (domA 0 0) 31 31 1).put (domA 0 0) 6 0 5 |>.put (domA 0 0) 19 16 8|>.setDomState 0 1
         |>.put (timA 0x84) 13 0 100) |>.setDom 0 { Dom.init with sel := some (3, 77) };
     let d : Nat := 0;
     decide (p < 4) && decide (s.domFor p dnum = some d) && decide ((s.dom d).sel = some (p, gm)) && decide
         (s.domState d = 1)),
    (let p : Nat := 3;
     let dnum : Nat := 5;
     let seqId : Nat := 9;
     let rx : Nat := 1000;
     let corr : Int := -2;
     let s : State := ((rl.put (domA 0 0) 31 31 1).put (domA 0 0) 6 0 5 |>.put (domA 0 0) 19 16 8|>.setDomState 0 1
         |>.put (timA 0x84) 13 0 100) |>.setDom 0
         { Dom.init with sel := some (3, 77), wait := some ⟨9, 3, 1000, -2⟩ };
     let d : Nat := 0;
     decide (p < 4) && decide (s.domFor p dnum = some d) && decide ((s.dom d).wait = some ⟨seqId, p, rx, corr⟩) &&
         decide (s.domState d = 1))].all id = true := by
  decide +kernel

theorem witness_LockRule : [
    (let p : Nat := 3;
     let dnum : Nat := 5;
     let gm : Nat := 77;
     let rx : Nat := 100;
     let origin : Int := 0;
     let s : State := ((rl.put (domA 0 0) 31 31 1).put (domA 0 0) 6 0 5 |>.put (domA 0 0) 19 16 8|>.setDomState 0 2
         |>.put (timA 0x84) 13 0 100) |>.setDom 0
         { Dom.init with sel := some (3, 77), cands := [⟨3, ⟨[1, 2], 77, true⟩, 99⟩], good := 15 };
     let d : Nat := 0;
     let off : Int := (rx : Int) - s.fld (timA (0xC0 + 4 * p)) 15 0 + (s.dom d).off - (origin + (s.rd (timA (0xD0 +
         4 * p))).toNat);
     let near := off.natAbs ≤ s.fld (timA 0x84) 13 0;
     decide (p < 4) && decide (s.domFor p dnum = some d) && decide ((s.dom d).sel = some (p, gm)) && decide
         (s.domState d = 2) && decide (near) && decide (15 ≤ (s.dom d).good) && decide (s.ptpScale d = true)),
    (let p : Nat := 3;
     let dnum : Nat := 5;
     let gm : Nat := 77;
     let rx : Nat := 0;
     let origin : Int := 100;
     let s : State := ((rl.put (domA 0 0) 31 31 1).put (domA 0 0) 6 0 5 |>.put (domA 0 0) 19 16 8|>.setDomState 0 2
         |>.put (timA 0x84) 13 0 100) |>.setDom 0
         { Dom.init with sel := some (3, 77), cands := [⟨3, ⟨[1, 2], 77, true⟩, 99⟩], good := 15 };
     let d : Nat := 0;
     let off : Int := (rx : Int) - s.fld (timA (0xC0 + 4 * p)) 15 0 + (s.dom d).off - (origin + (s.rd (timA (0xD0 +
         4 * p))).toNat);
     let near := off.natAbs ≤ s.fld (timA 0x84) 13 0;
     decide (p < 4) && decide (s.domFor p dnum = some d) && decide ((s.dom d).sel = some (p, gm)) && decide
         (s.domState d = 2) && decide (near) && decide (15 ≤ (s.dom d).good) && decide (s.ptpScale d = true)),
    (let p : Nat := 3;
     let dnum : Nat := 5;
     let gm : Nat := 77;
     let rx : Nat := 101;
     let origin : Int := 0;
     let s : State := ((rl.put (domA 0 0) 31 31 1).put (domA 0 0) 6 0 5 |>.put (domA 0 0) 19 16 8|>.setDomState 0 2
         |>.put (timA 0x84) 13 0 100) |>.setDom 0
         { Dom.init with sel := some (3, 77), cands := [⟨3, ⟨[1, 2], 77, true⟩, 99⟩], good := 15 };
     let d : Nat := 0;
     let off : Int := (rx : Int) - s.fld (timA (0xC0 + 4 * p)) 15 0 + (s.dom d).off - (origin + (s.rd (timA (0xD0 +
         4 * p))).toNat);
     let near := off.natAbs ≤ s.fld (timA 0x84) 13 0;
     decide (p < 4) && decide (s.domFor p dnum = some d) && decide ((s.dom d).sel = some (p, gm)) && decide
         (s.domState d = 2) && decide ((¬near ∨ (s.dom d).good < 15 ∨ s.ptpScale d = false))),
    (let p : Nat := 3;
     let dnum : Nat := 5;
     let gm : Nat := 77;
     let rx : Nat := 0;
     let origin : Int := 101;
     let s : State := ((rl.put (domA 0 0) 31 31 1).put (domA 0 0) 6 0 5 |>.put (domA 0 0) 19 16 8|>.setDomState 0 2
         |>.put (timA 0x84) 13 0 100) |>.setDom 0
         { Dom.init with sel := some (3, 77), cands := [⟨3, ⟨[1, 2], 77, true⟩, 99⟩], good := 15 };
     let d : Nat := 0;
     let off : Int := (rx : Int) - s.fld (timA (0xC0 + 4 * p)) 15 0 + (s.dom d).off - (origin + (s.rd (timA (0xD0 +
         4 * p))).toNat);
     let near := off.natAbs ≤ s.fld (timA 0x84) 13 0;
     decide (p < 4) && decide (s.domFor p dnum = some d) && decide ((s.dom d).sel = some (p, gm)) && decide
         (s.domState d = 2) && decide ((¬near ∨ (s.dom d).good < 15 ∨ s.ptpScale d = false))),
    (let p : Nat := 3;
     let dnum : Nat := 5;
     let gm : Nat := 77;
     let rx : Nat := 0;
     let origin : Int := 401;
     let s : State := ((rl.put (domA 0 0) 31 31 1).put (domA 0 0) 6 0 5 |>.put (domA 0 0) 19 16 8|>.setDomState 0 3
         |>.put (timA 0x84) 13 0 100) |>.setDom 0
         { Dom.init with sel := some (3, 77), cands := [⟨3, ⟨[1, 2], 77, true⟩, 99⟩], bad := 3 };
     let d : Nat := 0;
     let off : Int := (rx : Int) - s.fld (timA (0xC0 + 4 * p)) 15 0 + (s.dom d).off - (origin + (s.rd (timA (0xD0 +
         4 * p))).toNat);
     let far := 4 * s.fld (timA 0x84) 13 0 < off.natAbs;
     decide (p < 4) && decide (s.domFor p dnum = some d) && decide ((s.dom d).sel = some (p, gm)) && decide
         (s.domState d = 3) && decide (far) && decide (3 ≤ (s.dom d).bad)),
    (let p : Nat := 3;
     let dnum : Nat := 5;
     let gm : Nat := 77;
     let rx : Nat := 401;
     let origin : Int := 0;
     let s : State := ((rl.put (domA 0 0) 31 31 1).put (domA 0 0) 6 0 5 |>.put (domA 0 0) 19 16 8|>.setDomState 0 3
         |>.put (timA 0x84) 13 0 100) |>.setDom 0
         { Dom.init with sel := some (3, 77), cands := [⟨3, ⟨[1, 2], 77, true⟩, 99⟩], bad := 3 };
     let d : Nat := 0;
     let off : Int := (rx : Int) - s.fld (timA (0xC0 + 4 * p)) 15 0 + (s.dom d).off - (origin + (s.rd (timA (0xD0 +
         4 * p))).toNat);
     let far := 4 * s.fld (timA 0x84) 13 0 < off.natAbs;
     decide (p < 4) && decide (s.domFor p dnum = some d) && decide ((s.dom d).sel = some (p, gm)) && decide
         (s.domState d = 3) && decide (far) && decide (3 ≤ (s.dom d).bad)),
    (let p : Nat := 3;
     let dnum : Nat := 5;
     let gm : Nat := 77;
     let rx : Nat := 400;
     let origin : Int := 0;
     let s : State := ((rl.put (domA 0 0) 31 31 1).put (domA 0 0) 6 0 5 |>.put (domA 0 0) 19 16 8|>.setDomState 0 3
         |>.put (timA 0x84) 13 0 100) |>.setDom 0
         { Dom.init with sel := some (3, 77), cands := [⟨3, ⟨[1, 2], 77, true⟩, 99⟩], bad := 3 };
     let d : Nat := 0;
     let off : Int := (rx : Int) - s.fld (timA (0xC0 + 4 * p)) 15 0 + (s.dom d).off - (origin + (s.rd (timA (0xD0 +
         4 * p))).toNat);
     let far := 4 * s.fld (timA 0x84) 13 0 < off.natAbs;
     decide (p < 4) && decide (s.domFor p dnum = some d) && decide ((s.dom d).sel = some (p, gm)) && decide
         (s.domState d = 3) && decide ((¬far ∨ (s.dom d).bad < 3))),
    (let p : Nat := 3;
     let dnum : Nat := 5;
     let gm : Nat := 77;
     let rx : Nat := 401;
     let origin : Int := 0;
     let s : State := ((rl.put (domA 0 0) 31 31 1).put (domA 0 0) 6 0 5 |>.put (domA 0 0) 19 16 8|>.setDomState 0 3
         |>.put (timA 0x84) 13 0 100) |>.setDom 0
         { Dom.init with sel := some (3, 77), cands := [⟨3, ⟨[1, 2], 77, true⟩, 99⟩], bad := 2 };
     let d : Nat := 0;
     let off : Int := (rx : Int) - s.fld (timA (0xC0 + 4 * p)) 15 0 + (s.dom d).off - (origin + (s.rd (timA (0xD0 +
         4 * p))).toNat);
     let far := 4 * s.fld (timA 0x84) 13 0 < off.natAbs;
     decide (p < 4) && decide (s.domFor p dnum = some d) && decide ((s.dom d).sel = some (p, gm)) && decide
         (s.domState d = 3) && decide ((¬far ∨ (s.dom d).bad < 3)))].all id = true := by
  decide +kernel

theorem witness_MasterSelection : [
    (let p : Nat := 3;
     let dnum : Nat := 5;
     let s : State := ((rl.put (domA 0 0) 31 31 1).put (domA 0 0) 6 0 5 |>.put (domA 0 0) 19 16 8|>.setDomState 0 1
         |>.put (timA 0x84) 13 0 100) |>.setDom 0 { Dom.init with sel := some (3, 77) };
     let d : Nat := 0;
     decide (p < 4) && decide (s.domFor p dnum = some d)),
    (let p : Nat := 3;
     let dnum : Nat := 5;
     let s : State := ((rl.put (domA 0 0) 31 31 1).put (domA 0 0) 6 0 5 |>.put (domA 0 0) 19 16 8|>.setDomState 0 2
         |>.put (timA 0x84) 13 0 100) |>.setDom 0
         { Dom.init with sel := some (3, 77), cands := [⟨3, ⟨[1, 2], 77, true⟩, 99⟩] };
     let d : Nat := 0;
     decide (p < 4) && decide (s.domFor p dnum = some d)),
    (let d : Nat := 0;
     let p : Nat := 3;
     let g : Nat := 77;
     let s : State :=
         { ((rl.put (domA 0 0) 31 31 1).put (domA 0 0) 6 0 5 |>.put (domA 0 0) 19 16 8|>.setDomState 0 2 |>.put (timA 0x84) 13 0 100) |>.setDom 0 { Dom.init with sel := some (3, 77), cands := [⟨3, ⟨[1, 2], 77, true⟩, 99⟩], syncDue := 50 } with clk := { Clk.init with ref := 50 } };
     decide (d < 2) && decide (2 ≤ s.domState d) && decide ((s.dom d).sel = some (p, g)) && decide (((s.dom
         d).syncDue ≤ s.clk.ref ∨ s.clk.live = false ∨ s.timeAt (s.dom d).syncDue ≤ s.clk.nextEdge))),
    (let d : Nat := 0;
     let p : Nat := 3;
     let g : Nat := 77;
     let s : State :=
         { ((rl.put (domA 0 0) 31 31 1).put (domA 0 0) 6 0 5 |>.put (domA 0 0) 19 16 8|>.setDomState 0 3 |>.put (timA 0x84) 13 0 100) |>.setDom 0 { Dom.init with sel := some (3, 77), cands := [⟨3, ⟨[1, 2], 77, true⟩, 99⟩], syncDue := 50 } with clk := { Clk.init with ref := 50 } };
     decide (d < 2) && decide (2 ≤ s.domState d) && decide ((s.dom d).sel = some (p, g)) && decide (((s.dom
         d).syncDue ≤ s.clk.ref ∨ s.clk.live = false ∨ s.timeAt (s.dom d).syncDue ≤ s.clk.nextEdge))),
    (let d : Nat := 0;
     let p : Nat := 3;
     let s : State :=
         { ((rl.put (domA 0 0) 31 31 1).put (domA 0 0) 6 0 5 |>.put (domA 0 0) 19 16 8|>.setDomState 0 1 |>.put (timA 0x84) 13 0 100) |>.setDom 0 { Dom.init with sel := some (3, 77), cands := [⟨3, ⟨[1, 2], 77, true⟩, 99⟩] } with clk := { Clk.init with ref := 99 } };
     decide (d < 2) && decide (p < 4) && decide (s.domState d ≠ 0)),
    (let d : Nat := 0;
     let p : Nat := 2;
     let s : State :=
         { ((rl.put (domA 0 0) 31 31 1).put (domA 0 0) 6 0 5 |>.put (domA 0 0) 19 16 8|>.setDomState 0 1 |>.put (timA 0x84) 13 0 100) |>.setDom 0 { Dom.init with sel := some (3, 77), cands := [⟨3, ⟨[1, 2], 77, true⟩, 99⟩] } with clk := { Clk.init with ref := 98 } };
     decide (d < 2) && decide (p < 4) && decide (s.domState d ≠ 0))].all id = true := by
  decide +kernel

theorem witness_LinkDelay : [
    (let p : Nat := 3;
     let s : State := { rl with saf := { Saf.init with computed := true } };
     decide (p < 4) && decide (s.mayTransmit = true)),
    (let p : Nat := 3;
     let seqId : Nat := 5;
     let t1 : Nat := 100;
     let s : State := rl.setEp 3 { Eth.init with pdOut := some (5, 100) };
     decide (p < 4) && decide ((s.ep p).pdOut = some (seqId, t1)) && decide (s.inReplay = false)),
    (let p : Nat := 3;
     let seqId : Nat := 5;
     let t1 : Nat := 100;
     let t2 : Nat := 200;
     let t4 : Nat := 400;
     let s : State := rl.setEp 3 { Eth.init with pdOut := some (5, 100), pdResp := some (200, 400) };
     decide (p < 4) && decide ((s.ep p).pdOut = some (seqId, t1)) && decide ((s.ep p).pdResp = some (t2, t4)) &&
         decide (s.inReplay = false))].all id = true := by
  decide +kernel

theorem witness_ActiveDomain : [
    (let s : State := ((rl.put (domA 0 0) 31 31 1).put (domA 0 0) 6 0 5 |>.put (domA 0 0) 19 16 8|>.setDomState 0 3
        |>.put (timA 0x84) 13 0 100) |>.setDom 0
        { Dom.init with sel := some (3, 77), cands := [⟨3, ⟨[1, 2], 77, true⟩, 99⟩], off := -5 };
     let d : Nat := 0;
     decide (s.activeDom = none) && decide (s.flag (timA 0x88) 2 = false) && decide (s.lockedDom = some d)),
    (let s : State :=
        { (((rl.put (timA 0x88) 1 0 3).put (timA 0x80) 31 16 1 |>.setDomState 0 3)) with clk := { Clk.init with goodSince := some 7 } };
     let u : State := rr s 10000000007;
     let g : Nat := 7;
     decide (s.clk.goodSince = some g) && decide (s.reachRef (g + 10000000000) = some u) && decide (u.activeDom =
         some (1 - u.primary)) && decide (u.domState u.primary = 3) && decide (u.offsetOk u.primary = true)),
    (let s : State :=
        { (rl.put (timA 0x88) 2 2 1).put (timA 0x80) 15 8 3 with clk := { Clk.init with holdSince := 7 } };
     let u : State := rr s 3000000007;
     decide (s.flag (timA 0x88) 2 = true) && decide (s.reachRef (s.clk.holdSince + s.fld (timA 0x80) 15 8 *
         1000000000) = some u) && decide (u.lockedDom = none))].all id = true := by
  decide +kernel

theorem witness_ControlCycle : [
    (let s : State := { rl with clk := { Clk.init with live := true } };
     let u : State := (s.reach s.cutoff).getD rl;
     decide (s.clk.live = true) && decide (s.clk.win = .collecting) && decide (s.reach s.cutoff = some u)),
    (let s : State :=
        { (rl.setAx 63 { Axis.init with staged := some (⟨0x3F800000, [1], false, false, false⟩ : StagedCmd) }) with clk := { Clk.init with live := true, win := .computed, t := 900000 } };
     let u : State := (s.reach (s.clk.nextEdge - 5000)).getD rl;
     let a := 63;
     let c := (⟨0x3F800000, [1], false, false, false⟩ : StagedCmd);
     decide (s.clk.live = true) && decide (s.clk.win = .computed) && decide (s.reach (s.clk.nextEdge - 5000) = some
         u) && decide (a < 64) && decide ((u.ax a).staged = some c) && decide (c.compared = false)),
    (let s : State :=
        { (rl.setAx 63 { Axis.init with staged := some (⟨0x3F800000, [1], false, false, false⟩ : StagedCmd) }) with clk := { Clk.init with live := true, win := .computed, t := 900000 } };
     let a : Nat := 63;
     let u : F32 := (0x3F800000 : F32);
     let c : StagedCmd := (⟨0x3F800000, [1], false, false, false⟩ : StagedCmd);
     let o := 0x1230;
     decide (a < 64) && decide ((s.ax a).staged = some c) && decide (c.compared = false) && decide (s.clk.win =
         .computed) && decide (s.clk.t + 5000 ≤ s.clk.nextEdge) && decide (fisNan c.u = false) && decide (fisNan u =
         false) && decide (fisNan (fabs (fsub c.u u)) = false) && decide (flt (s.fr a 0x70) (fabs (fsub c.u u)) =
         false) && decide (o < 0x100000)),
    (let s : State :=
        { (rl.setAx 63 { Axis.init with staged := some (⟨0x3F800000, [1], false, false, false⟩ : StagedCmd) }) with clk := { Clk.init with live := true, win := .computed, t := 900000 } };
     let a : Nat := 63;
     let u : F32 := (0x3F800000 : F32);
     let c : StagedCmd := (⟨0x3F800000, [1], false, false, false⟩ : StagedCmd);
     decide (a < 64) && decide ((s.ax a).staged = some c) && decide (c.compared = false) && decide (s.clk.win =
         .computed) && decide (s.clk.t + 5000 ≤ s.clk.nextEdge) && decide (fisNan c.u = false) && decide (fisNan u =
         false) && decide (fisNan (fabs (fsub c.u u)) = false) && decide (flt (s.fr a 0x70) (fabs (fsub c.u u)) =
         false)),
    (let s : State :=
        { (rl.setAx 63 { Axis.init with staged := some (⟨0x3F800000, [1], false, false, false⟩ : StagedCmd) }) with clk := { Clk.init with live := true, win := .computed, t := 900000 } };
     let a : Nat := 63;
     let u : F32 := (0x40000000 : F32);
     let c : StagedCmd := (⟨0x3F800000, [1], false, false, false⟩ : StagedCmd);
     decide (a < 64) && decide ((s.ax a).staged = some c) && decide (c.compared = false) && decide (s.clk.win =
         .computed) && decide (s.clk.t + 5000 ≤ s.clk.nextEdge) && decide ((fisNan c.u = true ∨ fisNan u = true ∨
         flt (s.fr a 0x70) (fabs (fsub c.u u)) = true))),
    (let s : State :=
        { (rl.setAx 63 { Axis.init with staged := some (⟨0x3F800000, [1], false, false, false⟩ : StagedCmd) }) with clk := { Clk.init with live := true, win := .computed, t := 900000 } };
     let a : Nat := 63;
     let u : F32 := (0x7FC00000 : F32);
     let c : StagedCmd := (⟨0x3F800000, [1], false, false, false⟩ : StagedCmd);
     decide (a < 64) && decide ((s.ax a).staged = some c) && decide (c.compared = false) && decide (s.clk.win =
         .computed) && decide (s.clk.t + 5000 ≤ s.clk.nextEdge) && decide ((fisNan c.u = true ∨ fisNan u = true ∨
         flt (s.fr a 0x70) (fabs (fsub c.u u)) = true)))].all id = true := by
  decide +kernel

theorem witness_LatchedPackageStop : [
    (let s : State := { rl with clk := { Clk.init with live := true } };
     let u : State := (s.reach (s.cutoff + 10000)).getD rl;
     decide (s.clk.live = true) && decide (s.clk.win = .collecting) && decide (s.reach (s.cutoff + 10000) = some u)),
    (let s : State := { rl with clk := { Clk.init with live := true } };
     let u : State := (s.reach (s.cutoff + 18000)).getD rl;
     decide (s.clk.live = true) && decide (s.clk.win = .collecting) && decide (s.reach (s.cutoff + 18000) = some u)),
    (let s : State :=
        { rl.setEp 1 { Eth.init with q := [⟨7, some 500, false, .axis 63, [1]⟩] } with clk := { Clk.init with live := true } };
     let u : State := (s.reach ((s.ethLate 63).getD 0)).getD rl;
     let a : Nat := 63;
     let due : Nat := (s.ethLate 63).getD 0;
     decide (a < 64) && decide (s.ethLate a = some due) && decide (s.reach due = some u)),
    (let s : State := { rl.setAxState 63 2 with clk := { Clk.init with live := true, win := .computed } };
     let u : State := (s.reach (s.clk.nextEdge - 5000)).getD rl;
     let a : Nat := 63;
     decide (a < 64) && decide (s.ethLate a = none) && decide (s.clk.live = true) && decide (s.axOn a = true) &&
         decide (s.clk.win = .computed) && decide ((s.ax a).staged = none) && decide (s.reach (s.clk.nextEdge -
         5000) = some u)),
    (let s : State := { rl with saf := { Saf.init with kick := some (9, 1000) } };
     let u : State := rr s 151001;
     let want : Nat := 9;
     let last : Nat := 1000;
     decide (s.saf.kick = some (want, last)) && decide (s.reachRef (last + 150001) = some u)),
    (let s : State := rl;
     let g : Nat := 3;
     let ch : Nat := 1;
     decide (g < 4) && decide (ch < 2) && decide (s.isReady = true)),
    (let s : State := rl;
     decide (s.isReady = true) && decide (s.hm.pilots.all (fun p => p.state = 0) = true) && decide (s.saf.kick =
         none)),
    (let s : State := { rl with saf := { Saf.init with kick := some (9, 1000) } };
     let u : State := rr s (1000 + 100000);
     let value : Nat := 8;
     let after : Nat := 100000;
     let want : Nat := 9;
     let last : Nat := 1000;
     decide (s.isReady = true) && decide (s.hm.pilots.all (fun p => p.state = 0) = true) && decide (s.saf.kick =
         some (want, last)) && decide (s.reachRef (last + after) = some u) && decide ((value % 256 ≠ want ∨
         u.clk.ref < last + 50000 ∨ last + 150000 < u.clk.ref))),
    (let s : State := { rl with saf := { Saf.init with kick := some (9, 1000) } };
     let u : State := rr s (1000 + 150001);
     let value : Nat := 9;
     let after : Nat := 150001;
     let want : Nat := 9;
     let last : Nat := 1000;
     decide (s.isReady = true) && decide (s.hm.pilots.all (fun p => p.state = 0) = true) && decide (s.saf.kick =
         some (want, last)) && decide (s.reachRef (last + after) = some u) && decide ((value % 256 ≠ want ∨
         u.clk.ref < last + 50000 ∨ last + 150000 < u.clk.ref))),
    (let s : State := { rl with saf := { Saf.init with kick := some (9, 1000) } };
     let u : State := rr s (1000 + 50000);
     let value : Nat := 265;
     let after : Nat := 50000;
     let want : Nat := 9;
     let last : Nat := 1000;
     decide (s.isReady = true) && decide (s.hm.pilots.all (fun p => p.state = 0) = true) && decide (s.saf.kick =
         some (want, last)) && decide (s.reachRef (last + after) = some u) && decide (value % 256 = want) && decide
         (last + 50000 ≤ u.clk.ref) && decide (u.clk.ref ≤ last + 150000)),
    (let s : State := { rl with saf := { Saf.init with kick := some (9, 1000) } };
     let u : State := rr s (1000 + 150000);
     let value : Nat := 265;
     let after : Nat := 150000;
     let want : Nat := 9;
     let last : Nat := 1000;
     decide (s.isReady = true) && decide (s.hm.pilots.all (fun p => p.state = 0) = true) && decide (s.saf.kick =
         some (want, last)) && decide (s.reachRef (last + after) = some u) && decide (value % 256 = want) && decide
         (last + 50000 ≤ u.clk.ref) && decide (u.clk.ref ≤ last + 150000))].all id = true := by
  decide +kernel

theorem witness_MappedGroupsStop : [
    (let s : State := ((rl.put (safSt 47 0) 31 31 1).put (safSt 47 4) 31 16 3).setSst 47
        { SafSt.init with last := some 5 };
     let u : State := rr s 300005;
     let st : Nat := 47;
     let last : Nat := 5;
     decide (st < 48) && decide ((s.sst st).last = some last) && decide (s.flag (safSt st 0) 31 = true) && decide
         (s.reachRef (last + s.fld (safSt st 4) 31 16 * 100000) = some u)),
    (let s : State := (rl.put (safA 0xC) 15 0 2).setStrm 47
        { Strm.init with wait := [{ smp 4 .waiting with done := 9 }] };
     let u : State := (s.reach 2010).getD rl;
     let st : Nat := 47;
     let x : Sample := { smp 4 .waiting with done := 9 };
     decide (st < 48) && decide ((s.strm st).wait.find? (fun x => decide (x.done ≠ 0)) = some x) && decide (s.reach
         (x.done + s.fld (safA 0xC) 15 0 * 1000 + 1) = some u)),
    (let s : State :=
        { (rl.put (safA 0x10) 31 31 1).put (safA 0x10) 27 24 1 with saf := { Saf.init with percDue := 1 } };
     decide (0 < s.saf.percDue) && decide (s.flag (safA 0x10) 31 = true) && decide (s.fld (safA 0x10) 27 24 ≤
         s.saf.percMiss + 1)),
    (let s : State := (((rl.put (safA 0x14) 31 31 1).put (safA 0x14) 15 0 2).setAxState 63 2 |>.put (ctlA 63 0x104)
        31 28 9).setAx 63 { Axis.init with segRef := some 5 };
     let u : State := rr s 2000005;
     let a : Nat := 63;
     let since : Nat := 5;
     decide (a < 64) && decide ((s.ax a).segRef = some since) && decide (s.flag (safA 0x14) 31 = true) && decide
         (s.axState a = 2) && decide (s.fld (ctlA a 0x104) 31 28 = 9) && decide (s.reachRef (since + s.fld (safA
         0x14) 15 0 * 1000000) = some u)),
    (let s : State := (rl.put (safA 0x5C) 31 31 1).put (safA 0x60) 31 30 3;
     let i : Nat := 15;
     let ch : Nat := 1;
     let level : Bool := false;
     decide (i < 16) && decide (ch < 2) && decide (s.siLevel i ch ≠ level) && decide (s.inReplay = false) && decide
         (s.isReady = true) && decide (s.siOn i = true) && decide (s.siRun i = true)),
    (let s : State :=
        { (rl.put (safA 0x5C) 31 31 1).put (safA 0x5C) 9 0 2 with saf := { Saf.init with discSince := [(15, 6)] } };
     let u : State := rr s 2000006;
     let i : Nat := 15;
     let since : Nat := 5;
     decide (i < 16) && decide (tget 0 s.saf.discSince i = since + 1) && decide (s.siOn i = true) && decide
         (s.reachRef (since + s.fld (safA (0x20 + 4 * i)) 9 0 * 1000000 + 1) = some u))].all id = true := by
  decide +kernel

theorem witness_TestPulses : [
    (let s : State :=
        { ((rl.put (ssoA 3 0xC) 31 31 1).put (ssoA 3 0) 30 30 1) with saf := { Saf.init with pulses := [(7, ⟨false, 1000⟩)] } };
     let u : State := rr s 1000;
     let g : Nat := 3;
     let ch : Nat := 1;
     let due : Nat := 1000;
     decide (g < 4) && decide (ch < 2) && decide (s.flag (ssoA g 0xC) 31 = true) && decide (s.flag (ssoA g 0) 30 =
         true) && decide (tget Pulse.init s.saf.pulses (2 * g + ch) = ⟨false, due⟩) && decide (0 < due) && decide
         (s.reachRef due = some u)),
    (let s : State :=
        { ((rl.put (ssoA 3 0xC) 31 31 1).put (ssoA 3 0) 30 30 1) with saf := { Saf.init with pulses := [(7, ⟨true, 1000⟩)] } };
     let u : State := rr s 1000;
     let g : Nat := 3;
     let ch : Nat := 1;
     let due : Nat := 1000;
     decide (g < 4) && decide (ch < 2) && decide (tget Pulse.init s.saf.pulses (2 * g + ch) = ⟨true, due⟩) && decide
         (s.reachRef due = some u))].all id = true := by
  decide +kernel

theorem witness_RingDescriptors : [
    (let s : State := rl |> put1 (D 0x00 []);
     let r : Nat := 1;
     let d : Inflight := D 0x00 [];
     decide (startsB s r 0x00 d = true)),
    (let s : State := rl |> put1 (D 0x01 [(8, 4, 8191), (12, 1, 1), (14, 2, 31)]);
     let r : Nat := 1;
     let d : Inflight := D 0x01 [(8, 4, 8191), (12, 1, 1), (14, 2, 31)];
     decide (startsB s r 0x01 d = true) && decide (le d.bytes 8 4 ≠ 0) && decide (le d.bytes 8 4 < 8192) && decide
         ((s.ringOn (le d.bytes 8 4) && s.ringBusy (le d.bytes 8 4)) = false)),
    (let s : State := rl |> put1 (D 0x01 [(8, 4, 1), (12, 1, 0), (14, 2, 5)]);
     let r : Nat := 1;
     let d : Inflight := D 0x01 [(8, 4, 1), (12, 1, 0), (14, 2, 5)];
     decide (startsB s r 0x01 d = true) && decide (le d.bytes 8 4 ≠ 0) && decide (le d.bytes 8 4 < 8192) && decide
         ((s.ringOn (le d.bytes 8 4) && s.ringBusy (le d.bytes 8 4)) = false)),
    (let s : State := ((rl).put 0x100 0 0 1).put 0x100 28 16 1 |> put1 (D 0x04 []);
     let r : Nat := 1;
     let d : Inflight := D 0x04 [];
     decide (startsB s r 0x04 d = true) && decide (s.cfgOwns r = true) && decide (s.cfgCommitting = false)),
    (let s : State := ((rl).put 0x100 1 0 3).put 0x100 28 16 1 |> put1 (D 0x04 []);
     let r : Nat := 1;
     let d : Inflight := D 0x04 [];
     decide (startsB s r 0x04 d = true) && decide (s.cfgOwns r = true) && decide (s.cfgCommitting = true)),
    (let s : State := rl |> put1 (D 0x04 []);
     let r : Nat := 1;
     let d : Inflight := D 0x04 [];
     decide (startsB s r 0x04 d = true) && decide (s.cfgOwns r = false) && decide (s.cfg.timedOut ≠ some r)),
    (let s : State := ((rl).put 0x100 0 0 1).put 0x100 28 16 2 |> put1 (D 0x04 []);
     let r : Nat := 1;
     let d : Inflight := D 0x04 [];
     decide (startsB s r 0x04 d = true) && decide (s.cfgOwns r = false) && decide (s.cfg.timedOut ≠ some r)),
    (let s : State := { rl with cfg := { Cfg.init with timedOut := some 1 } } |> put1 (D 4 []);
     let r : Nat := 1;
     let d : Inflight := D 0x04 [];
     decide (startsB s r 0x04 d = true) && decide (s.cfgOwns r = false) && decide (s.cfg.timedOut = some r))].all id = true := by
  decide +kernel

theorem witness_AxisDescriptors : [
    (let s : State := rl |> put1 (D 0x22 [(8, 1, 63), (9, 1, 1)]);
     let r : Nat := 1;
     let d : Inflight := D 0x22 [(8, 1, 63), (9, 1, 1)];
     decide (startsB s r 0x22 d = true)),
    (let s : State := ((rl).setAxState 9 2).put (ctlA 9 0x104) 31 0 (0xA0000000 + 77) |> put1 (D 0x20 [(8, 1, 9),
        (9, 1, 3)]);
     let r : Nat := 1;
     let d : Inflight := D 0x20 [(8, 1, 9), (9, 1, 3)];
     let a := le d.bytes 8 1;
     let q := 77;
     decide (startsB s r 0x20 d = true) && decide (le d.bytes 9 1 = 3) && decide (s.axState a ≠ 0) && decide
         (s.owner a = some (2, q))),
    (let s : State := ((rl).setAxState 9 2).put (ctlA 9 0x104) 31 0 (0x90000000 + 77) |> put1 (D 0x20 [(8, 1, 9),
        (9, 1, 3)]);
     let r : Nat := 1;
     let d : Inflight := D 0x20 [(8, 1, 9), (9, 1, 3)];
     let a := le d.bytes 8 1;
     decide (startsB s r 0x20 d = true) && decide (le d.bytes 9 1 = 3) && decide (s.axState a ≠ 0) && decide
         (((s.owner a).all (fun o => o.1 != 2)) = true)),
    (let s : State := rl |> put1 (D 0x20 [(8, 1, 0), (9, 1, 3)]);
     let r : Nat := 1;
     let d : Inflight := D 0x20 [(8, 1, 0), (9, 1, 3)];
     let a := le d.bytes 8 1;
     decide (startsB s r 0x20 d = true) && decide (le d.bytes 9 1 = 3) && decide (s.axState a = 0)),
    (let s : State := (rl).setAxState 0 5 |> put1 (D 0x20 [(8, 1, 0), (9, 1, 4)]);
     let r : Nat := 1;
     let d : Inflight := D 0x20 [(8, 1, 0), (9, 1, 4)];
     let a := le d.bytes 8 1;
     decide (startsB s r 0x20 d = true) && decide (le d.bytes 9 1 = 4) && decide (s.axState a = 5)),
    (let s : State := rl |> put1 (D 0x20 [(8, 1, 0), (9, 1, 4)]);
     let r : Nat := 1;
     let d : Inflight := D 0x20 [(8, 1, 0), (9, 1, 4)];
     let a := le d.bytes 8 1;
     decide (startsB s r 0x20 d = true) && decide (le d.bytes 9 1 = 4) && decide (s.axState a ≠ 5)),
    (let s : State := (rl).setAxState 0 2 |> put1 (D 0x20 [(8, 1, 0), (9, 1, 4)]);
     let r : Nat := 1;
     let d : Inflight := D 0x20 [(8, 1, 0), (9, 1, 4)];
     let a := le d.bytes 8 1;
     decide (startsB s r 0x20 d = true) && decide (le d.bytes 9 1 = 4) && decide (s.axState a ≠ 5)),
    (let s : State := (rl).setAxState 5 4 |> put1 (D 0x20 [(8, 1, 5), (9, 1, 5)]);
     let r : Nat := 1;
     let d : Inflight := D 0x20 [(8, 1, 5), (9, 1, 5)];
     let a := le d.bytes 8 1;
     decide (startsB s r 0x20 d = true) && decide (le d.bytes 9 1 = 5) && decide (s.axState a = 4) && decide
         (s.stopAsserted a = false)),
    (let s : State := ((rl).setAxState 5 4).put (safA 0) 23 23 1 |> put1 (D 0x20 [(8, 1, 5), (9, 1, 5)]);
     let r : Nat := 1;
     let d : Inflight := D 0x20 [(8, 1, 5), (9, 1, 5)];
     let a := le d.bytes 8 1;
     decide (startsB s r 0x20 d = true) && decide (le d.bytes 9 1 = 5) && decide (s.axState a = 4) && decide
         (s.stopAsserted a = true)),
    (let s : State := (rl).setAx 5 { Axis.init with trc := [(1,[2,3]),(2,[4,5])] } |> put1 (D 0x23 [(8, 1, 5), (12,
        4, 4096)]);
     let r : Nat := 1;
     let d : Inflight := D 0x23 [(8, 1, 5), (12, 4, 4096)];
     decide (startsB s r 0x23 d = true)),
    (let s : State := (rl).setAx 5 { Axis.init with trc := [(1,[2,3]),(2,[4,5])] } |> put1 (D 0x23 [(8, 1, 5), (12,
        4, 40)]);
     let r : Nat := 1;
     let d : Inflight := D 0x23 [(8, 1, 5), (12, 4, 40)];
     decide (startsB s r 0x23 d = true))].all id = true := by
  decide +kernel

theorem witness_SafetyDescriptors : [
    (let s : State := ((rl).put (timA 0x110) 0 0 1 |>.put (safA 0) 27 24 0xF |>.put (ssoA 2 0xC) 31 31 1 |>.put
        (ssoA 2 0xC) 1 0 3 |> put1 { D 0x28 [(8,1,4)] with fetch := ⟨0,0,15,[0,0,1,0]⟩ }) |> fun s =>
        { s with saf := { s.saf with stops := [0,0,1,0] } };
     let r : Nat := 1;
     let d : Inflight := { D 0x28 [(8,1,4)] with fetch := ⟨0,0,15,[0,0,1,0]⟩ };
     let g := 2;
     decide (startsB s r 0x28 d = true) && decide (((List.range 4).all (fun g => !((le d.bytes 8 1).testBit g) ||
         d.fetch.may.testBit g) = true)) && decide (g < 4) && decide ((le d.bytes 8 1).testBit g = true) && decide
         (s.stopped.testBit g = true) && decide (s.saf.stops.getD g 0 = d.fetch.stops.getD g 0)),
    (let s : State := ((rl).put (timA 0x110) 0 0 1 |>.put (safA 0) 27 24 0xF |>.put (ssoA 2 0xC) 31 31 1 |>.put
        (ssoA 2 0xC) 1 0 3 |> put1 { D 0x28 [(8,1,4)] with fetch := ⟨0,0,4,[0,0,0,0]⟩ }) |> fun s =>
        { s with saf := { s.saf with stops := [0,0,1,0] } };
     let r : Nat := 1;
     let d : Inflight := { D 0x28 [(8,1,4)] with fetch := ⟨0,0,4,[0,0,0,0]⟩ };
     let g := 2;
     decide (startsB s r 0x28 d = true) && decide (((List.range 4).all (fun g => !((le d.bytes 8 1).testBit g) ||
         d.fetch.may.testBit g) = true)) && decide (g < 4) && decide ((le d.bytes 8 1).testBit g = true) && decide
         (s.stopped.testBit g = true) && decide (s.saf.stops.getD g 0 ≠ d.fetch.stops.getD g 0)),
    (let s : State := ((rl).put (timA 0x110) 0 0 1 |>.put (safA 0) 27 24 0xF |>.put (ssoA 2 0xC) 31 31 1 |>.put
        (ssoA 2 0xC) 1 0 3 |> put1 { D 0x28 [(8,1,15)] with fetch := ⟨0,0,15,[]⟩ }) |> fun s =>
        { s with saf := { s.saf with stops := [0,0,3,0] } };
     let r : Nat := 1;
     let d : Inflight := { D 0x28 [(8,1,15)] with fetch := ⟨0,0,15,[]⟩ };
     decide (startsB s r 0x28 d = true) && decide (((List.range 4).all (fun g => !((le d.bytes 8 1).testBit g) ||
         d.fetch.may.testBit g) = true))),
    (let s : State := ((rl).put (timA 0x110) 0 0 1 |>.put (safA 0) 27 24 0xF |>.put (ssoA 2 0xC) 31 31 1 |>.put
        (ssoA 2 0xC) 1 0 3 |> put1 { D 0x28 [(8,1,5)] with fetch := ⟨0,0,5,[0,0,1,0]⟩ }) |> fun s =>
        { s with saf := { s.saf with stops := [0,0,1,0] } };
     let r : Nat := 1;
     let d : Inflight := { D 0x28 [(8,1,5)] with fetch := ⟨0,0,5,[0,0,1,0]⟩ };
     decide (startsB s r 0x28 d = true) && decide (((List.range 4).all (fun g => !((le d.bytes 8 1).testBit g) ||
         d.fetch.may.testBit g) = true))),
    (let s : State := ((rl).put (timA 0x110) 0 0 1 |>.put (safA 0) 27 24 0xF |>.put (ssoA 2 0xC) 31 31 1 |>.put
        (ssoA 2 0xC) 1 0 3 |> put1 { D 0x28 [(8,1,3)] with fetch := ⟨0,0,1,[]⟩ }) |> fun s =>
        { s with saf := { s.saf with stops := [0,0,0,0] } };
     let r : Nat := 1;
     let d : Inflight := { D 0x28 [(8,1,3)] with fetch := ⟨0,0,1,[]⟩ };
     let g := 1;
     decide (g < 4) && decide (startsB s r 0x28 d = true) && decide ((le d.bytes 8 1).testBit g = true) && decide
         (d.fetch.may.testBit g = false)),
    (let s : State := ((rl).put (timA 0x110) 0 0 1 |>.put (safA 0) 27 24 0xF |>.put (ssoA 2 0xC) 31 31 1 |>.put
        (ssoA 2 0xC) 1 0 3 |> put1 { D 0x28 [(8,1,15)] with fetch := ⟨0,0,7,[]⟩ }) |> fun s =>
        { s with saf := { s.saf with stops := [0,0,0,0] } };
     let r : Nat := 1;
     let d : Inflight := { D 0x28 [(8,1,15)] with fetch := ⟨0,0,7,[]⟩ };
     let g := 3;
     decide (g < 4) && decide (startsB s r 0x28 d = true) && decide ((le d.bytes 8 1).testBit g = true) && decide
         (d.fetch.may.testBit g = false)),
    (let s : State := rl |> put1 (D 0x29 [(8, 1, 47), (12, 4, 15), (32, 8, 55)]);
     let r : Nat := 1;
     let d : Inflight := D 0x29 [(8, 1, 47), (12, 4, 15), (32, 8, 55)];
     let l := leBytes 4 13 ++ leBytes 8 0x332211 ++ leBytes 3 0;
     let well := packetListOk l.length (l.take (le d.bytes 12 4));
     decide (startsB s r 0x29 d = true) && decide (well = false)),
    (let s : State := rl |> put1 (D 0x29 [(8, 1, 47), (12, 4, 16), (32, 8, 55)]);
     let r : Nat := 1;
     let d : Inflight := D 0x29 [(8, 1, 47), (12, 4, 16), (32, 8, 55)];
     let l := leBytes 4 3 ++ leBytes 8 0x332211 ++ leBytes 4 0;
     let o := List.replicate 600 (9 : Byte);
     let st := le d.bytes 8 1;
     let well := packetListOk l.length (l.take (le d.bytes 12 4));
     let g : Golden := ⟨packetList l.length (l.take (le d.bytes 12 4)), o.take 512, slice d.bytes 32 16⟩;
     decide (startsB s r 0x29 d = true) && decide (well = true) && decide (s.goldenUsed st + (g.packets.map
         List.length).sum + g.roi.length ≤ 48 * 2 ^ 20))].all id = true := by
  decide +kernel

theorem witness_TableDescriptors : [
    (let s : State := (rl).put 0x208 1 0 3 |> put1 (D 0x18 [(8, 1, 1), (12, 4, 64)]);
     let r : Nat := 1;
     let d : Inflight := D 0x18 [(8, 1, 1), (12, 4, 64)];
     let b := leBytes 4 0 ++ leBytes 4 2 ++ List.replicate 100 (1 : Byte);
     let n := le d.bytes 8 1;
     let running := (s.flag 0x208 0 && decide (s.fld 0x208 1 1 = n)) || decide (s.comp.cycNext = some (some n));
     decide (startsB s r 0x18 d = true) && decide (0 < le b 4 4) && decide (le b 4 4 ≤ 512) && decide (32 + 16 * le
         b 4 4 ≤ le d.bytes 12 4) && decide (n < 2) && decide (running = true)),
    (let s : State := (rl).put 0x208 1 0 3 |> put1 (D 0x18 [(8, 1, 0), (12, 4, 64)]);
     let r : Nat := 1;
     let d : Inflight := D 0x18 [(8, 1, 0), (12, 4, 64)];
     let b := leBytes 4 0 ++ leBytes 4 2 ++ List.replicate 100 (1 : Byte);
     let n := le d.bytes 8 1;
     let running := (s.flag 0x208 0 && decide (s.fld 0x208 1 1 = n)) || decide (s.comp.cycNext = some (some n));
     decide (startsB s r 0x18 d = true) && decide (0 < le b 4 4) && decide (le b 4 4 ≤ 512) && decide (32 + 16 * le
         b 4 4 ≤ le d.bytes 12 4) && decide (n < 2) && decide (running = false)),
    (let s : State := rl |> put1 (D 0x18 [(8, 1, 1), (12, 4, 64)]);
     let r : Nat := 1;
     let d : Inflight := D 0x18 [(8, 1, 1), (12, 4, 64)];
     let b := leBytes 4 0 ++ leBytes 4 2 ++ List.replicate 100 (1 : Byte);
     let n := le d.bytes 8 1;
     let running := (s.flag 0x208 0 && decide (s.fld 0x208 1 1 = n)) || decide (s.comp.cycNext = some (some n));
     decide (startsB s r 0x18 d = true) && decide (0 < le b 4 4) && decide (le b 4 4 ≤ 512) && decide (32 + 16 * le
         b 4 4 ≤ le d.bytes 12 4) && decide (n < 2) && decide (running = false)),
    (let s : State := rl |> put1 (D 0x40 [(8, 1, 7), (12, 4, 4096)]);
     let r : Nat := 1;
     let d : Inflight := D 0x40 [(8, 1, 7), (12, 4, 4096)];
     decide (startsB s r 0x40 d = true) && decide ((le d.bytes 8 1 = 7 ∨ s.flag 4 (8 + le d.bytes 8 1) = true))),
    (let s : State := (rl).put 4 10 10 1 |> put1 (D 0x40 [(8, 1, 2), (12, 4, 4096)]);
     let r : Nat := 1;
     let d : Inflight := D 0x40 [(8, 1, 2), (12, 4, 4096)];
     decide (startsB s r 0x40 d = true) && decide ((le d.bytes 8 1 = 7 ∨ s.flag 4 (8 + le d.bytes 8 1) = true))),
    (let s : State := rl |> put1 (D 0x10 [(8, 4, 64)]);
     let r : Nat := 1;
     let d : Inflight := D 0x10 [(8, 4, 64)];
     let p := ⟨[],[],[],[]⟩;
     decide (startsB s r 0x10 d = true) && decide (s.loss = none) && decide (pkgCheck p ≠ .success)),
    (let s : State := cd |> put1 (D 0x10 [(8, 4, 64)]);
     let r : Nat := 1;
     let d : Inflight := D 0x10 [(8, 4, 64)];
     let p := P1;
     let u := (((s.begin r d.num).retain p).getD (s,0)).1;
     let h := (((s.begin r d.num).retain p).getD (s,0)).2;
     decide (startsB s r 0x10 d = true) && decide (s.loss = none) && decide (pkgCheck p = .success) && decide
         ((s.begin r d.num).retain p = some (u, h))),
    (let s : State := rl |> put1 (D 0x14 [(8, 2, 9)]);
     let r : Nat := 1;
     let d : Inflight := D 0x14 [(8, 2, 9)];
     decide (startsB s r 0x14 d = true) && decide (s.loss = none) && decide (s.pkg (le d.bytes 8 2) = none)),
    (let s : State := ((rl).setPkg 2 (some ⟨P1, [], ⟨0, 0, 64⟩⟩)).setJobs [J0] |> put1 (D 0x14 [(8, 2, 2)]);
     let r : Nat := 1;
     let d : Inflight := D 0x14 [(8, 2, 2)];
     let p := ⟨P1, [], ⟨0, 0, 64⟩⟩;
     decide (startsB s r 0x14 d = true) && decide (s.loss = none) && decide (s.pkg (le d.bytes 8 2) = some p) &&
         decide ((∃ j ∈ s.jobs, j.pkg = le d.bytes 8 2))),
    (let s : State := ((rl).setPkg 2 (some ⟨P1, [], ⟨0, 0, 64⟩⟩)).setJobs [{ J0 with pkg := 3 }] |> put1 (D 0x14
        [(8, 2, 2)]);
     let r : Nat := 1;
     let d : Inflight := D 0x14 [(8, 2, 2)];
     let p := ⟨P1, [], ⟨0, 0, 64⟩⟩;
     decide (startsB s r 0x14 d = true) && decide (s.loss = none) && decide (s.pkg (le d.bytes 8 2) = some p) &&
         decide ((∀ j ∈ s.jobs, j.pkg ≠ le d.bytes 8 2))),
    (let s : State := rl |> put1 (D 0x3A [(8, 1, 4), (24, 4, 9), (12, 4, 30)]);
     let r : Nat := 1;
     let d : Inflight := D 0x3A [(8, 1, 4), (24, 4, 9), (12, 4, 30)];
     decide (startsB s r 0x3A d = true) && decide (s.atHost (le d.bytes 8 1) (le d.bytes 24 4) = none)),
    (let s : State := (rl).setStrm 47 { Strm.init with wait := [smp 4 (.offloaded 1)] } |> put1 (D 0x3A [(8, 1, 47),
        (24, 4, 4), (12, 4, 0)]);
     let r : Nat := 1;
     let d : Inflight := D 0x3A [(8, 1, 47), (24, 4, 4), (12, 4, 0)];
     let x := smp 4 (.offloaded 1);
     let due := 0 + s.fld (ingA 47 0x18) 31 16 * 100000;
     let m := s.sampleDims (le d.bytes 8 1) x;
     decide (startsB s r 0x3A d = true) && decide (s.atHost (le d.bytes 8 1) (le d.bytes 24 4) = some (x, due)) &&
         decide (s.clk.ref ≤ due) && decide (le d.bytes 12 4 = 3 * m.1 * m.2))].all id = true := by
  decide +kernel

theorem witness_FrameDescriptors : [
    (let s : State := rl |> put1 (D 0x30 [(8, 1, 3), (9, 1, 6), (12, 4, 5)]);
     let r : Nat := 1;
     let d : Inflight := D 0x30 [(8, 1, 3), (9, 1, 6), (12, 4, 5)];
     let p := le d.bytes 8 1;
     let q := le d.bytes 9 1;
     decide (startsB s r 0x30 d = true) && decide (s.queueTimed p q = false)),
    (let s : State := (rl).put (ethA 3 0x200) 7 0 0x40 |> put1 (D 0x30 [(8, 1, 3), (9, 1, 6), (12, 4, 5), (24, 4,
        1000)]);
     let r : Nat := 1;
     let d : Inflight := D 0x30 [(8, 1, 3), (9, 1, 6), (12, 4, 5), (24, 4, 1000)];
     let p := le d.bytes 8 1;
     let q := le d.bytes 9 1;
     let field := le d.bytes 24 4;
     decide (startsB s r 0x30 d = true) && decide (s.queueTimed p q = true) && decide (0 ≤ dist32 field s.now32) &&
         decide (dist32 field s.now32 ≤ 1000000000)),
    (let s : State := (rl).put (ethA 3 0x200) 7 0 0x40 |> put1 (D 0x30 [(8, 1, 3), (9, 1, 6), (12, 4, 5), (24, 4,
        1000000000)]);
     let r : Nat := 1;
     let d : Inflight := D 0x30 [(8, 1, 3), (9, 1, 6), (12, 4, 5), (24, 4, 1000000000)];
     let p := le d.bytes 8 1;
     let q := le d.bytes 9 1;
     let field := le d.bytes 24 4;
     decide (startsB s r 0x30 d = true) && decide (s.queueTimed p q = true) && decide (0 ≤ dist32 field s.now32) &&
         decide (dist32 field s.now32 ≤ 1000000000)),
    (let s : State := (rl).put (ethA 3 0x200) 7 0 0x40 |> put1 (D 0x30 [(8, 1, 3), (9, 1, 6), (12, 4, 5), (24, 4,
        1000000001)]);
     let r : Nat := 1;
     let d : Inflight := D 0x30 [(8, 1, 3), (9, 1, 6), (12, 4, 5), (24, 4, 1000000001)];
     let p := le d.bytes 8 1;
     let q := le d.bytes 9 1;
     let field := le d.bytes 24 4;
     decide (startsB s r 0x30 d = true) && decide (s.queueTimed p q = true) && decide (1000000000 < dist32 field
         s.now32)),
    (let s : State := ((rl).put (ethA 3 0x200) 7 0 0x40).put (ethA 3 0x200) 15 8 0x40 |> put1 (D 0x30 [(8, 1, 3),
        (9, 1, 6), (12, 4, 5), (24, 4, 4294967295)]);
     let r : Nat := 1;
     let d : Inflight := D 0x30 [(8, 1, 3), (9, 1, 6), (12, 4, 5), (24, 4, 4294967295)];
     let p := le d.bytes 8 1;
     let q := le d.bytes 9 1;
     let field := le d.bytes 24 4;
     decide (startsB s r 0x30 d = true) && decide (s.queueTimed p q = true) && decide (dist32 field s.now32 < 0) &&
         decide (s.lateDrop p q = true)),
    (let s : State :=
        { rl.put (ethA 3 0x200) 7 0 0x40 |> put1 (D 0x30 [(8,1,3),(9,1,6),(12,4,5),(24,4,0xFFFFFFFF)]) with saf := { Saf.init with computed := true } };
     let r : Nat := 1;
     let d : Inflight := D 0x30 [(8,1,3),(9,1,6),(12,4,5),(24,4,0xFFFFFFFF)];
     let p := le d.bytes 8 1;
     let q := le d.bytes 9 1;
     let field := le d.bytes 24 4;
     decide (startsB s r 0x30 d = true) && decide (s.queueTimed p q = true) && decide (dist32 field s.now32 < 0) &&
         decide (s.lateDrop p q = false) && decide (s.mayTransmit = true)),
    (let s : State := (rl).put (ethA 3 0x200) 7 0 0x40 |> put1 (D 0x30 [(8, 1, 3), (9, 1, 6), (12, 4, 5), (24, 4,
        4294967295)]);
     let r : Nat := 1;
     let d : Inflight := D 0x30 [(8, 1, 3), (9, 1, 6), (12, 4, 5), (24, 4, 4294967295)];
     let p := le d.bytes 8 1;
     let q := le d.bytes 9 1;
     let field := le d.bytes 24 4;
     decide (startsB s r 0x30 d = true) && decide (s.queueTimed p q = true) && decide (dist32 field s.now32 < 0) &&
         decide (s.lateDrop p q = false) && decide (s.mayTransmit = false)),
    (let s : State := rl |> put1 (D 0x30 [(8, 1, 3), (9, 1, 6), (12, 4, 5), (24, 4, 0)]);
     let r : Nat := 1;
     let d : Inflight := D 0x30 [(8, 1, 3), (9, 1, 6), (12, 4, 5), (24, 4, 0)];
     decide (startsB s r 0x30 d = true)),
    (let s : State := rl |> put1 (D 0x31 [(8, 1, 7), (9, 1, 0)]);
     let r : Nat := 1;
     let d : Inflight := D 0x31 [(8, 1, 7), (9, 1, 0)];
     let b := f64 80 [(4,4,3)];
     decide (startsB s r 0x31 d = true) && decide (canRecordOk b = false)),
    (let s : State := (((rl).put (canA 7 0) 1 0 1).put (canA 7 0x40) 2 0 2).setCn 7
        { Can.init with buf := [some CB, some CB, some CB] } |> put1 (D 0x31 [(8, 1, 7), (9, 1, 0)]);
     let r : Nat := 1;
     let d : Inflight := D 0x31 [(8, 1, 7), (9, 1, 0)];
     let p := le d.bytes 8 1;
     let q := le d.bytes 9 1;
     let b := canB;
     decide (startsB s r 0x31 d = true) && decide (canRecordOk b = true) && decide (q ≠ 1) && decide (s.canSends p =
         true) && decide (((s.cn p).q.filter (fun f => srcRank f.src = 2)).length < 32) && decide ((∀ k ∈ s.genBufs
         p, ((s.cn p).bufAt k).isSome = true)) && decide ((s.cn p).safeWait = false)),
    (let s : State := (((rl).put (canA 7 0) 1 0 1).put (canA 7 0x40) 2 0 2).setCn 7
        { Can.init with q := List.replicate 32 CE, buf := [some CB, some CB, some CB] } |> put1 (D 0x31 [(8, 1, 7),
        (9, 1, 0)]);
     let r : Nat := 1;
     let d : Inflight := D 0x31 [(8, 1, 7), (9, 1, 0)];
     let p := le d.bytes 8 1;
     let q := le d.bytes 9 1;
     let b := canB;
     decide (startsB s r 0x31 d = true) && decide (canRecordOk b = true) && decide (q ≠ 1) && decide (s.canSends p =
         true) && decide (32 ≤ ((s.cn p).q.filter (fun f => srcRank f.src = 2)).length) && decide ((∀ k ∈ s.genBufs
         p, ((s.cn p).bufAt k).isSome = true)) && decide ((s.cn p).safeWait = false))].all id = true := by
  decide +kernel

theorem witness_PostedBuffers : [
    (let s : State := (rl).setRing 1 { Ring.init with rx := [] } |> put1 (D 0x32 [(12, 4, 160), (16, 8, 4096)]);
     let r : Nat := 1;
     let d : Inflight := D 0x32 [(12, 4, 160), (16, 8, 4096)];
     decide (startsB s r 0x32 d = true)),
    (let s : State :=
        { rl.put 0x304 1 0 2 |>.put 0x308 0 0 1 |> put1 (D 0x38 [(12,4,4096)]) with slog := { SLog.init with recs := [], posts := [] } };
     let r : Nat := 1;
     let d : Inflight := D 0x38 [(12,4,4096)];
     decide (startsB s r 0x38 d = true) && decide (le d.bytes 8 1 = 0) && decide (s.logMode ≠ 3) && decide (s.logOn
         = true) && decide ((∀ x ∈ s.slog.posts, x.full = false))),
    (let s : State :=
        { rl.put 0x304 1 0 2 |>.put 0x308 0 0 1 |> put1 (D 0x38 [(12,4,4096)]) with slog := { SLog.init with recs := [LR], posts := [⟨2,9,40,[],false⟩] } };
     let r : Nat := 1;
     let d : Inflight := D 0x38 [(12,4,4096)];
     decide (startsB s r 0x38 d = true) && decide (le d.bytes 8 1 = 0) && decide (s.logMode ≠ 3) && decide (s.logOn
         = true) && decide ((∀ x ∈ s.slog.posts, x.full = false))),
    (let s : State :=
        { rl.put 0x304 1 0 3 |>.put 0x308 0 0 1 |> put1 (D 0x38 [(12,4,40)]) with slog := { SLog.init with recs := [LR,LR], posts := [] } };
     let r : Nat := 1;
     let d : Inflight := D 0x38 [(12,4,40)];
     let p : Post := ⟨r, d.num, le d.bytes 12 4, [], false⟩;
     decide (startsB s r 0x38 d = true) && decide (le d.bytes 8 1 = 0) && decide ((s.logMode = 3 ∨ s.logOn = false))
         && decide (s.slog.posts = []) && decide ((p.take s.slog.recs).1.full = true)),
    (let s : State :=
        { rl.put 0x304 1 0 2 |>.put 0x308 0 0 0 |> put1 (D 0x38 [(12,4,16)]) with slog := { SLog.init with recs := [LR,LR], posts := [] } };
     let r : Nat := 1;
     let d : Inflight := D 0x38 [(12,4,16)];
     let p : Post := ⟨r, d.num, le d.bytes 12 4, [], false⟩;
     decide (startsB s r 0x38 d = true) && decide (le d.bytes 8 1 = 0) && decide ((s.logMode = 3 ∨ s.logOn = false))
         && decide (s.slog.posts = []) && decide ((p.take s.slog.recs).1.full = true)),
    (let s : State :=
        { rl.put 0x304 1 0 3 |>.put 0x308 0 0 1 |> put1 (D 0x38 [(12,4,4096)]) with slog := { SLog.init with recs := [LR,LR], posts := [] } };
     let r : Nat := 1;
     let d : Inflight := D 0x38 [(12,4,4096)];
     let p : Post := ⟨r, d.num, le d.bytes 12 4, [], false⟩;
     decide (startsB s r 0x38 d = true) && decide (le d.bytes 8 1 = 0) && decide ((s.logMode = 3 ∨ s.logOn = false))
         && decide (s.slog.posts = []) && decide ((p.take s.slog.recs).1.full = false)),
    (let s : State :=
        { rl.put 0x304 1 0 2 |>.put 0x308 0 0 0 |> put1 (D 0x38 [(12,4,4096)]) with slog := { SLog.init with recs := [], posts := [] } };
     let r : Nat := 1;
     let d : Inflight := D 0x38 [(12,4,4096)];
     let p : Post := ⟨r, d.num, le d.bytes 12 4, [], false⟩;
     decide (startsB s r 0x38 d = true) && decide (le d.bytes 8 1 = 0) && decide ((s.logMode = 3 ∨ s.logOn = false))
         && decide (s.slog.posts = []) && decide ((p.take s.slog.recs).1.full = false)),
    (let s : State := rl |> put1 (D 0x38 [(8, 1, 1), (12, 4, 40)]);
     let r : Nat := 1;
     let d : Inflight := D 0x38 [(8, 1, 1), (12, 4, 40)];
     decide (startsB s r 0x38 d = true) && decide (le d.bytes 8 1 ≠ 0)),
    (let s : State := rl |> put1 (D 0x39 [(12, 4, 40)]);
     let r : Nat := 1;
     let d : Inflight := D 0x39 [(12, 4, 40)];
     decide (startsB s r 0x39 d = true) && decide ((s.sampleQueue (fun p => p == .offloaded 0)) = [])),
    (let s : State := (rl).setStrm 47 { Strm.init with wait := [smp 4 (.offloaded 0)] } |> put1 (D 0x39 [(12, 4,
        4000)]);
     let r : Nat := 1;
     let d : Inflight := D 0x39 [(12, 4, 4000)];
     let st := 47;
     let x := smp 4 (.offloaded 0);
     decide (startsB s r 0x39 d = true) && decide (s.sampleQueue (fun p => p == .offloaded 0) = [(st, x)]) && decide
         ((s.begin r d.num).offloadBuf = some (r, { d with begun := true })) && decide (32 + (packetBytes
         x.pkts).length ≤ le d.bytes 12 4))].all id = true := by
  decide +kernel

theorem witness_CommitDescriptors : [
    (let s : State := ((rl).put 0x100 0 0 1).put 0x100 28 16 1 |> put1 (D 0x03 []);
     let r : Nat := 1;
     let d : Inflight := D 0x03 [];
     let v : State := ({ s.begin r d.num with cfg := { s.cfg with commitNum := some d.num, commitT := s.clk.t } } :
         State).put 0x100 1 1 1;
     decide (startsB s r 0x03 d = true) && decide (s.cfgOwns r = true) && decide ((s.cfgCommitting = false ∨
         s.cfg.commitNum = some d.num)) && decide (s.flag 0x100 2 = false) && decide (v.prelim = none)),
    (let s : State := ((((rl).put 0x100 0 0 1).put 0x100 28 16 1).put 0x100 1 1 1).setCfg
        { Cfg.init with staged := [], commitNum := some 3 } |> put1 (D 0x03 []);
     let r : Nat := 1;
     let d : Inflight := D 0x03 [];
     let v : State := ({ s.begin r d.num with cfg := { s.cfg with commitNum := some d.num, commitT := s.clk.t } } :
         State).put 0x100 1 1 1;
     decide (startsB s r 0x03 d = true) && decide (s.cfgOwns r = true) && decide ((s.cfgCommitting = false ∨
         s.cfg.commitNum = some d.num)) && decide (s.flag 0x100 2 = false) && decide (v.prelim = none)),
    (let s : State := ((rl).put 0x100 2 0 5).put 0x100 28 16 1 |> put1 (D 0x03 []);
     let r : Nat := 1;
     let d : Inflight := D 0x03 [];
     decide (startsB s r 0x03 d = true) && decide (s.cfgOwns r = true) && decide ((s.cfgCommitting = false ∨
         s.cfg.commitNum = some d.num)) && decide (s.flag 0x100 2 = true)),
    (let s : State := (((rl).put 0x100 0 0 1).put 0x100 28 16 1).setCfg
        { Cfg.init with staged := [(timA 0x100, 7)] } |> put1 (D 0x03 []);
     let r : Nat := 1;
     let d : Inflight := D 0x03 [];
     let v : State := ({ s.begin r d.num with cfg := { s.cfg with commitNum := some d.num, commitT := s.clk.t } } :
         State).put 0x100 1 1 1;
     let a := (v.prelim.getD (0, .success)).1;
     let st := (v.prelim.getD (0, .success)).2;
     decide (startsB s r 0x03 d = true) && decide (s.cfgOwns r = true) && decide ((s.cfgCommitting = false ∨
         s.cfg.commitNum = some d.num)) && decide (s.flag 0x100 2 = false) && decide (v.prelim = some (a, st))),
    (let s : State := ((rl).put 0x100 1 0 3).put 0x100 28 16 1 |> put1 (D 0x03 []);
     let r : Nat := 1;
     let d : Inflight := D 0x03 [];
     decide (startsB s r 0x03 d = true) && decide (s.cfgOwns r = true) && decide (s.cfgCommitting = true) && decide
         (s.cfg.commitNum ≠ some d.num)),
    (let s : State := rl |> put1 (D 0x03 []);
     let r : Nat := 1;
     let d : Inflight := D 0x03 [];
     decide (startsB s r 0x03 d = true) && decide (s.cfgOwns r = false) && decide (s.cfg.timedOut ≠ some r)),
    (let s : State := (rl).setCfg { Cfg.init with timedOut := some 1 } |> put1 (D 0x03 []);
     let r : Nat := 1;
     let d : Inflight := D 0x03 [];
     decide (startsB s r 0x03 d = true) && decide (s.cfgOwns r = false) && decide (s.cfg.timedOut = some r)),
    (let s : State := cd |> put1 (D 0x19 [(8, 1, 2), (10, 1, 3), (12, 4, 1), (16, 8, spadLo 3)]);
     let r : Nat := 1;
     let d : Inflight := D 0x19 [(8, 1, 2), (10, 1, 3), (12, 4, 1), (16, 8, spadLo 3)];
     let target := le d.bytes 8 1;
     let die := le d.bytes 9 1;
     let core := le d.bytes 10 1;
     let n := le d.bytes 12 4;
     let base := le d.bytes 16 8;
     let lim := scrubRange target core;
     decide (startsB s r 0x19 d = true) && decide (s.loss = none) && decide (le d.bytes 16 8 % 4096 = 0) && decide
         (0 < n) && decide (n ≠ 0xFFFFFFFF) && decide (lim.1 ≤ base) && decide (base + n * 4096 ≤ lim.2) && decide
         ((target < 2 ∨ ((s.core die core).tile = none ∧ s.physReserved die core = false))) && decide (2 ≤ target)),
    (let s : State := (cd).setCore 0 3 { Core.init with tile := some ⟨1,0,0,0⟩ } |> put1 (D 0x19 [(8, 1, 2), (10, 1,
        3), (12, 4, 1), (16, 8, spadLo 3)]);
     let r : Nat := 1;
     let d : Inflight := D 0x19 [(8, 1, 2), (10, 1, 3), (12, 4, 1), (16, 8, spadLo 3)];
     let target := le d.bytes 8 1;
     let die := le d.bytes 9 1;
     let core := le d.bytes 10 1;
     let n := le d.bytes 12 4;
     let base := le d.bytes 16 8;
     let lim := scrubRange target core;
     decide (startsB s r 0x19 d = true) && decide (s.loss = none) && decide (le d.bytes 16 8 % 4096 = 0) && decide
         (0 < n) && decide (n ≠ 0xFFFFFFFF) && decide (lim.1 ≤ base) && decide (base + n * 4096 ≤ lim.2) && decide
         (2 ≤ target) && decide (((s.core die core).tile ≠ none ∨ s.physReserved die core = true)))].all id = true := by
  decide +kernel

theorem witness_JobRelease : [
    (let s : State := rl |> put1 (D 0x13 [(8, 4, 2), (12, 4, 119)]);
     let r : Nat := 1;
     let d : Inflight := D 0x13 [(8, 4, 2), (12, 4, 119)];
     let ring := le d.bytes 8 4;
     decide (s.loss = none) && decide (startsB s r 0x13 d = true) && decide (ring ≠ r) && decide (s.installer r =
         false)),
    (let s : State := rl |> put1 (D 0x13 [(8, 4, 1), (12, 4, 119)]);
     let r : Nat := 1;
     let d : Inflight := D 0x13 [(8, 4, 1), (12, 4, 119)];
     let ring := le d.bytes 8 4;
     let tag := le d.bytes 12 4;
     let named := s.jobs.find? (fun j => j.ring == ring && j.tag == tag && (!j.silent || (s.inReplay &&
         j.member.isNone)));
     decide (s.loss = none) && decide (startsB s r 0x13 d = true) && decide ((ring = r ∨ s.installer r = true)) &&
         decide (named = none)),
    (let s : State := (((rl).setJobs [{ J0 with classC := true }]).put 0x208 1 0 1).setBank (f64 64
        [(4,4,2),(32,2,5),(48,2,5)]) |> put1 (D 0x13 [(8, 4, 1), (12, 4, 119)]);
     let r : Nat := 1;
     let d : Inflight := D 0x13 [(8, 4, 1), (12, 4, 119)];
     let ring := le d.bytes 8 4;
     let tag := le d.bytes 12 4;
     let named := s.jobs.find? (fun j => j.ring == ring && j.tag == tag && (!j.silent || (s.inReplay &&
         j.member.isNone)));
     let j := { J0 with classC := true };
     decide (s.loss = none) && decide (startsB s r 0x13 d = true) && decide ((ring = r ∨ s.installer r = true)) &&
         decide (named = some j) && decide (j.classC = true) && decide (s.cycNames j.id = true)),
    (let s : State := (rl).setJobs [J0] |> put1 (D 0x13 [(8, 4, 1), (12, 4, 119)]);
     let r : Nat := 1;
     let d : Inflight := D 0x13 [(8, 4, 1), (12, 4, 119)];
     let ring := le d.bytes 8 4;
     let tag := le d.bytes 12 4;
     let named := s.jobs.find? (fun j => j.ring == ring && j.tag == tag && (!j.silent || (s.inReplay &&
         j.member.isNone)));
     let j := J0;
     decide (s.loss = none) && decide (startsB s r 0x13 d = true) && decide ((ring = r ∨ s.installer r = true)) &&
         decide (named = some j) && decide ((j.classC = false ∨ s.cycNames j.id = false)) && decide (s.job j.id =
         some j) && decide (j.ending = none) && decide (s.jobRuns j.id = false)),
    (let s : State := (rl).setJobs [{ J0 with classC := true }] |> put1 (D 0x13 [(8, 4, 1), (12, 4, 119)]);
     let r : Nat := 1;
     let d : Inflight := D 0x13 [(8, 4, 1), (12, 4, 119)];
     let ring := le d.bytes 8 4;
     let tag := le d.bytes 12 4;
     let named := s.jobs.find? (fun j => j.ring == ring && j.tag == tag && (!j.silent || (s.inReplay &&
         j.member.isNone)));
     let j := { J0 with classC := true };
     decide (s.loss = none) && decide (startsB s r 0x13 d = true) && decide ((ring = r ∨ s.installer r = true)) &&
         decide (named = some j) && decide ((j.classC = false ∨ s.cycNames j.id = false)) && decide (s.job j.id =
         some j) && decide (j.ending = none) && decide (s.jobRuns j.id = false)),
    (let s : State := ((rl).setJobs [J0]).setCore 0 3 { Core.init with tile := some ⟨5,0,0,0⟩ } |> put1 (D 0x13 [(8,
        4, 1), (12, 4, 119)]);
     let r : Nat := 1;
     let d : Inflight := D 0x13 [(8, 4, 1), (12, 4, 119)];
     let ring := le d.bytes 8 4;
     let tag := le d.bytes 12 4;
     let named := s.jobs.find? (fun j => j.ring == ring && j.tag == tag && (!j.silent || (s.inReplay &&
         j.member.isNone)));
     let j := J0;
     decide (s.loss = none) && decide (startsB s r 0x13 d = true) && decide ((ring = r ∨ s.installer r = true)) &&
         decide (named = some j) && decide ((j.classC = false ∨ s.cycNames j.id = false)) && decide (s.job j.id =
         some j) && decide (j.ending = none) && decide (s.jobRuns j.id = true)),
    (let s : State := ((rl).setJobs [{ J0 with classC := true }]).setCore 0 3
        { Core.init with tile := some ⟨5,0,0,0⟩ } |> put1 (D 0x13 [(8, 4, 1), (12, 4, 119)]);
     let r : Nat := 1;
     let d : Inflight := D 0x13 [(8, 4, 1), (12, 4, 119)];
     let ring := le d.bytes 8 4;
     let tag := le d.bytes 12 4;
     let named := s.jobs.find? (fun j => j.ring == ring && j.tag == tag && (!j.silent || (s.inReplay &&
         j.member.isNone)));
     let j := { J0 with classC := true };
     decide (s.loss = none) && decide (startsB s r 0x13 d = true) && decide ((ring = r ∨ s.installer r = true)) &&
         decide (named = some j) && decide ((j.classC = false ∨ s.cycNames j.id = false)) && decide (s.job j.id =
         some j) && decide (j.ending = none) && decide (s.jobRuns j.id = true))].all id = true := by
  decide +kernel

theorem witness_AxisCommands : [
    (let s : State := ((((((rl).put (timA 0x110) 0 0 1).put (ctlA 63 4) 31 30 2).put (ctlA 63 0x18) 31 30 1).wr
        (ctlA 63 0x40) 0x3F800000).wr (ctlA 63 0x44) 0x3F800000).wr (ctlA 63 0x48) 0x3F800000 |> put1 (D 0x20 [(8,
        1, 63), (9, 1, 1)]);
     let r : Nat := 1;
     let d : Inflight := D 0x20 [(8, 1, 63), (9, 1, 1)];
     let a := le d.bytes 8 1;
     let ready := s.fld (ctlA a 4) 31 30 ≠ 0 ∧ s.fld (ctlA a 0x18) 31 30 ≠ 0 ∧ flt f0 (s.fr a 0x40) = true ∧ flt f0
         (s.fr a 0x44) = true ∧ flt f0 (s.fr a 0x48) = true;
     decide (startsB s r 0x20 d = true) && decide (le d.bytes 9 1 = 1) && decide (a < 64) && decide (s.axState a =
         0) && decide ((s.ax a).enWait = []) && decide (s.locked = true) && decide (ready)),
    (let s : State := (((((rl).put (ctlA 63 4) 31 30 2).put (ctlA 63 0x18) 31 30 1).wr (ctlA 63 0x40) 0x3F800000).wr
        (ctlA 63 0x44) 0x3F800000).wr (ctlA 63 0x48) 0x3F800000 |> put1 (D 0x20 [(8, 1, 63), (9, 1, 1)]);
     let r : Nat := 1;
     let d : Inflight := D 0x20 [(8, 1, 63), (9, 1, 1)];
     let a := le d.bytes 8 1;
     decide (startsB s r 0x20 d = true) && decide (le d.bytes 9 1 = 1) && decide (a < 64) && decide (s.axState a =
         0) && decide ((s.ax a).enWait = []) && decide (s.locked = false)),
    (let s : State := (((((rl).put (timA 0x110) 0 0 1).put (ctlA 63 4) 31 30 2).put (ctlA 63 0x18) 31 30 1).wr (ctlA
        63 0x40) 0x3F800000).wr (ctlA 63 0x44) 0x3F800000 |> put1 (D 0x20 [(8, 1, 63), (9, 1, 1)]);
     let r : Nat := 1;
     let d : Inflight := D 0x20 [(8, 1, 63), (9, 1, 1)];
     let a := le d.bytes 8 1;
     let ready := s.fld (ctlA a 4) 31 30 ≠ 0 ∧ s.fld (ctlA a 0x18) 31 30 ≠ 0 ∧ flt f0 (s.fr a 0x40) = true ∧ flt f0
         (s.fr a 0x44) = true ∧ flt f0 (s.fr a 0x48) = true;
     decide (startsB s r 0x20 d = true) && decide (le d.bytes 9 1 = 1) && decide (a < 64) && decide (s.axState a =
         0) && decide ((s.ax a).enWait = []) && decide (s.locked = true) && decide (¬ready)),
    (let s : State := (((((rl).put (timA 0x110) 0 0 1).put (ctlA 63 0x18) 31 30 1).wr (ctlA 63 0x40) 0x3F800000).wr
        (ctlA 63 0x44) 0x3F800000).wr (ctlA 63 0x48) 0x3F800000 |> put1 (D 0x20 [(8, 1, 63), (9, 1, 1)]);
     let r : Nat := 1;
     let d : Inflight := D 0x20 [(8, 1, 63), (9, 1, 1)];
     let a := le d.bytes 8 1;
     let ready := s.fld (ctlA a 4) 31 30 ≠ 0 ∧ s.fld (ctlA a 0x18) 31 30 ≠ 0 ∧ flt f0 (s.fr a 0x40) = true ∧ flt f0
         (s.fr a 0x44) = true ∧ flt f0 (s.fr a 0x48) = true;
     decide (startsB s r 0x20 d = true) && decide (le d.bytes 9 1 = 1) && decide (a < 64) && decide (s.axState a =
         0) && decide ((s.ax a).enWait = []) && decide (s.locked = true) && decide (¬ready)),
    (let s : State := (((((((rl).put (timA 0x110) 0 0 1).put (ctlA 63 4) 31 30 2).put (ctlA 63 0x18) 31 30 1).wr
        (ctlA 63 0x40) 0x3F800000).wr (ctlA 63 0x44) 0x3F800000).wr (ctlA 63 0x48) 0x3F800000).setAx 63
        { Axis.init with enWait := [(9, 9)] } |> put1 (D 0x20 [(8, 1, 63), (9, 1, 1)]);
     let r : Nat := 1;
     let d : Inflight := D 0x20 [(8, 1, 63), (9, 1, 1)];
     let a := le d.bytes 8 1;
     decide (startsB s r 0x20 d = true) && decide (le d.bytes 9 1 = 1) && decide (a < 64) && decide (s.axState a =
         0) && decide ((s.ax a).enWait ≠ [])),
    (let s : State := (((((((rl).put (timA 0x110) 0 0 1).put (ctlA 63 4) 31 30 2).put (ctlA 63 0x18) 31 30 1).wr
        (ctlA 63 0x40) 0x3F800000).wr (ctlA 63 0x44) 0x3F800000).wr (ctlA 63 0x48) 0x3F800000).setAxState 63 5 |>
        put1 (D 0x20 [(8, 1, 63), (9, 1, 1)]);
     let r : Nat := 1;
     let d : Inflight := D 0x20 [(8, 1, 63), (9, 1, 1)];
     let a := le d.bytes 8 1;
     decide (startsB s r 0x20 d = true) && decide (le d.bytes 9 1 = 1) && decide (a < 64) && decide (s.axState a ≠
         0)),
    (let s : State := rl |> put1 (D 0x20 [(8, 1, 63), (9, 1, 2)]);
     let r : Nat := 1;
     let d : Inflight := D 0x20 [(8, 1, 63), (9, 1, 2)];
     let a := le d.bytes 8 1;
     decide (startsB s r 0x20 d = true) && decide (le d.bytes 9 1 = 2) && decide (a < 64) && decide (s.axState a =
         0) && decide ((s.ax a).enWait = [])),
    (let s : State := (rl).setAx 63 { Axis.init with enWait := [(9, 9)] } |> put1 (D 0x20 [(8, 1, 63), (9, 1, 2)]);
     let r : Nat := 1;
     let d : Inflight := D 0x20 [(8, 1, 63), (9, 1, 2)];
     let a := le d.bytes 8 1;
     decide (startsB s r 0x20 d = true) && decide (le d.bytes 9 1 = 2) && decide (a < 64) && decide (s.axState a =
         0) && decide ((s.ax a).enWait ≠ [])),
    (let s : State := ((rl).setAxState 63 1).setAx 63 { Axis.init with disWait := [(9, 9)] } |> put1 (D 0x20 [(8, 1,
        63), (9, 1, 2)]);
     let r : Nat := 1;
     let d : Inflight := D 0x20 [(8, 1, 63), (9, 1, 2)];
     let a := le d.bytes 8 1;
     decide (startsB s r 0x20 d = true) && decide (le d.bytes 9 1 = 2) && decide (a < 64) && decide (s.axState a =
         1)),
    (let s : State := ((rl).setAxState 63 2).setAx 63 { Axis.init with q := [SG0], cur := some ⟨SG0, 0, 1⟩ } |> put1
        (D 0x20 [(8, 1, 63), (9, 1, 2)]);
     let r : Nat := 1;
     let d : Inflight := D 0x20 [(8, 1, 63), (9, 1, 2)];
     let a := le d.bytes 8 1;
     decide (startsB s r 0x20 d = true) && decide (le d.bytes 9 1 = 2) && decide (a < 64) && decide (s.axState a = 2
         ∨ s.axState a = 3)),
    (let s : State := ((rl).setAxState 63 3).setAx 63 { Axis.init with q := [SG0], cur := some ⟨SG0, 0, 1⟩ } |> put1
        (D 0x20 [(8, 1, 63), (9, 1, 2)]);
     let r : Nat := 1;
     let d : Inflight := D 0x20 [(8, 1, 63), (9, 1, 2)];
     let a := le d.bytes 8 1;
     decide (startsB s r 0x20 d = true) && decide (le d.bytes 9 1 = 2) && decide (a < 64) && decide (s.axState a = 2
         ∨ s.axState a = 3)),
    (let s : State := ((rl).setAxState 63 5).put (ctlA 63 0x104) 31 0 (0x90000000 + 77) |> put1 (D 0x20 [(8, 1, 63),
        (9, 1, 2)]);
     let r : Nat := 1;
     let d : Inflight := D 0x20 [(8, 1, 63), (9, 1, 2)];
     let a := le d.bytes 8 1;
     decide (startsB s r 0x20 d = true) && decide (le d.bytes 9 1 = 2) && decide (a < 64) && decide (s.axState a = 4
         ∨ s.axState a = 5) && decide (((s.owner a).all (fun o => o.1 != 2)) = true)),
    (let s : State := (rl).setAxState 63 4 |> put1 (D 0x20 [(8, 1, 63), (9, 1, 2)]);
     let r : Nat := 1;
     let d : Inflight := D 0x20 [(8, 1, 63), (9, 1, 2)];
     let a := le d.bytes 8 1;
     decide (startsB s r 0x20 d = true) && decide (le d.bytes 9 1 = 2) && decide (a < 64) && decide (s.axState a = 4
         ∨ s.axState a = 5) && decide (((s.owner a).all (fun o => o.1 != 2)) = true)),
    (let s : State := rl |> put1 (D 0x21 [(16, 4, 0), (20, 1, 63), (21, 1, 0), (22, 2, 1), (24, 4, 1065353216), (28,
        4, 0), (32, 4, 1065353216), (36, 4, 1065353216), (40, 4, 1065353216), (44, 4, 85)]);
     let r : Nat := 1;
     let d : Inflight := D 0x21 [(16, 4, 0), (20, 1, 63), (21, 1, 0), (22, 2, 1), (24, 4, 1065353216), (28, 4, 0),
         (32, 4, 1065353216), (36, 4, 1065353216), (40, 4, 1065353216), (44, 4, 85)];
     let b := slice d.bytes 16 32;
     let c := s.windowOf s.clk.t;
     let now := (le b 6 2).testBit 0;
     let start := if now then c else (c + dist32 (le b 0 4) c).toNat;
     let g := segOf b (s.level r) r start s.clk.ref (.desc d.num);
     decide (startsB s r 0x21 d = true) && decide (segBad b g = true)),
    (let s : State := rl |> put1 (D 0x21 [(16, 4, 0), (20, 1, 63), (21, 1, 3), (22, 2, 1), (24, 4, 1065353216), (28,
        4, 5), (32, 4, 1065353216), (36, 4, 1065353216), (40, 4, 1065353216), (44, 4, 85)]);
     let r : Nat := 1;
     let d : Inflight := D 0x21 [(16, 4, 0), (20, 1, 63), (21, 1, 3), (22, 2, 1), (24, 4, 1065353216), (28, 4, 5),
         (32, 4, 1065353216), (36, 4, 1065353216), (40, 4, 1065353216), (44, 4, 85)];
     let b := slice d.bytes 16 32;
     let c := s.windowOf s.clk.t;
     let now := (le b 6 2).testBit 0;
     let start := if now then c else (c + dist32 (le b 0 4) c).toNat;
     let g := segOf b (s.level r) r start s.clk.ref (.desc d.num);
     decide (startsB s r 0x21 d = true) && decide (segBad b g = true)),
    (let s : State := rl |> put1 (D 0x21 [(16, 4, 0), (20, 1, 63), (21, 1, 1), (22, 2, 1), (24, 4, 1065353216), (28,
        4, 0), (32, 4, 1065353216), (36, 4, 1065353216), (40, 4, 1065353216), (44, 4, 85)]);
     let r : Nat := 1;
     let d : Inflight := D 0x21 [(16, 4, 0), (20, 1, 63), (21, 1, 1), (22, 2, 1), (24, 4, 1065353216), (28, 4, 0),
         (32, 4, 1065353216), (36, 4, 1065353216), (40, 4, 1065353216), (44, 4, 85)];
     let b := slice d.bytes 16 32;
     let x := le b 4 1;
     let c := s.windowOf s.clk.t;
     let now := (le b 6 2).testBit 0;
     let start := if now then c else (c + dist32 (le b 0 4) c).toNat;
     let g := segOf b (s.level r) r start s.clk.ref (.desc d.num);
     decide (startsB s r 0x21 d = true) && decide (segBad b g = false) && decide (s.axState x = 0)),
    (let s : State := (rl).setAxState 63 4 |> put1 (D 0x21 [(16, 4, 0), (20, 1, 63), (21, 1, 1), (22, 2, 1), (24, 4,
        1065353216), (28, 4, 0), (32, 4, 1065353216), (36, 4, 1065353216), (40, 4, 1065353216), (44, 4, 85)]);
     let r : Nat := 1;
     let d : Inflight := D 0x21 [(16, 4, 0), (20, 1, 63), (21, 1, 1), (22, 2, 1), (24, 4, 1065353216), (28, 4, 0),
         (32, 4, 1065353216), (36, 4, 1065353216), (40, 4, 1065353216), (44, 4, 85)];
     let b := slice d.bytes 16 32;
     let x := le b 4 1;
     let c := s.windowOf s.clk.t;
     let now := (le b 6 2).testBit 0;
     let start := if now then c else (c + dist32 (le b 0 4) c).toNat;
     let g := segOf b (s.level r) r start s.clk.ref (.desc d.num);
     decide (startsB s r 0x21 d = true) && decide (segBad b g = false) && decide (s.axState x = 4 ∨ s.axState x =
         5)),
    (let s : State := (rl).setAxState 63 5 |> put1 (D 0x21 [(16, 4, 0), (20, 1, 63), (21, 1, 1), (22, 2, 1), (24, 4,
        1065353216), (28, 4, 0), (32, 4, 1065353216), (36, 4, 1065353216), (40, 4, 1065353216), (44, 4, 85)]);
     let r : Nat := 1;
     let d : Inflight := D 0x21 [(16, 4, 0), (20, 1, 63), (21, 1, 1), (22, 2, 1), (24, 4, 1065353216), (28, 4, 0),
         (32, 4, 1065353216), (36, 4, 1065353216), (40, 4, 1065353216), (44, 4, 85)];
     let b := slice d.bytes 16 32;
     let x := le b 4 1;
     let c := s.windowOf s.clk.t;
     let now := (le b 6 2).testBit 0;
     let start := if now then c else (c + dist32 (le b 0 4) c).toNat;
     let g := segOf b (s.level r) r start s.clk.ref (.desc d.num);
     decide (startsB s r 0x21 d = true) && decide (segBad b g = false) && decide (s.axState x = 4 ∨ s.axState x =
         5)),
    (let s : State := ((rl).setAxState 63 2).put (ctlA 63 0x104) 31 0 (0x90000000 + 77) |> put1 (D 0x21 [(16, 4, 0),
        (20, 1, 63), (21, 1, 1), (22, 2, 1), (24, 4, 1065353216), (28, 4, 0), (32, 4, 1065353216), (36, 4,
        1065353216), (40, 4, 1065353216), (44, 4, 85)]);
     let r : Nat := 1;
     let d : Inflight := D 0x21 [(16, 4, 0), (20, 1, 63), (21, 1, 1), (22, 2, 1), (24, 4, 1065353216), (28, 4, 0),
         (32, 4, 1065353216), (36, 4, 1065353216), (40, 4, 1065353216), (44, 4, 85)];
     let b := slice d.bytes 16 32;
     let x := le b 4 1;
     let c := s.windowOf s.clk.t;
     let now := (le b 6 2).testBit 0;
     let start := if now then c else (c + dist32 (le b 0 4) c).toNat;
     let g := segOf b (s.level r) r start s.clk.ref (.desc d.num);
     let owns := ∀ o, s.owner x = some o → o.1 ≤ s.level r;
     decide (startsB s r 0x21 d = true) && decide (segBad b g = false) && decide (1 ≤ s.axState x) && decide
         (s.axState x ≤ 3) && decide (¬owns)),
    (let s : State := ((rl).setAxState 63 3).wr (ctlA 63 0x50) 0x40000000 |> put1 (D 0x21 [(16, 4, 0), (20, 1, 63),
        (21, 1, 1), (22, 2, 1), (24, 4, 1077936128), (28, 4, 0), (32, 4, 1065353216), (36, 4, 1065353216), (40, 4,
        1065353216), (44, 4, 85)]);
     let r : Nat := 1;
     let d : Inflight := D 0x21 [(16, 4, 0), (20, 1, 63), (21, 1, 1), (22, 2, 1), (24, 4, 1077936128), (28, 4, 0),
         (32, 4, 1065353216), (36, 4, 1065353216), (40, 4, 1065353216), (44, 4, 85)];
     let b := slice d.bytes 16 32;
     let x := le b 4 1;
     let c := s.windowOf s.clk.t;
     let now := (le b 6 2).testBit 0;
     let start := if now then c else (c + dist32 (le b 0 4) c).toNat;
     let g := segOf b (s.level r) r start s.clk.ref (.desc d.num);
     let owns := ∀ o, s.owner x = some o → o.1 ≤ s.level r;
     let inRange := g.kind = 1 → flt g.target (s.fr x 0x4C) = false ∧ flt (s.fr x 0x50) g.target = false;
     decide (startsB s r 0x21 d = true) && decide (segBad b g = false) && decide (1 ≤ s.axState x) && decide
         (s.axState x ≤ 3) && decide (owns) && decide (¬inRange)),
    (let s : State := ((rl).setAxState 63 2).wr (ctlA 63 0x50) 0x40000000 |> put1 (D 0x21 [(16, 4, 4294967280), (20,
        1, 63), (21, 1, 1), (22, 2, 0), (24, 4, 1065353216), (28, 4, 0), (32, 4, 1065353216), (36, 4, 1065353216),
        (40, 4, 1065353216), (44, 4, 85)]);
     let r : Nat := 1;
     let d : Inflight := D 0x21 [(16, 4, 4294967280), (20, 1, 63), (21, 1, 1), (22, 2, 0), (24, 4, 1065353216), (28,
         4, 0), (32, 4, 1065353216), (36, 4, 1065353216), (40, 4, 1065353216), (44, 4, 85)];
     let b := slice d.bytes 16 32;
     let x := le b 4 1;
     let c := s.windowOf s.clk.t;
     let now := (le b 6 2).testBit 0;
     let start := if now then c else (c + dist32 (le b 0 4) c).toNat;
     let g := segOf b (s.level r) r start s.clk.ref (.desc d.num);
     let owns := ∀ o, s.owner x = some o → o.1 ≤ s.level r;
     let inRange := g.kind = 1 → flt g.target (s.fr x 0x4C) = false ∧ flt (s.fr x 0x50) g.target = false;
     let late := now = false ∧ dist32 (le b 0 4) c < 0;
     decide (startsB s r 0x21 d = true) && decide (segBad b g = false) && decide (1 ≤ s.axState x) && decide
         (s.axState x ≤ 3) && decide (owns) && decide (inRange) && decide (late) && decide (s.inReplay = false)),
    (let s : State := (((rl).setAxState 63 2).setAx 63
        { Axis.init with q := [SG0, { SG0 with ring := 1, start := 8 }] }).wr (ctlA 63 0x50) 0x40000000 |> put1 (D
        0x21 [(16, 4, 5), (20, 1, 63), (21, 1, 1), (22, 2, 0), (24, 4, 1065353216), (28, 4, 0), (32, 4, 1065353216),
        (36, 4, 1065353216), (40, 4, 1065353216), (44, 4, 85)]);
     let r : Nat := 1;
     let d : Inflight := D 0x21 [(16, 4, 5), (20, 1, 63), (21, 1, 1), (22, 2, 0), (24, 4, 1065353216), (28, 4, 0),
         (32, 4, 1065353216), (36, 4, 1065353216), (40, 4, 1065353216), (44, 4, 85)];
     let b := slice d.bytes 16 32;
     let x := le b 4 1;
     let c := s.windowOf s.clk.t;
     let now := (le b 6 2).testBit 0;
     let start := if now then c else (c + dist32 (le b 0 4) c).toNat;
     let g := segOf b (s.level r) r start s.clk.ref (.desc d.num);
     let owns := ∀ o, s.owner x = some o → o.1 ≤ s.level r;
     let inRange := g.kind = 1 → flt g.target (s.fr x 0x4C) = false ∧ flt (s.fr x 0x50) g.target = false;
     let late := now = false ∧ dist32 (le b 0 4) c < 0;
     let left := (s.ax x).q.filter (fun e => !segReplaced r start e);
     decide (startsB s r 0x21 d = true) && decide (segBad b g = false) && decide (1 ≤ s.axState x) && decide
         (s.axState x ≤ 3) && decide (owns) && decide (inRange) && decide (¬late) && decide (s.inReplay = false) &&
         decide (left.length < 64)),
    (let s : State := (((rl).setAxState 63 2).setAx 63
        { Axis.init with q := [SG0, { SG0 with ring := 1, start := 8 }] }).wr (ctlA 63 0x50) 0x40000000 |> put1 (D
        0x21 [(16, 4, 0), (20, 1, 63), (21, 1, 3), (22, 2, 1), (24, 4, 1065353216), (28, 4, 0), (32, 4, 1065353216),
        (36, 4, 1065353216), (40, 4, 1065353216), (44, 4, 85)]);
     let r : Nat := 1;
     let d : Inflight := D 0x21 [(16, 4, 0), (20, 1, 63), (21, 1, 3), (22, 2, 1), (24, 4, 1065353216), (28, 4, 0),
         (32, 4, 1065353216), (36, 4, 1065353216), (40, 4, 1065353216), (44, 4, 85)];
     let b := slice d.bytes 16 32;
     let x := le b 4 1;
     let c := s.windowOf s.clk.t;
     let now := (le b 6 2).testBit 0;
     let start := if now then c else (c + dist32 (le b 0 4) c).toNat;
     let g := segOf b (s.level r) r start s.clk.ref (.desc d.num);
     let owns := ∀ o, s.owner x = some o → o.1 ≤ s.level r;
     let inRange := g.kind = 1 → flt g.target (s.fr x 0x4C) = false ∧ flt (s.fr x 0x50) g.target = false;
     let late := now = false ∧ dist32 (le b 0 4) c < 0;
     let left := (s.ax x).q.filter (fun e => !segReplaced r start e);
     decide (startsB s r 0x21 d = true) && decide (segBad b g = false) && decide (1 ≤ s.axState x) && decide
         (s.axState x ≤ 3) && decide (owns) && decide (inRange) && decide (¬late) && decide (s.inReplay = false) &&
         decide (left.length < 64)),
    (let s : State := (((rl).setAxState 63 1).setAx 63 { Axis.init with q := List.replicate 64 SG0 }).wr (ctlA 63
        0x50) 0x40000000 |> put1 (D 0x21 [(16, 4, 5), (20, 1, 63), (21, 1, 1), (22, 2, 0), (24, 4, 1065353216), (28,
        4, 0), (32, 4, 1065353216), (36, 4, 1065353216), (40, 4, 1065353216), (44, 4, 85)]);
     let r : Nat := 1;
     let d : Inflight := D 0x21 [(16, 4, 5), (20, 1, 63), (21, 1, 1), (22, 2, 0), (24, 4, 1065353216), (28, 4, 0),
         (32, 4, 1065353216), (36, 4, 1065353216), (40, 4, 1065353216), (44, 4, 85)];
     let b := slice d.bytes 16 32;
     let x := le b 4 1;
     let c := s.windowOf s.clk.t;
     let now := (le b 6 2).testBit 0;
     let start := if now then c else (c + dist32 (le b 0 4) c).toNat;
     let g := segOf b (s.level r) r start s.clk.ref (.desc d.num);
     let owns := ∀ o, s.owner x = some o → o.1 ≤ s.level r;
     let inRange := g.kind = 1 → flt g.target (s.fr x 0x4C) = false ∧ flt (s.fr x 0x50) g.target = false;
     let late := now = false ∧ dist32 (le b 0 4) c < 0;
     let left := (s.ax x).q.filter (fun e => !segReplaced r start e);
     decide (startsB s r 0x21 d = true) && decide (segBad b g = false) && decide (1 ≤ s.axState x) && decide
         (s.axState x ≤ 3) && decide (owns) && decide (inRange) && decide (¬late) && decide (s.inReplay = false) &&
         decide (64 ≤ left.length))].all id = true := by
  decide +kernel

theorem witness_Doorbells : [
    (let s : State := (rl.put (ringA 8191 0x10) 31 31 1);
     let r : Nat := 8191;
     let v : Nat := 64;
     let live := s.ringOn r = true ∧ s.ringHalted r = false;
     let head := (s.rd (ringA r 0x1C)).toNat;
     let sqOk := 0 ≤ dist32 v (s.ring r).sqTail ∧ (v % 2 ^ 32 + 2 ^ 32 - head) % 2 ^ 32 ≤ s.ringSize r;
     decide (r < 8192) && decide (live) && decide (sqOk)),
    (let s : State := (rl.put (ringA 8191 0x10) 31 31 1);
     let r : Nat := 8191;
     let v : Nat := 0;
     let live := s.ringOn r = true ∧ s.ringHalted r = false;
     let head := (s.rd (ringA r 0x1C)).toNat;
     let sqOk := 0 ≤ dist32 v (s.ring r).sqTail ∧ (v % 2 ^ 32 + 2 ^ 32 - head) % 2 ^ 32 ≤ s.ringSize r;
     decide (r < 8192) && decide (live) && decide (sqOk)),
    (let s : State := (rl.put (ringA 8191 0x10) 31 31 1);
     let r : Nat := 8191;
     let v : Nat := 65;
     let live := s.ringOn r = true ∧ s.ringHalted r = false;
     let head := (s.rd (ringA r 0x1C)).toNat;
     let sqOk := 0 ≤ dist32 v (s.ring r).sqTail ∧ (v % 2 ^ 32 + 2 ^ 32 - head) % 2 ^ 32 ≤ s.ringSize r;
     decide (r < 8192) && decide (live) && decide (¬sqOk)),
    (let s : State := (rl.put (ringA 8191 0x10) 31 31 1);
     let r : Nat := 8191;
     let v : Nat := 0xFFFFFFFF;
     let live := s.ringOn r = true ∧ s.ringHalted r = false;
     let head := (s.rd (ringA r 0x1C)).toNat;
     let sqOk := 0 ≤ dist32 v (s.ring r).sqTail ∧ (v % 2 ^ 32 + 2 ^ 32 - head) % 2 ^ 32 ≤ s.ringSize r;
     decide (r < 8192) && decide (live) && decide (¬sqOk)),
    (let s : State := rl;
     let r : Nat := 8191;
     let live := s.ringOn r = true ∧ s.ringHalted r = false;
     decide (r < 8192) && decide (¬live)),
    (let s : State := (rl.put (ringA 8191 0x10) 31 31 1).put (ringA 8191 0x18) 1 1 1;
     let r : Nat := 8191;
     let live := s.ringOn r = true ∧ s.ringHalted r = false;
     decide (r < 8192) && decide (¬live)),
    (let s : State := (rl.put (ringA 8191 0x10) 31 31 1).wr (ringA 8191 0x20) 9;
     let r : Nat := 8191;
     let v : Nat := 9;
     let live := s.ringOn r = true ∧ s.ringHalted r = false;
     let cqOk := 0 ≤ dist32 v (s.ring r).cqHead ∧ (v % 2 ^ 32 + 2 ^ 32 - (s.ring r).cqHead) % 2 ^ 32 ≤ s.cqUsed r;
     decide (r < 8192) && decide (live) && decide (cqOk)),
    (let s : State := (rl.put (ringA 8191 0x10) 31 31 1).wr (ringA 8191 0x20) 9;
     let r : Nat := 8191;
     let v : Nat := 10;
     let live := s.ringOn r = true ∧ s.ringHalted r = false;
     let cqOk := 0 ≤ dist32 v (s.ring r).cqHead ∧ (v % 2 ^ 32 + 2 ^ 32 - (s.ring r).cqHead) % 2 ^ 32 ≤ s.cqUsed r;
     decide (r < 8192) && decide (live) && decide (¬cqOk))].all id = true := by
  decide +kernel

theorem witness_RingEnables : [
    (let s : State := (rl.put (mgtA 0x1C) 0 0 1);
     let r : Nat := 8191;
     let val : Word := 0x80100003;
     decide (r < 8192) && decide (s.isReady = true) && decide (s.ringOn r = false) && decide (s.drvAccepted = true)
         && decide (6 ≤ bits val 20 16) && decide (bits val 20 16 ≤ 16)),
    (let s : State := rl;
     let r : Nat := 8191;
     decide (r < 8192) && decide (s.isReady = true) && decide (s.ringOn r = false) && decide (s.drvAccepted =
         false)),
    (let s : State := ((rl.put (mgtA 0x1C) 0 0 1).put (ringA 1 0x10) 31 31 1).put 0x100 0 0 1|>.put 0x100 28 16 1;
     let r : Nat := 1;
     decide (r < 8192) && decide (s.isReady = true) && decide (s.ringOn r = true) && decide (s.drvAccepted = true)
         && decide (s.ringBusy r = false) && decide (s.cfgOwns r = true) && decide (s.cfgCommitting = false)),
    (let s : State := (rl.put (mgtA 0x1C) 0 0 1).put (ringA 1 0x10) 31 31 1 |> put1 (D 0 []);
     let r : Nat := 1;
     decide (r < 8192) && decide (s.isReady = true) && decide (s.ringOn r = true) && decide (s.ringBusy r = true))].all id = true := by
  decide +kernel

theorem witness_DescriptorFetch : [
    (let s : State := (rl.put (ringA 1 0x10) 31 31 1).setRing 1 { Ring.init with sqTail := 1 };
     let r : Nat := 1;
     let head := (s.rd (ringA r 0x1C)).toNat;
     decide (r < 8192) && decide (s.isReady = true) && decide (s.ringOn r = true) && decide (s.ringHalted r = false)
         && decide (s.linkUp = true) && decide ((s.rd (ringA r 0x1C)).toNat ≠ (s.ring r).sqTail) && decide
         (s.reserved r < s.cqFree r) && decide (s.desc r head = none)),
    (let s : State := (rl.put (ringA 1 0x10) 31 31 1).setRing 1 { Ring.init with sqTail := 1 };
     let r : Nat := 1;
     let head := (s.rd (ringA r 0x1C)).toNat;
     let raw := (D 0 []).bytes;
     let b := fitTo 64 raw;
     decide (r < 8192) && decide (s.isReady = true) && decide (s.ringOn r = true) && decide (s.ringHalted r = false)
         && decide (s.linkUp = true) && decide ((s.rd (ringA r 0x1C)).toNat ≠ (s.ring r).sqTail) && decide
         (s.reserved r < s.cqFree r) && decide (s.desc r head = none) && decide ((s.loss.isSome && jobOp (dOp b)) =
         false) && decide (s.checkDesc r b = .success)),
    (let s : State := (rl.put (ringA 1 0x10) 31 31 1).setRing 1 { Ring.init with sqTail := 1 };
     let r : Nat := 1;
     let head := (s.rd (ringA r 0x1C)).toNat;
     let raw := (D 0x77 []).bytes;
     let b := fitTo 64 raw;
     decide (r < 8192) && decide (s.isReady = true) && decide (s.ringOn r = true) && decide (s.ringHalted r = false)
         && decide (s.linkUp = true) && decide ((s.rd (ringA r 0x1C)).toNat ≠ (s.ring r).sqTail) && decide
         (s.reserved r < s.cqFree r) && decide (s.desc r head = none) && decide ((s.loss.isSome && jobOp (dOp b)) =
         false) && decide (s.checkDesc r b ≠ .success)),
    (let s : State := (rl.put (ringA 1 0x10) 31 31 1).setRing 1 { Ring.init with sqTail := 1 };
     let r : Nat := 1;
     let head := (s.rd (ringA r 0x1C)).toNat;
     let raw := (D 0 [(63,1,1)]).bytes;
     let b := fitTo 64 raw;
     decide (r < 8192) && decide (s.isReady = true) && decide (s.ringOn r = true) && decide (s.ringHalted r = false)
         && decide (s.linkUp = true) && decide ((s.rd (ringA r 0x1C)).toNat ≠ (s.ring r).sqTail) && decide
         (s.reserved r < s.cqFree r) && decide (s.desc r head = none) && decide ((s.loss.isSome && jobOp (dOp b)) =
         false) && decide (s.checkDesc r b ≠ .success)),
    (let s : State :=
        { (rl.put (ringA 1 0x10) 31 31 1).setRing 1 { Ring.init with sqTail := 1 } with loss := some 4 };
     let r : Nat := 1;
     let head := (s.rd (ringA r 0x1C)).toNat;
     let raw := (D 0x12 []).bytes;
     decide (r < 8192) && decide (s.isReady = true) && decide (s.ringOn r = true) && decide (s.ringHalted r = false)
         && decide (s.linkUp = true) && decide ((s.rd (ringA r 0x1C)).toNat ≠ (s.ring r).sqTail) && decide
         (s.reserved r < s.cqFree r) && decide (s.desc r head = none) && decide (s.loss.isSome = true) && decide
         (jobOp (dOp (fitTo 64 raw)) = true))].all id = true := by
  decide +kernel

theorem witness_HostLink : [
    (let s : State :=
        { rl with hif := { rl.hif with msiPend := [5, 2047], msiLast := [(2047, 1)] }, clk := { Clk.init with ref := 2000 } };
     let v : Nat := 2047;
     decide (v < 2048) && decide (s.hif.msiPend.contains v = true) && decide (tget 0 s.hif.msiLast v + 2000 ≤
         s.clk.ref + 1) && decide (s.linkUp = true)),
    (let s : State :=
        { rl with hif := { rl.hif with msiPend := [5, 2047], msiLast := [(2047, 1)] }, clk := { Clk.init with ref := 2000 } };
     let v : Nat := 6;
     decide (v < 2048) && decide ((s.hif.msiPend.contains v = false ∨ s.clk.ref + 1 < tget 0 s.hif.msiLast v +
         2000))),
    (let s : State :=
        { { rl with hif := { rl.hif with msiPend := [5, 2047], msiLast := [(2047, 1)] }, clk := { Clk.init with ref := 2000 } } with clk := { Clk.init with ref := 1999 } };
     let v : Nat := 2047;
     decide (v < 2048) && decide ((s.hif.msiPend.contains v = false ∨ s.clk.ref + 1 < tget 0 s.hif.msiLast v +
         2000))),
    (let a := 0x180000;
     decide (a ≠ hifA 0)),
    (let s : State := rl;
     let gen : Nat := 5;
     let width : Nat := 16;
     let a := 0x110;
     decide (s.hm.phase ≠ .reset) && decide (s.hm.phase ≠ .tripped) && decide (1 ≤ gen) && decide (gen ≤ 5) &&
         decide ([1, 2, 4, 8, 16].contains width = true) && decide (a ≠ hifA 0)),
    (let s : State := rl;
     let gen : Nat := 1;
     let width : Nat := 1;
     decide (s.hm.phase ≠ .reset) && decide (s.hm.phase ≠ .tripped) && decide (1 ≤ gen) && decide (gen ≤ 5) &&
         decide ([1, 2, 4, 8, 16].contains width = true)),
    (let s : State := rl;
     let gen : Nat := 5;
     let width : Nat := 16;
     decide (s.hm.phase ≠ .reset) && decide (s.hm.phase ≠ .tripped) && decide (1 ≤ gen) && decide (gen ≤ 5) &&
         decide ([1, 2, 4, 8, 16].contains width = true)),
    (let s : State := { rl with clk := { Clk.init with ref := 1000000 } }.setRing 1
        { Ring.init with fl := [D 0x32 []], rx := [⟨3, 0, 5, 2, 0⟩, ⟨4,0,0,0,0⟩] };
     let u : State := s;
     let r : Nat := 1;
     let x : RxBuf := ⟨3, 0, 5, 2, 0⟩;
     let l : List RxBuf := [⟨4,0,0,0,0⟩];
     decide (r < 8192) && decide ((s.ring r).rx = x :: l) && decide (x.got ≠ 0) && decide (s.reachRef (x.since +
         1000000) = some u))].all id = true := by
  decide +kernel

theorem witness_HostResets : [
    (let s : State := (((rl.put (ringA 1 0x10) 31 31 1).put 0x100 0 0 1).put (mgtA 0x1C) 0 0 1).setJobs [J0]
        |>.setPkg 2 (some ⟨P1, [], ⟨0, 0, 64⟩⟩) |> put1 (D 0x32 []);
     decide (s.isReady = true))].all id = true := by
  decide +kernel

theorem witness_CommitEdge : [
    (let s : State :=
        { ((rl.put 0x100 1 0 3).put 0x100 28 16 1 |> put1 { D 3 [] with begun := true }) with clk := { Clk.init with live := true, ref := 9 }, cfg := { Cfg.init with staged := [(timA 0x100, 750)], commitNum := some 3, commitT := 980000 } }.setAxState
        3 2;
     let u : State := (s.reach s.clk.nextEdge).getD s;
     let n : Nat := 3;
     let v : State := { u with clk := { u.clk with tick := u.clk.nextTick, lastEdge := u.clk.nextEdge } };
     let a := (v.edgeCheck.getD (0,.success)).1;
     let st := (v.edgeCheck.getD (0,.success)).2;
     decide (s.cfgWaits = some n) && decide (s.clk.live = true) && decide (s.cfg.commitT + 20000 ≤ s.clk.nextEdge)
         && decide (s.reach s.clk.nextEdge = some u) && decide (v.edgeCheck = some (a, st))),
    (let s : State :=
        { ((rl.put 0x100 1 0 3).put 0x100 28 16 1 |> put1 { D 3 [] with begun := true }) with clk := { Clk.init with live := true, ref := 9 }, cfg := { Cfg.init with staged := [(timA 0x100, 750)], commitNum := some 3, commitT := 980000 } };
     let u : State := (s.reach s.clk.nextEdge).getD s;
     let n : Nat := 3;
     let v : State := { u with clk := { u.clk with tick := u.clk.nextTick, lastEdge := u.clk.nextEdge } };
     decide (s.cfgWaits = some n) && decide (s.clk.live = true) && decide (s.cfg.commitT + 20000 ≤ s.clk.nextEdge)
         && decide (s.reach s.clk.nextEdge = some u) && decide (v.edgeCheck = none)),
    (let s : State :=
        { ((rl.put 0x100 1 0 3).put 0x100 28 16 1 |> put1 { D 3 [] with begun := true }) with clk := { Clk.init with live := true, ref := 9 }, cfg := { Cfg.init with staged := [], commitNum := some 3, commitT := 980000 } };
     let u : State := (s.reach s.clk.nextEdge).getD s;
     let n : Nat := 3;
     let v : State := { u with clk := { u.clk with tick := u.clk.nextTick, lastEdge := u.clk.nextEdge } };
     decide (s.cfgWaits = some n) && decide (s.clk.live = true) && decide (s.cfg.commitT + 20000 ≤ s.clk.nextEdge)
         && decide (s.reach s.clk.nextEdge = some u) && decide (v.edgeCheck = none)),
    (let s : State := { ((rl.put 0x100 0 0 1).put 0x100 28 16 7) with clk := { Clk.init with ref := 10000000000 } };
     let u : State := s;
     decide (s.cfgOpen = true) && decide (s.cfgCommitting = false) && decide (s.reachRef (s.cfg.openRef +
         10000000000) = some u))].all id = true := by
  decide +kernel

theorem witness_RegisterWrites : [
    (let a : Nat := 0x100;
     let width : Nat := 2;
     decide ((width ≠ 4 ∨ a % 4 ≠ 0))),
    (let a : Nat := 0x102;
     let width : Nat := 4;
     decide ((width ≠ 4 ∨ a % 4 ≠ 0))),
    (let s : State := ((rl.put 0x100 0 0 1));
     let a : Nat := timA 0x100;
     let r : RegRow := (rowAt (timA 0x100)).getD GR;
     decide (a % 4 = 0) && decide (a < 0x10000000) && decide (rowAt a = some r) && decide (r.w1c = 0) && decide
         (r.w1s = 0) && decide (r.direct = false) && decide (r.txn = true) && decide (s.writable a = true) && decide
         (a ≠ mgtA 0x18) && decide (a ≠ mgtA 0x34) && decide (s.cfgOpen = true) && decide (s.cfgCommitting = false)
         && decide ((s.cfg.staged.length < 4096 ∨ s.cfg.staged.any (fun e => e.1 == a) = true))),
    (let s : State := ((rl.put 0x100 0 0 1)).setCfg { Cfg.init with staged := List.replicate 4096 (timA 0x100, 5) };
     let a : Nat := timA 0x100;
     let r : RegRow := (rowAt (timA 0x100)).getD GR;
     decide (a % 4 = 0) && decide (a < 0x10000000) && decide (rowAt a = some r) && decide (r.w1c = 0) && decide
         (r.w1s = 0) && decide (r.direct = false) && decide (r.txn = true) && decide (s.writable a = true) && decide
         (a ≠ mgtA 0x18) && decide (a ≠ mgtA 0x34) && decide (s.cfgOpen = true) && decide (s.cfgCommitting = false)
         && decide ((s.cfg.staged.length < 4096 ∨ s.cfg.staged.any (fun e => e.1 == a) = true))),
    (let s : State := ((rl.put 0x100 0 0 1)).setCfg { Cfg.init with staged := List.replicate 4096 (timA 0x104, 5) };
     let a : Nat := timA 0x100;
     let r : RegRow := (rowAt (timA 0x100)).getD GR;
     decide (a % 4 = 0) && decide (a < 0x10000000) && decide (rowAt a = some r) && decide (r.w1c = 0) && decide
         (r.w1s = 0) && decide (r.direct = false) && decide (r.txn = true) && decide (s.writable a = true) && decide
         (a ≠ mgtA 0x18) && decide (a ≠ mgtA 0x34) && decide (s.cfgOpen = true) && decide (s.cfgCommitting = false)
         && decide (4096 ≤ s.cfg.staged.length) && decide (s.cfg.staged.any (fun e => e.1 == a) = false)),
    (let s : State := rl;
     let a : Nat := timA 0x100;
     let r : RegRow := (rowAt (timA 0x100)).getD GR;
     decide (a % 4 = 0) && decide (a < 0x10000000) && decide (rowAt a = some r) && decide (r.w1c = 0) && decide
         (r.w1s = 0) && decide (r.direct = false) && decide (r.txn = true) && decide (s.writable a = true) && decide
         (a ≠ mgtA 0x18) && decide (a ≠ mgtA 0x34) && decide ((s.cfgOpen = false ∨ s.cfgCommitting = true))),
    (let s : State := ((rl.put 0x100 0 0 1)).put 0x100 1 1 1;
     let a : Nat := timA 0x100;
     let r : RegRow := (rowAt (timA 0x100)).getD GR;
     decide (a % 4 = 0) && decide (a < 0x10000000) && decide (rowAt a = some r) && decide (r.w1c = 0) && decide
         (r.w1s = 0) && decide (r.direct = false) && decide (r.txn = true) && decide (s.writable a = true) && decide
         (a ≠ mgtA 0x18) && decide (a ≠ mgtA 0x34) && decide ((s.cfgOpen = false ∨ s.cfgCommitting = true))),
    (let s : State := rl;
     let o : Nat := 0x2FFFFC;
     let i := 0;
     decide (o % 4 = 0) && decide (0x100000 ≤ o) && decide (o < 0x300000) && decide (s.hm.phase ≠ .reset) && decide
         (s.hm.phase ≠ .tripped) && decide (s.flag (mbxA 0xC) 0 = false) && decide (i < 4)),
    (let s : State := rl;
     let o : Nat := 0x2FFFFC;
     let i := 3;
     decide (o % 4 = 0) && decide (0x100000 ≤ o) && decide (o < 0x300000) && decide (s.hm.phase ≠ .reset) && decide
         (s.hm.phase ≠ .tripped) && decide (s.flag (mbxA 0xC) 0 = false) && decide (i < 4)),
    (let s : State := rl;
     let o : Nat := 0x100000;
     decide (o % 4 = 0) && decide (0x100000 ≤ o) && decide (o < 0x300000) && decide (s.hm.phase ≠ .reset) && decide
         (s.hm.phase ≠ .tripped) && decide (s.flag (mbxA 0xC) 0 = false))].all id = true := by
  decide +kernel

theorem witness_ClearsAndReads : [
    (let s : State := rl.wr (ethA 0 0x204) 0xF;
     let a : Nat := ethA 0 0x204;
     let r : RegRow := (rowAt (ethA 0 0x204)).getD GR;
     let i := 0;
     decide (rowAt a = some r) && decide (r.w1c ≠ 0) && decide ((s.writable a = true ∨ 0x10000000 ≤ a)) && decide (i
         < 32)),
    (let s : State := rl.wr (ethA 0 0x204) 0xF;
     let a : Nat := ethA 0 0x204;
     let r : RegRow := (rowAt (ethA 0 0x204)).getD GR;
     let i := 31;
     decide (rowAt a = some r) && decide (r.w1c ≠ 0) && decide ((s.writable a = true ∨ 0x10000000 ≤ a)) && decide (i
         < 32)),
    (let a : Nat := 3;
     decide (((rowAt a).map (fun r => r.w1c)).getD 0 = 0)),
    (let a : Nat := 0x100000;
     decide (((rowAt a).map (fun r => r.w1c)).getD 0 = 0)),
    (let a : Nat := timA 0xA0;
     let r : RegRow := (rowAt (timA 0xA0)).getD GR;
     decide (rowAt a = some r) && decide (r.wide = true)),
    (let a : Nat := 0x100000;
     let r : RegRow := (rowAt 0x100000).getD GR;
     decide (rowAt a = some r) && decide (r.wide = false))].all id = true := by
  decide +kernel

theorem witness_DirectRegisters : [
    (let s : State := rl;
     decide (s.isReady = true)),
    (let s : State := rl.setAx 63 { Axis.init with trc := [(1,[2])], trcTrig := some 3 };
     let a : Nat := 63;
     let r : RegRow := (rowAt (ctlA 63 0x200)).getD GR;
     decide (a < 64) && decide (s.isReady = true) && decide (rowAt (ctlA a 0x200) = some r)),
    (let s : State := (rl.wr (ctlA 63 0x20C) 9).setAx 63 { Axis.init with trc := [(1,[2])], trcTrig := some 3 };
     let a : Nat := 63;
     decide (a < 64) && decide (s.isReady = true)),
    (let s : State := State.reset;
     decide (s.isReady = false)),
    (let s : State := rl.wr (mgtA 0x10) 5 |>.wr (mgtA 0x14) 9;
     let v : Nat := 4;
     decide (s.regsWf = true) && decide (s.isReady = true) && decide (((List.range 8192).all (fun r => !s.ringOn r))
         = true) && decide (v < 2 ^ 32)),
    (let s : State := (rl.put (ringA 8191 0x10) 31 31 1);
     let r : Nat := 8191;
     decide (s.isReady = true) && decide (r < 8192) && decide (s.ringOn r = true)),
    (let s : State :=
        { rl with flash := { Flash.init with recA := some ⟨1,1,0,0,0,[⟨9,1,3,2,0,1,5⟩,⟨9,2,3,1,0,1,5⟩]⟩ } };
     decide (s.isReady = true)),
    (let s : State :=
        { rl with flash := { Flash.init with recA := some ⟨1,1,0,0,0,[⟨9,1,3,2,0,1,5⟩,⟨9,2,3,1,0,1,5⟩]⟩ } }.wr (mgtA
        0x28) 0x101;
     decide (s.isReady = true))].all id = true := by
  decide +kernel

theorem witness_TallyRequests : [
    (let s : State := rl.put (tlyA 0) 3 0 1;
     let c : Instr := .snap;
     let m : Nat := 1;
     decide (s.isReady = true) && decide ((c, m) ∈ [(Instr.snap, 1), (Instr.stop, 2), (Instr.clear, 4),
         (Instr.start, 8)])),
    (let s : State := rl.put (tlyA 0) 3 0 1;
     let c : Instr := .start;
     let m : Nat := 8;
     decide (s.isReady = true) && decide ((c, m) ∈ [(Instr.snap, 1), (Instr.stop, 2), (Instr.clear, 4),
         (Instr.start, 8)])),
    (let s : State := ((rl.put (tlyA 0) 3 0 1).put (tlyA 4) 1 0 3);
     decide (s.fld (tlyA 0) 3 0 ≠ 0)),
    (let s : State := ((rl.put (tlyA 0) 3 0 15).put (tlyA 4) 1 0 3);
     decide (s.fld (tlyA 0) 3 0 ≠ 0)),
    (let s : State := ((rl.put (tlyA 4) 0 0 1).wr (tlyC 7 63 0) 0x80000005);
     let die : Nat := 7;
     let c : Nat := 63;
     decide (die < 8) && decide (c < tlyN die) && decide (s.tlyOn die = true) && decide (s.flag (tlyC die c 0) 31 =
         true) && decide (s.flag (tlyC die c 0) 30 = false) && decide (tlyKnown die (s.fld (tlyC die c 0) 7 0) =
         false) && decide (s.tlySat die c = false))].all id = true := by
  decide +kernel

theorem witness_EthernetPorts : [
    (let s : State :=
        { (rl.setEp 3 { Eth.init with q := [⟨6,some 50,false,.host 1 3,[1,2]⟩, ⟨5,none,false,.host 1 4,[3]⟩, ⟨4,some 9,true,.axis 2,[7]⟩] } |> put1 (D 0x30 [])) with saf := { Saf.init with computed := true }, clk := { Clk.init with t := 5 } };
     let u : State := (s.reach 50).getD s;
     let p : Nat := 3;
     let l : Nat := 50;
     let q : Nat := 6;
     let f : EthTx := ⟨6,some 50,false,.host 1 3,[1,2]⟩;
     decide (p < 4) && decide (q < 8) && decide ((s.ep p).nextLaunch = some l) && decide (s.mayTransmit = true) &&
         decide (s.reach l = some u) && decide ((s.ep p).head q = some f) && decide (f.launch = some l)),
    (let s : State :=
        { (rl.setEp 3 { Eth.init with q := [⟨6,some 50000000,false,.host 1 3,[1,2]⟩, ⟨5,none,false,.host 1 4,[3]⟩, ⟨4,some 9,true,.axis 2,[7]⟩] } |> put1 (D 0x30 [])) with saf := { Saf.init with computed := true }, clk := { Clk.init with t := 5 } };
     let p : Nat := 3;
     let q : Nat := 5;
     let i : Nat := 1;
     let f : EthTx := ⟨5,none,false,.host 1 4,[3]⟩;
     decide (p < 4) && decide (q < 8) && decide (s.mayTransmit = true) && decide (findAt (fun (f : EthTx) => f.queue
         == q && (f.sent || f.launch.isNone)) (s.ep p).q 0 = some (i, f)) && decide ((f.sent = true ∨ s.mayLeave p f
         = true)) && decide (f.sent = false)),
    (let s : State :=
        { (rl.setEp 3 { Eth.init with q := [⟨6,some 50000000,false,.host 1 3,[1,2]⟩, ⟨5,none,false,.host 1 4,[3]⟩, ⟨4,some 9,true,.axis 2,[7]⟩] } |> put1 (D 0x30 [])) with saf := { Saf.init with computed := true }, clk := { Clk.init with t := 5 } };
     let p : Nat := 3;
     let q : Nat := 5;
     let i : Nat := 1;
     let f : EthTx := ⟨5,none,false,.host 1 4,[3]⟩;
     let r : Nat := 1;
     let n := 4;
     decide (p < 4) && decide (q < 8) && decide (s.mayTransmit = true) && decide (findAt (fun (f : EthTx) => f.queue
         == q && (f.sent || f.launch.isNone)) (s.ep p).q 0 = some (i, f)) && decide ((f.sent = true ∨ s.mayLeave p f
         = true)) && decide (f.src = .host r n)),
    (let s : State :=
        { (rl.setEp 3 { Eth.init with q := [⟨6,some 50000000,false,.host 1 3,[1,2]⟩, ⟨5,none,false,.host 1 4,[3]⟩, ⟨4,some 9,true,.host 1 3,[7]⟩] } |> put1 (D 0x30 [])) with saf := { Saf.init with computed := true }, clk := { Clk.init with t := 5 } };
     let p : Nat := 3;
     let q : Nat := 4;
     let i : Nat := 2;
     let f : EthTx := ⟨4,some 9,true,.host 1 3,[7]⟩;
     let r : Nat := 1;
     let n := 3;
     decide (p < 4) && decide (q < 8) && decide (s.mayTransmit = true) && decide (findAt (fun (f : EthTx) => f.queue
         == q && (f.sent || f.launch.isNone)) (s.ep p).q 0 = some (i, f)) && decide ((f.sent = true ∨ s.mayLeave p f
         = true)) && decide (f.src = .host r n)),
    (let s : State :=
        { (rl.setEp 3 { Eth.init with q := [⟨6,some 50,false,.host 1 3,[1,2]⟩, ⟨5,none,false,.host 1 4,[3]⟩, ⟨4,some 9,true,.axis 2,[7]⟩] } |> put1 (D 0x30 [])) with saf := { Saf.init with computed := true }, clk := { Clk.init with t := 5 } };
     let p : Nat := 3;
     let q : Nat := 5;
     let i : Nat := 1;
     let f : EthTx := ⟨5,none,false,.host 1 4,[3]⟩;
     decide (p < 4) && decide (q < 8) && decide (findAt (fun (f : EthTx) => f.queue == q && (f.sent ||
         f.launch.isNone)) (s.ep p).q 0 = some (i, f)) && decide (f.sent = false) && decide (s.mayLeave p f =
         false)),
    (let s : State := rl.put (ethA 3 4) 0 0 1;
     let p : Nat := 3;
     decide (p < 4) && decide (s.flag (ethA p 4) 0 = true)),
    (let s : State := rl.put (ethA 3 0) 31 31 1;
     let p : Nat := 3;
     decide (p < 4) && decide (s.flag (ethA p 0) 31 = true) && decide (s.bootFailed 12 p = false)),
    (let s : State :=
        { ((((((rl.put (ethA 3 0) 31 31 1).setAxState 63 2).put (ctlA 63 4) 31 27 19).put (ctlA 63 8) 31 16 0x88B5).put (ctlA 63 8) 15 0 0x1234).wr (ctlA 63 0xC) (BitVec.ofNat 32 (14 + 16*256 + 0x100000))).wr (ctlA 63 0x10) 0x3F800000 with clk := { Clk.init with live := true, tick := 8, lastEdge := 8000000, t := 8000000, nextTick := 9, nextEdge := 9000000, lastCut := 7990000 } };
     let p : Nat := 3;
     let stamp : Nat := 8999000;
     let a : Nat := 63;
     let b : Bytes := f64 64 [(12,1,0x88),(13,1,0xB5),(14,2,0x1234),(16,4,100),(20,4,5)];
     let x : F32 := (s.fbValues a b |>.getD (0,0)).1;
     let v : F32 := (s.fbValues a b |>.getD (0,0)).2;
     decide (p < 4) && decide (s.isReady = true) && decide (s.flag (ethA p 0) 31 = true) && decide (s.inReplay =
         false) && decide ((etherBody b).2 ≠ 0x88F7) && decide (udpIn b = none) && decide (s.ethAxes p b = [a]) &&
         decide (a < 64) && decide (s.fbValues a b = some (x, v)) && decide (s.cutoff ≤ stamp)),
    (let s : State :=
        { ((((((rl.put (ethA 3 0) 31 31 1).setAxState 63 2).put (ctlA 63 4) 31 27 19).put (ctlA 63 8) 31 16 0x88B5).put (ctlA 63 8) 15 0 0x1234).wr (ctlA 63 0xC) (BitVec.ofNat 32 (14 + 16*256 + 0x100000))).wr (ctlA 63 0x10) 0x3F800000 with clk := { Clk.init with live := true, tick := 8, lastEdge := 8000000, t := 8000000, nextTick := 9, nextEdge := 9000000, lastCut := 7990000 } };
     let p : Nat := 3;
     let stamp : Nat := 8990000;
     let a : Nat := 63;
     let b : Bytes := f64 64 [(12,1,0x88),(13,1,0xB5),(14,2,0x1234),(16,4,100),(20,4,5)];
     let x : F32 := (s.fbValues a b |>.getD (0,0)).1;
     let v : F32 := (s.fbValues a b |>.getD (0,0)).2;
     decide (p < 4) && decide (s.isReady = true) && decide (s.flag (ethA p 0) 31 = true) && decide (s.inReplay =
         false) && decide ((etherBody b).2 ≠ 0x88F7) && decide (udpIn b = none) && decide (s.ethAxes p b = [a]) &&
         decide (a < 64) && decide (s.fbValues a b = some (x, v)) && decide (s.cutoff ≤ stamp)),
    (let s : State :=
        { ((((((rl.put (ethA 3 0) 31 31 1).setAxState 63 2).put (ctlA 63 4) 31 27 19).put (ctlA 63 8) 31 16 0x88B5).put (ctlA 63 8) 15 0 0x1234).wr (ctlA 63 0xC) (BitVec.ofNat 32 (14 + 16*256 + 0x100000))).wr (ctlA 63 0x10) 0x3F800000 with clk := { Clk.init with live := true, tick := 8, lastEdge := 8000000, t := 8000000, nextTick := 9, nextEdge := 9000000, lastCut := 7990000 } };
     let p : Nat := 3;
     let stamp : Nat := 8000000;
     let a : Nat := 63;
     let b : Bytes := f64 64 [(12,1,0x88),(13,1,0xB5),(14,2,0x1234),(16,4,100),(20,4,5)];
     let x : F32 := (s.fbValues a b |>.getD (0,0)).1;
     let v : F32 := (s.fbValues a b |>.getD (0,0)).2;
     decide (p < 4) && decide (s.isReady = true) && decide (s.flag (ethA p 0) 31 = true) && decide (s.inReplay =
         false) && decide ((etherBody b).2 ≠ 0x88F7) && decide (udpIn b = none) && decide (s.ethAxes p b = [a]) &&
         decide (a < 64) && decide (s.fbValues a b = some (x, v)) && decide (stamp < s.cutoff) && decide
         (s.clk.lastCut ≤ stamp) && decide (s.clk.win ≠ .passed)),
    (let s : State :=
        { ((((((rl.put (ethA 3 0) 31 31 1).setAxState 63 2).put (ctlA 63 4) 31 27 19).put (ctlA 63 8) 31 16 0x88B5).put (ctlA 63 8) 15 0 0x1234).wr (ctlA 63 0xC) (BitVec.ofNat 32 (14 + 16*256 + 0x100000))).wr (ctlA 63 0x10) 0x3F800000 with clk := { Clk.init with live := true, tick := 8, lastEdge := 8000000, t := 8000000, nextTick := 9, nextEdge := 9000000, lastCut := 7990000 } };
     let p : Nat := 3;
     let stamp : Nat := 8500000;
     let a : Nat := 63;
     let b : Bytes := f64 64 [(12,1,0x88),(13,1,0xB5),(14,2,0x1234),(16,4,100),(20,4,5)];
     let x : F32 := (s.fbValues a b |>.getD (0,0)).1;
     let v : F32 := (s.fbValues a b |>.getD (0,0)).2;
     decide (p < 4) && decide (s.isReady = true) && decide (s.flag (ethA p 0) 31 = true) && decide (s.inReplay =
         false) && decide ((etherBody b).2 ≠ 0x88F7) && decide (udpIn b = none) && decide (s.ethAxes p b = [a]) &&
         decide (a < 64) && decide (s.fbValues a b = some (x, v)) && decide (stamp < s.cutoff) && decide
         (s.clk.lastCut ≤ stamp) && decide (s.clk.win ≠ .passed)),
    (let s : State :=
        { ((((((rl.put (ethA 3 0) 31 31 1).setAxState 63 2).put (ctlA 63 4) 31 27 19).put (ctlA 63 8) 31 16 0x88B5).put (ctlA 63 8) 15 0 0x1234).wr (ctlA 63 0xC) (BitVec.ofNat 32 (14 + 16*256 + 0x100000))).wr (ctlA 63 0x10) 0x3F800000 with clk := { Clk.init with live := true, tick := 8, lastEdge := 8000000, t := 8000000, nextTick := 9, nextEdge := 9000000, lastCut := 7990000 } };
     let p : Nat := 3;
     let stamp : Nat := 7989999;
     let a : Nat := 63;
     let b : Bytes := f64 64 [(12,1,0x88),(13,1,0xB5),(14,2,0x1234),(16,4,100),(20,4,5)];
     let x : F32 := (s.fbValues a b |>.getD (0,0)).1;
     let v : F32 := (s.fbValues a b |>.getD (0,0)).2;
     decide (p < 4) && decide (s.isReady = true) && decide (s.flag (ethA p 0) 31 = true) && decide (s.inReplay =
         false) && decide ((etherBody b).2 ≠ 0x88F7) && decide (udpIn b = none) && decide (s.ethAxes p b = [a]) &&
         decide (a < 64) && decide (s.fbValues a b = some (x, v)) && decide (stamp < s.cutoff) && decide ((stamp <
         s.clk.lastCut ∨ s.clk.win = .passed))),
    (let s : State :=
        { ((((((rl.put (ethA 3 0) 31 31 1).setAxState 63 2).put (ctlA 63 4) 31 27 19).put (ctlA 63 8) 31 16 0x88B5).put (ctlA 63 8) 15 0 0x1234).wr (ctlA 63 0xC) (BitVec.ofNat 32 (14 + 16*256 + 0x100000))).wr (ctlA 63 0x10) 0x3F800000 with clk := { Clk.init with live := true, tick := 8, lastEdge := 8000000, t := 8000000, nextTick := 9, nextEdge := 9000000, lastCut := 7990000, win := .passed } };
     let p : Nat := 3;
     let stamp : Nat := 8000000;
     let a : Nat := 63;
     let b : Bytes := f64 64 [(12,1,0x88),(13,1,0xB5),(14,2,0x1234),(16,4,100),(20,4,5)];
     let x : F32 := (s.fbValues a b |>.getD (0,0)).1;
     let v : F32 := (s.fbValues a b |>.getD (0,0)).2;
     decide (p < 4) && decide (s.isReady = true) && decide (s.flag (ethA p 0) 31 = true) && decide (s.inReplay =
         false) && decide ((etherBody b).2 ≠ 0x88F7) && decide (udpIn b = none) && decide (s.ethAxes p b = [a]) &&
         decide (a < 64) && decide (s.fbValues a b = some (x, v)) && decide (stamp < s.cutoff) && decide ((stamp <
         s.clk.lastCut ∨ s.clk.win = .passed))),
    (let p : Nat := 3;
     let b : Bytes := f64 64 [(12,1,0x88),(13,1,0xF7)];
     decide (p < 4) && decide ((etherBody b).2 = 0x88F7)),
    (let s : State := rl;
     let p : Nat := 3;
     decide (p < 4) && decide ((s.isReady = false ∨ s.flag (ethA p 0) 31 = false ∨ s.inReplay = true)))].all id = true := by
  decide +kernel

theorem witness_CanTransmit : [
    (let s : State :=
        { ((rl.put (canA 7 0) 1 0 1).put (canA 7 0x40) 2 0 2).setCn 7 { Can.init with q := [{ CE with launch := 100 }, { CE with launch := 60, seq := 1 }] } with saf := { Saf.init with computed := true } };
     let u : State := (s.reach 60).getD s;
     let c : Nat := 7;
     let e : CanTxE := { CE with launch := 60, seq := 1 };
     decide (c < 8) && decide (s.canSends c = true) && decide (bestBy (fun (e f : CanTxE) => decide (e.launch <
         f.launch)) ((s.cn c).q.filter (fun e => s.clk.t < e.launch)) = some e) && decide (s.reach e.launch = some
         u) && decide ((s.cn c).safeWait = false) && decide (((s.cn c).q.filter (fun f => decide (f.launch ≤
         e.launch))).length ≤ 3)),
    (let s : State :=
        { (((rl.put (canA 7 0) 1 0 1).put (canA 7 0x40) 2 0 2).put (canA 7 0x44) 8 0 9).setCn 7 { Can.init with buf := [none, none, some ⟨⟨canFrameOf canB, .host 1 3, 0, 0, 2⟩, false, false, false⟩] } |> put1 (D 0x31 []) with saf := { Saf.init with computed := true } };
     let c : Nat := 7;
     let b : Nat := 2;
     let f : CanBuf := ⟨⟨canFrameOf canB, .host 1 3, 0, 0, 2⟩, false, false, false⟩;
     decide (c < 8) && decide (b < 3) && decide (s.mayTransmit = true) && decide ((s.cn c).bufAt b = some f) &&
         decide (s.canMode c ≠ 3)),
    (let s : State :=
        { (((rl.put (canA 7 0) 1 0 1).put (canA 7 0x40) 2 0 2).put (canA 7 0x44) 8 0 9).setCn 7 { Can.init with buf := [none, none, some ⟨⟨canFrameOf canB, .safety, 0, 0, 2⟩, false, false, false⟩] } |> put1 (D 0x31 []) with saf := { Saf.init with computed := true } };
     let c : Nat := 7;
     let b : Nat := 2;
     let f : CanBuf := ⟨⟨canFrameOf canB, .safety, 0, 0, 2⟩, false, false, false⟩;
     decide (c < 8) && decide (b < 3) && decide (s.mayTransmit = true) && decide ((s.cn c).bufAt b = some f) &&
         decide (s.canMode c ≠ 3)),
    (let s : State :=
        { (((rl.put (canA 7 0) 1 0 3).put (canA 7 0x40) 2 0 2).put (canA 7 0x44) 8 0 9).setCn 7 { Can.init with buf := [none, none, some ⟨⟨canFrameOf canB, .host 1 3, 0, 0, 2⟩, false, false, false⟩] } |> put1 (D 0x31 []) with saf := { Saf.init with computed := true } };
     let c : Nat := 7;
     let b : Nat := 2;
     let f : CanBuf := ⟨⟨canFrameOf canB, .host 1 3, 0, 0, 2⟩, false, false, false⟩;
     decide (c < 8) && decide (b < 3) && decide (s.mayTransmit = true) && decide ((s.cn c).bufAt b = some f) &&
         decide (s.canMode c = 3) && decide ((s.cn c).fifo.length < 64)),
    (let s : State :=
        { (((rl.put (canA 7 0) 1 0 3).put (canA 7 0x40) 2 0 2).put (canA 7 0x44) 8 0 9).setCn 7 { Can.init with buf := [none, none, some ⟨⟨canFrameOf canB, .safety, 0, 0, 2⟩, false, false, false⟩] } |> put1 (D 0x31 []) with saf := { Saf.init with computed := true } };
     let c : Nat := 7;
     let b : Nat := 2;
     let f : CanBuf := ⟨⟨canFrameOf canB, .safety, 0, 0, 2⟩, false, false, false⟩;
     decide (c < 8) && decide (b < 3) && decide (s.mayTransmit = true) && decide ((s.cn c).bufAt b = some f) &&
         decide (s.canMode c = 3) && decide ((s.cn c).fifo.length < 64)),
    (let s : State :=
        { (((rl.put (canA 7 0) 1 0 1).put (canA 7 0x40) 2 0 2).put (canA 7 0x44) 8 0 9).setCn 7 { Can.init with buf := [none, none, some ⟨⟨canFrameOf canB, .host 1 3, 0, 0, 2⟩, false, false, false⟩] } |> put1 (D 0x31 []) with saf := { Saf.init with computed := true } };
     let c : Nat := 7;
     let b : Nat := 2;
     let f : CanBuf := ⟨⟨canFrameOf canB, .host 1 3, 0, 0, 2⟩, false, false, false⟩;
     let r : Nat := 1;
     let n := 3;
     decide (c < 8) && decide (b < 3) && decide (s.mayTransmit = true) && decide ((s.cn c).bufAt b = some f) &&
         decide (f.e.src = .host r n)),
    (let s : State :=
        { (((rl.put (canA 7 0) 1 0 1).put (canA 7 0x40) 2 0 2).put (canA 7 0x44) 8 0 9).setCn 7 { Can.init with buf := [none, none, some ⟨⟨canFrameOf canB, .safety, 0, 0, 2⟩, false, false, false⟩] } |> put1 (D 0x31 []) with saf := { Saf.init with computed := true } };
     let c : Nat := 7;
     let b : Nat := 2;
     let f : CanBuf := ⟨⟨canFrameOf canB, .safety, 0, 0, 2⟩, false, false, false⟩;
     decide (c < 8) && decide (b < 3) && decide (s.mayTransmit = true) && decide ((s.cn c).bufAt b = some f) &&
         decide (f.e.src = .safety)),
    (let s : State :=
        { (((rl.put (canA 7 0) 1 0 1).put (canA 7 0x40) 2 0 2).put (canA 7 0x44) 8 0 9).setCn 7 { Can.init with buf := [none, none, some ⟨⟨canFrameOf canB, .host 1 3, 0, 0, 2⟩, false, false, false⟩] } |> put1 (D 0x31 []) with saf := { Saf.init with computed := true } };
     let c : Nat := 7;
     let b : Nat := 2;
     let lost : Bool := true;
     let f : CanBuf := ⟨⟨canFrameOf canB, .host 1 3, 0, 0, 2⟩, false, false, false⟩;
     decide (c < 8) && decide (b < 3) && decide (s.mayTransmit = true) && decide ((s.cn c).bufAt b = some f) &&
         decide (lost = true)),
    (let s : State :=
        { (((rl.put (canA 7 0) 1 0 1).put (canA 7 0x40) 2 0 2).put (canA 7 0x44) 8 0 9).setCn 7 { Can.init with buf := [none, none, some ⟨⟨canFrameOf canB, .host 1 3, 0, 0, 2⟩, false, true, false⟩] } |> put1 (D 0x31 []) with saf := { Saf.init with computed := true } };
     let c : Nat := 7;
     let b : Nat := 2;
     let lost : Bool := true;
     let f : CanBuf := ⟨⟨canFrameOf canB, .host 1 3, 0, 0, 2⟩, false, true, false⟩;
     decide (c < 8) && decide (b < 3) && decide (s.mayTransmit = true) && decide ((s.cn c).bufAt b = some f) &&
         decide (lost = true)),
    (let s : State :=
        { (((rl.put (canA 7 0) 1 0 1).put (canA 7 0x40) 2 0 2).put (canA 7 0x44) 8 0 9).setCn 7 { Can.init with buf := [none, none, some ⟨⟨canFrameOf canB, .host 1 3, 0, 0, 2⟩, false, false, false⟩] } |> put1 (D 0x31 []) with saf := { Saf.init with computed := true } };
     let c : Nat := 7;
     let b : Nat := 2;
     let lost : Bool := false;
     let f : CanBuf := ⟨⟨canFrameOf canB, .host 1 3, 0, 0, 2⟩, false, false, false⟩;
     decide (c < 8) && decide (b < 3) && decide (s.mayTransmit = true) && decide ((s.cn c).bufAt b = some f) &&
         decide (lost = false)),
    (let s : State :=
        { (((rl.put (canA 7 0) 1 0 1).put (canA 7 0x40) 2 0 2).put (canA 7 0x44) 8 0 9).setCn 7 { Can.init with buf := [none, none, some ⟨⟨canFrameOf canB, .host 1 3, 0, 0, 2⟩, false, true, false⟩] } |> put1 (D 0x31 []) with saf := { Saf.init with computed := true } };
     let c : Nat := 7;
     let b : Nat := 2;
     let lost : Bool := false;
     let f : CanBuf := ⟨⟨canFrameOf canB, .host 1 3, 0, 0, 2⟩, false, true, false⟩;
     decide (c < 8) && decide (b < 3) && decide (s.mayTransmit = true) && decide ((s.cn c).bufAt b = some f) &&
         decide (lost = false)),
    (let s : State :=
        { (((rl.put (canA 7 0) 1 0 1).put (canA 7 0x40) 2 0 2).put (canA 7 0x44) 8 0 9).setCn 7 { Can.init with buf := [none, none, some ⟨⟨canFrameOf canB, .host 1 3, 0, 0, 2⟩, true, false, false⟩] } |> put1 (D 0x31 []) with saf := { Saf.init with computed := true } };
     let c : Nat := 7;
     let b : Nat := 2;
     let f : CanBuf := ⟨⟨canFrameOf canB, .host 1 3, 0, 0, 2⟩, true, false, false⟩;
     decide (c < 8) && decide (b < 3) && decide (s.mayTransmit = true) && decide ((s.cn c).bufAt b = some f) &&
         decide (f.stale = true)),
    (let s : State :=
        { (((rl.put (canA 7 0) 1 0 1).put (canA 7 0x40) 2 0 2).put (canA 7 0x44) 8 0 9).setCn 7 { Can.init with buf := [none, none, some ⟨⟨canFrameOf canB, .host 1 3, 0, 0, 2⟩, false, true, false⟩] } |> put1 (D 0x31 []) with saf := { Saf.init with computed := true } };
     let c : Nat := 7;
     let b : Nat := 2;
     let f : CanBuf := ⟨⟨canFrameOf canB, .host 1 3, 0, 0, 2⟩, false, true, false⟩;
     let r : Nat := 1;
     let n := 3;
     decide (c < 8) && decide (b < 3) && decide (s.mayTransmit = true) && decide ((s.cn c).bufAt b = some f) &&
         decide (f.stale = false) && decide (f.abort = true) && decide (f.e.src = .host r n)),
    (let s : State :=
        { ((((rl.put (canA 7 0) 1 0 1).put (canA 7 0) 11 8 2).put (canA 7 0x40) 2 0 2).put (canA 7 0x44) 8 0 9).setCn 7 { Can.init with buf := [none, none, some ⟨⟨canFrameOf canB, .host 1 3, 0, 0, 2⟩, false, false, false⟩] } |> put1 (D 0x31 []) with saf := { Saf.init with computed := true } };
     let c : Nat := 7;
     let b : Nat := 2;
     let f : CanBuf := ⟨⟨canFrameOf canB, .host 1 3, 0, 0, 2⟩, false, false, false⟩;
     let r : Nat := 1;
     let n := 3;
     decide (c < 8) && decide (b < 3) && decide (s.mayTransmit = true) && decide ((s.cn c).bufAt b = some f) &&
         decide (f.stale = false) && decide (f.abort = false) && decide (s.flag (canA c 0) 7 = false) && decide
         (s.fld (canA c 0) 11 8 ≤ f.e.attempts) && decide (f.e.src = .host r n)),
    (let s : State :=
        { ((((rl.put (canA 7 0) 1 0 1).put (canA 7 0) 11 8 0).put (canA 7 0x40) 2 0 2).put (canA 7 0x44) 8 0 9).setCn 7 { Can.init with buf := [none, none, some ⟨⟨canFrameOf canB, .host 1 3, 0, 0, 2⟩, false, false, false⟩] } |> put1 (D 0x31 []) with saf := { Saf.init with computed := true } };
     let c : Nat := 7;
     let b : Nat := 2;
     let f : CanBuf := ⟨⟨canFrameOf canB, .host 1 3, 0, 0, 2⟩, false, false, false⟩;
     let r : Nat := 1;
     let n := 3;
     decide (c < 8) && decide (b < 3) && decide (s.mayTransmit = true) && decide ((s.cn c).bufAt b = some f) &&
         decide (f.stale = false) && decide (f.abort = false) && decide (s.flag (canA c 0) 7 = false) && decide
         (s.fld (canA c 0) 11 8 ≤ f.e.attempts) && decide (f.e.src = .host r n)),
    (let s : State :=
        { (((rl.put (canA 7 0) 1 0 1).put (canA 7 0x40) 2 0 2).put (canA 7 0x44) 8 0 9).setCn 7 { Can.init with buf := [none, none, some ⟨⟨canFrameOf canB, .safety, 0, 0, 2⟩, false, false, false⟩] } |> put1 (D 0x31 []) with saf := { Saf.init with computed := true } };
     let c : Nat := 7;
     let b : Nat := 2;
     let f : CanBuf := ⟨⟨canFrameOf canB, .safety, 0, 0, 2⟩, false, false, false⟩;
     decide (c < 8) && decide (b < 3) && decide (s.mayTransmit = true) && decide ((s.cn c).bufAt b = some f) &&
         decide (f.stale = false) && decide (f.abort = false) && decide (f.back = false) && decide ((f.e.src =
         .safety ∨ s.flag (canA c 0) 7 = true ∨ f.e.attempts < s.fld (canA c 0) 11 8))),
    (let s : State :=
        { ((((rl.put (canA 7 0) 1 0 1).put (canA 7 0) 11 8 3).put (canA 7 0x40) 2 0 2).put (canA 7 0x44) 8 0 9).setCn 7 { Can.init with buf := [none, none, some ⟨⟨canFrameOf canB, .host 1 3, 0, 0, 2⟩, false, false, false⟩] } |> put1 (D 0x31 []) with saf := { Saf.init with computed := true } };
     let c : Nat := 7;
     let b : Nat := 2;
     let f : CanBuf := ⟨⟨canFrameOf canB, .host 1 3, 0, 0, 2⟩, false, false, false⟩;
     decide (c < 8) && decide (b < 3) && decide (s.mayTransmit = true) && decide ((s.cn c).bufAt b = some f) &&
         decide (f.stale = false) && decide (f.abort = false) && decide (f.back = false) && decide ((f.e.src =
         .safety ∨ s.flag (canA c 0) 7 = true ∨ f.e.attempts < s.fld (canA c 0) 11 8)))].all id = true := by
  decide +kernel

theorem witness_CanReceive : [
    (let s : State := ((((rl.put (canA 7 0) 1 0 1).put (canA 7 0x40) 2 0 2).put (canA 7 0x44) 8 0 0).put (canA 7
        0x44) 23 16 0).setCn 7 { Can.init with fifo := List.replicate 63 (canFrameOf canB) };
     let c : Nat := 7;
     decide (c < 8) && decide (s.canLive c = true) && decide (s.canMode c ≠ 3) && decide (s.inReplay = false) &&
         decide ((s.cn c).fifo.length < 64)),
    (let s : State := ((((rl.put (canA 7 0) 1 0 2).put (canA 7 0x40) 2 0 3).put (canA 7 0x44) 8 0 0).put (canA 7
        0x44) 23 16 0).setCn 7 { Can.init with fifo := List.replicate 64 (canFrameOf canB) };
     let c : Nat := 7;
     decide (c < 8) && decide (s.canLive c = true) && decide (s.canMode c ≠ 3) && decide (s.inReplay = false) &&
         decide (64 ≤ (s.cn c).fifo.length)),
    (let s : State := ((((rl.put (canA 7 0) 1 0 1).put (canA 7 0x40) 2 0 2).put (canA 7 0x44) 8 0 0).put (canA 7
        0x44) 23 16 0).setCn 7 { Can.init with fifo := List.replicate 3 (canFrameOf canB) };
     let c : Nat := 7;
     decide (c < 8) && decide (s.inReplay = false)),
    (let s : State := ((((rl.put (canA 7 0) 1 0 1).put (canA 7 0x40) 2 0 2).put (canA 7 0x44) 8 0 0).put (canA 7
        0x44) 23 16 0).setCn 7 { Can.init with fifo := List.replicate 1 (canFrameOf canB) };
     let c : Nat := 7;
     decide (c < 8) && decide (s.inReplay = false)),
    (let s : State := ((((rl.put (canA 7 0) 1 0 1).put (canA 7 0x40) 2 0 2).put (canA 7 0x44) 8 0 5).put (canA 7
        0x44) 23 16 0);
     let c : Nat := 7;
     let role : CanRole := .receiverAfterFlag;
     decide (c < 8) && decide (s.canLive c = true) && decide (s.inReplay = false) && decide (afterFlag role = true)),
    (let s : State := ((((rl.put (canA 7 0) 1 0 1).put (canA 7 0x40) 2 0 2).put (canA 7 0x44) 8 0 5).put (canA 7
        0x44) 23 16 0);
     let c : Nat := 7;
     let k : CanErr := .bit;
     let role : CanRole := .transmitterFlag;
     let e : CanErr := if k = .pex ∧ s.flag (canA c 0) 12 = false then .form else k;
     decide (c < 8) && decide (s.canLive c = true) && decide (s.inReplay = false) && decide (afterFlag role = false)
         && decide (e ≠ .pex)),
    (let s : State := ((((rl.put (canA 7 0) 1 0 3).put (canA 7 0x40) 2 0 3).put (canA 7 0x44) 8 0 5).put (canA 7
        0x44) 23 16 0).put (canA 7 0) 12 12 0;
     let c : Nat := 7;
     let k : CanErr := .pex;
     let role : CanRole := .transmitterFlag;
     let e : CanErr := if k = .pex ∧ s.flag (canA c 0) 12 = false then .form else k;
     decide (c < 8) && decide (s.canLive c = true) && decide (s.inReplay = false) && decide (afterFlag role = false)
         && decide (e ≠ .pex)),
    (let s : State := ((((rl.put (canA 7 0) 1 0 1).put (canA 7 0x40) 2 0 3).put (canA 7 0x44) 8 0 248).put (canA 7
        0x44) 23 16 0).setCn 7 { Can.init with q := [CE] };
     let c : Nat := 7;
     let role : CanRole := .transmitterFlag;
     decide (c < 8) && decide (s.canLive c = true) && decide (s.inReplay = false) && decide ((s.cn c).fin = none) &&
         decide (role = .transmitterFlag) && decide (255 < s.tec c + 8)),
    (let s : State := ((((rl.put (canA 7 0) 1 0 3).put (canA 7 0x40) 2 0 3).put (canA 7 0x44) 8 0 511).put (canA 7
        0x44) 23 16 0).put (canA 7 0) 12 12 1;
     let c : Nat := 7;
     let role : CanRole := .transmitterFlag;
     decide (c < 8) && decide (s.canLive c = true) && decide (s.inReplay = false) && decide ((s.cn c).fin = none) &&
         decide (role = .transmitterFlag) && decide (255 < s.tec c + 8)),
    (let s : State := ((((rl.put (canA 7 0) 1 0 1).put (canA 7 0x40) 2 0 2).put (canA 7 0x44) 8 0 120).put (canA 7
        0x44) 23 16 0);
     let c : Nat := 7;
     let role : CanRole := .transmitterFlag;
     decide (c < 8) && decide (s.canLive c = true) && decide (s.inReplay = false) && decide ((s.cn c).fin = none) &&
         decide (role = .transmitterFlag) && decide (127 < s.tec c + 8) && decide (s.tec c + 8 ≤ 255)),
    (let s : State := ((((rl.put (canA 7 0) 1 0 1).put (canA 7 0x40) 2 0 2).put (canA 7 0x44) 8 0 120).put (canA 7
        0x44) 23 16 0).put (canA 7 0) 12 12 1;
     let c : Nat := 7;
     let role : CanRole := .transmitterFlag;
     decide (c < 8) && decide (s.canLive c = true) && decide (s.inReplay = false) && decide ((s.cn c).fin = none) &&
         decide (role = .transmitterFlag) && decide (127 < s.tec c + 8) && decide (s.tec c + 8 ≤ 255)),
    (let s : State := ((((rl.put (canA 7 0) 1 0 1).put (canA 7 0x40) 2 0 2).put (canA 7 0x44) 8 0 3).put (canA 7
        0x44) 23 16 127);
     let c : Nat := 7;
     let k : CanErr := .form;
     let role : CanRole := .receiver;
     let e : CanErr := if k = .pex ∧ s.flag (canA c 0) 12 = false then .form else k;
     decide (c < 8) && decide (s.canLive c = true) && decide (s.inReplay = false) && decide ((s.cn c).fin = none) &&
         decide (role = .receiver) && decide (e ≠ .pex) && decide (s.tec c ≤ 255) && decide (127 < s.rec' c + 1)),
    (let s : State := ((((rl.put (canA 7 0) 1 0 1).put (canA 7 0x40) 2 0 2).put (canA 7 0x44) 8 0 3).put (canA 7
        0x44) 23 16 255);
     let c : Nat := 7;
     let k : CanErr := .form;
     let role : CanRole := .receiver;
     let e : CanErr := if k = .pex ∧ s.flag (canA c 0) 12 = false then .form else k;
     decide (c < 8) && decide (s.canLive c = true) && decide (s.inReplay = false) && decide ((s.cn c).fin = none) &&
         decide (role = .receiver) && decide (e ≠ .pex) && decide (s.tec c ≤ 255) && decide (127 < s.rec' c + 1)),
    (let s : State := ((((rl.put (canA 7 0) 1 0 1).put (canA 7 0x40) 2 0 1).put (canA 7 0x44) 8 0 0).put (canA 7
        0x44) 23 16 0);
     let c : Nat := 7;
     decide (c < 8) && decide (s.canState c = 1)),
    (let s : State := ((((rl.put (canA 7 0) 1 0 1).put (canA 7 0x40) 2 0 5).put (canA 7 0x44) 8 0 300).put (canA 7
        0x44) 23 16 200);
     let c : Nat := 7;
     decide (c < 8) && decide (s.canState c = 5)),
    (let s : State := ((((rl.put (canA 7 0) 1 0 1).put (canA 7 0x40) 2 0 4).put (canA 7 0x44) 8 0 0).put (canA 7
        0x44) 23 16 0);
     let c : Nat := 7;
     decide (c < 8) && decide (s.isReady = true) && decide (s.canState c = 4)),
    (let s : State := ((((rl.put (canA 7 0) 1 0 1).put (canA 7 0x40) 2 0 5).put (canA 7 0x44) 8 0 0).put (canA 7
        0x44) 23 16 0);
     let c : Nat := 7;
     decide (c < 8) && decide (s.isReady = true) && decide (s.canState c ≠ 4)),
    (let s : State := ((((rl.put (canA 7 0) 1 0 1).put (canA 7 0x40) 2 0 2).put (canA 7 0x44) 8 0 0).put (canA 7
        0x44) 23 16 0);
     let c : Nat := 7;
     decide (c < 8) && decide (s.isReady = true) && decide (s.canState c ≠ 4))].all id = true := by
  decide +kernel

theorem witness_SensorPackets : [
    (let s : State := rl;
     let st : Nat := 47;
     decide (st < 48) && decide ((s.isReady = false ∨ s.streamOn st = false ∨ s.inReplay = true))),
    (let s : State := (((rl.put (ingA 47 0) 31 31 1).put (ingA 47 0) 17 16 1).put (ingA 47 8) 6 0 96).setStrm 47
        (Strm.init);
     let st : Nat := 47;
     let p : Packet := ⟨f64 60 [(0,1,0x80),(1,1,96),(2,2,0x0100),(4,4,0x44),(15,1,20),(14,1,0)], true, false⟩;
     decide (st < 48) && decide (s.isReady = true) && decide (s.streamOn st = true) && decide (s.inReplay = false)
         && decide (s.foreign st p = true)),
    (let s : State := (((rl.put (ingA 47 0) 31 31 1).put (ingA 47 0) 17 16 2).put (ingA 47 8) 6 0 96).setStrm 47
        (Strm.init);
     let st : Nat := 47;
     let p : Packet := ⟨f64 60 [(0,1,0x80),(1,1,95),(2,2,0x0100),(4,4,0x44),(15,1,20),(14,1,0)], false, false⟩;
     decide (st < 48) && decide (s.isReady = true) && decide (s.streamOn st = true) && decide (s.inReplay = false)
         && decide (s.foreign st p = true)),
    (let s : State := (((rl.put (ingA 47 0) 31 31 1).put (ingA 47 0) 17 16 1).put (ingA 47 8) 6 0 96).setStrm 47
        (Strm.init);
     let st : Nat := 47;
     let p : Packet := ⟨f64 60 [(0,1,0x80),(1,1,96),(2,2,0x0100),(4,4,0x44),(15,1,20),(14,1,0)], false, false⟩;
     decide (st < 48) && decide (s.isReady = true) && decide (s.streamOn st = true) && decide (s.inReplay = false)
         && decide (s.foreign st p = false) && decide (s.transport st ≠ 3) && decide ((s.strm st).cur = none)),
    (let s : State := (((rl.put (ingA 47 0) 31 31 1).put (ingA 47 0) 17 16 2).put (ingA 47 8) 6 0 96).setStrm 47
        (Strm.init);
     let st : Nat := 47;
     let p : Packet := ⟨f64 60 [(0,1,0x80),(1,1,224),(2,2,0x0100),(4,4,0x44),(15,1,20),(14,1,0)], false, false⟩;
     decide (st < 48) && decide (s.isReady = true) && decide (s.streamOn st = true) && decide (s.inReplay = false)
         && decide (s.foreign st p = false) && decide (s.transport st ≠ 3) && decide ((s.strm st).cur = none)),
    (let s : State := (((rl.put (ingA 47 0) 31 31 1).put (ingA 47 0) 17 16 1).put (ingA 47 8) 6 0 96).setStrm 47
        ({ Strm.init with cur := some (smp 3 .assembling), num := 3 });
     let u : State := (s.reachRef (s.fld (ingA 47 0x18) 15 0 * 1000)).getD s;
     let st : Nat := 47;
     let x : Sample := smp 3 .assembling;
     decide (st < 48) && decide ((s.strm st).cur = some x) && decide (s.reachRef (x.last + s.fld (ingA st 0x18) 15 0
         * 1000) = some u))].all id = true := by
  decide +kernel

theorem witness_SampleProcessing : [
    (let s : State := rl.setStrm 47
        { Strm.init with wait := [smp 3 .waiting, { smp 3 .waiting with canary := true, stamp := 9 }, smp 5 .processing] };
     let st : Nat := 47;
     let x : Sample := smp 3 .waiting;
     decide (s.sampleQueue (fun p => p == .offloaded 0) = []) && decide ((s.sampleQueue (fun p => p ==
         .waiting)).head? = some (st, x))),
    (let s : State := (((rl.put (ingA 47 0) 31 31 1).put (ingA 47 0) 17 16 1).put (ingA 47 8) 6 0 96).setStrm 47
        ({ Strm.init with slots := [none, none], wait := [{ smp 5 .processing with slot := some 1 }] });
     let st : Nat := 47;
     let x : Sample := { smp 5 .processing with slot := some 1 };
     let i := 1;
     decide (st < 48) && decide (s.inProcess st = some x) && decide (x.canary = false) && decide (x.slot = some i)),
    (let s : State := (((rl.put (ingA 47 0) 31 31 1).put (ingA 47 0) 17 16 1).put (ingA 47 8) 6 0 96).setStrm 47
        ({ Strm.init with slots := [none, none], ring := [⟨0, 0xA0000000, 65536⟩], wait := [{ smp 5 .hosted with slot := some 1 }] });
     let st : Nat := 47;
     let x : Sample := { smp 5 .hosted with slot := some 1 };
     let i := 1;
     decide (st < 48) && decide (s.inProcess st = some x) && decide (x.canary = false) && decide (x.slot = some i)),
    (let s : State := (((rl.put (ingA 47 0) 31 31 1).put (ingA 47 0) 17 16 1).put (ingA 47 8) 6 0 96).setStrm 47
        ({ Strm.init with wait := [{ smp 5 .hosted with canary := true }] });
     let st : Nat := 47;
     let x : Sample := { smp 5 .hosted with canary := true };
     decide (st < 48) && decide (s.inProcess st = some x) && decide (x.canary = true)),
    (let s : State := (((rl.put (ingA 47 0) 31 31 1).put (ingA 47 0) 17 16 2).put (ingA 47 8) 6 0 96).setStrm 47
        ({ Strm.init with slots := [none, none], wait := [{ smp 5 .processing with slot := some 1 }] });
     let st : Nat := 47;
     let x : Sample := { smp 5 .processing with slot := some 1 };
     decide (st < 48) && decide ((s.strm st).wait.find? (fun x => x.phase == .processing) = some x) && decide
         (s.transport st = 2)),
    (let s : State := (((rl.put (ingA 47 0) 31 31 1).put (ingA 47 0) 17 16 2).put (ingA 47 8) 6 0 96).setStrm 47
        ({ Strm.init with wait := [smp 4 (.offloaded 1)] });
     let u : State := (s.reachRef (0 + s.fld (ingA 47 0x18) 31 16 * 100000)).getD s;
     let st : Nat := 47;
     let num : Nat := 4;
     let due : Nat := 0 + s.fld (ingA 47 0x18) 31 16 * 100000;
     let x : Sample := smp 4 (.offloaded 1);
     decide (st < 48) && decide (s.atHost st num = some (x, due)) && decide (s.reachRef due = some u))].all id = true := by
  decide +kernel

theorem witness_ClassSJobs : [
    (let s : State := (rl.setJobs [{ J0 with id := 4 },
        { J0 with deadline := 0, num := 3, tick := 0, places := [⟨0, 0, poolLo, 64⟩] }] |> put1 (D 0x11 [])).setPkg
        2 (some ⟨{ P1 with tensors := [⟨64, 0, .i8, [64], some [1, 2], false, [0]⟩] }, [], ⟨0, 0, 64⟩⟩);
     let id : Nat := 5;
     let j : Job := { J0 with deadline := 0, num := 3, tick := 0, places := [⟨0, 0, poolLo, 64⟩] };
     decide (s.job id = some j) && decide (j.classC = false) && decide (j.phase = .waiting) && decide (j.tick ≤
         s.clk.tick) && decide (s.stages j = true)),
    (let s : State := (rl.setJobs [{ J0 with id := 4 },
        { J0 with deadline := 0, num := 3, tick := 0, inputs := [[1]], places := [⟨0, 0, poolLo, 64⟩] }] |> put1 (D
        0x11 [])).setPkg 2 (some ⟨{ P1 with tensors := [⟨64, 0, .i8, [64], some [1, 2], false, [0]⟩] }, [], ⟨0, 0,
        64⟩⟩);
     let id : Nat := 5;
     let j : Job := { J0 with deadline := 0, num := 3, tick := 0, inputs := [[1]], places := [⟨0, 0, poolLo, 64⟩] };
     decide (s.job id = some j) && decide (j.classC = false) && decide (j.phase = .waiting) && decide (j.tick ≤
         s.clk.tick) && decide (s.stages j = true)),
    (let s : State := (rl.setJobs [{ J0 with id := 4 }, { J0 with deadline := 0, num := 3, tick := 0 }] |> put1 (D
        0x11 []));
     let id : Nat := 5;
     let j : Job := { J0 with deadline := 0, num := 3, tick := 0 };
     decide (s.job id = some j) && decide (j.classC = false) && decide (j.phase = .waiting) && decide (j.tick ≤
         s.clk.tick) && decide (s.stages j = false) && decide (j.span = [])),
    (let s : State := (rl.setJobs [{ J0 with id := 4 }, { J0 with deadline := 0, num := 3, tick := 0, w := 9 }] |>
        put1 (D 0x11 [])).setPkg 2 (some ⟨P1, [], ⟨0, 0, 64⟩⟩);
     let id : Nat := 5;
     let j : Job := { J0 with deadline := 0, num := 3, tick := 0, w := 9 };
     decide (s.job id = some j) && decide (j.classC = false) && decide (j.phase = .waiting) && decide (j.tick ≤
         s.clk.tick) && decide (s.stages j = false) && decide (j.span = [])),
    (let s : State := (rl.setJobs [{ J0 with id := 4 },
        { J0 with deadline := 0, num := 3, phase := .staging, places := [⟨0, 0, poolLo, 64⟩, ⟨0, 0, spadLo 3, 64⟩] }]
        |> put1 (D 0x11 [])).setPkg 2 (some ⟨{ P1 with tensors := [⟨64, 0, .i8, [64], some [1, 2], false, [0]⟩] },
        [], ⟨0, 0, 64⟩⟩) |>.setCore 0 3 { Core.init with tile := some ⟨4,0,0,0⟩ } |>.wr (mcA 0 3 0x54) 1;
     let id : Nat := 5;
     let j : Job :=
         { J0 with deadline := 0, num := 3, phase := .staging, places := [⟨0, 0, poolLo, 64⟩, ⟨0, 0, spadLo 3, 64⟩] };
     let p : Pkg := (⟨{ P1 with tensors := [⟨64, 0, .i8, [64], some [1, 2], false, [0]⟩] }, [], ⟨0, 0, 64⟩⟩ : Pkg);
     decide (s.job id = some j) && decide (s.pkg j.pkg = some p) && decide (j.classC = false) && decide (j.phase =
         .staging) && decide ((j.places.filter (stagedAt p.decl)).any (s.placeTaken id) = true)),
    (let s : State := (rl.setJobs [{ J0 with id := 4 },
        { J0 with deadline := 0, num := 3, phase := .staging, displaced := true, places := [⟨0, 0, poolLo, 64⟩] }]
        |> put1 (D 0x11 [])).setPkg 2 (some ⟨{ P1 with tensors := [⟨64, 0, .i8, [64], some [1, 2], false, [0]⟩] },
        [], ⟨0, 0, 64⟩⟩);
     let id : Nat := 5;
     let j : Job :=
         { J0 with deadline := 0, num := 3, phase := .staging, displaced := true, places := [⟨0, 0, poolLo, 64⟩] };
     let p : Pkg := (⟨{ P1 with tensors := [⟨64, 0, .i8, [64], some [1, 2], false, [0]⟩] }, [], ⟨0, 0, 64⟩⟩ : Pkg);
     decide (s.job id = some j) && decide (s.pkg j.pkg = some p) && decide (j.classC = false) && decide (j.phase =
         .staging) && decide ((j.places.filter (stagedAt p.decl)).any (s.placeTaken id) = false) && decide (j.span =
         [])),
    (let s : State := (rl.setJobs [{ J0 with id := 4 }, { J0 with deadline := 0, num := 3 }] |> put1 (D 0x11
        [])).setCore 0 3 { Core.init with tile := some ⟨5,0,0,0⟩ };
     let u : State := s;
     let id : Nat := 5;
     let j : Job := { J0 with deadline := 0, num := 3 };
     decide (s.job id = some j) && decide (j.classC = false) && decide (j.ending = none) && decide (s.reach
         j.deadline = some u) && decide (s.jobRuns id = true)),
    (let s : State := (rl.setJobs [{ J0 with id := 4 }, { J0 with deadline := 0, num := 3 }] |> put1 (D 0x11 []));
     let u : State := s;
     let id : Nat := 5;
     let j : Job := { J0 with deadline := 0, num := 3 };
     decide (s.job id = some j) && decide (j.classC = false) && decide (j.ending = none) && decide (s.reach
         j.deadline = some u) && decide (s.jobRuns id = false) && decide (j.silent = false)),
    (let s : State := (rl.setJobs [{ J0 with id := 4 }, { J0 with deadline := 0, num := 3, phase := .running }] |>
        put1 (D 0x11 []));
     let id : Nat := 5;
     let j : Job := { J0 with deadline := 0, num := 3, phase := .running };
     decide (s.job id = some j) && decide (j.classC = false) && decide (j.phase = .running) && decide (j.settling =
         0) && decide (j.ending = none) && decide (s.levelsDone j = true) && decide (s.jobRuns id = false) && decide
         (s.sharesDone j = true) && decide (j.silent = false)),
    (let s : State := (rl.setJobs [{ J0 with id := 4 },
        { J0 with deadline := 0, num := 3, phase := .running, span := [0, 7], heard := [7] }] |> put1 (D 0x11 []));
     let id : Nat := 5;
     let j : Job := { J0 with deadline := 0, num := 3, phase := .running, span := [0, 7], heard := [7] };
     decide (s.job id = some j) && decide (j.classC = false) && decide (j.phase = .running) && decide (j.settling =
         0) && decide (j.ending = none) && decide (s.levelsDone j = true) && decide (s.jobRuns id = false) && decide
         (s.sharesDone j = true) && decide (j.silent = false))].all id = true := by
  decide +kernel

theorem witness_Activations : [
    (let s : State := ((rl.put 0x200 0 0 1).setJobs [{ J0 with id := 4 },
        { J0 with deadline := 0, num := 3, classC := true, acts := 9, gen := 2, act := some (⟨1, 0, 0, [(0,0)], false, false, none, 0, [], []⟩ : Act) }]
        |> put1 (D 0x11 []));
     let id : Nat := 5;
     let j : Job :=
         { J0 with deadline := 0, num := 3, classC := true, acts := 9, gen := 2, act := some (⟨1, 0, 0, [(0,0)], false, false, none, 0, [], []⟩ : Act) };
     let a : Act := (⟨1, 0, 0, [(0,0)], false, false, none, 0, [], []⟩ : Act);
     decide (s.job id = some j) && decide (j.act = some a) && decide (a.done = false) && decide (a.overran = false)
         && decide (a.halt = none) && decide (s.levelsDone j = true) && decide (s.jobRuns id = false) && decide
         (s.det = true)),
    (let s : State := (rl.setJobs [{ J0 with id := 4 },
        { J0 with deadline := 0, num := 3, classC := true, acts := 9, gen := 2, act := some (⟨1, 0, 0, [(0,0)], false, false, none, 0, [], []⟩ : Act) }]
        |> put1 (D 0x11 []));
     let id : Nat := 5;
     let j : Job :=
         { J0 with deadline := 0, num := 3, classC := true, acts := 9, gen := 2, act := some (⟨1, 0, 0, [(0,0)], false, false, none, 0, [], []⟩ : Act) };
     let a : Act := (⟨1, 0, 0, [(0,0)], false, false, none, 0, [], []⟩ : Act);
     decide (s.job id = some j) && decide (j.act = some a) && decide (a.done = false) && decide (a.overran = false)
         && decide (a.halt = none) && decide (s.levelsDone j = true) && decide (s.jobRuns id = false) && decide
         (s.det = false)),
    (let s : State := (rl.setJobs [{ J0 with id := 4 },
        { J0 with deadline := 0, num := 3, classC := true, acts := 9, gen := 2, act := some (⟨1, 0, 0, [(0,0)], false, false, none, 0, [], []⟩ : Act), plan := [⟨0,0,0,0,0,1,0,2⟩] }]
        |> put1 (D 0x11 []));
     let id : Nat := 5;
     let j : Job :=
         { J0 with deadline := 0, num := 3, classC := true, acts := 9, gen := 2, act := some (⟨1, 0, 0, [(0,0)], false, false, none, 0, [], []⟩ : Act), plan := [⟨0,0,0,0,0,1,0,2⟩] };
     let a : Act := (⟨1, 0, 0, [(0,0)], false, false, none, 0, [], []⟩ : Act);
     decide (s.job id = some j) && decide (j.act = some a) && decide (a.done = false) && decide (a.overran = false)
         && decide (a.halt = none) && decide (s.levelsDone j = true) && decide (s.jobRuns id = false) && decide
         (s.det = false)),
    (let s : State := (rl.setJobs [{ J0 with id := 4 },
        { J0 with deadline := 0, num := 3, classC := true, acts := 9, gen := 2, act := some (⟨1, 0, 0, [(0,0)], false, false, none, 0, [], []⟩ : Act) }]
        |> put1 (D 0x11 [])).setCore 0 3 { Core.init with tile := some ⟨5,0,0,0⟩ };
     let id : Nat := 5;
     let j : Job :=
         { J0 with deadline := 0, num := 3, classC := true, acts := 9, gen := 2, act := some (⟨1, 0, 0, [(0,0)], false, false, none, 0, [], []⟩ : Act) };
     let a : Act := (⟨1, 0, 0, [(0,0)], false, false, none, 0, [], []⟩ : Act);
     decide (s.job id = some j) && decide (j.act = some a) && decide (a.done = false) && decide (a.overran = false)
         && decide (a.stop ≤ s.clk.tick) && decide (s.jobRuns id = true)),
    (let s : State := (rl.setJobs [{ J0 with id := 4 },
        { J0 with deadline := 0, num := 3, classC := true, acts := 9, gen := 2, act := some (⟨1, 0, 0, [(0,0)], false, false, none, 0, [], []⟩ : Act) }]
        |> put1 (D 0x11 []));
     let id : Nat := 5;
     let j : Job :=
         { J0 with deadline := 0, num := 3, classC := true, acts := 9, gen := 2, act := some (⟨1, 0, 0, [(0,0)], false, false, none, 0, [], []⟩ : Act) };
     let a : Act := (⟨1, 0, 0, [(0,0)], false, false, none, 0, [], []⟩ : Act);
     decide (s.job id = some j) && decide (j.act = some a) && decide (a.done = false) && decide (a.overran = false)
         && decide (a.stop ≤ s.clk.tick) && decide (s.jobRuns id = false)),
    (let s : State := (rl.setJobs [{ J0 with id := 4 },
        { J0 with deadline := 0, num := 3, classC := true, acts := 9, gen := 2, act := some (⟨1, 0, 0, [(0,1)], false, false, none, 0, [], []⟩ : Act) }]
        |> put1 (D 0x11 []));
     let id : Nat := 5;
     let j : Job :=
         { J0 with deadline := 0, num := 3, classC := true, acts := 9, gen := 2, act := some (⟨1, 0, 0, [(0,1)], false, false, none, 0, [], []⟩ : Act) };
     let a : Act := (⟨1, 0, 0, [(0,1)], false, false, none, 0, [], []⟩ : Act);
     decide (s.job id = some j) && decide (j.act = some a) && decide ((a.done = true ∨ a.overran = true ∨ s.clk.tick
         < a.stop))),
    (let s : State := (rl.setJobs [{ J0 with id := 4 },
        { J0 with deadline := 0, num := 3, classC := true, acts := 9, gen := 2, act := some (⟨1, 0, 0, [(0,0)], true, false, none, 0, [], []⟩ : Act) }]
        |> put1 (D 0x11 []));
     let id : Nat := 5;
     let j : Job :=
         { J0 with deadline := 0, num := 3, classC := true, acts := 9, gen := 2, act := some (⟨1, 0, 0, [(0,0)], true, false, none, 0, [], []⟩ : Act) };
     let a : Act := (⟨1, 0, 0, [(0,0)], true, false, none, 0, [], []⟩ : Act);
     decide (s.job id = some j) && decide (j.act = some a) && decide ((a.done = true ∨ a.overran = true ∨ s.clk.tick
         < a.stop)))].all id = true := by
  decide +kernel

theorem witness_JobSegments : [
    (let s : State := (rl.setJobs [{ J0 with id := 4 }, { J0 with deadline := 0, num := 3, phase := .running }] |>
        put1 (D 0x11 []));
     let id : Nat := 5;
     let j : Job := { J0 with deadline := 0, num := 3, phase := .running };
     let rec' : Bytes := f64 32
         [(0,4,0),(4,1,63),(5,1,0),(6,2,1),(8,4,1065353216),(16,4,1065353216),(20,4,1065353216),(24,4,1065353216)];
     let b := fitTo 32 rec';
     let c := s.windowOf s.clk.t;
     let now := (le b 6 2).testBit 0;
     let start := if now then c else (c + dist32 (le b 0 4) c).toNat;
     let g := segOf b 1 j.ring start s.clk.ref (.job id j.tag (if j.silent then 0 else j.op));
     decide (s.job id = some j) && decide (j.classC = false) && decide (j.phase = .running) && decide (segBad b g =
         true)),
    (let s : State := (rl.setJobs [{ J0 with id := 4 }, { J0 with deadline := 0, num := 3, phase := .running }] |>
        put1 (D 0x11 [])).setAxState 63 0;
     let id : Nat := 5;
     let j : Job := { J0 with deadline := 0, num := 3, phase := .running };
     let rec' : Bytes := f64 32
         [(0,4,0),(4,1,63),(5,1,1),(6,2,1),(8,4,1065353216),(16,4,1065353216),(20,4,1065353216),(24,4,1065353216)];
     let b := fitTo 32 rec';
     let x := le b 4 1;
     let c := s.windowOf s.clk.t;
     let now := (le b 6 2).testBit 0;
     let start := if now then c else (c + dist32 (le b 0 4) c).toNat;
     let g := segOf b 1 j.ring start s.clk.ref (.job id j.tag (if j.silent then 0 else j.op));
     decide (s.job id = some j) && decide (j.classC = false) && decide (j.phase = .running) && decide (segBad b g =
         false) && decide ((s.axState x = 0 ∨ s.axState x = 4 ∨ s.axState x = 5))),
    (let s : State := (rl.setJobs [{ J0 with id := 4 }, { J0 with deadline := 0, num := 3, phase := .running }] |>
        put1 (D 0x11 [])).setAxState 63 5;
     let id : Nat := 5;
     let j : Job := { J0 with deadline := 0, num := 3, phase := .running };
     let rec' : Bytes := f64 32
         [(0,4,0),(4,1,63),(5,1,1),(6,2,1),(8,4,1065353216),(16,4,1065353216),(20,4,1065353216),(24,4,1065353216)];
     let b := fitTo 32 rec';
     let x := le b 4 1;
     let c := s.windowOf s.clk.t;
     let now := (le b 6 2).testBit 0;
     let start := if now then c else (c + dist32 (le b 0 4) c).toNat;
     let g := segOf b 1 j.ring start s.clk.ref (.job id j.tag (if j.silent then 0 else j.op));
     decide (s.job id = some j) && decide (j.classC = false) && decide (j.phase = .running) && decide (segBad b g =
         false) && decide ((s.axState x = 0 ∨ s.axState x = 4 ∨ s.axState x = 5))),
    (let s : State := (rl.setJobs [{ J0 with id := 4 }, { J0 with deadline := 0, num := 3, phase := .running }] |>
        put1 (D 0x11 [])).setAxState 63 1 |>.wr (ctlA 63 0x50) 0x40000000 |>.setAx 63
        { Axis.init with q := List.replicate 63 SG0 };
     let id : Nat := 5;
     let j : Job := { J0 with deadline := 0, num := 3, phase := .running };
     let rec' : Bytes := f64 32
         [(0,4,7),(4,1,63),(5,1,1),(6,2,0),(8,4,1065353216),(16,4,1065353216),(20,4,1065353216),(24,4,1065353216)];
     let b := fitTo 32 rec';
     let x := le b 4 1;
     let c := s.windowOf s.clk.t;
     let now := (le b 6 2).testBit 0;
     let start := if now then c else (c + dist32 (le b 0 4) c).toNat;
     let g := segOf b 1 j.ring start s.clk.ref (.job id j.tag (if j.silent then 0 else j.op));
     let left := (s.ax x).q.filter (fun e => !segReplaced j.ring start e);
     decide (s.job id = some j) && decide (j.classC = false) && decide (j.phase = .running) && decide (segBad b g =
         false) && decide (1 ≤ s.axState x) && decide (s.axState x ≤ 3) && decide ((∀ o, s.owner x = some o → o.1 ≤
         1)) && decide ((g.kind = 1 → flt g.target (s.fr x 0x4C) = false ∧ flt (s.fr x 0x50) g.target = false)) &&
         decide ((now = true ∨ 0 ≤ dist32 (le b 0 4) c)) && decide (s.inReplay = false) && decide (left.length <
         64)),
    (let s : State := (rl.setJobs [{ J0 with id := 4 }, { J0 with deadline := 0, num := 3, phase := .running }] |>
        put1 (D 0x11 [])).setAxState 63 2 |>.put (ctlA 63 0x104) 31 0 (0x90000000 + 77);
     let id : Nat := 5;
     let j : Job := { J0 with deadline := 0, num := 3, phase := .running };
     let rec' : Bytes := f64 32
         [(0,4,0),(4,1,63),(5,1,3),(6,2,1),(8,4,1065353216),(16,4,1065353216),(20,4,1065353216),(24,4,1065353216)];
     let b := fitTo 32 rec';
     let x := le b 4 1;
     let c := s.windowOf s.clk.t;
     let now := (le b 6 2).testBit 0;
     let start := if now then c else (c + dist32 (le b 0 4) c).toNat;
     let g := segOf b 1 j.ring start s.clk.ref (.job id j.tag (if j.silent then 0 else j.op));
     let left := (s.ax x).q.filter (fun e => !segReplaced j.ring start e);
     decide (s.job id = some j) && decide (j.classC = false) && decide (j.phase = .running) && decide (segBad b g =
         false) && decide (1 ≤ s.axState x) && decide (s.axState x ≤ 3) && decide ((∀ o, s.owner x = some o → o.1 ≤
         1)) && decide ((g.kind = 1 → flt g.target (s.fr x 0x4C) = false ∧ flt (s.fr x 0x50) g.target = false)) &&
         decide ((now = true ∨ 0 ≤ dist32 (le b 0 4) c)) && decide (s.inReplay = false) && decide (left.length <
         64))].all id = true := by
  decide +kernel

theorem witness_TileRuns : [
    (let s : State := (cd.setJobs
        [{ J0 with phase := .running, displaced := true, plan := [⟨0,0,0,0,0,1,0,0⟩, ⟨0,1,0,1,0,1,0,0⟩] }] |>.setPkg
        2 (some ⟨P1, [], ⟨0, 0, 64⟩⟩));
     let d : Nat := 0;
     let k : Nat := 0;
     let j : Job := ((s.pickTile 0 0 (s.fld (mcA 0 0 0) 12 8)).getD (J0, (⟨0,0,0,0,0,1,0,0⟩ : PlanTile), false)).1;
     let w : PlanTile := ((s.pickTile 0 0 (s.fld (mcA 0 0 0) 12 8)).getD (J0, (⟨0,0,0,0,0,1,0,0⟩ : PlanTile),
         false)).2.1;
     let moved : Bool := ((s.pickTile 0 0 (s.fld (mcA 0 0 0) 12 8)).getD (J0, (⟨0,0,0,0,0,1,0,0⟩ : PlanTile),
         false)).2.2;
     decide (d < 7) && decide (k < 17) && decide (s.loss = none) && decide (s.coreRole d k = 1) && decide ((s.core d
         k).tile = none) && decide ((s.core d k).held = false) && decide (s.pickTile d k (s.fld (mcA d k 0) 12 8) =
         some (j, w, moved)) && decide (j.displaced = true)),
    (let s : State := (cd.setJobs [{ J0 with phase := .running, plan := [⟨0,0,0,0,0,1,0,0⟩, ⟨0,1,0,1,0,1,0,0⟩] }]
        |>.setPkg 2 (some ⟨P1, [], ⟨0, 0, 64⟩⟩));
     let d : Nat := 0;
     let k : Nat := 0;
     let j : Job := ((s.pickTile 0 0 (s.fld (mcA 0 0 0) 12 8)).getD (J0, (⟨0,0,0,0,0,1,0,0⟩ : PlanTile), false)).1;
     let w : PlanTile := ((s.pickTile 0 0 (s.fld (mcA 0 0 0) 12 8)).getD (J0, (⟨0,0,0,0,0,1,0,0⟩ : PlanTile),
         false)).2.1;
     let moved : Bool := ((s.pickTile 0 0 (s.fld (mcA 0 0 0) 12 8)).getD (J0, (⟨0,0,0,0,0,1,0,0⟩ : PlanTile),
         false)).2.2;
     decide (d < 7) && decide (k < 17) && decide (s.loss = none) && decide (s.coreRole d k = 1) && decide ((s.core d
         k).tile = none) && decide ((s.core d k).held = false) && decide (s.pickTile d k (s.fld (mcA d k 0) 12 8) =
         some (j, w, moved)) && decide (j.displaced = false)),
    (let s : State := rl;
     let d : Nat := 6;
     let k : Nat := 16;
     decide (d < 7) && decide (k < 17) && decide ((s.loss ≠ none ∨ s.coreRole d k ≠ 1 ∨ (s.core d k).tile ≠ none ∨
         (s.core d k).held = true))),
    (let s : State := cd.setCore 0 3 { Core.init with held := true };
     let d : Nat := 0;
     let k : Nat := 3;
     decide (d < 7) && decide (k < 17) && decide ((s.loss ≠ none ∨ s.coreRole d k ≠ 1 ∨ (s.core d k).tile ≠ none ∨
         (s.core d k).held = true))),
    (let s : State := (cd.setJobs
        [{ J0 with phase := .running, plan := [⟨0,0,0,0,0,1,0,0⟩, ⟨0,1,0,1,0,1,0,0⟩] }]).setCore 0 3
        { Core.init with tile := some ⟨5,1,0,0⟩ };
     let d : Nat := 0;
     let k : Nat := 3;
     let w : RunTile := ⟨5,1,0,0⟩;
     let ops : List TileOp := [];
     let fixes : EccFixes := ⟨0,0,0⟩;
     let v := (List.range 8).foldl (fun s c => s.finishCopy d k c) ((s.tlySync d).eccFixed d k fixes);
     decide (d < 7) && decide (k < 17) && decide (s.loss = none) && decide ((s.core d k).tile = some w) && decide
         (((List.range 8).all (fun c => (s.chan d k c).st != .waitCredit && (s.chan d k c).st != .waitAck)) = true)
         && decide ((v.runOps ⟨d, k, w.job, w.op⟩ ops).2 = none)),
    (let s : State := (cd.setJobs
        [{ J0 with phase := .running, plan := [⟨0,0,0,0,0,1,0,0⟩, ⟨0,1,0,1,0,1,0,0⟩] }]).setCore 0 3
        { Core.init with tile := some ⟨5,1,0,0⟩ } |>.setChan 0 3 7 ⟨.idle, some (.copy 0 (spadLo 3) 8), none, none⟩;
     let d : Nat := 0;
     let k : Nat := 3;
     let w : RunTile := ⟨5,1,0,0⟩;
     let ops : List TileOp := [];
     let fixes : EccFixes := ⟨0,0,0⟩;
     let v := (List.range 8).foldl (fun s c => s.finishCopy d k c) ((s.tlySync d).eccFixed d k fixes);
     decide (d < 7) && decide (k < 17) && decide (s.loss = none) && decide ((s.core d k).tile = some w) && decide
         (((List.range 8).all (fun c => (s.chan d k c).st != .waitCredit && (s.chan d k c).st != .waitAck)) = true)
         && decide ((v.runOps ⟨d, k, w.job, w.op⟩ ops).2 = none)),
    (let s : State := (cd.setJobs
        [{ J0 with phase := .running, plan := [⟨0,0,0,0,0,1,0,0⟩, ⟨0,1,0,1,0,1,0,0⟩] }]).setCore 0 3
        { Core.init with tile := some ⟨5,1,0,0⟩ };
     let d : Nat := 0;
     let k : Nat := 3;
     let w : RunTile := ⟨5,1,0,0⟩;
     let ops : List TileOp := [.lanes .sum .fp32 (spadLo 3) 4 (spadLo 3 + 64)];
     let fixes : EccFixes := ⟨0,0,0⟩;
     let v := (List.range 8).foldl (fun s c => s.finishCopy d k c) ((s.tlySync d).eccFixed d k fixes);
     decide (d < 7) && decide (k < 17) && decide (s.loss = none) && decide ((s.core d k).tile = some w) && decide
         (((List.range 8).all (fun c => (s.chan d k c).st != .waitCredit && (s.chan d k c).st != .waitAck)) = true)
         && decide ((v.runOps ⟨d, k, w.job, w.op⟩ ops).2 ≠ none)),
    (let s : State := (cd.setJobs
        [{ J0 with phase := .running, plan := [⟨0,0,0,0,0,1,0,0⟩, ⟨0,1,0,1,0,1,0,0⟩] }]).setCore 0 3
        { Core.init with tile := some ⟨5,1,0,0⟩ } |>.setChan 0 3 7 ⟨.waitAck, some (.copy 0 (spadLo 3) 8), none,
        none⟩;
     let d : Nat := 0;
     let k : Nat := 3;
     decide (d < 7) && decide (k < 17) && decide (((List.range 8).any (fun c => (s.chan d k c).st == .waitCredit ||
         (s.chan d k c).st == .waitAck)) = true)),
    (let s : State := (cd.setJobs
        [{ J0 with phase := .running, plan := [⟨0,0,0,0,0,1,0,0⟩, ⟨0,1,0,1,0,1,0,0⟩] }]).setCore 0 3
        { Core.init with tile := some ⟨5,1,0,0⟩ } |>.setChan 0 3 7 ⟨.waitCredit, some (.copy 0 (spadLo 3) 8), none,
        none⟩;
     let d : Nat := 0;
     let k : Nat := 3;
     decide (d < 7) && decide (k < 17) && decide (((List.range 8).any (fun c => (s.chan d k c).st == .waitCredit ||
         (s.chan d k c).st == .waitAck)) = true)),
    (let s : State := ({ cd with comp := { cd.comp with dirty := [⟨0,16,8⟩,⟨1,16,8⟩] } }).wrBytes 1 14
        (List.replicate 20 7) |>.wrBytes 0 16 (List.replicate 4 9);
     let d : Nat := 1;
     let base : Nat := 16;
     let r : Region := ⟨1,16,8⟩;
     decide (d < 7) && decide (memsWf s.comp.mems = true) && decide (s.comp.dirty.find? (fun r => r.die == d &&
         r.base == base) = some r))].all id = true := by
  decide +kernel

theorem witness_SpanningJobs : [
    (let s : State := (rl.setJobs [{ J0 with id := 4 },
        { J0 with deadline := 0, num := 3, settling := 1, span := [0, 7], reports := [(0, 1, []), (7, 1, [])] }] |>
        put1 (D 0x11 []));
     let id : Nat := 5;
     let j : Job :=
         { J0 with deadline := 0, num := 3, settling := 1, span := [0, 7], reports := [(0, 1, []), (7, 1, [])] };
     decide (s.job id = some j) && decide (s.settleReady j = true) && decide (j.settling = 1)),
    (let s : State := ((rl.put (fabA 4) 9 0 7).setJobs [{ J0 with id := 4 },
        { J0 with deadline := 0, num := 3, settling := 1, member := some 9, reports := [(0, 1, [3])], span := [0,7] }]
        |> put1 (D 0x11 []));
     let id : Nat := 5;
     let j : Job :=
         { J0 with deadline := 0, num := 3, settling := 1, member := some 9, reports := [(0, 1, [3])], span := [0,7] };
     decide (s.job id = some j) && decide (s.settleReady j = true) && decide (j.settling = 1)),
    (let s : State := (rl.setJobs [{ J0 with id := 4 },
        { J0 with deadline := 0, num := 3, settling := 2, span := [0, 7], reports := [(0, 2, []), (7, 2, [])] }] |>
        put1 (D 0x11 []));
     let id : Nat := 5;
     let j : Job :=
         { J0 with deadline := 0, num := 3, settling := 2, span := [0, 7], reports := [(0, 2, []), (7, 2, [])] };
     decide (s.job id = some j) && decide (s.settleReady j = true) && decide (j.settling ≠ 1)),
    (let s : State := ((rl.put (fabA 4) 9 0 7).setJobs [{ J0 with id := 4 },
        { J0 with deadline := 0, num := 3, settling := 2, member := some 9, reports := [(0, 2, [3])], span := [0,7] }]
        |> put1 (D 0x11 []));
     let id : Nat := 5;
     let j : Job :=
         { J0 with deadline := 0, num := 3, settling := 2, member := some 9, reports := [(0, 2, [3])], span := [0,7] };
     decide (s.job id = some j) && decide (s.settleReady j = true) && decide (j.settling ≠ 1)),
    (let s : State := (rl.setJobs [{ J0 with id := 4 }, { J0 with deadline := 0, num := 3, span := [0, 7] }] |> put1
        (D 0x11 [])).setPkg 2 (some ⟨PC, [], ⟨0, 0, 64⟩⟩);
     let key : Nat := 5;
     let op : Nat := 0;
     let j : Job := { J0 with deadline := 0, num := 3, span := [0, 7] };
     let c : CollCtx := (s.collCtx j op).getD C0;
     decide (s.spanJob key = some j) && decide (s.job j.id = some j) && decide (s.collCtx j op = some c) && decide
         (c.kind = 1) && decide (c.me = 0) && decide (s.det = false) && decide ((j.coll op).arr = []) && decide (1 <
         j.span.length)),
    (let s : State := (rl.setJobs [{ J0 with id := 4 },
        { J0 with deadline := 0, num := 3, span := [0, 7], colls := [⟨1, [], [(0, 0, [])], [], []⟩] }] |> put1 (D
        0x11 [])).setPkg 2 (some ⟨PC, [], ⟨0, 0, 64⟩⟩);
     let key : Nat := 5;
     let op : Nat := 0;
     let j : Job := { J0 with deadline := 0, num := 3, span := [0, 7], colls := [⟨1, [], [(0, 0, [])], [], []⟩] };
     let c : CollCtx := (s.collCtx j op).getD C0;
     decide (s.spanJob key = some j) && decide (s.job j.id = some j) && decide (s.collCtx j op = some c) && decide
         (c.kind = 1) && decide (c.me = 0) && decide (s.det = false) && decide ((j.coll op).arr = []) && decide (1 <
         j.span.length)),
    (let s : State := (LKs 3 Lnk.init 0).setJobs [J0];
     let p : RxPkt := ⟨1, 0, 8, [15, 16], none⟩;
     decide (p.link < 12) && decide (s.linkState p.link = 3) && decide (p.errs.any (fun n => decide (15 < n)) =
         true)),
    (let s : State := (LKs 3 Lnk.init 0).setJobs [J0];
     let p : RxPkt := ⟨1, 9, 8, [15, 16], none⟩;
     decide (p.link < 12) && decide (s.linkState p.link = 3) && decide (p.errs.any (fun n => decide (15 < n)) =
         true)),
    (let s : State := ((LKs 3 Lnk.init 0).setJobs [{ J0 with id := 4 },
        { J0 with deadline := 0, num := 3, span := [0] }] |> put1 (D 0x11 [])).setPkg 2 (some ⟨PC, [], ⟨0, 0, 64⟩⟩);
     let key : Nat := 5;
     let op : Nat := 0;
     let j : Job := { J0 with deadline := 0, num := 3, span := [0] };
     let c : CollCtx := (s.collCtx j op).getD C0;
     decide (s.spanJob key = some j) && decide (s.job j.id = some j) && decide (s.collCtx j op = some c) && decide
         ((∀ p ∈ j.span, s.reachable p = true))),
    (let s : State := ((LKs 3 Lnk.init 0).setJobs [{ J0 with id := 4 },
        { J0 with deadline := 0, num := 3, span := [0], phase := .running, level := 0, plan := [⟨0,0,0,0,0,1,0,2⟩] }]
        |> put1 (D 0x11 [])).setPkg 2 (some ⟨PC, [], ⟨0, 0, 64⟩⟩);
     let key : Nat := 5;
     let op : Nat := 0;
     let j : Job :=
         { J0 with deadline := 0, num := 3, span := [0], phase := .running, level := 0, plan := [⟨0,0,0,0,0,1,0,2⟩] };
     let c : CollCtx := (s.collCtx j op).getD C0;
     decide (s.spanJob key = some j) && decide (s.job j.id = some j) && decide (s.collCtx j op = some c) && decide
         ((∀ p ∈ j.span, s.reachable p = true))),
    (let s : State := (rl.setJobs [{ J0 with id := 4 },
        { J0 with deadline := 0, num := 3, span := [0, 7], phase := .running }] |> put1 (D 0x11 [])).setCore 0 3
        { Core.init with tile := some ⟨5,0,0,0⟩ };
     let key : Nat := 5;
     let j : Job := { J0 with deadline := 0, num := 3, span := [0, 7], phase := .running };
     decide (s.spanJob key = some j) && decide (s.job j.id = some j) && decide (j.ending = none) && decide
         (s.jobRuns j.id = true)),
    (let s : State := ((rl.put (fabA 4) 9 0 7).setJobs [{ J0 with id := 4 },
        { J0 with deadline := 0, num := 3, span := [0, 7], member := some 9, phase := .running }] |> put1 (D 0x11
        [])).setCore 0 3 { Core.init with tile := some ⟨5,0,0,0⟩ };
     let key : Nat := 9;
     let j : Job := { J0 with deadline := 0, num := 3, span := [0, 7], member := some 9, phase := .running };
     decide (s.spanJob key = some j) && decide (s.job j.id = some j) && decide (j.ending = none) && decide
         (s.jobRuns j.id = true)),
    (let s : State := (rl.setJobs [{ J0 with id := 4 }, { J0 with deadline := 0, num := 3, span := [0, 7] }] |> put1
        (D 0x11 []));
     let key : Nat := 5;
     let j : Job := { J0 with deadline := 0, num := 3, span := [0, 7] };
     decide (s.spanJob key = some j) && decide (s.job j.id = some j) && decide (j.ending = none) && decide
         (s.jobRuns j.id = false)),
    (let s : State := (rl.setJobs [{ J0 with id := 4 }, { J0 with deadline := 0, num := 3, span := [0, 7] }] |> put1
        (D 0x11 [])).wr (fabA 0x10) 0xFFFFFFFF;
     let key : Nat := 5;
     let j : Job := { J0 with deadline := 0, num := 3, span := [0, 7] };
     decide (s.spanJob key = some j) && decide (s.job j.id = some j) && decide (j.ending = none) && decide
         (s.jobRuns j.id = false)),
    (let s : State := (rl.setJobs [{ J0 with id := 4 },
        { J0 with deadline := 0, num := 3, settling := 1, span := [0, 7], reports := [(0, 1, []), (7, 1, [])] }] |>
        put1 (D 0x11 []));
     let key : Nat := 5;
     let j : Job :=
         { J0 with deadline := 0, num := 3, settling := 1, span := [0, 7], reports := [(0, 1, []), (7, 1, [])] };
     decide (s.spanJob key = some j) && decide (s.job j.id = some j) && decide (j.settling ≠ 0)),
    (let s : State := ((rl.put (fabA 4) 9 0 7).setJobs [{ J0 with id := 4 },
        { J0 with deadline := 0, num := 3, settling := 2, member := some 9, span := [0,7] }] |> put1 (D 0x11 []));
     let key : Nat := 9;
     let j : Job := { J0 with deadline := 0, num := 3, settling := 2, member := some 9, span := [0,7] };
     decide (s.spanJob key = some j) && decide (s.job j.id = some j) && decide (j.settling ≠ 0)),
    (let s : State := (rl.setJobs [{ J0 with id := 4 }, { J0 with deadline := 0, num := 3, span := [0, 7] }] |> put1
        (D 0x11 []));
     let key : Nat := 5;
     let pkg : Nat := 7;
     let j : Job := { J0 with deadline := 0, num := 3, span := [0, 7] };
     decide (s.spanJob key = some j) && decide (s.job j.id = some j) && decide (j.member = none) && decide
         (j.heard.contains pkg = false)),
    (let s : State := (rl.setJobs [{ J0 with id := 4 },
        { J0 with deadline := 0, num := 3, span := [0, 7], heard := [3], runStats := [(0, ⟨1,2,3,4,false,5⟩)] }] |>
        put1 (D 0x11 []));
     let key : Nat := 5;
     let pkg : Nat := 7;
     let j : Job :=
         { J0 with deadline := 0, num := 3, span := [0, 7], heard := [3], runStats := [(0, ⟨1,2,3,4,false,5⟩)] };
     decide (s.spanJob key = some j) && decide (s.job j.id = some j) && decide (j.member = none) && decide
         (j.heard.contains pkg = false)),
    (let s : State := (rl.setJobs [{ J0 with id := 4 },
        { J0 with deadline := 0, num := 3, span := [0, 7], phase := .running }] |> put1 (D 0x11 [])).setCore 0 3
        { Core.init with tile := some ⟨5,0,0,0⟩ };
     let key : Nat := 5;
     let code : Nat := Status.packageJobLoss.code;
     let j : Job := { J0 with deadline := 0, num := 3, span := [0, 7], phase := .running };
     let st : Status := .packageJobLoss;
     decide (s.spanJob key = some j) && decide (s.job j.id = some j) && decide (j.ending = none) && decide
         (Status.ofCode code = some st) && decide (s.jobRuns j.id = true)),
    (let s : State := ((rl.put (fabA 4) 9 0 7).setJobs [{ J0 with id := 4 },
        { J0 with deadline := 0, num := 3, span := [0, 7], member := some 9, phase := .running }] |> put1 (D 0x11
        [])).setCore 0 3 { Core.init with tile := some ⟨5,0,0,0⟩ };
     let key : Nat := 9;
     let code : Nat := Status.jobCancelled.code;
     let j : Job := { J0 with deadline := 0, num := 3, span := [0, 7], member := some 9, phase := .running };
     let st : Status := .jobCancelled;
     decide (s.spanJob key = some j) && decide (s.job j.id = some j) && decide (j.ending = none) && decide
         (Status.ofCode code = some st) && decide (s.jobRuns j.id = true)),
    (let s : State := (rl.setJobs [{ J0 with id := 4 }, { J0 with deadline := 0, num := 3, span := [0, 7] }] |> put1
        (D 0x11 []));
     let key : Nat := 5;
     let code : Nat := Status.packageJobLoss.code;
     let j : Job := { J0 with deadline := 0, num := 3, span := [0, 7] };
     let st : Status := .packageJobLoss;
     decide (s.spanJob key = some j) && decide (s.job j.id = some j) && decide (j.ending = none) && decide
         (Status.ofCode code = some st) && decide (s.jobRuns j.id = false)),
    (let s : State := ((rl.put (fabA 4) 9 0 7).setJobs [{ J0 with id := 4 },
        { J0 with deadline := 0, num := 3, member := some 9, span := [0,7] }] |> put1 (D 0x11 []));
     let key : Nat := 9;
     let code : Nat := Status.jobCancelled.code;
     let j : Job := { J0 with deadline := 0, num := 3, member := some 9, span := [0,7] };
     let st : Status := .jobCancelled;
     decide (s.spanJob key = some j) && decide (s.job j.id = some j) && decide (j.ending = none) && decide
         (Status.ofCode code = some st) && decide (s.jobRuns j.id = false)),
    (let s : State := (rl.put (fabA 4) 9 0 7);
     let x : SharePlan := ⟨9,1,[5],false,[],[],[0,7],0,0,0,[],0,0,0,0⟩;
     decide (s.isLead = false) && decide (s.loss = none) && decide (s.pkgByDigest x.digest = none)),
    (let s : State := rl.setFab ⟨3, [(1023, 9)], []⟩;
     let src : Nat := 1023;
     decide (src < 1024) && decide (s.isLead = true)),
    (let s : State := (rl.put (fabA 4) 9 0 7).setFab ⟨15, [], []⟩;
     let src : Nat := 0;
     decide (src < 1024) && decide (s.isLead = false) && decide (src = s.leadPkg)),
    (let s : State := (((rl.put (fabA 4) 9 0 7).setFab ⟨16, [], []⟩).setJobs [{ J0 with id := 4 },
        { J0 with deadline := 0, num := 3, span := [0, 7] }] |> put1 (D 0x11 []));
     let j := { J0 with deadline := 0, num := 3, span := [0, 7] };
     decide (s.isLead = false) && decide (16 ≤ s.comp.fab.leadTicks) && decide (j ∈ s.jobs) && decide (j.span ≠ [])),
    (let s : State := (((rl.put (fabA 4) 9 0 7).setFab ⟨17, [], []⟩).setJobs [{ J0 with id := 4 },
        { J0 with deadline := 0, num := 3, span := [0, 7], phase := .running }] |> put1 (D 0x11 [])).setCore 0 3
        { Core.init with tile := some ⟨5,0,0,0⟩ };
     let j := { J0 with deadline := 0, num := 3, span := [0, 7], phase := .running };
     decide (s.isLead = false) && decide (16 ≤ s.comp.fab.leadTicks) && decide (j ∈ s.jobs) && decide (j.span ≠ [])),
    (let s : State := (((rl.put (fabA 4) 9 0 7).setFab ⟨16, [], []⟩).setJobs [{ J0 with id := 4 },
        { J0 with deadline := 0, num := 3, span := [0, 7] }] |> put1 (D 0x11 []));
     decide (s.isLead = false) && decide (16 ≤ s.comp.fab.leadTicks)),
    (let s : State := (((rl.put (fabA 4) 9 0 7).setFab ⟨17, [], []⟩).setJobs [{ J0 with id := 4 },
        { J0 with deadline := 0, num := 3, span := [0, 7], phase := .running }] |> put1 (D 0x11 [])).setCore 0 3
        { Core.init with tile := some ⟨5,0,0,0⟩ };
     decide (s.isLead = false) && decide (16 ≤ s.comp.fab.leadTicks)),
    (let s : State := ((rl.setFab ⟨0, [(7, 16)], []⟩).setJobs [{ J0 with id := 4 },
        { J0 with deadline := 0, num := 3, span := [0, 7] }] |> put1 (D 0x11 []));
     let pkg : Nat := 7;
     let j := { J0 with deadline := 0, num := 3, span := [0, 7] };
     decide (pkg < 1024) && decide (s.isLead = true) && decide (16 ≤ tget 0 s.comp.fab.member pkg) && decide (j ∈
         s.jobs) && decide (pkg ∈ j.span)),
    (let s : State := ((rl.setFab ⟨0, [(7, 99)], []⟩).setJobs [{ J0 with id := 4 },
        { J0 with deadline := 0, num := 3, span := [0, 7], phase := .running }] |> put1 (D 0x11 [])).setCore 0 3
        { Core.init with tile := some ⟨5,0,0,0⟩ };
     let pkg : Nat := 7;
     let j := { J0 with deadline := 0, num := 3, span := [0, 7], phase := .running };
     decide (pkg < 1024) && decide (s.isLead = true) && decide (16 ≤ tget 0 s.comp.fab.member pkg) && decide (j ∈
         s.jobs) && decide (pkg ∈ j.span)),
    (let s : State := ((rl.setFab ⟨0, [(7, 16)], []⟩).setJobs [{ J0 with id := 4 },
        { J0 with deadline := 0, num := 3, span := [0, 7] }] |> put1 (D 0x11 []));
     let pkg : Nat := 7;
     decide (pkg < 1024) && decide (s.isLead = true) && decide (16 ≤ tget 0 s.comp.fab.member pkg)),
    (let s : State := ((rl.setFab ⟨0, [(7, 99)], []⟩).setJobs [{ J0 with id := 4 },
        { J0 with deadline := 0, num := 3, span := [0, 7], phase := .running }] |> put1 (D 0x11 [])).setCore 0 3
        { Core.init with tile := some ⟨5,0,0,0⟩ };
     let pkg : Nat := 7;
     decide (pkg < 1024) && decide (s.isLead = true) && decide (16 ≤ tget 0 s.comp.fab.member pkg))].all id = true := by
  decide +kernel

theorem witness_DmaTransfers : [
    (let s : State := (((cd.setCore 0 3 { Core.init with tile := some ⟨5,0,0,0⟩ } |>.wr (mcA 0 3 0x54) 0xFFFFFFFF
        |>.wr (mcA 0 3 0x58) 0xFFFFFFFF) |>.setJobs [{ J0 with pins := [⟨0, 0, 2 ^ 40⟩] }]).wrBytes 0 64
        [1,2,3,4,5,6,7,8]).setChan 0 3 7 ⟨.copying, some (.copy 64 (spadLo 3) 8), none, none⟩;
     let d : Nat := 0;
     let k : Nat := 3;
     let c : Nat := 7;
     let x : Xfer := .copy 128 (spadLo 3 + 8) 8;
     let a := 64;
     let b := spadLo 3;
     let n := 8;
     decide (chanOk d k c = true) && decide (s.running d k = true) && decide ((s.chan d k c).halt = none) && decide
         ((s.chan d k c).st ≠ .waitCredit) && decide ((s.chan d k c).st ≠ .waitAck) && decide (xferOk k x = true) &&
         decide (s.xferMine d k x = true) && decide (s.xferClash d k x = none) && decide (s.xferCut x = false) &&
         decide ((s.chan d k c).st = .copying) && decide ((s.chan d k c).xfer = some (.copy a b n))),
    (let s : State := (((cd.setCore 0 3 { Core.init with tile := some ⟨5,0,0,0⟩ } |>.wr (mcA 0 3 0x54) 0xFFFFFFFF
        |>.wr (mcA 0 3 0x58) 0xFFFFFFFF) |>.setJobs [{ J0 with pins := [⟨0, 0, 2 ^ 40⟩] }]).wrBytes 0 64
        [1,2,3,4,5,6,7,8]).setChan 0 3 7 ⟨.copying, some (.copy 64 (spadLo 3) 8), none, none⟩;
     let d : Nat := 0;
     let k : Nat := 3;
     let c : Nat := 7;
     let x : Xfer := .copy poolLo (imemLo 3) 8;
     let a := 64;
     let b := spadLo 3;
     let n := 8;
     decide (chanOk d k c = true) && decide (s.running d k = true) && decide ((s.chan d k c).halt = none) && decide
         ((s.chan d k c).st ≠ .waitCredit) && decide ((s.chan d k c).st ≠ .waitAck) && decide (xferOk k x = true) &&
         decide (s.xferMine d k x = true) && decide (s.xferClash d k x = none) && decide (s.xferCut x = false) &&
         decide ((s.chan d k c).st = .copying) && decide ((s.chan d k c).xfer = some (.copy a b n))),
    (let s : State := (((cd.setCore 0 3 { Core.init with tile := some ⟨5,0,0,0⟩ } |>.wr (mcA 0 3 0x54) 0xFFFFFFFF
        |>.wr (mcA 0 3 0x58) 0xFFFFFFFF) |>.setJobs [{ J0 with pins := [⟨0, 0, 2 ^ 40⟩] }]).wrBytes 0 64
        [1,2,3,4,5,6,7,8]).setChan 0 3 7 ⟨.copying, some (.copy 64 (spadLo 3) 8), none, none⟩;
     let d : Nat := 0;
     let k : Nat := 3;
     let c : Nat := 7;
     let x : Xfer := .copy 128 (spadLo 3 + 8) 8;
     decide (chanOk d k c = true) && decide (s.running d k = true) && decide ((s.chan d k c).halt = none) && decide
         ((s.chan d k c).st ≠ .waitCredit) && decide ((s.chan d k c).st ≠ .waitAck) && decide (xferOk k x = true) &&
         decide (s.xferMine d k x = true) && decide (s.xferClash d k x = none) && decide (s.xferCut x = false)),
    (let s : State := (((cd.setCore 0 3 { Core.init with tile := some ⟨5,0,0,0⟩ } |>.wr (mcA 0 3 0x54) 0xFFFFFFFF
        |>.wr (mcA 0 3 0x58) 0xFFFFFFFF) |>.setJobs [{ J0 with pins := [⟨0, 0, 2 ^ 40⟩] }]).wrBytes 0 64
        [1,2,3,4,5,6,7,8]).setChan 0 3 7 ⟨.copying, some (.copy 64 (spadLo 3) 8), none, none⟩;
     let d : Nat := 0;
     let k : Nat := 3;
     let c : Nat := 7;
     let x : Xfer := .copy poolLo (imemLo 3) 8;
     decide (chanOk d k c = true) && decide (s.running d k = true) && decide ((s.chan d k c).halt = none) && decide
         ((s.chan d k c).st ≠ .waitCredit) && decide ((s.chan d k c).st ≠ .waitAck) && decide (xferOk k x = true) &&
         decide (s.xferMine d k x = true) && decide (s.xferClash d k x = none) && decide (s.xferCut x = false)),
    (let s : State := ((cd.setCore 0 3 { Core.init with tile := some ⟨5,0,0,0⟩ } |>.wr (mcA 0 3 0x54) 0xFFFFFFFF
        |>.wr (mcA 0 3 0x58) 0xFFFFFFFF) |>.setJobs [{ J0 with pins := [⟨0, 0, 2 ^ 40⟩] }]);
     let d : Nat := 0;
     let k : Nat := 3;
     let c : Nat := 7;
     let x : Xfer := .copy poolLo (imemLo 3) 8;
     decide (chanOk d k c = true) && decide (s.running d k = true) && decide ((s.chan d k c).halt = none) && decide
         ((s.chan d k c).st ≠ .waitCredit) && decide ((s.chan d k c).st ≠ .waitAck) && decide (xferOk k x = true) &&
         decide (s.xferMine d k x = true) && decide (s.xferClash d k x = none) && decide (s.xferCut x = false)),
    (let s : State := (((cd.setCore 0 3 { Core.init with tile := some ⟨5,0,0,0⟩ } |>.wr (mcA 0 3 0x54) 0xFFFFFFFF
        |>.wr (mcA 0 3 0x58) 0xFFFFFFFF) |>.setJobs [{ J0 with pins := [⟨0, 0, 2 ^ 40⟩] }]).wrBytes 0 64
        [1,2,3,4,5,6,7,8]).setChan 0 3 7 ⟨.copying, some (.copy 64 (spadLo 3) 8), none, none⟩;
     let d : Nat := 0;
     let k : Nat := 3;
     let c : Nat := 7;
     let x : Xfer := .copy 128 (spadLo 3 + 8) 0;
     decide (chanOk d k c = true) && decide (s.running d k = true) && decide ((s.chan d k c).halt = none) && decide
         ((s.chan d k c).st ≠ .waitCredit) && decide ((s.chan d k c).st ≠ .waitAck) && decide (xferOk k x = false ∨
         s.xferMine d k x = false)),
    (let s : State := (cd.setCore 0 3 { Core.init with tile := some ⟨5,0,0,0⟩ } |>.wr (mcA 0 3 0x54) 0xFFFFFFFF
        |>.wr (mcA 0 3 0x58) 0xFFFFFFFF);
     let d : Nat := 0;
     let k : Nat := 3;
     let c : Nat := 7;
     let x : Xfer := .copy 128 (spadLo 3 + 8) 8;
     decide (chanOk d k c = true) && decide (s.running d k = true) && decide ((s.chan d k c).halt = none) && decide
         ((s.chan d k c).st ≠ .waitCredit) && decide ((s.chan d k c).st ≠ .waitAck) && decide (xferOk k x = false ∨
         s.xferMine d k x = false)),
    (let s : State := (((cd.setCore 0 3 { Core.init with tile := some ⟨5,0,0,0⟩ } |>.wr (mcA 0 3 0x54) 0xFFFFFFFF
        |>.wr (mcA 0 3 0x58) 0xFFFFFFFF) |>.setJobs [{ J0 with pins := [⟨0, 0, 2 ^ 40⟩] }]).wrBytes 0 64
        [1,2,3,4,5,6,7,8]).setChan 0 3 7 ⟨.copying, some (.copy 64 (spadLo 3) 8), none, none⟩;
     let d : Nat := 0;
     let k : Nat := 3;
     let c : Nat := 7;
     let x : Xfer := .berth (spadLo 3) 0 7 255 3 0 8;
     decide (chanOk d k c = true) && decide (s.running d k = true) && decide ((s.chan d k c).halt = none) && decide
         ((s.chan d k c).st ≠ .waitCredit) && decide ((s.chan d k c).st ≠ .waitAck) && decide (xferOk k x = true) &&
         decide (s.xferMine d k x = true) && decide (s.xferClash d k x = none) && decide (s.xferCut x = true)),
    (let s : State := (((cd.setCore 0 3 { Core.init with tile := some ⟨5,0,0,0⟩ } |>.wr (mcA 0 3 0x54) 0xFFFFFFFF
        |>.wr (mcA 0 3 0x58) 0xFFFFFFFF) |>.setJobs [{ J0 with pins := [⟨0, 0, 2 ^ 40⟩] }]).wrBytes 0 64
        [1,2,3,4,5,6,7,8]).setChan 0 3 7 ⟨.copying, some (.copy 64 (spadLo 3) 8), none, none⟩;
     let d : Nat := 0;
     let k : Nat := 3;
     let c : Nat := 7;
     let x : Xfer := .berth poolLo 9 6 255 3 0 8;
     decide (chanOk d k c = true) && decide (s.running d k = true) && decide ((s.chan d k c).halt = none) && decide
         ((s.chan d k c).st ≠ .waitCredit) && decide ((s.chan d k c).st ≠ .waitAck) && decide (xferOk k x = true) &&
         decide (s.xferMine d k x = true) && decide (s.xferClash d k x = none) && decide (s.xferCut x = true)),
    (let s : State :=
        { (cd.setCore 0 3 { Core.init with tile := some ⟨5,0,0,0⟩ } |>.wr (mcA 0 3 0x54) 0xFFFFFFFF |>.wr (mcA 0 3 0x58) 0xFFFFFFFF) with jobs := [{ J0 with pins := [⟨0, 0, 2 ^ 40⟩] }], clk := { Clk.init with ref := 77 } }.wr
        (mcA 0 3 0x54) 0xFFFFFFF3;
     let d : Nat := 0;
     let k : Nat := 3;
     let c : Nat := 7;
     let x : Xfer := .copy 128 (spadLo 3 + 0x80000 - 8) 16;
     let a := spadLo 3 + 0x80000;
     decide (chanOk d k c = true) && decide (s.running d k = true) && decide ((s.chan d k c).halt = none) && decide
         ((s.chan d k c).st ≠ .waitCredit) && decide ((s.chan d k c).st ≠ .waitAck) && decide (xferOk k x = true) &&
         decide (s.xferMine d k x = true) && decide (s.xferClash d k x = some a)),
    (let s : State := cd;
     let d : Nat := 0;
     let k : Nat := 3;
     let c : Nat := 7;
     decide (chanOk d k c = true) && decide ((s.running d k = false ∨ (s.chan d k c).halt ≠ none ∨ (s.chan d k c).st
         = .waitCredit ∨ (s.chan d k c).st = .waitAck))),
    (let s : State := (cd.setCore 0 3 { Core.init with tile := some ⟨5,0,0,0⟩ } |>.wr (mcA 0 3 0x54) 0xFFFFFFFF
        |>.wr (mcA 0 3 0x58) 0xFFFFFFFF).setChan 0 3 7 ⟨.waitAck, some (.copy 64 (spadLo 3) 8), none, none⟩;
     let d : Nat := 0;
     let k : Nat := 3;
     let c : Nat := 7;
     decide (chanOk d k c = true) && decide ((s.running d k = false ∨ (s.chan d k c).halt ≠ none ∨ (s.chan d k c).st
         = .waitCredit ∨ (s.chan d k c).st = .waitAck))),
    (let s : State := (cd.setCore 0 3 { Core.init with tile := some ⟨5,0,0,0⟩ } |>.wr (mcA 0 3 0x54) 0xFFFFFFFF
        |>.wr (mcA 0 3 0x58) 0xFFFFFFFF).wrBytes 0 64 [1,2,3,4,5,6,7,8,9,10,11,12,13,14,15,16] |>.setChan 0 3 7
        ⟨.copying, some (.copy 64 (spadLo 3) 16), none, none⟩;
     let d : Nat := 0;
     let k : Nat := 3;
     let c : Nat := 7;
     let word : Nat := 64;
     let src : Nat := 64;
     let dst : Nat := spadLo 3;
     let n : Nat := 16;
     decide (chanOk d k c = true) && decide ((s.chan d k c).st = .copying) && decide ((s.chan d k c).xfer = some
         (.copy src dst n)) && decide (src ≤ word) && decide (word < src + n) && decide (word % 8 = 0) && decide
         (word < dramTop)),
    (let s : State := (cd.setCore 0 3 { Core.init with tile := some ⟨5,0,0,0⟩ } |>.wr (mcA 0 3 0x54) 0xFFFFFFFF
        |>.wr (mcA 0 3 0x58) 0xFFFFFFFF).wrBytes 0 64 [1,2,3,4,5,6,7,8,9,10,11,12,13,14,15,16] |>.setChan 0 3 7
        ⟨.copying, some (.copy 64 (spadLo 3) 16), none, none⟩;
     let d : Nat := 0;
     let k : Nat := 3;
     let c : Nat := 7;
     let word : Nat := 72;
     let src : Nat := 64;
     let dst : Nat := spadLo 3;
     let n : Nat := 16;
     decide (chanOk d k c = true) && decide ((s.chan d k c).st = .copying) && decide ((s.chan d k c).xfer = some
         (.copy src dst n)) && decide (src ≤ word) && decide (word < src + n) && decide (word % 8 = 0) && decide
         (word < dramTop)),
    (let s : State := (cd.setCore 0 3 { Core.init with tile := some ⟨5,0,0,0⟩ } |>.wr (mcA 0 3 0x54) 0xFFFFFFFF
        |>.wr (mcA 0 3 0x58) 0xFFFFFFFF).wrBytes 0 64 [1,2,3,4,5,6,7,8,9,10,11,12,13,14,15,16] |>.setChan 0 3 7
        ⟨.copying, some (.copy 64 (spadLo 3) 16), none, none⟩;
     let d : Nat := 0;
     let k : Nat := 3;
     let c : Nat := 7;
     let word : Nat := 64;
     let src : Nat := 64;
     let dst : Nat := spadLo 3;
     let n : Nat := 16;
     let e := 0;
     let q := spadLo 3 + 8;
     decide (chanOk d k c = true) && decide ((s.chan d k c).st = .copying) && decide ((s.chan d k c).xfer = some
         (.copy src dst n)) && decide (src ≤ word) && decide (word < src + n) && decide (word % 8 = 0) && decide ((e
         ≠ d ∨ q < dst ∨ dst + (word - src) ≤ q))),
    (let s : State := (cd.setCore 0 3 { Core.init with tile := some ⟨5,0,0,0⟩ } |>.wr (mcA 0 3 0x54) 0xFFFFFFFF
        |>.wr (mcA 0 3 0x58) 0xFFFFFFFF).wrBytes 0 64 [1,2,3,4,5,6,7,8,9,10,11,12,13,14,15,16] |>.setChan 0 3 7
        ⟨.copying, some (.copy 64 (spadLo 3) 16), none, none⟩;
     let d : Nat := 0;
     let k : Nat := 3;
     let c : Nat := 7;
     let word : Nat := 72;
     let src : Nat := 64;
     let dst : Nat := spadLo 3;
     let n : Nat := 16;
     let e := 1;
     let q := spadLo 3;
     decide (chanOk d k c = true) && decide ((s.chan d k c).st = .copying) && decide ((s.chan d k c).xfer = some
         (.copy src dst n)) && decide (src ≤ word) && decide (word < src + n) && decide (word % 8 = 0) && decide ((e
         ≠ d ∨ q < dst ∨ dst + (word - src) ≤ q))),
    (let s : State := (cd.setCore 0 3 { Core.init with tile := some ⟨5,0,0,0⟩ } |>.wr (mcA 0 3 0x54) 0xFFFFFFFF
        |>.wr (mcA 0 3 0x58) 0xFFFFFFFF).setChan 0 3 7 ⟨.waitCredit, some (.berth (spadLo 3) 0 6 255 3 0 16), none,
        none⟩;
     let d : Nat := 0;
     let k : Nat := 3;
     let c : Nat := 7;
     let word : Nat := spadLo 3;
     let src : Nat := spadLo 3;
     let pkg : Nat := 0;
     let die : Nat := 6;
     let b : Nat := 255;
     let gen : Nat := 3;
     let off : Nat := 0;
     let n : Nat := 16;
     decide (chanOk d k c = true) && decide ((s.chan d k c).st = .waitCredit) && decide ((s.chan d k c).xfer = some
         (.berth src pkg die b gen off n)) && decide (src ≤ word) && decide (word < src + n) && decide (word % 8 =
         0)),
    (let s : State := (cd.setCore 0 3 { Core.init with tile := some ⟨5,0,0,0⟩ } |>.wr (mcA 0 3 0x54) 0xFFFFFFFF
        |>.wr (mcA 0 3 0x58) 0xFFFFFFFF).setChan 0 3 7 ⟨.waitCredit, some (.berth (spadLo 3) 0 6 255 3 0 16), none,
        some (spadLo 3 + 8)⟩;
     let d : Nat := 0;
     let k : Nat := 3;
     let c : Nat := 7;
     let word : Nat := spadLo 3;
     let src : Nat := spadLo 3;
     let pkg : Nat := 0;
     let die : Nat := 6;
     let b : Nat := 255;
     let gen : Nat := 3;
     let off : Nat := 0;
     let n : Nat := 16;
     decide (chanOk d k c = true) && decide ((s.chan d k c).st = .waitCredit) && decide ((s.chan d k c).xfer = some
         (.berth src pkg die b gen off n)) && decide (src ≤ word) && decide (word < src + n) && decide (word % 8 =
         0))].all id = true := by
  decide +kernel

theorem witness_Credits : [
    (let s : State := (((((cd.put (berthA 0 255 0) 1 0 1).put (berthA 0 255 0) 23 16 9).put (berthA 0 255 0xC) 25 0
        0x50003).put (berthA 0 255 8) 15 0 2).put (berthA 0 255 0x10) 12 0 2).setBerth 0 255 (Berth.init);
     let d : Nat := 0;
     let b : Nat := 255;
     let gen : Nat := 9;
     let srcPkg : Nat := 3;
     let srcDie : Nat := 6;
     let c : Nat := 7;
     let off : Nat := 0;
     let len : Nat := 8192;
     let named := s.fld (berthA d b 0) 23 16 = gen;
     let allowed := s.fld (berthA d b 0xC) 9 0 ≤ srcPkg ∧ srcPkg ≤ s.fld (berthA d b 0xC) 25 16;
     let fits := off % 8 = 0 ∧ len % 8 = 0 ∧ 8 ≤ len ∧ len ≤ 65536 ∧ off + len ≤ s.fld (berthA d b 8) 15 0 * 4096 ∧
         creditCost len ≤ s.fld (berthA d b 0x10) 12 0;
     let c' : Credit := ⟨srcPkg, srcDie, c, off, len, s.clk.ref⟩;
     decide (d < 8) && decide (b < 256) && decide (srcPkg < 1024) && decide (srcDie < 7) && decide (c < 8) && decide
         (s.diePresent d = true) && decide (s.berthState d b = 1) && decide (named) && decide (allowed) && decide
         (fits)),
    (let s : State := (((((cd.put (berthA 0 255 0) 1 0 1).put (berthA 0 255 0) 23 16 9).put (berthA 0 255 0xC) 25 0
        0x50003).put (berthA 0 255 8) 15 0 2).put (berthA 0 255 0x10) 12 0 2).setBerth 0 255 (⟨5, [⟨2,6,7,0,8,0⟩,
        ⟨3,6,7,0,8,0⟩, ⟨4,6,7,0,8,0⟩], [], 0⟩);
     let d : Nat := 0;
     let b : Nat := 255;
     let gen : Nat := 9;
     let srcPkg : Nat := 3;
     let srcDie : Nat := 6;
     let c : Nat := 7;
     let off : Nat := 0;
     let len : Nat := 8192;
     let named := s.fld (berthA d b 0) 23 16 = gen;
     let allowed := s.fld (berthA d b 0xC) 9 0 ≤ srcPkg ∧ srcPkg ≤ s.fld (berthA d b 0xC) 25 16;
     let fits := off % 8 = 0 ∧ len % 8 = 0 ∧ 8 ≤ len ∧ len ≤ 65536 ∧ off + len ≤ s.fld (berthA d b 8) 15 0 * 4096 ∧
         creditCost len ≤ s.fld (berthA d b 0x10) 12 0;
     let c' : Credit := ⟨srcPkg, srcDie, c, off, len, s.clk.ref⟩;
     decide (d < 8) && decide (b < 256) && decide (srcPkg < 1024) && decide (srcDie < 7) && decide (c < 8) && decide
         (s.diePresent d = true) && decide (s.berthState d b = 1) && decide (named) && decide (allowed) && decide
         (fits)),
    (let s : State := (((((cd.put (berthA 0 255 0) 1 0 1).put (berthA 0 255 0) 23 16 9).put (berthA 0 255 0xC) 25 0
        0x50003).put (berthA 0 255 8) 15 0 2).put (berthA 0 255 0x10) 12 0 2).setBerth 0 255 (Berth.init);
     let d : Nat := 0;
     let b : Nat := 255;
     let gen : Nat := 8;
     let srcPkg : Nat := 3;
     let srcDie : Nat := 6;
     let c : Nat := 7;
     let off : Nat := 0;
     let len : Nat := 8192;
     let named := s.fld (berthA d b 0) 23 16 = gen;
     let c' : Credit := ⟨srcPkg, srcDie, c, off, len, s.clk.ref⟩;
     decide (d < 8) && decide (b < 256) && decide (srcPkg < 1024) && decide (srcDie < 7) && decide (c < 8) && decide
         (s.diePresent d = true) && decide (s.berthState d b = 1) && decide (¬named)),
    (let s : State := (((((cd.put (berthA 0 255 0) 1 0 1).put (berthA 0 255 0) 23 16 9).put (berthA 0 255 0xC) 25 0
        0x50003).put (berthA 0 255 8) 15 0 2).put (berthA 0 255 0x10) 12 0 2).setBerth 0 255 (Berth.init);
     let d : Nat := 0;
     let b : Nat := 255;
     let gen : Nat := 9;
     let srcPkg : Nat := 2;
     let srcDie : Nat := 6;
     let c : Nat := 7;
     let off : Nat := 0;
     let len : Nat := 8192;
     let named := s.fld (berthA d b 0) 23 16 = gen;
     let allowed := s.fld (berthA d b 0xC) 9 0 ≤ srcPkg ∧ srcPkg ≤ s.fld (berthA d b 0xC) 25 16;
     let c' : Credit := ⟨srcPkg, srcDie, c, off, len, s.clk.ref⟩;
     decide (d < 8) && decide (b < 256) && decide (srcPkg < 1024) && decide (srcDie < 7) && decide (c < 8) && decide
         (s.diePresent d = true) && decide (s.berthState d b = 1) && decide (named) && decide (¬allowed)),
    (let s : State := (((((cd.put (berthA 0 255 0) 1 0 1).put (berthA 0 255 0) 23 16 9).put (berthA 0 255 0xC) 25 0
        0x50003).put (berthA 0 255 8) 15 0 2).put (berthA 0 255 0x10) 12 0 2).setBerth 0 255 (Berth.init);
     let d : Nat := 0;
     let b : Nat := 255;
     let gen : Nat := 9;
     let srcPkg : Nat := 6;
     let srcDie : Nat := 6;
     let c : Nat := 7;
     let off : Nat := 0;
     let len : Nat := 8192;
     let named := s.fld (berthA d b 0) 23 16 = gen;
     let allowed := s.fld (berthA d b 0xC) 9 0 ≤ srcPkg ∧ srcPkg ≤ s.fld (berthA d b 0xC) 25 16;
     let c' : Credit := ⟨srcPkg, srcDie, c, off, len, s.clk.ref⟩;
     decide (d < 8) && decide (b < 256) && decide (srcPkg < 1024) && decide (srcDie < 7) && decide (c < 8) && decide
         (s.diePresent d = true) && decide (s.berthState d b = 1) && decide (named) && decide (¬allowed)),
    (let s : State := (((((cd.put (berthA 0 255 0) 1 0 1).put (berthA 0 255 0) 23 16 9).put (berthA 0 255 0xC) 25 0
        0x50003).put (berthA 0 255 8) 15 0 2).put (berthA 0 255 0x10) 12 0 2).setBerth 0 255 (Berth.init);
     let d : Nat := 0;
     let b : Nat := 255;
     let gen : Nat := 9;
     let srcPkg : Nat := 3;
     let srcDie : Nat := 6;
     let c : Nat := 7;
     let off : Nat := 4;
     let len : Nat := 8192;
     let named := s.fld (berthA d b 0) 23 16 = gen;
     let allowed := s.fld (berthA d b 0xC) 9 0 ≤ srcPkg ∧ srcPkg ≤ s.fld (berthA d b 0xC) 25 16;
     let fits := off % 8 = 0 ∧ len % 8 = 0 ∧ 8 ≤ len ∧ len ≤ 65536 ∧ off + len ≤ s.fld (berthA d b 8) 15 0 * 4096 ∧
         creditCost len ≤ s.fld (berthA d b 0x10) 12 0;
     let c' : Credit := ⟨srcPkg, srcDie, c, off, len, s.clk.ref⟩;
     decide (d < 8) && decide (b < 256) && decide (srcPkg < 1024) && decide (srcDie < 7) && decide (c < 8) && decide
         (s.diePresent d = true) && decide (s.berthState d b = 1) && decide (named) && decide (allowed) && decide
         (¬fits)),
    (let s : State := (((((cd.put (berthA 0 255 0) 1 0 1).put (berthA 0 255 0) 23 16 9).put (berthA 0 255 0xC) 25 0
        0x50003).put (berthA 0 255 8) 15 0 2).put (berthA 0 255 0x10) 12 0 2).setBerth 0 255 (Berth.init);
     let d : Nat := 0;
     let b : Nat := 255;
     let gen : Nat := 9;
     let srcPkg : Nat := 3;
     let srcDie : Nat := 6;
     let c : Nat := 7;
     let off : Nat := 0;
     let len : Nat := 65544;
     let named := s.fld (berthA d b 0) 23 16 = gen;
     let allowed := s.fld (berthA d b 0xC) 9 0 ≤ srcPkg ∧ srcPkg ≤ s.fld (berthA d b 0xC) 25 16;
     let fits := off % 8 = 0 ∧ len % 8 = 0 ∧ 8 ≤ len ∧ len ≤ 65536 ∧ off + len ≤ s.fld (berthA d b 8) 15 0 * 4096 ∧
         creditCost len ≤ s.fld (berthA d b 0x10) 12 0;
     let c' : Credit := ⟨srcPkg, srcDie, c, off, len, s.clk.ref⟩;
     decide (d < 8) && decide (b < 256) && decide (srcPkg < 1024) && decide (srcDie < 7) && decide (c < 8) && decide
         (s.diePresent d = true) && decide (s.berthState d b = 1) && decide (named) && decide (allowed) && decide
         (¬fits)),
    (let s : State := (((((cd.put (berthA 0 255 0) 1 0 0).put (berthA 0 255 0) 23 16 9).put (berthA 0 255 0xC) 25 0
        0x50003).put (berthA 0 255 8) 15 0 2).put (berthA 0 255 0x10) 12 0 2).setBerth 0 255 (Berth.init);
     let d : Nat := 0;
     let b : Nat := 255;
     let srcPkg : Nat := 3;
     let srcDie : Nat := 6;
     let c : Nat := 7;
     decide (d < 8) && decide (b < 256) && decide (srcPkg < 1024) && decide (srcDie < 7) && decide (c < 8) && decide
         (s.diePresent d = true) && decide (s.berthState d b ≠ 1)),
    (let s : State :=
        { (((((cd.put (berthA 0 255 0) 1 0 2).put (berthA 0 255 0) 23 16 9).put (berthA 0 255 0xC) 25 0 0x50003).put (berthA 0 255 8) 15 0 2).put (berthA 0 255 0x10) 12 0 2).setBerth 0 255 (Berth.init) with clk := { Clk.init with ref := 100000 } };
     let d : Nat := 0;
     let b : Nat := 255;
     let srcPkg : Nat := 3;
     let srcDie : Nat := 6;
     let c : Nat := 7;
     decide (d < 8) && decide (b < 256) && decide (srcPkg < 1024) && decide (srcDie < 7) && decide (c < 8) && decide
         (s.diePresent d = true) && decide (s.berthState d b ≠ 1)),
    (let s : State := (((((cd.put (berthA 0 255 0) 1 0 1).put (berthA 0 255 0) 23 16 9).put (berthA 0 255 0xC) 25 0
        0x50003).put (berthA 0 255 8) 15 0 2).put (berthA 0 255 0x10) 12 0 2).setBerth 0 255 (Berth.init);
     let d : Nat := 7;
     let b : Nat := 255;
     let srcPkg : Nat := 3;
     let srcDie : Nat := 6;
     let c : Nat := 7;
     decide (d < 8) && decide (b < 256) && decide (srcPkg < 1024) && decide (srcDie < 7) && decide (c < 8) && decide
         (s.diePresent d = false)),
    (let s : State := (((((cd.put (berthA 0 255 0) 1 0 1).put (berthA 0 255 0) 23 16 9).put (berthA 0 255 0xC) 25 0
        0x50003).put (berthA 0 255 8) 15 0 2).put (berthA 0 255 0x10) 12 0 2).setBerth 0 255 (⟨5, [(⟨3,6,7,0,8192,0⟩
        : Credit), ⟨3,6,6,0,8,0⟩], [], 0⟩);
     let d : Nat := 0;
     let b : Nat := 255;
     let c : Credit := (⟨3,6,7,0,8192,0⟩ : Credit);
     let rest : List Credit := [⟨3,6,6,0,8,0⟩];
     decide (d < 7) && decide (b < 256) && decide ((s.berth d b).queue = c :: rest) && decide (s.berthState d b = 1)
         && decide (creditCost c.len ≤ s.fld (berthA d b 0x10) 12 0 - s.fld (berthA d b 0x10) 28 16) && decide
         ((s.berth d b).grants.all (fun g => !overlaps c.off c.len g.off g.len) = true)),
    (let s : State := (((((cd.put (berthA 0 255 0) 1 0 1).put (berthA 0 255 0) 23 16 9).put (berthA 0 255 0xC) 25 0
        0x50003).put (berthA 0 255 8) 15 0 2).put (berthA 0 255 0x10) 12 0 2).setBerth 0 255 (⟨5,
        [⟨3,6,7,0,4096,0⟩], [⟨3,6,6,4096,8,0⟩], 0⟩) |>.put (berthA 0 255 0x10) 28 16 1;
     let d : Nat := 0;
     let b : Nat := 255;
     let c : Credit := ⟨3,6,7,0,4096,0⟩;
     let rest : List Credit := [];
     decide (d < 7) && decide (b < 256) && decide ((s.berth d b).queue = c :: rest) && decide (s.berthState d b = 1)
         && decide (creditCost c.len ≤ s.fld (berthA d b 0x10) 12 0 - s.fld (berthA d b 0x10) 28 16) && decide
         ((s.berth d b).grants.all (fun g => !overlaps c.off c.len g.off g.len) = true)),
    (let s : State := (cd.setCore 0 3 { Core.init with tile := some ⟨5,0,0,0⟩ } |>.wr (mcA 0 3 0x54) 0xFFFFFFFF
        |>.wr (mcA 0 3 0x58) 0xFFFFFFFF).setChan 0 3 7 ⟨.waitCredit, some (.berth (spadLo 3) 0 6 255 3 0 16), none,
        none⟩;
     let d : Nat := 0;
     let k : Nat := 3;
     let c : Nat := 7;
     let src : Nat := spadLo 3;
     let pkg : Nat := 0;
     let die : Nat := 6;
     let b : Nat := 255;
     let gen : Nat := 3;
     let off : Nat := 0;
     let len : Nat := 16;
     let cut := s.xferCut (.berth src pkg die b gen off len);
     decide (chanOk d k c = true) && decide ((s.chan d k c).st = .waitCredit) && decide ((s.chan d k c).xfer = some
         (.berth src pkg die b gen off len)) && decide (cut = false) && decide ((s.chan d k c).bad = none)),
    (let s : State := (cd.setCore 0 3 { Core.init with tile := some ⟨5,0,0,0⟩ } |>.wr (mcA 0 3 0x54) 0xFFFFFFFF
        |>.wr (mcA 0 3 0x58) 0xFFFFFFFF).setChan 0 3 7 ⟨.waitCredit, some (.berth 64 0 6 255 3 0 16), none, some
        72⟩;
     let d : Nat := 0;
     let k : Nat := 3;
     let c : Nat := 7;
     let src : Nat := 64;
     let pkg : Nat := 0;
     let die : Nat := 6;
     let b : Nat := 255;
     let gen : Nat := 3;
     let off : Nat := 0;
     let len : Nat := 16;
     let cut := s.xferCut (.berth src pkg die b gen off len);
     let w := 72;
     decide (chanOk d k c = true) && decide ((s.chan d k c).st = .waitCredit) && decide ((s.chan d k c).xfer = some
         (.berth src pkg die b gen off len)) && decide (cut = false) && decide ((s.chan d k c).bad = some w) &&
         decide (w < dramTop)),
    (let s : State := (cd.setCore 0 3 { Core.init with tile := some ⟨5,0,0,0⟩ } |>.wr (mcA 0 3 0x54) 0xFFFFFFFF
        |>.wr (mcA 0 3 0x58) 0xFFFFFFFF).setChan 0 3 7 ⟨.waitCredit, some (.berth (spadLo 3) 9 6 255 3 0 16), none,
        none⟩;
     let d : Nat := 0;
     let k : Nat := 3;
     let c : Nat := 7;
     let src : Nat := spadLo 3;
     let pkg : Nat := 9;
     let die : Nat := 6;
     let b : Nat := 255;
     let gen : Nat := 3;
     let off : Nat := 0;
     let len : Nat := 16;
     let cut := s.xferCut (.berth src pkg die b gen off len);
     decide (chanOk d k c = true) && decide ((s.chan d k c).st = .waitCredit) && decide ((s.chan d k c).xfer = some
         (.berth src pkg die b gen off len)) && decide (cut = true)),
    (let s : State := (cd.setCore 0 3 { Core.init with tile := some ⟨5,0,0,0⟩ } |>.wr (mcA 0 3 0x54) 0xFFFFFFFF
        |>.wr (mcA 0 3 0x58) 0xFFFFFFFF).setChan 0 3 7 ⟨.waitCredit, some (.berth (spadLo 3) 0 6 255 3 0 16), none,
        none⟩;
     let d : Nat := 0;
     let k : Nat := 3;
     let c : Nat := 7;
     let code : Nat := Status.code .windowClosed;
     let st : Status := .windowClosed;
     decide (chanOk d k c = true) && decide ((s.chan d k c).st = .waitCredit) && decide (berthStatus [.windowClosed,
         .berthSourceDenied, .lengthExceeds, .fabricUnreachable] code = some st)),
    (let s : State := (cd.setCore 0 3 { Core.init with tile := some ⟨5,0,0,0⟩ } |>.wr (mcA 0 3 0x54) 0xFFFFFFFF
        |>.wr (mcA 0 3 0x58) 0xFFFFFFFF).setChan 0 3 7 ⟨.waitCredit, some (.berth (spadLo 3) 0 6 255 3 0 16), none,
        none⟩;
     let d : Nat := 0;
     let k : Nat := 3;
     let c : Nat := 7;
     let code : Nat := Status.code .fabricUnreachable;
     let st : Status := .fabricUnreachable;
     decide (chanOk d k c = true) && decide ((s.chan d k c).st = .waitCredit) && decide (berthStatus [.windowClosed,
         .berthSourceDenied, .lengthExceeds, .fabricUnreachable] code = some st)),
    (let s : State := (((((cd.put (berthA 0 255 0) 1 0 2).put (berthA 0 255 0) 23 16 9).put (berthA 0 255 0xC) 25 0
        0x50003).put (berthA 0 255 8) 15 0 2).put (berthA 0 255 0x10) 12 0 2).setBerth 0 255
        (⟨5,[],[(⟨3,6,7,0,8192,0⟩ : Credit)],0⟩);
     let d : Nat := 0;
     let b : Nat := 255;
     let srcPkg : Nat := 3;
     let srcDie : Nat := 6;
     let c : Nat := 7;
     let keep := (s.berth d b).grants.filter (fun g => !(g.srcPkg == srcPkg && g.srcDie == srcDie && g.chan == c));
     decide (d < 7) && decide (b < 256) && decide (s.berthState d b = 2) && decide (keep = [])),
    (let s : State := (((((cd.put (berthA 0 255 0) 1 0 2).put (berthA 0 255 0) 23 16 9).put (berthA 0 255 0xC) 25 0
        0x50003).put (berthA 0 255 8) 15 0 2).put (berthA 0 255 0x10) 12 0 2).setBerth 0 255 (Berth.init);
     let d : Nat := 0;
     let b : Nat := 255;
     let srcPkg : Nat := 3;
     let srcDie : Nat := 6;
     let c : Nat := 7;
     let keep := (s.berth d b).grants.filter (fun g => !(g.srcPkg == srcPkg && g.srcDie == srcDie && g.chan == c));
     decide (d < 7) && decide (b < 256) && decide (s.berthState d b = 2) && decide (keep = [])),
    (let s : State := (((((cd.put (berthA 0 255 0) 1 0 1).put (berthA 0 255 0) 23 16 9).put (berthA 0 255 0xC) 25 0
        0x50003).put (berthA 0 255 8) 15 0 2).put (berthA 0 255 0x10) 12 0 2).setBerth 0 255
        (⟨5,[],[(⟨3,6,7,0,8192,0⟩ : Credit)],0⟩);
     let d : Nat := 0;
     let b : Nat := 255;
     decide (d < 7) && decide (b < 256) && decide (s.berthState d b = 1))].all id = true := by
  decide +kernel

theorem witness_BerthWrites : [
    (let s : State := (((((cd.put (berthA 0 255 0) 1 0 1).put (berthA 0 255 0) 23 16 9).put (berthA 0 255 0xC) 25 0
        0x50003).put (berthA 0 255 8) 15 0 2).put (berthA 0 255 0x10) 12 0 2).setBerth 0 255
        (⟨5,[],[⟨3,6,7,8,16,0⟩],0⟩) |>.put (berthA 0 255 4) 15 0 3 |>.put (fabA 4) 9 0 3;
     let d : Nat := 0;
     let b : Nat := 255;
     let gen : Nat := 9;
     let srcPkg : Nat := 3;
     let srcDie : Nat := 6;
     let c : Nat := 7;
     let off : Nat := 8;
     let data : Bytes := (List.range 16).map (fun i => BitVec.ofNat 8 (i + 1));
     let named := s.fld (berthA d b 0) 23 16 = gen;
     let mine := (s.berth d b).grants.filter (fun g => g.srcPkg == srcPkg && g.srcDie == srcDie && g.chan == c);
     let inGrant := mine.any (fun g => decide (g.off ≤ off) && decide (off + data.length ≤ g.off + g.len)) = true;
     decide (d < 8) && decide (b < 256) && decide (srcPkg < 1024) && decide (srcDie < 7) && decide (c < 8) && decide
         (s.diePresent d = true) && decide ((s.berthState d b = 1 ∨ s.berthState d b = 2 ∧ s.clk.ref < (s.berth d
         b).closeRef + 100000)) && decide (named) && decide (inGrant)),
    (let s : State := (((((cd.put (berthA 0 255 0) 1 0 2).put (berthA 0 255 0) 23 16 9).put (berthA 0 255 0xC) 25 0
        0x50003).put (berthA 0 255 8) 15 0 2).put (berthA 0 255 0x10) 12 0 2).setBerth 0 255
        (⟨5,[],[⟨3,6,7,8,16,0⟩],0⟩) |>.put (berthA 0 255 4) 15 0 3 |>.put (fabA 4) 9 0 3;
     let d : Nat := 0;
     let b : Nat := 255;
     let gen : Nat := 9;
     let srcPkg : Nat := 3;
     let srcDie : Nat := 6;
     let c : Nat := 7;
     let off : Nat := 8;
     let data : Bytes := (List.range 16).map (fun i => BitVec.ofNat 8 (i + 1));
     let named := s.fld (berthA d b 0) 23 16 = gen;
     let mine := (s.berth d b).grants.filter (fun g => g.srcPkg == srcPkg && g.srcDie == srcDie && g.chan == c);
     let inGrant := mine.any (fun g => decide (g.off ≤ off) && decide (off + data.length ≤ g.off + g.len)) = true;
     decide (d < 8) && decide (b < 256) && decide (srcPkg < 1024) && decide (srcDie < 7) && decide (c < 8) && decide
         (s.diePresent d = true) && decide ((s.berthState d b = 1 ∨ s.berthState d b = 2 ∧ s.clk.ref < (s.berth d
         b).closeRef + 100000)) && decide (named) && decide (inGrant)),
    (let s : State := (((((cd.put (berthA 0 255 0) 1 0 1).put (berthA 0 255 0) 23 16 9).put (berthA 0 255 0xC) 25 0
        0x50003).put (berthA 0 255 8) 15 0 2).put (berthA 0 255 0x10) 12 0 2).setBerth 0 255
        (⟨5,[],[⟨3,6,7,8,16,0⟩],0⟩) |>.put (berthA 0 255 4) 15 0 3 |>.put (fabA 4) 9 0 3;
     let d : Nat := 0;
     let b : Nat := 255;
     let gen : Nat := 8;
     let srcPkg : Nat := 3;
     let srcDie : Nat := 6;
     let c : Nat := 7;
     let named := s.fld (berthA d b 0) 23 16 = gen;
     decide (d < 8) && decide (b < 256) && decide (srcPkg < 1024) && decide (srcDie < 7) && decide (c < 8) && decide
         (s.diePresent d = true) && decide ((s.berthState d b = 1 ∨ s.berthState d b = 2 ∧ s.clk.ref < (s.berth d
         b).closeRef + 100000)) && decide (¬named)),
    (let s : State := (((((cd.put (berthA 0 255 0) 1 0 2).put (berthA 0 255 0) 23 16 9).put (berthA 0 255 0xC) 25 0
        0x50003).put (berthA 0 255 8) 15 0 2).put (berthA 0 255 0x10) 12 0 2).setBerth 0 255
        (⟨5,[],[⟨3,6,7,8,16,0⟩],0⟩) |>.put (berthA 0 255 4) 15 0 3 |>.put (fabA 4) 9 0 3;
     let d : Nat := 0;
     let b : Nat := 255;
     let gen : Nat := 8;
     let srcPkg : Nat := 3;
     let srcDie : Nat := 6;
     let c : Nat := 7;
     let named := s.fld (berthA d b 0) 23 16 = gen;
     decide (d < 8) && decide (b < 256) && decide (srcPkg < 1024) && decide (srcDie < 7) && decide (c < 8) && decide
         (s.diePresent d = true) && decide ((s.berthState d b = 1 ∨ s.berthState d b = 2 ∧ s.clk.ref < (s.berth d
         b).closeRef + 100000)) && decide (¬named)),
    (let s : State := (((((cd.put (berthA 0 255 0) 1 0 1).put (berthA 0 255 0) 23 16 9).put (berthA 0 255 0xC) 25 0
        0x50003).put (berthA 0 255 8) 15 0 2).put (berthA 0 255 0x10) 12 0 2).setBerth 0 255
        (⟨5,[],[⟨3,6,7,8,16,0⟩],0⟩) |>.put (berthA 0 255 4) 15 0 3 |>.put (fabA 4) 9 0 3;
     let d : Nat := 0;
     let b : Nat := 255;
     let gen : Nat := 9;
     let srcPkg : Nat := 3;
     let srcDie : Nat := 6;
     let c : Nat := 6;
     let named := s.fld (berthA d b 0) 23 16 = gen;
     let mine := (s.berth d b).grants.filter (fun g => g.srcPkg == srcPkg && g.srcDie == srcDie && g.chan == c);
     decide (d < 8) && decide (b < 256) && decide (srcPkg < 1024) && decide (srcDie < 7) && decide (c < 8) && decide
         (s.diePresent d = true) && decide ((s.berthState d b = 1 ∨ s.berthState d b = 2 ∧ s.clk.ref < (s.berth d
         b).closeRef + 100000)) && decide (named) && decide (mine = [])),
    (let s : State := (((((cd.put (berthA 0 255 0) 1 0 2).put (berthA 0 255 0) 23 16 9).put (berthA 0 255 0xC) 25 0
        0x50003).put (berthA 0 255 8) 15 0 2).put (berthA 0 255 0x10) 12 0 2).setBerth 0 255
        (⟨5,[],[⟨3,6,7,8,16,0⟩],0⟩) |>.put (berthA 0 255 4) 15 0 3 |>.put (fabA 4) 9 0 3;
     let d : Nat := 0;
     let b : Nat := 255;
     let gen : Nat := 9;
     let srcPkg : Nat := 3;
     let srcDie : Nat := 6;
     let c : Nat := 6;
     let named := s.fld (berthA d b 0) 23 16 = gen;
     let mine := (s.berth d b).grants.filter (fun g => g.srcPkg == srcPkg && g.srcDie == srcDie && g.chan == c);
     decide (d < 8) && decide (b < 256) && decide (srcPkg < 1024) && decide (srcDie < 7) && decide (c < 8) && decide
         (s.diePresent d = true) && decide ((s.berthState d b = 1 ∨ s.berthState d b = 2 ∧ s.clk.ref < (s.berth d
         b).closeRef + 100000)) && decide (named) && decide (mine = [])),
    (let s : State := (((((cd.put (berthA 0 255 0) 1 0 1).put (berthA 0 255 0) 23 16 9).put (berthA 0 255 0xC) 25 0
        0x50003).put (berthA 0 255 8) 15 0 2).put (berthA 0 255 0x10) 12 0 2).setBerth 0 255
        (⟨5,[],[⟨3,6,7,8,16,0⟩],0⟩) |>.put (berthA 0 255 4) 15 0 3 |>.put (fabA 4) 9 0 3;
     let d : Nat := 0;
     let b : Nat := 255;
     let gen : Nat := 9;
     let srcPkg : Nat := 3;
     let srcDie : Nat := 6;
     let c : Nat := 7;
     let off : Nat := 0;
     let data : Bytes := (List.range 8).map (fun i => BitVec.ofNat 8 (i + 1));
     let named := s.fld (berthA d b 0) 23 16 = gen;
     let mine := (s.berth d b).grants.filter (fun g => g.srcPkg == srcPkg && g.srcDie == srcDie && g.chan == c);
     let inGrant := mine.any (fun g => decide (g.off ≤ off) && decide (off + data.length ≤ g.off + g.len)) = true;
     decide (d < 8) && decide (b < 256) && decide (srcPkg < 1024) && decide (srcDie < 7) && decide (c < 8) && decide
         (s.diePresent d = true) && decide ((s.berthState d b = 1 ∨ s.berthState d b = 2 ∧ s.clk.ref < (s.berth d
         b).closeRef + 100000)) && decide (named) && decide (mine ≠ []) && decide (¬inGrant)),
    (let s : State := (((((cd.put (berthA 0 255 0) 1 0 2).put (berthA 0 255 0) 23 16 9).put (berthA 0 255 0xC) 25 0
        0x50003).put (berthA 0 255 8) 15 0 2).put (berthA 0 255 0x10) 12 0 2).setBerth 0 255
        (⟨5,[],[⟨3,6,7,8,16,0⟩],0⟩) |>.put (berthA 0 255 4) 15 0 3 |>.put (fabA 4) 9 0 3;
     let d : Nat := 0;
     let b : Nat := 255;
     let gen : Nat := 9;
     let srcPkg : Nat := 3;
     let srcDie : Nat := 6;
     let c : Nat := 7;
     let off : Nat := 16;
     let data : Bytes := (List.range 16).map (fun i => BitVec.ofNat 8 (i + 1));
     let named := s.fld (berthA d b 0) 23 16 = gen;
     let mine := (s.berth d b).grants.filter (fun g => g.srcPkg == srcPkg && g.srcDie == srcDie && g.chan == c);
     let inGrant := mine.any (fun g => decide (g.off ≤ off) && decide (off + data.length ≤ g.off + g.len)) = true;
     decide (d < 8) && decide (b < 256) && decide (srcPkg < 1024) && decide (srcDie < 7) && decide (c < 8) && decide
         (s.diePresent d = true) && decide ((s.berthState d b = 1 ∨ s.berthState d b = 2 ∧ s.clk.ref < (s.berth d
         b).closeRef + 100000)) && decide (named) && decide (mine ≠ []) && decide (¬inGrant)),
    (let s : State := (((((cd.put (berthA 0 255 0) 1 0 0).put (berthA 0 255 0) 23 16 9).put (berthA 0 255 0xC) 25 0
        0x50003).put (berthA 0 255 8) 15 0 2).put (berthA 0 255 0x10) 12 0 2).setBerth 0 255 (Berth.init);
     let d : Nat := 0;
     let b : Nat := 255;
     let srcPkg : Nat := 3;
     let srcDie : Nat := 6;
     let c : Nat := 7;
     decide (d < 8) && decide (b < 256) && decide (srcPkg < 1024) && decide (srcDie < 7) && decide (c < 8) && decide
         (s.diePresent d = false ∨ s.berthState d b = 0) && decide (s.diePresent d = true)),
    (let s : State := (cd.setCore 0 3 { Core.init with tile := some ⟨5,0,0,0⟩ } |>.wr (mcA 0 3 0x54) 0xFFFFFFFF
        |>.wr (mcA 0 3 0x58) 0xFFFFFFFF).setChan 0 3 7 ⟨.waitAck, some (.berth (spadLo 3) 0 6 255 3 0 16), none,
        none⟩;
     let d : Nat := 0;
     let k : Nat := 3;
     let c : Nat := 7;
     let x : Xfer := .berth (spadLo 3) 0 6 255 3 0 16;
     let e := 0;
     let j := 3;
     let h := 6;
     decide (chanOk d k c = true) && decide ((s.chan d k c).st = .waitAck) && decide ((s.chan d k c).xfer = some x)
         && decide ((e, j, h) ≠ (d, k, c)) && decide (chanOk e j h = true)),
    (let s : State := (cd.setCore 0 3 { Core.init with tile := some ⟨5,0,0,0⟩ } |>.wr (mcA 0 3 0x54) 0xFFFFFFFF
        |>.wr (mcA 0 3 0x58) 0xFFFFFFFF).setChan 0 3 7 ⟨.waitAck, some (.berth (spadLo 3) 0 6 255 3 0 16), none,
        none⟩;
     let d : Nat := 0;
     let k : Nat := 3;
     let c : Nat := 7;
     let x : Xfer := .berth (spadLo 3) 0 6 255 3 0 16;
     decide (chanOk d k c = true) && decide ((s.chan d k c).st = .waitAck) && decide ((s.chan d k c).xfer = some x)),
    (let s : State := (cd.setCore 0 3 { Core.init with tile := some ⟨5,0,0,0⟩ } |>.wr (mcA 0 3 0x54) 0xFFFFFFFF
        |>.wr (mcA 0 3 0x58) 0xFFFFFFFF).setChan 0 3 7 ⟨.waitAck, some (.berth (spadLo 3) 0 6 255 3 0 16), none,
        none⟩;
     let d : Nat := 0;
     let k : Nat := 3;
     let c : Nat := 7;
     let code : Nat := Status.code .windowClosed;
     let st : Status := .windowClosed;
     decide (chanOk d k c = true) && decide ((s.chan d k c).st = .waitAck) && decide (berthStatus [.windowClosed,
         .berthNoCredit, .lengthExceeds, .fabricUnreachable] code = some st)),
    (let s : State := (cd.setCore 0 3 { Core.init with tile := some ⟨5,0,0,0⟩ } |>.wr (mcA 0 3 0x54) 0xFFFFFFFF
        |>.wr (mcA 0 3 0x58) 0xFFFFFFFF).setChan 0 3 7 ⟨.waitAck, some (.berth (spadLo 3) 0 6 255 3 0 16), none,
        none⟩;
     let d : Nat := 0;
     let k : Nat := 3;
     let c : Nat := 7;
     let code : Nat := Status.code .fabricUnreachable;
     let st : Status := .fabricUnreachable;
     decide (chanOk d k c = true) && decide ((s.chan d k c).st = .waitAck) && decide (berthStatus [.windowClosed,
         .berthNoCredit, .lengthExceeds, .fabricUnreachable] code = some st)),
    (let s : State :=
        { (((((cd.put (berthA 0 255 0) 1 0 2).put (berthA 0 255 0) 23 16 9).put (berthA 0 255 0xC) 25 0 0x50003).put (berthA 0 255 8) 15 0 2).put (berthA 0 255 0x10) 12 0 2).setBerth 0 255 (⟨5,[⟨3,6,6,0,8,0⟩],[(⟨3,6,7,0,8192,0⟩ : Credit)],0⟩) with clk := { Clk.init with ref := 100000 } };
     let u : State := s;
     let d : Nat := 0;
     let b : Nat := 255;
     decide (d < 7) && decide (b < 256) && decide (s.berthState d b = 2) && decide (s.reachRef ((s.berth d
         b).closeRef + 100000) = some u))].all id = true := by
  decide +kernel

theorem witness_PackageJobLoss : [
    (let s : State := (cd.setCore 0 3 { Core.init with tile := some ⟨5,0,0,0⟩ } |>.wr (mcA 0 3 0x54) 0xFFFFFFFF
        |>.wr (mcA 0 3 0x58) 0xFFFFFFFF) |>.setJobs [J0, { J0 with id := 9, classC := true }] |>.setCore 0 9
        { Core.init with tile := some ⟨9,0,0,0⟩ };
     let d : Nat := 0;
     let k : Nat := 3;
     decide (d < 7) && decide (k < 17) && decide (s.running d k = true)),
    (let s : State := (cd.setCore 0 3 { Core.init with tile := some ⟨5,0,0,0⟩ } |>.wr (mcA 0 3 0x54) 0xFFFFFFFF
        |>.wr (mcA 0 3 0x58) 0xFFFFFFFF) |>.setJobs [J0, { J0 with id := 9, classC := true }] |>.setCore 0 9
        { Core.init with tile := some ⟨9,0,0,0⟩ };
     let d : Nat := 0;
     let k : Nat := 3;
     let a : Nat := spadLo 3;
     let cls : Nat := 1;
     decide (d < 7) && decide (k < 17) && decide (s.running d k = true) && decide (1 ≤ cls) && decide (cls ≤ 3) &&
         decide (((spadBank k a).all (fun b => s.bankOwner d k b != cls)) = true)),
    (let s : State := (cd.setCore 0 3 { Core.init with tile := some ⟨5,0,0,0⟩ } |>.wr (mcA 0 3 0x54) 0xFFFFFFFF
        |>.wr (mcA 0 3 0x58) 0xFFFFFFFF) |>.setJobs [J0, { J0 with id := 9, classC := true }] |>.setCore 0 9
        { Core.init with tile := some ⟨9,0,0,0⟩ };
     let d : Nat := 0;
     let k : Nat := 3;
     let a : Nat := 5;
     let cls : Nat := 3;
     decide (d < 7) && decide (k < 17) && decide (s.running d k = true) && decide (1 ≤ cls) && decide (cls ≤ 3) &&
         decide (((spadBank k a).all (fun b => s.bankOwner d k b != cls)) = true)),
    (let s : State := (cd.setCore 0 3 { Core.init with tile := some ⟨5,0,0,0⟩ } |>.wr (mcA 0 3 0x54) 0xFFFFFFFF
        |>.wr (mcA 0 3 0x58) 0xFFFFFFFF) |>.setJobs [J0, { J0 with id := 9, classC := true }] |>.setCore 0 9
        { Core.init with tile := some ⟨9,0,0,0⟩ } |>.wr (mcA 0 3 0x58) 0x7FFFFFFF;
     let d : Nat := 0;
     let k : Nat := 3;
     let a : Nat := spadLo 3 + 31*0x80000;
     let b : Nat := 31;
     decide (d < 7) && decide (k < 17) && decide (s.running d k = true) && decide (spadBank k a = some b) && decide
         ((s.bankOwner d k b = 1 ∨ s.bankOwner d k b = 2))),
    (let s : State := { cd.setCore 0 3 { Core.init with trapped := true } with loss := some 5 };
     let x : SelfTest := ⟨0,3,[0,65,66],true⟩;
     decide (x.die < 7) && decide (x.core < 17) && decide (s.loss.isSome = true) && decide ((s.core x.die
         x.core).trapped = true)),
    (let lost := fun (s t : State) => t.loss = some s.clk.ref ∧ t.jobs = [] ∧ t.comp.lost = s.jobs ∧ t.flag 0x244 2
        = true ∧ ∀ d k, (t.core d k).tile = none;
     let s : State :=
         { (cd.wrBytes 0 dramTop [1,2]).wrBytes 0 7 [8] with loss := some 1000, clk := { Clk.init with ref := 7000 }, comp := { ((cd.wrBytes 0 dramTop [1,2]).wrBytes 0 7 [8]).comp with lost := [J0] } };
     let r : Nat := 1000;
     let a := dramTop + 1;
     decide (s.loss = some r) && decide (s.comp.cores.any (fun e => e.2.trapped) = false) && decide (dramTop ≤ a)),
    (let lost := fun (s t : State) => t.loss = some s.clk.ref ∧ t.jobs = [] ∧ t.comp.lost = s.jobs ∧ t.flag 0x244 2
        = true ∧ ∀ d k, (t.core d k).tile = none;
     let s : State :=
         { (cd.wrBytes 0 dramTop [1,2]).wrBytes 0 7 [8] with loss := some 1000, clk := { Clk.init with ref := 7000 }, comp := { ((cd.wrBytes 0 dramTop [1,2]).wrBytes 0 7 [8]).comp with lost := [J0] } };
     let r : Nat := 1000;
     decide (s.loss = some r) && decide (s.comp.cores.any (fun e => e.2.trapped) = false)),
    (let s : State :=
        { (rl |> put1 (D 0x19 [])) with comp := { rl.comp with scrubs := [⟨2,3,0,0,0,0,512⟩,⟨1,3,0,0,0,0,512⟩] } };
     let r : Nat := 1;
     let x : Scrub := ⟨1,3,0,0,0,0,512⟩;
     decide (r < 8192) && decide (s.loss = none) && decide (s.comp.scrubs.find? (fun x => x.ring == r) = some x))].all id = true := by
  decide +kernel

theorem witness_LinkStates : [
    (let s : State := (LKs 1 (Lnk.init) 0);
     let u : State := rr (LKs 1 (Lnk.init) 0) 100000000;
     let k : Nat := 1;
     decide (k < 12) && decide ((s.linkState k = 1 ∨ s.linkState k = 5)) && decide (s.flag (lnkA k 0) 0 = true) &&
         decide (s.kind ≠ 0) && decide (s.reachRef ((s.lnk k).since + 100000000) = some u)),
    (let s : State := (LKs 5 (Lnk.init) 0);
     let u : State := rr (LKs 5 (Lnk.init) 0) 100000000;
     let k : Nat := 1;
     decide (k < 12) && decide ((s.linkState k = 1 ∨ s.linkState k = 5)) && decide (s.flag (lnkA k 0) 0 = true) &&
         decide (s.kind ≠ 0) && decide (s.reachRef ((s.lnk k).since + 100000000) = some u)),
    (let s : State := (LKs 2 (Lnk.init) 0);
     let u : State := rr (LKs 2 (Lnk.init) 0) ([25000000, 5000000, 1000000, 100000] : List Nat).sum;
     let k : Nat := 1;
     let steps : List Nat := [25000000, 5000000, 1000000, 100000];
     let lanes : List (Option (Nat × Bool)) := [];
     decide (k < 12) && decide (s.linkState k = 2) && decide (steps.length = 4) && decide (((steps.zip [25000000,
         5000000, 1000000, 100000]).all (fun x : Nat × Nat => decide (x.1 ≤ x.2))) = true) && decide (s.reachRef
         ((s.lnk k).since + steps.sum) = some u) && decide (lanesOk lanes = false)),
    (let s : State := (LKs 2 (Lnk.init) 0);
     let u : State := rr (LKs 2 (Lnk.init) 0) ([1,2,3,4] : List Nat).sum;
     let k : Nat := 1;
     let steps : List Nat := [1,2,3,4];
     let lanes : List (Option (Nat × Bool)) := [some (1, true), some (0, false), some (2, true), some (3, false)];
     decide (k < 12) && decide (s.linkState k = 2) && decide (steps.length = 4) && decide (((steps.zip [25000000,
         5000000, 1000000, 100000]).all (fun x : Nat × Nat => decide (x.1 ≤ x.2))) = true) && decide (s.reachRef
         ((s.lnk k).since + steps.sum) = some u) && decide (lanesOk lanes = false)),
    (let s : State := (LKs 2 (Lnk.init) 0);
     let u : State := rr (LKs 2 (Lnk.init) 0) ([25000000, 5000000, 1000000, 100000] : List Nat).sum;
     let k : Nat := 1;
     let steps : List Nat := [25000000, 5000000, 1000000, 100000];
     let lanes : List (Option (Nat × Bool)) := [some (3, true), some (2, false), some (1, true), some (0, false)];
     let p : LinkPeer := ⟨((LKs 2 Lnk.init 0).neighbour (LKs 2 Lnk.init 0).pkgNum 1), 4, (LKs 2 Lnk.init 0).kind ::
         (LKs 2 Lnk.init 0).dims, 0⟩;
     decide (k < 12) && decide (s.linkState k = 2) && decide (steps.length = 4) && decide (((steps.zip [25000000,
         5000000, 1000000, 100000]).all (fun x : Nat × Nat => decide (x.1 ≤ x.2))) = true) && decide (s.reachRef
         ((s.lnk k).since + steps.sum) = some u) && decide (lanesOk lanes = true) && decide (s.identityOk k p =
         true)),
    (let s : State := (LKs 2 (Lnk.init) 0);
     let u : State := rr (LKs 2 (Lnk.init) 0) ([1,2,3,4] : List Nat).sum;
     let k : Nat := 1;
     let steps : List Nat := [1,2,3,4];
     let lanes : List (Option (Nat × Bool)) := [some (0, true), some (1, false), some (2, true), some (3, false)];
     let p : LinkPeer := ⟨((LKs 2 Lnk.init 0).neighbour (LKs 2 Lnk.init 0).pkgNum 1), 4, (LKs 2 Lnk.init 0).kind ::
         (LKs 2 Lnk.init 0).dims, 0⟩;
     decide (k < 12) && decide (s.linkState k = 2) && decide (steps.length = 4) && decide (((steps.zip [25000000,
         5000000, 1000000, 100000]).all (fun x : Nat × Nat => decide (x.1 ≤ x.2))) = true) && decide (s.reachRef
         ((s.lnk k).since + steps.sum) = some u) && decide (lanesOk lanes = true) && decide (s.identityOk k p =
         true)),
    (let s : State := (LKs 2 (Lnk.init) 0);
     let u : State := rr (LKs 2 (Lnk.init) 0) ([25000000, 5000000, 1000000, 100000] : List Nat).sum;
     let k : Nat := 1;
     let steps : List Nat := [25000000, 5000000, 1000000, 100000];
     let lanes : List (Option (Nat × Bool)) := [some (3, true), some (2, false), some (1, true), some (0, false)];
     let p : LinkPeer := ⟨3,4,[1],0⟩;
     decide (k < 12) && decide (s.linkState k = 2) && decide (steps.length = 4) && decide (((steps.zip [25000000,
         5000000, 1000000, 100000]).all (fun x : Nat × Nat => decide (x.1 ≤ x.2))) = true) && decide (s.reachRef
         ((s.lnk k).since + steps.sum) = some u) && decide (lanesOk lanes = true) && decide (s.identityOk k p =
         false)),
    (let s : State := (LKs 2 (Lnk.init) 0);
     let u : State := rr (LKs 2 (Lnk.init) 0) ([1,2,3,4] : List Nat).sum;
     let k : Nat := 1;
     let steps : List Nat := [1,2,3,4];
     let lanes : List (Option (Nat × Bool)) := [some (0, true), some (1, false), some (2, true), some (3, false)];
     let p : LinkPeer := ⟨3,4,[1],0⟩;
     decide (k < 12) && decide (s.linkState k = 2) && decide (steps.length = 4) && decide (((steps.zip [25000000,
         5000000, 1000000, 100000]).all (fun x : Nat × Nat => decide (x.1 ≤ x.2))) = true) && decide (s.reachRef
         ((s.lnk k).since + steps.sum) = some u) && decide (lanesOk lanes = true) && decide (s.identityOk k p =
         false)),
    (let s : State := (LKs 2 (Lnk.init) 0);
     let u : State := rr (LKs 2 (Lnk.init) 0) (([] : List Nat).sum + trainLimits.getD ([] : List Nat).length 0);
     let k : Nat := 1;
     let steps : List Nat := [];
     decide (k < 12) && decide (s.linkState k = 2) && decide (steps.length < 4) && decide (((steps.zip [25000000,
         5000000, 1000000, 100000]).all (fun x : Nat × Nat => decide (x.1 ≤ x.2))) = true) && decide (s.reachRef
         ((s.lnk k).since + steps.sum + trainLimits.getD steps.length 0) = some u)),
    (let s : State := (LKs 2 (Lnk.init) 0);
     let u : State := rr (LKs 2 (Lnk.init) 0) (([1, 2, 3] : List Nat).sum + trainLimits.getD ([1, 2, 3] : List
         Nat).length 0);
     let k : Nat := 1;
     let steps : List Nat := [1, 2, 3];
     decide (k < 12) && decide (s.linkState k = 2) && decide (steps.length < 4) && decide (((steps.zip [25000000,
         5000000, 1000000, 100000]).all (fun x : Nat × Nat => decide (x.1 ≤ x.2))) = true) && decide (s.reachRef
         ((s.lnk k).since + steps.sum + trainLimits.getD steps.length 0) = some u)),
    (let s : State := (LKs 3 (Lnk.init) 0);
     let k : Nat := 1;
     decide (k < 12) && decide (s.isReady = true) && decide (s.linkState k = 3)),
    (let s : State := (LKs 3 ({ Lnk.init with replay := [LP 5], ackRef := 7 }) 0);
     let u : State := rr (LKs 3 ({ Lnk.init with replay := [LP 5], ackRef := 7 }) 0) 10007;
     let k : Nat := 1;
     decide (k < 12) && decide (s.linkState k = 3) && decide ((s.lnk k).replay ≠ []) && decide (s.reachRef ((s.lnk
         k).ackRef + 10000) = some u)),
    (let s : State := (LKs 4 ({ Lnk.init with replay := [LP 5], queue := [LP 6] }) 0);
     let k : Nat := 1;
     let p := ⟨((LKs 2 Lnk.init 0).neighbour (LKs 2 Lnk.init 0).pkgNum 1), 4, (LKs 2 Lnk.init 0).kind :: (LKs 2
         Lnk.init 0).dims, 0⟩;
     decide (k < 12) && decide (s.linkState k = 4) && decide (s.clk.ref ≤ (s.lnk k).since + 1000000) && decide
         (s.identityOk k p = true) && decide ((s.lnk k).replay ≠ [])),
    (let s : State := (LKs 4 ({ Lnk.init with replay := [LP 5], queue := [LP 6] }) 1000000);
     let k : Nat := 1;
     let p := ⟨((LKs 2 Lnk.init 0).neighbour (LKs 2 Lnk.init 0).pkgNum 1), 4, (LKs 2 Lnk.init 0).kind :: (LKs 2
         Lnk.init 0).dims, 0⟩;
     decide (k < 12) && decide (s.linkState k = 4) && decide (s.clk.ref ≤ (s.lnk k).since + 1000000) && decide
         (s.identityOk k p = true) && decide ((s.lnk k).replay ≠ [])),
    (let s : State := (LKs 4 (Lnk.init) 0);
     let k : Nat := 1;
     let p := ⟨3,4,[1],0⟩;
     decide (k < 12) && decide (s.linkState k = 4) && decide (s.clk.ref ≤ (s.lnk k).since + 1000000) && decide
         (s.identityOk k p = false)),
    (let s : State := (LKs 4 ({ Lnk.init with replay := [LP 5], queue := [LP 6] }) 1000000);
     let k : Nat := 1;
     let p := ⟨3,4,[1],0⟩;
     decide (k < 12) && decide (s.linkState k = 4) && decide (s.clk.ref ≤ (s.lnk k).since + 1000000) && decide
         (s.identityOk k p = false)),
    (let s : State := (LKs 4 ({ Lnk.init with replay := [LP 5], queue := [LP 6] }) 0);
     let u : State := rr (LKs 4 ({ Lnk.init with replay := [LP 5], queue := [LP 6] }) 0) 1000000;
     let k : Nat := 1;
     decide (k < 12) && decide (s.linkState k = 4) && decide (s.reachRef ((s.lnk k).since + 1000000) = some u))].all id = true := by
  decide +kernel

theorem witness_LinkPackets : [
    (let s : State := (LKs 3 (Lnk.init) 0);
     let k : Nat := 1;
     let corrected : List Nat := [];
     decide (k < 12) && decide (corrected.all (fun x => decide (x ≤ 15)) = true) && decide (s.linkState k = 3)),
    (let s : State := (LKs 3 (Lnk.init) 0).wr (lnkA 1 0x14) 0xFFFFFFFF |>.wr64 (lnkA 1 0xC) 0xFFFFFFFFFFFFFFF0;
     let k : Nat := 1;
     let corrected : List Nat := [15, 2];
     decide (k < 12) && decide (corrected.all (fun x => decide (x ≤ 15)) = true) && decide (s.linkState k = 3)),
    (let s : State := (LKs 3
        ({ Lnk.init with replay := [LP 5, LP 6, LP 7], queue := [LP 8], fails := 0, failSeq := 5 }) 0);
     let k : Nat := 1;
     let lseq : Nat := 5;
     let fails := if 0 < (s.lnk k).fails ∧ (s.lnk k).failSeq = lseq then (s.lnk k).fails + 1 else 1;
     decide (k < 12) && decide (s.linkState k = 3) && decide ((s.lnk k).replay.any (fun p => p.seq == lseq) = true)
         && decide (fails < 8)),
    (let s : State := (LKs 3
        ({ Lnk.init with replay := [LP 5, LP 6, LP 7], queue := [LP 8], fails := 9, failSeq := 5 }) 0);
     let k : Nat := 1;
     let lseq : Nat := 6;
     let fails := if 0 < (s.lnk k).fails ∧ (s.lnk k).failSeq = lseq then (s.lnk k).fails + 1 else 1;
     decide (k < 12) && decide (s.linkState k = 3) && decide ((s.lnk k).replay.any (fun p => p.seq == lseq) = true)
         && decide (fails < 8)),
    (let s : State := (LKs 3
        ({ Lnk.init with replay := [LP 5, LP 6, LP 7], queue := [LP 8], fails := 7, failSeq := 5 }) 0);
     let k : Nat := 1;
     let lseq : Nat := 5;
     let fails := if 0 < (s.lnk k).fails ∧ (s.lnk k).failSeq = lseq then (s.lnk k).fails + 1 else 1;
     decide (k < 12) && decide (s.linkState k = 3) && decide ((s.lnk k).replay.any (fun p => p.seq == lseq) = true)
         && decide (8 ≤ fails)),
    (let s : State := (LKs 3
        ({ Lnk.init with replay := [LP 5, LP 6, LP 7], queue := [LP 8], fails := 9, failSeq := 5 }) 0);
     let k : Nat := 1;
     let lseq : Nat := 5;
     let fails := if 0 < (s.lnk k).fails ∧ (s.lnk k).failSeq = lseq then (s.lnk k).fails + 1 else 1;
     decide (k < 12) && decide (s.linkState k = 3) && decide ((s.lnk k).replay.any (fun p => p.seq == lseq) = true)
         && decide (8 ≤ fails)),
    (let s : State := (LKs 3 ({ Lnk.init with replay := [LP 5, LP 6, LP 7], queue := [], fails := 3, failSeq := 6 })
        0);
     let k : Nat := 1;
     let lseq : Nat := 5;
     decide (k < 12) && decide ((s.lnk k).replay.any (fun p => p.seq == lseq) = true) && decide ((s.lnk k).queue =
         [])),
    (let s : State := (LKs 3 ({ Lnk.init with replay := [LP 5, LP 6, LP 7], queue := [], fails := 3, failSeq := 6 })
        0);
     let k : Nat := 1;
     let lseq : Nat := 7;
     decide (k < 12) && decide ((s.lnk k).replay.any (fun p => p.seq == lseq) = true) && decide ((s.lnk k).queue =
         [])),
    (let s : State := (LKs 3
        ({ Lnk.init with replay := [LP 5, LP 6, LP 7], queue := [LP 8], fails := 3, failSeq := 5 }) 0);
     let k : Nat := 1;
     let lseq : Nat := 8;
     decide (k < 12) && decide ((s.lnk k).replay.any (fun p => p.seq == lseq) = false)),
    (let s : State := (LKs 3 ({ Lnk.init with credits := [1,2,3,4] }) 0);
     let k : Nat := 1;
     let vc : Nat := 0;
     decide (k < 12) && decide (vc < 4) && decide (s.linkState k = 3) && decide ((s.lnk k).queue = [])),
    (let s : State := (LKs 3 (Lnk.init) 0);
     let k : Nat := 1;
     let vc : Nat := 3;
     decide (k < 12) && decide (vc < 4) && decide (s.linkState k = 3) && decide ((s.lnk k).queue = [])),
    (let s : State := (LKs 3 { Lnk.init with expect := 9 } 0 |>.setChan 0 3 7 ⟨.waitAck, some (.berth (spadLo 3) 0 6
        255 3 0 16), none, none⟩);
     let p : RxPkt := ⟨1, 8, 8, [15], none⟩;
     let d : Nat := 0;
     let k : Nat := 3;
     let c : Nat := 7;
     decide (p.link < 12) && decide (chanOk d k c = true) && decide ((s.linkState p.link ≠ 3 ∨ p.lseq ≠ (s.lnk
         p.link).expect ∨ p.errs.any (fun n => decide (15 < n)) = true))),
    (let s : State := (LKs 1 { Lnk.init with expect := 9 } 0 |>.setChan 0 3 7 ⟨.waitAck, some (.berth (spadLo 3) 0 6
        255 3 0 16), none, none⟩);
     let p : RxPkt := ⟨1, 9, 8, [15], none⟩;
     let d : Nat := 0;
     let k : Nat := 3;
     let c : Nat := 7;
     decide (p.link < 12) && decide (chanOk d k c = true) && decide ((s.linkState p.link ≠ 3 ∨ p.lseq ≠ (s.lnk
         p.link).expect ∨ p.errs.any (fun n => decide (15 < n)) = true))),
    (let s : State := (LKs 3 { Lnk.init with expect := 9 } 0 |>.setChan 0 3 7 ⟨.waitAck, some (.berth (spadLo 3) 0 6
        255 3 0 16), none, none⟩);
     let p : RxPkt := ⟨1, 9, 8, [15], none⟩;
     let d : Nat := 0;
     let k : Nat := 3;
     let c : Nat := 7;
     let x : Xfer := .berth (spadLo 3) 0 6 255 3 0 16;
     decide (p.link < 12) && decide (chanOk d k c = true) && decide (s.linkState p.link = 3) && decide (p.lseq =
         (s.lnk p.link).expect) && decide (p.errs.any (fun n => decide (15 < n)) = false) && decide (p.onward =
         none) && decide ((s.chan d k c).st = .waitAck) && decide ((s.chan d k c).xfer = some x)),
    (let s : State := (LKs 3 { Lnk.init with expect := 9 } 0 |>.setChan 0 3 7 ⟨.waitAck, some (.berth (spadLo 3) 0 6
        255 3 0 16), none, none⟩);
     let p : RxPkt := ⟨1, 9, 8, [], none⟩;
     let d : Nat := 0;
     let k : Nat := 3;
     let c : Nat := 7;
     let x : Xfer := .berth (spadLo 3) 0 6 255 3 0 16;
     decide (p.link < 12) && decide (chanOk d k c = true) && decide (s.linkState p.link = 3) && decide (p.lseq =
         (s.lnk p.link).expect) && decide (p.errs.any (fun n => decide (15 < n)) = false) && decide (p.onward =
         none) && decide ((s.chan d k c).st = .waitAck) && decide ((s.chan d k c).xfer = some x))].all id = true := by
  decide +kernel

theorem witness_ManagementReads : [
    (let s : State := mb 0x01 16 [] (rl);
     let src : MgtSrc := MgtSrc.mailbox;
     decide (asksB s 0x01 = true) && decide (src = .mailbox)),
    (let s : State := mb 0x02 16 [(0, 4, 1)] (rl);
     decide (asksB s 0x02 = true)),
    (let s : State := mb 0x03 16 [] (rl);
     let src : MgtSrc := MgtSrc.mailbox;
     decide (asksB s 0x03 = true) && decide (src = .mailbox)),
    (let s : State := mb 0x04 16 [] (rl);
     decide (asksB s 0x04 = true)),
    (let s : State := rl;
     decide (s.hm.queue = []))].all id = true := by
  decide +kernel

theorem witness_ServiceRequests : [
    (let s : State := mb 0x10 16 [(0, 1, 4)] (rl);
     let b : Bytes := askedB s;
     let n := le b 0 1;
     let bad := 3 < n ∨ (b.drop 1).any (fun x => x != 0) = true;
     decide (asksB s 0x10 = true) && decide (bad)),
    (let s : State := mb 0x10 16 [(0, 1, 0), (15, 1, 1)] (rl);
     let b : Bytes := askedB s;
     let n := le b 0 1;
     let bad := 3 < n ∨ (b.drop 1).any (fun x => x != 0) = true;
     decide (asksB s 0x10 = true) && decide (bad)),
    (let s : State := mb 0x10 16 [(0, 1, 1)] (rl);
     let b : Bytes := askedB s;
     let n := le b 0 1;
     let bad := 3 < n ∨ (b.drop 1).any (fun x => x != 0) = true;
     let no := n = 1 ∨ (n = 0 ∧ (s.flag (mgtA 0x100) 4 = true ∨ s.flag (mgtA 0x100) 5 = true));
     decide (asksB s 0x10 = true) && decide (¬bad) && decide (no)),
    (let s : State := mb 0x10 16 [(0, 1, 0)] (rl.put (mgtA 0x100) 4 4 1);
     let b : Bytes := askedB s;
     let n := le b 0 1;
     let bad := 3 < n ∨ (b.drop 1).any (fun x => x != 0) = true;
     let no := n = 1 ∨ (n = 0 ∧ (s.flag (mgtA 0x100) 4 = true ∨ s.flag (mgtA 0x100) 5 = true));
     decide (asksB s 0x10 = true) && decide (¬bad) && decide (no)),
    (let s : State := mb 0x10 16 [(0, 1, 0)] (rl);
     let b : Bytes := askedB s;
     let n := le b 0 1;
     let bad := 3 < n ∨ (b.drop 1).any (fun x => x != 0) = true;
     let no := n = 1 ∨ (n = 0 ∧ (s.flag (mgtA 0x100) 4 = true ∨ s.flag (mgtA 0x100) 5 = true));
     decide (asksB s 0x10 = true) && decide (¬bad) && decide (¬no)),
    (let s : State := mb 0x10 16 [(0, 1, 2)] (rl.put (mgtA 0x100) 5 4 3);
     let b : Bytes := askedB s;
     let n := le b 0 1;
     let bad := 3 < n ∨ (b.drop 1).any (fun x => x != 0) = true;
     let no := n = 1 ∨ (n = 0 ∧ (s.flag (mgtA 0x100) 4 = true ∨ s.flag (mgtA 0x100) 5 = true));
     decide (asksB s 0x10 = true) && decide (¬bad) && decide (¬no)),
    (let s : State := mb 0x11 16 [] (cd.setJobs [J0]);
     decide (asksB s 0x11 = true)),
    (let s : State := mb 0x18 16 [(10, 1, 1), (8, 2, 1)] (rl);
     let b : Bytes := askedB s;
     let bad := le b 10 6 ≠ 0 ∨ 1 < le b 2 2 ∨ 7 < le b 4 4 ∨ le b 8 2 < 1 ∨ 16 < le b 8 2 ∨ (8191 < le b 0 2 ∧ le b
         0 2 ≠ 0xFFFF);
     decide (asksB s 0x18 = true) && decide (bad)),
    (let s : State := mb 0x18 16 [(0, 2, 8192), (8, 2, 1)] (rl);
     let b : Bytes := askedB s;
     let bad := le b 10 6 ≠ 0 ∨ 1 < le b 2 2 ∨ 7 < le b 4 4 ∨ le b 8 2 < 1 ∨ 16 < le b 8 2 ∨ (8191 < le b 0 2 ∧ le b
         0 2 ≠ 0xFFFF);
     decide (asksB s 0x18 = true) && decide (bad)),
    (let s : State := mb 0x18 16 [(8, 2, 16), (0, 2, 65535)] (rl.setJobs [J0]);
     let b : Bytes := askedB s;
     let bad := le b 10 6 ≠ 0 ∨ 1 < le b 2 2 ∨ 7 < le b 4 4 ∨ le b 8 2 < 1 ∨ 16 < le b 8 2 ∨ (8191 < le b 0 2 ∧ le b
         0 2 ≠ 0xFFFF);
     decide (asksB s 0x18 = true) && decide (¬bad) && decide (s.jobs ≠ [])),
    (let s : State := mb 0x18 16 [(8, 2, 16), (0, 2, 65535)]
        ({ rl with hm := { rl.hm with armed := some ⟨1,false,0,1,0⟩ } });
     let b : Bytes := askedB s;
     let bad := le b 10 6 ≠ 0 ∨ 1 < le b 2 2 ∨ 7 < le b 4 4 ∨ le b 8 2 < 1 ∨ 16 < le b 8 2 ∨ (8191 < le b 0 2 ∧ le b
         0 2 ≠ 0xFFFF);
     let used := s.hm.armed.isSome = true ∨ s.hm.held.isSome = true ∨ (s.logOn = true ∧ s.inService.length ≤ 1);
     decide (asksB s 0x18 = true) && decide (¬bad) && decide (s.jobs = []) && decide (used)),
    (let s : State := mb 0x18 16 [(8, 2, 16), (0, 2, 65535), (2, 2, 1), (4, 4, 7)] (rl);
     let b : Bytes := askedB s;
     let bad := le b 10 6 ≠ 0 ∨ 1 < le b 2 2 ∨ 7 < le b 4 4 ∨ le b 8 2 < 1 ∨ 16 < le b 8 2 ∨ (8191 < le b 0 2 ∧ le b
         0 2 ≠ 0xFFFF);
     let used := s.hm.armed.isSome = true ∨ s.hm.held.isSome = true ∨ (s.logOn = true ∧ s.inService.length ≤ 1);
     decide (asksB s 0x18 = true) && decide (¬bad) && decide (s.jobs = []) && decide (¬used)),
    (let s : State := mb 0x18 16 [(8, 2, 1), (0, 2, 8191)] (cd);
     let b : Bytes := askedB s;
     let bad := le b 10 6 ≠ 0 ∨ 1 < le b 2 2 ∨ 7 < le b 4 4 ∨ le b 8 2 < 1 ∨ 16 < le b 8 2 ∨ (8191 < le b 0 2 ∧ le b
         0 2 ≠ 0xFFFF);
     let used := s.hm.armed.isSome = true ∨ s.hm.held.isSome = true ∨ (s.logOn = true ∧ s.inService.length ≤ 1);
     decide (asksB s 0x18 = true) && decide (¬bad) && decide (s.jobs = []) && decide (¬used)),
    (let s : State := mb 0x19 16 [] ({ rl with hm := { rl.hm with armed := some ⟨1,false,0,1,0⟩ } });
     decide (asksB s 0x19 = true))].all id = true := by
  decide +kernel

theorem witness_ImageUpdate : [
    (let s : State := mb 0x20 16 [(0, 4, 4096)] (upd (⟨.mailbox, 1, 8192, false, false⟩ : Update) rl);
     decide (asksB s 0x20 = true) && decide (s.hm.update.isSome = true)),
    (let s : State := mb 0x20 16 [(0, 4, 0)] (rl);
     let b : Bytes := askedB s;
     decide (asksB s 0x20 = true) && decide (s.hm.update = none) && decide ((le b 0 4 = 0 ∨ 24 * 2 ^ 20 < le b 0
         4))),
    (let s : State := mb 0x20 16 [(0, 4, 25165825)] (rl);
     let b : Bytes := askedB s;
     decide (asksB s 0x20 = true) && decide (s.hm.update = none) && decide ((le b 0 4 = 0 ∨ 24 * 2 ^ 20 < le b 0
         4))),
    (let s : State := mb 0x20 16 [(0, 4, 1)] (rl);
     let b : Bytes := askedB s;
     decide (asksB s 0x20 = true) && decide (s.hm.update = none) && decide (0 < le b 0 4) && decide (le b 0 4 ≤ 24 *
         2 ^ 20) && decide (le b 4 4 = 0)),
    (let s : State := mb 0x20 16 [(0, 4, 25165824)] (rl);
     let b : Bytes := askedB s;
     decide (asksB s 0x20 = true) && decide (s.hm.update = none) && decide (0 < le b 0 4) && decide (le b 0 4 ≤ 24 *
         2 ^ 20) && decide (le b 4 4 = 0)),
    (let s : State := mb 0x20 16 [(0, 4, 1), (4, 4, 1)] (rl);
     let b : Bytes := askedB s;
     decide (asksB s 0x20 = true) && decide (s.hm.update = none) && decide (0 < le b 0 4) && decide (le b 0 4 ≤ 24 *
         2 ^ 20) && decide (le b 4 4 ≠ 0)),
    (let s : State := mb 0x21 16 [(0, 8, 1)] (upd (⟨.mailbox, 1, 8200, true, false⟩ : Update) rl);
     let src : MgtSrc := MgtSrc.mailbox;
     let b : Bytes := askedB s;
     let u := (⟨.mailbox, 1, 8200, true, false⟩ : Update);
     let off := le b 0 8;
     let n := (b.drop 8).length;
     let bad := off % 4096 ≠ 0 ∨ (n % 4096 ≠ 0 ∧ off + n ≠ u.len) ∨ 2 ^ 20 < n ∨ u.len < off + n;
     decide (asksB s 0x21 = true) && decide (s.hm.update = some u) && decide (u.owner.ringNo = src.ringNo) && decide
         (u.activated = false) && decide (bad)),
    (let s : State := mb 0x21 24 [(0, 8, 8192)] (upd (⟨.mailbox, 1, 8200, true, false⟩ : Update) rl);
     let src : MgtSrc := MgtSrc.mailbox;
     let b : Bytes := askedB s;
     let u := (⟨.mailbox, 1, 8200, true, false⟩ : Update);
     let off := le b 0 8;
     let n := (b.drop 8).length;
     let bad := off % 4096 ≠ 0 ∨ (n % 4096 ≠ 0 ∧ off + n ≠ u.len) ∨ 2 ^ 20 < n ∨ u.len < off + n;
     decide (asksB s 0x21 = true) && decide (s.hm.update = some u) && decide (u.owner.ringNo = src.ringNo) && decide
         (u.activated = false) && decide (bad)),
    (let s : State := mb 0x21 16 [(0, 8, 8192), (8, 1, 5)] (upd (⟨.mailbox, 1, 8200, true, false⟩ : Update) rl);
     let src : MgtSrc := MgtSrc.mailbox;
     let b : Bytes := askedB s;
     let u := (⟨.mailbox, 1, 8200, true, false⟩ : Update);
     let off := le b 0 8;
     let n := (b.drop 8).length;
     let bad := off % 4096 ≠ 0 ∨ (n % 4096 ≠ 0 ∧ off + n ≠ u.len) ∨ 2 ^ 20 < n ∨ u.len < off + n;
     decide (asksB s 0x21 = true) && decide (s.hm.update = some u) && decide (u.owner.ringNo = src.ringNo) && decide
         (u.activated = false) && decide (¬bad)),
    (let s : State := mb 0x22 16 [] (upd (⟨.mailbox, 1, 8192, true, false⟩ : Update) rl);
     let src : MgtSrc := MgtSrc.mailbox;
     let u := (⟨.mailbox, 1, 8192, true, false⟩ : Update);
     decide (asksB s 0x22 = true) && decide (s.hm.update = some u) && decide (u.owner.ringNo = src.ringNo) && decide
         (s.verifySlot u.slot ≠ .success)),
    (let s : State := mb 0x23 16 [] (upd (⟨.mailbox, 1, 8192, false, false⟩ : Update) rl);
     let src : MgtSrc := MgtSrc.mailbox;
     let u := (⟨.mailbox, 1, 8192, false, false⟩ : Update);
     decide (asksB s 0x23 = true) && decide (s.hm.update = some u) && decide (u.owner.ringNo = src.ringNo) && decide
         (u.verified = false)),
    (let s : State := mb 0x23 16 [] (upd (⟨.mailbox, 1, 8192, true, false⟩ : Update) (rl));
     let src : MgtSrc := MgtSrc.mailbox;
     let u := (⟨.mailbox, 1, 8192, true, false⟩ : Update);
     decide (asksB s 0x23 = true) && decide (s.hm.update = some u) && decide (u.owner.ringNo = src.ringNo) && decide
         (u.verified = true) && decide (s.hm.phase ≠ .recovery)),
    (let s : State := mb 0x23 16 [] (upd (⟨.mailbox, 1, 8192, true, false⟩ : Update) (ph .ready rl));
     let src : MgtSrc := MgtSrc.mailbox;
     let u := (⟨.mailbox, 1, 8192, true, false⟩ : Update);
     decide (asksB s 0x23 = true) && decide (s.hm.update = some u) && decide (u.owner.ringNo = src.ringNo) && decide
         (u.verified = true) && decide (s.hm.phase ≠ .recovery)),
    (let s : State := mb 0x23 16 [] (upd (⟨.mailbox, 1, 8192, true, false⟩ : Update) (ph .recovery rl));
     let src : MgtSrc := MgtSrc.mailbox;
     let u := (⟨.mailbox, 1, 8192, true, false⟩ : Update);
     decide (asksB s 0x23 = true) && decide (s.hm.update = some u) && decide (u.owner.ringNo = src.ringNo) && decide
         (u.verified = true) && decide (s.hm.phase = .recovery)),
    (let s : State := mb 0x24 16 [] (rl.put (mgtA 0xC) 7 0 9);
     decide (asksB s 0x24 = true) && decide (s.hm.update = none)),
    (let s : State := mb 0x24 16 [] (upd (⟨.mailbox, 1, 8192, true, false⟩ : Update) rl);
     decide (asksB s 0x24 = true) && decide (s.hm.update.isSome = true)),
    (let s : State := mb 0x25 16 [] (upd (⟨.mailbox, 1, 8192, true, false⟩ : Update) rl);
     let src : MgtSrc := MgtSrc.mailbox;
     let u := (⟨.mailbox, 1, 8192, true, false⟩ : Update);
     decide (asksB s 0x25 = true) && decide (s.hm.update = some u) && decide (u.owner.ringNo = src.ringNo) && decide
         (u.activated = false)),
    (let s : State := mb 0x25 16 [] (upd (⟨.mailbox, 1, 8192, true, true⟩ : Update) rl);
     let src : MgtSrc := MgtSrc.mailbox;
     let u := (⟨.mailbox, 1, 8192, true, true⟩ : Update);
     decide (asksB s 0x25 = true) && decide (s.hm.update = some u) && decide (u.owner.ringNo = src.ringNo) && decide
         (u.activated = true)),
    (let s : State := mb 0x21 16 [] (rl);
     decide (asksB s 0x21 = true)),
    (let s : State := mb 0x21 16 [] (upd (⟨.ring 1 2, 1, 8192, true, false⟩ : Update) rl);
     decide (asksB s 0x21 = true)),
    (let s : State := mb 0x22 16 [] (rl);
     decide (asksB s 0x22 = true)),
    (let s : State := mb 0x22 16 [] (upd (⟨.ring 1 2, 1, 8192, true, false⟩ : Update) rl);
     decide (asksB s 0x22 = true)),
    (let s : State := mb 0x23 16 [] (rl);
     decide (asksB s 0x23 = true)),
    (let s : State := mb 0x23 16 [] (upd (⟨.ring 1 2, 1, 8192, true, false⟩ : Update) rl);
     decide (asksB s 0x23 = true)),
    (let s : State := mb 0x25 16 [] (rl);
     decide (asksB s 0x25 = true)),
    (let s : State := mb 0x25 16 [] (upd (⟨.ring 1 2, 1, 8192, true, false⟩ : Update) rl);
     decide (asksB s 0x25 = true))].all id = true := by
  decide +kernel

theorem witness_MakerSession : [
    (let s : State := mb 0x30 16 [(0, 2, 0)] (rl);
     let b : Bytes := askedB s;
     let bad := le b 0 2 < 1 ∨ 1440 < le b 0 2 ∨ le b 2 6 ≠ 0;
     decide (asksB s 0x30 = true) && decide (bad)),
    (let s : State := mb 0x30 16 [(0, 2, 1), (7, 1, 1)] (rl);
     let b : Bytes := askedB s;
     let bad := le b 0 2 < 1 ∨ 1440 < le b 0 2 ∨ le b 2 6 ≠ 0;
     decide (asksB s 0x30 = true) && decide (bad)),
    (let s : State := mb 0x30 16 [(0, 2, 1440)] (rl.put (mgtA 0x100) 3 0 2);
     let b : Bytes := askedB s;
     let bad := le b 0 2 < 1 ∨ 1440 < le b 0 2 ∨ le b 2 6 ≠ 0;
     let opened := ∃ m, s.hm.maker = some m ∧ m.opened = true;
     decide (asksB s 0x30 = true) && decide (¬bad) && decide (2 ≤ s.service) && decide (¬opened)),
    (let s : State := mb 0x30 16 [(0, 2, 1440)] (mk (⟨0xFFFF, 9, none, false, [], 0⟩ : Maker) (rl.put (mgtA 0x100) 3
        0 3));
     let b : Bytes := askedB s;
     let bad := le b 0 2 < 1 ∨ 1440 < le b 0 2 ∨ le b 2 6 ≠ 0;
     let opened := ∃ m, s.hm.maker = some m ∧ m.opened = true;
     decide (asksB s 0x30 = true) && decide (¬bad) && decide (2 ≤ s.service) && decide (¬opened)),
    (let s : State := mb 0x31 16 [] (mk (⟨0xFFFF, 9, none, false, [], 0⟩ : Maker) rl);
     let src : MgtSrc := MgtSrc.mailbox;
     let m : Maker := (⟨0xFFFF, 9, none, false, [], 0⟩ : Maker);
     decide (asksB s 0x31 = true) && decide (s.hm.maker = some m) && decide (m.ring = src.ringNo) && decide
         (m.opened = false)),
    (let s : State := mb 0x32 16 [] (mk (⟨0xFFFF, 9, none, false, [], 0⟩ : Maker) rl);
     let src : MgtSrc := MgtSrc.mailbox;
     let m : Maker := (⟨0xFFFF, 9, none, false, [], 0⟩ : Maker);
     decide (asksB s 0x32 = true) && decide (s.hm.maker = some m) && decide (m.ring = src.ringNo) && decide (m.nonce
         = none)),
    (let s : State := mb 0x32 16 [] (mk (⟨0xFFFF, 9, some [1], false, [], 0⟩ : Maker) rl);
     let src : MgtSrc := MgtSrc.mailbox;
     let b : Bytes := askedB s;
     let m : Maker := (⟨0xFFFF, 9, some [1], false, [], 0⟩ : Maker);
     let nonce : Bytes := [1];
     decide (asksB s 0x32 = true) && decide (s.hm.maker = some m) && decide (m.ring = src.ringNo) && decide (m.nonce
         = some nonce) && decide ((slice b 4635 5).any (fun x => x != 0) = false)),
    (let s : State := mb 0x33 16 [] (mk (⟨0xFFFF, 9, none, true, [], 0⟩ : Maker) (rl.put (mgtA 0x100) 4 4 1));
     let src : MgtSrc := MgtSrc.mailbox;
     let m : Maker := (⟨0xFFFF, 9, none, true, [], 0⟩ : Maker);
     decide (s.hm.maker = some m) && decide (m.ring = src.ringNo) && decide (asksB s 0x33 = true) && decide
         (m.opened = true)),
    (let s : State := mb 0x34 16 [] (mk (⟨0xFFFF, 9, none, true, [], 0⟩ : Maker) rl);
     let src : MgtSrc := MgtSrc.mailbox;
     let m : Maker := (⟨0xFFFF, 9, none, true, [], 0⟩ : Maker);
     decide (s.hm.maker = some m) && decide (m.ring = src.ringNo) && decide (asksB s 0x34 = true) && decide
         (m.opened = true)),
    (let s : State := mb 0x34 16 [] (mk (⟨0xFFFF, 9, none, false, [], 0⟩ : Maker) rl);
     let src : MgtSrc := MgtSrc.mailbox;
     let m : Maker := (⟨0xFFFF, 9, none, false, [], 0⟩ : Maker);
     decide (s.hm.maker = some m) && decide (m.ring = src.ringNo) && decide (asksB s 0x34 = true) && decide
         (m.opened = false)),
    (let s : State := mb 0x31 16 [] (rl);
     let src : MgtSrc := MgtSrc.mailbox;
     decide ((s.hm.maker = none ∨ ∃ m, s.hm.maker = some m ∧ m.ring ≠ src.ringNo)) && decide (asksB s 0x31 = true)),
    (let s : State := mb 0x31 16 [] (mk (⟨5, 9, none, false, [], 0⟩ : Maker) rl);
     let src : MgtSrc := MgtSrc.mailbox;
     decide ((s.hm.maker = none ∨ ∃ m, s.hm.maker = some m ∧ m.ring ≠ src.ringNo)) && decide (asksB s 0x31 = true)),
    (let s : State := mb 0x32 16 [] (rl);
     let src : MgtSrc := MgtSrc.mailbox;
     decide ((s.hm.maker = none ∨ ∃ m, s.hm.maker = some m ∧ m.ring ≠ src.ringNo)) && decide (asksB s 0x32 = true)),
    (let s : State := mb 0x32 16 [] (mk (⟨5, 9, none, false, [], 0⟩ : Maker) rl);
     let src : MgtSrc := MgtSrc.mailbox;
     decide ((s.hm.maker = none ∨ ∃ m, s.hm.maker = some m ∧ m.ring ≠ src.ringNo)) && decide (asksB s 0x32 = true)),
    (let s : State := mb 0x33 16 [] (rl);
     let src : MgtSrc := MgtSrc.mailbox;
     decide ((s.hm.maker = none ∨ ∃ m, s.hm.maker = some m ∧ m.ring ≠ src.ringNo)) && decide (asksB s 0x33 = true)),
    (let s : State := mb 0x33 16 [] (mk (⟨5, 9, none, false, [], 0⟩ : Maker) rl);
     let src : MgtSrc := MgtSrc.mailbox;
     decide ((s.hm.maker = none ∨ ∃ m, s.hm.maker = some m ∧ m.ring ≠ src.ringNo)) && decide (asksB s 0x33 = true)),
    (let s : State := mb 0x34 16 [] (rl);
     let src : MgtSrc := MgtSrc.mailbox;
     decide ((s.hm.maker = none ∨ ∃ m, s.hm.maker = some m ∧ m.ring ≠ src.ringNo)) && decide (asksB s 0x34 = true)),
    (let s : State := mb 0x34 16 [] (mk (⟨5, 9, none, false, [], 0⟩ : Maker) rl);
     let src : MgtSrc := MgtSrc.mailbox;
     decide ((s.hm.maker = none ∨ ∃ m, s.hm.maker = some m ∧ m.ring ≠ src.ringNo)) && decide (asksB s 0x34 = true)),
    (let s : State := mk (⟨0xFFFF, 9, none, true, [], 0⟩ : Maker) (rl.put (mgtA 0x100) 4 4 1);
     let u : State := rr (mk (⟨0xFFFF, 9, none, true, [], 0⟩ : Maker) (rl.put (mgtA 0x100) 4 4 1)) (9*60000000000);
     let m : Maker := (⟨0xFFFF, 9, none, true, [], 0⟩ : Maker);
     decide (s.hm.maker = some m) && decide (m.opened = true) && decide (s.reachRef (m.since + m.minutes *
         60000000000) = some u))].all id = true := by
  decide +kernel

theorem witness_Environment : [
    (let s : State := cd;
     let i := 3;
     decide (s.hm.phase = .ready) && decide (i < 64) && decide (s.sitePresent i = true)),
    (let s : State := cd;
     let i := 1;
     decide (s.hm.phase = .ready) && decide (i < 64) && decide (s.sitePresent i = true)),
    (let s : State := { cd with fuses := { cd.fuses with cdCount := 7 } };
     let temps : List Nat := (List.range 64).map (fun i => if i = 3 then 1600 else 400 + i);
     let d := 0;
     decide (s.hm.phase = .ready) && decide (d < 8) && decide ((d = 0 ∨ d ≤ s.fuses.cdCount)) && decide (s.fld (mgtA
         (0x310 + 4 * d)) 4 0 ≤ gateOf (hottest temps d))),
    (let s : State := { cd with fuses := { cd.fuses with cdCount := 7 } };
     let temps : List Nat := (List.range 64).map (fun i => if i = 5 then 65000 else 400 + i);
     let d := 7;
     decide (s.hm.phase = .ready) && decide (d < 8) && decide ((d = 0 ∨ d ≤ s.fuses.cdCount)) && decide (s.fld (mgtA
         (0x310 + 4 * d)) 4 0 ≤ gateOf (hottest temps d))),
    (let s : State := ph .tripped cd;
     let temps : List Nat := List.replicate 64 1519;
     decide (s.hm.phase = .tripped) && decide (((List.range 64).all (fun i => !s.sitePresent i || decide (sint 16
         (temps.getD i 0) < 1520)) = true))),
    (let s : State := ph .tripped cd;
     let temps : List Nat := [1520];
     decide (s.hm.phase = .tripped) && decide (((List.range 64).any (fun i => s.sitePresent i && decide (1520 ≤ sint
         16 (temps.getD i 0))) = true))),
    (let s : State := cd;
     let site : Nat := 0;
     decide (site < 64) && decide (s.sitePresent site = true) && decide ((s.hm.phase = .ready ∨ s.hm.phase =
         .recovery))),
    (let s : State := ph .recovery cd;
     let site : Nat := 7;
     decide (site < 64) && decide (s.sitePresent site = true) && decide ((s.hm.phase = .ready ∨ s.hm.phase =
         .recovery))),
    (let s : State := cd;
     let rail : Nat := 13;
     decide (rail < 14) && decide ((s.hm.phase = .ready ∨ s.hm.phase = .recovery))),
    (let s : State := cd;
     let n : Nat := 0;
     decide (n < 7) && decide (s.inService.contains n = true)),
    (let s : State := rl;
     decide (s.hm.phase = .ready))].all id = true := by
  decide +kernel

theorem witness_ResetsAndBoot : [
    (let ns : Nat := 999;
     decide (ns < 1000)),
    (let s : State := cd.setJobs [J0];
     let ns : Nat := 1000;
     decide (1000 ≤ ns) && decide ((s.hm.phase = .ready ∨ s.hm.phase = .recovery))),
    (let s : State := ph .recovery rl;
     let ns : Nat := 5000;
     decide (1000 ≤ ns) && decide ((s.hm.phase = .ready ∨ s.hm.phase = .recovery))),
    (let s : State := State.reset;
     let u : State := rr State.reset State.reset.hm.resetDue;
     decide (s.hm.phase = .reset) && decide (s.reachRef s.hm.resetDue = some u)),
    (let s : State := rl;
     decide (s.hm.phase ≠ .reset)),
    (let s : State := rl;
     let core : Nat := 0;
     decide (core < 4) && decide (s.isReady = true)),
    (let s : State := rl;
     let core : Nat := 3;
     decide (core < 4) && decide (s.isReady = true)),
    (let s : State := rl;
     decide ((s.isReady = true ∨ s.hm.phase = .recovery)))].all id = true := by
  decide +kernel

theorem witness_TransactionOpens : [
    (let s : State := (rl.put 0x100 0 0 1) |> put1 (D 0x02 []);
     let r : Nat := 1;
     let d := D 0x02 [];
     let a := 0x104;
     decide (startsB s r 0x02 d = true) && decide (s.cfgOpen = true ∨ s.cfgCommitting = true) && decide (a <
         0x100000)),
    (let s : State := (rl.put 0x100 1 0 2) |> put1 (D 0x02 []);
     let r : Nat := 1;
     let d := D 0x02 [];
     let a := 0x104;
     decide (startsB s r 0x02 d = true) && decide (s.cfgOpen = true ∨ s.cfgCommitting = true) && decide (a <
         0x100000)),
    (let s : State := (rl.put 0x100 0 0 1) |> put1 (D 0x02 []);
     let r : Nat := 1;
     let d := D 0x02 [];
     decide (startsB s r 0x02 d = true) && decide (s.cfgOpen = true ∨ s.cfgCommitting = true)),
    (let s : State := (rl.put 0x100 1 0 2) |> put1 (D 0x02 []);
     let r : Nat := 1;
     let d := D 0x02 [];
     decide (startsB s r 0x02 d = true) && decide (s.cfgOpen = true ∨ s.cfgCommitting = true)),
    (let s : State := rl |> put1 (D 0x02 []);
     let r : Nat := 1;
     let d := D 0x02 [];
     let a := 0x104;
     decide (startsB s r 0x02 d = true) && decide (s.cfgOpen = false) && decide (s.cfgCommitting = false) && decide
         (a < 0x100000) && decide (a ≠ 0x100) && decide (a ≠ 0x108)),
    (let s : State := rl |> put1 (D 0x02 []);
     let r : Nat := 1;
     let d := D 0x02 [];
     decide (startsB s r 0x02 d = true) && decide (s.cfgOpen = false) && decide (s.cfgCommitting = false)),
    (let s : State := (rl.put (ringA 1 0x10) 31 31 1).setRing 1 { Ring.init with sqTail := 1 };
     let r : Nat := 1;
     let raw := f64 64 [(0,1,2)];
     let b := fitTo 64 raw;
     let head := (s.rd (ringA r 0x1C)).toNat;
     decide (r < 8192) && decide (s.isReady = true) && decide (s.ringOn r = true) && decide (s.ringHalted r = false)
         && decide (s.linkUp = true) && decide (head ≠ (s.ring r).sqTail) && decide (s.reserved r < s.cqFree r) &&
         decide (s.desc r head = none) && decide (s.installer r = false) && decide (dOp b = 0x02) && decide
         (reservedZero [] b = true) && decide (dFlags b ≤ 3))].all id = true := by
  decide +kernel

end Sys2Proof.Tests
end

/-!
The latches of wide quantities (00_scope.md: R6): what a register read returns, what a low-word
read loads, and which commands touch a latch.
-/

namespace Sys2Proof.Machine

open Sys2Proof

/-! ### Reads -/

/-- A register is accessed in words at word addresses (R6). -/
theorem State.readReg_of_not_word (s : State) {a w : Nat} (h : w ≠ 4 ∨ a % 4 ≠ 0) : s.readReg a w = 0 := by
  simp [State.readReg, h]

theorem State.readReg_of_latched (s : State) {a : Nat} {v : Word} (ha : a % 4 = 0) (hu : upperWord a = true)
    (hv : tget none s.latch a = some v) : s.readReg a 4 = v := by
  simp [State.readReg, ha, hu, hv]

theorem State.readReg_of_not_latched (s : State) {a : Nat} (ha : a % 4 = 0) (hn : tget none s.latch a = none) :
    s.readReg a 4 = s.live a := by
  simp [State.readReg, ha, hn]

theorem upperWord_add_four {a : Nat} {r : RegRow} (hr : rowAt a = some r) (hw : r.wide = true) :
    upperWord (a + 4) = true := by
  simp [upperWord, hr, hw]

/-! ### Commands -/

theorem exec_registerWrite_of_not_word (s : State) {a w : Nat} (v : Word) (h : w ≠ 4 ∨ a % 4 ≠ 0) :
    exec (.registerWrite a w v) s = .next s := by
  change execRegisterWrite a w v s = .next s
  simp [execRegisterWrite, h]

/-- The state after a read of the low word at `a` of a wide quantity. -/
def State.loadLatch (s : State) (a : Nat) : State :=
  { s with lastRead := s.live a, latch := tset none s.latch (a + 4) (some (s.live (a + 4))) }

theorem exec_wideLowWordRead (s : State) {a : Nat} {r : RegRow} (hr : rowAt a = some r) (hw : r.wide = true) :
    exec (.wideLowWordRead a) s = .next (s.loadLatch a) := by
  change execWideLowWordRead a s = .next (s.loadLatch a)
  simp [execWideLowWordRead, State.loadLatch, hr, hw]

@[simp] theorem State.loadLatch_latch (s : State) (a : Nat) :
    (s.loadLatch a).latch = tset none s.latch (a + 4) (some (s.live (a + 4))) := rfl

theorem State.loadLatch_latch_self (s : State) (a : Nat) :
    tget none (s.loadLatch a).latch (a + 4) = some (s.live (a + 4)) := by
  rw [State.loadLatch_latch, tget_tset_self]

theorem State.loadLatch_latch_ne (s : State) {a b : Nat} (h : b ≠ a + 4) :
    tget none (s.loadLatch a).latch b = tget none s.latch b := by
  rw [State.loadLatch_latch, tget_tset_ne _ _ _ h.symm]

@[simp] theorem State.packageReset_latch (s : State) (cause : Nat) (p : Phase) :
    (s.packageReset cause p).latch = [] := by
  unfold State.packageReset
  extract_lets
  split <;> rfl

/-- The commands that load a latch or reset the package. -/
def changesLatch : Instr → Bool
  | .wideLowWordRead _ | .packageReset | .updateActivate | .resetInput _ _ | .resetRelease _ _ | .thermalTrip _
  | .voltageTrip _ | .powerOn => true
  | _ => false

/-- Only these commands have the latches in their frame. -/
theorem touches_frameMask_latch (c : Instr) : touches (frameMask c) 0 = changesLatch c := by
  cases c <;> simp [frameMask, changesLatch]

theorem exec_latch {c : Instr} {s t : State} (h : exec c s = .next t) (hc : changesLatch c = false) :
    t.latch = s.latch :=
  (exec_keeps h).latch ((touches_frameMask_latch c).trans hc)

/-- Settles O4: a read is decided by the access and by what the latch holds; the frame of every command shows that no
command outside `changesLatch` touches a latch. -/
theorem wideLatch : Obligations.WideLatch := by
  refine ⟨fun s a w v h => ⟨s.readReg_of_not_word h, exec_registerWrite_of_not_word s v h⟩, ?lowRead,
    fun s a w ha hu hv => s.readReg_of_latched ha hu hv, fun s a ha hn => s.readReg_of_not_latched ha hn,
    State.packageReset_latch, ?frame⟩
  case lowRead =>
    intro s a r hr hw ha
    have upper : (s.loadLatch a).readReg (a + 4) 4 = s.live (a + 4) :=
      State.readReg_of_latched _ (by omega) (upperWord_add_four hr hw) (s.loadLatch_latch_self a)
    exact ⟨_, exec_wideLowWordRead s hr hw, rfl, upper, rfl, fun b hb => s.loadLatch_latch_ne hb⟩
  case frame =>
    intro c s t h
    split
    case h_9 =>
      have spares : changesLatch c = false := by simp [changesLatch, *]
      exact exec_latch h spares
    all_goals trivial

end Sys2Proof.Machine

/-!
The tick edge (01_device_and_tick.md: R13, R14, R21): the times that an edge leaves, where nothing is replayed
and no commit waits.
-/

namespace Sys2Proof.Machine

open Sys2Proof

/-- A time register lies in the block of TIM. -/
theorem blk_timA (o : Nat) (h : o < 0x100000) : blk (timA o) = 2 := by
  unfold blk timA
  rw [if_pos (by omega)]
  omega

/-! ### What is quiet without replay and without a commit -/

theorem State.replaying_of_not_inReplay {s : State} (h : s.inReplay = false) : s.replaying = false := by
  simp [State.replaying, h]

theorem State.replayGuard_of_not_inReplay {s : State} (h : s.inReplay = false) : s.replayGuard = s := by
  simp [State.replayGuard, State.replaying_of_not_inReplay h]

theorem State.replayEdge_of_not_inReplay {s : State} (busy : Nat) (h : s.inReplay = false) :
    s.replayEdge busy = ([], s) := by
  simp [State.replayEdge, State.replaying_of_not_inReplay h]

theorem State.replayRest_nil (s : State) (busy : Nat) : s.replayRest busy [] false = s := rfl

theorem State.commitDue_of_no_commit {s : State} (busy : Nat) (h : s.cfg.commitNum = none) :
    s.commitDue busy = s := by
  simp [State.commitDue, State.cfgWaits, h]

theorem State.inReplay_congr {s t : State} (h : t.rd 0x330 = s.rd 0x330) : t.inReplay = s.inReplay :=
  State.flag_congr h 0

theorem State.periodNs_congr {s t : State} (h : t.rd (timA 0x100) = s.rd (timA 0x100)) : t.periodNs = s.periodNs := by
  unfold State.periodNs
  rw [State.fld_congr h]

/-! ### The edge's own work -/

/-- The state whose next edge has become the present one. -/
def State.edgeOpened (s : State) : State :=
  { s with clk := { s.clk with tick := s.clk.nextTick, lastEdge := s.clk.nextEdge } }

/-- The new times follow from the clock and the period and guard time in force. -/
theorem State.nextTimes_clk_congr {s t : State} (hc : t.clk = s.clk)
    (h : ∀ o < 0x100000, t.rd (timA o) = s.rd (timA o)) :
    t.edgeOpened.nextTimes.clk = s.edgeOpened.nextTimes.clk := by
  have period : t.edgeOpened.periodNs = s.edgeOpened.periodNs := State.periodNs_congr (h 0x100 (by decide))
  have guard : t.edgeOpened.guardNs = s.edgeOpened.guardNs :=
    congrArg (· * 1000) (State.fld_congr (h 0x104 (by decide)) 12 0)
  have clk : t.edgeOpened.clk = s.edgeOpened.clk := by simp only [State.edgeOpened, hc]
  simp only [State.nextTimes, period, guard, clk]

/-- After the new times, the rest of a quiet edge touches neither the clock nor a time register. -/
theorem State.edgeWork_frame_of_quiet {s : State} (busy : Nat) (hr : s.inReplay = false)
    (hc : s.cfg.commitNum = none) : Frame 0x107fb0ded319ecc (s.tlySync 7).edgeOpened.nextTimes (s.edgeWork busy) := by
  have fTly := s.tlySync_frame 7
  have noCommit : (s.tlySync 7).cfg.commitNum = none := (congrArg _ (fTly.cfg rfl)).trans hc
  have noReplay : (s.tlySync 7).edgeOpened.inReplay = false := (State.inReplay_congr (fTly.blk 0x330 rfl)).trans hr
  unfold State.edgeWork
  extract_lets computed due v src w head group x bad y z
  have hv : v = s.tlySync 7 := by
    simp only [v, State.replayGuard_of_not_inReplay hr, State.commitDue_of_no_commit busy noCommit]
  have hx : x = ([], (s.tlySync 7).edgeOpened) :=
    (congrArg (fun v : State => v.edgeOpened.replayEdge busy) hv).trans
      (State.replayEdge_of_not_inReplay busy noReplay)
  have hbad : bad = false := by
    simp only [bad, hx, State.replaying_of_not_inReplay noReplay, Bool.false_and]
  have fy : Frame 0x107fb0ded319ecc (s.tlySync 7).edgeOpened.nextTimes y := by
    simp only [y, hx]
    exact (State.logTick_frame _).mono rfl
  rw [hbad, hx, State.replayRest_nil]
  exact (((fy.step (State.launchAll_frame ..) rfl).step (State.edgeCompute_frame _) rfl).step
    (State.releaseGroups_frame _) rfl).step (State.tlyEdge_frame _) rfl

theorem State.edgeWork_times {s : State} (busy : Nat) (hr : s.inReplay = false) (hc : s.cfg.commitNum = none) :
    (s.edgeWork busy).clk = s.edgeOpened.nextTimes.clk ∧
      ∀ o < 0x100000, (s.edgeWork busy).rd (timA o) = s.rd (timA o) := by
  have fTly := s.tlySync_frame 7
  have fEdge := s.edgeWork_frame_of_quiet busy hr hc
  have tim : ∀ o < 0x100000, (s.tlySync 7).rd (timA o) = s.rd (timA o) := fun o ho =>
    fTly.blk _ (by rw [blk_timA o ho]; rfl)
  exact ⟨(fEdge.clk rfl).trans (State.nextTimes_clk_congr (fTly.clk rfl) tim),
    fun o ho => (fEdge.blk _ (by rw [blk_timA o ho]; rfl)).trans (tim o ho)⟩

/-- A quiet TICK_EDGE: working time reaches the edge, then the clock alone tells the new times. -/
theorem exec_tickEdge_of_quiet {s : State} (busy : Nat) (hlive : s.clk.live = true) (hdue : s.clk.t ≤ s.clk.nextEdge)
    (hr : s.inReplay = false) (hc : s.cfg.commitNum = none) :
    ∃ u t, exec (.tickEdge busy) s = .next t ∧ Later s u s.clk.nextEdge ∧ t.clk = u.edgeOpened.nextTimes.clk ∧
      ∀ o < 0x100000, t.rd (timA o) = u.rd (timA o) := by
  obtain ⟨u, hu, later⟩ := State.atT_later (s := s) (.inr (.inr (Nat.le_refl _))) (State.edgeWork busy)
  rw [Nat.max_eq_right hdue] at later
  obtain ⟨clk, tim⟩ := u.edgeWork_times busy ((State.inReplay_congr (later.rd _ (by decide))).trans hr)
    ((congrArg _ (later.frame.cfg rfl)).trans hc)
  refine ⟨u, u.edgeWork busy, ?_, later, clk, tim⟩
  change execTickEdge busy s = _
  simp [execTickEdge, hlive, hu]

/-! ### The next edge -/

/-- With its period in force, the next edge is one period later and its tick the next one (R13, R14). -/
theorem State.nextTimes_of_period_kept {s : State} (h : s.periodNs = s.clk.period) :
    s.nextTimes.clk.nextEdge = s.clk.lastEdge + s.clk.period ∧ s.nextTimes.clk.nextTick = s.clk.tick + 1 := by
  simp [State.nextTimes, h]

/-- With another period set, the next edge is the first multiple of it that is one of it away (R21). -/
theorem State.nextTimes_of_period_changed {s : State} (h0 : 0 < s.periodNs) (h : s.periodNs ≠ s.clk.period) :
    s.nextTimes.clk.period = s.periodNs ∧
    s.nextTimes.clk.nextEdge = cdiv (s.clk.lastEdge + s.periodNs) s.periodNs * s.periodNs ∧
    s.nextTimes.clk.nextTick * s.periodNs = s.nextTimes.clk.nextEdge := by
  have h0' : s.periodNs ≠ 0 := Nat.ne_of_gt h0
  refine ⟨by simp [State.nextTimes, h, h0'], by simp [State.nextTimes, h, h0'], ?_⟩
  simp [State.nextTimes, h, h0', Nat.mul_div_cancel _ h0]

theorem le_cdiv_mul {a b : Nat} (h : 0 < b) : a ≤ cdiv a b * b := by
  have := Nat.div_add_mod (a + b - 1) b
  have := Nat.mod_lt (a + b - 1) h
  rw [cdiv, Nat.mul_comm]
  omega

theorem cdiv_mul_lt {a b : Nat} (h : 0 < b) : cdiv a b * b < a + b := by
  have := Nat.div_mul_le_self (a + b - 1) b
  unfold cdiv
  omega

/-- Settles O5: a quiet edge opens the next tick, and with the period unchanged the following edge is one period on. -/
theorem tickEdgeAdvances : Obligations.TickEdgeAdvances := by
  intro busy s hlive hdue hr hc hp
  obtain ⟨u, t, ht, later, hclk, -⟩ := exec_tickEdge_of_quiet busy hlive hdue hr hc
  have kept : u.edgeOpened.periodNs = u.edgeOpened.clk.period :=
    (State.periodNs_congr (later.rd _ (by decide))).trans (hp.trans later.period.symm)
  obtain ⟨edge, tick⟩ := State.nextTimes_of_period_kept kept
  refine ⟨t, ht, ?_⟩
  dsimp only
  rw [hclk, edge, tick]
  exact ⟨later.nextTick, later.nextEdge, later.t, congrArg (· + 1) later.nextTick,
    congrArg₂ (· + ·) later.nextEdge later.period⟩

/-- Settles O6: rounding up to a multiple of the new period moves the edge by less than one of it, and no step of the
edge writes a time register. -/
theorem periodChange : Obligations.PeriodChange := by
  intro busy s hlive hdue hr hc h0 hp
  obtain ⟨u, t, ht, later, hclk, hrd⟩ := exec_tickEdge_of_quiet busy hlive hdue hr hc
  have now : u.edgeOpened.periodNs = s.periodNs := State.periodNs_congr (later.rd _ (by decide))
  have changed : u.edgeOpened.periodNs ≠ u.edgeOpened.clk.period := by
    rw [now]
    exact fun e => hp (e.trans later.period)
  obtain ⟨period, edge, tick⟩ := State.nextTimes_of_period_changed (by rwa [now]) changed
  have last : u.edgeOpened.clk.lastEdge = s.clk.nextEdge := later.nextEdge
  rw [now] at period edge tick
  rw [last] at edge
  refine ⟨t, ht, ?_⟩
  dsimp only
  rw [hclk]
  refine ⟨?notBefore, ?near, tick, period, (hrd 0x114 (by decide)).trans (later.rd _ (by decide))⟩
  case notBefore =>
    rw [edge]
    exact le_cdiv_mul h0
  case near =>
    have := cdiv_mul_lt (a := s.clk.nextEdge + s.periodNs) h0
    rw [edge]
    omega

end Sys2Proof.Machine

/-!
The end of an activation (01_device_and_tick.md: R29, R30; 06_placement_and_scheduling.md: R153;
07_determinism_and_replay.md: R176): completion, publication and overrun, as the activation's job shows them.
-/

namespace Sys2Proof.Machine

open Sys2Proof

/-! ### Reading a job -/

theorem find?_mapIf {α : Type} {p : α → Bool} {f : α → α} {l : List α} {x : α} (h : l.find? p = some x)
    (hf : p (f x) = true) : (mapIf p f l).find? p = some (f x) := by
  induction l with
  | nil => cases h
  | cons y l ih =>
    cases hy : p y with
    | false =>
      rw [List.find?_cons_of_neg (by simp [hy])] at h
      simpa [mapIf, hy] using ih h
    | true =>
      rw [List.find?_cons_of_pos hy] at h
      cases h
      simp [mapIf, hy, hf]

theorem State.id_of_job {s : State} {id : Nat} {j : Job} (h : s.job id = some j) : j.id = id := by
  simpa using List.find?_some h

theorem State.job_updJob {s : State} {id : Nat} {j : Job} {f : Job → Job} (h : s.job id = some j)
    (hf : (f j).id = j.id) :
    (s.updJob id f).job id = some (f j) :=
  find?_mapIf h (by simp [hf, State.id_of_job h])

/-- An operation outside the jobs leaves each of them. -/
theorem Frame.job {m : Nat} {s t : State} (h : Frame m s t) (b : touches m 16 = false) (id : Nat) :
    t.job id = s.job id := by
  unfold State.job
  rw [h.jobs b]

/-! ### Publishing, and ending without it -/

/-- Publication counts the activation and its generation, and sets it aside (R23, R155). -/
theorem State.publish_job {s : State} {id : Nat} {j : Job} {a : Act} (hj : s.job id = some j) (ha : j.act = some a) :
    ∃ j', (s.publish id).job id = some j' ∧ j'.act = none ∧ j'.acts = j.acts + 1 ∧ j'.gen = j.gen + 1 := by
  unfold State.publish
  split
  case h_1 h => simp [hj] at h
  case h_2 j₀ h =>
    obtain rfl : j = j₀ := Option.some.inj (hj.symm.trans h)
    split
    case h_1 h => simp [ha] at h
    case h_2 a₀ _ =>
      extract_lets stats shown j' u v w
      refine ⟨j'.noAct, ?_, rfl, rfl, rfl⟩
      have hu : u.job id = some j'.noAct := State.job_updJob hj rfl
      have fv : Frame 0x53b0100109e04 u v :=
        (((Frame.refl _ _).step (State.hostOutputs_frame ..) rfl).step (State.statsOut_frame ..) rfl).step
          (State.tensorDigests_frame ..) rfl
      have fw : Frame 0x53b0100109e04 u w :=
        (fv.step (State.roiPublish_frame ..) rfl).step (State.canaryChecks_frame ..) rfl
      have fAll : Frame 0x53b0100109e04 u (if a₀.kind ≠ 0 then w
          else if w.clk.t < a₀.startT + w.fld (safA 0x10) 19 0 * 1000 then w.percMissed
          else { w with saf := { w.saf with percMiss := 0 } }) :=
        Frame.ite (fun _ => fw) fun _ => Frame.ite (fun _ => fw.step (State.percMissed_frame _) rfl)
          fun _ => fw.step (Frame.saf_upd w _) rfl
      exact (fAll.job rfl id).trans hu

/-- An activation that ends without publishing is set aside, and counts for nothing (R29). -/
theorem State.actEnd_job {s : State} {id : Nat} {j : Job} {a : Act} (hj : s.job id = some j) (ha : j.act = some a) :
    (s.actEnd id).job id = some j.noAct := by
  unfold State.actEnd
  split
  case h_1 h => simp [hj] at h
  case h_2 j₀ h =>
    obtain rfl : j = j₀ := Option.some.inj (hj.symm.trans h)
    split
    case h_1 h => simp [ha] at h
    case h_2 =>
      extract_lets u d e v w
      have hu : u.job id = some j.noAct := State.job_updJob hj rfl
      have fd : Frame 0x7330000109e84 u d := (State.digest_frame ..).mono rfl
      have fe : Frame 0x7330000109e84 u e :=
        Frame.ite (fun _ => fd) fun _ => fd.step (State.postEvent_frame ..) rfl
      have fv : Frame 0x7330000109e84 u v :=
        Frame.ite (fun _ => Frame.refl _ _) fun _ =>
          (fe.step (State.endCount_frame ..) rfl).step (State.outcome_frame ..) rfl
      have fw : Frame 0x7330000109e84 u w :=
        Frame.ite (fun _ => fv.step (State.percMissed_frame _) rfl) fun _ => fv
      exact ((fw.foldl fun _ _ h => h.step (State.canaryLost_frame ..) rfl).job rfl id).trans hu

/-! ### The two commands -/

/-- A job whose activation is `a`. -/
def Job.withAct (a : Act) (j : Job) : Job := { j with act := some a }

theorem Job.withAct_eq (a : Act) : Job.withAct a = fun j => { j with act := some a } := rfl

theorem exec_activationComplete {s : State} {id : Nat} {j : Job} {a : Act} (hj : s.job id = some j)
    (ha : j.act = some a) (hd : a.done = false) (ho : a.overran = false) (hh : a.halt = none)
    (hl : s.levelsDone j = true) (hr : s.jobRuns id = false) : exec (.classCActivationComplete id) s =
      .next (if s.det then s.updJob id (Job.withAct { a with done := true }) else s.publish id) := by
  change execClassCActivationComplete id s = _
  simp [execClassCActivationComplete, hj, ha, hd, ho, hh, hl, hr, Job.withAct_eq]

/-- Before the end of the last slot, or after the end of the activation, the command has no effect. -/
theorem exec_slotEnd_of_over {s : State} {id : Nat} {j : Job} {a : Act} (hj : s.job id = some j)
    (ha : j.act = some a) (h : a.done = true ∨ a.overran = true ∨ s.clk.tick < a.stop) :
    exec (.classCSlotEnd id) s = .next s := by
  change execClassCSlotEnd id s = _
  simp [execClassCSlotEnd, hj, ha, h, or_assoc]

theorem exec_slotEnd_of_incomplete {s : State} {id : Nat} {j : Job} {a : Act} (hj : s.job id = some j)
    (ha : j.act = some a) (hd : a.done = false) (ho : a.overran = false) (ht : a.stop ≤ s.clk.tick) :
    exec (.classCSlotEnd id) s = .next (if s.jobRuns id then s.updJob id (Job.withAct { a with overran := true })
      else (s.updJob id (Job.withAct { a with overran := true })).actEnd id) := by
  change execClassCSlotEnd id s = _
  have runs : ∀ f, (s.updJob id f).jobRuns id = s.jobRuns id := fun _ => rfl
  simp [execClassCSlotEnd, hj, ha, hd, ho, Nat.not_lt.mpr ht, runs, Job.withAct_eq]

/-- Settles O42: each command writes the job's activation at most twice, and what it does besides leaves the jobs
alone. -/
theorem activations : Obligations.Activations := by
  refine ⟨?complete, ?slotEnd, fun s id j a hj ha h => exec_slotEnd_of_over hj ha h⟩
  case complete =>
    intro s id j a hj ha hd ho hh hl hr
    refine ⟨_, exec_activationComplete hj ha hd ho hh hl hr, fun det => ?_, fun free => ?_⟩
    · rw [if_pos det, State.job_updJob hj rfl]
      rfl
    · obtain ⟨j', hj', act, acts, gen⟩ := State.publish_job hj ha
      rw [if_neg (by simp [free]), hj']
      simp [act, acts, gen]
  case slotEnd =>
    intro s id j a hj ha hd ho ht
    have marked := State.job_updJob (f := Job.withAct { a with overran := true }) hj rfl
    refine ⟨_, exec_slotEnd_of_incomplete hj ha hd ho ht, fun runs => ?_, fun rests => ?_⟩
    · rw [if_pos runs, marked]
      rfl
    · rw [if_neg (by simp [rests]), State.actEnd_job marked rfl]
      exact ⟨rfl, rfl⟩

end Sys2Proof.Machine

/-!
The control cycle (01_device_and_tick.md: R26, R27; 13_functional_safety.md: R310, R311): the computation at the
cut-off, the comparison with the checker, and what becomes of a staged command that was not compared.
-/

namespace Sys2Proof.Machine

open Sys2Proof

/-! ### The computation -/

theorem State.ssoUpdate_core (s : State) : s.ssoUpdate.saf.core = s.saf.core := by
  simp only [State.ssoUpdate, State.ssoSet_core]

/-- The state `v` of a window whose computation for tick `n` is done, `cut` being its cut-off. -/
def State.windowComputed (v : State) (cut n : Nat) : State :=
  let w : State := { v with clk := { v.clk with win := .computed, lastCut := cut, prevComp := n } }
  if w.saf.computed then w else ({ w with saf := { w.saf with computed := true } } : State).ssoUpdate

theorem exec_controlComputation {s u : State} (hlive : s.clk.live = true) (hwin : s.clk.win = .collecting)
    (h : s.reach s.cutoff = some u) : exec .controlComputation s =
      .next (((List.range 64).foldl (State.axisStep u.clk.tick) u).windowComputed u.cutoff u.clk.tick) := by
  change execControlComputation s = _
  unfold execControlComputation
  rw [if_neg (by simp [hlive, hwin]), State.atT_some h]
  rfl

theorem State.windowComputed_clk (v : State) (cut n : Nat) :
    (v.windowComputed cut n).clk = { v.clk with win := .computed, lastCut := cut, prevComp := n } := by
  unfold State.windowComputed
  extract_lets w
  split
  · rfl
  · exact (State.ssoUpdate_frame _).clk rfl

theorem State.windowComputed_computed (v : State) (cut n : Nat) : (v.windowComputed cut n).saf.computed = true := by
  unfold State.windowComputed
  extract_lets w
  split
  · assumption
  · rw [← Saf.core_computed, State.ssoUpdate_core]
    rfl

/-! ### Staged commands -/

/-- `t` stages what `s` stages, on every axis. -/
structure SameStaged (s t : State) : Prop where
  staged : ∀ b, (t.ax b).staged = (s.ax b).staged

theorem SameStaged.refl (s : State) : SameStaged s s := ⟨fun _ => rfl⟩

theorem SameStaged.trans {s t u : State} (h : SameStaged s t) (k : SameStaged t u) : SameStaged s u :=
  ⟨fun b => (k.staged b).trans (h.staged b)⟩

theorem SameStaged.of_axes {s t : State} (h : t.axes = s.axes) : SameStaged s t :=
  ⟨fun b => by unfold State.ax; rw [h]⟩

theorem SameStaged.of_frame {m : Nat} {s t : State} (h : Frame m s t) (b : touches m 9 = false) : SameStaged s t :=
  .of_axes (h.axes b)

theorem SameStaged.setAx (s : State) (a : Nat) {x : Axis} (h : x.staged = (s.ax a).staged) :
    SameStaged s (s.setAx a x) := by
  refine ⟨fun b => ?_⟩
  by_cases e : a = b
  · subst e
    rw [State.ax_setAx, h]
  · rw [State.ax_setAx_ne _ _ e]

theorem SameStaged.foldl {α : Type} {f : State → α → State} (hf : ∀ s x, SameStaged s (f s x)) (l : List α)
    (s : State) :
    SameStaged s (l.foldl f s) :=
  foldl_keep (q := SameStaged s) (.refl s) fun t x _ h => h.trans (hf t x)

theorem State.stopAxis_staged (s : State) (a : Nat) : SameStaged s (s.stopAxis a) := by
  unfold State.stopAxis
  split
  · extract_lets x t
    have fT : SameStaged s t := .setAx s a rfl
    exact fT.trans (.of_axes (State.wr_axes ..))
  · exact .refl s

theorem State.stopGroup_staged (s : State) (g : Nat) : SameStaged s (s.stopGroup g) := by
  unfold State.stopGroup
  extract_lets counted saf noted stat driven mask triggered
  have fNoted : SameStaged s noted := .of_axes (State.count_axes s (safA 0x424))
  have fStat : SameStaged s stat := fNoted.trans (.of_axes (State.put_axes ..))
  split
  · exact fNoted
  · exact ((fStat.trans (.of_frame (State.ssoSet_frame ..) rfl)).trans
      (.foldl (fun t c => .of_frame (State.canTrigger_frame t c) rfl) _ driven)).trans
      (.foldl State.stopAxis_staged _ triggered)

theorem State.stopGroups_staged (s : State) (m : Nat) : SameStaged s (s.stopGroups m) :=
  .foldl State.stopGroup_staged _ s

/-- A staged command after a disagreement: held, or stopped where `stop` says so. -/
def StagedCmd.disagreed (stop : Bool) (c : StagedCmd) : StagedCmd :=
  { c with compared := true, hold := !stop, stop := stop }

/-- From `s` to `t`, the staged command of axis `a` alone was held or stopped. -/
def Disagreed (s t : State) (a : Nat) : Prop :=
  ∃ stop, (t.ax a).staged = ((s.ax a).staged).map (StagedCmd.disagreed stop) ∧
    ∀ b ≠ a, (t.ax b).staged = (s.ax b).staged

/-- The staged command of axis `a` is held or stopped. -/
def State.markStaged (s : State) (a : Nat) (stop : Bool) : State :=
  s.setAx a { s.ax a with staged := ((s.ax a).staged).map (StagedCmd.disagreed stop) }

theorem State.markStaged_disagreed (s : State) (a : Nat) (stop : Bool) : Disagreed s (s.markStaged a stop) a := by
  refine ⟨stop, by simp [State.markStaged], fun b hb => ?_⟩
  unfold State.markStaged
  rw [State.ax_setAx_ne _ _ (Ne.symm hb)]

theorem Disagreed.after {r s t : State} {a : Nat} (h : Disagreed s t a) (same : SameStaged r s) : Disagreed r t a := by
  obtain ⟨stop, own, others⟩ := h
  exact ⟨stop, by rw [own, same.staged a], fun b hb => (others b hb).trans (same.staged b)⟩

theorem Disagreed.before {s t u : State} {a : Nat} (h : Disagreed s t a) (same : SameStaged t u) : Disagreed s u a := by
  obtain ⟨stop, own, others⟩ := h
  exact ⟨stop, (same.staged a).trans own, fun b hb => (same.staged b).trans (others b hb)⟩

/-- A disagreement holds or stops the axis's own command and leaves every other one (R310, R311). -/
theorem State.disagreement_staged (s : State) (a n : Nat) : Disagreed s (s.disagreement a n) a := by
  unfold State.disagreement
  extract_lets x mark ev h g counted y cleared
  have fEv : SameStaged s ev := .of_axes (State.event_axes ..)
  split
  · exact s.markStaged_disagreed a false
  · split
    · have fCounted : SameStaged s counted := fEv.trans (.of_axes (State.count_axes ..))
      have fCleared : SameStaged s cleared := fCounted.trans (.setAx counted a rfl)
      have fFault := SameStaged.of_frame ((cleared.markStaged a true).safFault_frame .checkerDisagree a g 0) rfl
      exact ((cleared.markStaged_disagreed a true).after fCleared).before (fFault.trans (State.stopGroups_staged ..))
    · let held := ev.setAx a { ev.ax a with disagree := h }
      have fHeld : SameStaged s held := fEv.trans (.setAx ev a rfl)
      have fFault := SameStaged.of_frame ((held.markStaged a false).safFault_frame .checkerDisagree a 0 0) rfl
      exact ((held.markStaged_disagreed a false).after fHeld).before fFault

theorem Disagreed.staged {s t : State} {a : Nat} (h : Disagreed s t a) {c : StagedCmd} (hc : (s.ax a).staged = some c) :
    ∃ k, (t.ax a).staged = some { c with compared := true, hold := !k, stop := k } := by
  obtain ⟨k, hk, -⟩ := h
  exact ⟨k, by rw [hk, hc]; rfl⟩

/-! ### The deadline -/

/-- GUARD_MISS is flagged. -/
def State.guardMissed (s : State) : Prop := s.flag (timA 0x110) 2 = true

/-- The state in which the missed deadline of axis `a` is flagged, counted and logged. -/
def State.noteGuardMiss (s : State) (a : Nat) : State := (s.event (timA 0x110) 2 (timA 0x118)).outcome 1 0 a 0

theorem State.noteGuardMiss_guardMissed (s : State) (a : Nat) : (s.noteGuardMiss a).guardMissed :=
  (State.flag_congr ((State.outcome_frame ..).blk (timA 0x110) rfl) 2).trans
    (State.flag_event s (by decide) (by decide))

theorem State.noteGuardMiss_staged (s : State) (a : Nat) : SameStaged s (s.noteGuardMiss a) :=
  (SameStaged.of_axes (State.event_axes ..)).trans (.of_frame (State.outcome_frame ..) rfl)

theorem State.disagreement_guardMissed {s : State} (h : s.guardMissed) (a n : Nat) :
    (s.disagreement a n).guardMissed :=
  (State.flag_congr ((State.disagreement_frame ..).blk (timA 0x110) rfl) 2).trans h

theorem State.guardMiss_of_compared {s : State} {a : Nat} {c : StagedCmd} (hs : (s.ax a).staged = some c)
    (hc : c.compared = true) : s.guardMiss a = s := by
  simp [State.guardMiss, hs, hc]

theorem State.guardMiss_of_none {s : State} {a : Nat} (hs : (s.ax a).staged = none) : s.guardMiss a = s := by
  simp [State.guardMiss, hs]

/-- A staged command that was not compared misses its deadline (R27). -/
theorem State.guardMiss_of_uncompared {s : State} {a : Nat} {c : StagedCmd} (hs : (s.ax a).staged = some c)
    (hc : c.compared = false) : (s.guardMiss a).guardMissed ∧ Disagreed s (s.guardMiss a) a := by
  have miss : s.guardMiss a = (s.noteGuardMiss a).disagreement a s.clk.tick := by
    simp [State.guardMiss, State.noteGuardMiss, hs, hc]
  rw [miss]
  exact ⟨State.disagreement_guardMissed (s.noteGuardMiss_guardMissed a) a _,
    (State.disagreement_staged ..).after (s.noteGuardMiss_staged a)⟩

/-- What a missed deadline of axis `a` can do: nothing, or GUARD_MISS and a disagreement. -/
theorem State.guardMiss_cases (s : State) (a : Nat) :
    s.guardMiss a = s ∨ (s.guardMiss a).guardMissed ∧ Disagreed s (s.guardMiss a) a := by
  cases hs : (s.ax a).staged with
  | none => exact .inl (State.guardMiss_of_none hs)
  | some c =>
    cases hc : c.compared with
    | true => exact .inl (State.guardMiss_of_compared hs hc)
    | false => exact .inr (State.guardMiss_of_uncompared hs hc)

/-- In `t`, an axis whose command was staged and not compared in `u` has missed its deadline. -/
def Missed (u t : State) (a : Nat) : Prop :=
  ∀ c, (u.ax a).staged = some c → c.compared = false →
    t.guardMissed ∧ ∃ k, (t.ax a).staged = some (c.disagreed k)

theorem Missed.guardMiss {u t : State} {b : Nat} (h : Missed u t b) (a : Nat) : Missed u (t.guardMiss a) b := by
  intro c hs hc
  obtain ⟨flagged, k, hk⟩ := h c hs hc
  by_cases e : a = b
  · subst e
    rw [State.guardMiss_of_compared hk rfl]
    exact ⟨flagged, k, hk⟩
  · rcases t.guardMiss_cases a with same | ⟨flagged', -, -, others⟩
    · rw [same]
      exact ⟨flagged, k, hk⟩
    · exact ⟨flagged', k, (others b (Ne.symm e)).trans hk⟩

theorem State.guardMiss_staged_ne (t : State) {a b : Nat} (h : b ≠ a) :
    ((t.guardMiss a).ax b).staged = (t.ax b).staged := by
  rcases t.guardMiss_cases a with same | ⟨-, -, -, others⟩
  · rw [same]
  · exact others b h

/-- Every axis stages what it staged in `u`, or has missed its deadline. -/
def MissedOrSame (u t : State) : Prop := ∀ a, (t.ax a).staged = (u.ax a).staged ∨ Missed u t a

theorem MissedOrSame.missed {u t : State} (h : MissedOrSame u t) (a : Nat) : Missed u (t.guardMiss a) a := by
  rcases h a with same | missed
  · intro c hs hc
    obtain ⟨flagged, dis⟩ := State.guardMiss_of_uncompared (same.trans hs) hc
    exact ⟨flagged, dis.staged (same.trans hs)⟩
  · exact missed.guardMiss a

theorem MissedOrSame.guardMiss {u t : State} (h : MissedOrSame u t) (a : Nat) : MissedOrSame u (t.guardMiss a) := by
  intro b
  by_cases e : b = a
  · exact .inr (e ▸ h.missed a)
  · exact (h b).imp (t.guardMiss_staged_ne e).trans (·.guardMiss a)

theorem State.guardMiss_all (u : State) : ∀ a < 64, Missed u ((List.range 64).foldl State.guardMiss u) a := fun a ha =>
  foldl_each (q := MissedOrSame u) (fun _ => .inl rfl) (fun _ x _ h => h.guardMiss x) (fun _ x _ h => h.missed x)
    (fun _ x _ _ _ _ k => k.guardMiss x) a (List.mem_range.mpr ha)

theorem exec_comparisonDeadline {s u : State} (hlive : s.clk.live = true) (hwin : s.clk.win = .computed)
    (h : s.reach (s.clk.nextEdge - 5000) = some u) :
    exec .comparisonDeadline s = .next ((List.range 64).foldl State.guardMiss u) := by
  change execComparisonDeadline s = _
  simp [execComparisonDeadline, hlive, hwin, State.atT_some h]

/-! ### The comparison -/

theorem State.trcFire_staged (s : State) (a n : Nat) (now : F32 × Nat) : SameStaged s (s.trcFire a n now) := by
  unfold State.trcFire
  extract_lets cap x pre keep fired shown
  have fFired : SameStaged s fired := .setAx s a rfl
  have fShown : SameStaged s shown := fFired.trans (.of_axes (by
    unfold shown State.trcShow
    rw [State.put_axes, State.wr_axes, State.put_axes]))
  split
  · exact fShown.trans (.of_axes (State.put_axes ..))
  · exact fShown

theorem State.tracePatch_staged (s : State) (a n : Nat) (u cu : F32) : SameStaged s (s.tracePatch a n u cu) := by
  unfold State.tracePatch
  extract_lets x idx fix patched now
  have fPatched : SameStaged s patched := SameStaged.setAx s a rfl
  split
  · split
    · exact fPatched.trans (State.trcFire_staged ..)
    · exact fPatched.trans (SameStaged.setAx patched a rfl)
  · exact fPatched

/-- A trigger writes only the trace's own registers. -/
theorem State.trcFire_rd (s : State) (a n : Nat) (now : F32 × Nat) {o : Nat} (h : o < 0x20C) :
    (s.trcFire a n now).rd (ctlA a o) = s.rd (ctlA a o) := by
  have stat : ctlA a 0x20C ≠ ctlA a o := by unfold ctlA; omega
  have tick : ctlA a 0x210 ≠ ctlA a o := by unfold ctlA; omega
  unfold State.trcFire
  extract_lets cap x pre keep fired shown
  have hShown : shown.rd (ctlA a o) = s.rd (ctlA a o) := by
    unfold shown State.trcShow
    rw [State.rd_put_ne _ _ _ _ stat, State.rd_wr_ne _ _ tick, State.rd_put_ne _ _ _ _ stat]
    rfl
  split
  · exact (State.rd_put_ne _ _ _ _ stat).trans hShown
  · exact hShown

theorem State.tracePatch_rd (s : State) (a n : Nat) (u cu : F32) {o : Nat} (h : o < 0x20C) :
    (s.tracePatch a n u cu).rd (ctlA a o) = s.rd (ctlA a o) := by
  unfold State.tracePatch
  extract_lets x idx fix patched now
  split
  · split
    · exact State.trcFire_rd patched a n now h
    · rfl
  · rfl

/-- The checker's u disagrees with the command of axis `a`: a NaN, or a difference beyond the threshold (R310). -/
def State.disagrees (s : State) (a : Nat) (u cu : F32) : Bool :=
  fisNan u || fisNan cu || fisNan (fabs (fsub u cu)) || flt (s.fr a 0x70) (fabs (fsub u cu))

theorem exec_checkerComparison {s : State} {a : Nat} {u : F32} {c : StagedCmd} (ha : a < 64)
    (hs : (s.ax a).staged = some c) (hc : c.compared = false) (hwin : s.clk.win = .computed)
    (ht : s.clk.t + 5000 ≤ s.clk.nextEdge) :
    let v := s.tracePatch a s.clk.tick c.u u
    exec (.checkerComparison a u) s = .next (if s.disagrees a c.u u then v.disagreement a v.clk.tick
      else v.setAx a { v.ax a with staged := some { c with compared := true } }) := by
  intro v
  have threshold : v.fr a 0x70 = s.fr a 0x70 := s.tracePatch_rd a _ _ _ (by decide)
  change execCheckerComparison a u s = _
  unfold State.disagrees
  rw [← threshold]
  simp [execCheckerComparison, guardI, ha, hs, hc, hwin, Nat.not_lt.mpr ht, v]

/-- Settles O12: the deadline visits each axis once, and a comparison patches the trace before it marks the command or
disagrees; what each leaves of the staged commands follows step by step. -/
theorem controlCycle : Obligations.ControlCycle := by
  refine ⟨?computation, ?deadline, ?agrees, ?disagrees⟩
  case computation =>
    intro s u hlive hwin h
    refine ⟨_, exec_controlComputation hlive hwin h, ?_⟩
    dsimp only
    rw [State.windowComputed_clk, State.windowComputed_computed]
    exact ⟨rfl, rfl, rfl, rfl⟩
  case deadline =>
    intro s u hlive hwin h
    exact ⟨_, exec_comparisonDeadline hlive hwin h, fun a ha c hs hc => u.guardMiss_all a ha c hs hc⟩
  case agrees =>
    intro s a u c ha hs hc hwin ht nanC nanU nanD within
    have agree : s.disagrees a c.u u = false := by simp [State.disagrees, nanC, nanU, nanD, within]
    have fPatch := s.tracePatch_frame a s.clk.tick c.u u
    refine ⟨_, exec_checkerComparison ha hs hc hwin ht, ?_⟩
    rw [if_neg (by simp [agree])]
    refine ⟨by rw [State.ax_setAx], fPatch.saf rfl, fun o ho => ?_⟩
    exact fPatch.blk _ (by rw [blk_safA o ho]; rfl)
  case disagrees =>
    intro s a u c ha hs hc hwin ht differ
    have disagree : s.disagrees a c.u u = true := by
      rcases differ with h | h | h <;> simp [State.disagrees, h]
    refine ⟨_, exec_checkerComparison ha hs hc hwin ht, ?_⟩
    rw [if_pos disagree]
    exact (State.disagreement_staged ..).staged (((s.tracePatch_staged ..).staged a).trans hs)

end Sys2Proof.Machine

/-!
The package job loss (02_matrix_cores_and_arithmetic.md: R55 to R57; 05_memory_and_berths.md: R116, R118;
06_placement_and_scheduling.md: R167, R168): what a trap leaves, the self-test, the release, and the end of a scrub.
-/

namespace Sys2Proof.Machine

open Sys2Proof

/-! ### MC_MEM_STAT beside the registers that a trap clears -/

theorem mcA_ne_mcA (d k e l : Nat) {o p : Nat} (h : o % 0x10000 ≠ p % 0x10000) : mcA d k o ≠ mcA e l p := by
  unfold mcA
  omega

theorem kvA_ne_mcA (d e l : Nat) {o p : Nat} (h : o % 0x10000 ≠ p % 0x10000) : kvA d o ≠ mcA e l p := by
  unfold kvA mcA
  omega

/-- The berth registers stand above those of the 17 cores in each die's block. -/
theorem berthA_ne_mcA (d e : Nat) {b k o p : Nat} (hb : b < 256) (hk : k < 17) (ho : o < 0x20) (hp : p < 0x10000) :
    berthA d b o ≠ mcA e k p := by
  unfold berthA mcA
  omega

theorem blk_mcA (d k o : Nat) : blk (mcA d k o) = 16 := by
  unfold blk mcA
  rw [if_neg (by omega), if_pos (by omega)]

/-- An operation outside the dies' blocks leaves every core's registers. -/
theorem Frame.rd_mcA {m : Nat} {s t : State} (h : Frame m s t) (b : touches m 56 = false) (d k o : Nat) :
    t.rd (mcA d k o) = s.rd (mcA d k o) :=
  h.blk _ (by rw [blk_mcA]; exact b)

theorem State.busyAdd_rd (s : State) (d k since e l : Nat) :
    (s.busyAdd d k since).rd (mcA e l 0x40) = s.rd (mcA e l 0x40) := by
  have low : mcA d k 0x60 ≠ mcA e l 0x40 := mcA_ne_mcA d k e l (by decide)
  have high : mcA d k 0x60 + 4 ≠ mcA e l 0x40 := by
    unfold mcA
    omega
  unfold State.busyAdd State.wr64
  rw [State.rd_wr_ne _ _ high, State.rd_wr_ne _ _ low]

theorem State.stopCores_rd (s : State) (d k : Nat) : s.stopCores.rd (mcA d k 0x40) = s.rd (mcA d k 0x40) := by
  unfold State.stopCores
  refine foldl_keep (q := fun t => t.rd (mcA d k 0x40) = s.rd (mcA d k 0x40)) rfl fun t e _ same => ?_
  split
  · exact same
  · rw [State.rd_wr_ne _ _ (mcA_ne_mcA _ _ _ _ (by decide)), State.rd_wr_ne _ _ (mcA_ne_mcA _ _ _ _ (by decide)),
      State.busyAdd_rd, same]

theorem State.berthShut_rd (s : State) (d e : Nat) {b k : Nat} (hb : b < 256) (hk : k < 17) :
    (s.berthShut d b).rd (mcA e k 0x40) = s.rd (mcA e k 0x40) := by
  unfold State.berthShut State.berthGranted
  rw [(State.dirtyAdd_frame ..).rd_mcA rfl,
    State.rd_put_ne _ _ _ _ (berthA_ne_mcA d e hb hk (by decide) (by decide)), State.setBerth_rd,
    State.rd_put_ne _ _ _ _ (berthA_ne_mcA d e hb hk (by decide) (by decide))]

theorem State.closeAllBerths_rd (s : State) (d : Nat) {k : Nat} (hk : k < 17) :
    s.closeAllBerths.rd (mcA d k 0x40) = s.rd (mcA d k 0x40) := by
  refine foldl_keep (q := fun t => t.rd (mcA d k 0x40) = s.rd (mcA d k 0x40)) rfl fun t e _ same => ?_
  split
  · exact same
  · exact (t.berthShut_rd _ d (Nat.mod_lt _ (by decide)) hk).trans same

theorem State.kvClear_rd (s : State) (d k : Nat) : s.kvClear.rd (mcA d k 0x40) = s.rd (mcA d k 0x40) := by
  unfold State.kvClear
  refine foldl_keep (q := fun t => t.rd (mcA d k 0x40) = s.rd (mcA d k 0x40)) rfl fun t e _ same => ?_
  rw [State.setKvDie_rd, State.rd_wr_ne _ _ (kvA_ne_mcA _ _ _ (by decide)),
    State.rd_wr_ne _ _ (kvA_ne_mcA _ _ _ (by decide)), State.rd_wr_ne _ _ (kvA_ne_mcA _ _ _ (by decide)),
    (State.dirtyAdd_frame ..).rd_mcA rfl, (State.zeroRegion_frame ..).rd_mcA rfl, same]

/-! ### The loss's flag beside the registers that a trap writes -/

theorem State.slogPush_rd (s : State) (x : LogRec) {a : Nat} (h : a < 0x308) : (s.slogPush x).rd a = s.rd a := by
  unfold State.slogPush State.wr64
  rw [State.rd_wr_ne _ _ (by omega), State.rd_wr_ne _ _ (by omega)]
  rfl

/-- The shift log writes only its own registers. -/
theorem State.slogAdd_rd (s : State) (type flags source stamp uncert : Nat) (payload : Bytes) {a : Nat}
    (h : a < 0x308) : (s.slogAdd type flags source stamp uncert payload).rd a = s.rd a := by
  unfold State.slogAdd
  extract_lets
  split
  · split
    · rw [State.slogPush_rd _ _ h]
      split
      · rw [State.rd_event_ne _ _ (by omega) (by omega)]
        rfl
      · rfl
    · split
      · split
        · rfl
        · exact s.slogPush_rd _ h
      · split
        · rw [State.rd_put_ne _ _ _ _ (by omega), State.rd_put_ne _ _ _ _ (by omega), State.slogPush_rd _ _ h]
        · rfl
  · rfl

theorem State.cycStop_rd (s : State) {a : Nat} (h : 0x23C ≤ a) : s.cycStop.rd a = s.rd a := by
  unfold State.cycStop
  extract_lets was off noted cleared
  have fOff : off.rd a = s.rd a := by
    unfold off
    rw [State.rd_put_ne _ _ _ _ (by omega), State.rd_put_ne _ _ _ _ (by omega)]
  have fNoted : noted.rd a = s.rd a := by
    unfold noted
    split
    · rw [State.rd_put_ne _ _ _ _ (by omega), fOff]
    · exact fOff
  refine foldl_keep (q := fun t => t.rd a = s.rd a) fNoted fun t d hd same => ?_
  have below : glbA (0x220 + 4 * d) ≠ a := by
    have := List.mem_range.mp hd
    unfold glbA
    omega
  rw [State.rd_wr_ne _ _ below, same]

/-! ### Stopped cores -/

/-- A core whose tile was stopped mid-way. -/
def Core.stopped (x : Core) : Core := { x with tile := none, last := none, banks := [] }

theorem tget_map {α β : Type} (f : α → β) (d : α) (t : Tbl α) (k : Nat) :
    tget (f d) (t.map fun e => (e.1, f e.2)) k = f (tget d t k) := by
  induction t with
  | nil => rfl
  | cons e t ih =>
    obtain ⟨j, v⟩ := e
    simp only [List.map_cons, tget]
    split
    · rfl
    · exact ih

theorem State.stopCores_core (s : State) (d k : Nat) : s.stopCores.core d k = (s.core d k).stopped := by
  unfold State.stopCores
  extract_lets counted
  have cores : counted.comp.cores = s.comp.cores := by
    refine foldl_keep (q := fun t => t.comp.cores = s.comp.cores) rfl fun t e _ same => ?_
    split
    · exact same
    · rw [State.wr_comp, State.wr_comp, (State.busyAdd_frame ..).cores rfl, same]
  change tget Core.init (counted.comp.cores.map fun e => (e.1, e.2.stopped)) _ = _
  rw [cores]
  exact tget_map Core.stopped Core.init ..

theorem Frame.core {m : Nat} {s t : State} (h : Frame m s t) (b : touches m 24 = false) (d k : Nat) :
    t.core d k = s.core d k := by
  unfold State.core
  rw [h.cores b]

/-! ### The trap -/

/-- The loss is flagged, counted, logged and captured. -/
def State.noteLoss (s : State) : State :=
  let u := (s.event 0x244 2 0x254).slogNow 0x0C 0 [0]
  u.capture u.jobs .packageJobLoss

/-- The package at the trap: the loss is noted, and cores, berths and the cyclic table stop. -/
def State.trap (s : State) : State := s.noteLoss.stopCores.closeAllBerths.cycStop

/-- What the quay die does about every lost job. -/
def State.loseJobs (s : State) : State :=
  s.jobs.foldl State.jobLost (s.dirtyAdd ((s.jobs.flatMap s.jobRegions).filter fun r => decide (r.base < dramTop)))

/-- The jobs are lost, and every sequence ends. -/
def State.endLost (s : State) : State := s.loseJobs.kvClear

theorem State.packageLoss_eq (s : State) : s.packageLoss =
    { s.trap.endLost with
      jobs := [], loss := some s.trap.endLost.clk.ref, comp := { s.trap.endLost.comp with lost := s.trap.jobs } } :=
  rfl

theorem State.noteLoss_frame (s : State) : Frame 0x4010000109000 s s.noteLoss :=
  ((State.event_frame rfl rfl rfl s 2).step (State.slogNow_frame ..) rfl).step (State.capture_frame ..) rfl

theorem State.trap_frame (s : State) : Frame 0x10401040f109000 s s.trap :=
  (((s.noteLoss_frame.mono rfl).step (State.stopCores_frame _) rfl).step (State.closeAllBerths_frame _) rfl).step
    (State.cycStop_frame _) rfl

theorem State.loseJobs_frame (s : State) : Frame 0x73809c8108e0c s s.loseJobs :=
  Frame.foldl ((State.dirtyAdd_frame ..).mono rfl) fun _ _ h => h.step (State.jobLost_frame ..) rfl

theorem State.endLost_frame (s : State) : Frame 0x1073809f8308e0c s s.endLost :=
  (s.loseJobs_frame.mono rfl).step (State.kvClear_frame _) rfl

theorem State.trap_core (s : State) (d k : Nat) : s.trap.core d k = (s.core d k).stopped := by
  unfold State.trap
  rw [(State.cycStop_frame _).core rfl, (State.closeAllBerths_frame _).core rfl, State.stopCores_core,
    s.noteLoss_frame.core rfl]

theorem State.trap_flag (s : State) : s.trap.flag 0x244 2 = true := by
  have flagged := s.flag_event (a := 0x244) (c := 0x254) (i := 2) (by decide) (by decide)
  rw [← State.flag_congr (State.slogAdd_rd _ 0x0C 0 0 _ 0 [0] (by decide)) 2] at flagged
  unfold State.trap State.noteLoss
  rw [State.flag_congr (State.cycStop_rd _ (by decide)), State.flag_congr ((State.closeAllBerths_frame _).blk _ rfl),
    State.flag_congr ((State.stopCores_frame _).blk _ rfl), State.flag_congr ((State.capture_frame ..).blk _ rfl)]
  exact flagged

theorem State.trap_rd (s : State) (d : Nat) {k : Nat} (hk : k < 17) :
    s.trap.rd (mcA d k 0x40) = s.rd (mcA d k 0x40) := by
  have above : 0x23C ≤ mcA d k 0x40 := by
    unfold mcA
    omega
  unfold State.trap
  rw [State.cycStop_rd _ above, State.closeAllBerths_rd _ d hk, State.stopCores_rd,
    s.noteLoss_frame.rd_mcA rfl]

theorem State.endLost_rd (s : State) (d k : Nat) : s.endLost.rd (mcA d k 0x40) = s.rd (mcA d k 0x40) :=
  (s.loseJobs.kvClear_rd d k).trans (s.loseJobs_frame.rd_mcA rfl ..)

/-! ### What a package job loss leaves -/

/-- In `t`, every job of `s` is lost, since now. -/
def AllLost (s t : State) : Prop :=
  t.loss = some s.clk.ref ∧ t.jobs = [] ∧ t.comp.lost = s.jobs ∧ t.flag 0x244 2 = true ∧
    ∀ d k, (t.core d k).tile = none

theorem State.packageLoss_core (s : State) (d k : Nat) : s.packageLoss.core d k = (s.core d k).stopped :=
  (s.trap.endLost_frame.core rfl d k).trans (s.trap_core d k)

theorem State.packageLoss_rd (s : State) (d : Nat) {k : Nat} (hk : k < 17) :
    s.packageLoss.rd (mcA d k 0x40) = s.rd (mcA d k 0x40) :=
  (s.trap.endLost_rd d k).trans (s.trap_rd d hk)

theorem State.packageLoss_allLost (s : State) : AllLost s s.packageLoss := by
  have clk : s.trap.endLost.clk = s.clk := (s.trap.endLost_frame.clk rfl).trans (s.trap_frame.clk rfl)
  have flagged : s.trap.endLost.flag 0x244 2 = true :=
    (State.flag_congr (s.trap.endLost_frame.blk _ rfl) 2).trans s.trap_flag
  refine ⟨?loss, rfl, s.trap_frame.jobs rfl, flagged, fun d k => ?idle⟩
  case loss =>
    rw [State.packageLoss_eq, clk]
  case idle =>
    rw [State.packageLoss_core]
    rfl

/-- An operation before the loss that keeps the clock and the jobs. -/
theorem AllLost.after {m : Nat} {s u t : State} (h : AllLost u t) (f : Frame m s u) (h4 : touches m 4 = false)
    (h16 : touches m 16 = false) : AllLost s t := by
  unfold AllLost
  rw [← f.clk h4, ← f.jobs h16]
  exact h

/-! ### A job fault -/

/-- The counters taken up to now, and the fault's status and place shown, before the loss. -/
theorem State.jobFault_eq (s : State) (d k : Nat) (st : Status) : ∃ u, s.jobFault d k st = u.packageLoss ∧
    Frame 0x2010800100008 s u :=
  ⟨_, rfl, (s.tlySyncAll_frame.mono rfl).trans (State.wr_frame rfl rfl ..)⟩

theorem State.jobFault_allLost (s : State) (d k : Nat) (st : Status) : AllLost s (s.jobFault d k st) := by
  obtain ⟨u, hu, f⟩ := s.jobFault_eq d k st
  rw [hu]
  exact u.packageLoss_allLost.after f rfl rfl

theorem State.jobFault_core (s : State) (d k : Nat) (st : Status) (e l : Nat) :
    (s.jobFault d k st).core e l = (s.core e l).stopped := by
  obtain ⟨u, hu, f⟩ := s.jobFault_eq d k st
  rw [hu, State.packageLoss_core, f.core rfl]

theorem State.jobFault_flag (s : State) (d k : Nat) (st : Status) (e : Nat) {l : Nat} (hl : l < 17) (i : Nat) :
    (s.jobFault d k st).flag (mcA e l 0x40) i = s.flag (mcA e l 0x40) i := by
  obtain ⟨u, hu, f⟩ := s.jobFault_eq d k st
  rw [hu, State.flag_congr (u.packageLoss_rd e hl), State.flag_congr (f.rd_mcA rfl ..)]

/-- A memory fault sets its flag of MC_MEM_STAT (R108, R114). -/
theorem State.memFault_flag (s : State) (d k : Nat) {i : Nat} (lo : Nat) (st : Status) (chan cls addr : Nat)
    (hi : i < 32) : (s.memFault d k i lo st chan cls addr).flag (mcA d k 0x40) i = true := by
  have beside {o : Nat} (h : o % 0x10000 ≠ 0x40) : mcA d k o ≠ mcA d k 0x40 := mcA_ne_mcA d k d k h
  have raised := s.flag_raise_self (mcA d k 0x40) hi
  unfold State.memFault
  extract_lets t
  have flagged : t.flag (mcA d k 0x40) i = true :=
    (State.flag_congr (State.rd_put_ne _ _ _ _ (beside (by decide))) i).trans raised
  split
  · refine (State.flag_congr ?_ i).trans flagged
    unfold State.memLatch
    rw [State.bump_rd, State.bump_rd, State.rd_wr_ne _ _ (beside (by decide)), State.rd_wr_ne _ _ (beside (by decide)),
      State.rd_wr_ne _ _ (beside (by decide))]
  · exact flagged

/-! ### The commands that lose every job -/

/-- The bit of MC_FAULT_STAT that a check of Table 02-8 sets. -/
def faultBit : CoreCheck → Nat
  | .weight => 0
  | .acc => 1
  | .vector => 2

section Trapping

variable {s : State} {d k : Nat} (hd : d < 7) (hk : k < 17) (hr : s.running d k = true)

include hd hk hr

theorem exec_coreFault (kind : CoreCheck) : ∃ u, Frame 0x100000000100000 s u ∧ exec (.coreFault d k kind) s =
    .next ((u.setCore d k { u.core d k with trapped := true }).jobFault d k .coreFault) := by
  refine ⟨(s.raise (mcA d k 8) (faultBit kind)).count8 (mcA d k 0xC) (8 * faultBit kind),
    (State.raise_frame rfl (tb_mcA rfl) ..).trans (State.count8_frame rfl (tb_mcA rfl) ..), ?_⟩
  change execCoreFault d k kind s = _
  unfold execCoreFault
  rw [guardI_true (by simp [hd, hk]), if_neg (by simp [hr])]
  cases kind <;> rfl

theorem exec_bankConflict {a cls : Nat} (h1 : 1 ≤ cls) (h3 : cls ≤ 3)
    (foreign : ∀ b, spadBank k a = some b → s.bankOwner d k b ≠ cls) : exec (.bankConflict d k a cls) s =
    .next ((s.memFault d k 0 0 .bankConflict 0 cls a).jobFault d k .bankConflict) := by
  change execBankConflict d k a cls s = _
  have cls0 : cls ≠ 0 := by omega
  cases hb : spadBank k a with
  | none => simp [execBankConflict, guardI, hd, hk, hr, hb, cls0, Nat.not_lt.mpr h3]
  | some b => simp [execBankConflict, guardI, hd, hk, hr, hb, cls0, Nat.not_lt.mpr h3, foreign b hb]

theorem exec_eccUncorrectable {a b : Nat} (hb : spadBank k a = some b)
    (read : s.bankOwner d k b = 1 ∨ s.bankOwner d k b = 2) : exec (.eccUncorrectable d k a) s =
    .next ((s.memFault d k 1 8 .eccUncorrectable 0 (s.bankOwner d k b) a).jobFault d k .eccUncorrectable) := by
  change execEccUncorrectable d k a s = _
  rcases read with h | h <;> simp [execEccUncorrectable, guardI, hd, hk, hr, hb, h]

theorem exec_kvWalkFault (w : Option Nat) : ∃ u, Frame 0x100000000100000 s u ∧ exec (.kvWalkFault d ⟨k, w⟩) s =
    .next (u.jobFault d k .kvWalkFault) := by
  change ∃ u, _ ∧ execKvWalkFault d ⟨k, w⟩ s = _
  cases w with
  | none => exact ⟨s, .refl _ s, by simp [execKvWalkFault, guardI, hd, hk, hr]⟩
  | some a => exact ⟨s.eccFail d a 1, State.eccFail_frame .., by simp [execKvWalkFault, guardI, hd, hk, hr]⟩

end Trapping

/-! ### The self-test -/

/-- A core after its self-test: its failures add up, and its trap is over (R56, R57). -/
def Core.tested (x : Core) (t : SelfTest) : Core :=
  { x with
    failed := (List.range 66).filter fun c => x.failed.contains c || t.cols.contains c
    unitFailed := x.unitFailed || t.unitFail
    trapped := false }

theorem State.selfTest_core (s : State) (t : SelfTest) (after : Bool) :
    (s.selfTest t after).core t.die t.core = (s.core t.die t.core).tested t := by
  unfold State.selfTest
  extract_lets x all y u v r
  have fv : v.core t.die t.core = u.core t.die t.core := by
    unfold v
    split
    · rfl
    · exact ((State.raise_frame rfl (tb_mcA rfl) ..).trans (State.count8_frame rfl (tb_mcA rfl) ..) :
        Frame 0x100000000100000 u _).core rfl ..
  have fAll : Frame 0x100000000100000 v ((v.wr (mcA t.die t.core 0x10) (BitVec.ofNat 32 r)).wr (mcA t.die t.core 4)
      (BitVec.ofNat 32 y.colMap)) :=
    (State.wr_frame rfl (tb_mcA rfl) ..).trans (State.wr_frame rfl (tb_mcA rfl) ..)
  rw [fAll.core rfl, fv]
  exact s.core_setCore ..

theorem Core.mem_tested_failed (x : Core) {t : SelfTest} {c : Nat} (hc : c ∈ t.cols) (h : c < 66) :
    c ∈ (x.tested t).failed := by
  simp [Core.tested, h, hc]

theorem exec_selftestDone {s : State} {x : SelfTest} (hd : x.die < 7) (hk : x.core < 17) (hl : s.loss.isSome = true)
    (ht : (s.core x.die x.core).trapped = true) :
    exec (.selftestDone x) s = .next ((s.selfTest x true).coreMap x.die) := by
  change execSelftestDone x s = _
  simp [execSelftestDone, guardI, hd, hk, hl, ht]

/-! ### The release -/

theorem tget_filter_of_dropped {α : Type} {d : α} {t : Tbl α} {k : Nat} (p : Nat × α → Bool)
    (hk : ∀ v, p (k, v) = false) : tget d (t.filter p) k = d := by
  induction t with
  | nil => rfl
  | cons e t ih =>
    obtain ⟨i, v⟩ := e
    cases hp : p (i, v) with
    | false => simpa [List.filter, hp] using ih
    | true =>
      have hi : i ≠ k := fun e => by rw [e, hk] at hp; cases hp
      simpa [List.filter, hp, tget, hi] using ih

/-- Every byte of a die's SRAM is zero (Table 06-11). -/
def State.sramZero (s : State) (d : Nat) : Prop := ∀ a, dramTop ≤ a → s.rdByte d a = 0

theorem State.zeroSram_sramZero (s : State) (d : Nat) : (s.zeroSram d).sramZero d := by
  intro a ha
  unfold State.rdByte State.zeroSram
  rw [State.mem_setMem, tget_filter_of_dropped _ fun _ => decide_eq_false (Nat.not_lt.mpr ha)]
  rfl

theorem State.sramZero.zeroSram {s : State} {e : Nat} (h : s.sramZero e) (d : Nat) : (s.zeroSram d).sramZero e := by
  by_cases hd : d = e
  · exact hd ▸ s.zeroSram_sramZero d
  · have mem : (s.zeroSram d).mem e = s.mem e := tget_tset_ne _ _ _ hd
    intro a ha
    unfold State.rdByte
    rw [mem]
    exact h a ha

theorem State.sramZero.frame {m : Nat} {s t : State} {d : Nat} (h : s.sramZero d) (f : Frame m s t)
    (b : touches m 21 = false) : t.sramZero d := by
  unfold State.sramZero State.rdByte State.mem at *
  rwa [f.mems b]

theorem State.zeroSrams_sramZero (s : State) (l : List Nat) : ∀ d ∈ l, (l.foldl State.zeroSram s).sramZero d :=
  foldl_each (q := fun _ => True) trivial (fun _ _ _ _ => trivial) (fun t d _ _ => t.zeroSram_sramZero d)
    fun _ d _ _ _ _ h => h.zeroSram d

/-- Only regions of DRAM still wait for zeroing. -/
def State.sramClean (s : State) : State :=
  { s with comp := { s.comp with dirty := s.comp.dirty.filter fun x => decide (x.base < dramTop) } }

theorem State.sramClean_frame (s : State) : Frame 0x8000000 s s.sramClean := by
  have waiting : touches 0x8000000 27 = true := rfl
  apply Frame.upd (Frame.refl _ s) <;> simp [waiting]

/-- The loss that began at reference time `r` is over, and its length shown (R168). -/
def State.endLoss (s : State) (r : Nat) : State :=
  { s.wr 0x268 (BitVec.ofNat 32 ((s.clk.ref - r) / 1000)) with loss := none, comp := { s.comp with lost := [] } }

theorem exec_lossDiesReleased {s : State} {r : Nat} (hl : s.loss = some r)
    (tested : s.comp.cores.any (fun e => e.2.trapped) = false) :
    ∃ v, Frame 0x603000810908c (s.inService.foldl State.zeroSram s) v ∧
      exec .lossDiesReleased s = .next (v.endLoss r).tlySyncAll := by
  have fEntries (u : State) :
      Frame 0x603000810908c u ((lostOrder u.sramClean.comp.lost).foldl State.lostEntry u.sramClean) :=
    Frame.foldl (u.sramClean_frame.mono rfl) fun _ _ h => h.step (State.lostEntry_frame ..) rfl
  refine ⟨_, fEntries _, ?_⟩
  change execLossDiesReleased s = _
  simp only [execLossDiesReleased, hl, tested]
  rfl

/-! ### The end of a scrub -/

theorem State.complete_desc (s : State) (r n : Nat) (st : Status) : (s.complete r n st).desc r n = none := by
  cases h : s.desc r n with
  | none => simp [State.complete, State.completeAt, h]
  | some d =>
    obtain rfl : d.num = n := State.desc_num h
    exact (State.completeAt_completed st 0 0 s.now32 h rfl rfl rfl).gone

/-- A scrub ends with what it found, and its descriptor, where it is still in flight, completes (R119, R120). -/
theorem exec_scrubDone {s : State} {r : Nat} {x : Scrub} (corr : Nat) (bad : List Nat) (hr : r < 8192)
    (hl : s.loss = none) (hx : s.comp.scrubs.find? (fun x => x.ring == r) = some x) :
    ∃ u t, exec (.scrubDone r corr bad) s = .next t ∧ u.comp.scrubs = s.comp.scrubs.filter (fun y => y != x) ∧
    (t = u ∧ u.desc r x.num = none ∨ ∃ a b, t = (u.hostData a b).complete r x.num .success) := by
  let n := min corr (x.words - (x.hits bad).length)
  let v : State := { s with comp := { s.comp with scrubs := s.comp.scrubs.filter fun y => y != x } }
  let u := v.scrubFound x n (x.hits bad)
  have scrubs : u.comp.scrubs = s.comp.scrubs.filter (fun y => y != x) :=
    (v.scrubFound_frame x n (x.hits bad)).scrubs rfl
  have run : exec (.scrubDone r corr bad) s = .next (match u.desc r x.num with
      | none => u
      | some d => (u.hostData (le d.bytes 24 8) (scrubSummary x.words n (x.hits bad))).complete r x.num .success) := by
    change execScrubDone r corr bad s = _
    unfold execScrubDone
    rw [guardI_true (decide_eq_true hr)]
    split
    case h_1 x' hx' _ =>
      obtain rfl : x = x' := Option.some.inj (hx.symm.trans hx')
      rfl
    case h_2 other => exact absurd hl (other x hx)
  cases hd : u.desc r x.num with
  | none => exact ⟨u, u, by rw [run, hd], scrubs, .inl ⟨rfl, hd⟩⟩
  | some d => exact ⟨u, _, by rw [run, hd], scrubs, .inr ⟨_, _, rfl⟩⟩

/-- Settles O49: each fault ends in `packageLoss`, whose trap stops every core and whose later parts touch neither a
core nor the loss's flag; release and scrub are read off their own steps. -/
theorem packageJobLoss : Obligations.PackageJobLoss := by
  refine ⟨?coreFault, ?bankConflict, ?ecc, ?walk, ?selfTest, ?release, ?scrub⟩
  case coreFault =>
    intro s d k kind hd hk hr
    obtain ⟨u, fu, run⟩ := exec_coreFault hd hk hr kind
    refine ⟨_, run, (State.jobFault_allLost ..).after ((fu.mono rfl).step (State.setCore_frame ..) rfl :
      Frame 0x100000001100000 s _) rfl rfl, ?_⟩
    rw [State.jobFault_core, State.core_setCore]
    rfl
  case bankConflict =>
    intro s d k a cls hd hk hr h1 h3 foreign
    refine ⟨_, exec_bankConflict hd hk hr h1 h3 foreign,
      (State.jobFault_allLost ..).after (State.memFault_frame ..) rfl rfl, ?_⟩
    rw [State.jobFault_flag _ _ _ _ _ hk, State.memFault_flag _ _ _ _ _ _ _ _ (by decide)]
  case ecc =>
    intro s d k a b hd hk hr hb read
    refine ⟨_, exec_eccUncorrectable hd hk hr hb read,
      (State.jobFault_allLost ..).after (State.memFault_frame ..) rfl rfl, ?_⟩
    rw [State.jobFault_flag _ _ _ _ _ hk, State.memFault_flag _ _ _ _ _ _ _ _ (by decide)]
  case walk =>
    intro s d k hd hk hr w
    obtain ⟨u, fu, run⟩ := exec_kvWalkFault hd hk hr w
    exact ⟨_, run, (State.jobFault_allLost ..).after fu rfl rfl⟩
  case selfTest =>
    intro s x hd hk hl ht
    have core := ((State.coreMap_frame (s.selfTest x true) x.die).core rfl x.die x.core).trans (s.selfTest_core x true)
    refine ⟨_, exec_selftestDone hd hk hl ht, ?_⟩
    dsimp only
    rw [core]
    exact ⟨rfl, fun c hc h => Core.mem_tested_failed _ hc h,
      ((State.coreMap_frame ..).loss rfl).trans ((State.selfTest_frame ..).loss rfl)⟩
  case release =>
    intro s r hl tested
    obtain ⟨v, fv, run⟩ := exec_lossDiesReleased hl tested
    have fu : Frame 0x200000 s (s.inService.foldl State.zeroSram s) :=
      Frame.foldl (.refl _ s) fun _ _ h => h.trans (State.zeroSram_frame ..)
    have clk : v.clk = s.clk := (fv.clk rfl).trans (fu.clk rfl)
    refine ⟨_, run, (State.tlySyncAll_frame _).loss rfl, (State.tlySyncAll_frame _).lost rfl, ?length,
      fun d hd => ?zero⟩
    case length =>
      rw [(State.tlySyncAll_frame _).blk _ rfl, ← clk]
      exact State.rd_wr_self ..
    case zero =>
      have zeroed : v.sramZero d := (s.zeroSrams_sramZero s.inService d hd).frame fv rfl
      exact State.sramZero.frame (s := v.endLoss r) zeroed (State.tlySyncAll_frame _) rfl
  case scrub =>
    intro s r corr bad x hr hl hx
    obtain ⟨u, t, run, scrubs, ends⟩ := exec_scrubDone corr bad hr hl hx
    have gone : x ∉ u.comp.scrubs := by simp [scrubs]
    refine ⟨t, run, ?_⟩
    rcases ends with ⟨rfl, unread⟩ | ⟨a, b, rfl⟩
    · exact ⟨gone, unread⟩
    · refine ⟨?_, State.complete_desc ..⟩
      rwa [(State.complete_frame ..).scrubs rfl, (State.hostData_frame ..).scrubs rfl]

end Sys2Proof.Machine

/-!
The end of a job (06_placement_and_scheduling.md: R165, R167; 08_ralostair_fabric.md: R212): what it takes from the job
table, and that neither it nor a packet sent touches the counts of heartbeats.
-/

namespace Sys2Proof.Machine

open Sys2Proof

/-! ### Heartbeat counts -/

/-- The ticks without a heartbeat of the lead, and of each member. -/
def State.beats (s : State) : Nat × Tbl Nat := (s.comp.fab.leadTicks, s.comp.fab.member)

/-- An operation outside the fabric's counts leaves the heartbeat counts. -/
theorem Frame.beats {m : Nat} {s t : State} (h : Frame m s t) (b : touches m 31 = false) : t.beats = s.beats := by
  unfold State.beats
  rw [h.fab b]

/-- Sending moves the turn of the links alone (R206). -/
theorem State.sendBytes_beats {s t : State} {dst vc : Nat} {b : Bytes} {o : Option (Nat × Nat × Nat)}
    (h : s.sendBytes dst vc b o = some t) : t.beats = s.beats := by
  unfold State.sendBytes at h
  split at h
  · cases h
    rfl
  · obtain ⟨x, -, rfl⟩ := Option.map_eq_some_iff.mp h
    exact (State.linkQueue_frame ..).beats rfl

theorem State.sendPkt_beats {n : Nat} {p : FabPkt} {s t : State} (h : State.sendPkt p n s = some t) :
    t.beats = s.beats := by
  induction n generalizing p s with
  | zero =>
    cases h
    rfl
  | succ n ih =>
    unfold State.sendPkt at h
    split at h
    · exact State.sendBytes_beats h
    · obtain ⟨u, first, rest⟩ := Option.bind_eq_some_iff.mp h
      exact (ih rest).trans (State.sendBytes_beats first)

theorem State.sendTo_beats (s : State) (p : FabPkt) : (s.sendTo p).beats = s.beats := by
  unfold State.sendTo
  cases sent : State.sendPkt p (p.payload.length / 512 + 1) s with
  | none => rfl
  | some t => exact State.sendPkt_beats sent

theorem State.sendDone_beats (s : State) (j : Job) : (s.sendDone j).beats = s.beats := by
  unfold State.sendDone
  split
  · exact s.sendTo_beats _
  · rfl

theorem State.tellPeers_beats (s : State) (j : Job) (st : Status) : (s.tellPeers j st).beats = s.beats := by
  unfold State.tellPeers
  split
  · rfl
  · exact foldl_keep (q := fun t => t.beats = s.beats) rfl fun t _ _ h => (t.sendTo_beats _).trans h

theorem State.refuseCredit_beats (s : State) (d b gen : Nat) (c : Credit) (st : Status) :
    (s.refuseCredit d b gen c st).beats = s.beats := by
  unfold State.refuseCredit
  extract_lets t
  have counted : Frame 0x100000000100000 s t :=
    Frame.ite (fun _ => State.event_frame rfl (tb_bthA rfl) (tb_bthA rfl) ..) fun _ =>
      Frame.ite (fun _ => State.event_frame rfl (tb_bthA rfl) (tb_bthA rfl) ..) fun _ =>
        Frame.ite (fun _ => State.event_frame rfl (tb_bthA rfl) (tb_bthA rfl) ..) fun _ => .refl _ _
  exact (t.sendTo_beats _).trans (counted.beats rfl)

theorem State.berthClose_beats (s : State) (d b : Nat) : (s.berthClose d b).beats = s.beats := by
  unfold State.berthClose
  split
  · extract_lets x gen t u
    have marked : Frame 0x100000004100000 s t :=
      (State.put_frame rfl (tb_berthA rfl) ..).step (State.setBerth_frame ..) rfl
    have refused : u.beats = s.beats :=
      foldl_keep (q := fun v => v.beats = s.beats) (marked.beats rfl) fun v c _ h => (v.refuseCredit_beats ..).trans h
    exact ((u.berthDrained_frame ..).beats rfl).trans refused
  · rfl

theorem State.closeBerths_beats (s : State) (job : Nat) (atOnce : Bool) :
    (s.closeBerths job atOnce).beats = s.beats := by
  refine foldl_keep (q := fun t => t.beats = s.beats) rfl fun t e _ h => ?_
  dsimp only
  split_ifs
  · exact h
  · exact ((t.berthShut_frame ..).beats rfl).trans h
  · exact (t.berthClose_beats ..).trans h

/-! ### The end of a job -/

/-- A job's regions, berths and cores are freed, then the job leaves the table, then its dies and streams. -/
theorem State.jobFree_eq (s : State) (j : Job) (st : Status) : ∃ u : State, u.beats = s.beats ∧ u.jobs = s.jobs ∧
    Frame 0x102080928100008 (u.setJobs (u.jobs.filter fun k => k.id != j.id)) (s.jobFree j st) := by
  unfold State.jobFree
  extract_lets t u _ v w x
  have closed : u.jobs = t.jobs := (State.closeBerths_frame ..).jobs rfl
  refine ⟨v, t.closeBerths_beats .., closed, Frame.foldl (Frame.foldl (Frame.refl _ _) ?dies) ?streams⟩
  case dies => exact fun _ _ h => h.step (State.kvIdle_frame ..) rfl
  case streams => exact fun _ _ h => h.step (State.unbindStream_frame ..) rfl

/-- A job ends: its records go out, it is freed, and its completion is last (R324). -/
theorem State.jobEnd_eq {s : State} {id : Nat} {j : Job} (hj : s.job id = some j) (st : Status) :
    ∃ u, u.beats = s.beats ∧ Frame 0x61308c010920c s u ∧ Frame 0x6030000109084 (u.jobFree j st) (s.jobEnd id st) := by
  unfold State.jobEnd
  split
  case h_1 h => simp [hj] at h
  case h_2 j₀ h =>
    obtain rfl : j = j₀ := Option.some.inj (hj.symm.trans h)
    extract_lets ok captured written segs statused records told counted noted u _ entered
    have out : Frame 0x4030000109004 s records := by
      have fc : Frame 0x4030000109004 s captured :=
        Frame.ite (fun _ => .refl _ _) fun _ => (State.capture_frame ..).mono rfl
      have fw : Frame 0x4030000109004 s written :=
        Frame.ite (fun _ => (fc.step (State.hostOutputs_frame ..) rfl).step (State.tensorDigests_frame ..) rfl)
          fun _ => fc
      have fs : Frame 0x4030000109004 s segs :=
        Frame.ite (fun _ => fw.step (State.digest_frame ..) rfl) fun _ => fw
      have ft : Frame 0x4030000109004 s statused :=
        Frame.ite (fun _ => fs.step (State.statusOut_frame ..) rfl) fun _ => fs
      exact Frame.ite (fun _ => ft) fun _ => ft.step (State.statsOut_frame ..) rfl
    have sent : Frame 0x20008c010000c records told ∧ told.beats = records.beats := by
      by_cases h : ok = true
      · rw [show told = records.sendDone j from if_pos h]
        exact ⟨State.sendDone_frame .., records.sendDone_beats j⟩
      · rw [show told = records from if_neg h]
        exact ⟨.refl _ _, rfl⟩
    have done : Frame 0x110000101200 told u := by
      have fe : Frame 0x110000101200 told counted := (State.endCount_frame ..).mono rfl
      have fn : Frame 0x110000101200 told noted := Frame.ite (fun _ => fe.step (State.outcome_frame ..) rfl) fun _ => fe
      exact Frame.ite (fun _ => fn.foldl fun _ _ h => h.step (State.axisLost_frame ..) rfl) fun _ => fn
    refine ⟨u, (done.beats rfl).trans (sent.2.trans (out.beats rfl)),
      (((out.mono rfl).step sent.1 rfl).step done rfl), ?_⟩
    exact Frame.foldl (State.jobEntry_frame ..) fun _ _ h => h.step (State.complete_frame ..) rfl

theorem State.jobEnd_beats (s : State) (id : Nat) (st : Status) : (s.jobEnd id st).beats = s.beats := by
  cases hj : s.job id with
  | none =>
    unfold State.jobEnd
    rw [hj]
  | some j =>
    obtain ⟨u, hu, -, after⟩ := State.jobEnd_eq hj st
    obtain ⟨v, hv, -, freed⟩ := u.jobFree_eq j st
    have kept : (u.jobFree j st).beats = v.beats := freed.beats rfl
    exact (after.beats rfl).trans (kept.trans (hv.trans hu))

/-- Nothing but the ended job leaves the table. -/
theorem State.jobEnd_jobs {s : State} {id : Nat} {j : Job} (hj : s.job id = some j) (st : Status) :
    (s.jobEnd id st).jobs = s.jobs.filter fun k => k.id != id := by
  obtain ⟨u, -, before, after⟩ := State.jobEnd_eq hj st
  obtain ⟨v, -, jobs, freed⟩ := u.jobFree_eq j st
  calc (s.jobEnd id st).jobs
      _ = v.jobs.filter fun k => k.id != j.id := (after.jobs rfl).trans (freed.jobs rfl)
      _ = s.jobs.filter fun k => k.id != id := by rw [jobs, before.jobs rfl, State.id_of_job hj]

theorem find?_filter_of_implies {α : Type} {p q : α → Bool} (h : ∀ x, p x = true → q x = true) (l : List α) :
    (l.filter q).find? p = l.find? p := by
  rw [List.find?_filter]
  congr 1
  funext x
  cases hx : p x with
  | false => simp
  | true => simp [h x hx]

theorem State.jobEnd_job_self {s : State} {id : Nat} {j : Job} (hj : s.job id = some j) (st : Status) :
    (s.jobEnd id st).job id = none := by
  unfold State.job
  rw [State.jobEnd_jobs hj, List.find?_filter]
  simp

theorem State.jobEnd_job_ne {s : State} {id i : Nat} {j : Job} (hj : s.job id = some j) (st : Status) (h : i ≠ id) :
    (s.jobEnd id st).job i = s.job i := by
  unfold State.job
  rw [State.jobEnd_jobs hj]
  refine find?_filter_of_implies (fun k hk => ?_) _
  have : k.id = i := by simpa using hk
  simp [this, h]

/-- What is read of a rewritten job. -/
theorem State.map_job_updJob {α : Type} {s : State} {id : Nat} {j : Job} {f : Job → Job} {g : Job → α}
    (h : s.job id = some j) (hf : (f j).id = j.id) : ((s.updJob id f).job id).map g = some (g (f j)) := by
  rw [State.job_updJob h hf]
  rfl

theorem State.job_updJob_ne (s : State) {id i : Nat} {f : Job → Job} (hf : ∀ j, (f j).id = j.id) (h : i ≠ id) :
    (s.updJob id f).job i = s.job i := by
  have same : ((fun j : Job => j.id == i) ∘ fun j => if (j.id == id) = true then f j else j) = fun j => j.id == i := by
    funext j
    dsimp only [Function.comp_apply]
    split_ifs
    · rw [hf]
    · rfl
  change (mapIf _ f s.jobs).find? _ = s.job i
  unfold mapIf
  rw [List.find?_map, same]
  change (s.job i).map _ = s.job i
  cases hj : s.job i with
  | none => rfl
  | some j => simp [State.id_of_job hj, h]

/-! ### A job that ends at its next tile boundary -/

/-- No job `id`, or one that ends. -/
def State.Ended (s : State) (id : Nat) : Prop := s.job id = none ∨ ∃ x, s.job id = some x ∧ x.ending.isSome = true

theorem State.endSoon_of_runs {s : State} {id : Nat} {j : Job} (st : Status) (hj : s.job id = some j)
    (he : j.ending = none) (hr : s.jobRuns id = true) :
    (s.endSoon id st).job id = some { j with ending := some st } := by
  have marked : s.endSoon id st = s.updJob id fun j => { j with ending := some st } := by
    simp [State.endSoon, hj, he, hr]
  rw [marked]
  exact State.job_updJob hj rfl

theorem State.endSoon_of_rests {s : State} {id : Nat} {j : Job} (st : Status) (hj : s.job id = some j)
    (he : j.ending = none) (hr : s.jobRuns id = false) : (s.endSoon id st).job id = none := by
  have ended : s.endSoon id st = s.jobEnd id st := by simp [State.endSoon, hj, he, hr]
  rw [ended]
  exact State.jobEnd_job_self hj st

theorem State.endSoon_of_gone {s : State} {id : Nat} (st : Status) (h : s.job id = none) : s.endSoon id st = s := by
  simp [State.endSoon, h]

theorem State.endSoon_of_ending {s : State} {id : Nat} {j : Job} (st : Status) (hj : s.job id = some j)
    (he : j.ending.isSome = true) : s.endSoon id st = s := by
  simp [State.endSoon, hj, he]

theorem State.endSoon_ended (s : State) (id : Nat) (st : Status) : (s.endSoon id st).Ended id := by
  cases hj : s.job id with
  | none =>
    rw [State.endSoon_of_gone st hj]
    exact .inl hj
  | some j =>
    cases he : j.ending with
    | some e =>
      have marked : j.ending.isSome = true := by rw [he]; rfl
      rw [State.endSoon_of_ending st hj marked]
      exact .inr ⟨j, hj, marked⟩
    | none =>
      cases hr : s.jobRuns id with
      | true => exact .inr ⟨_, State.endSoon_of_runs st hj he hr, rfl⟩
      | false => exact .inl (State.endSoon_of_rests st hj he hr)

/-- The end of one job leaves every other. -/
theorem State.endSoon_job_ne (s : State) {id i : Nat} (st : Status) (h : i ≠ id) :
    (s.endSoon id st).job i = s.job i := by
  unfold State.endSoon
  split
  case h_1 => rfl
  case h_2 j hj =>
    split_ifs
    · rfl
    · exact s.job_updJob_ne (fun _ => rfl) h
    · exact State.jobEnd_job_ne hj st h

theorem State.Ended.endSoon {s : State} {i : Nat} (h : s.Ended i) (id : Nat) (st : Status) :
    (s.endSoon id st).Ended i := by
  by_cases e : i = id
  · subst e
    exact s.endSoon_ended i st
  · unfold State.Ended
    rwa [s.endSoon_job_ne st e]

theorem State.Ended.frame {m : Nat} {s t : State} {id : Nat} (h : s.Ended id) (f : Frame m s t)
    (b : touches m 16 = false) : t.Ended id := by
  unfold State.Ended
  rwa [f.job b]

theorem State.endSoon_beats (s : State) (id : Nat) (st : Status) : (s.endSoon id st).beats = s.beats := by
  unfold State.endSoon
  split
  · rfl
  · split_ifs
    · rfl
    · rfl
    · exact s.jobEnd_beats id st

theorem Frame.jobRuns {m : Nat} {s t : State} (h : Frame m s t) (b : touches m 24 = false) (id : Nat) :
    t.jobRuns id = s.jobRuns id := by
  unfold State.jobRuns
  rw [h.cores b]

end Sys2Proof.Machine

/-!
Messages and heartbeats of the lead (04_attention_and_kv_cache.md: R99; 06_placement_and_scheduling.md: R169;
08_ralostair_fabric.md: R212, R214, R215): what each command answers.
-/

namespace Sys2Proof.Machine

open Sys2Proof

/-! ### Messages that end a spanning job -/

/-- The status with which a spanning job ends when a member reports `st` (R169). -/
def peerStatus (st : Status) : Status := if st = .packageJobLoss then .peerJobLoss else st

/-- The state in which a spanning job's end is told: an aborted collective is counted first (R212). -/
def State.abortNoted (s : State) (st : Status) : State := if st = .collectiveAbort then s.abortEvent else s

theorem State.abortNoted_frame (s : State) (st : Status) : Frame 0x800000100000 s (s.abortNoted st) :=
  Frame.ite (fun _ => s.abortEvent_frame) fun _ => .refl _ _

theorem State.peerEnd_eq {s : State} {key : Nat} {j : Job} (hk : s.spanJob key = some j) (he : j.ending = none)
    (st : Status) : s.peerEnd key st =
      ((s.abortNoted (peerStatus st)).tellPeers j (peerStatus st)).endSoon j.id (peerStatus st) := by
  unfold State.peerEnd
  rw [hk]
  dsimp only
  rw [if_neg (by simp [he])]
  rfl

theorem State.peerEnd_job {s : State} {key : Nat} {j : Job} (hk : s.spanJob key = some j) (hj : s.job j.id = some j)
    (he : j.ending = none) (st : Status) :
    (s.jobRuns j.id = true → ((s.peerEnd key st).job j.id).map (·.ending) = some (some (peerStatus st))) ∧
      (s.jobRuns j.id = false → (s.peerEnd key st).job j.id = none) := by
  rw [State.peerEnd_eq hk he]
  have told := ((s.abortNoted_frame (peerStatus st)).mono (m := 0x28008c010000c) rfl).step
    (State.tellPeers_frame _ j (peerStatus st)) rfl
  have found := (told.job rfl j.id).trans hj
  constructor
  · intro runs
    rw [State.endSoon_of_runs _ found he ((told.jobRuns rfl _).trans runs)]
    rfl
  · intro rests
    exact State.endSoon_of_rests _ found he ((told.jobRuns rfl _).trans rests)

/-- An abort is counted once (R212). -/
theorem State.peerEnd_abort_rd {s : State} {key : Nat} {j : Job} (hk : s.spanJob key = some j) (he : j.ending = none) :
    (s.peerEnd key .collectiveAbort).rd (fabA 0x10) =
      BitVec.ofNat 32 (satAdd countTop (s.rd (fabA 0x10)).toNat 1) := by
  rw [State.peerEnd_eq hk he]
  calc _
      _ = (s.abortEvent.tellPeers j .collectiveAbort).rd (fabA 0x10) := (State.endSoon_frame ..).blk _ rfl
      _ = s.abortEvent.rd (fabA 0x10) := (State.tellPeers_frame ..).blk _ rfl
      _ = _ := s.rd_event_count 3 (by decide)

theorem exec_collEvent_abort (s : State) (key op rank : Nat) :
    exec (.collEvent ⟨[], key, op, rank, true⟩) s = .next (s.peerEnd key .collectiveAbort) := rfl

theorem exec_leadMsg (s : State) (m : LeadMsg) : exec (.leadMsg ⟨[], m⟩) s = .next (s.leadMsg m) := rfl

/-! ### The settle of a step (R99) -/

theorem exec_stepSettleRound_joins {s : State} {id : Nat} {j : Job} (hj : s.job id = some j)
    (ready : s.settleReady j = true) (h1 : j.settling = 1) :
    ∃ (u : State) (rows : List KvRow) (l : List (Nat × Nat × List Nat)), u.job id = some j ∧
      exec (.stepSettleRound id) s = .next (u.updJob id fun j =>
        { j with rows := rows, settling := 2, reports := j.reports ++ l }) := by
  have told := s.settleTell_frame j (j.settleSlots j.settling)
  have grown : Frame 0x1020008d030000c s _ := (told.mono rfl).step
    (State.kvGrowth_frame _ j.pkg j.chains j.rows (j.settleSlots j.settling)).fst rfl
  rw [show exec (.stepSettleRound id) s = execStepSettleRound id s from rfl]
  unfold execStepSettleRound
  rw [hj]
  dsimp only
  rw [if_neg (by simp [ready]), if_pos h1]
  exact ⟨_, _, _, ((grown.step (State.settleReport_frame ..) rfl).job rfl id).trans hj, rfl⟩

theorem exec_stepSettleRound_suspensions {s : State} {id : Nat} {j : Job} (hj : s.job id = some j)
    (ready : s.settleReady j = true) (h1 : j.settling ≠ 1) :
    ∃ (u : State) (rows : List KvRow), u.job id = some j ∧
      exec (.stepSettleRound id) s = .next (u.updJob id fun j =>
        { j with rows := rows, settling := 0, reports := [] }) := by
  have told := s.settleTell_frame j (j.settleSlots j.settling)
  have ended : Frame 0x1020008d030000c s _ := (told.mono rfl).step
    (State.kvFinish_frame _ j.chains j.rows (j.settleSlots j.settling)).fst rfl
  rw [show exec (.stepSettleRound id) s = execStepSettleRound id s from rfl]
  unfold execStepSettleRound
  rw [hj]
  dsimp only
  rw [if_neg (by simp [ready]), if_neg h1]
  exact ⟨_, _, (ended.job rfl id).trans hj, rfl⟩

/-! ### The other messages of the lead (R214) -/

theorem State.leadMsg_settle {s : State} {key : Nat} {j : Job} (hk : s.spanJob key = some j) (h : j.settling ≠ 0)
    (pkg stage : Nat) (slots : List Nat) : s.leadMsg (.settle key pkg stage slots) = s.updJob j.id fun j =>
      { j with reports := j.reports.filter (fun r => !(r.1 == pkg && r.2.1 == stage)) ++ [(pkg, stage, slots)] } := by
  simp [State.leadMsg, hk, h]

theorem State.leadMsg_done {s : State} {key pkg : Nat} {j : Job} (hk : s.spanJob key = some j) (lead : j.member = none)
    (new : j.heard.contains pkg = false) (counts : List (Nat × List Nat)) :
    s.leadMsg (.done key pkg counts) = s.updJob j.id fun j => j.shareDone pkg counts := by
  have unheard : pkg ∉ j.heard := by simpa using new
  simp [State.leadMsg, hk, lead, unheard]

theorem State.leadMsg_endJob {s : State} (key : Nat) {code : Nat} {st : Status} (h : Status.ofCode code = some st) :
    s.leadMsg (.endJob key code) = s.peerEnd key st := by
  simp [State.leadMsg, h]

theorem State.leadMsg_plan {s : State} {x : SharePlan} (member : s.isLead = false) (working : s.loss = none) :
    s.leadMsg (.plan x) = s.takePlan x := by
  simp [State.leadMsg, member, working]

theorem State.takePlan_of_unknown {s : State} {x : SharePlan} (h : s.pkgByDigest x.digest = none) :
    s.takePlan x = s.sendEnd s.leadPkg x.job .packageNotRetained := by
  unfold State.takePlan
  rw [h]

/-! ### Heartbeats (R214, R215) -/

theorem exec_heartbeat (s : State) {src : Nat} (h : src < 1024) : exec (.heartbeat ⟨[], src⟩ s.leadPkg) s = .next
    (if s.isLead then s.setFab { s.comp.fab with member := tset 0 s.comp.fab.member src 0 }
      else if src = s.leadPkg then (s.setFab { s.comp.fab with leadTicks := 0 }).sendHeartbeat src else s) := by
  change execHeartbeat ⟨[], src⟩ s.leadPkg s = _
  unfold execHeartbeat guardI
  rw [if_pos (by simpa [rxOk] using h)]
  change Host.Outcome.next (if s.leadPkg ≠ s.leadPkg then s else _) = _
  rw [if_neg (by simp)]
  rfl

theorem State.leadTicks_of_beats {s t : State} (h : t.beats = s.beats) : t.comp.fab.leadTicks = s.comp.fab.leadTicks :=
  congrArg Prod.fst h

theorem State.member_of_beats {s t : State} (h : t.beats = s.beats) : t.comp.fab.member = s.comp.fab.member :=
  congrArg Prod.snd h

/-- The lead is silent: its ticks start again, and the loss of it is counted. -/
def State.leadSilent (s : State) : State :=
  (s.setFab { s.comp.fab with leadTicks := 0 }).event (fabA 8) 5 (fabA 0x18)

/-- Each job of a list ends, after its other packages are told by `tell`. -/
def State.endJobs (s : State) (tell : State → Job → State) (l : List Job) (st : Status) : State :=
  l.foldl (fun s j => (tell s j).endSoon j.id st) s

section Ends

variable {tell : State → Job → State}

theorem State.endJobs_ended (ht : ∀ s j, Frame 0x20008c010000c s (tell s j)) (s : State) (l : List Job) (st : Status) :
    ∀ j ∈ l, (s.endJobs tell l st).Ended j.id :=
  foldl_each (q := fun _ => True) (p := fun t (j : Job) => t.Ended j.id) trivial (fun _ _ _ _ => trivial)
    (fun _ _ _ _ => State.endSoon_ended ..) fun t (j : Job) _ _ _ _ h => (h.frame (ht t j) rfl).endSoon ..

theorem State.endJobs_beats (hb : ∀ s j, (tell s j).beats = s.beats) (s : State) (l : List Job) (st : Status) :
    (s.endJobs tell l st).beats = s.beats :=
  foldl_keep (q := fun t => t.beats = s.beats) rfl fun t (j : Job) _ h =>
    (State.endSoon_beats ..).trans ((hb t j).trans h)

theorem State.endJobs_frame (ht : ∀ s j, Frame 0x20008c010000c s (tell s j)) (s : State) (l : List Job) (st : Status) :
    Frame 0x1061b09ed11928c s (s.endJobs tell l st) :=
  Frame.foldl (.refl _ _) fun t j h => (h.step (ht t j) rfl).step (State.endSoon_frame ..) rfl

end Ends

theorem exec_leadHeartbeatTimeout {s : State} (hl : s.isLead = false) (h : 16 ≤ s.comp.fab.leadTicks) :
    exec .leadHeartbeatTimeout s = .next (s.leadSilent.endJobs (fun s _ => s)
      (s.jobs.filter fun j => !j.span.isEmpty) .leadLost) := by
  change execLeadHeartbeatTimeout s = _
  unfold execLeadHeartbeatTimeout
  rw [if_neg (by simp [hl, h])]
  rfl

theorem exec_memberHeartbeatTimeout {s : State} {pkg : Nat} (hp : pkg < 1024) (hl : s.isLead = true)
    (h : 16 ≤ tget 0 s.comp.fab.member pkg) : exec (.memberHeartbeatTimeout pkg) s =
      .next ((s.setFab { s.comp.fab with member := tset 0 s.comp.fab.member pkg 0 }).endJobs
        (fun s j => s.tellPeers j .peerJobLoss) (s.jobs.filter fun j => j.span.contains pkg) .peerJobLoss) := by
  change execMemberHeartbeatTimeout pkg s = _
  unfold execMemberHeartbeatTimeout guardI
  rw [if_pos (by simpa using hp), if_neg (by simp [hl, h])]
  rfl

end Sys2Proof.Machine

/-!
Jobs that span packages (08_ralostair_fabric.md: R195, R201, R206, R209, R211): partials and events of collectives, and
what the levels of a job keep while every package can be reached.
-/

namespace Sys2Proof.Machine

open Sys2Proof

/-! ### Where packets can go -/

theorem blk_lnkA (k o : Nat) : blk (lnkA k o) = 7 := by
  unfold blk lnkA
  rw [if_pos (by omega)]
  omega

/-- The topology, the package's number and the states of the links say what can be reached (R206, R207). -/
theorem State.reachable_congr {s t : State} (topo : t.rd (fabA 0) = s.rd (fabA 0)) (num : t.rd (fabA 4) = s.rd (fabA 4))
    (links : ∀ k, t.rd (lnkA k 4) = s.rd (lnkA k 4)) (p : Nat) : t.reachable p = s.reachable p := by
  have kind : t.kind = s.kind := State.fld_congr topo ..
  have dims : t.dims = s.dims := by simp only [State.dims, State.fld_congr topo]
  have self : t.pkgNum = s.pkgNum := State.fld_congr num ..
  have link : ∀ k, t.linkState k = s.linkState k := fun k => State.fld_congr (links k) ..
  have coords : ∀ q, t.coords q = s.coords q := fun q => by unfold State.coords; rw [dims]
  have up : ∀ d, t.dirUp d = s.dirUp d := fun d => by simp only [State.dirUp, State.linkDir, kind, link]
  have hop : t.firstHop p = s.firstHop p := by
    unfold State.firstHop
    rw [kind, dims, self, coords, coords]
    simp only [up]
  unfold State.reachable
  rw [self, hop]

/-- An operation outside the fabric's registers leaves what can be reached. -/
theorem Frame.reachable {m : Nat} {s t : State} (h : Frame m s t) (b : touches m 47 = false) (p : Nat) :
    t.reachable p = s.reachable p :=
  State.reachable_congr (h.blk _ b) (h.blk _ b) (fun k => h.blk _ (by rw [blk_lnkA]; exact b)) p

theorem State.reachable_pkgNum (s : State) : s.reachable s.pkgNum = true := by simp [State.reachable]

/-! ### A job's collectives -/

/-- A job with `y` as its collective of operator `op`. -/
def Job.withColl (j : Job) (op : Nat) (y : Coll) : Job :=
  { j with colls := j.colls.filter (fun x => x.op != op) ++ [y] }

theorem Job.coll_op (j : Job) (op : Nat) : (j.coll op).op = op := by
  unfold Job.coll
  cases h : j.colls.find? (fun c => c.op == op) with
  | none => rfl
  | some c => simpa using List.find?_some h

theorem Job.coll_withColl_self (j : Job) {op : Nat} {y : Coll} (h : y.op = op) : (j.withColl op y).coll op = y := by
  have gone : (j.colls.filter fun x => x.op != op).find? (fun c => c.op == op) = none := by simp
  simp [Job.coll, Job.withColl, List.find?_append, gone, h]

theorem Job.coll_withColl_ne (j : Job) {op o : Nat} {y : Coll} (h : y.op = op) (ne : o ≠ op) :
    (j.withColl op y).coll o = j.coll o := by
  have kept : (j.colls.filter fun x => x.op != op).find? (fun c => c.op == o) = j.colls.find? fun c => c.op == o :=
    find?_filter_of_implies (fun c hc => by
      have : c.op = o := by simpa using hc
      simp [this, ne]) _
  have other : (y.op == o) = false := by simpa [h] using ne.symm
  simp [Job.coll, Job.withColl, List.find?_append, kept, other]

theorem State.updColl_job {s : State} {c : CollCtx} {x : Job} {f : Coll → Coll} (hx : s.job c.id = some x)
    (hop : ∀ y, (f y).op = y.op) : ∃ x', (s.updColl c f).job c.id = some x' ∧ x'.coll c.op = f (x.coll c.op) ∧
      x'.span = x.span ∧ x'.level = x.level :=
  ⟨x.withColl c.op (f (x.coll c.op)), State.job_updJob hx rfl, x.coll_withColl_self ((hop _).trans (x.coll_op _)),
    rfl, rfl⟩

theorem State.collCtx_job {s : State} {j : Job} {o : Nat} {c : CollCtx} (h : s.collCtx j o = some c) :
    c.id = j.id ∧ c.op = o ∧ c.span = j.span := by
  unfold State.collCtx at h
  split at h
  · cases h
  · dsimp only at h
    split at h
    · cases h
    · cases h
      exact ⟨rfl, rfl, rfl⟩

/-! ### A partial (R209) -/

theorem exec_collPartial {s : State} {key op : Nat} {j : Job} {c : CollCtx} (hk : s.spanJob key = some j)
    (hc : s.collCtx j op = some c) (part : CollPart) (data : Bytes) :
    exec (.collPartial ⟨[], key⟩ op part data) s = .next (s.collIn c part data) := by
  change execCollPartial ⟨[], key⟩ op part data s = _
  simp [execCollPartial, guardI, rxOk, State.received, hk, hc]

/-- The first rank's value of a reduction of more than one waits at rank 0 (R209). -/
theorem State.collIn_first {s : State} {j : Job} {c : CollCtx} (hj : s.job c.id = some j) (hr : c.kind = 1)
    (h0 : c.me = 0) (free : s.det = false) (first : (j.coll c.op).arr = []) (more : 1 < c.span.length)
    (r : Nat) (data : Bytes) :
    s.collIn c (.rank r) data = s.updColl c fun y => { y with arr := [(r, s.clk.ref, data)] } := by
  simp [State.collIn, State.collArr, hj, hr, h0, free, first, more, insertBy]

/-- A packet with more symbol errors than the code corrects is discarded (R195, R201). -/
theorem State.rxPkt_uncorrectable {s : State} {p : RxPkt} (vc : Nat) (up : s.linkState p.link = 3)
    (bad : p.errs.any (fun n => decide (15 < n)) = true) : ∃ u, Frame 0x800000100000 s u ∧
      s.rxPkt vc p = (u.crcFail p.link, false) := by
  refine ⟨_, s.fecCount_frame p.link (p.errs.filter fun n => decide (n ≤ 15))
    (p.errs.filter fun n => decide (15 < n)).length, ?_⟩
  unfold State.rxPkt
  dsimp only
  rw [if_neg (by simp [up]), if_pos bad]

theorem exec_collPartial_uncorrectable {s : State} {p : RxPkt} (hp : p.link < 12) (up : s.linkState p.link = 3)
    (bad : p.errs.any (fun n => decide (15 < n)) = true) (key op : Nat) (part : CollPart) (data : Bytes) :
    ∃ u, Frame 0x800000100000 s u ∧ exec (.collPartial ⟨[p], key⟩ op part data) s = .next (u.crcFail p.link) := by
  obtain ⟨u, fu, hu⟩ := State.rxPkt_uncorrectable 1 up bad
  refine ⟨u, fu, ?_⟩
  change execCollPartial ⟨[p], key⟩ op part data s = _
  unfold execCollPartial guardI
  rw [if_pos (by simpa [rxOk] using hp)]
  simp [State.received, hu]

theorem State.crcFail_out (s : State) (k : Nat) : (s.crcFail k).out = s.out ++ [.linkNak k (s.lnk k).expect] := rfl

theorem Frame.lnk {m : Nat} {s t : State} (h : Frame m s t) (b : touches m 30 = false) (k : Nat) :
    t.lnk k = s.lnk k := by
  unfold State.lnk
  rw [h.lnks b]

/-! ### The levels of a spanning job keep its events (R211) -/

/-- A job over the packages `span` at level `l` or beyond; at `l` its collective `op` has the events `evs`. -/
structure Job.Keeps (span : List Nat) (l op : Nat) (evs : List Nat) (x : Job) : Prop where
  span : x.span = span
  level : l ≤ x.level
  evs : (x.coll op).evs = evs ∨ l < x.level

/-- The table holds such a job, and its packages can be reached. -/
structure State.Keeps (id : Nat) (span : List Nat) (l op : Nat) (evs : List Nat) (s : State) : Prop where
  job : ∃ x, s.job id = some x ∧ x.Keeps span l op evs
  reach : ∀ p ∈ span, s.reachable p = true

section Levels

variable {id : Nat} {span : List Nat} {l op : Nat} {evs : List Nat}

theorem Job.Keeps.withColl {x : Job} (h : x.Keeps span l op evs) {o : Nat} {f : Coll → Coll}
    (hop : ∀ y, (f y).op = y.op) (hevs : ∀ y, (f y).evs = y.evs) :
    (x.withColl o (f (x.coll o))).Keeps span l op evs := by
  refine ⟨h.span, h.level, h.evs.imp (fun he => ?_) fun hl => hl⟩
  have named : (f (x.coll o)).op = o := (hop _).trans (x.coll_op o)
  by_cases e : op = o
  · subst e
    rw [x.coll_withColl_self named, hevs, he]
  · rw [x.coll_withColl_ne named e, he]

/-- At a later level the events are not asked for. -/
theorem Job.Keeps.later {x y : Job} (h : x.Keeps span l op evs) (hs : y.span = x.span) (hl : x.level < y.level) :
    y.Keeps span l op evs :=
  ⟨hs.trans h.span, Nat.le_of_lt (Nat.lt_of_le_of_lt h.level hl), .inr (Nat.lt_of_le_of_lt h.level hl)⟩

theorem Job.Keeps.levelStep {x : Job} (h : x.Keeps span l op evs) (p : Package) (n : Nat) :
    (levelStep p n x).Keeps span l op evs := by
  induction n generalizing x with
  | zero => exact h
  | succ n ih =>
    unfold Machine.levelStep
    split
    · exact h
    · split
      · exact h
      · exact ih (h.later rfl (Nat.lt_succ_self _))

theorem levelStep_id (p : Package) (n : Nat) (x : Job) : (levelStep p n x).id = x.id := by
  induction n generalizing x with
  | zero => rfl
  | succ n ih =>
    unfold levelStep
    split
    · rfl
    · split
      · rfl
      · exact ih _

theorem State.Keeps.frame {m : Nat} {s t : State} (h : s.Keeps id span l op evs) (f : Frame m s t)
    (b16 : touches m 16 = false) (b47 : touches m 47 = false) : t.Keeps id span l op evs := by
  obtain ⟨x, hx, kx⟩ := h.job
  exact ⟨⟨x, (f.job b16 id).trans hx, kx⟩, fun p hp => (f.reachable b47 p).trans (h.reach p hp)⟩

theorem State.Keeps.updJob {s : State} (h : s.Keeps id span l op evs) {f : Job → Job} (hid : ∀ x, (f x).id = x.id)
    (hf : ∀ x, x.Keeps span l op evs → (f x).Keeps span l op evs) : (s.updJob id f).Keeps id span l op evs := by
  obtain ⟨x, hx, kx⟩ := h.job
  refine ⟨⟨f x, State.job_updJob hx (hid x), hf x kx⟩, fun p hp => ?_⟩
  exact ((s.updJob_frame id f).reachable rfl p).trans (h.reach p hp)

/-- A collective of the job. -/
structure CollCtx.Of (id : Nat) (span : List Nat) (c : CollCtx) : Prop where
  id : c.id = id
  span : c.span = span

variable {c : CollCtx} (hc : c.Of id span)

include hc

theorem State.Keeps.updColl {s : State} (h : s.Keeps id span l op evs) {f : Coll → Coll} (hop : ∀ y, (f y).op = y.op)
    (hevs : ∀ y, (f y).evs = y.evs) : (s.updColl c f).Keeps id span l op evs := by
  unfold State.updColl
  rw [hc.id]
  exact h.updJob (fun _ => rfl) fun x kx => kx.withColl hop hevs

/-- Data goes to a rank that can be reached: nothing fails (R212). -/
theorem State.Keeps.collTo {s : State} (h : s.Keeps id span l op evs) (r : Nat) (part : CollPart) (data : Bytes) :
    (s.collTo c r part data).Keeps id span l op evs := by
  have way : s.reachable (c.span.getD r s.pkgNum) = true := by
    rw [hc.span, List.getD_eq_getElem?_getD]
    cases hr : span[r]? with
    | none => exact s.reachable_pkgNum
    | some p => exact h.reach p (List.mem_of_getElem? hr)
  unfold State.collTo
  extract_lets dst node
  rw [if_pos way]
  exact h.frame (State.sendTo_frame ..) rfl rfl

theorem State.Keeps.collGive {s : State} (h : s.Keeps id span l op evs) (x : Nat × Bytes) :
    (s.collGive c x).Keeps id span l op evs := by
  unfold State.collGive
  split
  · exact (h.frame (State.collStore_frame ..) rfl rfl).frame (State.collTell_frame ..) rfl rfl
  · refine (h.updColl hc ?_ ?_).collTo hc .. <;> exact fun _ => rfl

theorem State.Keeps.collGives {s : State} (h : s.Keeps id span l op evs) (xs : List (Nat × Bytes)) :
    (xs.foldl (State.collGive c) s).Keeps id span l op evs :=
  foldl_keep h fun _ x _ k => k.collGive hc x

theorem State.Keeps.collNode (n : Nat) {s : State} (h : s.Keeps id span l op evs) (node : Nat × Nat) (b : Bytes) :
    (State.collNode c n node b s).Keeps id span l op evs := by
  induction n generalizing s node b with
  | zero => exact h
  | succ n ih =>
    unfold State.collNode
    extract_lets x home sib
    split
    · exact h.collTo hc ..
    · split
      · exact h.collGives hc _
      · split
        · exact h.updColl hc (fun _ => rfl) fun _ => rfl
        · refine ih (h.updColl hc ?_ ?_) .. <;> exact fun _ => rfl

theorem State.Keeps.collArr {s : State} (h : s.Keeps id span l op evs) (r : Nat) (b : Bytes) :
    (s.collArr c r b).Keeps id span l op evs := by
  unfold State.collArr
  split
  · exact h.collTo hc ..
  · extract_lets old arr sum
    split
    · exact h.updColl hc (fun _ => rfl) fun _ => rfl
    · refine (h.updColl hc ?_ ?_).collGives hc _ <;> exact fun _ => rfl

theorem State.Keeps.collIn {s : State} (h : s.Keeps id span l op evs) (part : CollPart) (data : Bytes) :
    (s.collIn c part data).Keeps id span l op evs := by
  cases part with
  | tree a b =>
    unfold State.collIn
    dsimp only
    split
    · exact h.collNode hc ..
    · exact h
  | rank r =>
    unfold State.collIn
    dsimp only
    split_ifs
    · exact h
    · exact h.collNode hc ..
    · exact h.collArr hc ..
  | result r => exact (h.frame (State.collStore_frame ..) rfl rfl).frame (State.collTell_frame ..) rfl rfl

theorem State.Keeps.collOwn {s : State} (h : s.Keeps id span l op evs) : (s.collOwn c).Keeps id span l op evs := by
  unfold State.collOwn
  split
  · exact h
  · extract_lets b n g
    split_ifs
    · exact h.collGives hc _
    · exact h.collGives hc _
    · exact h
    · exact h
    · exact h.collIn hc ..

omit hc

theorem State.Keeps.collStart {s : State} (h : s.Keeps id span l op evs) {j : Job} (hj : j.id = id) (hs : j.span = span)
    (p : Package) (k : Nat) : (s.collStart j p k).Keeps id span l op evs := by
  unfold State.collStart
  extract_lets t
  have begun : t.Keeps id span l op evs := by
    unfold t
    rw [hj]
    exact h.updJob (fun _ => rfl) fun x kx => ⟨kx.span, kx.level, kx.evs⟩
  refine foldl_keep begun fun u c hc k => ?_
  obtain ⟨o, -, ho⟩ := List.mem_filterMap.mp hc
  obtain ⟨cid, -, cspan⟩ := State.collCtx_job ho
  exact k.collOwn ⟨cid.trans hj, cspan.trans hs⟩

theorem State.reachable_countN (s : State) (n p : Nat) : (s.countN (fabA 0x1C) n).reachable p = s.reachable p := by
  refine State.reachable_congr (s.rd_countN_ne n (by decide)) (s.rd_countN_ne n (by decide)) (fun k => ?_) p
  refine s.rd_countN_ne n ?_
  unfold fabA lnkA
  omega

theorem State.Keeps.collsEnd {s : State} (h : s.Keeps id span l op evs) {j : Job} (hj : j.id = id) (p : Package)
    (k : Nat) : (s.collsEnd j p k).Keeps id span l op evs := by
  have counted : (s.countN (fabA 0x1C) (collOps p k).length).Keeps id span l op evs :=
    ⟨h.job, fun q hq => (s.reachable_countN ..).trans (h.reach q hq)⟩
  unfold State.collsEnd
  rw [hj]
  exact (counted.frame (State.closeBerths_frame ..) rfl rfl).updJob (fun _ => rfl)
    fun x kx => kx.later rfl (Nat.lt_succ_self _)

theorem State.Keeps.levelsOn (n : Nat) {s : State} (h : s.Keeps id span l op evs) (p : Package) :
    (State.levelsOn id p n s).Keeps id span l op evs := by
  induction n generalizing s with
  | zero => exact h
  | succ n ih =>
    unfold State.levelsOn
    extract_lets t
    have stepped : t.Keeps id span l op evs :=
      h.updJob (levelStep_id p _) fun x kx => kx.levelStep p _
    split
    · exact stepped
    next j hj =>
      have kj : j.Keeps span l op evs := by
        obtain ⟨x, hx, kx⟩ := stepped.job
        rwa [Option.some.inj (hj.symm.trans hx)]
      split
      · exact stepped
      next k _ =>
        split
        · exact stepped
        · extract_lets u
          have waited : u.Keeps id span l op evs := by
            unfold u
            split
            · exact stepped
            · exact stepped.collStart (State.id_of_job hj) kj.span p k
          split
          · exact waited
          next j' hj' =>
            split
            · exact ih (waited.collsEnd (State.id_of_job hj') p k)
            · exact waited

theorem State.Keeps.stepLevels {s : State} (h : s.Keeps id span l op evs) :
    (s.stepLevels id).Keeps id span l op evs := by
  unfold State.stepLevels
  split
  · exact h.levelsOn ..
  · exact h

end Levels

theorem exec_collEvent {s : State} {key op : Nat} {j : Job} {c : CollCtx} (hk : s.spanJob key = some j)
    (hc : s.collCtx j op = some c) (rank : Nat) : exec (.collEvent ⟨[], key, op, rank, false⟩) s =
      .next ((s.updColl c fun y => { y with evs := y.evs ++ [rank] }).stepLevels c.id) := by
  change execCollEvent ⟨[], key, op, rank, false⟩ s = _
  simp [execCollEvent, guardI, rxOk, State.received, hk, hc]

/-! ### The commands together -/

/-- Settles O45: each command either writes the job once, ends it, or leaves it, and what it sends touches neither the
jobs nor the heartbeat counts; the events of a level outlive it only with the level. -/
theorem spanningJobs : Obligations.SpanningJobs := by
  refine ⟨?settle, ?partials, ?naks, ?events, ?aborts, ?reports, ?dones, ?ends, ?plans, ?beats, ?leadLost, ?memberLost⟩
  case settle =>
    intro s id j hj ready
    by_cases h1 : j.settling = 1
    · obtain ⟨u, rows, l, hu, run⟩ := exec_stepSettleRound_joins hj ready h1
      exact ⟨_, run, fun _ => State.map_job_updJob hu rfl, fun h => absurd h1 h⟩
    · obtain ⟨u, rows, hu, run⟩ := exec_stepSettleRound_suspensions hj ready h1
      exact ⟨_, run, fun h => absurd h h1, fun _ => ⟨State.map_job_updJob hu rfl, State.map_job_updJob hu rfl⟩⟩
  case partials =>
    intro s key op r data j c hk hj hc hr h0 free first more
    obtain ⟨cid, rfl, cspan⟩ := State.collCtx_job hc
    rw [← cid] at hj ⊢
    rw [← cspan] at more
    refine ⟨_, exec_collPartial hk hc .., ?_⟩
    rw [State.collIn_first hj hr h0 free first more]
    obtain ⟨x, hx, read, -, -⟩ :=
      State.updColl_job (f := fun y => { y with arr := [(r, s.clk.ref, data)] }) hj fun _ => rfl
    refine ⟨?_, rfl⟩
    rw [hx, Option.map_some, read]
  case naks =>
    intro s p key op part data hp up bad
    obtain ⟨u, fu, run⟩ := exec_collPartial_uncorrectable hp up bad key op part data
    refine ⟨_, run, fu.jobs rfl, ?_⟩
    rw [State.crcFail_out, fu.out rfl, fu.lnk rfl]
  case events =>
    intro s key op rank j c hk hj hc reach
    obtain ⟨cid, rfl, cspan⟩ := State.collCtx_job hc
    rw [← cid] at hj ⊢
    have joined : (s.updColl c fun y => { y with evs := y.evs ++ [rank] }).Keeps c.id j.span j.level c.op
        ((j.coll c.op).evs ++ [rank]) := by
      obtain ⟨x, hx, read, hs, hl⟩ :=
        State.updColl_job (f := fun y => { y with evs := y.evs ++ [rank] }) hj fun _ => rfl
      exact ⟨⟨x, hx, hs, hl.ge, .inl (by rw [read])⟩, reach⟩
    obtain ⟨x, hx, kx⟩ := joined.stepLevels.job
    exact ⟨_, exec_collEvent hk hc rank, x, hx, kx.evs⟩
  case aborts =>
    intro s key op rank j hk hj he
    exact ⟨_, exec_collEvent_abort .., State.peerEnd_abort_rd hk he, State.peerEnd_job hk hj he .collectiveAbort⟩
  case reports =>
    intro s key pkg stage slots j hk hj settling
    refine ⟨_, exec_leadMsg .., ?_⟩
    rw [State.leadMsg_settle hk settling]
    exact State.map_job_updJob hj rfl
  case dones =>
    intro s key pkg counts j hk hj lead new
    refine ⟨_, exec_leadMsg .., ?_⟩
    rw [State.leadMsg_done hk lead new]
    exact State.map_job_updJob hj rfl
  case ends =>
    intro s key code j st hk hj he hst
    refine ⟨_, exec_leadMsg .., ?_⟩
    rw [State.leadMsg_endJob key hst]
    exact State.peerEnd_job hk hj he st
  case plans =>
    intro s x member working unknown
    refine ⟨_, exec_leadMsg .., ?_⟩
    rw [State.leadMsg_plan member working, State.takePlan_of_unknown unknown]
    exact (State.sendEnd_frame ..).jobs rfl
  case beats =>
    intro s src hsrc
    refine ⟨_, exec_heartbeat s hsrc, fun lead => ?_, fun member fromLead => ?_⟩
    · rw [if_pos lead]
      exact tget_tset_self 0 s.comp.fab.member src 0
    · rw [if_neg (by simp [member]), if_pos fromLead]
      exact State.leadTicks_of_beats (State.sendTo_beats ..)
  case leadLost =>
    intro s member late
    refine ⟨_, exec_leadHeartbeatTimeout member late, ?_, ?_, fun j hj spans => ?_⟩
    · exact State.leadTicks_of_beats (State.endJobs_beats (fun _ _ => rfl) ..)
    · have kept := State.endJobs_frame (tell := fun s _ => s) (fun _ _ => .refl _ _) s.leadSilent
        (s.jobs.filter fun j => !j.span.isEmpty) .leadLost
      exact (State.flag_congr (kept.blk _ rfl) 5).trans (State.flag_event _ (by decide) (by decide))
    · exact State.endJobs_ended (fun _ _ => .refl _ _) _ _ _ j (by simp [hj, spans])
  case memberLost =>
    intro s pkg hp lead late
    refine ⟨_, exec_memberHeartbeatTimeout hp lead late, ?_, fun j hj spans => ?_⟩
    · rw [State.member_of_beats (State.endJobs_beats (fun t j => t.tellPeers_beats j _) ..)]
      exact tget_tset_self 0 s.comp.fab.member pkg 0
    · exact State.endJobs_ended (fun t j => t.tellPeers_frame j _) _ _ _ j (by simp [hj, spans])

end Sys2Proof.Machine

/-!
The dies' memories, DMA channels and berths (05_memory_and_berths.md: R111, R115, R116, R121, R127, R129): what a byte, a
channel, a berth or a fault register reads after each operation.
-/

namespace Sys2Proof.Machine

open Sys2Proof

/-! ### Bytes -/

theorem tget_memPut (a : Nat) (b : Bytes) (m : Tbl Byte) (q : Nat) :
    tget 0 (memPut a b m) q = if a ≤ q ∧ q < a + b.length then b.getD (q - a) 0 else tget 0 m q := by
  induction b generalizing a m with
  | nil =>
    have none : ¬(a ≤ q ∧ q < a + 0) := by omega
    exact (if_neg none).symm
  | cons x b ih =>
    rw [memPut, ih, tget_tset, List.length_cons]
    rcases Nat.lt_trichotomy q a with h | rfl | h
    · rw [if_neg (by omega), if_neg (by omega), if_neg (by omega)]
    · rw [if_neg (by omega), if_pos rfl, if_pos (by omega), Nat.sub_self]
      rfl
    · have next : q - a = q - (a + 1) + 1 := by omega
      rw [if_neg (by omega : ¬a = q), next, List.getD_cons_succ]
      exact if_congr (by omega) rfl rfl

theorem State.mem_setMem_ne (s : State) {d e : Nat} (m : Tbl Byte) (h : d ≠ e) : (s.setMem d m).mem e = s.mem e :=
  tget_tset_ne _ _ _ h

/-- A byte after others were stored. -/
theorem State.rdByte_wrBytes (s : State) (d a : Nat) (b : Bytes) (e q : Nat) : (s.wrBytes d a b).rdByte e q =
    if e = d ∧ a ≤ q ∧ q < a + b.length then (b.getD (q - a) 0).toNat else s.rdByte e q := by
  unfold State.rdByte State.wrBytes
  by_cases h : e = d
  · subst h
    rw [State.mem_setMem, tget_memPut]
    split_ifs <;> simp_all
  · rw [State.mem_setMem_ne _ _ (Ne.symm h), if_neg fun k => h k.1]

theorem State.length_rdBytes (s : State) (d a n : Nat) : (s.rdBytes d a n).length = n := by simp [State.rdBytes]

/-- Stored bytes read back. -/
theorem State.rdBytes_wrBytes (s : State) (d a : Nat) (b : Bytes) : (s.wrBytes d a b).rdBytes d a b.length = b := by
  unfold State.rdBytes State.wrBytes
  rw [State.mem_setMem]
  refine List.ext_getElem (by simp) fun i _ h => ?_
  rw [List.getElem_map, List.getElem_range, tget_memPut, if_pos (by omega), Nat.add_sub_cancel_left,
    List.getD_eq_getElem _ _ h]

theorem Frame.mem {m : Nat} {s t : State} (h : Frame m s t) (b : touches m 21 = false) (d : Nat) : t.mem d = s.mem d := by
  unfold State.mem
  rw [h.mems b]

theorem Frame.rdByte {m : Nat} {s t : State} (h : Frame m s t) (b : touches m 21 = false) (d a : Nat) :
    t.rdByte d a = s.rdByte d a := by
  unfold State.rdByte
  rw [h.mem b]

theorem Frame.rdBytes {m : Nat} {s t : State} (h : Frame m s t) (b : touches m 21 = false) (d a n : Nat) :
    t.rdBytes d a n = s.rdBytes d a n := by
  unfold State.rdBytes
  rw [h.mem b]

/-- A zeroed region reads 0, and no other byte changes (R121). -/
theorem State.rdByte_zeroRegion (s : State) (r : Region) (e q : Nat) : (s.zeroRegion r).rdByte e q =
    if e = r.die ∧ r.base ≤ q ∧ q < r.base + r.size then 0 else s.rdByte e q := by
  unfold State.rdByte State.zeroRegion memZero
  by_cases h : e = r.die
  · subst h
    rw [State.mem_setMem]
    by_cases inside : r.base ≤ q ∧ q < r.base + r.size
    · rw [tget_filter_of_dropped _ (by simp [inside]), if_pos ⟨rfl, inside⟩]
      rfl
    · have outside : q < r.base ∨ r.base + r.size ≤ q := by omega
      rw [tget_filter _ (by simpa using outside), if_neg fun k => inside k.2]
  · rw [State.mem_setMem_ne _ _ (Ne.symm h), if_neg fun k => h k.1]

/-! ### Registers of a die beside its cores -/

theorem blk_die {a : Nat} (h1 : 0x1000000 ≤ a) (h2 : a < 0x10000000) : blk a = 16 := by
  unfold blk
  rw [if_neg (by omega), if_pos h2]

/-- An operation outside the dies' blocks leaves their registers. -/
theorem Frame.rd_die {m : Nat} {s t : State} (h : Frame m s t) (b : touches m 56 = false) {a : Nat}
    (h1 : 0x1000000 ≤ a) (h2 : a < 0x10000000) : t.rd a = s.rd a :=
  h.blk a (by rw [blk_die h1 h2]; exact b)

theorem Frame.rd_bthA {m : Nat} {s t : State} (h : Frame m s t) (b : touches m 56 = false) (d o : Nat) :
    t.rd (bthA d o) = s.rd (bthA d o) :=
  h.rd_die b (by unfold bthA; omega) (by unfold bthA; omega)

theorem Frame.rd_berthA {m : Nat} {s t : State} (h : Frame m s t) (b : touches m 56 = false) (d i o : Nat) :
    t.rd (berthA d i o) = s.rd (berthA d i o) :=
  h.rd_die b (by unfold berthA; omega) (by unfold berthA; omega)

theorem Frame.rd_eccA {m : Nat} {s t : State} (h : Frame m s t) (b : touches m 56 = false) (d o : Nat) :
    t.rd (eccA d o) = s.rd (eccA d o) :=
  h.rd_die b (by unfold eccA; omega) (by unfold eccA; omega)

theorem bthA_ne_bthA (d : Nat) {o p : Nat} (h : o % 0x1000000 ≠ p % 0x1000000) : bthA d o ≠ bthA d p := by
  unfold bthA
  omega

theorem eccA_ne_eccA (d : Nat) {o p : Nat} (h : o % 0x1000000 ≠ p % 0x1000000) : eccA d o ≠ eccA d p := by
  unfold eccA
  omega

theorem berthA_ne_berthA (d b : Nat) {o p : Nat} (h : o % 0x20 ≠ p % 0x20) : berthA d b o ≠ berthA d b p := by
  unfold berthA
  omega

theorem berthA_ne_bthA (d : Nat) {b o p : Nat} (hb : b < 256) (ho : o < 0x20) (hp : p < 0x1000) :
    berthA d b o ≠ bthA d p := by
  unfold berthA bthA
  omega

/-- The ECC registers stand above those of the 17 cores in each die's block. -/
theorem mcA_ne_eccA (d e : Nat) {k o p : Nat} (hk : k < 17) (ho : o < 0x10000) (hp : p < 0x10000) :
    mcA d k o ≠ eccA e p := by
  unfold mcA eccA
  omega

/-! ### Faults of channels -/

theorem Frame.chan {m : Nat} {s t : State} (h : Frame m s t) (b : touches m 25 = false) (d k c : Nat) :
    t.chan d k c = s.chan d k c := by
  unfold State.chan
  rw [h.chans b]

/-- A memory fault writes only registers of its core. -/
theorem State.memFault_rd {d k a : Nat} (h : ∀ o < 0x10000, mcA d k o ≠ a) (s : State) (i lo : Nat) (st : Status)
    (chan cls addr : Nat) : (s.memFault d k i lo st chan cls addr).rd a = s.rd a := by
  unfold State.memFault
  extract_lets t
  have counted : t.rd a = s.rd a :=
    (State.rd_put_ne _ _ _ _ (h 0x44 (by decide))).trans (s.rd_raise_ne i (h 0x40 (by decide)))
  split
  · unfold State.memLatch
    rw [State.bump_rd, State.bump_rd, State.rd_wr_ne _ _ (h 0x6C (by decide)), State.rd_wr_ne _ _ (h 0x68 (by decide)),
      State.rd_wr_ne _ _ (h 0x48 (by decide)), counted]
  · exact counted

theorem State.haltChan_chan (s : State) (d k c : Nat) (st : Status) (addr : Nat) :
    (s.haltChan d k c st addr).chan d k c = { s.chan d k c with st := .idle, halt := some st } := by
  unfold State.haltChan
  rw [(State.memFault_frame ..).chan rfl, State.chan_setChan]

theorem State.haltChan_halt (s : State) (d k c : Nat) (st : Status) (addr : Nat) :
    ((s.haltChan d k c st addr).chan d k c).halt = some st := by
  rw [State.haltChan_chan]

theorem State.haltChan_flag (s : State) (d k c : Nat) (st : Status) (addr : Nat) :
    (s.haltChan d k c st addr).flag (mcA d k 0x40) 2 = true :=
  State.memFault_flag _ _ _ _ _ _ _ _ (by decide)

theorem State.haltChan_rd {d k a : Nat} (h : ∀ o < 0x10000, mcA d k o ≠ a) (s : State) (c : Nat) (st : Status)
    (addr : Nat) : (s.haltChan d k c st addr).rd a = s.rd a :=
  (State.memFault_rd h ..).trans (State.setChan_rd ..)

/-- An uncorrectable word of DRAM sets its flag (R116). -/
theorem State.eccFail_flag (s : State) (d n : Nat) {addr : Nat} (h : addr < dramTop) :
    (s.eccFail d addr n).flag (eccA d 0) 1 = true := by
  unfold State.eccFail
  extract_lets first t
  have flagged : t.flag (eccA d 0) 1 = true := by
    have raised := s.flag_raise_self (eccA d 0) (i := 1) (by decide)
    unfold t
    rw [if_pos h]
    exact (State.flag_congr (State.rd_countN_ne _ _ (eccA_ne_eccA d (by decide))) 1).trans raised
  split
  · rw [State.flag_wr_ne _ _ _ (eccA_ne_eccA d (by decide)), State.flag_wr_ne _ _ _ (eccA_ne_eccA d (by decide)), flagged]
  · exact flagged

/-- A channel that an uncorrectable word halts: its status, its core's flag, and the flag of the word's memory (R115). -/
theorem State.haltChan_eccFail (s : State) (d c : Nat) {k : Nat} (hk : k < 17) (w : Nat) :
    let t := (s.eccFail d w 1).haltChan d k c .dmaUncorrectable w
    (t.chan d k c).halt = some .dmaUncorrectable ∧ t.flag (mcA d k 0x40) 2 = true ∧
      (w < dramTop → t.flag (eccA d 0) 1 = true) := by
  refine ⟨State.haltChan_halt .., State.haltChan_flag .., fun dram => ?_⟩
  rw [State.flag_congr (State.haltChan_rd (fun o ho => mcA_ne_eccA d d hk ho (by decide)) ..), s.eccFail_flag d 1 dram]

/-- A transfer refused at its source halts its channel and is flagged (R207). -/
theorem State.unreachable_halts (s : State) (d k c : Nat) (x : Xfer) :
    ((s.unreachable d k c x).chan d k c).halt = some .fabricUnreachable ∧
      (s.unreachable d k c x).flag (fabA 8) 4 = true :=
  ⟨s.haltChan_halt .., State.flag_event _ (by decide) (by decide)⟩

theorem chanOk_iff {d k c : Nat} : chanOk d k c = true ↔ d < 7 ∧ k < 17 ∧ c < 8 := by simp [chanOk]

/-- Two channels of the package are separate. -/
theorem State.chan_setChan_ne (s : State) {d k c e j h : Nat} (x : Chan) (hc : chanOk d k c = true)
    (hh : chanOk e j h = true) (ne : (e, j, h) ≠ (d, k, c)) : (s.setChan d k c x).chan e j h = s.chan e j h := by
  rw [chanOk_iff] at hc hh
  refine tget_tset_ne _ _ _ fun same => ne ?_
  obtain ⟨rfl, rfl, rfl⟩ : e = d ∧ j = k ∧ h = c := by omega
  rfl

/-! ### Berths -/

theorem Frame.berth {m : Nat} {s t : State} (h : Frame m s t) (b : touches m 26 = false) (d i : Nat) :
    t.berth d i = s.berth d i := by
  unfold State.berth
  rw [h.berths b]

theorem Frame.berthState {m : Nat} {s t : State} (h : Frame m s t) (b : touches m 56 = false) (d i : Nat) :
    t.berthState d i = s.berthState d i :=
  State.fld_congr (h.rd_berthA b d i 0) ..

theorem Frame.berthRegion {m : Nat} {s t : State} (h : Frame m s t) (b : touches m 56 = false) (d i : Nat) :
    t.berthRegion d i = s.berthRegion d i := by
  unfold State.berthRegion
  rw [State.flag_congr (h.rd_berthA b d i 0), State.fld_congr (h.rd_berthA b d i 0),
    State.fld_congr (h.rd_berthA b d i 4), State.fld_congr (h.rd_berthA b d i 8)]

theorem State.berthGranted_berth (s : State) (d b : Nat) : (s.berthGranted d b).berth d b = s.berth d b :=
  (s.berthGranted_frame d b).berth rfl d b

/-- GRANTED stands beside STATE (Table 05-15). -/
theorem State.berthGranted_berthState (s : State) (d b : Nat) : (s.berthGranted d b).berthState d b = s.berthState d b :=
  State.fld_put_ne _ _ _ _ _ _ (berthA_ne_berthA d b (by decide))

theorem State.setBerth_berthState (s : State) (d b : Nat) (x : Berth) (e i : Nat) :
    (s.setBerth d b x).berthState e i = s.berthState e i := rfl

/-- A berth that was shut is closed (R129). -/
theorem State.berthShut_berthState (s : State) (d b : Nat) : (s.berthShut d b).berthState d b = 0 := by
  unfold State.berthShut
  rw [(State.dirtyAdd_frame ..).berthState rfl, State.berthGranted_berthState, State.setBerth_berthState]
  exact State.fld_put_self _ _ _ (by decide) (by decide)

/-- A berth that was shut has neither requests nor grants (R129). -/
theorem State.berthShut_berth (s : State) (d b : Nat) :
    (s.berthShut d b).berth d b = { s.berth d b with queue := [], grants := [] } := by
  unfold State.berthShut
  rw [(State.dirtyAdd_frame ..).berth rfl, State.berthGranted_berth, State.berth_setBerth]

/-- A berth that is not due stays as it is. -/
theorem State.berthDue_of_early {s : State} {d b : Nat}
    (h : s.berthState d b = 1 ∨ s.berthState d b = 2 ∧ s.clk.ref < (s.berth d b).closeRef + 100000) :
    s.berthDue d b = s := by
  unfold State.berthDue
  rcases h with h | ⟨-, early⟩
  · rw [if_neg (by simp [h])]
  · rw [if_neg (by simp [Nat.not_le.mpr early])]

theorem State.berthDue_of_closed {s : State} {d b : Nat} (h : s.berthState d b = 0) : s.berthDue d b = s := by
  unfold State.berthDue
  rw [if_neg (by simp [h])]

/-- No berth opens by falling due. -/
theorem State.berthDue_berthState_ne {s : State} {d b : Nat} (h : s.berthState d b ≠ 1) :
    (s.berthDue d b).berthState d b ≠ 1 := by
  unfold State.berthDue
  split
  · rw [State.berthShut_berthState]
    decide
  · exact h

end Sys2Proof.Machine

/-!
Writes into a berth (05_memory_and_berths.md: R127 to R130): what is stored, what is dropped with which flag, the answers
as the sender's channel sees them, and the end of a closing berth.
-/

namespace Sys2Proof.Machine

open Sys2Proof

/-- A message that comes with no packet of its own takes effect. -/
theorem State.received_nil (s : State) (vc : Nat) (f : State → State) : s.received vc [] f = f s := rfl

/-- The grants of a sender in a berth. -/
def State.grantsOf (s : State) (d b srcPkg srcDie c : Nat) : List Credit :=
  (s.berth d b).grants.filter fun g => g.srcPkg == srcPkg && g.srcDie == srcDie && g.chan == c

/-- A grant covers the bytes of a write. -/
def Credit.covers (g : Credit) (off n : Nat) : Bool := decide (g.off ≤ off) && decide (off + n ≤ g.off + g.len)

/-- The bytes of a write are stored, counted and acknowledged (R127). -/
def State.storeWrite (s : State) (d b gen srcPkg srcDie c off : Nat) (data : Bytes) : State :=
  let t := (s.wrBytes d ((s.berthRegion d b).base + off) data).tally d 0x11 0xFF data.length
  t.sendTo (t.creditPkt 5 d b gen srcPkg srcDie c off (leBytes 8 data.length))

theorem State.storeWrite_rdByte (s : State) (d b gen srcPkg srcDie c off : Nat) (data : Bytes) (e a : Nat) :
    (s.storeWrite d b gen srcPkg srcDie c off data).rdByte e a =
      if e = d ∧ (s.berthRegion d b).base + off ≤ a ∧ a < (s.berthRegion d b).base + off + data.length then
        (data.getD (a - ((s.berthRegion d b).base + off)) 0).toNat else s.rdByte e a := by
  unfold State.storeWrite
  rw [(State.sendTo_frame ..).rdByte rfl, (State.tally_frame ..).rdByte rfl, State.rdByte_wrBytes]

/-! ### A write that is dropped -/

/-- A dropped write sets the flag of its status (R127, R130). -/
theorem State.dropWrite_flag {st : Status} {i : Nat}
    (h : (st, i) ∈ [(Status.windowClosed, 0), (.berthNoCredit, 3), (.lengthExceeds, 4)]) (s : State) (d gen : Nat)
    {b : Nat} (hb : b < 256) (srcPkg srcDie c off : Nat) :
    (s.dropWrite d b gen srcPkg srcDie c off st).flag (bthA d 0) i = true := by
  unfold State.dropWrite
  extract_lets t
  rw [State.flag_congr ((State.sendTo_frame ..).rd_bthA rfl d 0)]
  simp only [List.mem_cons, Prod.mk.injEq, List.not_mem_nil, or_false] at h
  rcases h with ⟨rfl, rfl⟩ | ⟨rfl, rfl⟩ | ⟨rfl, rfl⟩
  · have beside : berthA d b 0x14 ≠ bthA d 0 := berthA_ne_bthA d hb (by decide) (by decide)
    exact (State.flag_congr (State.rd_count_ne _ beside) 0).trans
      (State.flag_event s (bthA_ne_bthA d (by decide)) (by decide))
  · exact State.flag_event s (bthA_ne_bthA d (by decide)) (by decide)
  · exact State.flag_event s (bthA_ne_bthA d (by decide)) (by decide)

theorem State.dropWrite_mems (s : State) (d b gen srcPkg srcDie c off : Nat) (st : Status) :
    (s.dropWrite d b gen srcPkg srcDie c off st).comp.mems = s.comp.mems :=
  (State.dropWrite_frame ..).mems rfl

/-! ### What a write comes to -/

section Write

variable {s : State} {d b gen srcPkg srcDie c off : Nat} {data : Bytes} (hd : d < 8) (hb : b < 256)
  (hp : srcPkg < 1024) (hq : srcDie < 7) (hc : c < 8)

include hd hb hp hq hc

/-- A die that the variant does not contain stores nothing (R130). -/
theorem exec_write_absent (absent : s.diePresent d = false) : exec (.write ⟨[], d⟩ b gen srcPkg srcDie c off data) s =
    .next (s.dropWrite d b gen srcPkg srcDie c off .fabricUnreachable) := by
  change execWrite ⟨[], d⟩ b gen srcPkg srcDie c off data s = _
  simp [execWrite, guardI, rxOk, State.received_nil, hd, hb, hp, hq, hc, absent]

variable (present : s.diePresent d = true) (early : s.berthDue d b = s)

include present early

theorem exec_write_closed (h : s.berthState d b = 0 ∨ s.fld (berthA d b 0) 23 16 ≠ gen) :
    exec (.write ⟨[], d⟩ b gen srcPkg srcDie c off data) s =
      .next (s.dropWrite d b gen srcPkg srcDie c off .windowClosed) := by
  change execWrite ⟨[], d⟩ b gen srcPkg srcDie c off data s = _
  simp [execWrite, guardI, rxOk, State.received_nil, hd, hb, hp, hq, hc, present, early, h]

variable (held : s.berthState d b ≠ 0) (named : s.fld (berthA d b 0) 23 16 = gen)

include held named

theorem exec_write_held : exec (.write ⟨[], d⟩ b gen srcPkg srcDie c off data) s =
    .next (if (s.grantsOf d b srcPkg srcDie c).isEmpty then s.dropWrite d b gen srcPkg srcDie c off .berthNoCredit
      else if !(s.grantsOf d b srcPkg srcDie c).any (fun g => g.covers off data.length) then
        s.dropWrite d b gen srcPkg srcDie c off .lengthExceeds
      else s.storeWrite d b gen srcPkg srcDie c off data) := by
  change execWrite ⟨[], d⟩ b gen srcPkg srcDie c off data s = _
  unfold execWrite
  rw [guardI_true (by simp [rxOk, hd, hb, hp, hq, hc]), State.received_nil, if_neg (by simp [present])]
  dsimp only
  rw [early, if_neg (by simp [held, named])]
  rfl

theorem exec_write_ungranted (none : s.grantsOf d b srcPkg srcDie c = []) :
    exec (.write ⟨[], d⟩ b gen srcPkg srcDie c off data) s =
      .next (s.dropWrite d b gen srcPkg srcDie c off .berthNoCredit) := by
  rw [exec_write_held hd hb hp hq hc present early held named, none]
  rfl

theorem exec_write_outside (granted : s.grantsOf d b srcPkg srcDie c ≠ [])
    (outside : (s.grantsOf d b srcPkg srcDie c).any (fun g => g.covers off data.length) = false) :
    exec (.write ⟨[], d⟩ b gen srcPkg srcDie c off data) s =
      .next (s.dropWrite d b gen srcPkg srcDie c off .lengthExceeds) := by
  rw [exec_write_held hd hb hp hq hc present early held named, if_neg (mt List.isEmpty_iff.mp granted), outside]
  rfl

theorem exec_write_inside (inside : (s.grantsOf d b srcPkg srcDie c).any (fun g => g.covers off data.length) = true) :
    exec (.write ⟨[], d⟩ b gen srcPkg srcDie c off data) s = .next (s.storeWrite d b gen srcPkg srcDie c off data) := by
  have granted : s.grantsOf d b srcPkg srcDie c ≠ [] := fun none => by simp [none] at inside
  rw [exec_write_held hd hb hp hq hc present early held named, if_neg (mt List.isEmpty_iff.mp granted), inside]
  rfl

end Write

/-! ### The answers as the channel sees them -/

section Answer

variable {s : State} {d k c : Nat} (ok : chanOk d k c = true) (waits : (s.chan d k c).st = .waitAck)

include ok waits

/-- An acknowledged channel is free, and its grant goes back (R128). -/
theorem exec_writeAck {x : Xfer} (hx : (s.chan d k c).xfer = some x) : exec (.writeAck ⟨[], .chan d⟩ k c) s =
    .next ((s.setChan d k c Chan.init).returnGrant d c x) := by
  change execWriteAck ⟨[], .chan d⟩ k c s = _
  simp [execWriteAck, guardI, rxOk, State.received_nil, State.chanAck, ok, waits, hx]

theorem exec_writeNak {code : Nat} {st : Status}
    (hst : berthStatus [.windowClosed, .berthNoCredit, .lengthExceeds, .fabricUnreachable] code = some st) :
    exec (.writeNak ⟨[], d⟩ k c code) s = .next (s.haltChan d k c st (xferSrc (s.chan d k c).xfer)) := by
  change execWriteNak ⟨[], d⟩ k c code s = _
  simp [execWriteNak, guardI, rxOk, State.received_nil, ok, waits, hst]

end Answer

/-! ### The commands together -/

theorem exec_berthCloseExpiry {s u : State} {d b : Nat} (hd : d < 7) (hb : b < 256) (closing : s.berthState d b = 2)
    (due : s.reachRef ((s.berth d b).closeRef + 100000) = some u) :
    exec (.berthCloseExpiry d b) s = .next (u.berthShut d b) := by
  change execBerthCloseExpiry d b s = _
  simp [execBerthCloseExpiry, guardI, hd, hb, closing, State.atRef_some due]

/-- Settles O48: a write stores through `wrBytes` alone, and every other outcome is `dropWrite`, which touches no
memory. -/
theorem berthWrites : Obligations.BerthWrites := by
  refine ⟨?held, ?gone, ?acked, ?refused, ?expired⟩
  case held =>
    intro s d b gen srcPkg srcDie c off data hd hb hp hq hc present held
    have early : s.berthDue d b = s := State.berthDue_of_early held
    have notClosed : s.berthState d b ≠ 0 := by omega
    intro named mine inGrant at'
    by_cases hn : named
    case neg =>
      exact ⟨_, exec_write_closed hd hb hp hq hc present early (.inr hn), fun h => absurd h hn,
        fun _ => ⟨State.dropWrite_mems .., State.dropWrite_flag (by simp) s d gen hb ..⟩, fun h => absurd h hn,
        fun h => absurd h hn⟩
    by_cases hm : mine = []
    case pos =>
      have outside : ¬inGrant := by simp [inGrant, hm]
      exact ⟨_, exec_write_ungranted hd hb hp hq hc present early notClosed hn hm, fun _ h => absurd h outside,
        fun h => absurd hn h, fun _ _ => ⟨State.dropWrite_mems .., State.dropWrite_flag (by simp) s d gen hb ..⟩,
        fun _ h => absurd hm h⟩
    by_cases hg : inGrant
    case neg =>
      have outside := Bool.eq_false_iff.mpr hg
      exact ⟨_, exec_write_outside hd hb hp hq hc present early notClosed hn hm outside, fun _ h => absurd h hg,
        fun h => absurd hn h, fun _ h => absurd h hm,
        fun _ _ _ => ⟨State.dropWrite_mems .., State.dropWrite_flag (by simp) s d gen hb ..⟩⟩
    case pos =>
      exact ⟨_, exec_write_inside hd hb hp hq hc present early notClosed hn hg,
        fun _ _ e a => s.storeWrite_rdByte .., fun h => absurd hn h, fun _ h => absurd h hm,
        fun _ _ h => absurd hg h⟩
  case gone =>
    intro s d b gen srcPkg srcDie c off data hd hb hp hq hc closed
    cases present : s.diePresent d with
    | false => exact ⟨_, exec_write_absent hd hb hp hq hc present, State.dropWrite_mems .., fun h => by cases h⟩
    | true =>
      have shut : s.berthState d b = 0 := closed.resolve_left (by simp [present])
      exact ⟨_, exec_write_closed hd hb hp hq hc present (State.berthDue_of_closed shut) (.inl shut),
        State.dropWrite_mems .., fun _ => State.dropWrite_flag (by simp) s d gen hb ..⟩
  case acked =>
    intro s d k c x ok waits hx
    have sent := State.returnGrant_frame (s.setChan d k c Chan.init) d c x
    refine ⟨_, exec_writeAck ok waits hx, ?_, sent.mems rfl, fun e j h ne hh => ?_⟩
    · rw [sent.chan rfl, State.chan_setChan]
    · rw [sent.chan rfl, State.chan_setChan_ne _ _ ok hh ne]
  case refused =>
    intro s d k c code st ok waits hst
    exact ⟨_, exec_writeNak ok waits hst, State.haltChan_halt .., State.haltChan_flag ..⟩
  case expired =>
    intro s u d b hd hb closing due
    refine ⟨_, exec_berthCloseExpiry hd hb closing due, u.berthShut_berthState d b, ?_, ?_⟩
    all_goals rw [State.berthShut_berth]

end Sys2Proof.Machine

/-!
Credits (05_memory_and_berths.md: R115, R125, R126, R128, R129): requests and grants at a berth's credit manager, and what
a grant or a refusal does to the sender's channel.
-/

namespace Sys2Proof.Machine

open Sys2Proof

/-! ### Requests (R125, R126) -/

/-- A refused request sets the flag of its status (R125). -/
theorem State.refuseCredit_flag {st : Status} {i : Nat}
    (h : (st, i) ∈ [(Status.windowClosed, 1), (.berthSourceDenied, 2), (.lengthExceeds, 4)]) (s : State)
    (d b gen : Nat) (x : Credit) : (s.refuseCredit d b gen x st).flag (bthA d 0) i = true := by
  unfold State.refuseCredit
  extract_lets t
  rw [State.flag_congr ((State.sendTo_frame ..).rd_bthA rfl d 0)]
  simp only [List.mem_cons, Prod.mk.injEq, List.not_mem_nil, or_false] at h
  rcases h with ⟨rfl, rfl⟩ | ⟨rfl, rfl⟩ | ⟨rfl, rfl⟩ <;>
    exact State.flag_event s (bthA_ne_bthA d (by decide)) (by decide)

theorem State.refuseCredit_berths (s : State) (d b gen : Nat) (x : Credit) (st : Status) :
    (s.refuseCredit d b gen x st).comp.berths = s.comp.berths :=
  (State.refuseCredit_frame ..).berths rfl

/-- A berth takes requests of this package. -/
def State.creditAllowed (s : State) (d b srcPkg : Nat) : Prop :=
  s.fld (berthA d b 0xC) 9 0 ≤ srcPkg ∧ srcPkg ≤ s.fld (berthA d b 0xC) 25 16

/-- A requested range is in order, lies in the berth, and costs no more than its credit pool. -/
def State.creditFits (s : State) (d b off len : Nat) : Prop :=
  off % 8 = 0 ∧ len % 8 = 0 ∧ 8 ≤ len ∧ len ≤ 65536 ∧ off + len ≤ s.fld (berthA d b 8) 15 0 * 4096 ∧
    creditCost len ≤ s.fld (berthA d b 0x10) 12 0

/-- The order of requests of one reference time (log entry 135): by package, then die, then channel. -/
theorem Credit.before_iff (a b : Credit) : a.before b = true ↔ a.ref = b.ref ∧ (a.srcPkg < b.srcPkg ∨
    a.srcPkg = b.srcPkg ∧ (a.srcDie < b.srcDie ∨ a.srcDie = b.srcDie ∧ a.chan < b.chan)) := by
  simp [Credit.before]

/-- A request goes before the first that it precedes, and behind all before that one (R126). -/
theorem queueCredit_split (x : Credit) (q : List Credit) : ∃ older younger, q = older ++ younger ∧
    queueCredit x q = older ++ x :: younger ∧ (∀ y ∈ older, x.before y = false) ∧
    ∀ y ∈ younger.head?, x.before y = true := by
  refine ⟨q.takeWhile fun y => !x.before y, q.dropWhile fun y => !x.before y,
    (List.takeWhile_append_dropWhile ..).symm, rfl, fun y hy => ?_, fun y hy => ?_⟩
  · simpa using List.mem_takeWhile_imp hy
  · have stops := List.head?_dropWhile_not (fun y => !x.before y) q
    rw [Option.mem_def.mp hy] at stops
    simpa using stops

section Request

variable {s : State} {d b gen srcPkg srcDie c off len : Nat} (hd : d < 8) (hb : b < 256) (hp : srcPkg < 1024)
  (hq : srcDie < 7) (hc : c < 8)

include hd hb hp hq hc

theorem exec_creditReq_absent (absent : s.diePresent d = false) :
    exec (.creditReq ⟨[], d⟩ b gen srcPkg srcDie c off len) s =
      .next (s.refuseCredit d b gen ⟨srcPkg, srcDie, c, off, len, s.clk.ref⟩ .fabricUnreachable) := by
  change execCreditReq ⟨[], d⟩ b gen srcPkg srcDie c off len s = _
  simp [execCreditReq, guardI, rxOk, State.received_nil, hd, hb, hp, hq, hc, absent]

variable (present : s.diePresent d = true)

include present

/-- A berth that is not open, or is of another generation, is not the one that the request names. -/
theorem exec_creditReq_closed
    (closed : (s.berthDue d b).berthState d b ≠ 1 ∨ (s.berthDue d b).fld (berthA d b 0) 23 16 ≠ gen) :
    exec (.creditReq ⟨[], d⟩ b gen srcPkg srcDie c off len) s = .next
      ((s.berthDue d b).refuseCredit d b gen ⟨srcPkg, srcDie, c, off, len, s.clk.ref⟩ .windowClosed) := by
  change execCreditReq ⟨[], d⟩ b gen srcPkg srcDie c off len s = _
  simp [execCreditReq, guardI, rxOk, State.received_nil, hd, hb, hp, hq, hc, present, closed]

variable (opened : s.berthState d b = 1) (named : s.fld (berthA d b 0) 23 16 = gen)

include opened named

theorem exec_creditReq_denied (denied : ¬s.creditAllowed d b srcPkg) :
    exec (.creditReq ⟨[], d⟩ b gen srcPkg srcDie c off len) s = .next
      (s.refuseCredit d b gen ⟨srcPkg, srcDie, c, off, len, s.clk.ref⟩ .berthSourceDenied) := by
  have other : srcPkg < s.fld (berthA d b 0xC) 9 0 ∨ s.fld (berthA d b 0xC) 25 16 < srcPkg := by
    unfold State.creditAllowed at denied
    omega
  change execCreditReq ⟨[], d⟩ b gen srcPkg srcDie c off len s = _
  simp [execCreditReq, guardI, rxOk, State.received_nil, hd, hb, hp, hq, hc, present,
    State.berthDue_of_early (.inl opened), opened, named, other]

variable (allowed : s.creditAllowed d b srcPkg)

include allowed

theorem exec_creditReq_allowed : exec (.creditReq ⟨[], d⟩ b gen srcPkg srcDie c off len) s = .next
    (if off % 8 ≠ 0 || len % 8 ≠ 0 || len < 8 || 65536 < len || s.fld (berthA d b 8) 15 0 * 4096 < off + len ||
        s.fld (berthA d b 0x10) 12 0 < creditCost len then
      s.refuseCredit d b gen ⟨srcPkg, srcDie, c, off, len, s.clk.ref⟩ .lengthExceeds
    else s.setBerth d b { s.berth d b with
      queue := queueCredit ⟨srcPkg, srcDie, c, off, len, s.clk.ref⟩ (s.berth d b).queue }) := by
  obtain ⟨low, high⟩ := allowed
  change execCreditReq ⟨[], d⟩ b gen srcPkg srcDie c off len s = _
  unfold execCreditReq
  rw [guardI_true (by simp [rxOk, hd, hb, hp, hq, hc]), State.received_nil, if_neg (by simp [present])]
  dsimp only
  rw [State.berthDue_of_early (.inl opened), if_neg (by simp [opened, named]), if_neg (by simp [low, high])]

theorem exec_creditReq_unfit (unfit : ¬s.creditFits d b off len) :
    exec (.creditReq ⟨[], d⟩ b gen srcPkg srcDie c off len) s = .next
      (s.refuseCredit d b gen ⟨srcPkg, srcDie, c, off, len, s.clk.ref⟩ .lengthExceeds) := by
  rw [exec_creditReq_allowed hd hb hp hq hc present opened named allowed, if_pos]
  unfold State.creditFits at unfit
  simp only [Bool.or_eq_true, decide_eq_true_eq]
  omega

theorem exec_creditReq_queued (fits : s.creditFits d b off len) :
    exec (.creditReq ⟨[], d⟩ b gen srcPkg srcDie c off len) s = .next (s.setBerth d b { s.berth d b with
      queue := queueCredit ⟨srcPkg, srcDie, c, off, len, s.clk.ref⟩ (s.berth d b).queue }) := by
  rw [exec_creditReq_allowed hd hb hp hq hc present opened named allowed, if_neg]
  obtain ⟨hoff, hlen, low, high, inside, cost⟩ := fits
  simp only [Bool.or_eq_true, decide_eq_true_eq]
  omega

end Request

/-! ### Grants (R126, R128, R129) -/

/-- The head of the queue is granted where its units are free and its range meets no grant (R126). -/
theorem State.grantHead_grants {s : State} {d b : Nat} {x : Credit} {rest : List Credit}
    (queued : (s.berth d b).queue = x :: rest) (opened : s.berthState d b = 1)
    (free : creditCost x.len ≤ s.fld (berthA d b 0x10) 12 0 - s.fld (berthA d b 0x10) 28 16)
    (apart : (s.berth d b).grants.all (fun g => !overlaps x.off x.len g.off g.len) = true) :
    (s.grantHead d b).berth d b = { s.berth d b with queue := rest, grants := (s.berth d b).grants ++ [x] } := by
  unfold State.grantHead
  extract_lets y units
  split
  case h_1 none => simp [y, queued] at none
  case h_2 x' rest' head =>
    obtain ⟨rfl, rfl⟩ : x = x' ∧ rest = rest' := by simpa using queued.symm.trans head
    extract_lets t
    rw [if_pos (by simp [units, opened, free, y, apart]), (State.sendTo_frame ..).berth rfl,
      State.berthGranted_berth, State.berth_setBerth]

/-- The grants of a berth without those of a sender. -/
def State.grantsKept (s : State) (d b srcPkg srcDie c : Nat) : List Credit :=
  (s.berth d b).grants.filter fun g => !(g.srcPkg == srcPkg && g.srcDie == srcDie && g.chan == c)

/-- The returned grants leave the list, and GRANTED follows (R128). -/
def State.grantBack (s : State) (d b srcPkg srcDie c : Nat) : State :=
  (s.setBerth d b { s.berth d b with grants := s.grantsKept d b srcPkg srcDie c }).berthGranted d b

theorem State.grantBack_grants (s : State) (d b srcPkg srcDie c : Nat) :
    ((s.grantBack d b srcPkg srcDie c).berth d b).grants = s.grantsKept d b srcPkg srcDie c := by
  unfold State.grantBack
  rw [State.berthGranted_berth, State.berth_setBerth]

theorem State.grantBack_berthState (s : State) (d b srcPkg srcDie c : Nat) :
    (s.grantBack d b srcPkg srcDie c).berthState d b = s.berthState d b := by
  unfold State.grantBack
  rw [State.berthGranted_berthState, State.setBerth_berthState]

theorem exec_creditRelease {s : State} {d b : Nat} (hd : d < 7) (hb : b < 256) (srcPkg srcDie c : Nat) :
    exec (.creditRelease ⟨[], d⟩ b srcPkg srcDie c) s = .next ((s.grantBack d b srcPkg srcDie c).berthDrained d b) := by
  change execCreditRelease ⟨[], d⟩ b srcPkg srcDie c s = _
  unfold execCreditRelease
  rw [guardI_true (by simp [rxOk, hd, hb]), State.received_nil]
  rfl

/-- Closing or not, a berth whose grants were looked through for the last one has the same grants. -/
theorem State.berthDrained_grants (s : State) (d b : Nat) :
    ((s.berthDrained d b).berth d b).grants = (s.berth d b).grants := by
  unfold State.berthDrained
  split
  next last =>
    have none : (s.berth d b).grants = [] := by simp_all
    rw [State.berthShut_berth, none]
  · rfl

/-- A closing berth without a grant is closed (R129). -/
theorem State.berthDrained_last {s : State} {d b : Nat} (closing : s.berthState d b = 2)
    (none : (s.berth d b).grants = []) : (s.berthDrained d b).berthState d b = 0 := by
  unfold State.berthDrained
  rw [if_pos (by simp [closing, none]), State.berthShut_berthState]

theorem State.berthDrained_of_open {s : State} {d b : Nat} (opened : s.berthState d b = 1) : s.berthDrained d b = s := by
  unfold State.berthDrained
  rw [if_neg (by simp [opened])]

/-! ### The sender's channel (R111, R115, R207) -/

theorem Frame.xferCut {m : Nat} {s t : State} (h : Frame m s t) (b : touches m 47 = false) (x : Xfer) :
    t.xferCut x = s.xferCut x := by
  cases x with
  | copy src dst len => rfl
  | berth src pkg die berth gen off len =>
    change (decide (7 ≤ die) || !t.reachable pkg) = (decide (7 ≤ die) || !s.reachable pkg)
    rw [h.reachable b]

section Sender

variable {s : State} {d k c : Nat} (ok : chanOk d k c = true) (waits : (s.chan d k c).st = .waitCredit)

include ok waits

section Granted

variable {src pkg die b gen off len : Nat} (hx : (s.chan d k c).xfer = some (.berth src pkg die b gen off len))

include hx

/-- The destination can no longer be reached: the transfer is refused at the source (R207). -/
theorem exec_creditGrant_cut (cut : s.xferCut (.berth src pkg die b gen off len) = true) :
    exec (.creditGrant (.sender [] d k c)) s =
      .next ((s.tlySync d).unreachable d k c (.berth src pkg die b gen off len)) := by
  change execCreditGrant (.sender [] d k c) s = _
  simp [execCreditGrant, guardI, rxOk, State.received_nil, State.granted, ok, waits, hx,
    (s.tlySync_frame d).xferCut rfl, cut]

variable (way : s.xferCut (.berth src pkg die b gen off len) = false)

include way

/-- The write goes out, and the channel waits for its answer (R127). -/
theorem exec_creditGrant_sent (good : (s.chan d k c).bad = none) :
    ∃ t, exec (.creditGrant (.sender [] d k c)) s = .next t ∧ (t.chan d k c).st = .waitAck := by
  change ∃ t, execCreditGrant (.sender [] d k c) s = .next t ∧ _
  simp only [execCreditGrant, guardI, rxOk, State.received_nil, State.granted, ok, waits, hx, good,
    (s.tlySync_frame d).xferCut rfl, way, List.all_nil, Bool.and_self, if_true, Bool.false_eq_true, if_false]
  refine ⟨_, rfl, ?_⟩
  split
  · rw [State.chan_setChan]
  · rw [(State.sendTo_frame ..).chan rfl, State.chan_setChan]

/-- The words before the one that cannot be read go out, and the channel halts (R115). -/
theorem exec_creditGrant_bad {w : Nat} (bad : (s.chan d k c).bad = some w) :
    ∃ u : State, exec (.creditGrant (.sender [] d k c)) s = .next ((u.eccFail d w 1).haltChan d k c .dmaUncorrectable w) := by
  change ∃ u : State, execCreditGrant (.sender [] d k c) s = _
  simp only [execCreditGrant, guardI, rxOk, State.received_nil, State.granted, ok, waits, hx, bad,
    (s.tlySync_frame d).xferCut rfl, way, List.all_nil, Bool.and_self, if_true, Bool.false_eq_true, if_false]
  exact ⟨_, rfl⟩

end Granted

theorem exec_creditRefuse {code : Nat} {st : Status}
    (hst : berthStatus [.windowClosed, .berthSourceDenied, .lengthExceeds, .fabricUnreachable] code = some st) :
    exec (.creditRefuse ⟨[], d⟩ k c code) s =
      .next ((s.tlySync d).haltChan d k c st (xferSrc (s.chan d k c).xfer)) := by
  change execCreditRefuse ⟨[], d⟩ k c code s = _
  simp [execCreditRefuse, guardI, rxOk, State.received_nil, ok, waits, hst]

end Sender

/-! ### The commands together -/

/-- Settles O47: every refusal is `refuseCredit`, which leaves the berths; a grant, its return and its arrival each
write one berth or one channel, and the packets sent besides touch neither. -/
theorem credits : Obligations.Credits := by
  refine ⟨?opened, ?closed, ?absent, Credit.before_iff, ?granted, ?sender, ?refused, ?released⟩
  case opened =>
    intro s d b gen srcPkg srcDie c off len hd hb hp hq hc present opened named allowed fits c'
    have stays := State.berthDue_of_early (.inl opened)
    by_cases hn : named
    case neg =>
      refine ⟨_, exec_creditReq_closed hd hb hp hq hc present (.inr (by rwa [stays])), fun h => absurd h hn,
        fun _ => ⟨State.refuseCredit_flag (by simp) .., ?_⟩, fun h => absurd h hn, fun h => absurd h hn⟩
      rw [State.refuseCredit_berths, stays]
    by_cases ha : allowed
    case neg =>
      exact ⟨_, exec_creditReq_denied hd hb hp hq hc present opened hn ha, fun _ h => absurd h ha,
        fun h => absurd hn h, fun _ _ => ⟨State.refuseCredit_flag (by simp) .., State.refuseCredit_berths ..⟩,
        fun _ h => absurd h ha⟩
    by_cases hf : fits
    case neg =>
      exact ⟨_, exec_creditReq_unfit hd hb hp hq hc present opened hn ha hf, fun _ _ h => absurd h hf,
        fun h => absurd hn h, fun _ h => absurd ha h,
        fun _ _ _ => ⟨State.refuseCredit_flag (by simp) .., State.refuseCredit_berths ..⟩⟩
    case pos =>
      refine ⟨_, exec_creditReq_queued hd hb hp hq hc present opened hn ha hf, fun _ _ _ => ⟨rfl, ?_⟩,
        fun h => absurd hn h, fun _ h => absurd ha h, fun _ _ h => absurd hf h⟩
      rw [State.berth_setBerth]
      exact queueCredit_split c' _
  case closed =>
    intro s d b gen srcPkg srcDie c off len hd hb hp hq hc present closed
    exact ⟨_, exec_creditReq_closed hd hb hp hq hc present (.inl (State.berthDue_berthState_ne closed)),
      State.refuseCredit_flag (by simp) ..⟩
  case absent =>
    intro s d b gen srcPkg srcDie c off len hd hb hp hq hc absent
    exact ⟨_, exec_creditReq_absent hd hb hp hq hc absent, State.refuseCredit_berths ..⟩
  case granted =>
    intro s d b x rest hd hb queued opened free apart
    have run : exec (.creditGrant (.manager d b)) s = .next (s.grantHead d b) := guardI_true (by simp [hd, hb])
    refine ⟨_, run, ?_, ?_⟩
    all_goals rw [State.grantHead_grants queued opened free apart]
  case sender =>
    intro s d k c src pkg die b gen off len ok waits hx cut
    obtain ⟨-, hk, -⟩ := chanOk_iff.mp ok
    by_cases hcut : cut = true
    case pos =>
      have unreached : cut ≠ false := by simp [hcut]
      exact ⟨_, exec_creditGrant_cut ok waits hx hcut, fun h => absurd h unreached, fun h => absurd h unreached,
        fun _ => State.unreachable_halts ..⟩
    have way : s.xferCut (.berth src pkg die b gen off len) = false := Bool.eq_false_iff.mpr hcut
    cases hbad : (s.chan d k c).bad with
    | none =>
      obtain ⟨t, run, sent⟩ := exec_creditGrant_sent ok waits hx way hbad
      exact ⟨t, run, fun _ _ => sent, fun _ w h => (nomatch h), fun h => absurd h hcut⟩
    | some w =>
      obtain ⟨u, run⟩ := exec_creditGrant_bad ok waits hx way hbad
      refine ⟨_, run, fun _ h => (nomatch h), fun _ v hv => ?_, fun h => absurd h hcut⟩
      cases hv
      exact u.haltChan_eccFail d c hk w
  case refused =>
    intro s d k c code st ok waits hst
    exact ⟨_, exec_creditRefuse ok waits hst, State.haltChan_halt .., State.haltChan_flag ..⟩
  case released =>
    intro s d b srcPkg srcDie c hd hb keep
    refine ⟨_, exec_creditRelease hd hb srcPkg srcDie c, ?_, fun closing none => ?_, fun opened => ?_⟩
    · rw [State.berthDrained_grants, State.grantBack_grants]
      rfl
    · exact State.berthDrained_last ((s.grantBack_berthState ..).trans closing) ((s.grantBack_grants ..).trans none)
    · have stays := (s.grantBack_berthState d b srcPkg srcDie c).trans opened
      rw [State.berthDrained_of_open stays, stays]

end Sys2Proof.Machine

/-!
DMA transfers (05_memory_and_berths.md: R110, R111, R115, R122; log entries 79, 80 and 136): a free channel's pending copy, the
checks of its next transfer, and a word that cannot be read.
-/

namespace Sys2Proof.Machine

open Sys2Proof

/-! ### The pending copy (log entry 79) -/

theorem State.finishCopy_copying {s : State} {d k c a b n : Nat} (st : (s.chan d k c).st = .copying)
    (hx : (s.chan d k c).xfer = some (.copy a b n)) :
    s.finishCopy d k c = (s.wrBytes d b (s.rdBytes d a n)).setChan d k c { s.chan d k c with st := .idle } := by
  unfold State.finishCopy
  rw [st, hx]

/-- A channel without a pending copy has nothing to finish. -/
theorem State.finishCopy_none {s : State} {d k c : Nat}
    (h : ∀ a b n, (s.chan d k c).st = .copying → (s.chan d k c).xfer ≠ some (.copy a b n)) : s.finishCopy d k c = s := by
  unfold State.finishCopy
  split
  case h_1 a b n st hx => exact absurd hx (h a b n st)
  case h_2 => rfl

/-- The copied range reads as its source did. -/
theorem State.rdBytes_wrBytes_rdBytes (s : State) (d a b n : Nat) :
    (s.wrBytes d b (s.rdBytes d a n)).rdBytes d b n = s.rdBytes d a n := by
  have read := s.rdBytes_wrBytes d b (s.rdBytes d a n)
  rwa [State.length_rdBytes] at read

/-- No byte outside the copied range changes. -/
theorem State.rdByte_wrBytes_rdBytes (s : State) (d a b n : Nat) {e q : Nat} (h : e ≠ d ∨ q < b ∨ b + n ≤ q) :
    (s.wrBytes d b (s.rdBytes d a n)).rdByte e q = s.rdByte e q := by
  rw [State.rdByte_wrBytes, State.length_rdBytes, if_neg (by omega)]

theorem State.finishCopy_rdBytes {s : State} {d k c a b n : Nat} (st : (s.chan d k c).st = .copying)
    (hx : (s.chan d k c).xfer = some (.copy a b n)) : (s.finishCopy d k c).rdBytes d b n = s.rdBytes d a n := by
  rw [State.finishCopy_copying st hx, (State.setChan_frame ..).rdBytes rfl, State.rdBytes_wrBytes_rdBytes]

theorem State.finishCopy_rdByte {s : State} {d k c e q : Nat} (apart : ∀ a b n, (s.chan d k c).st = .copying →
    (s.chan d k c).xfer = some (.copy a b n) → e ≠ d ∨ q < b ∨ b + n ≤ q) :
    (s.finishCopy d k c).rdByte e q = s.rdByte e q := by
  by_cases pending : ∃ a b n, (s.chan d k c).st = .copying ∧ (s.chan d k c).xfer = some (.copy a b n)
  · obtain ⟨a, b, n, st, hx⟩ := pending
    rw [State.finishCopy_copying st hx, (State.setChan_frame ..).rdByte rfl,
      State.rdByte_wrBytes_rdBytes _ _ _ _ _ (apart a b n st hx)]
  · rw [State.finishCopy_none fun a b n st hx => pending ⟨a, b, n, st, hx⟩]

/-! ### A channel that takes a transfer -/

/-- The counters taken up to now, the copy before finished, and the transfer in its channel. -/
def State.readyChan (s : State) (d k c : Nat) (x : Xfer) : State :=
  ((s.tlySync d).finishCopy d k c).setChan d k c ⟨.idle, some x, none, none⟩

section Ready

variable (s : State) (d k c : Nat) (x : Xfer)

theorem State.readyChan_frame : Frame 0x2000802300008 s (s.readyChan d k c x) :=
  (((s.tlySync_frame d).mono rfl).step (State.finishCopy_frame ..) rfl).step (State.setChan_frame ..) rfl

theorem State.readyChan_rdBytes {a b n : Nat} (st : (s.chan d k c).st = .copying)
    (hx : (s.chan d k c).xfer = some (.copy a b n)) : (s.readyChan d k c x).rdBytes d b n = s.rdBytes d a n := by
  have same := (s.tlySync_frame d).chan rfl d k c
  unfold State.readyChan
  rw [(State.setChan_frame ..).rdBytes rfl, State.finishCopy_rdBytes (same ▸ st) (same ▸ hx),
    (s.tlySync_frame d).rdBytes rfl]

theorem State.readyChan_rdByte {e q : Nat} (apart : ∀ a b n, (s.chan d k c).st = .copying →
    (s.chan d k c).xfer = some (.copy a b n) → e ≠ d ∨ q < b ∨ b + n ≤ q) :
    (s.readyChan d k c x).rdByte e q = s.rdByte e q := by
  unfold State.readyChan
  rw [(State.setChan_frame ..).rdByte rfl, State.finishCopy_rdByte (by rwa [(s.tlySync_frame d).chan rfl]),
    (s.tlySync_frame d).rdByte rfl]

theorem State.readyChan_jobBerths (j : Job) : (s.readyChan d k c x).jobBerths j = s.jobBerths j := by
  unfold State.jobBerths
  simp only [(s.readyChan_frame d k c x).berths rfl, (s.readyChan_frame d k c x).berthState rfl,
    (s.readyChan_frame d k c x).berthRegion rfl]

theorem State.readyChan_jobReach (j : Job) : (s.readyChan d k c x).jobReach j = s.jobReach j := by
  unfold State.jobReach State.pkg State.strm
  rw [State.readyChan_jobBerths, (s.readyChan_frame d k c x).pkgs rfl, (s.readyChan_frame d k c x).strm rfl]

/-- The checks of a transfer are of the state that the command met. -/
theorem State.readyChan_xferMine (y : Xfer) : (s.readyChan d k c x).xferMine d k y = s.xferMine d k y := by
  unfold State.xferMine State.reachOk
  simp only [(s.readyChan_frame d k c x).core rfl, (s.readyChan_frame d k c x).job rfl, State.readyChan_jobReach]

theorem State.readyChan_xferClash (y : Xfer) : (s.readyChan d k c x).xferClash d k y = s.xferClash d k y := by
  have owner : (s.readyChan d k c x).bankOwner d k = s.bankOwner d k := by
    funext b
    unfold State.bankOwner State.rd64
    have high : mcA d k 0x54 + 4 = mcA d k 0x58 := by unfold mcA; omega
    rw [high, (s.readyChan_frame d k c x).rd_mcA rfl, (s.readyChan_frame d k c x).rd_mcA rfl]
  unfold State.xferClash State.dmaClash
  rw [owner]

end Ready

/-! ### A transfer's outcomes -/

/-- A transfer that passed every check: a copy is pending, a berth transfer asks for its credit (R110, R126). -/
def State.startXfer (s : State) (d k c : Nat) : Xfer → State
  | .copy a b n => s.setChan d k c ⟨.copying, some (.copy a b n), none, none⟩
  | .berth a pkg die b gen off n => (s.setChan d k c ⟨.waitCredit, some (.berth a pkg die b gen off n), none, none⟩).sendTo
      ⟨2, 0, pkg, die, s.pkgNum, d, c, b, gen, off, 0, 0, leBytes 8 n⟩

section Issue

variable {s : State} {d k c : Nat} {x : Xfer} (ok : chanOk d k c = true)

include ok

theorem exec_dmaTransferIssue_idle (h : s.running d k = false ∨ (s.chan d k c).halt ≠ none ∨
    (s.chan d k c).st = .waitCredit ∨ (s.chan d k c).st = .waitAck) : exec (.dmaTransferIssue d k c x) s = .next s := by
  change execDmaTransferIssue d k c x s = _
  unfold execDmaTransferIssue
  rw [guardI_true ok]
  extract_lets ch
  rw [if_pos]
  simpa [ch, Option.isSome_iff_ne_none, or_assoc] using h

variable (runs : s.running d k = true) (whole : (s.chan d k c).halt = none)
  (credit : (s.chan d k c).st ≠ .waitCredit) (ack : (s.chan d k c).st ≠ .waitAck)

include runs whole credit ack

theorem exec_dmaTransferIssue_refused (bad : xferOk k x = false ∨ s.xferMine d k x = false) :
    exec (.dmaTransferIssue d k c x) s =
      .next ((s.readyChan d k c x).haltChan d k c .lengthExceeds (xferSrc (some x))) := by
  change execDmaTransferIssue d k c x s = _
  unfold execDmaTransferIssue
  rw [guardI_true ok]
  extract_lets ch t u
  have mine : u.xferMine d k x = s.xferMine d k x := s.readyChan_xferMine d k c x x
  rw [if_neg (by simp [ch, runs, whole, credit, ack]), if_pos (by simpa [mine] using bad)]
  rfl

theorem exec_dmaTransferIssue_checked (good : xferOk k x = true) (mine : s.xferMine d k x = true) :
    exec (.dmaTransferIssue d k c x) s = .next (match s.xferClash d k x with
      | some a => ((s.readyChan d k c x).memFault d k 0 0 .bankConflict 0 3 a).jobFault d k .bankConflict
      | none =>
        if s.xferCut x then (s.readyChan d k c x).unreachable d k c x
        else (s.readyChan d k c x).startXfer d k c x) := by
  change execDmaTransferIssue d k c x s = _
  unfold execDmaTransferIssue
  rw [guardI_true ok]
  extract_lets ch t u
  have held : u.xferMine d k x = true := (s.readyChan_xferMine d k c x x).trans mine
  have clash : u.xferClash d k x = s.xferClash d k x := s.readyChan_xferClash d k c x x
  have cut : u.xferCut x = s.xferCut x := (s.readyChan_frame d k c x).xferCut rfl x
  rw [if_neg (by simp [ch, runs, whole, credit, ack]), if_neg (by simp [good, held]), clash, cut]
  cases x <;> rfl

end Issue

section Started

variable (s : State) (d k c : Nat) (x : Xfer)

theorem State.startXfer_frame : Frame 0x20008c210000c s (s.startXfer d k c x) := by
  cases x with
  | copy a b n => exact (State.setChan_frame ..).mono rfl
  | berth a pkg die b gen off n => exact ((State.setChan_frame ..).mono rfl).step (State.sendTo_frame ..) rfl

theorem State.startXfer_chan : (s.startXfer d k c x).chan d k c =
    ⟨match x with | .copy _ _ _ => .copying | .berth _ _ _ _ _ _ _ => .waitCredit, some x, none, none⟩ := by
  cases x with
  | copy a b n => exact State.chan_setChan ..
  | berth a pkg die b gen off n => exact ((State.sendTo_frame ..).chan rfl d k c).trans (State.chan_setChan ..)

end Started

/-! ### A word that cannot be read (R115) -/

section Word

variable {s : State} {d k c word src n : Nat} (ok : chanOk d k c = true) (low : src ≤ word) (high : word < src + n)
  (aligned : word % 8 = 0)

include ok low high aligned

theorem exec_dmaUncorrectable_copy {dst : Nat} (st : (s.chan d k c).st = .copying)
    (hx : (s.chan d k c).xfer = some (.copy src dst n)) : exec (.dmaUncorrectable d k c word) s =
      .next (((s.wrBytes d dst (s.rdBytes d src (word - src))).eccFail d word 1).haltChan d k c .dmaUncorrectable word) := by
  change execDmaUncorrectable d k c word s = _
  simp [execDmaUncorrectable, guardI, ok, st, hx, low, high, aligned]

theorem exec_dmaUncorrectable_berth {pkg die b gen off : Nat} (st : (s.chan d k c).st = .waitCredit)
    (hx : (s.chan d k c).xfer = some (.berth src pkg die b gen off n))
    (first : ∀ w, (s.chan d k c).bad = some w → word ≤ w) : exec (.dmaUncorrectable d k c word) s =
      .next (s.setChan d k c { s.chan d k c with bad := some word }) := by
  change execDmaUncorrectable d k c word s = _
  simp only [execDmaUncorrectable, guardI, ok, st, hx, low, high, aligned, if_true, decide_true, Bool.and_self]
  cases bad : (s.chan d k c).bad with
  | none => rfl
  | some w =>
    have kept : min w word = word := Nat.min_eq_right (first w bad)
    simp only [kept]

end Word

/-! ### The commands together -/

theorem State.loss_of_running {s : State} {d k : Nat} (h : s.running d k = true) : s.loss = none := by
  unfold State.running at h
  exact Option.isNone_iff_eq_none.mp (Bool.and_eq_true_iff.mp h).1

/-- Settles O46: what a transfer does starts from `readyChan`, whose frame keeps everything that its checks read, and
each outcome beyond it is a halted channel, a loss, or a channel and its packet. -/
theorem dmaTransfers : Obligations.DmaTransfers := by
  refine ⟨?issue, ?idle, ?copy, ?berth⟩
  case issue =>
    intro s d k c x ok runs whole credit ack
    by_cases bad : xferOk k x = false ∨ s.xferMine d k x = false
    case pos =>
      have never : xferOk k x = true → s.xferMine d k x = true → False := fun good mine => by simp [good, mine] at bad
      exact ⟨_, exec_dmaTransferIssue_refused ok runs whole credit ack bad, fun good mine => (never good mine).elim,
        fun _ => ⟨State.haltChan_halt .., State.haltChan_flag ..⟩, fun good mine => (never good mine).elim,
        fun _ good mine => (never good mine).elim⟩
    case neg =>
      obtain ⟨good, mine⟩ : xferOk k x = true ∧ s.xferMine d k x = true := by simpa using bad
      have before := s.readyChan_frame d k c x
      refine ⟨_, exec_dmaTransferIssue_checked ok runs whole credit ack good mine, ?started, fun h => absurd h bad, ?cut, ?clash⟩
      case started =>
        intro _ _ clash cut
        have after := (s.readyChan d k c x).startXfer_frame d k c x
        rw [clash, cut, if_neg (by decide), State.startXfer_chan, after.loss rfl, before.loss rfl]
        refine ⟨rfl, rfl, State.loss_of_running runs, rfl, fun a b n st hx => ?_, fun e q apart => ?_⟩
        · rw [after.rdBytes rfl, s.readyChan_rdBytes d k c x st hx]
        · rw [after.rdByte rfl, s.readyChan_rdByte d k c x apart]
      case cut =>
        intro _ _ clash cut
        rw [clash, cut]
        exact State.unreachable_halts ..
      case clash =>
        intro a _ _ clash
        rw [clash]
        obtain ⟨lost, jobs, -⟩ := ((State.jobFault_allLost ..).after (State.memFault_frame ..) rfl rfl).after before rfl rfl
        exact ⟨lost, jobs⟩
  case idle =>
    intro s d k c x ok h
    exact exec_dmaTransferIssue_idle ok h
  case copy =>
    intro s d k c word src dst n ok st hx low high aligned
    refine ⟨_, exec_dmaUncorrectable_copy ok low high aligned st hx, ?_⟩
    obtain ⟨-, hk, -⟩ := chanOk_iff.mp ok
    obtain ⟨halted, flagged, dram⟩ :=
      (s.wrBytes d dst (s.rdBytes d src (word - src))).haltChan_eccFail d c hk word
    have after := ((State.eccFail_frame (s.wrBytes d dst (s.rdBytes d src (word - src))) d word 1).mono rfl).step
      (State.haltChan_frame _ d k c .dmaUncorrectable word) (rfl : 0x100000002100008 &&& 0x100000102100008 = 0x100000002100008)
    refine ⟨halted, flagged, dram, ?_, fun e q apart => ?_⟩
    · rw [after.rdBytes rfl, State.rdBytes_wrBytes_rdBytes]
    · rw [after.rdByte rfl, State.rdByte_wrBytes_rdBytes _ _ _ _ _ apart]
  case berth =>
    intro s d k c word src pkg die b gen off n ok st hx low high aligned first
    exact ⟨_, exec_dmaUncorrectable_berth ok low high aligned st hx first, State.chan_setChan .., rfl, rfl⟩

end Sys2Proof.Machine

/-!
Tiles and zeroing (05_memory_and_berths.md: R106, R108, R121; 06_placement_and_scheduling.md: R147, R160, R162): what a dispatch
writes, and what a tile's end leaves through the levels and collectives that its job steps to.
-/

namespace Sys2Proof.Machine

open Sys2Proof

/-! ### The plan of a job -/

/-- A job that is read after a rewriting is a rewritten job. -/
theorem State.exists_job_of_updJob {s : State} {id : Nat} {f : Job → Job} {x : Job}
    (h : (s.updJob id f).job id = some x) (hid : ∀ j, (f j).id = j.id) : ∃ y, s.job id = some y ∧ f y = x := by
  cases hj : s.job id with
  | some j =>
    rw [State.job_updJob hj (hid j)] at h
    exact ⟨j, rfl, Option.some.inj h⟩
  | none =>
    obtain ⟨y, hy, rfl⟩ := List.mem_map.mp (List.mem_of_find?_eq_some h)
    have unnamed : ¬(y.id == id) = true := List.find?_eq_none.mp hj y hy
    rw [if_neg unnamed] at h
    exact absurd (List.find?_some h) unnamed

/-- The tiles of a plan that are rewritten by number have the new state. -/
theorem PlanTile.st_of_mem_mapIf {tile st : Nat} {l : List PlanTile} {u : PlanTile}
    (h : u ∈ mapIf (fun u => u.tile == tile) (fun u => { u with st := st }) l) (hu : u.tile = tile) : u.st = st := by
  obtain ⟨x, -, rfl⟩ := List.mem_map.mp h
  by_cases named : (x.tile == tile) = true
  · simp [named]
  · rw [if_neg named] at hu
    exact absurd (beq_iff_eq.mpr hu) named

/-- A tile of a job is marked running, and its semaphores are held (R165). -/
def Job.startTile (tile : Nat) (j : Job) : Job :=
  { j with
    plan := mapIf (fun u => u.tile == tile) (fun u => { u with st := 1 }) j.plan
    sems := mapIf (fun x => x.acq == tile) (fun x => { x with held := true }) j.sems }

/-- A tile of a job is marked done, and its semaphores are released (R165). -/
def Job.endTile (tile : Nat) (j : Job) : Job :=
  { j with
    plan := mapIf (fun u => u.tile == tile) (fun u => { u with st := 2 }) j.plan
    sems := mapIf (fun x => x.rel == tile) (fun x => { x with held := false }) j.sems }

/-! ### Dispatch (R160) -/

/-- A dispatch writes the bank owners, then the core and its job. -/
theorem State.dispatch_eq (s : State) (d k : Nat) (j : Job) (w : PlanTile) (moved : Bool) :
    ∃ (u : State) (banks : Tbl (Option Nat)), Frame 0x10201000c310008 s u ∧
      u.rd (mcA d k 0x54) = BitVec.ofNat 32 (s.tileOwner j w.tile) ∧
      s.dispatch d k j w moved = ((u.setCore d k { u.core d k with
        tile := some ⟨j.id, w.tile, w.op, u.clk.ref⟩, last := some j.id, banks := banks }).updJob j.id
          (Job.startTile w.tile)).tally 7 0x61 0xFF 1 := by
  unfold State.dispatch
  extract_lets o pk prog preempted migrated claimed loaded owned banks
  have fp : Frame 0x10201000c310008 s preempted :=
    Frame.ite (fun _ => State.count_frame rfl rfl ..) fun _ => .refl _ _
  have fm : Frame 0x10201000c310008 s migrated :=
    Frame.ite (fun _ => fp.trans (State.count_frame rfl rfl ..)) fun _ => fp
  have fl : Frame 0x10201000c310008 s loaded :=
    (((fm.step (State.claim_frame ..) rfl).step (State.displace_frame ..) rfl).step (State.opBerth_frame ..) rfl).step
      (State.wrBytes_frame ..) rfl
  have fo : Frame 0x10201000c310008 s owned :=
    (fl.trans (State.wr_frame rfl (tb_mcA rfl) ..)).trans (State.wr_frame rfl (tb_mcA rfl) ..)
  refine ⟨owned, banks, fo, ?_, rfl⟩
  unfold owned
  rw [State.rd_wr_ne _ _ (mcA_ne_mcA d k d k (by decide)), State.rd_wr_self]

section Dispatch

variable {s : State} {d k : Nat} (hd : d < 7) (hk : k < 17)

include hd hk

theorem exec_tileDispatch_idle
    (h : s.loss ≠ none ∨ s.coreRole d k ≠ 1 ∨ (s.core d k).tile ≠ none ∨ (s.core d k).held = true) :
    exec (.tileDispatch d k) s = .next s := by
  change execTileDispatch d k s = _
  unfold execTileDispatch
  rw [guardI_true (by simp [hd, hk])]
  extract_lets x
  rw [if_pos]
  simpa [x, Option.isSome_iff_ne_none, or_assoc] using h

theorem exec_tileDispatch_picks {j : Job} {w : PlanTile} {moved : Bool} (loss : s.loss = none)
    (role : s.coreRole d k = 1) (idle : (s.core d k).tile = none) (free : (s.core d k).held = false)
    (pick : s.pickTile d k (s.fld (mcA d k 0) 12 8) = some (j, w, moved)) :
    exec (.tileDispatch d k) s = .next (if j.displaced then s.updJob j.id fun j => { j with phase := .staging }
      else (s.tlySync d).dispatch d k j w moved) := by
  change execTileDispatch d k s = _
  unfold execTileDispatch
  rw [guardI_true (by simp [hd, hk])]
  extract_lets x
  rw [if_neg (by simp [x, loss, role, idle, free]), pick]

end Dispatch

/-! ### What a tile's end leaves -/

/-- Core `k` of die `d` runs nothing, and tile `tile` of job `id` is done. -/
structure State.TileDone (d k id tile : Nat) (s : State) : Prop where
  idle : (s.core d k).tile = none
  done : ∀ x, s.job id = some x → ∀ u ∈ x.plan, u.tile = tile → u.st = 2

section TileDone

variable {d k id tile : Nat} {s : State}

theorem State.TileDone.frame {m : Nat} {t : State} (h : s.TileDone d k id tile) (f : Frame m s t)
    (b16 : touches m 16 = false) (b24 : touches m 24 = false) : t.TileDone d k id tile := by
  refine ⟨?_, fun x hx => ?_⟩
  · rw [f.core b24, h.idle]
  · exact h.done x ((f.job b16 id).symm.trans hx)

/-- A change of a job that keeps its plan. -/
theorem State.TileDone.updJob (h : s.TileDone d k id tile) (i : Nat) {f : Job → Job} (hid : ∀ x, (f x).id = x.id)
    (hplan : ∀ x, (f x).plan = x.plan) : (s.updJob i f).TileDone d k id tile := by
  refine ⟨?_, fun x hx => ?_⟩
  · rw [(State.updJob_frame ..).core rfl, h.idle]
  by_cases named : id = i
  · subst named
    obtain ⟨y, hy, rfl⟩ := State.exists_job_of_updJob hx hid
    rw [hplan]
    exact h.done y hy
  · rw [State.job_updJob_ne _ hid named] at hx
    exact h.done x hx

/-! #### A job that ends -/

/-- A core without a job that ended: neither its last, nor the holder of its banks. -/
def Core.without (id : Nat) (x : Core) : Core :=
  { x with last := if x.last = some id then none else x.last, banks := x.banks.filter (fun b => b.2 != some id) }

/-- A job that is freed leaves the tile of every core. -/
theorem State.jobFree_tile (s : State) (j : Job) (st : Status) (d k : Nat) :
    ((s.jobFree j st).core d k).tile = (s.core d k).tile := by
  unfold State.jobFree
  extract_lets freed closed comp left removed idle
  have before : closed.core d k = s.core d k :=
    ((State.closeBerths_frame ..).core rfl d k).trans ((s.dirtyAdd_frame _).core rfl d k)
  have here : left.core d k = (closed.core d k).without j.id := tget_map (Core.without j.id) Core.init ..
  have after : Frame 0x102080928110008 left (j.streams.foldl State.unbindStream idle) :=
    (((State.setJobs_frame ..).mono rfl).foldl fun _ _ h => h.step (State.kvIdle_frame ..) rfl).foldl
      fun _ _ h => h.step (State.unbindStream_frame ..) rfl
  rw [after.core rfl, here, before]
  rfl

theorem State.jobEnd_tile (s : State) (i : Nat) (st : Status) (d k : Nat) :
    ((s.jobEnd i st).core d k).tile = (s.core d k).tile := by
  cases hj : s.job i with
  | none =>
    unfold State.jobEnd
    rw [hj]
  | some j =>
    obtain ⟨u, -, before, after⟩ := State.jobEnd_eq hj st
    rw [after.core rfl, State.jobFree_tile, before.core rfl]

theorem State.TileDone.jobEnd (h : s.TileDone d k id tile) (i : Nat) (st : Status) :
    (s.jobEnd i st).TileDone d k id tile := by
  refine ⟨(s.jobEnd_tile i st d k).trans h.idle, fun x hx => ?_⟩
  cases hj : s.job i with
  | none =>
    unfold State.jobEnd at hx
    rw [hj] at hx
    exact h.done x hx
  | some j =>
    by_cases named : id = i
    · subst named
      rw [State.jobEnd_job_self hj] at hx
      contradiction
    · rw [State.jobEnd_job_ne hj st named] at hx
      exact h.done x hx

theorem State.TileDone.endSoon (h : s.TileDone d k id tile) (i : Nat) (st : Status) :
    (s.endSoon i st).TileDone d k id tile := by
  unfold State.endSoon
  split
  · exact h
  · split_ifs
    · exact h
    · exact h.updJob i (fun _ => rfl) fun _ => rfl
    · exact h.jobEnd i st

theorem State.TileDone.haltJob (h : s.TileDone d k id tile) (i : Nat) (st : Status) :
    (s.haltJob i st).TileDone d k id tile := by
  unfold State.haltJob
  split
  · exact h
  · split_ifs
    · exact h.updJob i (fun _ => rfl) fun _ => rfl
    · exact h
    · exact (h.frame (State.report_frame ..) rfl rfl).endSoon i st

theorem State.TileDone.actEnd (h : s.TileDone d k id tile) : (s.actEnd id).TileDone d k id tile := by
  refine ⟨((s.actEnd_frame id).core rfl d k ▸ h.idle), fun x hx => ?_⟩
  cases hj : s.job id with
  | none =>
    unfold State.actEnd at hx
    rw [hj] at hx
    exact h.done x hx
  | some j =>
    cases ha : j.act with
    | none =>
      unfold State.actEnd at hx
      simp only [hj, ha] at hx
      exact h.done x (hj.trans hx)
    | some a =>
      rw [State.actEnd_job hj ha] at hx
      obtain rfl := Option.some.inj hx
      exact h.done j hj

theorem State.TileDone.boundary (h : s.TileDone d k id tile) : (s.boundary id).TileDone d k id tile := by
  unfold State.boundary
  split
  · exact h
  · split
    · exact h
    · split
      · exact h.jobEnd ..
      · split
        · exact h.actEnd
        · exact h
      · exact h

/-! #### The collectives of a level (R211) -/

theorem State.TileDone.updColl (h : s.TileDone d k id tile) (c : CollCtx) (f : Coll → Coll) :
    (s.updColl c f).TileDone d k id tile :=
  h.updJob c.id (fun _ => rfl) fun _ => rfl

theorem State.TileDone.collTo (h : s.TileDone d k id tile) (c : CollCtx) (r : Nat) (part : CollPart) (data : Bytes) :
    (s.collTo c r part data).TileDone d k id tile := by
  unfold State.collTo
  extract_lets dst node
  split
  · exact h.frame (State.sendTo_frame ..) rfl rfl
  · exact (h.frame s.abortEvent_frame rfl rfl).haltJob ..

theorem State.TileDone.collStored (h : s.TileDone d k id tile) (c : CollCtx) (src type rank : Nat) (data : Bytes) :
    ((s.collStore c src data).collTell c type rank).TileDone d k id tile :=
  (h.frame (State.collStore_frame ..) rfl rfl).frame (State.collTell_frame ..) rfl rfl

theorem State.TileDone.collGives (h : s.TileDone d k id tile) (c : CollCtx) (xs : List (Nat × Bytes)) :
    (xs.foldl (State.collGive c) s).TileDone d k id tile := by
  refine foldl_keep h fun t x _ ht => ?_
  unfold State.collGive
  split
  · exact ht.collStored ..
  · exact (ht.updColl c _).collTo ..

theorem State.TileDone.collNode (c : CollCtx) (n : Nat) (h : s.TileDone d k id tile) (node : Nat × Nat) (b : Bytes) :
    (State.collNode c n node b s).TileDone d k id tile := by
  induction n generalizing s node b with
  | zero => exact h
  | succ n ih =>
    unfold State.collNode
    extract_lets x home sib
    split
    · exact h.collTo ..
    · split
      · exact h.collGives c _
      · split
        · exact h.updColl c _
        · exact ih (h.updColl c _) _ _

theorem State.TileDone.collArr (h : s.TileDone d k id tile) (c : CollCtx) (r : Nat) (b : Bytes) :
    (s.collArr c r b).TileDone d k id tile := by
  unfold State.collArr
  split
  · exact h.collTo ..
  · extract_lets old arr sum
    split
    · exact h.updColl c _
    · exact (h.updColl c _).collGives c _

theorem State.TileDone.collRank (h : s.TileDone d k id tile) (c : CollCtx) (r : Nat) (data : Bytes) :
    (s.collIn c (.rank r) data).TileDone d k id tile := by
  unfold State.collIn
  dsimp only
  split_ifs
  · exact h
  · exact h.collNode ..
  · exact h.collArr ..

theorem State.TileDone.collOwn (h : s.TileDone d k id tile) (c : CollCtx) : (s.collOwn c).TileDone d k id tile := by
  unfold State.collOwn
  split
  · exact h
  · extract_lets b n g
    split_ifs
    · exact h.collGives c _
    · exact h.collGives c _
    · exact h
    · exact h
    · exact h.collRank ..

theorem State.TileDone.collStart (h : s.TileDone d k id tile) (j : Job) (p : Package) (l : Nat) :
    (s.collStart j p l).TileDone d k id tile := by
  unfold State.collStart
  extract_lets t
  exact foldl_keep (h.updJob j.id (fun _ => rfl) fun _ => rfl) fun _ c _ ht => ht.collOwn c

theorem State.TileDone.collsEnd (h : s.TileDone d k id tile) (j : Job) (p : Package) (l : Nat) :
    (s.collsEnd j p l).TileDone d k id tile := by
  have counted : (s.countN (fabA 0x1C) (collOps p l).length).TileDone d k id tile :=
    h.frame (State.countN_frame (m := 0x800000100000) rfl (tb_fabA rfl) ..) rfl rfl
  unfold State.collsEnd
  exact (counted.frame (State.closeBerths_frame ..) rfl rfl).updJob j.id (fun _ => rfl) fun _ => rfl

theorem levelStep_plan (p : Package) (n : Nat) (x : Job) : (levelStep p n x).plan = x.plan := by
  induction n generalizing x with
  | zero => rfl
  | succ n ih =>
    unfold levelStep
    split
    · rfl
    · split
      · rfl
      · exact ih _

theorem State.TileDone.levelsOn (i : Nat) (p : Package) (n : Nat) (h : s.TileDone d k id tile) :
    (State.levelsOn i p n s).TileDone d k id tile := by
  induction n generalizing s with
  | zero => exact h
  | succ n ih =>
    unfold State.levelsOn
    extract_lets t
    have stepped : t.TileDone d k id tile := h.updJob i (levelStep_id p _) (levelStep_plan p _)
    split
    · exact stepped
    · split
      · exact stepped
      · split
        · exact stepped
        · extract_lets u
          have waited : u.TileDone d k id tile := by
            unfold u
            split
            · exact stepped
            · exact stepped.collStart ..
          split
          · exact waited
          · split
            · exact ih (waited.collsEnd ..)
            · exact waited

theorem State.TileDone.stepLevels (h : s.TileDone d k id tile) (i : Nat) : (s.stepLevels i).TileDone d k id tile := by
  unfold State.stepLevels
  split
  · exact h.levelsOn ..
  · exact h

end TileDone

/-! ### The end of a tile (R106) -/

/-- The state in which a tile's operations take place: counters and copies are brought up to now. -/
def State.tileReady (s : State) (d k : Nat) (fixes : EccFixes) : State :=
  (List.range 8).foldl (fun s c => s.finishCopy d k c) ((s.tlySync d).eccFixed d k fixes)

/-- The job whose tile ended steps its levels, takes a channel's halt, and comes to its tile boundary. -/
def State.goOn (s : State) (id : Nat) (halt : Option Status) : State :=
  (match halt with
    | some st => (s.stepLevels id).haltJob id st
    | none => s.stepLevels id).boundary id

theorem State.TileDone.goOn {d k id tile : Nat} {s : State} (h : s.TileDone d k id tile) (halt : Option Status) :
    (s.goOn id halt).TileDone d k id tile := by
  unfold State.goOn
  cases halt with
  | none => exact (h.stepLevels id).boundary
  | some st => exact ((h.stepLevels id).haltJob id st).boundary

/-- A tile that its job marks done, on a core that runs nothing. -/
theorem State.tileDone_endTile {s : State} {d k : Nat} (idle : (s.core d k).tile = none) (id tile : Nat) :
    (s.updJob id (Job.endTile tile)).TileDone d k id tile := by
  refine ⟨?_, fun x hx u hu named => ?_⟩
  · rw [(State.updJob_frame ..).core rfl, idle]
  · obtain ⟨y, -, rfl⟩ := State.exists_job_of_updJob hx fun _ => rfl
    exact PlanTile.st_of_mem_mapIf hu named

section TileEnd

variable {s : State} {d k : Nat} (hd : d < 7) (hk : k < 17) (ops : List TileOp) (fixes : EccFixes)

include hd hk

/-- While a channel of its core waits, no tile ends (log entry 78). -/
theorem exec_tileEnd_waits {c : Nat} (hc : c < 8) (waits : (s.chan d k c).st = .waitCredit ∨ (s.chan d k c).st = .waitAck) :
    exec (.tileEnd d k ⟨ops, fixes⟩) s = .next s := by
  change execTileEnd d k ⟨ops, fixes⟩ s = _
  unfold execTileEnd
  rw [guardI_true (by simp [hd, hk])]
  have held : (List.range 8).any (fun c => (s.chan d k c).st == .waitCredit || (s.chan d k c).st == .waitAck) = true :=
    List.any_eq_true.mpr ⟨c, List.mem_range.mpr hc, by simpa using waits⟩
  split
  · rfl
  · rw [if_pos (by simp [held])]

variable {w : RunTile} (runs : (s.core d k).tile = some w) (loss : s.loss = none)
  (free : ∀ c < 8, (s.chan d k c).st ≠ .waitCredit ∧ (s.chan d k c).st ≠ .waitAck)

include runs loss free

/-- A tile whose channels rest ends in one of two ways: its run traps, or its core is freed and its job goes on. -/
theorem exec_tileEnd_run : ∃ (u : State) (halt : Option Status), (u.core d k).tile = none ∧
    exec (.tileEnd d k ⟨ops, fixes⟩) s = .next (
      let run := (s.tileReady d k fixes).runOps ⟨d, k, w.job, w.op⟩ ops
      match run.2 with
      | some (a, cls) => (run.1.memFault d k 0 0 .bankConflict 0 cls a).jobFault d k .bankConflict
      | none => (u.updJob w.job (Job.endTile w.tile)).goOn w.job halt) := by
  have rest : ((List.range 8).any fun c => (s.chan d k c).st == .waitCredit || (s.chan d k c).st == .waitAck) = false := by
    refine List.any_eq_false.mpr fun c hc => ?_
    simpa using free c (List.mem_range.mp hc)
  change ∃ (u : State) (halt : Option Status), _ ∧ execTileEnd d k ⟨ops, fixes⟩ s = _
  unfold execTileEnd
  rw [guardI_true (by simp [hd, hk])]
  split
  case h_1 h => simp [runs] at h
  case h_2 w' h =>
    obtain rfl : w = w' := Option.some.inj (runs.symm.trans h)
    rw [if_neg (by simp [loss, rest])]
    extract_lets v run ran halt released owned core freed ended
    refine ⟨ended, halt, ?_, rfl⟩
    unfold ended freed
    rw [(State.tally_frame ..).core rfl, State.core_setCore]

end TileEnd

/-! ### Zeroing (R121) -/

/-- A region that waits is zeroed, and waits no longer. -/
theorem exec_regionZeroed {s : State} {d base : Nat} {r : Region} (hd : d < 7)
    (waits : s.comp.dirty.find? (fun r => r.die == d && r.base == base) = some r) :
    ∃ t, exec (.regionZeroed d base) s = .next t ∧ r ∉ t.comp.dirty ∧ t.regs = s.regs ∧
      ∀ e a, t.rdByte e a = (s.zeroRegion r).rdByte e a := by
  change ∃ t, execRegionZeroed d base s = .next t ∧ _
  unfold execRegionZeroed
  rw [guardI_true (by simp [hd]), waits]
  exact ⟨_, rfl, by simp [List.mem_filter], rfl, fun _ _ => rfl⟩

/-! ### The commands together -/

/-- Settles O44: a dispatch ends with the core and its job written; a tile's end frees the core and marks the plan, and
`TileDone` holds through the levels, collectives and job ends that follow; zeroing is `memZero`. -/
theorem tileRuns : Obligations.TileRuns := by
  refine ⟨?displaced, ?dispatched, ?idle, ?ended, ?waits, ?zeroed⟩
  case displaced =>
    intro s d k j w moved hd hk loss role idle free pick lost
    refine ⟨_, exec_tileDispatch_picks hd hk loss role idle free pick, ?_⟩
    rw [if_pos lost]
    refine ⟨?_, fun x hx => ?_⟩
    · rw [(State.updJob_frame ..).core rfl, idle]
    · obtain ⟨y, -, rfl⟩ := State.exists_job_of_updJob hx fun _ => rfl
      rfl
  case dispatched =>
    intro s d k j w moved hd hk loss role idle free pick staged
    refine ⟨_, exec_tileDispatch_picks hd hk loss role idle free pick, ?_⟩
    obtain ⟨u, banks, before, owners, run⟩ := (s.tlySync d).dispatch_eq d k j w moved
    have clk : u.clk = s.clk := (before.clk rfl).trans ((s.tlySync_frame d).clk rfl)
    have owner : (s.tlySync d).tileOwner j w.tile = s.tileOwner j w.tile := by
      unfold State.tileOwner State.pkg
      rw [(s.tlySync_frame d).pkgs rfl]
    rw [if_neg (by simp [staged]), run]
    refine ⟨?_, ?_, ?_, fun x hx v hv named => ?_⟩
    · rw [(State.tally_frame ..).core rfl, (State.updJob_frame ..).core rfl, State.core_setCore, clk]
    · rw [(State.tally_frame ..).core rfl, (State.updJob_frame ..).core rfl, State.core_setCore]
    · rw [(State.tally_frame ..).rd_mcA rfl, (State.updJob_frame ..).rd_mcA rfl, (State.setCore_frame ..).rd_mcA rfl,
        owners, owner]
    · rw [(State.tally_frame ..).job rfl] at hx
      obtain ⟨y, -, rfl⟩ := State.exists_job_of_updJob hx fun _ => rfl
      exact PlanTile.st_of_mem_mapIf hv named
  case idle =>
    intro s d k hd hk h
    exact exec_tileDispatch_idle hd hk h
  case ended =>
    intro s d k w ops fixes hd hk loss runs free v
    obtain ⟨u, halt, idle, run⟩ := exec_tileEnd_run hd hk ops fixes runs loss free
    refine ⟨_, run, fun clear => ?_, fun trap => ?_⟩
    · have untrapped : ((s.tileReady d k fixes).runOps ⟨d, k, w.job, w.op⟩ ops).2 = none := clear
      obtain ⟨gone, done⟩ := (State.tileDone_endTile idle w.job w.tile).goOn halt
      simp only [untrapped]
      exact ⟨gone, fun x _ => done x⟩
    · obtain ⟨⟨a, cls⟩, met⟩ := Option.ne_none_iff_exists'.mp trap
      have trapped : ((s.tileReady d k fixes).runOps ⟨d, k, w.job, w.op⟩ ops).2 = some (a, cls) := met
      simp only [trapped]
      obtain ⟨lost, -⟩ := State.jobFault_allLost (((s.tileReady d k fixes).runOps ⟨d, k, w.job, w.op⟩ ops).1.memFault
        d k 0 0 .bankConflict 0 cls a) d k .bankConflict
      rw [lost]
      rfl
  case waits =>
    rintro s d k ops fixes hd hk ⟨c, hc, waits⟩
    exact exec_tileEnd_waits hd hk ops fixes hc waits
  case zeroed =>
    intro s d base r hd _ waits
    obtain ⟨t, run, clean, regs, bytes⟩ := exec_regionZeroed hd waits
    obtain ⟨rfl, rfl⟩ : r.die = d ∧ r.base = base := by simpa using List.find?_some waits
    exact ⟨t, run, clean, regs, fun e a => (bytes e a).trans (s.rdByte_zeroRegion r e a)⟩

end Sys2Proof.Machine

/-!
How descriptors end (14_host_rings.md: R335, R336): a completion takes its own descriptor out of flight and brings none
back, and a command that leaves the host interface alone completes with the time it started at.
-/

namespace Sys2Proof.Machine

open Sys2Proof

/-! ### Descriptors in flight -/

theorem State.desc_eq_none_iff (s : State) (r n : Nat) : s.desc r n = none ↔ ∀ d ∈ (s.ring r).fl, d.num ≠ n := by
  simp [State.desc]

/-- An entry of a ring takes no descriptor out of flight. -/
theorem State.writeEntry_fl (s : State) (r tag op : Nat) (st : Status) (ev sig : Bool) (result info time q : Nat) :
    ((s.writeEntry r tag op st ev sig result info time).ring q).fl = (s.ring q).fl := by
  unfold State.writeEntry
  extract_lets n phase lost flags v out counted old held
  have kept : ∀ x, counted.ring x = s.ring x := fun x => by
    unfold State.ring
    rw [(State.tally_frame ..).hif rfl]
    exact congrArg (fun h : Hif => tget Ring.init h.rings x) ((State.emitHost_frame ..).hif rfl)
  have here : (held.ring q).fl = (s.ring q).fl := by
    by_cases e : r = q
    · subst e
      rw [State.ring_setRing]
      exact congrArg (·.fl) (kept r)
    · rw [State.ring_setRing_ne _ _ e, kept]
  split
  · exact here
  · exact here

theorem State.completeAt_desc_self (s : State) (r n : Nat) (st : Status) (result info time : Nat) :
    (s.completeAt r n st result info time).desc r n = none := by
  cases h : s.desc r n with
  | none =>
    unfold State.completeAt
    rw [h]
    exact h
  | some d =>
    obtain rfl := State.desc_num h
    exact (State.completeAt_completed st result info time h rfl rfl rfl).gone

/-- A completion brings no descriptor into flight. -/
theorem State.completeAt_desc_none {s : State} {q m : Nat} (h : s.desc q m = none) (r n : Nat) (st : Status)
    (result info time : Nat) : (s.completeAt r n st result info time).desc q m = none := by
  rw [State.desc_eq_none_iff] at h ⊢
  unfold State.completeAt
  split
  · exact h
  · extract_lets src taken written op
    have fewer : ∀ x ∈ (written.ring q).fl, x.num ≠ m := fun x hx => by
      rw [State.writeEntry_fl] at hx
      by_cases e : r = q
      · subst e
        rw [State.ring_setRing] at hx
        exact h x (List.mem_filter.mp hx).1
      · rw [State.ring_setRing_ne _ _ e] at hx
        exact h x hx
    split
    · unfold State.ring
      rw [(State.roleAction_frame ..).hif rfl]
      exact fewer
    · exact fewer

/-! ### A started descriptor that completes now -/

section Starts

variable {s u : State} {r op : Nat} {d : Inflight} (h : Starts s r op d)

include h

/-- Outputs to the host before a completion do not touch what its entry reads. -/
theorem Starts.completes_of (hif : u.hif = (s.begin r d.num).hif) (clk : u.clk = s.clk)
    (link : u.rd (hifA 0) = s.rd (hifA 0)) (regs : ∀ o, u.rd (ringA r o) = s.rd (ringA r o)) (st : Status)
    (result : Nat) : Completed s (u.completeR r d.num st result) r d st result 0 s.now32 := by
  have begun : u.desc r d.num = some { d with begun := true } := by
    unfold State.desc State.ring
    rw [hif]
    exact State.begin_desc h.desc
  have lost : (u.ring r).lost = ((s.begin r d.num).ring r).lost := by
    unfold State.ring
    rw [hif]
  have now : u.now32 = s.now32 := by
    unfold State.now32
    rw [clk]
  unfold State.completeR
  rw [now]
  exact ((State.completeAt_completed st result 0 s.now32 begun rfl rfl rfl).of (s := s.begin r d.num) link (regs _)
    (regs _) lost).begin

theorem Starts.completes_now {m : Nat} (f : Frame m (s.begin r d.num) u) (h4 : touches m 4 = false)
    (h7 : touches m 7 = false) (h41 : touches m 41 = false) (st : Status) (result : Nat) :
    Completed s (u.completeR r d.num st result) r d st result 0 s.now32 :=
  h.completes_of (f.hif h7) (f.clk h4) (f.blk _ (touches_hif h41 0)) (fun o => f.blk _ (touches_ring h41 r o)) st result

/-- Nothing happens but the completion. -/
theorem Starts.refuses (st : Status) :
    Completed s ((s.begin r d.num).complete r d.num st) r d st 0 0 s.now32 :=
  h.completes_now (Frame.refl 0 _) rfl rfl rfl st 0

end Starts

end Sys2Proof.Machine

/-!
Tables, packages and offloaded samples of the rings (06_placement_and_scheduling.md: R138, R152; 09_sensor_ingest.md:
R239; 14_host_rings.md: R333; 18_tally_counters.md: R402): what each descriptor answers.
-/

namespace Sys2Proof.Machine

open Sys2Proof

/-! ### CYCLIC_LOAD (R152) -/

/-- Table `b` is loaded into bank `n`. -/
def State.loadBank (s : State) (n : Nat) (b : Bytes) : State :=
  (if n = 0 then { s with bank0 := fitTo (32 + 16 * le b 4 4) b } else { s with bank1 := fitTo (32 + 16 * le b 4 4) b }).wr
    (glbA (0x20C + 4 * n)) (BitVec.ofNat 32 (2 ^ 31 + le b 4 4 * 2 ^ 16 + le b 0 4 % 2048))

/-- Bank `n` runs, or starts at the next edge. -/
def State.bankRuns (s : State) (n : Nat) : Bool :=
  (s.flag 0x208 0 && decide (s.fld 0x208 1 1 = n)) || decide (s.comp.cycNext = some (some n))

theorem State.loadBank_hif (s : State) (n : Nat) (b : Bytes) : (s.loadBank n b).hif = s.hif := by
  unfold State.loadBank
  rw [State.wr_hif]
  split <;> rfl

theorem State.loadBank_clk (s : State) (n : Nat) (b : Bytes) : (s.loadBank n b).clk = s.clk := by
  unfold State.loadBank
  rw [State.wr_clk]
  split <;> rfl

theorem State.loadBank_rd (s : State) (n : Nat) (b : Bytes) {a : Nat} (h : 0x100000 ≤ a) :
    (s.loadBank n b).rd a = s.rd a := by
  have apart : glbA (0x20C + 4 * n) ≠ a := by
    unfold glbA
    omega
  unfold State.loadBank
  rw [State.rd_wr_ne _ _ apart]
  split <;> rfl

theorem State.loadBank_banks (s : State) (n : Nat) (b : Bytes) :
    (if n = 0 then (s.loadBank n b).bank0 else (s.loadBank n b).bank1) = fitTo (32 + 16 * le b 4 4) b ∧
    (if n = 0 then (s.loadBank n b).bank1 = s.bank1 else (s.loadBank n b).bank0 = s.bank0) := by
  unfold State.loadBank
  rw [State.wr_bank0, State.wr_bank1]
  split <;> exact ⟨rfl, rfl⟩

/-- A loaded bank is marked valid: the other fields of its register lie below bit 31. -/
theorem State.loadBank_valid (s : State) (n : Nat) {b : Bytes} (h : le b 4 4 ≤ 512) :
    (s.loadBank n b).flag (glbA (0x20C + 4 * n)) 31 = true := by
  unfold State.loadBank State.flag
  rw [State.rd_wr_self, BitVec.toNat_ofNat, Nat.mod_eq_of_lt (by omega), Nat.testBit_eq_decide_div_mod_eq,
    decide_eq_true_eq]
  omega

theorem exec_cyclicLoad {s : State} {r : Nat} {d : Inflight} (h : Starts s r 0x18 d) {b : Bytes}
    (filled : 0 < le b 4 4) (few : le b 4 4 ≤ 512) (room : 32 + 16 * le b 4 4 ≤ le d.bytes 12 4) : exec (.cyclicLoad r (some b)) s = .next (
    if s.bankRuns (le d.bytes 8 1) then (s.begin r d.num).complete r d.num .cyclicBankActive
    else ((s.begin r d.num).loadBank (le d.bytes 8 1) b).complete r d.num .success) := by
  have fits : ¬(decide (le b 4 4 = 0) || decide (512 < le b 4 4) || decide (le d.bytes 12 4 < 32 + 16 * le b 4 4)) := by
    simp
    omega
  change execCyclicLoad r (some b) s = _
  unfold execCyclicLoad
  rw [h.guard]
  dsimp only
  rw [if_neg fits]
  rfl

/-! ### TALLY_READ (R402) -/

/-- Result data reaches at most the link's error flags. -/
theorem State.hostData_rd (s : State) (addr : Nat) (b : Bytes) {a : Nat} (h4 : hifA 4 ≠ a) (h14 : hifA 0x14 ≠ a) :
    (s.hostData addr b).rd a = s.rd a := by
  unfold State.hostData State.emitHost
  split
  · rfl
  · split
    · rfl
    · exact State.rd_event_ne _ _ h4 h14

theorem hifA_ne_ringA (o r p : Nat) : hifA o ≠ ringA r p := by
  unfold hifA ringA
  omega

theorem exec_tallyRead {s : State} {r : Nat} {d : Inflight} (h : Starts s r 0x40 d)
    (on : le d.bytes 8 1 = 7 ∨ s.flag 4 (8 + le d.bytes 8 1) = true) : ∃ addr b, exec (.tallyRead r) s =
      .next ((((s.begin r d.num).tlySync (le d.bytes 8 1)).hostData addr b).complete r d.num .success) := by
  have inService : ¬(decide (le d.bytes 8 1 ≠ 7) && !(s.begin r d.num).flag 4 (8 + le d.bytes 8 1)) := by
    rcases on with quay | on
    · simp [quay]
    · simp [show (s.begin r d.num).flag 4 (8 + le d.bytes 8 1) = true from on]
  rw [show exec (.tallyRead r) s = execTallyRead r s from rfl]
  unfold execTallyRead
  rw [h.guard]
  dsimp only
  rw [if_neg inService]
  exact ⟨_, _, rfl⟩

/-! ### Packages (R138, R333) -/

theorem Frame.pkg {m : Nat} {s t : State} (f : Frame m s t) (b : touches m 22 = false) (h : Nat) :
    t.pkg h = s.pkg h := by
  unfold State.pkg
  rw [f.pkgs b]

/-- A retained package stands under a handle that was free. -/
theorem State.retain_pkg {s u : State} {p : Package} {h : Nat} (kept : s.retain p = some (u, h)) :
    s.pkg h = none ∧ (u.pkg h).map (·.decl) = some p := by
  unfold State.retain at kept
  split at kept
  case h_1 h₀ home free _ =>
    cases kept
    have unused : decide (h ≠ 0) = true ∧ (s.pkg h).isNone = true := by simpa using List.find?_some free
    rw [State.pkg_setPkg]
    exact ⟨Option.isNone_iff_eq_none.mp unused.2, rfl⟩
  case h_2 => cases kept

section Packages

variable {s : State} {r : Nat} {d : Inflight}

theorem exec_pkgRetain (h : Starts s r 0x10 d) (loss : s.loss = none) (p : Package) :
    ∃ t, exec (.pkgRetain r (some p)) s = .next t ∧
      (pkgCheck p ≠ .success → t = (s.begin r d.num).complete r d.num (pkgCheck p)) ∧
      ∀ u k, pkgCheck p = .success → (s.begin r d.num).retain p = some (u, k) → t = u.completeR r d.num .success k := by
  change ∃ t, execPkgRetain r (some p) s = .next t ∧ _
  unfold execPkgRetain
  rw [if_neg (by simp [loss]), h.guard]
  refine ⟨_, rfl, fun bad => ?_, fun u k good kept => ?_⟩
  · dsimp only
    rw [if_pos bad]
  · dsimp only
    rw [if_neg (by simp [good]), kept]

/-- PKG_RELEASE ends the package's sequences and idle dies before it frees the handle. -/
theorem exec_pkgRelease (h : Starts s r 0x14 d) (loss : s.loss = none) :
    ∃ t, exec (.pkgRelease r) s = .next t ∧
      (s.pkg (le d.bytes 8 2) = none → t = (s.begin r d.num).complete r d.num .packageNotRetained) ∧
      ∀ p, s.pkg (le d.bytes 8 2) = some p →
        ((∃ j ∈ s.jobs, j.pkg = le d.bytes 8 2) → t = (s.begin r d.num).complete r d.num .jobInUse) ∧
        ((∀ j ∈ s.jobs, j.pkg ≠ le d.bytes 8 2) → ∃ u, Frame 0x100000038300000 (s.begin r d.num) u ∧
          t = ((u.setPkg (le d.bytes 8 2) none).dirtyAdd [p.home]).complete r d.num .success) := by
  change ∃ t, execPkgRelease r s = .next t ∧ _
  unfold execPkgRelease
  rw [if_neg (by simp [loss]), h.guard]
  refine ⟨_, rfl, fun free => ?_, fun p kept => ⟨fun used => ?_, fun unused => ?_⟩⟩
  · dsimp only
    rw [show (s.begin r d.num).pkg (le d.bytes 8 2) = none from free]
  · have named : (s.begin r d.num).jobs.any (fun j => j.pkg == le d.bytes 8 2) = true := by
      simpa using used
    dsimp only
    rw [show (s.begin r d.num).pkg (le d.bytes 8 2) = some p from kept]
    dsimp only
    rw [if_pos named]
  · have unnamed : ¬(s.begin r d.num).jobs.any (fun j => j.pkg == le d.bytes 8 2) = true := by
      simpa using unused
    dsimp only
    rw [show (s.begin r d.num).pkg (le d.bytes 8 2) = some p from kept]
    dsimp only
    rw [if_neg unnamed]
    refine ⟨_, Frame.foldl (Frame.foldl (Frame.refl _ _) fun t e f => ?_) fun _ _ f => f.step (State.kvIdle_frame ..) rfl, rfl⟩
    split
    · exact Frame.ite (fun _ => f.step (State.dropSeq_frame ..) rfl) fun _ => f
    · exact f

end Packages

/-! ### DECODED (R239) -/

theorem Frame.stream {m : Nat} {s t : State} (f : Frame m s t) (b : touches m 32 = false) (i : Nat) :
    t.strm i = s.strm i := by
  unfold State.strm
  rw [f.strm b]

/-- What is rewritten where `f` holds and still satisfies it, was rewritten. -/
theorem exists_of_mem_mapIf {α : Type} {f : α → Bool} {g : α → α} {l : List α} {y : α} (h : y ∈ mapIf f g l)
    (hy : f y = true) : ∃ x, y = g x := by
  obtain ⟨x, -, rfl⟩ := List.mem_map.mp h
  by_cases hx : f x = true
  · exact ⟨x, by rw [if_pos hx]⟩
  · rw [if_neg hx] at hy
    exact absurd hy hx

theorem State.updSample_wait (s : State) (st : Nat) (f : Sample → Bool) (g : Sample → Sample) :
    ((s.updSample st f g).strm st).wait = mapIf f g (s.strm st).wait := by
  unfold State.updSample
  rw [State.strm_setStrm]

section Decoded

variable {s : State} {r : Nat} {d : Inflight} (h : Starts s r 0x3A d)

include h

theorem exec_decoded_gone (planes : Option Bytes) (gone : s.atHost (le d.bytes 8 1) (le d.bytes 24 4) = none) :
    exec (.decoded r planes) s = .next ((s.begin r d.num).complete r d.num .offloadExpired) := by
  change execDecoded r planes s = _
  unfold execDecoded
  rw [h.guard]
  dsimp only
  rw [show (s.begin r d.num).atHost (le d.bytes 8 1) (le d.bytes 24 4) = none from gone]

theorem exec_decoded_taken {x : Sample} {due : Nat} (b : Bytes)
    (here : s.atHost (le d.bytes 8 1) (le d.bytes 24 4) = some (x, due)) (early : s.clk.ref ≤ due)
    (full : le d.bytes 12 4 = 3 * (s.sampleDims (le d.bytes 8 1) x).1 * (s.sampleDims (le d.bytes 8 1) x).2) :
    ∃ pkts : Sample → List Bytes, exec (.decoded r (some b)) s = .next
      (((s.begin r d.num).updSample (le d.bytes 8 1) (fun y => y.num == x.num && y.canary == x.canary)
        fun y => { y with phase := .hosted, pkts := pkts y }).complete r d.num .success) := by
  rw [show exec (.decoded r (some b)) s = execDecoded r (some b) s from rfl]
  unfold execDecoded
  rw [h.guard]
  dsimp only
  rw [show (s.begin r d.num).atHost (le d.bytes 8 1) (le d.bytes 24 4) = some (x, due) from here]
  dsimp only
  rw [if_neg (show ¬due < (s.begin r d.num).clk.ref from Nat.not_lt.mpr early),
    show (s.begin r d.num).sampleDims (le d.bytes 8 1) x = s.sampleDims (le d.bytes 8 1) x from rfl,
    if_neg (not_not_intro full)]
  exact ⟨_, rfl⟩

end Decoded

/-! ### The commands together -/

/-- Settles O19: each descriptor either completes at once, or after operations that leave the host interface alone. -/
theorem tableDescriptors : Obligations.TableDescriptors := by
  intro s r d
  refine ⟨?load, ?tally, ?retain, ?release, ?gone, ?taken⟩
  case load =>
    intro b h filled few room n running _
    refine ⟨_, exec_cyclicLoad h filled few room, fun runs => ?_, fun rests => ?_⟩
    · rw [if_pos (show s.bankRuns (le d.bytes 8 1) = true from runs)]
      exact ⟨h.refuses .cyclicBankActive, (State.complete_frame ..).bank0 rfl, (State.complete_frame ..).bank1 rfl⟩
    · rw [if_neg (by simp [show s.bankRuns (le d.bytes 8 1) = false from rests])]
      have done := State.complete_frame ((s.begin r d.num).loadBank n b) r d.num .success
      obtain ⟨loaded, other⟩ := (s.begin r d.num).loadBank_banks n b
      refine ⟨?_, ?_, ?_, ?_⟩
      · refine h.completes_of (State.loadBank_hif ..) (State.loadBank_clk ..) (State.loadBank_rd _ _ _ (by decide))
          (fun o => State.loadBank_rd _ _ _ ?_) .success 0
        unfold ringA
        omega
      · rw [done.bank0 rfl, done.bank1 rfl]
        exact loaded
      · rw [done.bank0 rfl, done.bank1 rfl]
        exact other
      · have low : blk (glbA (0x20C + 4 * n)) = 0 := by
          unfold blk glbA
          rw [if_pos (by omega)]
          omega
        rw [State.flag_congr (done.blk _ (by rw [low]; rfl))]
        exact State.loadBank_valid _ _ few
  case tally =>
    intro h on
    obtain ⟨addr, b, run⟩ := exec_tallyRead h on
    have synced := (s.begin r d.num).tlySync_frame (le d.bytes 8 1)
    have sent := ((s.begin r d.num).tlySync (le d.bytes 8 1)).hostData_frame addr b
    refine ⟨_, run, h.completes_of ((sent.hif rfl).trans (synced.hif rfl)) ((sent.clk rfl).trans (synced.clk rfl)) ?_
      (fun o => ?_) .success 0⟩
    · rw [State.hostData_rd _ _ _ (by decide) (by decide)]
      exact synced.blk _ (touches_hif rfl 0)
    · rw [State.hostData_rd _ _ _ (hifA_ne_ringA _ _ _) (hifA_ne_ringA _ _ _)]
      exact synced.blk _ (touches_ring rfl r o)
  case retain =>
    intro p h loss
    obtain ⟨t, run, refused, kept⟩ := exec_pkgRetain h loss p
    refine ⟨t, run, fun bad => ?_, fun u k good found => ?_⟩
    · rw [refused bad]
      exact ⟨h.refuses _, (State.complete_frame ..).pkgs rfl⟩
    · obtain ⟨free, stands⟩ := State.retain_pkg found
      have f : Frame 0x8600000 (s.begin r d.num) u := ((s.begin r d.num).retain_frame p).of u (by rw [found]; rfl)
      rw [kept u k good found, (State.completeR_frame ..).pkg rfl]
      exact ⟨h.completes_now f rfl rfl rfl .success k, stands, free⟩
  case release =>
    intro h loss
    obtain ⟨t, run, absent, held⟩ := exec_pkgRelease h loss
    refine ⟨t, run, fun free => ?_, fun p kept used => ?_, fun p kept unused => ?_⟩
    · rw [absent free]
      exact h.refuses _
    · rw [(held p kept).left used]
      exact ⟨h.refuses _, (State.complete_frame ..).pkgs rfl⟩
    · obtain ⟨u, f, rfl⟩ := (held p kept).right unused
      have freed : Frame 0x100000038700000 (s.begin r d.num) ((u.setPkg (le d.bytes 8 2) none).dirtyAdd [p.home]) :=
        ((f.mono rfl).step (State.setPkg_frame ..) rfl).step (State.dirtyAdd_frame ..) rfl
      refine ⟨h.completes_now freed rfl rfl rfl .success 0, ?_⟩
      rw [(State.complete_frame ..).pkg rfl, (State.dirtyAdd_frame ..).pkg rfl, State.pkg_setPkg]
  case gone =>
    intro planes h gone
    exact ⟨_, exec_decoded_gone h planes gone, h.refuses _⟩
  case taken =>
    intro b x due h here early m full
    obtain ⟨pkts, run⟩ := exec_decoded_taken h b here early full
    refine ⟨_, run, h.completes_now (State.updSample_frame ..) rfl rfl rfl .success 0, fun y hy num canary => ?_⟩
    rw [(State.complete_frame ..).stream rfl, State.updSample_wait] at hy
    obtain ⟨z, rfl⟩ := exists_of_mem_mapIf hy (by simp [num, canary])
    rfl

end Sys2Proof.Machine

/-!
JOB_RELEASE (06_placement_and_scheduling.md: R137; 14_host_rings.md: R333, R338), and what a job's end does to the
descriptors that wait for it.
-/

namespace Sys2Proof.Machine

open Sys2Proof

/-! ### Descriptors at a job's end -/

/-- The descriptors that asked for a job's end complete last. -/
theorem State.jobEnd_completions {s : State} {id : Nat} {j : Job} (hj : s.job id = some j) (st : Status) :
    ∃ v : State, s.jobEnd id st =
      j.releasers.foldl (fun s x => s.complete x.1 x.2 .success) (v.jobEntry j st) := by
  unfold State.jobEnd
  rw [hj]
  exact ⟨_, rfl⟩

theorem State.completes_desc_none {s : State} {q m : Nat} (h : s.desc q m = none) (l : List (Nat × Nat)) :
    (l.foldl (fun s x => s.complete x.1 x.2 .success) s).desc q m = none :=
  foldl_keep (q := fun t => t.desc q m = none) h fun _ x _ k => State.completeAt_desc_none k x.1 x.2 ..

theorem State.completes_desc_of_mem {q m : Nat} {l : List (Nat × Nat)} (h : (q, m) ∈ l) (s : State) :
    (l.foldl (fun s x => s.complete x.1 x.2 .success) s).desc q m = none := by
  obtain ⟨a, b, rfl⟩ := List.append_of_mem h
  rw [List.foldl_append, List.foldl_cons]
  exact State.completes_desc_none (State.completeAt_desc_self ..) b

/-- A class S job's own descriptor completes with its end (R336). -/
theorem State.jobEntry_desc (s : State) {j : Job} (st : Status) (hc : j.classC = false) (hs : j.silent = false) :
    (s.jobEntry j st).desc j.ring j.num = none := by
  unfold State.jobEntry
  extract_lets
  rw [if_neg (by simp [hs]), if_neg (by simp [hc])]
  exact State.completeAt_desc_self ..

theorem State.jobEnd_own_desc {s : State} {id : Nat} {j : Job} (hj : s.job id = some j) (st : Status)
    (hc : j.classC = false) (hs : j.silent = false) : (s.jobEnd id st).desc j.ring j.num = none := by
  obtain ⟨v, ended⟩ := State.jobEnd_completions hj st
  rw [ended]
  exact State.completes_desc_none (v.jobEntry_desc st hc hs) _

theorem State.jobEnd_releaser_desc {s : State} {id : Nat} {j : Job} (hj : s.job id = some j) (st : Status) {q m : Nat}
    (h : (q, m) ∈ j.releasers) : (s.jobEnd id st).desc q m = none := by
  obtain ⟨v, ended⟩ := State.jobEnd_completions hj st
  rw [ended]
  exact State.completes_desc_of_mem h _

theorem State.endSoon_eq_jobEnd {s : State} {id : Nat} {j : Job} (st : Status) (hj : s.job id = some j)
    (he : j.ending = none) (hr : s.jobRuns id = false) : s.endSoon id st = s.jobEnd id st := by
  simp [State.endSoon, hj, he, hr]

/-! ### The cyclic table beside the shift log -/

theorem State.logSubmit_rd (s : State) (ring : Nat) (b : Bytes) {a : Nat} (h : a < 0x308) :
    (s.logSubmit ring b).rd a = s.rd a :=
  foldl_keep (q := fun t => t.rd a = s.rd a) rfl fun t _ _ k => (t.slogAdd_rd _ _ _ _ _ _ h).trans k

/-- Logging a descriptor leaves the tables. -/
theorem State.logDesc_cycNames (s : State) (r : Nat) (d : Inflight) (handle level : Nat) (a b : Bytes) (id : Nat) :
    (s.logDesc r d handle level a b).cycNames id = s.cycNames id := by
  have f := s.logDesc_frame r d handle level a b
  have state : (s.logDesc r d handle level a b).rd 0x208 = s.rd 0x208 := s.logSubmit_rd _ _ (by decide)
  have bank : ∀ n, (s.logDesc r d handle level a b).bank n = s.bank n := fun n => by
    unfold State.bank
    rw [f.bank0 rfl, f.bank1 rfl]
  unfold State.cycNames State.runTable
  rw [State.flag_congr state, State.fld_congr state, bank, f.cycNext rfl]
  simp only [bank]

/-! ### JOB_RELEASE (R338) -/

/-- The job that descriptor `d` of a release names: in replay the jobs are those of the log. -/
def State.releaseTarget (s : State) (d : Inflight) : Option Job :=
  s.jobs.find? fun j => j.ring == le d.bytes 8 4 && j.tag == le d.bytes 12 4 &&
    (!j.silent || (s.inReplay && j.member.isNone))

/-- A job whose end completes one more descriptor. -/
def Job.releasedBy (r n : Nat) (j : Job) : Job := { j with releasers := j.releasers ++ [(r, n)] }

theorem Job.releasedBy_eq (r n : Nat) : Job.releasedBy r n = fun j => { j with releasers := j.releasers ++ [(r, n)] } :=
  rfl

theorem State.releaseJob_absent {s : State} {d : Inflight} (r : Nat) (absent : s.releaseTarget d = none) :
    s.releaseJob r d = s.complete r d.num .descriptorInvalid := by
  unfold State.releaseTarget at absent
  unfold State.releaseJob
  dsimp only
  rw [absent]

theorem State.releaseJob_used {s : State} {d : Inflight} {j : Job} (r : Nat) (named : s.releaseTarget d = some j)
    (hc : j.classC = true) (used : s.cycNames j.id = true) :
    s.releaseJob r d = (s.logDesc r d 0 0 [] []).complete r d.num .jobInUse := by
  unfold State.releaseTarget at named
  unfold State.releaseJob
  dsimp only
  rw [named]
  dsimp only
  rw [if_pos (by rw [hc, State.logDesc_cycNames, used]; rfl)]

/-- A release asks for the job's end at its next tile boundary. -/
theorem State.releaseJob_ends {s : State} {d : Inflight} {j : Job} (r : Nat) (named : s.releaseTarget d = some j)
    (free : j.classC = false ∨ s.cycNames j.id = false) (hj : s.job j.id = some j) :
    ∃ u : State, s.releaseJob r d = u.endSoon j.id (if j.classC then .success else .jobCancelled) ∧
      u.job j.id = some (j.releasedBy r d.num) ∧ u.jobRuns j.id = s.jobRuns j.id := by
  have logged := s.logDesc_frame r d 0 0 [] []
  have asked : ((s.logDesc r d 0 0 [] []).updJob j.id (Job.releasedBy r d.num)).job j.id = some (j.releasedBy r d.num) :=
    State.job_updJob ((logged.job rfl _).trans hj) rfl
  have runs : ((s.logDesc r d 0 0 [] []).updJob j.id (Job.releasedBy r d.num)).jobRuns j.id = s.jobRuns j.id :=
    ((State.updJob_frame ..).jobRuns rfl _).trans (logged.jobRuns rfl _)
  have unused : ¬(j.classC && (s.logDesc r d 0 0 [] []).cycNames j.id) := by
    rw [State.logDesc_cycNames]
    rcases free with hc | hn
    · simp [hc]
    · simp [hn]
  unfold State.releaseTarget at named
  unfold State.releaseJob
  dsimp only
  rw [named]
  dsimp only
  rw [if_neg unused, ← Job.releasedBy_eq]
  cases hc : j.classC with
  | true =>
    simp only [↓reduceIte]
    exact ⟨_, rfl, asked, runs⟩
  | false =>
    have told := ((s.logDesc r d 0 0 [] []).updJob j.id (Job.releasedBy r d.num)).tellPeers_frame j .jobCancelled
    simp only [Bool.false_eq_true, ↓reduceIte]
    exact ⟨_, rfl, (told.job rfl _).trans asked, (told.jobRuns rfl _).trans runs⟩

section Release

variable {s : State} {r : Nat} {d : Inflight} (h : Starts s r 0x13 d) (loss : s.loss = none)

include h loss

theorem exec_jobRelease_denied (other : le d.bytes 8 4 ≠ r) (user : s.installer r = false) :
    exec (.jobRelease r) s = .next ((s.begin r d.num).complete r d.num .permissionDenied) := by
  change execJobRelease r s = _
  unfold execJobRelease
  rw [if_neg (by simp [loss]), h.guard, if_pos]
  simp [other, show (s.begin r d.num).installer r = false from user]

theorem exec_jobRelease_allowed (may : le d.bytes 8 4 = r ∨ s.installer r = true) :
    exec (.jobRelease r) s = .next ((s.begin r d.num).releaseJob r d) := by
  change execJobRelease r s = _
  unfold execJobRelease
  rw [if_neg (by simp [loss]), h.guard, if_neg]
  rcases may with own | inst
  · simp [own]
  · simp [show (s.begin r d.num).installer r = true from inst]

end Release

/-- Settles O24: a refused release only completes; a granted one joins the job's releasers, whose completions are the
last thing that the job's end does. -/
theorem jobRelease : Obligations.JobRelease := by
  intro s r d loss h ring tag named
  refine ⟨fun other user => ?_, fun may absent => ?_, fun j may found hc used => ?_, fun j may found free hj he => ?_⟩
  · exact ⟨_, exec_jobRelease_denied h loss other user, h.refuses _, (State.complete_frame ..).jobs rfl⟩
  · refine ⟨_, exec_jobRelease_allowed h loss may, ?_⟩
    rw [State.releaseJob_absent (s := s.begin r d.num) r absent]
    exact ⟨h.refuses _, (State.complete_frame ..).jobs rfl⟩
  · refine ⟨_, exec_jobRelease_allowed h loss may, ?_⟩
    rw [State.releaseJob_used (s := s.begin r d.num) r found hc used]
    have logged := (s.begin r d.num).logDesc_frame r d 0 0 [] []
    exact ⟨h.completes_now logged rfl rfl rfl _ 0, ((State.complete_frame ..).jobs rfl).trans (logged.jobs rfl)⟩
  · refine ⟨_, exec_jobRelease_allowed h loss may, ?_⟩
    obtain ⟨u, ends, asked, runs⟩ := State.releaseJob_ends (s := s.begin r d.num) r found free hj
    have same : u.jobRuns j.id = s.jobRuns j.id := runs
    rw [ends]
    refine ⟨fun rests => ?_, fun busy => ?_⟩
    · rw [State.endSoon_eq_jobEnd _ asked he (same.trans rests)]
      exact ⟨State.jobEnd_job_self asked _, State.jobEnd_releaser_desc asked _ (by simp [Job.releasedBy])⟩
    · rw [State.endSoon_of_runs _ asked he (same.trans busy)]
      rfl

end Sys2Proof.Machine

/-!
The life of a class S job (06_placement_and_scheduling.md: R147, R157; 01_device_and_tick.md: R30;
07_determinism_and_replay.md: R178): release, staging, deadline and completion.
-/

namespace Sys2Proof.Machine

open Sys2Proof

/-! ### The levels of a job on one package -/

theorem levelStep_eq (p : Package) (n : Nat) (x : Job) : ∃ l, levelStep p n x = { x with level := l } := by
  induction n generalizing x with
  | zero => exact ⟨x.level, rfl⟩
  | succ n ih =>
    unfold levelStep
    split
    · exact ⟨x.level, rfl⟩
    · split
      · exact ⟨x.level, rfl⟩
      · exact ih _

/-- With no other package to wait for, only tiles that have not ended hold a job at a level. -/
theorem levelStep_holds {p : Package} {n l : Nat} {x : Job} (single : x.span = [])
    (enough : (pkgLevels p).length ≤ x.level + n) (reached : (pkgLevels p)[(levelStep p n x).level]? = some l) :
    (levelStep p n x).plan.any (fun t => t.level == l && t.st != 2) = true := by
  induction n generalizing x with
  | zero =>
    have beyond : (pkgLevels p)[x.level]? = none := List.getElem?_eq_none (by omega)
    cases beyond.symm.trans reached
  | succ n ih =>
    cases here : (pkgLevels p)[x.level]? with
    | none =>
      have same : levelStep p (n + 1) x = x := by simp [levelStep, here]
      rw [same] at reached
      cases here.symm.trans reached
    | some k =>
      by_cases held : x.plan.any (fun t => t.level == k && t.st != 2) = true
      · have same : levelStep p (n + 1) x = x := by simp [levelStep, here, held]
        rw [same] at reached ⊢
        obtain rfl : k = l := Option.some.inj (here.symm.trans reached)
        exact held
      · have next : levelStep p (n + 1) x = levelStep p n { x with level := x.level + 1 } := by
          simp [levelStep, here, held, single]
        rw [next] at reached ⊢
        exact ih single (by simpa [Nat.add_assoc, Nat.add_comm 1 n] using enough) reached

section Levels

variable {s : State} {id : Nat} {j : Job} (hj : s.job id = some j) (single : j.span = [])

include hj single

/-- A job on one package waits for no collective: its levels are stepped at once. -/
theorem State.levelsOn_of_single (p : Package) (n : Nat) :
    State.levelsOn id p (n + 1) s = s.updJob id (levelStep p ((pkgLevels p).length + 1)) := by
  have stepped := State.job_updJob hj (levelStep_id p ((pkgLevels p).length + 1) j)
  unfold State.levelsOn
  dsimp only
  rw [stepped]
  dsimp only
  split
  · rfl
  · rename_i l here
    rw [if_pos (levelStep_holds single (by omega) here)]

theorem State.stepLevels_of_single : ∃ l, (s.stepLevels id).job id = some { j with level := l } := by
  unfold State.stepLevels
  split
  · rename_i p _
    obtain ⟨l, stepped⟩ := levelStep_eq p.decl ((pkgLevels p.decl).length + 1) j
    rw [State.levelsOn_of_single hj single, State.job_updJob hj (levelStep_id ..), stepped]
    exact ⟨l, rfl⟩
  · exact ⟨j.level, hj⟩

theorem State.startRun_of_single : ∃ l, (s.startRun id).job id = some { j with phase := .running, level := l } :=
  State.stepLevels_of_single (j := { j with phase := .running })
    (State.job_updJob (f := fun j => { j with phase := .running }) hj rfl) single

end Levels

/-! ### The commands -/

section ClassS

variable {s : State} {id : Nat} {j : Job} (hj : s.job id = some j) (hc : j.classC = false)

include hj

theorem State.readInputs_job : (s.readInputs j).job id = some { j with inputs := [] } := by
  obtain rfl := State.id_of_job hj
  exact State.job_updJob (f := fun j => { j with inputs := [] }) (((State.fillInputs_frame ..).job rfl _).trans hj) rfl

include hc

/-- The inputs are read before the job's staging or its run. -/
theorem exec_classSRelease (hp : j.phase = .waiting) (due : j.tick ≤ s.clk.tick) :
    exec (.classSRelease id) s = .next (
      if s.stages j then (s.readInputs j).updJob id fun j => { j with phase := .staging }
      else (s.readInputs j).startRun id) := by
  have same : (s.readInputs j).stages j = s.stages j := by
    unfold State.stages State.pkg
    rw [(s.readInputs_frame j).pkgs rfl]
  change execClassSRelease id s = _
  unfold execClassSRelease
  rw [hj]
  dsimp only
  rw [if_neg (by simp [hc, hp, due]), same]

theorem exec_weightStagingComplete {p : Pkg} (hp : s.pkg j.pkg = some p) (staging : j.phase = .staging) :
    exec (.weightStagingComplete id) s = .next (
      if (j.places.filter (stagedAt p.decl)).any (s.placeTaken id) then s
      else ((s.fillWeights p.decl j (stagedAt p.decl)).updJob id fun j => { j with displaced := false }).startRun id) := by
  change execWeightStagingComplete id s = _
  unfold execWeightStagingComplete
  rw [hj]
  dsimp only
  rw [hp]
  simp [hc, staging]

theorem exec_classSDeadline {u : State} (due : s.reach j.deadline = some u) :
    exec (.classSDeadline id) s = .next (u.endSoon id .deadlineOverrun) := by
  change execClassSDeadline id s = _
  unfold execClassSDeadline
  rw [hj]
  dsimp only
  rw [if_neg (by simp [hc]), State.atT_some due]

theorem exec_classSJobComplete (run : j.phase = .running) (settled : j.settling = 0) (he : j.ending = none)
    (levels : s.levelsDone j = true) (rests : s.jobRuns id = false) (shares : s.sharesDone j = true) :
    ∃ st, exec (.classSJobComplete id) s = .next (s.jobEnd id st) := by
  change ∃ st, execClassSJobComplete id s = .next (s.jobEnd id st)
  unfold execClassSJobComplete
  rw [hj]
  dsimp only
  rw [if_neg (by simp [hc, run, settled, he, levels, rests, shares])]
  exact ⟨_, rfl⟩

end ClassS

/-- Settles O41: release and staging write the job and step its levels, which a job on one package passes without a
collective; the deadline and the completion end it. -/
theorem classSJobs : Obligations.ClassSJobs := by
  refine ⟨?release, ?staged, ?deadline, ?complete⟩
  case release =>
    intro s id j hj hc hp due
    have read := State.readInputs_job hj
    refine ⟨_, exec_classSRelease hj hc hp due, fun stages => ?_, fun unstaged single => ?_⟩
    · rw [if_pos stages, State.job_updJob read rfl]
      exact ⟨rfl, rfl⟩
    · obtain ⟨l, runs⟩ := State.startRun_of_single read single
      rw [if_neg (by simp [unstaged]), runs]
      rfl
  case staged =>
    intro s id j p hj hp hc staging
    refine ⟨_, exec_weightStagingComplete hj hc hp staging, fun taken => if_pos taken, fun free single => ?_⟩
    have filled : ((s.fillWeights p.decl j (stagedAt p.decl)).updJob id fun j => { j with displaced := false }).job id =
        some { j with displaced := false } :=
      State.job_updJob (f := fun j => { j with displaced := false }) (((State.fillWeights_frame ..).job rfl _).trans hj) rfl
    obtain ⟨l, runs⟩ := State.startRun_of_single filled single
    rw [if_neg (by simp [free]), runs]
    exact ⟨rfl, rfl⟩
  case deadline =>
    intro s u id j hj hc he due
    have later := State.reach_fr due
    have hu : u.job id = some j := (later.job rfl _).trans hj
    have same : u.jobRuns id = s.jobRuns id := later.jobRuns rfl _
    refine ⟨_, exec_classSDeadline hj hc due, fun busy => ?_, fun rests => ?_⟩
    · rw [State.endSoon_of_runs _ hu he (same.trans busy)]
      rfl
    · rw [State.endSoon_eq_jobEnd _ hu he (same.trans rests)]
      exact ⟨State.jobEnd_job_self hu _, State.jobEnd_own_desc hu _ hc⟩
  case complete =>
    intro s id j hj hc run settled he levels rests shares
    obtain ⟨st, ends⟩ := exec_classSJobComplete hj hc run settled he levels rests shares
    exact ⟨_, ends, State.jobEnd_job_self hj st, State.jobEnd_own_desc hj st hc⟩

end Sys2Proof.Machine

/-!
SUBMIT and STEP (06_placement_and_scheduling.md: R138; 14_host_rings.md: R333, R334): a submission's decision, and the
job that it enters.
-/

namespace Sys2Proof.Machine

open Sys2Proof

/-! ### The job that enters -/

theorem State.stepSettle_id (s : State) (q : SubReq) (p : Package) (j : Job) : (s.stepSettle q p j).2.id = j.id := by
  unfold State.stepSettle
  extract_lets
  split
  · rfl
  · split <;> rfl

/-- An admitted job whose package stands becomes the last of the table. -/
theorem State.enter_job {s : State} {j : Job} (q : SubReq) (h : (s.pkg j.pkg).isSome = true) :
    (∃ x ∈ (s.enter q j).jobs, x.id = j.id) ∧ (s.enter q j).comp.lastJob = j.id := by
  unfold State.enter
  split
  case h_1 absent => simp [absent] at h
  case h_2 =>
    extract_lets p claimed filled read c₀ kv₀ planned dies bound settled listed c₁ last
    have sent := (last.count 0x248).sendPlan_frame q j
    rw [sent.jobs rfl, sent.lastJob rfl]
    exact ⟨⟨settled.2, List.mem_append_right settled.1.jobs (List.mem_singleton_self _), State.stepSettle_id ..⟩, rfl⟩

/-! ### A submission's decision (R184) -/

/-- A request with the key and the payload of its SUBMIT record. -/
def State.keyed (s : State) (q : SubReq) : SubReq :=
  { q with key := if s.logOn && !s.inReplay then s.slog.seq else 0, subm := submBytes q (s.subDigest q) s.nextJob }

/-- The state with the SUBMIT record of a request. -/
def State.subLogged (s : State) (q : SubReq) : State := s.logSubmit q.ring (submBytes q (s.subDigest q) s.nextJob)

theorem State.subLogged_frame (s : State) (q : SubReq) : Frame 0x10000101000 s (s.subLogged q) :=
  State.logSubmit_frame ..

theorem State.digest_rd (s : State) (kind key tensor act tick : Nat) (b : Bytes) {a : Nat} (h : a < 0x308) :
    (s.digest kind key tensor act tick b).rd a = s.rd a := by
  unfold State.digest
  split_ifs
  · rfl
  · rfl
  · exact State.slogAdd_rd _ _ _ _ _ _ _ h
  · rfl

/-- A class C job reserves an entry of its ring for the event of its end (R328). -/
def State.reserveEnd (s : State) (r : Nat) : State :=
  s.setRing r { s.ring r with classC := (s.ring r).classC + 1 }

/-- What is left to do of a submission once it is decided. -/
def State.subAnswer (q : SubReq) (x : State × Except Status Job) : State :=
  match x.2 with
  | .error st => x.1.complete q.ring q.num st
  | .ok j =>
    if j.classC then
      (x.1.reserveEnd q.ring).completeR q.ring q.num .success (j.id + 2 ^ 16 * j.pkg)
    else x.1

theorem State.decideSub_eq (s : State) (q : SubReq) :
    s.decideSub q = State.subAnswer q ((s.subLogged q).subDecide (s.keyed q)) := rfl

/-- The state of a refused request before its completion. -/
def State.subRefused (s : State) (q : SubReq) (st : Status) : State := (s.event 0x244 0 0x24C).subDone q st 0

theorem State.subRefused_frame (s : State) (q : SubReq) (st : Status) : Frame 0x10000101000 s (s.subRefused q st) :=
  (State.event_frame rfl rfl rfl ..).step (State.subDone_frame ..) rfl

theorem State.subRefused_flag (s : State) (q : SubReq) (st : Status) : (s.subRefused q st).flag 0x244 0 = true := by
  unfold State.subRefused State.subDone
  rw [State.flag_congr (State.digest_rd _ _ _ _ _ _ _ (by decide))]
  exact State.flag_event _ (by decide) (by decide)

theorem State.decideSub_refused {s : State} {q : SubReq} {st : Status}
    (h : (s.subLogged q).admission (s.keyed q) = .error st) :
    s.decideSub q = ((s.subLogged q).subRefused (s.keyed q) st).complete q.ring q.num st := by
  have decided : (s.subLogged q).subDecide (s.keyed q) = ((s.subLogged q).subRefused (s.keyed q) st, .error st) := by
    unfold State.subDecide
    rw [h]
    rfl
  rw [State.decideSub_eq, decided]
  rfl

/-- An admitted job enters; a class C job's submission then completes. -/
theorem State.decideSub_admitted {s w : State} {q : SubReq} {j : Job}
    (h : (s.subLogged q).admission (s.keyed q) = .ok (w, j)) :
    ∃ u, Frame 0x10000101080 (w.enter (s.keyed q) j) u ∧
      s.decideSub q = if j.classC then u.completeR q.ring q.num .success (j.id + 2 ^ 16 * j.pkg)
        else w.enter (s.keyed q) j := by
  have decided : (s.subLogged q).subDecide (s.keyed q) = (if j.classC
      then (w.enter (s.keyed q) j).subDone (s.keyed q) .success (j.id + 2 ^ 16 * j.pkg)
      else w.enter (s.keyed q) j, .ok j) := by
    unfold State.subDecide
    rw [h]
  refine ⟨((w.enter (s.keyed q) j).subDone (s.keyed q) .success (j.id + 2 ^ 16 * j.pkg)).reserveEnd q.ring,
    ((State.subDone_frame ..).mono rfl).step (State.setRing_frame ..) rfl, ?_⟩
  rw [State.decideSub_eq, decided]
  cases hc : j.classC with
  | true => simp [State.subAnswer, hc]
  | false => simp [State.subAnswer, hc]

/-! ### The commands -/

section Submission

variable {s : State} {r : Nat} {d : Inflight} {pr : Bytes} {inputs : List (Option Bytes)} {ins : List Bytes}
  (peers : List Peer) (loss : s.loss = none) (read : allSome inputs = some ins)

include loss read

theorem exec_submit (h : Starts s r 0x11 d) {pkg : Option Package} (given : le d.bytes 8 2 ≠ 0 ∨ pkg ≠ none) :
    exec (.submit r pkg (some pr) inputs peers) s = .next ((s.begin r d.num).decideSub
      ⟨r, d.num, d.bytes, le d.bytes 8 2, pkg, pr, [], ins, peers, 0, [], none, d.fetch.t, d.fetch.tick⟩) := by
  have supplied : (decide (le d.bytes 8 2 = 0) && pkg.isNone) = false := by
    rcases given with named | given
    · simp [named]
    · simp [Option.isSome_iff_ne_none, given]
  change execSubmit r pkg (some pr) inputs peers s = _
  unfold execSubmit
  rw [if_neg (by simp [loss]), h.guard]
  dsimp only
  rw [read, supplied]

theorem exec_stepCmd (h : Starts s r 0x12 d) (ln : Bytes) :
    exec (.stepCmd r (some pr) (some ln) inputs peers) s = .next ((s.begin r d.num).decideSub
      ⟨r, d.num, d.bytes, le d.bytes 8 2, none, pr, ln, ins, peers, 0, [], none, d.fetch.t, d.fetch.tick⟩) := by
  change execStep r (some pr) (some ln) inputs peers s = _
  unfold execStep
  rw [if_neg (by simp [loss]), h.guard, read]

end Submission

/-! ### What a decision leaves -/

section Decision

variable {s : State} {r : Nat} {d : Inflight} {q : SubReq} (hr : q.ring = r) (hn : q.num = d.num)

include hr hn

theorem State.decideSub_refused_completes {op : Nat} (h : Starts s r op d) {st : Status}
    (refused : ((s.begin r d.num).subLogged q).admission ((s.begin r d.num).keyed q) = .error st) :
    Completed s ((s.begin r d.num).decideSub q) r d st 0 0 s.now32 ∧
      ((s.begin r d.num).decideSub q).jobs = s.jobs ∧ ((s.begin r d.num).decideSub q).flag 0x244 0 = true := by
  have f := (((s.begin r d.num).subLogged_frame q).trans (State.subRefused_frame _ ((s.begin r d.num).keyed q) st))
  have done := State.complete_frame (((s.begin r d.num).subLogged q).subRefused ((s.begin r d.num).keyed q) st) r d.num st
  rw [State.decideSub_refused refused, hr, hn]
  refine ⟨h.completes_now f rfl rfl rfl st 0, (done.jobs rfl).trans (f.jobs rfl), ?_⟩
  rw [State.flag_congr (done.blk _ rfl)]
  exact State.subRefused_flag ..

theorem State.decideSub_admitted_enters {w : State} {j : Job}
    (admitted : (s.subLogged q).admission (s.keyed q) = .ok (w, j)) (stands : (w.pkg j.pkg).isSome = true) :
    (∃ x ∈ (s.decideSub q).jobs, x.id = j.id) ∧ (s.decideSub q).comp.lastJob = j.id ∧
      (j.classC = true → (s.decideSub q).desc r d.num = none) := by
  obtain ⟨u, f, decided⟩ := State.decideSub_admitted admitted
  obtain ⟨listed, last⟩ := State.enter_job (s.keyed q) stands
  have done := State.completeR_frame u q.ring q.num .success (j.id + 2 ^ 16 * j.pkg)
  rw [decided]
  cases hc : j.classC with
  | true =>
    rw [if_pos rfl, done.jobs rfl, done.lastJob rfl, f.jobs rfl, f.lastJob rfl, hr, hn]
    exact ⟨listed, last, fun _ => State.completeAt_desc_self ..⟩
  | false =>
    rw [if_neg Bool.false_ne_true]
    exact ⟨listed, last, fun c => absurd c Bool.false_ne_true⟩

end Decision

/-- Settles O23: both commands come to one decision, whose admission is asked of the state with the request's SUBMIT
record. -/
theorem jobRequests : Obligations.JobRequests := by
  intro s r d pr inputs ins peers loss read
  refine ⟨fun pkg h given => ⟨fun st refused => ?_, fun w j admitted stands => ?_⟩,
    fun ln h => ⟨fun st refused => ?_, fun w j admitted stands => ?_⟩⟩
  · exact ⟨_, exec_submit peers loss read h given, State.decideSub_refused_completes rfl rfl h refused⟩
  · exact ⟨_, exec_submit peers loss read h given, State.decideSub_admitted_enters rfl rfl admitted stands⟩
  · exact ⟨_, exec_stepCmd peers loss read h ln, State.decideSub_refused_completes rfl rfl h refused⟩
  · exact ⟨_, exec_stepCmd peers loss read h ln, State.decideSub_admitted_enters rfl rfl admitted stands⟩

end Sys2Proof.Machine

/-!
Links (08_ralostair_fabric.md: R197, R200 to R202, R206): what a link's registers and its replay buffer read after each
operation, and what the sending of packets leaves of every link.
-/

namespace Sys2Proof.Machine

open Sys2Proof

/-! ### Registers of a link -/

theorem lnkA_ne_lnkA (k : Nat) {o p : Nat} (h : o % 0x2000 ≠ p % 0x2000) : lnkA k o ≠ lnkA k p := by
  unfold lnkA
  omega

theorem lnkA_ne_fabA (k o p : Nat) : lnkA k o ≠ fabA p := by
  unfold lnkA fabA
  omega

/-- An operation outside the fabric's block leaves every link's registers. -/
theorem Frame.rd_lnkA {m : Nat} {s t : State} (h : Frame m s t) (b : touches m 47 = false) (k o : Nat) :
    t.rd (lnkA k o) = s.rd (lnkA k o) :=
  h.blk _ (by rw [blk_lnkA]; exact b)

theorem Frame.linkState {m : Nat} {s t : State} (h : Frame m s t) (b : touches m 47 = false) (k : Nat) :
    t.linkState k = s.linkState k :=
  State.fld_congr (h.rd_lnkA b k 4) ..

/-- STATE stands beside the event flags of LNK_STAT (Table 08-9). -/
theorem State.event_linkState (s : State) (k : Nat) {i c : Nat} (hi : i < 8) (hc : c % 0x2000 ≠ 4) :
    (s.event (lnkA k 4) i (lnkA k c)).linkState k = s.linkState k :=
  State.fld_event_beside _ (lnkA_ne_lnkA k hc.symm) (by omega) (.inr hi) (by decide)

theorem State.raise_linkState (s : State) (k : Nat) {i : Nat} (hi : i < 8) :
    (s.raise (lnkA k 4) i).linkState k = s.linkState k :=
  State.fld_put_beside _ _ _ (Nat.le_refl i) (by omega) (.inr hi) (by decide)

theorem State.event_lnk (s : State) (a i c k : Nat) : (s.event a i c).lnk k = s.lnk k := by
  unfold State.lnk
  rw [State.event_comp]

theorem State.emit_out (s : State) (o : Out) : (s.emit o).out = s.out ++ [o] := rfl

theorem State.emit_lnk (s : State) (o : Out) (k : Nat) : (s.emit o).lnk k = s.lnk k := by
  unfold State.lnk
  rw [State.emit_comp]

theorem State.setLnk_linkState (s : State) (k : Nat) (x : Lnk) (j : Nat) :
    (s.setLnk k x).linkState j = s.linkState j := rfl

/-! ### A link that moves to a state -/

section Moved

variable (s : State) (k n : Nat)

theorem State.fabShow_rd (o : Nat) : s.fabShow.rd (lnkA k o) = s.rd (lnkA k o) :=
  State.rd_put_ne _ _ _ _ (lnkA_ne_fabA k o 8).symm

theorem State.setLinkState_stat : (s.setLinkState k n).rd (lnkA k 4) = putBits (s.rd (lnkA k 4)) 11 8 n := by
  unfold State.setLinkState
  rw [State.fabShow_rd, State.setLnk_rd, State.rd_put_self]

theorem State.setLinkState_rd {o : Nat} (h : o % 0x2000 ≠ 4) :
    (s.setLinkState k n).rd (lnkA k o) = s.rd (lnkA k o) := by
  unfold State.setLinkState
  rw [State.fabShow_rd, State.setLnk_rd, State.rd_put_ne _ _ _ _ (lnkA_ne_lnkA k h.symm)]

theorem State.setLinkState_linkState : (s.setLinkState k n).linkState k = n % 16 := by
  unfold State.linkState State.fld
  rw [State.setLinkState_stat]
  exact bits_putBits (by decide) (by decide)

theorem State.setLinkState_flag {i : Nat} (hi : i < 8) :
    (s.setLinkState k n).flag (lnkA k 4) i = s.flag (lnkA k 4) i := by
  unfold State.flag
  rw [State.setLinkState_stat, testBit_putBits (by decide) (by decide), if_neg (by omega)]

theorem State.setLinkState_lnk : (s.setLinkState k n).lnk k = { s.lnk k with since := s.clk.ref } :=
  ((State.fabShow_frame ..).lnk rfl k).trans (State.lnk_setLnk ..)

end Moved

section Retraining

variable (s : State) (k : Nat)

theorem State.retraining_linkState : (s.retraining k).linkState k = 4 :=
  (State.event_linkState _ k (by decide) (by decide)).trans (s.setLinkState_linkState k 4)

theorem State.retraining_flag : (s.retraining k).flag (lnkA k 4) 1 = true :=
  State.flag_event _ (lnkA_ne_lnkA k (by decide)) (by decide)

theorem State.retraining_flag_replay : (s.retraining k).flag (lnkA k 4) 0 = s.flag (lnkA k 4) 0 :=
  (State.flag_event_beside _ (lnkA_ne_lnkA k (by decide)) (by decide) (by decide)).trans
    (s.setLinkState_flag k 4 (by decide))

theorem State.retraining_ctl : (s.retraining k).rd (lnkA k 0) = s.rd (lnkA k 0) :=
  (State.rd_event_ne _ _ (lnkA_ne_lnkA k (by decide)) (lnkA_ne_lnkA k (by decide))).trans
    (s.setLinkState_rd k 4 (by decide))

theorem State.retraining_lnk : (s.retraining k).lnk k = { s.lnk k with since := s.clk.ref } :=
  (State.event_lnk ..).trans (s.setLinkState_lnk k 4)

end Retraining

/-! ### Rewriting a link -/

/-- Only the tally comes before a link is rewritten (R396). -/
theorem State.linkSet_eq (s : State) (k : Nat) (x : Lnk) :
    ∃ u, Frame 0x2000800100008 s u ∧ s.linkSet k x = u.setLnk k x :=
  ⟨_, Frame.ite (fun _ => .refl _ _) fun _ => s.tlySync_frame 7, rfl⟩

theorem State.linkSet_lnk (s : State) (k : Nat) (x : Lnk) : (s.linkSet k x).lnk k = x := State.lnk_setLnk ..

/-! ### What sending leaves -/

/-- What handing packets to links leaves of the links: their states, every link that is not UP, and of the others what
they await from their peer and the failures counted. Nothing that was sent before is lost. -/
structure State.Sends (s t : State) : Prop where
  links : ∀ k, t.linkState k = s.linkState k
  still : ∀ k, s.linkState k ≠ 3 → t.lnk k = s.lnk k
  expect : ∀ k, (t.lnk k).expect = (s.lnk k).expect
  fails : ∀ k, (t.lnk k).fails = (s.lnk k).fails
  out : s.out <+: t.out

section Sends

variable {s t u : State}

theorem State.Sends.refl (s : State) : s.Sends s :=
  ⟨fun _ => rfl, fun _ _ => rfl, fun _ => rfl, fun _ => rfl, List.prefix_rfl⟩

theorem State.Sends.trans (h : s.Sends t) (g : t.Sends u) : s.Sends u where
  links k := (g.links k).trans (h.links k)
  still k down := (g.still k (by rwa [h.links])).trans (h.still k down)
  expect k := (g.expect k).trans (h.expect k)
  fails k := (g.fails k).trans (h.fails k)
  out := h.out.trans g.out

theorem Frame.sends {m : Nat} (h : Frame m s t) (b2 : touches m 2 = false) (b30 : touches m 30 = false)
    (b47 : touches m 47 = false) : s.Sends t where
  links := h.linkState b47
  still k _ := h.lnk b30 k
  expect k := by rw [h.lnk b30]
  fails k := by rw [h.lnk b30]
  out := by rw [h.out b2]

theorem State.emit_sends (s : State) (o : Out) : s.Sends (s.emit o) :=
  ⟨fun _ => rfl, fun _ _ => rfl, fun _ => rfl, fun _ => rfl, List.prefix_append ..⟩

theorem State.creditBack_sends (s : State) (o : Option (Nat × Nat × Nat)) : s.Sends (s.creditBack o) := by
  unfold State.creditBack
  split
  · exact s.emit_sends _
  · exact .refl s

/-- An UP link takes or gives packets. -/
theorem State.linkSet_sends {k : Nat} {x : Lnk} (up : s.linkState k = 3) (expect : x.expect = (s.lnk k).expect)
    (fails : x.fails = (s.lnk k).fails) : s.Sends (s.linkSet k x) := by
  obtain ⟨u, f, written⟩ := s.linkSet_eq k x
  rw [written]
  refine (f.sends rfl rfl rfl).trans ⟨fun _ => rfl, fun j down => ?_, fun j => ?_, fun j => ?_, List.prefix_rfl⟩
  · refine State.lnk_setLnk_ne _ _ ?_
    rintro rfl
    exact down ((f.linkState rfl k).trans up)
  all_goals
    by_cases same : k = j
    · subst same
      simp [f.lnk rfl, expect, fails]
    · rw [State.lnk_setLnk_ne _ _ same]

theorem State.linkXmit_sends {k : Nat} (up : s.linkState k = 3) (p : LinkPkt) : s.Sends (s.linkXmit k p) := by
  unfold State.linkXmit
  extract_lets x set credited
  have hset : s.Sends set := State.linkSet_sends up rfl rfl
  exact ((hset.trans (set.creditBack_sends _)).trans (credited.emit_sends _)).trans
    ((State.tally_frame ..).sends rfl rfl rfl)

theorem State.linkDrain_sends (k n : Nat) (s : State) : s.Sends (State.linkDrain k n s) := by
  induction n generalizing s with
  | zero => exact .refl s
  | succ n ih =>
    unfold State.linkDrain
    split
    case isTrue up =>
      split
      · exact .refl s
      · exact (State.linkXmit_sends up _).trans (ih _)
    case isFalse => exact .refl s

theorem State.linkQueue_sends {k : Nat} (up : s.linkState k = 3) (vc : Nat) (b : Bytes)
    (o : Option (Nat × Nat × Nat)) : s.Sends (s.linkQueue k vc b o) := by
  unfold State.linkQueue
  extract_lets x set
  have hset : s.Sends set := State.linkSet_sends up rfl rfl
  exact hset.trans (State.linkDrain_sends ..)

/-- Packets take UP links only (R206). -/
theorem State.linkFor_up {dst : Nat} {x : Nat × Nat} (h : s.linkFor dst = some x) : s.linkState x.1 = 3 := by
  obtain ⟨d, -, hd⟩ := Option.bind_eq_some_iff.mp h
  obtain ⟨k, hk, rfl⟩ := Option.map_eq_some_iff.mp hd
  have listed := List.mem_of_getElem? hk
  have up := (Bool.and_eq_true_iff.mp (List.mem_filter.mp listed).2).2
  exact beq_iff_eq.mp up

theorem State.sendBytes_sends {dst vc : Nat} {b : Bytes} {o : Option (Nat × Nat × Nat)}
    (h : s.sendBytes dst vc b o = some t) : s.Sends t := by
  unfold State.sendBytes at h
  split at h
  · obtain rfl := Option.some.inj h
    exact s.emit_sends _
  · obtain ⟨x, hx, rfl⟩ := Option.map_eq_some_iff.mp h
    have turned := (State.setFab_frame s { s.comp.fab with
      turn := tupd 0 s.comp.fab.turn x.2 (fun n => n + 1) }).sends rfl rfl rfl
    exact turned.trans (State.linkQueue_sends ((turned.links _).trans (State.linkFor_up hx)) ..)

theorem State.sendPkt_sends {n : Nat} {p : FabPkt} (h : State.sendPkt p n s = some t) : s.Sends t := by
  induction n generalizing p s with
  | zero =>
    obtain rfl := Option.some.inj h
    exact .refl s
  | succ n ih =>
    unfold State.sendPkt at h
    split at h
    · exact State.sendBytes_sends h
    · obtain ⟨u, first, rest⟩ := Option.bind_eq_some_iff.mp h
      exact (State.sendBytes_sends first).trans (ih rest)

theorem State.sendTo_sends (s : State) (p : FabPkt) : s.Sends (s.sendTo p) := by
  unfold State.sendTo
  cases sent : State.sendPkt p (p.payload.length / 512 + 1) s with
  | none => exact .refl s
  | some t => exact State.sendPkt_sends sent

theorem State.reroute_sends (s : State) (p : LinkPkt) : s.Sends (s.reroute p) := by
  unfold State.reroute
  cases sent : s.sendBytes (le p.bytes 0 16 / 2 ^ 18 % 1024) p.vc p.bytes p.origin with
  | none => exact s.creditBack_sends _
  | some t => exact State.sendBytes_sends sent

theorem State.Sends.foldl {α : Type} {f : State → α → State} (h : ∀ (v : State) x, v.Sends (f v x)) (l : List α)
    (s : State) : s.Sends (l.foldl f s) :=
  foldl_keep (q := s.Sends) (.refl s) fun v x _ sent => sent.trans (h v x)

theorem State.tellPeers_sends (s : State) (j : Job) (st : Status) : s.Sends (s.tellPeers j st) := by
  unfold State.tellPeers
  split
  · exact .refl s
  · exact .foldl (fun v p => v.sendTo_sends _) _ s

theorem State.report_sends (s : State) (j : Job) (st : Status) : s.Sends (s.report j st) := by
  unfold State.report
  split
  · exact s.sendTo_sends _
  · exact s.tellPeers_sends j st

theorem State.returnGrant_sends (s : State) (d c : Nat) (x : Xfer) : s.Sends (s.returnGrant d c x) := by
  unfold State.returnGrant
  split
  · exact .refl s
  · exact s.sendTo_sends _

end Sends

/-! ### Sending again (R201) -/

theorem State.replaySend_out (s : State) (k : Nat) (l : List LinkPkt) :
    (s.replaySend k l).out = s.out ++ l.map fun p => .fabric k (sealPkt p.seq p.bytes) := by
  induction l generalizing s with
  | nil => exact (List.append_nil _).symm
  | cons p l ih =>
    have step : ((s.emit (.fabric k (sealPkt p.seq p.bytes))).tally 7 0x12 k p.size).out =
        s.out ++ [.fabric k (sealPkt p.seq p.bytes)] := (State.tally_frame ..).out rfl
    have rest := ih ((s.emit (.fabric k (sealPkt p.seq p.bytes))).tally 7 0x12 k p.size)
    rw [step, List.append_assoc] at rest
    exact rest

end Sys2Proof.Machine

/-!
The states of a link (08_ralostair_fabric.md: R194, R195, R197, R202): training, retraining, and what the fall of a link
leaves of it.
-/

namespace Sys2Proof.Machine

open Sys2Proof

/-! ### Training (R194, R197) -/

/-- The topology's registers and the package's numbers say whether a peer is the right one (R197). -/
theorem State.identityOk_congr {s t : State} (topo : t.rd (fabA 0) = s.rd (fabA 0))
    (num : t.rd (fabA 4) = s.rd (fabA 4)) (k : Nat) (p : LinkPeer) : t.identityOk k p = s.identityOk k p := by
  have kind : t.kind = s.kind := State.fld_congr topo ..
  have dims : t.dims = s.dims := by simp only [State.dims, State.fld_congr topo]
  have lead : t.leadPkg = s.leadPkg := State.fld_congr num ..
  have self : t.pkgNum = s.pkgNum := State.fld_congr num ..
  unfold State.identityOk State.linkDir State.neighbour State.coords
  rw [kind, dims, lead, self]

theorem Frame.identityOk {m : Nat} {s t : State} (h : Frame m s t) (b : touches m 47 = false) (k : Nat) (p : LinkPeer) :
    t.identityOk k p = s.identityOk k p :=
  State.identityOk_congr (h.blk _ b) (h.blk _ b) k p

theorem stepsOk_iff {l : List Nat} : stepsOk l = true ↔ ∀ x ∈ l.zip [25000000, 5000000, 1000000, 100000], x.1 ≤ x.2 := by
  simp [stepsOk, trainLimits]

/-- The lanes in order, or reversed (R194). -/
theorem lanesOk_iff {lanes : List (Option (Nat × Bool))} : lanesOk lanes = true ↔
    (lanes.map fun x => x.map (fun y => y.1)) ∈ [[some 0, some 1, some 2, some 3], [some 3, some 2, some 1, some 0]] := by
  simp [lanesOk, List.range_succ]

/-- What the peer said stands in LNK_PEER once this side's identity is sent (R197, step 3). -/
def State.meetPeer (s : State) (k : Nat) (p : LinkPeer) : State :=
  (s.sendIdentity k).wr (lnkA k 8) (BitVec.ofNat 32 (p.link % 16 * 2 ^ 16 + p.pkg % 1024))

/-- An UP link starts with an empty replay buffer and all credits. -/
def State.trainedUp (s : State) (k : Nat) : State :=
  ((s.linkSet k { Lnk.init with ackRef := s.clk.ref }).setLinkState k 3).markClear 11 k

/-- A link whose peer is not the one expected is MISWIRED, which is counted. -/
def State.miswired (s : State) (k : Nat) : State := (s.setLinkState k 5).event (lnkA k 4) 3 (lnkA k 0x24)

section Trained

variable (s : State) (k : Nat) (p : LinkPeer)

theorem State.meetPeer_identityOk : (s.meetPeer k p).identityOk k p = s.identityOk k p :=
  State.identityOk_congr (State.rd_wr_ne _ _ (lnkA_ne_fabA k 8 0)) (State.rd_wr_ne _ _ (lnkA_ne_fabA k 8 4)) k p

theorem State.meetPeer_fld {t : State} (kept : t.rd (lnkA k 8) = (s.meetPeer k p).rd (lnkA k 8)) :
    t.fld (lnkA k 8) 9 0 = p.pkg % 1024 ∧ t.fld (lnkA k 8) 19 16 = p.link % 16 := by
  have word : t.rd (lnkA k 8) = BitVec.ofNat 32 (p.link % 16 * 2 ^ 16 + p.pkg % 1024) :=
    kept.trans (State.rd_wr_self ..)
  simp only [State.fld, bits, word, BitVec.toNat_ofNat, Nat.shiftRight_eq_div_pow]
  omega

theorem State.trainedUp_linkState : (s.trainedUp k).linkState k = 3 :=
  ((State.markClear_frame ..).linkState rfl k).trans (State.setLinkState_linkState ..)

theorem State.trainedUp_lnk :
    ∃ since, (s.trainedUp k).lnk k = { Lnk.init with ackRef := s.clk.ref, since := since } := by
  refine ⟨(s.linkSet k { Lnk.init with ackRef := s.clk.ref }).clk.ref, ?_⟩
  unfold State.trainedUp
  rw [(State.markClear_frame ..).lnk rfl, State.setLinkState_lnk, State.linkSet_lnk]

theorem State.trainedUp_peer : (s.trainedUp k).rd (lnkA k 8) = s.rd (lnkA k 8) := by
  unfold State.trainedUp
  rw [(State.markClear_frame ..).rd_lnkA rfl, State.setLinkState_rd _ _ _ (by decide),
    (State.linkSet_frame ..).rd_lnkA rfl]

theorem State.miswired_linkState : (s.miswired k).linkState k = 5 :=
  (State.event_linkState _ k (by decide) (by decide)).trans (s.setLinkState_linkState k 5)

theorem State.miswired_flag : (s.miswired k).flag (lnkA k 4) 3 = true :=
  State.flag_event _ (lnkA_ne_lnkA k (by decide)) (by decide)

theorem State.miswired_peer : (s.miswired k).rd (lnkA k 8) = s.rd (lnkA k 8) :=
  (State.rd_event_ne _ _ (lnkA_ne_lnkA k (by decide)) (lnkA_ne_lnkA k (by decide))).trans
    (s.setLinkState_rd k 5 (by decide))

end Trained

section Training

variable {s u : State} {k : Nat} {steps : List Nat} (hk : k < 12)

include hk

theorem exec_linkTrainingRetry (down : s.linkState k = 1 ∨ s.linkState k = 5) (enabled : s.flag (lnkA k 0) 0 = true)
    (kind : s.kind ≠ 0) (due : s.reachRef ((s.lnk k).since + 100000000) = some u) :
    exec (.linkTrainingRetry k) s = .next (u.setLinkState k 2) := by
  change execLinkTrainingRetry k s = _
  unfold execLinkTrainingRetry
  rw [guardI_true (by simpa using hk), if_pos (by simp [down, enabled, kind]), State.atRef_some due]

variable (training : s.linkState k = 2) (within : stepsOk steps = true)

include training within

/-- All four steps have kept their limits (R197). -/
theorem exec_linkTrained (four : steps.length = 4) (due : s.reachRef ((s.lnk k).since + steps.sum) = some u)
    (lanes : List (Option (Nat × Bool))) (p : LinkPeer) : exec (.linkTrained k ⟨steps, lanes, p⟩) s =
      .next (if lanesOk lanes = false then u.setLinkState k 1
        else if s.identityOk k p = true then (u.meetPeer k p).trainedUp k else (u.meetPeer k p).miswired k) := by
  have same : (u.meetPeer k p).identityOk k p = s.identityOk k p :=
    (u.meetPeer_identityOk k p).trans ((State.reachRef_fr due).identityOk rfl k p)
  change execLinkTrained k ⟨steps, lanes, p⟩ s = _
  unfold execLinkTrained
  rw [guardI_true (by simpa using hk), if_neg (by simp [training, four, within]), State.atRef_some due, ← same]
  cases lanesOk lanes <;> rfl

/-- A step overruns after those that passed. -/
theorem exec_linkTrainingOverrun (fewer : steps.length < 4)
    (due : s.reachRef ((s.lnk k).since + steps.sum + trainLimits.getD steps.length 0) = some u) :
    ∃ v, exec (.linkTrainingOverrun k steps) s = .next (State.setLinkState v k 1) := by
  refine ⟨if 2 ≤ steps.length then u.sendIdentity k else u, ?_⟩
  change execLinkTrainingOverrun k steps s = _
  unfold execLinkTrainingOverrun
  rw [guardI_true (by simpa using hk), if_neg (by simp [training, within]; omega), State.atRef_some due]

end Training

/-! ### Retraining (R202) -/

section Retrain

variable {s u : State} {k : Nat} (hk : k < 12)

include hk

theorem exec_retrain (ready : s.isReady = true) (up : s.linkState k = 3) :
    exec (.retrain k) s = .next ((s.raise (lnkA k 0) 1).retraining k) := by
  change execRetrain k s = _
  simp [execRetrain, guardI, hk, ready, up]

theorem exec_ackTimeout (up : s.linkState k = 3) (outstanding : (s.lnk k).replay ≠ [])
    (due : s.reachRef ((s.lnk k).ackRef + 10000) = some u) : exec (.ackTimeout k) s = .next (u.retraining k) := by
  change execAckTimeout k s = _
  simp [execAckTimeout, guardI, hk, up, outstanding, State.atRef_some due]

end Retrain

/-- A link is UP again; RETRAIN is clear, and no packet has failed. -/
def State.backUp (s : State) (k : Nat) : State :=
  let t := (s.put (lnkA k 0) 1 1 0).setLinkState k 3
  t.setLnk k { t.lnk k with fails := 0, ackRef := t.clk.ref }

/-- A replay is flagged where the buffer holds a packet. -/
def State.flagReplay (s : State) (k : Nat) : State :=
  if (s.lnk k).replay.isEmpty then s else s.raise (lnkA k 4) 0

/-- What a replay buffer holds when its link is UP again is sent again, before what waits for credit. -/
def State.replayAll (s : State) (k : Nat) : State :=
  State.linkDrain k ((s.flagReplay k).lnk k).queue.length ((s.flagReplay k).replaySend k (s.lnk k).replay)

section Back

variable (s : State) (k : Nat)

theorem State.backUp_linkState : (s.backUp k).linkState k = 3 := by
  unfold State.backUp
  rw [State.setLnk_linkState, State.setLinkState_linkState]

theorem State.backUp_flag : (s.backUp k).flag (lnkA k 0) 1 = false := by
  have cleared : (s.put (lnkA k 0) 1 1 0).flag (lnkA k 0) 1 = Nat.testBit 0 0 :=
    s.flag_put_self _ 0 (by decide) (by decide) (by decide)
  have kept : (s.backUp k).rd (lnkA k 0) = (s.put (lnkA k 0) 1 1 0).rd (lnkA k 0) := by
    unfold State.backUp
    rw [State.setLnk_rd, State.setLinkState_rd _ _ _ (by decide)]
  exact (State.flag_congr kept 1).trans (cleared.trans (by decide))

theorem State.backUp_replay : ((s.backUp k).lnk k).replay = (s.lnk k).replay := by
  unfold State.backUp
  rw [State.lnk_setLnk, State.setLinkState_lnk]
  rfl

/-- Sending writes no register of a link. -/
theorem State.replayAll_rd (o : Nat) : (s.replayAll k).rd (lnkA k o) = (s.flagReplay k).rd (lnkA k o) := by
  unfold State.replayAll
  rw [(State.linkDrain_frame ..).rd_lnkA rfl, (State.replaySend_frame ..).rd_lnkA rfl]

theorem State.replayAll_linkState : (s.replayAll k).linkState k = s.linkState k := by
  refine (State.fld_congr (s.replayAll_rd k 4) 11 8).trans ?_
  unfold State.flagReplay
  split
  · rfl
  · exact s.raise_linkState k (by decide)

theorem State.replayAll_ctl : (s.replayAll k).rd (lnkA k 0) = s.rd (lnkA k 0) := by
  rw [State.replayAll_rd]
  unfold State.flagReplay
  split
  · rfl
  · exact s.rd_raise_ne 0 (lnkA_ne_lnkA k (by decide))

theorem State.replayAll_flag (h : (s.lnk k).replay ≠ []) : (s.replayAll k).flag (lnkA k 4) 0 = true := by
  rw [State.flag_congr (s.replayAll_rd k 4)]
  unfold State.flagReplay
  rw [if_neg (mt List.isEmpty_iff.mp h)]
  exact s.flag_raise_self _ (by decide)

end Back

/-- The identity exchange has run again in time (R202). -/
theorem exec_retrainingDone {s : State} {k : Nat} (hk : k < 12) (retrains : s.linkState k = 4)
    (inTime : s.clk.ref ≤ (s.lnk k).since + 1000000) (p : LinkPeer) : exec (.retrainingDone ⟨k, p⟩) s =
      .next (if s.identityOk k p = true then ((s.sendIdentity k).backUp k).replayAll k else s.sendIdentity k) := by
  change execRetrainingDone ⟨k, p⟩ s = _
  unfold execRetrainingDone
  have same : (s.sendIdentity k).identityOk k p = s.identityOk k p := State.identityOk_congr rfl rfl k p
  rw [guardI_true (by simpa using hk), if_pos (by simp [retrains, inTime]), ← same]
  extract_lets sent back up l flagged
  by_cases right : sent.identityOk k p = true
  · rw [if_pos right, if_neg (by simp [right])]
    rfl
  · rw [if_neg right, if_pos (by simp [right])]

/-! ### The fall of a link (R202, R212) -/

/-- Link `k` is DOWN and holds no packet. -/
structure State.LinkEmpty (k : Nat) (s : State) : Prop where
  down : s.linkState k = 1
  replay : (s.lnk k).replay = []
  queue : (s.lnk k).queue = []

section Abort

/-- An aborted collective closes the berths of its job at once (R212), without a packet. -/
theorem State.closeBerths_atOnce_frame (s : State) (job : Nat) : Frame 0x10000000c100000 s (s.closeBerths job true) := by
  refine Frame.foldl (.refl _ _) fun t e h => ?_
  exact Frame.ite (fun _ => h) fun _ => h.step (State.berthShut_frame ..) rfl

theorem State.jobFree_abort_frame (s : State) (j : Job) :
    Frame 0x10208092d110008 s (s.jobFree j .collectiveAbort) := by
  unfold State.jobFree
  extract_lets freed closed comp left removed idle
  have before : Frame 0x10208092d110008 s closed :=
    ((s.dirtyAdd_frame _).mono rfl).step (freed.closeBerths_atOnce_frame j.id) rfl
  have emptied : Frame 0x10208092d110008 s left := by
    apply Frame.upd before
    all_goals first | exact Or.inr rfl | exact Or.inl rfl | exact Or.inl (Nat.le_refl _) | rfl
  exact ((emptied.step (State.setJobs_frame ..) rfl).foldl fun _ _ h => h.step (State.kvIdle_frame ..) rfl).foldl
    fun _ _ h => h.step (State.unbindStream_frame ..) rfl

/-- The end of a job whose collective was aborted sends no packet and leaves the links' registers. -/
theorem State.jobEnd_abort_frame (s : State) (id : Nat) : Frame 0x1061b092d11928c s (s.jobEnd id .collectiveAbort) := by
  unfold State.jobEnd
  split
  · exact .refl _ _
  · rename_i j _
    extract_lets ok captured written segs statused records told counted noted lost freed entered
    have fc : Frame 0x1061b092d11928c s captured :=
      Frame.ite (fun _ => .refl _ _) fun _ => (State.capture_frame ..).mono rfl
    have fw : Frame 0x1061b092d11928c s written :=
      Frame.ite (fun _ => (fc.step (State.hostOutputs_frame ..) rfl).step (State.tensorDigests_frame ..) rfl) fun _ => fc
    have fs : Frame 0x1061b092d11928c s segs := Frame.ite (fun _ => fw.step (State.digest_frame ..) rfl) fun _ => fw
    have ft : Frame 0x1061b092d11928c s statused :=
      Frame.ite (fun _ => fs.step (State.statusOut_frame ..) rfl) fun _ => fs
    have fr : Frame 0x1061b092d11928c s records :=
      Frame.ite (fun _ => ft) fun _ => ft.step (State.statsOut_frame ..) rfl
    have silent : told = records := if_neg (by decide)
    have fe : Frame 0x1061b092d11928c s counted := (silent ▸ fr).step (State.endCount_frame ..) rfl
    have fn : Frame 0x1061b092d11928c s noted := Frame.ite (fun _ => fe.step (State.outcome_frame ..) rfl) fun _ => fe
    have fl : Frame 0x1061b092d11928c s lost :=
      Frame.ite (fun _ => fn.foldl fun _ _ h => h.step (State.axisLost_frame ..) rfl) fun _ => fn
    exact ((fl.step (lost.jobFree_abort_frame j) rfl).step (State.jobEntry_frame ..) rfl).foldl
      fun _ _ h => h.step (State.complete_frame ..) rfl

theorem State.endSoon_abort_frame (s : State) (id : Nat) : Frame 0x1061b092d11928c s (s.endSoon id .collectiveAbort) := by
  unfold State.endSoon
  split
  · exact .refl _ _
  · refine Frame.ite (fun _ => .refl _ _) fun _ => Frame.ite (fun _ => ?_) fun _ => s.jobEnd_abort_frame id
    exact (State.updJob_frame ..).mono rfl

end Abort

section Fall

variable {s t : State} {k : Nat}

theorem State.LinkEmpty.frame {m : Nat} (h : s.LinkEmpty k) (f : Frame m s t) (b30 : touches m 30 = false)
    (b47 : touches m 47 = false) : t.LinkEmpty k :=
  ⟨(f.linkState b47 k).trans h.down, by rw [f.lnk b30, h.replay], by rw [f.lnk b30, h.queue]⟩

/-- No packet is sent on a link that is DOWN. -/
theorem State.LinkEmpty.sends (h : s.LinkEmpty k) (sent : s.Sends t) : t.LinkEmpty k := by
  have still := sent.still k (by simp [h.down])
  exact ⟨(sent.links k).trans h.down, by rw [still, h.replay], by rw [still, h.queue]⟩

theorem State.LinkEmpty.abortEvent (h : s.LinkEmpty k) : s.abortEvent.LinkEmpty k := by
  have stat : s.abortEvent.rd (lnkA k 4) = s.rd (lnkA k 4) :=
    State.rd_event_ne _ _ (lnkA_ne_fabA k 4 8).symm (lnkA_ne_fabA k 4 0x10).symm
  exact ⟨(State.fld_congr stat ..).trans h.down, h.replay, h.queue⟩

theorem State.LinkEmpty.haltJob (h : s.LinkEmpty k) (id : Nat) : (s.haltJob id .collectiveAbort).LinkEmpty k := by
  unfold State.haltJob
  split
  · exact h
  · split_ifs
    · exact h.frame (State.updJob_frame ..) rfl rfl
    · exact h
    · exact (h.sends (s.report_sends ..)).frame (State.endSoon_abort_frame ..) rfl rfl

/-- The packets that wait take other links, and the link itself is left empty. -/
theorem State.linkFall_empty (s : State) (k : Nat) : (s.linkFall k 1).LinkEmpty k := by
  unfold State.linkFall
  extract_lets wait fallen counted
  have down : counted.linkState k = 1 :=
    (State.event_linkState _ k (by decide) (by decide)).trans (State.setLinkState_linkState ..)
  have start : (counted.linkSet k { Lnk.init with since := counted.clk.ref }).LinkEmpty k :=
    ⟨((State.linkSet_frame ..).linkState rfl k).trans down, by rw [State.linkSet_lnk]; rfl,
      by rw [State.linkSet_lnk]; rfl⟩
  exact start.sends (.foldl (fun v p => v.reroute_sends p) _ _)

theorem State.linkLost_empty (s : State) (k : Nat) : (s.linkLost k 1).LinkEmpty k := by
  unfold State.linkLost
  extract_lets gone fallen hit jobs halted js
  have stopped : halted.LinkEmpty k :=
    foldl_keep (s.linkFall_empty k) fun t e _ h =>
      (h.frame (t.tlySync_frame _) rfl rfl).frame (State.haltChan_frame ..) rfl rfl
  refine foldl_keep stopped fun t x _ h => State.LinkEmpty.haltJob ?_ x.1
  exact foldl_keep h fun v _ _ hv => hv.abortEvent

variable {u : State} (hk : k < 12)

include hk

theorem exec_retrainTimeout (retrains : s.linkState k = 4) (due : s.reachRef ((s.lnk k).since + 1000000) = some u) :
    exec (.retrainTimeout k) s = .next (u.linkLost k 1) := by
  change execRetrainTimeout k s = _
  simp [execRetrainTimeout, guardI, hk, retrains, State.atRef_some due]

theorem exec_linkPeerLost (up : s.linkState k = 3) : exec (.linkPeerLost k) s = .next (s.linkLost k 1) := by
  change execLinkPeerLost k s = _
  simp [execLinkPeerLost, guardI, hk, up]

end Fall

/-! ### The commands together -/

/-- Settles O50: each transition ends in one move of the link's state, and what follows a fall sends on UP links only,
so that the fallen link stays empty. -/
theorem linkStates : Obligations.LinkStates := by
  refine ⟨?retry, ?trained, fun lanes => lanesOk_iff, ?overrun, ?retrain, ?ackTimeout, ?back, ?expired, ?peerLost⟩
  case retry =>
    intro s u k hk down enabled kind due
    refine ⟨_, exec_linkTrainingRetry hk down enabled kind due, u.setLinkState_linkState k 2, ?_⟩
    rw [State.setLinkState_lnk]
  case trained =>
    intro s u k steps lanes p hk training four within due
    refine ⟨_, exec_linkTrained hk training (stepsOk_iff.mpr within) four due lanes p, fun bad => ?_, fun good => ?_⟩
    · rw [if_pos bad]
      exact u.setLinkState_linkState k 1
    rw [if_neg (by simp [good])]
    by_cases right : s.identityOk k p = true
    case pos =>
      rw [if_pos right]
      obtain ⟨pkg, link⟩ := u.meetPeer_fld k p (State.trainedUp_peer ..)
      obtain ⟨since, started⟩ := (u.meetPeer k p).trainedUp_lnk k
      refine ⟨pkg, link, fun _ => ⟨State.trainedUp_linkState .., ?_⟩, fun wrong => by simp [right] at wrong⟩
      rw [started]
      exact ⟨rfl, rfl, rfl⟩
    case neg =>
      rw [if_neg right]
      obtain ⟨pkg, link⟩ := u.meetPeer_fld k p (State.miswired_peer ..)
      exact ⟨pkg, link, fun h => absurd h right, fun _ => ⟨State.miswired_linkState .., State.miswired_flag ..⟩⟩
  case overrun =>
    intro s u k steps hk training fewer within due
    obtain ⟨v, run⟩ := exec_linkTrainingOverrun hk training (stepsOk_iff.mpr within) fewer due
    exact ⟨_, run, v.setLinkState_linkState k 1⟩
  case retrain =>
    intro s k hk ready up
    refine ⟨_, exec_retrain hk ready up, State.retraining_linkState .., ?_, State.retraining_flag ..⟩
    exact (State.flag_congr (State.retraining_ctl ..) 1).trans (s.flag_raise_self _ (by decide))
  case ackTimeout =>
    intro s u k hk up outstanding due
    exact ⟨_, exec_ackTimeout hk up outstanding due, State.retraining_linkState .., State.retraining_flag ..⟩
  case back =>
    intro s k hk retrains inTime p
    refine ⟨_, exec_retrainingDone hk retrains inTime p, fun right => ?_, fun wrong => ?_⟩
    · rw [if_pos right]
      refine ⟨(State.replayAll_linkState ..).trans (State.backUp_linkState ..),
        (State.flag_congr (State.replayAll_ctl ..) 1).trans (State.backUp_flag ..), fun held => ?_⟩
      exact State.replayAll_flag _ _ (by rwa [State.backUp_replay])
    · rw [if_neg (by simp [wrong])]
      exact ⟨retrains, rfl⟩
  case expired =>
    intro s u k hk retrains due
    obtain ⟨down, replay, queue⟩ := u.linkLost_empty k
    exact ⟨_, exec_retrainTimeout hk retrains due, down, replay, queue⟩
  case peerLost =>
    intro s k hk up
    obtain ⟨down, replay, queue⟩ := s.linkLost_empty k
    exact ⟨_, exec_linkPeerLost hk up, down, replay, queue⟩

end Sys2Proof.Machine

/-!
Packets on a link (08_ralostair_fabric.md: R195, R200 to R202; log entries 99 and 143): error reports, acknowledgements and
flow credits, and the packets of an arriving message.
-/

namespace Sys2Proof.Machine

open Sys2Proof

/-! ### Error counts (R195, R216) -/

/-- A 64-bit quantity reads back (R6). -/
theorem State.rd64_wr64 (s : State) (a : Nat) {v : Nat} (h : v < 2 ^ 64) : (s.wr64 a v).rd64 a = v := by
  unfold State.rd64 State.wr64
  rw [State.rd_wr_self, State.rd_wr_ne _ _ (by omega), State.rd_wr_self, BitVec.toNat_ofNat, BitVec.toNat_ofNat]
  omega

theorem State.rd64_congr {s t : State} {a : Nat} (low : t.rd a = s.rd a) (high : t.rd (a + 4) = s.rd (a + 4)) :
    t.rd64 a = s.rd64 a := by
  unfold State.rd64
  rw [low, high]

theorem lnkA_high (k : Nat) : lnkA k 0xC + 4 = lnkA k 0x10 := by
  unfold lnkA
  omega

section Counts

variable (s : State) (k : Nat) (corrected : List Nat) (n : Nat)

theorem State.fecCount_corrected : (s.fecCount k corrected n).rd64 (lnkA k 0xC) =
    satAdd statTop (s.rd64 (lnkA k 0xC)) corrected.sum := by
  have bounded : satAdd statTop (s.rd64 (lnkA k 0xC)) corrected.sum < 2 ^ 64 :=
    Nat.lt_of_le_of_lt (Nat.min_le_left ..) (by decide)
  refine (State.rd64_congr (State.rd_countN_ne _ _ (lnkA_ne_lnkA k (by decide))) ?_).trans (s.rd64_wr64 _ bounded)
  rw [lnkA_high]
  exact State.rd_countN_ne _ _ (lnkA_ne_lnkA k (by decide))

theorem State.fecCount_codewords : (s.fecCount k corrected n).rd (lnkA k 0x14) =
    BitVec.ofNat 32 (satAdd countTop (s.rd (lnkA k 0x14)).toNat n) := by
  have other : (s.count64 (lnkA k 0xC) corrected.sum).rd (lnkA k 0x14) = s.rd (lnkA k 0x14) := by
    unfold State.count64 State.wr64
    rw [lnkA_high, State.rd_wr_ne _ _ (lnkA_ne_lnkA k (by decide)), State.rd_wr_ne _ _ (lnkA_ne_lnkA k (by decide))]
  exact (State.rd_countN_self ..).trans (by rw [other])

theorem State.crcFail_lnk : (s.crcFail k).lnk k = { s.lnk k with crcFails := (s.lnk k).crcFails + 1 } :=
  State.lnk_setLnk ..

theorem State.crcFail_rd (a : Nat) : (s.crcFail k).rd a = s.rd a := rfl

theorem exec_linkCrcFailure {s : State} {k : Nat} {corrected : List Nat} (hk : k < 12)
    (few : corrected.all (fun x => decide (x ≤ 15)) = true) (up : s.linkState k = 3) (lseq : Nat) :
    exec (.linkCrcFailure k lseq corrected n) s = .next ((s.fecCount k corrected n).crcFail k) := by
  change execLinkCrcFailure k lseq corrected n s = _
  unfold execLinkCrcFailure
  rw [guardI_true (by simpa [hk] using few), if_pos up]

end Counts

/-! ### Negative acknowledgements (R201, R202) -/

/-- The consecutive failures of the packet `lseq` after one more. -/
def Lnk.failed (x : Lnk) (lseq : Nat) : Nat := if 0 < x.fails ∧ x.failSeq = lseq then x.fails + 1 else 1

/-- A failure of the packet `lseq` is noted and flagged. -/
def State.noteFail (s : State) (k lseq : Nat) : State :=
  (s.setLnk k { s.lnk k with fails := (s.lnk k).failed lseq, failSeq := lseq, ackRef := s.clk.ref }).event
    (lnkA k 4) 0 (lnkA k 0x18)

section Nak

variable (s : State) (k lseq : Nat)

theorem State.noteFail_lnk : (s.noteFail k lseq).lnk k =
    { s.lnk k with fails := (s.lnk k).failed lseq, failSeq := lseq, ackRef := s.clk.ref } :=
  (State.event_lnk ..).trans (State.lnk_setLnk ..)

theorem State.noteFail_out : (s.noteFail k lseq).out = s.out := by
  unfold State.noteFail
  rw [State.event_out, State.setLnk_out]

theorem State.noteFail_flag : (s.noteFail k lseq).flag (lnkA k 4) 0 = true :=
  State.flag_event _ (lnkA_ne_lnkA k (by decide)) (by decide)

theorem State.noteFail_linkState : (s.noteFail k lseq).linkState k = s.linkState k :=
  State.event_linkState _ k (by decide) (by decide)

variable {s k lseq} (hk : k < 12)

include hk

/-- The packets from the named one on are sent again; the 8th failure begins retraining. -/
theorem exec_linkNak (up : s.linkState k = 3) (held : (s.lnk k).replay.any (fun p => p.seq == lseq) = true) :
    exec (.linkNak k lseq) s = .next (if 8 ≤ (s.lnk k).failed lseq then
      ((s.noteFail k lseq).setLnk k { (s.noteFail k lseq).lnk k with fails := 0 }).retraining k
      else (s.noteFail k lseq).replaySend k (fromSeq lseq (s.lnk k).replay)) := by
  change execLinkNak k lseq s = _
  unfold execLinkNak
  rw [guardI_true (by simpa using hk)]
  extract_lets x fails noted flagged retried
  have count : fails = x.failed lseq := by simp [fails, Lnk.failed]
  clear_value fails
  subst count
  rw [if_pos (by simpa [up] using held)]
  rfl

theorem exec_linkNak_unknown (unknown : (s.lnk k).replay.any (fun p => p.seq == lseq) = false) :
    exec (.linkNak k lseq) s = .next s := by
  change execLinkNak k lseq s = _
  unfold execLinkNak
  rw [guardI_true (by simpa using hk)]
  extract_lets x
  rw [if_neg (by simp [x, unknown])]

end Nak

/-! ### Acknowledgements and credits (R200, R201) -/

/-- A link whose packets up to `lseq` are acknowledged at the reference time `now`. -/
def Lnk.acked (x : Lnk) (lseq now : Nat) : Lnk :=
  let rest := (fromSeq lseq x.replay).drop 1
  { x with replay := rest, fails := if rest.any (fun p => p.seq == x.failSeq) then x.fails else 0, ackRef := now }

section Ack

variable {s : State} {k lseq : Nat} (hk : k < 12)

include hk

theorem exec_linkAck (held : (s.lnk k).replay.any (fun p => p.seq == lseq) = true) :
    exec (.linkAck k lseq) s = .next
      (State.linkDrain k (s.lnk k).queue.length (s.setLnk k ((s.lnk k).acked lseq s.clk.ref))) := by
  change execLinkAck k lseq s = _
  unfold execLinkAck
  rw [guardI_true (by simpa using hk)]
  extract_lets x
  rw [if_pos held]
  rfl

theorem exec_linkAck_unknown (unknown : (s.lnk k).replay.any (fun p => p.seq == lseq) = false) :
    exec (.linkAck k lseq) s = .next s := by
  change execLinkAck k lseq s = _
  unfold execLinkAck
  rw [guardI_true (by simpa using hk)]
  extract_lets x
  rw [if_neg (by simp [x, unknown])]

theorem exec_flowCreditReturn {vc : Nat} (hv : vc < 4) (up : s.linkState k = 3) (none : (s.lnk k).queue = [])
    (units : Nat) : exec (.flowCreditReturn k vc units) s = .next (s.linkSet k { s.lnk k with
      credits := setAt (s.lnk k).credits vc (min (fullCredits.getD vc 0) ((s.lnk k).credits.getD vc 0 + units)) }) := by
  change execFlowCreditReturn k vc units s = _
  unfold execFlowCreditReturn
  rw [guardI_true (by simp [hk, hv]), if_pos up]
  extract_lets x c
  have idle : x.queue = [] := none
  rw [idle]
  rfl

end Ack

/-! ### Arriving packets (R195, R200, R201) -/

theorem State.received_one (s : State) (vc : Nat) (p : RxPkt) (f : State → State) : s.received vc [p] f =
    if ((s.rxPkt vc p).2 && p.onward.isNone) = true then f (s.rxPkt vc p).1 else (s.rxPkt vc p).1 := by
  simp [State.received]

section Arrives

variable {s : State} {p : RxPkt} (vc : Nat)

/-- A packet that fails, or is not the one expected, is not accepted, and the same one is expected still (R201). -/
theorem State.rxPkt_discards (h : s.linkState p.link ≠ 3 ∨ p.lseq ≠ (s.lnk p.link).expect ∨
    p.errs.any (fun n => decide (15 < n)) = true) :
    (s.rxPkt vc p).2 = false ∧ ((s.rxPkt vc p).1.lnk p.link).expect = (s.lnk p.link).expect := by
  unfold State.rxPkt
  extract_lets x counted
  have kept : counted.lnk p.link = x := (State.fecCount_frame ..).lnk rfl _
  by_cases up : s.linkState p.link = 3
  case neg =>
    rw [if_pos up]
    exact ⟨rfl, rfl⟩
  rw [if_neg (by simp [up])]
  by_cases bad : p.errs.any (fun n => decide (15 < n)) = true
  case pos =>
    rw [if_pos bad, State.crcFail_lnk, kept]
    exact ⟨rfl, rfl⟩
  have apart : p.lseq ≠ x.expect := (h.resolve_left (by simp [up])).resolve_right bad
  rw [if_neg bad, if_pos apart]
  refine ⟨rfl, ?_⟩
  dsimp only
  split
  · rw [State.emit_lnk, kept]
  · rw [kept]

/-- A packet in order for this package is acknowledged, and its receive buffer's credits go back at once (R200, R201;
log entry 99). -/
theorem State.rxPkt_accepts (up : s.linkState p.link = 3) (inOrder : p.lseq = (s.lnk p.link).expect)
    (good : p.errs.any (fun n => decide (15 < n)) = false) (mine : p.onward = none) :
    (s.rxPkt vc p).2 = true ∧ ((s.rxPkt vc p).1.lnk p.link).expect = ((s.lnk p.link).expect + 1) % 4096 ∧
      Out.linkAck p.link p.lseq ∈ (s.rxPkt vc p).1.out ∧
      Out.linkCredit p.link vc (cdiv (p.len + 20) 64) ∈ (s.rxPkt vc p).1.out := by
  unfold State.rxPkt
  extract_lets x counted acked tallied units
  have f : Frame 0x2000000100000 acked tallied := State.tally_frame ..
  have expect : (acked.lnk p.link).expect = (x.expect + 1) % 4096 := by
    unfold acked
    rw [State.emit_lnk, State.lnk_setLnk]
  have out : tallied.out = counted.out ++ [.linkAck p.link p.lseq] := by
    rw [f.out rfl]
    unfold acked
    rw [State.emit_out, State.setLnk_out]
  rw [if_neg (by simp [up]), if_neg (by simp [good]), if_neg (by simp [x, inOrder]), mine]
  refine ⟨rfl, (congrArg Lnk.expect (f.lnk rfl p.link)).trans expect, ?_, ?_⟩
  · exact List.mem_append_left _ (by simp [out])
  · exact List.mem_append_right _ (by simp [units])

theorem exec_writeAck_packet (hp : p.link < 12) {d k c : Nat} (ok : chanOk d k c = true) :
    exec (.writeAck ⟨[p], .chan d⟩ k c) s = .next (s.received 0 [p] fun t => t.chanAck d k c) := by
  change execWriteAck ⟨[p], .chan d⟩ k c s = _
  unfold execWriteAck
  exact guardI_true (by simp [rxOk, hp, ok])

end Arrives

theorem State.chanAck_waiting {s : State} {d k c : Nat} {x : Xfer} (waits : (s.chan d k c).st = .waitAck)
    (hx : (s.chan d k c).xfer = some x) : s.chanAck d k c = (s.setChan d k c Chan.init).returnGrant d c x := by
  unfold State.chanAck
  rw [waits, hx]

/-! ### The commands together -/

/-- Settles O51: an acknowledgement rewrites its link once before anything is sent, and sending keeps what the link
awaits and the failures counted; an arriving packet is either discarded or accepted before its message is read. -/
theorem linkPackets : Obligations.LinkPackets := by
  refine ⟨?failed, ?nak, ?ack, ?unknown, ?credits, ?discarded, ?accepted⟩
  case failed =>
    intro s k lseq n corrected hk few up
    have counted := s.fecCount_frame k corrected n
    refine ⟨_, exec_linkCrcFailure n hk few up lseq, ?_, ?_, ?_, ?_⟩
    · rw [State.crcFail_out, counted.out rfl, counted.lnk rfl]
    · rw [State.crcFail_lnk, counted.lnk rfl]
    · rw [State.rd64_congr (State.crcFail_rd ..) (State.crcFail_rd ..), State.fecCount_corrected]
    · rw [State.crcFail_rd, State.fecCount_codewords]
  case nak =>
    intro s k lseq hk up held again fails
    have flagged := s.noteFail_flag k lseq
    by_cases eighth : 8 ≤ fails
    case pos =>
      refine ⟨_, (exec_linkNak hk up held).trans (congrArg _ (if_pos eighth)), ?_, ?_,
        fun few => absurd eighth (Nat.not_le.mpr few), fun _ => ⟨State.retraining_linkState .., ?_⟩⟩
      · rw [State.retraining_lnk, State.lnk_setLnk, State.noteFail_lnk]
      · rw [State.retraining_flag_replay, State.flag_congr (State.setLnk_rd ..), flagged]
      · rw [(State.retraining_frame ..).out rfl, State.setLnk_out, State.noteFail_out]
    case neg =>
      have sent := (s.noteFail k lseq).replaySend_frame k again
      refine ⟨_, (exec_linkNak hk up held).trans (congrArg _ (if_neg eighth)), ?_,
        (State.flag_congr (sent.rd_lnkA rfl k 4) 0).trans flagged, fun _ => ⟨?_, ?_, ?_⟩,
        fun h => absurd h eighth⟩
      · rw [sent.lnk rfl, State.noteFail_lnk]
      · rw [sent.linkState rfl, State.noteFail_linkState, up]
      · rw [sent.lnk rfl, State.noteFail_lnk]
        rfl
      · rw [State.replaySend_out, State.noteFail_out]
  case ack =>
    intro s k lseq hk held rest
    refine ⟨_, exec_linkAck hk held, ?_, fun none => ?_⟩
    · rw [(State.linkDrain_sends ..).fails, State.lnk_setLnk]
      rfl
    · rw [none]
      exact congrArg Lnk.replay (State.lnk_setLnk ..)
  case unknown =>
    intro s k lseq hk unknown
    exact ⟨exec_linkAck_unknown hk unknown, exec_linkNak_unknown hk unknown⟩
  case credits =>
    intro s k vc units hk hv up none
    exact ⟨_, exec_flowCreditReturn hk hv up none units, congrArg Lnk.credits (State.linkSet_lnk ..)⟩
  case discarded =>
    intro s p d k c hp ok h
    obtain ⟨refused, expect⟩ := State.rxPkt_discards 0 h
    refine ⟨_, exec_writeAck_packet hp ok, ?_⟩
    rw [State.received_one, refused, Bool.false_and, if_neg Bool.false_ne_true]
    exact ⟨(s.rxPkt_frame 0 p).fst.chans rfl, expect⟩
  case accepted =>
    intro s p d k c x hp ok up inOrder good mine waits hx
    obtain ⟨accepted, expect, acked, credited⟩ := State.rxPkt_accepts 0 up inOrder good mine
    refine ⟨_, exec_writeAck_packet hp ok, ?_⟩
    rw [State.received_one, accepted, mine, Option.isNone_none, Bool.and_self, if_pos rfl]
    generalize hu : (s.rxPkt 0 p).1 = u at expect acked credited ⊢
    have same : u.chan d k c = s.chan d k c := by
      rw [← hu]
      exact (s.rxPkt_frame 0 p).fst.chan rfl d k c
    rw [State.chanAck_waiting (same ▸ waits) (same ▸ hx)]
    have sent := (u.setChan d k c Chan.init).returnGrant_sends d c x
    refine ⟨?_, (sent.expect p.link).trans expect, sent.out.subset acked, sent.out.subset credited⟩
    rw [(State.returnGrant_frame ..).chan rfl, State.chan_setChan]

end Sys2Proof.Machine

/-!
What the operations of a sensor stream leave of it (09_sensor_ingest.md: R220 to R227, R234): its registers, the sample
under way with the number of the last one, and the samples that wait.
-/

namespace Sys2Proof.Machine

open Sys2Proof

/-! ### Registers of a stream -/

theorem ingA_ne_ingA (st : Nat) {o p : Nat} (h : o % 0x400 ≠ p % 0x400) : ingA st o ≠ ingA st p := by
  unfold ingA
  omega

theorem ingW_ne_ingA (o st p : Nat) : ingW o ≠ ingA st p := by
  unfold ingW ingA
  omega

theorem blk_ingA (st o : Nat) : blk (ingA st o) = 3 := by
  unfold blk ingA
  rw [if_pos (by omega)]
  omega

section Kept

variable {m : Nat} {s t : State} (h : Frame m s t)

include h

theorem Frame.rd_ingA (b : touches m 43 = false) (st o : Nat) : t.rd (ingA st o) = s.rd (ingA st o) :=
  h.blk _ (by rwa [blk_ingA])

theorem Frame.transport (b : touches m 43 = false) (st : Nat) : t.transport st = s.transport st :=
  State.fld_congr (h.rd_ingA b st 0) ..

theorem Frame.foreign (b32 : touches m 32 = false) (b43 : touches m 43 = false) (st : Nat) (p : Packet) :
    t.foreign st p = s.foreign st p := by
  unfold State.foreign State.rtpForeign State.rtpSeq
  simp only [h.stream b32, h.transport b43, State.fld_congr (h.rd_ingA b43 st 8), State.flag_congr (h.rd_ingA b43 st 8),
    h.rd_ingA b43]

end Kept

/-- The ingest queue's registers are none of a stream's. -/
theorem State.ingQueue_rd_ingA (s : State) (st o : Nat) : s.ingQueue.rd (ingA st o) = s.rd (ingA st o) := by
  have synced := (s.tlySync_frame 7).rd_ingA rfl st o
  have put : ∀ (v : State) (p hi lo n : Nat), (v.put (ingW p) hi lo n).rd (ingA st o) = v.rd (ingA st o) :=
    fun v p _ _ _ => v.rd_put_ne _ _ _ (ingW_ne_ingA p st o)
  have event : ∀ (v : State) (p i c : Nat), (v.event (ingW p) i (ingW c)).rd (ingA st o) = v.rd (ingA st o) :=
    fun v p i c => v.rd_event_ne i (ingW_ne_ingA p st o) (ingW_ne_ingA c st o)
  unfold State.ingQueue
  extract_lets v n w on
  have queued : w.rd (ingA st o) = s.rd (ingA st o) := (put ..).trans synced
  split
  · exact (put ..).trans queued
  split
  · exact (event ..).trans ((put ..).trans queued)
  split
  · exact (put ..).trans queued
  · exact queued

theorem State.strm_of_comp {s t : State} (h : t.comp = s.comp) (st : Nat) : t.strm st = s.strm st := by
  unfold State.strm
  rw [h]

/-! ### Slots and substitutes (R227, R234) -/

/-- Taking a slot changes a stream's slots, and drops what waits for that slot. -/
theorem State.takeSlot_eq (s : State) (st i : Nat) (r : RingSlot) : ∃ (u : State) (slots : List (Option RingSlot))
    (wait : List Sample), wait ⊆ (s.strm st).wait ∧ s.takeSlot st i r = u.setStrm st { s.strm st with slots, wait } ∧
      ∀ o, o % 0x400 ≠ 0xC8 → u.rd (ingA st o) = s.rd (ingA st o) := by
  unfold State.takeSlot
  extract_lets x busy u
  refine ⟨u, _, _, List.filter_subset_self .., rfl, fun o ho => ?_⟩
  unfold u
  split
  · rw [State.rd_count_ne _ (ingA_ne_ingA st (by omega)), (State.tlySync_frame ..).rd_ingA rfl]
  · rfl

/-- A substitute states its reason, takes at most a slot, and is one event: stood in, or dropped for want of a slot. -/
theorem State.substitute_eq (s : State) (st : Nat) (x : Sample) (reason : Nat) : ∃ (u v : State) (i c : Nat),
    (u = s.put (ingA st 0xA0) 31 24 reason ∨ ∃ k r, u = (s.put (ingA st 0xA0) 31 24 reason).takeSlot st k r) ∧
    Frame 0x200800 u v ∧ (i = 0 ∧ c = 0xA8 ∨ i = 3 ∧ c = 0xB4) ∧
    Frame 0x5300000108e0c (v.event (ingA st 0xA0) i (ingA st c)) (s.substitute st x reason) := by
  have after : ∀ v : State, Frame 0x5300000108e0c v (v.wdPre st x).bump.bump.bump := fun v =>
    ((((Frame.refl _ v).step (State.wdPre_frame ..) rfl).step (State.bump_frame ..) rfl).step (State.bump_frame ..)
      rfl).step (State.bump_frame ..) rfl
  unfold State.substitute
  extract_lets reasoned golden tensor held
  split
  · exact ⟨reasoned, _, 0, 0xA8, .inl rfl, (State.setSst_frame ..).mono rfl, .inl ⟨rfl, rfl⟩, after _⟩
  split
  · exact ⟨reasoned, _, 3, 0xB4, .inl rfl, .refl .., .inr ⟨rfl, rfl⟩, .refl ..⟩
  case h_2 k _ =>
    extract_lets stored
    exact ⟨_, stored, 0, 0xA8, .inr ⟨k, _, rfl⟩, (State.slotWrite_frame ..).mono rfl, .inl ⟨rfl, rfl⟩, after _⟩

theorem State.substitute_wait (s : State) (st : Nat) (x : Sample) (reason : Nat) :
    ((s.substitute st x reason).strm st).wait ⊆ (s.strm st).wait := by
  obtain ⟨u, v, i, c, started, stood, -, ended⟩ := s.substitute_eq st x reason
  rw [ended.stream rfl, State.strm_of_comp (v.event_comp ..), stood.stream rfl]
  have put : (s.put (ingA st 0xA0) 31 24 reason).strm st = s.strm st := State.strm_of_comp (s.put_comp ..) st
  obtain rfl | ⟨k, r, rfl⟩ := started
  · rw [put]
    exact List.Subset.refl _
  · obtain ⟨w, slots, wait, fewer, taken, -⟩ := (s.put (ingA st 0xA0) 31 24 reason).takeSlot_eq st k r
    rw [taken, State.strm_setStrm, ← put]
    exact fewer

/-- The reason stands in the stream's status (Table 09-2). -/
theorem State.substitute_reason (s : State) (st : Nat) (x : Sample) {reason : Nat} (h : reason < 256) :
    (s.substitute st x reason).fld (ingA st 0xA0) 31 24 = reason := by
  obtain ⟨u, v, i, c, started, stood, event, ended⟩ := s.substitute_eq st x reason
  have put : (s.put (ingA st 0xA0) 31 24 reason).fld (ingA st 0xA0) 31 24 = reason := by
    rw [State.fld_put_self _ _ _ (by omega) (by omega)]
    exact Nat.mod_eq_of_lt h
  rw [State.fld_congr (ended.rd_ingA rfl st 0xA0), State.fld_event_beside _ (ingA_ne_ingA st (by omega)) (by omega)
    (by omega) (by omega), State.fld_congr (stood.rd_ingA rfl st 0xA0)]
  obtain rfl | ⟨k, r, rfl⟩ := started
  · exact put
  · obtain ⟨w, slots, wait, -, taken, kept⟩ := (s.put (ingA st 0xA0) 31 24 reason).takeSlot_eq st k r
    rw [taken, State.fld_congr ((State.setStrm_frame ..).rd_ingA rfl st 0xA0), State.fld_congr (kept 0xA0 (by decide))]
    exact put

/-! ### What keeps a stream's count of samples -/

/-- The sample under way, the number of the last one, and the two registers that show the numbers stay. -/
structure State.SameCount (st : Nat) (s t : State) : Prop where
  cur : (t.strm st).cur = (s.strm st).cur
  num : (t.strm st).num = (s.strm st).num
  shown : t.rd (ingA st 0xD0) = s.rd (ingA st 0xD0)
  count : t.rd (ingA st 0xA4) = s.rd (ingA st 0xA4)

section SameCount

variable {st : Nat} {s t u : State}

theorem State.SameCount.refl (st : Nat) (s : State) : SameCount st s s := ⟨rfl, rfl, rfl, rfl⟩

theorem State.SameCount.trans (h : SameCount st s t) (k : SameCount st t u) : SameCount st s u :=
  ⟨k.cur.trans h.cur, k.num.trans h.num, k.shown.trans h.shown, k.count.trans h.count⟩

theorem Frame.sameCount {m : Nat} (h : Frame m s t) (b32 : touches m 32 = false) (b43 : touches m 43 = false) :
    State.SameCount st s t :=
  ⟨by rw [h.stream b32], by rw [h.stream b32], h.rd_ingA b43 .., h.rd_ingA b43 ..⟩

/-- Writes to other registers of the stream. -/
theorem State.SameCount.of_regs (comp : t.comp = s.comp)
    (rd : ∀ o, o = 0xD0 ∨ o = 0xA4 → t.rd (ingA st o) = s.rd (ingA st o)) : SameCount st s t :=
  ⟨by rw [State.strm_of_comp comp], by rw [State.strm_of_comp comp], rd _ (.inl rfl), rd _ (.inr rfl)⟩

theorem State.put_sameCount (s : State) (st hi lo v : Nat) : SameCount st s (s.put (ingA st 0xA0) hi lo v) :=
  .of_regs (s.put_comp ..) fun _ _ => State.rd_put_ne _ _ _ _ (ingA_ne_ingA st (by omega))

theorem State.event_sameCount (s : State) (st i : Nat) {c : Nat} (h : 0xA8 ≤ c ∧ c < 0xD0) :
    SameCount st s (s.event (ingA st 0xA0) i (ingA st c)) :=
  .of_regs (s.event_comp ..) fun _ _ => State.rd_event_ne _ _ (ingA_ne_ingA st (by omega)) (ingA_ne_ingA st (by omega))

theorem State.setStrm_sameCount {x : Strm} (cur : x.cur = (s.strm st).cur) (num : x.num = (s.strm st).num) :
    SameCount st s (s.setStrm st x) := by
  constructor
  case cur => rw [State.strm_setStrm, cur]
  case num => rw [State.strm_setStrm, num]
  all_goals rfl

theorem State.ingQueue_sameCount (s : State) (st : Nat) : SameCount st s s.ingQueue :=
  ⟨by rw [(State.ingQueue_frame ..).stream rfl], by rw [(State.ingQueue_frame ..).stream rfl],
    s.ingQueue_rd_ingA .., s.ingQueue_rd_ingA ..⟩

theorem State.takeSlot_sameCount (s : State) (st i : Nat) (r : RingSlot) : SameCount st s (s.takeSlot st i r) := by
  obtain ⟨u, slots, wait, -, taken, kept⟩ := s.takeSlot_eq st i r
  rw [taken]
  exact ⟨by rw [State.strm_setStrm], by rw [State.strm_setStrm], kept _ (by decide), kept _ (by decide)⟩

theorem State.substitute_sameCount (s : State) (st : Nat) (x : Sample) (reason : Nat) :
    SameCount st s (s.substitute st x reason) := by
  obtain ⟨u, v, i, c, started, stood, event, ended⟩ := s.substitute_eq st x reason
  have start : SameCount st s u := by
    obtain rfl | ⟨k, r, rfl⟩ := started
    · exact s.put_sameCount ..
    · exact (s.put_sameCount ..).trans (State.takeSlot_sameCount ..)
  exact ((start.trans (stood.sameCount rfl rfl)).trans (v.event_sameCount st i (by omega))).trans
    (ended.sameCount rfl rfl)

theorem State.queueSample_sameCount (s : State) (st : Nat) (x : Sample) : SameCount st s (s.queueSample st x) := by
  unfold State.queueSample
  split
  · exact s.event_sameCount st 3 (by decide)
  · exact (s.takeSlot_sameCount ..).trans (State.setStrm_sameCount rfl rfl)

theorem State.goldenIn_sameCount (st : Nat) (l : List Bytes) (s : State) (x : Sample) :
    SameCount st s (s.goldenIn st l x).1 := by
  induction l generalizing s x with
  | nil => exact .refl ..
  | cons b l ih =>
    unfold State.goldenIn
    extract_lets r rtp ts y
    split
    · exact (s.event_sameCount st 1 (by decide)).trans (ih ..)
    split
    · exact .refl ..
    split
    · exact .refl ..
    · exact ih ..

theorem State.present_sameCount (s : State) (st t u : Nat) (g : Golden) : SameCount st s (s.present st t u g) := by
  unfold State.present
  extract_lets _ _ shown _ assembled v x reason
  have presented : Frame 0x1000000100800 s shown :=
    (State.setSst_frame ..).mono rfl |>.trans (State.put_frame rfl (tb_safSt rfl) ..)
  have taken : SameCount st s v := (presented.sameCount rfl rfl).trans (State.goldenIn_sameCount ..)
  split
  · exact taken.trans (State.setStrm_sameCount rfl rfl)
  · exact taken.trans (v.substitute_sameCount ..)

/-- A gap may bring a golden sample, which has no number (R313, R237). -/
theorem State.gapOpen_sameCount (s : State) (st t u : Nat) : SameCount st s (s.gapOpen st t u) := by
  unfold State.gapOpen
  extract_lets n opened
  have counted : SameCount st s opened :=
    Frame.sameCount (m := 0x1000000100000) (State.put_frame rfl (tb_safSt rfl) ..) rfl rfl
  split
  · exact counted
  split
  · exact counted
  split
  · exact counted.trans ((State.canaryDefer_frame ..).sameCount rfl rfl)
  · exact counted.trans (State.present_sameCount ..)

end SameCount

/-! ### The end of a sample (R222 to R225) -/

/-- A sample of stream `st` ended: it has the next number and is counted, and none is under way. -/
structure State.Ends (st : Nat) (s t : State) : Prop where
  cur : (t.strm st).cur = none
  num : (t.strm st).num = (s.strm st).num + 1
  shown : t.rd (ingA st 0xD0) = BitVec.ofNat 32 ((s.strm st).num + 1)
  count : t.rd (ingA st 0xA4) = BitVec.ofNat 32 (satAdd countTop (s.rd (ingA st 0xA4)).toNat 1)

theorem State.Ends.after {st : Nat} {s t u : State} (h : Ends st s t) (k : SameCount st t u) : Ends st s u :=
  ⟨k.cur.trans h.cur, k.num.trans h.num, k.shown.trans h.shown, k.count.trans h.count⟩

/-- The sample is numbered and counted first; what becomes of it comes after. -/
theorem State.sampleDone_ends (s : State) (st : Nat) (x : Sample) : Ends st s (s.sampleDone st x) := by
  unfold State.sampleDone
  extract_lets rtp n y strm closed numbered settled
  have counted : Ends st s ((closed.wr (ingA st 0xD0) (BitVec.ofNat 32 n)).count (ingA st 0xA4)) := by
    have same : ((closed.wr (ingA st 0xD0) (BitVec.ofNat 32 n)).count (ingA st 0xA4)).strm st = closed.strm st :=
      State.strm_of_comp (by rw [State.count_comp, State.wr_comp]) st
    have apart : ingA st 0xA4 ≠ ingA st 0xD0 := ingA_ne_ingA st (by decide)
    constructor
    case cur => rw [same, State.strm_setStrm]
    case num => rw [same, State.strm_setStrm]
    case shown => rw [State.rd_count_ne _ apart, State.rd_wr_self]
    case count => rw [State.rd_count_self, State.rd_wr_ne _ _ apart.symm, State.setStrm_rd]
  have watched : Ends st s numbered := counted.after ((State.wdIngest_frame ..).sameCount rfl rfl)
  refine (watched.after ?_).after (State.gapOpen_sameCount ..)
  unfold settled
  split
  · refine SameCount.trans ?_ (State.event_sameCount _ st 2 (by decide))
    split
    · exact .refl ..
    · exact State.put_sameCount ..
  split
  · exact State.substitute_sameCount ..
  · exact State.queueSample_sameCount ..

end Sys2Proof.Machine

/-!
Packets of a sensor stream (09_sensor_ingest.md: R220 to R224): what a packet and a sample's time-out answer.
-/

namespace Sys2Proof.Machine

open Sys2Proof

/-- A matched packet as it is stamped and logged, before it is looked into (R221). -/
def State.sensorLogged (s : State) (st stamp u : Nat) (b : Bytes) : State :=
  ((s.tally 7 0x20 st 1).stamped u).slogAdd 0x04 0 st stamp u b

theorem State.sensorLogged_frame (s : State) (st stamp u : Nat) (b : Bytes) :
    Frame 0x2050000101000 s (s.sensorLogged st stamp u b) :=
  ((State.tally_frame ..).mono rfl |>.step (State.stamped_frame ..) rfl).step (State.slogAdd_frame ..) rfl

theorem State.absorb_ts (s : State) (st : Nat) (x : Sample) (b : Bytes) : (s.absorb st x b).ts = x.ts := by
  unfold State.absorb
  extract_lets reason
  split <;> rfl

/-- The first packet of an image opens a sample with its timestamp, which it may complete at once. -/
theorem State.assemble_first {s : State} {st : Nat} (stamp u : Nat) {b : Bytes} (image : s.transport st ≠ 3)
    (idle : (s.strm st).cur = none) : ∃ (v : State) (x : Sample), State.SameCount st s v ∧ x.ts = (rtpOf b).ts ∧
      (s.assemble st stamp u b = v.setStrm st { v.strm st with cur := some x } ∨
        s.assemble st stamp u b = (v.setStrm st { v.strm st with cur := some x }).sampleDone st x) := by
  unfold State.assemble
  extract_lets r rtp cur ts v x y full w z shown opened
  have none_before : cur = none := idle
  have here : v = s := by
    unfold v
    rw [none_before]
  have start : x = Sample.start ts := by
    unfold x
    rw [here, idle]
    rfl
  have stamped : y.ts = r.ts := by
    have : y.ts = x.ts := rfl
    rw [this, start]
    exact if_pos (decide_eq_true image)
  have sampled : z.ts = r.ts := by
    unfold z
    split
    · exact stamped
    · rw [State.absorb_ts, stamped]
  have same : State.SameCount st s w := by
    unfold w
    rw [here]
    split
    · exact .of_regs (s.event_comp ..) fun o _ => s.rd_event_ne _ (ingW_ne_ingA 8 st o) (ingW_ne_ingA 0xC st o)
    · exact .refl ..
  exact ⟨w, z, same, sampled, (ite_eq_or_eq ..).symm⟩

theorem exec_sensorPacket {s : State} {st : Nat} (hs : st < 48) (stamp uncert : Nat) (p : Packet) :
    exec (.sensorPacket st stamp uncert p) s = .next
      (if s.isReady && s.streamOn st && !s.inReplay then s.sensorIn st stamp uncert p else s) :=
  guardI_true (decide_eq_true hs)

/-- A foreign packet is one event and no more. -/
theorem State.sensorIn_eq (s : State) (st stamp uncert : Nat) (p : Packet) : s.sensorIn st stamp uncert p =
    if s.foreign st p then
      (s.sensorLogged st stamp (min uncertMax uncert) p.payload).event (ingA st 0xA0) 1 (ingA st 0xAC)
    else ((s.sensorLogged st stamp (min uncertMax uncert) p.payload).assemble st stamp (min uncertMax uncert)
      p.payload).ingQueue := by
  rw [← (s.sensorLogged_frame st stamp (min uncertMax uncert) p.payload).foreign rfl rfl]
  rfl

theorem exec_sampleTimeout {s u : State} {st : Nat} {x : Sample} (hs : st < 48) (current : (s.strm st).cur = some x)
    (due : s.reachRef (x.last + s.fld (ingA st 0x18) 15 0 * 1000) = some u) :
    exec (.sampleTimeout st) s = .next (u.closeSample st x).ingQueue := by
  change execSampleTimeout st s = _
  unfold execSampleTimeout
  rw [guardI_true (decide_eq_true hs), current]
  exact congrArg _ (State.atRef_some due _)

/-- Settles O39: a packet is stamped and logged beside the stream; what closes a sample numbers it first. -/
theorem sensorPackets : Obligations.SensorPackets := by
  refine ⟨?ignored, ?taken, ?timeout⟩
  case ignored =>
    intro s st stamp uncert p hs off
    rw [exec_sensorPacket hs, if_neg]
    rcases off with h | h | h <;> simp [h]
  case taken =>
    intro s st stamp uncert p hs ready on live
    refine ⟨_, (exec_sensorPacket hs ..).trans (congrArg _ (if_pos (by simp [ready, on, live]))), ?_⟩
    have logged := s.sensorLogged_frame st stamp (min uncertMax uncert) p.payload
    refine ⟨fun foreign => ?_, fun mine image idle => ?_⟩
    · have apart : ingA st 0xA0 ≠ ingA st 0xAC := ingA_ne_ingA st (by decide)
      rw [State.sensorIn_eq, if_pos foreign]
      refine ⟨(State.strm_of_comp (State.event_comp ..) st).trans (logged.stream rfl st),
        State.flag_event _ apart (by decide), ?_⟩
      rw [State.rd_event_count _ _ apart, logged.rd_ingA rfl]
    · rw [State.sensorIn_eq, if_neg (by simp [mine]), (State.ingQueue_frame ..).stream rfl]
      obtain ⟨v, x, same, ts, opens | ends⟩ := State.assemble_first stamp (min uncertMax uncert) (b := p.payload)
        (logged.transport rfl st ▸ image) (logged.stream rfl st ▸ idle)
      · left
        rw [opens, State.strm_setStrm]
        exact ⟨congrArg some ts, by rw [same.num, logged.stream rfl]⟩
      · right
        have ended := (v.setStrm st { v.strm st with cur := some x }).sampleDone_ends st x
        rw [ends]
        refine ⟨ended.cur, ?_⟩
        rw [ended.num, State.strm_setStrm, same.num, logged.stream rfl]
  case timeout =>
    intro s u st x hs current due
    have later := State.reachRef_fr due
    have ended : State.Ends st u (u.closeSample st x).ingQueue :=
      (State.sampleDone_ends ..).after (State.ingQueue_sameCount ..)
    rw [← later.stream rfl st, ← later.rd_ingA rfl st 0xA4]
    exact ⟨_, exec_sampleTimeout hs current due, ended.cur, ended.num, ended.shown, ended.count⟩

end Sys2Proof.Machine

/-!
From a sample to its tensor (09_sensor_ingest.md: R224 to R229, R233 to R239; 13_functional_safety.md: R313): what the
decoder's start, a tensor's completion and a failed sample leave of the stream.
-/

namespace Sys2Proof.Machine

open Sys2Proof

/-! ### Samples taken out -/

/-- The sample `x` waits in stream `st` no more; the number and the canary bit name a sample (R237). -/
def State.gone (st : Nat) (x : Sample) (s : State) : Prop :=
  ∀ y ∈ (s.strm st).wait, ¬(y.num = x.num ∧ y.canary = x.canary)

theorem State.gone.fewer {st : Nat} {x : Sample} {s t : State} (h : s.gone st x)
    (sub : (t.strm st).wait ⊆ (s.strm st).wait) : t.gone st x :=
  fun y hy => h y (sub hy)

theorem State.dropSample_strm (s : State) (st : Nat) (x : Sample) : (s.dropSample st x).strm st =
    { s.strm st with wait := (s.strm st).wait.filter (fun y => !(y.num == x.num && y.canary == x.canary)) } :=
  State.strm_setStrm ..

theorem State.dropSample_gone (s : State) (st : Nat) (x : Sample) : (s.dropSample st x).gone st x := by
  intro y hy
  rw [State.dropSample_strm] at hy
  simpa [Decidable.imp_iff_not_or] using (List.mem_filter.mp hy).right

/-! ### The decoder takes a sample (R224) -/

theorem State.offloadAll_of_none {s : State} (none : s.sampleQueue (fun p => p == .offloaded 0) = []) :
    s.offloadAll = s := by
  unfold State.offloadAll
  rw [none]
  change s.offloadOne = s
  unfold State.offloadOne
  rw [none]
  rfl

theorem exec_sampleProcessStart {s : State} {st : Nat} {x : Sample}
    (none : s.sampleQueue (fun p => p == .offloaded 0) = [])
    (oldest : (s.sampleQueue (fun p => p == .waiting)).head? = some (st, x)) :
    exec .sampleProcessStart s = .next ((s.tlySync 7).updSample st (fun y => y.num == x.num && y.canary == x.canary)
      fun y => { y with phase := .processing }) := by
  change execSampleProcessStart s = _
  unfold execSampleProcessStart
  rw [State.offloadAll_of_none none]
  dsimp only
  rw [oldest]

/-! ### A complete tensor (R229, R235, R237) -/

/-- The stream when a tensor of `x` is complete, before the tensor goes to its place. -/
def State.tensorCounted (s : State) (st : Nat) (x : Sample) : State :=
  (((s.tlySync 7).dropSample st x).countTensor st (s.makeTensor st x)).wdPre st x

theorem State.tensorCounted_clk (s : State) (st : Nat) (x : Sample) : (s.tensorCounted st x).clk = s.clk := by
  unfold State.tensorCounted
  rw [(State.wdPre_frame ..).clk rfl, (State.countTensor_frame ..).clk rfl, (State.dropSample_frame ..).clk rfl,
    (State.tlySync_frame ..).clk rfl]

theorem State.tensorCounted_strm (s : State) (st : Nat) (x : Sample) :
    (s.tensorCounted st x).strm st = (s.dropSample st x).strm st := by
  unfold State.tensorCounted
  rw [(State.wdPre_frame ..).stream rfl, (State.countTensor_frame ..).stream rfl, State.dropSample_strm,
    State.dropSample_strm, (State.tlySync_frame ..).stream rfl]

theorem State.tensorCounted_gone (s : State) (st : Nat) (x : Sample) : (s.tensorCounted st x).gone st x :=
  (s.dropSample_gone st x).fewer (by rw [State.tensorCounted_strm]; exact List.Subset.refl _)

theorem exec_tensorComplete {s : State} {st : Nat} {x : Sample} (hs : st < 48) (inside : s.inProcess st = some x) :
    exec (.tensorComplete st) s = .next
      (if x.canary then (s.tensorCounted st x).setSst st { (s.tensorCounted st x).sst st with
        tensor := some (s.goodTensor st x (s.makeTensor st x), (s.tensorCounted st x).clk.t) }
      else match x.slot with
        | none => (s.tensorCounted st x).ingQueue
        | some i => ((s.tensorCounted st x).tensorDone st i x (s.goodTensor st x (s.makeTensor st x))).ingQueue) := by
  change execTensorComplete st s = _
  unfold execTensorComplete
  rw [guardI_true (decide_eq_true hs), inside]
  rfl

/-- The slot of a complete tensor holds its sample, and the last-good tensor is this one (R235). -/
theorem State.tensorDone_strm (s : State) (st i : Nat) (x : Sample) (b : Bytes) : (s.tensorDone st i x b).strm st =
    { s.strm st with slots := setAt (s.strm st).slots i (some ⟨x.num, x.stamp, true, s.clk.t⟩), good := some b } := by
  unfold State.tensorDone
  extract_lets y written done
  have clk : written.clk = s.clk := by
    unfold written
    rw [(State.slotWrite_frame ..).clk rfl, (State.slotWrite_frame ..).clk rfl]
  rw [State.strm_of_comp (State.wr_comp ..), State.strm_setStrm, clk]

theorem State.tensorDone_num (s : State) (st i : Nat) (x : Sample) (b : Bytes) :
    (s.tensorDone st i x b).rd (ingA st 0xD4) = BitVec.ofNat 32 x.num :=
  State.rd_wr_self ..

/-! ### A sample that fails (R226, R227) -/

theorem State.sampleFails_gone (s : State) (st : Nat) (x : Sample) (reason : Nat) :
    (s.sampleFails st x reason).gone st x := by
  unfold State.sampleFails
  extract_lets dropped y freed
  have gone : freed.gone st x := by
    refine ((s.tlySync 7).dropSample_gone st x).fewer ?_
    unfold freed
    split
    · exact List.Subset.refl _
    · rw [State.strm_setStrm]
      exact List.Subset.refl _
  refine gone.fewer ?_
  rw [(State.ingQueue_frame ..).stream rfl]
  exact State.substitute_wait ..

theorem State.sampleFails_reason (s : State) (st : Nat) (x : Sample) {reason : Nat} (h : reason < 256) :
    (s.sampleFails st x reason).fld (ingA st 0xA0) 31 24 = reason :=
  (State.fld_congr (State.ingQueue_rd_ingA ..) ..).trans (State.substitute_reason _ st x h)

theorem exec_decodeError {s : State} {st : Nat} {x : Sample} (hs : st < 48)
    (inside : (s.strm st).wait.find? (fun x => x.phase == .processing) = some x) (jpeg : s.transport st = 2) :
    exec (.decodeError st) s = .next (s.sampleFails st x 5) := by
  change execDecodeError st s = _
  unfold execDecodeError
  rw [guardI_true (decide_eq_true hs), inside]
  exact congrArg _ (if_pos jpeg)

theorem exec_hostDecodeTimeout {s u : State} {st num due : Nat} {x : Sample} (hs : st < 48)
    (hosted : s.atHost st num = some (x, due)) (late : s.reachRef due = some u) :
    exec (.hostDecodeTimeout st num) s = .next (u.sampleFails st x 8) := by
  change execHostDecodeTimeout st num s = _
  unfold execHostDecodeTimeout
  rw [guardI_true (decide_eq_true hs), hosted]
  exact congrArg _ (State.atRef_some late _)

/-! ### The commands together -/

/-- Settles O40: the sample leaves those that wait before its tensor goes to its place, or before it is substituted. -/
theorem sampleProcessing : Obligations.SampleProcessing := by
  refine ⟨?start, ?complete, ?error, ?late⟩
  case start =>
    intro s st x none oldest
    refine ⟨_, exec_sampleProcessStart none oldest, fun y hy num canary => ?_⟩
    rw [State.updSample_wait] at hy
    obtain ⟨z, rfl⟩ := exists_of_mem_mapIf hy (by simp [num, canary])
    rfl
  case complete =>
    intro s st x hs inside
    refine ⟨_, exec_tensorComplete hs inside, ?_⟩
    have gone := s.tensorCounted_gone st x
    by_cases canary : x.canary = true
    case pos =>
      rw [if_pos canary]
      refine ⟨gone, fun i not => absurd canary (by simp [not]), fun _ => ?_⟩
      rw [State.sst_setSst, State.tensorCounted_clk]
    rw [if_neg canary]
    cases slot : x.slot with
    | none =>
      refine ⟨gone.fewer ?_, fun i _ h => (nomatch h), fun h => absurd h canary⟩
      rw [(State.ingQueue_frame ..).stream rfl]
      exact List.Subset.refl _
    | some i =>
      have placed := (s.tensorCounted st x).tensorDone_strm st i x (s.goodTensor st x (s.makeTensor st x))
      refine ⟨gone.fewer ?_, fun k _ same => ?_, fun h => absurd h canary⟩
      · rw [(State.ingQueue_frame ..).stream rfl, placed]
        exact List.Subset.refl _
      · obtain rfl := Option.some.inj same
        rw [State.tensorCounted_strm, State.tensorCounted_clk, State.dropSample_strm] at placed
        rw [(State.ingQueue_frame ..).stream rfl, placed, State.ingQueue_rd_ingA]
        exact ⟨rfl, rfl, State.tensorDone_num ..⟩
  case error =>
    intro s st x hs inside jpeg
    exact ⟨_, exec_decodeError hs inside jpeg, State.sampleFails_reason _ _ _ (by decide), s.sampleFails_gone st x 5⟩
  case late =>
    intro s u st num due x hs hosted late
    exact ⟨_, exec_hostDecodeTimeout hs hosted late, State.sampleFails_reason _ _ _ (by decide),
      u.sampleFails_gone st x 8⟩

end Sys2Proof.Machine

/-!
The domains of site time (10_site_time.md: R242, R248): what LISTENING, the choice of a grandmaster and one Sync leave
of a domain's record and of its state.
-/

namespace Sys2Proof.Machine

open Sys2Proof

/-! ### Records and registers of a domain -/

theorem State.dom_congr {s t : State} (h : t.doms = s.doms) (d : Nat) : t.dom d = s.dom d := by
  unfold State.dom
  rw [h]

theorem domA_ne_domA (d : Nat) {o p : Nat} (h : o % 0x40 ≠ p % 0x40) : domA d o ≠ domA d p := by
  unfold domA
  omega

theorem domA_ne_timA {d o p : Nat} (hd : d < 2) (ho : o < 0x40) (hp : 0x80 ≤ p % 0x100000) : domA d o ≠ timA p := by
  unfold domA timA
  omega

theorem State.domFor_lt {s : State} {p n d : Nat} (h : s.domFor p n = some d) : d < 2 := by
  unfold State.domFor at h
  split at h
  · cases h
  · exact List.mem_range.mp (List.mem_filter.mp (List.mem_of_head? h)).1

theorem State.domState_congr {s t : State} {d : Nat} (h : t.rd (domA d 4) = s.rd (domA d 4)) :
    t.domState d = s.domState d := State.fld_congr h ..

theorem State.domState_setDomState (s : State) (d n : Nat) : (s.setDomState d n).domState d = n % 4 :=
  s.fld_put_self (domA d 4) n (by decide) (by decide)

/-- The other fields of TIM_DOM_STAT leave the state. -/
theorem State.domState_put (s : State) (d : Nat) {hi lo : Nat} (v : Nat) (h : 2 ≤ lo) (h' : lo ≤ hi) (h32 : hi < 32) :
    (s.put (domA d 4) hi lo v).domState d = s.domState d :=
  s.fld_put_beside _ v h' h32 (Or.inl h) (by decide)

/-! ### LISTENING (R248) -/

/-- A domain's record when it listens: no run of Syncs, and no Follow_Up awaited. -/
def Dom.idle (x : Dom) : Dom := { x with good := 0, bad := 0, wait := none }

/-- A domain that listens, before its lost lock is counted. -/
def State.listens (s : State) (d : Nat) : State :=
  let s := s.setDom d (s.dom d).idle
  let s : State := if s.primary = d then { s with clk := { s.clk with goodSince := none } } else s
  s.setDomState d 1

theorem State.toListening_eq (s : State) (d : Nat) : s.toListening d =
    if s.domState d = 3 then (s.listens d).event (domA d 4) 2 (domA d 0x14) else s.listens d := rfl

theorem State.listens_rd (s : State) {d a : Nat} (h : domA d 4 ≠ a) : (s.listens d).rd a = s.rd a := by
  unfold State.listens State.setDomState
  extract_lets v old w
  rw [State.rd_put_ne _ _ _ _ h]
  unfold w
  split <;> rfl

theorem State.listens_dom (s : State) (d : Nat) : (s.listens d).dom d = (s.dom d).idle := by
  unfold State.listens State.setDomState
  extract_lets v old w
  have kept : w.doms = v.doms := by
    unfold w
    split <;> rfl
  rw [State.dom_congr (State.put_doms ..), State.dom_congr kept]
  exact s.dom_setDom d _

theorem State.toListening_dom (s : State) (d : Nat) : (s.toListening d).dom d = (s.dom d).idle := by
  rw [State.toListening_eq]
  split
  · rw [State.dom_congr (State.event_doms ..), State.listens_dom]
  · exact s.listens_dom d

theorem State.toListening_domState (s : State) (d : Nat) : (s.toListening d).domState d = 1 := by
  have listens : (s.listens d).domState d = 1 := State.domState_setDomState ..
  rw [State.toListening_eq]
  split
  · exact (State.fld_event_beside _ (domA_ne_domA d (by decide)) (by decide) (by decide) (by decide)).trans listens
  · exact listens

theorem State.toListening_lost {s : State} {d : Nat} (locked : s.domState d = 3) :
    (s.toListening d).rd (domA d 0x14) = BitVec.ofNat 32 (satAdd countTop (s.rd (domA d 0x14)).toNat 1) := by
  have apart : domA d 4 ≠ domA d 0x14 := domA_ne_domA d (by decide)
  rw [State.toListening_eq, if_pos locked, State.rd_event_count _ _ apart, s.listens_rd apart]

/-! ### The choice of a grandmaster (R242) -/

/-- Another grandmaster identity makes the domain listen, and nothing else of what selection reads changes. -/
theorem State.seeGm_cases (s : State) (d gm : Nat) : ∃ v : State, v.dom d = { s.dom d with gm := some gm } ∧
    v.domState d = s.domState d ∧ (s.seeGm d gm = v ∨ s.seeGm d gm = v.toListening d) := by
  unfold State.seeGm
  extract_lets changed old v
  have seen : v.dom d = { s.dom d with gm := some gm } := s.dom_setDom d _
  split
  · exact ⟨v.raise (domA d 4) 3, seen, v.domState_put d 1 (by decide) (by decide) (by decide), Or.inr rfl⟩
  · exact ⟨v, seen, rfl, Or.inl rfl⟩

theorem State.seeGm_cands (s : State) (d gm : Nat) : ((s.seeGm d gm).dom d).cands = (s.dom d).cands := by
  obtain ⟨v, seen, -, same | listens⟩ := s.seeGm_cases d gm
  · rw [same, seen]
  · rw [listens, State.toListening_dom, seen]
    rfl

theorem State.seeGm_listening {s : State} {d : Nat} (gm : Nat) (h : s.domState d = 1) :
    (s.seeGm d gm).domState d = 1 := by
  obtain ⟨v, -, state, same | listens⟩ := s.seeGm_cases d gm
  · rw [same, state, h]
  · rw [listens, State.toListening_domState]

/-- The best of a domain's candidates. -/
def Dom.best (x : Dom) : Option Candidate :=
  bestBy (fun (x y : Candidate) => lexLt x.vec.key y.vec.key) x.cands

/-- Domain `d` takes the grandmaster of candidate `c`. -/
def State.follow (s : State) (d : Nat) (c : Candidate) : State :=
  let s := s.seeGm d c.vec.gm
  let s := s.setDom d { s.dom d with sel := some (c.port, c.vec.gm) }
  (s.put (domA d 4) 9 8 c.port).wr64 (domA d 8) c.vec.gm

/-- Domain `d` is without a grandmaster. -/
def State.unfollow (s : State) (d : Nat) : State :=
  let s := s.setDom d { s.dom d with sel := none }
  if s.domState d = 0 then s else s.toListening d

theorem State.selectMaster_some {s : State} {d : Nat} {c : Candidate} (h : (s.dom d).best = some c) :
    s.selectMaster d = s.follow d c := by
  unfold Dom.best at h
  unfold State.selectMaster
  rw [h]
  rfl

theorem State.selectMaster_none {s : State} {d : Nat} (h : (s.dom d).best = none) :
    s.selectMaster d = s.unfollow d := by
  unfold Dom.best at h
  unfold State.selectMaster
  rw [h]
  rfl

theorem State.follow_dom (s : State) (d : Nat) (c : Candidate) : (s.follow d c).dom d =
    { (s.seeGm d c.vec.gm).dom d with sel := some (c.port, c.vec.gm) } := by
  unfold State.follow
  extract_lets v old w
  exact v.dom_setDom d _

theorem State.follow_domState (s : State) (d : Nat) (c : Candidate) :
    (s.follow d c).domState d = (s.seeGm d c.vec.gm).domState d := by
  unfold State.follow State.wr64
  extract_lets v old w
  have low : domA d 8 ≠ domA d 4 := domA_ne_domA d (by decide)
  have high : domA d 8 + 4 ≠ domA d 4 := by
    unfold domA
    omega
  rw [State.domState_congr ((State.rd_wr_ne _ _ high).trans (State.rd_wr_ne _ _ low)),
    State.domState_put _ _ _ (by decide) (by decide) (by decide)]
  rfl

theorem State.unfollow_cands (s : State) (d : Nat) : ((s.unfollow d).dom d).cands = (s.dom d).cands := by
  unfold State.unfollow
  extract_lets old v
  have here : v.dom d = { s.dom d with sel := none } := s.dom_setDom d _
  split
  · rw [here]
  · rw [State.toListening_dom, here]
    rfl

theorem State.unfollow_domState {s : State} {d : Nat} (h : s.domState d ≠ 0) : (s.unfollow d).domState d = 1 := by
  unfold State.unfollow
  extract_lets old v
  exact (congrArg (State.domState · d) (if_neg h)).trans (v.toListening_domState d)

theorem State.selectMaster_cands (s : State) (d : Nat) : ((s.selectMaster d).dom d).cands = (s.dom d).cands := by
  cases h : (s.dom d).best with
  | none => rw [State.selectMaster_none h, State.unfollow_cands]
  | some c => rw [State.selectMaster_some h, State.follow_dom, State.seeGm_cands]

theorem State.selectMaster_listening {s : State} {d : Nat} (h : s.domState d = 1) :
    (s.selectMaster d).domState d = 1 := by
  cases best : (s.dom d).best with
  | none => rw [State.selectMaster_none best, State.unfollow_domState (by omega)]
  | some c => rw [State.selectMaster_some best, State.follow_domState, State.seeGm_listening _ h]

theorem exists_bestBy {α : Type} (lt : α → α → Bool) {l : List α} (h : l ≠ []) : ∃ x, bestBy lt l = some x := by
  cases l with
  | nil => exact absurd rfl h
  | cons x xs =>
    unfold bestBy
    split
    · exact ⟨x, rfl⟩
    · split
      · exact ⟨_, rfl⟩
      · exact ⟨x, rfl⟩

/-- No candidate of the port is left, whatever is then selected. -/
theorem State.agePort_cands (s : State) (d p : Nat) :
    ((s.agePort d p).dom d).cands = (s.dom d).cands.filter (fun x => x.port != p) := by
  unfold State.agePort
  rw [State.selectMaster_cands, State.dom_setDom]

theorem State.agePort_drops (s : State) (d p : Nat) : ∀ c ∈ ((s.agePort d p).dom d).cands, c.port ≠ p := by
  intro c hc
  rw [State.agePort_cands] at hc
  simpa using (List.mem_filter.mp hc).2

theorem State.agePort_listening {s : State} {d : Nat} (p : Nat) (h : s.domState d = 1) :
    (s.agePort d p).domState d = 1 := State.selectMaster_listening h

/-! ### One Sync in the servo (R248) -/

/-- The domain's record after a Sync of servo offset `off`: what the servo makes of it, and the two runs of offsets. -/
def State.servoDom (s : State) (d : Nat) (off : Int) (r : ServoResult) : Dom :=
  let lock := s.fld (timA 0x84) 13 0
  let x := if s.domState d = 1 then { s.dom d with good := 0, bad := 0 } else s.dom d
  { x with off := r.clockOff, freq := r.freq, wait := none, good := if off.natAbs ≤ lock then x.good + 1 else 0,
           bad := if 4 * lock < off.natAbs then x.bad + 1 else 0 }

/-- The domain has the Sync, and LISTENING has ended; neither LOCKED nor its loss is decided yet. -/
def State.servoTakes (s : State) (d : Nat) (off : Int) (r : ServoResult) : State :=
  let s := s.setDom d (s.servoDom d off r)
  let s : State := if s.activeDom = some d then { s with clk := { s.clk with freq := r.freq } } else s
  if s.domState d = 1 then s.setDomState d 2 else s

section Servo

variable (s : State) (d : Nat) (off : Int) (r : ServoResult)

theorem State.servo_eq : s.servo d off r =
    if (s.servoTakes d off r).domState d = 2 && 16 ≤ (s.servoDom d off r).good && (s.servoTakes d off r).ptpScale d then
      ((s.servoTakes d off r).setDom d { s.servoDom d off r with
        lockedAt := (s.servoTakes d off r).clk.ref / 1000 }).setDomState d 3
    else if (s.servoTakes d off r).domState d = 3 then
      if 4 ≤ (s.servoDom d off r).bad then (s.servoTakes d off r).toListening d
      else if (s.servoTakes d off r).activeDom = some d then (s.servoTakes d off r).slewTo (s.servoDom d off r).off
      else s.servoTakes d off r
    else s.servoTakes d off r := rfl

theorem State.servoDom_sel : (s.servoDom d off r).sel = (s.dom d).sel := by
  unfold State.servoDom
  split <;> rfl

theorem State.servoDom_cands : (s.servoDom d off r).cands = (s.dom d).cands := by
  unfold State.servoDom
  split <;> rfl

theorem State.servoDom_good_of_listening (h : s.domState d = 1) : (s.servoDom d off r).good ≤ 1 := by
  unfold State.servoDom
  rw [if_pos h]
  dsimp only
  split <;> omega

theorem State.servoDom_good (h : s.domState d ≠ 1) : 16 ≤ (s.servoDom d off r).good ↔
    off.natAbs ≤ s.fld (timA 0x84) 13 0 ∧ 15 ≤ (s.dom d).good := by
  unfold State.servoDom
  rw [if_neg h]
  dsimp only
  split <;> omega

theorem State.servoDom_bad (h : s.domState d ≠ 1) : 4 ≤ (s.servoDom d off r).bad ↔
    4 * s.fld (timA 0x84) 13 0 < off.natAbs ∧ 3 ≤ (s.dom d).bad := by
  unfold State.servoDom
  rw [if_neg h]
  dsimp only
  split <;> omega

theorem State.servoTakes_dom : (s.servoTakes d off r).dom d = s.servoDom d off r := by
  unfold State.servoTakes
  extract_lets v old w
  have here : w.dom d = s.servoDom d off r := by
    unfold w
    split
    · exact s.dom_setDom d _
    · exact s.dom_setDom d _
  split
  · exact here
  · exact here

theorem State.servoTakes_rd {a : Nat} (h : domA d 4 ≠ a) : (s.servoTakes d off r).rd a = s.rd a := by
  unfold State.servoTakes
  extract_lets v old w
  have here : w.rd a = s.rd a := by
    unfold w
    split <;> rfl
  split
  · exact (w.rd_put_ne _ _ _ h).trans here
  · exact here

theorem State.servoTakes_domState : (s.servoTakes d off r).domState d =
    if s.domState d = 1 then 2 else s.domState d := by
  unfold State.servoTakes
  extract_lets v old w
  have here : w.domState d = s.domState d := by
    unfold w
    split <;> rfl
  rw [here]
  split
  · exact State.domState_setDomState ..
  · exact here

theorem State.servoTakes_ptpScale : (s.servoTakes d off r).ptpScale d = s.ptpScale d := by
  unfold State.ptpScale
  rw [State.servoTakes_dom, State.servoDom_sel, State.servoDom_cands]

end Servo

section States

variable {s : State} {d : Nat} (off : Int) (r : ServoResult)

/-- The first Sync of a LISTENING domain cannot complete a run of 16. -/
theorem State.servo_listening (h : s.domState d = 1) : s.servo d off r = s.servoTakes d off r ∧
    (s.servoTakes d off r).domState d = 2 := by
  have acquires : (s.servoTakes d off r).domState d = 2 := by rw [State.servoTakes_domState, if_pos h]
  have short := s.servoDom_good_of_listening d off r h
  rw [State.servo_eq, if_neg (by simp; omega), if_neg (by omega)]
  exact ⟨rfl, acquires⟩

/-- An ACQUIRING domain locks at the 16th near offset in a row, on the PTP time scale only. -/
theorem State.servo_acquiring (h : s.domState d = 2) : (s.servo d off r).domState d =
    if (off.natAbs ≤ s.fld (timA 0x84) 13 0 ∧ 15 ≤ (s.dom d).good) ∧ s.ptpScale d = true then 3 else 2 := by
  have acquires : (s.servoTakes d off r).domState d = 2 := by rw [State.servoTakes_domState, h]; rfl
  have run := s.servoDom_good d off r (by omega)
  rw [State.servo_eq, State.servoTakes_ptpScale, acquires]
  by_cases locks : (off.natAbs ≤ s.fld (timA 0x84) 13 0 ∧ 15 ≤ (s.dom d).good) ∧ s.ptpScale d = true
  · rw [if_pos locks, if_pos (by simp [run.mpr locks.1, locks.2])]
    exact State.domState_setDomState ..
  · rw [← run] at locks
    rw [if_neg (by simpa using locks), if_neg (by decide), acquires, if_neg (by rwa [← run])]

/-- A LOCKED domain listens again at the fourth far offset in a row, and else at most slews. -/
theorem State.servo_locked (hd : d < 2) (h : s.domState d = 3) :
    (4 * s.fld (timA 0x84) 13 0 < off.natAbs ∧ 3 ≤ (s.dom d).bad →
      s.servo d off r = (s.servoTakes d off r).toListening d) ∧
    (¬(4 * s.fld (timA 0x84) 13 0 < off.natAbs ∧ 3 ≤ (s.dom d).bad) → (s.servo d off r).domState d = 3) := by
  have locked : (s.servoTakes d off r).domState d = 3 := by rw [State.servoTakes_domState, h]; rfl
  rw [State.servo_eq, if_neg (by simp [locked]), if_pos locked, ← s.servoDom_bad d off r (by omega)]
  refine ⟨fun far => if_pos far, fun few => ?_⟩
  rw [if_neg few]
  split
  · unfold State.slewTo
    rw [State.domState_congr (State.rd_put_ne _ _ _ _ (domA_ne_timA hd (by decide) (by decide)).symm)]
    exact locked
  · exact locked

/-- The loss of lock is counted. -/
theorem State.servo_loses (hd : d < 2) (h : s.domState d = 3)
    (far : 4 * s.fld (timA 0x84) 13 0 < off.natAbs ∧ 3 ≤ (s.dom d).bad) : (s.servo d off r).domState d = 1 ∧
    (s.servo d off r).rd (domA d 0x14) = BitVec.ofNat 32 (satAdd countTop (s.rd (domA d 0x14)).toNat 1) := by
  have locked : (s.servoTakes d off r).domState d = 3 := by rw [State.servoTakes_domState, h]; rfl
  rw [(State.servo_locked off r hd h).1 far]
  refine ⟨State.toListening_domState .., ?_⟩
  rw [State.toListening_lost locked, s.servoTakes_rd d off r (domA_ne_domA d (by decide))]

end States

/-! ### The commands -/

/-- A Sync of the selected grandmaster renews the receipt time-out (R242). -/
def State.renewed (s : State) (d : Nat) (k : Int) : State :=
  s.setDom d { s.dom d with syncDue := s.clk.ref + 3 * intervalNs k }

theorem State.renewed_dom (s : State) (d : Nat) (k : Int) :
    (s.renewed d k).dom d = { s.dom d with syncDue := s.clk.ref + 3 * intervalNs k } := s.dom_setDom d _

/-- An Announce of port `p` is among the domain's candidates. -/
def State.announced (s : State) (d p : Nat) (m : AnnounceBody) : State :=
  s.setDom d { s.dom d with cands := candPut ⟨p, m.vec, s.clk.ref + 3 * intervalNs m.logInt⟩ (s.dom d).cands }

theorem State.announced_cands (s : State) (d p : Nat) (m : AnnounceBody) : ((s.announced d p m).dom d).cands =
    candPut ⟨p, m.vec, s.clk.ref + 3 * intervalNs m.logInt⟩ (s.dom d).cands := congrArg (·.cands) (s.dom_setDom d _)

section Sync

variable {s : State} {p dnum d gm : Nat} (hp : p < 4) (owner : s.domFor p dnum = some d)

include hp owner

theorem exec_sync_twoStep (selected : (s.dom d).sel = some (p, gm)) (seqId : Nat) (m : SyncBody) :
    exec (.sync p dnum gm seqId true m) s = .next (s.setDom d { s.dom d with
      wait := some ⟨seqId, p, m.rx, m.origin⟩, syncDue := s.clk.ref + 3 * intervalNs m.logInt }) := by
  change execSync p dnum gm seqId true m s = _
  unfold execSync
  rw [guardI_true (decide_eq_true hp), owner]
  simp [selected]

theorem exec_sync_oneStep (selected : (s.dom d).sel = some (p, gm)) (seqId : Nat) (m : SyncBody) :
    exec (.sync p dnum gm seqId false m) s =
      .next ((s.renewed d m.logInt).servo d (s.servoOffset d p m.rx m.origin) m.servo) := by
  change execSync p dnum gm seqId false m s = _
  unfold execSync
  rw [guardI_true (decide_eq_true hp), owner]
  simp [selected, State.renewed]

theorem exec_followUp {seqId rx : Nat} {corr : Int} (waits : (s.dom d).wait = some ⟨seqId, p, rx, corr⟩)
    (m : FollowUpBody) : exec (.followUp p dnum seqId m) s =
      .next (s.servo d (s.servoOffset d p rx (corr + m.origin)) m.servo) := by
  change execFollowUp p dnum seqId m s = _
  unfold execFollowUp
  rw [guardI_true (decide_eq_true hp), owner]
  simp [waits]

theorem exec_announce (m : AnnounceBody) :
    exec (.announce p dnum m) s = .next ((s.announced d p m).selectMaster d) := by
  change execAnnounce p dnum m s = _
  unfold execAnnounce
  rw [guardI_true (decide_eq_true hp), owner]
  rfl

end Sync

theorem exec_syncReceiptTimeout {s : State} {d p g : Nat} (hd : d < 2) (synced : 2 ≤ s.domState d)
    (selected : (s.dom d).sel = some (p, g)) : exec (.syncReceiptTimeout d) s =
      .next (s.atRef (s.dom d).syncDue (fun s => (s.toListening d).agePort d p)) := by
  change execSyncReceiptTimeout d s = _
  unfold execSyncReceiptTimeout
  rw [guardI_true (decide_eq_true hd), if_neg (by omega), selected]

theorem exec_announceReceiptTimeout (s : State) {d p : Nat} (hd : d < 2) (hp : p < 4) :
    exec (.announceReceiptTimeout d p) s = .next (match (s.dom d).cands.find? (fun c => c.port == p) with
      | none => s
      | some c => s.atRef c.due (fun s => s.agePort d p)) :=
  guardI_true (by simp [hd, hp])

/-- Settles O7: a two-step Sync writes the domain's record alone, and a LISTENING domain only takes what the servo
gives. -/
theorem syncAnswers : Obligations.SyncAnswers := by
  have taken : ∀ (s : State) (d : Nat) (off : Int) (r : ServoResult), s.domState d = 1 →
      (s.servo d off r).domState d = 2 ∧ (s.servo d off r).dom d = s.servoDom d off r := by
    intro s d off r listening
    obtain ⟨takes, acquires⟩ := State.servo_listening off r listening
    rw [takes]
    exact ⟨acquires, s.servoTakes_dom d off r⟩
  refine ⟨?twoStep, ?oneStep, ?followUp⟩
  case twoStep =>
    intro p dnum gm seqId rx origin k r s d hp owner selected
    refine ⟨_, exec_sync_twoStep hp owner selected seqId _, ?_⟩
    simp
  case oneStep =>
    intro p dnum gm seqId rx origin k r s d hp owner selected listening
    refine ⟨_, exec_sync_oneStep hp owner selected seqId _, ?_⟩
    obtain ⟨acquires, record⟩ := taken (s.renewed d k) d (s.servoOffset d p rx origin) r listening
    rw [record]
    exact ⟨acquires, rfl, rfl⟩
  case followUp =>
    intro p dnum seqId rx corr origin r s d hp owner waits listening
    refine ⟨_, exec_followUp hp owner waits _, ?_⟩
    obtain ⟨acquires, record⟩ := taken s d (s.servoOffset d p rx (corr + origin)) r listening
    rw [record]
    exact ⟨acquires, rfl, rfl, rfl⟩

/-- Settles O8: the runs of near and of far offsets grow by one or end, and LOCKED and its loss are decided by them. -/
theorem lockRule : Obligations.LockRule := by
  intro p dnum gm seqId rx origin k r s d hp owner selected off near far
  refine ⟨_, exec_sync_oneStep hp owner selected seqId _, ?_⟩
  generalize hv : s.renewed d k = v
  have record : v.dom d = { s.dom d with syncDue := s.clk.ref + 3 * intervalNs k } := by rw [← hv, State.renewed_dom]
  have good : (v.dom d).good = (s.dom d).good := by rw [record]
  have bad : (v.dom d).bad = (s.dom d).bad := by rw [record]
  have regs : v.rd = s.rd := by rw [← hv]; rfl
  have state : v.domState d = s.domState d := State.domState_congr (congrFun regs _)
  have lock : v.fld (timA 0x84) 13 0 = s.fld (timA 0x84) 13 0 := State.fld_congr (congrFun regs _) ..
  have scale : v.ptpScale d = s.ptpScale d := by
    unfold State.ptpScale
    rw [record]
  have hd := State.domFor_lt owner
  have acquiring := State.servo_acquiring (s := v) (d := d) off r
  have locked := State.servo_locked (s := v) off r hd
  have loses := State.servo_loses (s := v) off r hd
  rw [state, lock, good, scale] at acquiring
  rw [state, lock, bad] at locked
  rw [state, lock, bad, regs] at loses
  refine ⟨fun at2 isNear run ptp => ?_, fun at2 short => ?_, fun at3 isFar run => loses at3 ⟨isFar, run⟩,
    fun at3 short => (locked at3).2 ?_⟩
  · exact (acquiring at2).trans (if_pos ⟨⟨isNear, run⟩, ptp⟩)
  · refine (acquiring at2).trans (if_neg ?_)
    rintro ⟨⟨isNear, run⟩, ptp⟩
    rcases short with h | h | h
    · exact h isNear
    · omega
    · simp [h] at ptp
  · rintro ⟨isFar, run⟩
    rcases short with h | h
    · exact h isFar
    · omega

/-- Settles O9: selection keeps the candidates, and chooses among those that the message or the time-out left. -/
theorem masterSelection : Obligations.MasterSelection := by
  refine ⟨?announce, ?sync, ?receipt⟩
  case announce =>
    intro p dnum k vec s d hp owner
    refine ⟨_, exec_announce hp owner _, ?_⟩
    have cands := s.announced_cands d p ⟨k, vec⟩
    obtain ⟨c, best⟩ : ∃ c, ((s.announced d p ⟨k, vec⟩).dom d).best = some c :=
      exists_bestBy _ (by rw [cands]; simp [candPut])
    refine ⟨(State.selectMaster_cands ..).trans cands, c, ?_, ?_⟩
    · rw [State.selectMaster_cands]
      exact best
    · rw [State.selectMaster_some best, State.follow_dom]
  case sync =>
    intro d p g s hd synced selected due
    obtain ⟨u, reached, -⟩ := State.atRef_later due (fun s => (s.toListening d).agePort d p)
    refine ⟨_, exec_syncReceiptTimeout hd synced selected, ?_⟩
    rw [reached]
    exact ⟨State.agePort_listening p (u.toListening_domState d), State.agePort_drops _ d p⟩
  case receipt =>
    intro d p s hd hp on due
    refine ⟨_, exec_announceReceiptTimeout s hd hp, ?_⟩
    split
    · next none =>
      intro c hc
      simpa using List.find?_eq_none.mp none c hc
    · next x found =>
      have fromPort : x.port = p := by simpa using List.find?_some found
      obtain ⟨u, reached, -⟩ := State.atRef_later (due x (List.mem_of_find?_eq_some found) fromPort)
        (fun s => s.agePort d p)
      rw [reached]
      exact State.agePort_drops _ d p

end Sys2Proof.Machine

/-!
Link delay (10_site_time.md: R242, R246): what the messages of the peer-to-peer mechanism answer on a port.
-/

namespace Sys2Proof.Machine

open Sys2Proof

section Port

variable {s : State} {p : Nat} (hp : p < 4)

include hp

theorem exec_pdelayReq (may : s.mayTransmit = true) (seqId rx tx : Nat) : exec (.pdelayReq p seqId rx tx) s =
    .next ((s.emit (.ptp p 2 seqId (s.ingress p rx))).emit (.ptp p 3 seqId (s.egress p tx))) :=
  (guardI_true (decide_eq_true hp)).trans (congrArg _ (if_pos may))

theorem exec_pdelayReqTransmit (may : s.mayTransmit = true) (tx : Nat) : exec (.pdelayReqTransmit p tx) s =
    .next ((s.setEp p { s.ep p with pdSeq := ((s.ep p).pdSeq + 1) % 65536
                                    pdOut := some (((s.ep p).pdSeq + 1) % 65536, tx), pdResp := none }).emit
      (.ptp p 1 (((s.ep p).pdSeq + 1) % 65536) tx)) :=
  (guardI_true (decide_eq_true hp)).trans (congrArg _ (if_neg (by simp [may])))

theorem exec_pdelayResp {seqId t1 : Nat} (asked : (s.ep p).pdOut = some (seqId, t1)) (live : s.inReplay = false)
    (t2 rx : Nat) : exec (.pdelayResp p seqId t2 rx) s =
      .next (s.setEp p { s.ep p with pdResp := some (t2, rx) }) := by
  change execPdelayResp p seqId t2 rx s = _
  unfold execPdelayResp
  rw [guardI_true (decide_eq_true hp), asked]
  simp [live]

theorem exec_pdelayRespFollowUp {seqId t1 t2 t4 : Nat} (asked : (s.ep p).pdOut = some (seqId, t1))
    (answered : (s.ep p).pdResp = some (t2, t4)) (live : s.inReplay = false) (t3 : Nat) :
    exec (.pdelayRespFollowUp p seqId t3) s =
      .next ((s.setEp p { s.ep p with pdOut := none, pdResp := none }).wr (timA (0xD0 + 4 * p))
        (BitVec.ofNat 32 (meanLinkDelay t1 t2 t3 t4 (s.fld (timA (0xC0 + 4 * p)) 15 0)
          (s.fld (timA (0xC0 + 4 * p)) 31 16)))) := by
  change execPdelayRespFollowUp p seqId t3 s = _
  unfold execPdelayRespFollowUp
  rw [guardI_true (decide_eq_true hp), asked, answered]
  simp [live]

end Port

theorem Frame.ep {m : Nat} {s t : State} (h : Frame m s t) (b : touches m 6 = false) (p : Nat) : t.ep p = s.ep p := by
  unfold State.ep
  rw [h.eth b]

/-- Settles O10: each message writes the port's exchange, or sends; only the follow-up writes a register. -/
theorem linkDelay : Obligations.LinkDelay := by
  refine ⟨fun p seqId rx tx s hp may => exec_pdelayReq hp may seqId rx tx, ?request, ?answer, ?followUp⟩
  case request =>
    intro p tx s hp may q
    refine ⟨_, exec_pdelayReqTransmit hp may tx, State.emit_out .., ?_⟩
    rw [(State.emit_frame ..).ep rfl, State.ep_setEp]
  case answer =>
    intro p seqId t1 t2 rx s hp asked live
    exact ⟨_, exec_pdelayResp hp asked live t2 rx, congrArg (·.pdResp) (s.ep_setEp p _),
      congrArg (·.pdOut) (s.ep_setEp p _)⟩
  case followUp =>
    intro p seqId t1 t2 t3 t4 s hp asked answered live
    refine ⟨_, exec_pdelayRespFollowUp hp asked answered live t3, State.rd_wr_self .., ?_⟩
    exact congrArg (·.pdOut) (s.ep_setEp p _)

end Sys2Proof.Machine

/-!
The active domain (10_site_time.md: R249 to R251): which fields of TIM_SEL_STAT a change of the active domain writes,
and what working time and LOCKED then are.
-/

namespace Sys2Proof.Machine

open Sys2Proof

/-! ### TIM_SEL_STAT -/

theorem timA_ne_timA {o p : Nat} (h : o % 0x100000 ≠ p % 0x100000) : timA o ≠ timA p := by
  unfold timA
  omega

theorem State.activeDom_congr {s t : State} (h : t.rd (timA 0x88) = s.rd (timA 0x88)) : t.activeDom = s.activeDom := by
  unfold State.activeDom
  rw [State.flag_congr h, State.fld_congr h]

/-- The fields above ACTIVE and its valid bit leave the active domain. -/
theorem State.activeDom_put (s : State) {hi lo : Nat} (v : Nat) (h : 2 ≤ lo) (h' : lo ≤ hi) (h32 : hi < 32) :
    (s.put (timA 0x88) hi lo v).activeDom = s.activeDom := by
  unfold State.activeDom
  rw [State.flag_put_beside _ _ _ h' h32 (by omega), State.fld_put_beside _ _ _ h' h32 (by omega) (by decide)]

theorem State.activeDom_event (s : State) {i c : Nat} (h : 2 ≤ i) (h32 : i < 32) (hc : timA 0x88 ≠ c) :
    (s.event (timA 0x88) i c).activeDom = s.activeDom := by
  unfold State.activeDom
  rw [State.flag_event_beside _ hc h32 (by omega), State.fld_event_beside _ hc h32 (by omega) (by decide)]

theorem State.setActive_activeDom (s : State) {d : Nat} (hd : d < 2) : (s.setActive d).activeDom = some d := by
  unfold State.setActive State.activeDom
  extract_lets clock v
  have valid : ((v.put (timA 0x88) 0 0 d).put (timA 0x88) 1 1 1).flag (timA 0x88) 1 = true :=
    State.flag_put_self _ _ 1 (by decide) (by decide) (by decide)
  rw [if_pos valid, State.fld_put_beside _ _ _ (by decide) (by decide) (by decide) (by decide),
    State.fld_put_self _ _ _ (by decide) (by decide)]
  exact congrArg some (Nat.mod_eq_of_lt hd)

theorem State.setActive_rd (s : State) (d : Nat) {a : Nat} (h : timA 0x88 ≠ a) : (s.setActive d).rd a = s.rd a := by
  unfold State.setActive
  extract_lets clock v
  rw [State.rd_put_ne _ _ _ _ h, State.rd_put_ne _ _ _ _ h]
  rfl

theorem State.slewTo_activeDom (s : State) (off : Int) : (s.slewTo off).activeDom = s.activeDom := by
  unfold State.slewTo
  extract_lets clock v
  exact v.activeDom_put _ (by decide) (by decide) (by decide)

theorem State.slewTo_rd (s : State) (off : Int) {a : Nat} (h : timA 0x88 ≠ a) : (s.slewTo off).rd a = s.rd a := by
  unfold State.slewTo
  extract_lets clock v
  exact v.rd_put_ne _ _ _ h

/-! ### Steps of working time (R15, R249) -/

theorem State.stepTime_t (s : State) (n : Int) : (s.stepTime n).clk.t = ((s.clk.t : Int) + n).toNat := by
  unfold State.stepTime
  extract_lets c t e passed jump win slewless clock moved shifted counted
  have kept : counted.clk = shifted.clk := by
    unfold counted
    split <;> rfl
  rw [State.event_clk, kept]
  exact congrArg (·.t) (moved.eachDom_clk _)

theorem State.stepTime_activeDom (s : State) (n : Int) : (s.stepTime n).activeDom = s.activeDom := by
  unfold State.stepTime
  extract_lets c t e passed jump win slewless clock moved shifted counted
  have shift : shifted.rd (timA 0x88) = slewless.rd (timA 0x88) := State.rd_congr (moved.eachDom_regs _) _
  have count : counted.rd (timA 0x88) = shifted.rd (timA 0x88) := by
    unfold counted
    split
    · rw [State.rd_countN_ne _ _ (timA_ne_timA (by decide)), State.rd_raise_ne _ _ (timA_ne_timA (by decide))]
    · rfl
  rw [State.activeDom_event _ (by decide) (by decide) (timA_ne_timA (by decide)),
    State.activeDom_congr (count.trans shift)]
  exact s.slewTo_activeDom 0

/-- Rule 1 of R249: the domain is active, LOCKED is set, and working time has the domain's clock. -/
theorem State.takeDomain_takes (s : State) {d : Nat} (hd : d < 2) : (s.takeDomain d).activeDom = some d ∧
    (s.takeDomain d).locked = true ∧ (s.takeDomain d).clk.t = ((s.clk.t : Int) + (s.dom d).off).toNat := by
  unfold State.takeDomain
  extract_lets v
  refine ⟨?_, v.flag_put_self _ 1 (by decide) (by decide) (by decide), ?_⟩
  · rw [State.activeDom_congr (State.rd_put_ne _ _ _ _ (timA_ne_timA (by decide))), State.stepTime_activeDom,
      State.setActive_activeDom _ hd]
  · rw [State.put_clk, State.stepTime_t]
    rfl

theorem State.primary_lt (s : State) : s.primary < 2 := bits_lt ..

theorem State.lockedDom_lt {s : State} {d : Nat} (h : s.lockedDom = some d) : d < 2 := by
  have := s.primary_lt
  unfold State.lockedDom at h
  extract_lets first at h
  split at h
  · injection h
    omega
  · split at h
    · injection h
      omega
    · cases h

/-! ### Holdover and switchover (R250, R251) -/

theorem State.endHold_rd (s : State) {a : Nat} (h88 : timA 0x88 ≠ a) (h94 : timA 0x94 ≠ a) :
    s.endHold.rd a = s.rd a := by
  unfold State.endHold
  split
  · rw [State.rd_put_ne _ _ _ _ h88, State.rd_wr_ne _ _ h94]
  · rfl

theorem State.endHold_holdover (s : State) : s.endHold.flag (timA 0x88) 2 = false := by
  unfold State.endHold
  split
  · exact State.flag_put_self _ _ 0 (by decide) (by decide) (by decide)
  · next off => simpa using off

theorem State.switchover_active (s : State) {d : Nat} (hd : d < 2) : (s.switchover d).activeDom = some d ∧
    (s.switchover d).rd (timA 0x8C) = BitVec.ofNat 32 (satAdd countTop (s.rd (timA 0x8C)).toNat 1) := by
  have apart : timA 0x88 ≠ timA 0x8C := timA_ne_timA (by decide)
  unfold State.switchover
  extract_lets k switched clock stepped shifted
  have shift : ∀ a, shifted.rd a = switched.rd a := State.rd_congr (stepped.eachDom_regs _)
  rw [State.slewTo_activeDom, State.activeDom_congr (shift _), State.slewTo_rd _ _ apart, shift]
  unfold switched
  rw [State.activeDom_event _ (by decide) (by decide) apart, State.setActive_activeDom _ hd,
    State.rd_event_count _ _ apart, State.setActive_rd _ _ apart, State.endHold_rd _ apart (timA_ne_timA (by decide))]
  exact ⟨rfl, rfl⟩

/-! ### LOCKED (R15, R309) -/

theorem blk_domA (d o : Nat) : blk (domA d o) = 2 := by
  unfold blk domA
  rw [if_pos (by omega)]
  omega

theorem State.setLocked_rd (s : State) (v : Bool) {a : Nat} (tim : blk a = 2) :
    (s.setLocked v).rd a = (s.put (timA 0x110) 0 0 (b2n v)).rd a := by
  unfold State.setLocked
  extract_lets was w
  split
  · exact (State.tickUnlocked_frame w).blk a (by rw [tim]; rfl)
  · rfl

theorem State.setLocked_locked (s : State) (v : Bool) : (s.setLocked v).locked = v := by
  unfold State.locked
  rw [State.flag_congr (s.setLocked_rd v (blk_timA _ (by decide))),
    State.flag_put_self _ _ _ (by decide) (by decide) (by decide)]
  cases v <;> rfl

theorem State.lockedDom_congr {s t : State} (doms : t.doms = s.doms) (cfg : t.rd (timA 0x80) = s.rd (timA 0x80))
    (stat : ∀ d < 2, t.rd (domA d 4) = s.rd (domA d 4)) : t.lockedDom = s.lockedDom := by
  have primary : t.primary = s.primary := State.fld_congr cfg ..
  have state : ∀ d < 2, t.domState d = s.domState d := fun d hd => State.domState_congr (stat d hd)
  have dom : ∀ d, t.dom d = s.dom d := State.dom_congr doms
  have := s.primary_lt
  unfold State.lockedDom
  rw [primary, state _ this, state (1 - s.primary) (by omega), dom, dom]

/-- The end of holdover without a domain to take. -/
def State.freeRuns (s : State) : State := s.endHold.setLocked false

theorem State.freeRuns_lockedDom (s : State) : s.freeRuns.lockedDom = s.lockedDom := by
  have kept : ∀ {a}, blk a = 2 → timA 0x88 ≠ a → timA 0x94 ≠ a → timA 0x110 ≠ a → s.freeRuns.rd a = s.rd a :=
    fun tim h88 h94 h110 => by
      unfold State.freeRuns
      rw [State.setLocked_rd _ _ tim, State.rd_put_ne _ _ _ _ h110, State.endHold_rd _ h88 h94]
  refine State.lockedDom_congr ?_ ?_ fun d hd => ?_
  · exact ((State.setLocked_frame ..).doms rfl).trans (s.endHold_frame.doms rfl)
  · exact kept (blk_timA _ (by decide)) (timA_ne_timA (by decide)) (timA_ne_timA (by decide)) (timA_ne_timA (by decide))
  · have apart : ∀ {p}, 0x80 ≤ p % 0x100000 → timA p ≠ domA d 4 := fun h => (domA_ne_timA hd (by decide) h).symm
    exact kept (blk_domA d 4) (apart (by decide)) (apart (by decide)) (apart (by decide))

theorem State.freeRuns_holdover (s : State) : s.freeRuns.flag (timA 0x88) 2 = false := by
  unfold State.freeRuns
  rw [State.flag_congr (State.setLocked_rd _ _ (blk_timA _ (by decide))),
    State.flag_put_ne _ _ _ _ _ (timA_ne_timA (by decide)), State.endHold_holdover]

/-! ### The commands -/

theorem exec_activeDomainEvaluation {s : State} {d : Nat} (inactive : s.activeDom = none)
    (held : s.flag (timA 0x88) 2 = false) (locked : s.lockedDom = some d) :
    exec .activeDomainEvaluation s = .next (s.takeDomain d) := by
  change execActiveDomainEvaluation s = _
  unfold execActiveDomainEvaluation
  rw [inactive, locked]
  exact congrArg _ (if_neg (by simp [held]))

theorem exec_primaryReturn {s u : State} {g : Nat} (since : s.clk.goodSince = some g)
    (due : s.reachRef (g + 10000000000) = some u) (secondary : u.activeDom = some (1 - u.primary))
    (locked : u.domState u.primary = 3) (near : u.offsetOk u.primary = true) :
    exec .primaryReturn s = .next (u.switchover u.primary) := by
  change execPrimaryReturn s = _
  unfold execPrimaryReturn
  rw [since]
  exact congrArg _ ((State.atRef_some due _).trans (if_pos (by simp [secondary, locked, near])))

theorem exec_holdoverExpiry {s u : State} (held : s.flag (timA 0x88) 2 = true)
    (due : s.reachRef (s.clk.holdSince + s.fld (timA 0x80) 15 8 * 1000000000) = some u)
    (unlocked : u.lockedDom = none) : exec .holdoverExpiry s = .next u.freeRuns := by
  change execHoldoverExpiry s = _
  unfold execHoldoverExpiry
  rw [if_pos held, State.atRef_some due]
  dsimp only
  rw [show (u.endHold.setLocked false).lockedDom = none from u.freeRuns_lockedDom.trans unlocked]
  rfl

/-- Settles O11: a change of the active domain writes ACTIVE and its valid bit last, and what comes after writes other
fields of TIM_SEL_STAT. -/
theorem activeDomain : Obligations.ActiveDomain := by
  refine ⟨?taken, ?returned, ?expired⟩
  case taken =>
    intro s d inactive held locked
    exact ⟨_, exec_activeDomainEvaluation inactive held locked, s.takeDomain_takes (State.lockedDom_lt locked)⟩
  case returned =>
    intro s u g since due secondary locked near
    exact ⟨_, exec_primaryReturn since due secondary locked near, u.switchover_active u.primary_lt⟩
  case expired =>
    intro s u held due unlocked
    exact ⟨_, exec_holdoverExpiry held due unlocked, State.setLocked_locked .., u.freeRuns_holdover⟩

end Sys2Proof.Machine

/-!
Frames of the host (10_site_time.md: R253; 12_can_fd.md: R284, R285): what ETH_TX and CAN_TX leave of a port's queue and
of a controller.
-/

namespace Sys2Proof.Machine

open Sys2Proof

/-! ### Queues of an Ethernet port (R253) -/

theorem ethA_ne_ethA (p : Nat) {o q : Nat} (h : o % 0x4000 ≠ q % 0x4000) : ethA p o ≠ ethA p q := by
  unfold ethA
  omega

theorem blk_ethA (p o : Nat) : blk (ethA p o) = 6 := by
  unfold blk ethA
  rw [if_pos (by omega)]
  omega

theorem Frame.rd_ethA {m : Nat} {s t : State} (h : Frame m s t) (b : touches m 46 = false) (p o : Nat) :
    t.rd (ethA p o) = s.rd (ethA p o) :=
  h.blk _ (by rwa [blk_ethA])

theorem State.event_ep (s : State) (a i c p : Nat) : (s.event a i c).ep p = s.ep p := by
  unfold State.ep
  rw [State.event_eth]

/-- Frame `f` is the last of port `p`'s frames. -/
def State.ethPut (s : State) (p : Nat) (f : EthTx) : State := s.setEp p { s.ep p with q := (s.ep p).q ++ [f] }

theorem State.ethPut_q (s : State) (p : Nat) (f : EthTx) : ((s.ethPut p f).ep p).q = (s.ep p).q ++ [f] :=
  congrArg (·.q) (s.ep_setEp p _)

theorem State.ethPut_out (s : State) (p : Nat) (f : EthTx) : (s.ethPut p f).out = s.out := rfl

section Enqueue

variable (s : State) (p q field : Nat) (src : TxSrc) (b : Bytes)

/-- The frame that a timed queue takes. -/
def State.timedTx : EthTx := ⟨q, some (s.extend field), false, src, b⟩

variable {s p q field}

theorem State.ethEnqueue_untimed (untimed : s.queueTimed p q = false) :
    s.ethEnqueue p q field src b = s.ethPut p ⟨q, none, false, src, b⟩ :=
  if_neg (by simp [untimed])

section Timed

variable (timed : s.queueTimed p q = true)

include timed

theorem State.ethEnqueue_ahead (ahead : 0 ≤ dist32 field s.now32) (near : dist32 field s.now32 ≤ 1000000000) :
    s.ethEnqueue p q field src b = s.ethPut p (s.timedTx q field src b) :=
  (if_pos timed).trans ((if_neg (by omega)).trans (if_neg (by omega)))

theorem State.ethEnqueue_far (far : 1000000000 < dist32 field s.now32) : s.ethEnqueue p q field src b =
    (s.event (ethA p 0x204) 2 (ethA p 0x210)).ethComplete src .launchOutOfRange :=
  (if_pos timed).trans (if_pos far)

theorem State.ethEnqueue_late (late : dist32 field s.now32 < 0) :
    s.ethEnqueue p q field src b = s.ethLateFrame p (s.timedTx q field src b) :=
  (if_pos timed).trans ((if_neg (by omega)).trans (if_pos late))

end Timed

end Enqueue

section Late

variable {s : State} {p : Nat} {f : EthTx}

theorem State.ethLateFrame_dropped (drop : s.lateDrop p f.queue = true) : s.ethLateFrame p f =
    (s.event (ethA p 0x204) 1 (ethA p 0x20C)).ethComplete f.src .launchLate :=
  if_pos drop

/-- A late frame of a port that keeps late frames leaves at once. -/
def State.sendLate (s : State) (p : Nat) (f : EthTx) : State :=
  ((s.event (ethA p 0x204) 0 (ethA p 0x208)).emit (.eth p f.launch (macFrame f.bytes))).ethPut p { f with sent := true }

theorem State.ethLateFrame_sent (keep : s.lateDrop p f.queue = false) (may : s.mayTransmit = true) :
    s.ethLateFrame p f = s.sendLate p f :=
  (if_neg (by simp [keep])).trans (if_pos may)

theorem State.ethLateFrame_held (keep : s.lateDrop p f.queue = false) (may : s.mayTransmit = false) :
    s.ethLateFrame p f = s.ethPut p f :=
  (if_neg (by simp [keep])).trans (if_neg (by simp [may]))

theorem State.sendLate_ep (s : State) (p : Nat) (f : EthTx) : (s.sendLate p f).ep p =
    { s.ep p with q := (s.ep p).q ++ [{ f with sent := true }] } := by
  unfold State.sendLate
  refine (State.ep_setEp ..).trans ?_
  rw [(State.emit_frame ..).ep rfl, State.event_ep]

theorem State.sendLate_out (s : State) (p : Nat) (f : EthTx) :
    (s.sendLate p f).out = s.out ++ [.eth p f.launch (macFrame f.bytes)] := by
  unfold State.sendLate
  rw [State.ethPut_out, State.emit_out, State.event_out]

theorem State.sendLate_flag (s : State) (p : Nat) (f : EthTx) : (s.sendLate p f).flag (ethA p 0x204) 0 = true := by
  have kept : (s.sendLate p f).rd (ethA p 0x204) = (s.event (ethA p 0x204) 0 (ethA p 0x208)).rd (ethA p 0x204) := by
    unfold State.sendLate State.ethPut
    rw [State.setEp_rd, State.emit_rd]
  rw [State.flag_congr kept]
  exact State.flag_event _ (ethA_ne_ethA p (by decide)) (by decide)

end Late

/-! ### ETH_TX -/

section EthTx

variable {s : State} {r : Nat} {d : Inflight} (h : Starts s r 0x30 d)

include h

theorem exec_ethTx (b : Bytes) : exec (.ethTx r (some b)) s = .next ((s.begin r d.num).ethEnqueue (le d.bytes 8 1)
    (le d.bytes 9 1) (le d.bytes 24 4) (.host r d.num) (b.take (le d.bytes 12 4))) :=
  h.guard _

theorem exec_ethTx_fault : exec (.ethTx r none) s = .next ((s.begin r d.num).complete r d.num .hostMemoryFault) :=
  h.guard _

/-- A frame that its port refuses sets a flag of the port and completes; the queues stay. -/
theorem Starts.ethRefuses (p : Nat) {i c : Nat} (hi : i < 32) (hc : 0x204 % 0x4000 ≠ c % 0x4000) (st : Status) :
    let t := ((s.begin r d.num).event (ethA p 0x204) i (ethA p c)).complete r d.num st
    Completed s t r d st 0 0 s.now32 ∧ t.flag (ethA p 0x204) i = true ∧ t.ep p = s.ep p := by
  have noted : Frame 0x400000100000 (s.begin r d.num) ((s.begin r d.num).event (ethA p 0x204) i (ethA p c)) :=
    State.event_frame rfl (tb_ethA rfl) (tb_ethA rfl) ..
  have completed := ((s.begin r d.num).event (ethA p 0x204) i (ethA p c)).complete_frame r d.num st
  refine ⟨h.completes_now noted rfl rfl rfl st 0, ?_, ?_⟩
  · rw [State.flag_congr (completed.rd_ethA rfl p _)]
    exact State.flag_event _ (ethA_ne_ethA p hc) hi
  · rw [completed.ep rfl, State.event_ep]
    rfl

end EthTx

/-! ### The launch queue of a CAN controller (R284, R285) -/

theorem Frame.cn {m : Nat} {s t : State} (h : Frame m s t) (b : touches m 10 = false) (c : Nat) : t.cn c = s.cn c := by
  unfold State.cn
  rw [h.can b]

theorem blk_canA (c o : Nat) : blk (canA c o) = 5 := by
  unfold blk canA
  rw [if_pos (by omega)]
  omega

theorem Frame.genBufs {m : Nat} {s t : State} (h : Frame m s t) (b : touches m 45 = false) (c : Nat) :
    t.genBufs c = s.genBufs c := by
  unfold State.genBufs State.safetyRes
  rw [State.flag_congr (h.blk _ (by rwa [blk_canA]))]

/-- No general buffer of the controller is free, and no safety frame waits for one. -/
structure State.CanFull (s : State) (c : Nat) : Prop where
  bufs : ∀ k ∈ s.genBufs c, ((s.cn c).bufAt k).isSome = true
  safe : (s.cn c).safeWait = false

theorem State.CanFull.congr {s t : State} {c : Nat} (h : s.CanFull c) (bufs : t.genBufs c = s.genBufs c)
    (buf : (t.cn c).buf = (s.cn c).buf) (safe : (t.cn c).safeWait = (s.cn c).safeWait) : t.CanFull c where
  bufs := fun k hk => by
    unfold Can.bufAt
    rw [buf]
    exact h.bufs k (bufs ▸ hk)
  safe := safe.trans h.safe

/-- A loader that finds no free buffer loads nothing. -/
theorem State.CanFull.canLoad {s : State} {c : Nat} (h : s.CanFull c) : s.canLoad c = s := by
  have safe : s.safeLoad c = s := if_neg (by simp [h.safe])
  have full : (s.genBufs c).find? (fun b => ((s.cn c).bufAt b).isNone) = none :=
    List.find?_eq_none.mpr fun k hk => by simpa [Option.ne_none_iff_isSome] using h.bufs k hk
  have one : s.loadOne c = s := by
    unfold State.loadOne
    dsimp only
    rw [full]
  unfold State.canLoad
  rw [safe, one, one, one, ite_self]

/-- The loader numbers a safety frame, and no other. -/
theorem State.canLoad_seq (s : State) (c : Nat) : (s.cn c).seq ≤ ((s.canLoad c).cn c).seq := by
  have safe : (s.cn c).seq ≤ ((s.safeLoad c).cn c).seq := by
    unfold State.safeLoad
    extract_lets x e
    split
    · rw [State.cn_setCn]
      exact Nat.le_succ _
    · exact Nat.le_refl _
  have one : ∀ v : State, ((v.loadOne c).cn c).seq = (v.cn c).seq := by
    intro v
    unfold State.loadOne
    extract_lets x
    split
    · rfl
    · split
      · rfl
      · rw [State.cn_setCn]
  unfold State.canLoad
  split
  · rw [one, one, one]
    exact safe
  · exact Nat.le_refl _

/-- Frame `e` is the last in the launch queue, numbered in the order of enqueue. -/
def State.canPut (s : State) (c : Nat) (e : CanTxE) : State :=
  s.setCn c { s.cn c with q := (s.cn c).q ++ [{ e with seq := (s.cn c).seq }], seq := (s.cn c).seq + 1 }

/-- The host's frames in the launch queue. -/
def State.hostFrames (s : State) (c : Nat) : List CanTxE := (s.cn c).q.filter (fun f => srcRank f.src = 2)

theorem State.canPut_cn (s : State) (c : Nat) (e : CanTxE) : (s.canPut c e).cn c =
    { s.cn c with q := (s.cn c).q ++ [{ e with seq := (s.cn c).seq }], seq := (s.cn c).seq + 1 } :=
  State.cn_setCn ..

theorem State.canPut_full {s : State} {c : Nat} (e : CanTxE) (h : s.CanFull c) : (s.canPut c e).CanFull c :=
  h.congr ((State.setCn_frame ..).genBufs rfl c) (by rw [State.canPut_cn]) (by rw [State.canPut_cn])

/-- A host frame without a launch time as the launch queue takes it (R284). -/
def State.hostTx (s : State) (r n : Nat) (f : CanFrame) : CanTxE :=
  ⟨canPad { f with esi := false }, .host r n, s.clk.t, 0, 0⟩

/-- An untimed host frame of a controller that sends enters the queue, or is refused where 32 are in it. -/
theorem State.canSubmit_untimed {s : State} {c : Nat} (sends : s.canSends c = true) (r n field : Nat) (f : CanFrame) :
    s.canSubmit r c n false field f = (if 32 ≤ (s.hostFrames c).length then s.complete r n .canQueueFull
      else s.canPut c (s.hostTx r n f)).canLoad c := by
  unfold State.canSubmit State.canEnqueue
  simp only [sends]
  rfl

/-! ### CAN_TX -/

section CanTx

variable {s : State} {r : Nat} {d : Inflight} (h : Starts s r 0x31 d) {b : Bytes}

include h

theorem exec_canTx_bad (bad : canRecordOk b = false) :
    exec (.canTx r (some b)) s = .next ((s.begin r d.num).complete r d.num .descriptorInvalid) :=
  (h.guard _).trans (congrArg _ (if_neg (by simp [bad])))

theorem exec_canTx (ok : canRecordOk b = true) (untimed : le d.bytes 9 1 ≠ 1)
    (sends : s.canSends (le d.bytes 8 1) = true) :
    exec (.canTx r (some b)) s = .next ((if 32 ≤ (s.hostFrames (le d.bytes 8 1)).length then
      (s.begin r d.num).complete r d.num .canQueueFull
      else (s.begin r d.num).canPut (le d.bytes 8 1) (s.hostTx r d.num (canFrameOf b))).canLoad (le d.bytes 8 1)) := by
  refine (h.guard _).trans (congrArg _ ((if_pos ok).trans ?_))
  rw [decide_eq_false untimed]
  exact State.canSubmit_untimed (s := s.begin r d.num) sends ..

end CanTx

/-- Settles O20: a refused frame completes after its flag alone is set, and a queued one leaves its descriptor begun. -/
theorem frameDescriptors : Obligations.FrameDescriptors := by
  intro s r d p q len
  refine ⟨?untimed, ?timed, ?fault, ?bad, ?queued, ?full⟩
  case untimed =>
    intro b h untimed
    refine ⟨_, exec_ethTx h b, ?_⟩
    rw [State.ethEnqueue_untimed (s := s.begin r d.num) (.host r d.num) (b.take len) untimed]
    exact ⟨State.ethPut_q .., rfl, State.begin_desc h.desc⟩
  case timed =>
    intro b h timed field
    let v := s.begin r d.num
    let src := TxSrc.host r d.num
    let f := v.timedTx q field src (b.take len)
    refine ⟨fun ahead near => ?_, fun far => ?_, fun late drop => ?_, fun late keep may => ?_, fun late keep may => ?_⟩
    all_goals refine ⟨_, exec_ethTx h b, ?_⟩
    · rw [State.ethEnqueue_ahead (s := v) src (b.take len) timed ahead near]
      exact State.ethPut_q ..
    · rw [State.ethEnqueue_far (s := v) src (b.take len) timed far]
      exact h.ethRefuses p (by decide) (by decide) .launchOutOfRange
    · rw [State.ethEnqueue_late (s := v) src (b.take len) timed late,
        State.ethLateFrame_dropped (s := v) (f := f) drop]
      exact h.ethRefuses p (by decide) (by decide) .launchLate
    · rw [State.ethEnqueue_late (s := v) src (b.take len) timed late,
        State.ethLateFrame_sent (s := v) (f := f) keep may]
      exact ⟨State.sendLate_flag .., congrArg (·.q) (v.sendLate_ep p _)⟩
    · rw [State.ethEnqueue_late (s := v) src (b.take len) timed late,
        State.ethLateFrame_held (s := v) (f := f) keep may]
      exact ⟨rfl, rfl, State.ethPut_q ..⟩
  case fault =>
    intro h
    exact ⟨_, exec_ethTx_fault h, h.refuses .hostMemoryFault⟩
  case bad =>
    intro b h bad
    exact ⟨_, exec_canTx_bad h bad, h.refuses .descriptorInvalid, (State.complete_frame ..).can rfl⟩
  case queued =>
    intro b h ok untimed sends few
    refine ⟨_, exec_canTx h ok untimed sends, ?_⟩
    rw [if_neg (show ¬32 ≤ (s.hostFrames p).length by unfold State.hostFrames; omega)]
    let v := (s.begin r d.num).canPut p (s.hostTx r d.num (canFrameOf b))
    have cn : v.cn p = _ := State.canPut_cn ..
    refine ⟨?_, ?_, fun bufs safe => ?_⟩
    · refine Nat.lt_of_lt_of_le ?_ (v.canLoad_seq p)
      rw [cn]
      exact Nat.lt_succ_self _
    · rw [(State.canLoad_frame ..).desc rfl]
      exact State.begin_desc h.desc
    · have full : v.CanFull p := State.canPut_full (s := s.begin r d.num) _ ⟨bufs, safe⟩
      change ((v.canLoad p).cn p).q = _
      rw [full.canLoad, cn]
      rfl
  case full =>
    intro b h ok untimed sends many
    refine ⟨_, exec_canTx h ok untimed sends, ?_⟩
    rw [if_pos (show 32 ≤ (s.hostFrames p).length from many)]
    have completed := (s.begin r d.num).complete_frame r d.num .canQueueFull
    refine ⟨(h.refuses .canQueueFull).after (State.canLoad_frame ..) rfl rfl rfl, fun bufs safe => ?_⟩
    have here : (s.begin r d.num).CanFull p := ⟨bufs, safe⟩
    have full := here.congr (completed.genBufs rfl p) (by rw [completed.cn rfl]) (by rw [completed.cn rfl])
    rw [full.canLoad]
    exact completed.can rfl

end Sys2Proof.Machine

/-!
Ethernet frames that leave a port (10_site_time.md: R242, R253, R254) and the ports' links
(19_package_power_cooling.md: R425).
-/

namespace Sys2Proof.Machine

open Sys2Proof

/-! ### Outputs that stay -/

theorem State.emitHost_out (s : State) (o : Out) : s.out ⊆ (s.emitHost o).out := by
  unfold State.emitHost
  split
  · exact List.subset_append_left ..
  · exact List.Subset.refl _

theorem State.completeAt_out (s : State) (r n : Nat) (st : Status) (result info time : Nat) :
    s.out ⊆ (s.completeAt r n st result info time).out := by
  unfold State.completeAt
  split
  · exact List.Subset.refl _
  · next d _ =>
    extract_lets old taken written op
    have kept : s.out ⊆ written.out := by
      unfold written State.writeEntry
      extract_lets t phase lost flags v sent counted old held
      have sends : s.out ⊆ held.out := by
        rw [show held.out = counted.out from rfl, (State.tally_frame ..).out rfl]
        exact taken.emitHost_out _
      split
      · exact sends
      · exact sends
    split
    · rw [(State.roleAction_frame ..).out rfl]
      exact kept
    · exact kept

theorem State.ethComplete_out (s : State) (src : TxSrc) (st : Status) : s.out ⊆ (s.ethComplete src st).out := by
  unfold State.ethComplete
  split
  · exact s.completeAt_out ..
  · exact List.Subset.refl _

theorem State.ethLateFrame_out (s : State) (p : Nat) (f : EthTx) : s.out ⊆ (s.ethLateFrame p f).out := by
  cases drop : s.lateDrop p f.queue with
  | true =>
    have kept := (s.event (ethA p 0x204) 1 (ethA p 0x20C)).ethComplete_out f.src .launchLate
    rwa [State.event_out, ← State.ethLateFrame_dropped drop] at kept
  | false =>
    cases may : s.mayTransmit with
    | true =>
      rw [State.ethLateFrame_sent drop may, State.sendLate_out]
      exact List.subset_append_left ..
    | false =>
      rw [State.ethLateFrame_held drop may, State.ethPut_out]
      exact List.Subset.refl _

/-! ### The heads of a port's queues -/

theorem Eth.head_queue {e : Eth} {q : Nat} {f : EthTx} (h : e.head q = some f) : f.queue = q := by
  have mine : f.queue = q ∧ f.sent = false := by simpa using (List.mem_filter.mp (List.mem_of_head? h)).2
  exact mine.1

theorem Eth.length_pos_of_head {e : Eth} {q : Nat} {f : EthTx} (h : e.head q = some f) : 0 < e.q.length :=
  List.length_pos_of_mem (List.mem_filter.mp (List.mem_of_head? h)).1

theorem Eth.head_append_ne (e : Eth) {q : Nat} {f : EthTx} (h : f.queue ≠ q) :
    ({ e with q := e.q ++ [f] } : Eth).head q = e.head q := by
  simp [Eth.head, h]

/-- Taking the head of one queue leaves the other queues. -/
theorem filter_takeHead_ne {q k : Nat} (h : q ≠ k) (l : List EthTx) :
    (takeHead k l).filter (fun f => f.queue == q && !f.sent) = l.filter (fun f => f.queue == q && !f.sent) := by
  induction l with
  | nil => rfl
  | cons f l ih =>
    unfold takeHead
    split
    · next taken =>
      have mine : f.queue = k ∧ f.sent = false := by simpa using taken
      have other : f.queue ≠ q := fun e => h (e.symm.trans mine.1)
      simp [other]
    · simp only [List.filter_cons, ih]

theorem Eth.head_takeHead_ne (e : Eth) {q k : Nat} (h : q ≠ k) :
    ({ e with q := takeHead k e.q } : Eth).head q = e.head q :=
  congrArg List.head? (filter_takeHead_ne h e.q)

theorem State.ethPut_head_ne (s : State) (p : Nat) {q : Nat} {f : EthTx} (h : f.queue ≠ q) :
    ((s.ethPut p f).ep p).head q = (s.ep p).head q := by
  unfold State.ethPut
  rw [State.ep_setEp]
  exact Eth.head_append_ne _ h

/-- A late frame touches its own queue alone. -/
theorem State.ethLateFrame_head_ne (s : State) (p : Nat) {q : Nat} {f : EthTx} (h : f.queue ≠ q) :
    ((s.ethLateFrame p f).ep p).head q = (s.ep p).head q := by
  cases drop : s.lateDrop p f.queue with
  | true => rw [State.ethLateFrame_dropped drop, (State.ethComplete_frame ..).ep rfl, State.event_ep]
  | false =>
    cases may : s.mayTransmit with
    | true =>
      rw [State.ethLateFrame_sent drop may, State.sendLate_ep]
      exact Eth.head_append_ne _ h
    | false => rw [State.ethLateFrame_held drop may, State.ethPut_head_ne _ _ h]

/-! ### The launch of a queue -/

/-- Port `p` without the head of queue `q`. -/
def State.unqueued (s : State) (p q : Nat) : State := s.setEp p { s.ep p with q := takeHead q (s.ep p).q }

/-- The head `f` of queue `q` leaves at its launch time. -/
def State.launched (s : State) (p q : Nat) (f : EthTx) : State :=
  ((s.unqueued p q).emit (.eth p f.launch (macFrame f.bytes))).ethPut p { f with sent := true }

theorem State.unqueued_head_ne (s : State) (p : Nat) {q k : Nat} (h : q ≠ k) :
    ((s.unqueued p k).ep p).head q = (s.ep p).head q := by
  unfold State.unqueued
  rw [State.ep_setEp]
  exact Eth.head_takeHead_ne _ h

theorem State.launched_head_ne (s : State) (p : Nat) {q k : Nat} {f : EthTx} (h : q ≠ k) (hf : f.queue ≠ q) :
    ((s.launched p k f).ep p).head q = (s.ep p).head q := by
  unfold State.launched
  refine (State.ethPut_head_ne _ _ (f := { f with sent := true }) hf).trans ?_
  rw [(State.emit_frame ..).ep rfl, State.unqueued_head_ne _ _ h]

theorem State.launched_out (s : State) (p q : Nat) (f : EthTx) :
    (s.launched p q f).out = s.out ++ [.eth p f.launch (macFrame f.bytes)] := rfl

/-- One step of a queue's launch: its head is due, is late, or waits. -/
theorem State.launchQueue_succ (l p q n : Nat) (s : State) :
    (∃ f, (s.ep p).head q = some f ∧ f.launch = some l ∧
      State.launchQueue l p q (n + 1) s = State.launchQueue l p q n (s.launched p q f)) ∨
    (∃ f x, (s.ep p).head q = some f ∧ f.launch = some x ∧ x ≠ l ∧
      State.launchQueue l p q (n + 1) s = State.launchQueue l p q n ((s.unqueued p q).ethLateFrame p f)) ∨
    (State.launchQueue l p q (n + 1) s = s ∧ ∀ f, (s.ep p).head q = some f → f.launch ≠ some l) := by
  cases head : (s.ep p).head q with
  | none =>
    refine Or.inr (Or.inr ⟨?_, fun f h => nomatch h⟩)
    unfold State.launchQueue
    rw [head]
  | some f =>
    cases launch : f.launch with
    | none =>
      refine Or.inr (Or.inr ⟨?_, fun g h => by cases h; simp [launch]⟩)
      unfold State.launchQueue
      rw [head]
      dsimp only
      rw [launch]
    | some x =>
      have step : State.launchQueue l p q (n + 1) s =
          if x = l then State.launchQueue l p q n (s.launched p q f)
          else if x < l then State.launchQueue l p q n ((s.unqueued p q).ethLateFrame p f) else s := by
        rw [State.launchQueue, head]
        dsimp only
        rw [launch]
        unfold State.launched
        rw [launch]
        rfl
      rw [step]
      by_cases due : x = l
      · exact Or.inl ⟨f, rfl, due ▸ launch, if_pos due⟩
      · rw [if_neg due]
        by_cases late : x < l
        · exact Or.inr (Or.inl ⟨f, x, rfl, launch, due, if_pos late⟩)
        · exact Or.inr (Or.inr ⟨if_neg late, fun g h => by cases h; simpa [launch] using due⟩)

theorem State.launchQueue_out (l p q n : Nat) (s : State) : s.out ⊆ (State.launchQueue l p q n s).out := by
  induction n generalizing s with
  | zero => exact List.Subset.refl _
  | succ n ih =>
    obtain ⟨f, -, -, e⟩ | ⟨f, x, -, -, -, e⟩ | ⟨e, -⟩ := State.launchQueue_succ l p q n s
    · rw [e]
      exact List.Subset.trans (by rw [State.launched_out]; exact List.subset_append_left ..) (ih _)
    · rw [e]
      exact List.Subset.trans ((s.unqueued p q).ethLateFrame_out p f) (ih _)
    · rw [e]
      exact List.Subset.refl _

theorem State.launchQueue_head_ne (l p n : Nat) {q k : Nat} (h : q ≠ k) (s : State) :
    ((State.launchQueue l p k n s).ep p).head q = (s.ep p).head q := by
  induction n generalizing s with
  | zero => rfl
  | succ n ih =>
    obtain ⟨f, head, -, e⟩ | ⟨f, x, head, -, -, e⟩ | ⟨e, -⟩ := State.launchQueue_succ l p k n s
    · rw [e, ih, State.launched_head_ne _ _ h (by rw [Eth.head_queue head]; exact h.symm)]
    · rw [e, ih, State.ethLateFrame_head_ne _ _ (by rw [Eth.head_queue head]; exact h.symm),
        State.unqueued_head_ne _ _ h]
    · rw [e]

/-- Frame `f` has left port `p` with launch time `l`. -/
def State.LeftAt (l p : Nat) (f : EthTx) (s : State) : Prop := Out.eth p (some l) (macFrame f.bytes) ∈ s.out

/-- A head that is due leaves. -/
theorem State.launchQueue_sends {s : State} {l p q n : Nat} {f : EthTx} (head : (s.ep p).head q = some f)
    (due : f.launch = some l) (hn : 0 < n) : (State.launchQueue l p q n s).LeftAt l p f := by
  obtain ⟨m, rfl⟩ := Nat.exists_eq_add_of_lt hn
  rw [Nat.zero_add]
  obtain ⟨g, head', -, e⟩ | ⟨g, x, head', launch, other, -⟩ | ⟨-, waits⟩ := State.launchQueue_succ l p q m s
  · obtain rfl := Option.some.inj (head.symm.trans head')
    rw [e]
    apply State.launchQueue_out
    rw [State.launched_out, due]
    exact List.mem_append_right _ (List.mem_singleton.mpr rfl)
  · obtain rfl := Option.some.inj (head.symm.trans head')
    exact absurd (Option.some.inj (launch.symm.trans due)) other
  · exact absurd due (waits f head)

/-- The frames of port `p` that are due at `l` leave, from queue 7 downward (R253). -/
def State.launchPort (s : State) (l p : Nat) : State :=
  [7, 6, 5, 4, 3, 2, 1, 0].foldl (fun s q => s.launchQueue l p q (s.ep p).q.length) s

/-- Until its queue's turn a head stays, and what has left stays out. -/
theorem State.launchPort_sends {s : State} {l p q : Nat} {f : EthTx} (hq : q < 8) (head : (s.ep p).head q = some f)
    (due : f.launch = some l) : (s.launchPort l p).LeftAt l p f := by
  refine foldl_each (p := fun t x => x = q → t.LeftAt l p f) (q := fun t => (t.ep p).head q = some f ∨ t.LeftAt l p f)
    (Or.inl head) ?_ ?_ ?_ q (by simp; omega) rfl
  · intro t x _ h
    rcases h with head | out
    · by_cases turn : x = q
      · subst turn
        exact Or.inr (State.launchQueue_sends head due (Eth.length_pos_of_head head))
      · exact Or.inl ((State.launchQueue_head_ne l p _ (Ne.symm turn) t).trans head)
    · exact Or.inr (State.launchQueue_out _ _ _ _ t out)
  · intro t x _ h turn
    subst turn
    rcases h with head | out
    · exact State.launchQueue_sends head due (Eth.length_pos_of_head head)
    · exact State.launchQueue_out _ _ _ _ t out
  · intro t x _ y _ _ out turn
    exact State.launchQueue_out _ _ _ _ t (out turn)

/-! ### Frames on the wire -/

/-- Frame `f` at place `i` leaves port `p`; one that was sent is out already. -/
def State.ethLeaves (s : State) (p i : Nat) (f : EthTx) : State :=
  let s := s.setEp p { s.ep p with q := (s.ep p).q.eraseIdx i }
  if f.sent then s else s.emit (.eth p none (macFrame f.bytes))

theorem State.ethLeaves_q (s : State) (p i : Nat) (f : EthTx) :
    ((s.ethLeaves p i f).ep p).q = (s.ep p).q.eraseIdx i := by
  unfold State.ethLeaves
  extract_lets old v
  have here : (v.ep p).q = (s.ep p).q.eraseIdx i := congrArg (·.q) (s.ep_setEp p _)
  split
  · exact here
  · rw [(State.emit_frame ..).ep rfl, here]

theorem State.ethLeaves_out {s : State} {f : EthTx} (p i : Nat) (unsent : f.sent = false) :
    Out.eth p none (macFrame f.bytes) ∈ (s.ethLeaves p i f).out := by
  unfold State.ethLeaves
  extract_lets old v
  rw [if_neg (by simp [unsent])]
  exact List.mem_append_right _ (List.mem_singleton.mpr rfl)

section Commands

variable {s : State} {p : Nat} (hp : p < 4)

include hp

theorem exec_timedFrameLaunch {u : State} {l : Nat} (next : (s.ep p).nextLaunch = some l) (may : s.mayTransmit = true)
    (due : s.reach l = some u) : exec (.timedFrameLaunch p) s = .next (u.launchPort l p) := by
  change execTimedFrameLaunch p s = _
  unfold execTimedFrameLaunch
  rw [guardI_true (decide_eq_true hp), next]
  exact congrArg _ ((if_neg (by simp [may])).trans (State.atT_some due _))

section Done

variable {q i : Nat} {f : EthTx} (hq : q < 8)
  (oldest : findAt (fun (f : EthTx) => f.queue == q && (f.sent || f.launch.isNone)) (s.ep p).q 0 = some (i, f))

include hq oldest

theorem exec_ethTxDone_leaves (may : s.mayTransmit = true) (free : f.sent = true ∨ s.mayLeave p f = true) :
    exec (.ethTxDone p q) s = .next
      (((s.ethLeaves p i f).tally 7 0x30 p (max 60 f.bytes.length)).ethComplete f.src .success) := by
  change execEthTxDone p q s = _
  unfold execEthTxDone
  rw [guardI_true (by simp [hp, hq]), oldest]
  exact congrArg _ (if_pos (by simpa [may] using free))

theorem exec_ethTxDone_stays (unsent : f.sent = false) (held : s.mayLeave p f = false) :
    exec (.ethTxDone p q) s = .next s := by
  change execEthTxDone p q s = _
  unfold execEthTxDone
  rw [guardI_true (by simp [hp, hq]), oldest]
  exact congrArg _ (if_neg (by simp [unsent, held]))

end Done

theorem exec_ethPortLinkDown (up : s.flag (ethA p 4) 0 = true) :
    exec (.ethPortLinkDown p) s = .next ((s.put (ethA p 4) 0 0 0).event (ethA p 4) 1 (ethA p 8)) :=
  (guardI_true (decide_eq_true hp)).trans (congrArg _ (if_pos up))

theorem exec_ethPortLinkUp (on : s.flag (ethA p 0) 31 = true) (sound : s.bootFailed 12 p = false) :
    exec (.ethPortLinkUp p) s = .next ((s.put (ethA p 4) 0 0 1).markClear 12 p) :=
  (guardI_true (decide_eq_true hp)).trans (congrArg _ (if_pos (by simp [on, sound])))

theorem exec_ethFrameReceived (stamp uncert : Nat) (b : Bytes) : exec (.ethFrameReceived p stamp uncert b) s =
    .next (if s.isReady && s.flag (ethA p 0) 31 && !s.inReplay then s.ethIn p stamp uncert b else s) :=
  guardI_true (decide_eq_true hp)

end Commands

end Sys2Proof.Machine

/-!
Frames that a port receives (01_device_and_tick.md: R24; 10_site_time.md: R242; 11_control_engine.md: R269): what the
pilot core records of a control frame, and the feedback that it gives.
-/

namespace Sys2Proof.Machine

open Sys2Proof

/-- What feedback reads is the same in both states: the axes and their configuration, the clock, the period and G. -/
structure State.SameFeedback (s t : State) : Prop where
  axes : t.axes = s.axes
  ctl : ∀ a o, t.rd (ctlA a o) = s.rd (ctlA a o)
  clk : t.clk = s.clk
  period : t.rd (timA 0x100) = s.rd (timA 0x100)
  guard : t.rd (timA 0x104) = s.rd (timA 0x104)

section SameFeedback

variable {s t u : State}

theorem State.SameFeedback.trans (h : s.SameFeedback t) (k : t.SameFeedback u) : s.SameFeedback u where
  axes := k.axes.trans h.axes
  ctl := fun a o => (k.ctl a o).trans (h.ctl a o)
  clk := k.clk.trans h.clk
  period := k.period.trans h.period
  guard := k.guard.trans h.guard

theorem Frame.sameFeedback {m : Nat} (h : Frame m s t) (b4 : touches m 4 = false) (b9 : touches m 9 = false)
    (b42 : touches m 42 = false) (b44 : touches m 44 = false) : s.SameFeedback t where
  axes := h.axes b9
  ctl := fun a o => h.blk _ (by rwa [blk_ctlA])
  clk := h.clk b4
  period := h.blk _ (by rwa [blk_timA _ (by decide)])
  guard := h.blk _ (by rwa [blk_timA _ (by decide)])

/-- A stamp's uncertainty is kept beside the period and G (R247). -/
theorem State.stamped_sameFeedback (s : State) (uncert : Nat) : s.SameFeedback (s.stamped uncert) where
  axes := (s.stamped_frame uncert).axes rfl
  ctl := fun a o => (s.stamped_frame uncert).blk _ (by rw [blk_ctlA]; rfl)
  clk := (s.stamped_frame uncert).clk rfl
  period := by
    unfold State.stamped
    split
    · exact s.rd_put_ne _ _ _ (timA_ne_timA (by decide))
    · rfl
  guard := by
    unfold State.stamped
    split
    · exact s.rd_put_ne _ _ _ (timA_ne_timA (by decide))
    · rfl

variable (h : s.SameFeedback t)

include h

theorem State.SameFeedback.ax (a : Nat) : t.ax a = s.ax a := by
  unfold State.ax
  rw [h.axes]

theorem State.SameFeedback.ethAxes (p : Nat) (b : Bytes) : t.ethAxes p b = s.ethAxes p b := by
  have axes : t.fbAxes = s.fbAxes := by
    unfold State.fbAxes
    simp only [State.axOn_of (h.ctl _ 0x100), h.ax]
  unfold State.ethAxes
  simp only [axes, State.fld_congr (h.ctl _ _)]

theorem State.SameFeedback.fbValues (a : Nat) (b : Bytes) : t.fbValues a b = s.fbValues a b := by
  have perTick : t.per1 = s.per1 := funext fun x => by
    unfold State.per1 State.ts
    rw [State.fld_congr h.period]
  unfold State.fbValues State.fr
  simp only [perTick, h.ctl, State.flag_congr (h.ctl a 4)]

theorem State.SameFeedback.cutoff : t.cutoff = s.cutoff := by
  unfold State.cutoff State.guardNs
  rw [h.clk, State.fld_congr h.guard]

theorem State.SameFeedback.fbWindow (stamp : Nat) : t.fbWindow stamp = s.fbWindow stamp := by
  unfold State.fbWindow State.windowOf
  rw [h.cutoff, h.clk]

end SameFeedback

/-! ### The window of a stamp (R24, R433) -/

section Window

variable {s : State} {stamp : Nat}

theorem State.fbWindow_later (h : s.cutoff ≤ stamp) :
    s.fbWindow stamp = some (s.clk.nextTick + (stamp - s.cutoff) / s.clk.period) := by
  unfold State.fbWindow State.windowOf
  rw [if_neg (by simp; omega), if_pos h]

theorem State.fbWindow_present (h : stamp < s.cutoff) (opened : s.clk.lastCut ≤ stamp)
    (collects : s.clk.win ≠ .passed) : s.fbWindow stamp = some s.clk.tick := by
  unfold State.fbWindow State.windowOf
  rw [if_neg (by simp [collects]; omega), if_neg (by omega)]

theorem State.fbWindow_gone (h : stamp < s.cutoff) (gone : stamp < s.clk.lastCut ∨ s.clk.win = .passed) :
    s.fbWindow stamp = none :=
  if_pos (by simpa [h] using gone)

end Window

/-! ### A control frame -/

/-- Axis `a` has the values `v` of a frame stamped `stamp`, where a window still takes them. -/
def State.joined (s : State) (a stamp : Nat) (v : F32 × F32) : State :=
  (s.fbWindow stamp).elim s fun n => s.setAx a { s.ax a with fb := (s.ax a).fb ++ [⟨n, stamp, v.1, v.2⟩] }

theorem State.feedback_one {s : State} {a : Nat} {b : Bytes} {v : F32 × F32} (given : s.fbValues a b = some v)
    (stamp : Nat) : s.feedback [a] stamp b = s.joined a stamp v := by
  unfold State.feedback State.joined
  dsimp only
  rw [given]
  cases s.fbWindow stamp with
  | none => rfl
  | some n => rfl

theorem State.joined_fb (s : State) (a stamp : Nat) (v : F32 × F32) : ((s.joined a stamp v).ax a).fb =
    (s.ax a).fb ++ ((s.fbWindow stamp).map fun n => ⟨n, stamp, v.1, v.2⟩).toList := by
  unfold State.joined
  cases s.fbWindow stamp with
  | none => exact (List.append_nil _).symm
  | some n => exact congrArg (·.fb) (s.ax_setAx a _)

/-- A control frame as it is counted, stamped and logged, before its feedback is taken (R269). -/
def State.ethLogged (s : State) (p stamp uncert : Nat) (b : Bytes) : State :=
  ((s.tally 7 0x31 p b.length).stamped (min uncertMax uncert)).slogAdd 0x06 0 p stamp (min uncertMax uncert) b

theorem State.ethLogged_sameFeedback (s : State) (p stamp uncert : Nat) (b : Bytes) :
    s.SameFeedback (s.ethLogged p stamp uncert b) :=
  (((s.tally_frame ..).sameFeedback rfl rfl rfl rfl).trans (State.stamped_sameFeedback ..)).trans
    ((State.slogAdd_frame ..).sameFeedback rfl rfl rfl rfl)

theorem State.ethIn_one {s : State} {p a : Nat} {b : Bytes} {v : F32 × F32} (other : (etherBody b).2 ≠ 0x88F7)
    (noUdp : udpIn b = none) (matched : s.ethAxes p b = [a]) (given : s.fbValues a b = some v) (stamp uncert : Nat) :
    s.ethIn p stamp uncert b = (s.ethLogged p stamp uncert b).joined a stamp v := by
  have counted : s.SameFeedback (s.tally 7 0x31 p b.length) := (s.tally_frame ..).sameFeedback rfl rfl rfl rfl
  have logged := s.ethLogged_sameFeedback p stamp uncert b
  unfold State.ethIn
  rw [if_neg other, noUdp]
  dsimp only
  unfold State.ethCtrl
  rw [counted.ethAxes, matched]
  exact State.feedback_one ((logged.fbValues a b).trans given) stamp

/-- A PTP message that is no command of its own is discarded at the port (R242). -/
theorem State.ethIn_ptp {b : Bytes} (ptp : (etherBody b).2 = 0x88F7) (s : State) (p stamp uncert : Nat) :
    s.ethIn p stamp uncert b = s :=
  if_pos ptp

/-- Settles O36: a due head leaves at its queue's turn, which no other queue's turn takes from it; what a frame's
feedback reads is not what counting, stamping and logging it write. -/
theorem ethernetPorts : Obligations.EthernetPorts := by
  refine ⟨?launch, ?leaves, ?stays, ?down, ?up, ?feedback, ?ptp, ?ignored⟩
  case launch =>
    intro s u p l q f hp hq next may due head launch
    refine ⟨_, exec_timedFrameLaunch hp next may due, State.launchPort_sends hq ?_ launch⟩
    rw [(State.reach_fr due).ep rfl]
    exact head
  case leaves =>
    intro s p q i f hp hq may oldest free
    have counted := (s.ethLeaves p i f).tally_frame 7 0x30 p (max 60 f.bytes.length)
    refine ⟨_, exec_ethTxDone_leaves hp hq oldest may free, ?_, fun unsent => ?_, fun r n host => ?_⟩
    · rw [(State.ethComplete_frame ..).ep rfl, counted.ep rfl]
      exact s.ethLeaves_q p i f
    · apply State.ethComplete_out
      rw [counted.out rfl]
      exact State.ethLeaves_out p i unsent
    · rw [host]
      exact State.complete_desc ..
  case stays =>
    intro s p q i f hp hq oldest unsent held
    exact exec_ethTxDone_stays hp hq oldest unsent held
  case down =>
    intro s p hp up
    have apart : ethA p 4 ≠ ethA p 8 := ethA_ne_ethA p (by decide)
    refine ⟨_, exec_ethPortLinkDown hp up, ?_, State.flag_event _ apart (by decide), ?_⟩
    · rw [State.flag_event_beside _ apart (by decide) (by decide)]
      exact State.flag_put_self _ _ 0 (by decide) (by decide) (by decide)
    · rw [State.rd_event_count _ _ apart, State.rd_put_ne _ _ _ _ apart]
  case up =>
    intro s p hp on sound
    refine ⟨_, exec_ethPortLinkUp hp on sound, ?_⟩
    have kept := ((s.put (ethA p 4) 0 0 1).markClear_frame 12 p).rd_ethA rfl p 4
    exact (State.flag_congr kept 0).trans (State.flag_put_self _ _ 1 (by decide) (by decide) (by decide))
  case feedback =>
    intro s p stamp uncert a b x v hp ready on live other noUdp matched _ given
    refine ⟨_, exec_ethFrameReceived hp stamp uncert b, ?_⟩
    have logged := s.ethLogged_sameFeedback p stamp uncert b
    rw [if_pos (by simp [ready, on, live]), State.ethIn_one other noUdp matched given]
    dsimp only
    rw [State.joined_fb, logged.ax, logged.fbWindow]
    refine ⟨fun later => ?_, fun before opened collects => ?_, fun before gone => ?_⟩
    · rw [State.fbWindow_later later]
      rfl
    · rw [State.fbWindow_present before opened collects]
      rfl
    · rw [State.fbWindow_gone before gone]
      exact List.append_nil _
  case ptp =>
    intro s p stamp uncert b hp ptp
    rw [exec_ethFrameReceived hp, State.ethIn_ptp ptp, ite_self]
  case ignored =>
    intro s p stamp uncert b hp off
    rw [exec_ethFrameReceived hp, if_neg]
    rcases off with h | h | h <;> simp [h]

end Sys2Proof.Machine

/-!
Axis descriptors that complete at once (11_control_engine.md: R260, R265, R272, R277): what stands in an axis's
registers, how an AXIS_CMD starts, and what each descriptor leaves of the axis.
-/

namespace Sys2Proof.Machine

open Sys2Proof

/-! ### Registers of an axis -/

theorem ctlA_ne_ctlA (a : Nat) {o p : Nat} (h : o % 0x100000 ≠ p % 0x100000) : ctlA a o ≠ ctlA a p := by
  unfold ctlA
  omega

theorem blk_ssoA (g o : Nat) : blk (ssoA g o) = 8 := by
  unfold blk ssoA
  rw [if_pos (by omega)]
  omega

theorem blk_ssoA_next (g o : Nat) : blk (ssoA g o + 4) = 8 := by
  unfold blk ssoA
  rw [if_pos (by omega)]
  omega

theorem State.axState_congr {s t : State} {a : Nat} (h : t.rd (ctlA a 0x100) = s.rd (ctlA a 0x100)) :
    t.axState a = s.axState a :=
  State.fld_congr h ..

theorem State.owner_congr {s t : State} {a : Nat} (h : t.rd (ctlA a 0x104) = s.rd (ctlA a 0x104)) :
    t.owner a = s.owner a := by
  unfold State.owner
  rw [State.flag_congr h, State.fld_congr h, State.fld_congr h]

theorem State.noOwner_owner (s : State) (a : Nat) : (s.noOwner a).owner a = none := by
  unfold State.noOwner State.owner State.flag
  rw [State.rd_wr_self]
  rfl

/-! What an operation outside a component leaves of what is read of an axis. -/

section Kept

variable {m : Nat} {s t : State} (h : Frame m s t)

include h

theorem Frame.ax (b : touches m 9 = false) (a : Nat) : t.ax a = s.ax a := by
  unfold State.ax
  rw [h.axes b]

theorem Frame.rd_ctlA (b : touches m 44 = false) (a o : Nat) : t.rd (ctlA a o) = s.rd (ctlA a o) :=
  h.blk _ (by rwa [blk_ctlA])

theorem Frame.axState (b : touches m 44 = false) (a : Nat) : t.axState a = s.axState a :=
  State.axState_congr (h.rd_ctlA b a _)

theorem Frame.owner (b : touches m 44 = false) (a : Nat) : t.owner a = s.owner a :=
  State.owner_congr (h.rd_ctlA b a _)

theorem Frame.stopAsserted (b : touches m 48 = false) (a : Nat) : t.stopAsserted a = s.stopAsserted a := by
  have stat : t.rd (safA 0) = s.rd (safA 0) := h.blk _ (by rwa [blk_safA _ (by decide)])
  have axes : ∀ g, t.groupAxes g = s.groupAxes g := fun g =>
    State.rd64_congr (h.blk _ (by rwa [blk_ssoA])) (h.blk _ (by rwa [blk_ssoA_next]))
  have groups : t.axisGroups a = s.axisGroups a := by
    unfold State.axisGroups
    simp only [axes]
  have stopped : t.stopped = s.stopped := State.fld_congr stat ..
  have latched : t.pkgStopped = s.pkgStopped := State.flag_congr stat _
  unfold State.stopAsserted
  rw [latched, groups, stopped]

end Kept

/-! ### A descriptor that is started and logged -/

/-- Descriptor `d` of ring `r` is started and logged, with the master level and the bytes read from the host. -/
def State.asked (s : State) (r : Nat) (d : Inflight) (level : Nat) (b : Bytes) : State :=
  (s.begin r d.num).logDesc r d 0 level b []

theorem State.asked_frame (s : State) (r : Nat) (d : Inflight) (level : Nat) (b : Bytes) :
    Frame 0x10000101080 s (s.asked r d level b) :=
  ((Frame.refl _ _).step (State.begin_frame ..) rfl).step (State.logDesc_frame ..) rfl

section Asked

variable {s : State} {r op : Nat} {d : Inflight} (h : Starts s r op d)

include h

theorem Starts.asked_desc (level : Nat) (b : Bytes) :
    (s.asked r d level b).desc r d.num = some { d with begun := true } :=
  ((State.logDesc_frame ..).desc rfl ..).trans (State.begin_desc h.desc)

/-- A logged descriptor completes now where only axes, their registers and the shift log have changed since. -/
theorem Starts.completes_asked {u : State} {level : Nat} {b : Bytes} (f : Frame 0x110000101200 (s.asked r d level b) u)
    (st : Status) : Completed s (u.complete r d.num st) r d st 0 0 s.now32 :=
  h.completes_now (((Frame.refl _ _).step (State.logDesc_frame ..) rfl).trans f) rfl rfl rfl st 0

/-- Nothing happens but the log entry and the completion. -/
theorem Starts.refuses_asked (level : Nat) (b : Bytes) (st : Status) :
    let t := (s.asked r d level b).complete r d.num st
    Completed s t r d st 0 0 s.now32 ∧ t.axes = s.axes :=
  ⟨h.completes_asked (.refl _ _) st, ((State.complete_frame ..).axes rfl).trans ((s.asked_frame ..).axes rfl)⟩

end Asked

/-- An AXIS_CMD runs on the state that its start and its log entry leave. -/
theorem Starts.withCmd {s : State} {r cmd : Nat} {d : Inflight} (h : Starts s r 0x20 d) (hc : le d.bytes 9 1 = cmd)
    (f : State → Nat → Nat → State) :
    guardI (decide (r < 8192)) (s.withCmd r cmd f) = .next (f (s.asked r d 0 []) (le d.bytes 8 1) d.num) := by
  unfold State.withCmd
  rw [h.next, guardI_true (decide_eq_true h.ring)]
  exact congrArg _ (if_pos hc)

/-! ### RELEASE, CLEAR_FAULT and SAFE_STOP_RESET (R260) -/

/-- Axis `a` re-initialises at its next window with feedback. -/
def State.reinits (s : State) (a : Nat) : State := s.setAx a { s.ax a with reinit := true }

section Commands

variable {s : State} (r : Nat) {a : Nat} (n : Nat)

theorem State.releaseCmd_disabled (off : s.axState a = 0) : s.releaseCmd r a n = s.complete r n .axisDisabled :=
  if_pos off

theorem State.releaseCmd_held {q : Nat} (on : s.axState a ≠ 0) (held : s.owner a = some (2, q)) :
    s.releaseCmd r a n = (s.noOwner a).complete r n .success := by
  unfold State.releaseCmd
  rw [if_neg on, held]
  rfl

theorem State.releaseCmd_other (on : s.axState a ≠ 0) (other : ∀ q, s.owner a ≠ some (2, q)) :
    s.releaseCmd r a n = s.complete r n .success := by
  unfold State.releaseCmd
  rw [if_neg on]
  split
  case h_1 q held => exact absurd held (other q)
  case h_2 => rfl

theorem State.clearCmd_fault (fault : s.axState a = 5) :
    s.clearCmd r a n = (s.reinits a).complete r n .success :=
  if_neg (not_not_intro fault)

theorem State.clearCmd_other (other : s.axState a ≠ 5) : s.clearCmd r a n = s.complete r n (s.wrongState a) :=
  if_pos other

theorem State.resetCmd_free (safe : s.axState a = 4) (free : s.stopAsserted a = false) :
    s.resetCmd r a n = (s.reinits a).complete r n .success :=
  (if_neg (not_not_intro safe)).trans (if_neg (by simp [free]))

theorem State.resetCmd_asserted (safe : s.axState a = 4) (asserted : s.stopAsserted a = true) :
    s.resetCmd r a n = s.complete r n .axisOwned :=
  (if_neg (not_not_intro safe)).trans (if_pos asserted)

end Commands

section Reinits

variable {s : State} {r : Nat} {d : Inflight} (h : Starts s r 0x20 d)

include h

/-- A command that re-initialises its axis completes with SUCCESS. -/
theorem Starts.reinits (a : Nat) :
    let t := ((s.asked r d 0 []).reinits a).complete r d.num .success
    Completed s t r d .success 0 0 s.now32 ∧ (t.ax a).reinit = true := by
  refine ⟨h.completes_asked ((State.setAx_frame ..).mono rfl) .success, ?_⟩
  rw [(State.complete_frame ..).ax rfl, State.reinits, State.ax_setAx]

/-- RELEASE of an enabled axis ends an installer's ownership and no other. -/
theorem Starts.releases {a : Nat} (on : s.axState a ≠ 0) :
    let t := (s.asked r d 0 []).releaseCmd r a d.num
    Completed s t r d .success 0 0 s.now32 ∧ (∀ q, s.owner a = some (2, q) → t.owner a = none) ∧
      ((∀ q, s.owner a ≠ some (2, q)) → t.owner a = s.owner a) := by
  have asked := s.asked_frame r d 0 []
  have owner := asked.owner rfl a
  have on' : (s.asked r d 0 []).axState a ≠ 0 := by rwa [asked.axState rfl]
  dsimp only
  by_cases held : ∃ q, s.owner a = some (2, q)
  · obtain ⟨q, held⟩ := held
    rw [State.releaseCmd_held r d.num on' (owner.trans held)]
    refine ⟨h.completes_asked ((State.noOwner_frame ..).mono rfl) .success, fun _ _ => ?_,
      fun other => absurd held (other q)⟩
    exact ((State.complete_frame ..).owner rfl a).trans (State.noOwner_owner ..)
  · have other : ∀ q, s.owner a ≠ some (2, q) := fun q held' => held ⟨q, held'⟩
    rw [State.releaseCmd_other r d.num on' (by rwa [owner])]
    exact ⟨h.completes_asked (.refl _ _) .success, fun q held' => absurd held' (other q),
      fun _ => ((State.complete_frame ..).owner rfl a).trans owner⟩

end Reinits

/-! ### AXIS_TABLE (R272) -/

section Table

variable {s : State} {r : Nat} {d : Inflight} (h : Starts s r 0x22 d)

include h

theorem exec_axisTable (b : Bytes) : exec (.axisTable r (some b)) s = .next
    (((s.asked r d 0 b).loadTable (le d.bytes 8 1) (le d.bytes 9 1) b).complete r d.num .success) :=
  h.guard _

theorem exec_axisTable_fault :
    exec (.axisTable r none) s = .next ((s.begin r d.num).complete r d.num .hostMemoryFault) :=
  h.guard _

end Table

theorem State.mem_loadTable (s : State) (a k : Nat) (b : Bytes) :
    (k, tableOf b 0 4096) ∈ ((s.loadTable a k b).ax a).tblLoad := by
  unfold State.loadTable
  rw [State.ax_setAx]
  simp

/-! ### TRACE_READ (R277) -/

theorem length_leBytes (n v : Nat) : (leBytes n v).length = n := by
  induction n generalizing v with
  | zero => rfl
  | succ n ih => simp [leBytes, ih]

/-- The records of a trace take 4 bytes for each node. -/
theorem length_traceWords (l : List (Nat × List Word)) :
    (l.flatMap fun e => e.2.flatMap fun w => leBytes 4 w.toNat).length = 4 * (l.map fun e => e.2.length).sum := by
  induction l with
  | nil => rfl
  | cons e l ih =>
    have words : (e.2.flatMap fun w => leBytes 4 w.toNat).length = 4 * e.2.length := by
      simp [List.length_flatMap, length_leBytes, Nat.mul_comm]
    rw [List.flatMap_cons, List.length_append, ih, words, List.map_cons, List.sum_cons, Nat.mul_add]

/-- TRACE_READ returns its header of 32 bytes and the records, as far as the buffer reaches. -/
theorem exec_traceRead {s : State} {r : Nat} {d : Inflight} (h : Starts s r 0x23 d) : ∃ addr b,
    exec (.traceRead r) s = .next (((s.begin r d.num).hostData addr b).completeR r d.num .success
      (min (le d.bytes 12 4) (32 + 4 * ((s.ax (le d.bytes 8 1)).trc.map fun e => e.2.length).sum))) := by
  rw [show exec (.traceRead r) s = execTraceRead r s from rfl]
  unfold execTraceRead
  rw [h.guard]
  extract_lets a x first header records data
  have length : data.length = min (le d.bytes 12 4) (32 + 4 * (x.trc.map fun e => e.2.length).sum) := by
    have ahead : header.length = 32 := by simp [header, length_leBytes, zeros]
    rw [List.length_take, List.length_append, ahead, length_traceWords]
  exact ⟨_, _, by rw [length]; rfl⟩

/-- Settles O17: a descriptor that is refused changes the log alone before it completes, and one that is carried out
its axis besides. -/
theorem axisDescriptors : Obligations.AxisDescriptors := by
  intro s r d a
  have asked := s.asked_frame r d 0 []
  have state := asked.axState rfl a
  refine ⟨?table, ?lost, ?release, ?releaseOff, ?clear, ?clearWrong, ?reset, ?resetOwned, ?trace⟩
  case table =>
    intro tab h
    refine ⟨_, exec_axisTable h tab, h.completes_asked ((State.loadTable_frame ..).mono rfl) .success, ?_⟩
    rw [(State.complete_frame ..).ax rfl]
    exact State.mem_loadTable ..
  case lost =>
    intro h
    exact ⟨_, exec_axisTable_fault h, h.refuses .hostMemoryFault, (State.complete_frame ..).axes rfl⟩
  case release =>
    intro h hc on
    exact ⟨_, h.withCmd hc _, h.releases on⟩
  case releaseOff =>
    intro h hc off
    refine ⟨_, h.withCmd hc _, ?_⟩
    rw [State.releaseCmd_disabled r d.num (state.trans off)]
    exact ⟨h.completes_asked (.refl _ _) .axisDisabled,
      ((State.complete_frame ..).owner rfl a).trans (asked.owner rfl a)⟩
  case clear =>
    intro h hc fault
    refine ⟨_, h.withCmd hc _, ?_⟩
    rw [State.clearCmd_fault r d.num (state.trans fault)]
    exact h.reinits a
  case clearWrong =>
    intro h hc other
    refine ⟨_, h.withCmd hc _, ?_⟩
    rw [State.clearCmd_other r d.num (by rwa [state]), State.wrongState, state]
    exact h.refuses_asked 0 [] _
  case reset =>
    intro h hc safe free
    refine ⟨_, h.withCmd hc _, ?_⟩
    rw [State.resetCmd_free r d.num (state.trans safe) ((asked.stopAsserted rfl a).trans free)]
    exact h.reinits a
  case resetOwned =>
    intro h hc safe asserted
    refine ⟨_, h.withCmd hc _, ?_⟩
    rw [State.resetCmd_asserted r d.num (state.trans safe) ((asked.stopAsserted rfl a).trans asserted)]
    exact h.refuses_asked 0 [] _
  case trace =>
    intro h
    obtain ⟨addr, b, run⟩ := exec_traceRead h
    have data := (s.begin r d.num).hostData_frame addr b
    refine ⟨_, run, ?_, ((State.completeR_frame ..).axes rfl).trans (data.axes rfl)⟩
    exact h.completes_of (data.hif rfl) (data.clk rfl)
      (State.hostData_rd _ _ _ (by decide) (by decide))
      (fun o => State.hostData_rd _ _ _ (hifA_ne_ringA 4 r o) (hifA_ne_ringA 0x14 r o)) .success _

end Sys2Proof.Machine

/-!
Segments (11_control_engine.md: R261 to R263, R266): the checks of Table 11-3 in their order, what becomes of a segment
that fails one, and the queue that a good one joins.
-/

namespace Sys2Proof.Machine

open Sys2Proof

/-! ### What the checks of an arriving segment read -/

/-- The start tick of segment record `b`, were it to arrive now (R262). -/
def State.segStart (s : State) (b : Bytes) : Nat :=
  if (le b 6 2).testBit 0 then s.windowOf s.clk.t
  else (s.windowOf s.clk.t + dist32 (le b 0 4) (s.windowOf s.clk.t)).toNat

/-- The segment of record `b`, were it to arrive now. -/
def State.segIn (s : State) (b : Bytes) (level ring : Nat) (src : SegSrc) : Seg :=
  segOf b level ring (s.segStart b) s.clk.ref src

/-- The segments that stay in the queue of its axis when record `b` arrives (R263). -/
def State.segsLeft (s : State) (b : Bytes) (ring : Nat) : List Seg :=
  (s.ax (le b 4 1)).q.filter fun e => !segReplaced ring (s.segStart b) e

/-- The axis has an owner above master level `level` (R261). -/
def State.outranked (s : State) (a level : Nat) : Bool :=
  match s.owner a with
  | none => false
  | some o => decide (level < o.1)

/-- The target of a position segment lies beyond the axis's limits. -/
def State.beyondLimits (s : State) (a : Nat) (g : Seg) : Bool :=
  g.kind = 1 && (flt g.target (s.fr a 0x4C) || flt (s.fr a 0x50) g.target)

/-- The status of the first check that segment `g` of record `b` fails, beside its start (Table 11-3). -/
def State.segCheck (s : State) (b : Bytes) (level : Nat) (g : Seg) : Option Status :=
  if segBad b g then some .segInvalid
  else if s.axState (le b 4 1) = 0 then some .axisDisabled
  else if s.axState (le b 4 1) = 4 || s.axState (le b 4 1) = 5 then some .axisFaulted
  else if s.outranked (le b 4 1) level then some .axisOwned
  else if s.beyondLimits (le b 4 1) g then some .segOutOfRange
  else none

/-- The start tick of record `b` has passed. -/
def State.segLate (s : State) (b : Bytes) : Bool :=
  !(le b 6 2).testBit 0 && dist32 (le b 0 4) (s.windowOf s.clk.t) < 0

theorem State.outranked_eq_false_iff {s : State} {a level : Nat} :
    s.outranked a level = false ↔ ∀ o, s.owner a = some o → o.1 ≤ level := by
  unfold State.outranked
  cases s.owner a with
  | none => simp
  | some o => simp

theorem State.beyondLimits_eq_false_iff {s : State} {a : Nat} {g : Seg} : s.beyondLimits a g = false ↔
    (g.kind = 1 → flt g.target (s.fr a 0x4C) = false ∧ flt (s.fr a 0x50) g.target = false) := by
  unfold State.beyondLimits
  by_cases h : g.kind = 1
  · simp [h]
  · simp [h]

theorem State.segLate_eq_true_iff {s : State} {b : Bytes} : s.segLate b = true ↔
    (le b 6 2).testBit 0 = false ∧ dist32 (le b 0 4) (s.windowOf s.clk.t) < 0 := by
  simp [State.segLate]

section Checks

variable {s : State} {b : Bytes} {level : Nat} {g : Seg}

theorem State.segCheck_bad (bad : segBad b g = true) : s.segCheck b level g = some .segInvalid := if_pos bad

variable (good : segBad b g = false)

include good

theorem State.segCheck_disabled (off : s.axState (le b 4 1) = 0) : s.segCheck b level g = some .axisDisabled := by
  simp [State.segCheck, good, off]

theorem State.segCheck_faulted (faulted : s.axState (le b 4 1) = 4 ∨ s.axState (le b 4 1) = 5) :
    s.segCheck b level g = some .axisFaulted := by
  rcases faulted with h | h <;> simp [State.segCheck, good, h]

variable (on : 1 ≤ s.axState (le b 4 1)) (sound : s.axState (le b 4 1) ≤ 3)

include on sound

/-- An axis in HOLD, MOVING or STOPPING takes segments: the owner and the limits decide. -/
theorem State.segCheck_takes : s.segCheck b level g = if s.outranked (le b 4 1) level then some .axisOwned
    else if s.beyondLimits (le b 4 1) g then some .segOutOfRange else none := by
  have off : s.axState (le b 4 1) ≠ 0 := by omega
  have safe : s.axState (le b 4 1) ≠ 4 := by omega
  have fault : s.axState (le b 4 1) ≠ 5 := by omega
  simp [State.segCheck, good, off, safe, fault]

theorem State.segCheck_owned (owned : ¬∀ o, s.owner (le b 4 1) = some o → o.1 ≤ level) :
    s.segCheck b level g = some .axisOwned := by
  rw [← State.outranked_eq_false_iff, Bool.not_eq_false] at owned
  rw [State.segCheck_takes good on sound, if_pos owned]

variable (free : ∀ o, s.owner (le b 4 1) = some o → o.1 ≤ level)

include free

theorem State.segCheck_beyond (beyond : ¬(g.kind = 1 → flt g.target (s.fr (le b 4 1) 0x4C) = false ∧
    flt (s.fr (le b 4 1) 0x50) g.target = false)) : s.segCheck b level g = some .segOutOfRange := by
  rw [← State.beyondLimits_eq_false_iff, Bool.not_eq_false] at beyond
  rw [State.segCheck_takes good on sound, State.outranked_eq_false_iff.mpr free, beyond]
  rfl

theorem State.segCheck_none (inside : g.kind = 1 → flt g.target (s.fr (le b 4 1) 0x4C) = false ∧
    flt (s.fr (le b 4 1) 0x50) g.target = false) : s.segCheck b level g = none := by
  rw [State.segCheck_takes good on sound, State.outranked_eq_false_iff.mpr free,
    State.beyondLimits_eq_false_iff.mpr inside]
  rfl

end Checks

section Kept

variable {m : Nat} {s t : State} (h : Frame m s t)

include h

theorem Frame.windowOf (b4 : touches m 4 = false) (b42 : touches m 42 = false) (n : Nat) :
    t.windowOf n = s.windowOf n := by
  have guard : t.guardNs = s.guardNs :=
    congrArg (· * 1000) (State.fld_congr (h.blk _ (by rwa [blk_timA _ (by decide)])) 12 0)
  unfold State.windowOf State.cutoff
  rw [guard, h.clk b4]

theorem Frame.segStart (b4 : touches m 4 = false) (b42 : touches m 42 = false) (b : Bytes) :
    t.segStart b = s.segStart b := by
  unfold State.segStart
  rw [h.windowOf b4 b42, h.clk b4]

theorem Frame.segIn (b4 : touches m 4 = false) (b42 : touches m 42 = false) (b : Bytes) (level ring : Nat)
    (src : SegSrc) : t.segIn b level ring src = s.segIn b level ring src := by
  unfold State.segIn
  rw [h.segStart b4 b42, h.clk b4]

theorem Frame.segsLeft (b4 : touches m 4 = false) (b9 : touches m 9 = false) (b42 : touches m 42 = false) (b : Bytes)
    (ring : Nat) : t.segsLeft b ring = s.segsLeft b ring := by
  unfold State.segsLeft
  rw [h.segStart b4 b42, h.ax b9]

theorem Frame.segLate (b4 : touches m 4 = false) (b42 : touches m 42 = false) (b : Bytes) :
    t.segLate b = s.segLate b := by
  unfold State.segLate
  rw [h.windowOf b4 b42, h.clk b4]

theorem Frame.segCheck (b44 : touches m 44 = false) (b : Bytes) (level : Nat) (g : Seg) :
    t.segCheck b level g = s.segCheck b level g := by
  unfold State.segCheck State.outranked State.beyondLimits State.fr
  rw [h.axState b44, h.owner b44, h.rd_ctlA b44, h.rd_ctlA b44]

end Kept

/-! ### A segment arrives (R262, R263) -/

section Arrives

variable {s : State} {b : Bytes} {level ring : Nat} (key ord : Nat) {src : SegSrc}

/-- A segment that fails a check is counted, and ends with the check's status. -/
theorem State.segArrive_refused {st : Status} (check : s.segCheck b level (s.segIn b level ring src) = some st) :
    ∃ u, Frame 0x110000101000 s u ∧
      s.segArrive b level ring key ord src = u.segEnd (le b 4 1) (s.segIn b level ring src) st := by
  have counted : ∀ st, Frame 0x110000101000 s (s.segCount (le b 4 1) st) := fun st =>
    (State.segCount_frame ..).mono rfl
  unfold State.segCheck at check
  split_ifs at check with bad off faulted owned beyond
  all_goals obtain rfl := Option.some.inj check
  · by_cases named : le b 4 1 < 64
    · exact ⟨_, counted _, (if_pos bad).trans (if_pos named)⟩
    · exact ⟨s, .refl _ _, (if_pos bad).trans (if_neg named)⟩
  · exact ⟨_, counted _, (if_neg bad).trans (if_pos off)⟩
  · exact ⟨_, counted _, (if_neg bad).trans ((if_neg off).trans (if_pos faulted))⟩
  · exact ⟨_, counted _, (if_neg bad).trans ((if_neg off).trans ((if_neg faulted).trans (if_pos owned)))⟩
  · exact ⟨_, counted _, (if_neg bad).trans ((if_neg off).trans ((if_neg faulted).trans ((if_neg owned).trans
      (if_pos beyond))))⟩

variable (check : s.segCheck b level (s.segIn b level ring src) = none)

include check

/-- With every other check passed the start decides, and then the room that the replaced segments of the ring leave.
In replay the log decides besides (R189). -/
theorem State.segArrive_checked : ∃ u : State, (u.ax (le b 4 1)).q = s.segsLeft b ring ∧
    s.segArrive b level ring key ord src =
      if s.segLate b || (s.inReplay && s.logged 3 key (le b 4 1) ord) then
        (s.outcome 3 key (le b 4 1) ord).segOut (le b 4 1) (s.segIn b level ring src) .segLate
      else if 64 ≤ (s.segsLeft b ring).length then u.segOut (le b 4 1) (s.segIn b level ring src) .segQueueFull
      else u.setAx (le b 4 1) { u.ax (le b 4 1) with
        q := insertBy (fun u v => decide (u.start ≤ v.start)) (s.segIn b level ring src) (s.segsLeft b ring) } := by
  unfold State.segCheck at check
  split_ifs at check with bad off faulted owned beyond
  refine ⟨_, ?_, (if_neg bad).trans ((if_neg off).trans ((if_neg faulted).trans ((if_neg owned).trans
    (if_neg beyond))))⟩
  refine foldl_keep (q := fun t => (t.ax (le b 4 1)).q = s.segsLeft b ring) ?replaced fun t e _ kept => ?completed
  case replaced =>
    rw [(State.countN_frame (m := 0x100000100000) rfl (tb_ctlA rfl) ..).ax rfl, State.ax_setAx]
    rfl
  case completed =>
    split
    · rw [(State.complete_frame ..).ax rfl]
      exact kept
    · exact kept

theorem State.segArrive_late (late : s.segLate b = true) : ∃ u, Frame 0x110000101000 s u ∧
    s.segArrive b level ring key ord src = u.segEnd (le b 4 1) (s.segIn b level ring src) .segLate := by
  obtain ⟨_, -, arrives⟩ := State.segArrive_checked key ord check
  exact ⟨_, ((State.outcome_frame ..).mono rfl).step (State.segCount_frame ..) rfl,
    arrives.trans (if_pos (by simp [late]))⟩

variable (live : s.inReplay = false) (timely : s.segLate b = false)

include live timely

/-- A segment that passes every check joins the queue in order of start. -/
theorem State.segArrive_joins (room : (s.segsLeft b ring).length < 64) :
    ((s.segArrive b level ring key ord src).ax (le b 4 1)).q =
      insertBy (fun u v => decide (u.start ≤ v.start)) (s.segIn b level ring src) (s.segsLeft b ring) := by
  obtain ⟨u, -, arrives⟩ := State.segArrive_checked key ord check
  rw [arrives, if_neg (by simp [live, timely]), if_neg (by omega), State.ax_setAx]

/-- A segment that finds 64 others in the queue is refused. -/
theorem State.segArrive_full (full : 64 ≤ (s.segsLeft b ring).length) :
    ∃ u : State, (u.ax (le b 4 1)).q = s.segsLeft b ring ∧
    s.segArrive b level ring key ord src = u.segOut (le b 4 1) (s.segIn b level ring src) .segQueueFull := by
  obtain ⟨u, left, arrives⟩ := State.segArrive_checked key ord check
  exact ⟨u, left, arrives.trans ((if_neg (by simp [live, timely])).trans (if_pos full))⟩

end Arrives

/-! ### JOB_SEGMENT_ARRIVAL (R261) -/

/-- A job that has written one more segment record. -/
def Job.withSeg (b : Bytes) (j : Job) : Job := { j with segs := j.segs ++ b }

/-- Whom the segments of job `id` tell of their end; a silent job's tell none. -/
def Job.segSrc (id : Nat) (j : Job) : SegSrc := .job id j.tag (if j.silent then 0 else j.op)

/-- The record is kept in the job before the segment arrives, at master level 1 on the job's ring. -/
theorem exec_jobSegmentArrival {s : State} {id : Nat} {j : Job} (hj : s.job id = some j) (classS : j.classC = false)
    (running : j.phase = .running) (b : Bytes) : exec (.jobSegmentArrival id b) s =
      .next ((s.updJob id (Job.withSeg (fitTo 32 b))).segArrive (fitTo 32 b) 1 j.ring j.key (j.segs.length / 32)
        (j.segSrc id)) := by
  change execJobSegmentArrival id b s = _
  unfold execJobSegmentArrival
  rw [hj]
  exact congrArg _ (if_neg (by simp [classS, running]))

/-- Settles O43: recording the segment changes the job alone, and its arrival no job. -/
theorem jobSegments : Obligations.JobSegments := by
  intro s id j b' hj classS running b x c now start g left
  let v := s.updJob id (Job.withSeg b)
  have kept : Frame 0x10000 s v := State.updJob_frame ..
  have seg : v.segIn b 1 j.ring (j.segSrc id) = g := kept.segIn rfl rfl ..
  have check : v.segCheck b 1 (v.segIn b 1 j.ring (j.segSrc id)) = s.segCheck b 1 g :=
    (congrArg _ seg).trans (kept.segCheck rfl b 1 g)
  have refused : ∀ {st}, s.segCheck b 1 g = some st →
      (v.segArrive b 1 j.ring j.key (j.segs.length / 32) (j.segSrc id)).axes = s.axes := fun failed => by
    obtain ⟨u, counted, ends⟩ := State.segArrive_refused j.key (j.segs.length / 32) (check.trans failed)
    rw [ends, (State.segEnd_frame ..).axes rfl, counted.axes rfl, kept.axes rfl]
  refine ⟨_, exec_jobSegmentArrival hj classS running b', ?recorded, ?bad, ?stopped, ?joins⟩
  case recorded =>
    rw [(State.segArrive_frame ..).job rfl, State.job_updJob hj rfl]
    rfl
  case bad => exact fun bad => refused (State.segCheck_bad bad)
  case stopped =>
    rintro good (off | stopped)
    · exact refused (State.segCheck_disabled good off)
    · exact refused (State.segCheck_faulted good stopped)
  case joins =>
    intro good on sound free inside ahead live room
    have timely : v.segLate b = false := by
      rw [kept.segLate rfl rfl, ← Bool.not_eq_true, State.segLate_eq_true_iff]
      rintro ⟨timed, late⟩
      rcases ahead with now | ahead
      · exact absurd (now.symm.trans timed) (by decide)
      · exact absurd late (Int.not_lt.mpr ahead)
    have left' : v.segsLeft b j.ring = left := kept.segsLeft rfl rfl rfl ..
    rw [State.segArrive_joins j.key _ (check.trans (State.segCheck_none good on sound free inside)) live timely
      (by rwa [left']), seg, left']

end Sys2Proof.Machine

/-!
ENABLE, DISABLE and SEGMENT (11_control_engine.md: R258 to R266): which wait each command enters or ends, what is left
of an axis whose segments are cut, and how the segment of a descriptor ends.
-/

namespace Sys2Proof.Machine

open Sys2Proof

/-! ### State and owner beside the registers that a cut segment counts in -/

theorem State.axState_setAxState (s : State) (a n : Nat) : (s.setAxState a n).axState a = n % 8 :=
  State.fld_put_self _ _ _ (by decide) (by decide)

theorem State.owner_setAxState (s : State) (a n : Nat) : (s.setAxState a n).owner a = s.owner a :=
  State.owner_congr (State.rd_put_ne _ _ _ _ (ctlA_ne_ctlA a (by decide)))

theorem Frame.locked {m : Nat} {s t : State} (h : Frame m s t) (b : touches m 42 = false) : t.locked = s.locked :=
  State.flag_congr (h.blk _ (by rwa [blk_timA _ (by decide)])) 0

/-- A cut segment is counted apart from the state and the owner (R266). -/
theorem State.segOut_cut_rd (s : State) (a : Nat) (g : Seg) {o : Nat} (h : 0x128 ≠ o % 0x100000) :
    (s.segOut a g .segCut).rd (ctlA a o) = s.rd (ctlA a o) :=
  ((State.segEnd_frame ..).rd_ctlA rfl a o).trans (State.rd_count_ne s (ctlA_ne_ctlA a h))

theorem State.cutAll_rd (s : State) (a : Nat) {o : Nat} (h : 0x128 ≠ o % 0x100000) :
    (s.cutAll a).rd (ctlA a o) = s.rd (ctlA a o) :=
  foldl_keep (q := fun t => t.rd (ctlA a o) = s.rd (ctlA a o)) rfl fun t g _ same => (t.segOut_cut_rd a g h).trans same

theorem State.cutAll_ax (s : State) (a : Nat) : (s.cutAll a).ax a = { s.ax a with q := [], cur := none } :=
  foldl_keep (q := fun t => t.ax a = { s.ax a with q := [], cur := none }) (State.ax_setAx ..) fun _ _ _ same =>
    ((State.segOut_frame ..).ax rfl a).trans same

theorem State.cutAll_owner (s : State) (a : Nat) : (s.cutAll a).owner a = s.owner a :=
  State.owner_congr (s.cutAll_rd a (by decide))

theorem State.endOwner_owner {s : State} {a : Nat} (other : ∀ o, s.owner a = some o → o.1 ≠ 2) :
    (s.endOwner a).owner a = none := by
  unfold State.endOwner
  split
  case h_1 held => exact absurd rfl (other _ held)
  case h_2 => exact s.noOwner_owner a

/-! ### An axis becomes DISABLED (R260) -/

theorem State.completes_frame (s : State) (st : Status) (l : List (Nat × Nat)) :
    Frame 0x6020000108084 s (l.foldl (fun s w => s.complete w.1 w.2 st) s) :=
  Frame.foldl (.refl _ _) fun _ _ h => h.step (State.complete_frame ..) rfl

/-- The waiting DISABLE descriptors complete last, on an axis that is DISABLED and cut. -/
theorem State.disableNow_eq (s : State) (a : Nat) : ∃ u : State, u.axState a = 0 ∧
    ((∀ o, s.owner a = some o → o.1 ≠ 2) → u.owner a = none) ∧
    s.disableNow a = (s.ax a).disWait.foldl (fun s w => s.complete w.1 w.2 .success) u := by
  unfold State.disableNow
  extract_lets cut x idle
  have waits : x.disWait = (s.ax a).disWait := by
    unfold x cut
    rw [(State.endOwner_frame ..).ax rfl, State.cutAll_ax]
  rw [waits]
  refine ⟨idle.setAxState a 0, State.axState_setAxState .., fun other => ?_, rfl⟩
  rw [State.owner_setAxState]
  exact State.endOwner_owner (by rwa [State.cutAll_owner])

/-! ### ENABLE (R259) -/

/-- The feedback source, the command target and the limits of axis `a` are set. -/
def State.enableReady (s : State) (a : Nat) : Prop :=
  s.fld (ctlA a 4) 31 30 ≠ 0 ∧ s.fld (ctlA a 0x18) 31 30 ≠ 0 ∧ flt f0 (s.fr a 0x40) = true ∧
    flt f0 (s.fr a 0x44) = true ∧ flt f0 (s.fr a 0x48) = true

theorem Frame.enableReady {m : Nat} {s t : State} (h : Frame m s t) (b : touches m 44 = false) (a : Nat) :
    t.enableReady a = s.enableReady a := by
  unfold State.enableReady State.fr State.fld
  simp only [h.rd_ctlA b]

section Enable

variable {s : State} (r : Nat) {a : Nat} (n : Nat)

theorem State.enableCmd_on (on : s.axState a ≠ 0) : s.enableCmd r a n = s.complete r n .axisFaulted :=
  (if_pos on).trans (congrArg _ (if_neg on))

variable (off : s.axState a = 0)

include off

theorem State.enableCmd_joins (waits : (s.ax a).enWait ≠ []) :
    s.enableCmd r a n = s.setAx a { s.ax a with enWait := (s.ax a).enWait ++ [(r, n)] } :=
  (if_neg (not_not_intro off)).trans (if_pos (by simp [waits]))

variable (first : (s.ax a).enWait = [])

include first

theorem State.enableCmd_unlocked (unlocked : s.locked = false) :
    s.enableCmd r a n = s.complete r n .tickUnlocked :=
  (if_neg (not_not_intro off)).trans ((if_neg (by simp [first])).trans (if_pos (by simp [unlocked])))

variable (locked : s.locked = true)

include locked

theorem State.enableCmd_unready (unready : ¬s.enableReady a) : s.enableCmd r a n = s.complete r n .ctlCfgInvalid := by
  refine (if_neg (not_not_intro off)).trans ((if_neg (by simp [first])).trans ((if_neg (by simp [locked])).trans
    (if_pos ?_)))
  by_contra set
  exact unready (by simpa [State.enableReady, and_assoc] using set)

theorem State.enableCmd_waits (ready : s.enableReady a) :
    s.enableCmd r a n = s.setAx a { s.ax a with enWait := [(r, n)], enWins := 0, fb := [] } := by
  obtain ⟨source, target, v, acc, jerk⟩ := ready
  exact (if_neg (not_not_intro off)).trans ((if_neg (by simp [first])).trans ((if_neg (by simp [locked])).trans
    (if_neg (by simp [source, target, v, acc, jerk]))))

end Enable

/-! ### DISABLE (R260) -/

/-- One more DISABLE descriptor waits on axis `a`. -/
def State.disWaits (s : State) (r a n : Nat) : State :=
  s.setAx a { s.ax a with disWait := (s.ax a).disWait ++ [(r, n)] }

theorem State.disWaits_ax (s : State) (r a n : Nat) :
    (s.disWaits r a n).ax a = { s.ax a with disWait := (s.ax a).disWait ++ [(r, n)] } :=
  State.ax_setAx ..

section Disable

variable {s : State} (r : Nat) {a : Nat} (n : Nat)

theorem State.disableCmd_idle (off : s.axState a = 0) (none : (s.ax a).enWait = []) :
    s.disableCmd r a n = s.complete r n .axisDisabled :=
  (if_pos off).trans (if_pos (by simp [none]))

/-- A waiting ENABLE is given up. -/
theorem State.disableCmd_waiting (off : s.axState a = 0) (waits : (s.ax a).enWait ≠ []) :
    ∃ u : State, (u.ax a).enWait = [] ∧ s.disableCmd r a n = u.complete r n .success := by
  refine ⟨_, ?_, (if_pos off).trans (if_neg (by simp [waits]))⟩
  rw [(State.completes_frame ..).ax rfl, State.ax_setAx]

theorem State.disableCmd_hold (hold : s.axState a = 1) : s.disableCmd r a n = s.disWaits r a n :=
  (if_neg (by omega)).trans ((if_neg (by simp [hold])).trans (if_pos hold))

theorem State.disableCmd_moving (moving : s.axState a = 2 ∨ s.axState a = 3) :
    s.disableCmd r a n = ((s.disWaits r a n).cutAll a).setAxState a 3 :=
  (if_neg (by omega)).trans ((if_neg (by rcases moving with h | h <;> simp [h])).trans (if_neg (by omega)))

theorem State.disableCmd_stopped (stopped : s.axState a = 4 ∨ s.axState a = 5) :
    s.disableCmd r a n = (s.disWaits r a n).disableNow a :=
  (if_neg (by omega)).trans (if_pos (by simpa using stopped))

/-- In SAFE_STOP or FAULT the axis becomes DISABLED at once, and only an installer keeps it (R260, R265). -/
theorem State.disableCmd_disables (stopped : s.axState a = 4 ∨ s.axState a = 5) :
    let t := s.disableCmd r a n
    t.axState a = 0 ∧ t.desc r n = none ∧ ((∀ o, s.owner a = some o → o.1 ≠ 2) → t.owner a = none) := by
  obtain ⟨u, off, free, gone⟩ := (s.disWaits r a n).disableNow_eq a
  have completed := u.completes_frame .success ((s.disWaits r a n).ax a).disWait
  have waits : (r, n) ∈ ((s.disWaits r a n).ax a).disWait := by
    rw [State.disWaits_ax]
    simp
  have owner : (s.disWaits r a n).owner a = s.owner a := (State.setAx_frame ..).owner rfl a
  rw [owner] at free
  rw [State.disableCmd_stopped r n stopped, gone]
  exact ⟨(completed.axState rfl a).trans off, State.completes_desc_of_mem waits u,
    fun other => (completed.owner rfl a).trans (free other)⟩

end Disable

/-! ### SEGMENT -/

/-- The shift log writes no register from GLB_REPLAY on. -/
theorem State.slogAdd_rd_above (s : State) (type flags source stamp uncert : Nat) (payload : Bytes) {a : Nat}
    (h : 0x320 ≤ a) : (s.slogAdd type flags source stamp uncert payload).rd a = s.rd a := by
  have push : ∀ (t : State) (x : LogRec), (t.slogPush x).rd a = t.rd a := fun t x => by
    unfold State.slogPush State.wr64
    rw [State.rd_wr_ne _ _ (by omega), State.rd_wr_ne _ _ (by omega)]
    rfl
  unfold State.slogAdd
  extract_lets
  split_ifs
  · rw [push, State.rd_event_ne _ _ (by omega) (by omega)]
    rfl
  · exact push _ _
  · rfl
  · exact push _ _
  · rw [State.rd_put_ne _ _ _ _ (by omega), State.rd_put_ne _ _ _ _ (by omega), push]
  · rfl
  · rfl

/-- Starting and logging a descriptor leaves replay mode. -/
theorem State.asked_inReplay (s : State) (r : Nat) (d : Inflight) (level : Nat) (b : Bytes) :
    (s.asked r d level b).inReplay = s.inReplay :=
  State.inReplay_congr (foldl_keep (q := fun t => t.rd 0x330 = s.rd 0x330) rfl fun t _ _ same =>
    (t.slogAdd_rd_above _ _ _ _ _ _ (by decide)).trans same)

/-- The segment record of a SEGMENT descriptor (Table 14-4). -/
def Inflight.segment (d : Inflight) : Bytes := slice d.bytes 16 32

/-- The state after the segment of descriptor `d` arrived, on the level of its ring's role. -/
def State.segTried (s : State) (r : Nat) (d : Inflight) : State :=
  (s.asked r d (s.level r) []).segArrive d.segment (s.level r) r s.slog.seq 0 (.desc d.num)

section Segment

variable {s : State} {r : Nat} {d : Inflight} (h : Starts s r 0x21 d)

include h

theorem exec_segment : exec (.segment r) s = .next (s.segTried r d) := h.guard _

/-- The segment of a descriptor that is counted and logged, and then refused. -/
theorem Starts.segRefused {u : State} (f : Frame 0x110000101000 (s.asked r d (s.level r) []) u) (a : Nat) {g : Seg}
    (own : g.ring = r) (src : g.src = .desc d.num) (st : Status) :
    Completed s (u.segEnd a g st) r d st 0 0 s.now32 ∧ (u.segEnd a g st).axes = s.axes := by
  have ends : u.segEnd a g st = u.complete r d.num st := by
    unfold State.segEnd
    rw [src, own]
  rw [ends]
  exact ⟨h.completes_asked (f.mono rfl) st,
    ((State.complete_frame ..).axes rfl).trans ((f.axes rfl).trans ((s.asked_frame ..).axes rfl))⟩

end Segment

section Tried

variable {s : State} {r : Nat} {d : Inflight}

/-- The log entry leaves what the checks read. -/
theorem State.asked_segCheck (s : State) (r : Nat) (d : Inflight) :
    (s.asked r d (s.level r) []).segCheck d.segment (s.level r)
      ((s.asked r d (s.level r) []).segIn d.segment (s.level r) r (.desc d.num)) =
    s.segCheck d.segment (s.level r) (s.segIn d.segment (s.level r) r (.desc d.num)) := by
  have kept := s.asked_frame r d (s.level r) []
  rw [kept.segIn rfl rfl, kept.segCheck rfl]

theorem Starts.segTried_refused (h : Starts s r 0x21 d) {st : Status}
    (failed : s.segCheck d.segment (s.level r) (s.segIn d.segment (s.level r) r (.desc d.num)) = some st) :
    Completed s (s.segTried r d) r d st 0 0 s.now32 ∧ (s.segTried r d).axes = s.axes := by
  obtain ⟨u, counted, ends⟩ := State.segArrive_refused s.slog.seq 0 ((s.asked_segCheck r d).trans failed)
  rw [State.segTried, ends]
  exact h.segRefused counted _ rfl rfl st

variable (passed : s.segCheck d.segment (s.level r) (s.segIn d.segment (s.level r) r (.desc d.num)) = none)

include passed

theorem Starts.segTried_late (h : Starts s r 0x21 d) (late : s.segLate d.segment = true) :
    Completed s (s.segTried r d) r d .segLate 0 0 s.now32 ∧ (s.segTried r d).axes = s.axes := by
  obtain ⟨u, counted, ends⟩ := State.segArrive_late s.slog.seq 0 ((s.asked_segCheck r d).trans passed)
    (((s.asked_frame ..).segLate rfl rfl _).trans late)
  rw [State.segTried, ends]
  exact h.segRefused counted _ rfl rfl _

variable (live : s.inReplay = false) (timely : s.segLate d.segment = false)

include live timely

theorem State.segTried_joins (room : (s.segsLeft d.segment r).length < 64) :
    ((s.segTried r d).ax (le d.segment 4 1)).q = insertBy (fun u v => decide (u.start ≤ v.start))
      (s.segIn d.segment (s.level r) r (.desc d.num)) (s.segsLeft d.segment r) := by
  have kept := s.asked_frame r d (s.level r) []
  rw [State.segTried, State.segArrive_joins s.slog.seq 0 ((s.asked_segCheck r d).trans passed)
    ((s.asked_inReplay ..).trans live) ((kept.segLate rfl rfl _).trans timely)
    (by rwa [kept.segsLeft rfl rfl rfl]), kept.segIn rfl rfl, kept.segsLeft rfl rfl rfl]

theorem State.segTried_full (full : 64 ≤ (s.segsLeft d.segment r).length) :
    (s.segTried r d).desc r d.num = none ∧
      ((s.segTried r d).ax (le d.segment 4 1)).q = s.segsLeft d.segment r := by
  have kept := s.asked_frame r d (s.level r) []
  obtain ⟨u, rest, ends⟩ := State.segArrive_full s.slog.seq 0 ((s.asked_segCheck r d).trans passed)
    ((s.asked_inReplay ..).trans live) ((kept.segLate rfl rfl _).trans timely)
    (by rwa [kept.segsLeft rfl rfl rfl])
  rw [State.segTried, ends, (State.segOut_frame ..).ax rfl, rest, kept.segsLeft rfl rfl rfl]
  exact ⟨State.complete_desc .., rfl⟩

end Tried

/-- Settles O25: every command acts on the state that its log entry leaves, in which the axis is as before. -/
theorem axisCommands : Obligations.AxisCommands := by
  intro s r d a
  have asked := s.asked_frame r d 0 []
  have state := asked.axState rfl a
  have ax := asked.ax rfl a
  refine ⟨?enable, ?disable, ?segment⟩
  case enable =>
    intro h hc _ ready
    have locked := asked.locked rfl
    have set : (s.asked r d 0 []).enableReady a = ready := asked.enableReady rfl a
    refine ⟨_, h.withCmd hc _, fun off first lock set' => ?_, fun off first unlocked => ?_,
      fun off first lock unset => ?_, fun off waits => ?_, fun on => ?_⟩
    · rw [State.enableCmd_waits r d.num (state.trans off) (by rw [ax, first]) (locked.trans lock) (by rwa [set])]
      exact ⟨by rw [State.ax_setAx], ((State.setAx_frame ..).axState rfl a).trans (state.trans off),
        ((State.setAx_frame ..).desc rfl ..).trans (h.asked_desc 0 [])⟩
    · rw [State.enableCmd_unlocked r d.num (state.trans off) (by rw [ax, first]) (locked.trans unlocked)]
      exact h.refuses_asked 0 [] _
    · rw [State.enableCmd_unready r d.num (state.trans off) (by rw [ax, first]) (locked.trans lock) (by rwa [set])]
      exact h.refuses_asked 0 [] _
    · rw [State.enableCmd_joins r d.num (state.trans off) (by rwa [ax]), State.ax_setAx, ax]
    · rw [State.enableCmd_on r d.num (by rwa [state])]
      exact h.refuses_asked 0 [] _
  case disable =>
    intro h hc _
    refine ⟨_, h.withCmd hc _, fun off none => ?_, fun off waits => ?_, fun hold => ?_, fun moving => ?_,
      fun stopped => ?_⟩
    · rw [State.disableCmd_idle r d.num (state.trans off) (by rw [ax, none])]
      exact h.refuses_asked 0 [] _
    · obtain ⟨u, given, gone⟩ := State.disableCmd_waiting r d.num (state.trans off) (by rwa [ax])
      rw [gone, (State.complete_frame ..).ax rfl]
      exact ⟨given, State.complete_desc ..⟩
    · rw [State.disableCmd_hold r d.num (state.trans hold), State.disWaits_ax, ax]
      exact ⟨((State.setAx_frame ..).axState rfl a).trans (state.trans hold), rfl⟩
    · rw [State.disableCmd_moving r d.num (by rwa [state])]
      refine ⟨State.axState_setAxState .., ?_⟩
      rw [(State.setAxState_frame ..).ax rfl, State.cutAll_ax]
      exact ⟨rfl, rfl⟩
    · obtain ⟨off, gone, free⟩ := State.disableCmd_disables r d.num (s := s.asked r d 0 []) (by rwa [state])
      exact ⟨off, gone, fun other => free (by rwa [asked.owner rfl])⟩
  case segment =>
    intro h b x c now start g owns inRange late left
    have takes : segBad b g = false → 1 ≤ s.axState x → s.axState x ≤ 3 → owns → inRange →
        s.segCheck b (s.level r) g = none := State.segCheck_none
    have isLate : s.segLate b = true ↔ late := State.segLate_eq_true_iff
    have inTime : ¬late → s.segLate b = false := fun timely => by rwa [← Bool.not_eq_true, isLate]
    refine ⟨_, exec_segment h, fun bad => ?_, fun good off => ?_, fun good stopped => ?_,
      fun good on sound owned => ?_, fun good on sound free beyond => ?_, fun good on sound free inside late _ => ?_,
      fun good on sound free inside timely live room => ?_, fun good on sound free inside timely live full => ?_⟩
    · exact (h.segTried_refused (State.segCheck_bad bad)).1
    · exact (h.segTried_refused (State.segCheck_disabled good off)).1
    · exact (h.segTried_refused (State.segCheck_faulted good stopped)).1
    · exact h.segTried_refused (State.segCheck_owned good on sound owned)
    · exact h.segTried_refused (State.segCheck_beyond good on sound free beyond)
    · exact h.segTried_late (takes good on sound free inside) (isLate.mpr late)
    · exact State.segTried_joins (takes good on sound free inside) live (inTime timely) room
    · exact State.segTried_full (takes good on sound free inside) live (inTime timely) full

end Sys2Proof.Machine

/-!
Operations on a CAN controller (12_can_fd.md: R283 to R296): what each of them keeps of the registers, the outputs and
the descriptors, and what of the controller beside its transmit queue and buffers.
-/

namespace Sys2Proof.Machine

open Sys2Proof

/-! ### Registers of a controller -/

theorem canA_ne_canA (c : Nat) {o q : Nat} (h : o % 0x100000 ≠ q % 0x100000) : canA c o ≠ canA c q := by
  unfold canA
  omega

theorem Frame.rd_canA {m : Nat} {s t : State} (h : Frame m s t) (b : touches m 45 = false) (c o : Nat) :
    t.rd (canA c o) = s.rd (canA c o) :=
  h.blk _ (by rwa [blk_canA])

theorem State.event_cn (s : State) (a i k c : Nat) : (s.event a i k).cn c = s.cn c := by
  unfold State.cn
  rw [State.event_can]

theorem State.canMode_congr {s t : State} {c : Nat} (fin : (t.cn c).fin = (s.cn c).fin)
    (cfg : t.rd (canA c 0) = s.rd (canA c 0)) : t.canMode c = s.canMode c := by
  unfold State.canMode
  rw [fin, State.fld_congr cfg]

theorem State.canSends_congr {s t : State} {c : Nat} (fin : (t.cn c).fin = (s.cn c).fin)
    (cfg : t.rd (canA c 0) = s.rd (canA c 0)) (state : t.canState c = s.canState c) :
    t.canSends c = s.canSends c := by
  unfold State.canSends
  rw [fin, State.canMode_congr fin cfg, state]

theorem State.canState_setCanState (s : State) (c n : Nat) : (s.setCanState c n).canState c = n % 8 :=
  State.fld_put_self _ _ _ (by decide) (by decide)

theorem State.canState_event (s : State) (c : Nat) {i k : Nat} (hi : 3 ≤ i) (h32 : i < 32)
    (hk : 0x40 ≠ k % 0x100000) : (s.event (canA c 0x40) i (canA c k)).canState c = s.canState c :=
  State.fld_event_beside _ (canA_ne_canA c hk) h32 (.inl hi) (by decide)

/-- A field inside one that is cleared reads 0. -/
theorem State.fld_put_zero (s : State) (a : Nat) {hi lo hi' lo' : Nat} (h : lo ≤ lo') (h' : hi' ≤ hi)
    (d : lo' ≤ hi') (h32 : hi < 32) : (s.put a hi lo 0).fld a hi' lo' = 0 := by
  apply Nat.eq_of_testBit_eq
  intro i
  unfold State.fld
  rw [State.rd_put_self, testBit_bits, testBit_putBits (by omega) h32, Nat.zero_testBit]
  by_cases inside : i < hi' - lo' + 1
  · rw [if_pos (by omega), Nat.zero_testBit, Bool.and_false]
  · simp [inside]

/-! ### What an operation keeps -/

/-- Of the registers of controller `c` only those at the offsets `w` differ, and in CAN_STAT no flag is lost and the
last error stays; outputs stay, and no descriptor comes into flight. -/
structure State.CanKeeps (c : Nat) (w : List Nat) (s t : State) : Prop where
  rd : ∀ o < 0x1000, o ∉ w → t.rd (canA c o) = s.rd (canA c o)
  stat : ∀ i, 3 ≤ i → s.flag (canA c 0x40) i = true → t.flag (canA c 0x40) i = true
  lec : t.fld (canA c 0x40) 27 25 = s.fld (canA c 0x40) 27 25
  out : s.out ⊆ t.out
  desc : ∀ r n, s.desc r n = none → t.desc r n = none

section Keeps

variable {c : Nat} {w w' : List Nat} {s t u : State}

theorem State.CanKeeps.refl (c : Nat) (w : List Nat) (s : State) : State.CanKeeps c w s s :=
  ⟨fun _ _ _ => rfl, fun _ _ h => h, rfl, List.Subset.refl _, fun _ _ h => h⟩

/-- One more operation. -/
theorem State.CanKeeps.step (h : State.CanKeeps c w s t) (k : State.CanKeeps c w' t u) (hw : w' ⊆ w) :
    State.CanKeeps c w s u where
  rd := fun o ho hn => (k.rd o ho fun m => hn (hw m)).trans (h.rd o ho hn)
  stat := fun i hi set => k.stat i hi (h.stat i hi set)
  lec := k.lec.trans h.lec
  out := fun _ m => k.out (h.out m)
  desc := fun r n none => k.desc r n (h.desc r n none)

/-- An operation that leaves the controllers' registers, the outputs and the descriptors alone. -/
theorem Frame.canKeeps {m : Nat} (f : Frame m s t) (b45 : touches m 45 = false) (b2 : touches m 2 = false)
    (b7 : touches m 7 = false) (c : Nat) (w : List Nat) : State.CanKeeps c w s t where
  rd := fun o _ _ => f.rd_canA b45 c o
  stat := fun i _ set => (State.flag_congr (f.rd_canA b45 c _) i).trans set
  lec := State.fld_congr (f.rd_canA b45 c _) ..
  out := by
    rw [f.out b2]
    exact List.Subset.refl _
  desc := fun r n none => (f.desc b7 r n).trans none

/-- A write to a register outside CAN_STAT. -/
theorem State.wr_canKeeps (s : State) (c : Nat) {k : Nat} (hk : k < 0x1000) (h40 : 0x40 ≠ k) (v : Word) :
    State.CanKeeps c [k] s (s.wr (canA c k) v) where
  rd := fun o ho hn => s.rd_wr_ne v (canA_ne_canA c (by
    have : o ≠ k := by simpa using hn
    omega))
  stat := fun i _ set => (s.flag_wr_ne v i (canA_ne_canA c (by omega))).trans set
  lec := State.fld_congr (s.rd_wr_ne v (canA_ne_canA c (by omega))) ..
  out := List.Subset.refl _
  desc := fun _ _ none => none

theorem State.setCanState_canKeeps (s : State) (c n : Nat) : State.CanKeeps c [0x40] s (s.setCanState c n) where
  rd := fun o ho hn => s.rd_put_ne _ _ _ (canA_ne_canA c (by
    have : o ≠ 0x40 := by simpa using hn
    omega))
  stat := fun _ hi set => (s.flag_put_beside _ n (by decide) (by decide) (.inr hi)).trans set
  lec := s.fld_put_beside _ n (by decide) (by decide) (.inr (by decide)) (by decide)
  out := List.Subset.refl _
  desc := fun _ _ none => none

theorem State.raise_canKeeps (s : State) (c : Nat) {i : Nat} (hi : i < 25) :
    State.CanKeeps c [0x40] s (s.raise (canA c 0x40) i) where
  rd := fun o ho hn => s.rd_raise_ne _ (canA_ne_canA c (by
    have : o ≠ 0x40 := by simpa using hn
    omega))
  stat := fun j _ set => by
    by_cases e : i = j
    · subst e
      exact s.flag_raise_self _ (by omega)
    · exact (s.flag_raise_ne _ (by omega) e).trans set
  lec := s.fld_put_beside _ 1 (Nat.le_refl i) (by omega) (.inr hi) (by decide)
  out := List.Subset.refl _
  desc := fun _ _ none => none

theorem State.event_canKeeps (s : State) (c : Nat) {i k : Nat} (hi : i < 25) (hk : k < 0x1000) (h40 : 0x40 ≠ k) :
    State.CanKeeps c [0x40, k] s (s.event (canA c 0x40) i (canA c k)) :=
  ((State.CanKeeps.refl ..).step (s.raise_canKeeps c hi) (by simp)).step (State.wr_canKeeps _ c hk h40 _) (by simp)

theorem State.setCn_canKeeps (s : State) (c : Nat) (w : List Nat) (x : Can) : State.CanKeeps c w s (s.setCn c x) :=
  (s.setCn_frame c x).canKeeps rfl rfl rfl c w

theorem State.completeAt_canKeeps (s : State) (c : Nat) (w : List Nat) (r n : Nat) (st : Status)
    (result info time : Nat) : State.CanKeeps c w s (s.completeAt r n st result info time) where
  rd := fun o _ _ => (s.completeAt_frame r n st result info time).rd_canA rfl c o
  stat := fun i _ set =>
    (State.flag_congr ((s.completeAt_frame r n st result info time).rd_canA rfl c _) i).trans set
  lec := State.fld_congr ((s.completeAt_frame r n st result info time).rd_canA rfl c _) ..
  out := s.completeAt_out ..
  desc := fun _ _ none => State.completeAt_desc_none none ..

end Keeps

/-! ### Frames that leave a controller -/

theorem State.canAbort_canKeeps (s : State) (c : Nat) (st : Status) (e : CanTxE) :
    State.CanKeeps c [0x40, 0x5C] s (s.canAbort c st e) := by
  have counted := s.event_canKeeps c (i := 10) (k := 0x5C) (by decide) (by decide) (by decide)
  unfold State.canAbort
  split
  · exact State.CanKeeps.refl ..
  · exact counted
  · exact counted.step (State.completeAt_canKeeps _ c [] ..) (List.nil_subset _)

theorem State.canAbort_canState (s : State) (c : Nat) (st : Status) (e : CanTxE) :
    (s.canAbort c st e).canState c = s.canState c := by
  have counted := s.canState_event c (i := 10) (k := 0x5C) (by decide) (by decide) (by decide)
  unfold State.canAbort
  split
  · rfl
  · exact counted
  · exact (State.fld_congr ((State.completeAt_frame ..).rd_canA rfl c _) ..).trans counted

/-- An aborted host frame completes (R288, R296). -/
theorem State.canAbort_desc {e : CanTxE} {r n : Nat} (host : e.src = .host r n) (s : State) (c : Nat) (st : Status) :
    (s.canAbort c st e).desc r n = none := by
  unfold State.canAbort
  rw [host]
  exact State.complete_desc ..

theorem State.canFlush_canKeeps (s : State) (c : Nat) (st : Status) (keep : Option Nat) :
    State.CanKeeps c [0x40, 0x5C] s (s.canFlush c st keep) :=
  foldl_keep (q := fun u => State.CanKeeps c [0x40, 0x5C] s u) (s.setCn_canKeeps ..)
    fun u e _ h => h.step (u.canAbort_canKeeps c st e) (List.Subset.refl _)

theorem State.canFlush_canState (s : State) (c : Nat) (st : Status) (keep : Option Nat) :
    (s.canFlush c st keep).canState c = s.canState c :=
  foldl_keep (q := fun u => u.canState c = s.canState c) rfl
    fun u e _ h => (u.canAbort_canState c st e).trans h

theorem State.canFlush_cn (s : State) (c : Nat) (st : Status) (keep : Option Nat) :
    ∃ buf, (s.canFlush c st keep).cn c = { s.cn c with q := [], buf := buf, safeWait := false } := by
  unfold State.canFlush
  extract_lets x leaving buf
  exact ⟨buf, foldl_keep (q := fun u => u.cn c = { s.cn c with q := [], buf := buf, safeWait := false })
    (s.cn_setCn ..) fun u e _ h => ((u.canAbort_frame c st e).cn rfl c).trans h⟩

/-! ### What transmission does not touch of a controller -/

/-- The received frames, and the mode of the frame that is finished. -/
def Can.rx (x : Can) : List CanFrame × Option Nat := (x.fifo, x.fin)

theorem Can.rx_fifo {x y : Can} (h : y.rx = x.rx) : y.fifo = x.fifo := congrArg (·.1) h

theorem Can.rx_fin {x y : Can} (h : y.rx = x.rx) : y.fin = x.fin := congrArg (·.2) h

theorem State.setCn_rx (s : State) (c : Nat) {x : Can} (h : x.rx = (s.cn c).rx) :
    ((s.setCn c x).cn c).rx = (s.cn c).rx := by
  rw [State.cn_setCn, h]

theorem State.safeLoad_rx (s : State) (c : Nat) : ((s.safeLoad c).cn c).rx = (s.cn c).rx := by
  unfold State.safeLoad
  extract_lets x e
  split
  · exact s.setCn_rx c rfl
  · rfl

theorem State.loadOne_rx (s : State) (c : Nat) : ((s.loadOne c).cn c).rx = (s.cn c).rx := by
  unfold State.loadOne
  extract_lets x
  split
  · rfl
  · split
    · rfl
    · exact s.setCn_rx c rfl

theorem State.canLoad_rx (s : State) (c : Nat) : ((s.canLoad c).cn c).rx = (s.cn c).rx := by
  unfold State.canLoad
  split
  · rw [State.loadOne_rx, State.loadOne_rx, State.loadOne_rx, State.safeLoad_rx]
  · rfl

theorem State.canLoad_canKeeps (s : State) (c : Nat) (w : List Nat) : State.CanKeeps c w s (s.canLoad c) :=
  (s.canLoad_frame c).canKeeps rfl rfl rfl c w

theorem State.compact_rx (s : State) (c : Nat) : ((s.compact c).cn c).rx = (s.cn c).rx := by
  unfold State.compact
  extract_lets x rest fixed
  split
  · exact s.setCn_rx c rfl
  · rfl

theorem State.unbuf_rx (s : State) (c b : Nat) : ((s.unbuf c b).cn c).rx = (s.cn c).rx :=
  (State.compact_rx ..).trans (s.setCn_rx c rfl)

theorem State.unbuf_canKeeps (s : State) (c b : Nat) (w : List Nat) : State.CanKeeps c w s (s.unbuf c b) :=
  (s.unbuf_frame c b).canKeeps rfl rfl rfl c w

theorem State.tdcSet_canKeeps (s : State) (c tdc : Nat) (f : CanFrame) :
    State.CanKeeps c [0xC] s (s.tdcSet c tdc f) := by
  unfold State.tdcSet
  split
  · exact s.wr_canKeeps c (by decide) (by decide) _
  · exact State.CanKeeps.refl ..

/-! ### Fault confinement (R293, R294) -/

/-- Every frame of a controller that goes bus-off leaves. -/
def State.offBus (s : State) (c : Nat) : State :=
  ((s.setCanState c 4).event (canA c 0x40) 5 (canA c 0x48)).canFlush c .canBusOff none

/-- The transmit error counter went beyond 255: recovery begins at once where it is automatic. -/
def State.goBusOff (s : State) (c : Nat) : State :=
  if (s.offBus c).flag (canA c 0) 6 then (s.offBus c).setCanState c 5 else s.offBus c

/-- An error counter went beyond 127. -/
def State.goPassive (s : State) (c : Nat) : State :=
  if s.canState c = 2 then (s.setCanState c 3).event (canA c 0x40) 6 (canA c 0x4C) else s

theorem State.confine_eq (s : State) (c : Nat) : s.confine c =
    if s.canState c ≠ 2 && s.canState c ≠ 3 then s
    else if 255 < s.tec c then s.goBusOff c
    else if 127 < s.tec c || 127 < s.rec' c then s.goPassive c
    else s.setCanState c 2 := rfl

/-- Fault confinement moves the controller into a state, or leaves it. -/
theorem State.confine_cases (s : State) (c : Nat) : s.confine c = s ∨ s.confine c = s.goBusOff c ∨
    s.confine c = s.goPassive c ∨ s.confine c = s.setCanState c 2 := by
  rw [State.confine_eq]
  split
  · exact .inl rfl
  · split
    · exact .inr (.inl rfl)
    · split
      · exact .inr (.inr (.inl rfl))
      · exact .inr (.inr (.inr rfl))

theorem State.offBus_canKeeps (s : State) (c : Nat) : State.CanKeeps c [0x40, 0x48, 0x5C] s (s.offBus c) :=
  (((State.CanKeeps.refl ..).step (s.setCanState_canKeeps c 4) (by simp)).step
    (State.event_canKeeps _ c (by decide) (by decide) (by decide)) (by simp)).step
    (State.canFlush_canKeeps _ c _ _) (by simp)

theorem State.offBus_cn (s : State) (c : Nat) :
    ∃ buf, (s.offBus c).cn c = { s.cn c with q := [], buf := buf, safeWait := false } := by
  obtain ⟨buf, flushed⟩ := ((s.setCanState c 4).event (canA c 0x40) 5 (canA c 0x48)).canFlush_cn c .canBusOff none
  rw [State.event_cn, (s.setCanState_frame c 4).cn rfl] at flushed
  exact ⟨buf, flushed⟩

theorem State.offBus_canState (s : State) (c : Nat) : (s.offBus c).canState c = 4 := by
  unfold State.offBus
  rw [State.canFlush_canState, State.canState_event _ c (by decide) (by decide) (by decide),
    State.canState_setCanState]

theorem State.goBusOff_canKeeps (s : State) (c : Nat) : State.CanKeeps c [0x40, 0x48, 0x5C] s (s.goBusOff c) := by
  unfold State.goBusOff
  split
  · exact (s.offBus_canKeeps c).step (State.setCanState_canKeeps ..) (by simp)
  · exact s.offBus_canKeeps c

theorem State.goBusOff_cn (s : State) (c : Nat) : (s.goBusOff c).cn c = (s.offBus c).cn c := by
  unfold State.goBusOff
  split
  · exact (State.setCanState_frame ..).cn rfl c
  · rfl

theorem State.goBusOff_canState (s : State) (c : Nat) :
    (s.goBusOff c).canState c = if s.flag (canA c 0) 6 then 5 else 4 := by
  unfold State.goBusOff
  rw [State.flag_congr ((s.offBus_canKeeps c).rd 0 (by decide) (by decide))]
  split
  · exact State.canState_setCanState ..
  · exact s.offBus_canState c

theorem State.goPassive_canKeeps (s : State) (c : Nat) : State.CanKeeps c [0x40, 0x4C] s (s.goPassive c) := by
  unfold State.goPassive
  split
  · exact ((State.CanKeeps.refl ..).step (s.setCanState_canKeeps c 3) (by simp)).step
      (State.event_canKeeps _ c (by decide) (by decide) (by decide)) (List.Subset.refl _)
  · exact State.CanKeeps.refl ..

theorem State.goPassive_cn (s : State) (c : Nat) : (s.goPassive c).cn c = s.cn c := by
  unfold State.goPassive
  split
  · exact (State.event_cn ..).trans ((s.setCanState_frame c 3).cn rfl c)
  · rfl

theorem State.goPassive_canState {s : State} {c : Nat} (live : s.canState c = 2 ∨ s.canState c = 3) :
    (s.goPassive c).canState c = 3 := by
  unfold State.goPassive
  split
  · rw [State.canState_event _ c (by decide) (by decide) (by decide), State.canState_setCanState]
  · next other => exact live.resolve_left other

theorem State.confine_canKeeps (s : State) (c : Nat) :
    State.CanKeeps c [0x40, 0x48, 0x4C, 0x5C] s (s.confine c) := by
  obtain e | e | e | e := s.confine_cases c
  all_goals rw [e]
  · exact State.CanKeeps.refl ..
  · exact (State.CanKeeps.refl ..).step (s.goBusOff_canKeeps c) (by simp)
  · exact (State.CanKeeps.refl ..).step (s.goPassive_canKeeps c) (by simp)
  · exact (State.CanKeeps.refl ..).step (s.setCanState_canKeeps c 2) (by simp)

theorem State.confine_rx (s : State) (c : Nat) : ((s.confine c).cn c).rx = (s.cn c).rx := by
  obtain e | e | e | e := s.confine_cases c
  all_goals rw [e]
  · obtain ⟨buf, cn⟩ := s.offBus_cn c
    rw [State.goBusOff_cn, cn]
    rfl
  · rw [State.goPassive_cn]
  · rw [(s.setCanState_frame c 2).cn rfl]

section Confine

variable {s : State} {c : Nat} (live : s.canState c = 2 ∨ s.canState c = 3)

include live

theorem State.confine_busOff (h : 255 < s.tec c) : s.confine c = s.goBusOff c :=
  (s.confine_eq c).trans ((if_neg (by simpa using fun e => live.resolve_left e)).trans (if_pos h))

theorem State.confine_passive (below : s.tec c ≤ 255) (h : 127 < s.tec c ∨ 127 < s.rec' c) :
    s.confine c = s.goPassive c :=
  (s.confine_eq c).trans ((if_neg (by simpa using fun e => live.resolve_left e)).trans
    ((if_neg (by omega)).trans (if_pos (by simpa using h))))

end Confine

/-! ### The frame that is finished (R296) -/

theorem State.canFinish_cn (s : State) (c : Nat) : (s.canFinish c).cn c = { s.cn c with fin := none } := by
  unfold State.canFinish
  split
  · next none => rw [← Option.isNone_iff_eq_none.mp none]
  · rw [(State.canIntegrate_frame ..).cn rfl, State.cn_setCn]

theorem State.canFinish_none {s : State} {c : Nat} (none : (s.cn c).fin = none) : s.canFinish c = s :=
  if_pos (by rw [none]; rfl)

theorem State.canIntegrate_canKeeps (s : State) (c : Nat) :
    State.CanKeeps c [0x40, 0x44] s (s.canIntegrate c) :=
  ((State.CanKeeps.refl ..).step (s.wr_canKeeps c (by decide) (by decide) _) (by simp)).step
    (State.setCanState_canKeeps ..) (by simp)

theorem State.canFinish_canKeeps (s : State) (c : Nat) : State.CanKeeps c [0x40, 0x44] s (s.canFinish c) := by
  unfold State.canFinish
  split
  · exact State.CanKeeps.refl ..
  · exact (s.setCn_canKeeps c _ _).step (State.canIntegrate_canKeeps ..) (List.Subset.refl _)

/-- A controller that integrates anew has its counters at 0. -/
theorem State.canIntegrate_counter (s : State) (c : Nat) {hi lo : Nat} (d : lo ≤ hi) (h : hi ≤ 23) :
    (s.canIntegrate c).fld (canA c 0x44) hi lo = 0 :=
  (State.fld_put_ne _ _ _ _ _ _ (canA_ne_canA c (by decide))).trans
    (s.fld_put_zero _ (Nat.zero_le _) h d (by decide))

theorem State.canFinish_counter (s : State) (c : Nat) {hi lo : Nat} (d : lo ≤ hi) (h : hi ≤ 23) :
    (s.canFinish c).fld (canA c 0x44) hi lo = if (s.cn c).fin = none then s.fld (canA c 0x44) hi lo else 0 := by
  by_cases none : (s.cn c).fin = none
  · rw [State.canFinish_none none, if_pos none]
  · unfold State.canFinish
    rw [if_neg (by simpa using none), if_neg none]
    exact State.canIntegrate_counter _ c d h

end Sys2Proof.Machine

/-!
Transmission of a CAN controller (12_can_fd.md: R285 to R288, R291, R293; log entry 147): what the loader leaves in the
queue, and how a frame's last and its failed attempts end.
-/

namespace Sys2Proof.Machine

open Sys2Proof

/-! ### Received frames join the FIFO (R291) -/

/-- A frame of the FIFO, counted. -/
def State.fifoPut (s : State) (c : Nat) (f : CanFrame) : State :=
  ((s.tlySync 7).setCn c { s.cn c with fifo := (s.cn c).fifo ++ [f] }).count (canA c 0x80)

theorem State.fifoPush_eq (s : State) (c : Nat) (f : CanFrame) : s.fifoPush c f =
    if 64 ≤ (s.cn c).fifo.length then s.event (canA c 0x40) 7 (canA c 0x50)
    else if (s.fifoPut c f).fld (canA c 0x120) 22 16 < (s.cn c).fifo.length + 1 then
      (s.fifoPut c f).put (canA c 0x120) 22 16 ((s.cn c).fifo.length + 1)
    else s.fifoPut c f := rfl

theorem State.fifoPut_cn (s : State) (c : Nat) (f : CanFrame) :
    (s.fifoPut c f).cn c = { s.cn c with fifo := (s.cn c).fifo ++ [f] } :=
  State.cn_setCn ..

theorem State.fifoPut_canKeeps (s : State) (c : Nat) (f : CanFrame) :
    State.CanKeeps c [0x80] s (s.fifoPut c f) :=
  (((s.tlySync_frame 7).canKeeps rfl rfl rfl c _).step (State.setCn_canKeeps _ c [] _) (List.nil_subset _)).step
    (State.wr_canKeeps _ c (by decide) (by decide) _) (List.Subset.refl _)

theorem State.fifoPush_canKeeps (s : State) (c : Nat) (f : CanFrame) :
    State.CanKeeps c [0x40, 0x50, 0x80, 0x120] s (s.fifoPush c f) := by
  have put : State.CanKeeps c [0x40, 0x50, 0x80, 0x120] s (s.fifoPut c f) :=
    (State.CanKeeps.refl ..).step (s.fifoPut_canKeeps c f) (by simp)
  rw [State.fifoPush_eq]
  split
  · exact (State.CanKeeps.refl ..).step (s.event_canKeeps c (by decide) (by decide) (by decide)) (by simp)
  · split
    · exact put.step (State.wr_canKeeps _ c (by decide) (by decide) _) (by simp)
    · exact put

theorem State.fifoPush_room {s : State} {c : Nat} (room : (s.cn c).fifo.length < 64) (f : CanFrame) :
    (s.fifoPush c f).cn c = { s.cn c with fifo := (s.cn c).fifo ++ [f] } := by
  rw [State.fifoPush_eq, if_neg (by omega)]
  split
  · exact (congrArg (fun x => tget Can.init x c) (State.put_can ..)).trans (s.fifoPut_cn c f)
  · exact s.fifoPut_cn c f

theorem State.fifoPush_full {s : State} {c : Nat} (full : 64 ≤ (s.cn c).fifo.length) (f : CanFrame) :
    s.fifoPush c f = s.event (canA c 0x40) 7 (canA c 0x50) :=
  (s.fifoPush_eq c f).trans (if_pos full)

theorem State.fifoPush_fin (s : State) (c : Nat) (f : CanFrame) :
    ((s.fifoPush c f).cn c).fin = (s.cn c).fin := by
  by_cases full : 64 ≤ (s.cn c).fifo.length
  · rw [State.fifoPush_full full, State.event_cn]
  · rw [State.fifoPush_room (by omega)]

/-! ### The loader (R285) -/

/-- The queued frames whose launch time has come. -/
def State.canDue (s : State) (c : Nat) : List CanTxE := (s.cn c).q.filter (fun e => e.launch ≤ s.clk.t)

/-- No general buffer is free, or at most `k` frames that are due wait for one. -/
def State.Loaded (s : State) (c k : Nat) : Prop :=
  (∀ b ∈ s.genBufs c, ((s.cn c).bufAt b).isSome = true) ∨ (s.canDue c).length ≤ k

theorem mem_of_bestBy {α : Type} {lt : α → α → Bool} {l : List α} {x : α} (h : bestBy lt l = some x) : x ∈ l := by
  induction l generalizing x with
  | nil => exact nomatch h
  | cons y ys ih =>
    unfold bestBy at h
    split at h
    · cases h
      exact List.mem_cons_self
    · next z best =>
      split at h
      · cases h
        exact List.mem_cons_of_mem _ (ih best)
      · cases h
        exact List.mem_cons_self

/-- One pass of the loader takes a due frame where a buffer is free. -/
theorem State.Loaded.loadOne {s : State} {c k : Nat} (h : s.Loaded c (k + 1)) : (s.loadOne c).Loaded c k := by
  unfold State.loadOne
  extract_lets x
  split
  · next full => exact .inl fun b hb => by simpa [Option.isSome_iff_ne_none] using List.find?_eq_none.mp full b hb
  · next b free =>
    split
    · next idle =>
      have none : s.canDue c = [] := by
        by_contra some
        obtain ⟨e, best⟩ := exists_bestBy (fun e f => lexLt (s.txKey c e) (s.txKey c f)) some
        exact nomatch idle.symm.trans best
      exact .inr (by simp [none])
    · next e best =>
      have due : e ∈ s.canDue c := mem_of_bestBy best
      have few : (s.canDue c).length ≤ k + 1 := h.resolve_left fun full => by
        have taken := full b (List.mem_of_find?_eq_some free)
        have empty : (s.cn c).bufAt b = none := by simpa using List.find?_some free
        exact nomatch empty ▸ taken
      refine .inr ?_
      have fewer : ((s.canDue c).filter (fun f => f.seq != e.seq)).length < (s.canDue c).length :=
        List.length_filter_lt_length_iff_exists.mpr ⟨e, due, by simp⟩
      have rest : (s.setCn c { x with
            q := x.q.filter (fun f => f.seq != e.seq)
            buf := setAt x.buf b (some ⟨e, false, false, false⟩) }).canDue c =
          (s.canDue c).filter (fun f => f.seq != e.seq) := by
        unfold State.canDue
        rw [State.cn_setCn, State.setCn_clk, List.filter_comm]
      rw [rest]
      omega

/-- The loader leaves no due frame of three or fewer in the queue while a buffer is free. -/
theorem State.canLoad_loaded {s : State} {c : Nat} (sends : s.canSends c = true) (safe : (s.cn c).safeWait = false)
    (few : (s.canDue c).length ≤ 3) : (s.canLoad c).Loaded c 0 := by
  have noSafety : s.safeLoad c = s := if_neg (by simp [safe])
  unfold State.canLoad
  rw [if_pos sends, noSafety]
  exact State.Loaded.loadOne (State.Loaded.loadOne (State.Loaded.loadOne (.inr few)))

theorem State.Loaded.waits {s : State} {c : Nat} (h : s.Loaded c 0)
    (free : ∃ b ∈ s.genBufs c, (s.cn c).bufAt b = none) :
    ∀ f ∈ (s.cn c).q, s.clk.t < f.launch := by
  obtain ⟨b, hb, empty⟩ := free
  have none : s.canDue c = [] :=
    List.eq_nil_of_length_eq_zero (Nat.le_zero.mp (h.resolve_left fun full => by simpa [empty] using full b hb))
  intro f hf
  simpa using List.filter_eq_nil_iff.mp none f hf

/-- Working time stands at the instant that is reached. -/
theorem State.reach_time {s u : State} {due : Nat} (h : s.reach due = some u) (ahead : s.clk.t < due) :
    u.clk.t = due := by
  unfold State.reach at h
  rw [if_neg (by omega)] at h
  split at h
  · cases h
    rfl
  · exact nomatch h

theorem exec_canFrameEligible {s u : State} {c : Nat} {e : CanTxE} (hc : c < 8)
    (next : bestBy (fun (e f : CanTxE) => decide (e.launch < f.launch))
      ((s.cn c).q.filter (fun e => s.clk.t < e.launch)) = some e) (due : s.reach e.launch = some u) :
    exec (.canFrameEligible c) s = .next (u.canLoad c) := by
  change execCanFrameEligible c s = _
  unfold execCanFrameEligible
  rw [guardI_true (decide_eq_true hc), next]
  exact congrArg _ (State.atT_some due _)

/-! ### A frame is sent (R286, R291) -/

/-- The sent frame is counted, and its buffer free. -/
def State.txFreed (s : State) (c b tdc : Nat) (f : CanBuf) : State :=
  (((s.put (canA c 0x44) 8 0 (s.tec c - 1)).count (canA c 0x7C)).tdcSet c tdc (s.canSent c f.e.frame)).unbuf c b

/-- The source of the sent frame learns of it. -/
def State.txTold (s : State) (c stamp uncert : Nat) : TxSrc → State
  | .safety => s.raise (canA c 0x40) 11
  | .axis _ => s
  | .host r n => (s.stamped uncert).completeAt r n .success 0 uncert stamp

/-- The frame is on the bus, or in LOOPBACK in the FIFO. -/
def State.txSent (s : State) (c : Nat) (f : CanFrame) : State :=
  if s.canMode c = 3 then s.fifoPush c f else s.emit (.can c f)

theorem State.txDone_eq (s : State) (c b stamp uncert tdc : Nat) (f : CanBuf) : s.txDone c b stamp uncert tdc f =
    (((((s.txFreed c b tdc f).txTold c stamp uncert f.e.src).txSent c (s.canSent c f.e.frame)).confine c).canFinish
      c).canLoad c := rfl

/-- What freeing the buffer keeps of the state in which the frame is counted. -/
theorem State.txFreed_canKeeps (s : State) (c b tdc : Nat) (f : CanBuf) : State.CanKeeps c [0xC]
    ((s.put (canA c 0x44) 8 0 (s.tec c - 1)).count (canA c 0x7C)) (s.txFreed c b tdc f) :=
  (State.tdcSet_canKeeps ..).step (State.unbuf_canKeeps _ c b []) (List.nil_subset _)

theorem State.txFreed_rx (s : State) (c b tdc : Nat) (f : CanBuf) :
    ((s.txFreed c b tdc f).cn c).rx = (s.cn c).rx := by
  unfold State.txFreed
  rw [State.unbuf_rx, (State.tdcSet_frame ..).cn rfl]
  rfl

theorem State.txFreed_cfg (s : State) (c b tdc : Nat) (f : CanBuf) :
    (s.txFreed c b tdc f).rd (canA c 0) = s.rd (canA c 0) :=
  ((s.txFreed_canKeeps c b tdc f).rd 0 (by decide) (by decide)).trans
    ((State.rd_count_ne _ (canA_ne_canA c (by decide))).trans (State.rd_put_ne _ _ _ _ (canA_ne_canA c (by decide))))

theorem State.txFreed_count (s : State) (c b tdc : Nat) (f : CanBuf) : (s.txFreed c b tdc f).rd (canA c 0x7C) =
    BitVec.ofNat 32 (satAdd countTop (s.rd (canA c 0x7C)).toNat 1) := by
  rw [(s.txFreed_canKeeps c b tdc f).rd 0x7C (by decide) (by decide), State.rd_count_self,
    State.rd_put_ne _ _ _ _ (canA_ne_canA c (by decide))]

theorem State.txFreed_tec (s : State) (c b tdc : Nat) (f : CanBuf) : (s.txFreed c b tdc f).tec c = s.tec c - 1 := by
  have inRange : s.tec c < 512 := bits_lt ..
  unfold State.tec at inRange ⊢
  rw [State.fld_congr ((s.txFreed_canKeeps c b tdc f).rd 0x44 (by decide) (by decide)),
    State.fld_congr (State.rd_count_ne _ (canA_ne_canA c (by decide))),
    State.fld_put_self _ _ _ (by decide) (by decide)]
  exact Nat.mod_eq_of_lt (by unfold State.tec; omega)

theorem State.txTold_canKeeps (s : State) (c stamp uncert : Nat) (src : TxSrc) :
    State.CanKeeps c [0x40] s (s.txTold c stamp uncert src) := by
  cases src with
  | safety => exact s.raise_canKeeps c (by decide)
  | axis _ => exact State.CanKeeps.refl ..
  | host r n =>
    exact ((s.stamped_frame uncert).canKeeps rfl rfl rfl c _).step (State.completeAt_canKeeps _ c [] ..)
      (List.nil_subset _)

theorem State.txTold_cn (s : State) (c stamp uncert : Nat) (src : TxSrc) :
    (s.txTold c stamp uncert src).cn c = s.cn c := by
  cases src with
  | safety => exact (congrArg (fun x => tget Can.init x c) (s.raise_can ..))
  | axis _ => rfl
  | host r n => exact ((State.completeAt_frame ..).cn rfl c).trans ((s.stamped_frame uncert).cn rfl c)

theorem State.txSent_canKeeps (s : State) (c : Nat) (f : CanFrame) :
    State.CanKeeps c [0x40, 0x50, 0x80, 0x120] s (s.txSent c f) := by
  unfold State.txSent
  split
  · exact s.fifoPush_canKeeps c f
  · exact ⟨fun _ _ _ => rfl, fun _ _ set => set, rfl, List.subset_append_left .., fun _ _ none => none⟩

theorem State.txSent_fin (s : State) (c : Nat) (f : CanFrame) : ((s.txSent c f).cn c).fin = (s.cn c).fin := by
  unfold State.txSent
  split
  · exact s.fifoPush_fin c f
  · rfl

/-- What follows the frame: fault confinement, the mode that waits for the frame's end, and the loader. -/
theorem State.settled_canKeeps (s : State) (c : Nat) :
    State.CanKeeps c [0x40, 0x44, 0x48, 0x4C, 0x5C] s (((s.confine c).canFinish c).canLoad c) :=
  (((State.CanKeeps.refl ..).step (s.confine_canKeeps c) (by simp)).step (State.canFinish_canKeeps ..) (by simp)).step
    (State.canLoad_canKeeps _ c []) (List.nil_subset _)

theorem State.settled_fifo (s : State) (c : Nat) :
    ((((s.confine c).canFinish c).canLoad c).cn c).fifo = (s.cn c).fifo := by
  rw [Can.rx_fifo (State.canLoad_rx ..), State.canFinish_cn]
  exact congrArg (·.1) (s.confine_rx c)

theorem State.settled_tec (s : State) (c : Nat) : (((s.confine c).canFinish c).canLoad c).tec c =
    if (s.cn c).fin = none then s.tec c else 0 := by
  have counter : (s.confine c).tec c = s.tec c :=
    State.fld_congr ((s.confine_canKeeps c).rd 0x44 (by decide) (by decide)) ..
  calc (((s.confine c).canFinish c).canLoad c).tec c
      = ((s.confine c).canFinish c).tec c :=
        State.fld_congr ((State.canLoad_canKeeps _ c []).rd 0x44 (by decide) (by decide)) ..
    _ = if ((s.confine c).cn c).fin = none then (s.confine c).tec c else 0 :=
        State.canFinish_counter _ c (by decide) (by decide)
    _ = if (s.cn c).fin = none then s.tec c else 0 := by rw [Can.rx_fin (s.confine_rx c), counter]

/-- From the freed buffer on, a sent frame's completion keeps these registers. -/
theorem State.txDone_canKeeps (s : State) (c b stamp uncert tdc : Nat) (f : CanBuf) :
    State.CanKeeps c [0x40, 0x44, 0x48, 0x4C, 0x50, 0x5C, 0x80, 0x120]
      ((s.txFreed c b tdc f).txTold c stamp uncert f.e.src) (s.txDone c b stamp uncert tdc f) :=
  ((State.CanKeeps.refl ..).step (State.txSent_canKeeps ..) (by simp)).step (State.settled_canKeeps ..) (by simp)

theorem exec_canTxComplete {s : State} {c b : Nat} {f : CanBuf} (hc : c < 8) (hb : b < 3) (may : s.mayTransmit = true)
    (held : (s.cn c).bufAt b = some f) (stamp uncert tdc : Nat) : exec (.canTxComplete c b stamp uncert tdc) s =
      .next (s.txDone c b stamp (min uncertMax uncert) tdc f) := by
  change execCanTxComplete c b stamp uncert tdc s = _
  unfold execCanTxComplete State.canTxCompleteS
  rw [guardI_true (by simp [hc, hb]), if_pos may, held]

section TxDone

variable (s : State) (c b stamp uncert tdc : Nat) (f : CanBuf)

/-- The frame's source is told: the mode is the one in which the frame was sent. -/
theorem State.told_mode : ((s.txFreed c b tdc f).txTold c stamp uncert f.e.src).canMode c = s.canMode c :=
  State.canMode_congr
    ((congrArg (·.fin) (State.txTold_cn ..)).trans (Can.rx_fin (s.txFreed_rx c b tdc f)))
    (((State.txTold_canKeeps ..).rd 0 (by decide) (by decide)).trans (s.txFreed_cfg c b tdc f))

theorem State.told_fifo : (((s.txFreed c b tdc f).txTold c stamp uncert f.e.src).cn c).fifo = (s.cn c).fifo :=
  (congrArg (·.fifo) (State.txTold_cn ..)).trans (Can.rx_fifo (s.txFreed_rx c b tdc f))

theorem State.told_fin : (((s.txFreed c b tdc f).txTold c stamp uncert f.e.src).cn c).fin = (s.cn c).fin :=
  (congrArg (·.fin) (State.txTold_cn ..)).trans (Can.rx_fin (s.txFreed_rx c b tdc f))

theorem State.told_tec : ((s.txFreed c b tdc f).txTold c stamp uncert f.e.src).tec c = s.tec c - 1 :=
  (State.fld_congr ((State.txTold_canKeeps ..).rd 0x44 (by decide) (by decide)) ..).trans (s.txFreed_tec c b tdc f)

theorem State.txDone_out (bus : s.canMode c ≠ 3) :
    Out.can c (s.canSent c f.e.frame) ∈ (s.txDone c b stamp uncert tdc f).out := by
  rw [State.txDone_eq]
  refine (State.settled_canKeeps ..).out ?_
  unfold State.txSent
  rw [if_neg (by rwa [State.told_mode]), State.emit_out]
  exact List.mem_append_right _ (List.mem_singleton.mpr rfl)

theorem State.txDone_loopback (loop : s.canMode c = 3) (room : (s.cn c).fifo.length < 64) :
    ((s.txDone c b stamp uncert tdc f).cn c).fifo = (s.cn c).fifo ++ [s.canSent c f.e.frame] := by
  rw [State.txDone_eq, State.settled_fifo]
  unfold State.txSent
  rw [if_pos (by rwa [State.told_mode]), State.fifoPush_room (by rwa [State.told_fifo]), State.told_fifo]

theorem State.txDone_count : (s.txDone c b stamp uncert tdc f).rd (canA c 0x7C) =
    BitVec.ofNat 32 (satAdd countTop (s.rd (canA c 0x7C)).toNat 1) := by
  rw [(s.txDone_canKeeps c b stamp uncert tdc f).rd _ (by decide) (by decide),
    (State.txTold_canKeeps ..).rd _ (by decide) (by decide), State.txFreed_count]

theorem State.txDone_tec : (s.txDone c b stamp uncert tdc f).tec c =
    if (s.cn c).fin = none then s.tec c - 1 else 0 := by
  have counter := State.fld_congr ((State.txSent_canKeeps ((s.txFreed c b tdc f).txTold c stamp uncert f.e.src) c
    (s.canSent c f.e.frame)).rd 0x44 (by decide) (by decide)) 8 0
  rw [State.txDone_eq, State.settled_tec, State.txSent_fin, State.told_fin]
  exact congrArg (fun n => if (s.cn c).fin = none then n else 0) (counter.trans (s.told_tec c b stamp uncert tdc f))

theorem State.txDone_desc {r n : Nat} (host : f.e.src = .host r n) :
    (s.txDone c b stamp uncert tdc f).desc r n = none := by
  refine (s.txDone_canKeeps c b stamp uncert tdc f).desc r n ?_
  rw [host]
  exact State.completeAt_desc_self ..

theorem State.txDone_safety (safety : f.e.src = .safety) :
    (s.txDone c b stamp uncert tdc f).flag (canA c 0x40) 11 = true := by
  refine (s.txDone_canKeeps c b stamp uncert tdc f).stat 11 (by decide) ?_
  rw [safety]
  exact State.flag_raise_self _ _ (by decide)

end TxDone

/-! ### An attempt fails (R286, R287, R296) -/

/-- The frame of a buffer after one more attempt. -/
def CanBuf.again (f : CanBuf) : CanBuf := { f with e := { f.e with attempts := f.e.attempts + 1 } }

/-- The failed attempt was the last that the frame has. -/
def State.canSpent (s : State) (c : Nat) (f : CanBuf) : Bool :=
  !(f.e.src = .safety || s.flag (canA c 0) 7) && 1 + s.fld (canA c 0) 11 8 ≤ f.e.attempts + 1

/-- A frame beyond its retries leaves its buffer, and its descriptor completes. -/
def State.canDrop (s : State) (c b : Nat) (e : CanTxE) : State :=
  let u := (s.unbuf c b).event (canA c 0x40) 8 (canA c 0x54)
  match e.src with
  | .host r n => u.complete r n .canRetryExhausted
  | _ => u

/-- A frame returns to the queue from a buffer that is reserved. -/
def State.canBack (s : State) (c b : Nat) (e : CanTxE) : State :=
  s.setCn c { s.cn c with buf := setAt (s.cn c).buf b none, q := (s.cn c).q ++ [e] }

/-- A frame stays in its buffer. -/
def State.canStay (s : State) (c b : Nat) (f : CanBuf) : State :=
  s.setCn c { s.cn c with buf := setAt (s.cn c).buf b (some f) }

theorem State.attemptEnd_eq (s : State) (c b : Nat) (f : CanBuf) : s.attemptEnd c b f =
    if f.stale then ((s.unbuf c b).event (canA c 0x40) 9 (canA c 0x58)).canLoad c
    else if f.abort then ((s.unbuf c b).canAbort c .canTxAborted f.again.e).canLoad c
    else if s.canSpent c f then (s.canDrop c b f.again.e).canLoad c
    else if f.back then (s.canBack c b f.again.e).canLoad c
    else s.canStay c b f.again := rfl

theorem State.canDrop_canKeeps (s : State) (c b : Nat) (e : CanTxE) :
    State.CanKeeps c [0x40, 0x54] s (s.canDrop c b e) := by
  have counted : State.CanKeeps c [0x40, 0x54] s ((s.unbuf c b).event (canA c 0x40) 8 (canA c 0x54)) :=
    (s.unbuf_canKeeps c b _).step (State.event_canKeeps _ c (by decide) (by decide) (by decide)) (List.Subset.refl _)
  unfold State.canDrop
  extract_lets u
  split
  · exact counted.step (State.completeAt_canKeeps _ c [] ..) (List.nil_subset _)
  · exact counted

theorem State.attemptEnd_canKeeps (s : State) (c b : Nat) (f : CanBuf) :
    State.CanKeeps c [0x40, 0x54, 0x58, 0x5C] s (s.attemptEnd c b f) := by
  have loads : ∀ {u : State}, State.CanKeeps c [0x40, 0x54, 0x58, 0x5C] s u →
      State.CanKeeps c [0x40, 0x54, 0x58, 0x5C] s (u.canLoad c) :=
    fun h => h.step (State.canLoad_canKeeps _ c []) (List.nil_subset _)
  have freed := s.unbuf_canKeeps c b [0x40, 0x54, 0x58, 0x5C]
  rw [State.attemptEnd_eq]
  split
  · exact loads (freed.step (State.event_canKeeps _ c (by decide) (by decide) (by decide)) (by simp))
  split
  · exact loads (freed.step (State.canAbort_canKeeps ..) (by simp))
  split
  · exact loads ((State.CanKeeps.refl ..).step (s.canDrop_canKeeps c b _) (by simp))
  split
  · exact loads (s.setCn_canKeeps ..)
  · exact s.setCn_canKeeps ..

section AttemptEnd

variable {s : State} {c b : Nat} {f : CanBuf}

theorem State.canSpent_bounded (bounded : s.flag (canA c 0) 7 = false) (spent : s.fld (canA c 0) 11 8 ≤ f.e.attempts)
    {r n : Nat} (host : f.e.src = .host r n) : s.canSpent c f = true := by
  unfold State.canSpent
  simp only [host, bounded, reduceCtorEq, decide_false, Bool.or_self, Bool.not_false, Bool.true_and, decide_eq_true_eq]
  omega

theorem State.canSpent_left
    (left : f.e.src = .safety ∨ s.flag (canA c 0) 7 = true ∨ f.e.attempts < s.fld (canA c 0) 11 8) :
    s.canSpent c f = false := by
  unfold State.canSpent
  obtain safety | endless | fewer := left
  · simp [safety]
  · simp [endless]
  · have more : ¬1 + s.fld (canA c 0) 11 8 ≤ f.e.attempts + 1 := by omega
    rw [decide_eq_false more, Bool.and_false]

theorem State.attemptEnd_stale (stale : f.stale = true) : (s.attemptEnd c b f).flag (canA c 0x40) 9 = true := by
  rw [State.attemptEnd_eq, if_pos stale]
  exact (State.canLoad_canKeeps _ c []).stat 9 (by decide) (State.flag_event _ (canA_ne_canA c (by decide)) (by decide))

variable (fresh : f.stale = false)

include fresh

theorem State.attemptEnd_abort (abort : f.abort = true) {r n : Nat} (host : f.e.src = .host r n) :
    (s.attemptEnd c b f).desc r n = none := by
  rw [State.attemptEnd_eq, if_neg (by simp [fresh]), if_pos abort]
  exact (State.canLoad_canKeeps _ c []).desc r n (State.canAbort_desc (e := f.again.e) host ..)

variable (wanted : f.abort = false)

include wanted

theorem State.attemptEnd_drop (spent : s.canSpent c f = true) {r n : Nat} (host : f.e.src = .host r n) :
    (s.attemptEnd c b f).flag (canA c 0x40) 8 = true ∧ (s.attemptEnd c b f).desc r n = none := by
  have dropped : s.canDrop c b f.again.e =
      ((s.unbuf c b).event (canA c 0x40) 8 (canA c 0x54)).complete r n .canRetryExhausted := by
    unfold State.canDrop
    rw [show f.again.e.src = .host r n from host]
  have loads := State.canLoad_canKeeps (s.canDrop c b f.again.e) c []
  rw [State.attemptEnd_eq, if_neg (by simp [fresh]), if_neg (by simp [wanted]), if_pos spent]
  refine ⟨loads.stat 8 (by decide) ?_, loads.desc r n ?_⟩
  · rw [dropped]
    exact (State.completeAt_canKeeps _ c [] ..).stat 8 (by decide)
      (State.flag_event _ (canA_ne_canA c (by decide)) (by decide))
  · rw [dropped]
    exact State.complete_desc ..

theorem State.attemptEnd_stay (left : s.canSpent c f = false) (back : f.back = false) :
    s.attemptEnd c b f = s.canStay c b f.again := by
  rw [State.attemptEnd_eq, if_neg (by simp [fresh]), if_neg (by simp [wanted]), if_neg (by simp [left]),
    if_neg (by simp [back])]

end AttemptEnd

/-- The failure is recorded: lost arbitration is counted, and otherwise the delay is kept that was measured. -/
def State.attemptNoted (s : State) (c : Nat) (f : CanBuf) (lost : Bool) (tdc : Option Nat) : State :=
  if lost then s.count (canA c 0x60)
  else match tdc with
    | none => s
    | some n => s.tdcSet c n f.e.frame

section AttemptFailed

variable {s : State} {c b : Nat} {f : CanBuf} {lost : Bool} {tdc : Option Nat}

theorem State.attemptFailed_eq (held : (s.cn c).bufAt b = some f) : s.attemptFailed c b lost tdc =
    if lost then (s.attemptNoted c f lost tdc).attemptEnd c b f
    else ((s.attemptNoted c f lost tdc).attemptEnd c b f).canFinish c := by
  unfold State.attemptFailed State.attemptNoted
  rw [held]
  cases lost with
  | true => simp only [↓reduceIte]
  | false =>
    cases tdc with
    | none => simp only [Bool.false_eq_true, ↓reduceIte]
    | some n => simp only [Bool.false_eq_true, ↓reduceIte]

/-- A frame that the controller finishes ends with an error, and not with lost arbitration. -/
theorem State.attemptFailed_canKeeps (held : (s.cn c).bufAt b = some f) : State.CanKeeps c [0x40, 0x44]
    ((s.attemptNoted c f lost tdc).attemptEnd c b f) (s.attemptFailed c b lost tdc) := by
  rw [State.attemptFailed_eq held]
  split
  · exact State.CanKeeps.refl ..
  · exact State.canFinish_canKeeps ..

theorem State.attemptFailed_buf (held : (s.cn c).bufAt b = some f) : ((s.attemptFailed c b lost tdc).cn c).buf =
    (((s.attemptNoted c f lost tdc).attemptEnd c b f).cn c).buf := by
  rw [State.attemptFailed_eq held]
  split
  · rfl
  · rw [State.canFinish_cn]

theorem State.attemptNoted_frame (s : State) (c : Nat) (f : CanBuf) (lost : Bool) (tdc : Option Nat) :
    Frame 0x200000100000 s (s.attemptNoted c f lost tdc) := by
  unfold State.attemptNoted
  split
  · exact State.count_frame rfl (tb_canA rfl) ..
  · split
    · exact Frame.refl _ _
    · exact s.tdcSet_frame ..

theorem State.attemptNoted_rd (s : State) (c : Nat) (f : CanBuf) (lost : Bool) (tdc : Option Nat) {o : Nat}
    (ho : o < 0x1000) (hc : o ≠ 0xC) (hl : lost = true → o ≠ 0x60) :
    (s.attemptNoted c f lost tdc).rd (canA c o) = s.rd (canA c o) := by
  unfold State.attemptNoted
  split
  · next h => exact State.rd_count_ne _ (canA_ne_canA c (by have := hl h; omega))
  · split
    · rfl
    · exact (s.tdcSet_canKeeps c _ _).rd o ho (by simpa using hc)

theorem State.attemptNoted_canSpent (s : State) (c : Nat) (f : CanBuf) (lost : Bool) (tdc : Option Nat) :
    (s.attemptNoted c f lost tdc).canSpent c f = s.canSpent c f := by
  have cfg : (s.attemptNoted c f lost tdc).rd (canA c 0) = s.rd (canA c 0) :=
    s.attemptNoted_rd c f lost tdc (by decide) (by decide) (fun _ => by decide)
  unfold State.canSpent
  rw [State.flag_congr cfg, State.fld_congr cfg]

theorem exec_canAttemptFailed (hc : c < 8) (hb : b < 3) (may : s.mayTransmit = true) :
    exec (.canAttemptFailed c b ⟨lost, tdc⟩) s = .next (s.attemptFailed c b lost tdc) := by
  change execCanAttemptFailed c b _ s = _
  unfold execCanAttemptFailed
  rw [guardI_true (by simp [hc, hb]), if_pos may]

/-- A failed attempt writes the count of lost arbitrations when it is noted, and not later. -/
theorem State.attemptFailed_lostCount (held : (s.cn c).bufAt b = some f) :
    (s.attemptFailed c b lost tdc).rd (canA c 0x60) = (s.attemptNoted c f lost tdc).rd (canA c 0x60) :=
  ((State.attemptFailed_canKeeps held).rd _ (by decide) (by decide)).trans
    ((State.attemptEnd_canKeeps ..).rd _ (by decide) (by decide))

end AttemptFailed

/-- Settles O37: the loader takes a due frame at each of three passes; what follows a sent or a failed frame keeps what
its buffer's end has recorded. -/
theorem canTransmit : Obligations.CanTransmit := by
  refine ⟨?eligible, ?complete, ?failed⟩
  case eligible =>
    intro s u c e hc sends next due safe few
    have reached := State.reach_fr due
    have ahead : s.clk.t < e.launch := by simpa using (List.mem_filter.mp (mem_of_bestBy next)).2
    have time := State.reach_time due ahead
    have cn := reached.cn rfl c
    have sends' : u.canSends c = true := by
      rwa [State.canSends_congr (congrArg (·.fin) cn) (reached.rd_canA rfl c _)
        (State.fld_congr (reached.rd_canA rfl c _) ..)]
    have few' : (u.canDue c).length ≤ 3 := by
      unfold State.canDue
      rwa [cn, time]
    have loaded := State.canLoad_loaded sends' ((congrArg (·.safeWait) cn).trans safe) few'
    have bufs : (u.canLoad c).genBufs c = s.genBufs c :=
      ((u.canLoad_frame c).genBufs rfl c).trans (reached.genBufs rfl c)
    have time' : (u.canLoad c).clk.t = e.launch := (congrArg (·.t) ((u.canLoad_frame c).clk rfl)).trans time
    refine ⟨_, exec_canFrameEligible hc next due, time', fun free f hf => ?_⟩
    rw [← bufs] at free
    rw [← time']
    exact loaded.waits free f hf
  case complete =>
    intro s c b stamp uncert tdc f hc hb may held
    exact ⟨_, exec_canTxComplete hc hb may held stamp uncert tdc, s.txDone_out c b _ _ tdc f,
      s.txDone_loopback c b _ _ tdc f, s.txDone_count c b _ _ tdc f, s.txDone_tec c b _ _ tdc f,
      fun r n => s.txDone_desc c b _ _ tdc f, s.txDone_safety c b _ _ tdc f⟩
  case failed =>
    intro s c b lost tdc f hc hb may held
    have kept := State.attemptFailed_canKeeps (lost := lost) (tdc := tdc) held
    have count := State.attemptFailed_lostCount (lost := lost) (tdc := tdc) held
    have spent := s.attemptNoted_canSpent c f lost tdc
    refine ⟨_, exec_canAttemptFailed hc hb may, ?_, ?_, ?_, ?_, ?_, ?_⟩
    · rintro rfl
      exact count.trans (s.rd_count_self _)
    · rintro rfl
      exact count.trans (s.attemptNoted_rd c f false tdc (by decide) (by decide) nofun)
    · exact fun stale => kept.stat 9 (by decide) (State.attemptEnd_stale stale)
    · exact fun fresh abort r n host => kept.desc r n (State.attemptEnd_abort fresh abort host)
    · intro fresh wanted bounded last r n host
      obtain ⟨flagged, gone⟩ := State.attemptEnd_drop (b := b) fresh wanted
        (spent.trans (State.canSpent_bounded bounded last host)) host
      exact ⟨kept.stat 8 (by decide) flagged, kept.desc r n gone⟩
    · intro fresh wanted back left
      rw [State.attemptFailed_buf held,
        State.attemptEnd_stay fresh wanted (spent.trans (State.canSpent_left left)) back]
      unfold State.canStay
      rw [State.cn_setCn, (s.attemptNoted_frame ..).cn rfl]
      rfl

end Sys2Proof.Machine

/-!
Reception of a CAN controller (12_can_fd.md: R291, R293 to R296; log entry 147): what a received frame, a protocol error
and the ends of integration and of bus-off leave of the error counters and of the state.
-/

namespace Sys2Proof.Machine

open Sys2Proof

/-! ### Frames that are received -/

/-- REC after a valid reception (ISO 11898-1). -/
def recLowered (n : Nat) : Nat := if n = 0 then 0 else if n ≤ 127 then n - 1 else 127

/-- REC is lowered, and what confinement makes of it. -/
def State.rxCharged (s : State) (c : Nat) : State := (s.put (canA c 0x44) 23 16 (recLowered (s.rec' c))).confine c

section Reception

variable (s : State) (c : Nat) (f : CanFrame)

theorem State.rxCharged_rec : (s.rxCharged c).rec' c = recLowered (s.rec' c) := by
  have small : recLowered (s.rec' c) < 256 := by
    unfold recLowered
    split
    · decide
    · split
      · omega
      · decide
  unfold State.rxCharged State.rec'
  rw [State.fld_congr ((State.confine_canKeeps ..).rd 0x44 (by decide) (by decide)),
    State.fld_put_self _ _ _ (by decide) (by decide)]
  exact Nat.mod_eq_of_lt small

theorem State.rxCharged_rx : ((s.rxCharged c).cn c).rx = (s.cn c).rx := by
  unfold State.rxCharged
  rw [State.confine_rx]
  rfl

theorem State.received_rec : (((s.rxCharged c).fifoPush c f).canFinish c).rec' c =
    if (s.cn c).fin ≠ none ∨ s.rec' c = 0 then 0 else if s.rec' c ≤ 127 then s.rec' c - 1 else 127 := by
  have pushed : ((s.rxCharged c).fifoPush c f).rec' c = (s.rxCharged c).rec' c :=
    State.fld_congr ((State.fifoPush_canKeeps ..).rd 0x44 (by decide) (by decide)) ..
  have fin : (((s.rxCharged c).fifoPush c f).cn c).fin = (s.cn c).fin :=
    (State.fifoPush_fin ..).trans (Can.rx_fin (s.rxCharged_rx c))
  calc (((s.rxCharged c).fifoPush c f).canFinish c).rec' c
      = if (((s.rxCharged c).fifoPush c f).cn c).fin = none then ((s.rxCharged c).fifoPush c f).rec' c else 0 :=
        State.canFinish_counter _ c (by decide) (by decide)
    _ = if (s.cn c).fin = none then recLowered (s.rec' c) else 0 := by rw [fin, pushed, State.rxCharged_rec]
    _ = _ := by
      unfold recLowered
      by_cases none : (s.cn c).fin = none
      · simp [none]
      · simp [none]

theorem State.received_room (room : (s.cn c).fifo.length < 64) :
    ((((s.rxCharged c).fifoPush c f).canFinish c).cn c).fifo = (s.cn c).fifo ++ [f] := by
  have fifo := Can.rx_fifo (s.rxCharged_rx c)
  rw [State.canFinish_cn, State.fifoPush_room (by rwa [fifo]), fifo]

theorem State.received_full (full : 64 ≤ (s.cn c).fifo.length) :
    ((((s.rxCharged c).fifoPush c f).canFinish c).cn c).fifo = (s.cn c).fifo ∧
    (((s.rxCharged c).fifoPush c f).canFinish c).flag (canA c 0x40) 7 = true := by
  have fifo := Can.rx_fifo (s.rxCharged_rx c)
  rw [State.fifoPush_full (by rwa [fifo])]
  refine ⟨?_, (State.canFinish_canKeeps ..).stat 7 (by decide)
    (State.flag_event _ (canA_ne_canA c (by decide)) (by decide))⟩
  rw [State.canFinish_cn, State.event_cn, fifo]

end Reception

/-! ### Protocol errors (R293) -/

theorem canErrCode_fst_lt (k : CanErr) : (canErrCode k).1 < 8 := by
  cases k <;> decide

/-- The counters of protocol errors. -/
theorem canErrCode_snd_mem (k : CanErr) : (canErrCode k).2 ∈ [0x64, 0x68, 0x6C, 0x70, 0x74, 0x78] := by
  cases k <;> decide

/-- An operation that keeps the counters of protocol errors. -/
theorem State.CanKeeps.errCount {c : Nat} {w : List Nat} {s t : State} (h : State.CanKeeps c w s t)
    (apart : ∀ o ∈ w, o ∉ [0x64, 0x68, 0x6C, 0x70, 0x74, 0x78]) (k : CanErr) :
    t.rd (canA c (canErrCode k).2) = s.rd (canA c (canErrCode k).2) :=
  h.rd _ (by cases k <;> decide) fun m => apart _ m (canErrCode_snd_mem k)

section NoteErr

variable (s : State) (c : Nat) (k : CanErr) (dataPhase : Bool)

theorem State.noteErr_count : (s.noteErr c k dataPhase).rd (canA c (canErrCode k).2) =
    BitVec.ofNat 32 (satAdd countTop (s.rd (canA c (canErrCode k).2)).toNat 1) := by
  have apart : canA c 0x40 ≠ canA c (canErrCode k).2 := canA_ne_canA c (by cases k <;> decide)
  unfold State.noteErr
  extract_lets code counted
  split
  · exact s.rd_count_self _
  · rw [State.rd_put_ne _ _ _ _ apart, State.rd_put_ne _ _ _ _ apart]
    exact s.rd_count_self _

theorem State.noteErr_rd {o : Nat} (h40 : 0x40 ≠ o % 0x100000) (hk : (canErrCode k).2 ≠ o % 0x100000) :
    (s.noteErr c k dataPhase).rd (canA c o) = s.rd (canA c o) := by
  have apart : canA c 0x40 ≠ canA c o := canA_ne_canA c h40
  have uncounted : (s.count (canA c (canErrCode k).2)).rd (canA c o) = s.rd (canA c o) :=
    s.rd_count_ne (canA_ne_canA c (by cases k <;> exact hk))
  unfold State.noteErr
  extract_lets code counted
  split
  · exact uncounted
  · rw [State.rd_put_ne _ _ _ _ apart, State.rd_put_ne _ _ _ _ apart]
    exact uncounted

theorem State.noteErr_lec (error : k ≠ .pex) :
    (s.noteErr c k dataPhase).fld (canA c 0x40) 27 25 = (canErrCode k).1 := by
  unfold State.noteErr
  extract_lets code counted
  rw [if_neg error, State.fld_put_beside _ _ _ (by decide) (by decide) (.inr (by decide)) (by decide),
    State.fld_put_self _ _ _ (by decide) (by decide)]
  exact Nat.mod_eq_of_lt (canErrCode_fst_lt k)

theorem State.noteErr_canState : (s.noteErr c k dataPhase).canState c = s.canState c := by
  have uncounted : (s.count (canA c (canErrCode k).2)).canState c = s.canState c :=
    State.fld_congr (s.rd_count_ne (canA_ne_canA c (by cases k <;> decide))) ..
  unfold State.noteErr
  extract_lets code counted
  split
  · exact uncounted
  · unfold State.canState
    rw [State.fld_put_beside _ _ _ (by decide) (by decide) (.inl (by decide)) (by decide),
      State.fld_put_beside _ _ _ (by decide) (by decide) (.inl (by decide)) (by decide)]
    exact uncounted

end NoteErr

/-! ### The error counters -/

section AddErr

variable (s : State) (c tx rx : Nat)

theorem State.addErr_canKeeps : State.CanKeeps c [0x44] s (s.addErr c tx rx) :=
  (s.wr_canKeeps c (by decide) (by decide) _).step (State.wr_canKeeps _ c (by decide) (by decide) _)
    (List.Subset.refl _)

theorem State.addErr_tec : (s.addErr c tx rx).tec c = min 511 (s.tec c + tx) := by
  refine (State.fld_put_beside _ _ _ (by decide) (by decide) (.inl (by decide)) (by decide)).trans
    ((State.fld_put_self _ _ _ (by decide) (by decide)).trans (Nat.mod_eq_of_lt ?_))
  exact Nat.lt_succ_of_le (Nat.min_le_left ..)

theorem State.addErr_rec : (s.addErr c tx rx).rec' c = min 255 (s.rec' c + rx) := by
  refine (State.fld_put_self _ _ _ (by decide) (by decide)).trans (Nat.mod_eq_of_lt ?_)
  exact Nat.lt_succ_of_le (Nat.min_le_left ..)

end AddErr

theorem State.chargeErr_canKeeps (s : State) (c : Nat) (k : CanErr) (role : CanRole) :
    State.CanKeeps c [0x44] s (s.chargeErr c k role) := by
  unfold State.chargeErr
  split
  · split
    · exact State.CanKeeps.refl ..
    · exact s.addErr_canKeeps ..
  · exact s.addErr_canKeeps ..
  · exact s.addErr_canKeeps ..
  · exact State.CanKeeps.refl ..
  · split
    · exact State.CanKeeps.refl ..
    · exact s.addErr_canKeeps ..
  · exact s.addErr_canKeeps ..
  · exact s.addErr_canKeeps ..

/-- What is recorded of an error: nothing after the controller's own flag. -/
def State.errNoted (s : State) (c : Nat) (k : CanErr) (dataPhase : Bool) (role : CanRole) : State :=
  if afterFlag role then s else s.noteErr c k dataPhase

/-- The error is recorded, and charged to the controller. -/
def State.errCharged (s : State) (c : Nat) (k : CanErr) (dataPhase : Bool) (role : CanRole) : State :=
  (s.errNoted c k dataPhase role).chargeErr c k role

section Error

variable (s : State) (c : Nat) (k : CanErr) (dataPhase : Bool) (role : CanRole)

theorem State.canError_eq : s.canError c k dataPhase role =
    let u := (s.errCharged c (s.pexErr c k) dataPhase role).confine c
    if asReceiver role || (u.canState c ≠ 2 && u.canState c ≠ 3) then u.canFinish c else u := rfl

/-- What follows the charge of an error keeps these registers. -/
theorem State.canError_canKeeps : State.CanKeeps c [0x40, 0x44, 0x48, 0x4C, 0x5C]
    (s.errNoted c (s.pexErr c k) dataPhase role) (s.canError c k dataPhase role) := by
  have confined : State.CanKeeps c [0x40, 0x44, 0x48, 0x4C, 0x5C] (s.errNoted c (s.pexErr c k) dataPhase role)
      ((s.errCharged c (s.pexErr c k) dataPhase role).confine c) :=
    ((State.CanKeeps.refl ..).step (State.chargeErr_canKeeps ..) (by simp)).step (State.confine_canKeeps ..) (by simp)
  rw [State.canError_eq]
  extract_lets u
  split
  · exact confined.step (State.canFinish_canKeeps ..) (by simp)
  · exact confined

theorem State.errNoted_frame : Frame 0x200000100000 s (s.errNoted c k dataPhase role) := by
  unfold State.errNoted
  split
  · exact Frame.refl _ _
  · exact s.noteErr_frame ..

theorem State.errCharged_cn : (s.errCharged c k dataPhase role).cn c = s.cn c :=
  ((State.chargeErr_frame ..).cn rfl c).trans ((s.errNoted_frame ..).cn rfl c)

/-- A controller that finishes no frame is where confinement left it. -/
theorem State.canError_confine (idle : (s.cn c).fin = none) : s.canError c k dataPhase role =
    (s.errCharged c (s.pexErr c k) dataPhase role).confine c := by
  have fin : (((s.errCharged c (s.pexErr c k) dataPhase role).confine c).cn c).fin = none :=
    (Can.rx_fin (State.confine_rx ..)).trans ((congrArg (·.fin) (s.errCharged_cn ..)).trans idle)
  rw [State.canError_eq]
  extract_lets u
  rw [State.canFinish_none fin, ite_self]

theorem State.pexErr_eq : s.pexErr c k = if k = .pex ∧ s.flag (canA c 0) 12 = false then .form else k := by
  simp [State.pexErr]

theorem exec_canProtocolError {s : State} {c : Nat} (hc : c < 8) (live : s.canLive c = true)
    (replays : s.inReplay = false) :
    exec (.canProtocolError c k dataPhase role) s = .next (s.canError c k dataPhase role) := by
  change execCanProtocolError c k dataPhase role s = _
  unfold execCanProtocolError
  rw [guardI_true (decide_eq_true hc), if_pos (by simp [live, replays])]

theorem State.errNoted_rd {o : Nat} (h40 : 0x40 ≠ o % 0x100000) (hk : (canErrCode k).2 ≠ o % 0x100000) :
    (s.errNoted c k dataPhase role).rd (canA c o) = s.rd (canA c o) := by
  unfold State.errNoted
  split
  · rfl
  · exact s.noteErr_rd c k dataPhase h40 hk

theorem State.errNoted_counters : (s.errNoted c k dataPhase role).rd (canA c 0x44) = s.rd (canA c 0x44) :=
  s.errNoted_rd c k dataPhase role (by decide) (by cases k <;> decide)

theorem State.errCharged_canState : (s.errCharged c k dataPhase role).canState c = s.canState c := by
  refine (State.fld_congr ((State.chargeErr_canKeeps ..).rd 0x40 (by decide) (by decide)) ..).trans ?_
  unfold State.errNoted
  split
  · rfl
  · exact s.noteErr_canState c k dataPhase

theorem State.errCharged_cfg : (s.errCharged c k dataPhase role).rd (canA c 0) = s.rd (canA c 0) :=
  ((State.chargeErr_canKeeps ..).rd 0 (by decide) (by decide)).trans
    (s.errNoted_rd c k dataPhase role (by decide) (by cases k <;> decide))

/-- A sender's error flag adds 8 to TEC. -/
theorem State.errCharged_flag_tec : (s.errCharged c k dataPhase .transmitterFlag).tec c = min 511 (s.tec c + 8) :=
  (State.addErr_tec ..).trans
    (congrArg (fun n => min 511 (n + 8)) (State.fld_congr (s.errNoted_counters c k dataPhase _) ..))

/-- A receiver's error adds 1 to REC and leaves TEC. -/
theorem State.errCharged_receiver (error : k ≠ .pex) :
    (s.errCharged c k dataPhase .receiver).rec' c = min 255 (s.rec' c + 1) ∧
    (s.errCharged c k dataPhase .receiver).tec c = min 511 (s.tec c) := by
  have counters := s.errNoted_counters c k dataPhase .receiver
  have charged : s.errCharged c k dataPhase .receiver = (s.errNoted c k dataPhase .receiver).addErr c 0 1 :=
    if_neg error
  rw [charged]
  exact ⟨(State.addErr_rec ..).trans (congrArg (fun n => min 255 (n + 1)) (State.fld_congr counters ..)),
    (State.addErr_tec ..).trans (congrArg (fun n => min 511 (n + 0)) (State.fld_congr counters ..))⟩

end Error

/-! ### The state after an error (R293, R294) -/

section Confined

variable {s : State} {c : Nat} (live : s.canState c = 2 ∨ s.canState c = 3)

theorem State.confine_tec (s : State) (c : Nat) : (s.confine c).tec c = s.tec c :=
  State.fld_congr ((s.confine_canKeeps c).rd 0x44 (by decide) (by decide)) ..

theorem State.confine_rec (s : State) (c : Nat) : (s.confine c).rec' c = s.rec' c :=
  State.fld_congr ((s.confine_canKeeps c).rd 0x44 (by decide) (by decide)) ..

theorem State.live_of_canLive (h : s.canLive c = true) : s.canState c = 2 ∨ s.canState c = 3 := by
  unfold State.canLive at h
  simpa using (Bool.and_eq_true_iff.mp h).2

include live

theorem State.confine_leaves (h : 255 < s.tec c) :
    (s.confine c).canState c = (if s.flag (canA c 0) 6 then 5 else 4) ∧ ((s.confine c).cn c).q = [] := by
  obtain ⟨buf, cn⟩ := s.offBus_cn c
  rw [State.confine_busOff live h, State.goBusOff_canState, State.goBusOff_cn, cn]
  exact ⟨rfl, rfl⟩

theorem State.confine_canState_passive (below : s.tec c ≤ 255) (h : 127 < s.tec c ∨ 127 < s.rec' c) :
    (s.confine c).canState c = 3 := by
  rw [State.confine_passive live below h, State.goPassive_canState live]

end Confined

/-! ### The commands -/

section Commands

variable {s : State} {c : Nat} (hc : c < 8)

include hc

theorem exec_canFrameReceived (live : s.canLive c = true) (bus : s.canMode c ≠ 3) (replays : s.inReplay = false)
    (f : CanFrame) : exec (.canFrameReceived c f) s = .next (((s.rxCharged c).fifoPush c f).canFinish c) := by
  change execCanFrameReceived c f s = _
  unfold execCanFrameReceived
  rw [guardI_true (decide_eq_true hc), if_pos (by simp [live, bus, replays])]
  rfl

/-- The pilot core takes the oldest frames off the FIFO before it handles them. -/
theorem exec_canFifoDrain (replays : s.inReplay = false) (stamps : List (Nat × Nat)) :
    ∃ t, exec (.canFifoDrain c stamps) s = .next t ∧ (t.cn c).fifo = (s.cn c).fifo.drop stamps.length := by
  refine ⟨_, (guardI_true (decide_eq_true hc)).trans (congrArg _ (if_neg (by simp [replays]))), ?_⟩
  extract_lets l v x u
  have handled := Frame.foldl (m := 0x6370000109284) (f := fun s e => s.canIn c e.2.1 e.2.2 e.1) (l := l.zip stamps)
    (Frame.refl _ u) fun w e h => h.step (w.canIn_frame ..) rfl
  rw [handled.cn rfl]
  exact congrArg (·.fifo) (State.cn_setCn ..)

theorem exec_canIntegrationDone (integrates : s.canState c = 1) :
    exec (.canIntegrationDone c) s = .next ((s.setCanState c 2).canLoad c) :=
  (guardI_true (decide_eq_true hc)).trans (congrArg _ (if_pos integrates))

theorem exec_busOffRecoveryDone (recovers : s.canState c = 5) :
    exec (.busOffRecoveryDone c) s = .next ((s.put (canA c 0x44) 23 0 0).setCanState c 1) :=
  (guardI_true (decide_eq_true hc)).trans (congrArg _ (if_pos recovers))

theorem exec_recover (ready : s.isReady = true) : exec (.recover c) s = .next (s.canRecover c) :=
  (guardI_true (decide_eq_true hc)).trans (congrArg _ (if_pos ready))

end Commands

/-- Settles O38: an error is recorded and charged before confinement, which reads the counters that the charge leaves
and keeps what was recorded. -/
theorem canReceive : Obligations.CanReceive := by
  refine ⟨?received, ?drained, ?error, ?integrated, ?recovered, ?recover⟩
  case received =>
    intro s c f hc live bus replays
    exact ⟨_, exec_canFrameReceived hc live bus replays f, s.received_rec c f, s.received_room c f,
      s.received_full c f⟩
  case drained =>
    intro s c stamps hc replays
    exact exec_canFifoDrain hc replays stamps
  case error =>
    intro s c k dataPhase role hc live replays
    have kept := s.canError_canKeeps c k dataPhase role
    have standing := State.live_of_canLive live
    rw [← State.pexErr_eq]
    intro e
    refine ⟨_, exec_canProtocolError k dataPhase role hc live replays, fun counts => ?_, fun silent x => ?_,
      fun counts error => ?_, fun idle sends => ?_, fun idle receives error => ?_⟩
    · have noted : s.errNoted c e dataPhase role = s.noteErr c e dataPhase := if_neg (by simp [counts])
      exact (kept.errCount (by decide) e).trans (by rw [noted, State.noteErr_count])
    · have noted : s.errNoted c e dataPhase role = s := if_pos silent
      exact (kept.errCount (by decide) x).trans (by rw [noted])
    · have noted : s.errNoted c e dataPhase role = s.noteErr c e dataPhase := if_neg (by simp [counts])
      exact kept.lec.trans (by rw [noted, State.noteErr_lec _ _ _ _ error])
    · subst sends
      have tec := s.errCharged_flag_tec c (s.pexErr c k) dataPhase
      have standing' := (s.errCharged_canState c (s.pexErr c k) dataPhase .transmitterFlag).symm ▸ standing
      rw [s.canError_confine c k dataPhase _ idle]
      refine ⟨(State.confine_tec ..).trans tec, fun off => ?_, fun passive below => ?_⟩
      · rw [← State.flag_congr (s.errCharged_cfg c (s.pexErr c k) dataPhase .transmitterFlag)]
        exact State.confine_leaves standing' (by omega)
      · exact State.confine_canState_passive standing' (by omega) (.inl (by omega))
    · subst receives
      obtain ⟨rec, tec⟩ := s.errCharged_receiver c (s.pexErr c k) dataPhase error
      have standing' := (s.errCharged_canState c (s.pexErr c k) dataPhase .receiver).symm ▸ standing
      rw [s.canError_confine c k dataPhase _ idle]
      exact ⟨(State.confine_rec ..).trans rec,
        fun below passive => State.confine_canState_passive standing' (by omega) (.inr (by omega))⟩
  case integrated =>
    intro s c hc integrates
    refine ⟨_, exec_canIntegrationDone hc integrates, ?_⟩
    exact (State.fld_congr ((State.canLoad_canKeeps _ c []).rd 0x40 (by decide) (by decide)) ..).trans
      (s.canState_setCanState c 2)
  case recovered =>
    intro s c hc recovers
    have counters : ∀ hi lo, ((s.put (canA c 0x44) 23 0 0).setCanState c 1).fld (canA c 0x44) hi lo =
        (s.put (canA c 0x44) 23 0 0).fld (canA c 0x44) hi lo :=
      fun hi lo => State.fld_congr ((State.setCanState_canKeeps ..).rd 0x44 (by decide) (by decide)) hi lo
    exact ⟨_, exec_busOffRecoveryDone hc recovers, State.canState_setCanState ..,
      (counters 8 0).trans (s.fld_put_zero _ (by decide) (by decide) (by decide) (by decide)),
      (counters 23 16).trans (s.fld_put_zero _ (by decide) (by decide) (by decide) (by decide))⟩
  case recover =>
    intro s c hc ready
    refine ⟨_, exec_recover hc ready, fun off => ?_, fun other => if_neg other⟩
    unfold State.canRecover
    rw [if_pos off, State.canState_setCanState]

end Sys2Proof.Machine

/-!
What holds of every command and of every step (95_what_each_step_holds.md): the parts and blocks that a command may
change, and the invariant.
-/

namespace Sys2Proof.Machine

open Sys2Proof

/-! ### The frame of every command -/

/-- The bits of a frame's mask that stand for parts of the state name only parts of `ps`. -/
def coversParts (m : Nat) (ps : List Part) : Bool := Part.all.all (fun p => ps.contains p || !touches m p.bit)

/-- The bits of a frame's mask that stand for register blocks name only blocks of `bs`. -/
def coversBlocks (m : Nat) (bs : List Block) : Bool :=
  (List.range 18).all (fun k => (bs.map Block.num).contains k || !touches m (40 + k))

theorem Part.mem_all (p : Part) : p ∈ Part.all := by cases p <;> decide

theorem part_of_coversParts {m : Nat} {ps : List Part} (h : coversParts m ps = true) (p : Part) :
    p ∈ ps ∨ touches m p.bit = false := by
  have := List.all_eq_true.mp h p p.mem_all
  simpa using this

theorem block_of_coversBlocks {m : Nat} {bs : List Block} (h : coversBlocks m bs = true) {k : Nat} (hk : k < 18) :
    k ∈ bs.map Block.num ∨ touches m (40 + k) = false := by
  have := List.all_eq_true.mp h k (List.mem_range.mpr hk)
  simpa only [Bool.or_eq_true, List.contains_iff_mem, Bool.not_eq_true'] using this

/-- Every command's mask names no part beyond `mayParts`. -/
theorem frameMask_coversParts (c : Instr) : coversParts (frameMask c) (mayParts c) = true := by
  cases c <;> dsimp only [frameMask, mayParts] <;> rfl

/-- Every command's mask names no block beyond `mayBlocks`. -/
theorem frameMask_coversBlocks (c : Instr) : (mayBlocks c).all (coversBlocks (frameMask c)) = true := by
  cases c <;> dsimp only [frameMask, mayBlocks] <;> rfl

theorem rd_of_not_mayWrite {c : Instr} {s t : State} (f : Frame (frameMask c) s t) {a : Nat} (h : ¬ mayWrite c a) :
    t.rd a = s.rd a := by
  have covers := frameMask_coversBlocks c
  unfold mayWrite at h
  cases hb : mayBlocks c with
  | none => simp [hb] at h
  | some bs =>
    simp only [hb, Option.all_some] at h covers
    exact f.blk a ((block_of_coversBlocks covers (blk_lt a)).resolve_left h)

/-- Settles O2: the mask of each command's frame lies within the parts and blocks that its rules name. -/
theorem everyFrame : Obligations.EveryFrame := by
  intro c s t h
  have f := exec_keeps h
  exact {
    pending := f.pending
    parts := fun p hp => f.part p ((part_of_coversParts (frameMask_coversParts c) p).resolve_left hp)
    regs := fun _ ha => rd_of_not_mayWrite f ha }

/-! ### Steps -/

theorem step_of_pending {s : State} {c : Instr} {cs : List Instr} (h : s.pending = c :: cs) :
    step s = exec c { s with pending := cs } := by
  simp [step, h]

theorem step_of_empty {s : State} (h : s.pending = []) : step s = .next s.idle := by
  simp [step, h]

/-- Settles O1: a step reads the queue and nothing else. -/
theorem stepRunsFront : Obligations.StepRunsFront :=
  ⟨fun _ _ _ h => step_of_pending h, fun _ h => step_of_empty h⟩

/-! ### The invariant -/

/-- A frame keeps the canonical forms and the count of dies, whatever it touches. -/
theorem Frame.inv {m : Nat} {s t : State} (f : Frame m s t) (h : s.Inv) : t.Inv where
  regs := f.regsWf h.regs
  mems := f.memsWf h.mems
  dies := f.count ▸ h.dies

/-- A power-on alone may set the system reference back. -/
theorem touches_frameMask_ref {c : Instr} (h : c ≠ .powerOn) : touches (frameMask c) 37 = false := by
  cases c
  case powerOn => exact absurd rfl h
  all_goals (dsimp only [frameMask]; rfl)

/-- Taking a command off the queue keeps the invariant. -/
theorem State.Inv.dequeue {s : State} (h : s.Inv) (cs : List Instr) : ({ s with pending := cs } : State).Inv :=
  ⟨h.regs, h.mems, h.dies⟩

/-- Settles O59: each step runs within a frame, which keeps the canonical forms and counts the fused version and the
system reference upwards. -/
theorem stepInvariant : Obligations.StepInvariant := by
  intro s t h inv
  cases hp : s.pending with
  | nil =>
    rw [step_of_empty hp] at h
    cases h
    have f := s.idle_frame
    exact ⟨f.inv inv, f.svn, fun _ => f.ref rfl⟩
  | cons c cs =>
    rw [step_of_pending hp] at h
    have f := exec_keeps h
    refine ⟨f.inv (inv.dequeue cs), f.svn, fun notPower => f.ref (touches_frameMask_ref ?_)⟩
    simpa using notPower

/-- Settles O60: no register and no memory holds anything, and the part has seven compute dies. -/
theorem resetInvariant : Obligations.ResetInvariant where
  regs := rfl
  mems := rfl
  dies := Nat.le_refl 7

end Sys2Proof.Machine

/-!
The limit of the counter of faulty regulators (17_harbourmaster.md R380): a count adds with saturation at
`0xFFFFFFFE`, so the statement about PMB_ALERT fails where the counter's register holds `0xFFFFFFFF` and no regulator
reports a fault.
-/

namespace Sys2Proof.Machine

open Sys2Proof

/-- A ready package whose counter of faulty regulators stands beyond the top that counting can reach. -/
def State.alertsPastTop : State :=
  ({ State.reset with hm := { State.reset.hm with phase := .ready } } : State).wr (mgtA 0x508) 0xFFFFFFFF

theorem State.alertsPastTop_phase : State.alertsPastTop.hm.phase = .ready := rfl

theorem State.alertsPastTop_count : State.alertsPastTop.rd (mgtA 0x508) = 0xFFFFFFFF := State.rd_wr_self ..

/-- With no regulator to read, an alert changes nothing. -/
theorem exec_pmbAlert_nil (s : State) : exec (.pmbAlert []) s = .next s := by
  show Host.Outcome.next (if s.hm.phase ≠ .ready then s else s) = .next s
  rw [ite_self]

/-- Refutes O56: an alert without a regulator leaves `0xFFFFFFFF` in the counter, which the saturating sum of the
statement takes back to `0xFFFFFFFE`. -/
theorem not_environment : ¬ Obligations.Environment := by
  rintro ⟨-, -, -, -, -, alert⟩
  obtain ⟨t, run, counts⟩ := alert State.alertsPastTop [] State.alertsPastTop_phase
  rw [exec_pmbAlert_nil] at run
  cases run
  rw [State.alertsPastTop_count] at counts
  exact absurd counts (by decide)

end Sys2Proof.Machine

/-!
Ring descriptors and the transaction's descriptors (14_host_rings.md: R329, R332; 15_registers_and_transactions.md:
R345 to R349).
-/

namespace Sys2Proof.Machine

open Sys2Proof

/-! ### What a completion leaves -/

/-- A frame that does not name the global block keeps its registers. -/
theorem Frame.glb {m : Nat} {s t : State} (f : Frame m s t) (h : touches m 40 = false) {a : Nat} (ha : a < 0x100000) :
    t.rd a = s.rd a := f.blk a (by
  have : Machine.blk a = 0 := by unfold Machine.blk; rw [if_pos (by omega)]; omega
  rw [this]
  exact h)

section Starts

variable {s u : State} {r op : Nat} {d : Inflight} (h : Starts s r op d)

include h

/-- A command completes its descriptor after work that keeps the ring's state, the link and the two registers that an
entry reads. -/
theorem Starts.completes_with (hif : u.hif = (s.begin r d.num).hif) (clk : u.clk = s.clk)
    (link : u.rd (hifA 0) = s.rd (hifA 0)) (size : u.rd (ringA r 0x10) = s.rd (ringA r 0x10))
    (tail : u.rd (ringA r 0x20) = s.rd (ringA r 0x20)) (st : Status) :
    Completed s (u.complete r d.num st) r d st 0 0 s.now32 := by
  have begun : u.desc r d.num = some { d with begun := true } := by
    unfold State.desc State.ring
    rw [hif]
    exact State.begin_desc h.desc
  have lost : (u.ring r).lost = ((s.begin r d.num).ring r).lost := by
    unfold State.ring
    rw [hif]
  have now : u.now32 = s.now32 := by
    unfold State.now32
    rw [clk]
  unfold State.complete
  rw [now]
  exact ((State.completeAt_completed st 0 0 s.now32 begun rfl rfl rfl).of (s := s.begin r d.num) link size tail
    lost).begin

end Starts

/-! ### RING_ROLE (R329) -/

/-- The registers of the rings that exist are distinct. -/
theorem ringA_ne (r q : Nat) {o p : Nat} (ho : o < 0x40) (hp : p < 0x40) (h : o ≠ p) :
    ringA r o ≠ ringA q p := by
  unfold ringA
  omega

/-- Ring `q` carries the role bit of `role` and the permissions `perms`. -/
def State.giveRole (s : State) (q role perms : Nat) : State :=
  (s.put (ringA q 0x14) 31 31 role).put (ringA q 0x14) 5 0 perms

theorem State.giveRole_hif (s : State) (q role perms : Nat) : (s.giveRole q role perms).hif = s.hif := by
  unfold State.giveRole
  rw [State.put_hif, State.put_hif]

theorem State.giveRole_clk (s : State) (q role perms : Nat) : (s.giveRole q role perms).clk = s.clk := by
  unfold State.giveRole
  rw [State.put_clk, State.put_clk]

theorem State.giveRole_rd (s : State) (q r : Nat) {o : Nat} (role perms : Nat) (ho : o < 0x40) (h : o ≠ 0x14) : (s.giveRole q role perms).rd (ringA r o) = s.rd (ringA r o) := by
  have ne := ringA_ne q r (by decide : 0x14 < 0x40) ho (Ne.symm h)
  unfold State.giveRole
  rw [State.rd_put_ne _ _ _ _ ne, State.rd_put_ne _ _ _ _ ne]

theorem State.giveRole_link (s : State) (q role perms : Nat) : (s.giveRole q role perms).rd (hifA 0) = s.rd (hifA 0) := by
  have ne := (hifA_ne_ringA 0 q 0x14).symm
  unfold State.giveRole
  rw [State.rd_put_ne _ _ _ _ ne, State.rd_put_ne _ _ _ _ ne]

theorem State.giveRole_installer (s : State) {q : Nat} (role perms : Nat) (h : q ≠ 0) :
    (s.giveRole q role perms).installer q = (role % 2 == 1) := by
  unfold State.giveRole State.installer
  rw [State.flag_put_beside _ _ _ (by decide) (by decide) (by decide),
    State.flag_put_self _ _ _ (Nat.le_refl 31) (by decide) (by decide), decide_eq_false h, Bool.false_or, Nat.sub_self,
    Nat.testBit_zero]
  exact (beq_eq_decide ..).symm

theorem State.installer_congr {s t : State} {r : Nat} (h : t.rd (ringA r 0x14) = s.rd (ringA r 0x14)) :
    t.installer r = s.installer r := by
  unfold State.installer
  rw [State.flag_congr h]

theorem State.giveRole_perms (s : State) (q role perms : Nat) :
    (s.giveRole q role perms).fld (ringA q 0x14) 5 0 = perms % 64 := State.fld_put_self _ _ _ (by decide) (by decide)

/-- A completion reaches no register of a ring but its entry count, where the link's errors stand elsewhere. -/
theorem State.completeAt_rd (s : State) {a : Nat} (r n : Nat) (st : Status) (result info time : Nat) (low : a < 0x900000)
    (tail : ringA r 0x20 ≠ a) (h4 : hifA 4 ≠ a) (h14 : hifA 0x14 ≠ a) :
    (s.completeAt r n st result info time).rd a = s.rd a := by
  unfold State.completeAt
  split
  · rfl
  · extract_lets src taken written op
    have entry : written.rd a = s.rd a := by
      unfold written State.writeEntry
      extract_lets cnt phase lost flags v out counted old held
      have emitted : out.rd a = s.rd a := by
        unfold out State.emitHost
        split
        · rfl
        · exact State.rd_event_ne _ _ h4 h14
      have kept : held.rd a = s.rd a := by
        show counted.rd a = s.rd a
        unfold counted
        rw [(State.tally_below ..).rd a low, State.rd_wr_ne _ _ tail, emitted]
      split
      · exact kept
      · exact kept
    split
    · exact ((State.roleAction_below ..).rd a (by omega)).trans entry
    · exact entry

theorem State.complete_ringA (s : State) (r q : Nat) {o : Nat} (n : Nat) (st : Status) (ho : o < 0x40) (h : o ≠ 0x20) : (s.complete r n st).rd (ringA q o) = s.rd (ringA q o) :=
  s.completeAt_rd r n st _ _ _ (Nat.lt_trans (ringA_lt q o) (by decide)) (ringA_ne r q (by decide) ho (Ne.symm h))
    (hifA_ne_ringA 4 q o) (hifA_ne_ringA 0x14 q o)

theorem exec_nop {s : State} {r : Nat} {d : Inflight} (h : Starts s r 0x00 d) :
    exec (.nop r) s = .next ((s.begin r d.num).complete r d.num .success) := h.guard _

theorem exec_ringRole {s : State} {r : Nat} {d : Inflight} (h : Starts s r 0x01 d) (other : le d.bytes 8 4 ≠ 0)
    (rests : (s.ringOn (le d.bytes 8 4) && s.ringBusy (le d.bytes 8 4)) = false) : exec (.ringRole r) s =
      .next (((s.begin r d.num).giveRole (le d.bytes 8 4) (le d.bytes 12 1) (le d.bytes 14 2)).complete r d.num
        .success) := by
  have busy : (s.begin r d.num).ringBusy (le d.bytes 8 4) = s.ringBusy (le d.bytes 8 4) := by
    unfold State.ringBusy State.reserved
    by_cases e : r = le d.bytes 8 4
    · subst e
      simp [mapIf]
    · rw [State.begin_ring_ne _ _ e]
  refine (h.guard _).trans ?_
  dsimp only
  rw [if_neg other, busy, show (s.begin r d.num).ringOn (le d.bytes 8 4) = s.ringOn (le d.bytes 8 4) from rfl,
    if_neg (ne_true_of_eq_false rests)]
  rfl

/-! ### The transaction (R345 to R349) -/

theorem State.cfgClose_cfgOpen (s : State) : s.cfgClose.cfgOpen = false := by
  unfold State.cfgClose State.cfgOpen
  extract_lets u
  rw [State.flag_put_ne _ _ _ _ _ (by decide), State.flag_put_beside _ _ _ (by decide) (by decide) (by decide),
    State.flag_put_self _ _ _ (by decide) (by decide) (by decide), Nat.zero_testBit]

theorem State.cfgClose_staged (s : State) : s.cfgClose.cfg.staged = [] := rfl

/-- A completion leaves the transaction. -/
theorem State.complete_cfg (s : State) (r n : Nat) (st : Status) : (s.complete r n st).cfg = s.cfg :=
  (State.complete_frame ..).cfg rfl

theorem State.complete_cfgOpen (s : State) (r n : Nat) (st : Status) : (s.complete r n st).cfgOpen = s.cfgOpen :=
  State.flag_congr ((State.complete_frame ..).glb rfl (by decide)) 0

theorem State.complete_glb (s : State) (r n : Nat) (st : Status) {a : Nat} (h : a < 0x100000) :
    (s.complete r n st).rd a = s.rd a := (State.complete_frame ..).glb rfl h

section Miss

variable {s : State} {r op : Nat} {d : Inflight} (h : Starts s r op d)

include h

/-- A descriptor of the owner that comes while the transaction commits. -/
theorem Starts.cfgMiss_busy (owns : s.cfgOwns r = true) :
    Completed s ((s.begin r d.num).cfgMiss r d.num) r d .cfgBusy 0 0 s.now32 ∧
      ((s.begin r d.num).cfgMiss r d.num).cfg = s.cfg := by
  have : (s.begin r d.num).cfgOwns r = true := owns
  unfold State.cfgMiss
  rw [if_pos this]
  exact ⟨h.refuses _, State.complete_cfg ..⟩

/-- A descriptor of a ring without a transaction. -/
theorem Starts.cfgMiss_notOpen (foreign : s.cfgOwns r = false) (kept : s.cfg.timedOut ≠ some r) :
    Completed s ((s.begin r d.num).cfgMiss r d.num) r d .cfgNotOpen 0 0 s.now32 ∧
      ((s.begin r d.num).cfgMiss r d.num).cfg = s.cfg := by
  have owns : ¬(s.begin r d.num).cfgOwns r = true := ne_true_of_eq_false foreign
  have late : ¬(s.begin r d.num).cfg.timedOut = some r := kept
  unfold State.cfgMiss
  rw [if_neg owns, if_neg late]
  exact ⟨h.refuses _, State.complete_cfg ..⟩

/-- A descriptor of the ring whose transaction timed out. -/
theorem Starts.cfgMiss_timeout (foreign : s.cfgOwns r = false) (late : s.cfg.timedOut = some r) :
    Completed s ((s.begin r d.num).cfgMiss r d.num) r d .cfgTimeout 0 0 s.now32 := by
  have owns : ¬(s.begin r d.num).cfgOwns r = true := ne_true_of_eq_false foreign
  have late' : (s.begin r d.num).cfg.timedOut = some r := late
  unfold State.cfgMiss
  rw [if_neg owns, if_pos late']
  exact h.completes_with (by rfl) (by rfl) (by rfl) (by rfl) (by rfl) _

end Miss

theorem exec_cfgRollback {s : State} {r : Nat} {d : Inflight} (h : Starts s r 0x04 d) : exec (.cfgRollback r) s =
    .next (if s.cfgOwns r && !s.cfgCommitting then (s.begin r d.num).cfgClose.complete r d.num .success
      else (s.begin r d.num).cfgMiss r d.num) := h.guard _

/-- Settles O16: each descriptor completes after the one change that its rule names. -/
theorem ringDescriptors : Obligations.RingDescriptors := by
  intro s r d
  refine ⟨fun h => ⟨_, exec_nop h, h.refuses _⟩, fun h other _ rests => ?_, fun h => ?_⟩
  · refine ⟨_, exec_ringRole h other rests, h.completes_with (State.giveRole_hif ..)
      ((State.giveRole_clk ..).trans (State.begin_clk ..)) ((State.giveRole_link ..).trans (State.begin_rd ..))
      ((State.giveRole_rd _ _ _ _ _ (by decide) (by decide)).trans (State.begin_rd ..))
      ((State.giveRole_rd _ _ _ _ _ (by decide) (by decide)).trans (State.begin_rd ..)) _, ?_, ?_⟩
    · exact (State.installer_congr (State.complete_ringA _ _ _ _ _ (by decide) (by decide))).trans
        (State.giveRole_installer _ _ _ other)
    · rw [State.fld_congr (State.complete_ringA _ _ _ _ _ (by decide) (by decide)), State.giveRole_perms]
  · refine ⟨_, exec_cfgRollback h, fun owns rests => ?_, fun owns commits => ?_, fun foreign kept => ?_,
      fun foreign late => ?_⟩
    · rw [if_pos (by simp [owns, rests])]
      exact ⟨h.completes_now (State.cfgClose_frame _) rfl rfl rfl _ 0,
        (State.complete_cfgOpen ..).trans (State.cfgClose_cfgOpen _), congrArg Cfg.staged (State.complete_cfg ..)⟩
    · rw [if_neg (by simp [commits])]
      exact h.cfgMiss_busy owns
    · rw [if_neg (by simp [foreign])]
      exact h.cfgMiss_notOpen foreign kept
    · rw [if_neg (by simp [foreign])]
      exact h.cfgMiss_timeout foreign late

end Sys2Proof.Machine

/-!
Rings (14_host_rings.md: R323 to R331): doorbells, enabling and disabling, fetching, vectors and the host's link.
-/

namespace Sys2Proof.Machine

open Sys2Proof

/-! ### Halts and doorbells (R327, R328) -/

theorem State.haltRing_halted (s : State) (r : Nat) (st : Status) : (s.haltRing r st).ringHalted r = true := by
  unfold State.haltRing State.ringHalted
  extract_lets u
  rw [State.flag_event_ne _ _ _ (hifA_ne_ringA _ _ _) (hifA_ne_ringA _ _ _),
    State.flag_put_beside _ _ _ (by decide) (by decide) (by decide),
    State.flag_put_self _ _ _ (by decide) (by decide) (by decide)]
  rfl

theorem State.haltRing_status (s : State) (r : Nat) (st : Status) :
    (s.haltRing r st).fld (ringA r 0x18) 31 24 = st.code % 256 := by
  unfold State.haltRing
  extract_lets u
  rw [State.fld_event_ne _ _ _ _ (hifA_ne_ringA _ _ _) (hifA_ne_ringA _ _ _), State.fld_put_self _ _ _ (by decide) (by decide)]
  rfl

/-- What follows a halt, the end of the ring's transaction and of its maker session, is no register of the rings. -/
theorem State.haltAll_ringA (s : State) (r q o : Nat) (st : Status) :
    (s.haltAll r st).rd (ringA q o) = (s.haltRing r st).rd (ringA q o) :=
  ((State.makerRing_frame ..).blk _ (touches_ring rfl q o)).trans ((State.cfgRing_frame ..).blk _ (touches_ring rfl q o))

theorem State.haltAll_halted (s : State) (r : Nat) (st : Status) : (s.haltAll r st).ringHalted r = true :=
  (State.flag_congr (s.haltAll_ringA r r 0x18 st) 1).trans (s.haltRing_halted r st)

theorem State.haltAll_status (s : State) (r : Nat) (st : Status) :
    (s.haltAll r st).fld (ringA r 0x18) 31 24 = st.code % 256 :=
  (State.fld_congr (s.haltAll_ringA r r 0x18 st) ..).trans (s.haltRing_status r st)

theorem State.dbIgnored_flag (s : State) : s.dbIgnored.flag (hifA 4) 2 = true :=
  State.flag_event _ (by decide) (by decide)

theorem State.dbIgnored_hif (s : State) : s.dbIgnored.hif = s.hif :=
  (State.event_frame (m := 0x20000100000) rfl (tb_hifA rfl) (tb_hifA rfl) ..).hif rfl

theorem State.setRing_ring (s : State) (r : Nat) (x : Ring) : (s.setRing r x).ring r = x := State.ring_setRing ..

/-- Settles O26: a doorbell takes one of three ways, by whether the ring is live and the value in range. -/
theorem doorbells : Obligations.Doorbells := by
  intro s r v hr
  have hr' : decide (r < 8192) = true := decide_eq_true hr
  refine ⟨⟨_, guardI_true hr', ?_, ?_, ?_⟩, ⟨_, guardI_true hr', ?_, ?_, ?_⟩⟩
  · rintro ⟨on, runs⟩ ⟨forward, near⟩
    rw [if_neg (by simp [on, runs])]
    dsimp only
    rw [if_neg (by simp only [Bool.or_eq_true, decide_eq_true_eq]; omega)]
    exact ⟨congrArg Ring.sqTail (State.setRing_ring ..), rfl⟩
  · rintro ⟨on, runs⟩ out
    rw [if_neg (by simp [on, runs])]
    dsimp only
    rw [if_pos (by simp only [Bool.or_eq_true, decide_eq_true_eq]; omega)]
    exact State.haltAll_halted ..
  · intro dead
    rw [if_pos (by revert dead; cases s.ringOn r <;> cases s.ringHalted r <;> simp)]
    exact ⟨State.dbIgnored_flag s, State.dbIgnored_hif s⟩
  · rintro ⟨on, runs⟩ ⟨forward, near⟩
    rw [if_neg (by simp [on, runs])]
    dsimp only
    rw [if_neg (by simp only [Bool.or_eq_true, decide_eq_true_eq]; omega)]
    exact ⟨congrArg Ring.cqHead (State.setRing_ring ..), rfl⟩
  · rintro ⟨on, runs⟩ out
    rw [if_neg (by simp [on, runs])]
    dsimp only
    rw [if_pos (by simp only [Bool.or_eq_true, decide_eq_true_eq]; omega)]
    exact State.haltAll_halted ..
  · intro dead
    rw [if_pos (by revert dead; cases s.ringOn r <;> cases s.ringHalted r <;> simp)]
    exact ⟨State.dbIgnored_flag s, State.dbIgnored_hif s⟩

/-! ### Enabling and disabling a ring (R326) -/

/-- What a write of HIF_RING_CFG puts into the register of a disabled ring before ENABLE counts. -/
def State.ringSetup (s : State) (r : Nat) (val : Word) : State :=
  (if 6 ≤ bits val 20 16 ∧ bits val 20 16 ≤ 16 then s.put (ringA r 0x10) 20 16 (bits val 20 16) else s).put (ringA r 0x10)
    10 0 (bits val 10 0)

section Setup

variable (s : State) (r : Nat) (val : Word)

theorem State.ringSetup_rd_ne {a : Nat} (h : ringA r 0x10 ≠ a) : (s.ringSetup r val).rd a = s.rd a := by
  unfold State.ringSetup
  rw [State.rd_put_ne _ _ _ _ h]
  split
  · exact State.rd_put_ne _ _ _ _ h
  · rfl

theorem State.ringSetup_ringOn : (s.ringSetup r val).ringOn r = s.ringOn r := by
  unfold State.ringSetup State.ringOn
  rw [State.flag_put_beside _ _ _ (by decide) (by decide) (by decide)]
  split
  · exact State.flag_put_beside _ _ _ (by decide) (by decide) (by decide)
  · rfl

theorem State.ringSetup_vector : (s.ringSetup r val).fld (ringA r 0x10) 10 0 = bits val 10 0 := by
  unfold State.ringSetup
  rw [State.fld_put_self _ _ _ (by decide) (by decide)]
  exact Nat.mod_eq_of_lt (bits_lt val 10 0)

theorem State.ringSetup_size (low : 6 ≤ bits val 20 16) (high : bits val 20 16 ≤ 16) :
    (s.ringSetup r val).fld (ringA r 0x10) 20 16 = bits val 20 16 := by
  unfold State.ringSetup
  rw [if_pos ⟨low, high⟩, State.fld_put_beside _ _ _ (by decide) (by decide) (by decide) (by decide),
    State.fld_put_self _ _ _ (by decide) (by decide)]
  exact Nat.mod_eq_of_lt (bits_lt val 20 16)

theorem State.ringSetup_accepted : (s.ringSetup r val).drvAccepted = s.drvAccepted :=
  State.flag_congr (s.ringSetup_rd_ne r val (by unfold ringA mgtA; omega)) 0

end Setup

/-- A disabled ring whose ENABLE is written. -/
def State.ringStart (s : State) (r : Nat) : State :=
  let u := (s.put (ringA r 0x10) 31 31 1).wr (ringA r 0x1C) 0
  (u.wr (ringA r 0x20) 0).setRing r { Ring.init with classC := (u.ring r).classC }

theorem State.ringStart_cfg (s : State) (r : Nat) :
    (s.ringStart r).rd (ringA r 0x10) = putBits (s.rd (ringA r 0x10)) 31 31 1 := by
  have head := ringA_ne r r (by decide : 0x1C < 0x40) (by decide : 0x10 < 0x40) (by decide)
  have tail := ringA_ne r r (by decide : 0x20 < 0x40) (by decide : 0x10 < 0x40) (by decide)
  unfold State.ringStart
  extract_lets u
  rw [State.setRing_rd, State.rd_wr_ne _ _ tail, show u.rd (ringA r 0x10) = _ from State.rd_wr_ne _ _ head, State.rd_put_self]

theorem State.ringStart_head (s : State) (r : Nat) : (s.ringStart r).rd (ringA r 0x1C) = 0 := by
  have tail := ringA_ne r r (by decide : 0x20 < 0x40) (by decide : 0x1C < 0x40) (by decide)
  unfold State.ringStart
  extract_lets u
  rw [State.setRing_rd, State.rd_wr_ne _ _ tail, show u.rd (ringA r 0x1C) = _ from State.rd_wr_self ..]

theorem State.ringStart_tail (s : State) (r : Nat) : (s.ringStart r).rd (ringA r 0x20) = 0 := by
  unfold State.ringStart
  extract_lets u
  rw [State.setRing_rd, State.rd_wr_self]

theorem State.ringStart_ring (s : State) (r : Nat) :
    ∃ n, (s.ringStart r).ring r = { Ring.init with classC := n } := ⟨_, State.ring_setRing ..⟩

/-- An idle ring whose ENABLE is cleared. -/
def State.ringStop (s : State) (r : Nat) : State :=
  ((((s.put (ringA r 0x10) 31 31 0).wr (ringA r 0x18) 0).cfgRing r).makerRing r).updateRing r

theorem State.ringStop_ringA (s : State) (r o : Nat) :
    (s.ringStop r).rd (ringA r o) = ((s.put (ringA r 0x10) 31 31 0).wr (ringA r 0x18) 0).rd (ringA r o) :=
  ((State.updateRing_frame ..).blk _ (touches_ring rfl r o)).trans
    (((State.makerRing_frame ..).blk _ (touches_ring rfl r o)).trans
      ((State.cfgRing_frame ..).blk _ (touches_ring rfl r o)))

theorem State.ringStop_ringOn (s : State) (r : Nat) : (s.ringStop r).ringOn r = false := by
  have ne := ringA_ne r r (by decide : 0x18 < 0x40) (by decide : 0x10 < 0x40) (by decide)
  unfold State.ringOn
  rw [State.flag_congr (s.ringStop_ringA r 0x10), State.flag_wr_ne _ _ _ ne,
    State.flag_put_self _ _ _ (by decide) (by decide) (by decide), Nat.zero_testBit]

theorem State.ringStop_halted (s : State) (r : Nat) : (s.ringStop r).ringHalted r = false := by
  unfold State.ringHalted
  rw [State.flag_congr (s.ringStop_ringA r 0x18)]
  unfold State.flag
  rw [State.rd_wr_self]
  exact Nat.zero_testBit 1

theorem State.ringStop_cfgOpen {s : State} {r : Nat} (owns : s.cfgOwns r = true) (rests : s.cfgCommitting = false) :
    (s.ringStop r).cfgOpen = false := by
  have kept : ((s.put (ringA r 0x10) 31 31 0).wr (ringA r 0x18) 0).rd 0x100 = s.rd 0x100 := by
    rw [State.rd_wr_ne _ _ (by unfold ringA; omega), State.rd_put_ne _ _ _ _ (by unfold ringA; omega)]
  have closes : (((s.put (ringA r 0x10) 31 31 0).wr (ringA r 0x18) 0).cfgRing r).cfgOpen = false := by
    unfold State.cfgRing
    rw [if_pos]
    · exact State.cfgClose_cfgOpen _
    · unfold State.cfgOwns State.cfgOpen State.cfgOwner State.cfgCommitting at *
      rw [State.flag_congr kept, State.flag_congr kept, State.fld_congr kept, owns, rests]
      rfl
  exact (State.flag_congr (((State.updateRing_frame ..).glb rfl (by decide)).trans
    ((State.makerRing_frame ..).glb rfl (by decide))) 0).trans closes

section CfgWrite

variable {s : State} {r : Nat} {val : Word}

theorem State.ringCfgWrite_off (off : s.ringOn r = false) : s.ringCfgWrite r val =
    if !s.drvAccepted then s.ringSetup r val
    else if val.toNat.testBit 31 then (s.ringSetup r val).ringStart r
    else s.ringSetup r val := by
  unfold State.ringCfgWrite
  extract_lets wasOn n sized vectored enabled src stopped
  have set : vectored = s.ringSetup r val := by
    unfold vectored sized wasOn n
    simp only [off, Bool.not_false, Bool.true_and, Bool.and_eq_true, decide_eq_true_eq]
    rfl
  have wasOff : wasOn = false := off
  unfold State.ringStart
  simp only [enabled, src, set, wasOff, State.ringSetup_accepted, Bool.not_false, Bool.true_or, if_true, Bool.false_eq_true,
    if_false]

theorem State.ringCfgWrite_on (on : s.ringOn r = true) : s.ringCfgWrite r val =
    if !s.drvAccepted || val.toNat.testBit 31 || s.ringBusy r then s else s.ringStop r := by
  unfold State.ringCfgWrite
  extract_lets wasOn n sized vectored enabled src stopped
  have was : wasOn = true := on
  have set : vectored = s := by
    unfold vectored sized
    rw [was]
    rfl
  unfold State.ringStop
  simp only [stopped, set, was, Bool.not_true, Bool.false_or, if_true, Bool.or_eq_true]
  cases s.drvAccepted <;> cases val.toNat.testBit 31 <;> simp only [Bool.not_true, Bool.not_false, Bool.false_eq_true,
    if_true, if_false, true_or, or_true, false_or, or_false]

end CfgWrite

/-- Setting or clearing ENABLE in a value leaves the fields below it. -/
theorem bits_or_enable (val : Word) {hi lo : Nat} (h : hi < 31) (h' : lo ≤ hi) :
    bits (val ||| 0x80000000#32) hi lo = bits val hi lo := by
  apply Nat.eq_of_testBit_eq
  intro i
  rw [testBit_bits, testBit_bits, BitVec.toNat_or, Nat.testBit_or]
  by_cases w : i < hi - lo + 1
  · have : (0x80000000#32).toNat.testBit (lo + i) = false := by
      rw [show (0x80000000#32).toNat = 2 ^ 31 from rfl, Nat.testBit_two_pow]
      exact decide_eq_false (by omega)
    rw [this, Bool.or_false]
  · simp [w]

theorem bits_and_disable (val : Word) {hi lo : Nat} (h : hi < 31) (h' : lo ≤ hi) :
    bits (val &&& 0x7FFFFFFF#32) hi lo = bits val hi lo := by
  apply Nat.eq_of_testBit_eq
  intro i
  rw [testBit_bits, testBit_bits, BitVec.toNat_and, Nat.testBit_and]
  by_cases w : i < hi - lo + 1
  · have : (0x7FFFFFFF#32).toNat.testBit (lo + i) = true := by
      rw [show (0x7FFFFFFF#32).toNat = 2 ^ 31 - 1 from rfl, Nat.testBit_two_pow_sub_one]
      exact decide_eq_true (by omega)
    rw [this, Bool.and_true]
  · simp [w]

theorem testBit_or_enable (val : Word) : (val ||| 0x80000000#32).toNat.testBit 31 = true := by
  rw [BitVec.toNat_or, Nat.testBit_or, show (0x80000000#32).toNat.testBit 31 = true from by decide, Bool.or_true]

theorem testBit_and_disable (val : Word) : (val &&& 0x7FFFFFFF#32).toNat.testBit 31 = false := by
  rw [BitVec.toNat_and, Nat.testBit_and, show (0x7FFFFFFF#32).toNat.testBit 31 = false from by decide, Bool.and_false]

section Enables

variable {s : State} {r : Nat} {val : Word} (exists_ : r < 8192) (ready : s.isReady = true)

include exists_ ready

theorem exec_ringEnable : exec (.ringEnable r val) s = .next (s.ringCfgWrite r (val ||| 0x80000000#32)) :=
  (guardI_true (decide_eq_true exists_)).trans (congrArg Host.Outcome.next (if_pos ready))

theorem exec_ringDisable : exec (.ringDisable r val) s = .next (s.ringCfgWrite r (val &&& 0x7FFFFFFF#32)) :=
  (guardI_true (decide_eq_true exists_)).trans (congrArg Host.Outcome.next (if_pos ready))

end Enables

theorem State.ringStart_fld (s : State) (r : Nat) {hi lo : Nat} (h : hi < 31) (h' : lo ≤ hi) :
    (s.ringStart r).fld (ringA r 0x10) hi lo = s.fld (ringA r 0x10) hi lo := by
  unfold State.fld
  rw [State.ringStart_cfg, bits_putBits_ne (by decide) (by decide) (.inl h) h']

/-- Settles O27: a disabled ring takes its set-up and then ENABLE; an enabled one only stops, once idle. -/
theorem ringEnables : Obligations.RingEnables := by
  intro s r val hr ready
  refine ⟨fun off accepted => ⟨_, exec_ringEnable hr ready, ?_⟩, fun off refused => ⟨_, exec_ringEnable hr ready, ?_⟩,
    fun on => ?_, fun on accepted idle => ⟨_, exec_ringDisable hr ready, ?_⟩, fun on busy => ?_,
    fun off => ⟨_, exec_ringDisable hr ready, ?_⟩⟩
  · rw [State.ringCfgWrite_off off, accepted, if_neg (by simp), if_pos (testBit_or_enable val)]
    have fields := fun hi lo (h : hi < 31) (h' : lo ≤ hi) =>
      (s.ringSetup r (val ||| 0x80000000#32)).ringStart_fld r h h'
    have vector := bits_or_enable val (by decide : 10 < 31) (by decide : 0 ≤ 10)
    have size := bits_or_enable val (by decide : 20 < 31) (by decide : 16 ≤ 20)
    refine ⟨?_, State.ringStart_head .., State.ringStart_tail .., ?_, ?_, ?_, fun low high => ?_⟩
    · unfold State.ringOn State.flag
      rw [State.ringStart_cfg, testBit_putBits (by decide) (by decide), if_pos (by decide)]
      rfl
    · rw [fields 10 0 (by decide) (by decide), State.ringSetup_vector, vector]
    · obtain ⟨n, fresh⟩ := (s.ringSetup r (val ||| 0x80000000#32)).ringStart_ring r
      exact congrArg Ring.fl fresh
    · obtain ⟨n, fresh⟩ := (s.ringSetup r (val ||| 0x80000000#32)).ringStart_ring r
      exact congrArg Ring.sqTail fresh
    · rw [fields 20 16 (by decide) (by decide), State.ringSetup_size _ _ _ (by omega) (by omega), size]
  · rw [State.ringCfgWrite_off off, refused, if_pos (by simp)]
    exact (State.ringSetup_ringOn ..).trans off
  · rw [exec_ringEnable hr ready, State.ringCfgWrite_on on, testBit_or_enable, if_pos (by simp)]
  · rw [State.ringCfgWrite_on on, testBit_and_disable, if_neg (by simp [accepted, idle])]
    exact ⟨State.ringStop_ringOn .., State.ringStop_halted .., fun owns rests => State.ringStop_cfgOpen owns rests⟩
  · rw [exec_ringDisable hr ready, State.ringCfgWrite_on on, if_pos (by simp [busy])]
  · have setup : s.ringCfgWrite r (val &&& 0x7FFFFFFF#32) = s.ringSetup r (val &&& 0x7FFFFFFF#32) := by
      rw [State.ringCfgWrite_off off, testBit_and_disable]
      exact ite_self _
    rw [setup]
    exact ⟨(State.ringSetup_ringOn ..).trans off,
      (State.ringSetup_vector ..).trans (bits_and_disable val (by decide) (by decide))⟩

end Sys2Proof.Machine

/-!
Fetching a descriptor (14_host_rings.md: R328 to R331) and opening a transaction (15_registers_and_transactions.md:
R345).
-/

namespace Sys2Proof.Machine

open Sys2Proof

/-! ### The checks of a descriptor read little of the state -/

/-- What the checks of a descriptor of ring `r` read. -/
structure State.SameChecks (s t : State) (r : Nat) : Prop where
  hm : t.hm = s.hm
  dies : t.rd 4 = s.rd 4
  role : t.rd (ringA r 0x14) = s.rd (ringA r 0x14)

theorem State.SameChecks.inService {s t : State} {r : Nat} (h : s.SameChecks t r) : t.inService = s.inService := by
  unfold State.inService
  rw [State.fld_congr h.dies]

theorem State.SameChecks.enumOk {s t : State} {r : Nat} (h : s.SameChecks t r) (op : Nat) (b : Bytes) :
    t.enumOk op b = s.enumOk op b := by
  unfold State.enumOk
  rw [h.inService]

theorem State.SameChecks.makerOn {s t : State} {r : Nat} (h : s.SameChecks t r) : t.makerOn r = s.makerOn r := by
  unfold State.makerOn
  rw [h.hm]

theorem State.SameChecks.perm {s t : State} {r : Nat} (h : s.SameChecks t r) (p : Nat) : t.perm r p = s.perm r p := by
  unfold State.perm
  rw [State.installer_congr h.role, State.flag_congr h.role]

theorem State.SameChecks.roleCheck {s t : State} {r : Nat} (h : s.SameChecks t r) (op : Nat) (b : Bytes) :
    t.roleCheck r op b = s.roleCheck r op b := by
  unfold State.roleCheck
  rw [State.installer_congr h.role, h.makerOn]
  simp only [h.perm]

theorem State.SameChecks.checkDesc {s t : State} {r : Nat} (h : s.SameChecks t r) (b : Bytes) :
    t.checkDesc r b = s.checkDesc r b := by
  unfold State.checkDesc
  simp only [h.enumOk, h.roleCheck]
  rfl

/-! ### Fetching (R328) -/

/-- The descriptor that ring `r` fetches with the bytes `b`. -/
def State.fetchedDesc (s : State) (r : Nat) (b : Bytes) : Inflight :=
  ⟨(s.rd (ringA r 0x1C)).toNat, dTag b, dOp b, (dFlags b).testBit 0, (dFlags b).testBit 1, b, false, s.fetchInfo⟩

/-- Ring `r` has taken its next descriptor, with the bytes `b`, in flight. -/
def State.takeDesc (s : State) (r : Nat) (b : Bytes) : State :=
  let u := (s.wr (ringA r 0x1C) (BitVec.ofNat 32 ((s.rd (ringA r 0x1C)).toNat + 1))).tally 7 0x50 0xFF 1
  u.setRing r { u.ring r with fl := (u.ring r).fl ++ [s.fetchedDesc r b] }

section Take

variable (s : State) (r : Nat) (b : Bytes)

theorem State.takeDesc_ring :
    (s.takeDesc r b).ring r = { s.ring r with fl := (s.ring r).fl ++ [s.fetchedDesc r b] } := by
  unfold State.takeDesc
  extract_lets u
  have kept : u.ring r = s.ring r := by
    unfold State.ring
    rw [show u.hif = s.hif from ((State.tally_frame ..).hif rfl).trans (State.wr_hif ..)]
  rw [State.ring_setRing]
  exact congrArg (fun x : Ring => { x with fl := x.fl ++ [s.fetchedDesc r b] }) kept

theorem State.takeDesc_rd {a : Nat} (low : a < 0x900000) (h : ringA r 0x1C ≠ a) : (s.takeDesc r b).rd a = s.rd a := by
  unfold State.takeDesc
  extract_lets u
  rw [State.setRing_rd]
  exact ((State.tally_below ..).rd a low).trans (State.rd_wr_ne _ _ h)

theorem State.takeDesc_ringA {o : Nat} (ho : o < 0x40) (h : o ≠ 0x1C) :
    (s.takeDesc r b).rd (ringA r o) = s.rd (ringA r o) :=
  s.takeDesc_rd r b (Nat.lt_trans (ringA_lt r o) (by decide)) (ringA_ne r r (by decide) ho (Ne.symm h))

theorem State.takeDesc_head :
    (s.takeDesc r b).rd (ringA r 0x1C) = BitVec.ofNat 32 ((s.rd (ringA r 0x1C)).toNat + 1) := by
  unfold State.takeDesc
  extract_lets u
  rw [State.setRing_rd]
  exact ((State.tally_below ..).rd _ (Nat.lt_trans (ringA_lt r 0x1C) (by decide))).trans (State.rd_wr_self ..)

theorem State.takeDesc_clk : (s.takeDesc r b).clk = s.clk := by
  unfold State.takeDesc
  extract_lets u
  rw [State.setRing_clk]
  exact ((State.tally_frame ..).clk rfl).trans (State.wr_clk ..)

theorem State.takeDesc_hm : (s.takeDesc r b).hm = s.hm := by
  unfold State.takeDesc
  extract_lets u
  rw [State.setRing_hm]
  exact ((State.tally_frame ..).hm rfl).trans (State.wr_hm ..)

theorem State.takeDesc_cfg : (s.takeDesc r b).cfg = s.cfg := by
  unfold State.takeDesc
  extract_lets u
  rw [State.setRing_cfg]
  exact ((State.tally_frame ..).cfg rfl).trans (State.wr_cfg ..)

theorem State.takeDesc_checks : s.SameChecks (s.takeDesc r b) r where
  hm := State.takeDesc_hm ..
  dies := State.takeDesc_rd _ _ _ (by decide) (by unfold ringA; omega)
  role := State.takeDesc_ringA _ _ _ (by decide) (by decide)

/-- The descriptor in flight is the one fetched, where no other has its number. -/
theorem State.takeDesc_desc (none : s.desc r (s.rd (ringA r 0x1C)).toNat = none) :
    (s.takeDesc r b).desc r (s.fetchedDesc r b).num = some (s.fetchedDesc r b) := by
  have before : (s.ring r).fl.filter (fun d => d.num == (s.rd (ringA r 0x1C)).toNat) = [] := by
    rw [State.desc_eq_none_iff] at none
    exact List.filter_eq_nil_iff.mpr fun d hd => by simpa using none d hd
  unfold State.desc
  rw [State.takeDesc_ring]
  show (((s.ring r).fl ++ [s.fetchedDesc r b]).filter (fun d => d.num == (s.rd (ringA r 0x1C)).toNat)).head? = _
  rw [List.filter_append, before, List.nil_append, List.filter_singleton]
  simp [State.fetchedDesc]

/-- A fetched descriptor that its checks refuse completes at once. -/
theorem State.takeDesc_completes (none : s.desc r (s.rd (ringA r 0x1C)).toNat = none) (st : Status) :
    Completed s ((s.takeDesc r b).complete r (s.rd (ringA r 0x1C)).toNat st) r (s.fetchedDesc r b) st 0 0 s.now32 := by
  have now : (s.takeDesc r b).now32 = s.now32 := by
    unfold State.now32
    rw [State.takeDesc_clk]
  unfold State.complete
  rw [now]
  exact (State.completeAt_completed st 0 0 s.now32 (s.takeDesc_desc r b none) rfl rfl rfl).of
    (s.takeDesc_rd r b (by decide) (Ne.symm (hifA_ne_ringA 0 r 0x1C))) (s.takeDesc_ringA r b (by decide) (by decide))
    (s.takeDesc_ringA r b (by decide) (by decide)) (by rw [State.takeDesc_ring])

end Take

/-- Ring `r` may fetch: it is live, has work, and room for the completion. -/
structure State.Fetches (s : State) (r : Nat) : Prop where
  exists_ : r < 8192
  ready : s.isReady = true
  on : s.ringOn r = true
  runs : s.ringHalted r = false
  up : s.linkUp = true
  work : (s.rd (ringA r 0x1C)).toNat ≠ (s.ring r).sqTail
  room : s.reserved r < s.cqFree r

section Fetch

variable {s : State} {r : Nat} (h : s.Fetches r)

include h

theorem State.Fetches.live : ¬(!s.isReady || !s.ringOn r || s.ringHalted r || !s.linkUp ||
    (s.rd (ringA r 0x1C)).toNat = (s.ring r).sqTail || s.cqFree r ≤ s.reserved r) = true := by
  obtain ⟨-, ready, on, runs, up, work, room⟩ := h
  simp [ready, on, runs, up, work, room]

theorem exec_descriptorFetch_failed : exec (.descriptorFetch r none) s = .next (s.haltAll r .hostMemoryFault) := by
  refine (guardI_true (decide_eq_true h.exists_)).trans ?_
  dsimp only
  rw [if_neg h.live]

theorem exec_descriptorFetch_lost (raw : Bytes) (lost : s.loss.isSome = true)
    (job : jobOp (dOp (fitTo 64 raw)) = true) : exec (.descriptorFetch r (some raw)) s = .next s := by
  refine (guardI_true (decide_eq_true h.exists_)).trans ?_
  dsimp only
  rw [if_neg h.live, if_pos (by rw [lost, job]; rfl)]

theorem exec_descriptorFetch (raw : Bytes) (taken : (s.loss.isSome && jobOp (dOp (fitTo 64 raw))) = false) :
    exec (.descriptorFetch r (some raw)) s = .next (
      if s.checkDesc r (fitTo 64 raw) = .success
      then (s.takeDesc r (fitTo 64 raw)).fetched r (s.rd (ringA r 0x1C)).toNat (dOp (fitTo 64 raw))
      else (s.takeDesc r (fitTo 64 raw)).complete r (s.rd (ringA r 0x1C)).toNat (s.checkDesc r (fitTo 64 raw))) := by
  rw [← (s.takeDesc_checks r (fitTo 64 raw)).checkDesc]
  refine (guardI_true (decide_eq_true h.exists_)).trans ?_
  dsimp only
  rw [if_neg h.live, if_neg (ne_true_of_eq_false taken)]
  rfl

end Fetch

/-- Settles O28: a descriptor is taken in flight, and then its checks decide. -/
theorem descriptorFetch : Obligations.DescriptorFetch := by
  intro s r exists_ ready on runs up work room head none
  have h : s.Fetches r := ⟨exists_, ready, on, runs, up, work, room⟩
  refine ⟨⟨_, exec_descriptorFetch_failed h, State.haltAll_halted .., State.haltAll_status ..⟩, ?_,
    fun raw lost job => exec_descriptorFetch_lost h raw lost job⟩
  intro raw b d taken
  refine ⟨_, exec_descriptorFetch h raw taken, ?_, fun good => ?_, fun bad => ?_⟩
  · split
    · exact ((State.fetched_frame ..).blk _ (touches_ring rfl r _)).trans (State.takeDesc_head ..)
    · exact (State.complete_ringA _ _ _ _ _ (by decide) (by decide)).trans (State.takeDesc_head ..)
  · rw [if_pos good]
    unfold State.ring
    rw [(State.fetched_frame ..).hif rfl]
    exact congrArg Ring.fl (s.takeDesc_ring r b)
  · rw [if_neg bad]
    exact s.takeDesc_completes r b none _

/-! ### CFG_BEGIN (R345) -/

/-- Ring `r` has opened a transaction with nothing staged. -/
def State.cfgBegun (s : State) (r : Nat) : State :=
  let u := ((s.put 0x100 0 0 1).put 0x100 28 16 r).count 0x108
  { u with cfg := ⟨[], u.clk.ref, none, 0, none⟩ }

theorem State.cfgBegun_frame (s : State) (r : Nat) : Frame 0x10000100100 s (s.cfgBegun r) := by
  unfold State.cfgBegun
  apply Frame.upd (((State.put_frame rfl rfl ..).trans (State.put_frame rfl rfl ..)).trans (State.count_frame rfl rfl ..))
  all_goals first | exact Or.inr rfl | exact Or.inl rfl | exact Or.inl (Nat.le_refl _) | rfl

theorem exec_cfgBegin {s : State} {r : Nat} {d : Inflight} (h : Starts s r 0x02 d) : exec (.cfgBegin r) s =
    .next (if s.cfgOpen || s.cfgCommitting then (s.begin r d.num).complete r d.num .cfgBusy
      else ((s.begin r d.num).cfgBegun r).complete r d.num .success) := h.guard _

theorem State.cfgBegun_regs (s : State) (r : Nat) :
    (s.cfgBegun r).regs = (((s.put 0x100 0 0 1).put 0x100 28 16 r).count 0x108).regs := rfl

theorem State.cfgBegun_cfg (s : State) (r : Nat) : (s.cfgBegun r).cfg = ⟨[], s.clk.ref, none, 0, none⟩ := by
  unfold State.cfgBegun
  extract_lets u
  rw [show u.clk = s.clk from (State.count_clk ..).trans ((State.put_clk ..).trans (State.put_clk ..))]

theorem State.cfgBegun_stat (s : State) (r : Nat) :
    (s.cfgBegun r).rd 0x100 = putBits (putBits (s.rd 0x100) 0 0 1) 28 16 r := by
  rw [State.rd_congr (s.cfgBegun_regs r), State.rd_count_ne _ (by decide), State.rd_put_self, State.rd_put_self]

theorem State.cfgBegun_count (s : State) (r : Nat) :
    (s.cfgBegun r).rd 0x108 = BitVec.ofNat 32 (satAdd countTop (s.rd 0x108).toNat 1) := by
  rw [State.rd_congr (s.cfgBegun_regs r), State.rd_count_self, State.rd_put_ne _ _ _ _ (by decide), State.rd_put_ne _ _ _ _ (by decide)]

theorem State.cfgBegun_rd (s : State) (r : Nat) {a : Nat} (h : a ≠ 0x100) (h' : a ≠ 0x108) :
    (s.cfgBegun r).rd a = s.rd a := by
  rw [State.rd_congr (s.cfgBegun_regs r), State.rd_count_ne _ (Ne.symm h'), State.rd_put_ne _ _ _ _ (Ne.symm h), State.rd_put_ne _ _ _ _ (Ne.symm h)]

theorem State.cfgBegun_owns (s : State) {r : Nat} (h : r < 8192) : (s.cfgBegun r).cfgOwns r = true := by
  have opened : (s.cfgBegun r).cfgOpen = true := by
    unfold State.cfgOpen State.flag
    rw [State.cfgBegun_stat, testBit_putBits (by decide) (by decide), if_neg (by decide),
      testBit_putBits (by decide) (by decide), if_pos (by decide)]
    rfl
  have owner : (s.cfgBegun r).cfgOwner = r := by
    unfold State.cfgOwner State.fld
    rw [State.cfgBegun_stat, bits_putBits (by decide) (by decide)]
    exact Nat.mod_eq_of_lt h
  unfold State.cfgOwns
  rw [opened, owner]
  simp

theorem State.cfgOwns_congr {s t : State} (h : t.rd 0x100 = s.rd 0x100) (r : Nat) : t.cfgOwns r = s.cfgOwns r := by
  unfold State.cfgOwns State.cfgOpen State.cfgOwner
  rw [State.flag_congr h, State.fld_congr h]

/-- A well-formed CFG_BEGIN from a ring that is no installer fails its role check. -/
theorem State.checkDesc_cfgBegin {s : State} {r : Nat} {b : Bytes} (h : s.installer r = false) (op : dOp b = 0x02)
    (zero : reservedZero [] b = true) (flags : dFlags b ≤ 3) : s.checkDesc r b = .permissionDenied := by
  have fields : opFields 2 = some [] := rfl
  have aligned : alignOk 2 b = true := rfl
  have enum : s.enumOk 2 b = true := rfl
  have role : s.roleCheck r 2 b = .permissionDenied := by
    unfold State.roleCheck
    rw [h]
    exact if_pos rfl
  unfold State.checkDesc
  rw [op]
  dsimp only
  rw [fields]
  dsimp only
  rw [zero, aligned, enum, role, if_neg (by simp; omega), if_pos (by decide)]

/-- Settles O58: CFG_BEGIN looks at the transaction that stands, whoever owns it, and its fetch at the ring's role. -/
theorem transactionOpens : Obligations.TransactionOpens := by
  intro s r
  refine ⟨fun d h taken => ⟨_, exec_cfgBegin h, ?_⟩, fun d h closed rests => ⟨_, exec_cfgBegin h, ?_⟩, ?_⟩
  · rw [if_pos (by simpa using taken)]
    exact ⟨h.refuses _, State.complete_cfg .., fun a low => State.complete_glb _ _ _ _ low⟩
  · rw [if_neg (by simp [closed, rests])]
    have begun := (s.begin r d.num).cfgBegun_frame r
    have cfg := State.complete_cfg ((s.begin r d.num).cfgBegun r) r d.num .success
    refine ⟨h.completes_now begun rfl rfl rfl _ 0,
      (State.cfgOwns_congr (State.complete_glb _ _ _ _ (by decide)) r).trans (State.cfgBegun_owns _ h.ring), ?_, ?_, ?_,
      fun a low stat count => ?_⟩
    · rw [cfg, State.cfgBegun_cfg]
    · rw [cfg, State.cfgBegun_cfg, State.begin_clk]
    · exact (State.complete_glb _ _ _ _ (by decide)).trans (State.cfgBegun_count (s.begin r d.num) r)
    · exact (State.complete_glb _ _ _ _ low).trans (State.cfgBegun_rd (s.begin r d.num) r stat count)
  · intro raw b head d exists_ ready on runs up work room none role op zero flags
    have h : s.Fetches r := ⟨exists_, ready, on, runs, up, work, room⟩
    have denied : s.checkDesc r (fitTo 64 raw) = .permissionDenied := State.checkDesc_cfgBegin role op zero flags
    have taken : (s.loss.isSome && jobOp (dOp (fitTo 64 raw))) = false := by
      rw [show dOp (fitTo 64 raw) = 0x02 from op]
      exact Bool.and_false _
    refine ⟨_, exec_descriptorFetch h raw taken, ?_⟩
    rw [denied, if_neg (by decide)]
    have completes := s.takeDesc_completes r b none .permissionDenied
    have same : s.fetchedDesc r b = d := by
      unfold State.fetchedDesc
      rw [op]
    rw [same] at completes
    exact ⟨completes, (State.complete_cfg ..).trans (State.takeDesc_cfg ..)⟩

/-! ### Vectors, the link and receive buffers (R321, R323, R325) -/

/-- An entry touches of the rings only the mark of lost events of its own. -/
theorem State.writeEntry_rx (s : State) (r tag op : Nat) (st : Status) (ev sig : Bool) (result info time q : Nat) :
    ((s.writeEntry r tag op st ev sig result info time).ring q).rx = (s.ring q).rx := by
  unfold State.writeEntry
  extract_lets n phase lost flags v out counted old held
  have kept : ∀ x, counted.ring x = s.ring x := fun x => by
    unfold State.ring
    rw [show counted.hif = s.hif from ((State.tally_frame ..).hif rfl).trans ((State.wr_hif ..).trans
      ((State.emitHost_frame ..).hif rfl))]
  have here : (held.ring q).rx = (s.ring q).rx := by
    by_cases e : r = q
    · subst e
      rw [State.ring_setRing]
      exact congrArg (·.rx) (kept r)
    · rw [State.ring_setRing_ne _ _ e, kept]
  split
  · exact here
  · exact here

/-- A completion leaves every receive buffer. -/
theorem State.completeAt_rx (s : State) (r n : Nat) (st : Status) (result info time q : Nat) :
    ((s.completeAt r n st result info time).ring q).rx = (s.ring q).rx := by
  unfold State.completeAt
  split
  · rfl
  · extract_lets src taken written op
    have here : (written.ring q).rx = (s.ring q).rx := by
      rw [State.writeEntry_rx]
      by_cases e : r = q
      · subst e
        rw [State.ring_setRing]
      · exact congrArg Ring.rx (State.ring_setRing_ne _ _ e)
    split
    · unfold State.ring
      rw [(State.roleAction_frame ..).hif rfl]
      exact here
    · exact here

theorem exec_rxPostTimeout {s u : State} {r : Nat} {x : RxBuf} {l : List RxBuf} (exists_ : r < 8192)
    (posted : (s.ring r).rx = x :: l) (holds : x.got ≠ 0) (due : s.reachRef (x.since + 1000000) = some u) :
    exec (.rxPostTimeout r) s = .next (u.rxDone r x) := by
  refine (guardI_true (decide_eq_true exists_)).trans ?_
  rw [posted]
  dsimp only
  rw [if_neg holds, State.atRef_some due]

theorem State.rxDone_rx {s : State} {r : Nat} {x : RxBuf} {l : List RxBuf} (posted : (s.ring r).rx = x :: l) :
    ((s.rxDone r x).ring r).rx = l := by
  unfold State.rxDone State.completeR
  rw [State.completeAt_rx, State.ring_setRing]
  exact congrArg (List.drop 1) posted

/-- The write that signals vector `v`. -/
def State.msixSent (s : State) (v : Nat) : State :=
  ({ s with hif := { s.hif with
    msiPend := s.hif.msiPend.filter (fun x => x != v), msiLast := tset 0 s.hif.msiLast v (s.clk.ref + 1) } } : State).emitHost (.msix v)

theorem State.msixSent_hif (s : State) (v : Nat) : (s.msixSent v).hif = { s.hif with
    msiPend := s.hif.msiPend.filter (fun x => x != v), msiLast := tset 0 s.hif.msiLast v (s.clk.ref + 1) } :=
  (State.emitHost_frame ..).hif rfl

theorem exec_msixSignal {s : State} {v : Nat} (exists_ : v < 2048) : exec (.msixSignal v) s =
    .next (if !s.hif.msiPend.contains v || s.clk.ref + 1 < tget 0 s.hif.msiLast v + 2000 then s else s.msixSent v) :=
  guardI_true (decide_eq_true exists_)

/-- A field inside the one written. -/
theorem State.fld_put_inside (s : State) (a : Nat) {hi lo hi' lo' : Nat} (v : Nat) (h32 : hi < 32) (low : lo ≤ lo')
    (order : lo' ≤ hi') (high : hi' ≤ hi) :
    (s.put a hi lo v).fld a hi' lo' = v / 2 ^ (lo' - lo) % 2 ^ (hi' - lo' + 1) := by
  apply Nat.eq_of_testBit_eq
  intro i
  unfold State.fld
  rw [testBit_bits, State.rd_put_self, testBit_putBits (by omega) h32, Nat.testBit_mod_two_pow,
    ← Nat.shiftRight_eq_div_pow, Nat.testBit_shiftRight]
  by_cases h : i < hi' - lo' + 1
  · rw [if_pos (by omega), show lo' + i - lo = lo' - lo + i by omega]
  · simp [h]

theorem State.linkUp_put (s : State) (v : Nat) : (s.put (hifA 0) 9 0 v).linkUp = decide (v % 16 ≠ 0) := by
  unfold State.linkUp
  rw [State.fld_put_inside _ _ _ (by decide) (by decide) (by decide) (by decide), Nat.sub_self, Nat.pow_zero, Nat.div_one]
  rfl

/-- Whether a link of generation `gen` and `width` lanes is degraded. -/
def linkDegraded (gen width : Nat) : Nat := b2n (decide (gen < 5) || decide (width < 16))

theorem exec_pcieLinkUp {s : State} {gen width : Nat} (awake : s.hm.phase ≠ .reset) (on : s.hm.phase ≠ .tripped)
    (low : 1 ≤ gen) (high : gen ≤ 5) (lanes : [1, 2, 4, 8, 16].contains width = true) :
    exec (.pcieLinkUp gen width) s =
      .next (s.put (hifA 0) 9 0 (linkDegraded gen width * 512 + width * 16 + gen)) := by
  refine congrArg Host.Outcome.next (if_neg ?_)
  have inRange : ¬(gen < 1 ∨ 5 < gen) := by omega
  rw [lanes]
  simpa [awake, on] using inRange

/-- Settles O29: the pacing of vectors, the link's field and the receive buffer that waits longest. -/
theorem hostLink : Obligations.HostLink := by
  refine ⟨fun s v hv pending paced => ⟨_, exec_msixSignal hv, ?_⟩, fun s v hv early => ?_,
    fun s => ⟨_, rfl, s.linkUp_put 0, fun a ha => State.rd_put_ne _ _ _ _ (Ne.symm ha)⟩,
    fun s gen width awake on low high lanes => ⟨_, exec_pcieLinkUp awake on low high lanes, ?_⟩,
    fun s u r x l hr posted holds due => ?_⟩
  · have now : ¬s.clk.ref + 1 < tget 0 s.hif.msiLast v + 2000 := by omega
    rw [pending, if_neg (by simpa using now)]
    refine ⟨fun up => congrArg State.out (if_pos up), ?_, ?_⟩
    · rw [State.msixSent_hif]
      simp
    · rw [State.msixSent_hif]
      exact tget_tset_self 0 s.hif.msiLast v (s.clk.ref + 1)
  · rw [exec_msixSignal hv, if_pos (by simpa using early)]
  · have narrow : width ≤ 16 := by
      have : width ∈ [1, 2, 4, 8, 16] := by simpa using lanes
      fin_cases this <;> decide
    refine ⟨?_, ?_, ?_, fun a ha => State.rd_put_ne _ _ _ _ (Ne.symm ha)⟩
    · rw [State.linkUp_put]
      exact decide_eq_true (by omega)
    · rw [State.fld_put_inside _ _ _ (by decide) (by decide) (by decide) (by decide)]
      norm_num
      omega
    · rw [State.fld_put_inside _ _ _ (by decide) (by decide) (by decide) (by decide)]
      norm_num
      omega
  · have later : (u.ring r).rx = x :: l := by
      unfold State.ring
      rw [(State.reachRef_fr due).hif rfl]
      exact posted
    exact ⟨_, exec_rxPostTimeout hr posted holds due, State.rxDone_rx later, State.completeAt_desc_self ..⟩

end Sys2Proof.Machine

/-!
Register accesses (15_registers_and_transactions.md: R343, R344, R351, R352; 00_scope.md: R6): what each kind of write
does, and what a clear of flags leaves.
-/

namespace Sys2Proof.Machine

open Sys2Proof

/-! ### Rows of the register map -/

theorem mem_of_rowIn {l : List RegRow} {a : Nat} {r : RegRow} (h : rowIn l a = some r) : r ∈ l := by
  induction l with
  | nil => simp [rowIn] at h
  | cons x l ih =>
    unfold rowIn at h
    split at h
    · simp_all
    · exact List.mem_cons_of_mem _ (ih h)

/-- No register of the host interface resets with bit 31 set. -/
theorem resetAt_hif {a : Nat} (low : 0x100000 ≤ a) (high : a < 0x200000) : (resetAt a).toNat.testBit 31 = false := by
  have rows : ∀ r ∈ regsHif, (BitVec.ofNat 32 r.reset).toNat.testBit 31 = false := by decide
  unfold resetAt rowAt regsOf
  rw [if_neg (by omega), if_pos high]
  split
  · next r h => exact rows r (mem_of_rowIn h)
  · exact Nat.zero_testBit 31

/-- What a table reads at an index it lists. -/
theorem tget_of_mem {α : Type} [DecidableEq α] {d : Nat → α} {x : α} {l : Tbl α} {b : Nat} (w : twfFrom d b l = true)
    {e : Nat × α} (h : e ∈ l) : tget x l e.1 = e.2 ∧ b ≤ e.1 := by
  induction l generalizing b with
  | nil => cases h
  | cons y l ih =>
    obtain ⟨i, v⟩ := y
    simp only [twfFrom, Bool.and_eq_true, decide_eq_true_eq] at w
    obtain ⟨hb, -, rest⟩ := w
    rcases List.mem_cons.mp h with rfl | h
    · exact ⟨by simp [tget], hb⟩
    · obtain ⟨reads, past⟩ := ih rest h
      refine ⟨?_, by omega⟩
      simp only [tget]
      rw [if_neg (by omega)]
      exact reads

/-- An index that a table does not list reads the default. -/
theorem tget_mem_or {α : Type} (x : α) (l : Tbl α) (k : Nat) : tget x l k = x ∨ (k, tget x l k) ∈ l := by
  induction l with
  | nil => exact .inl rfl
  | cons y l ih =>
    obtain ⟨i, v⟩ := y
    simp only [tget]
    split
    · next h => exact .inr (by simp [h])
    · rcases ih with h | h
      · exact .inl h
      · exact .inr (List.mem_cons_of_mem _ h)

/-! ### Register writes (R343, R344) -/

theorem mem_stagePut (a : Nat) (v : Word) (l : List (Nat × Word)) : (a, v) ∈ stagePut a v l := by
  induction l with
  | nil => simp [stagePut]
  | cons e l ih =>
    unfold stagePut
    split
    · simp
    · split
      · simp
      · exact List.mem_cons_of_mem _ ih

theorem State.w1cWrite_of_none {s : State} {a : Nat} {r : RegRow} (row : rowAt a = some r) (none : r.w1c = 0)
    (val set : Nat) : s.w1cWrite a val set = s := by
  unfold State.w1cWrite
  rw [row]
  exact if_pos (by simp [none])

theorem State.w1cWrite_of_noRow {s : State} {a : Nat} (row : rowAt a = none) (val set : Nat) :
    s.w1cWrite a val set = s := by
  unfold State.w1cWrite
  rw [row]

theorem State.w1sWrite_of_none {s : State} {r : RegRow} (none : r.w1s = 0) (a val : Nat) : s.w1sWrite a r val = s := by
  unfold State.w1sWrite
  rw [if_pos (by rw [none, Nat.and_zero])]

/-- A write to a transactional register is one to the transaction. -/
theorem exec_registerWrite_txn {s : State} {a : Nat} {r : RegRow} (v : Word) (aligned : a % 4 = 0) (bar0 : a < 0x10000000)
    (row : rowAt a = some r) (w1c : r.w1c = 0) (w1s : r.w1s = 0) (direct : r.direct = false) (txn : r.txn = true)
    (open_ : s.writable a = true) (drv : a ≠ mgtA 0x18) (dump : a ≠ mgtA 0x34) :
    exec (.registerWrite a 4 v) s = .next (s.stageWrite a (stageVal r v)) := by
  show execRegisterWrite a 4 v s = _
  unfold execRegisterWrite State.regWrite
  rw [if_neg (by simp [aligned]), if_neg (by omega), row]
  dsimp only
  rw [if_neg (by simp [open_]), if_neg drv, if_neg dump, State.w1cWrite_of_none row w1c, State.w1sWrite_of_none w1s,
    if_neg (by simp [direct]), if_pos txn]

section Stage

variable {s : State} (a : Nat) (v : Word)

theorem State.stageWrite_joins (opened : s.cfgOpen = true) (runs : s.cfgCommitting = false)
    (room : s.cfg.staged.length < 4096 ∨ s.cfg.staged.any (fun e => e.1 == a) = true) :
    s.stageWrite a v = { s with cfg := { s.cfg with staged := stagePut a v s.cfg.staged } } := by
  have fits : ¬(decide (4096 ≤ s.cfg.staged.length) && !s.cfg.staged.any (fun e => e.1 == a)) = true := by
    rcases room with room | room
    · simp [room]
    · simp [room]
  unfold State.stageWrite
  rw [if_pos (by simp [opened, runs]), if_neg fits]

theorem State.stageWrite_overflows (opened : s.cfgOpen = true) (runs : s.cfgCommitting = false)
    (full : 4096 ≤ s.cfg.staged.length) (fresh : s.cfg.staged.any (fun e => e.1 == a) = false) :
    s.stageWrite a v = s.put 0x100 2 2 1 := by
  unfold State.stageWrite
  rw [if_pos (by simp [opened, runs]), if_pos (by rw [fresh]; simpa using full)]

theorem State.stageWrite_ignored (closed : s.cfgOpen = false ∨ s.cfgCommitting = true) :
    s.stageWrite a v = s.event 0x100 5 0x124 := by
  unfold State.stageWrite
  rw [if_neg]
  rcases closed with closed | closed
  · simp [closed]
  · simp [closed]

end Stage

/-- The request area with the four bytes of `v` from offset `o` on. -/
def mbxWord (q : Tbl Byte) (o : Nat) (v : Word) : Tbl Byte :=
  (List.range 4).foldl (fun q i => tset 0 q (o + i) (BitVec.ofNat 8 (v.toNat / 2 ^ (8 * i)))) q

theorem tget_mbxWord (q : Tbl Byte) (o : Nat) (v : Word) {i : Nat} (h : i < 4) :
    tget 0 (mbxWord q o v) (o + i) = BitVec.ofNat 8 (v.toNat / 2 ^ (8 * i)) := by
  have bytes : mbxWord q o v = tset 0 (tset 0 (tset 0 (tset 0 q (o + 0) (BitVec.ofNat 8 (v.toNat / 2 ^ (8 * 0)))) (o + 1)
    (BitVec.ofNat 8 (v.toNat / 2 ^ (8 * 1)))) (o + 2) (BitVec.ofNat 8 (v.toNat / 2 ^ (8 * 2)))) (o + 3)
    (BitVec.ofNat 8 (v.toNat / 2 ^ (8 * 3))) := rfl
  rw [bytes]
  simp only [tget_tset, Nat.add_left_cancel_iff]
  have : i = 0 ∨ i = 1 ∨ i = 2 ∨ i = 3 := by omega
  rcases this with rfl | rfl | rfl | rfl <;> rfl

theorem exec_registerWrite_request {s : State} {o : Nat} (v : Word) (aligned : o % 4 = 0) (low : 0x100000 ≤ o)
    (high : o < 0x300000) (awake : s.hm.phase ≠ .reset) (on : s.hm.phase ≠ .tripped) (idle : s.flag (mbxA 0xC) 0 = false) :
    exec (.registerWrite (0x10000000 + o) 4 v) s =
      .next { s with hm := { s.hm with mbxReq := mbxWord s.hm.mbxReq (o - 0x100000) v } } := by
  show execRegisterWrite (0x10000000 + o) 4 v s = _
  have offset : 0x10000000 + o - 0x10000000 = o := by omega
  unfold execRegisterWrite State.bar4Write
  rw [if_neg (by simp; omega), if_pos (by omega)]
  simp only [offset]
  rw [if_neg (by simp [awake, on, idle]), if_neg (by omega), if_neg (by omega), if_neg (by omega), if_neg (by omega),
    if_pos (by simp; omega)]
  rfl

/-- Settles O32: a write goes to the transaction or to the request area, and an unaligned one nowhere. -/
theorem registerWrites : Obligations.RegisterWrites := by
  refine ⟨fun s a width v odd => exec_registerWrite_of_not_word s v odd, ?_, ?_⟩
  · intro s a v r aligned bar0 row w1c w1s direct txn open_ drv dump
    refine ⟨_, exec_registerWrite_txn v aligned bar0 row w1c w1s direct txn open_ drv dump, ?_, ?_, ?_⟩
    · intro opened runs room
      rw [State.stageWrite_joins _ _ opened runs room]
      exact ⟨mem_stagePut .., rfl⟩
    · intro opened runs full fresh
      rw [State.stageWrite_overflows _ _ opened runs full fresh]
      exact ⟨State.put_cfg .., State.flag_put_self _ _ _ (by decide) (by decide) (by decide)⟩
    · intro closed
      rw [State.stageWrite_ignored _ _ closed]
      exact ⟨(State.event_frame (m := 0x10000100000) rfl rfl rfl ..).cfg rfl, State.flag_event _ (by decide) (by decide),
        State.rd_event_count _ _ (by decide)⟩
  · intro s o v aligned low high awake on idle
    exact ⟨_, exec_registerWrite_request v aligned low high awake on idle, rfl, fun i hi => tget_mbxWord _ _ _ hi⟩

/-! ### Clearing flags (R352) -/

/-- Clearing the bits of `old` that `val` and `mask` name, but those of `set`. -/
def clearedWord (old val set mask : Nat) : Word :=
  BitVec.ofNat 32 (old - (old &&& val &&& mask) + (old &&& val &&& mask &&& set))

theorem clearedWord_testBit (old val set : Word) (mask : Nat) {i : Nat} (hi : i < 32) :
    (clearedWord old.toNat val.toNat set.toNat mask).toNat.testBit i =
      (old.toNat.testBit i && !(val.toNat.testBit i && mask.testBit i && !set.toNat.testBit i)) := by
  let m : Word := old &&& val &&& BitVec.ofNat 32 mask
  have toNat : old.toNat &&& val.toNat &&& mask = m.toNat := by
    apply Nat.eq_of_testBit_eq
    intro j
    simp only [m, BitVec.toNat_and, BitVec.toNat_ofNat, Nat.testBit_and, Nat.testBit_mod_two_pow]
    by_cases h : j < 32
    · simp [h]
    · have high : old.toNat.testBit j = false := Nat.testBit_lt_two_pow
        (Nat.lt_of_lt_of_le old.isLt (Nat.pow_le_pow_right (by decide) (by omega)))
      simp [high]
  have apart : (old &&& ~~~m) &&& m = 0#32 := by
    rw [BitVec.and_assoc, BitVec.and_comm (~~~m) m, BitVec.and_not_self]
    exact BitVec.and_zero
  have whole : (old &&& ~~~m) + m = old := by
    rw [BitVec.add_eq_or_of_and_eq_zero _ _ apart]
    ext j hj
    simp [m]
    grind
  have below : m.toNat ≤ old.toNat := by
    rw [← toNat, Nat.and_assoc]
    exact Nat.and_le_left
  have cleared : clearedWord old.toNat val.toNat set.toNat mask = (old &&& ~~~m) ||| (m &&& set) := by
    have minus : BitVec.ofNat 32 (old.toNat - m.toNat) = old &&& ~~~m := by
      have : BitVec.ofNat 32 (old.toNat - m.toNat) = old - m := by
        apply BitVec.eq_of_toNat_eq
        rw [BitVec.toNat_ofNat, BitVec.toNat_sub_of_le (BitVec.le_def.mpr below)]
        exact Nat.mod_eq_of_lt (by omega)
      rw [this]
      exact (BitVec.eq_sub_iff_add_eq.mpr whole).symm
    unfold clearedWord
    rw [toNat, BitVec.ofNat_add, minus, ← BitVec.toNat_and, BitVec.ofNat_toNat, BitVec.setWidth_eq]
    refine BitVec.add_eq_or_of_and_eq_zero _ _ ?_
    rw [← BitVec.and_assoc, apart, BitVec.zero_and]
  rw [cleared, BitVec.testBit_toNat, BitVec.testBit_toNat, BitVec.testBit_toNat, BitVec.testBit_toNat]
  simp only [m, BitVec.getLsbD_or, BitVec.getLsbD_and, BitVec.getLsbD_not, BitVec.getLsbD_ofNat, hi, decide_true,
    Bool.true_and]
  cases old.getLsbD i <;> cases val.getLsbD i <;> cases mask.testBit i <;> cases set.getLsbD i <;> rfl

/-- A register whose row has W1C bits takes a clear, with at most a field of another register beside it. -/
theorem State.w1cWrite_rd {s : State} {a : Nat} {r : RegRow} (row : rowAt a = some r) (w1c : r.w1c ≠ 0)
    (open_ : s.writable a = true ∨ 0x10000000 ≤ a) (val set : Nat) :
    (s.w1cWrite a val set).rd a = clearedWord (s.rd a).toNat val set (s.w1cMask a r.w1c) := by
  unfold State.w1cWrite
  rw [row]
  dsimp only
  have open' : (s.writable a || decide (0x10000000 ≤ a)) = true := by simpa using open_
  rw [if_neg (by simp [w1c, open'])]
  split
  · split
    · exact (State.rd_put_ne _ _ _ _ (by omega)).trans (State.rd_wr_self ..)
    · exact State.rd_wr_self ..
  · split
    · split
      · exact (State.rd_put_ne _ _ _ _ (by omega)).trans (State.rd_wr_self ..)
      · exact State.rd_wr_self ..
    · split
      · exact State.rd_wr_self ..
      · exact State.rd_wr_self ..

/-! ### Reads (R6) -/

theorem exec_wideLowWordRead_row {s : State} {a : Nat} {r : RegRow} (row : rowAt a = some r) :
    exec (.wideLowWordRead a) s = .next (if !r.wide then { s with lastRead := s.readReg a 4 }
      else { s with lastRead := s.live a, latch := tset none s.latch (a + 4) (some (s.live (a + 4))) }) := by
  show execWideLowWordRead a s = _
  unfold execWideLowWordRead
  rw [row]

/-- Settles O33: a clear leaves every bit but those it names, and a read changes latches alone. -/
theorem clearsAndReads : Obligations.ClearsAndReads := by
  refine ⟨?_, ?_, ?_, ?_⟩
  · intro s a v w r row w1c open_
    refine ⟨_, rfl, fun i hi => ?_⟩
    unfold State.flag
    rw [State.w1cWrite_rd row w1c open_]
    exact clearedWord_testBit (s.rd a) v w (s.w1cMask a r.w1c) hi
  · rintro s a v w (row | ⟨r, row, none⟩)
    · exact congrArg Host.Outcome.next (State.w1cWrite_of_noRow row ..)
    · exact congrArg Host.Outcome.next (State.w1cWrite_of_none row none ..)
  · intro s a r row wide
    refine ⟨_, exec_wideLowWordRead_row row, ?_⟩
    rw [if_neg (by simp [wide])]
    exact ⟨rfl, tget_tset_self none s.latch (a + 4) (some (s.live (a + 4))), rfl⟩
  · intro s a r row narrow
    refine ⟨_, exec_wideLowWordRead_row row, ?_⟩
    rw [if_pos (by simp [narrow])]
    exact ⟨rfl, rfl, rfl⟩

/-! ### Registers that act at once (R351, R277, R365, R368, R359) -/

/-- The row of an axis's trace configuration. -/
theorem rowAt_traceCfg : ∀ a < 64, ∃ r, rowAt (ctlA a 0x200) = some r ∧ r.base = 0x400200 := by
  have rows : ∀ a < 64, (rowAt (ctlA a 0x200)).map RegRow.base = some 0x400200 := by decide
  intro a ha
  exact Option.map_eq_some_iff.mp (rows a ha)

theorem exec_traceConfigWrite {s : State} {a : Nat} {r : RegRow} (v : Word) (ready : s.isReady = true) (ha : a < 64)
    (row : rowAt (ctlA a 0x200) = some r) : exec (.traceConfigWrite (ctlA a 0x200) v) s =
      .next ((s.wr (ctlA a 0x200) (BitVec.ofNat 32 (v.toNat &&& r.rw))).trcClear a) := by
  obtain ⟨q, row', base⟩ := rowAt_traceCfg a ha
  obtain rfl : q = r := Option.some.inj (row'.symm.trans row)
  have axis : (ctlA a 0x200 - 0x400000) / 0x800 = a := by
    unfold ctlA
    omega
  show Host.Outcome.next (s.trcWrite (ctlA a 0x200) v) = _
  unfold State.trcWrite
  rw [row]
  dsimp only
  rw [if_pos (by simp [ready, base]), axis]

theorem State.trcClear_ax (s : State) (a : Nat) :
    (s.trcClear a).ax a = { s.ax a with trc := [], trcPrev := none, trcTrig := none } := by
  unfold State.trcClear State.ax
  rw [State.wr_axes]
  exact State.ax_setAx ..

theorem State.trcClear_rd_ne (s : State) (a : Nat) {b : Nat} (h : ctlA a 0x20C ≠ b) : (s.trcClear a).rd b = s.rd b :=
  State.rd_wr_ne _ _ h

/-- The driver check sees a ring that is on. -/
theorem State.drvCheck_on {s : State} {r : Nat} (on : s.ringOn r = true) (v : Nat) :
    s.drvCheck v = s.count (mgtA 0x20) := by
  have listed : (ringA r 0x10, s.rd (ringA r 0x10)) ∈ s.regs := by
    refine (tget_mem_or (resetAt (ringA r 0x10)) s.regs (ringA r 0x10)).resolve_left fun default => ?_
    have off := resetAt_hif (a := ringA r 0x10) (by unfold ringA; omega) (by unfold ringA; omega)
    rw [← default] at off
    exact absurd (on : (s.rd (ringA r 0x10)).toNat.testBit 31 = true) (ne_true_of_eq_false off)
  unfold State.drvCheck
  refine if_pos (List.any_eq_true.mpr ⟨_, listed, ?_⟩)
  have on' : (s.rd (ringA r 0x10)).toNat.testBit 31 = true := on
  have place : 0x180000 ≤ ringA r 0x10 ∧ ringA r 0x10 < 0x200000 ∧ ringA r 0x10 % 0x40 = 0x10 := by
    unfold ringA
    omega
  simp [on', place]

/-- With every ring off it compares the version with the range. -/
theorem State.drvCheck_off {s : State} (wf : s.regsWf = true) (off : ∀ r < 8192, s.ringOn r = false) (v : Nat) :
    (s.drvCheck v).drvAccepted =
      (decide ((s.rd (mgtA 0x10)).toNat ≤ v) && decide (v ≤ (s.rd (mgtA 0x14)).toNat)) := by
  have none : ¬s.regs.any (fun e => decide (0x180000 ≤ e.1) && decide (e.1 < 0x200000) && e.1 % 0x40 == 0x10 &&
      e.2.toNat.testBit 31) = true := by
    intro some
    obtain ⟨e, listed, on⟩ := List.any_eq_true.mp some
    simp only [Bool.and_eq_true, decide_eq_true_eq, beq_iff_eq] at on
    obtain ⟨⟨⟨low, high⟩, place⟩, on⟩ := on
    have ring : ringA ((e.1 - 0x180000) / 0x40) 0x10 = e.1 := by
      unfold ringA
      omega
    have reads := off ((e.1 - 0x180000) / 0x40) (by omega)
    unfold State.ringOn State.flag at reads
    rw [ring, show s.rd e.1 = e.2 from (tget_of_mem wf listed).1, on] at reads
    cases reads
  unfold State.drvCheck
  extract_lets anyOn ok logged
  rw [if_neg none]
  split
  · next accepted =>
    refine Eq.trans ?_ accepted.symm
    unfold State.drvAccepted State.flag
    rw [State.rd_wr_self]
    rfl
  · next refused =>
    refine Eq.trans ?_ (eq_false_of_ne_true refused).symm
    unfold State.drvAccepted
    rw [State.flag_congr (State.rd_count_ne _ (by decide))]
    unfold State.flag
    rw [State.rd_wr_self]
    rfl

/-! ### The boot record (R359, R361) -/

/-- The record that stands after a write is the one written, of the next generation. -/
theorem State.putRec_bootRec (s : State) (x : BootRec) :
    (s.putRec x).bootRec = { x with generation := s.bootRec.generation + 1 } := by
  unfold State.putRec
  extract_lets y intoA src u count
  have stands : u.bootRec = y := by
    unfold u intoA y State.bootRec
    cases s.flash.recA with
    | none => cases s.flash.recB <;> simp
    | some b =>
      cases s.flash.recB with
      | none => simp
      | some c =>
        dsimp only
        by_cases h : b.generation < c.generation
        · have older : ¬c.generation ≤ b.generation := by omega
          simp [h, older]
        · have newer : c.generation ≤ b.generation := by omega
          simp [h, newer]
  unfold State.bootRec at stands ⊢
  rw [State.put_flash, State.put_flash]
  exact stands

/-- The mark counts of a record without marks are zero. -/
theorem State.putRec_unmarked (s : State) {x : BootRec} (h : ∀ e ∈ x.entries, e.mark = 0) :
    (s.putRec x).fld (mgtA 0x28) 15 0 = 0 := by
  unfold State.putRec
  extract_lets y intoA src u count
  have none : ∀ p : BootEntry → Bool, (∀ e, e.mark = 0 → p e = false) → count p = 0 := fun p hp => by
    have : y.entries.filter p = [] := List.filter_eq_nil_iff.mpr fun e he => by rw [hp e (h e he)]; exact Bool.false_ne_true
    show (y.entries.filter p).length = 0
    rw [this, List.length_nil]
  rw [none _ fun e he => by rw [he]; rfl, none _ fun e he => by rw [he]; rfl]
  apply Nat.eq_of_testBit_eq
  intro i
  unfold State.fld
  rw [testBit_bits, State.rd_put_self, testBit_putBits (by decide) (by decide), State.rd_put_self,
    testBit_putBits (by decide) (by decide), Nat.zero_testBit, Nat.zero_testBit]
  by_cases low : i < 16
  · by_cases byte : i ≤ 7
    · simp [byte]
    · rw [if_neg (by omega), if_pos (by omega), Bool.and_false, Nat.zero_testBit]
  · simp [low]

/-- Settles O34: each register keeps what its rule lets it keep. -/
theorem directRegisters : Obligations.DirectRegisters := by
  refine ⟨fun s v ready => ⟨_, congrArg Host.Outcome.next (if_pos ready), ?_, State.put_cfg ..⟩, ?_, ?_, ?_, ?_, ?_, ?_⟩
  · rw [State.fld_put_self _ _ _ (by decide) (by decide)]
    exact Nat.mod_eq_of_lt (bits_lt v 27 2)
  · intro s a v ha ready
    obtain ⟨r, row, -⟩ := rowAt_traceCfg a ha
    have apart : ctlA a 0x20C ≠ ctlA a 0x200 := by
      unfold ctlA
      omega
    refine ⟨_, exec_traceConfigWrite v ready ha row, ?_, ?_, State.rd_wr_self .., fun q row' => ?_⟩
    · rw [State.trcClear_ax]
    · rw [State.trcClear_ax]
    · obtain rfl := Option.some.inj (row'.symm.trans row)
      rw [State.trcClear_rd_ne _ _ apart, State.rd_wr_self]
  · intro s v waits
    exact ⟨_, congrArg Host.Outcome.next (if_neg (ne_true_of_eq_false waits)), rfl, rfl⟩
  · intro s v wf ready off small
    refine ⟨_, congrArg Host.Outcome.next (if_pos ready), ?_⟩
    exact (State.drvCheck_off wf off _).trans (by rw [Nat.mod_eq_of_lt small])
  · intro s r v ready exists_ on
    refine ⟨_, congrArg Host.Outcome.next (if_pos ready), ?_⟩
    rw [State.drvCheck_on on]
    exact ⟨State.flag_congr (State.rd_count_ne _ (by decide)) 0, State.rd_count_self ..⟩
  · intro s v ready
    exact ⟨_, congrArg Host.Outcome.next (if_pos ready), State.fld_put_self _ _ _ (by decide) (by decide)⟩
  · intro s ready
    refine ⟨_, congrArg Host.Outcome.next (if_pos ready), fun e he => ?_, State.putRec_unmarked _ fun e he => ?_⟩
    · rw [State.putRec_bootRec] at he
      obtain ⟨x, -, rfl⟩ := List.mem_map.mp he
      rfl
    · obtain ⟨x, -, rfl⟩ := List.mem_map.mp he
      rfl

end Sys2Proof.Machine

/-!
Committing a transaction and scrubbing (15_registers_and_transactions.md: R346 to R349; 05_memory_and_berths.md: R118).
-/

namespace Sys2Proof.Machine

open Sys2Proof

/-! ### A commit that fails (R348) -/

/-- The registers name the status `st` of a failed commit, and the register `a` that failed. -/
def State.cfgNamed (s : State) (a : Option Nat) (st : Status) : State :=
  let u := (s.event 0x100 3 0x11C).put 0x100 15 8 st.code
  a.elim u (fun a => u.wr 0x128 (BitVec.ofNat 32 a))

theorem State.cfgFail_eq (s : State) (num : Nat) (a : Option Nat) (st : Status) :
    s.cfgFail num a st = ((s.cfgNamed a st).cfgLog st).cfgClose.complete s.cfgOwner num st := by
  cases a <;> rfl

theorem State.cfgNamed_frame (s : State) (a : Option Nat) (st : Status) : Frame 0x10000100000 s (s.cfgNamed a st) := by
  have noted : Frame 0x10000100000 s ((s.event 0x100 3 0x11C).put 0x100 15 8 st.code) :=
    (State.event_frame rfl rfl rfl ..).trans (State.put_frame rfl rfl ..)
  cases a with
  | none => exact noted
  | some a => exact noted.trans (State.wr_frame rfl rfl ..)

theorem State.cfgNamed_status (s : State) (a : Option Nat) (st : Status) :
    (s.cfgNamed a st).fld 0x100 15 8 = st.code % 256 := by
  have noted : ((s.event 0x100 3 0x11C).put 0x100 15 8 st.code).fld 0x100 15 8 = st.code % 256 :=
    State.fld_put_self _ _ _ (by decide) (by decide)
  cases a with
  | none => exact noted
  | some a => exact (State.fld_congr (State.rd_wr_ne _ _ (by decide)) ..).trans noted

theorem State.cfgNamed_register (s : State) (a : Nat) (st : Status) :
    (s.cfgNamed (some a) st).rd 0x128 = BitVec.ofNat 32 a := State.rd_wr_self ..

theorem State.cfgClose_rd {s : State} {a : Nat} (low : a < 0x200000) (h : a ≠ 0x100) : s.cfgClose.rd a = s.rd a := by
  unfold State.cfgClose
  extract_lets u
  rw [State.rd_put_ne _ _ _ _ (by unfold timA; omega), State.rd_put_ne _ _ _ _ (Ne.symm h),
    State.rd_put_ne _ _ _ _ (Ne.symm h)]
  rfl

/-- Closing keeps the status of the last commit. -/
theorem State.cfgClose_status (s : State) : s.cfgClose.fld 0x100 15 8 = s.fld 0x100 15 8 := by
  unfold State.cfgClose
  extract_lets u
  rw [State.fld_put_ne _ _ _ _ _ _ (by decide),
    State.fld_put_beside _ _ _ (by decide) (by decide) (by decide) (by decide),
    State.fld_put_beside _ _ _ (by decide) (by decide) (by decide) (by decide)]
  rfl

theorem State.cfgLog_glb (s : State) (st : Status) {a : Nat} (h : a < 0x100000) : (s.cfgLog st).rd a = s.rd a :=
  (State.cfgLog_frame ..).glb rfl h

section Fail

variable (s : State) (num : Nat) (a : Option Nat) (st : Status)

theorem State.cfgFail_cfg : (s.cfgFail num a st).cfg.staged = [] ∧ (s.cfgFail num a st).cfg.commitNum = none := by
  rw [State.cfgFail_eq, State.complete_cfg]
  exact ⟨rfl, rfl⟩

theorem State.cfgFail_cfgOpen : (s.cfgFail num a st).cfgOpen = false := by
  rw [State.cfgFail_eq, State.complete_cfgOpen, State.cfgClose_cfgOpen]

theorem State.cfgFail_status : (s.cfgFail num a st).fld 0x100 15 8 = st.code % 256 := by
  rw [State.cfgFail_eq, State.fld_congr (State.complete_glb _ _ _ _ (by decide)), State.cfgClose_status,
    State.fld_congr (State.cfgLog_glb _ _ (by decide)), State.cfgNamed_status]

theorem State.cfgFail_register (a : Nat) : (s.cfgFail num (some a) st).rd 0x128 = BitVec.ofNat 32 a := by
  rw [State.cfgFail_eq, State.complete_glb _ _ _ _ (by decide), State.cfgClose_rd (by decide) (by decide),
    State.cfgLog_glb _ _ (by decide), State.cfgNamed_register]

/-- What precedes the completion of a failed commit. -/
theorem State.cfgFail_frame_before : Frame 0x4050000108100 s ((s.cfgNamed a st).cfgLog st).cfgClose :=
  (((s.cfgNamed_frame a st).mono rfl).step (State.cfgLog_frame ..) rfl).step (State.cfgClose_frame ..) rfl

end Fail

/-! ### CFG_COMMIT (R346, R347) -/

/-- The transaction commits for the descriptor `num`: the staging is frozen. -/
def State.cfgFrozen (s : State) (num : Nat) : State :=
  ({ s with cfg := { s.cfg with commitNum := some num, commitT := s.clk.t } } : State).put 0x100 1 1 1

/-- CFG_PENDING: a change of the tick's registers waits for the edge (Table 01-9). -/
def State.cfgPending (s : State) : State :=
  if decide (s.stagedView.rd (timA 0x100) ≠ s.rd (timA 0x100)) ||
      decide (s.stagedView.rd (timA 0x104) ≠ s.rd (timA 0x104)) then s.put (timA 0x110) 3 3 1 else s

/-- Preliminary validation of a frozen transaction. -/
def State.cfgValidate (s : State) (num : Nat) : State :=
  if s.flag 0x100 2 then s.cfgFail num none .cfgWriteInvalid
  else match s.prelim with
    | some (a, st) => s.cfgFail num (some a) st
    | none => s.cfgPending

theorem State.cfgFrozen_frame (s : State) (num : Nat) : Frame 0x10000100100 s (s.cfgFrozen num) := by
  refine Frame.trans ?_ (State.put_frame rfl rfl ..)
  apply Frame.upd (Frame.refl _ _)
  all_goals first | exact Or.inr rfl | exact Or.inl rfl | exact Or.inl (Nat.le_refl _) | rfl

theorem State.cfgFrozen_cfg (s : State) (num : Nat) :
    (s.cfgFrozen num).cfg = { s.cfg with commitNum := some num, commitT := s.clk.t } := State.put_cfg ..

theorem State.cfgFrozen_owner (s : State) (num : Nat) : (s.cfgFrozen num).cfgOwner = s.cfgOwner :=
  State.fld_put_beside _ _ _ (by decide) (by decide) (by decide) (by decide)

theorem State.cfgFrozen_overflow (s : State) (num : Nat) : (s.cfgFrozen num).flag 0x100 2 = s.flag 0x100 2 :=
  State.flag_put_beside _ _ _ (by decide) (by decide) (by decide)

theorem State.cfgFrozen_committing (s : State) (num : Nat) : (s.cfgFrozen num).cfgCommitting = true :=
  State.flag_put_self _ _ _ (by decide) (by decide) (by decide)

theorem State.cfgPending_frame (s : State) : Frame 0x40000100000 s s.cfgPending := by
  unfold State.cfgPending
  split
  · exact State.put_frame rfl (tb_timA rfl) ..
  · exact Frame.refl _ _

theorem exec_cfgCommit {s : State} {r : Nat} {d : Inflight} (h : Starts s r 0x03 d) : exec (.cfgCommit r) s =
    .next (if s.cfgOwns r && (!s.cfgCommitting || s.cfg.commitNum = some d.num)
      then ((s.begin r d.num).cfgFrozen d.num).cfgValidate d.num else (s.begin r d.num).cfgMiss r d.num) := h.guard _

section Commit

variable {s : State} {r : Nat} {d : Inflight} (h : Starts s r 0x03 d)

include h

/-- A commit of the owner that its validation refuses completes with the status of the fault. -/
theorem Starts.cfgFail (owns : s.cfgOwns r = true) (a : Option Nat) (st : Status) :
    Completed s (((s.begin r d.num).cfgFrozen d.num).cfgFail d.num a st) r d st 0 0 s.now32 := by
  have owner : ((s.begin r d.num).cfgFrozen d.num).cfgOwner = r := by
    rw [State.cfgFrozen_owner]
    unfold State.cfgOwns at owns
    simp only [Bool.and_eq_true, decide_eq_true_eq] at owns
    exact owns.2
  rw [State.cfgFail_eq, owner]
  exact h.completes_now ((((s.begin r d.num).cfgFrozen_frame d.num).mono rfl).trans (State.cfgFail_frame_before _ a st))
    rfl rfl rfl st 0

end Commit

/-! ### SCRUB (R118) -/

/-- Scrub `x` starts, and holds its core. -/
def State.scrubStart (s : State) (x : Scrub) : State :=
  let u := if 2 ≤ x.target then s.setCore x.die x.core { s.core x.die x.core with held := true } else s
  { u with comp := { u.comp with scrubs := u.comp.scrubs ++ [x] } }

theorem exec_scrub {s : State} {r : Nat} {d : Inflight} (h : Starts s r 0x19 d) (whole : s.loss = none)
    (aligned : le d.bytes 16 8 % 4096 = 0) (some_ : 0 < le d.bytes 12 4) (bounded : le d.bytes 12 4 ≠ 0xFFFFFFFF)
    (low : (scrubRange (le d.bytes 8 1) (le d.bytes 10 1)).1 ≤ le d.bytes 16 8)
    (high : le d.bytes 16 8 + le d.bytes 12 4 * 4096 ≤ (scrubRange (le d.bytes 8 1) (le d.bytes 10 1)).2) :
    exec (.scrub r) s = .next (
      if 2 ≤ le d.bytes 8 1 && ((s.core (le d.bytes 9 1) (le d.bytes 10 1)).tile.isSome ||
        s.physReserved (le d.bytes 9 1) (le d.bytes 10 1)) then (s.begin r d.num).complete r d.num .scrubBusy
      else (s.begin r d.num).scrubStart ⟨r, d.num, le d.bytes 8 1, le d.bytes 9 1, le d.bytes 10 1, le d.bytes 16 8,
        le d.bytes 12 4 * 512⟩) := by
  refine (guardI_true (decide_eq_true h.ring)).trans (congrArg Host.Outcome.next ?_)
  rw [whole, if_neg (by simp), h.withDesc]
  dsimp only
  have inRange : ¬(le d.bytes 12 4 = 0 ∨ le d.bytes 12 4 = 0xFFFFFFFF ∨
      le d.bytes 16 8 < (scrubRange (le d.bytes 8 1) (le d.bytes 10 1)).1 ∨
      (scrubRange (le d.bytes 8 1) (le d.bytes 10 1)).2 < le d.bytes 16 8 + le d.bytes 12 4 * 4096) := by omega
  rw [if_neg (by simpa using aligned), if_neg (by simpa only [Bool.or_eq_true, decide_eq_true_eq, or_assoc] using inRange)]
  rfl

theorem State.scrubStart_scrubs (s : State) (x : Scrub) : (s.scrubStart x).comp.scrubs = s.comp.scrubs ++ [x] := by
  unfold State.scrubStart
  split
  · rfl
  · rfl

theorem State.scrubStart_held (s : State) {x : Scrub} (h : 2 ≤ x.target) :
    ((s.scrubStart x).core x.die x.core).held = true := by
  unfold State.scrubStart
  rw [if_pos h]
  exact congrArg Core.held (State.core_setCore ..)

theorem State.scrubStart_hif (s : State) (x : Scrub) : (s.scrubStart x).hif = s.hif := by
  unfold State.scrubStart
  split
  · rfl
  · rfl

/-- Settles O22: a commit freezes the staging and is validated; a scrub waits for no core. -/
theorem commitDescriptors : Obligations.CommitDescriptors := by
  intro s r d
  refine ⟨?commit, ?busy, ?notOpen, ?timeout, ?scrub⟩
  case commit =>
    intro h owns first v
    have accepted : (s.cfgOwns r && (!s.cfgCommitting || decide (s.cfg.commitNum = some d.num))) = true := by
      rcases first with first | first
      · simp [owns, first]
      · simp [owns, first]
    refine ⟨_, exec_cfgCommit h, ?_⟩
    rw [if_pos accepted]
    have overflow := (s.begin r d.num).cfgFrozen_overflow d.num
    refine ⟨fun fits valid => ?_, fun full => ?_, fun a st fits fault => ?_⟩
    · have waits : ((s.begin r d.num).cfgFrozen d.num).cfgValidate d.num =
          ((s.begin r d.num).cfgFrozen d.num).cfgPending := by
        unfold State.cfgValidate
        rw [if_neg (by rw [overflow]; exact ne_true_of_eq_false fits),
          show ((s.begin r d.num).cfgFrozen d.num).prelim = none from valid]
      have pending := ((s.begin r d.num).cfgFrozen d.num).cfgPending_frame
      rw [waits]
      refine ⟨(State.flag_congr (pending.glb rfl (by decide)) 1).trans (State.cfgFrozen_committing ..), ?_, ?_, ?_⟩
      · rw [pending.cfg rfl, State.cfgFrozen_cfg]
      · rw [pending.cfg rfl, State.cfgFrozen_cfg, State.begin_cfg]
      · rw [pending.desc rfl, ((s.begin r d.num).cfgFrozen_frame d.num).desc rfl]
        exact State.begin_desc h.desc
    · have fails : ((s.begin r d.num).cfgFrozen d.num).cfgValidate d.num =
          ((s.begin r d.num).cfgFrozen d.num).cfgFail d.num none .cfgWriteInvalid := by
        unfold State.cfgValidate
        exact if_pos (overflow.trans full)
      rw [fails]
      exact ⟨h.cfgFail owns _ _, State.cfgFail_cfgOpen .., (State.cfgFail_cfg ..).1⟩
    · have fails : ((s.begin r d.num).cfgFrozen d.num).cfgValidate d.num =
          ((s.begin r d.num).cfgFrozen d.num).cfgFail d.num (some a) st := by
        unfold State.cfgValidate
        rw [if_neg (by rw [overflow]; exact ne_true_of_eq_false fits),
          show ((s.begin r d.num).cfgFrozen d.num).prelim = some (a, st) from fault]
      rw [fails]
      exact ⟨h.cfgFail owns _ _, State.cfgFail_cfgOpen .., (State.cfgFail_cfg ..).1, State.cfgFail_register ..,
        State.cfgFail_status ..⟩
  case busy =>
    intro h owns commits other
    refine ⟨_, exec_cfgCommit h, ?_⟩
    rw [if_neg (by simp [commits, other])]
    exact h.cfgMiss_busy owns
  case notOpen =>
    intro h foreign kept
    refine ⟨_, exec_cfgCommit h, ?_⟩
    rw [if_neg (by simp [foreign])]
    exact h.cfgMiss_notOpen foreign kept
  case timeout =>
    intro h foreign late
    refine ⟨_, exec_cfgCommit h, ?_⟩
    rw [if_neg (by simp [foreign])]
    exact h.cfgMiss_timeout foreign late
  case scrub =>
    intro h whole aligned target die core n base lim some_ bounded low high
    refine ⟨fun free => ⟨_, exec_scrub h whole aligned some_ bounded low high, ?_⟩,
      fun held used => ⟨_, exec_scrub h whole aligned some_ bounded low high, ?_⟩⟩
    · have starts : ¬(decide (2 ≤ target) && ((s.core die core).tile.isSome || s.physReserved die core)) = true := by
        rcases free with small | ⟨idle, unreserved⟩
        · simp [small]
        · simp [idle, unreserved]
      rw [if_neg starts]
      refine ⟨State.scrubStart_scrubs .., fun held => State.scrubStart_held _ held, ?_⟩
      unfold State.desc State.ring
      rw [State.scrubStart_hif]
      exact State.begin_desc h.desc
    · have refused : (decide (2 ≤ target) && ((s.core die core).tile.isSome || s.physReserved die core)) = true := by
        rcases used with busy | reserved
        · simp [held, Option.isSome_iff_ne_none.mpr busy]
        · simp [held, reserved]
      rw [if_pos refused]
      exact ⟨h.refuses _, (State.complete_frame ..).scrubs rfl⟩

end Sys2Proof.Machine

/-!
The safety block's triggers (13_functional_safety.md: R302 to R308): package stops, stops of mapped groups and test
pulses.
-/

namespace Sys2Proof.Machine

open Sys2Proof

/-! ### Package stops (R303, R306, R307) -/

/-- The package is stopped until package reset, with every axis of `s` that is enabled. -/
def State.StoppedFrom (s t : State) : Prop :=
  t.pkgStopped = true ∧ t.saf.latched = true ∧ (∀ g < 4, t.stopped.testBit g = true) ∧
    ∀ a < 64, s.axOn a = true → t.SafetyOwns a

theorem State.wdPackage_stops {s u : State} (f : Frame 0x40000100030 s u) (stage : Nat) (i : Option Nat) :
    s.StoppedFrom (u.wdPackage stage i) := State.wdPackage_from f rfl stage i

/-- The watchdogs of the control windows wait for an instant of the present one. -/
theorem exec_profileWatchdogExpiry {s u : State} (live : s.clk.live = true) (win : s.clk.win = .collecting)
    (due : s.reach (s.cutoff + 10000) = some u) : exec .profileWatchdogExpiry s = .next (u.wdPackage 5 none) := by
  refine congrArg Host.Outcome.next ?_
  rw [if_pos (by simp [live, win]), State.atT_some due]

theorem exec_loopWatchdogExpiry {s u : State} (live : s.clk.live = true) (win : s.clk.win = .collecting)
    (due : s.reach (s.cutoff + 18000) = some u) : exec .loopWatchdogExpiry s = .next (u.wdPackage 6 none) := by
  refine congrArg Host.Outcome.next ?_
  rw [if_pos (by simp [live, win]), State.atT_some due]

section Output

variable {s u : State} {a : Nat} (ha : a < 64)

include ha

theorem exec_outputWatchdogExpiry_late {due : Nat} (late : s.ethLate a = some due) (reached : s.reach due = some u) :
    exec (.outputWatchdogExpiry a) s = .next (u.wdPackage 7 (some a)) := by
  refine (guardI_true (decide_eq_true ha)).trans (congrArg Host.Outcome.next ?_)
  rw [late]
  exact State.atT_some reached _

theorem exec_outputWatchdogExpiry_missing (queued : s.ethLate a = none) (live : s.clk.live = true)
    (on : s.axOn a = true) (win : s.clk.win = .computed) (none : (s.ax a).staged = none)
    (reached : s.reach (s.clk.nextEdge - 5000) = some u) :
    exec (.outputWatchdogExpiry a) s = .next (u.wdPackage 7 (some a)) := by
  refine (guardI_true (decide_eq_true ha)).trans (congrArg Host.Outcome.next ?_)
  rw [queued]
  dsimp only
  rw [if_pos (by simp [live, on, win, none]), State.atT_some reached]

end Output

/-- The block keeps `kick` as what the next kick must bring. -/
def State.setKick (s : State) (kick : Option (Nat × Nat)) : State := { s with saf := { s.saf with kick := kick } }

theorem State.setKick_frame (s : State) (kick : Option (Nat × Nat)) : Frame 0x800 s (s.setKick kick) := Frame.saf_upd ..

theorem State.setKick_stops {s u : State} (f : Frame 0x40000100030 s u) (kick : Option (Nat × Nat)) :
    s.StoppedFrom ((u.setKick kick).wdPackage 8 none) :=
  State.wdPackage_from (m := 0x40000100830) ((f.mono rfl).trans ((u.setKick_frame kick).mono rfl)) rfl 8 none

theorem State.wdPackage_kick (s : State) (stage : Nat) (i : Option Nat) :
    (s.wdPackage stage i).saf.kick = s.saf.kick := by
  rw [← Saf.core_kick, State.wdPackage_core]
  rfl

theorem exec_kernelWatchdogExpiry {s u : State} {want last : Nat} (kick : s.saf.kick = some (want, last))
    (due : s.reachRef (last + 150001) = some u) :
    exec .kernelWatchdogExpiry s = .next ((u.setKick none).wdPackage 8 none) := by
  refine congrArg Host.Outcome.next ?_
  rw [kick]
  exact State.atRef_some due _

section Kick

variable {s u : State} {value after want last : Nat} (ready : s.isReady = true)
  (runs : s.hm.pilots.all (fun p => p.state = 0) = true)

include ready runs

theorem State.kick_heard : ¬(!s.isReady || s.hm.pilots.any (fun p => p.state ≠ 0)) = true := by
  have none : s.hm.pilots.any (fun p => decide (p.state ≠ 0)) = false := by
    rw [List.any_eq_false]
    intro p hp
    simpa using List.all_eq_true.mp runs p hp
  rw [ready, none]
  simp

theorem exec_kernelKick_first (first : s.saf.kick = none) :
    exec (.kernelKick value after) s = .next (s.setKick (some ((value + 1) % 256, s.clk.ref))) := by
  refine congrArg Host.Outcome.next ?_
  rw [if_neg (State.kick_heard ready runs), first]
  rfl

theorem exec_kernelKick (kick : s.saf.kick = some (want, last)) (due : s.reachRef (last + after) = some u) :
    exec (.kernelKick value after) s = .next (
      if value % 256 = want && decide (last + 50000 ≤ u.clk.ref) && decide (u.clk.ref ≤ last + 150000)
      then u.setKick (some ((value + 1) % 256, u.clk.ref))
      else (u.setKick (some ((value + 1) % 256, u.clk.ref))).wdPackage 8 none) := by
  refine congrArg Host.Outcome.next ?_
  rw [if_neg (State.kick_heard ready runs), kick]
  exact State.atRef_some due _

end Kick

/-- A readback fault is flagged and logged before the package stops. -/
def State.readbackFault (s : State) (g : Nat) : State :=
  ((s.raise (ssoA g 0xC) 2).event (safA 0) 7 (safA 0x420)).safFaultFree .safeOutputFault 0xF 0

theorem State.readbackFault_frame (s : State) (g : Nat) : Frame 0x5000000108008 s (s.readbackFault g) :=
  (((State.raise_frame rfl (tb_ssoA rfl) ..).trans (State.event_frame rfl (tb_safA rfl) (tb_safA rfl) ..)).trans
    (State.safFaultFree_frame ..))

/-- A field of an output's status does not undo a package stop. -/
theorem State.StoppedFrom.put {s t : State} (h : s.StoppedFrom t) (g hi lo v : Nat) :
    s.StoppedFrom (t.put (ssoA g 0xC) hi lo v) := by
  obtain ⟨stopped, latched, groups, owns⟩ := h
  have stat := t.rd_put_ne hi lo v (ssoA_ne_stat g 0xC)
  refine ⟨(State.flag_congr stat 23).trans stopped, (congrArg Saf.latched (State.put_saf ..)).trans latched, fun g' hg => ?_,
    fun a ha on => ⟨?_, ?_⟩⟩
  · unfold State.stopped
    rw [State.fld_congr stat]
    exact groups g' hg
  · rw [State.rd_put_ne _ _ _ _ (by unfold ssoA ctlA; omega)]
    exact (owns a ha on).level
  · unfold State.ax
    rw [State.put_axes]
    exact (owns a ha on).owned

theorem exec_ssoReadbackFault {s : State} {g ch : Nat} (hg : g < 4) (hch : ch < 2) (ready : s.isReady = true) :
    ∃ v, exec (.ssoReadbackFault g ch) s =
      .next (((s.readbackFault g).packageStop true).put (ssoA g 0xC) ch ch v) := by
  refine ⟨_, (guardI_true (by simp [hg, hch])).trans (congrArg Host.Outcome.next (if_neg (by simp [ready])))⟩

/-- Settles O13: each trigger ends in the one operation that stops the package. -/
theorem latchedPackageStop : Obligations.LatchedPackageStop := by
  refine ⟨fun s u live win due => ⟨_, exec_profileWatchdogExpiry live win due, ?_⟩,
    fun s u live win due => ⟨_, exec_loopWatchdogExpiry live win due, ?_⟩,
    fun s u a due ha late reached => ⟨_, exec_outputWatchdogExpiry_late ha late reached, ?_⟩,
    fun s u a ha queued live on win none reached =>
      ⟨_, exec_outputWatchdogExpiry_missing ha queued live on win none reached, ?_⟩,
    fun s u want last kick due => ⟨_, exec_kernelWatchdogExpiry kick due, ?_⟩, fun s g ch hg hch ready => ?_,
    fun s value after ready runs first => ⟨_, exec_kernelKick_first ready runs first, rfl, rfl⟩,
    fun s u value after want last ready runs kick due => ⟨_, exec_kernelKick ready runs kick due, ?_, ?_, ?_⟩⟩
  · exact State.wdPackage_stops (State.reach_fr due) ..
  · exact State.wdPackage_stops (State.reach_fr due) ..
  · exact State.wdPackage_stops (State.reach_fr reached) ..
  · exact State.wdPackage_stops (State.reach_fr reached) ..
  · exact State.setKick_stops (State.reachRef_fr due) none
  · obtain ⟨v, run⟩ := exec_ssoReadbackFault hg hch ready
    have stops : s.StoppedFrom ((s.readbackFault g).packageStop true) :=
      State.packageStop_from (s.readbackFault_frame g) rfl
    exact ⟨_, run, stops.put g ch ch v⟩
  · split
    · rfl
    · exact State.wdPackage_kick ..
  · intro wrong
    rw [if_neg (by simp only [Bool.and_eq_true, decide_eq_true_eq]; omega)]
    exact State.setKick_stops (State.reachRef_fr due) _
  · intro right early late
    rw [if_pos (by simp [right, early, late])]
    rfl

/-! ### Test pulses (R306) -/

section Pulse

variable (s : State) (g ch v : Nat) (p : Pulse)

theorem State.pulseEdge_regs : (s.pulseEdge g ch v p).regs = (s.put (ssoA g 0xC) ch ch v).regs := rfl

theorem State.pulseEdge_flag (h : ch < 2) : (s.pulseEdge g ch v p).flag (ssoA g 0xC) ch = v.testBit 0 := by
  rw [State.flag_congr (State.rd_congr (s.pulseEdge_regs g ch v p) _),
    State.flag_put_self _ _ _ (Nat.le_refl ch) (by omega) ⟨Nat.le_refl ch, Nat.le_refl ch⟩, Nat.sub_self]

theorem State.pulseEdge_pulse : tget Pulse.init (s.pulseEdge g ch v p).saf.pulses (2 * g + ch) = p := by
  unfold State.pulseEdge
  extract_lets u w
  rw [State.emit_saf]
  exact tget_tset_self Pulse.init u.saf.pulses (2 * g + ch) p

theorem State.pulseEdge_out : (s.pulseEdge g ch v p).out = s.out ++ [.sso g ((s.pulseEdge g ch v p).flag (ssoA g 0xC) 0)
    ((s.pulseEdge g ch v p).flag (ssoA g 0xC) 1)] := by
  unfold State.pulseEdge
  extract_lets u src w
  rw [State.flag_congr (State.emit_rd ..), State.flag_congr (State.emit_rd ..), State.emit_out,
    show w.out = u.out from rfl, show u.out = s.out from State.put_out ..]

end Pulse

/-- Settles O15: a pulse's two edges differ in the level they drive and in what they make due. -/
theorem testPulses : Obligations.TestPulses := by
  refine ⟨fun s u g ch due hg hch run on pulse some_ reached => ?_, fun s u g ch due hg hch pulse reached => ?_⟩
  · have starts : exec (.ssoTestPulse g ch) s = .next (u.pulseEdge g ch 0 ⟨true, u.clk.ref + 200000⟩) := by
      refine (guardI_true (by simp [hg, hch])).trans (congrArg Host.Outcome.next ?_)
      rw [pulse]
      dsimp only
      rw [if_neg (by simp [run, on]; omega), State.atRef_some reached]
    exact ⟨_, starts, State.pulseEdge_flag _ _ _ _ _ hch, State.pulseEdge_pulse .., State.pulseEdge_out ..⟩
  · have ends : exec (.testPulseEnd g ch) s = .next (u.pulseEdge g ch 1 ⟨false, due + 249800000⟩) := by
      refine (guardI_true (by simp [hg, hch])).trans (congrArg Host.Outcome.next ?_)
      rw [pulse]
      exact State.atRef_some reached _
    exact ⟨_, ends, State.pulseEdge_flag _ _ _ _ _ hch, State.pulseEdge_pulse .., State.pulseEdge_out ..⟩

/-! ### Stops of the mapped groups (R305, R307, R308) -/

/-- The groups of a mask that stop are stopped. -/
theorem State.stopGroups_mask (s : State) (m : Nat) {g : Nat} (hg : g < 4) (h : m.testBit g = true) :
    (s.stopGroups m).stopped.testBit g = true := State.stopGroups_stopped s m hg (by rw [h, Bool.true_or])

theorem State.wdFault_mask (s : State) (stage index m : Nat) {g : Nat} (hg : g < 4) (h : m.testBit g = true) :
    (s.wdFault stage index m).stopped.testBit g = true := State.stopGroups_mask _ _ hg h

/-- Reaching a time leaves the safety block's settings. -/
theorem State.reachRef_safA {s u : State} {due : Nat} (h : s.reachRef due = some u) {o : Nat} (ho : o < 0x100000) :
    u.rd (safA o) = s.rd (safA o) := (State.reachRef_fr h).blk _ (by rw [blk_safA o ho]; rfl)

theorem State.reach_safA {s u : State} {due : Nat} (h : s.reach due = some u) {o : Nat} (ho : o < 0x100000) :
    u.rd (safA o) = s.rd (safA o) := (State.reach_fr h).blk _ (by rw [blk_safA o ho]; rfl)

/-- A counted miss leaves the safety block's settings. -/
theorem State.wdMiss_rd (s : State) (stage : Nat) {o : Nat} (low : o < 0x400) (h : o ≠ 0) :
    (s.wdMiss stage).rd (safA o) = s.rd (safA o) := by
  unfold State.wdMiss
  exact State.rd_event_ne _ _ (by unfold safA; omega) (by unfold safA; omega)

theorem exec_ingestWatchdogExpiry {s u : State} {st last : Nat} (hst : st < 48) (seen : (s.sst st).last = some last)
    (armed : s.flag (safSt st 0) 31 = true) (due : s.reachRef (last + s.fld (safSt st 4) 31 16 * 100000) = some u) :
    exec (.ingestWatchdogExpiry st) s = .next (((u.setSst st { u.sst st with last := none, missed := true }).wdMiss
      1).wdFault 1 st (u.fld (safA 4) 3 0)) := by
  refine (guardI_true (decide_eq_true hst)).trans (congrArg Host.Outcome.next ?_)
  rw [seen]
  dsimp only
  rw [if_neg (by simp [armed]), State.atRef_some due]

/-- Stage 2 no longer waits for sample `x`. -/
def State.preSeen (s : State) (st : Nat) (x : Sample) : State :=
  s.updSample st (fun y => y.num == x.num && y.canary == x.canary) (fun y => { y with done := 0 })

theorem State.preSeen_safA (s : State) (st : Nat) (x : Sample) {o : Nat} (ho : o < 0x100000) :
    (s.preSeen st x).rd (safA o) = s.rd (safA o) := (State.updSample_frame ..).blk _ (by rw [blk_safA o ho]; rfl)

theorem exec_preprocessWatchdogExpiry {s u : State} {st : Nat} {x : Sample} (hst : st < 48)
    (waits : (s.strm st).wait.find? (fun x => decide (x.done ≠ 0)) = some x)
    (due : s.reach (x.done + s.fld (safA 0xC) 15 0 * 1000 + 1) = some u) :
    exec (.preprocessWatchdogExpiry st) s =
      .next (((u.preSeen st x).wdMiss 2).wdFault 2 st ((u.preSeen st x).fld (safA 4) 7 4)) := by
  refine (guardI_true (decide_eq_true hst)).trans (congrArg Host.Outcome.next ?_)
  rw [waits]
  exact State.atT_some due _

/-- A missing publication is counted; at the limit the count starts anew. -/
def State.percCounted (s : State) : State :=
  ({ s with saf := { s.saf with
    percDue := s.saf.percDue - 1
    percMiss := if s.fld (safA 0x10) 27 24 ≤ s.saf.percMiss + 1 then 0 else s.saf.percMiss + 1 } } : State).wdMiss 3

theorem State.percCounted_due (s : State) : s.percCounted.saf.percDue = s.saf.percDue - 1 := by
  unfold State.percCounted
  rw [(State.wdMiss_frame ..).saf rfl]

theorem State.percCounted_react (s : State) : s.percCounted.fld (safA 4) 11 8 = s.fld (safA 4) 11 8 := by
  unfold State.percCounted
  rw [State.fld_congr (State.wdMiss_rd _ _ (by decide) (by decide))]
  exact State.fld_congr (State.rd_saf ..) ..

/-- The stop of stage 3 leaves what the stage waits for. -/
theorem State.stopGroups_percDue (s : State) (m : Nat) : (s.stopGroups m).saf.percDue = s.saf.percDue := by
  rw [← Saf.core_percDue, State.stopGroups_core, Saf.core_percDue]

theorem exec_perceptionWatchdogMiss {s : State} (due : 0 < s.saf.percDue) (armed : s.flag (safA 0x10) 31 = true) :
    exec .perceptionWatchdogMiss s = .next (
      if s.fld (safA 0x10) 27 24 ≤ s.saf.percMiss + 1
      then (s.percCounted.safFaultFree .watchdogExpired (s.percCounted.fld (safA 4) 11 8) 3).stopGroups
        (s.percCounted.fld (safA 4) 11 8) else s.percCounted) := by
  refine congrArg Host.Outcome.next ?_
  rw [if_neg (by simp [armed]; omega)]
  rfl

theorem exec_segmentWatchdogExpiry {s u : State} {a since : Nat} (ha : a < 64) (seg : (s.ax a).segRef = some since)
    (armed : s.flag (safA 0x14) 31 = true) (moves : s.axState a = 2) (planner : s.fld (ctlA a 0x104) 31 28 = 9)
    (due : s.reachRef (since + s.fld (safA 0x14) 15 0 * 1000000) = some u) :
    exec (.segmentWatchdogExpiry a) s =
      .next (((u.setAx a { u.ax a with segRef := none }).wdMiss 4).wdFault 4 a (u.fld (safA 4) 15 12)) := by
  refine (guardI_true (decide_eq_true ha)).trans (congrArg Host.Outcome.next ?_)
  rw [seg]
  dsimp only
  rw [if_neg (by simp [armed, moves, planner]), State.atRef_some due]

/-- Channel `ch` of input `i` has come to `level`. -/
def State.siMoved (s : State) (i ch stamp uncert : Nat) (level : Bool) : State :=
  let u := (s.put (safA 0x60) (2 * i + ch) (2 * i + ch) (b2n level)).stamped (min uncertMax uncert)
  (u.slogAdd 0x07 0 i stamp (min uncertMax uncert) [BitVec.ofNat 8 i, BitVec.ofNat 8 (b2n (u.siLevel i 0)),
    BitVec.ofNat 8 (b2n (u.siLevel i 1))]).siTrack i

theorem exec_safetyInputChange {s : State} {i ch stamp uncert : Nat} {level : Bool} (hi : i < 16) (hch : ch < 2)
    (moves : s.siLevel i ch ≠ level) (runs : s.inReplay = false) (ready : s.isReady = true) :
    exec (.safetyInputChange i ch level stamp uncert) s = .next (
      if (s.siMoved i ch stamp uncert level).siOn i && s.siRun i && !(s.siMoved i ch stamp uncert level).siRun i
      then (s.siMoved i ch stamp uncert level).siDemand i else s.siMoved i ch stamp uncert level) := by
  refine (guardI_true (by simp [hi, hch])).trans (congrArg Host.Outcome.next ?_)
  rw [if_neg (by simp [moves, runs, ready])]
  rfl

section Moved

variable (s : State) (i ch stamp uncert : Nat) (level : Bool)

/-- Of the safety block's registers an input change writes the levels and what shows their run states. -/
theorem State.siMoved_rd {o : Nat} (ho : o < 0x100000) (h : o ≠ 0x64) : (s.siMoved i ch stamp uncert level).rd (safA o) =
    (s.put (safA 0x60) (2 * i + ch) (2 * i + ch) (b2n level)).rd (safA o) := by
  unfold State.siMoved State.siTrack
  extract_lets u v d w
  have logged : (u.slogAdd 0x07 0 i stamp (min uncertMax uncert) [BitVec.ofNat 8 i, BitVec.ofNat 8 (b2n (u.siLevel i 0)),
      BitVec.ofNat 8 (b2n (u.siLevel i 1))]).rd (safA o) = u.rd (safA o) :=
    (State.slogAdd_frame ..).blk _ (by rw [blk_safA o ho]; rfl)
  have stamped : u.rd (safA o) = (s.put (safA 0x60) (2 * i + ch) (2 * i + ch) (b2n level)).rd (safA o) :=
    (State.stamped_frame ..).blk _ (by rw [blk_safA o ho]; rfl)
  rw [State.rd_saf, State.rd_put_ne _ _ _ _ (by unfold safA; omega), logged, stamped]

theorem State.siMoved_cfg (hi : i < 16) : (s.siMoved i ch stamp uncert level).rd (safA (0x20 + 4 * i)) =
    s.rd (safA (0x20 + 4 * i)) :=
  (s.siMoved_rd i ch stamp uncert level (by omega) (by omega)).trans (State.rd_put_ne _ _ _ _ (by unfold safA; omega))

theorem State.siMoved_level (hi : i < 16) (hch : ch < 2) : (s.siMoved i ch stamp uncert level).siLevel i ch = level := by
  unfold State.siLevel
  rw [State.flag_congr (s.siMoved_rd i ch stamp uncert level (by decide) (by decide)),
    State.flag_put_self _ _ _ (Nat.le_refl _) (by omega) ⟨Nat.le_refl _, Nat.le_refl _⟩, Nat.sub_self]
  cases level <;> rfl

theorem State.siMoved_level_ne {c : Nat} (hi : i < 16) (hch : ch < 2) (h : c ≠ ch) :
    (s.siMoved i ch stamp uncert level).siLevel i c = s.siLevel i c := by
  unfold State.siLevel
  rw [State.flag_congr (s.siMoved_rd i ch stamp uncert level (by decide) (by decide)),
    State.flag_put_beside _ _ _ (Nat.le_refl _) (by omega) (by omega)]

/-- An input in its run state leaves it when either channel moves. -/
theorem State.siMoved_leaves (hi : i < 16) (hch : ch < 2) (moves : s.siLevel i ch ≠ level) (run : s.siRun i = true) :
    (s.siMoved i ch stamp uncert level).siRun i = false := by
  have anti : (s.siMoved i ch stamp uncert level).siAnti i = s.siAnti i :=
    State.flag_congr (s.siMoved_cfg i ch stamp uncert level hi) 30
  have moved := s.siMoved_level i ch stamp uncert level hi hch
  unfold State.siRun at run ⊢
  rw [anti]
  have : ch = 0 ∨ ch = 1 := by omega
  rcases this with rfl | rfl
  · rw [moved, s.siMoved_level_ne i 0 stamp uncert level hi hch (by decide)]
    revert run moves
    cases s.siAnti i <;> cases s.siLevel i 0 <;> cases level <;> simp
  · rw [moved, s.siMoved_level_ne i 1 stamp uncert level hi hch (by decide)]
    revert run moves
    cases s.siAnti i <;> cases s.siLevel i 1 <;> cases level <;> simp

end Moved

/-- Stops and their records leave the levels and the discrepancies of the inputs. -/
theorem State.stopped_low (s : State) (st : Status) (i m k : Nat) {o : Nat} (h : 0 < o) (h2 : o < 0x80) :
    ((s.safFault st i m k).stopGroups m).rd (safA o) = s.rd (safA o) :=
  (State.stopGroups_low _ _ h h2).trans (State.safFault_low _ _ _ _ _ h2)

theorem State.siDemand_level (s : State) (i j ch : Nat) : (s.siDemand i).siLevel j ch = s.siLevel j ch := by
  unfold State.siDemand
  exact State.flag_congr ((State.stopped_low _ _ _ _ _ (by decide) (by decide)).trans
    (State.rd_event_ne _ _ (by decide) (by decide))) _

/-- The discrepancy of input `i` is recorded, and its groups stop. -/
def State.siDiscrepant (s : State) (i : Nat) : State :=
  let u := ({ s with saf := { s.saf with discSince := tset 0 s.saf.discSince i 0 } } : State)
  let v := (u.raise (safA 0x64) (16 + i)).event (safA 0) 3 (safA 0x41C)
  (v.safFault .safetyInputDiscrepancy i (v.siGroups i) 0).stopGroups (v.siGroups i)

theorem exec_inputDiscrepancy {s u : State} {i since : Nat} (hi : i < 16)
    (disagrees : tget 0 s.saf.discSince i = since + 1) (on : s.siOn i = true)
    (due : s.reachRef (since + s.fld (safA (0x20 + 4 * i)) 9 0 * 1000000 + 1) = some u) :
    exec (.inputDiscrepancy i) s = .next (u.siDiscrepant i) := by
  refine (guardI_true (decide_eq_true hi)).trans (congrArg Host.Outcome.next ?_)
  rw [disagrees]
  dsimp only
  rw [if_neg (by simp [on]), Nat.add_sub_cancel, State.atRef_some due]
  rfl

theorem State.siDiscrepant_flag (s : State) {i : Nat} (hi : i < 16) :
    (s.siDiscrepant i).flag (safA 0x64) (16 + i) = true := by
  unfold State.siDiscrepant
  extract_lets src u v
  rw [State.flag_congr (State.stopped_low _ _ _ _ _ (by decide) (by decide))]
  unfold v
  rw [State.flag_event_ne _ _ _ (by decide) (by decide), State.flag_raise_self _ _ (by omega)]

theorem State.siDiscrepant_stops (s : State) {i g : Nat} (hi : i < 16) (hg : g < 4) (h : (s.siGroups i).testBit g = true) :
    (s.siDiscrepant i).stopped.testBit g = true := by
  unfold State.siDiscrepant
  extract_lets src u v
  have kept : v.siGroups i = s.siGroups i := by
    unfold State.siGroups
    refine State.fld_congr ?_ _ _
    unfold v
    rw [State.rd_event_ne _ _ (by unfold safA; omega) (by unfold safA; omega),
      State.rd_raise_ne _ _ (by unfold safA; omega)]
    exact State.rd_saf ..
  exact State.stopGroups_mask _ _ hg (by rw [kept]; exact h)

/-- Settles O14: each trigger stops the groups that the register it read names. -/
theorem mappedGroupsStop : Obligations.MappedGroupsStop := by
  refine ⟨fun s u st last hst seen armed due => ⟨_, exec_ingestWatchdogExpiry hst seen armed due, fun g hg named => ?_⟩,
    fun s u st x hst waits due => ⟨_, exec_preprocessWatchdogExpiry hst waits due, fun g hg named => ?_⟩,
    fun s due armed => ⟨_, exec_perceptionWatchdogMiss due armed, ?_⟩,
    fun s u a since ha seg armed moves planner due =>
      ⟨_, exec_segmentWatchdogExpiry ha seg armed moves planner due, fun g hg named => ?_⟩,
    fun s i ch stamp uncert level hi hch moves runs ready =>
      ⟨_, exec_safetyInputChange hi hch moves runs ready, ?_, fun on run g hg named => ?_⟩,
    fun s u i since hi disagrees on due => ⟨_, exec_inputDiscrepancy hi disagrees on due, State.siDiscrepant_flag _ hi,
      fun g hg named => ?_⟩⟩
  · exact State.wdFault_mask _ _ _ _ hg (by rw [State.fld_congr (State.reachRef_safA due (by decide))]; exact named)
  · refine State.wdFault_mask _ _ _ _ hg ?_
    rw [State.fld_congr ((State.preSeen_safA _ _ _ (by decide)).trans (State.reach_safA due (by decide)))]
    exact named
  · split
    · refine ⟨?_, fun _ g hg named => State.stopGroups_mask _ _ hg (by rw [State.percCounted_react]; exact named)⟩
      rw [State.stopGroups_percDue, (State.safFaultFree_frame ..).saf rfl, State.percCounted_due]
    · next below => exact ⟨State.percCounted_due s, fun limit => absurd limit below⟩
  · exact State.wdFault_mask _ _ _ _ hg (by rw [State.fld_congr (State.reachRef_safA due (by decide))]; exact named)
  · split
    · exact (State.siDemand_level ..).trans (State.siMoved_level _ _ _ _ _ _ hi hch)
    · exact State.siMoved_level _ _ _ _ _ _ hi hch
  · have on' : (s.siMoved i ch stamp uncert level).siOn i = true :=
      (State.flag_congr (s.siMoved_cfg i ch stamp uncert level hi) 31).trans on
    rw [if_pos (by rw [on', run, State.siMoved_leaves _ _ _ _ _ _ hi hch moves run]; rfl)]
    refine State.stopGroups_mask _ _ hg ?_
    unfold State.siGroups
    rw [State.fld_congr (State.siMoved_cfg _ _ _ _ _ _ hi)]
    exact named
  · refine State.siDiscrepant_stops _ hi hg ?_
    unfold State.siGroups
    rw [State.fld_congr (State.reachRef_safA due (by omega))]
    exact named

end Sys2Proof.Machine

/-!
SAFETY_RESET and GOLDEN_LOAD (13_functional_safety.md: R302, R312).
-/

namespace Sys2Proof.Machine

open Sys2Proof

/-! ### SAFETY_RESET (R302) -/

/-- The bits that a fold sets. -/
theorem testBit_foldl_setBitN (p : Nat → Bool) (l : List Nat) (n g : Nat) :
    (l.foldl (fun n g => if p g then setBitN n g else n) n).testBit g = (n.testBit g || (l.contains g && p g)) := by
  induction l generalizing n with
  | nil => simp
  | cons x l ih =>
    rw [List.foldl_cons, ih, List.contains_cons]
    by_cases hx : p x = true
    · rw [if_pos hx, testBit_setBitN]
      by_cases e : x = g
      · subst e
        simp [hx]
      · simp [e, beq_eq_false_iff_ne.mpr (Ne.symm e)]
    · rw [if_neg hx]
      by_cases e : g = x
      · subst e
        simp [hx]
      · simp [beq_eq_false_iff_ne.mpr e]

/-- A safety reset names group `g`, which is stopped and was not stopped again since the fetch. -/
theorem State.resetGroups_testBit (s : State) (d : Inflight) {g : Nat} (hg : g < 4) :
    (s.resetGroups d).testBit g =
      ((le d.bytes 8 1).testBit g && s.stopped.testBit g && s.saf.stops.getD g 0 == d.fetch.stops.getD g 0) := by
  unfold State.resetGroups
  rw [testBit_foldl_setBitN (fun g => (le d.bytes 8 1).testBit g && s.stopped.testBit g &&
    s.saf.stops.getD g 0 == d.fetch.stops.getD g 0)]
  simp [hg]

/-- Every group that the descriptor names could be released when it was fetched. -/
def resetGranted (d : Inflight) : Bool :=
  ((List.range 4).filter (fun g => (le d.bytes 8 1).testBit g)).all (fun g => d.fetch.may.testBit g)

theorem exec_safetyReset {s : State} {r : Nat} {d : Inflight} (h : Starts s r 0x28 d) : exec (.safetyReset r) s =
    .next (if resetGranted d then (((s.begin r d.num).complete r d.num .success).logDesc r d
        ((s.begin r d.num).resetGroups d) 0 [] []).acceptReset ((s.begin r d.num).resetGroups d)
      else (s.begin r d.num).complete r d.num .safetyResetRefused) := h.guard _

/-- What follows the completion of an accepted reset. -/
theorem State.resetLogged_frame (s : State) (r : Nat) (d : Inflight) (m : Nat) :
    Frame 0x10000101800 s ((s.logDesc r d m 0 [] []).acceptReset m) :=
  ((State.logDesc_frame ..).mono rfl).step (Frame.saf_upd ..) rfl

/-- A frame that leaves the safety block's registers keeps the stopped groups. -/
theorem Frame.stopped {m : Nat} {s t : State} (f : Frame m s t) (h : touches m 48 = false) : t.stopped = s.stopped :=
  State.fld_congr (f.blk _ (by rw [blk_safA 0 (by decide)]; exact h)) ..

/-! ### GOLDEN_LOAD (R312) -/

theorem State.goldenUsed_congr {s t : State} (h : t.saf = s.saf) (but : Nat) : t.goldenUsed but = s.goldenUsed but := by
  unfold State.goldenUsed
  rw [h]

/-- The bytes that a golden sample takes. -/
def Golden.size (g : Golden) : Nat := (g.packets.map List.length).sum + g.roi.length

section Golden

variable {s : State} {r : Nat} {d : Inflight} (h : Starts s r 0x29 d) (l o : Bytes)

include h

theorem exec_goldenLoad_refused (bad : packetListOk l.length (l.take (le d.bytes 12 4)) = false ∨
    48 * 2 ^ 20 < s.goldenUsed (le d.bytes 8 1) + ((goldenOf d.bytes l o).packets.map List.length).sum +
      (goldenOf d.bytes l o).roi.length) :
    exec (.goldenLoad r (some l) (some o)) s = .next ((s.begin r d.num).complete r d.num .lengthExceeds) := by
  refine (h.guard _).trans (congrArg Host.Outcome.next ?_)
  dsimp only
  split
  · rfl
  · next well =>
    have saf : ((s.begin r d.num).logDesc r d 0 0 l o).saf = s.saf := (State.logDesc_frame ..).saf rfl
    have full := bad.resolve_left (by simpa using well)
    have none : ((s.begin r d.num).logDesc r d 0 0 l o).storeGolden (le d.bytes 8 1) (goldenOf d.bytes l o) = none := by
      unfold State.storeGolden
      rw [State.goldenUsed_congr saf, if_pos full]
    rw [none]

theorem exec_goldenLoad_stored (well : packetListOk l.length (l.take (le d.bytes 12 4)) = true)
    (fits : s.goldenUsed (le d.bytes 8 1) + ((goldenOf d.bytes l o).packets.map List.length).sum +
      (goldenOf d.bytes l o).roi.length ≤ 48 * 2 ^ 20) :
    exec (.goldenLoad r (some l) (some o)) s = .next ((((s.begin r d.num).logDesc r d 0 0 l o).setSst (le d.bytes 8 1)
      { ((s.begin r d.num).logDesc r d 0 0 l o).sst (le d.bytes 8 1) with golden := some (goldenOf d.bytes l o) }).complete
        r d.num .success) := by
  refine (h.guard _).trans (congrArg Host.Outcome.next ?_)
  have saf : ((s.begin r d.num).logDesc r d 0 0 l o).saf = s.saf := (State.logDesc_frame ..).saf rfl
  dsimp only
  rw [if_neg (by simp [well])]
  unfold State.storeGolden
  rw [State.goldenUsed_congr saf, if_neg (by omega)]

end Golden

/-- Settles O18: both descriptors are judged first, and only an accepted one touches the safety block. -/
theorem safetyDescriptors : Obligations.SafetyDescriptors := by
  intro s r d
  refine ⟨fun h may => ⟨_, exec_safetyReset h, ?_⟩, fun g hg h named refused => ⟨_, exec_safetyReset h, ?_⟩,
    fun l o h => ⟨fun bad => ⟨_, exec_goldenLoad_refused h l o (.inl bad), h.refuses _, ?_⟩,
      fun well fits => ⟨_, exec_goldenLoad_stored h l o well fits, ?_, ?_⟩,
      fun full => ⟨_, exec_goldenLoad_refused h l o (.inr full), h.refuses _, ?_⟩⟩⟩
  · have granted : resetGranted d = true := by
      unfold resetGranted
      rw [List.all_eq_true]
      intro g hg
      obtain ⟨lt, named⟩ := List.mem_filter.mp hg
      exact may g (List.mem_range.mp lt) named
    rw [if_pos granted]
    have after := State.resetLogged_frame ((s.begin r d.num).complete r d.num .success) r d
      ((s.begin r d.num).resetGroups d)
    refine ⟨(h.refuses .success).after after rfl rfl rfl, fun g hg named stopped => ?_⟩
    have still := ((after.stopped rfl).trans ((State.complete_frame ..).stopped rfl) :
      _ = (s.begin r d.num).stopped)
    have releasing : ((((s.begin r d.num).complete r d.num .success).logDesc r d ((s.begin r d.num).resetGroups d) 0 []
        []).acceptReset ((s.begin r d.num).resetGroups d)).saf.releasing =
        s.saf.releasing ||| (s.begin r d.num).resetGroups d := by
      unfold State.acceptReset
      dsimp only
      rw [(State.logDesc_frame ..).saf rfl, (State.complete_frame ..).saf rfl, State.begin_saf]
    have chosen := (s.begin r d.num).resetGroups_testBit d hg
    rw [named, show (s.begin r d.num).stopped = s.stopped from rfl, stopped, Bool.true_and, Bool.true_and,
      State.begin_saf] at chosen
    rw [still, releasing, Nat.testBit_or, chosen]
    refine ⟨fun same => ⟨?_, stopped⟩, fun moved => ⟨?_, stopped⟩⟩
    · rw [beq_iff_eq.mpr same, Bool.or_true]
    · rw [beq_eq_false_iff_ne.mpr moved, Bool.or_false]
  · have denied : ¬resetGranted d = true := by
      unfold resetGranted
      rw [List.all_eq_true]
      intro all
      have := all g (List.mem_filter.mpr ⟨List.mem_range.mpr hg, named⟩)
      rw [refused] at this
      cases this
    rw [if_neg denied]
    exact ⟨h.refuses _, (State.complete_frame ..).saf rfl, (State.complete_frame ..).stopped rfl⟩
  · exact (State.complete_frame ..).saf rfl
  · exact h.completes_now ((State.logDesc_frame ..).mono rfl |>.step (State.setSst_frame ..) rfl :
      Frame 0x10000101800 _ _) rfl rfl rfl _ 0
  · unfold State.sst
    rw [(State.complete_frame ..).saf rfl]
    exact congrArg SafSt.golden (State.sst_setSst ..)
  · exact (State.complete_frame ..).saf rfl

end Sys2Proof.Machine

/-!
The harbourmaster's requests (17_harbourmaster.md: R386, R391, R392): what logging and answering leave, and what runs a
request.
-/

namespace Sys2Proof.Machine

open Sys2Proof

/-! ### Registers of the harbourmaster -/

theorem blk_mgtA (o : Nat) : blk (mgtA o) = 10 := by unfold blk mgtA; rw [if_pos (by omega)]; omega

theorem blk_mbxA (o : Nat) : blk (mbxA o) = 17 := by
  unfold blk mbxA
  rw [if_neg (by omega), if_neg (by omega)]

theorem Frame.mgt {m : Nat} {s t : State} (f : Frame m s t) (h : touches m 50 = false) (o : Nat) :
    t.rd (mgtA o) = s.rd (mgtA o) := f.blk _ (by rw [blk_mgtA]; exact h)

theorem Frame.mbx {m : Nat} {s t : State} (f : Frame m s t) (h : touches m 57 = false) (o : Nat) :
    t.rd (mbxA o) = s.rd (mbxA o) := f.blk _ (by rw [blk_mbxA]; exact h)

theorem mgtA_ne {o p : Nat} (ho : o < 0x100000) (hp : p < 0x100000) (h : o ≠ p) : mgtA o ≠ mgtA p := by
  unfold mgtA
  omega

theorem Frame.hm_upd (s : State) (x : Hm) : Frame 0x8000 s { s with hm := x } := by
  apply Frame.upd (Frame.refl _ _)
  all_goals first | exact Or.inr rfl | exact Or.inl rfl | exact Or.inl (Nat.le_refl _) | rfl

/-! ### Logging and answering -/

/-- The harbourmaster without its log and the mailbox's response. -/
def Hm.unlogged (h : Hm) : Hm := { h with mbxResp := [], logBuf := [], logSeq := 0, logGap := 0, logKeys := [] }

/-- From `s` to `t` the harbourmaster changed at most its log, which only grew, and the mailbox's response; its
registers below the log's are the same. -/
structure State.Logged (s t : State) : Prop where
  hm : t.hm.unlogged = s.hm.unlogged
  buf : ∃ l, t.hm.logBuf = s.hm.logBuf ++ l
  rd : ∀ o < 0x500, t.rd (mgtA o) = s.rd (mgtA o)

theorem State.Logged.refl (s : State) : s.Logged s := ⟨rfl, ⟨[], (List.append_nil _).symm⟩, fun _ _ => rfl⟩

theorem State.Logged.trans {s t u : State} (h : s.Logged t) (k : t.Logged u) : s.Logged u where
  hm := k.hm.trans h.hm
  buf := by
    obtain ⟨l, hl⟩ := h.buf
    obtain ⟨m, hm⟩ := k.buf
    exact ⟨l ++ m, by rw [hm, hl, List.append_assoc]⟩
  rd := fun o ho => (k.rd o ho).trans (h.rd o ho)

/-- An operation that leaves the harbourmaster alone. -/
theorem Frame.logged {m : Nat} {s t : State} (f : Frame m s t) (h15 : touches m 15 = false)
    (h50 : touches m 50 = false) : s.Logged t :=
  ⟨by rw [f.hm h15], ⟨[], by rw [f.hm h15, List.append_nil]⟩, fun o _ => f.mgt h50 o⟩

theorem State.Logged.wr {s t : State} (h : s.Logged t) {o : Nat} (low : 0x500 ≤ o) (high : o < 0x100000) (v : Word) :
    s.Logged (t.wr (mgtA o) v) where
  hm := by rw [State.wr_hm]; exact h.hm
  buf := by rw [State.wr_hm]; exact h.buf
  rd := fun p hp => by rw [State.rd_wr_ne _ _ (mgtA_ne high (by omega) (by omega))]; exact h.rd p hp

theorem State.Logged.maker {s t : State} (h : s.Logged t) : t.hm.maker = s.hm.maker :=
  show t.hm.unlogged.maker = s.hm.unlogged.maker from congrArg Hm.maker h.hm
theorem State.Logged.update {s t : State} (h : s.Logged t) : t.hm.update = s.hm.update :=
  show t.hm.unlogged.update = s.hm.unlogged.update from congrArg Hm.update h.hm
theorem State.Logged.armed {s t : State} (h : s.Logged t) : t.hm.armed = s.hm.armed :=
  show t.hm.unlogged.armed = s.hm.unlogged.armed from congrArg Hm.armed h.hm
theorem State.Logged.held {s t : State} (h : s.Logged t) : t.hm.held = s.hm.held :=
  show t.hm.unlogged.held = s.hm.unlogged.held from congrArg Hm.held h.hm
theorem State.Logged.phase {s t : State} (h : s.Logged t) : t.hm.phase = s.hm.phase :=
  show t.hm.unlogged.phase = s.hm.unlogged.phase from congrArg Hm.phase h.hm

theorem State.Logged.flag {s t : State} (h : s.Logged t) {o : Nat} (ho : o < 0x500) (i : Nat) :
    t.flag (mgtA o) i = s.flag (mgtA o) i := State.flag_congr (h.rd o ho) i

theorem State.Logged.service {s t : State} (h : s.Logged t) : t.service = s.service :=
  State.fld_congr (h.rd 0x100 (by decide)) ..

/-- Only the log or the response differs. -/
theorem State.Logged.of_hm (s : State) {h : Hm} (same : h.unlogged = s.hm.unlogged) (l : List HmRec)
    (buf : h.logBuf = s.hm.logBuf ++ l) : s.Logged { s with hm := h } := ⟨same, ⟨l, buf⟩, fun _ _ => rfl⟩

/-- Only the coalescing keys change. -/
theorem State.Logged.keys (s : State) (l : List HmKey) : s.Logged { s with hm := { s.hm with logKeys := l } } :=
  .of_hm s rfl [] (List.append_nil _).symm

theorem State.hmPush_logged (s : State) (type : Nat) (supp : Bool) (ring role : Nat) (p : Bytes) :
    s.Logged (s.hmPush type supp ring role p) := by
  unfold State.hmPush
  extract_lets mk gap add q src pushed
  split
  · have stored : s.Logged pushed := .of_hm s rfl add rfl
    exact stored.wr (o := 0x500) (by decide) (by decide) _
  · have dropped : s.Logged { s with hm := { s.hm with logGap := s.hm.logGap + 1 } } :=
      .of_hm s rfl [] (List.append_nil _).symm
    exact dropped.wr (o := 0x504) (by decide) (by decide) _

theorem State.hmLog_logged (s : State) (type : Nat) (index : Option Nat) (ring role : Nat) (p : Bytes) :
    s.Logged (s.hmLog type index ring role p) := by
  unfold State.hmLog
  split
  · exact State.hmPush_logged ..
  · split
    · exact (State.Logged.keys ..).trans (State.hmPush_logged ..)
    · extract_lets here src keyed
      split
      · exact State.Logged.keys ..
      · split
        · exact (State.Logged.keys ..).trans (State.hmPush_logged ..)
        · exact (State.Logged.keys ..).trans (State.hmPush_logged ..)

theorem State.makerLog_logged (s : State) (ev ring : Nat) (rights : Bytes) (minutes : Nat) :
    s.Logged (s.makerLog ev ring rights minutes) := State.hmLog_logged ..

theorem State.roleAction_logged (s : State) (op m r tag : Nat) (st : Status) : s.Logged (s.roleAction op m r tag st) :=
  (State.hmLog_logged ..).wr (o := 0x50C) (by decide) (by decide) _

theorem State.completeAt_logged (s : State) (r n : Nat) (st : Status) (result info time : Nat) :
    s.Logged (s.completeAt r n st result info time) := by
  unfold State.completeAt
  split
  · exact State.Logged.refl s
  · extract_lets src taken written op
    have entry : s.Logged written :=
      ((State.setRing_frame ..).logged rfl rfl).trans ((State.writeEntry_frame ..).logged rfl rfl)
    split
    · exact entry.trans (State.roleAction_logged ..)
    · exact entry

/-- A mailbox register is no register of the harbourmaster's log. -/
theorem State.Logged.mbx {s t u : State} (h : s.Logged t) (hm : u.hm = t.hm)
    (rd : ∀ o, u.rd (mgtA o) = t.rd (mgtA o)) : s.Logged u :=
  ⟨by rw [hm]; exact h.hm, by rw [hm]; exact h.buf, fun o ho => (rd o).trans (h.rd o ho)⟩

theorem mbxA_ne_mgtA (o p : Nat) : mbxA o ≠ mgtA p := by unfold mbxA mgtA; omega

/-- The mailbox's registers at the end of a request. -/
def State.mbxShown (s : State) (st : Status) (len : Nat) : State :=
  (((s.put (mbxA 0xC) 31 24 st.code).put (mbxA 0xC) 0 0 0).event (mbxA 0xC) 1 (mbxA 0x14)).wr (mbxA 0x10)
    (BitVec.ofNat 32 len)

theorem State.mbxShown_hm (s : State) (st : Status) (len : Nat) : (s.mbxShown st len).hm = s.hm := by
  unfold State.mbxShown
  rw [State.wr_hm, State.event_hm, State.put_hm, State.put_hm]

theorem State.mbxShown_mgt (s : State) (st : Status) (len o : Nat) :
    (s.mbxShown st len).rd (mgtA o) = s.rd (mgtA o) := by
  unfold State.mbxShown
  have ne := fun p => mbxA_ne_mgtA p o
  rw [State.rd_wr_ne _ _ (ne _), State.rd_event_ne _ _ (ne _) (ne _), State.rd_put_ne _ _ _ _ (ne _),
    State.rd_put_ne _ _ _ _ (ne _)]

theorem State.mbxShown_replied (s : State) (st : Status) (len : Nat) :
    (s.mbxShown st len).fld (mbxA 0xC) 31 24 = st.code % 256 ∧ (s.mbxShown st len).flag (mbxA 0xC) 0 = false ∧
      (s.mbxShown st len).flag (mbxA 0xC) 1 = true := by
  have count : mbxA 0xC ≠ mbxA 0x14 := by decide
  have before : (s.mbxShown st len).rd (mbxA 0xC) = _ := State.rd_wr_ne _ _ (by decide : mbxA 0x10 ≠ mbxA 0xC)
  rw [State.fld_congr before, State.flag_congr before, State.flag_congr before]
  refine ⟨?_, ?_, State.flag_event _ count (by decide)⟩
  · rw [State.fld_event_beside _ count (by decide) (by decide),
      State.fld_put_beside _ _ _ (by decide) (by decide) (by decide) (by decide),
      State.fld_put_self _ _ _ (by decide) (by decide)]
    · rfl
    · decide
  · rw [State.flag_event_beside _ count (by decide) (by decide),
      State.flag_put_self _ _ _ (by decide) (by decide) (by decide), Nat.zero_testBit]

theorem State.mbxDone_eq (s : State) (op : Nat) (st : Status) (resp : Bytes) : s.mbxDone op st resp =
    (if roleNeeded 0x08 op then
      (({ s with hm := { s.hm with mbxResp := resp } } : State).mbxShown st resp.length).roleAction 0x08 op 0xFFFF 0 st
    else ({ s with hm := { s.hm with mbxResp := resp } } : State).mbxShown st resp.length) := rfl

theorem State.mbxDone_logged (s : State) (op : Nat) (st : Status) (resp : Bytes) : s.Logged (s.mbxDone op st resp) := by
  have answered : s.Logged { s with hm := { s.hm with mbxResp := resp } } := .of_hm s rfl [] (List.append_nil _).symm
  have shown := answered.mbx (State.mbxShown_hm _ st resp.length) (State.mbxShown_mgt _ st resp.length)
  rw [State.mbxDone_eq]
  split
  · exact shown.trans (State.roleAction_logged ..)
  · exact shown

theorem State.mgtDone_logged (s : State) (src : MgtSrc) (op : Nat) (st : Status) (resp : Bytes) (result : Nat) :
    s.Logged (s.mgtDone src op st resp result) := by
  unfold State.mgtDone
  split
  · exact State.mbxDone_logged ..
  · split
    · exact State.Logged.refl s
    · exact ((State.hostData_frame ..).logged rfl rfl).trans (State.completeAt_logged ..)

theorem State.mgtEnd_logged (s : State) (src : MgtSrc) (op : Nat) (st : Status) : s.Logged (s.mgtEnd src op st) :=
  State.mgtDone_logged ..

theorem State.updEnd_logged (s : State) (src : MgtSrc) (op slot : Nat) (st : Status) :
    s.Logged (s.updEnd src op slot st) := (State.hmLog_logged ..).trans (State.mgtEnd_logged ..)

/-! ### Running a request -/

/-- The request of `src` has left the queue and started. -/
def State.served (s : State) (src : MgtSrc) : State :=
  match src with
  | .mailbox => { s with hm := { s.hm with queue := s.hm.queue.tail } }
  | .ring r n => ({ s with hm := { s.hm with queue := s.hm.queue.tail } } : State).begin r n

theorem State.served_hm (s : State) (src : MgtSrc) : (s.served src).hm = { s.hm with queue := s.hm.queue.tail } := by
  cases src <;> rfl

theorem State.served_flash (s : State) (src : MgtSrc) : (s.served src).flash = s.flash := by cases src <;> rfl
theorem State.served_fuses (s : State) (src : MgtSrc) : (s.served src).fuses = s.fuses := by cases src <;> rfl
theorem State.served_free (s : State) (src : MgtSrc) : (s.served src).free = s.free := by cases src <;> rfl
theorem State.served_clk (s : State) (src : MgtSrc) : (s.served src).clk = s.clk := by cases src <;> rfl
theorem State.served_jobs (s : State) (src : MgtSrc) : (s.served src).jobs = s.jobs := by cases src <;> rfl
theorem State.served_pending (s : State) (src : MgtSrc) : (s.served src).pending = s.pending := by cases src <;> rfl
theorem State.served_slog (s : State) (src : MgtSrc) : (s.served src).slog = s.slog := by cases src <;> rfl
theorem State.served_rd (s : State) (src : MgtSrc) (a : Nat) : (s.served src).rd a = s.rd a := by cases src <;> rfl

section Asks

variable {s : State} {op : Nat} {req : Option Bytes} {src : MgtSrc} {b : Bytes} (h : Asks s op req src b)

include h

/-- A request that is asked for runs, on the state where it has left the queue. -/
theorem Asks.withMgt (f : State → MgtSrc → Bytes → State) : s.withMgt op req f = f (s.served src) src b := by
  unfold State.withMgt State.served
  cases h with
  | mailbox req rest queue named =>
    rw [queue]
    exact if_pos named
  | ring b r d rest queue starts named =>
    rw [queue]
    dsimp only
    rw [starts.next]
    exact if_neg (by simp [named])

/-- The answer to a request after work that leaves the host interface alone. -/
theorem Asks.replied {m : Nat} {u : State} (f : Frame m (s.served src) u) (h4 : touches m 4 = false)
    (h7 : touches m 7 = false) (h41 : touches m 41 = false) (p : Nat) (st : Status) (resp : Bytes) (result : Nat) :
    Replied s (u.mgtDone src p st resp result) src st := by
  cases h with
  | mailbox req rest queue named =>
    unfold Replied State.mgtDone
    dsimp only
    rw [State.mbxDone_eq]
    split
    · rw [State.fld_congr ((State.roleAction_frame ..).mbx rfl 0xC), State.flag_congr ((State.roleAction_frame ..).mbx rfl 0xC),
        State.flag_congr ((State.roleAction_frame ..).mbx rfl 0xC)]
      exact State.mbxShown_replied ..
    · exact State.mbxShown_replied ..
  | ring b r d rest queue starts named =>
    have begun : u.desc r d.num = some { d with begun := true } := by
      rw [f.desc h7]
      exact State.begin_desc (s := { s with hm := { s.hm with queue := s.hm.queue.tail } }) starts.desc
    unfold State.mgtDone Replied
    dsimp only
    rw [begun]
    refine ⟨d, result, rfl, starts.completes_of ?_ ?_ ?_ (fun o => ?_) st result⟩
    · exact ((State.hostData_frame ..).hif rfl).trans (f.hif h7)
    · exact ((State.hostData_frame ..).clk rfl).trans (f.clk h4)
    · exact (State.hostData_rd _ _ _ (by decide) (by decide)).trans (f.blk _ (touches_hif h41 0))
    · exact (State.hostData_rd _ _ _ (hifA_ne_ringA _ _ _) (hifA_ne_ringA _ _ _)).trans (f.blk _ (touches_ring h41 r o))

/-- A request that is refused changes nothing else. -/
theorem Asks.ends (p : Nat) (st : Status) : Replied s ((s.served src).mgtEnd src p st) src st :=
  h.replied (Frame.refl 0 _) rfl rfl rfl p st [] 0

end Asks

/-- Without a request no request runs. -/
theorem State.withMgt_none {s : State} (h : s.hm.queue = []) (op : Nat) (req : Option Bytes)
    (f : State → MgtSrc → Bytes → State) : s.withMgt op req f = s := by
  unfold State.withMgt
  rw [h]

/-! ### The requests that read (R387, R389 to R391) -/

theorem length_flatMap_const {α β : Type} (f : α → List β) (n : Nat) (h : ∀ x, (f x).length = n) (l : List α) :
    (l.flatMap f).length = l.length * n := by
  rw [List.length_flatMap, funext h, List.map_const', List.sum_replicate_nat]

theorem State.mgtBlock_length (s : State) : s.mgtBlock.length = 1536 := by
  unfold State.mgtBlock
  rw [length_flatMap_const _ 4 (fun i => length_leBytes 4 _), List.length_range]

theorem State.mbxDone_resp (s : State) {op : Nat} (st : Status) (resp : Bytes) (quiet : roleNeeded 0x08 op = false) :
    (s.mbxDone op st resp).hm.mbxResp = resp := by
  rw [State.mbxDone_eq, if_neg (by rw [quiet]; decide), State.mbxShown_hm]

theorem Replied.bump {s t : State} {src : MgtSrc} {st : Status} (h : Replied s t src st) : Replied s t.bump src st := by
  cases src with
  | mailbox => exact h
  | ring r n =>
    obtain ⟨d, result, num, done⟩ := h
    exact ⟨d, result, num, done.gone, done.tail, done.entry, done.signal⟩

theorem length_fitTo (n : Nat) (b : Bytes) : (fitTo n b).length = n := by
  unfold fitTo zeros
  simp
  omega

/-- The response of IDENTITY fits the mailbox. -/
theorem identity_fits : (fitTo 16 Config.serial ++ fitTo 2592 Config.identityKey ++
    fitTo 16384 Config.certChain).length ≤ 2 ^ 20 := by
  rw [List.length_append, List.length_append, length_fitTo, length_fitTo, length_fitTo]
  decide

theorem State.mgtDone_mailbox (s : State) (op : Nat) (st : Status) (resp : Bytes) (result : Nat) :
    s.mgtDone .mailbox op st resp result = s.mbxDone op st (resp.take (2 ^ 20)) := rfl

/-- A short response of the mailbox, to a request that needs no role. -/
theorem State.mgtDone_resp (s : State) {op : Nat} (st : Status) {resp : Bytes} (result : Nat)
    (quiet : roleNeeded 0x08 op = false) (fits : resp.length ≤ 2 ^ 20) :
    (s.mgtDone .mailbox op st resp result).hm.mbxResp = resp := by
  rw [State.mgtDone_mailbox, State.mbxDone_resp _ _ _ quiet, List.take_of_length_le fits]

section Reads

variable {s : State} {req : Option Bytes} {src : MgtSrc} {b : Bytes}

theorem exec_status (h : Asks s 0x01 noReq src b) : exec .status s =
    .next (((s.served src).mgtDone src 0x01 .success (s.served src).mgtBlock 0).bump) :=
  congrArg Host.Outcome.next (h.withMgt _)

theorem exec_identity (h : Asks s 0x03 noReq src b) : exec .identity s =
    .next ((s.served src).mgtDone src 0x03 .success
      (fitTo 16 Config.serial ++ fitTo 2592 Config.identityKey ++ fitTo 16384 Config.certChain) 0) :=
  congrArg Host.Outcome.next (h.withMgt _)

/-- LOG_READ and ATTEST answer with what they have read. -/
theorem Asks.answers {op : Nat} (h : Asks s op req src b) {c : Instr} (f : State → MgtSrc → Bytes → Bytes)
    (g : State → MgtSrc → Bytes → Nat)
    (run : exec c s = .next (s.withMgt op req (fun s src b => s.mgtDone src op .success (f s src b) (g s src b)))) :
    Answers c s fun t => Replied s t src .success :=
  ⟨_, run.trans (congrArg Host.Outcome.next (h.withMgt _)), h.replied (Frame.refl 0 _) rfl rfl rfl ..⟩

end Reads

/-- Settles O52: each request reads and answers. -/
theorem managementReads : Obligations.ManagementReads := by
  intro s src b
  have same : Frame 0 (s.served src) (s.served src) := Frame.refl ..
  refine ⟨fun h => ⟨_, exec_status h, (h.replied same rfl rfl rfl ..).bump, fun e => ?_, ?_⟩,
    fun req h => h.answers _ _ rfl, fun h => ⟨_, exec_identity h, h.replied same rfl rfl rfl .., fun e => ?_⟩,
    fun req h => h.answers _ _ rfl,
    fun req empty => ⟨congrArg Host.Outcome.next (State.withMgt_none empty ..),
      congrArg Host.Outcome.next (State.withMgt_none empty ..), congrArg Host.Outcome.next (State.withMgt_none empty ..),
      congrArg Host.Outcome.next (State.withMgt_none empty ..)⟩⟩
  · subst e
    rw [State.bump_hm, State.mgtDone_resp _ _ _ (by decide) (by rw [State.mgtBlock_length]; decide),
      State.mgtBlock_length]
  · show ((s.served src).mgtDone src 0x01 .success _ 0).free + 1 = s.free + 1
    rw [(State.mgtDone_frame ..).free rfl, State.served_free]
  · subst e
    exact State.mgtDone_resp _ _ _ (by decide) identity_fits

end Sys2Proof.Machine

/-!
Service state, package reset and capture (17_harbourmaster.md: R382, R384, R385; 16_boot_and_firmware.md: R355).
-/

namespace Sys2Proof.Machine

open Sys2Proof

/-! ### SET_STATE (R384) -/

/-- The service state after a request took effect. -/
theorem State.service_put (s : State) (n : Nat) : (s.put (mgtA 0x100) 1 0 n).service = n % 4 :=
  State.fld_put_self _ _ _ (by decide) (by decide)

section SetState

variable {s : State} {req : Option Bytes} {src : MgtSrc} {b : Bytes} (h : Asks s 0x10 req src b)

include h

theorem exec_setState_bad (bad : 3 < le b 0 1 ∨ (b.drop 1).any (fun x => x != 0) = true) :
    exec (.setState req) s = .next ((s.served src).mgtEnd src 0x10 .descriptorInvalid) := by
  refine congrArg Host.Outcome.next ((h.withMgt _).trans ?_)
  exact if_pos (by simpa using bad)

/-- The service states that a request may not set now (R384). -/
def State.noService (s : State) (n : Nat) : Prop :=
  n = 1 ∨ (n = 0 ∧ (s.flag (mgtA 0x100) 4 = true ∨ s.flag (mgtA 0x100) 5 = true))

omit h in
theorem State.noService_served (s : State) (src : MgtSrc) (n : Nat) :
    (n = 1 || (n = 0 && ((s.served src).flag (mgtA 0x100) 4 || (s.served src).flag (mgtA 0x100) 5))) = true ↔
      s.noService n := by
  unfold State.noService State.flag
  rw [State.served_rd]
  simp

theorem exec_setState_refused (good : ¬(3 < le b 0 1 ∨ (b.drop 1).any (fun x => x != 0) = true))
    (no : s.noService (le b 0 1)) :
    exec (.setState req) s = .next ((s.served src).mgtEnd src 0x10 .serviceStateInvalid) := by
  refine congrArg Host.Outcome.next ((h.withMgt _).trans ?_)
  exact (if_neg (by simpa using good)).trans (if_pos ((State.noService_served ..).mpr no))

theorem exec_setState (good : ¬(3 < le b 0 1 ∨ (b.drop 1).any (fun x => x != 0) = true))
    (may : ¬s.noService (le b 0 1)) :
    exec (.setState req) s = .next ((((s.served src).put (mgtA 0x100) 1 0 (le b 0 1)).hmLog 0x05 none src.ringNo 1
      (leBytes 1 (s.served src).service ++ leBytes 1 (le b 0 1))).mgtEnd src 0x10 .success) := by
  refine congrArg Host.Outcome.next ((h.withMgt _).trans ?_)
  exact (if_neg (by simpa using good)).trans (if_neg ((State.noService_served ..).not.mpr may))

end SetState

theorem State.served_service (s : State) (src : MgtSrc) : (s.served src).service = s.service :=
  State.fld_congr (State.served_rd ..) ..

/-! ### A package reset (R355) -/

section PackageReset

variable (s : State) (cause : Nat) (p : Phase)

theorem State.packageReset_phase : (s.packageReset cause p).hm.phase = p := by
  unfold State.packageReset
  extract_lets
  split
  · rfl
  · rw [State.put_hm]

theorem State.packageReset_cause : (s.packageReset cause p).hm.cause = cause := by
  unfold State.packageReset
  extract_lets
  split
  · rfl
  · rw [State.put_hm]

theorem State.packageReset_due (on : s.hm.phase = .ready ∨ s.hm.phase = .recovery) :
    (s.packageReset cause p).hm.resetDue = s.clk.ref + 11050000 := by
  have running : ¬(s.hm.phase = .reset ∨ s.hm.phase = .tripped) := by
    rcases on with e | e <;> rw [e] <;> decide
  unfold State.packageReset
  extract_lets mark drop old flash base live down crash due clk hm t
  have ramp : due = s.clk.ref + 11050000 := if_neg (by simpa using running)
  split
  · exact ramp
  · rw [State.put_hm]
    exact ramp

theorem State.packageReset_fuses : (s.packageReset cause p).fuses = s.fuses := by
  unfold State.packageReset
  extract_lets
  split
  · rfl
  · rw [State.put_fuses]

theorem State.packageReset_clk : (s.packageReset cause p).clk = { Clk.init with ref := s.clk.ref } := by
  unfold State.packageReset
  extract_lets
  split
  · rfl
  · rw [State.put_clk]

theorem State.packageReset_log : (s.packageReset cause p).flash.log = s.flash.log := by
  unfold State.packageReset
  extract_lets
  split
  · rfl
  · rw [State.put_flash]

theorem State.packageReset_jobs : (s.packageReset cause p).jobs = [] := by
  unfold State.packageReset
  extract_lets
  split
  · rfl
  · rw [State.put_jobs]
    rfl

theorem State.packageReset_mems : (s.packageReset cause p).comp.mems = [] := by
  unfold State.packageReset
  extract_lets
  split
  · rfl
  · rw [State.put_comp]
    rfl

theorem State.packageReset_pending : (s.packageReset cause p).pending = s.pending := by
  unfold State.packageReset
  extract_lets
  split
  · rfl
  · rw [State.put_pending]

end PackageReset

theorem State.logFlush_log (s : State) : s.logFlush.flash.log = s.hm.logBuf.foldl sectorAdd s.flash.log := rfl

theorem exec_packageReset {s : State} {src : MgtSrc} {b : Bytes} (h : Asks s 0x11 noReq src b) :
    exec .packageReset s = .next (((s.served src).mgtEnd src 0x11 .success).logFlush.packageReset 5 .reset) :=
  congrArg Host.Outcome.next (h.withMgt _)

/-- What a request leaves is flushed in front of a reset. -/
theorem State.Logged.flushed {s t : State} (h : s.Logged t) (flash : t.flash = s.flash) :
    ∃ l, t.logFlush.flash.log = (s.hm.logBuf ++ l).foldl sectorAdd s.flash.log := by
  obtain ⟨l, buf⟩ := h.buf
  exact ⟨l, by rw [State.logFlush_log, buf, flash]⟩

/-! ### Capture (R385) -/

/-- What CAPTURE_ARM asks for. -/
def captureOf (s : State) (b : Bytes) : CaptureReq :=
  ⟨le b 0 2, (le b 2 2).testBit 0, le b 4 4, le b 8 2, (s.inService.head?).getD 0⟩

/-- The contents of a CAPTURE_ARM are out of their ranges. -/
def captureBad (b : Bytes) : Prop :=
  le b 10 6 ≠ 0 ∨ 1 < le b 2 2 ∨ 7 < le b 4 4 ∨ le b 8 2 < 1 ∨ 16 < le b 8 2 ∨ (8191 < le b 0 2 ∧ le b 0 2 ≠ 0xFFFF)

/-- The capture area has another use. -/
def State.captureUsed (s : State) : Prop :=
  s.hm.armed.isSome = true ∨ s.hm.held.isSome = true ∨ (s.logOn = true ∧ s.inService.length ≤ 1)

theorem captureBad_iff (b : Bytes) : (le b 10 6 ≠ 0 || 1 < le b 2 2 || 7 < le b 4 4 || le b 8 2 < 1 || 16 < le b 8 2 ||
    (8191 < le b 0 2 && le b 0 2 ≠ 0xFFFF) : Bool) = true ↔ captureBad b := by
  unfold captureBad
  simp [or_assoc]

theorem State.served_inService (s : State) (src : MgtSrc) : (s.served src).inService = s.inService := by
  unfold State.inService State.fld
  rw [State.served_rd]

theorem State.captureUsed_served (s : State) (src : MgtSrc) :
    ((s.served src).hm.armed.isSome || (s.served src).hm.held.isSome ||
      ((s.served src).logOn && (s.served src).inService.length ≤ 1) : Bool) = true ↔ s.captureUsed := by
  have log : (s.served src).logOn = s.logOn := by
    unfold State.logOn
    rw [State.flag_congr (State.served_rd ..)]
  rw [State.served_hm, log, State.served_inService]
  unfold State.captureUsed
  simp [or_assoc]

section CaptureArm

variable {s : State} {req : Option Bytes} {src : MgtSrc} {b : Bytes} (h : Asks s 0x18 req src b)

include h

theorem exec_captureArm_bad (bad : captureBad b) :
    exec (.captureArm req) s = .next ((s.served src).mgtEnd src 0x18 .descriptorInvalid) :=
  congrArg Host.Outcome.next ((h.withMgt _).trans (if_pos ((captureBad_iff b).mpr bad)))

theorem exec_captureArm_jobs (good : ¬captureBad b) (jobs : s.jobs ≠ []) :
    exec (.captureArm req) s = .next ((s.served src).mgtEnd src 0x18 .jobsActive) := by
  refine congrArg Host.Outcome.next ((h.withMgt _).trans ((if_neg ((captureBad_iff b).not.mpr good)).trans (if_pos ?_)))
  rw [State.served_jobs]
  simpa using jobs

theorem exec_captureArm_busy (good : ¬captureBad b) (jobs : s.jobs = []) (used : s.captureUsed) :
    exec (.captureArm req) s = .next ((s.served src).mgtEnd src 0x18 .captureAreaBusy) := by
  refine congrArg Host.Outcome.next ((h.withMgt _).trans ((if_neg ((captureBad_iff b).not.mpr good)).trans
    ((if_neg ?_).trans (if_pos ((State.captureUsed_served ..).mpr used)))))
  rw [State.served_jobs, jobs]
  decide

/-- A capture is armed. -/
def State.armCapture (s : State) (c : CaptureReq) : State :=
  ({ s with hm := { s.hm with armed := some c } } : State).put (mgtA 0x100) 6 6 1

theorem exec_captureArm (good : ¬captureBad b) (jobs : s.jobs = []) (free : ¬s.captureUsed) :
    exec (.captureArm req) s = .next ((((s.served src).armCapture (captureOf (s.served src) b)).hmLog 0x0E none
      src.ringNo 1 [0]).mgtEnd src 0x18 .success) := by
  refine congrArg Host.Outcome.next ((h.withMgt _).trans ((if_neg ((captureBad_iff b).not.mpr good)).trans
    ((if_neg ?_).trans (if_neg ((State.captureUsed_served ..).not.mpr free)))))
  rw [State.served_jobs, jobs]
  decide

end CaptureArm

theorem State.armCapture_frame (s : State) (c : CaptureReq) : Frame 0x4000000108000 s (s.armCapture c) :=
  ((Frame.hm_upd s { s.hm with armed := some c }).mono rfl).trans (State.put_frame rfl (tb_mgtA rfl) ..)

theorem State.armCapture_armed (s : State) (c : CaptureReq) : (s.armCapture c).hm.armed = some c := by
  unfold State.armCapture
  rw [State.put_hm]

theorem State.armCapture_flag (s : State) (c : CaptureReq) : (s.armCapture c).flag (mgtA 0x100) 6 = true :=
  State.flag_put_self _ _ _ (by decide) (by decide) (by decide)

/-- No capture is armed or held. -/
def State.dropCapture (s : State) : State :=
  (({ s with hm := { s.hm with armed := none, held := none } } : State).put (mgtA 0x100) 6 6 0).put (mgtA 0x30) 30 30 0

theorem State.dropCapture_frame (s : State) : Frame 0x4000000108000 s s.dropCapture :=
  ((Frame.hm_upd s { s.hm with armed := none, held := none }).mono rfl).trans
    ((State.put_frame rfl (tb_mgtA rfl) ..).trans (State.put_frame rfl (tb_mgtA rfl) ..))

theorem State.dropCapture_hm (s : State) : s.dropCapture.hm = { s.hm with armed := none, held := none } := by
  unfold State.dropCapture
  rw [State.put_hm, State.put_hm]

theorem State.dropCapture_armed (s : State) : s.dropCapture.flag (mgtA 0x100) 6 = false := by
  unfold State.dropCapture
  rw [State.flag_put_ne _ _ _ _ _ (by decide), State.flag_put_self _ _ _ (by decide) (by decide) (by decide)]
  rfl

theorem State.dropCapture_held (s : State) : s.dropCapture.flag (mgtA 0x30) 30 = false :=
  State.flag_put_self _ _ _ (by decide) (by decide) (by decide)

theorem exec_captureRelease {s : State} {src : MgtSrc} {b : Bytes} (h : Asks s 0x19 noReq src b) :
    exec .captureRelease s = .next (((s.served src).dropCapture.hmLog 0x0E none src.ringNo 1 [1]).mgtEnd src 0x19
      .success) := congrArg Host.Outcome.next (h.withMgt _)

/-- A logged change of the harbourmaster answers its request. -/
theorem Asks.logs {s : State} {op : Nat} {req : Option Bytes} {src : MgtSrc} {b : Bytes} (h : Asks s op req src b)
    {u : State} (f : Frame 0x4000000108000 (s.served src) u) (type : Nat) (role : Nat) (p : Bytes) (q : Nat)
    (st : Status) : Replied s ((u.hmLog type none src.ringNo role p).mgtEnd src q st) src st :=
  h.replied (f.trans (State.hmLog_frame ..)) rfl rfl rfl q st [] 0

/-- Settles O53: each request is judged rule by rule and then takes effect. -/
theorem serviceRequests : Obligations.ServiceRequests := by
  intro s src b
  refine ⟨fun req h => ?_, fun h => ⟨_, exec_packageReset h, State.packageReset_phase .., State.packageReset_cause ..,
    ?_, ?_, ?_, State.packageReset_jobs .., State.packageReset_mems .., ?_⟩, fun req h => ?_,
    fun h => ⟨_, exec_captureRelease h, h.logs (State.dropCapture_frame _) .., ?_, ?_, ?_, ?_⟩⟩
  · intro n bad no
    by_cases wrong : bad
    · refine ⟨_, exec_setState_bad h wrong, fun _ => ⟨h.ends .., ?_⟩, fun ok => absurd wrong ok, fun ok => absurd wrong ok⟩
      exact (State.mgtEnd_logged ..).service.trans (State.served_service ..)
    · by_cases denied : no
      · refine ⟨_, exec_setState_refused h wrong denied, fun is => absurd is wrong, fun _ _ => ⟨h.ends .., ?_⟩,
          fun _ may => absurd denied may⟩
        exact (State.mgtEnd_logged ..).service.trans (State.served_service ..)
      · refine ⟨_, exec_setState h wrong denied, fun is => absurd is wrong, fun _ is => absurd is denied, fun _ _ =>
          ⟨h.logs (State.put_frame rfl (tb_mgtA rfl) ..) .., ?_⟩⟩
        have small : n < 4 := by
          have := (not_or.mp wrong).1
          omega
        exact (((State.hmLog_logged ..).trans (State.mgtEnd_logged ..)).service.trans (State.service_put ..)).trans
          (Nat.mod_eq_of_lt small)
  · rw [State.packageReset_fuses]
    exact ((State.mgtEnd_frame ..).fuses rfl).trans (State.served_fuses ..)
  · rw [State.packageReset_clk]
    show ((s.served src).mgtEnd src 0x11 .success).clk.ref = s.clk.ref
    exact congrArg Clk.ref (((State.mgtEnd_frame ..).clk rfl).trans (State.served_clk ..))
  · rw [State.packageReset_log]
    obtain ⟨l, flushed⟩ := (State.mgtEnd_logged (s.served src) src 0x11 .success).flushed ((State.mgtEnd_frame ..).flash rfl)
    exact ⟨l, by rw [flushed, State.served_hm, State.served_flash]⟩
  · rw [State.packageReset_pending]
    exact (State.mgtEnd_frame ..).pending.trans (State.served_pending ..)
  · intro bad used
    have kept : ∀ st, ((s.served src).mgtEnd src 0x18 st).hm.armed = s.hm.armed := fun st => by
      rw [(State.mgtEnd_logged ..).armed, State.served_hm]
    by_cases wrong : bad
    · exact ⟨_, exec_captureArm_bad h wrong, fun _ => ⟨h.ends .., kept _⟩, fun ok => absurd wrong ok,
        fun ok => absurd wrong ok, fun ok => absurd wrong ok⟩
    · by_cases jobs : s.jobs = []
      · by_cases busy : used
        · exact ⟨_, exec_captureArm_busy h wrong jobs busy, fun is => absurd is wrong, fun _ is => absurd jobs is,
            fun _ _ _ => ⟨h.ends .., kept _⟩, fun _ _ free => absurd busy free⟩
        · refine ⟨_, exec_captureArm h wrong jobs busy, fun is => absurd is wrong, fun _ is => absurd jobs is,
            fun _ _ is => absurd is busy, fun _ _ _ => ⟨h.logs (State.armCapture_frame ..) .., ?_, ?_⟩⟩
          · exact (((State.hmLog_logged ..).trans (State.mgtEnd_logged ..)).flag (by decide) 6).trans
              (State.armCapture_flag ..)
          · rw [((State.hmLog_logged ..).trans (State.mgtEnd_logged ..)).armed, State.armCapture_armed, captureOf,
              State.served_inService]
      · exact ⟨_, exec_captureArm_jobs h wrong jobs, fun is => absurd is wrong, fun _ _ => ⟨h.ends .., kept _⟩,
          fun _ is => absurd is jobs, fun _ is => absurd is jobs⟩
  · rw [((State.hmLog_logged ..).trans (State.mgtEnd_logged ..)).armed, State.dropCapture_hm]
  · rw [((State.hmLog_logged ..).trans (State.mgtEnd_logged ..)).held, State.dropCapture_hm]
  · exact (((State.hmLog_logged ..).trans (State.mgtEnd_logged ..)).flag (by decide) 6).trans (State.dropCapture_armed _)
  · exact (((State.hmLog_logged ..).trans (State.mgtEnd_logged ..)).flag (by decide) 30).trans (State.dropCapture_held _)

end Sys2Proof.Machine

/-!
Maker sessions (17_harbourmaster.md: R383).
-/

namespace Sys2Proof.Machine

open Sys2Proof

/-! ### The session's parts -/

/-- The session becomes `x`. -/
def State.setMaker (s : State) (x : Option Maker) : State := { s with hm := { s.hm with maker := x } }

theorem State.setMaker_frame (s : State) (x : Option Maker) : Frame 0x4000000108000 s (s.setMaker x) :=
  (Frame.hm_upd s { s.hm with maker := x }).mono rfl

theorem State.setMaker_maker (s : State) (x : Option Maker) : (s.setMaker x).hm.maker = x := rfl

theorem State.served_maker (s : State) (src : MgtSrc) : (s.served src).hm.maker = s.hm.maker := by
  rw [State.served_hm]

theorem State.withMaker_own {s : State} {src : MgtSrc} {m : Maker} (maker : s.hm.maker = some m)
    (own : m.ring = src.ringNo) (op : Nat) (f : State → Maker → State) : s.withMaker src op f = f s m := by
  unfold State.withMaker
  rw [maker]
  exact if_pos own

theorem State.withMaker_foreign {s : State} {src : MgtSrc}
    (none : s.hm.maker = none ∨ ∃ m, s.hm.maker = some m ∧ m.ring ≠ src.ringNo) (op : Nat) (f : State → Maker → State) :
    s.withMaker src op f = s.mgtEnd src op .makerSessionRequired := by
  unfold State.withMaker
  obtain e | ⟨m, e, ne⟩ := none
  · rw [e]
  · rw [e]
    exact if_neg ne

/-- The end of an open session shows in MGT_STATE. -/
theorem State.makerStop_opened {s : State} {m : Maker} (maker : s.hm.maker = some m) (opened : m.opened = true) :
    s.makerStop = ((s.setMaker none).put (mgtA 0x100) 4 4 0).makerLog 5 m.ring m.rights m.minutes := by
  unfold State.makerStop
  rw [maker]
  exact if_pos opened

theorem State.makerStop_unopened {s : State} {m : Maker} (maker : s.hm.maker = some m) (opened : m.opened = false) :
    s.makerStop = s.setMaker none := by
  unfold State.makerStop
  rw [maker]
  exact if_neg (by rw [opened]; decide)

theorem State.makerStop_maker {s : State} {m : Maker} (maker : s.hm.maker = some m) : s.makerStop.hm.maker = none := by
  cases opened : m.opened with
  | false => rw [State.makerStop_unopened maker opened, State.setMaker_maker]
  | true => rw [State.makerStop_opened maker opened, (State.makerLog_logged ..).maker, State.put_hm, State.setMaker_maker]

theorem State.makerStop_flag {s : State} {m : Maker} (maker : s.hm.maker = some m) (opened : m.opened = true) :
    s.makerStop.flag (mgtA 0x100) 4 = false := by
  rw [State.makerStop_opened maker opened, (State.makerLog_logged ..).flag (by decide),
    State.flag_put_self _ _ _ (by decide) (by decide) (by decide)]
  rfl

section Asks

variable {s : State} {op : Nat} {req : Option Bytes} {src : MgtSrc} {b : Bytes} {m : Maker}

/-- A request of the session's ring runs on the session. -/
theorem Asks.withMaker (h : Asks s op req src b) (maker : s.hm.maker = some m) (own : m.ring = src.ringNo) (q : Nat)
    (f : MgtSrc → Bytes → State → Maker → State) :
    s.withMgt op req (fun s src b => s.withMaker src q (f src b)) = f src b (s.served src) m :=
  (h.withMgt _).trans (State.withMaker_own ((State.served_maker ..).trans maker) own q (f src b))

/-- Without a session of its ring a request is refused. -/
theorem Asks.withoutMaker (h : Asks s op req src b)
    (none : s.hm.maker = none ∨ ∃ m, s.hm.maker = some m ∧ m.ring ≠ src.ringNo) (f : MgtSrc → Bytes → State → Maker → State) :
    s.withMgt op req (fun s src b => s.withMaker src op (f src b)) = (s.served src).mgtEnd src op .makerSessionRequired :=
  (h.withMgt _).trans (State.withMaker_foreign (by rw [State.served_maker]; exact none) ..)

/-- The answer of a request that leaves the session as it stands. -/
theorem Asks.ends_maker (h : Asks s op req src b) (st : Status) :
    Replied s ((s.served src).mgtEnd src op st) src st ∧ ((s.served src).mgtEnd src op st).hm.maker = s.hm.maker :=
  ⟨h.ends op st, (State.mgtEnd_logged ..).maker.trans (State.served_maker ..)⟩

/-- A step of the session is logged and answered. -/
theorem Asks.makerStep (h : Asks s op req src b) {u : State} (f : Frame 0x4000000108000 (s.served src) u) (ev : Nat)
    (rights : Bytes) (minutes q : Nat) (st : Status) (resp : Bytes) :
    Replied s ((u.makerLog ev src.ringNo rights minutes).mgtDone src q st resp 0) src st :=
  h.replied (f.trans (State.makerLog_frame ..)) rfl rfl rfl q st resp 0

theorem State.makerStep_logged (u : State) (src : MgtSrc) (ev : Nat) (rights : Bytes) (minutes q : Nat) (st : Status)
    (resp : Bytes) : u.Logged ((u.makerLog ev src.ringNo rights minutes).mgtDone src q st resp 0) :=
  (State.makerLog_logged ..).trans (State.mgtDone_logged ..)

end Asks

/-! ### MAKER_ENABLE -/

section Enable

variable {s : State} {req : Option Bytes} {src : MgtSrc} {b : Bytes} (h : Asks s 0x30 req src b)

/-- The contents of a MAKER_ENABLE are out of their ranges. -/
def makerBad (b : Bytes) : Prop := le b 0 2 < 1 ∨ 1440 < le b 0 2 ∨ le b 2 6 ≠ 0

/-- A session is open. -/
def State.makerOpened (s : State) : Prop := ∃ m, s.hm.maker = some m ∧ m.opened = true

theorem makerBad_iff (b : Bytes) : (le b 0 2 < 1 || 1440 < le b 0 2 || le b 2 6 ≠ 0 : Bool) = true ↔ makerBad b := by
  unfold makerBad
  simp [or_assoc]

theorem State.makerOpened_iff (s : State) (src : MgtSrc) : ((s.served src).service < 2 ||
    (match (s.served src).hm.maker with | none => false | some x => x.opened) : Bool) = true ↔
      (s.service < 2 ∨ s.makerOpened) := by
  rw [State.served_service, State.served_maker]
  unfold State.makerOpened
  cases s.hm.maker <;> simp

include h

theorem exec_makerEnable_bad (bad : makerBad b) :
    exec (.makerEnable req) s = .next ((s.served src).mgtEnd src 0x30 .descriptorInvalid) :=
  congrArg Host.Outcome.next ((h.withMgt _).trans (if_pos ((makerBad_iff b).mpr bad)))

theorem exec_makerEnable_refused (good : ¬makerBad b) (no : s.service < 2 ∨ s.makerOpened) :
    exec (.makerEnable req) s = .next ((s.served src).mgtEnd src 0x30 .serviceStateInvalid) :=
  congrArg Host.Outcome.next ((h.withMgt _).trans ((if_neg ((makerBad_iff b).not.mpr good)).trans
    (if_pos ((State.makerOpened_iff s src).mpr no))))

theorem exec_makerEnable (good : ¬makerBad b) (may : ¬(s.service < 2 ∨ s.makerOpened)) :
    exec (.makerEnable req) s = .next ((((s.served src).setMaker (some ⟨src.ringNo, le b 0 2, none, false, [], 0⟩)).makerLog
      1 src.ringNo [] (le b 0 2)).mgtEnd src 0x30 .success) :=
  congrArg Host.Outcome.next ((h.withMgt _).trans ((if_neg ((makerBad_iff b).not.mpr good)).trans
    (if_neg ((State.makerOpened_iff s src).not.mpr may))))

end Enable

/-! ### The other steps -/

section Steps

variable {s : State} {req : Option Bytes} {src : MgtSrc} {b : Bytes} {m : Maker} (maker : s.hm.maker = some m)
  (own : m.ring = src.ringNo)

include maker own

/-- The state after a nonce was drawn. -/
def State.challenged (s : State) (m : Maker) : State :=
  { s with
    free := s.free + 1
    hm := { s.hm with maker := some { m with nonce := some (fitTo 64 (Config.freeBytes s.free)) } } }

theorem exec_makerChallenge (h : Asks s 0x31 noReq src b) (fresh : m.opened = false) : exec .makerChallenge s =
    .next ((((s.served src).challenged m).makerLog 2 src.ringNo [] m.minutes).mgtDone src 0x31 .success
      (fitTo 64 (Config.freeBytes (s.served src).free)) 0) :=
  congrArg Host.Outcome.next ((h.withMaker maker own 0x31 _).trans (if_neg (by rw [fresh]; decide)))

theorem exec_makerResponse_early (h : Asks s 0x32 req src b) (no : m.nonce = none) : exec (.makerResponse req) s =
    .next ((s.served src).mgtEnd src 0x32 .makerSessionRequired) := by
  refine congrArg Host.Outcome.next ((h.withMaker maker own 0x32 _).trans ?_)
  rw [no]

/-- The session opens with the rights that the maker signed. -/
def State.makerOpen (s : State) (m : Maker) (rights : Bytes) : State :=
  (s.setMaker (some { m with nonce := none, opened := true, rights := rights, since := s.clk.ref })).put (mgtA 0x100) 4 4 1

/-- The debug rights stop the package. -/
def State.grant (s : State) (rights : Bytes) : State :=
  if Config.grantsDebug rights then (s.put (mgtA 0x100) 5 5 1).packageStop true else s

variable {nonce : Bytes} (asked : m.nonce = some nonce) (well : (slice b 4635 5).any (fun x => x != 0) = false)

include asked well

theorem exec_makerResponse (h : Asks s 0x32 req src b) (signed : Config.mldsaVerify Config.makerKey
      (nonce ++ fitTo 16 Config.serial ++ slice b 0 8) (slice b 8 4627) = true) : exec (.makerResponse req) s =
    .next (((((s.served src).makerOpen m (slice b 0 8)).makerLog 3 src.ringNo (slice b 0 8) m.minutes).grant
      (slice b 0 8)).mgtEnd src 0x32 .success) := by
  refine congrArg Host.Outcome.next ((h.withMaker maker own 0x32 _).trans ?_)
  rw [asked]
  exact (if_neg (by rw [well]; decide)).trans (if_pos signed)

theorem exec_makerResponse_unsigned (h : Asks s 0x32 req src b) (wrong : Config.mldsaVerify Config.makerKey
      (nonce ++ fitTo 16 Config.serial ++ slice b 0 8) (slice b 8 4627) = false) : exec (.makerResponse req) s =
    .next ((((s.served src).setMaker (some { m with nonce := none })).makerLog 4 src.ringNo (slice b 0 8)
      m.minutes).mgtEnd src 0x32 .imageSignatureInvalid) := by
  refine congrArg Host.Outcome.next ((h.withMaker maker own 0x32 _).trans ?_)
  rw [asked]
  exact (if_neg (by rw [well]; decide)).trans (if_neg (by rw [wrong]; decide))

end Steps

theorem State.challenged_frame (s : State) (m : Maker) : Frame 0x4000000108008 s (s.challenged m) := by
  apply Frame.upd (Frame.refl _ _)
  all_goals first | exact Or.inr rfl | exact Or.inl rfl | exact Or.inl (Nat.le_refl _) | rfl

theorem State.makerOpen_frame (s : State) (m : Maker) (rights : Bytes) :
    Frame 0x4000000108000 s (s.makerOpen m rights) :=
  (State.setMaker_frame ..).trans (State.put_frame rfl (tb_mgtA rfl) ..)

theorem State.makerOpen_maker (s : State) (m : Maker) (rights : Bytes) : (s.makerOpen m rights).hm.maker =
    some { m with nonce := none, opened := true, rights := rights, since := s.clk.ref } := by
  unfold State.makerOpen
  rw [State.put_hm, State.setMaker_maker]

theorem State.makerOpen_flag (s : State) (m : Maker) (rights : Bytes) :
    (s.makerOpen m rights).flag (mgtA 0x100) 4 = true :=
  State.flag_put_self _ _ _ (by decide) (by decide) (by decide)

theorem State.grant_frame (s : State) (rights : Bytes) : Frame 0x5300000100e04 s (s.grant rights) := by
  unfold State.grant
  split
  · exact (State.put_frame rfl (tb_mgtA rfl) ..).trans ((State.packageStop_frame ..).mono rfl)
  · exact Frame.refl _ _

theorem State.grant_flag (s : State) (rights : Bytes) :
    (s.grant rights).flag (mgtA 0x100) 4 = s.flag (mgtA 0x100) 4 := by
  unfold State.grant
  split
  · rw [State.flag_congr ((State.packageStop_frame ..).mgt rfl 0x100),
      State.flag_put_beside _ _ _ (by decide) (by decide) (by decide)]
  · rfl

/-- Debug rights show in MGT_STATE and stop the package. -/
theorem State.grant_debug (s : State) {rights : Bytes} (debug : Config.grantsDebug rights = true) :
    (s.grant rights).flag (mgtA 0x100) 5 = true ∧ (s.grant rights).pkgStopped = true := by
  unfold State.grant
  rw [if_pos debug]
  refine ⟨?_, (State.packageStop_from (Frame.refl 0 _) rfl).1⟩
  rw [State.flag_congr ((State.packageStop_frame ..).mgt rfl 0x100),
    State.flag_put_self _ _ _ (by decide) (by decide) (by decide)]
  rfl

section End

variable {s : State} {req : Option Bytes} {src : MgtSrc} {b : Bytes} {m : Maker} (maker : s.hm.maker = some m)
  (own : m.ring = src.ringNo)

include maker own

theorem exec_makerEnd (h : Asks s 0x33 noReq src b) :
    exec .makerEnd s = .next ((s.served src).makerStop.mgtEnd src 0x33 .success) :=
  congrArg Host.Outcome.next (h.withMaker maker own 0x33 _)

theorem exec_makerOp (h : Asks s 0x34 req src b) (opened : m.opened = true) : exec (.makerOp req) s =
    .next (((s.served src).makerLog 6 src.ringNo m.rights m.minutes).mgtDone src 0x34 .success
      (Config.freeBytes (s.served src).free) 0) :=
  congrArg Host.Outcome.next ((h.withMaker maker own 0x34 _).trans (if_pos opened))

theorem exec_makerOp_refused (h : Asks s 0x34 req src b) (opened : m.opened = false) : exec (.makerOp req) s =
    .next ((s.served src).mgtEnd src 0x34 .makerSessionRequired) :=
  congrArg Host.Outcome.next ((h.withMaker maker own 0x34 _).trans (if_neg (by rw [opened]; decide)))

end End

theorem exec_makerSessionExpiry {s u : State} {m : Maker} (maker : s.hm.maker = some m) (opened : m.opened = true)
    (due : s.reachRef (m.since + m.minutes * 60000000000) = some u) :
    exec .makerSessionExpiry s = .next u.makerStop := by
  refine congrArg Host.Outcome.next ?_
  rw [maker]
  exact (if_pos opened).trans (State.atRef_some due _)

/-- Settles O55: each step of a session is one exec lemma, and logging and answering leave the session. -/
theorem makerSession : Obligations.MakerSession := by
  refine ⟨fun s src b req h => ?_, fun s src b m h maker own fresh => ?_, fun s src b req m h maker own no => ?_,
    fun s src b req m nonce h maker own asked well => ?_, fun s src b m maker own => ⟨fun h => ?_, fun req h => ?_⟩,
    fun s src b req none => ?_, fun s u m maker opened due => ?_⟩
  · intro bad opened
    by_cases wrong : bad
    · exact ⟨_, exec_makerEnable_bad h wrong, fun _ => h.ends_maker _, fun ok => absurd wrong ok, fun ok => absurd wrong ok⟩
    · by_cases no : s.service < 2 ∨ opened
      · refine ⟨_, exec_makerEnable_refused h wrong no, fun is => absurd is wrong, fun _ _ => h.ends_maker _,
          fun _ high closed => ?_⟩
        exact (no.elim (fun low => absurd low (by omega)) closed).elim
      · exact ⟨_, exec_makerEnable h wrong no, fun is => absurd is wrong, fun _ is => absurd is no,
          fun _ _ _ => ⟨h.makerStep (State.setMaker_frame ..) .., (State.makerStep_logged ..).maker⟩⟩
  · refine ⟨_, exec_makerChallenge maker own h fresh, ?_, ?_, ?_⟩
    · exact h.replied ((State.challenged_frame ..).trans ((State.makerLog_frame ..).mono rfl)) rfl rfl rfl ..
    · rw [(State.makerStep_logged ..).maker, State.challenged, State.served_free]
    · rw [(State.mgtDone_frame ..).free rfl, (State.makerLog_frame ..).free rfl, State.challenged, State.served_free]
  · refine ⟨_, exec_makerResponse_early maker own h no, h.ends .., ?_⟩
    exact (h.ends_maker _).2.trans maker
  · intro signed
    cases valid : signed with
    | true =>
      refine ⟨_, exec_makerResponse maker own asked well h valid, fun _ => ⟨?_, ?_, ?_⟩, fun _ debug => ?_, nofun⟩
      · exact h.replied ((((State.makerOpen_frame ..).step (State.makerLog_frame ..) rfl).mono rfl).trans
          ((State.grant_frame ..).mono rfl) : Frame 0x5300000108e04 _ _) rfl rfl rfl ..
      · rw [(State.mgtEnd_logged ..).flag (by decide), State.grant_flag, (State.makerLog_logged ..).flag (by decide),
          State.makerOpen_flag]
      · rw [(State.mgtEnd_logged ..).maker, (State.grant_frame ..).hm rfl, (State.makerLog_logged ..).maker,
          State.makerOpen_maker, State.served_clk]
      · obtain ⟨shown, stopped⟩ := State.grant_debug (((s.served src).makerOpen m (slice b 0 8)).makerLog 3 src.ringNo
          (slice b 0 8) m.minutes) debug
        refine ⟨((State.mgtEnd_logged ..).flag (by decide) 5).trans shown, ?_⟩
        exact (State.flag_congr ((State.mgtEnd_frame ..).blk _ (by rw [blk_safA 0 (by decide)]; rfl)) 23).trans stopped
    | false =>
      exact ⟨_, exec_makerResponse_unsigned maker own asked well h valid, nofun, nofun,
        fun _ => ⟨h.makerStep (State.setMaker_frame ..) .., (State.makerStep_logged ..).maker⟩⟩
  · have served := (State.served_maker s src).trans maker
    refine ⟨_, exec_makerEnd maker own h, h.replied (State.makerStop_frame _) rfl rfl rfl .., ?_, fun opened => ?_⟩
    · rw [(State.mgtEnd_logged ..).maker, State.makerStop_maker served]
    · rw [(State.mgtEnd_logged ..).flag (by decide), State.makerStop_flag served opened]
  · cases opened : m.opened with
    | true =>
      refine ⟨_, exec_makerOp maker own h opened, ?_, fun _ => h.makerStep (Frame.refl ..) .., nofun⟩
      rw [(State.makerStep_logged ..).maker, State.served_maker, maker]
    | false =>
      exact ⟨_, exec_makerOp_refused maker own h opened, (h.ends_maker _).2.trans maker, nofun, fun _ => h.ends ..⟩
  · exact ⟨fun h => ⟨_, congrArg Host.Outcome.next (h.withoutMaker none _), h.ends_maker _⟩,
      fun h => ⟨_, congrArg Host.Outcome.next (h.withoutMaker none _), h.ends_maker _⟩,
      fun h => ⟨_, congrArg Host.Outcome.next (h.withoutMaker none _), h.ends_maker _⟩,
      fun h => ⟨_, congrArg Host.Outcome.next (h.withoutMaker none _), h.ends_maker _⟩⟩
  · have same : u.hm.maker = some m := by rw [(State.reachRef_fr due).hm rfl, maker]
    exact ⟨_, exec_makerSessionExpiry maker opened due, State.makerStop_maker same, State.makerStop_flag same opened⟩

end Sys2Proof.Machine

/-!
Firmware updates (17_harbourmaster.md: R388; 16_boot_and_firmware.md: R362, R363).
-/

namespace Sys2Proof.Machine

open Sys2Proof

/-! ### The update's parts -/

theorem State.setUpdate_update (s : State) (x : Option Update) : (s.setUpdate x).hm.update = x := by
  unfold State.setUpdate
  cases x
  · rw [State.wr_hm, State.put_hm]
  · rw [State.wr_hm, State.put_hm]

theorem State.setSlot_slotTbl (s : State) (n : Nat) (x : Tbl Byte) : (s.setSlot n x).slotTbl n = x := by
  unfold State.setSlot State.slotTbl
  by_cases h : n = 0
  · rw [if_pos h, if_pos h]
  · rw [if_neg h, if_neg h]

theorem State.slotTbl_congr {s t : State} (h : t.flash = s.flash) (n : Nat) : t.slotTbl n = s.slotTbl n := by
  unfold State.slotTbl
  rw [h]

theorem State.slotBytes_congr {s t : State} (h : t.flash = s.flash) (n off len : Nat) :
    t.slotBytes n off len = s.slotBytes n off len := by
  unfold State.slotBytes
  rw [State.slotTbl_congr h]

theorem State.verifySlot_congr {s t : State} (h : t.flash = s.flash) (fuses : t.fuses = s.fuses) (n : Nat) :
    t.verifySlot n = s.verifySlot n := by
  unfold State.verifySlot
  simp only [State.slotBytes_congr h, fuses]

theorem State.bootRec_congr {s t : State} (h : t.flash = s.flash) : t.bootRec = s.bootRec := by
  unfold State.bootRec
  rw [h]

theorem State.served_update (s : State) (src : MgtSrc) : (s.served src).hm.update = s.hm.update := by
  rw [State.served_hm]

theorem State.served_updSlot (s : State) (src : MgtSrc) : (s.served src).updSlot = s.updSlot := by
  unfold State.updSlot
  rw [State.bootRec_congr (State.served_flash ..), State.fld_congr (State.served_rd ..), State.served_hm]

theorem State.withUpdate_own {s : State} {src : MgtSrc} {u : Update} (update : s.hm.update = some u)
    (own : u.owner.ringNo = src.ringNo) (op : Nat) (f : State → Update → State) : s.withUpdate src op f = f s u := by
  unfold State.withUpdate
  rw [update]
  exact if_pos own

theorem State.withUpdate_foreign {s : State} {src : MgtSrc}
    (none : s.hm.update = none ∨ ∃ u, s.hm.update = some u ∧ u.owner.ringNo ≠ src.ringNo) (op : Nat)
    (f : State → Update → State) : s.withUpdate src op f = s.mgtEnd src op .updateBusy := by
  unfold State.withUpdate
  obtain e | ⟨u, e, ne⟩ := none
  · rw [e]
  · rw [e]
    exact if_neg ne

section Asks

variable {s : State} {op : Nat} {req : Option Bytes} {src : MgtSrc} {b : Bytes} {u : Update}

theorem Asks.withUpdate (h : Asks s op req src b) (update : s.hm.update = some u) (own : u.owner.ringNo = src.ringNo)
    (q : Nat) (f : MgtSrc → Bytes → State → Update → State) :
    s.withMgt op req (fun s src b => s.withUpdate src q (f src b)) = f src b (s.served src) u :=
  (h.withMgt _).trans (State.withUpdate_own ((State.served_update ..).trans update) own q (f src b))

/-- The answer to another sender, or without an open update. -/
theorem Asks.withoutUpdate (h : Asks s op req src b)
    (none : s.hm.update = none ∨ ∃ u, s.hm.update = some u ∧ u.owner.ringNo ≠ src.ringNo) {c : Instr}
    (f : MgtSrc → Bytes → State → Update → State)
    (run : exec c s = .next (s.withMgt op req (fun s src b => s.withUpdate src op (f src b)))) :
    Answers c s fun t => Replied s t src .updateBusy ∧ t.flash = s.flash := by
  refine ⟨_, run.trans (congrArg Host.Outcome.next ((h.withMgt _).trans
    (State.withUpdate_foreign (by rw [State.served_update]; exact none) ..))), h.ends .., ?_⟩
  rw [(State.mgtEnd_frame ..).flash rfl, State.served_flash]

/-- A request that leaves the update as it stands. -/
theorem Asks.ends_update (h : Asks s op req src b) (st : Status) :
    Replied s ((s.served src).mgtEnd src op st) src st ∧ ((s.served src).mgtEnd src op st).hm.update = s.hm.update :=
  ⟨h.ends op st, (State.mgtEnd_logged ..).update.trans (State.served_update ..)⟩

/-- A step of an update is logged and answered. -/
theorem Asks.updStep (h : Asks s op req src b) {m : Nat} {v : State} (f : Frame m (s.served src) v)
    (hm : m &&& 0x400000010e000 = m) (q slot : Nat) (st : Status) :
    Replied s (v.updEnd src q slot st) src st :=
  h.replied ((f.mono hm).trans ((State.hmLog_frame ..).mono rfl) :
    Frame 0x400000010e000 _ _) rfl rfl rfl q st [] 0

theorem Asks.updStep_update (h : Asks s op req src b) (q slot : Nat) (st : Status) :
    Replied s ((s.served src).updEnd src q slot st) src st ∧
      ((s.served src).updEnd src q slot st).hm.update = s.hm.update :=
  ⟨h.updStep (Frame.refl 0 _) rfl .., (State.updEnd_logged ..).update.trans (State.served_update ..)⟩

end Asks

theorem State.updEnd_flash (s : State) (src : MgtSrc) (op slot : Nat) (st : Status) :
    (s.updEnd src op slot st).flash = s.flash := (State.updEnd_frame ..).flash rfl

theorem State.setUpdate_flash (s : State) (x : Option Update) : (s.setUpdate x).flash = s.flash :=
  (State.setUpdate_frame ..).flash rfl

/-! ### UPDATE_BEGIN -/

section Begin

variable {s : State} {req : Option Bytes} {src : MgtSrc} {b : Bytes} (h : Asks s 0x20 req src b)

include h

theorem exec_updateBegin_busy (busy : s.hm.update.isSome = true) :
    exec (.updateBegin req) s = .next ((s.served src).mgtEnd src 0x20 .updateBusy) :=
  congrArg Host.Outcome.next ((h.withMgt _).trans (if_pos (by rw [State.served_update]; exact busy)))

theorem exec_updateBegin_length (free : s.hm.update = none) (bad : le b 0 4 = 0 ∨ 24 * 2 ^ 20 < le b 0 4) :
    exec (.updateBegin req) s = .next ((s.served src).mgtEnd src 0x20 .lengthExceeds) :=
  congrArg Host.Outcome.next ((h.withMgt _).trans ((if_neg (by rw [State.served_update, free]; decide)).trans
    (if_pos (by simpa using bad))))

theorem exec_updateBegin_contents (free : s.hm.update = none) (low : 0 < le b 0 4) (high : le b 0 4 ≤ 24 * 2 ^ 20)
    (bad : le b 4 4 ≠ 0) :
    exec (.updateBegin req) s = .next ((s.served src).mgtEnd src 0x20 .descriptorInvalid) :=
  congrArg Host.Outcome.next ((h.withMgt _).trans ((if_neg (by rw [State.served_update, free]; decide)).trans
    ((if_neg (by simp; omega)).trans (if_pos bad))))

theorem exec_updateBegin (free : s.hm.update = none) (low : 0 < le b 0 4) (high : le b 0 4 ≤ 24 * 2 ^ 20)
    (good : le b 4 4 = 0) :
    exec (.updateBegin req) s = .next ((((s.served src).setSlot (s.served src).updSlot []).setUpdate
      (some ⟨src, (s.served src).updSlot, le b 0 4, false, false⟩)).updEnd src 0x20 (s.served src).updSlot .success) :=
  congrArg Host.Outcome.next ((h.withMgt _).trans ((if_neg (by rw [State.served_update, free]; decide)).trans
    ((if_neg (by simp; omega)).trans (if_neg (not_not.mpr good)))))

end Begin

/-! ### The steps of the open update -/

section Steps

variable {s : State} {req : Option Bytes} {src : MgtSrc} {b : Bytes} {u : Update} (update : s.hm.update = some u)
  (own : u.owner.ringNo = src.ringNo)

/-- An UPDATE_WRITE out of its steps or of the image. -/
def writeBad (u : Update) (off n : Nat) : Prop :=
  off % 4096 ≠ 0 ∨ (n % 4096 ≠ 0 ∧ off + n ≠ u.len) ∨ 2 ^ 20 < n ∨ u.len < off + n

theorem writeBad_iff (u : Update) (off n : Nat) : (off % 4096 ≠ 0 || (n % 4096 ≠ 0 && off + n ≠ u.len) || 2 ^ 20 < n ||
    u.len < off + n : Bool) = true ↔ writeBad u off n := by
  unfold writeBad
  simp [or_assoc]

/-- The image that would be verified needs no newer driver than it allows. -/
def State.driverRange (s : State) (n : Nat) : Bool :=
  decide (le (s.slotBytes n 16 8) 0 4 ≤ le (s.slotBytes n 16 8) 4 4)

/-- The status of UPDATE_VERIFY. -/
def State.verified (s : State) (n : Nat) : Status :=
  if s.verifySlot n = .success && le (s.slotBytes n 16 8) 4 4 < le (s.slotBytes n 16 8) 0 4 then .imageVersionRefused
  else s.verifySlot n

theorem State.verified_fails {s : State} {n : Nat} (h : s.verifySlot n ≠ .success) : s.verified n = s.verifySlot n :=
  if_neg (by simp [h])

theorem State.verified_passes {s : State} {n : Nat} (h : s.verifySlot n = .success) :
    s.verified n = if s.driverRange n then .success else .imageVersionRefused := by
  unfold State.verified State.driverRange
  by_cases older : le (s.slotBytes n 16 8) 0 4 ≤ le (s.slotBytes n 16 8) 4 4
  · rw [if_neg (by simp [older]), if_pos (by simpa using older), h]
  · rw [if_pos (by simpa [h] using older), if_neg (by simpa using older)]

include update own

theorem exec_updateWrite_bad (h : Asks s 0x21 req src b) (before : u.activated = false)
    (bad : writeBad u (le b 0 8) (b.drop 8).length) :
    exec (.updateWrite req) s = .next ((s.served src).mgtEnd src 0x21 .lengthExceeds) :=
  congrArg Host.Outcome.next ((h.withUpdate update own 0x21 _).trans ((if_neg (by rw [before]; decide)).trans
    (if_pos ((writeBad_iff ..).mpr bad))))

theorem exec_updateWrite (h : Asks s 0x21 req src b) (before : u.activated = false)
    (good : ¬writeBad u (le b 0 8) (b.drop 8).length) : exec (.updateWrite req) s =
    .next ((((s.served src).setSlot u.slot (slotWrite (le b 0 8) (b.drop 8) ((s.served src).slotTbl u.slot))).setUpdate
      (some { u with verified := false })).mgtEnd src 0x21 .success) :=
  congrArg Host.Outcome.next ((h.withUpdate update own 0x21 _).trans ((if_neg (by rw [before]; decide)).trans
    (if_neg ((writeBad_iff ..).not.mpr good))))

theorem exec_updateVerify (h : Asks s 0x22 noReq src b) : exec .updateVerify s =
    .next (((s.served src).setUpdate (some { u with verified := decide ((s.served src).verified u.slot = .success) })).updEnd
      src 0x22 u.slot ((s.served src).verified u.slot)) :=
  congrArg Host.Outcome.next (h.withUpdate update own 0x22 _)

theorem exec_updateActivate_unverified (h : Asks s 0x23 noReq src b) (no : u.verified = false) :
    exec .updateActivate s = .next ((s.served src).updEnd src 0x23 u.slot .updateBusy) :=
  congrArg Host.Outcome.next ((h.withUpdate update own 0x23 _).trans (if_pos (by rw [no]; rfl)))

/-- The verified image becomes preferred. -/
def State.activated (s : State) (src : MgtSrc) (u : Update) : State :=
  ((s.putRec { s.bootRec with preferred := u.slot }).setUpdate (some { u with activated := true })).updEnd src 0x23 u.slot
    .success

theorem exec_updateActivate (h : Asks s 0x23 noReq src b) (verified : u.verified = true) : exec .updateActivate s =
    .next (if (s.served src).hm.phase = .recovery then
      ((s.served src).activated src u).logFlush.packageReset 4 .reset else (s.served src).activated src u) := by
  refine congrArg Host.Outcome.next ((h.withUpdate update own 0x23 _).trans ((if_neg (by rw [verified]; decide)).trans ?_))
  rfl

theorem exec_updateAbort (h : Asks s 0x25 noReq src b) (before : u.activated = false) : exec .updateAbort s =
    .next ((((s.served src).setSlot u.slot []).setUpdate none).updEnd src 0x25 u.slot .success) := by
  refine congrArg Host.Outcome.next ((h.withUpdate update own 0x25 _).trans ((if_neg (by rw [before]; decide)).trans ?_))
  unfold State.dropUpdate
  rw [if_neg (by rw [before]; decide)]

theorem exec_updateAbort_activated (h : Asks s 0x25 noReq src b) (after : u.activated = true) :
    exec .updateAbort s = .next ((s.served src).updEnd src 0x25 u.slot .updateBusy) :=
  congrArg Host.Outcome.next ((h.withUpdate update own 0x25 _).trans (if_pos after))

omit own

theorem exec_updateConfirm_open (h : Asks s 0x24 noReq src b) :
    exec .updateConfirm s = .next ((s.served src).updEnd src 0x24 u.slot .updateBusy) := by
  refine congrArg Host.Outcome.next ((h.withMgt _).trans ?_)
  rw [State.served_update, update]

end Steps

/-- The fused security version of the booted image. -/
def State.fuseSvn (s : State) : State :=
  ({ s with fuses := { s.fuses with svn := max s.fuses.svn (s.fld (mgtA 0xC) 7 0) } } : State).put (mgtA 0xC) 15 8
    (max s.fuses.svn (s.fld (mgtA 0xC) 7 0))

theorem State.fuseSvn_svn (s : State) : s.fuseSvn.fuses.svn = max s.fuses.svn (s.fld (mgtA 0xC) 7 0) := by
  unfold State.fuseSvn
  rw [State.put_fuses]

theorem State.fuseSvn_frame (s : State) : Frame 0x4000000104000 s s.fuseSvn :=
  ((State.burn_frame s _).mono rfl).trans (State.put_frame rfl (tb_mgtA rfl) ..)

theorem exec_updateConfirm {s : State} {src : MgtSrc} {b : Bytes} (h : Asks s 0x24 noReq src b)
    (closed : s.hm.update = none) : exec .updateConfirm s =
      .next ((s.served src).fuseSvn.updEnd src 0x24 ((s.served src).fld (mgtA 0) 1 1) .success) := by
  refine congrArg Host.Outcome.next ((h.withMgt _).trans ?_)
  rw [State.served_update, closed]
  rfl

/-! ### What a package reset keeps of the boot record -/

theorem State.packageReset_recA (s : State) (cause : Nat) (p : Phase) :
    (s.packageReset cause p).flash.recA = s.flash.recA.map (fun x => { x with lastCause := cause }) := by
  unfold State.packageReset
  extract_lets
  split
  · rfl
  · rw [State.put_flash]

theorem State.packageReset_recB (s : State) (cause : Nat) (p : Phase) :
    (s.packageReset cause p).flash.recB = s.flash.recB.map (fun x => { x with lastCause := cause }) := by
  unfold State.packageReset
  extract_lets
  split
  · rfl
  · rw [State.put_flash]

/-- A package reset records its cause and nothing else. -/
theorem State.packageReset_bootRec (s : State) (cause : Nat) (p : Phase) :
    ∃ c, (s.packageReset cause p).bootRec = { s.bootRec with lastCause := c } := by
  unfold State.bootRec
  rw [State.packageReset_recA, State.packageReset_recB]
  cases s.flash.recA with
  | none =>
    cases s.flash.recB with
    | none => exact ⟨0, rfl⟩
    | some b => exact ⟨cause, rfl⟩
  | some a =>
    cases s.flash.recB with
    | none => exact ⟨cause, rfl⟩
    | some b =>
      refine ⟨cause, ?_⟩
      by_cases newer : b.generation ≤ a.generation
      · simp [newer]
      · simp [newer]

section Activated

variable (s : State) (src : MgtSrc) (u : Update)

theorem State.activated_bootRec : (s.activated src u).bootRec.preferred = u.slot := by
  unfold State.activated
  rw [State.bootRec_congr (State.updEnd_flash ..), State.bootRec_congr (State.setUpdate_flash ..), State.putRec_bootRec]

theorem State.activated_update : (s.activated src u).hm.update = some { u with activated := true } := by
  unfold State.activated
  rw [(State.updEnd_logged ..).update, State.setUpdate_update]

theorem State.activated_reset : (((s.activated src u).logFlush.packageReset 4 .reset).bootRec).preferred = u.slot := by
  obtain ⟨c, e⟩ := (s.activated src u).logFlush.packageReset_bootRec 4 .reset
  rw [e]
  exact s.activated_bootRec src u

end Activated

/-- Settles O54: each step of an update is one exec lemma per outcome, and what logs and answers it leaves the update
and its slot. -/
theorem imageUpdate : Obligations.ImageUpdate := by
  intro s src b
  refine ⟨fun req h => ?_, fun req u h update own before => ?_, fun u h update own => ?_, fun u h update own => ?_,
    fun h => ?_, fun u h update own => ?_, fun req none => ⟨fun h => h.withoutUpdate none _ rfl,
      fun h => h.withoutUpdate none _ rfl, fun h => h.withoutUpdate none _ rfl, fun h => h.withoutUpdate none _ rfl⟩⟩
  · cases update : s.hm.update with
    | some u =>
      have kept := h.ends_update .updateBusy
      rw [update] at kept
      exact ⟨_, exec_updateBegin_busy h (by rw [update]; rfl), fun _ => kept, nofun, nofun, nofun⟩
    | none =>
      have kept := fun st => (h.ends_update st)
      rw [update] at kept
      by_cases length : le b 0 4 = 0 ∨ 24 * 2 ^ 20 < le b 0 4
      · exact ⟨_, exec_updateBegin_length h update length, nofun, fun _ _ => kept _, fun _ low high => by omega,
          fun _ low high => by omega⟩
      · by_cases good : le b 4 4 = 0
        · refine ⟨_, exec_updateBegin h update (by omega) (by omega) good, nofun, fun _ is => absurd is length,
            fun _ _ _ _ => ⟨h.updStep ((State.setSlot_frame ..).mono rfl |>.trans ((State.setUpdate_frame ..).mono rfl) :
              Frame 0x400000010a000 _ _) rfl .., ?_, ?_⟩, fun _ _ _ is => absurd good is⟩
          · rw [(State.updEnd_logged ..).update, State.setUpdate_update, State.served_updSlot]
          · rw [State.slotTbl_congr (State.updEnd_flash ..), State.slotTbl_congr (State.setUpdate_flash ..),
              State.served_updSlot, State.setSlot_slotTbl]
        · exact ⟨_, exec_updateBegin_contents h update (by omega) (by omega) good, nofun, fun _ is => absurd is length,
            fun _ _ _ is => absurd is good, fun _ _ _ _ => kept _⟩
  · intro off n bad
    by_cases wrong : bad
    · refine ⟨_, exec_updateWrite_bad update own h before wrong, fun _ => ⟨h.ends .., ?_, ?_⟩, fun ok => absurd wrong ok⟩
      · exact (h.ends_update _).2.trans update
      · rw [(State.mgtEnd_frame ..).flash rfl, State.served_flash]
    · refine ⟨_, exec_updateWrite update own h before wrong, fun is => absurd is wrong, fun _ => ⟨?_, ?_, ?_⟩⟩
      · exact h.replied ((State.setSlot_frame ..).mono rfl |>.trans ((State.setUpdate_frame ..).mono rfl) :
          Frame 0x400000010a000 _ _) rfl rfl rfl ..
      · rw [(State.mgtEnd_logged ..).update, State.setUpdate_update]
      · rw [State.slotTbl_congr ((State.mgtEnd_frame ..).flash rfl), State.slotTbl_congr (State.setUpdate_flash ..),
          State.setSlot_slotTbl, State.slotTbl_congr (State.served_flash ..)]
  · have served : (s.served src).verified u.slot = s.verified u.slot := by
      unfold State.verified
      rw [State.verifySlot_congr (State.served_flash ..) (State.served_fuses ..),
        State.slotBytes_congr (State.served_flash ..)]
    have run := exec_updateVerify update own h
    rw [served] at run
    refine ⟨_, run, fun fails => ?_, fun passes => ?_⟩
    · rw [State.verified_fails fails]
      refine ⟨h.updStep (State.setUpdate_frame ..) rfl .., ?_⟩
      rw [(State.updEnd_logged ..).update, State.setUpdate_update, decide_eq_false fails]
    · intro ok
      rw [State.verified_passes passes]
      refine ⟨?_, h.updStep (State.setUpdate_frame ..) rfl ..⟩
      rw [(State.updEnd_logged ..).update, State.setUpdate_update]
      show _ = some { u with verified := s.driverRange u.slot }
      cases s.driverRange u.slot <;> rfl
  · cases verified : u.verified with
    | false =>
      have kept := h.updStep_update 0x23 u.slot .updateBusy
      rw [update] at kept
      exact ⟨_, exec_updateActivate_unverified update own h verified, fun _ => kept, nofun⟩
    | true =>
      have run := exec_updateActivate update own h verified
      rw [State.served_hm] at run
      by_cases recovery : s.hm.phase = .recovery
      · rw [if_pos recovery] at run
        exact ⟨_, run, nofun, fun _ => ⟨State.activated_reset .., fun is => absurd recovery is,
          fun _ => State.packageReset_phase ..⟩⟩
      · rw [if_neg recovery] at run
        refine ⟨_, run, nofun, fun _ => ⟨State.activated_bootRec .., fun _ => ⟨?_, by rw [State.activated_update, verified]⟩,
          fun is => absurd is recovery⟩⟩
        exact h.updStep ((State.putRec_frame ..).mono rfl |>.trans ((State.setUpdate_frame ..).mono rfl) :
          Frame 0x400000010a000 _ _) rfl ..
  · cases update : s.hm.update with
    | none =>
      refine ⟨_, exec_updateConfirm h update, fun _ => ⟨h.updStep (State.fuseSvn_frame _) rfl .., ?_⟩, nofun⟩
      rw [(State.updEnd_frame ..).fuses rfl, State.fuseSvn_svn, State.served_fuses, State.fld_congr (State.served_rd ..)]
    | some u =>
      refine ⟨_, exec_updateConfirm_open update h, nofun, fun _ => ⟨(h.updStep_update ..).1, ?_⟩⟩
      rw [(State.updEnd_frame ..).fuses rfl, State.served_fuses]
  · cases activated : u.activated with
    | false =>
      refine ⟨_, exec_updateAbort update own h activated, fun _ =>
        ⟨h.updStep ((State.setSlot_frame ..).mono rfl |>.trans ((State.setUpdate_frame ..).mono rfl) :
          Frame 0x400000010a000 _ _) rfl .., ?_, ?_⟩, nofun⟩
      · rw [(State.updEnd_logged ..).update, State.setUpdate_update]
      · rw [State.slotTbl_congr (State.updEnd_flash ..), State.slotTbl_congr (State.setUpdate_flash ..),
          State.setSlot_slotTbl]
    | true =>
      have kept := h.updStep_update 0x25 u.slot .updateBusy
      rw [update] at kept
      exact ⟨_, exec_updateAbort_activated update own h activated, nofun, fun _ => kept⟩

end Sys2Proof.Machine

/-!
The tally's requests and saturation (18_tally_counters.md: R398, R399).
-/

namespace Sys2Proof.Machine

open Sys2Proof

/-! ### Registers of the tally -/

theorem tlyC_ne_tlyA (d c o p : Nat) : tlyC d c o ≠ tlyA p := by unfold tlyC tlyA; omega

/-- Registers of two offsets differ, whichever counters they belong to. -/
theorem tlyC_ne_offset (d c e k : Nat) {o p : Nat} (ho : o < 0x20) (hp : p < 0x20) (h : o ≠ p) :
    tlyC d c o ≠ tlyC e k p := by
  unfold tlyC
  split <;> split <;> omega

/-- A die's counters, and the places behind them that a chain reaches, have registers of their own. -/
theorem tlyC_ne_counter {d c k o p : Nat} (hd : d < 8) (hc : c < 128) (hk : k < 128) (ho : o < 0x20) (hp : p < 0x20)
    (h : c ≠ k) : tlyC d c o ≠ tlyC d k p := by
  unfold tlyC
  split <;> omega

/-! ### What synchronising keeps -/

section Sync

variable {P : State → Prop} (regs : ∀ s t : State, t.regs = s.regs → P s → P t)

include regs

/-- What an addition to a counter keeps, a passed period keeps. -/
theorem State.tlyPass_keeps {d c : Nat} (add : ∀ k s, P s → P (State.tlyAdd d k 64 c s)) (n : Nat) {s : State} (h : P s) :
    P (State.tlyPass d n s c) := by
  unfold State.tlyPass
  extract_lets cfg ev
  split
  · exact h
  · split
    · exact add _ _ h
    · split
      · exact add _ _ h
      · split
        · split
          · split
            · exact add _ _ h
            · exact h
          · exact add _ _ h
        · exact regs (State.tlyAdd d (Config.freeNat s.free) 64 c s) _ rfl (add _ _ h)

theorem State.tlySync_keeps {d : Nat} (add : ∀ c < tlyN d, ∀ k s, P s → P (State.tlyAdd d k 64 c s)) {s : State}
    (h : P s) : P (s.tlySync d) := by
  unfold State.tlySync
  extract_lets a on passed src
  have kept : P passed := by
    unfold passed
    split
    · exact foldl_keep h (fun t c hc ht => State.tlyPass_keeps regs (add c (List.mem_range.mp hc)) _ ht)
    · exact h
  exact regs passed _ rfl kept

theorem State.tlySyncAll_keeps (add : ∀ d < 8, ∀ c < tlyN d, ∀ k s, P s → P (State.tlyAdd d k 64 c s)) {s : State}
    (h : P s) : P s.tlySyncAll :=
  foldl_keep h (fun _ d hd ht => State.tlySync_keeps regs (add d (List.mem_range.mp hd)) ht)

end Sync

/-! ### The requests at the edge -/

/-- From `s` to `t` the requests and the two first bits of TLY_STAT are the same. -/
structure State.TlySame (s t : State) : Prop where
  ctl : t.rd (tlyA 0) = s.rd (tlyA 0)
  stat : ∀ i < 2, t.flag (tlyA 4) i = s.flag (tlyA 4) i

theorem State.TlySame.refl (s : State) : s.TlySame s := ⟨rfl, fun _ _ => rfl⟩

theorem State.TlySame.trans {s t u : State} (h : s.TlySame t) (k : t.TlySame u) : s.TlySame u :=
  ⟨k.ctl.trans h.ctl, fun i hi => (k.stat i hi).trans (h.stat i hi)⟩

theorem State.TlySame.regs {s t u : State} (h : s.TlySame t) (e : u.regs = t.regs) : s.TlySame u :=
  h.trans ⟨State.rd_congr e _, fun i _ => State.flag_congr (State.rd_congr e _) i⟩

/-- A write to another register. -/
theorem State.TlySame.wr {s t : State} (h : s.TlySame t) {a : Nat} (h0 : a ≠ tlyA 0) (h4 : a ≠ tlyA 4) (v : Word) :
    s.TlySame (t.wr a v) :=
  h.trans ⟨State.rd_wr_ne _ _ h0, fun i _ => State.flag_congr (State.rd_wr_ne _ _ h4) i⟩

theorem State.TlySame.wrC {s t : State} (h : s.TlySame t) (d c o : Nat) (v : Word) : s.TlySame (t.wr (tlyC d c o) v) :=
  h.wr (tlyC_ne_tlyA d c o 0) (tlyC_ne_tlyA d c o 4) v

/-- One of the other bits of TLY_STAT is set. -/
theorem State.TlySame.event {s t : State} (h : s.TlySame t) {i o : Nat} (hi : 2 ≤ i) (h32 : i < 32) (ho : 8 ≤ o)
    (high : o < 0x1000) : s.TlySame (t.event (tlyA 4) i (tlyA o)) := by
  have ne : ∀ p < 8, tlyA o ≠ tlyA p := fun p hp => by unfold tlyA; omega
  exact h.trans ⟨State.rd_event_ne _ _ (by decide) (ne 0 (by decide)), fun j hj =>
    State.flag_event_beside _ (Ne.symm (ne 4 (by decide))) h32 (by omega)⟩

theorem State.TlySame.saturate {s t : State} (h : s.TlySame t) (d c : Nat) : s.TlySame (t.tlySaturate d c) := by
  unfold State.tlySaturate
  split
  · exact h
  · exact (((h.wrC ..).wrC ..).wrC ..).event (o := 0xC) (by decide) (by decide) (by decide) (by decide)

theorem State.TlySame.add {s : State} (d n fuel c : Nat) {t : State} (h : s.TlySame t) :
    s.TlySame (State.tlyAdd d n fuel c t) := by
  induction fuel generalizing n c t with
  | zero => exact h
  | succ k ih =>
    unfold State.tlyAdd
    extract_lets v put
    have written : s.TlySame put := (h.wrC ..).wrC ..
    split
    · split
      · exact written
      · exact ih _ _ written
    · split
      · exact h.saturate ..
      · exact (h.wrC ..).wrC ..

theorem State.TlySame.syncAll {s t : State} (h : s.TlySame t) : s.TlySame t.tlySyncAll :=
  State.tlySyncAll_keeps (P := s.TlySame) (fun _ _ e k => k.regs e) (fun d _ c _ n _ k => k.add d n 64 c) h

/-- An operation on every counter. -/
theorem State.TlySame.each {s t : State} (h : s.TlySame t) {f : State → Nat → Nat → State}
    (hf : ∀ u d c, s.TlySame u → s.TlySame (f u d c)) : s.TlySame (t.tlyEach f) :=
  foldl_keep h (fun _ d _ k => foldl_keep k (fun _ c _ j => hf _ d c j))

theorem State.TlySame.snap {s t : State} (h : s.TlySame t) : s.TlySame t.tlySnap :=
  have stored := h.each (f := fun s d c => (s.wr (tlyC d c 0x10) (s.rd (tlyC d c 8))).wr (tlyC d c 0x14)
    (s.rd (tlyC d c 0xC))) (fun _ _ _ k => (k.wrC ..).wrC ..)
  ((stored.wr (a := tlyA 0x10) (by decide) (by decide) _).wr (a := tlyA 0x10 + 4) (by decide) (by decide) _).event
    (o := 8) (by decide) (by decide) (by decide) (by decide)

theorem State.TlySame.clear {s t : State} (h : s.TlySame t) : s.TlySame t.tlyClear :=
  h.each (fun _ _ _ k => (((k.wrC ..).wrC ..).wrC ..).wrC ..)

/-- RUNNING is set to `v` where `c` holds. -/
def State.setRunning (s : State) (c : Bool) (v : Nat) : State := if c then s.put (tlyA 4) 0 0 v else s

theorem State.setRunning_flag (s : State) (c : Bool) (v : Nat) :
    (s.setRunning c v).flag (tlyA 4) 0 = if c then v.testBit 0 else s.flag (tlyA 4) 0 := by
  unfold State.setRunning
  cases c
  · rfl
  · exact State.flag_put_self _ _ _ (by decide) (by decide) (by decide)

/-- What acts at an edge in which the requests `m` wait. -/
theorem State.tlyEdge_eq {s : State} (h : s.fld (tlyA 0) 3 0 ≠ 0) : s.tlyEdge =
    ((((if (s.fld (tlyA 0) 3 0).testBit 2 then ((if (s.fld (tlyA 0) 3 0).testBit 0 then s.tlySyncAll.tlySnap
      else s.tlySyncAll).setRunning ((s.fld (tlyA 0) 3 0).testBit 1) 0).tlyClear
    else (if (s.fld (tlyA 0) 3 0).testBit 0 then s.tlySyncAll.tlySnap else s.tlySyncAll).setRunning
      ((s.fld (tlyA 0) 3 0).testBit 1) 0).setRunning ((s.fld (tlyA 0) 3 0).testBit 3) 1).put (tlyA 0) 3 0 0).put (tlyA 4) 1 1
        0).tlySyncAll := if_neg h

/-- Requests clear, and START, after STOP, decides RUNNING. -/
theorem State.tlyEdge_stat {s : State} (h : s.fld (tlyA 0) 3 0 ≠ 0) :
    s.tlyEdge.fld (tlyA 0) 3 0 = 0 ∧ s.tlyEdge.flag (tlyA 4) 1 = false ∧
      s.tlyEdge.flag (tlyA 4) 0 = ((s.fld (tlyA 0) 3 0).testBit 3 ||
        (s.flag (tlyA 4) 0 && !(s.fld (tlyA 0) 3 0).testBit 1)) := by
  rw [State.tlyEdge_eq h]
  generalize s.fld (tlyA 0) 3 0 = m
  generalize stored : (if m.testBit 0 then s.tlySyncAll.tlySnap else s.tlySyncAll) = u
  have kept : s.TlySame u := by
    rw [← stored]
    split
    · exact (State.TlySame.refl s).syncAll.snap
    · exact (State.TlySame.refl s).syncAll
  generalize cleared : (if m.testBit 2 then (u.setRunning (m.testBit 1) 0).tlyClear else u.setRunning (m.testBit 1) 0) = v
  have after : (u.setRunning (m.testBit 1) 0).TlySame v := by
    rw [← cleared]
    split
    · exact (State.TlySame.refl _).clear
    · exact State.TlySame.refl _
  generalize started : v.setRunning (m.testBit 3) 1 = w
  have synced := (State.TlySame.refl ((w.put (tlyA 0) 3 0 0).put (tlyA 4) 1 1 0)).syncAll
  refine ⟨?_, ?_, ?_⟩
  · rw [State.fld_congr synced.ctl, State.fld_put_ne _ _ _ _ _ _ (by decide),
      State.fld_put_self _ _ _ (by decide) (by decide)]
    rfl
  · rw [synced.stat 1 (by decide), State.flag_put_self _ _ _ (by decide) (by decide) (by decide)]
    rfl
  · rw [synced.stat 0 (by decide), State.flag_put_beside _ _ _ (by decide) (by decide) (by decide),
      State.flag_put_ne _ _ _ _ _ (by decide), ← started, State.setRunning_flag, after.stat 0 (by decide),
      State.setRunning_flag, kept.stat 0 (by decide)]
    cases m.testBit 3 <;> cases m.testBit 1 <;> simp

/-! ### The requests -/

theorem State.tlyReq_eq {s : State} (ready : s.isReady = true) {m : Nat} (h : m % 16 ≠ 0) :
    s.tlyReq m = (s.put (tlyA 0) 3 0 (s.fld (tlyA 0) 3 0 ||| m % 16)).put (tlyA 4) 1 1 1 :=
  if_neg (by simp [ready, h])

theorem State.tlyReq_asked {s : State} (ready : s.isReady = true) {m : Nat} (h : m % 16 ≠ 0) (small : m < 16) :
    (s.tlyReq m).fld (tlyA 0) 3 0 = s.fld (tlyA 0) 3 0 ||| m ∧ (s.tlyReq m).flag (tlyA 4) 1 = true ∧
      (s.tlyReq m).flag (tlyA 4) 0 = s.flag (tlyA 4) 0 := by
  have field : s.fld (tlyA 0) 3 0 < 2 ^ 4 := bits_lt ..
  rw [State.tlyReq_eq ready h, Nat.mod_eq_of_lt small]
  refine ⟨?_, ?_, ?_⟩
  · rw [State.fld_put_ne _ _ _ _ _ _ (by decide), State.fld_put_self _ _ _ (by decide) (by decide)]
    exact Nat.mod_eq_of_lt (Nat.or_lt_two_pow field small)
  · rw [State.flag_put_self _ _ _ (by decide) (by decide) (by decide)]
    rfl
  · rw [State.flag_put_beside _ _ _ (by decide) (by decide) (by decide), State.flag_put_ne _ _ _ _ _ (by decide)]

/-! ### Saturation (R398) -/

/-- Adding to counters changes no configuration. -/
theorem State.tlyAdd_cfg (d n fuel c e k : Nat) (s : State) :
    (State.tlyAdd d n fuel c s).rd (tlyC e k 0) = s.rd (tlyC e k 0) := by
  have put : ∀ (c v : Nat) (s : State), (s.tlyPut d c v).rd (tlyC e k 0) = s.rd (tlyC e k 0) := fun c v s => by
    unfold State.tlyPut
    rw [State.rd_put_ne _ _ _ _ (tlyC_ne_offset d c e k (by decide) (by decide) (by decide)),
      State.rd_wr_ne _ _ (tlyC_ne_offset d c e k (by decide) (by decide) (by decide))]
  induction fuel generalizing n c s with
  | zero => rfl
  | succ m ih =>
    unfold State.tlyAdd
    extract_lets v written
    split
    · split
      · exact put ..
      · exact (ih ..).trans (put ..)
    · split
      · unfold State.tlySaturate
        split
        · rfl
        · rw [State.rd_event_ne _ _ (tlyC_ne_tlyA e k 0 4).symm (tlyC_ne_tlyA e k 0 0xC).symm,
            State.rd_put_ne _ _ _ _ (tlyC_ne_offset d c e k (by decide) (by decide) (by decide)), put]
      · exact put ..

theorem State.tlySync_cfg (s : State) (d e k : Nat) : (s.tlySync d).rd (tlyC e k 0) = s.rd (tlyC e k 0) :=
  State.tlySync_keeps (P := fun t => t.rd (tlyC e k 0) = s.rd (tlyC e k 0))
    (fun _ _ same h => (State.rd_congr same _).trans h) (fun _ _ _ _ h => (State.tlyAdd_cfg ..).trans h) rfl

/-- A counter that has SAT stands at its top, and TLY_STAT shows it. -/
def State.TlyTopped (s : State) (d c : Nat) : Prop :=
  s.tlySat d c = true → s.tlyVal d c = tlyTop ∧ s.flag (tlyA 4) 3 = true

theorem State.TlyTopped.congr {s t : State} {d c : Nat} (h : s.TlyTopped d c) (low : t.rd (tlyC d c 8) = s.rd (tlyC d c 8))
    (high : t.rd (tlyC d c 0xC) = s.rd (tlyC d c 0xC)) (stat : s.flag (tlyA 4) 3 = true → t.flag (tlyA 4) 3 = true) :
    t.TlyTopped d c := by
  unfold State.TlyTopped State.tlySat State.tlyVal at h ⊢
  rw [State.flag_congr high, State.fld_congr high, low]
  exact fun sat => ⟨(h sat).1, stat (h sat).2⟩

section Counter

variable (s : State) (d c : Nat)

/-- The high word of a counter's value beside its low word. -/
theorem tlyC_low_ne_high : tlyC d c 8 ≠ tlyC d c 0xC := tlyC_ne_offset d c d c (by decide) (by decide) (by decide)

theorem State.tlyPut_sat (v : Nat) : (s.tlyPut d c v).tlySat d c = s.tlySat d c := by
  unfold State.tlyPut State.tlySat
  rw [State.flag_put_beside _ _ _ (by decide) (by decide) (by decide),
    State.flag_congr (State.rd_wr_ne _ _ (tlyC_low_ne_high d c))]

/-- A counter without SAT gets it at its top. -/
theorem State.tlySaturate_unsaturated (h : s.tlySat d c = false) : s.tlySaturate d c =
    ((s.tlyPut d c tlyTop).put (tlyC d c 0xC) 31 31 1).event (tlyA 4) 3 (tlyA 0xC) :=
  if_neg (by rw [h]; decide)

theorem State.tlySaturate_saturated (h : s.tlySat d c = true) : s.tlySaturate d c = s := if_pos h

theorem State.tlySaturate_sat : (s.tlySaturate d c).tlySat d c = true := by
  cases h : s.tlySat d c with
  | true => rw [State.tlySaturate_saturated s d c h, h]
  | false =>
    rw [State.tlySaturate_unsaturated s d c h]
    unfold State.tlySat
    rw [State.flag_event_ne _ _ _ (tlyC_ne_tlyA d c 0xC 4).symm (tlyC_ne_tlyA d c 0xC 0xC).symm,
      State.flag_put_self _ _ _ (by decide) (by decide) (by decide)]
    rfl

/-- Saturating leaves a counter with SAT at its top. -/
theorem State.tlySaturate_topped (h : s.TlyTopped d c) : (s.tlySaturate d c).TlyTopped d c := by
  cases sat : s.tlySat d c with
  | true =>
    rw [State.tlySaturate_saturated s d c sat]
    exact h
  | false =>
    rw [State.tlySaturate_unsaturated s d c sat]
    refine fun _ => ⟨?_, State.flag_event _ (by decide) (by decide)⟩
    have event : ∀ o, ((((s.tlyPut d c tlyTop).put (tlyC d c 0xC) 31 31 1).event (tlyA 4) 3 (tlyA 0xC)).rd (tlyC d c o)) =
        ((s.tlyPut d c tlyTop).put (tlyC d c 0xC) 31 31 1).rd (tlyC d c o) := fun o =>
      State.rd_event_ne _ _ (tlyC_ne_tlyA d c o 4).symm (tlyC_ne_tlyA d c o 0xC).symm
    unfold State.tlyVal
    rw [event 8, State.fld_congr (event 0xC), State.rd_put_ne _ _ _ _ (tlyC_low_ne_high d c).symm,
      State.fld_put_beside _ _ _ (by decide) (by decide) (by decide) (by decide)]
    unfold State.tlyPut
    rw [State.rd_put_ne _ _ _ _ (tlyC_low_ne_high d c).symm, State.rd_wr_self,
      State.fld_put_self _ _ _ (by decide) (by decide)]
    rfl

end Counter

/-- Additions to a die's counters keep a counter without CHAIN at its top once it has SAT. -/
theorem State.tlyAdd_topped {d c : Nat} (hd : d < 8) (hc : c < 128) (n fuel k : Nat) (reach : k + fuel ≤ 128) {s : State}
    (chain : s.flag (tlyC d c 0) 30 = false) (h : s.TlyTopped d c) : (State.tlyAdd d n fuel k s).TlyTopped d c := by
  have other : ∀ (k v : Nat) (t : State), k < 128 → k ≠ c → t.TlyTopped d c → (t.tlyPut d k v).TlyTopped d c := by
    intro k v t hk ne ht
    have kept : ∀ p < 0x20, (t.tlyPut d k v).rd (tlyC d c p) = t.rd (tlyC d c p) := fun p hp => by
      unfold State.tlyPut
      rw [State.rd_put_ne _ _ _ _ (tlyC_ne_counter hd hk hc (by decide) hp ne),
        State.rd_wr_ne _ _ (tlyC_ne_counter hd hk hc (by decide) hp ne)]
    refine ht.congr (kept 8 (by decide)) (kept 0xC (by decide)) (fun stat => ?_)
    unfold State.tlyPut
    rw [State.flag_put_ne _ _ _ _ _ (tlyC_ne_tlyA d k 0xC 4), State.flag_wr_ne _ _ _ (tlyC_ne_tlyA d k 8 4)]
    exact stat
  induction fuel generalizing n k s with
  | zero => exact h
  | succ m ih =>
    unfold State.tlyAdd
    extract_lets v written
    split
    · next chained =>
      have ne : k ≠ c := fun e => by
        subst e
        rw [chain] at chained
        cases chained
      have put := other k (v % 2 ^ 48) s (by omega) ne h
      split
      · exact put
      · refine ih _ _ (by omega) ?_ put
        unfold written State.tlyPut
        rw [State.flag_put_ne _ _ _ _ _ (tlyC_ne_offset d k d c (by decide) (by decide) (by decide)),
          State.flag_wr_ne _ _ _ (tlyC_ne_offset d k d c (by decide) (by decide) (by decide))]
        exact chain
    · by_cases e : k = c
      · subst e
        split
        · exact State.tlySaturate_topped s d k h
        · next low =>
          intro sat
          rw [State.tlyPut_sat] at sat
          exact absurd (Nat.le_trans (Nat.le_of_eq (h sat).1.symm) (Nat.le_add_right ..)) low
      · split
        · unfold State.tlySaturate
          split
          · exact h
          · have put := other k tlyTop s (by omega) e h
            have kept : ∀ p < 0x20, (((s.tlyPut d k tlyTop).put (tlyC d k 0xC) 31 31 1).event (tlyA 4) 3 (tlyA 0xC)).rd
                (tlyC d c p) = (s.tlyPut d k tlyTop).rd (tlyC d c p) := fun p hp => by
              rw [State.rd_event_ne _ _ (tlyC_ne_tlyA d c p 4).symm (tlyC_ne_tlyA d c p 0xC).symm,
                State.rd_put_ne _ _ _ _ (tlyC_ne_counter hd (by omega) hc (by decide) hp e)]
            exact put.congr (kept 8 (by decide)) (kept 0xC (by decide))
              (fun _ => State.flag_event _ (by decide) (by decide))
        · exact other k v s (by omega) e h

theorem State.tlySync_topped {s : State} {d c : Nat} (hd : d < 8) (hc : c < tlyN d)
    (chain : s.flag (tlyC d c 0) 30 = false) (h : s.TlyTopped d c) : (s.tlySync d).TlyTopped d c := by
  have few : tlyN d ≤ 64 := by unfold tlyN; split <;> decide
  have kept := State.tlySync_keeps (P := fun t => t.flag (tlyC d c 0) 30 = false ∧ t.TlyTopped d c)
    (fun a t same k => ⟨(State.flag_congr (State.rd_congr same _) _).trans k.1,
      k.2.congr (State.rd_congr same _) (State.rd_congr same _)
        (fun stat => (State.flag_congr (State.rd_congr same _) _).trans stat)⟩)
    (fun k hk n t j => ⟨(State.flag_congr (State.tlyAdd_cfg ..) _).trans j.1,
      State.tlyAdd_topped hd (by omega) n 64 k (by omega) j.1 j.2⟩) (s := s) ⟨chain, h⟩
  exact kept.2

theorem exec_tallyCounterSaturation {s : State} {die c : Nat} (hd : die < 8) (hc : c < tlyN die)
    (on : s.tlyOn die = true) (counts : s.flag (tlyC die c 0) 31 = true) (chain : s.flag (tlyC die c 0) 30 = false)
    (free : tlyKnown die (s.fld (tlyC die c 0) 7 0) = false) :
    exec (.tallyCounterSaturation die c) s = .next ((s.tlySync die).tlySaturate die c) := by
  refine (guardI_true (by simp [hd, hc])).trans (congrArg Host.Outcome.next ?_)
  refine (if_neg (by rw [on]; decide)).trans (if_pos ?_)
  rw [State.tlySync_cfg, show bits (s.rd (tlyC die c 0)) 7 0 = s.fld (tlyC die c 0) 7 0 from rfl, free,
    show (s.rd (tlyC die c 0)).toNat.testBit 31 = true from counts,
    show (s.rd (tlyC die c 0)).toNat.testBit 30 = false from chain]
  rfl

/-- Settles O35: requests wait in their register until the edge, and a counter with SAT stands at its top. -/
theorem tallyRequests : Obligations.TallyRequests := by
  refine ⟨fun s c m ready h => ?_, fun s asked => State.tlyEdge_stat asked,
    fun s die c hd hc on counts chain free => ⟨_, exec_tallyCounterSaturation hd hc on counts chain free,
      State.tlySaturate_sat .., fun fresh => ?_⟩⟩
  · have request : exec c s = .next (s.tlyReq m) ∧ m % 16 ≠ 0 ∧ m < 16 := by
      simp only [List.mem_cons, Prod.mk.injEq, List.not_mem_nil, or_false] at h
      obtain ⟨rfl, rfl⟩ | ⟨rfl, rfl⟩ | ⟨rfl, rfl⟩ | ⟨rfl, rfl⟩ := h <;> exact ⟨rfl, by decide, by decide⟩
    obtain ⟨run, some, small⟩ := request
    exact ⟨_, run, State.tlyReq_asked ready some small⟩
  · have unset : s.TlyTopped die c := fun sat => by rw [fresh] at sat; cases sat
    exact State.tlySaturate_topped _ _ _ (State.tlySync_topped hd hc chain unset) (State.tlySaturate_sat ..)

end Sys2Proof.Machine

/-!
Registers that the short commands leave alone (95_what_each_step_holds.md; 15_registers_and_transactions.md: R343).
-/

namespace Sys2Proof.Machine

open Sys2Proof

/-! ### Changing no register outside a list -/

/-- From `s` to `t` no register outside `l` changes. -/
structure State.Only (s : State) (l : List Nat) (t : State) : Prop where
  rd : ∀ a, a ∉ l → t.rd a = s.rd a

section Only

variable {s t u : State} {l : List Nat}

theorem State.Only.refl (s : State) (l : List Nat) : s.Only l s := ⟨fun _ _ => rfl⟩

theorem State.Only.trans (h : s.Only l t) (k : t.Only l u) : s.Only l u := ⟨fun a ha => (k.rd a ha).trans (h.rd a ha)⟩

theorem State.Only.regs (h : s.Only l t) (e : u.regs = t.regs) : s.Only l u :=
  ⟨fun a ha => (State.rd_congr e a).trans (h.rd a ha)⟩

theorem State.Only.ite {c : Prop} [Decidable c] (h : c → s.Only l t) (k : ¬c → s.Only l u) :
    s.Only l (if c then t else u) := by
  split
  · next hc => exact h hc
  · next hc => exact k hc

theorem State.Only.wr (h : s.Only l t) {b : Nat} (hb : b ∈ l) (v : Word) : s.Only l (t.wr b v) :=
  h.trans ⟨fun _ ha => State.rd_wr_ne _ _ fun e => ha (e ▸ hb)⟩

theorem State.Only.put (h : s.Only l t) {b : Nat} (hb : b ∈ l) (hi lo v : Nat) : s.Only l (t.put b hi lo v) :=
  h.trans ⟨fun _ ha => State.rd_put_ne _ _ _ _ fun e => ha (e ▸ hb)⟩

theorem State.Only.event (h : s.Only l t) {b c : Nat} (hb : b ∈ l) (hc : c ∈ l) (i : Nat) : s.Only l (t.event b i c) :=
  h.trans ⟨fun _ ha => State.rd_event_ne _ _ (fun e => ha (e ▸ hb)) fun e => ha (e ▸ hc)⟩

/-- What happens at a time of the reference, behind the end of a slewing. -/
theorem State.Only.atRef {due : Nat} {f : State → State} (hl : timA 0x88 ∈ l) (hf : ∀ u : State, u.Only l (f u)) :
    s.Only l (s.atRef due f) := by
  unfold State.atRef
  split
  · next u reached =>
    refine State.Only.trans ⟨fun a ha => ?_⟩ (hf u)
    unfold State.reachRef at reached
    split at reached
    · cases reached
      rfl
    · dsimp only at reached
      split at reached
      · cases reached
        exact (State.pass_later ..).rd a fun e => ha (e ▸ hl)
      · cases reached
  · exact State.Only.refl s l

/-- A command that answers `u`. -/
theorem State.Only.next (k : s.Only l u) (h : (Host.Outcome.next u : Host.Outcome State Fault Refusal) = .next t) :
    s.Only l t := by
  cases h
  exact k

/-- A guarded command. -/
theorem State.Only.guard {c : Bool} (k : s.Only l u) (h : guardI c u = .next t) : s.Only l t := by
  unfold guardI at h
  split at h
  · exact k.next h
  · cases h

end Only

/-! ### The commands' parts -/

section Parts

variable (s : State)

theorem State.tlyReq_only (m : Nat) : s.Only [tlyA 0, tlyA 4] (s.tlyReq m) :=
  .ite (fun _ => .refl ..) (fun _ => ((State.Only.refl ..).put (by simp) ..).put (by simp) ..)

theorem State.setCanState_only (c n : Nat) {l : List Nat} (h : canA c 0x40 ∈ l) : s.Only l (s.setCanState c n) :=
  (State.Only.refl ..).put h ..

theorem State.putRec_only (x : BootRec) {l : List Nat} (h : mgtA 0x28 ∈ l) : s.Only l (s.putRec x) := by
  unfold State.putRec
  extract_lets y intoA src u count
  have stored : s.Only l u := (State.Only.refl s l).regs rfl
  exact (stored.put h ..).put h ..

theorem State.markClear_only (step unit : Nat) {l : List Nat} (h : mgtA 0x28 ∈ l) : s.Only l (s.markClear step unit) :=
  .ite (fun _ => .refl ..) (fun _ => s.putRec_only _ h)

theorem State.retraining_only (k : Nat) {l : List Nat} (stat : lnkA k 4 ∈ l) (count : lnkA k 0x1C ∈ l)
    (fab : fabA 8 ∈ l) : s.Only l (s.retraining k) := by
  have shown : s.Only l (s.setLinkState k 4) := by
    unfold State.setLinkState State.fabShow
    exact (((State.Only.refl s l).put stat ..).regs (State.setLnk_regs ..)).put fab ..
  exact shown.event stat count 1

theorem State.pulseEdge_only (g ch v : Nat) (p : Pulse) {l : List Nat} (h : ssoA g 0xC ∈ l) :
    s.Only l (s.pulseEdge g ch v p) := ((State.Only.refl s l).put h ..).regs (State.pulseEdge_regs ..)

/-- The two words of the corrected count, and the codewords. -/
theorem State.fecCount_only (k : Nat) (corrected : List Nat) (codewords : Nat) :
    s.Only [lnkA k 0xC, lnkA k 0x10, lnkA k 0x14] (s.fecCount k corrected codewords) := by
  have high : lnkA k 0xC + 4 = lnkA k 0x10 := by unfold lnkA; omega
  unfold State.fecCount State.count64 State.wr64
  rw [high]
  exact (((State.Only.refl ..).wr (by simp) _).wr (by simp) _).wr (by simp) _

theorem State.crcFail_regs (k : Nat) : (s.crcFail k).regs = s.regs := rfl

theorem State.w1cWrite_only (a val set : Nat) : s.Only [a, a + 8, a + 0x18] (s.w1cWrite a val set) := by
  unfold State.w1cWrite
  split
  · exact .refl ..
  · refine .ite (fun _ => .refl ..) (fun _ => ?_)
    extract_lets old m cleared
    have written : s.Only [a, a + 8, a + 0x18] cleared := (State.Only.refl ..).wr (by simp) _
    refine .ite (fun _ => .ite (fun _ => written.put (by simp) ..) (fun _ => written)) (fun _ => ?_)
    refine .ite (fun _ => .ite (fun _ => written.put (by simp) ..) (fun _ => written)) (fun _ => ?_)
    exact .ite (fun _ => written.regs rfl) (fun _ => written)

end Parts

/-- Settles O3: each command's writes, one by one. -/
theorem registersKept : Obligations.RegistersKept := by
  intro s t keeps
  refine ⟨fun c hc h => State.Only.rd ?_, fun g w h => State.Only.rd ?_, fun h => State.Only.rd ?_,
    fun c h => State.Only.rd ?_, fun c h => State.Only.rd ?_, fun v h => State.Only.rd ?_, fun v h => State.Only.rd ?_,
    fun h => State.Only.rd ?_, fun p h => State.Only.rd ?_, fun p h => State.Only.rd ?_, fun p q v h => State.Only.rd ?_,
    fun k h => State.Only.rd ?_, fun k h => State.Only.rd ?_, fun k q c n h => State.Only.rd ?_,
    fun g ch h => State.Only.rd ?_, fun g ch h => State.Only.rd ?_, fun a v w h => State.Only.rd ?_⟩
  case refine_1 =>
    simp only [List.mem_cons, List.not_mem_nil, or_false] at hc
    obtain rfl | rfl | rfl | rfl := hc
    · exact (s.tlyReq_only 1).next h
    · exact (s.tlyReq_only 2).next h
    · exact (s.tlyReq_only 4).next h
    · exact (s.tlyReq_only 8).next h
  case refine_2 =>
    exact State.Only.next (.ite (fun _ => .refl ..) (fun _ => (State.Only.refl ..).put (by simp) ..)) h
  case refine_3 => exact ((State.Only.refl ..).put (by simp) ..).next h
  case refine_4 =>
    exact State.Only.guard (.ite (fun _ => .ite (fun _ => s.setCanState_only c 5 (by simp)) (fun _ => .refl ..))
      (fun _ => .refl ..)) h
  case refine_5 =>
    refine State.Only.guard (.ite (fun _ => ?_) (fun _ => .refl ..)) h
    exact ((State.Only.refl s _).put (by simp) ..).trans (State.setCanState_only _ c 1 (by simp))
  case refine_6 =>
    exact State.Only.next (.ite (fun _ => (State.Only.refl ..).put (by simp) ..) (fun _ => .refl ..)) h
  case refine_7 =>
    exact State.Only.next (.ite (fun _ => (State.Only.refl ..).put (by simp) ..) (fun _ => .refl ..)) h
  case refine_8 =>
    exact State.Only.next (.ite (fun _ => s.putRec_only _ (by simp)) (fun _ => .refl ..)) h
  case refine_9 =>
    exact State.Only.guard (.ite (fun _ => ((State.Only.refl ..).put (by simp) ..).event (by simp) (by simp) 1)
      (fun _ => .refl ..)) h
  case refine_10 =>
    refine State.Only.guard (.ite (fun _ => ?_) (fun _ => .refl ..)) h
    exact ((State.Only.refl s _).put (by simp) ..).trans (State.markClear_only _ 12 p (by simp))
  case refine_11 =>
    refine State.Only.guard ?_ h
    split
    · exact .ite (fun _ => ((State.Only.refl s _).regs (State.setEp_regs ..)).wr (by simp) _) (fun _ => .refl ..)
    · exact .refl ..
  case refine_12 =>
    refine State.Only.guard (.ite (fun _ => ?_) (fun _ => .refl ..)) h
    have asked : s.Only [lnkA k 0, lnkA k 4, lnkA k 0x1C, fabA 8] (s.raise (lnkA k 0) 1) :=
      (State.Only.refl s _).put (by simp) ..
    exact asked.trans (State.retraining_only _ k (by simp) (by simp) (by simp))
  case refine_13 =>
    exact State.Only.guard (.ite (fun _ => .atRef (by simp) (fun u => u.retraining_only k (by simp) (by simp) (by simp)))
      (fun _ => .refl ..)) h
  case refine_14 =>
    exact State.Only.guard (.ite (fun _ => (s.fecCount_only k c n).regs (State.crcFail_regs ..)) (fun _ => .refl ..)) h
  case refine_15 =>
    exact State.Only.guard (.ite (fun _ => .refl ..) (fun _ => .atRef (by simp)
      (fun u => u.pulseEdge_only g ch 0 _ (by simp)))) h
  case refine_16 =>
    exact State.Only.guard (.ite (fun _ => .refl ..) (fun _ => .atRef (by simp)
      (fun u => u.pulseEdge_only g ch 1 _ (by simp)))) h
  case refine_17 => exact (s.w1cWrite_only a _ _).next h

end Sys2Proof.Machine

/-!
Hot reset and function-level reset (14_host_rings.md: R325; 16_boot_and_firmware.md: R357).
-/

namespace Sys2Proof.Machine

open Sys2Proof

/-! ### What keeps the rings' settings and the link -/

/-- From `s` to `t` every ring's settings and the link's state are the same. -/
structure State.HifKept (s t : State) : Prop where
  cfg : ∀ r, t.rd (ringA r 0x10) = s.rd (ringA r 0x10)
  link : t.rd (hifA 0) = s.rd (hifA 0)

theorem State.HifKept.refl (s : State) : s.HifKept s := ⟨fun _ => rfl, rfl⟩

theorem State.HifKept.trans {s t u : State} (h : s.HifKept t) (k : t.HifKept u) : s.HifKept u :=
  ⟨fun r => (k.cfg r).trans (h.cfg r), k.link.trans h.link⟩

theorem Frame.hifKept {m : Nat} {s t : State} (f : Frame m s t) (h : touches m 41 = false) : s.HifKept t :=
  ⟨fun r => f.blk _ (touches_ring h r 0x10), f.blk _ (touches_hif h 0)⟩

theorem State.HifKept.ite {s t u : State} {c : Prop} [Decidable c] (h : s.HifKept t) (k : s.HifKept u) :
    s.HifKept (if c then t else u) := by
  split
  · exact h
  · exact k

theorem State.HifKept.foldl {α : Type} {f : State → α → State} (hf : ∀ (u : State) (x : α), u.HifKept (f u x)) (l : List α) (s : State) :
    s.HifKept (l.foldl f s) := foldl_keep (State.HifKept.refl s) (fun _ _ _ h => h.trans (hf ..))

theorem State.hostData_hifKept (s : State) (addr : Nat) (b : Bytes) : s.HifKept (s.hostData addr b) :=
  ⟨fun _ => State.hostData_rd _ _ _ (hifA_ne_ringA _ _ _) (hifA_ne_ringA _ _ _),
    State.hostData_rd _ _ _ (by decide) (by decide)⟩

theorem ringA_ne_link (r o : Nat) : ringA r o ≠ hifA 0 := (hifA_ne_ringA 0 r o).symm

theorem State.completeAt_hifKept (s : State) (r n : Nat) (st : Status) (result info time : Nat) :
    s.HifKept (s.completeAt r n st result info time) :=
  ⟨fun q => s.completeAt_rd r n st _ _ _ (Nat.lt_trans (ringA_lt q 0x10) (by decide))
      (ringA_ne r q (by decide) (by decide) (by decide)) (hifA_ne_ringA _ _ _) (hifA_ne_ringA _ _ _),
    s.completeAt_rd r n st _ _ _ (by decide) (ringA_ne_link r 0x20) (by decide) (by decide)⟩

theorem State.emitHost_hifKept (s : State) (o : Out) : s.HifKept (s.emitHost o) := by
  unfold State.emitHost
  split
  · exact ⟨fun _ => rfl, rfl⟩
  · exact ⟨fun _ => State.rd_event_ne _ _ (hifA_ne_ringA _ _ _) (hifA_ne_ringA _ _ _),
      State.rd_event_ne _ _ (by decide) (by decide)⟩

theorem State.writeEntry_hifKept (s : State) (r tag op : Nat) (st : Status) (ev sig : Bool) (result info time : Nat) :
    s.HifKept (s.writeEntry r tag op st ev sig result info time) := by
  unfold State.writeEntry
  extract_lets cnt phase lost flags v out counted old held
  have entered : s.HifKept (out.wr (ringA r 0x20) (BitVec.ofNat 32 (cnt + 1))) :=
    (State.emitHost_hifKept ..).trans
      ⟨fun q => State.rd_wr_ne _ _ (ringA_ne r q (by decide) (by decide) (by decide)),
        State.rd_wr_ne _ _ (ringA_ne_link r 0x20)⟩
  have kept : s.HifKept held :=
    (entered.trans ((State.tally_frame ..).hifKept rfl)).trans ((State.setRing_frame ..).hifKept rfl)
  split
  · exact ⟨kept.cfg, kept.link⟩
  · exact kept

/-! ### The end of a job -/

theorem State.hostOutputs_hifKept (s : State) (j : Job) : s.HifKept (s.hostOutputs j) := by
  unfold State.hostOutputs
  exact .ite (.refl s) (.foldl (fun _ _ => State.hostData_hifKept ..) _ s)

theorem State.statusOut_hifKept (s : State) (j : Job) : s.HifKept (s.statusOut j) := by
  unfold State.statusOut
  exact .ite (.refl s) (State.hostData_hifKept ..)

theorem State.statsOut_hifKept (s : State) (j : Job) (part : Bool) : s.HifKept (s.statsOut j part) := by
  unfold State.statsOut
  split
  · exact .refl s
  · extract_lets ts
    refine .foldl (fun u i => ?_) _ s
    exact ((State.hostData_hifKept ..).trans (State.hostData_hifKept ..)).trans (State.hostData_hifKept ..)

theorem State.jobEntry_hifKept (s : State) (j : Job) (st : Status) : s.HifKept (s.jobEntry j st) := by
  unfold State.jobEntry
  extract_lets result e logged ringed
  have digest : s.HifKept logged := (State.digest_frame ..).hifKept rfl
  refine .ite digest (.ite ?_ (digest.trans (State.completeAt_hifKept ..)))
  exact (digest.trans ((State.setRing_frame ..).hifKept rfl)).trans (State.writeEntry_hifKept ..)

/-- What a job's end does in front of freeing what it held. -/
theorem State.jobEnd_hifKept (s : State) (id : Nat) (st : Status) : s.HifKept (s.jobEnd id st) := by
  unfold State.jobEnd
  split
  · exact .refl s
  · next j _ =>
    extract_lets ok captured outputs segs status stats done counted outcome lost freed entered
    have h1 : s.HifKept captured := .ite (.refl s) ((State.capture_frame ..).hifKept rfl)
    have h2 : captured.HifKept outputs :=
      .ite ((State.hostOutputs_hifKept ..).trans ((State.tensorDigests_frame ..).hifKept rfl)) (.refl _)
    have h3 : outputs.HifKept segs := .ite ((State.digest_frame ..).hifKept rfl) (.refl _)
    have h4 : segs.HifKept status := .ite (State.statusOut_hifKept ..) (.refl _)
    have h5 : status.HifKept stats := .ite (.refl _) (State.statsOut_hifKept ..)
    have h6 : stats.HifKept done := .ite ((State.sendDone_frame ..).hifKept rfl) (.refl _)
    have h7 : done.HifKept counted := (State.endCount_frame ..).hifKept rfl
    have h8 : counted.HifKept outcome := .ite ((State.outcome_frame ..).hifKept rfl) (.refl _)
    have h9 : outcome.HifKept lost :=
      .ite (.foldl (fun _ _ => (State.axisLost_frame ..).hifKept rfl) _ _) (.refl _)
    have h10 : lost.HifKept freed := (State.jobFree_frame ..).hifKept rfl
    have h11 : freed.HifKept entered := State.jobEntry_hifKept ..
    exact (((((h1.trans h2).trans h3).trans h4).trans h5).trans h6).trans <|
      (((((h7.trans h8).trans h9).trans h10).trans h11).trans (.foldl (fun _ _ => State.completeAt_hifKept ..) _ _))

theorem State.endSoon_hifKept (s : State) (id : Nat) (st : Status) : s.HifKept (s.endSoon id st) := by
  unfold State.endSoon
  split
  · exact .refl s
  · exact .ite (.refl s) (.ite ((State.updJob_frame ..).hifKept rfl) (State.jobEnd_hifKept ..))

/-! ### The reset -/

/-- The link state's register resets to a link that is down. -/
theorem resetAt_link : bits (resetAt (hifA 0)) 3 0 = 0 := by decide

/-- Every job is cancelled. -/
def State.cancelJobs (s : State) : State :=
  s.jobs.foldl (fun s j => (s.report j .jobCancelled).endSoon j.id .jobCancelled) s

theorem State.cancelJobs_hifKept (s : State) : s.HifKept s.cancelJobs :=
  .foldl (fun _ _ => ((State.report_frame ..).hifKept rfl).trans (State.endSoon_hifKept ..)) _ s

/-- The registers of the host interface but its counters take their reset values. -/
def State.hifCleared (s : State) : State :=
  { s with regs := s.regs.filter (fun e => !(0x100000 ≤ e.1 && e.1 < 0x200000 && !hifCounter e.1)) }

theorem State.hifCleared_rd (s : State) {a : Nat} (low : 0x100000 ≤ a) (high : a < 0x200000)
    (state : hifCounter a = false) : s.hifCleared.rd a = resetAt a :=
  tget_filter_of_dropped _ (fun _ => by simp [low, high, state])

/-- The rings' registers and, where the link goes down, its state. -/
def State.hifFresh (s : State) (link : Bool) : State :=
  if link then s.ringsGone.hifCleared else s.ringsGone.hifCleared.wr (hifA 0) (s.rd (hifA 0))

/-- An open transaction ends and COMMITTING with it. -/
def State.cfgAbandon (s : State) : State := if s.cfgOpen then s.cfgClose.put 0x100 1 1 0 else s

/-- The last ring and the driver are forgotten. -/
def State.driverGone (s : State) : State :=
  ({ s with cfg := { s.cfg with timedOut := none }, hm := { s.hm with drvWritten := none } } : State).wr (mgtA 0x1C) 0

theorem State.hostReset_eq {s : State} (ready : s.isReady = true) (link : Bool) : s.hostReset link =
    (s.hifFresh link).cycEmpty.cancelJobs.pkgsGone.cfgAbandon.driverGone := by
  unfold State.hostReset
  rw [if_neg (by rw [ready]; decide)]
  rfl

theorem ringA_ge (r o : Nat) : 0x180000 ≤ ringA r o := by unfold ringA; omega

theorem hifCounter_ringCfg (r : Nat) : hifCounter (ringA r 0x10) = false := by
  have low := ringA_ge r 0x10
  have place : ringA r 0x10 % 0x40 = 0x10 := by unfold ringA; omega
  unfold hifCounter
  rw [place]
  simp
  omega

theorem State.hifFresh_cfg (s : State) (link : Bool) (r : Nat) :
    ((s.hifFresh link).rd (ringA r 0x10)).toNat.testBit 31 = false := by
  have cleared : s.ringsGone.hifCleared.rd (ringA r 0x10) = resetAt (ringA r 0x10) :=
    s.ringsGone.hifCleared_rd (Nat.le_trans (by decide) (ringA_ge r 0x10)) (ringA_lt r 0x10) (hifCounter_ringCfg r)
  have off : (resetAt (ringA r 0x10)).toNat.testBit 31 = false :=
    resetAt_hif (Nat.le_trans (by decide) (ringA_ge r 0x10)) (ringA_lt r 0x10)
  unfold State.hifFresh
  split
  · rw [cleared, off]
  · rw [State.rd_wr_ne _ _ (hifA_ne_ringA 0 r 0x10), cleared, off]

theorem State.hifFresh_link (s : State) : (s.hifFresh true).rd (hifA 0) = resetAt (hifA 0) :=
  s.ringsGone.hifCleared_rd (by decide) (by decide) (by decide)

theorem State.hifFresh_linkKept (s : State) : (s.hifFresh false).rd (hifA 0) = s.rd (hifA 0) := State.rd_wr_self ..

theorem State.cfgAbandon_frame (s : State) : Frame 0x50000100100 s s.cfgAbandon := by
  unfold State.cfgAbandon
  split
  · exact (State.cfgClose_frame s).trans (State.put_frame rfl rfl ..)
  · exact Frame.refl _ _

theorem State.cfgAbandon_closed (s : State) : s.cfgAbandon.cfgOpen = false := by
  unfold State.cfgAbandon
  split
  · exact (State.flag_put_beside _ _ _ (by decide) (by decide) (by decide)).trans s.cfgClose_cfgOpen
  · next closed => exact Bool.eq_false_iff.mpr closed

theorem State.driverGone_frame (s : State) : Frame 0x4000000108100 s s.driverGone := by
  refine Frame.trans (t := { s with cfg := { s.cfg with timedOut := none }, hm := { s.hm with drvWritten := none } }) ?_
    (State.wr_frame rfl (tb_mgtA rfl) ..)
  apply Frame.upd (Frame.refl _ _)
  all_goals first | exact Or.inr rfl | exact Or.inl rfl | exact Or.inl (Nat.le_refl _) | rfl

theorem State.driverGone_drvAccepted (s : State) : s.driverGone.drvAccepted = false := by
  unfold State.drvAccepted State.flag State.driverGone
  rw [State.rd_wr_self]
  exact Nat.zero_testBit 0

/-- Everything behind the first step of a host reset. -/
theorem State.hostReset_hifKept {s : State} (ready : s.isReady = true) (link : Bool) :
    (s.hifFresh link).HifKept (s.hostReset link) := by
  rw [State.hostReset_eq ready]
  exact ((State.cycEmpty_frame ..).hifKept rfl).trans <| (State.cancelJobs_hifKept _).trans <|
    ((State.pkgsGone_frame ..).hifKept rfl).trans <| ((State.cfgAbandon_frame ..).hifKept rfl).trans <|
      (State.driverGone_frame ..).hifKept rfl

theorem State.pkgsGone_pkgs (s : State) : s.pkgsGone.comp.pkgs = [] := by
  unfold State.pkgsGone
  extract_lets dropped homes emptied
  rw [(State.dirtyAdd_frame ..).pkgs rfl]
  exact foldl_keep (q := fun t => t.comp.pkgs = []) rfl (fun _ _ _ h => ((State.kvIdle_frame ..).pkgs rfl).trans h)

/-- What both host resets leave. -/
theorem State.hostReset_gone {s : State} (ready : s.isReady = true) (link : Bool) :
    (∀ r < 8192, (s.hostReset link).ringOn r = false) ∧ (s.hostReset link).drvAccepted = false ∧
      (s.hostReset link).cfgOpen = false ∧ (s.hostReset link).comp.pkgs = [] := by
  refine ⟨fun r _ => ?_, ?_, ?_, ?_⟩
  · unfold State.ringOn State.flag
    rw [(State.hostReset_hifKept ready link).cfg r, State.hifFresh_cfg]
  all_goals rw [State.hostReset_eq ready]
  · exact State.driverGone_drvAccepted _
  · exact (State.flag_congr ((State.driverGone_frame _).glb rfl (by decide)) 0).trans (State.cfgAbandon_closed _)
  · exact (((State.driverGone_frame _).pkgs rfl).trans ((State.cfgAbandon_frame _).pkgs rfl)).trans
      (State.pkgsGone_pkgs _)

/-- Settles O30: what follows the clearing of the rings' registers writes neither their settings nor the link's
state. -/
theorem hostResets : Obligations.HostResets := by
  intro s ready
  refine ⟨⟨_, rfl, State.hostReset_gone ready true, ?_⟩, ⟨_, rfl, State.hostReset_gone ready false, ?_⟩⟩
  · unfold State.linkUp State.fld
    rw [(State.hostReset_hifKept ready true).link, State.hifFresh_link, resetAt_link]
    rfl
  · exact State.linkUp_congr ((State.hostReset_hifKept ready false).link.trans (State.hifFresh_linkKept s))

end Sys2Proof.Machine

/-!
Resets, boot and traps (16_boot_and_firmware.md: R355, R358, R359, R364, R367, R368; 19_package_power_cooling.md: R414).
-/

namespace Sys2Proof.Machine

open Sys2Proof

/-! ### The boot record under way -/

theorem foldl_same {α β γ : Type} {f : β → α → β} {g : β → γ} (h : ∀ b a, g (f b a) = g b) (l : List α) (b : β) :
    g (l.foldl f b) = g b := by
  induction l generalizing b with
  | nil => rfl
  | cons x l ih => exact (ih _).trans (h b x)

/-- The boot's number. -/
def Booting.count (x : Booting) : Nat := x.rec_.bootCount

theorem bootEntry_count (x : Booting) (r : StepResult) (o m d : Nat) : (bootEntry x r o m d).count = x.count := rfl

theorem bootInst_count (l : List StepResult) (step d u detail : Nat) (x : Booting) :
    (bootInst l step d u detail x).count = x.count := by
  unfold bootInst
  extract_lets r alt
  split
  · rfl
  · split
    · rfl
    · split
      · rfl
      · split <;> rfl

theorem bootStep_count (l : List StepResult) (tests : List SelfTest) (dies : List Nat) (x : Booting) (step : Nat) :
    (bootStep l tests dies x step).count = x.count := by
  unfold bootStep
  split
  · rfl
  · exact foldl_same (g := Booting.count) (fun _ _ => foldl_same (g := Booting.count) (fun _ _ => bootInst_count ..) _ _) _ _

theorem bootOpt_count (l : List StepResult) (step : Nat) (x : Booting) (u : Nat) :
    (bootOpt l step x u).count = x.count := by
  unfold bootOpt
  extract_lets r
  split
  · rfl
  · split <;> rfl

/-! ### How a boot ends -/

/-- The boot status register: the step stands in its bits 19 to 16. -/
theorem bootStat_step (status cause slot flags : Nat) {step : Nat} (h : step < 16) (low : slot * 2 + flags < 2 ^ 16) :
    bits (BitVec.ofNat 32 (status * 2 ^ 24 + cause * 2 ^ 20 + step * 2 ^ 16 + slot * 2 + flags)) 19 16 = step := by
  unfold bits
  rw [BitVec.toNat_ofNat]
  omega

section Show

variable (s : State) (status slot flags count : Nat)

theorem State.bootShow_step {step : Nat} (h : step < 16) (low : slot * 2 + flags < 2 ^ 16) :
    (s.bootShow status step slot flags count).fld (mgtA 0) 19 16 = step := by
  unfold State.bootShow
  rw [State.fld_congr (State.rd_wr_ne _ _ (by decide))]
  unfold State.fld
  rw [State.rd_wr_self]
  exact bootStat_step _ _ _ _ h low

theorem State.bootShow_flash (step : Nat) : (s.bootShow status step slot flags count).flash = s.flash := by
  unfold State.bootShow
  rw [State.wr_flash, State.wr_flash]

theorem State.bootShow_clk (step : Nat) : (s.bootShow status step slot flags count).clk = s.clk := by
  unfold State.bootShow
  rw [State.wr_clk, State.wr_clk]

theorem State.bootShow_hm (step : Nat) : (s.bootShow status step slot flags count).hm = s.hm := by
  unfold State.bootShow
  rw [State.wr_hm, State.wr_hm]

end Show

/-- After boot number `n`: the record counts it, and a package that is ready runs from time 0 after step 13. -/
structure State.Booted (t : State) (n : Nat) : Prop where
  count : t.bootRec.bootCount = n
  ready : t.hm.phase = .ready → t.clk.live = true ∧ t.clk.t = 0 ∧ t.clk.tick = 0 ∧ t.fld (mgtA 0) 19 16 = 13

/-! Recovery (R364) -/

section Recover

variable (s : State) (x : Booting) (step pref : Nat) (st : Status)

theorem State.recover_phase : (s.recover x step pref st).hm.phase = .recovery := by
  unfold State.recover
  extract_lets recorded entered
  rw [State.bootShow_hm]

theorem State.recover_booted : (s.recover x step pref st).Booted x.count where
  count := by
    unfold State.recover
    extract_lets recorded entered
    rw [State.bootRec_congr (State.bootShow_flash ..)]
    show (s.putRec x.rec_).bootRec.bootCount = x.count
    rw [State.putRec_bootRec]
    rfl
  ready := fun h => by
    rw [State.recover_phase] at h
    cases h

theorem State.recover_step (h : step < 16) (small : pref < 2) : (s.recover x step pref st).fld (mgtA 0) 19 16 = step :=
  State.bootShow_step _ _ _ _ _ h (by omega)

end Recover

/-! A self-reset (R359) -/

theorem State.selfReset_booted (s : State) : s.selfReset.Booted s.bootRec.bootCount where
  count := by
    obtain ⟨c, e⟩ := s.logFlush.packageReset_bootRec 4 .reset
    show (s.logFlush.packageReset 4 .reset).bootRec.bootCount = s.bootRec.bootCount
    rw [e]
    rfl
  ready := fun h => by
    have reset : s.selfReset.hm.phase = .reset := State.packageReset_phase s.logFlush 4 .reset
    rw [reset] at h
    cases h

theorem State.selfReset_putRec (s : State) (x : Booting) : (s.putRec x.rec_).selfReset.Booted x.count := by
  have booted := (s.putRec x.rec_).selfReset_booted
  rw [State.putRec_bootRec] at booted
  exact booted

/-! Release (R15, R358) -/

/-- What a release shows and releases in front of step 13's end, once the record is written. -/
def State.released (s : State) (x : Booting) (tests : List SelfTest) (slot : Nat) : State :=
  let dies := List.range s.fuses.cdCount
  let live := dies.filter (fun d => !x.out.any (fun o => o.1 == d))
  let h := s.slotBytes slot 0 8192
  let s := s.putRec x.rec_
  let s := (s.railsUp dies x).vmonShow dies x
  let s := (dies.foldl (fun s d => s.dieShow x d) s).bump
  let s := s.put 4 14 8 (live.foldl setBitN 0)
  let s := live.foldl (fun s d =>
    let s := s.put (eccA d 0) 8 8 1
    let s := (List.range 17).foldl (fun s k =>
      let c := testedCore tests d k
      s.selfTest ⟨d, k, c.failed, c.unitFailed⟩ false) s
    s.coreMap d) s
  let s := (List.range 12).foldl (fun s k =>
    if (x.rec_.entry 11 k).outcome = 4 then s else (s.put (lnkA k 0) 0 0 1).setLinkState k 1) s
  let s := (List.range 4).foldl (fun s p => s.wr64 (ethA p 0x10) (Config.stationAddress p % 2 ^ 48)) s
  let s := (s.wr (mgtA 8) (BitVec.ofNat 32 (le h 8 4))).wr (mgtA 0xC) (BitVec.ofNat 32 (s.fuses.svn % 256 * 2 ^ 8 + le h 12 4 % 256))
  (s.wr (mgtA 0x10) (BitVec.ofNat 32 (le h 16 4))).wr (mgtA 0x14) (BitVec.ofNat 32 (le h 20 4))

/-- The tick unit starts on local time with the booted image, READY. -/
def State.started (s : State) (h : Bytes) : State :=
  { s with
    clk := { Clk.init with ref := s.clk.ref, live := true }
    hm := { s.hm with phase := .ready, image := some h } }

theorem State.started_flash (s : State) (h : Bytes) : (s.started h).flash = s.flash := rfl

theorem State.started_clk (s : State) (h : Bytes) :
    (s.started h).clk = { Clk.init with ref := s.clk.ref, live := true } := rfl

/-- A driver version written before READY is checked. -/
def State.drvPending (s : State) : State :=
  match s.hm.drvWritten with
  | some v => s.drvCheck v
  | none => s

theorem State.release_eq (s : State) (x : Booting) (tests : List SelfTest) (slot : Nat) :
    s.release x tests slot =
      ((((s.released (bootEntry x (stepRes [] 13 0) 2 0 0) tests slot).started (s.slotBytes slot 0 8192)).bootShow 0 13 slot
        1 x.count).bootLog (bootEntry x (stepRes [] 13 0) 2 0 0) slot).drvPending := rfl

/-- What follows the record leaves it. -/
theorem State.released_frame (s : State) (x : Booting) (tests : List SelfTest) (slot : Nat) :
    Frame 0x104c1004110801c (s.putRec x.rec_) (s.released x tests slot) := by
  unfold State.released
  extract_lets dies live h recorded railed shown serving tested linked named versioned
  have h1 : Frame 0x104c1004110801c recorded railed :=
    ((State.railsUp_frame ..).mono rfl).step (State.vmonShow_frame ..) rfl
  have h2 : Frame 0x104c1004110801c railed shown :=
    (Frame.foldl (Frame.refl _ _) (fun _ _ k => k.step (State.dieShow_frame ..) rfl)).step (State.bump_frame _) rfl
  have h3 : Frame 0x104c1004110801c shown serving := State.put_frame rfl rfl ..
  have h4 : Frame 0x104c1004110801c serving tested := Frame.foldl (Frame.refl _ _) (fun u d k =>
    ((k.trans (State.put_frame rfl (tb_eccA rfl) ..)).trans
      (Frame.foldl (Frame.refl _ _) (fun _ _ j => j.step (State.selfTest_frame ..) rfl))).step (State.coreMap_frame ..) rfl)
  have h5 : Frame 0x104c1004110801c tested linked := Frame.foldl (Frame.refl _ _) (fun u d k =>
    Frame.ite (fun _ => k) (fun _ => (k.trans (State.put_frame rfl (tb_lnkA rfl) ..)).step (State.setLinkState_frame ..) rfl))
  have h6 : Frame 0x104c1004110801c linked named := Frame.foldl (Frame.refl _ _) (fun _ _ k =>
    k.trans (State.wr64_frame rfl (tb_ethA rfl) (tb 6 (by unfold ethA; omega) (by unfold ethA; omega) (by omega) rfl) ..))
  have h7 : Frame 0x104c1004110801c named versioned :=
    (State.wr_frame rfl (tb_mgtA rfl) ..).trans (State.wr_frame rfl (tb_mgtA rfl) ..)
  exact (h1.trans (h2.trans (h3.trans (h4.trans (h5.trans (h6.trans h7)))))).trans
    ((State.wr_frame rfl (tb_mgtA rfl) ..).trans (State.wr_frame rfl (tb_mgtA rfl) ..))

theorem State.drvPending_frame (s : State) : Frame 0x4000000108000 s s.drvPending := by
  unfold State.drvPending
  split
  · exact State.drvCheck_frame ..
  · exact Frame.refl _ _

/-- The driver's check writes no boot status. -/
theorem State.drvPending_stat (s : State) : s.drvPending.rd (mgtA 0) = s.rd (mgtA 0) := by
  unfold State.drvPending
  split
  · unfold State.drvCheck
    extract_lets anyOn ok logged
    have log : logged.rd (mgtA 0) = s.rd (mgtA 0) := (State.hmLog_logged ..).rd 0 (by decide)
    split
    · exact State.rd_count_ne _ (by decide)
    · split
      · exact (State.rd_wr_ne _ _ (by decide)).trans log
      · exact ((State.rd_count_ne _ (by decide)).trans (State.rd_wr_ne _ _ (by decide))).trans log
  · rfl

theorem State.bootLog_logged (s : State) (x : Booting) (slot : Nat) : s.Logged (s.bootLog x slot) :=
  foldl_keep (State.Logged.refl s) (fun _ _ _ h => h.trans (State.hmLog_logged ..))

theorem State.release_booted (s : State) (x : Booting) (tests : List SelfTest) {slot : Nat} (small : slot < 2) :
    (s.release x tests slot).Booted x.count := by
  rw [State.release_eq]
  generalize shown : ((s.released (bootEntry x (stepRes [] 13 0) 2 0 0) tests slot).started
    (s.slotBytes slot 0 8192)).bootShow 0 13 slot 1 x.count = v
  have after : Frame 0x4000000108000 v (v.bootLog (bootEntry x (stepRes [] 13 0) 2 0 0) slot).drvPending :=
    (State.bootLog_frame ..).trans (State.drvPending_frame _)
  refine ⟨?_, fun _ => ?_⟩
  · have kept : v.flash = (s.putRec (bootEntry x (stepRes [] 13 0) 2 0 0).rec_).flash := by
      rw [← shown, State.bootShow_flash, State.started_flash]
      exact (State.released_frame ..).flash rfl
    rw [State.bootRec_congr (after.flash rfl), State.bootRec_congr kept, State.putRec_bootRec]
    rfl
  · have clock : ∃ ref, v.clk = { Clk.init with ref := ref, live := true } :=
      ⟨_, by rw [← shown, State.bootShow_clk, State.started_clk]⟩
    obtain ⟨ref, clock⟩ := clock
    have step : v.fld (mgtA 0) 19 16 = 13 := by
      rw [← shown]
      exact State.bootShow_step _ _ _ _ _ (by decide) (by omega)
    rw [after.clk rfl, clock]
    refine ⟨rfl, rfl, rfl, ?_⟩
    rw [State.fld_congr ((State.drvPending_stat _).trans ((State.bootLog_logged ..).rd 0 (by decide)))]
    exact step

/-! ### Booting (R358, R359) -/

theorem State.logResume_flash (s : State) : s.logResume.flash = s.flash := by
  unfold State.logResume
  split
  · rfl
  · rw [State.wr_flash]

theorem State.slotStatus_congr {s t : State} (flash : t.flash = s.flash) (fuses : t.fuses = s.fuses)
    (l : List StepResult) (n : Nat) : t.slotStatus l n = s.slotStatus l n := by
  unfold State.slotStatus
  rw [State.verifySlot_congr flash fuses]

/-- The rails of a failed boot leave the record. -/
theorem State.selfReset_railed (s : State) (x : Booting) (dies : List Nat) :
    ((s.putRec x.rec_).railsUp dies x).selfReset.Booted x.count := by
  have booted := ((s.putRec x.rec_).railsUp dies x).selfReset_booted
  rw [State.bootRec_congr ((State.railsUp_frame ..).flash rfl), State.putRec_bootRec] at booted
  exact booted

theorem State.boot_booted (s : State) (l : List StepResult) (tests : List SelfTest) :
    (s.boot l tests).Booted ((if (stepRes l 3 0).ok then s.bootRec.bootCount else 0) + 1) := by
  unfold State.boot
  extract_lets resumed old es r x0 x1 x2 pref alt first stP st0 st1 x3 x4 slot src r' x5 f x6 dies x7 x8 x9
  have kept : resumed.bootRec = s.bootRec := by
    refine State.bootRec_congr ((State.logResume_flash _).trans ?_)
    split <;> rfl
  have count : r.bootCount = (if (stepRes l 3 0).ok then s.bootRec.bootCount else 0) + 1 := by
    show old.bootCount + 1 = _
    unfold old
    rw [kept]
    split <;> rfl
  rw [← count]
  have c2 : x2.count = r.bootCount := rfl
  have c4 : x4.count = r.bootCount := by
    unfold x4
    split <;> exact c2
  have c9 : x9.count = r.bootCount := by
    unfold x9 x8 x7
    rw [foldl_same (g := Booting.count) (fun _ _ => bootOpt_count ..),
      foldl_same (g := Booting.count) (fun _ _ => bootOpt_count ..),
      foldl_same (g := Booting.count) (fun _ _ => bootStep_count ..)]
    exact c4
  have small : slot < 2 := by
    have hp : pref < 2 := Nat.mod_lt _ (by decide)
    have hf : first < 2 := by unfold first; split <;> omega
    unfold slot
    split <;> omega
  rw [← c4]
  split
  · exact State.recover_booted ..
  · split
    · exact State.recover_booted ..
    · split
      · exact State.selfReset_putRec ..
      · rw [c4, ← c9]
        split
        · exact State.selfReset_railed ..
        · exact State.release_booted _ _ _ small

theorem State.boot_recovers {s : State} {l : List StepResult} (none : ∀ n < 2, s.slotStatus l n ≠ .success)
    (tests : List SelfTest) :
    (s.boot l tests).hm.phase = .recovery ∧ (s.boot l tests).fld (mgtA 0) 19 16 = 4 := by
  unfold State.boot
  extract_lets resumed old es r x0 x1 x2 pref alt first stP st0 st1 x3 x4 slot src r' x5 f x6 dies x7 x8 x9
  have flash : resumed.flash = s.flash := by
    refine (State.logResume_flash _).trans ?_
    split <;> rfl
  have fuses : resumed.fuses = s.fuses := by
    unfold resumed State.logResume
    split
    · split <;> rfl
    · rw [State.wr_fuses]
      split <;> rfl
  have fails : ∀ n < 2, resumed.slotStatus l n ≠ .success := fun n hn => by
    rw [State.slotStatus_congr flash fuses]
    exact none n hn
  have hp : pref < 2 := Nat.mod_lt _ (by decide)
  have hf : first < 2 := by unfold first; split <;> omega
  rw [if_pos (by simp [st0, st1, fails first hf, fails (1 - first) (by omega)])]
  exact ⟨State.recover_phase .., State.recover_step _ _ _ _ _ (by decide) hp⟩

theorem exec_resetRelease {s u : State} (l : List StepResult) (tests : List SelfTest) (reset : s.hm.phase = .reset)
    (due : s.reachRef s.hm.resetDue = some u) : exec (.resetRelease l tests) s = .next (u.boot l tests) :=
  congrArg Host.Outcome.next ((if_pos reset).trans (State.atRef_some due _))

/-! ### Traps (R367, R368) -/

theorem State.crashed_eq (s : State) (p : Pilot) (cause pc : Nat) : s.crashed p cause pc =
    ((({ s with free := s.free + 1, hm := { s.hm with crash := s.crashDump p } } : State).put (mgtA 0x30) 31 31 1).event
      (mgtA 0) 3 (mgtA 0x38)).hmLog 0x0D none 0xFFFF 0xFF (leBytes 4 cause ++ leBytes 4 0 ++ leBytes 8 pc) := rfl

theorem State.crashed_hm (s : State) (p : Pilot) (cause pc : Nat) :
    (s.crashed p cause pc).hm.unlogged = ({ s.hm with crash := s.crashDump p } : Hm).unlogged := by
  rw [State.crashed_eq, (State.hmLog_logged ..).hm, State.event_hm, State.put_hm]

theorem State.crashed_flags (s : State) (p : Pilot) (cause pc : Nat) :
    (s.crashed p cause pc).flag (mgtA 0x30) 31 = true ∧ (s.crashed p cause pc).flag (mgtA 0) 3 = true := by
  rw [State.crashed_eq, (State.hmLog_logged ..).flag (by decide), (State.hmLog_logged ..).flag (by decide)]
  refine ⟨?_, State.flag_event _ (by decide) (by decide)⟩
  rw [State.flag_event_ne _ _ _ (by decide) (by decide), State.flag_put_self _ _ _ (by decide) (by decide) (by decide)]
  rfl

theorem State.crashed_crash (s : State) (p : Pilot) (cause pc : Nat) : (s.crashed p cause pc).hm.crash = s.crashDump p :=
  show (s.crashed p cause pc).hm.unlogged.crash = _ from congrArg Hm.crash (State.crashed_hm ..)

theorem State.crashed_pilots (s : State) (p : Pilot) (cause pc : Nat) :
    (s.crashed p cause pc).hm.pilots = s.hm.pilots :=
  show (s.crashed p cause pc).hm.unlogged.pilots = ({ s.hm with crash := s.crashDump p } : Hm).unlogged.pilots from congrArg Hm.pilots (State.crashed_hm ..)

/-- Pilot core `core` shows `p`. -/
def State.setPilot (s : State) (core : Nat) (p : Pilot) : State :=
  { s with hm := { s.hm with pilots := setAt s.hm.pilots core p } }

theorem State.setPilot_pilots (s : State) (core : Nat) (p : Pilot) :
    (s.setPilot core p).hm.pilots = setAt s.hm.pilots core p := rfl

theorem exec_pilotCoreTrap {s : State} {core : Nat} (hc : core < 4) (ready : s.isReady = true) (cause pc tval : Nat)
    (gpr : List Nat) : exec (.pilotCoreTrap core cause pc tval gpr) s =
      .next ((s.setPilot core ⟨1, cause, pc, tval, (gpr ++ List.replicate 32 0).take 32⟩).crashed Pilot.init cause pc) :=
  (guardI_true (by simp [hc])).trans (congrArg Host.Outcome.next (if_neg (by rw [ready]; decide)))

theorem exec_harbourmasterTrap {s : State} (on : s.isReady = true ∨ s.hm.phase = .recovery) (cause pc tval : Nat)
    (gpr : List Nat) : exec (.harbourmasterTrap cause pc tval gpr) s =
      .next (s.crashed ⟨1, cause, pc, tval, (gpr ++ List.replicate 32 0).take 32⟩ cause pc) :=
  congrArg Host.Outcome.next (if_neg (by rcases on with e | e <;> simp [e]))

/-! ### The reset input (R414) -/

theorem exec_resetInput {s : State} (rst : Bool) {ns : Nat} (long : 1000 ≤ ns)
    (on : s.hm.phase = .ready ∨ s.hm.phase = .recovery) :
    exec (.resetInput rst ns) s = .next (s.packageReset (b2n rst) .reset) := by
  refine congrArg Host.Outcome.next (if_neg ?_)
  rcases on with e | e <;> simp [e] <;> omega

/-- Settles O57: every path of a boot writes the record with the next number, and only a release is ready. -/
theorem resetsAndBoot : Obligations.ResetsAndBoot := by
  refine ⟨fun s => ⟨_, rfl, rfl, rfl, rfl, rfl, rfl, rfl, rfl⟩, fun s rst ns short => ?_, fun s rst ns long on =>
    ⟨_, exec_resetInput rst long on, State.packageReset_phase .., State.packageReset_cause .., ?_,
      State.packageReset_due _ _ _ on, State.packageReset_log .., State.packageReset_jobs .., State.packageReset_mems ..⟩,
    fun s u l tests reset due => ?_, fun s l tests no => congrArg Host.Outcome.next (if_neg no),
    fun s core cause pc tval gpr hc ready => ⟨_, exec_pilotCoreTrap hc ready cause pc tval gpr, ?_,
      State.crashed_flags ..⟩,
    fun s cause pc tval gpr on => ⟨_, exec_harbourmasterTrap on cause pc tval gpr,
      State.crashed_crash .., State.crashed_flags ..⟩⟩
  · exact congrArg Host.Outcome.next (if_pos (by simp [short]))
  · rw [State.packageReset_clk]
  · have reached := State.reachRef_fr due
    have booted := u.boot_booted l tests
    rw [State.bootRec_congr (reached.flash rfl)] at booted
    refine ⟨_, exec_resetRelease l tests reset due, booted.count, booted.ready, fun none => ?_⟩
    refine State.boot_recovers (fun n hn => ?_) tests
    rw [State.slotStatus_congr (reached.flash rfl) (reached.fuses rfl)]
    exact none n hn
  · rw [State.crashed_pilots, State.setPilot_pilots]

end Sys2Proof.Machine

/-!
The buffers that a ring posts (14_host_rings.md: R332; 07_determinism_and_replay.md: R183; 09_sensor_ingest.md: R238).
-/

namespace Sys2Proof.Machine

open Sys2Proof

/-! ### RX_POST -/

/-- Ring `r` has one more receive buffer. -/
def State.rxAdd (s : State) (r : Nat) (x : RxBuf) : State := s.setRing r { s.ring r with rx := (s.ring r).rx ++ [x] }

theorem State.rxAdd_rx (s : State) (r : Nat) (x : RxBuf) : ((s.rxAdd r x).ring r).rx = (s.ring r).rx ++ [x] := by
  unfold State.rxAdd
  rw [State.ring_setRing]

theorem State.rxAdd_desc (s : State) (r n : Nat) (x : RxBuf) : (s.rxAdd r x).desc r n = s.desc r n := by
  unfold State.desc State.rxAdd
  rw [State.ring_setRing]

theorem exec_rxPost {s : State} {r : Nat} {d : Inflight} (h : Starts s r 0x32 d) : exec (.rxPost r) s =
    .next ((s.begin r d.num).rxAdd r ⟨d.num, le d.bytes 16 8, le d.bytes 12 4 / 80, 0, 0⟩) := h.guard _

/-! ### LOG_POST (R181, R183, R187) -/

theorem Post.take_ring (p : Post) (l : List LogRec) : (p.take l).1.ring = p.ring := by
  induction l generalizing p with
  | nil => rfl
  | cons x l ih =>
    unfold Post.take
    split
    · rfl
    · exact ih _

theorem Post.take_num (p : Post) (l : List LogRec) : (p.take l).1.num = p.num := by
  induction l generalizing p with
  | nil => rfl
  | cons x l ih =>
    unfold Post.take
    split
    · rfl
    · exact ih _

/-- One waiting buffer takes what fits. -/
theorem fillPosts_one {p : Post} (h : p.full = false) (l : List LogRec) : fillPosts [p] l = ([(p.take l).1], (p.take l).2) := by
  unfold fillPosts
  dsimp only
  rw [if_neg (by rw [h]; decide)]
  split <;> rfl

/-- The shift log becomes `l`. -/
def State.setSlog (s : State) (l : SLog) : State := { s with slog := l }

/-- The log with one more buffer. -/
def SLog.post (l : SLog) (p : Post) : SLog := { l with posts := l.posts ++ [p] }

/-- The log with more records to replay. -/
def SLog.feed (l : SLog) (rs : List LogRec) : SLog := { l with play := l.play ++ rs }

/-- Nothing is full: every buffer waits. -/
theorem State.postsDone_waits {s : State} (h : ∀ p ∈ s.slog.posts, p.full = false) : s.postsDone false = s := by
  have none : s.slog.posts.filter (fun p => p.full || false) = [] :=
    List.filter_eq_nil_iff.mpr fun p hp => by rw [h p hp]; decide
  have all : s.slog.posts.filter (fun p => !(p.full || false)) = s.slog.posts :=
    List.filter_eq_self.mpr fun p hp => by rw [h p hp]; rfl
  unfold State.postsDone
  rw [none, all]
  rfl

/-- The one buffer that is full completes. -/
theorem State.postsDone_one {s : State} {p : Post} (posts : s.slog.posts = [p]) (full : p.full = true) {d : Inflight}
    (flying : s.desc p.ring p.num = some d) : s.postsDone false =
      ((s.setSlog { s.slog with posts := [] }).hostData (le d.bytes 16 8) p.got).completeR p.ring p.num .success
        p.got.length := by
  have one : s.slog.posts.filter (fun p => p.full || false) = [p] := by rw [posts]; simp [full]
  have rest : s.slog.posts.filter (fun p => !(p.full || false)) = [] := by rw [posts]; simp [full]
  unfold State.postsDone
  rw [one, rest, List.foldl_cons, List.foldl_nil]
  have same : (s.setSlog { s.slog with posts := [] }).desc p.ring p.num = some d := flying
  exact (congrArg (fun o => match o with
    | none => s.setSlog { s.slog with posts := [] }
    | some d => ((s.setSlog { s.slog with posts := [] }).hostData (le d.bytes 16 8) p.got).completeR p.ring p.num .success
      p.got.length) same :)

section LogPost

variable {s : State} {r : Nat} {d : Inflight} (h : Starts s r 0x38 d)

include h

theorem exec_logPost (data : Option Bytes) (out : le d.bytes 8 1 = 0) : exec (.logPost r data) s =
    .next (((s.begin r d.num).setSlog (if s.logMode = 3 || !s.logOn then
      (s.slog.post ⟨r, d.num, le d.bytes 12 4, [], false⟩).stream
      else s.slog.post ⟨r, d.num, le d.bytes 12 4, [], false⟩)).postsDone false) :=
  (h.guard _).trans (congrArg Host.Outcome.next (if_pos out))

theorem exec_logPost_play (b : Bytes) (feed : le d.bytes 8 1 ≠ 0) : exec (.logPost r (some b)) s =
    .next (((s.begin r d.num).setSlog (s.slog.feed (LogRec.decodeAll b.length (b.take (le d.bytes 12 4))))).complete r d.num
      .success) :=
  (h.guard _).trans (congrArg Host.Outcome.next (if_neg feed))

end LogPost

theorem State.setSlog_frame (s : State) (l : SLog) : Frame 0x1000 s (s.setSlog l) := by
  apply Frame.upd (Frame.refl _ _)
  all_goals first | exact Or.inr rfl | exact Or.inl rfl | exact Or.inl (Nat.le_refl _) | rfl

theorem State.setSlog_slog (s : State) (l : SLog) : (s.setSlog l).slog = l := rfl

/-! ### OFFLOAD_POST (R238, R239) -/

theorem Frame.strmOf {m : Nat} {s t : State} (f : Frame m s t) (h : touches m 32 = false) (st : Nat) :
    t.strm st = s.strm st := by
  unfold State.strm
  rw [f.strm h]

/-- Every sample of stream `st` that is numbered like `x` went to the host at `ref`. -/
def State.Offloaded (s : State) (st : Nat) (x : Sample) (ref : Nat) : Prop :=
  ∀ y ∈ (s.strm st).wait, y.num = x.num → y.canary = x.canary → y.phase = .offloaded (ref + 1)

theorem State.Offloaded.congr {s t : State} {st ref : Nat} {x : Sample} (h : s.Offloaded st x ref)
    (e : t.strm st = s.strm st) : t.Offloaded st x ref := by
  unfold State.Offloaded
  rw [e]
  exact h

/-- A sample that is posted goes to the host now. -/
def State.markOffloaded (s : State) (st : Nat) (x : Sample) (ref : Nat) : State :=
  s.updSample st (fun y => y.num == x.num && y.canary == x.canary) (fun y => { y with phase := .offloaded (ref + 1) })

theorem State.markOffloaded_self (s : State) (st : Nat) (x : Sample) (ref : Nat) :
    (s.markOffloaded st x ref).Offloaded st x ref := by
  intro y hy num canary
  unfold State.markOffloaded at hy
  rw [State.updSample_wait] at hy
  obtain ⟨z, rfl⟩ := exists_of_mem_mapIf hy (by simp [num, canary])
  rfl

/-- Another sample that is posted at the same time leaves it there. -/
theorem State.Offloaded.mark {s : State} {st ref : Nat} {x : Sample} (h : s.Offloaded st x ref) (st' : Nat) (x' : Sample) :
    (s.markOffloaded st' x' ref).Offloaded st x ref := by
  by_cases e : st' = st
  · subst e
    intro y hy num canary
    unfold State.markOffloaded at hy
    rw [State.updSample_wait] at hy
    obtain ⟨z, hz, made⟩ := List.mem_map.mp hy
    split at made
    · subst made
      rfl
    · subst made
      exact h z hz num canary
  · exact h.congr (State.strm_setStrm_ne _ _ e)

/-- A posted sample's record (Table 14-4). -/
def offloadRecord (st : Nat) (x : Sample) : Bytes :=
  leBytes 2 st ++ zeros 2 ++ leBytes 4 x.num ++ leBytes 4 x.stamp ++ leBytes 4 x.pkts.length ++
    leBytes 4 (packetBytes x.pkts).length ++ zeros 12 ++ packetBytes x.pkts

theorem length_offloadRecord (st : Nat) (x : Sample) : (offloadRecord st x).length = 32 + (packetBytes x.pkts).length := by
  unfold offloadRecord zeros
  simp only [List.length_append, length_leBytes, List.length_replicate]

/-- A buffer with room takes the sample. -/
def State.offloadTo (s : State) (st : Nat) (x : Sample) (r : Nat) (d : Inflight) : State :=
  let u := (s.hostData (le d.bytes 16 8) (offloadRecord st x)).complete r d.num .success
  ((u.markOffloaded st x u.clk.ref).event (ingA st 0xA0) 6 (ingA st 0xC0)).ingQueue

theorem State.offloadOne_eq {s : State} {st : Nat} {x : Sample} {r : Nat} {d : Inflight}
    (queue : (s.sampleQueue (fun p => p == .offloaded 0)).head? = some (st, x)) (buf : s.offloadBuf = some (r, d)) :
    s.offloadOne = if le d.bytes 12 4 < (offloadRecord st x).length then s.complete r d.num .lengthExceeds
      else s.offloadTo st x r d := by
  unfold State.offloadOne
  rw [queue, buf]
  rfl

theorem State.offloadOne_idle {s : State} (empty : (s.sampleQueue (fun p => p == .offloaded 0)).head? = none ∨
    s.offloadBuf = none) : s.offloadOne = s := by
  unfold State.offloadOne
  rcases empty with e | e
  · rw [e]
  · rw [e]
    split
    · next hx => cases hx
    · rfl

section OffloadTo

variable (s : State) (st : Nat) (x : Sample) (r : Nat) (d : Inflight)

theorem State.offloadTo_frame (u : State) (ref : Nat) : Frame 0x2080900100008 (u.markOffloaded st x ref)
    ((u.markOffloaded st x ref).event (ingA st 0xA0) 6 (ingA st 0xC0)).ingQueue :=
  (State.event_frame rfl (tb_ingA rfl) (tb_ingA rfl) ..).step (State.ingQueue_frame _) rfl

theorem State.posted_clk : ((s.hostData (le d.bytes 16 8) (offloadRecord st x)).complete r d.num .success).clk = s.clk :=
  ((State.complete_frame ..).clk rfl).trans ((State.hostData_frame ..).clk rfl)

theorem State.offloadTo_clk : (s.offloadTo st x r d).clk = s.clk :=
  ((State.offloadTo_frame ..).clk rfl).trans (((State.updSample_frame ..).clk rfl).trans (s.posted_clk st x r d))

/-- What a posted sample leaves of its descriptors. -/
theorem State.offloadTo_desc (q n : Nat) : (s.offloadTo st x r d).desc q n =
    ((s.hostData (le d.bytes 16 8) (offloadRecord st x)).complete r d.num .success).desc q n :=
  ((State.offloadTo_frame ..).desc rfl q n).trans ((State.updSample_frame ..).desc rfl q n)

theorem State.offloadTo_strm (e : Nat) : (s.offloadTo st x r d).strm e =
    (((s.hostData (le d.bytes 16 8) (offloadRecord st x)).complete r d.num .success).markOffloaded st x s.clk.ref).strm e := by
  rw [← s.posted_clk st x r d]
  exact ((State.event_frame (m := 0x2080800100008) rfl (tb_ingA rfl) (tb_ingA rfl) ..).step (State.ingQueue_frame _)
    rfl).strmOf rfl e

/-- The sample stands as posted. -/
theorem State.offloadTo_offloaded : (s.offloadTo st x r d).Offloaded st x s.clk.ref :=
  State.Offloaded.congr (State.markOffloaded_self _ st x _) (s.offloadTo_strm st x r d st)

end OffloadTo

/-- Posting another sample keeps the ones that are posted, and the descriptors that completed. -/
theorem State.offloadOne_keeps {s : State} {st ref q n : Nat} {x : Sample} (now : s.clk.ref = ref)
    (gone : s.desc q n = none) (posted : s.Offloaded st x ref) : s.offloadOne.clk.ref = ref ∧
      s.offloadOne.desc q n = none ∧ s.offloadOne.Offloaded st x ref := by
  cases queue : (s.sampleQueue (fun p => p == .offloaded 0)).head? with
  | none =>
    rw [State.offloadOne_idle (.inl queue)]
    exact ⟨now, gone, posted⟩
  | some e =>
    obtain ⟨st', x'⟩ := e
    cases buf : s.offloadBuf with
    | none =>
      rw [State.offloadOne_idle (.inr buf)]
      exact ⟨now, gone, posted⟩
    | some b =>
      obtain ⟨r, d⟩ := b
      rw [State.offloadOne_eq queue buf]
      split
      · refine ⟨?_, State.completeAt_desc_none gone .., posted.congr ((State.complete_frame ..).strmOf rfl st)⟩
        rw [(State.complete_frame ..).clk rfl, now]
      · refine ⟨?_, ?_, ?_⟩
        · rw [State.offloadTo_clk, now]
        · rw [State.offloadTo_desc]
          exact State.completeAt_desc_none (((State.hostData_frame ..).desc rfl q n).trans gone) ..
        · have kept : ((s.hostData (le d.bytes 16 8) (offloadRecord st' x')).complete r d.num .success).strm st = s.strm st :=
            ((State.complete_frame ..).strmOf rfl st).trans ((State.hostData_frame ..).strmOf rfl st)
          refine State.Offloaded.congr ?_ (s.offloadTo_strm st' x' r d st)
          rw [now]
          exact (posted.congr kept).mark st' x'

section OffloadPost

variable {s : State} {r : Nat} {d : Inflight} (h : Starts s r 0x39 d)

theorem State.begin_sampleQueue (s : State) (r n : Nat) (f : SamplePhase → Bool) :
    (s.begin r n).sampleQueue f = s.sampleQueue f := rfl

include h

theorem exec_offloadPost : exec (.offloadPost r) s = .next (s.begin r d.num).offloadAll := h.guard _

/-- With one sample for the host the first round posts it. -/
theorem offloadPost_one {st : Nat} {x : Sample} (queue : s.sampleQueue (fun p => p == .offloaded 0) = [(st, x)])
    (buf : (s.begin r d.num).offloadBuf = some (r, { d with begun := true }))
    (room : 32 + (packetBytes x.pkts).length ≤ le d.bytes 12 4) : exec (.offloadPost r) s =
      .next ((s.begin r d.num).offloadTo st x r { d with begun := true }).offloadOne := by
  rw [exec_offloadPost h]
  have first : ((s.begin r d.num).sampleQueue (fun p => p == .offloaded 0)).head? = some (st, x) := by
    rw [State.begin_sampleQueue, queue]
    rfl
  have posted : (s.begin r d.num).offloadOne = (s.begin r d.num).offloadTo st x r { d with begun := true } :=
    (State.offloadOne_eq first buf).trans (if_neg (by rw [length_offloadRecord]; exact Nat.not_lt.mpr room))
  unfold State.offloadAll
  rw [State.begin_sampleQueue, queue, ← posted]
  rfl

end OffloadPost

/-- Settles O21: each buffer joins what waits, and what it takes completes it. -/
theorem postedBuffers : Obligations.PostedBuffers := by
  intro s r d
  refine ⟨fun h => ⟨_, exec_rxPost h, ?_, rfl, ?_⟩, fun data h out => ?_,
    fun b h feed => ⟨_, exec_logPost_play h b feed, ?_, ?_⟩, fun h empty => ⟨_, exec_offloadPost h, ?_⟩,
    fun st x h queue buf room => ⟨_, offloadPost_one h queue buf room, ?_⟩⟩
  · rw [State.rxAdd_rx, State.begin_ring]
  · rw [State.rxAdd_desc]
    exact State.begin_desc h.desc
  · intro p
    have run := exec_logPost h data out
    refine ⟨fun mode on waits => ?_, fun ended empty => ?_⟩
    · rw [if_neg (by simp [mode, on])] at run
      have still : ∀ x ∈ ((s.begin r d.num).setSlog (s.slog.post p)).slog.posts, x.full = false := by
        intro x hx
        rcases List.mem_append.mp hx with hx | hx
        · exact waits x hx
        · rw [List.mem_singleton.mp hx]
      rw [State.postsDone_waits still] at run
      exact ⟨_, run, rfl, rfl, State.begin_desc h.desc⟩
    · have one : (s.slog.post p).stream = { s.slog with posts := [(p.take s.slog.recs).1], recs := (p.take s.slog.recs).2 } := by
        unfold SLog.stream SLog.post
        dsimp only
        rw [empty, List.nil_append, fillPosts_one rfl]
      rw [if_pos (by rcases ended with e | e <;> simp [e]), one] at run
      have flying := State.begin_desc h.desc
      cases full : (p.take s.slog.recs).1.full with
      | false =>
        rw [State.postsDone_waits (fun x hx => by rw [List.mem_singleton.mp hx, full])] at run
        exact ⟨_, run, rfl, nofun, fun _ => ⟨rfl, flying⟩⟩
      | true =>
        rw [State.postsDone_one rfl full (d := { d with begun := true })
          (by rw [Post.take_ring, Post.take_num]; exact flying), Post.take_ring, Post.take_num] at run
        refine ⟨_, run, ?_, fun _ => ⟨?_, ?_⟩, nofun⟩
        · exact congrArg SLog.recs (((State.completeR_frame ..).slog rfl).trans ((State.hostData_frame ..).slog rfl))
        · exact congrArg SLog.posts (((State.completeR_frame ..).slog rfl).trans ((State.hostData_frame ..).slog rfl))
        · refine h.completes_of ?_ ?_ ?_ (fun o => ?_) _ _
          · exact (State.hostData_frame ..).hif rfl
          · exact (State.hostData_frame ..).clk rfl
          · exact State.hostData_rd _ _ _ (by decide) (by decide)
          · exact State.hostData_rd _ _ _ (hifA_ne_ringA _ _ _) (hifA_ne_ringA _ _ _)
  · exact h.completes_now (State.setSlog_frame ..) rfl rfl rfl _ 0
  · exact congrArg SLog.play ((State.complete_frame ..).slog rfl)
  · have idle : (s.begin r d.num).offloadAll = s.begin r d.num := by
      unfold State.offloadAll
      rw [State.begin_sampleQueue, empty]
      exact State.offloadOne_idle (.inl (by rw [State.begin_sampleQueue, empty]; rfl))
    rw [idle]
    exact ⟨State.begin_desc h.desc, rfl, rfl⟩
  · have kept := State.offloadOne_keeps (s := (s.begin r d.num).offloadTo st x r { d with begun := true }) (ref := s.clk.ref)
      (q := r) (n := d.num) (st := st) (x := x) (by rw [State.offloadTo_clk, State.begin_clk])
      (by rw [State.offloadTo_desc]; exact State.completeAt_desc_self ..) (State.offloadTo_offloaded _ st x r _)
    exact kept.2

end Sys2Proof.Machine

/-!
The commit edge and the transaction time-out (15_registers_and_transactions.md: R346 to R350).
-/

namespace Sys2Proof.Machine

open Sys2Proof

/-! ### The staged values -/

/-- One staged value in its register. -/
def State.putStaged (s : State) (e : Nat × Word) : State :=
  match rowAt e.1 with
  | none => s
  | some r =>
    let old := (s.rd e.1).toNat
    s.wr e.1 (BitVec.ofNat 32 (old - (old &&& r.rw) + (e.2.toNat &&& r.rw)))

theorem State.stagedView_eq (s : State) : s.stagedView = s.cfg.staged.foldl State.putStaged s := rfl

/-- What a staged value leaves in a register follows from what stood in it. -/
theorem State.putStaged_rd_congr {s t : State} {a : Nat} (h : t.rd a = s.rd a) (e : Nat × Word) :
    (t.putStaged e).rd a = (s.putStaged e).rd a := by
  unfold State.putStaged
  split
  · exact h
  · rcases eq_or_ne e.1 a with rfl | ne
    · rw [State.rd_wr_self, State.rd_wr_self, h]
    · rw [State.rd_wr_ne _ _ ne, State.rd_wr_ne _ _ ne, h]

theorem State.stagedAll_rd_congr {s t : State} {a : Nat} (h : t.rd a = s.rd a) (l : List (Nat × Word)) :
    (l.foldl State.putStaged t).rd a = (l.foldl State.putStaged s).rd a := by
  induction l generalizing s t with
  | nil => exact h
  | cons e l ih => exact ih (State.putStaged_rd_congr h e)

theorem State.stagedView_rd_congr {s t : State} {a : Nat} (staged : t.cfg.staged = s.cfg.staged)
    (h : t.rd a = s.rd a) : t.stagedView.rd a = s.stagedView.rd a := by
  rw [State.stagedView_eq, State.stagedView_eq, staged]
  exact State.stagedAll_rd_congr h _

/-! ### The tick and its period -/

/-- `t` has the tick and the tick's configured period of `s`. -/
structure State.Timed (s t : State) : Prop where
  tick : t.clk.tick = s.clk.tick
  period : t.rd (timA 0x100) = s.rd (timA 0x100)

theorem State.Timed.refl (s : State) : s.Timed s := ⟨rfl, rfl⟩

theorem State.Timed.trans {s t u : State} (h : s.Timed t) (k : t.Timed u) : s.Timed u :=
  ⟨k.tick.trans h.tick, k.period.trans h.period⟩

theorem Frame.timed {m : Nat} {s t : State} (f : Frame m s t) (clk : touches m 4 = false)
    (tim : touches m 42 = false) : s.Timed t :=
  ⟨congrArg Clk.tick (f.clk clk), f.blk _ (by rw [blk_timA _ (by decide)]; exact tim)⟩

theorem State.domRestart_timed (s : State) (d : Nat) : s.Timed (s.domRestart d) := by
  unfold State.domRestart
  extract_lets _ u _ v
  have reset : s.Timed v := by
    unfold v
    split
    · exact ⟨rfl, rfl⟩
    · exact ⟨rfl, rfl⟩
  clear_value v
  refine reset.trans ⟨congrArg Clk.tick (State.put_clk ..), State.rd_put_ne _ _ _ _ ?_⟩
  unfold domA timA
  omega

theorem State.timApplied_timed (s old : State) : s.Timed (s.timApplied old) := by
  unfold State.timApplied
  extract_lets u
  have restarted : s.Timed u := by
    unfold u
    refine foldl_keep (State.Timed.refl s) (fun v d _ h => ?_)
    split
    · exact h.trans (v.domRestart_timed d)
    · exact h
  clear_value u
  split
  · exact ⟨restarted.tick, restarted.period⟩
  · exact restarted

theorem State.blocksApplied_timed (s old : State) (busy : Nat) (cyc : Bool) :
    s.Timed (s.blocksApplied old busy cyc) := by
  unfold State.blocksApplied
  extract_lets u v
  have first : s.Timed u :=
    ((s.timApplied_timed old).trans ((State.cycApplied_frame ..).timed rfl rfl)).trans
      ((State.ethApplied_frame ..).timed rfl rfl)
  have second : u.Timed v :=
    ((((State.canApplied_frame ..).timed rfl rfl).trans ((State.linkApplied_frame ..).timed rfl rfl)).trans
      ((State.safApplied_frame ..).timed rfl rfl)).trans ((State.tlyApplied_frame ..).timed rfl rfl)
  split
  · exact (first.trans second).trans ((State.ingQueue_frame ..).timed rfl rfl)
  · exact first.trans second

theorem State.setLocked_timed (s : State) (v : Bool) : s.Timed (s.setLocked v) :=
  ⟨congrArg Clk.tick ((State.setLocked_frame ..).clk rfl),
    (State.setLocked_rd s v (blk_timA 0x100 (by decide))).trans (State.rd_put_ne _ _ _ _ (by decide))⟩

theorem State.replayLeave_timed (s : State) : s.Timed s.replayLeave := by
  unfold State.replayLeave
  extract_lets u
  have ended : s.Timed u := by
    unfold u
    exact foldl_keep (State.Timed.refl s) (fun v j _ h => h.trans ((State.endSoon_frame ..).timed rfl rfl))
  exact (ended.trans ((State.put_frame (m := 0x10000100000) rfl rfl ..).timed rfl rfl)).trans (State.setLocked_timed ..)

theorem State.logApplied_timed (s old : State) : s.Timed (s.logApplied old) := by
  unfold State.logApplied
  extract_lets u on
  have switched : s.Timed u := by
    unfold u
    split
    · exact (State.replayStart_frame ..).timed rfl rfl
    · split
      · exact s.replayLeave_timed
      · exact State.Timed.refl s
  clear_value u
  split
  · exact switched
  · split
    · split
      · exact switched.trans ((State.logEnd_frame ..).timed rfl rfl)
      · exact switched
    · split
      · exact switched.trans ((State.logBegin_frame ..).timed rfl rfl)
      · exact switched.trans ((State.logConfig_frame ..).timed rfl rfl)

theorem State.cfgClose_timed (s : State) : s.Timed s.cfgClose :=
  ⟨congrArg Clk.tick ((State.cfgClose_frame s).clk rfl), by
    unfold State.cfgClose
    extract_lets u
    rw [State.rd_put_ne _ _ _ _ (by decide), State.rd_put_ne _ _ _ _ (by decide), State.rd_put_ne _ _ _ _ (by decide)]
    rfl⟩

/-! ### A commit that takes effect (R350) -/

/-- The state in which the blocks, the log and replay have taken the staged values. -/
def State.cfgTaken (s : State) (busy : Nat) : State :=
  let old := s.tlySyncAll
  let u := s.cfg.staged.foldl (fun s e => s.limitSet e.1) old.stagedView
  (u.blocksApplied old busy (u.cfg.staged.any (fun e => e.1 == 0x204))).logApplied old

/-- The registers show a commit that took effect at the present tick. -/
def State.cfgShown (s : State) : State := ((s.count 0x118).put 0x100 15 8 0).wr64 0x12C s.clk.tick

theorem State.cfgApply_eq (s : State) (num busy : Nat) : s.cfgApply num busy =
    ((s.cfgTaken busy).cfgShown.cfgLog .success).cfgClose.complete s.cfgOwner num .success := by
  unfold State.cfgApply State.cfgTaken State.cfgShown
  dsimp only

theorem State.limitsSet_frame (s : State) (l : List (Nat × Word)) :
    Frame 0x200 s (l.foldl (fun s e => s.limitSet e.1) s) :=
  Frame.foldl (Frame.refl _ _) (fun _ _ h => h.step (State.limitSet_frame ..) rfl)

theorem State.cfgTaken_timed (s : State) (busy : Nat) : s.tlySyncAll.stagedView.Timed (s.cfgTaken busy) := by
  unfold State.cfgTaken
  extract_lets old u
  have limits : old.stagedView.Timed u := (State.limitsSet_frame ..).timed rfl rfl
  exact (limits.trans (State.blocksApplied_timed ..)).trans (State.logApplied_timed ..)

/-- The tick of the commit is the one that begins. -/
theorem State.cfgTaken_tick (s : State) (busy : Nat) : (s.cfgTaken busy).clk.tick = s.clk.tick := by
  rw [(s.cfgTaken_timed busy).tick, (State.stagedView_frame _).clk rfl, (State.tlySyncAll_frame s).clk rfl]

/-- The staged period is in force. -/
theorem State.cfgTaken_period (s : State) (busy : Nat) :
    (s.cfgTaken busy).rd (timA 0x100) = s.stagedView.rd (timA 0x100) := by
  have synced := State.tlySyncAll_frame s
  rw [(s.cfgTaken_timed busy).period]
  exact State.stagedView_rd_congr (congrArg Cfg.staged (synced.cfg rfl)) (synced.timed rfl rfl).period

theorem State.cfgShown_frame (s : State) : Frame 0x10000100000 s s.cfgShown :=
  ((State.count_frame rfl rfl ..).trans (State.put_frame rfl rfl ..)).trans (State.wr64_frame rfl rfl rfl ..)

theorem State.cfgShown_status (s : State) : s.cfgShown.fld 0x100 15 8 = 0 := by
  unfold State.cfgShown State.wr64
  rw [State.fld_congr (State.rd_wr_ne _ _ (by decide)), State.fld_congr (State.rd_wr_ne _ _ (by decide)),
    State.fld_put_self _ _ _ (by decide) (by decide), Nat.zero_mod]

theorem State.cfgShown_tick (s : State) : s.cfgShown.rd 0x12C = BitVec.ofNat 32 s.clk.tick := by
  unfold State.cfgShown State.wr64
  rw [State.rd_wr_ne _ _ (by decide), State.rd_wr_self]

/-! ### How a commit ends -/

/-- The transaction is closed, and its descriptor `n` of ring `r` completed. -/
structure State.CfgEnded (r n : Nat) (t : State) : Prop where
  closed : t.cfgOpen = false
  staged : t.cfg.staged = []
  commitNum : t.cfg.commitNum = none
  done : t.desc r n = none

theorem State.cfgClose_ended (s : State) (r n : Nat) (st : Status) :
    State.CfgEnded r n (s.cfgClose.complete r n st) where
  closed := by rw [State.complete_cfgOpen, State.cfgClose_cfgOpen]
  staged := by rw [State.complete_cfg, State.cfgClose_staged]
  commitNum := by rw [State.complete_cfg]; rfl
  done := State.complete_desc ..

/-- What follows the staged values' effect keeps the tick and its period. -/
theorem State.cfgLogged_timed (s : State) (st st' : Status) (r n : Nat) :
    s.Timed ((s.cfgLog st).cfgClose.complete r n st') :=
  (((State.cfgLog_frame ..).timed rfl rfl).trans (State.cfgClose_timed _)).trans ((State.complete_frame ..).timed rfl rfl)

theorem State.cfgLogged_glb (s : State) (st st' : Status) (r n : Nat) {a : Nat} (h : a < 0x100000) (ne : a ≠ 0x100) :
    ((s.cfgLog st).cfgClose.complete r n st').rd a = s.rd a := by
  rw [State.complete_glb _ _ _ _ h, State.cfgClose_rd (by omega) ne, State.cfgLog_glb _ _ h]

theorem State.cfgLogged_status (s : State) (st st' : Status) (r n : Nat) :
    ((s.cfgLog st).cfgClose.complete r n st').fld 0x100 15 8 = s.fld 0x100 15 8 := by
  rw [State.fld_congr (State.complete_glb _ _ _ _ (by decide)), State.cfgClose_status,
    State.fld_congr (State.cfgLog_glb _ _ (by decide))]

section

variable (s : State) (num busy : Nat)

theorem State.cfgApply_ended : State.CfgEnded s.cfgOwner num (s.cfgApply num busy) := by
  rw [State.cfgApply_eq]
  exact State.cfgClose_ended ..

theorem State.cfgApply_status : (s.cfgApply num busy).fld 0x100 15 8 = 0 := by
  rw [State.cfgApply_eq, State.cfgLogged_status, State.cfgShown_status]

theorem State.cfgApply_tick : (s.cfgApply num busy).rd 0x12C = BitVec.ofNat 32 s.clk.tick := by
  rw [State.cfgApply_eq, State.cfgLogged_glb _ _ _ _ _ (by decide) (by decide), State.cfgShown_tick,
    State.cfgTaken_tick]

theorem State.cfgApply_periodNs : (s.cfgApply num busy).periodNs = s.stagedView.periodNs := by
  refine State.periodNs_congr ?_
  rw [State.cfgApply_eq, (State.cfgLogged_timed ..).period, ((State.cfgShown_frame _).timed rfl rfl).period,
    State.cfgTaken_period]

theorem State.cfgFail_ended (a : Option Nat) (st : Status) : State.CfgEnded s.cfgOwner num (s.cfgFail num a st) := by
  rw [State.cfgFail_eq]
  exact State.cfgClose_ended ..

theorem State.cfgFail_periodNs (a : Option Nat) (st : Status) : (s.cfgFail num a st).periodNs = s.periodNs := by
  refine State.periodNs_congr ?_
  rw [State.cfgFail_eq, (State.cfgLogged_timed ..).period, ((s.cfgNamed_frame a st).timed rfl rfl).period]

end

/-! ### The edge -/

/-- The next edge's tick has begun. -/
def State.edgeBegun (s : State) : State :=
  { s with clk := { s.clk with tick := s.clk.nextTick, lastEdge := s.clk.nextEdge } }

theorem State.commitNow_fails {s : State} {a : Nat} {st : Status} (h : s.edgeBegun.edgeCheck = some (a, st))
    (num busy : Nat) : s.commitNow num busy = s.edgeBegun.cfgFail num (some a) st := by
  unfold State.commitNow
  change (match s.edgeBegun.edgeCheck with
    | some (a, st) => s.edgeBegun.cfgFail num (some a) st
    | none => s.edgeBegun.cfgApply num busy) = _
  rw [h]

theorem State.commitNow_applies {s : State} (h : s.edgeBegun.edgeCheck = none)
    (num busy : Nat) : s.commitNow num busy = s.edgeBegun.cfgApply num busy := by
  unfold State.commitNow
  change (match s.edgeBegun.edgeCheck with
    | some (a, st) => s.edgeBegun.cfgFail num (some a) st
    | none => s.edgeBegun.cfgApply num busy) = _
  rw [h]

theorem exec_cfgCommitEdge {s u : State} {n : Nat} (waits : s.cfgWaits = some n) (live : s.clk.live = true)
    (late : s.cfg.commitT + 20000 ≤ s.clk.nextEdge) (reached : s.reach s.clk.nextEdge = some u) (busy : Nat) :
    exec (.cfgCommitEdge busy) s = .next (u.commitNow n busy) := by
  refine congrArg Host.Outcome.next ?_
  rw [waits]
  exact (if_pos (by simp [live, late])).trans (State.atT_some reached _)

/-! ### The time-out (R349) -/

/-- The open transaction is rolled back and flagged, and its owner remembered. -/
def State.cfgExpired (s : State) : State :=
  let u := s.cfgClose.event 0x100 4 0x120
  { u with cfg := { u.cfg with timedOut := some s.cfgOwner } }

/-- The harbourmaster's record of the time-out. -/
def State.cfgExpiryLog (s : State) : State :=
  s.cfgExpired.hmLog 0x03 none s.cfgOwner (s.cfgExpired.roleOf s.cfgOwner)
    (leBytes 8 s.cfgExpired.clk.tick ++ leBytes 4 s.cfg.staged.length ++ leBytes 2 Status.cfgTimeout.code)

theorem exec_cfgTimeout {s u : State} (opened : s.cfgOpen = true) (idle : s.cfgCommitting = false)
    (reached : s.reachRef (s.cfg.openRef + 10000000000) = some u) : exec .cfgTimeout s = .next u.cfgExpiryLog :=
  congrArg Host.Outcome.next ((if_pos (by simp [opened, idle])).trans (State.atRef_some reached _))

theorem State.cfgExpiryLog_frame (s : State) : Frame 0x4000000108000 s.cfgExpired s.cfgExpiryLog := State.hmLog_frame ..

theorem State.cfgExpired_cfg (s : State) :
    s.cfgExpired.cfg = { s.cfg with staged := [], commitNum := none, timedOut := some s.cfgOwner } := by
  have rolled : (s.cfgClose.event 0x100 4 0x120).cfg = { s.cfg with staged := [], commitNum := none } :=
    State.event_cfg ..
  unfold State.cfgExpired
  extract_lets u
  change { u.cfg with timedOut := some s.cfgOwner } = _
  rw [rolled]

/-- The transaction's bookkeeping is no register. -/
theorem State.rd_setCfg (s : State) (c : Cfg) (a : Nat) : ({ s with cfg := c } : State).rd a = s.rd a := rfl

theorem State.cfgExpired_rd (s : State) (a : Nat) : s.cfgExpired.rd a = (s.cfgClose.event 0x100 4 0x120).rd a := by
  unfold State.cfgExpired
  exact State.rd_setCfg ..

theorem State.cfgExpired_open (s : State) : s.cfgExpired.cfgOpen = false := by
  unfold State.cfgOpen
  rw [State.flag_congr (s.cfgExpired_rd _), State.flag_event_beside _ (by decide) (by decide) (by decide)]
  exact s.cfgClose_cfgOpen

theorem State.cfgExpired_flag (s : State) : s.cfgExpired.flag 0x100 4 = true := by
  rw [State.flag_congr (s.cfgExpired_rd _), State.flag_event _ (by decide) (by decide)]

/-- Settles O31: at the edge the staging takes effect as a whole or a fault is recorded, and the transaction ends
with its descriptor; an open transaction expires after 10 s. -/
theorem commitEdge : Obligations.CommitEdge := by
  refine ⟨?edge, ?timeout⟩
  case edge =>
    intro s u n busy waits live late reached v
    refine ⟨_, exec_cfgCommitEdge waits live late reached busy, ?_⟩
    cases found : u.edgeBegun.edgeCheck with
    | none =>
      rw [State.commitNow_applies found]
      obtain ⟨closed, staged, commitNum, done⟩ := u.edgeBegun.cfgApply_ended n busy
      refine ⟨closed, staged, commitNum, done, fun a st fault => ?_, fun _ => ⟨State.cfgApply_status .., ?_, ?_⟩⟩
      · exact absurd (found.symm.trans fault) (by simp)
      · exact (State.cfgApply_periodNs ..).trans (State.periodNs_congr (State.stagedView_rd_congr rfl rfl))
      · exact State.cfgApply_tick ..
    | some fault =>
      rw [State.commitNow_fails found]
      obtain ⟨closed, staged, commitNum, done⟩ := u.edgeBegun.cfgFail_ended n (some fault.1) fault.2
      refine ⟨closed, staged, commitNum, done, fun a st named => ?_, fun valid => ?_⟩
      · obtain rfl : fault = (a, st) := Option.some.inj (found.symm.trans named)
        exact ⟨State.cfgFail_register .., State.cfgFail_status .., State.cfgFail_periodNs ..⟩
      · exact absurd (found.symm.trans valid) (by simp)
  case timeout =>
    intro s u opened idle reached
    have logged := u.cfgExpiryLog_frame
    refine ⟨_, exec_cfgTimeout opened idle reached, ?_, ?_, ?_, ?_⟩
    · exact (State.flag_congr (logged.glb rfl (by decide)) 0).trans u.cfgExpired_open
    · rw [logged.cfg rfl, State.cfgExpired_cfg]
    · rw [logged.cfg rfl, State.cfgExpired_cfg]
    · exact (State.flag_congr (logged.glb rfl (by decide)) 4).trans u.cfgExpired_flag

end Sys2Proof.Machine
